-- ==== Sys2Proof/Word.lean ====
section
/-!
DEFINITION. Word types of the FA-7240 model. A quantity is a bit vector only where the manual adds, masks or shows it
as bits (tile registers, slots, gains, register words); counts, indices and times are naturals.
-/
namespace Sys2Proof

/-- One byte on a wire, in a queue entry or in flash. -/
abbrev Byte := BitVec 8
/-- One exchange slot, S8.24 (00 R5). -/
abbrev Slot := BitVec 32
/-- A gain, S5.27 (00 R5). -/
abbrev Gain := BitVec 32
/-- One tile data word (05 R147). -/
abbrev DWord := BitVec 32
/-- One tile program word (05 R145, 06 R182). -/
abbrev PWord := BitVec 64
/-- One tile address (05 R153). -/
abbrev TAddr := BitVec 14
/-- One tile accumulator: 16 guard bits, high 32, low 32 (05 R153, R156). -/
abbrev Acc := BitVec 80
/-- One move field of a tile word (06 R182). -/
abbrev MoveField := BitVec 24

end Sys2Proof
end

