-- ==== Sys2Proof/Syntax.lean ====
section
/-!
DEFINITION. The commands of the FA-7240 block: one constructor per row of spec/opcode_table.json, in the table's order.
The table gives no bits and no fields, so operands follow the rules of each row: host commands carry the envelope of
their descriptor (15 R451 to R453) and their decoded arguments; events carry what the rule measures or receives.
-/
namespace Sys2Proof

/-- The command ports (15 R445). -/
inductive CPort where
  | A | B | C | D
  deriving DecidableEq, Repr, Inhabited

/-- The requesters of register accesses (21 R610): PCIe functions A and B, and port D. -/
inductive Requester where
  | A | B | D
  deriving DecidableEq, Repr, Inhabited

/-- The envelope of a descriptor (15 R451 to R453): its port, FLAGS and HOST_TAG, the argument pointer where ARG_PTR is
set, and whether the engine's read of the arguments ended in an error. -/
structure Env where
  port : CPort
  flags : BitVec 16
  tag : BitVec 32
  ptrAddr : Nat := 0
  ptrLen : Nat := 0
  readErr : Bool := false
  deriving DecidableEq, Repr, Inhabited

/-- An entry of XPOINT_SET (07 R230). -/
structure XpointEntry where
  inSlot : Nat
  sum : Nat
  gain : Gain
  deriving DecidableEq, Repr

/-- An entry of RAMP_SET (07 R230): LAW 0xFF and TIME 0 name those of the unit's record. -/
structure RampEntry where
  ramp : Nat
  law : Nat
  time : Nat
  gain : Gain
  deriving DecidableEq, Repr

/-- The settings of NET_PORT_CONFIG (09 R281). -/
structure NetPortCfg where
  enable : Bool
  /-- 0 25GBASE-R, 1 10GBASE-R, 2 1000BASE-X, 3 rate search. -/
  mode : Nat
  fec : Nat
  maxFrame : Nat
  hbEn : Bool
  defaultPcp : Nat
  /-- Queue of PCP 0 to 7, 3 bits each. -/
  pcpMap : Vector Nat 8
  floodEn : Bool
  learnEn : Bool
  deriving DecidableEq, Repr, Inhabited

/-- An entry of NET_STREAM_FWD (09 R282). INGRESS 0xFF is ANY. -/
structure FwdEntry where
  streamId : Nat
  ingress : Nat
  egress : Nat
  queue : Nat
  delete : Bool
  deriving DecidableEq, Repr

/-- An entry of NET_MAC_SET (09 R282). -/
structure MacEntry where
  mac : Nat
  vid : Nat
  egress : Nat
  queue : Nat
  delete : Bool
  deriving DecidableEq, Repr

/-- An entry of AES67_BIND (10 R312). -/
structure BindEntry where
  /-- DIR: 0 transmit, 1 receive. -/
  dir : Nat
  /-- STRAND: 0 strand A, 1 strand B. -/
  strand : Nat
  streamId : Nat
  delete : Bool
  srcIp : Nat
  dstIp : Nat
  srcPort : Nat
  dstPort : Nat
  ttl : Nat
  dscp : Nat
  pt : Nat
  deriving DecidableEq, Repr

/-- DIR of a binding is receive. -/
def BindEntry.rx (e : BindEntry) : Bool := e.dir == 1
/-- STRAND of a binding is strand B. -/
def BindEntry.strandB (e : BindEntry) : Bool := e.strand == 1

/-- The settings of PTP_PORT_CONFIG (11 R340, R344). -/
structure PtpPortCfg where
  ptpEn : Bool
  mapEth : Bool
  mapIpv4 : Bool
  mapIpv6 : Bool
  p2p : Bool
  hybrid : Bool
  logSync : Int
  logAnnounce : Int
  announceTimeout : Nat
  logMinDelay : Int
  ipv4 : Nat
  ipv6 : Nat
  deriving DecidableEq, Repr, Inhabited

/-- What the phase detectors measure at an evaluation of the selector (12 R349, R357, R361): the phase error of SEL in ns and
its largest magnitude since the last evaluation; of WCLK and of REF10M the longest time without an edge (ns) and the largest
deviation of a period (ppt) since then; and each candidate's frequency offset from OSC (ppt). -/
structure RefMeas where
  err : Int
  worst : Nat
  wclkGap : Nat
  wclkDev : Nat
  ref10Gap : Nat
  ref10Dev : Nat
  offsets : Vector Int 16
  deriving DecidableEq, Repr

/-- What a target port measures of one frame (04 R138, R139, R143, R144): BCLK periods in it, BCLK periods with FS high, its
FS period in ticks of the period timer, and the FS frequency offset in 0.1 ppm. -/
structure FsMeas where
  bclk : Nat
  high : Nat
  ticks : Nat
  offset : Int
  deriving DecidableEq, Repr

/-- A frame as it reaches a lane (09 R259): destination address to the last byte before the FCS, what the receive checks
find, FEC codewords corrected and uncorrectable since the last frame, the stamping point: ns and 1/64 ns (11 R326), and the
time of the last byte in ns; a time before the stamping point stands for it. -/
structure RxFrame where
  bytes : List Byte
  preambleOk : Bool := true
  lateErr : Bool := false
  fcsOk : Bool := true
  fecCorr : Nat := 0
  fecUncorr : Nat := 0
  t : Nat
  sub : Nat := 0
  tEnd : Nat := 0
  deriving DecidableEq, Repr, Inhabited

/-- A valid heartbeat's fields (09 R253). -/
structure Heartbeat where
  node : Nat
  port : Nat
  peerRx : Bool
  seq : Nat
  lastRx : Nat
  deriving DecidableEq, Repr, Inhabited

/-- What the firmware's IEEE 1588 engine decides on a lane (11, introduction to R339): port state code of 11 R345, mean
delay and offset in 2^-16 ns, the grandmaster's clockClass, and how many entries of the lane's report FIFO it reads. -/
structure PtpFw where
  portState : Nat
  meanDelay : Nat
  offset : Int
  clockClass : Nat
  reads : Nat := 0
  deriving DecidableEq, Repr, Inhabited

/-- A time operation of a frame that the control processor sends (11 R333), with the byte offsets of its fields and, for
TURNAROUND, the sequenceId of the Pdelay_Req whose ingress stamp the firmware names. -/
inductive SendOp where
  | none
  | origin (tsOff corrOff : Nat)
  | turnaround (corrOff seq : Nat)
  deriving DecidableEq, Repr, Inhabited

/-- A header kind of a large send (09 R275). -/
inductive HdrKind where
  | raw | ipv4Udp | ipv6Udp
  deriving DecidableEq, Repr, Inhabited

/-- A report of a detector that no other row drives (14 R412): code, zone, element and the 8 bytes of DATA. -/
structure DetReport where
  code : Nat
  zone : Nat
  elem : Nat
  data : Nat
  deriving DecidableEq, Repr

/-- What reaches the fault controller from outside the other rows: a detector's report, or readings of the monitors: the 16
temperature sensors in 0.1 °C (14 R413), a rail in 0.1 mV by its place in 19 R551 (14 R414). -/
inductive DetIn where
  | report (r : DetReport)
  | temps (v : Vector Int 16)
  | rail (i v : Nat)
  deriving DecidableEq, Repr

/-- The commands and events of the block. -/
inductive Instr where
  /-- SAMPLE_BOUNDARY (R20). The media clock opens a new period and the engine carries out the ordered boundary actions and starts gather, matrix and rim reads for the new period. -/
  | sampleBoundary
  /-- SSTART (R173). A tile's gather completes and its foreground starts at ENTRY_FG. -/
  | sstart (k tick : Nat)
  /-- SCATTER_COMPLETE (R175). A tile's scatter finishes and the background resumes or the tile parks. -/
  | scatterComplete (k tick : Nat)
  /-- LANE_COMPLETE (R207). A matrix lane or the route engine has its last sum in the write half and signals completion. -/
  | laneComplete (lane tick : Nat)
  /-- PARK (R174). The park point is reached and the background task parks at the first eligible boundary. -/
  | park (k : Nat)
  /-- SCATTER_DEADLINE (R63). At the deadline tick every late element is halted and lateness is logged. -/
  | scatterDeadline (haltTick : Nat)
  /-- WINDOW_END (R51). A slack window closes, Fmax is evaluated and the AVS loop adjusts its request. -/
  | windowEnd
  /-- COLD_START_END (R175). Eight periods after the commit boundary a cold-starting tile enters WAIT. -/
  | coldStartEnd (k : Nat)
  /-- NOP (R192). Tile instruction that performs no operation. -/
  | tNop (k tick : Nat)
  /-- END (R193). Tile instruction that ends the foreground or parks the background. -/
  | tEnd (k tick : Nat)
  /-- BRA (R192). Conditional branch with two delay slots. -/
  | tBra (k tick : Nat)
  /-- CALL (R192). Conditional call that pushes the return address. -/
  | tCall (k tick : Nat)
  /-- RET (R192). Conditional return that pops the return address. -/
  | tRet (k tick : Nat)
  /-- RTE (R192). Return from an event handler, clearing IH. -/
  | tRte (k tick : Nat)
  /-- DBNZ (R192). Decrement LC and branch while nonzero. -/
  | tDbnz (k tick : Nat)
  /-- TRAP (R192). Sets the TRAP event pending. -/
  | tTrap (k tick : Nat)
  /-- REP (R195). Repeats the next instruction n times. -/
  | tRep (k tick : Nat)
  /-- DMAC (R197). Dual multiply-accumulate into an accumulator pair. -/
  | tDmac (k tick : Nat)
  /-- MPY (R196). Multiply into an accumulator. -/
  | tMpy (k tick : Nat)
  /-- MAC (R196). Multiply and add to an accumulator. -/
  | tMac (k tick : Nat)
  /-- MSU (R196). Multiply and subtract from an accumulator. -/
  | tMsu (k tick : Nat)
  /-- MPYN (R196). Negated multiply into an accumulator. -/
  | tMpyn (k tick : Nat)
  /-- TAP (R198). Filter tap with multiply-accumulate and aging write. -/
  | tTap (k tick : Nat)
  /-- MOV (R201). Data register move. -/
  | tMov (k tick : Nat)
  /-- ADD (R201). Modular add of data registers. -/
  | tAdd (k tick : Nat)
  /-- SUB (R201). Modular subtract of data registers. -/
  | tSub (k tick : Nat)
  /-- ADDS (R201). Saturating add. -/
  | tAdds (k tick : Nat)
  /-- SUBS (R201). Saturating subtract. -/
  | tSubs (k tick : Nat)
  /-- AND (R201). Bitwise AND. -/
  | tAnd (k tick : Nat)
  /-- OR (R201). Bitwise OR. -/
  | tOr (k tick : Nat)
  /-- XOR (R201). Bitwise XOR. -/
  | tXor (k tick : Nat)
  /-- NOT (R201). Bitwise complement. -/
  | tNot (k tick : Nat)
  /-- NEG (R201). Saturating negate. -/
  | tNeg (k tick : Nat)
  /-- ABS (R201). Saturating absolute value. -/
  | tAbs (k tick : Nat)
  /-- CMP (R201). Compare, setting flags only. -/
  | tCmp (k tick : Nat)
  /-- MIN (R201). Signed minimum. -/
  | tMin (k tick : Nat)
  /-- MAX (R201). Signed maximum. -/
  | tMax (k tick : Nat)
  /-- TST (R201). Test bits, setting flags only. -/
  | tTst (k tick : Nat)
  /-- LSL (R202). Logical shift left. -/
  | tLsl (k tick : Nat)
  /-- ASR (R202). Arithmetic shift right. -/
  | tAsr (k tick : Nat)
  /-- LSR (R202). Logical shift right. -/
  | tLsr (k tick : Nat)
  /-- ASLS (R202). Saturating arithmetic shift left. -/
  | tAsls (k tick : Nat)
  /-- CLR (R200). Clear an accumulator. -/
  | tClr (k tick : Nat)
  /-- MOVA (R200). Accumulator move. -/
  | tMova (k tick : Nat)
  /-- ADDA (R200). Saturating accumulator add. -/
  | tAdda (k tick : Nat)
  /-- SUBA (R200). Saturating accumulator subtract. -/
  | tSuba (k tick : Nat)
  /-- NEGA (R200). Saturating accumulator negate. -/
  | tNega (k tick : Nat)
  /-- ABSA (R200). Saturating accumulator absolute value. -/
  | tAbsa (k tick : Nat)
  /-- ASHA (R200). Accumulator arithmetic shift. -/
  | tAsha (k tick : Nat)
  /-- EXT (R199). Extract an accumulator to 32 bits under RND. -/
  | tExt (k tick : Nat)
  /-- LDA (R200). Load an accumulator from a data register at an extraction point. -/
  | tLda (k tick : Nat)
  /-- CMPA (R200). Compare accumulators, setting flags only. -/
  | tCmpa (k tick : Nat)
  /-- MOVC (R203). Move between a data register and a control register. -/
  | tMovc (k tick : Nat)
  /-- LDIW (R204). Load a 32-bit immediate into a register. -/
  | tLdiw (k tick : Nat)
  /-- DITH (R205). Write a dither draw from seed, media time and generator index. -/
  | tDith (k tick : Nat)
  /-- UNDEFINED_INSTRUCTION (R183). An undefined operation or move field executes as no-operation and logs ILLEGAL. -/
  | undefinedInstruction (k tick : Nat)
  /-- EVENT_TAKEN (R171). A pending unmasked SAT or TRAP event redirects fetch to its handler. -/
  | eventTaken (k : Nat)
  /-- STRUCT_LOAD (R103). Command that reads and checks a full image for SHADOW. -/
  | structLoad (e : Env) (source addr len : Nat)
  /-- STRUCT_PATCH (R101). Command that checks a patch against SHADOW. -/
  | structPatch (e : Env) (source addr len : Nat)
  /-- STRUCT_COPY (R103). Command that copies LIVE into SHADOW. -/
  | structCopy (e : Env)
  /-- STRUCT_COMMIT (R105). Command that arms a plane swap at a boundary. -/
  | structCommit (e : Env) (boundary digest8 : Nat)
  /-- STRUCT_CANCEL (R119). Command that cancels a load, patch or commit. -/
  | structCancel (e : Env) (handle : Nat)
  /-- STRUCT_DISCARD (R103). Command that empties SHADOW. -/
  | structDiscard (e : Env)
  /-- STRUCT_STATUS (R118). Command that reports plane states and digests. -/
  | structStatus (e : Env)
  /-- STRUCT_BOOT_WRITE (R115). Command that writes a checked image to the older boot-structure copy. -/
  | structBootWrite (e : Env) (addr len : Nat) (image : List Byte)
  /-- STRUCT_KEY_SET (R117). Command that installs, replaces or deletes the structure-signing key. -/
  | structKeySet (e : Env) (keyId addr : Nat) (key : List Byte) (require : Bool)
  /-- IMAGE_CHECK_COMPLETE (R103). The load checks of an image finish and SHADOW returns or moves to WRITING. -/
  | imageCheckComplete (image : List Byte)
  /-- IMAGE_WRITE_COMPLETE (R103). Writing or copying into SHADOW finishes and SHADOW becomes READY. -/
  | imageWriteComplete (image : List Byte)
  /-- COMMIT_LOCK_POINT (R105). At 32 periods before BOUNDARY the commit checks are repeated and the commit locks or fails. -/
  | commitLockPoint
  /-- PATH_LATENCY (R135). Command that reports recorded path latencies. -/
  | pathLatency (e : Env) (plane mode path srcKind srcIndex dstKind dstIndex : Nat)
  /-- PATH_LATENCY_DUMP (R136). Command that dumps the LATENCY records to a buffer. -/
  | pathLatencyDump (e : Env) (plane addr len : Nat)
  /-- SLOT_PEEK (R137). Command that reads one slot of the read half. -/
  | slotPeek (e : Env) (slot : Nat)
  /-- SAPORT_STATUS (R144). Command that reports a serial port's state and counters. -/
  | saportStatus (e : Env) (port : Nat) (clear : Bool)
  /-- TILE_REPORT (R181). Command that copies report-window words during parked intervals. -/
  | tileReport (e : Env) (k first count addr : Nat)
  /-- XPOINT_SET (R224). Command that sets crosspoint targets directly or stages them. -/
  | xpointSet (e : Env) (mode group count addr : Nat) (data : List Byte)
  /-- RAMP_SET (R230). Command that sets ramp unit targets directly or stages them. -/
  | rampSet (e : Env) (mode group count addr : Nat) (data : List Byte)
  /-- TILE_PARAM_WRITE (R228). Command that writes tile X or Y words through the load port. -/
  | tileParamWrite (e : Env) (mode group k mem addr count buf : Nat) (data : List Byte)
  /-- SAFE_APPLY (R226). Command that arms a safe-load group for a boundary. -/
  | safeApply (e : Env) (group boundary : Nat)
  /-- SAFE_DISCARD (R225). Command that drops a safe-load group's entries. -/
  | safeDiscard (e : Env) (group : Nat) (force : Bool)
  /-- SAFE_STATUS (R229). Command that reports a safe-load group. -/
  | safeStatus (e : Env) (group : Nat)
  /-- SAFE_LOCK_POINT (R225). Eight periods before BOUNDARY an armed safe-load group locks. -/
  | safeLockPoint (group : Nat)
  /-- XPOINT_GET (R231). Command that reports a crosspoint's gains and state. -/
  | xpointGet (e : Env) (plane inSlot sum : Nat)
  /-- SUM_STATUS (R231). Command that reports a sum output's state and counters. -/
  | sumStatus (e : Env) (sum : Nat) (clear : Bool)
  /-- RAMP_STATUS (R231). Command that reports a ramp unit. -/
  | rampStatus (e : Env) (ramp : Nat)
  /-- DELAY_STATUS (R247). Command that reports delay-memory state and counters. -/
  | delayStatus (e : Env) (clear : Bool)
  /-- DELAY_LINE_STATUS (R247). Command that reports one delay line. -/
  | delayLineStatus (e : Env) (plane line : Nat)
  /-- DELAY_MEM_CONFIG (R246). Command that sets the data rate and scrub time in CONFIG. -/
  | delayMemConfig (e : Env) (rate scrubMin : Nat)
  /-- DELAY_MEM_RETRAIN (R243). Command that restarts training of a FAILED or DOWN memory. -/
  | delayMemRetrain (e : Env)
  /-- DELAY_BLOCK_READ (R244). A fetched delay-line block returns from memory and errors are corrected or held. -/
  | delayBlockRead (line block due : Nat) (errs : List (Nat × Bool)) (late : Bool) (t : Nat)
  /-- DELAY_SCRUB_READ (R242). The scrub walker reads and corrects one block of delay memory. -/
  | delayScrubRead (block : Nat) (errs : List (Nat × Bool))
  /-- DM_TRAINING_DONE (R243). Delay-memory training ends in UP, a retry or FAILED. -/
  | dmTrainingDone (mr8 : Option Nat) (pass : Bool) (step : Nat)
  /-- DM_TRAINING_RETRY (R243). 100 ms after a failed attempt, training is retried. -/
  | dmTrainingRetry
  /-- DM_DOWN_TIMER (R243). 100 ms after entering DOWN the memory retrains. -/
  | dmDownTimer
  /-- DM_MR4_READ (R238). The controller reads MR4 every 32 ms and sets the refresh rate. -/
  | dmMr4Read (refresh : Nat) (hot : Bool)
  /-- DM_TRACKING_READ (R238). The WCK2DQ oscillators are read every 100 ms and timing adjusted. -/
  | dmTrackingRead
  /-- DM_PLL_LOCK_LOSS (R245). Loss of lock in the memory PLL or a PHY DLL. -/
  | dmPllLockLoss
  /-- NET_PORT_CONFIG (R283). Command that sets a lane's mode and options. -/
  | netPortConfig (e : Env) (lane : Nat) (cfg : NetPortCfg) (persist : Bool) (revertS : Nat) (confirm : Bool)
  /-- NET_QUEUE_CONFIG (R270). Command that sets a queue's reserve and ceiling. -/
  | netQueueConfig (e : Env) (port queue rsv qmax : Nat) (persist : Bool)
  /-- NET_SWITCH_CONFIG (R283). Command that sets the EtherType, heartbeat address, node MAC and ageing. -/
  | netSwitchConfig (e : Env) (etherType hbDa nodeMac ageS : Nat) (persist : Bool)
  /-- NET_STREAM_FWD (R282). Command that sets or deletes stream-table entries. -/
  | netStreamFwd (e : Env) (count addr : Nat) (data : List Byte)
  /-- NET_MAC_SET (R282). Command that sets or deletes static MAC-table entries. -/
  | netMacSet (e : Env) (count addr : Nat) (data : List Byte)
  /-- NET_FRR_SET (R268). Command that sets a lane's backup lane and restore time. -/
  | netFrrSet (e : Env) (lane backup restoreMs : Nat) (persist : Bool)
  /-- NET_FWD_GET (R281). Command that looks up a forwarding entry. -/
  | netFwdGet (e : Env) (kind key sub : Nat)
  /-- NET_COUNTERS (R276). Command that reads and optionally clears switch counters. -/
  | netCounters (e : Env) (port : Nat) (clear : Bool) (first addr : Nat)
  /-- NET_REVERT (R283). REVERT_S expires without confirmation and the old lane setting is restored. -/
  | netRevert (lane t : Nat)
  /-- RATE_SEARCH_DWELL (R251). The rate search moves to the next mode after its dwell or after 2 s of lost lock. -/
  | rateSearchDwell (lane t : Nat)
  /-- PCS_LOCK_HELD (R256). PCS lock has held for 1 ms and the lane goes UP or PROBING. -/
  | pcsLockHeld (lane t : Nat)
  /-- PCS_LOCK_LOST (R256). The PCS loses lock and the lane goes DOWN. -/
  | pcsLockLost (lane t : Nat)
  /-- HEARTBEAT_TX (R254). A lane sends its heartbeat at the next gap after 3.96 µs. -/
  | heartbeatTx (lane t : Nat)
  /-- HEARTBEAT_RX (R255). A valid heartbeat is consumed and the miss run reset. -/
  | heartbeatRx (lane : Nat) (hb : Heartbeat) (t : Nat)
  /-- HEARTBEAT_MISS (R255). The 4.00 µs heartbeat interval timer expires and a miss is counted. -/
  | heartbeatMiss (lane t : Nat)
  /-- DAMPED_CLEAR (R258). DAMPED clears after 10 s without an exit from UP. -/
  | dampedClear (lane t : Nat)
  /-- FRR_RESTORE (R268). A lane UP for RESTORE_MS ends its fast reroute. -/
  | frrRestore (lane t : Nat)
  /-- MAC_AGE_OUT (R264). A learned MAC entry not refreshed for AGE_S is removed. -/
  | macAgeOut (mac vid t : Nat)
  /-- FRAME_RX (R261). A received frame passes or fails the MAC checks and is classified and forwarded. -/
  | frameRx (lane : Nat) (f : RxFrame)
  /-- FRAME_TX_DONE (R336). A frame's last byte leaves and a report is produced when asked. -/
  | frameTxDone (lane t sub : Nat) (ecc : Option (Nat × Bool))
  /-- LARGE_SEND (R275). A large send is segmented into frames with rewritten headers. -/
  | largeSend (lane queue mss : Nat) (kind : HdrKind) (header payload : List Byte)
  /-- CP_FRAME_SEND (R333). The control processor sends a frame with a time operation or REPORT. -/
  | cpFrameSend (lane queue : Nat) (bytes : List Byte) (op : SendOp) (report : Option Nat)
  /-- STREAM_FRAME_RX (R297). A stream frame copy reaches PE, is checked and merged. -/
  | streamFrameRx
  /-- BELAY_COMPARE_EXPIRY (R303). 64 periods pass without the primary's frame and the result is missing. -/
  | belayCompareExpiry (streamId media : Nat)
  /-- AES67_PACKET_RX (R311). A matching AES67 packet is copied to PE and merged. -/
  | aes67PacketRx
  /-- CMD_FRAME_RX (R471). A CMD frame is authenticated and its descriptors accepted. -/
  | cmdFrameRx
  /-- CMD_REPLY_FLUSH (R472). Held port C entries are sent in a CMD_REPLY frame within 10 µs. -/
  | cmdReplyFlush (t : Nat)
  /-- STREAM_STATUS (R315). Command that reports a stream's counters. -/
  | streamStatus (e : Env) (dir id : Nat) (clear : Bool)
  /-- BELAY_STATUS (R315). Command that reports belay state. -/
  | belayStatus (e : Env) (clear : Bool)
  /-- AES67_BIND (R312). Command that sets AES67 bindings. -/
  | aes67Bind (e : Env) (count addr : Nat) (data : List Byte)
  /-- PTP_MESSAGE_RX (R331). An identified PTP message is stamped and handled by PTP mode. -/
  | ptpMessageRx (lane : Nat) (f : RxFrame) (fw : Option PtpFw)
  /-- TIME_GET (R344). Command that returns a timebase stamp and boundary stamp. -/
  | timeGet (e : Env)
  /-- PTP_CONFIG (R339). Command that sets PTP mode, profile and domain. -/
  | ptpConfig (e : Env) (mode profile domain prio1 prio2 : Nat) (twoStep persist : Bool)
  /-- PTP_PORT_CONFIG (R340). Command that sets a lane's PTP settings. -/
  | ptpPortConfig (e : Env) (lane : Nat) (cfg : PtpPortCfg) (persist : Bool)
  /-- TS_CAL_SET (R328). Command that sets a lane's calibration offsets. -/
  | tsCalSet (e : Env) (lane mode calRx calTx : Nat) (persist : Bool)
  /-- PTP_STATUS (R345). Command that reports a lane's PTP state and counters. -/
  | ptpStatus (e : Env) (lane : Nat) (clear : Bool)
  /-- PPS_OUT_CONFIG (R322). Command that sets PPS_OUT enable and width. -/
  | ppsOutConfig (e : Env) (en : Bool) (width : Nat) (persist : Bool)
  /-- TS_SNAP (R324). Writing 1 to SNAP latches a timebase stamp into the snapshot registers. -/
  | tsSnap (f : Requester) (t : Nat)
  /-- PPS_OUT_EDGE (R322). PPS_OUT rises when NS passes through 0. -/
  | ppsOutEdge (t : Nat)
  /-- TS_CAL_TIMEOUT (R343). Phase compensation fails to complete within 10 ms of lock. -/
  | tsCalTimeout (lane t : Nat)
  /-- PTP_SERVO_UPDATE (R362). A PTP phase measurement feeds the DPLL and may step the timebase. -/
  | ptpServoUpdate (lane : Nat) (errNs : Int) (t : Nat)
  /-- PPS_IN_EDGE (R348). A PPS_IN edge gives phase within the second to REF10M. -/
  | ppsInEdge (errNs : Int) (devNs t : Nat)
  /-- REF_EVALUATION (R357). The 1 ms selector evaluation updates candidates, selection and media rate. -/
  | refEvaluation (m : RefMeas) (t : Nat)
  /-- REF_WINDOW_END (R352). A 10 s or 100 s measurement window completes and drift is judged. -/
  | refWindowEnd (long : Bool) (offsets : Vector Int 16) (t : Nat)
  /-- ESMC_PDU_TX (R369). An ESMC information PDU is sent once per second. -/
  | esmcPduTx (lane t : Nat)
  /-- REF_STATUS_GET (R375). Command that reports selector state. -/
  | refStatusGet (e : Env) (clear : Bool)
  /-- REF_CAND_CONFIG (R375). Command that sets lockout and level of a candidate. -/
  | refCandConfig (e : Env) (cand : Nat) (lockout : Bool) (rxQl : Nat) (persist : Bool)
  /-- REF_OSC_TRIM_SET (R375). Command that sets OSC_TRIM. -/
  | refOscTrimSet (e : Env) (trim : Int) (persist : Bool)
  /-- MEDIA_REALIGN (R364). Command that clears MEDIA_ALIGNED for a new alignment. -/
  | mediaRealign (e : Env)
  /-- MCLK_CONFIG (R368). Command that sets the media clock outputs. -/
  | mclkConfig (e : Env) (wclkEn : Bool) (mult0 mult1 : Nat) (persist : Bool)
  /-- ESMC_CONFIG (R369). Command that sets SyncE and ESMC transmission of a lane. -/
  | esmcConfig (e : Env) (lane : Nat) (synceTx esmcTx persist : Bool)
  /-- MODULATOR_TICK (R383). A control tick samples the converters and computes the modulation. -/
  | modulatorTick (n : Nat) (cs vs : Vector Int 32) (rs scr : Vector Int 4) (t : Nat)
  /-- TRIP_QUALIFY (R390). A TRIP comparator crossing qualifies and the channel enters safe state. -/
  | tripQualify (ch peak t : Nat)
  /-- LIMIT_QUALIFY (R389). A LIMIT crossing ends the present switching half-cycle early. -/
  | limitQualify (ch : Nat) (pos : Bool) (t : Nat)
  /-- SAFE_N_FALL (R391). A qualified SAFE_N low puts every channel in safe state. -/
  | safeNFall (t : Nat)
  /-- SAFE_N_RELEASE (R391). SAFE_N high for 10 ms releases its hold cause. -/
  | safeNRelease (t : Nat)
  /-- HICCUP_EXPIRY (R397). A tripped channel's hiccup timer expires. -/
  | hiccupExpiry (ch t : Nat)
  /-- SOFT_START_END (R399). The last soft-start period puts the channel in RUN. -/
  | softStartEnd (ch : Nat)
  /-- STOP_RAMP_END (R399). The HOST stop ramp ends and the gates go low. -/
  | stopRampEnd (ch : Nat)
  /-- DC_BLOCK_END (R395). A DC detection block ends and the DC count advances or latches. -/
  | dcBlockEnd (ch : Nat)
  /-- RAIL_OUT_OF_LIMITS (R394). A rail lies outside its limits for 10 µs and its channels are held. -/
  | railOutOfLimits (rail reading t : Nat)
  /-- RAIL_WITHIN_LIMITS (R394). A rail stays within limits for 100 ms and its hold is released. -/
  | railWithinLimits (rail reading t : Nat)
  /-- CONVERTER_SELF_CHECK (R387). A sense converter checks itself against the reference every 10 ms. -/
  | converterSelfCheck (conv : Nat) (pass : Bool) (t : Nat)
  /-- CAL_SWEEP (R546). A calibration sweep trims each converter through a reserve. -/
  | calSweep (trims : Vector (Option (Int × Int)) 68) (t : Nat)
  /-- PSTAGE_STATUS (R407). Command that reports a channel. -/
  | pstageStatus (e : Env) (ch : Nat) (clear : Bool)
  /-- PSTAGE_CLEAR (R407). Command that takes channels out of LATCHED. -/
  | pstageClear (e : Env) (mask : BitVec 32)
  /-- PSTAGE_STOP (R407). Command that sets HOST and ramps channels off. -/
  | pstageStop (e : Env) (mask : BitVec 32)
  /-- PSTAGE_START (R407). Command that clears HOST. -/
  | pstageStart (e : Env) (mask : BitVec 32)
  /-- PSTAGE_RAIL_CONFIG (R393). Command that sets a rail's scaling and limits. -/
  | pstageRailConfig (e : Env) (rail rsFs nom uv ov : Nat) (persist : Bool)
  /-- PSTAGE_LOOP_CONFIG (R406). Command that sets a channel's loop coefficients. -/
  | pstageLoopConfig (e : Env) (ch kp ki vsFs : Nat) (persist : Bool)
  /-- FAULT_DECISION (R418). The fault controller decides on a detector report and opens, merges or escalates an episode. -/
  | faultDecision (ext : Option DetIn) (t : Nat)
  /-- CONDITION_CLEARED (R418). The last condition of an episode ends and it enters SETTLING. -/
  | conditionCleared (ext : Option DetIn) (t : Nat)
  /-- SETTLE_TIMER_EXPIRY (R419). SETTLE_MS passes and the episode closes. -/
  | settleTimerExpiry (slot t : Nat)
  /-- RECOVERY_START (R420). After the backoff an episode starts its zone's recovery. -/
  | recoveryStart (slot t : Nat)
  /-- RECOVERY_SUCCESS (R428). A recovery meets its criterion and the reaction is released. -/
  | recoverySuccess (slot t : Nat)
  /-- RECOVERY_TIMEOUT (R428). A recovery's timeout expires and the attempt fails or migration starts. -/
  | recoveryTimeout (slot t : Nat)
  /-- FAULT_N_PULSE_END (R431). The pulse width ends and FAULT_N follows HOLD_MODE. -/
  | faultNPulseEnd (t : Nat)
  /-- OVERFLOW_CLEAR (R426). At most 12 episodes open for SETTLE_MS clears OVERFLOW. -/
  | overflowClear (t : Nat)
  /-- WATCHDOG_EXPIRY (R429). The watchdog expires and PD1 CTRL restarts. -/
  | watchdogExpiry (pc t : Nat)
  /-- FAULT_STATUS (R442). Command that reports the fault summary. -/
  | faultStatus (e : Env)
  /-- FAULT_EPISODE_GET (R442). Command that reports one episode. -/
  | faultEpisodeGet (e : Env) (id slot : Nat)
  /-- FAULT_LOG_READ (R443). Command that reads fault log entries. -/
  | faultLogRead (e : Env) (start count : Nat) (consume : Bool) (addr : Nat)
  /-- FAULT_CLEAR (R418). Command that retries or closes an episode. -/
  | faultClear (e : Env) (id action : Nat)
  /-- FAULT_ACK (R443). Command that acknowledges episodes. -/
  | faultAck (e : Env) (id : Nat)
  /-- FAULT_PIN_CONFIG (R442). Command that sets FAULT_N behaviour and SETTLE_MS. -/
  | faultPinConfig (e : Env) (stretch pinSev holdMode : Nat) (force : Bool) (settleMs : Nat) (persist : Bool)
  /-- FAULT_INJECT (R443). Command that reports a fault as its detector would. -/
  | faultInject (e : Env) (zone detector data : Nat)
  /-- CMD_SQ_TAIL (R455). Submission doorbell write that makes descriptors available. -/
  | cmdSqTail (f : Requester) (tail : Nat)
  /-- CMD_CQ_HEAD (R457). Completion doorbell write that frees entries and lets waiting entries be written. -/
  | cmdCqHead (f : Requester) (head : Nat)
  /-- PORT_ENABLE (R462). ENABLE written 1 starts the port or sets SETUP_ERR. -/
  | portEnable (f : Requester)
  /-- PORT_DISABLE (R462). ENABLE written 0 drains the port. -/
  | portDisable (f : Requester)
  /-- PCIE_DMA_ERROR (R462). A read times out or errors, or posted writes stall, and the port enters ERROR. -/
  | pcieDmaError (f : Requester) (ring index : Nat) (handle : Option Nat)
  /-- PCIE_LINK_DOWN (R462). The PCIe link goes down or a function-level reset arrives and the port drains. -/
  | pcieLinkDown (f : Requester) (flr : Bool)
  /-- PCIE_PERST (R569). PERST resets the port's PCIe controller. -/
  | pciePerst (f : Requester)
  /-- CQ_FULL_TIMEOUT (R482). A completion queue full for 1 s sets CQ_FULL_SEEN. -/
  | cqFullTimeout (f : Requester) (t : Nat)
  /-- DEV_IDENTITY (R483). Command that reports the part identity. -/
  | devIdentity (e : Env)
  /-- DEV_NODE_ID_SET (R484). Command that sets the node ID. -/
  | devNodeIdSet (e : Env) (node : Nat) (persist : Bool)
  /-- CMD_ABORT (R484). Command that aborts a command not yet started. -/
  | cmdAbort (e : Env) (handle : Nat)
  /-- CMD_PORT_PRIV_SET (R483). Command that sets a port's masks. -/
  | cmdPortPrivSet (e : Env) (port groups privs : Nat) (persist : Bool)
  /-- CMD_KEY_SET (R484). Command that sets or deletes a port C key. -/
  | cmdKeySet (e : Env) (keyId addr : Nat) (key : List Byte) (groups privs : Nat)
  /-- CMD_PORT_STATUS (R486). Command that reports a port's counters. -/
  | cmdPortStatus (e : Env) (port : Nat) (clear : Bool)
  /-- CMD_ECHO (R483). Command that returns its bytes. -/
  | cmdEcho (e : Env) (bytes : List Byte)
  /-- TW_START (R489). A START with a matching address opens a two-wire transaction. -/
  | twStart (addr : Nat) (read : Bool) (t : Nat)
  /-- TW_BYTE_WRITE (R492). A written byte is committed at its acknowledge. -/
  | twByteWrite (b : Byte) (t : Nat)
  /-- TW_BYTE_READ (R497). A byte is read from the pointer, latching its word. -/
  | twByteRead (ack : Bool) (t : Nat)
  /-- TW_STOP (R499). A STOP ends the transaction and held doorbells take effect. -/
  | twStop (t : Nat)
  /-- TW_FRAMING_ERROR (R492). A START or STOP inside a byte discards it and sets FRAMING. -/
  | twFramingError (pos kind t : Nat)
  /-- TW_SCL_LOW (R494). SCL low for 25 ms resets the target to idle. -/
  | twSclLow (t : Nat)
  /-- TW_SDA_LOW (R494). SDA low for 25 ms resets the target to idle. -/
  | twSdaLow (t : Nat)
  /-- TW_SAFE_SEQ_EXPIRY (R500). 10 ms pass before the force-safe sequence completes. -/
  | twSafeSeqExpiry (t : Nat)
  /-- FW_STATUS (R530). Command that reports boot and staging state. -/
  | fwStatus (e : Env)
  /-- FW_STAGE (R516). Command that stages a firmware image. -/
  | fwStage (e : Env) (addr len : Nat) (resume : Bool) (image : List Byte)
  /-- FW_STAGE_DISCARD (R531). Command that empties STAGE. -/
  | fwStageDiscard (e : Env)
  /-- FW_ACTIVATE (R518). Command that copies the staged image to the other slot and starts a trial. -/
  | fwActivate (e : Env) (windowS : Nat) (requireHost : Bool)
  /-- FW_ACTIVATE_COPY_DONE (R519). The slot copy ends and the trial boot record is written. -/
  | fwActivateCopyDone (ok : Bool) (t : Nat)
  /-- UCODE_RELOAD (R519). At t3 the control processor reloads through the boot ROM. -/
  | ucodeReload (t : Nat)
  /-- FW_CONFIRM (R531). Command that records host consent. -/
  | fwConfirm (e : Env)
  /-- FW_REVERT (R524). Command that falls back to the previous slot. -/
  | fwRevert (e : Env)
  /-- FLASH_LOG_READ (R531). Command that reads the log copy in flash. -/
  | flashLogRead (e : Env) (start count addr : Nat)
  /-- TRIAL_HEALTH_EVALUATION (R522). The trial firmware evaluates its health once per second and may confirm. -/
  | trialHealthEvaluation (other : Bool) (t : Nat)
  /-- TRIAL_TIMER_EXPIRY (R522). The trial timer expires and PD1 restarts for fallback. -/
  | trialTimerExpiry (t : Nat)
  /-- FIRMWARE_BOOT (R510). The boot ROM runs the boot stages after a reset release. -/
  | firmwareBoot (spi : Bool) (t : Nat)
  /-- FLASH_LOG_COPY (R528). The firmware copies log entries into the LOG area. -/
  | flashLogCopy (t : Nat)
  /-- HEALTH_STATUS (R549). Command that reports health. -/
  | healthStatus (e : Env)
  /-- AGEING_REPORT (R549). Command that dumps ageing data. -/
  | ageingReport (e : Env) (addr : Nat)
  /-- SELFTEST_TILE (R542). Command that tests a tile, migrating its work first. -/
  | selftestTile (e : Env) (k : Nat)
  /-- SELFTEST_RESULT (R549). Command that reports a held test request. -/
  | selftestResult (e : Env) (queue : Nat)
  /-- SELFTEST_CANCEL (R549). Command that drops a request or aborts a test. -/
  | selftestCancel (e : Env) (byTile : Bool) (id : Nat)
  /-- TILE_MIGRATE (R538). Command that migrates a carrier's work onto the spare. -/
  | tileMigrate (e : Env) (k : Nat)
  /-- MAINT_ENTER (R544). Command that enters MAINTENANCE. -/
  | maintEnter (e : Env)
  /-- MAINT_EXIT (R544). Command that leaves MAINTENANCE. -/
  | maintExit (e : Env)
  /-- SELFTEST_FULL (R545). Command that tests the parts its mask names. -/
  | selftestFull (e : Env) (mask : Nat)
  /-- CAL_CONFIG (R546). Command that sets CAL_INTERVAL. -/
  | calConfig (e : Env) (interval : Nat) (persist : Bool)
  /-- MIGRATION_PASS1_END (R538). Pass 1 ends and write mirroring starts. -/
  | migrationPass1End (q : Nat)
  /-- MIGRATION_PASS2_END (R538). Pass 2 ends and the switch is due at the next boundary. -/
  | migrationPass2End (q : Nat)
  /-- SELFTEST_END (R542). A tile's 40 ms test ends in pass or fail. -/
  | selftestEnd (q : Nat) (mismatch : Bool) (uncorr corr itimePs : Nat)
  /-- AGEING_MEASUREMENT (R533). Every 10 minutes the ring pairs are measured. -/
  | ageingMeasurement (freqs : Vector (Nat × Nat) 56) (eyes : Vector (Option Nat) 8)
  /-- STRESS_ACCUMULATE (R534). Each second stress hours advance. -/
  | stressAccumulate (temps : Vector Int 16)
  /-- DAILY_HEALTH (R535). Once per 24 h tile ageing is stored and indicators graded. -/
  | dailyHealth (eolLow : Nat)
  /-- SOFT_RESET (R565). DEV_RESET kind 1 restarts PD1 CTRL. -/
  | softReset (e : Env)
  /-- ENGINE_RESTART (R566). DEV_RESET kind 2 mutes outputs and restarts the interior. -/
  | engineRestart (e : Env)
  /-- CHIP_RESET (R574). DEV_RESET kind 3 resets PD1 to PD13. -/
  | chipReset (e : Env)
  /-- DEV_DOMAIN_SET (R574). Command that switches power domains. -/
  | devDomainSet (e : Env) (onMask offMask : Nat) (persist : Bool)
  /-- DEV_POWER_STATUS (R574). Command that reports reset, domain and clock status. -/
  | devPowerStatus (e : Env) (clear : Bool)
  /-- DOMAIN_RAMP_ON_DONE (R559). A domain's supply settles and the domain is ON. -/
  | domainRampOnDone (d t : Nat)
  /-- DOMAIN_RAMP_ON_FAIL (R559). A domain fails to ramp within 200 µs. -/
  | domainRampOnFail (d t : Nat)
  /-- DOMAIN_RAMP_OFF_DONE (R559). 20 µs after switch-off the domain is OFF. -/
  | domainRampOffDone (d t : Nat)
  /-- POWER_ON_RESET (R562). A rail below its POR threshold resets everything. -/
  | powerOnReset (rail v twa t : Nat)
  /-- RESET_N_FALL (R564). RESET_N low resets PD1 to PD13 and drives gates low. -/
  | resetNFall (t : Nat)
  /-- RESET_N_RISE (R564). RESET_N release starts boot. -/
  | resetNRise (t : Nat)
  /-- OSC_IN_DETECTED (R567). OSC_IN is identified and the rest of the engine leaves reset. -/
  | oscInDetected (freq t : Nat)
  /-- OSC_IN_LOSS (R568). OSC_IN stops or moves for 10 µs and BOUNDARY is reported. -/
  | oscInLoss (t : Nat)
  /-- AVS_EN_SET (R57). EN written 1 moves the AVS loop to HOLD at VMAX_STEP. -/
  | avsEnSet (f : Option Requester) (t : Nat)
  /-- AVS_EN_CLEAR (R57). EN written 0 moves the loop to OFF. -/
  | avsEnClear (f : Option Requester) (t : Nat)
  /-- AVS_HOLD_SET (R57). HOLD written 1 holds the request at VMAX_STEP. -/
  | avsHoldSet (f : Option Requester) (t : Nat)
  /-- AVS_HOLD_CLEAR (R57). HOLD cleared lets an expired HOLD enter TRACK. -/
  | avsHoldClear (f : Option Requester) (t : Nat)
  /-- AVS_CTRL_WRITE (R60). A write of target and limits to HLT_AVS_CTRL, refused with CFG_ERR if out of range. -/
  | avsCtrlWrite (f : Option Requester) (target vmin vmax t : Nat)
  /-- AVS_HOLD_TIMER_EXPIRY (R57). The HOLD timer expires and the loop enters TRACK. -/
  | avsHoldTimerExpiry (t : Nat)
  /-- AVS_VOLTAGE_READ (R56). A 50 µs regulator read confirms or fails the request. -/
  | avsVoltageRead (mv : Option Nat) (t : Nat)
  /-- AVS_CONFIRM_TIMEOUT (R56). The confirmation timeout expires and an attempt fails. -/
  | avsConfirmTimeout (t : Nat)
  /-- AVS_WRITE_RETRY (R56). 10 µs after a failed attempt the write is repeated. -/
  | avsWriteRetry (t : Nat)
  /-- AVS_FAILED_RETRY (R57). In FAILED, VMAX_STEP is written once per 10 ms. -/
  | avsFailedRetry (t : Nat)
  /-- SAPORT_FRAME (R142). A serial-port frame ends or starts and is assigned to a period. -/
  | saportFrame (port : Nat) (isEnd : Bool) (words : List DWord) (fs : FsMeas) (t : Nat)
  /-- SAPORT_FS_TIMEOUT (R143). No FS edge for 4 frame times takes the port to ACQUIRE. -/
  | saportFsTimeout (port : Nat)
  /-- ACCESS_KEY_WRITE (R610). A KEY write advances, completes or breaks a block's unlock sequence. -/
  | accessKeyWrite (f : Requester) (block key t : Nat)
  /-- ACCESS_UNLOCK_EXPIRY (R610). 1 s after unlocking, the block relocks for the requester. -/
  | accessUnlockExpiry (f : Requester) (block t : Nat)
  /-- FLT_PIN_CTRL_WRITE (R439). A write to FLT_PIN_CTRL sets FAULT_N behaviour or forces it low. -/
  | fltPinCtrlWrite (f : Requester) (value t : Nat)
  /-- RC_REGISTER_READ (R611). A read of a word with RC fields returns and clears them. -/
  | rcRegisterRead (f : Requester) (off t : Nat)
  /-- REGISTER_WRITE (R7). A write to a register that has no row of its own, under its access codes. -/
  | registerWrite (f : Requester) (off value width t : Nat)
  /-- COMMAND_TIMEOUT (R470). A command's timeout-class timer reaches its limit before completion and the engine writes COMPLETE with TIMEOUT. -/
  | commandTimeout (p : CPort) (handle : Nat)
  /-- FLASH_OPERATION_DONE (R470). A flash program, erase or verify operation of a FLASH-class command ends, the command completes and the next queued flash operation starts. -/
  | flashOperationDone (ok : Bool) (sectors t : Nat)
  /-- SELFTEST_FULL_END (R545). The destructive full self-test of the masked parts ends, tiles are put in or out of service and carried work cold-starts. -/
  | selftestFullEnd (tiles : BitVec 68) (lanes : BitVec 48) (mem : Bool)
  /-- PCIE_LINK_UP (R488). The PCIe link of port A or B comes up again, ending the CMD_LINK condition. -/
  | pcieLinkUp (f : Requester)
  /-- ANNOUNCE_RECEIPT_TIMEOUT (R349). A PTP port's announce receipt timeout expires, the port leaves SLAVE and its PTP candidate loses signal. -/
  | announceReceiptTimeout (lane : Nat)
  /-- TS_CALIBRATION_COMPLETE (R327). The phase compensation measured after PCS lock completes, stamps on the lane become valid and a TS_CAL_LOCK condition ends. -/
  | tsCalibrationComplete (lane t : Nat)
  /-- HARDWARE_HOLDOVER (R367). While the control processor is paused, the selected hardware reference loses signal and the DPLL enters hardware holdover with CP_HOLD set. -/
  | hardwareHoldover
  deriving DecidableEq, Repr

end Sys2Proof
end

