-- ==== Sys2Proof/Decode.lean ====
section
/-!
DEFINITION. The decoder of the opcode table: no row of spec/opcode_table.json gives bits, so no word spells a command. (The
words of the tiles' programs are decoded in Machine/TileDecode.lean.)
-/
namespace Sys2Proof

/-- The command that a word spells by the table's bits: none of the rows has bits (assumption log 9; DESIGN CHOICE). -/
def decodeTableWord (_nbits _w : Nat) : Option Instr := none

end Sys2Proof
end

