-- ==== Sys2Proof/Config.lean ====
section
/-!
DEFINITION. Constants that one part fixes, and the free values: opaque constants without a body, so that no proof can
see a value of them. Fused data of a part are opaque for the same reason (00 R3, 17 R525).
-/
namespace Sys2Proof.Config

/-- A free value of 80 bits, applied to the counter State.freeCtr (assumption log 5). -/
opaque free : Nat → BitVec 80
/-- The tap of the modulators' interpolator at a distance in ticks from its centre (13 R383, R384): the manual gives its
symmetry and its delay, not its taps. -/
opaque interpTap : Nat → Int
/-- The narrowing of the interpolator's exact sum to S8.24 (13 R383): the manual does not give it. -/
opaque interpNarrow : Int → BitVec 32
/-- The proportional gain of the DPLL at a bandwidth in mHz, in 2^-16 ppt per ns of phase error (12 R361): the manual gives
the bandwidth, not the gain that makes it. -/
opaque dpllGain : Nat → Nat
/-- The decimator of a sense converter over the 32 readings of a period (13 R386): the manual does not give its taps. -/
opaque decimate : List Int → BitVec 24
/-- The draw of a switching cycle from media time, channel and cycle (13 R381). -/
opaque spread : Nat → Nat → Nat → Nat
/-- The feed-forward quotient at a rail reading of 0, from the rail's nominal value (13 R383). -/
opaque feedForwardZero : Nat → Int
/-- The fused 64-bit unique ID (15 R483, R485). -/
opaque uniqueId : BitVec 64
/-- The fused grade: false S, true X (00 R3). -/
opaque gradeX : Bool
/-- The fused fresh worst-case instruction time T_FRESH in fs (18 R534). -/
opaque tFresh : BitVec 32
/-- Whether temperature sensor i lies in a tile domain (18 R534): the manual does not say which do. -/
opaque tileSensor : Nat → Bool
/-- The silicon revision letter, an ASCII code (00 R3 and the ordering codes: revision B). -/
def revision : BitVec 8 := 0x42
/-- The SHA-384 hash of OTP key slots 0 to 3, big-endian (17 R508). -/
opaque keyHash : Nat → BitVec 384
/-- The version of the boot ROM (15 R483). -/
opaque bootRomVersion : BitVec 32

end Sys2Proof.Config
end

