-- ==== Sys2Proof/Machine/Bits.lean ====
section
/-!
DEFINITION. Small shared helpers: clamps, bit fields, byte lists, sparse memories in canonical form, list updates and
fixed-size banks.
-/
namespace Sys2Proof.Machine

/-- The integer `v` clamped to the signed range of `w` bits. -/
def clampS (w : Nat) (v : Int) : Int :=
  if 2 ^ (w - 1) - 1 < v then 2 ^ (w - 1) - 1 else if v < -(2 ^ (w - 1)) then -(2 ^ (w - 1)) else v

/-- Whether `v` lies outside the signed range of `w` bits, so that `clampS` changes it. -/
def clipsS (w : Nat) (v : Int) : Bool := decide (2 ^ (w - 1) - 1 < v) || decide (v < -(2 ^ (w - 1)))

/-- The bit vector of the clamped integer. -/
def satBV (w : Nat) (v : Int) : BitVec w := BitVec.ofInt w (clampS w v)

/-- Arithmetic shift right of an integer: division by `2 ^ n` toward minus infinity. -/
def asr (v : Int) (n : Nat) : Int := v / (2 ^ n : Int)

/-- A counter of `w` bits that saturates (00 R7 counters). -/
def satAdd (w : Nat) (a b : Nat) : Nat := min (a + b) (2 ^ w - 1)

/-- The bits [lo + len - 1 : lo] of a number. -/
def bits (v lo len : Nat) : Nat := (v >>> lo) % 2 ^ len

/-- Bit `i` of a number. -/
def bit (v i : Nat) : Bool := v.testBit i

/-- 1 for true, 0 for false. -/
def b2n (b : Bool) : Nat := if b then 1 else 0

/-- The number whose fields, least significant first, are the given (width in bits, value) pairs. -/
def packBits : List (Nat × Nat) → Nat
  | [] => 0
  | (w, v) :: r => v % 2 ^ w + 2 ^ w * packBits r

/-- Values from `lo` to `hi`. -/
def within (lo hi v : Nat) : Bool := decide (lo ≤ v) && decide (v ≤ hi)

/-- The `n` low bytes of `v`, least significant first. -/
def leBytes : Nat → Nat → List Byte
  | 0, _ => []
  | n + 1, v => BitVec.ofNat 8 v :: leBytes n (v / 256)

/-- The number that little-endian bytes spell. -/
def leNat : List Byte → Nat
  | [] => 0
  | b :: r => b.toNat + 256 * leNat r

/-- The `n` low bytes of `v`, most significant first (00 R9). -/
def beBytes (n v : Nat) : List Byte := (leBytes n v).reverse

/-- The number that big-endian bytes spell (00 R9). -/
def beNat (l : List Byte) : Nat := leNat l.reverse

/-- `n` bytes of a list from offset `o`; bytes past the end read 0. -/
def slice (l : List Byte) (o n : Nat) : List Byte :=
  let t := (l.drop o).take n
  t ++ List.replicate (n - t.length) 0

/-- `l` with the bytes `b` put at offset `o`; `l` is taken to reach that far. -/
def splice (l : List Byte) (o : Nat) (b : List Byte) : List Byte := l.take o ++ b ++ l.drop (o + b.length)

/-! Sparse memories: lists of (address, word) with strictly rising addresses and no word 0; an unlisted address reads 0. -/

/-- A sparse memory of words of `w` bits. -/
abbrev Sparse (w : Nat) := List (Nat × BitVec w)

/-- The word at address `a`. -/
def Sparse.get {w : Nat} : Sparse w → Nat → BitVec w
  | [], _ => 0
  | (k, v) :: r, a => if k = a then v else Sparse.get r a

/-- The memory with `v` written at address `a`, in canonical form. -/
def Sparse.set {w : Nat} : Sparse w → Nat → BitVec w → Sparse w
  | [], a, v => if v = 0 then [] else [(a, v)]
  | (k, u) :: r, a, v =>
    if k = a then (if v = 0 then r else (a, v) :: r)
    else if a < k then (if v = 0 then (k, u) :: r else (a, v) :: (k, u) :: r)
    else (k, u) :: Sparse.set r a v

/-- The canonical form: addresses strictly rising above `lo`, no word equal to 0. -/
def Sparse.wfFrom {w : Nat} : Nat → Sparse w → Bool
  | _, [] => true
  | lo, (k, v) :: r => decide (lo ≤ k) && decide (v ≠ 0) && Sparse.wfFrom (k + 1) r

/-- The canonical form of a sparse memory. -/
def Sparse.wf {w : Nat} (m : Sparse w) : Bool := Sparse.wfFrom 0 m

/-- The memory with a list of writes carried out in order. -/
def Sparse.setAll {w : Nat} (m : Sparse w) (ws : List (Nat × BitVec w)) : Sparse w :=
  ws.foldl (fun acc p => Sparse.set acc p.1 p.2) m

/-! Association lists by a natural key: objects that exist only while a plane or a command makes them. -/

/-- The entry of key `k`, if present. -/
def lookup? {α : Type} (l : List (Nat × α)) (k : Nat) : Option α := (l.find? (fun p => p.1 == k)).map (·.2)

/-- The list with the entry of key `k` replaced or added, keys rising. -/
def insertKey {α : Type} : List (Nat × α) → Nat → α → List (Nat × α)
  | [], k, v => [(k, v)]
  | (j, u) :: r, k, v => if j = k then (k, v) :: r else if k < j then (k, v) :: (j, u) :: r else (j, u) :: insertKey r k v

/-- The list without the entry of key `k`. -/
def eraseKey {α : Type} (l : List (Nat × α)) (k : Nat) : List (Nat × α) := l.filter (fun p => p.1 != k)

/-- The list with `f` applied to the entry of key `k`, if present. -/
def updateKey {α : Type} (l : List (Nat × α)) (k : Nat) (f : α → α) : List (Nat × α) :=
  l.map (fun p => if p.1 = k then (p.1, f p.2) else p)

/-- Whether `x` stands in the list. -/
def mem {α : Type} [DecidableEq α] (l : List α) (x : α) : Bool := l.any (fun y => decide (y = x))

/-- The list with `x` added at the end when it is not there yet. -/
def addNew {α : Type} [DecidableEq α] (l : List α) (x : α) : List α := if mem l x then l else l ++ [x]

/-- The list without `x`. -/
def remove {α : Type} [DecidableEq α] (l : List α) (x : α) : List α := l.filter (fun y => decide (y ≠ x))

/-- An element put before the first element that it does not follow. -/
def insertBy {α : Type} (le : α → α → Bool) (x : α) : List α → List α
  | [] => [x]
  | y :: r => if le x y then x :: y :: r else y :: insertBy le x r

/-- The list in rising order; equals keep their order. -/
def sortBy {α : Type} (le : α → α → Bool) (l : List α) : List α := l.foldr (insertBy le) []

/-! Fixed-size banks. -/

/-- Element `i` of a bank; past the end, the default. -/
def rd {α : Type} [Inhabited α] {n : Nat} (v : Vector α n) (i : Nat) : α := v[i]?.getD default

/-- The bank with element `i` replaced; past the end, unchanged. -/
def wr {α : Type} {n : Nat} (v : Vector α n) (i : Nat) (x : α) : Vector α n := v.setIfInBounds i x

/-- The bank with `f` applied to element `i`; past the end, unchanged. -/
def upd {α : Type} [Inhabited α] {n : Nat} (v : Vector α n) (i : Nat) (f : α → α) : Vector α n := wr v i (f (rd v i))

/-- Apply `f` to a number of turns `0 .. n - 1` in order. -/
def turns {α : Type} (n : Nat) (a : α) (f : Nat → α → α) : α := (List.range n).foldl (fun acc i => f i acc) a

/-- The smallest `k` with `2 ^ k ≥ l`, for `l ≥ 1` (05 R157). -/
def ceilLog2 (l : Nat) : Nat := if l ≤ 1 then 0 else Nat.log2 (l - 1) + 1

/-- The low `k` bits of `v` in reverse order (05 R157). -/
def bitRev : Nat → Nat → Nat
  | 0, _ => 0
  | k + 1, v => (v % 2) * 2 ^ k + bitRev k (v / 2)

end Sys2Proof.Machine
end

