-- ==== Sys2Proof/Machine/TileState.lean ====
section
/-!
DEFINITION. The state of one physical tile (05): register contexts, memories, ECC errors, sequencing state and the
slack registers of 02 R42 to R48.
-/
namespace Sys2Proof.Machine

/-- A register that a load, MOVC or LDIW can name (06 R188, R203). -/
inductive TReg where
  | d (i : Fin 8) | ax (i : Fin 4) | ay (i : Fin 4) | mx (i : Fin 4) | my (i : Fin 4) | lx (i : Fin 4) | ly (i : Fin 4)
  | amode | sr | lc | evmask | evpend | evvec
  deriving DecidableEq, Repr

/-- A tile memory. -/
inductive TMem where
  | p | x | y
  /-- The SHADOW bank of P memory, as a place of bit errors. -/
  | ps
  deriving DecidableEq, Repr

/-- The delay slots of a transfer in progress: how many are left, and the target when it is taken (05 R165). -/
structure Delay where
  left : Nat
  target : Option TAddr
  deriving DecidableEq, Repr

/-- One register context (05 R153). -/
structure TCtx where
  a : Vector Acc 4
  d : Vector DWord 8
  ax : Vector TAddr 4
  ay : Vector TAddr 4
  mx : Vector TAddr 4
  my : Vector TAddr 4
  lx : Vector TAddr 4
  ly : Vector TAddr 4
  amode : BitVec 8
  pc : TAddr
  sr : BitVec 32
  lc : BitVec 16
  evmask : BitVec 32
  evpend : BitVec 32
  evvec : BitVec 32
  /-- The events that the last instruction raised (05 R172). -/
  raised : BitVec 32
  /-- The return stack, newest first, at most 8 entries (05 R166). -/
  stack : List TAddr
  /-- Loads of the last instruction, not yet visible (05 R163). -/
  loads : List (TReg × DWord)
  /-- Stores of the last instruction, not yet in memory (05 R163). -/
  stores : List (TMem × TAddr × DWord)
  delay : Option Delay
  /-- Executions left of the instruction at `pc` under REP (05 R168); 0 outside a REP. -/
  rep : Nat
  deriving DecidableEq, Repr, Inhabited

/-- A context after a cold start (05 R153), with its entry point and the TASK bit. -/
def TCtx.cold (entry : TAddr) (task : Bool) : TCtx where
  a := Vector.replicate 4 0
  d := Vector.replicate 8 0
  ax := Vector.replicate 4 0
  ay := Vector.replicate 4 0
  mx := Vector.replicate 4 0
  my := Vector.replicate 4 0
  lx := Vector.replicate 4 0
  ly := Vector.replicate 4 0
  amode := 0
  pc := entry
  sr := if task then 0x800 else 0
  lc := 0
  evmask := 0
  evpend := 0
  evvec := 0
  raised := 0
  stack := []
  loads := []
  stores := []
  delay := none
  rep := 0

/-- The state of a tile in the table of 05 R175. -/
inductive TileRun where
  | absent | cold | wait | fg | drain | bg | parked | halted
  deriving DecidableEq, Repr, Inhabited

/-- How many bits of a word and its check bits are wrong (05 R148). -/
inductive EccErr where
  | single | double | multi
  deriving DecidableEq, Repr

/-- A late-tile miss state (02 R66). -/
inductive Miss where
  | onTime | one | zone
  deriving DecidableEq, Repr, Inhabited

/-- The slack measurement of one tile (02 R35 to R48). -/
structure Slack where
  /-- Sample-start, END and finish ticks of the present period; none while not reached. -/
  startTick : Option Nat
  endTick : Option Nat
  finishTick : Option Nat
  /-- The tick at which the halt of R63 took effect. -/
  haltTick : Option Nat
  start : Nat
  finish : Nat
  valid : Bool
  overrun : Bool
  fgCount : Nat
  itimePs : Nat
  fracWmax : Nat
  fracLast : Nat
  minSlack : Nat
  lateCount : Nat
  /-- MISS_STATE as the boundary that opened the period left it (02 R38, R48). -/
  missReg : Miss
  /-- Window sums of ticks and counts, and the window's largest finish fraction (02 R36, R37). -/
  sumTicks : Nat
  sumCount : Nat
  winMax : Nat
  winActive : Bool
  /-- Whether the tile was active in the window that ended last (02 R54). -/
  lastActive : Bool
  deriving DecidableEq, Repr, Inhabited

/-- The slack registers at reset (02 R43 to R48). -/
def Slack.reset : Slack where
  startTick := none
  endTick := none
  finishTick := none
  haltTick := none
  start := 0
  finish := 0
  valid := false
  overrun := false
  fgCount := 0
  itimePs := 0
  fracWmax := 0
  fracLast := 0
  minSlack := 0xFFFF
  lateCount := 0
  missReg := .onTime
  sumTicks := 0
  sumCount := 0
  winMax := 0
  winActive := false
  lastActive := false

/-- How the slots of a late element are replaced (02 R67 to R70). -/
inductive ReactKind where
  /-- Native fade; the next value written is step `k`; past 32 the slots stay 0. -/
  | fade (k : Nat)
  /-- Legacy fence. -/
  | fence
  /-- Ramp after a native release; the next period's step is `k`, from 1 to 32. -/
  | release (k : Nat)
  deriving DecidableEq, Repr

/-- A reaction in force on an element's slots, with the hold value h of each slot (02 R67, R69). -/
structure React where
  kind : ReactKind
  h : List (Nat × Slot)
  deriving DecidableEq, Repr

/-- The late sequence of one element: a tile, a matrix lane, or the route engine (02 R63 to R71, 04 R128). -/
structure Lateness where
  /-- The present period is late. -/
  late : Bool
  miss : Miss
  /-- Hold values of the first missed period (02 R65, R67). -/
  hold : List (Nat × Slot)
  react : Option React
  /-- The fault controller decided a reaction; its h is taken at the next boundary (14 R423). -/
  arm : Bool
  /-- The fault controller decided the release; it falls at the next boundary (14 R424). -/
  relDue : Bool
  deriving DecidableEq, Repr, Inhabited

/-- An element on time. -/
def Lateness.reset : Lateness := ⟨false, .onTime, [], none, false, false⟩

/-- An INIT_ALWAYS word due at the next gather (05 R177). -/
structure InitWord where
  mem : TMem
  addr : TAddr
  val : DWord
  deriving DecidableEq, Repr

/-- One physical tile. -/
structure Tile where
  run : TileRun
  /-- Boundaries left before a cold-starting tile enters WAIT (05 R175). -/
  coldLeft : Nat
  /-- The LIVE and the SHADOW bank of P memory (05 R145), sparse; an unlisted word is the all-zero word (05 R146). -/
  pLive : Sparse 64
  pShadow : Sparse 64
  x : Sparse 32
  y : Sparse 32
  /-- Words that hold bit errors (05 R148 to R150); a write of a word clears its entry. -/
  ecc : List (TMem × Nat × EccErr)
  fg : TCtx
  bg : TCtx
  /-- The background is stopped until the next cold start or migration (05 R150). -/
  bgStopped : Bool
  /-- PARK is pending (05 R170, R174); not visible to tile code. -/
  parkPend : Bool
  /-- The present period is late by an uncorrectable error (05 R150). -/
  eccLate : Bool
  /-- This period's gather and scatter have completed (02 R28). -/
  gatherDone : Bool
  scatterDone : Bool
  /-- Foreground instructions executed in the present period (02 R33). -/
  fgCount : Nat
  initDue : List InitWord
  /-- Positions of the scrub walker in P, X and Y (05 R151). -/
  scrubP : Nat
  scrubX : Nat
  scrubY : Nat
  l : Lateness
  slk : Slack
  deriving DecidableEq, Repr, Inhabited

/-- A tile at reset: absent, memories and contexts 0. -/
def Tile.reset : Tile where
  run := .absent
  coldLeft := 0
  pLive := []
  pShadow := []
  x := []
  y := []
  ecc := []
  fg := TCtx.cold 0 false
  bg := TCtx.cold 0 true
  bgStopped := false
  parkPend := false
  eccLate := false
  gatherDone := false
  scatterDone := false
  fgCount := 0
  initDue := []
  scrubP := 0
  scrubX := 0
  scrubY := 0
  l := Lateness.reset
  slk := Slack.reset

end Sys2Proof.Machine
end

