-- ==== Sys2Proof/Machine/TileDecode.lean ====
section
/-!
DEFINITION. What a 64-bit tile word says: its operation field and its two move fields (06 R182 to R205).
-/
namespace Sys2Proof.Machine

/-- A condition code (06 R194). -/
abbrev CC := Fin 16

/-- The accumulator operations of 06 R200 that combine two accumulators. -/
inductive AccOp where
  | mova | adda | suba | nega | absa
  deriving DecidableEq, Repr

/-- The data ALU operations (06 R201). -/
inductive AluOp where
  | mov | add | sub | adds | subs | and | or | xor | not | neg | abs | cmp | min | max | tst
  deriving DecidableEq, Repr

/-- The shifts (06 R202). -/
inductive ShiftOp where
  | lsl | asr | lsr | asls
  deriving DecidableEq, Repr

/-- The single multiplies (06 R196). -/
inductive MulOp where
  | mpy | mac | msu | mpyn
  deriving DecidableEq, Repr

/-- A shift amount: an immediate, or a data register read as an unsigned number (06 R202). -/
inductive ShiftAmt where
  | imm (n : Fin 32) | reg (r : Fin 8)
  deriving DecidableEq, Repr

/-- A decoded operation field (06 R185). A register target of MOVC or LDIW is none where its code is undefined. -/
inductive TOp where
  | nop | tend
  | bra (cc : CC) (target : TAddr) | call (cc : CC) (target : TAddr)
  | ret (cc : CC) | rte | dbnz (target : TAddr) | trap
  | repImm (n : Nat) | repReg (r : Fin 8)
  | dmac (pair s0 s1 clr : Bool) (p q r s : Fin 4)
  | mul (op : MulOp) (i : Fin 4) (p q : Fin 8)
  | tap (i n m : Fin 4) (sub : Bool) (xmode ymode : Fin 4)
  | alu (op : AluOp) (dd ds : Fin 8)
  | shift (op : ShiftOp) (amt : ShiftAmt) (dd : Fin 8)
  | clr (i : Fin 4) | acc (op : AccOp) (i j : Fin 4) | asha (i : Fin 4) (sh : Int)
  | ext (i : Fin 4) (d : Fin 8) (e : Fin 4) | lda (i : Fin 4) (d : Fin 8) (e : Fin 4) | cmpa (i j : Fin 4)
  | movc (toCreg : Bool) (d : Fin 8) (creg : Option TReg)
  | ldiw (target : Option TReg) (imm : DWord)
  | dith (dd : Fin 8) (j : BitVec 8)
  deriving DecidableEq, Repr

/-- The kind of pointer register a PTRLD or PTRIMM names (06 R186). -/
inductive PtrKind where
  | an | mn | ln
  deriving DecidableEq, Repr

/-- A decoded move field (06 R186). The registers are those of the field's own memory. -/
inductive TMove where
  | nop
  | ind (store : Bool) (d : Fin 8) (n mode : Fin 4)
  | abs (store : Bool) (d : Fin 8) (addr : TAddr)
  | accind (i e n mode : Fin 4)
  | accabs (i e : Fin 4) (addr : TAddr)
  | ptrld (k : PtrKind) (j n mode : Fin 4)
  | ptrimm (k : PtrKind) (j : Fin 4) (imm : TAddr)
  | xfer (dst src : Fin 20)
  deriving DecidableEq, Repr

/-- The control register of a code (06 R203); codes 30 and 31 are undefined. -/
def cregOf (c : BitVec 5) : Option TReg :=
  let n := c.toNat
  let i : Fin 4 := (c.extractLsb' 0 2).toFin
  if n < 4 then some (.ax i) else if n < 8 then some (.ay i) else if n < 12 then some (.mx i)
  else if n < 16 then some (.my i) else if n < 20 then some (.lx i) else if n < 24 then some (.ly i)
  else if n = 24 then some .amode else if n = 25 then some .sr else if n = 26 then some .lc
  else if n = 27 then some .evmask else if n = 28 then some .evpend else if n = 29 then some .evvec else none

/-- The data ALU operation of a sub-operation code (06 R201). -/
def aluOf : Nat → Option AluOp
  | 0 => some .mov | 1 => some .add | 2 => some .sub | 3 => some .adds | 4 => some .subs | 5 => some .and
  | 6 => some .or | 7 => some .xor | 8 => some .not | 9 => some .neg | 10 => some .abs | 11 => some .cmp
  | 12 => some .min | 13 => some .max | 14 => some .tst | _ => none

/-- The control instruction of a sub-operation code (06 R192). -/
def controlOf (sub : Nat) (cc : CC) (target : TAddr) : Option TOp :=
  match sub with
  | 0 => some .nop | 1 => some .tend | 2 => some (.bra cc target) | 3 => some (.call cc target)
  | 4 => some (.ret cc) | 5 => some .rte | 6 => some (.dbnz target) | 7 => some .trap | _ => none

/-- The single multiply of a KIND (06 R196). -/
def mulOf : Nat → MulOp
  | 0 => .mpy | 1 => .mac | 2 => .msu | _ => .mpyn

/-- The shift of a KIND (06 R202). -/
def shiftOf : Nat → ShiftOp
  | 0 => .lsl | 1 => .asr | 2 => .lsr | _ => .asls

/-- The accumulator instruction of a sub-operation code (06 R200), from operation-field bits [7:0]. -/
def accOf (sub : Nat) (f : BitVec 16) : Option TOp :=
  let i : Fin 4 := (f.extractLsb' 6 2).toFin
  let j : Fin 4 := (f.extractLsb' 4 2).toFin
  let d : Fin 8 := (f.extractLsb' 3 3).toFin
  let e : Fin 4 := (f.extractLsb' 1 2).toFin
  match sub with
  | 0 => some (.clr i) | 1 => some (.acc .mova i j) | 2 => some (.acc .adda i j) | 3 => some (.acc .suba i j)
  | 4 => some (.acc .nega i j) | 5 => some (.acc .absa i j) | 6 => some (.asha i (f.extractLsb' 0 6).toInt)
  | 7 => some (.ext i d e) | 8 => some (.lda i d e) | 9 => some (.cmpa i j) | _ => none

/-- The operation of a tile word; none where the group or sub-operation code is undefined (06 R183, R185). -/
def decodeOp (w : PWord) : Option TOp :=
  let f : BitVec 16 := w.extractLsb' 48 16
  let sub := (f.extractLsb' 8 4).toNat
  let xtarget : TAddr := w.extractLsb' 24 14
  match (f.extractLsb' 12 4).toNat with
  | 0x0 => controlOf sub (f.extractLsb' 4 4).toFin xtarget
  | 0x1 => some (if f.getLsbD 11 then .repReg (f.extractLsb' 0 3).toFin else .repImm ((f.extractLsb' 0 10).toNat + 1))
  | 0x2 => some (dmacOf false f)
  | 0x3 => some (dmacOf true f)
  | 0x4 => some (.mul (mulOf (f.extractLsb' 10 2).toNat) (f.extractLsb' 8 2).toFin (f.extractLsb' 5 3).toFin
      (f.extractLsb' 2 3).toFin)
  | 0x5 => some (.tap (f.extractLsb' 10 2).toFin (f.extractLsb' 8 2).toFin (f.extractLsb' 6 2).toFin (f.getLsbD 5)
      (f.extractLsb' 3 2).toFin (f.extractLsb' 1 2).toFin)
  | 0x6 => (aluOf sub).map (fun op => .alu op (f.extractLsb' 5 3).toFin (f.extractLsb' 2 3).toFin)
  | 0x7 => some (.shift (shiftOf (f.extractLsb' 10 2).toNat)
      (if f.getLsbD 9 then .reg (f.extractLsb' 0 3).toFin else .imm (f.extractLsb' 0 5).toFin) (f.extractLsb' 6 3).toFin)
  | 0x8 => accOf sub f
  | 0x9 => some (.movc (f.getLsbD 11) (f.extractLsb' 8 3).toFin (cregOf (f.extractLsb' 3 5)))
  | 0xA => some (.ldiw (if f.getLsbD 11 then cregOf (f.extractLsb' 6 5) else some (.d (f.extractLsb' 8 3).toFin))
      (w.extractLsb' 16 32))
  | 0xB => some (.dith (f.extractLsb' 8 3).toFin (f.extractLsb' 0 8))
  | _ => none
where
  /-- The operands of DMAC (06 R197). -/
  dmacOf (pair : Bool) (f : BitVec 16) : TOp :=
    .dmac pair (f.getLsbD 11) (f.getLsbD 10) (f.getLsbD 9) (f.extractLsb' 7 2).toFin (f.extractLsb' 5 2).toFin
      (f.extractLsb' 3 2).toFin (f.extractLsb' 1 2).toFin

/-- The pointer kind of a KIND field (06 R186); 0b11 is undefined. -/
def ptrKindOf : Nat → Option PtrKind
  | 0 => some .an | 1 => some .mn | 2 => some .ln | _ => none

/-- The XFER register of a code (06 R188); codes 20 to 31 are undefined. -/
def xferCode (c : BitVec 5) : Option (Fin 20) := if h : c.toNat < 20 then some ⟨c.toNat, h⟩ else none

/-- A move field (06 R186); none where a form or register code is undefined (06 R183). -/
def decodeMove (f : MoveField) : Option TMove :=
  let n : Fin 4 := (f.extractLsb' 15 2).toFin
  let mode : Fin 4 := (f.extractLsb' 13 2).toFin
  let d : Fin 8 := (f.extractLsb' 17 3).toFin
  let i : Fin 4 := (f.extractLsb' 19 2).toFin
  let e : Fin 4 := (f.extractLsb' 17 2).toFin
  let addr : TAddr := f.extractLsb' 0 14
  match (f.extractLsb' 21 3).toNat with
  | 0 => some .nop
  | 1 => some (.ind (f.getLsbD 20) d n mode)
  | 2 => some (.accind i e n mode)
  | 3 => some (.abs (f.getLsbD 20) d addr)
  | 4 => some (.accabs i e addr)
  | 5 => (ptrKindOf i.val).map (fun k => .ptrld k e n mode)
  | 6 => (ptrKindOf i.val).map (fun k => .ptrimm k e addr)
  | _ => match xferCode (f.extractLsb' 16 5), xferCode (f.extractLsb' 11 5) with
    | some dst, some src => some (.xfer dst src)
    | _, _ => none

/-- The X-move field of a word (06 R182). -/
def xField (w : PWord) : MoveField := w.extractLsb' 24 24
/-- The Y-move field of a word (06 R182). -/
def yField (w : PWord) : MoveField := w.extractLsb' 0 24

end Sys2Proof.Machine
end

