-- ==== Sys2Proof/Machine/Operands.lean ====
section
/-!
DEFINITION. Operand forms of tile instructions: registers by name, address post-modify, memory access rights, ECC on
reads, and the two move fields (05 R147 to R164, 06 R184 to R191).
-/
namespace Sys2Proof.Machine

/-- What a tile instruction sees of the engine: which task runs, the free-value index of the step, the generator inputs
of DITH (06 R205). -/
structure TEnv where
  bg : Bool
  freeIx : Nat
  seed : BitVec 64
  mediaTime : BitVec 64
  built : Nat
  deriving DecidableEq, Repr, Inhabited

/-- A detector report of a tile: its code and its DATA (14 R412). -/
abbrev TRep := Nat × Nat

/-- How the program counter goes on after an instruction. -/
inductive Flow where
  | next
  /-- A transfer with two delay slots; none when it is not taken (05 R165). -/
  | transfer (target : Option TAddr)
  | rep (n : Nat)
  | tend
  deriving DecidableEq, Repr

/-- One instruction in execution: the tile, the context it leaves, and what it raised. -/
structure TRun where
  t : Tile
  c : TCtx
  reps : List TRep
  /-- An uncorrectable error was read (05 R150). -/
  uncorr : Bool
  /-- The SAT event becomes pending (05 R170). -/
  satEv : Bool
  /-- SR bits to be set stickily after the operation (06 R204 last sentence, R206). -/
  sticky : BitVec 32
  loads : List (TReg × DWord)
  stores : List (TMem × TAddr × DWord)
  /-- Registers written by a PTRIMM of this instruction (06 R191). -/
  ptrimm : List TReg
  flow : Flow
  deriving DecidableEq, Repr

/-- Log a report of a tile instruction. -/
def TRun.log (r : TRun) (code data : Nat) : TRun := { r with reps := r.reps ++ [(code, data)] }

/-- The register's value as a control register read gives it (06 R188, R203): 14-bit modifiers are sign-extended. -/
def TCtx.readReg (c : TCtx) : TReg → DWord
  | .d i => c.d[i]
  | .ax i => (c.ax[i]).setWidth 32
  | .ay i => (c.ay[i]).setWidth 32
  | .mx i => (c.mx[i]).signExtend 32
  | .my i => (c.my[i]).signExtend 32
  | .lx i => (c.lx[i]).setWidth 32
  | .ly i => (c.ly[i]).setWidth 32
  | .amode => c.amode.setWidth 32
  | .sr => c.sr
  | .lc => c.lc.setWidth 32
  | .evmask => c.evmask
  | .evpend => c.evpend
  | .evvec => c.evvec

/-- A register written by tile code (05 R155, R170; 06 R203): reserved bits stay 0, TASK is kept, EVPEND clears. -/
def TCtx.writeReg (c : TCtx) (r : TReg) (v : DWord) : TCtx :=
  match r with
  | .d i => { c with d := c.d.set i v }
  | .ax i => { c with ax := c.ax.set i (v.setWidth 14) }
  | .ay i => { c with ay := c.ay.set i (v.setWidth 14) }
  | .mx i => { c with mx := c.mx.set i (v.setWidth 14) }
  | .my i => { c with my := c.my.set i (v.setWidth 14) }
  | .lx i => { c with lx := c.lx.set i (v.setWidth 14) }
  | .ly i => { c with ly := c.ly.set i (v.setWidth 14) }
  | .amode => { c with amode := v.setWidth 8 }
  | .sr => { c with sr := (v &&& 0x37FF#32) ||| (c.sr &&& 0x800#32) }
  | .lc => { c with lc := v.setWidth 16 }
  | .evmask => { c with evmask := v &&& 0xC#32 }
  | .evpend => { c with evpend := c.evpend &&& ~~~(v &&& 0xC#32) }
  | .evvec => { c with evvec := v &&& 0x3FF8#32 }

/-- Post-modify of address `a` by the signed modifier `m` under length `l` and the bit-reverse bit (05 R157). -/
def postMod (a : TAddr) (m : Int) (l : TAddr) (br : Bool) : TAddr :=
  let k := if l.toNat = 0 then 14 else ceilLog2 l.toNat
  let b := a.toNat / 2 ^ k * 2 ^ k
  let off := a.toNat - b
  if br then
    let s := ((bitRev k off : Int) + m) % (2 ^ k : Int)
    BitVec.ofNat 14 (b + bitRev k s.toNat)
  else if l.toNat = 0 then BitVec.ofInt 14 (a.toNat + m)
  else BitVec.ofNat 14 (b + (((off : Int) + m) % (l.toNat : Int)).toNat)

/-- The successor address of the aging write (05 R160). -/
def succAddr (a l : TAddr) : TAddr := postMod a 1 l false

/-- The address register `n` of a field's memory; `y` selects Y memory. -/
def TCtx.an (c : TCtx) (y : Bool) (n : Fin 4) : TAddr := if y then c.ay[n] else c.ax[n]
/-- Modifier register `n` of a field's memory. -/
def TCtx.mn (c : TCtx) (y : Bool) (n : Fin 4) : TAddr := if y then c.my[n] else c.mx[n]
/-- Length register `n` of a field's memory. -/
def TCtx.ln (c : TCtx) (y : Bool) (n : Fin 4) : TAddr := if y then c.ly[n] else c.lx[n]
/-- Bit-reverse bit of address register `n` (05 R153: AMODE [3:0] for X, [7:4] for Y). -/
def TCtx.br (c : TCtx) (y : Bool) (n : Fin 4) : Bool := c.amode.getLsbD (n.val + if y then 4 else 0)

/-- The name of a pointer register of a field's memory. -/
def ptrReg (y : Bool) : PtrKind → Fin 4 → TReg
  | .an, j => if y then .ay j else .ax j
  | .mn, j => if y then .my j else .mx j
  | .ln, j => if y then .ly j else .lx j

/-- The register an XFER code names in a field (06 R188). -/
def xferReg (y : Bool) (c : Fin 20) : TReg :=
  if c.val < 8 then .d (Fin.ofNat 8 c.val)
  else if c.val < 12 then ptrReg y .an (Fin.ofNat 4 c.val)
  else if c.val < 16 then ptrReg y .mn (Fin.ofNat 4 c.val)
  else ptrReg y .ln (Fin.ofNat 4 c.val)

/-- The post-modified value of address register `n` under MODE (06 R187), from the values the instruction sees (assumption
log 90; DEDUCED). -/
def TCtx.postMode (c : TCtx) (y : Bool) (n mode : Fin 4) : TAddr :=
  match mode.val with
  | 0 => c.an y n
  | 1 => postMod (c.an y n) (c.mn y n).toInt (c.ln y n) (c.br y n)
  | 2 => postMod (c.an y n) 1 (c.ln y n) (c.br y n)
  | _ => postMod (c.an y n) (-1) (c.ln y n) (c.br y n)

/-- The memory a field addresses. -/
def fieldMem (y : Bool) : TMem := if y then .y else .x
/-- A memory's number in log data (14 R412): 0 P, 1 X, 2 Y. -/
def TMem.code : TMem → Nat
  | .p => 0 | .x => 1 | .y => 2 | .ps => 0

/-- Whether a task may read a word (05 R147). -/
def canRead (bg : Bool) : TMem → TAddr → Bool
  | .y, a => bg || decide (a.toNat < 0x3C00)
  | _, _ => true
/-- Whether a task may write a word (05 R147). -/
def canWrite (bg : Bool) : TMem → TAddr → Bool
  | .y, a => if bg then decide (0x3C00 ≤ a.toNat) else decide (a.toNat < 0x3C00)
  | _, _ => !bg

/-- The stored word of X or Y memory. -/
def Tile.word (t : Tile) (m : TMem) (a : TAddr) : DWord :=
  match m with
  | .y => t.y.get a.toNat
  | _ => t.x.get a.toNat

/-- A tile with a word written: the whole word and its check bits, so an error it held is gone (05 R148). -/
def Tile.setWord (t : Tile) (m : TMem) (a : TAddr) (v : DWord) : Tile :=
  let e := t.ecc.filter (fun q => !(decide (q.1 = m) && q.2.1 == a.toNat))
  match m with
  | .y => { t with y := t.y.set a.toNat v, ecc := e }
  | _ => { t with x := t.x.set a.toNat v, ecc := e }

/-- Pending stores put into memory, in order. -/
def Tile.applyStores (t : Tile) (ws : List (TMem × TAddr × DWord)) : Tile :=
  ws.foldl (fun t w => t.setWord w.1 w.2.1 w.2.2) t

/-- Pending loads put into their registers, in order. -/
def TCtx.applyLoads (c : TCtx) (ls : List (TReg × DWord)) : TCtx := ls.foldl (fun c l => c.writeReg l.1 l.2) c

/-- How an ECC check of one word ends: a clean word, a corrected one, or an uncorrectable one. -/
inductive EccRes where
  | clean | corrected | uncorr
  /-- An error of three bits or more taken for a correctable one: the wrong word is used and written back. -/
  | wrong
  deriving DecidableEq, Repr

/-- The ECC outcome for a word (05 R148 to R150). An error of three or more bits has a free outcome (log entry 5). -/
def eccCheck (t : Tile) (m : TMem) (a freeIx : Nat) : EccRes :=
  match t.ecc.find? (fun q => decide (q.1 = m) && q.2.1 == a) with
  | none => .clean
  | some (_, _, .single) => .corrected
  | some (_, _, .double) => .uncorr
  | some (_, _, .multi) =>
    match (Config.free freeIx).toNat % 3 with
    | 0 => .wrong
    | 1 => .uncorr
    | _ => .clean

/-- Whether a word holds an error of three or more bits. -/
def eccMulti (t : Tile) (m : TMem) (a : Nat) : Bool := t.ecc.any (fun q => decide (q.1 = m) && q.2.1 == a && decide (q.2.2 = .multi))

/-- The word that a read of a multi-bit error gives: free (05 R148). -/
def eccFreeWord (freeIx : Nat) : BitVec 64 := (Config.free (freeIx + 1)).setWidth 64

/-- Log data of an ECC report: memory, address, task, and for an uncorrectable one the reader (14 R412) (assumption log 82;
DESIGN CHOICE). -/
def eccData (m : TMem) (a : Nat) (task : Bool) (reader : Nat) : Nat :=
  packBits [(8, m.code), (16, a), (8, b2n task), (8, reader)]

/-- The tile with an error entry removed: the word has been written back (05 R149). -/
def Tile.clearEcc (t : Tile) (m : TMem) (a : Nat) : Tile :=
  { t with ecc := t.ecc.filter (fun q => !(decide (q.1 = m) && q.2.1 == a)) }

/-- A read of X or Y memory by a task: access rights, ECC, the word (05 R147, R149, R150). -/
def TRun.read (env : TEnv) (r : TRun) (m : TMem) (a : TAddr) : DWord × TRun :=
  if !canRead env.bg m a then (0, r.log 0x0604 (packBits [(8, m.code), (16, a.toNat), (8, b2n env.bg)]))
  else
    let ix := env.freeIx + 2 * m.code
    match eccCheck r.t m a.toNat ix with
    | .clean =>
      if eccMulti r.t m a.toNat then ((eccFreeWord ix).setWidth 32, r) else (r.t.word m a, r)
    | .corrected => (r.t.word m a, { r with t := r.t.clearEcc m a.toNat }.log 0x0605 (eccData m a.toNat env.bg 0))
    | .wrong =>
      ((eccFreeWord ix).setWidth 32,
        { r with t := r.t.setWord m a ((eccFreeWord ix).setWidth 32) }.log 0x0605 (eccData m a.toNat env.bg 0))
    | .uncorr => (0, { r with uncorr := true }.log 0x0606 (eccData m a.toNat env.bg (if env.bg then 2 else 0)))

/-- A store by a task: blocked where the task has no right (05 R147), else pending until the next instruction has read. -/
def TRun.store (env : TEnv) (r : TRun) (m : TMem) (a : TAddr) (v : DWord) : TRun :=
  if canWrite env.bg m a then { r with stores := r.stores ++ [(m, a, v)] }
  else r.log 0x0604 (packBits [(8, m.code), (16, a.toNat), (8, b2n env.bg)])

/-- The extraction point's shift (06 R199). -/
def extShift (e : Fin 4) : Nat :=
  match e.val with
  | 0 => 32 | 1 => 30 | 2 => 27 | _ => 24

/-- The rounded quotient of an extraction, before the clamp (06 R199); RND 0b11 acts as 0b00 (05 R155). -/
def extQuot (a : Acc) (e : Fin 4) (rnd : Nat) : Int :=
  let sh := extShift e
  let q := asr a.toInt sh
  let rem := a.toNat % 2 ^ sh
  let half := 2 ^ (sh - 1)
  if rnd = 1 && decide (half ≤ rem) then q + 1
  else if rnd = 2 && (decide (half < rem) || (rem == half && q % 2 == 1)) then q + 1
  else q

/-- The rounding mode of a status word (05 R155). -/
def srRnd (sr : BitVec 32) : Nat := (sr.extractLsb' 12 2).toNat

/-- Extraction of an accumulator: the word, and whether it clamped (06 R199). -/
def extract (a : Acc) (e : Fin 4) (rnd : Nat) : DWord × Bool :=
  let q := extQuot a e rnd
  (satBV 32 q, clipsS 32 q)

/-- Set MSAT stickily and raise the SAT event (06 R199). -/
def TRun.msat (r : TRun) (clip : Bool) : TRun :=
  if clip then { r with sticky := r.sticky ||| 0x100#32, satEv := true } else r

/-- Post-modify of address register `n` of a field by a move (assumption log 90; DEDUCED). -/
def TRun.postMove (r : TRun) (old : TCtx) (y : Bool) (n mode : Fin 4) : TRun :=
  if mode.val = 0 then r
  else { r with c := r.c.writeReg (ptrReg y .an n) ((old.postMode y n mode).setWidth 32) }

/-- The address register a move post-modifies, if it does. -/
def TMove.postmodified : TMove → Option (Fin 4)
  | .ind _ _ n mode => if mode.val = 0 then none else some n
  | .accind _ _ n mode => if mode.val = 0 then none else some n
  | .ptrld _ _ n mode => if mode.val = 0 then none else some n
  | _ => none

/-- Whether a move reads or writes memory. -/
def TMove.accesses : TMove → Bool
  | .nop => false | .ptrimm .. => false | .xfer .. => false | _ => true

/-- Whether a move is a load from memory. -/
def TMove.isLoad : TMove → Bool
  | .ind st .. => !st | .abs st .. => !st | .ptrld .. => true | _ => false

/-- One move carried out (06 R189, R190). `old` gives the values the instruction sees; `post` is false where the update
of the address register is left out (06 R184, TAP). -/
def TRun.move (env : TEnv) (old : TCtx) (y post : Bool) (r : TRun) (mv : TMove) : TRun :=
  let m := fieldMem y
  let pm (r : TRun) (n mode : Fin 4) : TRun := if post then r.postMove old y n mode else r
  match mv with
  | .nop => r
  | .ind st d n mode =>
    if st then pm (r.store env m (old.an y n) old.d[d]) n mode
    else
      let (v, r) := r.read env m (old.an y n)
      pm { r with loads := r.loads ++ [(.d d, v)] } n mode
  | .abs st d addr =>
    if st then r.store env m addr old.d[d]
    else
      let (v, r) := r.read env m addr
      { r with loads := r.loads ++ [(.d d, v)] }
  | .accind i e n mode =>
    let (v, clip) := extract old.a[i] e (srRnd old.sr)
    pm ((r.store env m (old.an y n) v).msat clip) n mode
  | .accabs i e addr =>
    let (v, clip) := extract old.a[i] e (srRnd old.sr)
    (r.store env m addr v).msat clip
  | .ptrld k j n mode =>
    let (v, r) := r.read env m (old.an y n)
    pm { r with loads := r.loads ++ [(ptrReg y k j, v)] } n mode
  | .ptrimm k j imm =>
    { r with c := r.c.writeReg (ptrReg y k j) (imm.setWidth 32), ptrimm := ptrReg y k j :: r.ptrimm }
  | .xfer dst src => { r with loads := r.loads ++ [(xferReg y dst, old.readReg (xferReg y src))] }

/-- How an operation uses or restricts the move fields (06 R184). -/
inductive MoveRule where
  | free
  /-- BRA, CALL, DBNZ: the X-move field is the target. -/
  | xTarget
  /-- LDIW: both fields belong to the immediate. -/
  | imm
  /-- END: neither is carried out; a nonzero field is illegal. -/
  | tend
  /-- TAP with its AYm. -/
  | tap (m : Fin 4)
  deriving DecidableEq, Repr

/-- Log data of ILLEGAL: PC, task, word bits [63:48] (14 R412). -/
def illegalData (pc : TAddr) (bg : Bool) (w : PWord) : Nat :=
  packBits [(16, pc.toNat), (8, b2n bg), (16, (w >>> 48).toNat)]

/-- The two move fields of a word carried out under a rule (06 R183, R184). -/
def TRun.moves (env : TEnv) (old : TCtx) (w : PWord) (rule : MoveRule) (r : TRun) : TRun :=
  let ill (r : TRun) : TRun := r.log 0x0608 (illegalData old.pc env.bg w)
  let free (y : Bool) (r : TRun) (f : MoveField) : TRun :=
    match decodeMove f with
    | none => ill r
    | some mv => r.move env old y true mv
  match rule with
  | .free => free true (free false r (xField w)) (yField w)
  | .xTarget => free true r (yField w)
  | .imm => r
  | .tend =>
    let r := if xField w = 0 then r else ill r
    if yField w = 0 then r else ill r
  | .tap m =>
    let r := match decodeMove (xField w) with
      | none => ill r
      | some mv => if mv.accesses then ill r else r.move env old false true mv
    match decodeMove (yField w) with
    | none => ill r
    | some mv =>
      if mv.isLoad then ill r
      else if mv.postmodified = some m then ill (r.move env old true false mv)
      else r.move env old true true mv

end Sys2Proof.Machine
end

