-- ==== Sys2Proof/Machine/FaultState.lean ====
section
/-!
DEFINITION. State of the fault controller (14): reports waiting for their decision, conditions, episodes, the log and
the FAULT_N pin.
-/
namespace Sys2Proof.Machine

/-- A detector report on its way to the fault controller (14 R412, R415). -/
structure Report where
  code : Nat
  zone : Nat
  /-- The element of the zone that the fault names (14 R416): a tile, lane, line, channel or port. -/
  elem : Nat
  /-- The 8 bytes of DATA as a number, little-endian (14 R433). -/
  data : Nat
  injected : Bool
  /-- The 10 ns cycle in which the detector asserted it (14 R415). -/
  cycle : Nat
  deriving DecidableEq, Repr

/-- A condition that persists (14 R412, kind C): detector, zone and element. -/
structure Cond where
  code : Nat
  zone : Nat
  elem : Nat
  deriving DecidableEq, Repr

/-- The state of an episode slot (14 R441). -/
inductive EpSt where
  | free | opened | recovering | settling | held
  deriving DecidableEq, Repr, Inhabited

/-- A fault-controller episode (14 R416, R418). -/
structure Episode where
  st : EpSt
  id : Nat
  zone : Nat
  level : Nat
  ack : Bool
  attempts : Nat
  first : Nat
  last : Nat
  secondary : Nat
  openMt : Nat
  elems : List Nat
  conds : List Cond
  /-- Distinct detector codes, with the time of the last entry that each code wrote (14 R435). -/
  codes : List (Nat × Nat)
  /-- A reaction of the controller is in force (14 R421). -/
  reacting : Bool
  /-- Whether a fault of level OUTPUT that is not self-reacting has merged (14 R421). -/
  outNonSelf : Bool
  /-- The MODE of the zone when the episode opened (14 R427). -/
  legacy : Bool
  /-- Time at which the settle timer, or the recovery, started; end of the last attempt (14 R419, R420). -/
  since : Nat
  attemptEnd : Nat
  /-- The recovery in progress is a migration (14 R428). -/
  migrating : Bool
  /-- The spare carries the work (14 R428). -/
  migrated : Bool
  /-- Periods on time without a fault counted by a waiting recovery (14 R428). -/
  goodRun : Nat
  /-- Time of the last event that makes the recovery's criterion start again (14 R428). -/
  dirtyAt : Nat
  deriving DecidableEq, Repr, Inhabited

/-- A free episode slot: every field reads 0 (14 R441). -/
def Episode.none_ : Episode where
  st := .free
  id := 0
  zone := 0
  level := 0
  ack := false
  attempts := 0
  first := 0
  last := 0
  secondary := 0
  openMt := 0
  elems := []
  conds := []
  codes := []
  reacting := false
  outNonSelf := false
  legacy := false
  since := 0
  attemptEnd := 0
  migrating := false
  migrated := false
  goodRun := 0
  dirtyAt := 0

/-- One entry of the fault log (14 R433). -/
structure LogEntry where
  seq : Nat
  episode : Nat
  zone : Nat
  srcZone : Nat
  detector : Nat
  kind : Nat
  level : Nat
  sev : Nat
  flags : Nat
  mediaTime : Nat
  missed : Nat
  tbSec : Nat
  data : Nat
  read : Bool
  deriving DecidableEq, Repr

/-- A zone of the overflow set with its worst severity (14 R426), and what its episode will need. -/
structure Ovf where
  zone : Nat
  sev : Nat
  elems : List Nat
  outNonSelf : Bool
  legacy : Bool
  first : Nat
  data : Nat
  deriving DecidableEq, Repr

/-- A released reaction that stays in force until the next boundary (14 R424): zone, level, zone reaction, MODE legacy. -/
structure Leaving where
  zone : Nat
  level : Nat
  zoneReact : Bool
  legacy : Bool
  deriving DecidableEq, Repr

/-- The fault controller. -/
structure Flt where
  reports : List Report
  conds : List Cond
  eps : Vector Episode 16
  nextId : Nat
  stretch : Nat
  pinSev : Nat
  holdMode : Nat
  force : Bool
  settleMs : Nat
  log : List LogEntry
  logSeq : Nat
  /-- Entries dropped since the last entry written, and FLT_LOG_STATUS.MISSED (14 R433, R440). -/
  missedNext : Nat
  missed : Nat
  overflow : Bool
  ovfSet : List Ovf
  leaving : List Leaving
  /-- Time since which at most 12 episodes have been open (14 R426). -/
  lowSince : Option Nat
  /-- CORRECTED counters per zone, and the time of the last CORRECTED entry per (zone, code) (14 R410, R435). -/
  corrected : List (Nat × Nat)
  corrLog : List (Nat × Nat)
  sevCount : Vector Nat 4
  /-- FAULT_N is to be low; the ball goes low no earlier than 10 µs after its last release (14 R431). -/
  pinLow : Bool
  /-- End of the running pulse in ns, and time of the last release. -/
  pulseEnd : Option Nat
  releasedAt : Option Nat
  /-- FAULT hold causes and safe states of R425 in force. -/
  engineSafe : Bool
  deriving DecidableEq, Repr

/-- The fault controller after power-on reset (14 R432, R438 to R440). FAULT_N is released when PD0 leaves reset (assumption
log 44; DEDUCED). -/
def Flt.reset : Flt where
  reports := []
  conds := []
  eps := Vector.replicate 16 Episode.none_
  nextId := 1
  stretch := 0x00A
  pinSev := 1
  holdMode := 0
  force := false
  settleMs := 1000
  log := []
  logSeq := 0
  missedNext := 0
  missed := 0
  overflow := false
  ovfSet := []
  leaving := []
  lowSince := none
  corrected := []
  corrLog := []
  sevCount := Vector.replicate 4 0
  pinLow := false
  pulseEnd := none
  releasedAt := none
  engineSafe := false

end Sys2Proof.Machine
end

