-- ==== Sys2Proof/Machine/BootState.lean ====
section
/-!
DEFINITION. State of flash, firmware slots, staging, trial and OTP (17).
-/
namespace Sys2Proof.Machine

/-- STATE of a boot record (17 R506). -/
inductive RecSt where
  | confirmed | trial | fallback
  deriving DecidableEq, Repr, Inhabited

/-- A valid boot record (17 R506). `slotB` is ACTIVE, VER, SVN and ID stand per slot. -/
structure BootRec where
  seq : Nat
  slotB : Bool
  st : RecSt
  trialBoots : Nat
  requireHost : Bool
  windowS : Nat
  cause : Nat
  ver : Nat × Nat
  svn : Nat × Nat
  id : List Byte × List Byte
  deriving DecidableEq, Repr

/-- The record that holds where no copy is valid (17 R506). -/
def BootRec.dflt : BootRec := ⟨0, false, .confirmed, 0, false, 300, 0, (0, 0), (0, 0), ([], [])⟩

/-- The state of STAGE (17 R515). An open cairn holds IMAGE_SIZE, DIGEST bytes 0 to 15 and the sectors marked complete. -/
inductive StageSt where
  | empty
  | incomplete (size : Nat) (id : List Byte) (part : List Byte)
  | staged (image : List Byte)
  deriving DecidableEq, Repr

/-- Outputs muted for a microcode change or an ENGINE_RESTART (17 R519, R520; 19 R566): boundary count b, gains of the
period before b, and the boundary count of the ramp back in. -/
structure Mute where
  b : Nat
  gains : List Nat
  inAt : Option Nat
  deriving DecidableEq, Repr

/-- Boot, flash and firmware. -/
structure Boot where
  /-- F in bytes (17 R503). -/
  flashBytes : Nat
  recs : Vector (Option BootRec) 2
  /-- Images in RUN_A and RUN_B. -/
  slots : Vector (Option (List Byte)) 2
  stage : StageSt
  /-- The LOG area, oldest entry first (17 R528), and the SEQ of the last entry copied. -/
  log : List LogEntry
  copied : Option Nat
  /-- Boot-structure copies whose header is valid: sequence number and image (17 R504, 03 R113). -/
  structs : Vector (Option (Nat × List Byte)) 2
  /-- Boot-structure copies left to try in this boot. -/
  tryNext : Option Nat
  /-- Detail code of each copy's first failing check (14 R412, BOOT_STRUCT). -/
  structDetail : Vector Nat 2
  /-- Sequence number of CONFIG (17 R505), erase counts per 64 KiB sector. -/
  cfgSeq : Nat
  erases : List (Nat × Nat)
  /-- OTP: steps burned and revocation bits (17 R525, R526). -/
  otp : Nat
  revoked : Nat
  /-- The running slot, its UCODE_ID and VERSION; SPI_MODE and RECOVERY. -/
  runB : Bool
  ucode : Nat
  version : Nat
  spiMode : Bool
  recovery : Bool
  /-- The trial timer's end in ns; a PD1 restart came from it; HOST_CONSENT; HEALTHY; time since which all criteria hold. -/
  trialEnd : Option Nat
  timedOut : Bool
  consent : Bool
  healthy : Bool
  goodSince : Option Nat
  /-- Ports that were ACTIVE before the activation; an episode of zone 0x01 has opened since the reload. -/
  portsWere : List CPort
  ctrlOpened : Bool
  /-- A reload with another microcode waits for boundary b + 64. -/
  reload : Bool
  mute : Option Mute
  deriving DecidableEq, Repr

/-- The erase counts of `n` sectors from `first` go up (18 R537) (assumption log 77; DEDUCED). -/
def Boot.erase (b : Boot) (first n : Nat) : Boot :=
  { b with erases := (List.range n).foldl (fun e i => insertKey e (first + i) ((lookup? e (first + i)).getD 0 + 1)) b.erases }

/-- Flash and OTP of a part without content (assumption log 6). -/
def Boot.reset : Boot where
  flashBytes := 0x4000000
  recs := Vector.replicate 2 none
  slots := Vector.replicate 2 none
  stage := .empty
  log := []
  copied := none
  structs := Vector.replicate 2 none
  tryNext := none
  structDetail := Vector.replicate 2 0
  cfgSeq := 0
  erases := []
  otp := 0
  revoked := 0
  runB := false
  ucode := 0
  version := 0
  spiMode := false
  recovery := false
  trialEnd := none
  timedOut := false
  consent := false
  healthy := false
  goodSince := none
  portsWere := []
  ctrlOpened := false
  reload := false
  mute := none

end Sys2Proof.Machine
end

