-- ==== Sys2Proof/Machine/PstState.lean ====
section
/-!
DEFINITION. State of the power-stage interface (13): channels, rails, sense converters.
-/
namespace Sys2Proof.Machine

/-- The state of a channel (13 R397). -/
inductive ChSt where
  | off | held | softstart | run | tripped | latched
  deriving DecidableEq, Repr, Inhabited

/-- One modulator channel Mk. In a BTL pair the pair's state stands in M2k and is mirrored in M2k+1 (13 R379). -/
structure Chan where
  st : ChSt
  /-- Hold causes of the channel itself (13 R396); SAFE_N and TW are engine-wide. -/
  flt : Bool
  rail : Bool
  host : Bool
  sense : Bool
  /-- Boundary count of the first soft-start period; none until its boundary. -/
  ssFrom : Option Nat
  /-- A stop ramp: boundary count of its first period, and g_p; none until that boundary (13 R399). -/
  stop : Option (Option (Nat × Nat))
  /-- Boundary count from which a channel whose stop ramp has ended may restart (13 R399). -/
  resume : Option Nat
  /-- The channel gain g of the present period, S5.27. -/
  gain : Nat
  hiccup : Option Nat
  /-- Trips held, oldest first: time in ns and media time. -/
  hist : List (Nat × Nat)
  latchDc : Bool
  trips : Nat
  peak : Nat
  tripMt : Nat
  limitCycles : Nat
  modClip : Nat
  /-- Slot values read in the last periods, newest first: what the interpolator sees (13 R384). -/
  inHist : List Slot
  integ : Int
  /-- The modulation of the last tick, S8.24. -/
  u : Int
  frozen : Bool
  /-- The present cycle: high steps h, length c, whether h was limited, whether LIMIT ended it. -/
  high : Nat
  cycle : Nat
  cycLim : Bool
  limEnd : Bool
  /-- Grid step at which the present cycle started, counted from the boundary that opened the period, and whether the cycle before
  it ended on the high side (13 R381, R389). -/
  start : Int
  fromHigh : Bool
  /-- Where LIMIT acted in the present cycle: on the positive side or not, and the grid step (13 R389). -/
  limAt : Option (Bool × Int)
  /-- Cycles that LIMIT ended in this period, and periods in a row with at least half (13 R389). -/
  limActs : Nat
  limRun : Nat
  /-- DC detection (13 R395): sum and ticks of the running block, whether it is whole and in RUN; the block that ended. -/
  dcSum : Int
  dcN : Nat
  dcOk : Bool
  dcEnd : Option (Int × Nat × Bool)
  dcRun : Nat
  dcSign : Int
  /-- Tick readings of the period, oldest first, S1.15. -/
  csT : List Int
  vsT : List Int
  deriving DecidableEq, Repr, Inhabited

/-- A channel at reset: OFF. -/
def Chan.reset : Chan where
  st := .off
  flt := false
  rail := false
  host := false
  sense := false
  ssFrom := none
  stop := none
  resume := none
  gain := 0
  hiccup := none
  hist := []
  latchDc := false
  trips := 0
  peak := 0
  tripMt := 0
  limitCycles := 0
  modClip := 0
  inHist := []
  integ := 0
  u := 0
  frozen := false
  high := 0
  cycle := 0
  cycLim := false
  limEnd := false
  start := 0
  fromHigh := false
  limAt := none
  limActs := 0
  limRun := 0
  dcSum := 0
  dcN := 0
  dcOk := false
  dcEnd := none
  dcRun := 0
  dcSign := 0
  csT := []
  vsT := []

/-- The settings of a rail in mV (13 R393). -/
structure RailCfg where
  rsFs : Nat
  nom : Nat
  uv : Nat
  ov : Nat
  deriving DecidableEq, Repr, Inhabited

/-- A rail (13 R393, R394, R402). -/
structure Rail where
  cfg : Option RailCfg
  outside : Bool
  uv : Bool
  ov : Bool
  /-- Last tick reading, U0.16 of RS_FS_MV. -/
  reading : Nat
  deriving DecidableEq, Repr, Inhabited

/-- A sense converter (13 R387, 18 R546, R547): CS0 to CS31 are 0 to 31, VS 32 to 63, RS 64 to 67, SCR 68 to 71. -/
structure Conv where
  failed : Bool
  /-- Its trim has failed. -/
  trimBad : Bool
  /-- Time since which a failed converter passes its check. -/
  passSince : Option Nat
  /-- Its PST_SENSE condition stands. -/
  open_ : Bool
  /-- The reserve that stands in for it, the one due at the next boundary, and the time from which the reserve passes. -/
  resv : Option Nat
  resvDue : Option Nat
  resvSince : Option Nat
  /-- The converter takes back over at the next boundary. -/
  back : Bool
  /-- Ticks in a row at a full-scale limit. -/
  fullRun : Nat
  /-- Offset and gain trim. -/
  trim : Int × Int
  deriving DecidableEq, Repr, Inhabited

/-- A converter at reset. -/
def Conv.reset : Conv := ⟨false, false, none, false, none, none, none, false, 0, (0, 0)⟩

/-- Loop settings of a channel (13 R406): KP and KI in S2.30, VS_FS_MV. -/
structure LoopCfg where
  kp : Nat
  ki : Nat
  vsFs : Nat
  deriving DecidableEq, Repr, Inhabited

/-- A PSTAGE_STOP in flight: channels whose gates are not low yet, and the media time of the last that went low. -/
structure StopCmd where
  port : CPort
  handle : Nat
  wait : List Nat
  last : Option Nat
  deriving DecidableEq, Repr

/-- The power-stage interface. -/
structure Pst where
  chans : Vector Chan 32
  /-- Filtered level of SAFE_N is low, and the hold causes SAFE_N and TW. -/
  safeNLow : Bool
  safeN : Bool
  tw : Bool
  rails : Vector Rail 4
  convs : Vector Conv 72
  loops : Vector (Option LoopCfg) 32
  stops : List StopCmd
  deriving DecidableEq, Repr

/-- The power-stage interface at reset. -/
def Pst.reset : Pst where
  chans := Vector.replicate 32 Chan.reset
  safeNLow := false
  safeN := false
  tw := false
  rails := Vector.replicate 4 ⟨none, false, false, false, 0⟩
  convs := Vector.replicate 72 Conv.reset
  loops := Vector.replicate 32 none
  stops := []

end Sys2Proof.Machine
end

