-- ==== Sys2Proof/Machine/NetState.lean ====
section
/-!
DEFINITION. State of the network lanes and the switch (09) and of the stream engine (10).
-/
namespace Sys2Proof.Machine

/-- A stamp (11 R320): timebase seconds, nanoseconds and 2^-16 ns, residence counter, and STEP_SEQ. -/
structure Stamp where
  sec : Nat
  ns : Nat
  frac : Nat
  res : Nat
  step : Nat
  deriving DecidableEq, Repr, Inhabited

/-- What the time-stamp unit does to a departing frame (11 R333, R334). -/
inductive TimeOp where
  | none
  | origin (tsOff corrOff : Nat)
  /-- The ingress residence value of the Pdelay_Req that it answers. -/
  | turnaround (corrOff ingress : Nat)
  /-- Residence correction, with the ingress residence value and a link delay to add. -/
  | residence (corrOff ingress link : Nat)
  deriving DecidableEq, Repr, Inhabited

/-- Where a copy delivered to PE is bound for. -/
inductive PeKind where
  | stream
  | aes67 (streamId : Nat) (strandB : Bool)
  deriving DecidableEq, Repr, Inhabited

/-- A frame in the switch: its bytes without the FCS, the ingress port (8 PE, 9 PC), its arrival (ns since the period
opened, and the period's media time), and what its departure does. -/
structure Frame where
  bytes : List Byte
  ingress : Nat
  arriveOff : Nat
  arriveMt : Nat
  op : TimeOp
  report : Option Nat
  /-- The copy leaves with the complement of its FCS (09 R273). -/
  stomp : Bool
  pe : PeKind
  /-- An identified PTP message for the firmware (11 R331). -/
  ptp : Bool
  /-- The frame it is a copy of, and the time in ns at which its first byte was received or it was built (09 R269, R271). -/
  id : Nat
  first : Nat
  /-- Egress queue of the copy. -/
  queue : Nat
  /-- Forwarded by cut-through: it takes no cell (09 R273). -/
  cut : Bool
  /-- A heartbeat of the lane (09 R253). -/
  hb : Bool
  /-- Ingress stamp of an event message for PC (11 R329). -/
  stamp : Option Stamp
  deriving DecidableEq, Repr, Inhabited

/-- Length of a frame with its FCS (09 R259). -/
def Frame.len (f : Frame) : Nat := f.bytes.length + 4
/-- Cells of a frame (09 R269). -/
def Frame.cells (f : Frame) : Nat := (f.len + 255) / 256

/-- A lane's link state (09 R256). -/
inductive LinkSt where
  | disabled | down | probing | up
  deriving DecidableEq, Repr, Inhabited

/-- A configuration that awaits confirmation (09 R283): the old setting, the deadline, whether it is persisted then. -/
structure Revert where
  old : NetPortCfg
  until_ : Nat
  persist : Bool
  deriving DecidableEq, Repr

/-- One network lane (09). -/
structure Lane where
  cfg : NetPortCfg
  st : LinkSt
  /-- 0 25GBASE-R, 1 10GBASE-R, 2 1000BASE-X, 3 none (09 R278). -/
  mode : Nat
  fec : Nat
  search : Bool
  pcsLock : Bool
  damped : Bool
  exits : Nat
  /-- Times of exits from UP within the last second (09 R258). -/
  exitTimes : List Nat
  lastExit : Nat
  peerPort : Nat
  peerNode : Nat
  /-- A valid heartbeat has been received since the lane's UP entry or its heartbeats began. -/
  peerSeen : Bool
  misses : Nat
  missRun : Nat
  /-- Consecutive heartbeats with PEER_RX 1 and no miss, and the time of the first (09 R256). -/
  goodRun : Nat
  goodSince : Nat
  hbSeq : Nat
  lastRxSeq : Option Nat
  /-- Start of the last heartbeat in ns (09 R254). -/
  hbAt : Option Nat
  backup : Option Nat
  restoreMs : Nat
  frrActive : Bool
  upSince : Nat
  revert : Option Revert
  /-- Counters 0 to 21 of 09 R276; QDROP stands with the queues. -/
  counters : Vector Nat 22
  /-- Times of FEC_UNCORR increments that still count for NET_FEC (09 R277). -/
  fecTimes : List Nat
  /-- Last frame that left the lane, and whether it was stomped. -/
  lastTx : Option (List Byte × Bool)
  /-- Frame in transmission (09 R271). -/
  inTx : Option Frame
  /-- Ingress of the last copy that left the lane by cut-through: the round-robin of claims goes on after it (09 R273). -/
  cutRr : Nat
  synceTx : Bool
  esmcTx : Bool
  /-- SSM of the last ESMC PDU sent (12 R369). -/
  ssmSent : Option Nat
  deriving DecidableEq, Repr, Inhabited

/-- The default PCP map (09 R272). -/
def defaultPcp : Vector Nat 8 := #v[1, 0, 2, 3, 4, 5, 6, 7]

/-- The setting of a lane without one in CONFIG: enabled in rate search (09 R251, R259, R265). -/
def defaultPort : NetPortCfg where
  enable := true
  mode := 3
  fec := 0
  maxFrame := 9216
  hbEn := false
  defaultPcp := 0
  pcpMap := defaultPcp
  floodEn := false
  learnEn := false

/-- A lane at reset (09 R278 to R280). -/
def Lane.reset : Lane where
  cfg := defaultPort
  st := .disabled
  mode := 3
  fec := 0
  search := false
  pcsLock := false
  damped := false
  exits := 0
  exitTimes := []
  lastExit := 0
  peerPort := 0
  peerNode := 0
  peerSeen := false
  misses := 0
  missRun := 3
  goodRun := 0
  goodSince := 0
  hbSeq := 0
  lastRxSeq := none
  hbAt := none
  backup := none
  restoreMs := 1000
  frrActive := false
  upSince := 0
  revert := none
  counters := Vector.replicate 22 0
  fecTimes := []
  lastTx := none
  inTx := none
  cutRr := 0
  synceTx := false
  esmcTx := false
  ssmSent := none

/-- A queue of a switch port (09 R270). -/
structure Queue where
  frames : List Frame
  rsv : Nat
  qmax : Nat
  drops : Nat
  /-- Ingress port of the last frame that left the queue: ties go round-robin after it (09 R271). -/
  rr : Nat
  deriving DecidableEq, Repr, Inhabited

/-- A queue at its default settings. -/
def Queue.reset (q : Nat) : Queue := ⟨[], if 6 ≤ q then 32 else 8, 4096, 0, 0⟩

/-- Cells that a stored frame takes in one queue: port * 8 + queue, cells of the reserve, cells of the shared pool (09 R270). -/
structure Charge where
  ix : Nat
  rsv : Nat
  pool : Nat
  deriving DecidableEq, Repr

/-- A frame stored in the packet memory (09 R269): its charges, and copies that have not left. -/
structure Stored where
  id : Nat
  charges : List Charge
  left : Nat
  deriving DecidableEq, Repr

/-- An entry of the stream table (09 R262); INGRESS 0xFF is ANY. -/
structure StreamEnt where
  id : Nat
  ingress : Nat
  mask : Nat
  queue : Nat
  deriving DecidableEq, Repr, Inhabited

/-- An entry of the MAC table (09 R264). -/
structure MacEnt where
  mac : Nat
  vid : Nat
  static_ : Bool
  mask : Nat
  queue : Nat
  refreshed : Nat
  deriving DecidableEq, Repr, Inhabited

/-- The lanes and the switch. -/
structure Net where
  lanes : Vector Lane 8
  /-- Queues of the ports P0 to P7, PE (8) and PC (9), 8 each. -/
  queues : Vector (Vector Queue 8) 10
  /-- Frames in the packet memory, and the identity of the next frame. -/
  stored : List Stored
  nextId : Nat
  streamTbl : List StreamEnt
  macTbl : List MacEnt
  etherType : Nat
  hbDa : Nat
  nodeMac : Nat
  ageS : Nat
  learnFull : Nat
  eccCorr : Nat
  eccUncorr : Nat
  deriving DecidableEq, Repr

/-- The switch at reset. The node MAC address is written by the firmware (15 R485). -/
def Net.reset : Net where
  lanes := Vector.replicate 8 Lane.reset
  queues := Vector.replicate 10 (Vector.ofFn (fun i : Fin 8 => Queue.reset i.val))
  stored := []
  nextId := 0
  streamTbl := []
  macTbl := []
  etherType := 0x88B5
  hbDa := 0x03F17A000001
  nodeMac := 0
  ageS := 300
  learnFull := 0
  eccCorr := 0
  eccUncorr := 0

/-! The stream engine (10). -/

/-- A received copy of a frame for one media time (10 R298, R299). `first` is the media time of its frame. -/
structure HeldCopy where
  class_ : Nat
  digest : Nat
  belay : Bool
  strandB : Bool
  frame : Nat
  samples : List Slot
  deriving DecidableEq, Repr, Inhabited

/-- A receive state (10 R300). -/
inductive RxRun where
  | muted
  | ramp (k : Nat)
  | run
  | conceal (j : Nat)
  | fade (k : Nat)
  deriving DecidableEq, Repr, Inhabited

/-- Counters of a receive stream (10 R315): ARRIVE and USED by origin and strand PA, PB, BA, BB. -/
structure RxCnt where
  arrive : Vector Nat 4
  used : Vector Nat 4
  format : Nat
  belaySkip : Nat
  window : Nat
  late : Nat
  early : Nat
  unused : Nat
  diverge : Nat
  ssrcChange : Nat
  missing : Nat
  minMargin : Nat
  deriving DecidableEq, Repr, Inhabited

/-- Counters at zero. -/
def RxCnt.zero : RxCnt := ⟨Vector.replicate 4 0, Vector.replicate 4 0, 0, 0, 0, 0, 0, 0, 0, 0, 0, 0xFFFFFFFF⟩

/-- A receive stream (10 R297 to R300). -/
structure RxSt where
  run : RxRun
  held : List (Nat × HeldCopy)
  /-- h of the fade and L per channel. -/
  h : List Slot
  last : List Slot
  cnt : RxCnt
  /-- Frames that have supplied a sample and still hold copies: (frame, origin and strand index). -/
  usedFrames : List (Nat × Nat)
  divergeAt : Option Nat
  lateTimes : List Nat
  ssrc : Option Nat
  deriving DecidableEq, Repr, Inhabited

/-- A receive stream at its start: MUTED without held copies (10 R300). -/
def RxSt.fresh : RxSt := ⟨.muted, [], [], [], RxCnt.zero, [], none, [], none⟩

/-- Samples that a transmit stream has read in one period (10 R286). -/
structure TxRead where
  samples : List Slot
  subst : Bool
  safe : Bool
  deriving DecidableEq, Repr, Inhabited

/-- A transmit stream (10 R288, R303). -/
structure TxSt where
  /-- Reads of the last periods, newest first. -/
  reads : List TxRead
  sentA : Nat
  sentB : Nat
  invalid : Nat
  subst : Nat
  clip : Nat
  /-- Match run, whether it has reached 4,096 since the stream started, and consecutive missing results. -/
  run : Nat
  reached : Bool
  missRun : Nat
  /-- Own frames that wait for the primary's: media time, boundary count of M, VALID and not SUBST, DIGEST, PLANE_TAG. -/
  own : List (Nat × Nat × Bool × Nat × Nat)
  /-- Primary frames that wait for the own frame: media time, VALID and not SUBST, DIGEST, PLANE_TAG. -/
  prim : List (Nat × Bool × Nat × Nat)
  deriving DecidableEq, Repr, Inhabited

/-- A transmit stream at its start. -/
def TxSt.fresh : TxSt := ⟨[], 0, 0, 0, 0, 0, 0, false, 0, [], []⟩

/-- The stream engine. -/
structure Str where
  /-- Receive and transmit streams of the LIVE plane, by STREAM_ID. -/
  rx : List (Nat × RxSt)
  tx : List (Nat × TxSt)
  bindings : List BindEntry
  aligned : Bool
  /-- ALIGNED as frames carry it (10 R304: from the next period). -/
  alignedTx : Bool
  match_ : Nat
  mismatch : Nat
  missing : Nat
  skip : Nat
  alignedAt : Nat
  ctrlMisaddr : Nat
  ctrlBad : Nat
  /-- Transmit safe state by the zone reaction or a microcode gap; every receive copy treated as missing (14 R422). -/
  txSafe : Bool
  rxMissing : Bool
  deriving DecidableEq, Repr

/-- The stream engine at reset. -/
def Str.reset : Str := ⟨[], [], [], false, false, 0, 0, 0, 0, 0, 0, 0, false, false⟩

end Sys2Proof.Machine
end

