-- ==== Sys2Proof/Machine/PlaneState.lean ====
section
/-!
DEFINITION. What a structure plane holds (03 R78 to R98): the records of an image's sections, as data.
-/
namespace Sys2Proof.Machine

/-- A gather entry: X[addr] takes the slot (03 R84). -/
structure GatherEntry where
  addr : Nat
  slot : Nat
  deriving DecidableEq, Repr

/-- A scatter entry: the slot takes a word of X or Y memory (03 R84). -/
structure ScatterEntry where
  y : Bool
  addr : Nat
  slot : Nat
  deriving DecidableEq, Repr

/-- A TILE_PROGRAM body (03 R83). -/
structure TileProg where
  words : List PWord
  proven : Nat
  entryFg : TAddr
  entryBg : TAddr
  bgPresent : Bool
  tag : Nat
  gather : List GatherEntry
  scatter : List ScatterEntry
  deriving DecidableEq, Repr

/-- A TILE_DATA region (03 R86). -/
structure Region where
  y : Bool
  initAlways : Bool
  start : Nat
  words : List DWord
  deriving DecidableEq, Repr

/-- An EXCH_ROUTE record (03 R87). -/
structure Route where
  dst : Nat
  src : Nat
  fade : Bool
  db : Bool
  time : Nat
  deriving DecidableEq, Repr

/-- An XPOINT record (03 R88). -/
structure Xpoint where
  inSlot : Nat
  sum : Nat
  gain : Gain
  deriving DecidableEq, Repr

/-- A SUM_CLASS record (03 R89). -/
structure SumRec where
  sum : Nat
  aux : Bool
  lane : Nat
  out : Nat
  headroom : Nat
  auxLaw : Nat
  thresh : Slot
  release : Nat
  zcTimeout : Nat
  deriving DecidableEq, Repr

/-- A RAMP record (03 R90). -/
structure RampRec where
  ramp : Nat
  db : Bool
  time : Nat
  inSlot : Nat
  sum : Nat
  init : Gain
  deriving DecidableEq, Repr

/-- A DELAY_LINE record (03 R91). -/
structure LineRec where
  line : Nat
  inSlot : Nat
  out : Nat
  delay : Nat
  capacity : Nat
  bufBase : Nat
  deriving DecidableEq, Repr

/-- A STREAM record (03 R92). -/
structure StreamRec where
  rx : Bool
  aes67 : Bool
  channels : Nat
  id : Nat
  first : Nat
  ptime : Nat
  offset : Nat
  roped : Bool
  acceptBelay : Bool
  l16 : Bool
  destMac : Nat
  pcp : Nat
  tagged : Bool
  vid : Nat
  portA : Nat
  portB : Nat
  deriving DecidableEq, Repr, Inhabited

/-- A SAPORT record (03 R93). -/
structure SaRec where
  port : Nat
  format : Nat
  target : Bool
  wordBits : Nat
  chIn : Nat
  chOut : Nat
  inSlot : Nat
  outSlot : Nat
  deriving DecidableEq, Repr, Inhabited

/-- A MODULATOR record (03 R94). -/
structure ModRec where
  channel : Nat
  enabled : Bool
  btl : Bool
  feedback : Bool
  feedfwd : Bool
  fswMult : Nat
  spreadPct : Nat
  deadtime : Nat
  inSlot : Nat
  limitCode : Nat
  tripCode : Nat
  hiccupMs : Nat
  rail : Nat
  dcThresh : Nat
  dcTimeMs : Nat
  csSlot : Nat
  vsSlot : Nat
  deriving DecidableEq, Repr, Inhabited

/-- A REF_POLICY record (03 R95). -/
structure RefPol where
  enableMask : Nat
  priority : List Nat
  wtrS : Nat
  slope : Nat
  stepNs : Nat
  dpllBw : Nat
  softPpt : Nat
  hardPpt : Nat
  deriving DecidableEq, Repr, Inhabited

/-- A FAULT_POLICY record (03 R96). -/
structure FaultPol where
  zone : Nat
  legacy : Bool
  auto : Bool
  deriving DecidableEq, Repr

/-- An ENGINE_POLICY record (03 R96). -/
structure EnginePol where
  avsEn : Bool
  target : Nat
  vmin : Nat
  vmax : Nat
  deriving DecidableEq, Repr

/-- A LATENCY record (03 R97). -/
structure LatRec where
  path : Nat
  srcKind : Nat
  dstKind : Nat
  srcIndex : Nat
  dstIndex : Nat
  latency : Nat
  prev : Nat
  deriving DecidableEq, Repr

/-- The totals of a VERIFY record (03 R98). -/
structure Totals where
  budget : Nat
  tiles : Nat
  xpoints : Nat
  sums : Nat
  ramps : Nat
  lines : Nat
  txStreams : Nat
  rxStreams : Nat
  txChannels : Nat
  rxChannels : Nat
  slotsWritten : Nat
  delayUnits : Nat
  deriving DecidableEq, Repr

/-- The content of a plane. A section that a patch can remove or empty is a list; none where a section is absent and its
absence has a meaning of its own (03 R81). -/
structure Plane where
  /-- The plane digest, 48 bytes (03 R75). -/
  digest : List Byte
  baseRate : Nat
  ditherSeed : BitVec 64
  imageId : BitVec 64
  nodeId : Nat
  patchSeq : Nat
  millinerVersion : Nat
  spare : List Nat
  tiles : List (Nat × TileProg)
  data : List (Nat × List Region)
  routes : List Route
  xpoints : List Xpoint
  sums : List SumRec
  ramps : List RampRec
  lines : List LineRec
  streams : List StreamRec
  saports : List SaRec
  modulators : List ModRec
  refPol : Option RefPol
  faultPol : List FaultPol
  enginePol : EnginePol
  latency : List LatRec
  /-- The (TYPE, INSTANCE) of the sections the plane holds, which REMOVE of a patch looks at (03 R100). -/
  sections : List (Nat × Nat)
  deriving DecidableEq, Repr

end Sys2Proof.Machine
end

