-- ==== Sys2Proof/Machine/TimeState.lean ====
section
/-!
DEFINITION. State of the time-stamp unit (11) and of the reference selector and media clock (12).
-/
namespace Sys2Proof.Machine

/-- The timebase and the residence counter (11 R317, R319), as values of 2^-48 ns at time `at_`, and the increment per ns
tick; their values at a later time follow from the increment. -/
structure Timebase where
  at_ : Nat
  val : Int
  res : Nat
  inc : Nat
  step : Nat
  /-- The timebase as it ran before its last steps and changes of increment, latest first: start, value, residence counter,
  increment, STEP_SEQ (11 R320). -/
  past : List (Nat × Int × Nat × Nat × Nat)
  deriving DecidableEq, Repr, Inhabited

/-- A lane of the time-stamp unit (11 R328, R337, R338, R345). -/
structure TsLane where
  cfg : PtpPortCfg
  linkDelay : Nat
  /-- CAL_RX and CAL_TX of the three modes, signed 2^-16 ns. -/
  calRx : Vector Int 3
  calTx : Vector Int 3
  /-- Report entries, oldest first: stamp, COOKIE, LOST. -/
  fifo : List (Stamp × Nat × Nat)
  /-- The 24 bytes of the report entry that the firmware read last (11 R336). -/
  lastRead : List Byte
  /-- Ingress stamps of the last Pdelay_Req messages delivered to PC, latest first, by sequenceId (11 R329, R333). -/
  reqs : List (Nat × Stamp)
  lost : Nat
  overflow : Bool
  portState : Nat
  meanDelay : Nat
  offset : Int
  /-- The grandmaster's clockClass of the lane's parent (12 R351). -/
  clockClass : Nat
  stampValid : Bool
  rxEvent : Nat
  txEvent : Nat
  reports : Nat
  reportLost : Nat
  tcCorrected : Nat
  e2eDrop : Nat
  corrSat : Nat
  delayReqDrop : Nat
  announceTimeouts : Nat
  /-- Delay_Req messages answered since the second began, and the second. -/
  delayReqs : Nat
  delayReqSec : Nat
  deriving DecidableEq, Repr, Inhabited

/-- PTP settings of a lane without one in CONFIG: disabled (11 R338). -/
def PtpPortCfg.off : PtpPortCfg := ⟨false, false, false, false, false, false, 0, 0, 2, 0, 0, 0⟩

/-- A lane of the time-stamp unit at reset. -/
def TsLane.reset : TsLane where
  cfg := PtpPortCfg.off
  linkDelay := 0
  calRx := Vector.replicate 3 0
  calTx := Vector.replicate 3 0
  fifo := []
  lastRead := []
  reqs := []
  lost := 0
  overflow := false
  portState := 3
  meanDelay := 0
  offset := 0
  clockClass := 255
  stampValid := true
  rxEvent := 0
  txEvent := 0
  reports := 0
  reportLost := 0
  tcCorrected := 0
  e2eDrop := 0
  corrSat := 0
  delayReqDrop := 0
  announceTimeouts := 0
  delayReqs := 0
  delayReqSec := 0

/-- PTP_CONFIG values (11 R344). -/
structure PtpCfg where
  mode : Nat
  profile : Nat
  domain : Nat
  prio1 : Nat
  prio2 : Nat
  twoStep : Bool
  deriving DecidableEq, Repr, Inhabited

/-- The time-stamp unit. -/
structure Ts where
  tb : Timebase
  ppsWidth : Nat
  ppsEn : Bool
  /-- PPS_OUT is high until this time; time of the last rising edge (11 R322). -/
  ppsUntil : Nat
  ppsLast : Option Nat
  snap : Stamp
  snapSeq : Nat
  ovf : BitVec 8
  lanes : Vector TsLane 8
  ptp : PtpCfg
  /-- Boundary stamp of the present period (11 R321). -/
  boundary : Stamp
  deriving DecidableEq, Repr

/-- The time-stamp unit at reset (11 R318, R323 to R325). -/
def Ts.reset : Ts where
  tb := ⟨0, 0, 0, 2 ^ 48, 0, []⟩
  ppsWidth := 0x2710
  ppsEn := false
  ppsUntil := 0
  ppsLast := none
  snap := ⟨0, 0, 0, 0, 0⟩
  snapSeq := 0
  ovf := 0
  lanes := Vector.replicate 8 TsLane.reset
  ptp := ⟨0, 0, 0, 0, 0, false⟩
  boundary := ⟨0, 0, 0, 0, 0⟩

/-- A candidate's state (12 R355). -/
inductive CandSt where
  | disabled | noSignal | qualifying | wtr | eligible
  deriving DecidableEq, Repr, Inhabited

/-- A reference candidate (12 R349 to R355, R373). -/
structure Cand where
  st : CandSt
  rxQl : Nat
  soft : Bool
  qualified : Bool
  /-- Qualified before since reset (12 R354). -/
  before : Bool
  lockout : Bool
  drift10 : Nat
  drift100 : Nat
  /-- Signal at the last evaluation, starts of the present 10 s and 100 s windows (12 R352), and offsets of the last completed
  windows since the signal returned. -/
  signal : Bool
  w10 : Nat
  w100 : Nat
  off10 : Option Int
  off100 : Option Int
  /-- The last completed windows lie within the hard limit; a completed 10 s window stands since the signal or the restart. -/
  hardOk10 : Bool
  hardOk100 : Bool
  /-- A soft crossing in a 10 s window since the last 100 s window ended (12 R353). -/
  soft10 : Bool
  /-- Start of the WTR timer; none while it is held at 0. -/
  wtrSince : Option Nat
  /-- Time of the last ESMC PDU (12 R349), and of the last accepted Sync or edge. -/
  heard : Nat
  /-- Largest deviation of a PPS edge from REF10M's prediction since the last evaluation, in ns (12 R349). -/
  dev : Nat
  /-- A loss of signal while the control processor was paused (12 R367). -/
  lost : Bool
  deriving DecidableEq, Repr, Inhabited

/-- A candidate at reset (12 R351, R373). -/
def Cand.reset (i : Nat) : Cand where
  st := if i = 15 then .eligible else .disabled
  rxQl := if i = 12 then 3 else if i = 13 || i = 14 then 1 else if i = 15 then 5 else 0xF
  soft := false
  qualified := i == 15
  before := false
  lockout := false
  drift10 := if i = 15 then 0 else 0xFFFFFFFF
  drift100 := if i = 15 then 0 else 0xFFFFFFFF
  signal := i == 15
  w10 := 0
  w100 := 0
  off10 := none
  off100 := none
  hardOk10 := false
  hardOk100 := true
  soft10 := false
  wtrSince := none
  heard := 0
  dev := 0
  lost := false

/-- The selector's state (12 R357). -/
inductive SelSt where
  | freerun | pullin | locked | bivouac
  deriving DecidableEq, Repr, Inhabited

/-- The reference selector and the media clock. -/
structure Ref where
  st : SelSt
  sel : Nat
  switches : Nat
  timeValid : Bool
  aligned : Bool
  acquiring : Bool
  /-- A relabel is due at the next boundary (12 R364). -/
  relabel : Bool
  cpHold : Bool
  freqPpt : Int
  /-- The DPLL's integrator in 2^-16 ppt, and its frequencies at the last 1,000 evaluations, latest first (12 R361, R367). -/
  integ : Int
  freqHist : List Int
  /-- Media offset o in 2^-16 ns and media rate r in 2^-16 ns per s. -/
  offset : Int
  rate : Int
  /-- The part of o that r has added below 2^-16 ns, in units of 2^-16 ns times the base rate (12 R363). -/
  offRem : Int
  trim : Int
  cand : Vector Cand 16
  /-- Mean of the present average in ppt, its sum and count of evaluations, time of its start, and whether it is frozen. -/
  base : Int
  baseValid : Bool
  baseHist : List Int
  baseFrozen : Bool
  /-- Time since which the phase error has been at or below 100 ns. -/
  lockSince : Option Nat
  /-- Consecutive phase measurements at or above STEP_NS. -/
  bigErrs : Nat
  wclkEn : Bool
  mult0 : Nat
  mult1 : Nat
  /-- PPS counts with REF10M: whether PPS is qualified follows its candidate. -/
  pol : RefPol
  deriving DecidableEq, Repr

/-- The defaults of 12 R360. -/
def RefPol.dflt : RefPol where
  enableMask := 0xFFFF
  priority := [16, 17, 18, 19, 20, 21, 22, 23, 32, 33, 34, 35, 48, 49, 0, 0]
  wtrS := 60
  slope := 10
  stepNs := 1000
  dpllBw := 100
  softPpt := 1000000
  hardPpt := 4600000

/-- The selector at reset (12 R370, R371). -/
def Ref.reset : Ref where
  st := .freerun
  sel := 0xF
  switches := 0
  timeValid := false
  aligned := false
  acquiring := false
  relabel := false
  cpHold := false
  freqPpt := 0
  integ := 0
  freqHist := []
  offset := 0
  rate := 0
  offRem := 0
  trim := 0
  cand := Vector.ofFn (fun i : Fin 16 => Cand.reset i.val)
  base := 0
  baseValid := false
  baseHist := []
  baseFrozen := false
  lockSince := none
  bigErrs := 0
  wclkEn := false
  mult0 := 0
  mult1 := 0
  pol := RefPol.dflt

end Sys2Proof.Machine
end

