-- ==== Sys2Proof/Machine/CfgState.lean ====
section
/-!
DEFINITION. The settings that the CONFIG area of flash holds (17 R505, and each chapter's PERSIST): kept by every reset.
-/
namespace Sys2Proof.Machine

/-- CONFIG. A list holds an entry per object that has a setting. -/
structure Cfg where
  lanes : List (Nat × NetPortCfg)
  /-- RSV and QMAX, by port * 8 + queue. -/
  queues : List (Nat × (Nat × Nat))
  /-- EtherType, HB_DA, node MAC, AGE_S. -/
  switch : Option (Nat × Nat × Nat × Nat)
  /-- Backup lane and RESTORE_MS. -/
  frr : List (Nat × (Option Nat × Nat))
  ptp : Option PtpCfg
  ptpPorts : List (Nat × PtpPortCfg)
  /-- CAL_RX and CAL_TX, by lane * 3 + mode. -/
  cal : List (Nat × (Int × Int))
  pps : Option (Bool × Nat)
  cands : List (Nat × (Bool × Nat))
  trim : Option Int
  mclk : Option (Bool × Nat × Nat)
  esmc : List (Nat × (Bool × Bool))
  rails : List (Nat × RailCfg)
  loops : List (Nat × LoopCfg)
  calInterval : Option Nat
  /-- STRETCH, PIN_SEV, HOLD_MODE, FORCE and SETTLE_MS (14 R442). -/
  pin : Option (Nat × Nat × Nat × Bool × Nat)
  /-- Masks of ports (15 R449), the node ID (15 R485), and the keys of port C with their floors (15 R473, R475). -/
  privs : List (Nat × (Nat × Nat))
  node : Option Nat
  /-- Ports A and B take a separate PCIe reference clock (19 R569). -/
  sepClockA : Bool
  sepClockB : Bool
  deriving DecidableEq, Repr

/-- An empty CONFIG area (assumption log 6) (assumption log 51; DEDUCED). -/
def Cfg.reset : Cfg := ⟨[], [], none, [], none, [], [], none, [], none, none, [], [], [], none, none, [], none, false, false⟩

end Sys2Proof.Machine
end

