-- ==== Sys2Proof/Machine/HealthState.lean ====
section
/-!
DEFINITION. State of ageing, self-test, spares, maintenance and calibration (18).
-/
namespace Sys2Proof.Machine

/-- A quadrant's spare role (18 R540). -/
inductive QuadSt where
  | ready | migrating | testing | none_
  deriving DecidableEq, Repr, Inhabited

/-- Why work migrates (18 R540). -/
inductive MigCause where
  | test | fault | host
  deriving DecidableEq, Repr, Inhabited

/-- A migration (18 R538): phase 1, 2, or 3 when the switch is due at the next boundary. -/
structure Mig where
  source : Nat
  cause : MigCause
  phase : Nat
  /-- Boundary count at which pass 1 started. -/
  startB : Nat
  /-- The command that waits for it. -/
  cmd : Option (CPort × Nat)
  /-- The held request it serves (18 R543). -/
  queue : Option Nat
  deriving DecidableEq, Repr, Inhabited

/-- A self-test of one tile (18 R542). -/
structure TileTest where
  tile : Nat
  cmd : Option (CPort × Nat)
  queue : Option Nat
  deriving DecidableEq, Repr, Inhabited

/-- One quadrant. -/
structure Quad where
  st : QuadSt
  spare : Option Nat
  mig : Option Mig
  test : Option TileTest
  deriving DecidableEq, Repr, Inhabited

/-- A held test request (18 R543, R549): 0 WAITING, 1 RUNNING, 2 PASS, 3 FAIL, 4 ABORTED. -/
structure HeldTest where
  id : Nat
  tile : Nat
  state : Nat
  deriving DecidableEq, Repr, Inhabited

/-- A full self-test in progress (18 R545). -/
structure FullTest where
  mask : Nat
  port : CPort
  handle : Nat
  deriving DecidableEq, Repr

/-- Wear of one quadrant's SRAM in the last 24 h (18 R537): times of corrected events with their address. -/
abbrev EccEvents := List (Nat × Nat)

/-- The health block. -/
structure Hlt where
  quads : Vector Quad 4
  /-- Tiles out of service (18 R541), kept in CONFIG. -/
  out : List Nat
  held : List HeldTest
  nextId : Nat
  full : Option FullTest
  maint : Bool
  calBlocked : Bool
  /-- CAL_INTERVAL in s, and the time of the last sweep in ns. -/
  calInterval : Nat
  lastSweep : Nat
  /-- Latest ageing ratio of each ring pair in ppm (18 R533). -/
  rings : Vector (Option Int) 56
  /-- Stress hours in 2^-32 h (18 R534). -/
  stress : Nat
  /-- Last 4,096 daily samples, oldest first: stress, A_T in ppm (18 R535). -/
  samples : List (Nat × Int)
  eolYears : Nat
  eolLow : Nat
  conf : Nat
  /-- Levels of TILE_AGE, SRAM, SERDES, FLASH, OTP and SPARE: 0 OK, 1 WATCH, 2 ACT (18 R537). -/
  grades : Vector Nat 6
  ecc : Vector EccEvents 4
  /-- ITIME_PS of the first 30 days of service: REQ_STEP, Tj in 0.1 °C and the largest ITIME_PS of a day (18 R535). -/
  fresh : List (Nat × Int × Nat)
  /-- Eye margin of each lane in mV as last measured, and the measurements of the last 30 days, one in 10 min, oldest first. -/
  eyes : Vector (Option Nat) 8
  eyeHist : Vector (List (Option Nat)) 8
  deriving DecidableEq, Repr

/-- The health block after power-on reset (18 R548) (assumption log 50; DEDUCED). -/
def Hlt.reset : Hlt where
  quads := Vector.ofFn (fun q : Fin 4 => ⟨.ready, some (17 * q.val + 16), none, none⟩)
  out := []
  held := []
  nextId := 1
  full := none
  maint := false
  calBlocked := false
  calInterval := 60
  lastSweep := 0
  rings := Vector.replicate 56 none
  stress := 0
  samples := []
  eolYears := 0xFFFF
  eolLow := 0xFFFF
  conf := 0
  grades := Vector.replicate 6 0
  ecc := Vector.replicate 4 []
  fresh := []
  eyes := Vector.replicate 8 none
  eyeHist := Vector.replicate 8 []

end Sys2Proof.Machine
end

