-- ==== Sys2Proof/Machine/InteriorState.lean ====
section
/-!
DEFINITION. State of the interior and the delay memory: exchange (04), matrix, ramp units and updates (07), planes and
commit (03 R103 to R113), delay lines (08), the AVS loop and the period (02).
-/
namespace Sys2Proof.Machine

/-- A running route fade (04 R130): the unit, both sources, the law, the length and the step written next. -/
structure Fade where
  dst : Nat
  oldSrc : Nat
  newSrc : Nat
  db : Bool
  len : Nat
  step : Nat
  unit : Nat
  deriving DecidableEq, Repr

/-- A late element of zone 0x70 (02 R71, 04 R128): a matrix lane, or the route engine. -/
structure LateElem where
  /-- Completion is signalled in the present period (02 R28). -/
  done : Bool
  /-- The tick of that signal, as the deadline monitor records it (02 R28). -/
  tick : Option Nat
  l : Lateness
  deriving DecidableEq, Repr, Inhabited

/-- A late element at reset. -/
def LateElem.reset : LateElem := ⟨false, none, Lateness.reset⟩

/-- The signal exchange (04 R120 to R131). -/
structure Exch where
  /-- The read half, sparse: an unlisted slot reads 0 (04 R122). -/
  readHalf : Sparse 32
  /-- The write half: the slots written in this period, with their values, keys rising (04 R122). -/
  writeHalf : List (Nat × Slot)
  /-- Slots of the read half whose value is a substitute (10 R293). -/
  readSub : List Nat
  /-- Slots of the write half whose value is a substitute. -/
  writeSub : List Nat
  route : LateElem
  fades : List Fade
  deriving DecidableEq, Repr

/-- A sum output's running state (07 R212, R215). -/
structure SumSt where
  lg : Nat
  prev : Int
  lgMin : Nat
  overs : Nat
  clip : Nat
  /-- Scale applied in the last period, start, target and position of its ramp (07 R215). -/
  scale : Nat
  scale0 : Nat
  target : Nat
  pos : Nat
  /-- Active inputs of the last completed period (07 R214). -/
  n : Nat
  deriving DecidableEq, Repr, Inhabited

/-- A crosspoint's running state (07 R218). `pend` is the target, the boundary b of the request, and whether the step is
overdue because its last period was late. -/
structure XptSt where
  p : Gain
  target : Gain
  pend : Option Nat
  /-- Sign of the input in the last period the lane completed; none for a new crosspoint (07 R217). -/
  sign : Option Bool
  /-- Gain of the last completed period (07 R231). -/
  last : Gain
  deriving DecidableEq, Repr, Inhabited

/-- A ramp unit (07 R222). RAMPING holds g0, g1, T, the law and the boundary p. -/
inductive RampSt where
  | free
  | hold (g : Gain)
  | ramping (g0 g1 : Gain) (t : Nat) (db : Bool) (p : Nat)
  /-- A route fade in the unit; `dst` is the route's DST_SLOT. -/
  | fade (dst : Nat)
  deriving DecidableEq, Repr, Inhabited

/-- A parameter update entry (07 R224 to R230). -/
inductive UpdEntry where
  | xpt (e : XpointEntry)
  | ramp (e : RampEntry)
  | word (k : Nat) (y : Bool) (addr : Nat) (v : DWord)
  deriving DecidableEq, Repr

/-- The state of a safe-load group (07 R225). -/
inductive GroupSt where
  | empty | filling | armed | locked
  deriving DecidableEq, Repr, Inhabited

/-- A safe-load group (07 R225). -/
structure Group where
  st : GroupSt
  owner : CPort
  entries : List UpdEntry
  boundary : Nat
  /-- Handle of the pending SAFE_APPLY. -/
  handle : Nat
  deriving DecidableEq, Repr, Inhabited

/-- A group at reset. -/
def Group.reset : Group := ⟨.empty, .A, [], 0, 0⟩

/-- A direct update that waits for its boundary (07 R224, R227, R228). -/
structure Direct where
  boundary : Nat
  /-- Place of its command in the order of acceptance (07 R227). -/
  seq : Nat
  port : CPort
  handle : Nat
  entries : List UpdEntry
  deriving DecidableEq, Repr

/-- Matrix, ramp units and updates (07). -/
structure Mtx where
  lanes : Vector LateElem 48
  sums : List (Nat × SumSt)
  /-- Crosspoints by key: SUM * 65,536 + IN_SLOT. -/
  xpts : List (Nat × XptSt)
  ramps : Vector RampSt 256
  groups : Vector Group 16
  direct : List Direct
  deriving DecidableEq, Repr

/-- The state of SHADOW (03 R103). CHECKING keeps the state before it: true for READY. -/
inductive ShSt where
  | empty | ready | checking (fromReady : Bool) | writing | armed | locked
  deriving DecidableEq, Repr, Inhabited

/-- The kind of plane command in flight. -/
inductive PlaneKind where
  | load | patch | copy
  deriving DecidableEq, Repr

/-- The LOAD, PATCH or COPY in flight (03 R103, R104), with the plane its checks built. -/
structure PlaneCmd where
  port : CPort
  handle : Nat
  kind : PlaneKind
  source : Nat
  /-- The boot copy that is read where SOURCE is not a buffer, as the command chose it at its start (03 R618). -/
  copy : Nat
  len : Nat
  /-- The DIGEST that the checks accepted, and the content to be written. -/
  digest : List Byte
  cand : Option Plane
  /-- The load is the firmware's own, of the boot structure (03 R113). -/
  boot : Bool
  deriving DecidableEq, Repr

/-- An armed or locked commit (03 R105). `boundary` is none while BOUNDARY 0 waits for the R54 confirmation. -/
structure Commit where
  port : CPort
  handle : Nat
  start : Nat
  boundary : Option Nat
  /-- The R54 guard asked for VMAX_STEP; `confirmed` once the regulator confirmed it. -/
  guard : Bool
  confirmed : Bool
  boot : Bool
  deriving DecidableEq, Repr

/-- A structure-signing key: KEY_ID, x and y of the public key, REQUIRE (03 R116). -/
structure SigKey where
  id : Nat
  key : List Byte
  require : Bool
  deriving DecidableEq, Repr

/-- Planes and their life cycle (03). -/
structure Planes where
  live : Option Plane
  shadow : Option Plane
  st : ShSt
  cmd : Option PlaneCmd
  commit : Option Commit
  /-- The structure-signing key held in CONFIG (03 R116). -/
  sigKey : Option SigKey
  deriving DecidableEq, Repr

/-- The delay memory's state (08 R243). -/
inductive DmSt where
  | off | training | up | down | failed
  deriving DecidableEq, Repr, Inhabited

/-- A delay line's running state (08 R233, R244). -/
structure LineSt where
  /-- Boundary count of the start period s; none until the memory has been UP (08 R243, R245). -/
  s : Option Nat
  /-- Values of IN_SLOT from past periods since s, newest first. -/
  hist : List Slot
  /-- The value written in the last period (08 R244: the hold value). -/
  lastOut : Slot
  holds : Nat
  /-- Periods whose sample is replaced by the hold value, with the period of the detection, as boundary counts (08 R244). -/
  repl : List (Nat × Nat)
  lateRun : Nat
  lateLast : Option Nat
  deriving DecidableEq, Repr, Inhabited

/-- The delay memory (08). -/
structure Dm where
  st : DmSt
  attempt : Nat
  /-- A failed attempt waits for its retry (08 R243). -/
  retryWait : Bool
  /-- Capacity in GiB as MR8 gave it, and the last capacity recorded in CONFIG (08 R236, R239). -/
  g : Option Nat
  gRec : Option Nat
  rate : Nat
  corr : Nat
  uncorr : Nat
  late : Nat
  lastPass : Nat
  refresh : Nat
  /-- Times in ns of DM_UNCORR on line reads that still count (08 R245, 14 R619). -/
  uncorrTimes : List Nat
  /-- The rule of 08 R245 in force: step k of the fade, the fence, or the ramp after it, with h per line. -/
  rule : Option React
  /-- The memory is UP again: the lines leave the rule at the next boundary (08 R245). -/
  leave : Bool
  lines : List (Nat × LineSt)
  scrubPos : Nat
  /-- DELAY_MEM_RETRAIN that waits for its end: port and handle. -/
  retrain : Option (CPort × Nat)
  /-- Interval-oscillator readings adjusted (08 R238): count of tracking reads. -/
  tracks : Nat
  /-- Rate and scrub pass time held in CONFIG (08 R239, R242). -/
  cfgRate : Option Nat
  cfgScrub : Option Nat
  deriving DecidableEq, Repr

/-- The delay memory at reset (08 R243: TRAINING begins at reset end). -/
def Dm.reset : Dm where
  st := .off
  attempt := 0
  retryWait := false
  g := none
  gRec := none
  rate := 0
  corr := 0
  uncorr := 0
  late := 0
  lastPass := 0
  refresh := 0
  uncorrTimes := []
  rule := none
  leave := false
  lines := []
  scrubPos := 0
  retrain := none
  tracks := 0
  cfgRate := none
  cfgScrub := none

/-- The state of a serial audio port (04 R143). -/
inductive SaRun where
  | disabled | acquire | locked
  deriving DecidableEq, Repr, Inhabited

/-- A serial audio port (04 R138 to R144). -/
structure SaSt where
  st : SaRun
  /-- Consecutive good frames of the target role in ACQUIRE. -/
  good : Nat
  /-- The port was LOCKED at the boundary that opened the present period: slips of the interval count. -/
  armed : Bool
  /-- Slot values of the frames that ended in this interval, oldest first, with the end time in ns. -/
  rx : List (List Slot × Nat)
  /-- Frames that started in this interval. -/
  txCount : Nat
  /-- Receive slot values kept from the last assignment. -/
  vals : List Slot
  /-- Values read in the period before the present one: a controller's frame that starts up to 10 ns after the boundary
  carries them. -/
  txPrev : List Slot
  /-- Channel-slot words that DOUT carries in the present frame. -/
  dout : List DWord
  phaseWarn : Bool
  fsOffset : Int
  rxPhase : Nat
  txPhase : Nat
  slipDrop : Nat
  slipRepeat : Nat
  loss : Nat
  clip : Nat
  /-- The zone reaction of 14 R422 is in force on the port. -/
  react : Bool
  deriving DecidableEq, Repr, Inhabited

/-- A serial audio port at reset: disabled. -/
def SaSt.reset : SaSt := ⟨.disabled, 0, false, [], 0, [], [], [], false, 0, 0, 0, 0, 0, 0, 0, false⟩

/-- A TILE_REPORT in progress (05 R181). -/
structure TileRep where
  port : CPort
  handle : Nat
  k : Nat
  first : Nat
  count : Nat
  addr : Nat
  /-- Words copied so far, parked intervals used, and media time of the first period copied. -/
  words : List DWord
  span : Nat
  firstMt : Nat
  /-- The present parked interval began before the command started and does not count. -/
  skip : Bool
  deriving DecidableEq, Repr

/-- The state of the AVS loop (02 R57). -/
inductive AvsSt where
  | off | hold | track | failed
  deriving DecidableEq, Repr, Inhabited

/-- The AVS loop and its registers (02 R49 to R62). -/
structure Avs where
  target : Nat
  vmin : Nat
  vmax : Nat
  hold : Bool
  en : Bool
  req : Nat
  ack : Nat
  st : AvsSt
  lowRun : Nat
  attempts : Nat
  cfgErr : Bool
  failedSeen : Bool
  emergSeen : Bool
  atVmin : Bool
  atVmax : Bool
  /-- A request waits for confirmation (02 R56). -/
  waiting : Bool
  /-- A failed attempt waits for its repeated write. -/
  retryDue : Bool
  /-- Hold timer: expiry in ns, or as a count of windows from a boundary of the media time (02 R57). -/
  holdUntil : Option Nat
  holdFrom : Nat
  holdWindows : Option Nat
  expired : Bool
  /-- No raise of R52 before this time (02 R52). -/
  emergBlock : Nat
  /-- The request before the causes of the boundary that opened the period (02 R55). -/
  winBase : Nat
  deriving DecidableEq, Repr

/-- The AVS loop at reset (02 R58, R60 to R62). -/
def Avs.reset : Avs where
  target := 0x46
  vmin := 0x0A
  vmax := 0x3C
  hold := false
  en := false
  req := 0x3C
  ack := 0x3C
  st := .off
  lowRun := 0
  attempts := 0
  cfgErr := false
  failedSeen := false
  emergSeen := false
  atVmin := false
  atVmax := false
  waiting := false
  retryDue := false
  holdUntil := none
  holdFrom := 0
  holdWindows := none
  expired := false
  emergBlock := 0
  winBase := 0x3C

/-- The period and its window (02 R26, R36, R38 to R41; 12 R364). -/
structure Per where
  baseRate : Nat
  /-- 64-bit media time of the present period. -/
  mediaTime : Nat
  /-- Boundaries since the start, for rules that count periods. -/
  boundaries : Nat
  /-- Time of the boundary that opened the period, in ns. -/
  openedAt : Nat
  /-- The media clock has opened a period since the reset that started it (12 R364). -/
  started : Bool
  deadlineDone : Bool
  parkDone : Bool
  wndPeriods : Nat
  windows : Nat
  fmax : Nat
  slowest : Nat
  /-- A window has ended and WINDOW_END is due (02 R51). -/
  wndDue : Bool
  deriving DecidableEq, Repr

/-- The period at reset: 96 kHz (03 R114) (assumption log 83; DESIGN CHOICE). -/
def Per.reset : Per where
  baseRate := 3
  mediaTime := 0
  boundaries := 0
  openedAt := 0
  started := false
  deadlineDone := false
  parkDone := false
  wndPeriods := 0
  windows := 0
  fmax := 0
  slowest := 0
  wndDue := false

/-- The exchange at reset: every slot reads 0 (03 R114). -/
def Exch.reset : Exch := ⟨[], [], [], [], LateElem.reset, []⟩

/-- Matrix and updates at reset. -/
def Mtx.reset : Mtx where
  lanes := Vector.replicate 48 LateElem.reset
  sums := []
  xpts := []
  ramps := Vector.replicate 256 .free
  groups := Vector.replicate 16 Group.reset
  direct := []

/-- Planes at reset: no structure LIVE, SHADOW EMPTY (03 R103). -/
def Planes.reset : Planes := ⟨none, none, .empty, none, none, none⟩

end Sys2Proof.Machine
end

