-- ==== Sys2Proof/Machine/MonState.lean ====
section
/-!
DEFINITION. State of the supply and temperature monitors (14 R413, R414; 20 R589, R592) and of the IEEE 1149.1 port
(20 R603).
-/
namespace Sys2Proof.Machine

/-- A temperature detector: its condition is present, and the time since which every sensor reads at or beyond the end
threshold (14 R413). -/
structure TempMon where
  on : Bool
  okSince : Option Nat
  deriving DecidableEq, Repr, Inhabited

/-- A supply monitor: the reading in 0.1 mV, the time since which it lies outside its limits, or within them, and whether its
condition is present (14 R412, R414). -/
structure RailMon where
  reading : Nat
  outSince : Option Nat
  inSince : Option Nat
  on : Bool
  deriving DecidableEq, Repr, Inhabited

/-- The monitors. -/
structure Mon where
  /-- The 16 temperature sensors, in 0.1 °C (14 R413, 20 R592). -/
  temps : Vector Int 16
  warn : TempMon
  crit : TempMon
  low : TempMon
  /-- The 12 supply monitors, in the order of 19 R551. -/
  rails : Vector RailMon 12
  deriving DecidableEq, Repr

/-- Nominal value and POR threshold in 0.1 mV of the rails in the order of 19 R551; VDD_TILE starts at 0.85 V (19 R555). -/
def railTable : List (Nat × Nat) :=
  [(7500, 6800), (33000, 29700), (18000, 16200), (18000, 16200), (18000, 16200), (7500, 6800), (8000, 7200), (8500, 8000),
   (8500, 7700), (12000, 10800), (10500, 9500), (5000, 4500)]

/-- The monitors after power-on reset: rails at their nominal values, sensors at 25.0 °C (assumption log 98; DESIGN CHOICE). -/
def Mon.reset : Mon where
  temps := Vector.replicate 16 250
  warn := ⟨false, none⟩
  crit := ⟨false, none⟩
  low := ⟨false, none⟩
  rails := Vector.ofFn (fun i : Fin 12 => ⟨(railTable.getD i.val (0, 0)).1, none, none, false⟩)

/-- The states of a test access port controller (IEEE 1149.1) (assumption log 99; PRESUMED). -/
inductive TapSt where
  | reset | idle | selDr | capDr | shDr | ex1Dr | pauDr | ex2Dr | updDr | selIr | capIr | shIr | ex1Ir | pauIr | ex2Ir | updIr
  deriving DecidableEq, Repr, Inhabited

/-- The IEEE 1149.1 port (20 R603): level of TRST_N, controller, 6-bit instruction register with its shift stage, bypass bit,
and the boundary-scan chain with its update stage, one cell for each of the 128 balls that it covers. -/
structure Jtag where
  trstN : Bool
  tap : TapSt
  ir : BitVec 6
  irShift : BitVec 6
  bypass : Bool
  chain : List Bool
  latch : List Bool
  deriving DecidableEq, Repr

/-- The test logic in reset: the board ties TRST_N low in service (20 R603) (assumption log 99; PRESUMED). -/
def Jtag.reset : Jtag where
  trstN := false
  tap := .reset
  ir := 0x3F
  irShift := 0x3F
  bypass := false
  chain := List.replicate 128 false
  latch := List.replicate 128 false

end Sys2Proof.Machine
end

