-- ==== Sys2Proof/Machine/PortState.lean ====
section
/-!
DEFINITION. State of the command ports (15) and of the register access rules and events (21).
-/
namespace Sys2Proof.Machine

/-- A status code of 00 R10, encoded as 15 R460 gives. -/
inductive Status where
  | ok | deferred | rejectedArgs | rejectedState | resource | late | timeout | aborted | denied | integrity
  deriving DecidableEq, Repr, Inhabited

/-- The STATUS byte (15 R460). -/
def Status.code : Status → Nat
  | .ok => 0 | .deferred => 1 | .rejectedArgs => 2 | .rejectedState => 3 | .resource => 4 | .late => 5 | .timeout => 6
  | .aborted => 7 | .denied => 8 | .integrity => 9

/-- A completion entry (15 R459). KIND 1 is ACCEPT, 2 COMPLETE, 3 CONT. `data` is the RESULT part of the entry. -/
structure Entry where
  kind : Nat
  handle : Nat
  tag : BitVec 32
  opcode : Nat
  status : Nat
  detail : Nat
  /-- CONT_COUNT of a COMPLETE, SEQ of a CONT. -/
  count : Nat
  sqHead : Nat
  data : List Byte
  /-- PHASE and ring index at which the entry was written; on port C, which has no ring, the CMD frame in whose reply an
  ACCEPT entry goes out (15 R471). -/
  phase : Bool
  index : Nat
  deriving DecidableEq, Repr

/-- The entries of one COMPLETE that wait for space (15 R457, R461): whether its interrupt is suppressed (R467), and the
masks of a port that change when it is written (R450). -/
structure WGroup where
  entries : List Entry
  quiet : Bool
  masks : Option (CPort × Nat × Nat)
  deriving DecidableEq, Repr

/-- A command in flight (15 R445). -/
structure Flight where
  handle : Nat
  cmd : Instr
  tag : BitVec 32
  fence : Bool
  irqSuppress : Bool
  started : Bool
  /-- Waits in the flash queue (15 R470). -/
  flash : Bool
  /-- Boundary counts of the accept period and of the start period (03 R105, 07 R224, 12 R365). -/
  acceptB : Nat
  startB : Nat
  /-- State.now at its start, from which its time limit runs (15 R470). -/
  startT : Nat
  /-- Its place in the order of acceptance over all ports (07 R227). -/
  seq : Nat
  /-- Masks in force when the descriptor was taken (15 R450). -/
  groups : Nat
  privs : Nat
  /-- Lane on which the CMD frame arrived, for port C (19 R558). -/
  lane : Nat
  deriving DecidableEq, Repr

/-- The state of a port (15 R462). -/
inductive PortSt where
  | disabled | active | error | draining
  deriving DecidableEq, Repr, Inhabited

/-- One command port. -/
structure PortS where
  st : PortSt
  sqBase : BitVec 64
  cqBase : BitVec 64
  sqLog2 : Nat
  cqLog2 : Nat
  completeVec : Nat
  acceptVec : Nat
  completeIrq : Bool
  acceptIrq : Bool
  enable : Bool
  sqHead : Nat
  sqTail : Nat
  cqHead : Nat
  cqTail : Nat
  phase : Bool
  cqFullSeen : Bool
  dmaErr : Bool
  doorbellErr : Bool
  setupErr : Bool
  groups : Nat
  privs : Nat
  /-- Descriptors placed in the submission queue, oldest first, with the key masks and lane of a CMD frame (port C). -/
  placed : List Instr
  /-- Descriptors that a doorbell or a CMD frame has made available and that are not taken yet. -/
  avail : Nat
  flights : List Flight
  /-- Entries in the completion ring that the host has not freed, oldest first. -/
  ring : List Entry
  /-- The last entry written at each ring index: the completion queue's memory (15 R458, 16 R499). -/
  mem : List (Nat × Entry)
  /-- COMPLETE groups that wait for space (15 R457, R461). -/
  waiting : List WGroup
  waitSince : Option Nat
  /-- Since when the completion queue has no free entry (15 R465, R482). -/
  fullSince : Option Nat
  nextHandle : Nat
  accepted : Nat
  completed : Vector Nat 10
  discarded : Nat
  /-- Time in ns during which an entry waited for space, up to the last wait that ended; a clear during a wait starts below 0. -/
  cqFullNs : Int
  /-- The PCIe link is up (15 R488). -/
  linkUp : Bool
  deriving DecidableEq, Repr, Inhabited

/-- A port at reset (15 R449, R463 to R465) (assumption log 51; DEDUCED). -/
def PortS.reset (st : PortSt) (groups privs : Nat) : PortS where
  st := st
  sqBase := 0
  cqBase := 0
  sqLog2 := 4
  cqLog2 := 4
  completeVec := 1
  acceptVec := 0
  completeIrq := false
  acceptIrq := false
  enable := false
  sqHead := 0
  sqTail := 0
  cqHead := 0
  cqTail := 0
  phase := true
  cqFullSeen := false
  dmaErr := false
  doorbellErr := false
  setupErr := false
  groups := groups
  privs := privs
  placed := []
  avail := 0
  flights := []
  ring := []
  mem := []
  waiting := []
  waitSince := none
  fullSince := none
  nextHandle := 1
  accepted := 0
  completed := Vector.replicate 10 0
  discarded := 0
  cqFullNs := 0
  linkUp := false

/-- A key of port C (15 R473, R475). -/
structure Key where
  material : List Byte
  groups : Nat
  privs : Nat
  highest : Nat
  floor : Nat
  reply : Nat
  /-- Floor of the reply counter (15 R475). -/
  replyFloor : Nat
  deriving DecidableEq, Repr

/-- A recorded port C command (15 R477). -/
structure CRec where
  tag : BitVec 32
  handle : Nat
  entries : List Entry
  deriving DecidableEq, Repr

/-- What is special to port C (15 R471 to R477). -/
structure PortC where
  keys : List (Nat × Key)
  recs : List CRec
  /-- KEY_ID, lane and number of the CMD frame of each descriptor that is not taken yet (15 R471). -/
  frames : List (Nat × Nat × Nat)
  /-- CMD frames accepted, and the number of the one whose descriptor was taken last. -/
  frameNo : Nat
  taking : Nat
  /-- The 64 bytes of each of these descriptors (10 R307, 15 R451). -/
  descs : List (List Byte)
  /-- Entries held for a CMD_REPLY frame, oldest first (15 R472). -/
  held : List Entry
  /-- KEY_ID, source address and lane of the last authenticated frame, to which replies go. -/
  lastKey : Nat
  lastMac : Nat
  lastLane : Nat
  /-- Tag control information of that frame; none where it had no tag. -/
  lastTag : Option Nat
  authFail : Nat
  replayFail : Nat
  keyUnknown : Nat
  resent : Nat
  /-- Time of the last CMD_AUTH report, and times of the refusals of the last second, per cause (15 R476). -/
  refTime : Vector (Option Nat) 3
  refTimes : Vector (List Nat) 3
  deriving DecidableEq, Repr

/-- Port C at reset. -/
def PortC.reset : PortC := ⟨[], [], [], 0, 0, [], [], 0, 0, 0, none, 0, 0, 0, 0, Vector.replicate 3 none, Vector.replicate 3 []⟩

/-- A step of the unlock sequence of one requester at one block (21 R610). -/
inductive LockSt where
  | locked
  /-- KEY 0x1ACC was written at this time. -/
  | half (at_ : Nat)
  | unlocked (at_ : Nat)
  /-- Unlocked at `at_`, and KEY 0x1ACC was written again at `half`. -/
  | again (at_ half : Nat)
  deriving DecidableEq, Repr, Inhabited

/-- The blocks that have an access register (21 R609). -/
inductive Block where
  | net | ts | ref | pst | flt | cmd | boot | hlt
  deriving DecidableEq, Repr

/-- A block's number in a bank. -/
def Block.ix : Block → Nat
  | .net => 0 | .ts => 1 | .ref => 2 | .pst => 3 | .flt => 4 | .cmd => 5 | .boot => 6 | .hlt => 7

/-- One access register with the lock state of each requester (21 R609, R610). -/
structure Access where
  widthErr : Bool
  violD : Bool
  violB : Bool
  violA : Bool
  lockViol : Bool
  lockA : LockSt
  lockB : LockSt
  lockD : LockSt
  deriving DecidableEq, Repr, Inhabited

/-- An access register at reset. -/
def Access.reset : Access := ⟨false, false, false, false, false, .locked, .locked, .locked⟩

/-- The ports, the access registers and the events. -/
structure Ports where
  a : PortS
  b : PortS
  c : PortS
  d : PortS
  pc : PortC
  /-- The flash queue: ports and handles in order of start (15 R470). -/
  flashQ : List (CPort × Nat)
  /-- The command whose flash operation has begun. -/
  flashOn : Option (CPort × Nat)
  /-- When it began: the timer of class FLASH runs from there (15 R470). -/
  flashAt : Nat
  /-- Descriptors taken since reset: the order of acceptance (07 R227). -/
  taken : Nat
  access : Vector Access 8
  /-- CMD_EVENT_EN and CMD_EVENT_PEND of functions A and B, bits [11:2] (21 R615). -/
  evEn : Vector (BitVec 12) 2
  evPend : Vector (BitVec 12) 2
  /-- MSI-X table words that differ from their reset value, and pending bits, of functions A and B (21 R607). -/
  msixTable : Vector (List (Nat × BitVec 32)) 2
  msixPend : Vector (BitVec 64) 2
  /-- MSI-X messages signalled, latest first: function (0 A, 1 B) and vector (21 R614, 15 R467). -/
  msix : List (Nat × Nat)
  /-- Completions decided while command service is paused, in order: port, handle, status, DETAIL, RESULT (03 R111). -/
  deferred : List (CPort × Nat × Status × Nat × List Byte)
  /-- The value that the last register read returned (21 R608). -/
  readValue : Nat
  /-- Writes into host buffers by the engine, latest first: port, address, bytes. -/
  hostWrites : List (CPort × Nat × List Byte)
  deriving DecidableEq, Repr

/-- Ports after a reset (15 R449, 21 R609, R615). Ports C and D are served whenever command service runs (15 R465). -/
def Ports.reset : Ports where
  a := PortS.reset .disabled 0x03FE 0x7F
  b := PortS.reset .disabled 0x03FE 0x1F
  c := PortS.reset .active 0x0000 0x00
  d := PortS.reset .active 0x02E0 0x0C
  pc := PortC.reset
  flashQ := []
  flashOn := none
  flashAt := 0
  taken := 0
  access := Vector.replicate 8 Access.reset
  evEn := Vector.replicate 2 0
  evPend := Vector.replicate 2 0
  msixTable := Vector.replicate 2 []
  msixPend := Vector.replicate 2 0
  msix := []
  deferred := []
  readValue := 0
  hostWrites := []

/-- The state of a port. -/
def Ports.get (p : Ports) : CPort → PortS
  | .A => p.a | .B => p.b | .C => p.c | .D => p.d

/-- The ports with one replaced. -/
def Ports.put (p : Ports) (q : CPort) (x : PortS) : Ports :=
  match q with
  | .A => { p with a := x } | .B => { p with b := x } | .C => { p with c := x } | .D => { p with d := x }

end Sys2Proof.Machine
end

