-- ==== Sys2Proof/Machine/PowerState.lean ====
section
/-!
DEFINITION. State of power domains, resets and clock inputs (19), and of the control processor's watchdog (14 R429).
-/
namespace Sys2Proof.Machine

/-- The state of a power domain (19 R559). -/
inductive DomSt where
  | off | rampOn | on | rampOff
  deriving DecidableEq, Repr, Inhabited

/-- The latched reset causes of BOOT_RESET_CAUSE (19 R571). -/
structure Causes where
  por : Bool
  ext : Bool
  soft : Bool
  wdog : Bool
  engine : Bool
  chip : Bool
  trial : Bool
  deriving DecidableEq, Repr, Inhabited

/-- A switching of domains (19 R559, R561, R574): the command that asked for it, none for the firmware's own; what is left
to do in order, domain and whether on; the masks it was given. -/
structure DomCmd where
  who : Option (CPort × Nat)
  persist : Bool
  todo : List (Nat × Bool)
  deriving DecidableEq, Repr

/-- A restart of the interior in progress (19 R566): the commands that asked for it, and the boundary count b. -/
structure EngRestart where
  who : List (CPort × Nat)
  b : Nat
  deriving DecidableEq, Repr

/-- Power, resets and clocks. -/
structure Pwr where
  dom : Vector DomSt 14
  /-- Switchings in progress and waiting, in order: the first item of the first is the one that is carried out (19 R559). -/
  domCmds : List DomCmd
  domFail : Bool
  cfgOverride : Bool
  /-- OFF mask held in CONFIG (19 R561). -/
  offMask : Nat
  engRestart : Option EngRestart
  causes : Causes
  /-- PD1_RESTARTS. -/
  restarts : Nat
  /-- RESET_N is low. -/
  resetLow : Bool
  /-- PD1 to PD13 are out of reset (19 R564, R567). -/
  released : Bool
  /-- OSC_OK and OSC_FREQ; PLL locks; PCIe reference clocks present. -/
  oscOk : Bool
  oscFreq : Nat
  coreLock : Bool
  mediaLock : Bool
  memLock : Bool
  refclkA : Bool
  refclkB : Bool
  /-- Restarts of the present watchdog run, time of the last, and the time before which the next may not begin (14 R429). -/
  wdRun : Nat
  wdLast : Option Nat
  bootAfter : Nat
  /-- The restart was a full one: stages 8 and 9 of 17 R510 follow. -/
  coldBoot : Bool
  /-- No boot has followed the power-on reset yet. -/
  porBoot : Bool
  /-- The control processor runs (01 R14), and the time of its last stop. -/
  cpRunning : Bool
  pausedAt : Nat
  /-- Command service runs (15 R455). -/
  service : Bool
  deriving DecidableEq, Repr

/-- After power-on reset every domain is on, PD1 to PD13 are held until OSC_IN is detected (19 R559, R564, R567, R571). -/
def Pwr.reset : Pwr where
  dom := Vector.replicate 14 .on
  domCmds := []
  domFail := false
  cfgOverride := false
  offMask := 0
  engRestart := none
  causes := ⟨true, false, false, false, false, false, false⟩
  restarts := 0
  resetLow := false
  released := false
  oscOk := false
  oscFreq := 0
  coreLock := false
  mediaLock := false
  memLock := false
  refclkA := false
  refclkB := false
  wdRun := 0
  wdLast := none
  bootAfter := 0
  coldBoot := true
  porBoot := true
  cpRunning := false
  pausedAt := 0
  service := false

end Sys2Proof.Machine
end

