-- ==== Sys2Proof/Machine/TwState.lean ====
section
/-!
DEFINITION. State of the two-wire target (16).
-/
namespace Sys2Proof.Machine

/-- Where a transaction stands (16 R491). -/
inductive TwPhase where
  /-- Waiting for a START. -/
  | idle
  /-- A write whose next byte is pointer byte 0 or 1. -/
  | ptr0
  | ptr1 (hi : Nat)
  | write
  | read
  deriving DecidableEq, Repr, Inhabited

/-- The two-wire target. -/
structure Tw where
  /-- TWA[2:0] as sampled (16 R489). -/
  twa : Nat
  phase : TwPhase
  pointer : Nat
  /-- Bytes after the address in this transaction (16 R498, BYTE). -/
  count : Nat
  /-- Words latched by reads of this transaction: window address and value (16 R497). -/
  latched : List (Nat × Nat)
  /-- Bytes assembled for the word at a window address, with their offsets (16 R497). -/
  assembly : Option (Nat × List (Nat × Nat))
  /-- Flags of TW_FLAGS, bits 7 to 0. -/
  flags : BitVec 8
  framing : Bool
  fKind : Nat
  fDir : Bool
  fByte : Nat
  fPos : Nat
  page : Nat
  /-- Doorbells held until STOP (16 R499). -/
  sqTail : Option Nat
  cqHead : Option Nat
  /-- The bytes of the port D submission queue that are not 0, by window address (16 R495). -/
  sq : Sparse 8
  /-- The last byte sent (16 R491). -/
  out : Byte
  /-- SEQ of the force-safe sequence and the time of its first key (16 R500). -/
  seq : Nat
  seqAt : Nat
  deriving DecidableEq, Repr

/-- The two-wire target after power-on reset (16 R498). -/
def Tw.reset : Tw := ⟨0, .idle, 0, 0, [], none, 0, false, 0, false, 0, 0, 0, none, none, [], 0, 0, 0⟩

end Sys2Proof.Machine
end

