-- ==== Sys2Proof/Machine/State.lean ====
section
/-!
DEFINITION. The state of the block: everything the manual gives the engine, the queue of waiting commands, and the
model's own clock and free-value counter. Also the reasons a step can stop, and the state right after power-on reset.
-/
namespace Sys2Proof.Machine

/-- The faults of the model. No row of the table ends in a fault: the manual's faults are effects on state (14). -/
inductive Fault where
  /-- Raised by nobody: kept so that the type has a name. Safe. -/
  | none_
  deriving DecidableEq, Repr

/-- The refusals of the model. -/
inductive Refusal where
  /-- Raised by `exec` for a row that has no meaning yet. Safe: nothing can be proved of that row. -/
  | notModelled (mnemonic : String)
  deriving DecidableEq, Repr

/-- The state of the block. -/
structure State where
  /-- The commands that are waiting, first in, first out. -/
  pending : List Instr
  /-- Time in ns that the rows with times have reached (assumption log 1). -/
  now : Nat
  /-- Index of the next free value (assumption log 5). -/
  freeCtr : Nat
  pwr : Pwr
  avs : Avs
  per : Per
  pl : Planes
  ex : Exch
  mtx : Mtx
  tiles : Vector Tile 68
  /-- The physical tile that carries built tile k (18 R541). -/
  carrier : Vector Nat 68
  dm : Dm
  sap : Vector SaSt 8
  treps : List TileRep
  net : Net
  str : Str
  ts : Ts
  ref : Ref
  pst : Pst
  hlt : Hlt
  cfg : Cfg
  /-- The node ID in force (15 R485). -/
  nodeId : Nat
  /-- A node ID that applies from the next boundary (15 R484). -/
  nodeNext : Option Nat
  flt : Flt
  ports : Ports
  boot : Boot
  tw : Tw
  mon : Mon
  jtag : Jtag
  deriving DecidableEq, Repr

/-- The state right after power-on reset. -/
def State.reset : State where
  pending := []
  now := 0
  freeCtr := 0
  pwr := Pwr.reset
  avs := Avs.reset
  per := Per.reset
  pl := Planes.reset
  ex := Exch.reset
  mtx := Mtx.reset
  tiles := Vector.replicate 68 Tile.reset
  carrier := Vector.ofFn (fun i : Fin 68 => i.val)
  dm := Dm.reset
  sap := Vector.replicate 8 SaSt.reset
  treps := []
  net := Net.reset
  str := Str.reset
  ts := Ts.reset
  ref := Ref.reset
  pst := Pst.reset
  hlt := Hlt.reset
  cfg := Cfg.reset
  nodeId := 0
  nodeNext := none
  flt := Flt.reset
  ports := Ports.reset
  boot := Boot.reset
  tw := Tw.reset
  mon := Mon.reset
  jtag := Jtag.reset

end Sys2Proof.Machine
end

