-- ==== Sys2Proof/Machine/Ops.lean ====
section
/-!
DEFINITION. Named operations over the state that every family uses: time, tiles, slots, detector reports, conditions and
event vectors.
-/
namespace Sys2Proof.Machine

/-- The clock moves on to a time that a row carries; it never goes back (assumption log 1). -/
def State.at_ (s : State) (t : Nat) : State := { s with now := max s.now t }

/-- The clock at a tick of the present period, 500 ps each (02 R26). -/
def State.tickAt (s : State) (tick : Nat) : State := s.at_ (s.per.openedAt + tick / 2)

/-- Physical tile `k`. -/
def State.tile (s : State) (k : Nat) : Tile := rd s.tiles k
/-- The state with physical tile `k` replaced. -/
def State.setTile (s : State) (k : Nat) (t : Tile) : State := { s with tiles := wr s.tiles k t }
/-- The physical tile that carries built tile `k` (03 R110). -/
def State.carrierOf (s : State) (k : Nat) : Nat := rd s.carrier k
/-- The built tile whose LIVE program physical tile `k` carries, with that program (03 R110). -/
def State.workOf (s : State) (k : Nat) : Option (Nat × TileProg) :=
  match s.pl.live with
  | none => none
  | some p => p.tiles.find? (fun q => s.carrierOf q.1 == k)

/-- The next free value, and the state whose counter has moved on (assumption log 5). -/
def State.fresh (s : State) : BitVec 80 × State := (Config.free s.freeCtr, { s with freeCtr := s.freeCtr + 1 })

/-- A domain supplies its blocks (19 R559). -/
def State.domOn (s : State) (d : Nat) : Bool := decide (rd s.pwr.dom d = .on)

/-- The zone of a physical tile (01 R17). -/
def tileZone (k : Nat) : Nat := 0x20 + k
/-- The quadrant of a tile (00 identifiers). -/
def quadOf (k : Nat) : Nat := k / 17

/-- A detector reports to the fault controller (14 R415): the report waits for its decision. -/
def State.report (s : State) (code zone elem data : Nat) : State :=
  { s with flt := { s.flt with reports := s.flt.reports ++ [⟨code, zone, elem, data, false, s.now / 10⟩] } }

/-- A condition begins: it is present from now on, and its detector reports (14 R412, kind C). -/
def State.raise (s : State) (code zone elem data : Nat) : State :=
  let s := { s with flt := { s.flt with conds := addNew s.flt.conds ⟨code, zone, elem⟩ } }
  s.report code zone elem data

/-- A condition ends (14 R412, R419) (assumption log 64; DEDUCED). -/
def State.endCond (s : State) (code zone elem : Nat) : State :=
  { s with flt := { s.flt with conds := remove s.flt.conds ⟨code, zone, elem⟩ } }

/-- Whether a condition is present. -/
def State.hasCond (s : State) (code zone elem : Nat) : Bool := mem s.flt.conds ⟨code, zone, elem⟩

/-- The reports of a tile instruction go out in the tile's zone (05 R147 to R167). -/
def State.tileReports (s : State) (k : Nat) (rs : List TRep) : State :=
  rs.foldl (fun s r => s.report r.1 (tileZone k) k r.2) s

/-- One message of function `f` (0 A, 1 B) and vector `v`: signalled, or pending in the MSI-X pending bits while the
vector is masked in the function's table (21 R607, PCI Express Base Specification) (assumption log 53, 95; PRESUMED, DESIGN
CHOICE). -/
def Ports.signal (p : Ports) (f v : Nat) : Ports :=
  let ctl := (lookup? (rd p.msixTable f) (4 * v + 3)).getD 1#32
  if ctl.getLsbD 0 then { p with msixPend := upd p.msixPend f (fun w => w ||| (1#64 <<< v)) }
  else { p with msix := (f, v) :: p.msix }

/-- An event of vector `v` occurs: its pending bit rises in both functions, and each function that enables it signals the
vector on the rise (21 R614) (assumption log 54; DEDUCED). -/
def State.event (s : State) (v : Nat) : State :=
  let one (p : Ports) (f : Nat) : Ports :=
    let was := (rd p.evPend f).getLsbD v
    let p := { p with evPend := upd p.evPend f (fun w => w ||| (1#12 <<< v)) }
    if !was && (rd p.evEn f).getLsbD v then p.signal f v else p
  { s with ports := one (one s.ports 0) 1 }

/-- Period ticks of a base rate (02 R27). -/
def periodTicks : Nat → Nat
  | 0 => 45351 | 1 => 41666 | 2 => 22675 | 3 => 20833 | 4 => 11337 | _ => 10416
/-- Deadline ticks of a base rate (02 R27). -/
def deadlineTicks : Nat → Nat
  | 0 => 43990 | 1 => 40416 | 2 => 21995 | 3 => 20208 | 4 => 10997 | _ => 10104
/-- Park ticks of a base rate (02 R27). -/
def parkTicks (r : Nat) : Nat := periodTicks r - 2200
/-- Tile budget of a base rate (02 R30). -/
def budgetOf : Nat → Nat
  | 0 => 20064 | 1 => 18432 | 2 => 10016 | 3 => 9216 | 4 => 4992 | _ => 4608
/-- Base rate in Hz. -/
def rateHz : Nat → Nat
  | 0 => 44100 | 1 => 48000 | 2 => 88200 | 3 => 96000 | 4 => 176400 | _ => 192000
/-- Periods of a window (02 R36). -/
def windowPeriods : Nat → Nat
  | 0 => 64 | 1 => 64 | 2 => 128 | 3 => 128 | _ => 256
/-- A rate above 96 kHz. -/
def highRate (r : Nat) : Bool := decide (4 ≤ r)
/-- Slots of each half (04 R120). -/
def slotCount (r : Nat) : Nat := if highRate r then 8192 else 16384

/-- The ramp value (h * (32 - k)) asr 5 of a native fade (02 R67); 0 from step 32 on. -/
def fadeVal (h : Slot) (k : Nat) : Slot := if 32 ≤ k then 0 else BitVec.ofInt 32 (asr (h.toInt * (32 - (k : Int))) 5)
/-- The ramp value (x * k) asr 5 of a release (02 R70). -/
def releaseVal (x : Slot) (k : Nat) : Slot := if 32 ≤ k then x else BitVec.ofInt 32 (asr (x.toInt * (k : Int)) 5)

/-- A slot of the read half (04 R122). -/
def State.slot (s : State) (i : Nat) : Slot := s.ex.readHalf.get i
/-- Write a slot of the write half; a substitute value carries the flag (10 R293). -/
def Exch.write (e : Exch) (i : Nat) (v : Slot) (sub : Bool) : Exch :=
  { e with
    writeHalf := insertKey e.writeHalf i v
    writeSub := if sub then addNew e.writeSub i else remove e.writeSub i }
/-- Write a slot of the write half. -/
def State.putSlot (s : State) (i : Nat) (v : Slot) (sub : Bool := false) : State := { s with ex := s.ex.write i v sub }

/-- The policy of a zone under the LIVE plane: MODE is legacy, AUTO_RECOVER (03 R96) (assumption log 45; DEDUCED). -/
def State.zonePolicy (s : State) (z : Nat) : Bool × Bool :=
  match s.pl.live with
  | none => (false, true)
  | some p => match p.faultPol.find? (fun f => f.zone == z) with
    | none => (false, true)
    | some f => (f.legacy, f.auto)

/-- The MODE of a zone's reaction is legacy: that of its open episode, or of its entry in the overflow set, else that of the
LIVE policy (14 R427) (assumption log 45; DEDUCED). -/
def State.zoneLegacy (s : State) (z : Nat) : Bool :=
  match s.flt.eps.toList.find? (fun e => decide (e.st ≠ .free) && e.zone == z) with
  | some e => e.legacy
  | none => match s.flt.ovfSet.find? (fun o => o.zone == z) with
    | some o => o.legacy
    | none => (s.zonePolicy z).1

/-- The mute of 17 R520 in the present period: 64ths of full output; none outside a mute (assumption log 23, 39; DEDUCED). -/
def State.muteFactor (s : State) : Option Nat :=
  match s.boot.mute with
  | none => none
  | some m =>
    let n := s.per.boundaries
    if n < m.b then none
    else match m.inAt with
      | none => some (64 - (n + 1 - m.b))
      | some i => if n < i then some 0 else if 64 ≤ n + 1 - i then none else some (n + 1 - i)

/-- The outputs are between the ramps: the microcode loads (17 R519, R520) (assumption log 23; DEDUCED). -/
def State.gap (s : State) : Bool :=
  match s.boot.mute with
  | none => false
  | some m =>
    let n := s.per.boundaries
    decide (m.b + 64 ≤ n) && (match m.inAt with
      | none => true
      | some i => decide (n < i))

/-- A value under the mute (assumption log 23, 39; DEDUCED). -/
def State.muted (s : State) (v : Int) : Int :=
  match s.muteFactor with
  | none => v
  | some f => v * (f : Int) / 64

end Sys2Proof.Machine
end

