-- ==== Sys2Proof/Machine/Jtag.lean ====
section
/-!
DEFINITION. The IEEE 1149.1 port (20 R587, R603): controller, instructions, boundary-scan chain and the gate balls under it. No
row of the table moves TCK or TRST_N: the board ties TRST_N low in service, and the test logic stays reset.
-/
namespace Sys2Proof.Machine

/-- The next state of the controller at a rising edge of TCK (IEEE 1149.1) (assumption log 99; PRESUMED). -/
def TapSt.next (x : TapSt) (tms : Bool) : TapSt :=
  match x with
  | .reset => if tms then .reset else .idle
  | .idle => if tms then .selDr else .idle
  | .selDr => if tms then .selIr else .capDr
  | .capDr => if tms then .ex1Dr else .shDr
  | .shDr => if tms then .ex1Dr else .shDr
  | .ex1Dr => if tms then .updDr else .pauDr
  | .pauDr => if tms then .ex2Dr else .pauDr
  | .ex2Dr => if tms then .updDr else .shDr
  | .updDr => if tms then .selDr else .idle
  | .selIr => if tms then .reset else .capIr
  | .capIr => if tms then .ex1Ir else .shIr
  | .shIr => if tms then .ex1Ir else .shIr
  | .ex1Ir => if tms then .updIr else .pauIr
  | .pauIr => if tms then .ex2Ir else .pauIr
  | .ex2Ir => if tms then .updIr else .shIr
  | .updIr => if tms then .selDr else .idle

/-- The instructions (20 R603): every code but two acts as BYPASS. -/
inductive JtagInstr where
  | extest | sample | bypass
  deriving DecidableEq, Repr

/-- The instruction of a code (20 R603). -/
def Jtag.instr (ir : BitVec 6) : JtagInstr := if ir = 0 then .extest else if ir = 1 then .sample else .bypass

/-- TRST_N moves: low holds the test logic reset (20 R603). -/
def Jtag.trst (j : Jtag) (level : Bool) : Jtag := if level then { j with trstN := true } else Jtag.reset

/-- A rising edge of TCK with TMS and TDI; `pins` are the levels of the balls that the chain covers (IEEE 1149.1, 20 R603)
(assumption log 99; PRESUMED). -/
def Jtag.tck (j : Jtag) (tms tdi : Bool) (pins : List Bool) : Jtag :=
  if !j.trstN then j
  else
    let j := match j.tap with
      | .reset => { j with ir := 0x3F }
      | .capIr => { j with irShift := 1 }
      | .shIr => { j with irShift := (j.irShift >>> 1) ||| (if tdi then 0x20 else 0) }
      | .updIr => { j with ir := j.irShift }
      | .capDr => if Jtag.instr j.ir = JtagInstr.bypass then { j with bypass := false } else { j with chain := pins.take 128 }
      | .shDr => if Jtag.instr j.ir = JtagInstr.bypass then { j with bypass := tdi } else { j with chain := j.chain.drop 1 ++ [tdi] }
      | .updDr => if Jtag.instr j.ir = JtagInstr.bypass then j else { j with latch := j.chain }
      | _ => j
    { j with tap := j.tap.next tms }

/-- The level of TDO while a register shifts (assumption log 99; PRESUMED). -/
def Jtag.tdo (j : Jtag) : Option Bool :=
  match j.tap with
  | .shIr => some (j.irShift.getLsbD 0)
  | .shDr => some (if Jtag.instr j.ir = JtagInstr.bypass then j.bypass else j.chain.headD false)
  | _ => none

/-- The levels that the boundary scan drives on GD_Hk and GD_Lk of a channel: never both high, and both low while SAFE_N is low
or TRIP is qualified on the channel (20 R587). The cells of channel k are 2k and 2k + 1 of the chain (assumption log 99;
PRESUMED). -/
def Jtag.gates (j : Jtag) (k : Nat) (safe : Bool) : Bool × Bool :=
  let h := j.latch.getD (2 * k) false
  let l := j.latch.getD (2 * k + 1) false
  if safe || (h && l) then (false, false) else (h, l)

end Sys2Proof.Machine
end

