-- ==== Sys2Proof/Machine/Crypto.lean ====
section
/-!
DEFINITION. The check functions that the manual names by their standards and does not restate: CRC-32 (the IEEE 802.3 frame
check sequence), SHA-2 (FIPS 180-4), HMAC-SHA-256 (FIPS 198-1) and ECDSA verification on P-384 (FIPS 186-5).
PRESUMED (assumption log 7): their content is taken from those standards.
-/
namespace Sys2Proof.Machine

/-- One byte of the reflected CRC-32 with polynomial 0xEDB88320. -/
def crcByte (c : BitVec 32) (b : Byte) : BitVec 32 :=
  turns 8 (c ^^^ b.setWidth 32) (fun _ c => if c.getLsbD 0 then (c >>> 1) ^^^ 0xEDB88320#32 else c >>> 1)

/-- CRC-32 of bytes, as HEADER_CRC of 03 R78. -/
def crc32 (l : List Byte) : Nat := (~~~ (l.foldl crcByte 0xFFFFFFFF#32)).toNat

/-- The first 80 primes. -/
def primes80 : List Nat :=
  [2, 3, 5, 7, 11, 13, 17, 19, 23, 29, 31, 37, 41, 43, 47, 53, 59, 61, 67, 71, 73, 79, 83, 89, 97, 101, 103, 107, 109, 113,
   127, 131, 137, 139, 149, 151, 157, 163, 167, 173, 179, 181, 191, 193, 197, 199, 211, 223, 227, 229, 233, 239, 241, 251,
   257, 263, 269, 271, 277, 281, 283, 293, 307, 311, 313, 317, 331, 337, 347, 349, 353, 359, 367, 373, 379, 383, 389, 397,
   401, 409]

/-- The largest number below `2 ^ n` whose `e`-th power is at or below `v`. -/
def rootFloor (e v : Nat) : Nat → Nat → Nat
  | 0, acc => acc
  | n + 1, acc => if (acc + 2 ^ n) ^ e ≤ v then rootFloor e v n (acc + 2 ^ n) else rootFloor e v n acc

/-- The first `w` bits of the fraction of the `e`-th root of `q`. -/
def rootFrac (e w q : Nat) : Nat := rootFloor e (q * 2 ^ (e * w)) (w + 6) 0 % 2 ^ w

/-- A member of the SHA-2 family: word width, constants, the rotations of its four functions, initial value and digest
length in bytes. -/
structure Sha where
  w : Nat
  k : List Nat
  big0 : Nat × Nat × Nat
  big1 : Nat × Nat × Nat
  small0 : Nat × Nat × Nat
  small1 : Nat × Nat × Nat
  iv : List Nat
  len : Nat

/-- SHA-384. -/
def sha384Spec : Sha where
  w := 64
  k := primes80.map (rootFrac 3 64)
  big0 := (28, 34, 39)
  big1 := (14, 18, 41)
  small0 := (1, 8, 7)
  small1 := (19, 61, 6)
  iv := ((primes80.drop 8).take 8).map (rootFrac 2 64)
  len := 48

/-- SHA-256. -/
def sha256Spec : Sha where
  w := 32
  k := (primes80.take 64).map (rootFrac 3 32)
  big0 := (2, 13, 22)
  big1 := (6, 11, 25)
  small0 := (7, 18, 3)
  small1 := (17, 19, 10)
  iv := (primes80.take 8).map (rootFrac 2 32)
  len := 32

/-- Rotate right a word of `w` bits. -/
def rotr (w x n : Nat) : Nat := (x >>> n) ||| ((x <<< (w - n)) % 2 ^ w)

/-- Three rotations, exclusive-ored. -/
def sigBig (w : Nat) (r : Nat × Nat × Nat) (x : Nat) : Nat := (rotr w x r.1 ^^^ rotr w x r.2.1) ^^^ rotr w x r.2.2
/-- Two rotations and a shift, exclusive-ored. -/
def sigSmall (w : Nat) (r : Nat × Nat × Nat) (x : Nat) : Nat := (rotr w x r.1 ^^^ rotr w x r.2.1) ^^^ (x >>> r.2.2)

/-- The message schedule of a block, last word first. -/
def shaSchedule (h : Sha) (block : List Nat) : List Nat :=
  turns (h.k.length - 16) block.reverse (fun _ ws =>
    ((sigSmall h.w h.small1 (ws.getD 1 0) + ws.getD 6 0 + sigSmall h.w h.small0 (ws.getD 14 0) + ws.getD 15 0) % 2 ^ h.w) :: ws)

/-- One round on the eight working variables. -/
def shaRound (h : Sha) (v : List Nat) (kw : Nat × Nat) : List Nat :=
  match v with
  | [a, b, c, d, e, f, g, hh] =>
    let m := 2 ^ h.w
    let t1 := hh + sigBig h.w h.big1 e + ((e &&& f) ^^^ ((m - 1 - e) &&& g)) + kw.1 + kw.2
    let t2 := sigBig h.w h.big0 a + (((a &&& b) ^^^ (a &&& c)) ^^^ (b &&& c))
    [(t1 + t2) % m, a, b, c, (d + t1) % m, e, f, g]
  | v => v

/-- Compression of one block into the hash value. -/
def shaBlock (h : Sha) (hv block : List Nat) : List Nat :=
  let v := (h.k.zip (shaSchedule h block).reverse).foldl (shaRound h) hv
  (hv.zip v).map (fun p => (p.1 + p.2) % 2 ^ h.w)

/-- Padding: the bit 1, zeros, and the length in bits, to a multiple of 16 words. -/
def shaPad (h : Sha) (l : List Byte) : List Byte :=
  let unit := 2 * h.w
  let lenBytes := h.w / 4
  let used := (l.length + 1 + lenBytes) % unit
  l ++ [0x80#8] ++ List.replicate ((unit - used) % unit) 0 ++ beBytes lenBytes (8 * l.length)

/-- The big-endian words of a block of bytes. -/
def shaWords (h : Sha) (l : List Byte) (i : Nat) : List Nat :=
  (List.range 16).map (fun j => beNat (slice l (i * 2 * h.w + j * (h.w / 8)) (h.w / 8)))

/-- The digest of bytes. -/
def sha (h : Sha) (l : List Byte) : List Byte :=
  let p := shaPad h l
  let hv := turns (p.length / (2 * h.w)) h.iv (fun i hv => shaBlock h hv (shaWords h p i))
  (hv.flatMap (fun v => beBytes (h.w / 8) v)).take h.len

/-- SHA-384. -/
def sha384 (l : List Byte) : List Byte := sha sha384Spec l
/-- SHA-256. -/
def sha256 (l : List Byte) : List Byte := sha sha256Spec l

/-- HMAC-SHA-256 with a key of at most 64 bytes. -/
def hmacSha256 (key msg : List Byte) : List Byte :=
  let k := key ++ List.replicate (64 - key.length) 0
  sha256 (k.map (· ^^^ 0x5c#8) ++ sha256 (k.map (· ^^^ 0x36#8) ++ msg))

/-- `b ^ e mod m` over the `n` low bits of `e`. -/
def powMod (b e m : Nat) : Nat → Nat
  | 0 => 1 % m
  | n + 1 => let r := powMod (b * b % m) (e / 2) m n
             if e % 2 = 1 then r * b % m else r

/-- The inverse of `a` modulo the prime `m` of 384 bits. -/
def invMod (a m : Nat) : Nat := powMod (a % m) (m - 2) m 384

/-- The field prime of P-384. -/
def p384 : Nat := 2 ^ 384 - 2 ^ 128 - 2 ^ 96 + 2 ^ 32 - 1
/-- The coefficient b of P-384. -/
def p384b : Nat :=
  0xb3312fa7e23ee7e4988e056be3f82d19181d9c6efe8141120314088f5013875ac656398d8a2ed19d2a85c8edd3ec2aef
/-- The order of P-384. -/
def p384n : Nat :=
  0xffffffffffffffffffffffffffffffffffffffffffffffffc7634d81f4372ddf581a0db248b0a77aecec196accc52973
/-- The base point of P-384. -/
def p384g : Nat × Nat :=
  (0xaa87ca22be8b05378eb1c71ef320ad746e1d3b628ba79b9859f741e082542a385502f25dbf55296c3a545e3872760ab7,
   0x3617de4a96262c6f5d9e98bf9292dc29f8f41dbd289a147ce9da3113b5f0b8c00a60b1ce1d7e819d7a431d7c90ea0e5f)

/-- A point lies on the curve. -/
def onCurve (q : Nat × Nat) : Bool :=
  decide (q.1 < p384) && decide (q.2 < p384) && q.2 * q.2 % p384 == (q.1 ^ 3 + (p384 - 3) * q.1 + p384b) % p384

/-- Sum of two points; none is the point at infinity. -/
def ecAdd : Option (Nat × Nat) → Option (Nat × Nat) → Option (Nat × Nat)
  | none, q => q
  | q, none => q
  | some (x1, y1), some (x2, y2) =>
    if x1 = x2 && (y1 + y2) % p384 = 0 then none
    else
      let l := if x1 = x2 then (3 * x1 * x1 + (p384 - 3)) * invMod (2 * y1) p384 % p384
        else (y2 + p384 - y1) * invMod (x2 + p384 - x1) p384 % p384
      let x := (l * l + 2 * p384 - x1 - x2) % p384
      some (x, (l * (x1 + p384 - x) + p384 - y1) % p384)

/-- `k` times a point, over the `n` low bits of `k`. -/
def ecMul (k : Nat) (q : Option (Nat × Nat)) : Nat → Option (Nat × Nat)
  | 0 => none
  | n + 1 => let r := ecMul (k / 2) (ecAdd q q) n
             if k % 2 = 1 then ecAdd r q else r

/-- ECDSA P-384 verification of (r, s) over a digest, under the key (x, y). -/
def ecdsaVerify (key : Nat × Nat) (digest : List Byte) (r s : Nat) : Bool :=
  if r = 0 || p384n ≤ r || s = 0 || p384n ≤ s || !onCurve key then false
  else
    let w := invMod s p384n
    let z := beNat digest
    match ecAdd (ecMul (z * w % p384n) (some p384g) 384) (ecMul (r * w % p384n) (some key) 384) with
    | none => false
    | some (x, _) => x % p384n == r

end Sys2Proof.Machine
end

