-- ==== Sys2Proof/Machine/Commands.lean ====
section
/-!
DEFINITION. Completion of commands (15 R455 to R469): entries, the completion ring, flights, and the answer a command's
run gives.
-/
namespace Sys2Proof.Machine

/-- What the envelope rules need of a command (15 R448, R468): its envelope, opcode and needed privilege. -/
structure CmdInfo where
  env : Env
  opcode : Nat
  priv : Option Nat
  deriving DecidableEq, Repr

/-- The host commands: opcode and privilege as their owning chapters give them; none for an event. -/
def cmdInfo : Instr → Option CmdInfo
  | .structLoad e _ _ _ => some ⟨e, 0x0101, some 0⟩
  | .structPatch e _ _ _ => some ⟨e, 0x0102, some 0⟩
  | .structCopy e => some ⟨e, 0x0103, some 0⟩
  | .structCommit e _ _ => some ⟨e, 0x0104, some 0⟩
  | .structCancel e _ => some ⟨e, 0x0105, some 0⟩
  | .structDiscard e => some ⟨e, 0x0106, some 0⟩
  | .structStatus e => some ⟨e, 0x0107, none⟩
  | .structBootWrite e _ _ _ => some ⟨e, 0x0108, some 0⟩
  | .structKeySet e _ _ _ _ => some ⟨e, 0x0109, some 0⟩
  | .pathLatency e _ _ _ _ _ _ _ => some ⟨e, 0x0240, none⟩
  | .pathLatencyDump e _ _ _ => some ⟨e, 0x0241, none⟩
  | .slotPeek e _ => some ⟨e, 0x0242, none⟩
  | .saportStatus e _ _ => some ⟨e, 0x0243, none⟩
  | .tileReport e _ _ _ _ => some ⟨e, 0x0250, none⟩
  | .xpointSet e _ _ _ _ _ => some ⟨e, 0x0201, none⟩
  | .rampSet e _ _ _ _ _ => some ⟨e, 0x0202, none⟩
  | .tileParamWrite e _ _ _ _ _ _ _ _ => some ⟨e, 0x0203, none⟩
  | .safeApply e _ _ => some ⟨e, 0x0204, none⟩
  | .safeDiscard e _ _ => some ⟨e, 0x0205, none⟩
  | .safeStatus e _ => some ⟨e, 0x0206, none⟩
  | .xpointGet e _ _ _ => some ⟨e, 0x0207, none⟩
  | .sumStatus e _ _ => some ⟨e, 0x0208, none⟩
  | .rampStatus e _ => some ⟨e, 0x0209, none⟩
  | .delayStatus e _ => some ⟨e, 0x0260, none⟩
  | .delayLineStatus e _ _ => some ⟨e, 0x0261, none⟩
  | .delayMemConfig e _ _ => some ⟨e, 0x0262, some 0⟩
  | .delayMemRetrain e => some ⟨e, 0x0263, some 0⟩
  | .netPortConfig e _ _ _ _ _ => some ⟨e, 0x0301, some 1⟩
  | .netQueueConfig e _ _ _ _ _ => some ⟨e, 0x0302, some 1⟩
  | .netSwitchConfig e _ _ _ _ _ => some ⟨e, 0x0303, some 1⟩
  | .netStreamFwd e _ _ _ => some ⟨e, 0x0304, some 1⟩
  | .netMacSet e _ _ _ => some ⟨e, 0x0305, some 1⟩
  | .netFrrSet e _ _ _ _ => some ⟨e, 0x0306, some 1⟩
  | .netFwdGet e _ _ _ => some ⟨e, 0x0307, none⟩
  | .netCounters e _ _ _ _ => some ⟨e, 0x0308, none⟩
  | .streamStatus e _ _ _ => some ⟨e, 0x0320, none⟩
  | .belayStatus e _ => some ⟨e, 0x0321, none⟩
  | .aes67Bind e _ _ _ => some ⟨e, 0x0322, some 1⟩
  | .timeGet e => some ⟨e, 0x0401, none⟩
  | .ptpConfig e _ _ _ _ _ _ _ => some ⟨e, 0x0402, some 1⟩
  | .ptpPortConfig e _ _ _ => some ⟨e, 0x0403, some 1⟩
  | .tsCalSet e _ _ _ _ _ => some ⟨e, 0x0404, some 1⟩
  | .ptpStatus e _ _ => some ⟨e, 0x0405, none⟩
  | .ppsOutConfig e _ _ _ => some ⟨e, 0x0406, some 1⟩
  | .refStatusGet e _ => some ⟨e, 0x0410, none⟩
  | .refCandConfig e _ _ _ _ => some ⟨e, 0x0411, some 1⟩
  | .refOscTrimSet e _ _ => some ⟨e, 0x0412, some 1⟩
  | .mediaRealign e => some ⟨e, 0x0413, some 1⟩
  | .mclkConfig e _ _ _ _ => some ⟨e, 0x0414, some 1⟩
  | .esmcConfig e _ _ _ _ => some ⟨e, 0x0415, some 1⟩
  | .pstageStatus e _ _ => some ⟨e, 0x0501, none⟩
  | .pstageClear e _ => some ⟨e, 0x0502, some 2⟩
  | .pstageStop e _ => some ⟨e, 0x0503, some 2⟩
  | .pstageStart e _ => some ⟨e, 0x0504, some 2⟩
  | .pstageRailConfig e _ _ _ _ _ _ => some ⟨e, 0x0505, some 2⟩
  | .pstageLoopConfig e _ _ _ _ _ => some ⟨e, 0x0506, some 2⟩
  | .faultStatus e => some ⟨e, 0x0601, none⟩
  | .faultEpisodeGet e _ _ => some ⟨e, 0x0602, none⟩
  | .faultLogRead e _ _ _ _ => some ⟨e, 0x0603, none⟩
  | .faultClear e _ _ => some ⟨e, 0x0604, some 3⟩
  | .faultAck e _ => some ⟨e, 0x0605, some 3⟩
  | .faultPinConfig e _ _ _ _ _ _ => some ⟨e, 0x0606, some 3⟩
  | .faultInject e _ _ _ => some ⟨e, 0x0607, some 3⟩
  | .devIdentity e => some ⟨e, 0x0901, none⟩
  | .devNodeIdSet e _ _ => some ⟨e, 0x0902, some 6⟩
  | .cmdAbort e _ => some ⟨e, 0x0903, none⟩
  | .cmdPortPrivSet e _ _ _ _ => some ⟨e, 0x0904, some 6⟩
  | .cmdKeySet e _ _ _ _ _ => some ⟨e, 0x0905, some 6⟩
  | .cmdPortStatus e _ _ => some ⟨e, 0x0906, none⟩
  | .cmdEcho e _ => some ⟨e, 0x0907, none⟩
  | .fwStatus e => some ⟨e, 0x0801, none⟩
  | .fwStage e _ _ _ _ => some ⟨e, 0x0802, some 5⟩
  | .fwStageDiscard e => some ⟨e, 0x0803, some 5⟩
  | .fwActivate e _ _ => some ⟨e, 0x0804, some 5⟩
  | .fwConfirm e => some ⟨e, 0x0805, some 5⟩
  | .fwRevert e => some ⟨e, 0x0806, some 5⟩
  | .flashLogRead e _ _ _ => some ⟨e, 0x0807, none⟩
  | .healthStatus e => some ⟨e, 0x0701, none⟩
  | .ageingReport e _ => some ⟨e, 0x0702, none⟩
  | .selftestTile e _ => some ⟨e, 0x0703, some 4⟩
  | .selftestResult e _ => some ⟨e, 0x0704, none⟩
  | .selftestCancel e _ _ => some ⟨e, 0x0705, some 4⟩
  | .tileMigrate e _ => some ⟨e, 0x0706, some 4⟩
  | .maintEnter e => some ⟨e, 0x0707, some 4⟩
  | .maintExit e => some ⟨e, 0x0708, some 4⟩
  | .selftestFull e _ => some ⟨e, 0x0709, some 4⟩
  | .calConfig e _ _ => some ⟨e, 0x070A, some 4⟩
  | .softReset e => some ⟨e, 0x0910, some 5⟩
  | .engineRestart e => some ⟨e, 0x0910, some 0⟩
  | .chipReset e => some ⟨e, 0x0910, some 5⟩
  | .devDomainSet e _ _ _ => some ⟨e, 0x0911, some 0⟩
  | .devPowerStatus e _ => some ⟨e, 0x0912, none⟩
  | _ => none

/-- The timeout classes (15 R470). -/
inductive TClass where
  | quick | bulk | boundary | flash
  deriving DecidableEq, Repr, Inhabited

/-- The limit of a class in ns (15 R470); that of BOUNDARY counts from the boundary. -/
def TClass.limit : TClass → Nat
  | .quick => 10000000 | .bulk => 5000000000 | .boundary => 100000000 | .flash => 300000000000

/-- The timeout class that the owning chapter names for a command: BULK by buffer, FLASH with PERSIST. -/
def timeClass (c : Instr) : TClass :=
  let byBuf (addr : Nat) : TClass := if addr = 0 then .quick else .bulk
  let kept (persist : Bool) : TClass := if persist then .flash else .quick
  match c with
  | .structLoad .. | .structPatch .. | .structCopy .. | .pathLatencyDump .. | .delayMemRetrain .. | .flashLogRead ..
  | .ageingReport .. | .selftestTile .. | .selftestFull .. => .bulk
  | .structCommit .. | .safeApply .. => .boundary
  | .structBootWrite .. | .structKeySet .. | .delayMemConfig .. | .cmdKeySet .. | .fwStage .. | .fwStageDiscard ..
  | .fwActivate .. | .fwRevert .. => .flash
  | .xpointSet _ _ _ _ addr _ => byBuf addr
  | .rampSet _ _ _ _ addr _ => byBuf addr
  | .tileParamWrite _ _ _ _ _ _ _ buf _ => byBuf buf
  | .netStreamFwd _ _ addr _ => byBuf addr
  | .netMacSet _ _ addr _ => byBuf addr
  | .aes67Bind _ _ addr _ => byBuf addr
  | .faultLogRead _ _ _ _ addr => byBuf addr
  | .netPortConfig _ _ _ p _ _ => kept p
  | .netQueueConfig _ _ _ _ _ p => kept p
  | .netSwitchConfig _ _ _ _ _ p => kept p
  | .netFrrSet _ _ _ _ p => kept p
  | .ptpConfig _ _ _ _ _ _ _ p => kept p
  | .ptpPortConfig _ _ _ p => kept p
  | .tsCalSet _ _ _ _ _ p => kept p
  | .ppsOutConfig _ _ _ p => kept p
  | .refCandConfig _ _ _ _ p => kept p
  | .refOscTrimSet _ _ p => kept p
  | .mclkConfig _ _ _ _ p => kept p
  | .esmcConfig _ _ _ _ p => kept p
  | .pstageRailConfig _ _ _ _ _ _ p => kept p
  | .pstageLoopConfig _ _ _ _ _ p => kept p
  | .faultPinConfig _ _ _ _ _ _ p => kept p
  | .devNodeIdSet _ _ p => kept p
  | .cmdPortPrivSet _ _ _ _ p => kept p
  | .calConfig _ _ p => kept p
  | .devDomainSet _ _ _ p => kept p
  | _ => .quick

/-- The opcode of a command. -/
def opcodeOf (c : Instr) : Nat := ((cmdInfo c).map (·.opcode)).getD 0

/-- What the run of a command knows of its descriptor. -/
structure Ctx where
  port : CPort
  handle : Nat
  flags : BitVec 16
  acceptB : Nat
  startB : Nat
  seq : Nat
  groups : Nat
  privs : Nat
  lane : Nat
  deriving DecidableEq, Repr

/-- A result field: its size in bytes and its value (assumption log 3). -/
abbrev RField := Nat × Nat

/-- What a command's run answers: it completes now, it stays in flight, or it waits in the flash queue (15 R470). -/
inductive Done where
  | done (st : Status) (detail : Nat) (result : List Byte)
  | later
  | flash
  deriving DecidableEq, Repr

/-- A completion without result. -/
def Done.fail (st : Status) (detail : Nat) : Done := .done st detail []
/-- OK with result fields. -/
def Done.ok (fs : List RField) : Done := .done .ok 0 (fs.flatMap (fun f => leBytes f.1 f.2))
/-- REJECTED_ARGS with RANGE (0x000B). -/
def Done.range : Done := .fail .rejectedArgs 0x000B
/-- A host buffer named on port C or D (15 R453). -/
def Done.argPtr : Done := .fail .rejectedArgs 0x00E4

/-- Ports that carry no host memory (15 R453). -/
def noBuf : CPort → Bool
  | .C => true | .D => true | _ => false

/-- The opcodes that the owning chapters define (15 R468 check 1). -/
def definedOpcode (op : Nat) : Bool :=
  [(0x0101, 0x0109), (0x0201, 0x0209), (0x0240, 0x0243), (0x0250, 0x0250), (0x0260, 0x0263), (0x0301, 0x0308), (0x0320, 0x0322),
   (0x0401, 0x0406), (0x0410, 0x0415), (0x0501, 0x0506), (0x0601, 0x0607), (0x0701, 0x070A), (0x0801, 0x0807), (0x0901, 0x0907),
   (0x0910, 0x0912)].any (fun r => within r.1 r.2 op)

/-- A port's number: 0 A to 3 D (15 R483). -/
def portNum : CPort → Nat
  | .A => 0 | .B => 1 | .C => 2 | .D => 3

/-- The port of a number. -/
def portOf : Nat → Option CPort
  | 0 => some .A | 1 => some .B | 2 => some .C | 3 => some .D | _ => none

/-- The zone of a port (15 R445). -/
def portZone (p : CPort) : Nat := 0xC0 + portNum p

/-- The state of a port. -/
def State.port (s : State) (p : CPort) : PortS := s.ports.get p
/-- The state with a port replaced. -/
def State.setPort (s : State) (p : CPort) (x : PortS) : State := { s with ports := s.ports.put p x }

/-- The 32 bytes of a completion entry (15 R459). -/
def Entry.bytes (e : Entry) : List Byte :=
  let head := leBytes 2 e.handle ++ leBytes 1 (packBits [(4, e.kind), (3, 0), (1, b2n e.phase)])
  if e.kind = 3 then head ++ leBytes 1 e.count ++ slice e.data 0 28
  else head ++ leBytes 1 e.status ++ leBytes 4 e.tag.toNat ++ leBytes 2 e.detail ++ leBytes 2 e.opcode ++ leBytes 1 e.count ++
    leBytes 1 0 ++ leBytes 2 e.sqHead ++ slice e.data 0 16

/-- Entries of a port's completion queue (15 R445, R454). -/
def PortS.cqSize (p : PortS) (which : CPort) : Nat := if which = .D then 16 else 2 ^ p.cqLog2
/-- Descriptors of a port's submission queue (15 R445, R454). -/
def PortS.sqSize (p : PortS) (which : CPort) : Nat :=
  match which with
  | .C => 64 | .D => 4 | _ => 2 ^ p.sqLog2
/-- Free entries of a completion queue; port C's entries go into reply frames (15 R445). -/
def PortS.cqFree (p : PortS) (which : CPort) : Nat := if which = .C then 32 else p.cqSize which - p.ring.length

/-- The entries of one COMPLETE: the entry itself and its CONT entries, with at most 436 bytes of result (15 R459, R461). -/
def completeEntries (f : Flight) (opcode : Nat) (st : Status) (detail : Nat) (result : List Byte) : List Entry :=
  let conts := (min result.length 436 - 16 + 27) / 28
  let e : Entry := { kind := 2, handle := f.handle, tag := f.tag, opcode := opcode, status := st.code, detail := detail,
                     count := conts, sqHead := 0, data := slice result 0 16, phase := false, index := 0 }
  e :: (List.range conts).map (fun i =>
    { e with kind := 3, status := 0, detail := 0, count := i + 1, data := slice (result.take 436) (16 + 28 * i) 28 })

/-- One entry written into a completion ring, at the tail with the phase of the pass (15 R458). -/
def PortS.writeEntry (p : PortS) (which : CPort) (e : Entry) : PortS :=
  let wrap := p.cqTail + 1 == p.cqSize which
  { p with
    ring := p.ring ++ [{ e with phase := p.phase, index := p.cqTail }]
    mem := insertKey p.mem p.cqTail { e with phase := p.phase, index := p.cqTail }
    cqTail := if wrap then 0 else p.cqTail + 1
    phase := if wrap then !p.phase else p.phase }

/-- Signal the interrupt of an entry of ports A and B (15 R467). -/
def State.entryIrq (s : State) (which : CPort) (accept suppress : Bool) : State :=
  let p := s.port which
  let on := if accept then p.acceptIrq else p.completeIrq && !suppress
  let v := if accept then p.acceptVec else p.completeVec
  match which with
  | .A => if on then { s with ports := s.ports.signal 0 v } else s
  | .B => if on then { s with ports := s.ports.signal 1 v } else s
  | _ => s

/-- Entries of port C join those held for the next CMD_REPLY frames, with the number of the CMD frame being served (15 R471,
R472). -/
def State.holdReply (s : State) (es : List Entry) : State :=
  let c := s.ports.pc
  { s with ports := { s.ports with pc := { c with held := c.held ++ es.map (fun e => { e with index := c.taking }) } } }

/-- Write the groups of COMPLETE entries that wait, each whole, while space lasts; each counts by its STATUS (15 R457,
R461, R486). The groups written. -/
def flushGroups (which : CPort) : List WGroup → PortS → PortS × List WGroup
  | [], p => ({ p with waiting := [] }, [])
  | g :: r, p =>
    if g.entries.length ≤ p.cqFree which then
      let p := g.entries.foldl (fun p e => p.writeEntry which e) p
      let (q, done) := flushGroups which r
        { p with completed := upd p.completed ((g.entries.head?.map (·.status)).getD 0) (fun n => satAdd 32 n 1) }
      (q, g :: done)
    else ({ p with waiting := g :: r }, [])

/-- What follows the writing of a COMPLETE entry: its interrupt, and a change of masks that was waiting for it
(15 R450, R467). -/
def State.groupWritten (s : State) (which : CPort) (g : WGroup) : State :=
  let s := s.entryIrq which false g.quiet
  match g.masks with
  | none => s
  | some (p, groups, privs) => s.setPort p { (s.port p) with groups := groups, privs := privs }

/-- Since when the completion queue of a port is full (15 R482). -/
def PortS.markFull (p : PortS) (which : CPort) (now : Nat) : PortS :=
  { p with fullSince := if p.ring.length < p.cqSize which then none else some (p.fullSince.getD now) }

/-- The waiting COMPLETE entries of a port written as far as they fit; the time that an entry waited is counted
(15 R457, R486). -/
def State.flushPort (s : State) (which : CPort) : State :=
  let p := s.port which
  let (q, done) := flushGroups which p.waiting p
  let q : PortS :=
    if q.waiting.isEmpty then
      match q.waitSince with
      | none => q
      | some t => { q with cqFullNs := q.cqFullNs + (s.now - t : Nat), waitSince := none }
    else if q.waitSince.isNone then { q with waitSince := some s.now } else q
  done.foldl (fun s g => s.groupWritten which g) (s.setPort which (q.markFull which s.now))

/-- CQ_FULL_MS (15 R486), a wait that goes on included. -/
def PortS.cqFullMs (p : PortS) (now : Nat) : Nat :=
  let run : Nat := match p.waitSince with
    | none => 0
    | some t => now - t
  min ((p.cqFullNs + run).toNat / 1000000) (2 ^ 32 - 1)

/-- Record a finished port C command: the last 256 are kept (15 R477). -/
def PortC.record (c : PortC) (f : Flight) (es : List Entry) : PortC :=
  let r : CRec := ⟨f.tag, f.handle, es⟩
  { c with recs := (c.recs ++ [r]).drop (c.recs.length + 1 - 256) }

/-- The flight of a handle. -/
def PortS.flight? (p : PortS) (h : Nat) : Option Flight := p.flights.find? (fun f => f.handle == h)

/-- Commands in flight: a command whose COMPLETE entry waits for space is still in flight (15 R445). -/
def PortS.inFlight (p : PortS) : Nat := p.flights.length + p.waiting.length
/-- A handle whose COMPLETE entry waits for space. -/
def PortS.ended (p : PortS) (h : Nat) : Bool := p.waiting.any (fun g => (g.entries.head?.map (·.handle)) == some h)

/-- A draining port whose last command has ended is DISABLED, its handles free (15 R462). -/
def PortS.drained (p : PortS) : PortS :=
  if p.st = .draining && p.flights.isEmpty then { p with st := .disabled } else p

/-- The masks that change when the COMPLETE entry of a command is written (15 R450). -/
def Flight.masks (f : Flight) (st : Status) : Option (CPort × Nat × Nat) :=
  match f.cmd, st with
  | .cmdPortPrivSet _ port groups privs _, .ok => (portOf port).map (fun q => (q, groups, privs % 128))
  | _, _ => none

/-- The entries of a finished command go out: into a reply of port C, or to the completion queue (15 R457, R472). `p` is the
port without the command. -/
def State.putGroup (s : State) (which : CPort) (p : PortS) (f : Flight) (st : Status) (es : List Entry) : State :=
  let g : WGroup := ⟨es, f.irqSuppress, f.masks st⟩
  match which with
  | .C =>
    let p := { p with completed := upd p.completed st.code (fun n => satAdd 32 n 1) }
    let s := ((s.setPort which p).holdReply es).groupWritten which g
    { s with ports := { s.ports with pc := s.ports.pc.record f es } }
  | _ => (s.setPort which { p with waiting := p.waiting ++ [g] }).flushPort which

/-- A command leaves the flash queue. -/
def State.offFlash (s : State) (which : CPort) (h : Nat) : State :=
  { s with ports := { s.ports with flashQ := s.ports.flashQ.filter (fun q => !(q.1 == which && q.2 == h)) } }

/-- A command's COMPLETE entry is written (15 R459 to R462, R470): it leaves flight; in ERROR and DRAINING its entries are
discarded and counted. -/
def State.writeComplete (s : State) (which : CPort) (h : Nat) (st : Status) (detail : Nat) (result : List Byte) : State :=
  let p := s.port which
  match p.flight? h with
  | none => s
  | some f =>
    let es := completeEntries f (opcodeOf f.cmd) st detail result
    let p := { p with flights := p.flights.filter (fun g => g.handle != h) }
    let s := s.offFlash which h
    match p.st with
    | .error => s.setPort which { p with discarded := satAdd 32 p.discarded es.length }
    | .draining => s.setPort which { p with discarded := satAdd 32 p.discarded es.length }.drained
    | _ => s.putGroup which p f st es

/-- A command completes: at once while command service runs, else when it resumes (03 R111) (assumption log 81; DEDUCED). -/
def State.complete (s : State) (which : CPort) (h : Nat) (st : Status) (detail : Nat) (result : List Byte) : State :=
  if s.pwr.service then s.writeComplete which h st detail result
  else if s.ports.deferred.any (fun q => q.1 == which && q.2.1 == h) then s
  else { s with ports := { s.ports with deferred := s.ports.deferred ++ [(which, h, st, detail, result)] } }

/-- Command service resumes: the completions decided meanwhile are written in order. -/
def State.resumeService (s : State) : State :=
  let ds := s.ports.deferred
  let s := { s with pwr := { s.pwr with service := true }, ports := { s.ports with deferred := [] } }
  ds.foldl (fun s q => s.writeComplete q.1 q.2.1 q.2.2.1 q.2.2.2.1 q.2.2.2.2) s

end Sys2Proof.Machine
end

