-- ==== Sys2Proof/Machine/Late.lean ====
section
/-!
DEFINITION. Late elements (02 R63 to R71, 04 R128, 14 R422 to R424): the decision at the deadline, the values put into an
element's slots at the boundary that closes a period, and the taking of a reaction at the boundary that opens one.
-/
namespace Sys2Proof.Machine

/-- A value of the read half for each of an element's slots: the hold values of the period (02 R65). -/
def holdValues (rh : Sparse 32) (outs : List Nat) : List (Nat × Slot) := outs.map (fun o => (o, rh.get o))

/-- The reaction that a zone's policy starts (02 R67, R68) (assumption log 45; DEDUCED). -/
def startKind (legacy : Bool) : ReactKind := if legacy then .fence else .fade 1

/-- A late period of an element at the deadline: its miss state advances, a second consecutive miss starts the zone
reaction on the slots of the element, from the hold values of the first; the answer says whether LATE_REPEAT is logged
(02 R66, R67). A slot bound between the two misses has no hold value and takes h = 0 (assumption log 103; DESIGN CHOICE). -/
def Lateness.deadline (l : Lateness) (legacy : Bool) (rh : Sparse 32) (outs : List Nat) : Lateness × Bool :=
  match l.miss with
  | .onTime => ({ l with late := true, miss := .one, hold := holdValues rh outs }, false)
  | .one => ({ l with late := true, miss := .zone, react := some ⟨startKind legacy, outs.map (fun o => (o, (lookup? l.hold o).getD 0))⟩ }, true)
  | .zone => ({ l with late := true }, false)

/-- The value that stands in a slot of an element for the closing period, and whether it is a substitute (02 R65 to R70,
10 R293); none: the value as written. `w` is what the element wrote, 0 where it wrote nothing (assumption log 103; DESIGN
CHOICE). -/
def Lateness.slotValue (l : Lateness) (rh : Sparse 32) (o : Nat) (w : Slot) : Option Slot :=
  match l.react with
  | some ⟨.fade k, h⟩ =>
    if k = 0 then (if l.late then some (rh.get o) else none) else some (fadeVal ((lookup? h o).getD 0) k)
  | some ⟨.fence, _⟩ => some 0
  | some ⟨.release k, h⟩ =>
    if l.late then some (rh.get o) else if (lookup? h o).isSome then some (releaseVal w k) else none
  | none => if l.late then some (rh.get o) else none

/-- A reaction is in force on the element's slots: a fade or a fence, not the ramp after a release (02 R69, R70). -/
def Lateness.inForce (l : Lateness) : Bool := match l.react with
  | none => false
  | some ⟨.release _, _⟩ => false
  | some _ => true

/-- A legacy fence is in force on the element's slots (02 R68). -/
def Lateness.fenced (l : Lateness) : Bool := match l.react with
  | some ⟨.fence, _⟩ => true
  | _ => false

/-- The miss state at a commit that replaces the element's program: on time, unless a zone reaction is in force (02 R66). -/
def Lateness.replaced (l : Lateness) : Lateness := if l.inForce then l else { l with miss := .onTime }

/-- The element's slots at the boundary that closes a period (01 R20 step 1). -/
def Lateness.close (l : Lateness) (e : Exch) (outs : List Nat) : Exch :=
  outs.foldl (fun e o =>
    match l.slotValue e.readHalf o ((lookup? e.writeHalf o).getD 0) with
    | none => e
    | some v => e.write o v true) e

/-- The element's late state after the boundary that closes a period: fades and ramps go one step on, a period completed
on time ends a single miss (02 R66, R67, R70). -/
def Lateness.afterClose (l : Lateness) : Lateness :=
  let react := match l.react with
    | some ⟨.fade k, h⟩ => some ⟨.fade (min (k + 1) 33), h⟩
    | some ⟨.release k, h⟩ => if 32 ≤ k then none else some ⟨.release (k + 1), h⟩
    | r => r
  let miss := if l.late then l.miss else match l.miss with
    | .one => .onTime
    | m => m
  { l with react := react, miss := miss, late := false }

/-- The element at the boundary that opens a period, with the new read half: a reaction decided by the fault controller is
taken (14 R423), a release begins (14 R424) (assumption log 48; DEDUCED). -/
def Lateness.opened (l : Lateness) (legacy : Bool) (rh : Sparse 32) (outs : List Nat) : Lateness :=
  let l := if l.arm && l.inForce then { l with arm := false } else if l.arm then
      { l with arm := false, miss := .zone, react := some ⟨if legacy then .fence else .fade 0, holdValues rh outs⟩ }
    else l
  if l.relDue then
    { l with relDue := false, miss := .onTime, react := match l.react with
        | some ⟨.fade _, h⟩ => some ⟨.release 1, h⟩
        | some ⟨.fence, _⟩ => none
        | r => r }
  else l

/-- The slots of a reaction at a commit: a slot bound to another writer leaves it; a slot newly bound to the element joins
a fade or a fence, with h from the read half of the new period, and no ramp of a release (02 R69, R70). -/
def Lateness.join (l : Lateness) (rh : Sparse 32) (outs newOuts : List Nat) : Lateness :=
  match l.react with
  | none => l
  | some r =>
    let h := r.h.filter (fun q => mem outs q.1 && !mem newOuts q.1)
    { l with react := some { r with h := if l.inForce then newOuts.foldl (fun h o => insertKey h o (rh.get o)) h else h } }

/-- The fault controller decides a reaction on the element (14 R422, R423): one that is in force stays, and a release that
was decided for the next boundary falls away; a ramp after a release gives way. A legacy fence takes the next period
(assumption log 103; DESIGN CHOICE). -/
def Lateness.decide_ (l : Lateness) : Lateness := if l.inForce then { l with relDue := false } else { l with arm := true }

end Sys2Proof.Machine
end

