-- ==== Sys2Proof/Machine/AvsLoop.lean ====
section
/-!
DEFINITION. The AVS loop (02 R49 to R62): requests, confirmation and failure, window evaluation, holds, the commit guard.
-/
namespace Sys2Proof.Machine

/-- The Q0.16 value of a percentage (02 R50). -/
def pct (p : Nat) : Nat := p * 65536 / 100

/-- A voltage request: the step is written and waits for its confirmation (02 R56). A request that is already confirmed
asks for nothing (assumption log 60; DEDUCED). -/
def Avs.request (a : Avs) (step : Nat) : Avs :=
  if step = a.req then a else { a with req := step, attempts := 0, waiting := true, retryDue := false }

/-- A step code within VMIN_STEP and VMAX_STEP: the loop requests no other (02 R49). -/
def Avs.clamp (a : Avs) (step : Nat) : Nat := min a.vmax (max a.vmin step)

/-- A raise by `n` steps from the request `base`, at most to VMAX_STEP; at VMAX_STEP, AT_VMAX is set. Of two raises at one
time the highest is requested (02 R51, R52, R55, R62). -/
def Avs.raiseFrom (a : Avs) (base n : Nat) : Avs :=
  if a.vmax ≤ base then { a with atVmax := true } else a.request (max a.req (a.clamp (base + n)))

/-- A lowering by one step, not below VMIN_STEP and not while a request is unconfirmed (02 R51, R55). -/
def Avs.lower (a : Avs) : Avs :=
  if a.req ≤ a.vmin then { a with atVmin := true }
  else if a.waiting then a
  else a.request (a.clamp (a.req - 1))

/-- HOLD with VMAX_STEP requested (02 R57). -/
def Avs.toHold (a : Avs) : Avs := { a.request a.vmax with st := .hold, expired := false }

/-- The hold timer set to the later of its expiry and an expiry in time (02 R57). -/
def Avs.holdNs (a : Avs) (t : Nat) : Avs := { a with holdUntil := some (max t (a.holdUntil.getD 0)) }

/-- The hold timer set to the later of its expiry and a number of windows from a boundary (02 R54, R57). -/
def Avs.holdWin (a : Avs) (fromB n : Nat) : Avs :=
  { a with holdFrom := max fromB (if a.holdWindows.isSome then a.holdFrom else 0)
           holdWindows := some (max n (a.holdWindows.getD 0)) }

/-- The hold timer has expired. -/
def Avs.elapsed (a : Avs) (now : Nat) : Bool :=
  decide (a.holdUntil.getD 0 ≤ now) && decide (a.holdWindows.getD 0 = 0)

/-- A late element: VMAX_STEP, held for 1 s (02 R53, R57). -/
def Avs.lateElement (a : Avs) (now : Nat) : Avs :=
  match a.st with
  | .hold => (a.toHold).holdNs (now + 1000000000)
  | .track => ({ a with holdUntil := none, holdWindows := none }.toHold).holdNs (now + 1000000000)
  | _ => a

/-- The commit guard: VMAX_STEP, held until 16 windows after the commit boundary (02 R54, R57). -/
def Avs.guard (a : Avs) (boundary : Nat) : Avs :=
  match a.st with
  | .hold => (a.toHold).holdWin boundary 16
  | .track => ({ a with holdUntil := none, holdWindows := none }.toHold).holdWin boundary 16
  | _ => a

/-- The guard's request stands confirmed (02 R54). -/
def Avs.guardOk (a : Avs) : Bool := a.req == a.vmax && !a.waiting && a.ack == a.req

/-- A window ends: the hold windows count down, every window end after the boundary from which they run (02 R57); the window
that is under way at that boundary counts as one (assumption log 101; DESIGN CHOICE). -/
def Avs.windowTick (a : Avs) (boundary : Nat) : Avs :=
  match a.holdWindows with
  | some (n + 1) => if a.holdFrom < boundary then { a with holdWindows := some n } else a
  | _ => a

/-- The evaluation of Fmax against the target in TRACK (02 R51). A raise goes from the request that stood before the causes of
the boundary that closed the window (02 R55). -/
def Avs.evaluate (a : Avs) (fmax : Nat) : Avs :=
  if pct (a.target + 10) ≤ fmax then { a.raiseFrom a.winBase 4 with lowRun := 0 }
  else if pct (a.target + 2) < fmax then { a.raiseFrom a.winBase 1 with lowRun := 0 }
  else if pct (a.target - 2) ≤ fmax then { a with lowRun := 0 }
  else if a.lowRun = 7 then { a.lower with lowRun := 0 }
  else { a with lowRun := a.lowRun + 1 }

/-- The raise of 10 steps at a finish fraction at or above 90% (02 R52); at VMAX_STEP no raise occurs (02 R62). -/
def Avs.emergency (a : Avs) (now : Nat) : Avs :=
  if a.st = .track && decide (a.emergBlock ≤ now) then
    if a.vmax ≤ a.req then { a with atVmax := true }
    else { a.raiseFrom a.req 10 with emergSeen := true, emergBlock := now + 200000 }
  else a

/-- The change of a request in mV decides its confirmation timeout: 200 µs up to 50 mV, else 2 ms (02 R56). -/
def Avs.timeoutNs (a : Avs) : Nat :=
  if (max a.req a.ack - min a.req a.ack) * 5 ≤ 50 then 200000 else 2000000

/-- Log data of the AVS detector (14 R412). -/
def Avs.data (a : Avs) : Nat := packBits [(8, a.req), (8, a.ack), (8, a.attempts)]

/-- A failed attempt of the present request; the third takes the loop to FAILED (02 R56, R57) (assumption log 60; DEDUCED). -/
def State.avsFail (s : State) : State :=
  let a := s.avs
  match a.st with
  | .failed => s
  | _ =>
    if a.attempts + 1 < 3 then { s with avs := { a with attempts := a.attempts + 1, retryDue := true } }
    else
      let a := { a with attempts := 3, st := .failed, failedSeen := true, waiting := false, retryDue := false }
      ({ s with avs := a }.raise 0x0103 0x00 0 a.data).event 11

/-- A request is confirmed (02 R56, R57): in FAILED a confirmed VMAX_STEP ends the failure. -/
def State.avsConfirm (s : State) : State :=
  let a := s.avs
  match a.st with
  | .failed =>
    if a.req = a.vmax then
      let a := { a with ack := a.req, attempts := 0, waiting := false }
      let a := if a.en then ({ a with holdUntil := none, holdWindows := none }.toHold).holdNs (s.now + 1000000000)
        else { a with st := .off }
      { s with avs := a }.endCond 0x0103 0x00 0
    else s
  | _ => { s with avs := { a with ack := a.req, attempts := 0, waiting := false, retryDue := false } }

/-- A voltage read of the regulator: none stands for a missing response, a CRC error or an error status (02 R56). A read
within 10 mV of the request confirms it (assumption log 16, 60; DESIGN CHOICE, DEDUCED). -/
def State.avsRead (s : State) (mv : Option Nat) : State :=
  match mv with
  | none => if s.avs.waiting || s.avs.st = .failed then s.avsFail else s
  | some v =>
    let want := 550 + 5 * s.avs.req
    if (s.avs.waiting || s.avs.st = .failed) && decide (v ≤ want + 10) && decide (want ≤ v + 10) then s.avsConfirm else s

/-- EN written 1: OFF goes to HOLD for 16 windows (02 R57). -/
def State.avsEnable (s : State) : State :=
  let a := { s.avs with en := true }
  if a.st = .off then
    { s with avs := ({ a with holdUntil := none, holdWindows := none }.toHold).holdWin s.per.boundaries 16 }
  else { s with avs := a }

/-- EN written 0: HOLD and TRACK go to OFF with VMAX_STEP requested (02 R57). -/
def State.avsDisable (s : State) : State :=
  let a := { s.avs with en := false }
  match a.st with
  | .hold => { s with avs := { a.request a.vmax with st := .off } }
  | .track => { s with avs := { a.request a.vmax with st := .off } }
  | _ => { s with avs := a }

/-- HOLD written 1: TRACK goes to HOLD with the timer at 0 (02 R57). -/
def State.avsHold (s : State) : State :=
  let a := { s.avs with hold := true }
  if a.st = .track then { s with avs := { a.toHold with holdUntil := none, holdWindows := none, expired := true } }
  else { s with avs := a }

/-- HOLD written 0: an expired HOLD enters TRACK (02 R57). -/
def State.avsUnhold (s : State) : State :=
  let a := { s.avs with hold := false }
  if a.st = .hold && a.expired then { s with avs := { a with st := .track, lowRun := 0, expired := false } }
  else { s with avs := a }

/-- The hold timer expires (02 R57) (assumption log 60; DEDUCED). -/
def State.avsHoldExpiry (s : State) : State :=
  let a := s.avs
  if a.st = .hold && a.elapsed s.now && !a.expired then
    if a.hold then { s with avs := { a with expired := true } }
    else { s with avs := { a with st := .track, lowRun := 0, holdUntil := none, holdWindows := none } }
  else s

/-- A write of target and limits; out of range it has no effect and sets CFG_ERR (02 R60). -/
def State.avsCtrl (s : State) (target vmin vmax : Nat) : State :=
  if decide (target < 50) || decide (85 < target) || decide (vmax < vmin) || decide (60 < vmax) then
    { s with avs := { s.avs with cfgErr := true } }
  else { s with avs := { s.avs with target := target, vmin := vmin, vmax := vmax } }

end Sys2Proof.Machine
end

