-- ==== Sys2Proof/Machine/Flags.lean ====
section
/-!
DEFINITION. Flag computations of tile instructions (06 R194, R196 to R206), each as the new flags beside the result.
-/
namespace Sys2Proof.Machine

/-- What an operation does to Z, N, V and C: none leaves a flag unchanged. -/
structure FlagSet where
  z : Option Bool := none
  n : Option Bool := none
  v : Option Bool := none
  c : Option Bool := none
  deriving DecidableEq, Repr

/-- Bit `i` of a word set or cleared; none leaves it. -/
def putBit (w : BitVec 32) (i : Nat) : Option Bool → BitVec 32
  | none => w
  | some true => w ||| (1#32 <<< i)
  | some false => w &&& ~~~(1#32 <<< i)

/-- The status word with the flags put in (05 R155: Z 0, N 1, V 2, C 3). -/
def FlagSet.apply (f : FlagSet) (sr : BitVec 32) : BitVec 32 := putBit (putBit (putBit (putBit sr 0 f.z) 1 f.n) 2 f.v) 3 f.c

/-- Z and N from a 32-bit result. -/
def zn32 (r : DWord) (v c : Option Bool) : FlagSet := ⟨some (r == 0), some r.msb, v, c⟩

/-- Z and N from an accumulator result (06 R206). -/
def zn80 (r : Acc) (v : Option Bool) : FlagSet := ⟨some (r == 0), some r.msb, v, none⟩

/-- Carry out of bit 31 of a sum. -/
def carryAdd (a b : DWord) : Bool := decide (2 ^ 32 ≤ a.toNat + b.toNat)
/-- 1 if a difference needs no borrow. -/
def noBorrow (a b : DWord) : Bool := decide (b.toNat ≤ a.toNat)

/-- The result (none: not written) and flags of a data ALU operation on dd and ds (06 R201). -/
def aluResult (op : AluOp) (dd ds : DWord) : Option DWord × FlagSet :=
  let sum := dd.toInt + ds.toInt
  let dif := dd.toInt - ds.toInt
  let logic (r : DWord) : Option DWord × FlagSet := (some r, zn32 r (some false) none)
  let sat (v : Int) (c : Option Bool) : Option DWord × FlagSet := (some (satBV 32 v), zn32 (satBV 32 v) (some (clipsS 32 v)) c)
  match op with
  | .mov => logic ds
  | .add => (some (dd + ds), zn32 (dd + ds) (some (clipsS 32 sum)) (some (carryAdd dd ds)))
  | .sub => (some (dd - ds), zn32 (dd - ds) (some (clipsS 32 dif)) (some (noBorrow dd ds)))
  | .adds => sat sum (some (carryAdd dd ds))
  | .subs => sat dif (some (noBorrow dd ds))
  | .and => logic (dd &&& ds)
  | .or => logic (dd ||| ds)
  | .xor => logic (dd ^^^ ds)
  | .not => logic (~~~ds)
  | .neg => sat (-ds.toInt) none
  | .abs => sat ds.toInt.natAbs none
  | .cmp => (none, zn32 (dd - ds) (some (clipsS 32 dif)) (some (noBorrow dd ds)))
  | .min => logic (if dd.toInt ≤ ds.toInt then dd else ds)
  | .max => logic (if ds.toInt ≤ dd.toInt then dd else ds)
  | .tst => (none, zn32 (dd &&& ds) (some false) none)

/-- The result and flags of a shift of dd by n (06 R202). -/
def shiftResult (op : ShiftOp) (dd : DWord) (n : Nat) : DWord × FlagSet :=
  if n = 0 then (dd, zn32 dd (some false) none)
  else match op with
  | .lsl =>
    let r := if n < 32 then dd <<< n else 0
    (r, zn32 r (some false) (some (decide (n ≤ 32) && dd.getLsbD (32 - n))))
  | .asr =>
    let r := dd.sshiftRight (min n 31)
    (r, zn32 r (some false) (some (if n < 32 then dd.getLsbD (n - 1) else dd.msb)))
  | .lsr =>
    let r := if n < 32 then dd >>> n else 0
    (r, zn32 r (some false) (some (decide (n ≤ 32) && dd.getLsbD (n - 1))))
  | .asls =>
    let v : Int := dd.toInt * 2 ^ (min n 32)
    (satBV 32 v, zn32 (satBV 32 v) (some (clipsS 32 v)) none)

/-- Whether a condition code holds for a status word (06 R194). -/
def ccHolds (cc : CC) (sr : BitVec 32) : Bool :=
  let z := sr.getLsbD 0
  let n := sr.getLsbD 1
  let v := sr.getLsbD 2
  let c := sr.getLsbD 3
  match cc.val with
  | 0x0 => true
  | 0x1 => z
  | 0x2 => !z
  | 0x3 => n
  | 0x4 => !n
  | 0x5 => v
  | 0x6 => !v
  | 0x7 => c
  | 0x8 => !c
  | 0x9 => !z && (n == v)
  | 0xA => n == v
  | 0xB => n != v
  | 0xC => z || (n != v)
  | 0xD => c && !z
  | 0xE => !c || z
  | _ => false

end Sys2Proof.Machine
end

