-- ==== Sys2Proof/Machine/TileExec.lean ====
section
/-!
DEFINITION. One tile instruction on one tile: fetch with ECC, the operation, the moves, visibility, delay slots, REP,
return stack, events and parking (05 R145 to R175, 06 R182 to R206). The operations themselves are the meanings of the
rows, in Machine/TileOps.lean; here is what they share.
-/
namespace Sys2Proof.Machine

/-- The operation of a row on an instruction in execution; `old` gives the values it sees. -/
abbrev OpFn := TEnv → TCtx → TRun → TRun

/-- What a row does with a decoded operation: its move rule, whether it is illegal in a delay slot and under REP
(05 R167), and its operation. -/
structure RowOp where
  rule : MoveRule
  placed : Bool
  run : OpFn

/-- An operation that writes only the context. -/
def RowOp.plain (f : TCtx → TCtx → TCtx) : RowOp := ⟨.free, false, fun _ old r => { r with c := f old r.c }⟩

/-- Write accumulator `i` with the clamped value, setting SATi and the SAT event when it clamps (05 R156). -/
def TRun.putAcc (r : TRun) (i : Fin 4) (v : Int) : TRun :=
  let r := { r with c := { r.c with a := r.c.a.set i (satBV 80 v) } }
  if clipsS 80 v then { r with sticky := r.sticky ||| (0x10#32 <<< i.val), satEv := true } else r

/-- Put flags into the status word of the instruction's result. -/
def TRun.flags (r : TRun) (f : FlagSet) : TRun := { r with c := { r.c with sr := f.apply r.c.sr } }

/-- Write a data register. -/
def TRun.putD (r : TRun) (i : Fin 8) (v : DWord) : TRun := { r with c := { r.c with d := r.c.d.set i v } }

/-- STACK log data: PC and task (14 R412). -/
def stackData (pc : TAddr) (bg : Bool) : Nat := packBits [(16, pc.toNat), (8, b2n bg)]

/-- Push a return address; a push onto a full stack discards the oldest entry and logs STACK (05 R166). -/
def TRun.push (r : TRun) (env : TEnv) (pc a : TAddr) : TRun :=
  let r := if r.c.stack.length < 8 then r else r.log 0x0607 (stackData pc env.bg)
  { r with c := { r.c with stack := a :: r.c.stack.take 7 } }

/-- Pop a return address into a transfer; on an empty stack nothing transfers and STACK is logged (05 R166). -/
def TRun.pop (r : TRun) (env : TEnv) (pc : TAddr) : TRun :=
  match r.c.stack with
  | [] => { r.log 0x0607 (stackData pc env.bg) with flow := .transfer none }
  | a :: st => { r with c := { r.c with stack := st }, flow := .transfer (some a) }

/-- The context of the task that runs. -/
def Tile.ctx (t : Tile) (bg : Bool) : TCtx := if bg then t.bg else t.fg
/-- The tile with the context of a task replaced. -/
def Tile.setCtx (t : Tile) (bg : Bool) (c : TCtx) : Tile := if bg then { t with bg := c } else { t with fg := c }

/-- The boundary allows an event: outside delay slots, REP and handlers (05 R171). -/
def TCtx.eventOpen (c : TCtx) : Bool := c.delay.isNone && c.rep == 0 && !c.sr.getLsbD 10

/-- The events due at this boundary: pending and unmasked (05 R171). Bit 2 is SAT, bit 3 TRAP. An event raised by the
instruction just before the foreground's END stays pending (05 R172) (assumption log 70; DEDUCED). -/
def Tile.dueEvents (t : Tile) (bg : Bool) : BitVec 32 :=
  let c := t.ctx bg
  let stays : BitVec 32 := if !bg && decide (decodeOp (t.pLive.get c.pc.toNat) = some .tend) then c.raised else 0
  c.evpend &&& c.evmask &&& 0xC#32 &&& ~~~stays

/-- An event of the running task is due; not before the first instruction of a foreground (05 R171, R172) (assumption log 70;
DEDUCED). -/
def Tile.eventDue (t : Tile) (bg : Bool) : Bool :=
  (t.ctx bg).eventOpen && decide (t.dueEvents bg ≠ 0) && (bg || t.fgCount != 0)

/-- The instruction boundary lies outside delay slots and REP (05 R171): PARK can be taken. -/
def TCtx.parkable (c : TCtx) : Bool := c.delay.isNone && c.rep == 0

/-- A context whose last instruction has passed writeback: loads in their registers, no store left (assumption log 90;
DEDUCED). -/
def TCtx.settled (c : TCtx) : TCtx := { c.applyLoads c.loads with loads := [], stores := [] }

/-- A tile whose running instruction has passed writeback: its stores are in memory (05 R173) (assumption log 90; DEDUCED). -/
def Tile.settle (t : Tile) (bg : Bool) : Tile :=
  ((t.applyStores (t.ctx bg).stores)).setCtx bg (t.ctx bg).settled

/-- PC and sequencing after an instruction (05 R165, R168, 06 R195). -/
def TCtx.advance (c : TCtx) (flow : Flow) : TCtx :=
  match flow with
  | .tend => c
  | .transfer tgt => { c with pc := c.pc + 1, delay := some ⟨2, tgt⟩ }
  | .rep 0 => { c with pc := c.pc + 2 }
  | .rep n => { c with pc := c.pc + 1, rep := n }
  | .next =>
    if c.rep > 1 then { c with rep := c.rep - 1 }
    else
      let c := { c with rep := 0 }
      match c.delay with
      | none => { c with pc := c.pc + 1 }
      | some ⟨left, tgt⟩ =>
        if left > 1 then { c with pc := c.pc + 1, delay := some ⟨left - 1, tgt⟩ }
        else { c with pc := tgt.getD (c.pc + 1), delay := none }

/-- The background parks: its last instruction has passed writeback and its context is saved (05 R174) (assumption log 90;
DEDUCED). -/
def Tile.park (t : Tile) : Tile := { t.settle true with run := .parked, parkPend := false }

/-- END (05 R173, R174, 06 R193): the handler flag and the return stack are cleared; the foreground goes to DRAIN, the
background parks and resumes at ENTRY_BG. -/
def Tile.tend (t : Tile) (bg : Bool) (entryBg : TAddr) (tick : Nat) : Tile :=
  let t := t.settle bg
  let c := t.ctx bg
  let c := { c with sr := c.sr &&& ~~~0x400#32, stack := [], delay := none, rep := 0 }
  if bg then (t.setCtx true { c with pc := entryBg }).park
  else { t.setCtx false c with run := .drain, slk := { t.slk with endTick := some tick } }

/-- The reaction to an uncorrectable error read by a task (05 R150): the foreground halts and its period is late, the
background stops. -/
def Tile.eccStop (t : Tile) (bg : Bool) (tick : Nat) : Tile :=
  let t := t.settle bg
  if bg then { t.park with bgStopped := true }
  else { t with run := .halted, eccLate := true, slk := { t.slk with haltTick := some tick } }

/-- One instruction executed on the task that runs (05, 06). `row` is what the table's row does with an operation. -/
def Tile.exec (env : TEnv) (entryBg : TAddr) (tick : Nat) (w : PWord) (row : RowOp) (t : Tile) : Tile × List TRep :=
  let old := t.ctx env.bg
  let r0 : TRun :=
    { t := t, c := old.applyLoads old.loads, reps := [], uncorr := false, satEv := false, sticky := 0, loads := [],
      stores := [], ptrimm := [], flow := .next }
  let blocked := row.placed && (old.delay.isSome || old.rep != 0)
  let r :=
    if blocked then
      (r0.moves env old w (if row.rule = .tend then .free else row.rule)).log 0x0608 (illegalData old.pc env.bg w)
    else row.run env old (r0.moves env old w row.rule)
  if r.uncorr then (r.t.eccStop env.bg tick, r.reps)
  else
    let t := r.t.applyStores old.stores
    let evs := if r.satEv then r.c.evpend ||| 4#32 else r.c.evpend
    let c := { r.c with
      sr := r.c.sr ||| r.sticky
      evpend := evs
      raised := evs &&& ~~~old.evpend
      loads := r.loads
      stores := r.stores }
    let c := c.advance r.flow
    let t := t.setCtx env.bg c
    let t := if env.bg then t else { t with fgCount := t.fgCount + 1 }
    if r.flow = .tend then (t.tend env.bg entryBg tick, r.reps)
    else if env.bg && t.parkPend && c.parkable then (t.park, r.reps)
    else (t, r.reps)

/-- The event of 05 R170 that is taken: SAT first. The address of the next instruction is pushed and fetch goes to the
handler; the foreground counts 2 instructions (05 R171) (assumption log 90; DEDUCED). -/
def Tile.takeEvent (env : TEnv) (t : Tile) : Tile × List TRep :=
  let c := t.ctx env.bg
  let sat := (t.dueEvents env.bg).getLsbD 2
  let vec : TAddr := c.evvec.setWidth 14 + (if sat then 0 else 8)
  let r0 : TRun := { t := t, c := c, reps := [], uncorr := false, satEv := false, sticky := 0, loads := [], stores := [],
                     ptrimm := [], flow := .next }
  let r := r0.push env c.pc c.pc
  let c := { r.c with
    sr := r.c.sr ||| 0x400#32
    evpend := r.c.evpend &&& ~~~(if sat then 4#32 else 8#32)
    pc := vec }
  let t := t.setCtx env.bg c
  (if env.bg then t else { t with fgCount := t.fgCount + 2 }, r.reps)

/-- The outcome of the ECC check of a program fetch (05 R146, R149, R150): the word to execute, or none for a stop. -/
def Tile.fetch (env : TEnv) (t : Tile) : Option PWord × Tile × List TRep :=
  let a := (t.ctx env.bg).pc.toNat
  let put (t : Tile) (w : PWord) : Tile := { (t.clearEcc .p a) with pLive := t.pLive.set a w }
  match eccCheck t .p a env.freeIx with
  | .clean => (some (if eccMulti t .p a then eccFreeWord env.freeIx else t.pLive.get a), t, [])
  | .corrected => (some (t.pLive.get a), t.clearEcc .p a, [(0x0605, eccData .p a env.bg 0)])
  | .wrong => (some (eccFreeWord env.freeIx), put t (eccFreeWord env.freeIx), [(0x0605, eccData .p a env.bg 0)])
  | .uncorr => (none, t, [(0x0606, eccData .p a env.bg (if env.bg then 2 else 0))])

/-- The task a tile runs, if it runs one. -/
def Tile.task (t : Tile) : Option Bool :=
  match t.run with
  | .fg => some false | .bg => some true | _ => none

/-- A row of the instruction set on a tile (05 R163, R171, 06 R182): the tile must run a task with no event due, and the
word at PC must be an instruction of the row; otherwise nothing happens. `sel` picks the row's instructions (assumption log
10, 13; DEDUCED, DESIGN CHOICE). -/
def Tile.row (env : TEnv) (entryBg : TAddr) (tick : Nat) (sel : Option TOp → Option RowOp) (t : Tile) :
    Option (Tile × List TRep) :=
  if t.eventDue env.bg then none
  else match t.fetch env with
    | (none, t', reps) =>
      match sel (decodeOp (t.pLive.get (t.ctx env.bg).pc.toNat)) with
      | none => none
      | some _ => some (t'.eccStop env.bg tick, reps)
    | (some w, t', reps) =>
      match sel (decodeOp w) with
      | none => none
      | some row =>
        let (t'', reps') := t'.exec env entryBg tick w row
        some (t'', reps ++ reps')

end Sys2Proof.Machine
end

