-- ==== Sys2Proof/Machine/TileOps.lean ====
section
/-!
DEFINITION. The operation of every tile instruction (06 R192 to R206): for each row of the table, which decoded
operations it is, and what they do.
-/
namespace Sys2Proof.Machine

/-- NOP (06 R192). -/
def selNOP : Option TOp → Option RowOp
  | some .nop => some ⟨.free, false, fun _ _ r => r⟩
  | _ => none

/-- END (06 R193): the end of the task is the sequencer's (`Tile.tend`). -/
def selEND : Option TOp → Option RowOp
  | some .tend => some ⟨.tend, true, fun _ _ r => { r with flow := .tend }⟩
  | _ => none

/-- BRA cc, target (06 R192, R194). -/
def selBRA : Option TOp → Option RowOp
  | some (.bra cc tgt) => some ⟨.xTarget, true, fun _ old r =>
      { r with flow := .transfer (if ccHolds cc old.sr then some tgt else none) }⟩
  | _ => none

/-- CALL cc, target: the return address is pc + 3 (06 R192). -/
def selCALL : Option TOp → Option RowOp
  | some (.call cc tgt) => some ⟨.xTarget, true, fun env old r =>
      if ccHolds cc old.sr then { r.push env old.pc (old.pc + 3) with flow := .transfer (some tgt) }
      else { r with flow := .transfer none }⟩
  | _ => none

/-- RET cc (06 R192, 05 R166). -/
def selRET : Option TOp → Option RowOp
  | some (.ret cc) => some ⟨.free, true, fun env old r =>
      if ccHolds cc old.sr then r.pop env old.pc else { r with flow := .transfer none }⟩
  | _ => none

/-- RTE: pops, clears IH, also on an empty stack (06 R192, 05 R166). -/
def selRTE : Option TOp → Option RowOp
  | some .rte => some ⟨.free, true, fun env old r =>
      let r := r.pop env old.pc
      { r with c := { r.c with sr := r.c.sr &&& ~~~0x400#32 } }⟩
  | _ => none

/-- DBNZ target: LC counts down modulo 65,536 (06 R192). -/
def selDBNZ : Option TOp → Option RowOp
  | some (.dbnz tgt) => some ⟨.xTarget, true, fun _ old r =>
      let lc := old.lc - 1
      { r with c := { r.c with lc := lc }, flow := .transfer (if lc ≠ 0 then some tgt else none) }⟩
  | _ => none

/-- TRAP: the TRAP event becomes pending (06 R192, 05 R170). -/
def selTRAP : Option TOp → Option RowOp
  | some .trap => some ⟨.free, false, fun _ _ r => { r with c := { r.c with evpend := r.c.evpend ||| 8#32 } }⟩
  | _ => none

/-- REP by count or by register; a register count above 1,024 is clamped and sets REPCLAMP (05 R168, 06 R195). -/
def selREP : Option TOp → Option RowOp
  | some (.repImm n) => some ⟨.free, true, fun _ _ r => { r with flow := .rep n }⟩
  | some (.repReg d) => some ⟨.free, true, fun _ old r =>
      let n := old.d[d].toNat
      if n > 1024 then { r with flow := .rep 1024, sticky := r.sticky ||| 0x200#32 } else { r with flow := .rep n }⟩
  | _ => none

/-- The exact signed product of two data registers (05 R156). -/
def prod (c : TCtx) (p q : Fin 8) : Int := c.d[p].toInt * c.d[q].toInt

/-- The V flag after an accumulator write: whether any clamped (06 R206). -/
def vOnly (b : Bool) : FlagSet := { v := some b }

/-- DMAC: two signed products into an accumulator pair (06 R197). -/
def selDMAC : Option TOp → Option RowOp
  | some (.dmac pair s0 s1 clr p q r s) => some ⟨.free, false, fun _ old run =>
      let hi (x : Fin 4) : Fin 8 := Fin.ofNat 8 (4 + x.val)
      let lo (x : Fin 4) : Fin 8 := Fin.ofNat 8 x.val
      let ie : Fin 4 := if pair then 2 else 0
      let io : Fin 4 := if pair then 3 else 1
      let p0 := prod old (lo p) (hi q)
      let p1 := prod old (lo r) (hi s)
      let ve := (if clr then 0 else old.a[ie].toInt) + (if s0 then -p0 else p0)
      let vo := (if clr then 0 else old.a[io].toInt) + (if s1 then -p1 else p1)
      ((run.putAcc ie ve).putAcc io vo).flags (vOnly (clipsS 80 ve || clipsS 80 vo))⟩
  | _ => none

/-- A single multiply whose new accumulator is `f` of the old one and the product (06 R196). -/
def mulRow (i : Fin 4) (p q : Fin 8) (f : Int → Int → Int) : RowOp :=
  ⟨.free, false, fun _ old r =>
    let v := f old.a[i].toInt (prod old p q)
    (r.putAcc i v).flags (vOnly (clipsS 80 v))⟩

/-- MPY (06 R196). -/
def selMPY : Option TOp → Option RowOp
  | some (.mul .mpy i p q) => some (mulRow i p q (fun _ x => x))
  | _ => none

/-- MAC (06 R196). -/
def selMAC : Option TOp → Option RowOp
  | some (.mul .mac i p q) => some (mulRow i p q (fun a x => a + x))
  | _ => none

/-- MSU (06 R196). -/
def selMSU : Option TOp → Option RowOp
  | some (.mul .msu i p q) => some (mulRow i p q (fun a x => a - x))
  | _ => none

/-- MPYN (06 R196). -/
def selMPYN : Option TOp → Option RowOp
  | some (.mul .mpyn i p q) => some (mulRow i p q (fun _ x => -x))
  | _ => none

/-- A post-modify by TAP; a PTRIMM of the same register stands (06 R191). -/
def TRun.tapPost (r : TRun) (reg : TReg) (v : TAddr) : TRun :=
  if mem r.ptrimm reg then r else { r with c := r.c.writeReg reg (v.setWidth 32) }

/-- TAP: a filter tap with its aging write (06 R198). -/
def selTAP : Option TOp → Option RowOp
  | some (.tap i n m sub xmode ymode) => some ⟨.tap m, false, fun env old r =>
      let xa := old.ax[n]
      let ya := old.ay[m]
      let (xv, r) := r.read env .x xa
      let (cv, r) := r.read env .y ya
      let p := xv.toInt * cv.toInt
      let v := old.a[i].toInt + (if sub then -p else p)
      let r := (r.putAcc i v).flags (vOnly (clipsS 80 v))
      let r := r.store env .x (succAddr xa old.lx[n]) xv
      let r := if xmode.val = 0 then r else r.tapPost (.ax n) (old.postMode false n xmode)
      if ymode.val = 0 then r else r.tapPost (.ay m) (old.postMode true m ymode)⟩
  | _ => none

/-- A data ALU operation on dd and ds (06 R201). -/
def aluRow (op : AluOp) (dd ds : Fin 8) : RowOp :=
  ⟨.free, false, fun _ old r =>
    let (v, f) := aluResult op old.d[dd] old.d[ds]
    (match v with
     | some x => r.putD dd x
     | none => r).flags f⟩

/-- MOV (06 R201). -/
def selMOV : Option TOp → Option RowOp
  | some (.alu .mov dd ds) => some (aluRow .mov dd ds)
  | _ => none

/-- ADD (06 R201). -/
def selADD : Option TOp → Option RowOp
  | some (.alu .add dd ds) => some (aluRow .add dd ds)
  | _ => none

/-- SUB (06 R201). -/
def selSUB : Option TOp → Option RowOp
  | some (.alu .sub dd ds) => some (aluRow .sub dd ds)
  | _ => none

/-- ADDS (06 R201). -/
def selADDS : Option TOp → Option RowOp
  | some (.alu .adds dd ds) => some (aluRow .adds dd ds)
  | _ => none

/-- SUBS (06 R201). -/
def selSUBS : Option TOp → Option RowOp
  | some (.alu .subs dd ds) => some (aluRow .subs dd ds)
  | _ => none

/-- AND (06 R201). -/
def selAND : Option TOp → Option RowOp
  | some (.alu .and dd ds) => some (aluRow .and dd ds)
  | _ => none

/-- OR (06 R201). -/
def selOR : Option TOp → Option RowOp
  | some (.alu .or dd ds) => some (aluRow .or dd ds)
  | _ => none

/-- XOR (06 R201). -/
def selXOR : Option TOp → Option RowOp
  | some (.alu .xor dd ds) => some (aluRow .xor dd ds)
  | _ => none

/-- NOT (06 R201). -/
def selNOT : Option TOp → Option RowOp
  | some (.alu .not dd ds) => some (aluRow .not dd ds)
  | _ => none

/-- NEG (06 R201). -/
def selNEG : Option TOp → Option RowOp
  | some (.alu .neg dd ds) => some (aluRow .neg dd ds)
  | _ => none

/-- ABS (06 R201). -/
def selABS : Option TOp → Option RowOp
  | some (.alu .abs dd ds) => some (aluRow .abs dd ds)
  | _ => none

/-- CMP (06 R201). -/
def selCMP : Option TOp → Option RowOp
  | some (.alu .cmp dd ds) => some (aluRow .cmp dd ds)
  | _ => none

/-- MIN (06 R201). -/
def selMIN : Option TOp → Option RowOp
  | some (.alu .min dd ds) => some (aluRow .min dd ds)
  | _ => none

/-- MAX (06 R201). -/
def selMAX : Option TOp → Option RowOp
  | some (.alu .max dd ds) => some (aluRow .max dd ds)
  | _ => none

/-- TST (06 R201). -/
def selTST : Option TOp → Option RowOp
  | some (.alu .tst dd ds) => some (aluRow .tst dd ds)
  | _ => none

/-- A shift of dd (06 R202). -/
def shiftRow (op : ShiftOp) (amt : ShiftAmt) (dd : Fin 8) : RowOp :=
  ⟨.free, false, fun _ old r =>
    let n := match amt with
      | .imm n => n.val
      | .reg q => old.d[q].toNat
    let (v, f) := shiftResult op old.d[dd] n
    (r.putD dd v).flags f⟩

/-- LSL (06 R202). -/
def selLSL : Option TOp → Option RowOp
  | some (.shift .lsl amt dd) => some (shiftRow .lsl amt dd)
  | _ => none

/-- ASR (06 R202). -/
def selASR : Option TOp → Option RowOp
  | some (.shift .asr amt dd) => some (shiftRow .asr amt dd)
  | _ => none

/-- LSR (06 R202). -/
def selLSR : Option TOp → Option RowOp
  | some (.shift .lsr amt dd) => some (shiftRow .lsr amt dd)
  | _ => none

/-- ASLS (06 R202). -/
def selASLS : Option TOp → Option RowOp
  | some (.shift .asls amt dd) => some (shiftRow .asls amt dd)
  | _ => none

/-- An accumulator operation: the value before the 80-bit clamp, with Z and N of the result and V of the clamp
(06 R200, R206). -/
def accRow (i : Fin 4) (f : TCtx → Int) : RowOp :=
  ⟨.free, false, fun _ old r =>
    let v := f old
    (r.putAcc i v).flags (zn80 (satBV 80 v) (some (clipsS 80 v)))⟩

/-- CLR: Z is 1, N and V are 0 (06 R200, R206). -/
def selCLR : Option TOp → Option RowOp
  | some (.clr i) => some (accRow i (fun _ => 0))
  | _ => none

/-- MOVA (06 R200). -/
def selMOVA : Option TOp → Option RowOp
  | some (.acc .mova i j) => some (accRow i (fun c => c.a[j].toInt))
  | _ => none

/-- ADDA (06 R200). -/
def selADDA : Option TOp → Option RowOp
  | some (.acc .adda i j) => some (accRow i (fun c => c.a[i].toInt + c.a[j].toInt))
  | _ => none

/-- SUBA (06 R200). -/
def selSUBA : Option TOp → Option RowOp
  | some (.acc .suba i j) => some (accRow i (fun c => c.a[i].toInt - c.a[j].toInt))
  | _ => none

/-- NEGA (06 R200). -/
def selNEGA : Option TOp → Option RowOp
  | some (.acc .nega i j) => some (accRow i (fun c => -c.a[j].toInt))
  | _ => none

/-- ABSA (06 R200). -/
def selABSA : Option TOp → Option RowOp
  | some (.acc .absa i j) => some (accRow i (fun c => c.a[j].toInt.natAbs))
  | _ => none

/-- ASHA: a signed shift amount, left with saturation, right arithmetically (06 R200). -/
def selASHA : Option TOp → Option RowOp
  | some (.asha i sh) => some (accRow i (fun c =>
      if 0 ≤ sh then c.a[i].toInt * 2 ^ sh.toNat else asr c.a[i].toInt (-sh).toNat))
  | _ => none

/-- EXT (06 R199, R200). -/
def selEXT : Option TOp → Option RowOp
  | some (.ext i d e) => some ⟨.free, false, fun _ old r =>
      let (v, clip) := extract old.a[i] e (srRnd old.sr)
      ((r.putD d v).flags (zn32 v (some clip) none)).msat clip⟩
  | _ => none

/-- LDA: a data register placed at an extraction point (06 R200). -/
def selLDA : Option TOp → Option RowOp
  | some (.lda i d e) => some (accRow i (fun c => c.d[d].toInt * 2 ^ extShift e))
  | _ => none

/-- CMPA: flags only (06 R200). -/
def selCMPA : Option TOp → Option RowOp
  | some (.cmpa i j) => some ⟨.free, false, fun _ old r =>
      r.flags ⟨some (old.a[i] == old.a[j]), some (decide (old.a[i].toInt < old.a[j].toInt)), some false, none⟩⟩
  | _ => none

/-- Log the ILLEGAL of an undefined register code (06 R204). -/
def TRun.illegal (r : TRun) (env : TEnv) (old : TCtx) : TRun :=
  r.log 0x0608 (illegalData old.pc env.bg (r.t.pLive.get old.pc.toNat))

/-- MOVC: between a data register and a control register (06 R203); an undefined code does nothing and is illegal. -/
def selMOVC : Option TOp → Option RowOp
  | some (.movc toCreg d creg) => some ⟨.free, false, fun env old r =>
      match creg with
      | none => r.illegal env old
      | some q => if toCreg then { r with c := r.c.writeReg q old.d[d] } else r.putD d (old.readReg q)⟩
  | _ => none

/-- LDIW: a 32-bit immediate into a register; an undefined code writes nothing and is illegal (06 R204). -/
def selLDIW : Option TOp → Option RowOp
  | some (.ldiw target imm) => some ⟨.imm, false, fun env old r =>
      match target with
      | none => r.illegal env old
      | some q => { r with c := r.c.writeReg q imm }⟩
  | _ => none

/-- The dither draw (06 R205); `k` is the tile index as built. -/
def ditherDraw (seed t : BitVec 64) (k j : Nat) : DWord :=
  let g : BitVec 64 := BitVec.ofNat 64 (256 * k + j)
  let z := seed + t * 0x9e3779b97f4a7c15#64 + g * 0xd1b54a32d192ed03#64
  let z := (z ^^^ (z >>> 30)) * 0xbf58476d1ce4e5b9#64
  let z := (z ^^^ (z >>> 27)) * 0x94d049bb133111eb#64
  let z := z ^^^ (z >>> 31)
  z.extractLsb' 32 32

/-- DITH (06 R205). -/
def selDITH : Option TOp → Option RowOp
  | some (.dith dd j) => some ⟨.free, false, fun env _ r =>
      r.putD dd (ditherDraw env.seed env.mediaTime env.built j.toNat)⟩
  | _ => none

/-- An undefined group or sub-operation code: no operation, the moves are carried out, ILLEGAL is logged (06 R183). -/
def selUNDEF : Option TOp → Option RowOp
  | none => some ⟨.free, false, fun env old r => r.illegal env old⟩
  | _ => none

end Sys2Proof.Machine
end

