-- ==== Sys2Proof/Machine/Tiles.lean ====
section
/-!
DEFINITION. Tiles in the period (02 R28 to R48, 05 R151, R171 to R179): instruction rows on the state, sample start,
scatter, parking, the deadline, gather, cold start, scrub, and the slack registers.
-/
namespace Sys2Proof.Machine

/-- The slots that physical tile `k` writes under the LIVE plane (05 R179). -/
def State.tileOuts (s : State) (k : Nat) : List Nat :=
  match s.workOf k with
  | none => []
  | some (_, p) => p.scatter.map (·.slot)

/-- What an instruction of physical tile `k` sees of the engine. -/
def State.tileEnv (s : State) (k : Nat) (bg : Bool) : TEnv where
  bg := bg
  freeIx := s.freeCtr
  seed := (s.pl.live.map (·.ditherSeed)).getD 0
  mediaTime := BitVec.ofNat 64 s.per.mediaTime
  built := ((s.workOf k).map (·.1)).getD k

/-- A tile's step put into the state: its reports, the BUDGET report when the foreground count passes the budget (02 R33),
and the free values it may have used. -/
def State.putTileStep (s : State) (k : Nat) (t' : Tile) (reps : List TRep) : State :=
  let t := s.tile k
  let s := if t.ecc.isEmpty then s else { s with freeCtr := s.freeCtr + 8 }
  let s := (s.setTile k t').tileReports k reps
  let b := budgetOf s.per.baseRate
  if decide (t.fgCount ≤ b) && decide (b < t'.fgCount) then s.report 0x0603 (tileZone k) k t'.fgCount else s

/-- An instruction row on physical tile `k`, ending at a tick of the period timer (02 R26, 05 R163) (assumption log 13;
DESIGN CHOICE). -/
def State.tileRow (s : State) (k tick : Nat) (sel : Option TOp → Option RowOp) : State :=
  match (s.tile k).task with
  | none => s
  | some bg =>
    let entryBg := ((s.workOf k).map (·.2.entryBg)).getD 0
    match (s.tile k).row (s.tileEnv k bg) entryBg tick sel with
    | none => s
    | some (t', reps) => s.putTileStep k t' reps

/-- EVENT_TAKEN (05 R171). -/
def State.tileEvent (s : State) (k : Nat) : State :=
  match (s.tile k).task with
  | none => s
  | some bg =>
    if (s.tile k).eventDue bg then
      let (t', reps) := (s.tile k).takeEvent (s.tileEnv k bg)
      s.putTileStep k t' reps
    else s

/-- Sample start (05 R173): gather is complete, the foreground runs from ENTRY_FG; only PC changes (assumption log 10;
DEDUCED). -/
def State.sstart (s : State) (k tick : Nat) : State :=
  let t := s.tile k
  match t.run, s.workOf k with
  | .wait, some (_, p) =>
    s.setTile k { t with
      run := .fg
      gatherDone := true
      fgCount := 0
      fg := { t.fg with pc := p.entryFg, delay := none, rep := 0 }
      slk := { t.slk with startTick := some tick } }
  | _, _ => s

/-- One scatter entry's word, with its ECC check (05 R149, R150): the word, the tile, reports, and whether it was
uncorrectable. -/
def scatterWord (freeIx : Nat) (t : Tile) (e : ScatterEntry) : DWord × Tile × List TRep × Bool :=
  let m : TMem := if e.y then .y else .x
  let a : TAddr := BitVec.ofNat 14 e.addr
  match eccCheck t m e.addr freeIx with
  | .clean => (if eccMulti t m e.addr then (eccFreeWord freeIx).setWidth 32 else t.word m a, t, [], false)
  | .corrected => (t.word m a, t.clearEcc m e.addr, [(0x0605, eccData m e.addr false 1)], false)
  | .wrong => ((eccFreeWord freeIx).setWidth 32, t.setWord m a ((eccFreeWord freeIx).setWidth 32),
      [(0x0605, eccData m e.addr false 1)], false)
  | .uncorr => (0, t, [(0x0606, eccData m e.addr false 1)], true)

/-- The scatter table carried out in order; it stops at an uncorrectable word (05 R150, R178). -/
def scatterAll (freeIx : Nat) : List ScatterEntry → Tile → Exch → List TRep → Tile × Exch × List TRep × Bool
  | [], t, e, rs => (t, e, rs, false)
  | x :: r, t, e, rs =>
    let (v, t, rs', bad) := scatterWord freeIx t x
    if bad then (t, e, rs ++ rs', true) else scatterAll freeIx r t (e.write x.slot v false) (rs ++ rs')

/-- Scatter completes (05 R174, R175, R178). -/
def State.scatterComplete (s : State) (k tick : Nat) : State :=
  let t := s.tile k
  match t.run, s.workOf k with
  | .drain, some (_, p) =>
    let (t', ex, rs, bad) := scatterAll s.freeCtr p.scatter t s.ex []
    if bad then
      s.putTileStep k { t' with run := .halted, eccLate := true, slk := { t'.slk with haltTick := some tick } } rs
    else
      let toBg := decide (tick < parkTicks s.per.baseRate) && p.bgPresent && !t.bgStopped
      ({ s with ex := ex }).putTileStep k
        { t' with
          run := if toBg then .bg else .parked
          scatterDone := true
          slk := { t'.slk with finishTick := some tick } } rs
  | _, _ => s

/-- The park point is reached for a tile (05 R174). -/
def State.parkTile (s : State) (k : Nat) : State :=
  let t := s.tile k
  match t.run with
  | .bg => if t.bg.parkable then s.setTile k t.park else s.setTile k { t with parkPend := true }
  | _ => s

/-- A number in the window `[pos, pos + 64)` of 16,384 addresses, wrapping (assumption log 14; DEDUCED). -/
def inScrub (pos a : Nat) : Bool := decide ((a + 16384 - pos) % 16384 < 64)

/-- The scrub walker's turn of a period: up to 64 words of the LIVE P bank, X and Y (05 R151) (assumption log 14; DEDUCED). -/
def Tile.scrub (t : Tile) (freeIx : Nat) : Tile × List TRep :=
  let pos (m : TMem) : Option Nat := match m with
    | .p => some t.scrubP | .x => some t.scrubX | .y => some t.scrubY | .ps => none
  let due := t.ecc.filter (fun q => match pos q.1 with
    | none => false
    | some p => inScrub p q.2.1)
  let (t, rs) := due.foldl (fun acc q =>
    let (t, rs) := acc
    match eccCheck t q.1 q.2.1 freeIx with
    | .clean => (t, rs)
    | .corrected => (t.clearEcc q.1 q.2.1, rs ++ [(0x0605, eccData q.1 q.2.1 true 3)])
    | .wrong =>
      let w := eccFreeWord freeIx
      let t' := match q.1 with
        | .p => { t.clearEcc .p q.2.1 with pLive := t.pLive.set q.2.1 w }
        | m => t.setWord m (BitVec.ofNat 14 q.2.1) (w.setWidth 32)
      (t', rs ++ [(0x0605, eccData q.1 q.2.1 true 3)])
    | .uncorr => (t, rs ++ [(0x0606, eccData q.1 q.2.1 true 3)])) (t, [])
  ({ t with scrubP := (t.scrubP + 64) % 16384, scrubX := (t.scrubX + 64) % 16384, scrubY := (t.scrubY + 64) % 16384 }, rs)

/-- LATE log data of a tile, gather or scatter (14 R412) (assumption log 82; DESIGN CHOICE). -/
def lateData (elem k fg : Nat) : Nat := packBits [(8, elem), (8, k), (16, 0), (32, fg)]

/-- The deadline for one tile (02 R63, R64, R66): a tile that has not signalled halts and its period is late. -/
def State.deadlineTile (s : State) (haltTick k : Nat) : State :=
  let t := s.tile k
  let run (inDrain : Bool) : State :=
    let zone := if inDrain then 0x70 else tileZone k
    let d := if inDrain then lateData 50 k 0 else lateData 0xFF k t.fgCount
    let (l, rep) := t.l.deadline (s.zoneLegacy zone) s.ex.readHalf (s.tileOuts k)
    let t' := t.settle false
    let halt := match t'.slk.haltTick with
      | some h => some h
      | none => some haltTick
    let t' := { t' with run := .halted, l := l, slk := { t'.slk with haltTick := halt } }
    let el := if inDrain then 256 + k else k
    let s := (s.setTile k t').report 0x0601 zone el d
    if rep then s.report 0x0602 zone el d else s
  match t.run with
  | .wait => run false
  | .fg => run false
  | .drain => run true
  | .halted => if t.eccLate then run t.slk.endTick.isSome else s
  | _ => s

/-- Finish fraction of a tile in the closing period (02 R35). -/
def finishFrac (rate tick : Nat) : Nat := min (tick * 65536 / periodTicks rate) 0xFFFF

/-- The slack registers of a tile that was not active in the period that closes: every field of the period reads 0
(assumption log 102; DESIGN CHOICE). -/
def Slack.idle (k : Slack) : Slack :=
  { k with start := 0, finish := 0, valid := false, overrun := false, fgCount := 0, fracLast := 0
           startTick := none, endTick := none, finishTick := none, haltTick := none }

/-- The slack registers at the boundary that closes a period (02 R35 to R48). START of a late period in which the tile had
no sample-start reads 0 (assumption log 102; DESIGN CHOICE). -/
def Tile.closeSlack (t : Tile) (rate : Nat) : Tile :=
  let k := t.slk
  let k := if t.l.late then { k with lateCount := satAdd 16 k.lateCount 1 } else k
  match t.run with
  | .absent => { t with slk := k.idle }
  | .cold => { t with slk := k.idle }
  | _ =>
    let late := t.l.late
    let fin := k.finishTick.getD 0
    let frac := if late then 0xFFFF else finishFrac rate fin
    let slack := if late then 0 else deadlineTicks rate - fin
    let stop := match k.endTick with
      | some e => some e
      | none => k.haltTick
    let (dt, dn) := match k.startTick, stop with
      | some a, some b => (b - a, t.fgCount)
      | _, _ => (0, 0)
    { t with slk := { k with
        start := k.startTick.getD 0
        finish := if late then 0xFFFF else min fin 0xFFFF
        valid := true
        overrun := decide (budgetOf rate < t.fgCount)
        fgCount := min t.fgCount 0xFFFF
        fracLast := frac
        minSlack := min k.minSlack (min slack 0xFFFF)
        sumTicks := k.sumTicks + dt
        sumCount := k.sumCount + dn
        winMax := max k.winMax frac
        winActive := true
        startTick := none
        endTick := none
        finishTick := none
        haltTick := none } }

/-- The window registers of a tile at the boundary that closes a window (02 R36, R45, R46). -/
def Tile.closeWindow (t : Tile) : Tile :=
  let k := t.slk
  { t with slk := { k with
      itimePs := if k.sumCount = 0 then 0 else min (k.sumTicks * 500 / k.sumCount) 0xFFFF
      fracWmax := k.winMax
      lastActive := k.winActive
      sumTicks := 0
      sumCount := 0
      winMax := 0
      winActive := false } }

/-- Gather (05 R177): INIT_ALWAYS words, then the gather entries in table order. -/
def Tile.gather (t : Tile) (rh : Sparse 32) (p : TileProg) : Tile :=
  let t := t.initDue.foldl (fun t w => t.setWord w.mem w.addr w.val) t
  let t := p.gather.foldl (fun t g => t.setWord .x (BitVec.ofNat 14 g.addr) (rh.get g.slot)) t
  { t with initDue := [], gatherDone := false }

/-- A tile enters WAIT for the period that opens (05 R175): its gather runs. -/
def Tile.enterWait (t : Tile) (rh : Sparse 32) (p : TileProg) : Tile :=
  { t.gather rh p with run := .wait, eccLate := false, scatterDone := false, fgCount := 0, parkPend := false }

/-- The words of a tile's TILE_DATA regions in one memory, as (address, word). -/
def dataWords (rs : List Region) (y : Bool) : List (Nat × DWord) :=
  (rs.filter (fun r => r.y == y)).flatMap (fun r => (List.range r.words.length).map (fun i => (r.start + i, r.words.getD i 0)))

/-- One period of a cold start: 4,096 words of X, then Y, take their TILE_DATA value or 0 (05 R176). `i` counts 0 to 7
(assumption log 19; DEDUCED). -/
def Tile.coldLoad (t : Tile) (rs : List Region) (i : Nat) : Tile :=
  let y := decide (4 ≤ i)
  let lo := (i % 4) * 4096
  let inR (a : Nat) : Bool := decide (lo ≤ a) && decide (a < lo + 4096)
  let mem := if y then t.y else t.x
  let mem : Sparse 32 := mem.filter (fun q => !inR q.1)
  let mem := Sparse.setAll mem ((dataWords rs y).filter (fun q => inR q.1))
  let m : TMem := if y then .y else .x
  let ecc := t.ecc.filter (fun q => !(decide (q.1 = m) && inR q.2.1))
  if y then { t with y := mem, ecc := ecc } else { t with x := mem, ecc := ecc }

/-- A tile begins a cold start (05 R153, R176): both contexts cleared, 8 periods to go (assumption log 19; DEDUCED). -/
def Tile.coldStart (t : Tile) (p : TileProg) : Tile :=
  { t with
    run := .cold
    coldLeft := 8
    fg := TCtx.cold p.entryFg false
    bg := TCtx.cold p.entryBg true
    bgStopped := false
    parkPend := false
    eccLate := false
    initDue := []
    fgCount := 0 }

/-- A tile becomes absent (05 R175). -/
def Tile.absent (t : Tile) : Tile := { t with run := .absent, coldLeft := 0, parkPend := false, initDue := [], eccLate := false }

/-- COLD_START_END (05 R175): the tile enters WAIT at the boundary 8 periods after BOUNDARY (assumption log 10, 19; DEDUCED). -/
def State.coldEnd (s : State) (k : Nat) : State :=
  let t := s.tile k
  match t.run, s.workOf k with
  | .cold, some (_, p) => if t.coldLeft = 0 then s.setTile k (t.enterWait s.ex.readHalf p) else s
  | _, _ => s

end Sys2Proof.Machine
end

