-- ==== Sys2Proof/Machine/Gains.lean ====
section
/-!
DEFINITION. Ramp laws (07 R219 to R221) and AUX scale targets (07 R214).
-/
namespace Sys2Proof.Machine

/-- The largest number below `2 ^ n` for which `p` holds, `p` being true up to some bound; 0 if for none. -/
def greatest (p : Nat → Bool) : Nat → Nat → Nat
  | 0, acc => acc
  | n + 1, acc => if p (acc + 2 ^ n) then greatest p n (acc + 2 ^ n) else greatest p n acc

/-- Table entry t[r], the integer nearest to 2^30 * 2^(r / 4096): the largest x with (x - 1/2)^4096 at or below
2^(30 * 4096 + r) (07 R220). -/
def expTab (r : Nat) : Nat := greatest (fun x => decide ((2 * x - 1) ^ 4096 ≤ 2 ^ (31 * 4096 + r))) 32 0

/-- Code to gain magnitude (07 R220). -/
def codeGain (c : Int) : Nat := expTab (c % 4096).toNat >>> (3 - c / 4096).toNat

/-- Gain magnitude to code (07 R220): the largest code whose gain is at or below `m`; -98,304 if none. -/
def gainCode (m : Nat) : Int :=
  (greatest (fun i => decide (i ≤ 114687) && decide (codeGain ((i : Int) - 98304) ≤ m)) 17 0 : Nat) - (98304 : Int)

/-- Step `j` of a linear ramp in `t` steps (07 R219). -/
def linGain (g0 g1 : Int) (t j : Nat) : Int := g0 + ((g1 - g0) * j) / (t : Int)

/-- Whether the dB law falls back to the linear law: gains of opposite sign (07 R220). -/
def dbFallsBack (g0 g1 : Int) : Bool := (decide (0 < g0) && decide (g1 < 0)) || (decide (g0 < 0) && decide (0 < g1))

/-- Step `j` of a dB ramp (07 R220). -/
def dbGain (g0 g1 : Int) (t j : Nat) : Int :=
  if g0 = g1 then g1
  else if dbFallsBack g0 g1 then linGain g0 g1 t j
  else if j = t then g1
  else
    let neg := decide (g0 < 0) || decide (g1 < 0)
    let c0 := if g0 = 0 then -98304 else gainCode g0.natAbs
    let c1 := if g1 = 0 then -98304 else gainCode g1.natAbs
    let m : Int := codeGain (linGain c0 c1 t j)
    if neg then -m else m

/-- The gain of step `j`, from 1; from step T on it is g1 (07 R219) (assumption log 57; DEDUCED). -/
def rampGain (db : Bool) (g0 g1 : Gain) (t j : Nat) : Gain :=
  if t ≤ j then g1 else BitVec.ofInt 32 (if db then dbGain g0.toInt g1.toInt t j else linGain g0.toInt g1.toInt t j)

/-- 1.0 in S5.27 (00 R5). -/
def unity : Gain := 0x08000000#32

/-- The integer nearest to 2^27 / sqrt n (07 R214). -/
def invSqrt (n : Nat) : Nat := greatest (fun x => decide ((2 * x - 1) ^ 2 * n ≤ 2 ^ 56)) 29 0

/-- The scale target of an AUX sum with `n` active inputs (07 R214). -/
def auxTarget (law n : Nat) : Nat :=
  if n ≤ 1 then 2 ^ 27 else match law with
    | 1 => 2 ^ 27 / n
    | 2 => invSqrt n
    | _ => 2 ^ 27

end Sys2Proof.Machine
end

