-- ==== Sys2Proof/Machine/Matrix.lean ====
section
/-!
DEFINITION. Matrix lanes, the route engine, crosspoint gains, ramp units and sums (04 R127 to R131, 07 R207 to R222).
-/
namespace Sys2Proof.Machine

/-- Key of a crosspoint: SUM * 65,536 + IN_SLOT, so that every 16-bit IN_SLOT has a key of its own. -/
def xkey (inSlot sum : Nat) : Nat := sum * 65536 + inSlot

/-- The gain a ramp unit gives in the period with boundary count `n` (07 R219). -/
def unitGain (u : RampSt) (n : Nat) : Gain :=
  match u with
  | .hold g => g
  | .ramping g0 g1 t db p => if n < p then g0 else rampGain db g0 g1 t (n - p + 1)
  | _ => 0

/-- The ramp unit that serves a crosspoint of a plane (03 R90). -/
def Plane.unitOf (p : Plane) (inSlot sum : Nat) : Option RampRec :=
  p.ramps.find? (fun r => r.inSlot == inSlot && r.sum == sum)

/-- Whether a crosspoint's input crosses zero (07 R217). -/
def crosses (v : Slot) (sign : Option Bool) : Bool :=
  v == 0 || (match sign with
    | none => false
    | some b => b != v.msb)

/-- The gain of a crosspoint without a ramp unit in period `n`, and its state after that period (07 R218). -/
def xptStep (x : XptSt) (v : Slot) (n z : Nat) : Gain × XptSt :=
  match x.pend with
  | none => (x.p, { x with sign := some v.msb, last := x.p })
  | some b =>
    if crosses v x.sign || decide (b + z ≤ n + 1) then
      (x.target, { x with p := x.target, pend := none, sign := some v.msb, last := x.target })
    else (x.p, { x with sign := some v.msb, last := x.p })

/-- A new target for a crosspoint without a ramp unit at boundary `b` (07 R218). -/
def XptSt.newTarget (x : XptSt) (t : Gain) (b : Nat) : XptSt :=
  match x.pend with
  | none => if t = x.p then { x with target := t } else { x with target := t, pend := some b }
  | some _ => if t = x.p then { x with target := t, pend := none } else { x with target := t }

/-- A new crosspoint at boundary `b` (03 R112): gain 0, stepping to its GAIN. -/
def XptSt.fresh (g : Gain) (b : Nat) : XptSt := ({ p := 0, target := 0, pend := none, sign := none, last := 0 } : XptSt).newTarget g b

/-- One sum's crosspoints in period `n`: the accumulator, the number of nonzero gains, and their new states (07 R210). -/
def sumInputs (s : State) (p : Plane) (r : SumRec) : Int × Nat × List (Nat × XptSt) :=
  let n := s.per.boundaries
  (p.xpoints.filter (fun x => x.sum == r.sum)).foldl (fun acc x =>
    let (a, cnt, xs) := acc
    let v := s.slot x.inSlot
    let k := xkey x.inSlot x.sum
    let st := (lookup? xs k).getD (XptSt.fresh x.gain n)
    let (g, st') := match p.unitOf x.inSlot x.sum with
      | some u => let g := unitGain (rd s.mtx.ramps u.ramp) n
                  (g, { st with p := g, target := g, pend := none, sign := some v.msb, last := g })
      | none => xptStep st v n r.zcTimeout
    (a + v.toInt * g.toInt, cnt + (if g = 0 then 0 else 1), insertKey xs k st')) (0, 0, s.mtx.xpts)

/-- The limiter step of a PROGRAM sum (07 R211, R212): the value written and the new state. -/
def programStep (r : SumRec) (st : SumSt) (v : Int) : Slot × SumSt :=
  let hv := clampS (32 + r.headroom) v
  let overs := if hv = v then st.overs else satAdd 32 st.overs 1
  let pk := max st.prev.natAbs hv.natAbs
  let greq : Nat := if r.thresh.toNat < pk then r.thresh.toNat * 2 ^ 27 / pk else 2 ^ 27
  let grel : Nat := st.lg + (2 ^ 27 - st.lg + r.release - 1) / r.release
  let lg : Nat := min greq grel
  let y := asr (st.prev * (lg : Int)) 27
  (satBV 32 y, { st with lg := lg, prev := hv, overs := overs, lgMin := min st.lgMin lg })

/-- The output of an AUX sum (07 R214 to R216): the value written and the new state, with the ramp's new target. -/
def auxStep (r : SumRec) (st : SumSt) (v : Int) (n : Nat) : Slot × SumSt :=
  let w := asr (v * (st.scale : Int)) 27
  let clip := if clipsS 32 w then satAdd 32 st.clip 1 else st.clip
  let t := auxTarget r.auxLaw n
  let st := { st with clip := clip }
  (satBV 32 w, if t = st.target then st else { st with scale0 := st.scale, target := t, pos := 0 })

/-- A sum that has not run yet, or starts anew, with `n` active inputs in its first period (03 R112, 07 R213, R215)
(assumption log 113; DEDUCED). -/
def SumSt.fresh (law n : Nat) : SumSt where
  lg := 2 ^ 27
  prev := 0
  lgMin := 2 ^ 27
  overs := 0
  clip := 0
  scale := auxTarget law n
  scale0 := 0
  target := auxTarget law n
  pos := 1024
  n := 0

/-- One sum of a lane in the present period. -/
def State.runSum (s : State) (p : Plane) (r : SumRec) : State :=
  let (acc, n, xs) := sumInputs s p r
  let v := asr acc 27
  let st := (lookup? s.mtx.sums r.sum).getD (SumSt.fresh r.auxLaw n)
  let (y, st') := if r.aux then auxStep r st v n else programStep r st v
  ({ s with mtx := { s.mtx with xpts := xs, sums := insertKey s.mtx.sums r.sum { st' with n := n } } }).putSlot r.out y

/-- The sums of a lane under the LIVE plane. -/
def Plane.laneSums (p : Plane) (lane : Nat) : List SumRec := p.sums.filter (fun r => r.lane == lane)

/-- The slots of a lane under the LIVE plane. -/
def State.laneOuts (s : State) (lane : Nat) : List Nat :=
  match s.pl.live with
  | none => []
  | some p => (p.laneSums lane).map (·.out)

/-- The slots of the route engine under the LIVE plane. -/
def State.routeOuts (s : State) : List Nat :=
  match s.pl.live with
  | none => []
  | some p => p.routes.map (·.dst)

/-- The full self-test has the parts of a mask bit: 0 tiles, 1 exchange and lanes, 2 delay memory (18 R545). -/
def State.testing (s : State) (b : Nat) : Bool := match s.hlt.full with | none => false | some f => bit f.mask b

/-- A lane completes its sums (07 R207); after the deadline, or a second time in a period, nothing happens (assumption log
59; DEDUCED). -/
def State.laneComplete (s : State) (lane tick : Nat) : State :=
  match s.pl.live with
  | none => s
  | some p =>
    let e := rd s.mtx.lanes lane
    if e.done || s.per.deadlineDone || s.testing 1 then s
    else
      let s := (p.laneSums lane).foldl (fun s r => s.runSum p r) s
      { s with mtx := { s.mtx with lanes := wr s.mtx.lanes lane { e with done := true, tick := some tick } } }

/-- The value of a fading route in a period (04 R130). -/
def fadeMix (old new : Slot) (g : Gain) : Slot :=
  satBV 32 (asr (old.toInt * (2 ^ 27 - g.toInt) + new.toInt * g.toInt) 27)

/-- One route in the present period (04 R127, R130); a route copies the substitute flag of its source, a fading one the OR
of both (10 R293). -/
def State.runRoute (s : State) (r : Route) : State :=
  let sub (i : Nat) : Bool := mem s.ex.readSub i
  match s.ex.fades.find? (fun f => f.dst == r.dst) with
  | some f =>
    let g := rampGain f.db 0 unity f.len f.step
    s.putSlot r.dst (fadeMix (s.slot f.oldSrc) (s.slot f.newSrc) g) (sub f.oldSrc || sub f.newSrc)
  | none => s.putSlot r.dst (s.slot r.src) (sub r.src)

/-- The route engine completes (04 R127, R128) (assumption log 59; DEDUCED). -/
def State.routeComplete (s : State) (tick : Nat) : State :=
  match s.pl.live with
  | none => s
  | some p =>
    if s.ex.route.done || s.per.deadlineDone || s.testing 1 then s
    else
      let s := p.routes.foldl (fun s r => s.runRoute r) s
      { s with ex := { s.ex with route := { s.ex.route with done := true, tick := some tick } } }

/-- The deadline for one element of zone 0x70 that has work (02 R71, 04 R128). -/
def State.deadlineElem (s : State) (e : LateElem) (outs : List Nat) (num : Nat) : LateElem × State :=
  if e.done || outs.isEmpty || s.testing 1 then (e, s)
  else
    let (l, rep) := e.l.deadline (s.zoneLegacy 0x70) s.ex.readHalf outs
    let d := lateData num 0xFF 0
    let s := s.report 0x0601 0x70 num d
    ({ e with l := l }, if rep then s.report 0x0602 0x70 num d else s)

/-- SCATTER_DEADLINE (02 R63 to R71): every element that has not signalled is late (assumption log 12; DEDUCED). -/
def State.deadline (s : State) (haltTick : Nat) : State :=
  if s.per.deadlineDone || s.pl.live.isNone then s
  else
    let s := (List.range 68).foldl (fun s k => s.deadlineTile haltTick k) s
    let s := (List.range 48).foldl (fun s i =>
      let (e, s) := s.deadlineElem (rd s.mtx.lanes i) (s.laneOuts i) i
      { s with mtx := { s.mtx with lanes := wr s.mtx.lanes i e } }) s
    let (e, s) := s.deadlineElem s.ex.route s.routeOuts 48
    { s with ex := { s.ex with route := e }, per := { s.per with deadlineDone := true } }

/-- Whether some element is late in the present period (02 R53). -/
def State.anyLate (s : State) : Bool :=
  (List.range 68).any (fun k => (s.tile k).l.late) || (List.range 48).any (fun i => (rd s.mtx.lanes i).l.late)

/-- A new target for a ramp unit at boundary `b`, with the gain of period b - 1 (07 R222) (assumption log 57; DEDUCED). -/
def RampSt.newTarget (u : RampSt) (g1 : Gain) (t : Nat) (db : Bool) (b : Nat) : RampSt :=
  match u with
  | .hold g => if g = g1 then .hold g else .ramping g g1 t db b
  | .ramping .. => .ramping (unitGain u (b - 1)) g1 t db b
  | u => u

/-- A ramp unit that a commit defines at boundary `b` (07 R222). -/
def RampSt.fresh (r : RampRec) (g : Gain) (b : Nat) : RampSt :=
  if r.init = g then .hold g else .ramping r.init g r.time r.db b

/-- Ramp units at the boundary that opens period `n`: a ramp in its last step holds (07 R222) (assumption log 57; DEDUCED). -/
def stepUnit (n : Nat) (u : RampSt) : RampSt :=
  match u with
  | .ramping g0 g1 t db p => if p + t ≤ n + 1 then .hold g1 else .ramping g0 g1 t db p
  | u => u

/-- Route fades that have written their last step end at the boundary after it; their units are FREE (04 R130, 07 R222). -/
def State.endFades (s : State) : State :=
  let ended := s.ex.fades.filter (fun f => decide (f.len ≤ f.step))
  { s with
    ex := { s.ex with fades := s.ex.fades.filter (fun f => decide (f.step < f.len)) }
    mtx := { s.mtx with ramps := ended.foldl (fun v f => wr v f.unit .free) s.mtx.ramps } }

/-- One period of an AUX scale's ramp (07 R215). -/
def SumSt.stepScale (st : SumSt) : SumSt :=
  if st.pos < 1024 then
    let pos : Nat := st.pos + 1
    { st with pos := pos, scale := ((st.scale0 : Int) + (((st.target : Int) - st.scale0) * (pos : Int)) / 1024).toNat }
  else st

/-- Ramp units, AUX scales and route fades go one period on, after the updates of the boundary (04 R130, 07 R215, R219)
(assumption log 57; DEDUCED). -/
def State.stepRamps (s : State) : State :=
  { s with
    ex := { s.ex with fades := s.ex.fades.map (fun f => { f with step := f.step + 1 }) }
    mtx := { s.mtx with ramps := s.mtx.ramps.map (stepUnit s.per.boundaries)
                        sums := s.mtx.sums.map (fun q => (q.1, q.2.stepScale)) } }

end Sys2Proof.Machine
end

