-- ==== Sys2Proof/Machine/Updates.lean ====
section
/-!
DEFINITION. Direct and safe-load updates (07 R223 to R232): their effect at a boundary and the commands of routing and
gain.
-/
namespace Sys2Proof.Machine

/-- The boundary count of a media time, now or later (12 R365) (assumption log 58; DEDUCED). -/
def State.boundaryOf (s : State) (mt : Nat) : Nat := s.per.boundaries + (mt - s.per.mediaTime)
/-- The media time of a boundary count, in the present labelling (12 R365) (assumption log 58; DEDUCED). -/
def State.mediaOf (s : State) (b : Nat) : Nat := (s.per.mediaTime + b - s.per.boundaries) % 2 ^ 64

/-- The object an entry acts on under the LIVE plane: a crosspoint without unit, a ramp unit with the time and law of the
ramp that starts, or a word (07 R227). -/
inductive UpdObj where
  | xpt (key : Nat) (g : Gain)
  | unit (u : Nat) (g : Gain) (t : Nat) (db : Bool)
  | word (phys : Nat) (y : Bool) (addr : Nat) (v : DWord)
  deriving DecidableEq, Repr

/-- Whether two actions name one object. -/
def UpdObj.same : UpdObj → UpdObj → Bool
  | .xpt a _, .xpt b _ => a == b
  | .unit a .., .unit b .. => a == b
  | .word a y i _, .word b z j _ => a == b && y == z && i == j
  | _, _ => false

/-- A ramp unit that can take a target: in HOLD or RAMPING (07 R227, R232). -/
def RampSt.serves : RampSt → Bool
  | .hold _ => true
  | .ramping .. => true
  | _ => false

/-- A tile that words can go to: present and not in a cold start (07 R227). -/
def State.tileUsable (s : State) (phys : Nat) : Bool :=
  match (s.tile phys).run with
  | .absent => false
  | .cold => false
  | _ => true

/-- The action of an entry, or none where it is dropped (07 R227). -/
def State.resolve (s : State) (e : UpdEntry) : Option UpdObj :=
  match s.pl.live with
  | none => none
  | some p =>
    match e with
    | .xpt x =>
      if p.xpoints.any (fun y => y.inSlot == x.inSlot && y.sum == x.sum) then
        match p.unitOf x.inSlot x.sum with
        | some r => some (.unit r.ramp x.gain r.time r.db)
        | none => some (.xpt (xkey x.inSlot x.sum) x.gain)
      else none
    | .ramp x =>
      match p.ramps.find? (fun r => r.ramp == x.ramp) with
      | none => none
      | some r =>
        if (rd s.mtx.ramps x.ramp).serves then
          some (.unit x.ramp x.gain (if x.time = 0 then r.time else x.time) (if x.law = 0xFF then r.db else x.law == 1))
        else none
    | .word k y addr v =>
      let phys := s.carrierOf k
      if (p.tiles.any (fun q => q.1 == k)) && s.tileUsable phys then some (.word phys y addr v) else none

/-- An action carried out at the boundary of the present period. -/
def State.applyObj (s : State) (o : UpdObj) : State :=
  let b := s.per.boundaries
  match o with
  | .xpt k g => { s with mtx := { s.mtx with xpts := updateKey s.mtx.xpts k (fun x => x.newTarget g b) } }
  | .unit u g t db => { s with mtx := { s.mtx with ramps := upd s.mtx.ramps u (fun r => r.newTarget g t db b) } }
  | .word phys y addr v => s.setTile phys ((s.tile phys).setWord (if y then .y else .x) (BitVec.ofNat 14 addr) v)

/-- Only the last action on each object stands (07 R227). -/
def lastOnly : List UpdObj → List UpdObj
  | [] => []
  | o :: r => if r.any (fun q => UpdObj.same o q) then lastOnly r else o :: lastOnly r

/-- Tile words of a list of entries for built tile `k`. -/
def wordsFor (es : List UpdEntry) (k : Nat) : Nat :=
  (es.filter (fun e => match e with
    | .word j .. => j == k
    | _ => false)).length

/-- Entries that are tile words. -/
def wordCount (es : List UpdEntry) : Nat :=
  (es.filter (fun e => match e with
    | .word .. => true
    | _ => false)).length

/-- Whether further tile words fit in the load-port share of a boundary, 32 per tile (07 R228). -/
def wordsFit (used more : List UpdEntry) : Bool :=
  (List.range 68).all (fun k => wordsFor more k = 0 || decide (wordsFor used k + wordsFor more k ≤ 32))

/-- The direct updates that take effect at this boundary, in order of acceptance, and those that wait (07 R224, R228). -/
def splitDirect (b : Nat) : List Direct → List UpdEntry → List Direct × List Direct
  | [], _ => ([], [])
  | d :: r, used =>
    if decide (d.boundary ≤ b) && wordsFit used d.entries then
      let (now, wait) := splitDirect b r (used ++ d.entries)
      (d :: now, wait)
    else
      let (now, wait) := splitDirect b r used
      (now, d :: wait)

/-- The result fields of an updating command: boundary, entries applied or staged, DROPPED (07 R229). -/
def updResult (mt n dropped : Nat) : List Byte := leBytes 8 mt ++ leBytes 4 n ++ leBytes 4 dropped

/-- Groups whose lock point has passed lock (07 R225): 8 periods before its BOUNDARY an armed group is LOCKED. -/
def State.lockGroups (s : State) (lead : Nat) : State :=
  { s with mtx := { s.mtx with groups := s.mtx.groups.map (fun g =>
      if g.st = .armed && decide (g.boundary ≤ s.per.boundaries + lead) then { g with st := .locked } else g) } }

/-- The updates of a boundary (07 R227): the commit's new targets, locked groups in number order, then direct updates, each
checked against LIVE; then their commands complete. -/
def State.applyUpdates (s : State) (targets : List UpdEntry) : State :=
  let b := s.per.boundaries
  let gs := (List.range 16).filter (fun i =>
    let g := rd s.mtx.groups i
    decide (g.st = .locked) && g.boundary == b)
  let gEntries := gs.flatMap (fun i => (rd s.mtx.groups i).entries)
  let (now, wait) := if s.pwr.service then splitDirect b s.mtx.direct gEntries else ([], s.mtx.direct)
  let all := targets ++ gEntries ++ now.flatMap (·.entries)
  let objs := lastOnly (all.filterMap s.resolve)
  let drops (es : List UpdEntry) : Nat := (es.filter (fun e => (s.resolve e).isNone)).length
  let gDone := gs.map (fun i => let g := rd s.mtx.groups i; (g.owner, g.handle, g.entries.length, drops g.entries))
  let dDone := now.map (fun d => (d.port, d.handle, d.entries.length, drops d.entries))
  let mt := s.per.mediaTime
  let s := objs.foldl (fun s o => s.applyObj o) s
  let s := { s with mtx := { s.mtx with
    groups := gs.foldl (fun v i => wr v i Group.reset) s.mtx.groups
    direct := wait } }
  (gDone ++ dDone).foldl (fun s q => s.complete q.1 q.2.1 .ok 0 (updResult mt (q.2.2.1 - q.2.2.2) q.2.2.2)) s

/-! Commands. -/

/-- The XPOINT_SET entries of the inline bytes or the buffer (07 R230): 8 bytes each, as an XPOINT record. -/
def xpointEntries (count : Nat) (data : List Byte) : List XpointEntry :=
  (List.range count).map (fun i => ⟨leNat (slice data (8 * i) 2), leNat (slice data (8 * i + 2) 2),
    BitVec.ofNat 32 (leNat (slice data (8 * i + 4) 4))⟩)

/-- The RAMP_SET entries of the inline bytes or the buffer (07 R230): 8 bytes each. -/
def rampEntries (count : Nat) (data : List Byte) : List RampEntry :=
  (List.range count).map (fun i => ⟨leNat (slice data (8 * i) 1), leNat (slice data (8 * i + 1) 1), leNat (slice data (8 * i + 2) 2),
    BitVec.ofNat 32 (leNat (slice data (8 * i + 4) 4))⟩)

/-- The TILE_PARAM_WRITE words of the inline bytes or the buffer (07 R230): 4 bytes each. -/
def paramWords (count : Nat) (data : List Byte) : List DWord :=
  (List.range count).map (fun i => BitVec.ofNat 32 (leNat (slice data (4 * i) 4)))

/-- The count of an updating command is in range: inline up to `inl`, by buffer up to `buf` (07 R229). -/
def countOk (addr count inl buf : Nat) : Bool :=
  decide (1 ≤ count) && decide (count ≤ if addr = 0 then inl else buf)

/-- Put entries into a group from a port (07 R225). -/
def State.stage (s : State) (port : CPort) (group : Nat) (es : List UpdEntry) : Done × State :=
  let g := rd s.mtx.groups group
  let all := g.entries ++ es
  let put : Done × State :=
    if decide (4096 < all.length - wordCount all) || decide (1024 < wordCount all)
        || (List.range 68).any (fun k => decide (32 < wordsFor all k)) then (.fail .resource 0x0064, s)
    else (.done .ok 0 (updResult 0 es.length 0),
      { s with mtx := { s.mtx with groups := wr s.mtx.groups group { g with st := .filling, owner := port, entries := all } } })
  match g.st with
  | .empty => put
  | .filling => if g.owner = port then put else (.fail .rejectedState 0x0062, s)
  | _ => (.fail .rejectedState (if g.owner = port then 0x0063 else 0x0062), s)

/-- Direct or staged entries that passed their checks (07 R224). -/
def State.update (s : State) (c : Ctx) (mode group : Nat) (es : List UpdEntry) : Done × State :=
  if mode = 0 then
    let before := s.mtx.direct.filter (fun d => decide (d.seq ≤ c.seq))
    let after := s.mtx.direct.filter (fun d => decide (c.seq < d.seq))
    (.later, { s with mtx := { s.mtx with direct := before ++ [⟨c.startB + 2, c.seq, c.port, c.handle, es⟩] ++ after } })
  else s.stage c.port group es

/-- XPOINT_SET (07 R229, R230, R232). -/
def runXpointSet (c : Ctx) (mode group count addr : Nat) (entries : List XpointEntry) (s : State) : Done × State :=
  if noBuf c.port && addr != 0 then (.argPtr, s)
  else if decide (1 < mode) || decide (15 < group) || !countOk addr count 5 4096 then (.range, s)
  else if entries.any (fun e => (s.resolve (.xpt e)).isNone) then (.fail .rejectedArgs 0x0060, s)
  else s.update c mode group (entries.map .xpt)

/-- RAMP_SET (07 R229, R230, R232). -/
def runRampSet (c : Ctx) (mode group count addr : Nat) (entries : List RampEntry) (s : State) : Done × State :=
  if noBuf c.port && addr != 0 then (.argPtr, s)
  else if decide (1 < mode) || decide (15 < group) || !countOk addr count 5 4096
      || entries.any (fun e => decide (255 < e.ramp) || decide (65535 < e.time) || !(e.law == 0 || e.law == 1 || e.law == 0xFF)) then
    (.range, s)
  else if entries.any (fun e => (s.resolve (.ramp e)).isNone) then (.fail .rejectedState 0x0061, s)
  else s.update c mode group (entries.map .ramp)

/-- TILE_PARAM_WRITE (07 R228 to R230, R232) (assumption log 80; DEDUCED). -/
def runTileParamWrite (c : Ctx) (mode group k mem addr count buf : Nat) (words : List DWord) (s : State) : Done × State :=
  if noBuf c.port && buf != 0 then (.argPtr, s)
  else if decide (1 < mode) || decide (15 < group) || decide (67 < k) || decide (1 < mem) || !countOk buf count 10 32 then (.range, s)
  else if decide ((if mem = 1 then 0x3C00 else 0x4000) < addr + count) then (.fail .rejectedArgs 0x0066, s)
  else if mode = 0 && !s.tileUsable (s.carrierOf k) then (.fail .rejectedState 0x0050, s)
  else s.update c mode group ((List.range words.length).map (fun i => .word k (mem == 1) (addr + i) (words.getD i 0)))

/-- SAFE_APPLY (07 R226, R229, R232). -/
def runSafeApply (c : Ctx) (group boundary : Nat) (s : State) : Done × State :=
  if 15 < group then (.range, s)
  else
    let g := rd s.mtx.groups group
    match g.st with
    | .empty => (.fail .rejectedState 0x0063, s)
    | .filling =>
      if g.owner ≠ c.port then (.fail .rejectedState 0x0062, s)
      else
        let b := if boundary = 0 then c.startB + 16 else s.boundaryOf boundary
        if boundary ≠ 0 && (decide (boundary < s.per.mediaTime) || decide (b < c.startB + 16)) then (.fail .late 0x0021, s)
        else
          let others := (List.range 16).flatMap (fun i =>
            let h := rd s.mtx.groups i
            if (h.st = .armed || h.st = .locked) && h.boundary == b then h.entries else [])
          if !wordsFit others g.entries then (.fail .resource 0x0065, s)
          else (.later, { s with mtx := { s.mtx with
            groups := wr s.mtx.groups group { g with st := .armed, boundary := b, handle := c.handle } } })
    | _ => (.fail .rejectedState (if g.owner = c.port then 0x0063 else 0x0062), s)

/-- SAFE_LOCK_POINT (07 R225): 8 periods before its boundary an armed group locks. -/
def State.safeLock (s : State) (group : Nat) : State :=
  let g := rd s.mtx.groups group
  if g.st = .armed && decide (g.boundary ≤ s.per.boundaries + 8) then
    { s with mtx := { s.mtx with groups := wr s.mtx.groups group { g with st := .locked } } }
  else s

/-- SAFE_DISCARD (07 R225, R229, R232). -/
def runSafeDiscard (c : Ctx) (group : Nat) (force : Bool) (s : State) : Done × State :=
  if force && !c.privs.testBit 6 then (.fail .denied 0x00E2, s)
  else if 15 < group then (.range, s)
  else
    let g := rd s.mtx.groups group
    let drop (s : State) : State := { s with mtx := { s.mtx with groups := wr s.mtx.groups group Group.reset } }
    match g.st with
    | .empty => (.ok [(4, 0)], s)
    | .filling => if force || g.owner = c.port then (.ok [(4, g.entries.length)], drop s) else (.fail .rejectedState 0x0062, s)
    | .armed =>
      if force || g.owner = c.port then (.ok [(4, g.entries.length)], (drop s).complete g.owner g.handle .aborted 0 [])
      else (.fail .rejectedState 0x0062, s)
    | .locked => (.fail .rejectedState (if force || g.owner = c.port then 0x0063 else 0x0062), s)

/-- Groups of a port that leaves ACTIVE: FILLING and ARMED ones are dropped (07 R225). -/
def State.dropGroups (s : State) (port : CPort) : State :=
  (List.range 16).foldl (fun s i =>
    let g := rd s.mtx.groups i
    if g.owner = port && (g.st = .filling || g.st = .armed) then
      let s' := { s with mtx := { s.mtx with groups := wr s.mtx.groups i Group.reset } }
      if g.st = .armed then s'.complete port g.handle .aborted 0 [] else s'
    else s) s

/-- A group's state as a number: 0 EMPTY, 1 FILLING, 2 ARMED, 3 LOCKED (assumption log 82; DESIGN CHOICE). -/
def GroupSt.code : GroupSt → Nat
  | .empty => 0 | .filling => 1 | .armed => 2 | .locked => 3

/-- SAFE_STATUS (07 R229). -/
def runSafeStatus (_ : Ctx) (group : Nat) (s : State) : Done × State :=
  if 15 < group then (.range, s)
  else
    let g := rd s.mtx.groups group
    let w := wordCount g.entries
    (.ok [(1, g.st.code), (1, portNum g.owner), (2, g.entries.length - w), (2, w),
      (8, if g.st = .armed || g.st = .locked then s.mediaOf g.boundary else 0)], s)

/-- The plane a PLANE argument names: 0 LIVE, 1 SHADOW. -/
def State.planeArg (s : State) (plane : Nat) : Option Plane := if plane = 0 then s.pl.live else s.pl.shadow

/-- XPOINT_GET (07 R231, R232). -/
def runXpointGet (_ : Ctx) (plane inSlot sum : Nat) (s : State) : Done × State :=
  if 1 < plane then (.range, s)
  else if plane = 1 && decide (s.pl.st = .writing) then (.fail .rejectedState 0x0030, s)
  else match s.planeArg plane with
    | none => (.fail .rejectedArgs 0x0060, s)
    | some p => match p.xpoints.find? (fun x => x.inSlot == inSlot && x.sum == sum) with
      | none => (.fail .rejectedArgs 0x0060, s)
      | some x =>
        let unit := p.unitOf inSlot sum
        let ramp := (unit.map (·.ramp)).getD 0xFF
        if plane = 1 then (.ok [(4, x.gain.toNat), (4, 0), (4, 0), (1, 0), (4, 0), (1, ramp)], s)
        else
          let st := (lookup? s.mtx.xpts (xkey inSlot sum)).getD (XptSt.fresh x.gain s.per.boundaries)
          let (state, age) := match unit with
            | some _ => (2, 0)
            | none => match st.pend with
              | some b => (1, s.per.boundaries - b)
              | none => (0, 0)
          let target : Gain := match unit with
            | some u => match rd s.mtx.ramps u.ramp with
              | .ramping _ g1 .. => g1
              | .hold g => g
              | _ => 0
            | none => st.target
          (.ok [(4, x.gain.toNat), (4, st.last.toNat), (4, target.toNat), (1, state), (4, age), (1, ramp)], s)

/-- SUM_STATUS (07 R231, R232). A sum of LIVE whose lane has not completed a period yet shows its start values (assumption
log 113; DEDUCED). -/
def runSumStatus (_ : Ctx) (sum : Nat) (clear : Bool) (s : State) : Done × State :=
  match (s.pl.live.map (fun p => p.sums.find? (fun r => r.sum == sum))).join with
  | some r =>
    let was := lookup? s.mtx.sums sum
    let st := was.getD (SumSt.fresh r.auxLaw 0)
    let res := [(1, b2n r.aux), (1, r.lane), (2, st.n), (4, if r.aux then st.scale else 2 ^ 27),
      (4, if r.aux then st.target else 2 ^ 27), (4, if r.aux then 2 ^ 27 else st.lg), (4, if r.aux then 2 ^ 27 else st.lgMin),
      (4, st.overs), (4, st.clip)]
    let s' := if clear && was.isSome then
        { s with mtx := { s.mtx with sums := insertKey s.mtx.sums sum { st with overs := 0, clip := 0, lgMin := 2 ^ 27 } } }
      else s
    (.ok res, s')
  | none => (.fail .rejectedArgs 0x0067, s)

/-- RAMP_STATUS (07 R231): STATE, LAW, LIN_USED, GAIN, TARGET, STEPS_LEFT, SERVES. -/
def runRampStatus (_ : Ctx) (ramp : Nat) (s : State) : Done × State :=
  if 255 < ramp then (.range, s)
  else
    let n := s.per.boundaries
    let rec_ := (s.pl.live.map (fun p => p.ramps.find? (fun r => r.ramp == ramp))).join
    let law := match rec_ with
      | some r => b2n r.db
      | none => 0
    let serves := match rec_ with
      | some r => [(2, r.inSlot), (2, r.sum)]
      | none => [(2, 0), (2, 0)]
    match rd s.mtx.ramps ramp with
    | .free => (.ok [(1, 0), (1, 0), (1, 0), (4, 0), (4, 0), (2, 0), (2, 0), (2, 0)], s)
    | .hold g => (.ok ([(1, 1), (1, law), (1, 0), (4, g.toNat), (4, g.toNat), (2, 0)] ++ serves), s)
    | .ramping g0 g1 t db p =>
      (.ok ([(1, 2), (1, b2n db), (1, b2n (db && dbFallsBack g0.toInt g1.toInt)),
        (4, (unitGain (rd s.mtx.ramps ramp) n).toNat), (4, g1.toNat), (2, p + t - 1 - n)] ++ serves), s)
    | .fade dst =>
      match s.ex.fades.find? (fun f => f.dst == dst) with
      | none => (.ok [(1, 3), (1, 0), (1, 0), (4, 0), (4, unity.toNat), (2, 0), (2, dst), (2, 0)], s)
      | some f => (.ok [(1, 3), (1, b2n f.db), (1, 0), (4, (rampGain f.db 0 unity f.len f.step).toNat), (4, unity.toNat),
          (2, f.len - f.step), (2, dst), (2, 0)], s)

end Sys2Proof.Machine
end

