-- ==== Sys2Proof/Machine/Delay.lean ====
section
/-!
DEFINITION. Long delay lines and the delay memory (08): values of the lines, errors, memory states, limits and commands.
-/
namespace Sys2Proof.Machine

/-- A delay line's state at its start (08 R233): `s` is its start period. -/
def LineSt.fresh (s : Option Nat) : LineSt := ⟨s, [], 0, 0, [], 0, none⟩

/-- The value of a line in period `n`, whether it is a substitute (10 R293), and the line's state after it (08 R233,
R244, R245): holds count in every period that opened with the memory UP. `x` is IN_SLOT of the period (assumption log 84,
108; DEDUCED). -/
def LineSt.step (dm : Dm) (r : LineRec) (st : LineSt) (x : Slot) (n : Nat) : Slot × Bool × LineSt :=
  let v := st.hist.getD r.delay 0
  let repl := st.repl.any (fun p => p.1 == n)
  let (v, sub, held) : Slot × Bool × Bool := match dm.rule with
    | some ⟨.fade k, h⟩ => let h := (lookup? h r.line).getD 0
                           (if k = 0 then st.lastOut else fadeVal h k, true, false)
    | some ⟨.fence, _⟩ => (0, true, false)
    | some ⟨.release k, h⟩ =>
      if repl then (st.lastOut, true, true) else (if (lookup? h r.line).isSome then releaseVal v k else v, false, false)
    | none => if repl then (st.lastOut, true, true) else (v, false, false)
  let opened := decide (dm.st = .up) && (match st.s with
    | some b => decide (b ≤ n)
    | none => false)
  (v, sub, { st with
    hist := if opened then (x :: st.hist).take (r.capacity + 1) else st.hist
    lastOut := v
    holds := if held then satAdd 32 st.holds 1 else st.holds
    repl := st.repl.filter (fun p => decide (n < p.1)) })

/-- The rule of R245 goes one period on; lines leave it at the boundary after the return to UP (assumption log 21; DEDUCED). -/
def Dm.stepRule (dm : Dm) : Dm :=
  if dm.leave then
    { dm with leave := false, rule := match dm.rule with
        | some ⟨.fade _, _⟩ => some ⟨.release 1, dm.lines.map (fun q => (q.1, 0))⟩
        | _ => none }
  else
    { dm with rule := match dm.rule with
        | some ⟨.fade k, h⟩ => some ⟨.fade (min (k + 1) 33), h⟩
        | some ⟨.release k, h⟩ => if 32 ≤ k then none else some ⟨.release (k + 1), h⟩
        | r => r }

/-- The rule of R245 that a policy starts (assumption log 21; DEDUCED). -/
def ruleOf (legacy : Bool) : React := ⟨if legacy then .fence else .fade 0, []⟩

/-- The rule of R245 for the period that opens: it starts in the first period that opens with the memory not UP (assumption
log 21; DEDUCED). -/
def Dm.openRule (dm : Dm) (legacy : Bool) : Dm :=
  let dm := dm.stepRule
  if dm.st = .up then dm
  else match dm.rule with
    | none => { dm with rule := some (ruleOf legacy) }
    | some ⟨.release _, _⟩ => { dm with rule := some (ruleOf legacy) }
    | some _ => dm

/-- The lines' writes of the closing period (08 R234): every line writes OUT_SLOT. -/
def State.runLines (s : State) : State :=
  match s.pl.live with
  | none => { s with dm := s.dm.openRule (s.zoneLegacy 0x71) }
  | some p =>
    let n := s.per.boundaries
    let dm := s.dm
    let h0 := dm.lines.map (fun q => (q.1, q.2.lastOut))
    let (lines, ex) := p.lines.foldl (fun acc r =>
      let (ls, ex) := acc
      match lookup? ls r.line with
      | none => (ls, ex)
      | some st =>
        let (v, sub, st') := st.step dm r (s.slot r.inSlot) n
        (insertKey ls r.line st', ex.write r.out v sub)) (dm.lines, s.ex)
    let dm := { dm with lines := lines, rule := match dm.rule with
        | some ⟨.fade 0, _⟩ => some ⟨.fade 0, h0⟩
        | r => r }
    { s with ex := ex, dm := dm.openRule (s.zoneLegacy 0x71) }

/-- A commit keeps a line: its ring is the same (03 R112). -/
def keptLine (old : List LineRec) (r : LineRec) : Bool :=
  old.any (fun o => o.line == r.line && o.capacity == r.capacity && o.bufBase == r.bufBase)

/-- A kept line at a commit at boundary `b`: with a new DELAY, samples of the old one are no longer due; the samples for the
new DELAY are fetched from 32 periods before on (08 R235) (assumption log 108; DEDUCED). -/
def LineSt.keep (st : LineSt) (old : List LineRec) (r : LineRec) (b : Nat) : LineSt :=
  if old.any (fun o => o.line == r.line && o.delay == r.delay) then st
  else { st with repl := st.repl.filter (fun p => decide (b ≤ p.2 + 32)) }

/-- The lines at a commit whose new plane runs from boundary `b` (03 R112): a line that is new or changed starts afresh and
has no part in a fade or ramp (08 R245). -/
def Dm.commitLines (dm : Dm) (old : List LineRec) (new : List LineRec) (b : Nat) : Dm :=
  { dm with
    lines := new.foldl (fun ls r =>
      let fresh := LineSt.fresh (if dm.st = .up then some b else none)
      insertKey ls r.line (if keptLine old r then ((lookup? dm.lines r.line).getD fresh).keep old r b else fresh)) []
    rule := dm.rule.map (fun x => { x with h := x.h.filter (fun q => new.any (fun r => r.line == q.1 && keptLine old r)) }) }

/-- Entry to TRAINING (08 R239, R243). -/
def Dm.train (dm : Dm) : Dm :=
  { dm with st := .training, attempt := 0, retryWait := false, rate := dm.cfgRate.getD 6400, refresh := 0 }

/-- The down criterion `c` of R245 takes an UP memory to DOWN. -/
def State.dmDown (s : State) (c : Nat) : State :=
  if s.dm.st = .up then
    { s with dm := { s.dm with st := .down, leave := false, uncorrTimes := [] } }.raise 0x0804 0x71 0xFFFF c
  else s

/-- A DELAY_MEM_RETRAIN that waits completes with the state reached (08 R246). -/
def State.retrainDone (s : State) (code : Nat) : State :=
  match s.dm.retrain with
  | none => s
  | some (p, h) => ({ s with dm := { s.dm with retrain := none } }).complete p h .ok 0 (leBytes 1 code)

/-- The memory goes to FAILED (08 R243). -/
def State.dmFail (s : State) (step : Nat) : State :=
  let s := { s with dm := { s.dm with st := .failed, retryWait := false, refresh := 0 } }
  (s.raise 0x0805 0x71 0xFFFF step).retrainDone 4

/-- The memory goes to UP (08 R236, R243, R245): histories cleared, start at the first boundary at least one period later;
conditions of DM_DOWN and DM_TRAIN end. -/
def State.dmUp (s : State) (g : Nat) : State :=
  let b := s.per.boundaries + 2
  let lines := s.dm.lines.map (fun q => (q.1, { LineSt.fresh (some b) with lastOut := q.2.lastOut }))
  let s := { s with dm := { s.dm with
    st := .up, g := some g, gRec := some g, lines := lines, leave := s.dm.rule.isSome, uncorrTimes := [], scrubPos := 0 } }
  ((s.endCond 0x0804 0x71 0xFFFF).endCond 0x0805 0x71 0xFFFF).retrainDone 2

/-- A capacity that R238 supports. -/
def goodCapacity (g : Nat) : Bool := g == 2 || g == 4 || g == 6 || g == 8

/-- DM_TRAINING_DONE (08 R239, R243) (assumption log 79; DESIGN CHOICE). -/
def State.dmTrained (s : State) (mr8 : Option Nat) (pass : Bool) (step : Nat) : State :=
  if s.dm.st = .training && !s.dm.retryWait then
    match mr8 with
    | none => s.dmFail 0
    | some g =>
      if !goodCapacity g then s.dmFail 0
      else if pass then s.dmUp g
      else if s.dm.attempt < 2 then
        { s with dm := { s.dm with g := some g, attempt := s.dm.attempt + 1, retryWait := true } }
      else ({ s with dm := { s.dm with g := some g } }).dmFail step
  else s

/-- PD11 switched off (08 R243): contents lost. -/
def State.dmOff (s : State) : State :=
  let lines := s.dm.lines.map (fun q => (q.1, { LineSt.fresh none with lastOut := q.2.lastOut }))
  let rule := if s.dm.st = .up then some (ruleOf (s.zoneLegacy 0x71)) else s.dm.rule
  ({ s with dm := { s.dm with st := .off, g := none, retryWait := false, refresh := 0, rule := rule, leave := false,
                              lines := lines } }).retrainDone 0

/-- Log data of a memory error: block address and line (assumption log 82; DESIGN CHOICE). -/
def dmData (block line : Nat) : Nat := packBits [(32, block), (16, line)]

/-- Times kept in the 1 ms window that ends at `t` (14 R619). -/
def inWindow (ts : List Nat) (t len : Nat) : List Nat := ts.filter (fun u => decide (t < u + len))

/-- One word error of a line read (08 R244): a single-bit error is corrected, a double-bit error replaces both samples
(assumption log 85; DEDUCED). -/
def State.wordError (s : State) (line block due w : Nat) (double : Bool) (t : Nat) : State :=
  if double then
    let n := s.per.boundaries
    let dm := { s.dm with uncorr := satAdd 32 s.dm.uncorr 1
                          lines := updateKey s.dm.lines line (fun l => { l with
                            repl := l.repl ++ ([due + 2 * w, due + 2 * w + 1].filter (fun p => decide (n ≤ p))).map (fun p => (p, n)) }) }
    let times := inWindow dm.uncorrTimes t 1000000 ++ [t]
    let s := ({ s with dm := { dm with uncorrTimes := times } }).report 0x0802 0x71 line (dmData block line)
    if 16 ≤ times.length then s.dmDown 0 else s
  else ({ s with dm := { s.dm with corr := satAdd 32 s.dm.corr 1 } }).report 0x0801 0x71 line (dmData block 0)

/-- A block missing when its line writes (08 R244, R245): its samples are held, 8 periods in a row take the memory down
(assumption log 85; DEDUCED). -/
def State.blockLate (s : State) (line due : Nat) : State :=
  let n := s.per.boundaries
  let f (l : LineSt) : LineSt :=
    { l with
      repl := l.repl ++ (((List.range 16).map (fun i => due + i)).filter (fun p => decide (n ≤ p))).map (fun p => (p, n))
      lateRun := match l.lateLast with
        | some m => if m = n then l.lateRun else if m + 1 = n then l.lateRun + 1 else 1
        | none => 1
      lateLast := some n }
  let s := ({ s with dm := { s.dm with late := satAdd 32 s.dm.late 1, lines := updateKey s.dm.lines line f } }).report
    0x0803 0x71 line line
  if decide (8 ≤ ((lookup? s.dm.lines line).map (·.lateRun)).getD 0) then s.dmDown 1 else s

/-- DELAY_BLOCK_READ (08 R244): a block whose first sample is due in the period with media time `due`, with its word
errors, or late (assumption log 85; DEDUCED). -/
def State.blockRead (s : State) (line block due : Nat) (errs : List (Nat × Bool)) (late : Bool) : State :=
  if s.dm.st = .up && (lookup? s.dm.lines line).isSome then
    let b := s.boundaryOf due - (s.per.mediaTime - due)
    if late then s.blockLate line b
    else errs.foldl (fun s e => s.wordError line block b e.1 e.2 s.now) s
  else s

/-- Usable units of a capacity. -/
def usableUnits : Option Nat → Nat
  | none => 0
  | some g => g * 229376 - 256

/-- 64-byte blocks of usable space (08 R236, R242): 64 in a unit of 4 KiB. -/
def Dm.scrubBlocks (dm : Dm) : Nat := 64 * usableUnits dm.g

/-- DELAY_SCRUB_READ (08 R242, R244): the walker reads the blocks of usable space in turn, each once in a pass; a read of
another block than its next one is none of its reads. The pass ends with the last block (assumption log 108; DEDUCED). -/
def State.scrubRead (s : State) (block : Nat) (errs : List (Nat × Bool)) : State :=
  if s.dm.st = .up && block == s.dm.scrubPos then
    let passEnd := decide (s.dm.scrubBlocks ≤ block + 1)
    let s := errs.foldl (fun s e =>
      if e.2 then ({ s with dm := { s.dm with uncorr := satAdd 32 s.dm.uncorr 1 } }).report 0x0802 0x71 0xFFFF (dmData block 0xFFFF)
      else ({ s with dm := { s.dm with corr := satAdd 32 s.dm.corr 1 } }).report 0x0801 0x71 0xFFFF (dmData block 0)) s
    { s with dm := { s.dm with
      scrubPos := if passEnd then 0 else block + 1
      lastPass := if passEnd then s.per.mediaTime % 2 ^ 32 else s.dm.lastPass } }
  else s

/-- DM_MR4_READ (08 R238, R245). -/
def State.mr4Read (s : State) (refresh : Nat) (hot : Bool) : State :=
  match s.dm.st with
  | .off => s
  | .failed => s
  | _ =>
    let s := { s with dm := { s.dm with refresh := refresh % 32 } }
    if hot then s.dmDown 3 else s

/-! Limits (08 R236, R237). -/

/-- The capacity that limits follow (08 R236) (assumption log 85; DEDUCED). -/
def Dm.capacityG (dm : Dm) : Option Nat :=
  match dm.st with
  | .up => dm.g
  | .down => dm.g
  | _ => dm.gRec

/-- Units of a line. -/
def LineRec.units (r : LineRec) : Nat := (r.capacity + 32 + 1023) / 1024

/-- Units of a plane's lines. -/
def Plane.delayUnits (p : Plane) : Nat := (p.lines.map LineRec.units).sum

/-- Whether two lines share no unit. -/
def disjointLines : List LineRec → Bool
  | [] => true
  | r :: l => l.all (fun q => decide (r.bufBase + r.units ≤ q.bufBase) || decide (q.bufBase + q.units ≤ r.bufBase)) &&
      disjointLines l

/-- DELAY_FIT (08 R236, R237) (assumption log 85; DEDUCED). -/
def Dm.fits (dm : Dm) (p : Plane) : Bool :=
  p.lines.all (fun r => decide (r.delay ≤ r.capacity) && decide (r.bufBase + r.units ≤ usableUnits dm.capacityG)) &&
  disjointLines p.lines &&
  decide (p.lines.length ≤ if dm.cfgRate.getD 6400 = 3200 && highRate p.baseRate then 2048 else 4096)

/-- The largest CAPACITY (08 R236): by the capacity that MR8 gave, else the one recorded, else 8 GiB. -/
def Dm.maxCapacity (dm : Dm) : Nat := 48000 * ((match dm.g with | none => dm.gRec | some g => some g).getD 8)

/-! Commands (08 R246, R247). -/

/-- STATE of DELAY_STATUS (assumption log 82; DESIGN CHOICE). -/
def DmSt.code : DmSt → Nat
  | .off => 0 | .training => 1 | .up => 2 | .down => 3 | .failed => 4

/-- DELAY_STATUS. -/
def runDelayStatus (_ : Ctx) (clear : Bool) (s : State) : Done × State :=
  let d := s.dm
  let used := (s.pl.live.map Plane.delayUnits).getD 0
  (.ok [(1, d.st.code), (1, d.g.getD 0), (2, d.rate), (4, usableUnits d.capacityG), (4, used), (4, d.corr), (4, d.uncorr),
    (4, d.late), (2, d.cfgScrub.getD 60), (4, d.lastPass), (1, d.refresh)],
   if clear then { s with dm := { d with corr := 0, uncorr := 0, late := 0 } } else s)

/-- DELAY_LINE_STATUS. -/
def runDelayLineStatus (_ : Ctx) (plane line : Nat) (s : State) : Done × State :=
  if 1 < plane || 4095 < line then (.range, s)
  else if plane = 1 && decide (s.pl.st = .writing) then (.fail .rejectedState 0x0030, s)
  else match (s.planeArg plane).bind (fun p => p.lines.find? (fun r => r.line == line)) with
    | none => (.fail .rejectedArgs 0x0071, s)
    | some r =>
      let (st, holds) := if plane = 1 then (0, 0) else match lookup? s.dm.lines line with
        | none => (0, 0)
        | some l => ((l.s.map (fun b => s.mediaOf b % 2 ^ 32)).getD 0, l.holds)
      (.ok [(4, r.delay), (4, r.capacity), (4, r.bufBase), (4, st), (4, holds)], s)

/-- DELAY_MEM_CONFIG: checked, then written to CONFIG. -/
def runDelayMemConfig (_ : Ctx) (rate scrub : Nat) (s : State) : Done × State :=
  if !(rate == 3200 || rate == 4267 || rate == 5500 || rate == 6400) || scrub < 15 || 1440 < scrub then (.range, s)
  else (.flash, s)

/-- DELAY_MEM_CONFIG once CONFIG is written. -/
def finDelayMemConfig (rate scrub : Nat) (s : State) : Done × State :=
  (.ok [(2, rate), (2, scrub)], { s with dm := { s.dm with cfgRate := some rate, cfgScrub := some scrub } })

/-- DELAY_MEM_RETRAIN (assumption log 85; DEDUCED). -/
def runDelayMemRetrain (c : Ctx) (s : State) : Done × State :=
  let go := ({ s with dm := { s.dm.train with retrain := some (c.port, c.handle) } } : State)
  match s.dm.st with
  | .down => (.later, go)
  | .failed => (.later, go)
  | _ => (.fail .rejectedState 0x0070, s)

end Sys2Proof.Machine
end

