-- ==== Sys2Proof/Machine/ImageParse.lean ====
section
/-!
DEFINITION. Structure images as bytes (03 R77 to R100): header, section table, bodies as records, and the layout rules.
-/
namespace Sys2Proof.Machine

/-- The little-endian field of `n` bytes at offset `o`. -/
def fld (b : List Byte) (o n : Nat) : Nat := leNat (slice b o n)
/-- The `n` bytes at offset `o` are 0. -/
def zeros (b : List Byte) (o n : Nat) : Bool := (slice b o n).all (· == 0#8)
/-- Bits of a field are 0: those of `v` outside the mask `m`. -/
def only (v m : Nat) : Bool := v &&& m == v
/-- The bytes cut in pieces of `n`. -/
def pieces (n : Nat) (b : List Byte) (cnt : Nat) : List (List Byte) := (List.range cnt).map (fun i => slice b (i * n) n)

/-- The header (03 R78). -/
structure ImgHdr where
  kind : Nat
  size : Nat
  rate : Nat
  secCount : Nat
  secOff : Nat
  flags : Nat
  seed : Nat
  imageId : Nat
  nodeId : Nat
  patchSeq : Nat
  millinerVersion : Nat
  baseDigest : List Byte
  spare : List Nat
  deriving DecidableEq, Repr

/-- The header's fields. -/
def parseHdr (b : List Byte) : ImgHdr where
  kind := fld b 0x0C 1
  size := fld b 0x08 4
  rate := fld b 0x0D 1
  secCount := fld b 0x0E 2
  secOff := fld b 0x10 4
  flags := fld b 0x14 4
  seed := fld b 0x18 8
  imageId := fld b 0x20 8
  nodeId := fld b 0x28 2
  patchSeq := fld b 0x2A 2
  millinerVersion := fld b 0x2C 4
  baseDigest := slice b 0x30 48
  spare := (List.range 4).map (fun i => fld b (0x60 + i) 1)

/-- MAGIC, FORMAT and HEADER_SIZE (03 R78). -/
def magicOk (b : List Byte) : Bool := fld b 0 4 == 0x52545346 && fld b 4 2 == 2 && fld b 6 2 == 128

/-- A section table entry (03 R80). -/
structure ImgSec where
  type : Nat
  version : Nat
  op : Nat
  inst : Nat
  off : Nat
  len : Nat
  count : Nat
  crc : Nat
  /-- Offset of the entry in the image. -/
  at_ : Nat
  clean : Bool
  deriving DecidableEq, Repr

/-- The section table. -/
def parseSecs (b : List Byte) (h : ImgHdr) : List ImgSec :=
  (List.range h.secCount).map (fun i =>
    let o := h.secOff + 32 * i
    { type := fld b o 2, version := fld b (o + 2) 1, op := fld b (o + 3) 1, inst := fld b (o + 4) 2, off := fld b (o + 8) 4,
      len := fld b (o + 12) 4, count := fld b (o + 16) 4, crc := fld b (o + 20) 4, at_ := o,
      clean := zeros b (o + 6) 2 && zeros b (o + 24) 8 })

/-- Record size of a section type with records of one size; none for tile sections and unknown types (03 R81). -/
def recSize : Nat → Option Nat
  | 0x0003 => some 8 | 0x0004 => some 8 | 0x0005 => some 16 | 0x0006 => some 16 | 0x0007 => some 24 | 0x0008 => some 32
  | 0x0009 => some 32 | 0x000A => some 16 | 0x000B => some 48 | 0x000C => some 8 | 0x000D => some 16 | 0x000E => some 16
  | 0x000F => some 128 | 0x00F0 => some 104 | _ => none

/-- A known section type. -/
def knownType (t : Nat) : Bool := t == 1 || t == 2 || (recSize t).isSome
/-- A tile section. -/
def tileType (t : Nat) : Bool := t == 1 || t == 2
/-- A section that holds exactly one record. -/
def singleType (t : Nat) : Bool := t == 0x000B || t == 0x000D || t == 0x000F || t == 0x00F0

/-- The records of a body. -/
inductive Body where
  | prog (p : TileProg)
  | data (l : List Region)
  | routes (l : List Route)
  | xpoints (l : List Xpoint)
  | sums (l : List SumRec)
  | ramps (l : List RampRec)
  | lines (l : List LineRec)
  | streams (l : List StreamRec)
  | modulators (l : List ModRec)
  | saports (l : List SaRec)
  | refPol (l : List RefPol)
  | faultPol (l : List FaultPol)
  | enginePol (l : List EnginePol)
  | latency (l : List LatRec)
  | verify
  | signature
  deriving DecidableEq, Repr

/-! Records and their reserved fields (03 R83 to R97). Each reader answers none where a reserved field is not 0. -/

/-- The record where its reserved fields are 0. -/
def cleanRec {α : Type} (ok : Bool) (x : α) : Option α := if ok then some x else none

/-- TILE_PROGRAM (03 R83, R84). -/
def readProg (b : List Byte) (count : Nat) : Option TileProg :=
  let wc := fld b 8 2
  let gc := fld b 0x0A 2
  let sc := fld b 0x0C 2
  let g (i : Nat) := fld b (32 + 8 * wc + 4 * i) 4
  let s (i : Nat) := fld b (32 + 8 * wc + 4 * gc + 4 * i) 4
  let gs := (List.range gc).map g
  let ss := (List.range sc).map s
  cleanRec (b.length == 32 + 8 * wc + 4 * gc + 4 * sc && count == wc && zeros b 0x0E 2 && zeros b 0x14 12 &&
      only (fld b 4 2) 0x3FFF && only (fld b 6 2) 0xBFFF && gs.all (only · 0x3FFF3FFF) && ss.all (only · 0xBFFF3FFF))
    { words := (List.range wc).map (fun i => BitVec.ofNat 64 (fld b (32 + 8 * i) 8))
      proven := fld b 0 4
      entryFg := BitVec.ofNat 14 (fld b 4 2)
      entryBg := BitVec.ofNat 14 (fld b 6 2)
      bgPresent := bit (fld b 6 2) 15
      tag := fld b 0x10 4
      gather := gs.map (fun v => ⟨bits v 16 14, bits v 0 14⟩)
      scatter := ss.map (fun v => ⟨bit v 31, bits v 16 14, bits v 0 14⟩) }

/-- TILE_DATA (03 R86): `n` records; each starts at a multiple of 8 bytes, with zeros between. A body without records is
accepted, as R100 accepts an empty body of a keyed type.
A MEM above 1 is kept as a START out of range, so that the RANGE check refuses it (assumption log 71, 104; DEDUCED, DESIGN
CHOICE). -/
def readData : Nat → List Byte → Option (List Region)
  | 0, b => if b.all (· == 0#8) && decide (b.length < 8) then some [] else none
  | n + 1, b =>
    let cnt := fld b 4 2
    let used := 8 + 4 * cnt
    let pad := (8 - used % 8) % 8
    if b.length < used || !zeros b 6 2 || !only (fld b 1 1) 1 || !zeros b used (min pad (b.length - used)) then none
    else match readData n (b.drop (used + pad)) with
      | none => none
      | some l => some ({ y := fld b 0 1 == 1, initAlways := fld b 1 1 == 1,
                          start := if 1 < fld b 0 1 then fld b 2 2 + 0x10000 else fld b 2 2,
                          words := (List.range cnt).map (fun i => BitVec.ofNat 32 (fld b (8 + 4 * i) 4)) } :: l)

/-- EXCH_ROUTE (03 R87). -/
def readRoute (b : List Byte) : Option Route :=
  cleanRec (only (fld b 4 2) 3) ⟨fld b 0 2, fld b 2 2, bit (fld b 4 2) 0, bit (fld b 4 2) 1, fld b 6 2⟩
/-- XPOINT (03 R88). -/
def readXpoint (b : List Byte) : Option Xpoint :=
  cleanRec (only (fld b 2 2) 0x3FF) ⟨fld b 0 2, fld b 2 2, BitVec.ofNat 32 (fld b 4 4)⟩
/-- SUM_CLASS (03 R89). A CLASS above 1 is kept as a HEADROOM out of range, so that the RANGE check refuses it. -/
def readSum (b : List Byte) : Option SumRec :=
  some ⟨fld b 0 2, fld b 2 1 == 1, fld b 3 1, fld b 4 2, if 1 < fld b 2 1 then 255 else fld b 6 1, fld b 7 1,
    BitVec.ofNat 32 (fld b 8 4), fld b 0x0C 2, fld b 0x0E 2⟩
/-- RAMP (03 R90). A LAW above 1 is kept as a TIME of 0, so that the RANGE check refuses it. -/
def readRamp (b : List Byte) : Option RampRec :=
  cleanRec (zeros b 2 2 && zeros b 0x0A 2)
    ⟨fld b 0 1, fld b 1 1 == 1, if 1 < fld b 1 1 then 0 else fld b 4 2, fld b 6 2, fld b 8 2, BitVec.ofNat 32 (fld b 0x0C 4)⟩
/-- DELAY_LINE (03 R91). -/
def readLine (b : List Byte) : Option LineRec :=
  cleanRec (zeros b 6 2 && zeros b 0x14 4) ⟨fld b 0 2, fld b 2 2, fld b 4 2, fld b 8 4, fld b 0x0C 4, fld b 0x10 4⟩
/-- STREAM (03 R92). A MODE above 1 is kept as CHANNELS 0 and a DIR above 1 as a STREAM_ID above 24 bits, so that the RANGE
check refuses them and the key (DIR, STREAM_ID) stays. -/
def readStream (b : List Byte) : Option StreamRec :=
  let fl := fld b 0x0E 2
  cleanRec (zeros b 7 1 && only fl 7 && zeros b 0x1A 6)
    { rx := fld b 0 1 == 1, aes67 := fld b 1 1 == 1
      channels := if 1 < fld b 1 1 then 0 else fld b 2 2
      id := if 1 < fld b 0 1 then fld b 0 1 * 2 ^ 24 + fld b 4 3 else fld b 4 3
      first := fld b 8 2, ptime := fld b 0x0A 2, offset := fld b 0x0C 2, roped := bit fl 0
      acceptBelay := bit fl 1, l16 := bit fl 2, destMac := beNat (slice b 0x10 6), pcp := bits (fld b 0x16 2) 13 3
      tagged := bit (fld b 0x16 2) 12, vid := bits (fld b 0x16 2) 0 12, portA := fld b 0x18 1, portB := fld b 0x19 1 }
/-- SAPORT (03 R93). A ROLE above 1 is kept as WORD_BITS 0, so that the RANGE check refuses it. -/
def readSaport (b : List Byte) : Option SaRec :=
  cleanRec (zeros b 0x0A 6)
    ⟨fld b 0 1, fld b 1 1, fld b 2 1 == 1, if 1 < fld b 2 1 then 0 else fld b 3 1, fld b 4 1, fld b 5 1, fld b 6 2, fld b 8 2⟩
/-- MODULATOR (03 R94). -/
def readModulator (b : List Byte) : Option ModRec :=
  let fl := fld b 1 1
  cleanRec (only fl 15 && zeros b 0x0F 1 && only (fld b 8 2) 0x3FF && only (fld b 0x0A 2) 0x3FF && zeros b 0x18 8)
    { channel := fld b 0 1, enabled := bit fl 0, btl := bit fl 1, feedback := bit fl 2, feedfwd := bit fl 3, fswMult := fld b 2 1
      spreadPct := fld b 3 1, deadtime := fld b 4 2, inSlot := fld b 6 2, limitCode := fld b 8 2, tripCode := fld b 0x0A 2
      hiccupMs := fld b 0x0C 2, rail := fld b 0x0E 1, dcThresh := fld b 0x10 2, dcTimeMs := fld b 0x12 2, csSlot := fld b 0x14 2
      vsSlot := fld b 0x16 2 }
/-- REF_POLICY (03 R95). -/
def readRefPol (b : List Byte) : Option RefPol :=
  cleanRec (zeros b 2 2 && zeros b 0x28 8)
    { enableMask := fld b 0 2, priority := (List.range 16).map (fun i => fld b (4 + i) 1), wtrS := fld b 0x14 2
      slope := fld b 0x16 2, stepNs := fld b 0x18 4, dpllBw := fld b 0x1C 4, softPpt := fld b 0x20 4, hardPpt := fld b 0x24 4 }
/-- FAULT_POLICY (03 R96). A MODE above 1 is kept as a ZONE above 255 with the zone in its low byte, so that the RANGE check
refuses it and the key stays. -/
def readFaultPol (b : List Byte) : Option FaultPol :=
  cleanRec (only (fld b 2 2) 1 && zeros b 4 4)
    ⟨if 1 < fld b 1 1 then 0x100 + fld b 0 1 else fld b 0 1, fld b 1 1 == 1, bit (fld b 2 2) 0⟩
/-- ENGINE_POLICY (03 R96). An AVS_EN above 1 is kept as a target of 0, so that the RANGE check refuses it. -/
def readEnginePol (b : List Byte) : Option EnginePol :=
  cleanRec (zeros b 4 12) ⟨fld b 0 1 == 1, if 1 < fld b 0 1 then 0 else fld b 1 1, fld b 2 1, fld b 3 1⟩
/-- LATENCY (03 R97). -/
def readLatency (b : List Byte) : Option LatRec :=
  some ⟨fld b 0 2, fld b 2 1, fld b 3 1, fld b 4 2, fld b 6 2, fld b 8 4, fld b 0x0C 4⟩

/-- All records of a body, or none where one is malformed. -/
def readAll {α : Type} (f : List Byte → Option α) : List (List Byte) → Option (List α)
  | [] => some []
  | b :: r => match f b, readAll f r with
    | some x, some l => some (x :: l)
    | _, _ => none

/-- A body as records: none breaks LAYOUT (03 R80 to R97). -/
def readBody (s : ImgSec) (b : List Byte) : Option Body :=
  let recs (n : Nat) := pieces n b s.count
  match s.type with
  | 0x0001 => (readProg b s.count).map .prog
  | 0x0002 => (readData s.count b).map .data
  | t =>
    match recSize t with
    | none => none
    | some n =>
      if s.len ≠ n * s.count || (singleType t && decide (s.count ≠ 1)) then none
      else match t with
        | 0x0003 => (readAll readRoute (recs n)).map .routes
        | 0x0004 => (readAll readXpoint (recs n)).map .xpoints
        | 0x0005 => (readAll readSum (recs n)).map .sums
        | 0x0006 => (readAll readRamp (recs n)).map .ramps
        | 0x0007 => (readAll readLine (recs n)).map .lines
        | 0x0008 => (readAll readStream (recs n)).map .streams
        | 0x0009 => (readAll readModulator (recs n)).map .modulators
        | 0x000A => (readAll readSaport (recs n)).map .saports
        | 0x000B => (readAll readRefPol (recs n)).map .refPol
        | 0x000C => (readAll readFaultPol (recs n)).map .faultPol
        | 0x000D => (readAll readEnginePol (recs n)).map .enginePol
        | 0x000E => (readAll readLatency (recs n)).map .latency
        | 0x000F => cleanRec (zeros b 0x63 1 && zeros b 0x7C 4) .verify
        | _ => cleanRec (zeros b 4 4) .signature

/-- Key of a stream: direction and STREAM_ID. -/
def StreamRec.key (r : StreamRec) : Nat := b2n r.rx * 2 ^ 24 + r.id
/-- Key of a region: memory and START. -/
def Region.key (r : Region) : Nat := b2n r.y * 2 ^ 16 + r.start

/-- Key of a fault policy: ZONE. -/
def FaultPol.key (f : FaultPol) : Nat := f.zone % 256

/-- No value occurs twice. -/
def noDup : List Nat → Bool
  | [] => true
  | x :: r => !mem r x && noDup r

/-- Rising order without equals. -/
def rising (l : List Nat) : Bool := (l.zip l.tail).all (fun p => decide (p.1 < p.2))

/-- The regions of one tile share no word (03 R86, R616). -/
def regionsApart : List Region → Bool
  | [] => true
  | r :: l => l.all (fun q => q.y != r.y || decide (r.start + r.words.length ≤ q.start) || decide (q.start + q.words.length ≤ r.start)) &&
      regionsApart l

/-- The keys of a body are unique, in the order that R616 gives. -/
def Body.keysOk : Body → Bool
  | .data l => regionsApart l
  | .routes l => noDup (l.map (·.dst))
  | .xpoints l => rising (l.map (fun x => xkey x.inSlot x.sum))
  | .sums l => noDup (l.map (·.sum))
  | .ramps l => noDup (l.map (·.ramp))
  | .lines l => noDup (l.map (·.line))
  | .streams l => noDup (l.map StreamRec.key)
  | .modulators l => noDup (l.map (·.channel))
  | .saports l => noDup (l.map (·.port))
  | .faultPol l => noDup (l.map FaultPol.key)
  | .latency l => noDup (l.map (·.path))
  | _ => true

/-- Bytes of a DELETE record up to and including its key fields; the record's size (03 R100). The records of TILE_DATA have no
one size: a DELETE record of it has the 8 bytes of the record header (assumption log 104; DESIGN CHOICE). -/
def keyLen : Nat → Option (Nat × Nat)
  | 0x0002 => some (4, 8) | 0x0003 => some (2, 8) | 0x0004 => some (4, 8) | 0x0005 => some (2, 16) | 0x0006 => some (1, 16)
  | 0x0007 => some (2, 24) | 0x0008 => some (8, 32) | 0x0009 => some (1, 32) | 0x000A => some (1, 16) | 0x000C => some (1, 8)
  | 0x000E => some (2, 16) | _ => none

/-- The key that a DELETE record names. -/
def deleteKey (t : Nat) (b : List Byte) : Nat :=
  match t with
  | 0x0002 => fld b 0 1 * 2 ^ 16 + fld b 2 2
  | 0x0004 => xkey (fld b 0 2) (fld b 2 2)
  | 0x0008 => fld b 0 1 * 2 ^ 24 + fld b 4 3
  | 0x0006 => fld b 0 1
  | 0x0009 => fld b 0 1
  | 0x000A => fld b 0 1
  | 0x000C => fld b 0 1
  | _ => fld b 0 2

/-- The reserved bits within the key bytes of a DELETE record are 0 (03 R77). -/
def deleteClean (t : Nat) (b : List Byte) : Bool :=
  match t with
  | 0x0002 => only (fld b 1 1) 1
  | 0x0004 => only (fld b 2 2) 0x3FF
  | 0x0008 => zeros b 7 1
  | _ => true

/-- What a section does to the plane (03 R100). -/
inductive SecOp where
  | replace (b : Body)
  | merge (b : Body)
  | delete (keys : List Nat) (padded : Bool)
  | remove
  | bad
  deriving DecidableEq, Repr

/-- A section's operation; none breaks LAYOUT. An operation that R100 does not allow reads as `bad`. -/
def readSec (img : List Byte) (s : ImgSec) : Option SecOp :=
  let b := slice img s.off s.len
  match s.op with
  | 0 => match readBody s b with
    | none => none
    | some x => if x.keysOk then some (.replace x) else none
  | 1 =>
    if s.type = 0x0001 || s.type = 0x000B || s.type = 0x000D || s.type = 0x000F || s.type = 0x00F0 then some .bad
    else match readBody s b with
      | none => none
      | some x => if x.keysOk then some (.merge x) else none
  | 2 => match keyLen s.type with
    | none => some .bad
    | some (k, n) =>
      let rs := pieces n b s.count
      if s.len ≠ n * s.count || !rs.all (deleteClean s.type) then none
      else
        some (.delete (rs.map (deleteKey s.type)) (rs.all (fun r => zeros r k (n - k))))
  | 3 => if s.len = 0 && s.count = 0 && s.type ≠ 0x000F && s.type ≠ 0x00F0 then some .remove else some .bad
  | _ => some .bad

/-- Intervals in rising order without overlap, with zeros between and, after the last, zeros to `size`. -/
def gapsOk (img : List Byte) (size : Nat) : Nat → List (Nat × Nat) → Bool
  | pos, [] => decide (pos ≤ size) && zeros img pos (size - pos)
  | pos, (o, n) :: r => decide (pos ≤ o) && zeros img pos (o - pos) && gapsOk img size (o + n) r

/-- Section entries stand sorted by TYPE and INSTANCE (03 R80); only a full image carries each at most once (03 R81)
(assumption log 71; DEDUCED). -/
def sortedKeys (full : Bool) (l : List Nat) : Bool :=
  (l.zip l.tail).all (fun p => if full then decide (p.1 < p.2) else decide (p.1 ≤ p.2))

/-- The layout of the section table and the bodies (03 R77, R80 to R82). -/
def layoutOk (img : List Byte) (h : ImgHdr) (secs : List ImgSec) : Bool :=
  let full := h.kind == 1
  let ver := secs.filter (fun s => s.type == 0x000F)
  let sig := secs.filter (fun s => s.type == 0x00F0)
  let others := secs.filter (fun s => s.type != 0x000F && s.type != 0x00F0)
  let verOff := (ver.map (·.off)).foldl max 0
  let verEnd := (ver.map (fun s => s.off + s.len)).foldl max 0
  let parts := sortBy (fun a b => decide (a.1 ≤ b.1))
    ((h.secOff, 32 * h.secCount) :: (secs.filter (fun s => s.len != 0)).map (fun s => (s.off, s.len)))
  h.secOff % 8 == 0 && decide (128 ≤ h.secOff) && decide (h.secOff + 32 * h.secCount ≤ h.size) &&
  zeros img 0x64 24 && only h.flags 1 && only h.nodeId 0xFFF &&
  secs.all (fun s => s.clean && knownType s.type && s.version == 1 && (!full || s.op == 0) && s.off % 8 == 0 &&
    decide (s.off + s.len ≤ h.size) && (if tileType s.type then decide (s.inst < 68) else s.inst == 0xFFFF)) &&
  sortedKeys full (secs.map (fun s => s.type * 65536 + s.inst)) &&
  ver.length == 1 && sig.length == b2n (bit h.flags 0) &&
  (!full || (secs.any (fun s => s.type == 0x000D) && secs.any (fun s => s.type == 0x000E))) &&
  secs.all (fun s => !((s.type == 0x000D || s.type == 0x000E) && s.op == 3)) &&
  others.all (fun s => decide (s.off + s.len ≤ verOff)) && decide (h.secOff + 32 * h.secCount ≤ verOff) &&
  sig.all (fun s => decide (verEnd ≤ s.off) && s.off + s.len == h.size) &&
  gapsOk img h.size 128 parts

end Sys2Proof.Machine
end

