-- ==== Sys2Proof/Machine/ImageCheck.lean ====
section
/-!
DEFINITION. What the engine checks of an image (03 R98 to R102, R116, R617): patch operations, ranges, limits, references,
totals, digest and signature; and the plane that results.
-/
namespace Sys2Proof.Machine

/-- A plane without objects, with the header values of an image. -/
def Plane.ofHdr (h : ImgHdr) : Plane where
  digest := []
  baseRate := h.rate
  ditherSeed := BitVec.ofNat 64 h.seed
  imageId := BitVec.ofNat 64 h.imageId
  nodeId := h.nodeId
  patchSeq := h.patchSeq
  millinerVersion := h.millinerVersion
  spare := h.spare
  tiles := []
  data := []
  routes := []
  xpoints := []
  sums := []
  ramps := []
  lines := []
  streams := []
  saports := []
  modulators := []
  refPol := none
  faultPol := []
  enginePol := ⟨false, 70, 0, 60⟩
  latency := []
  sections := []

/-- A patched plane takes the header values of the patch (03 R101). -/
def Plane.withHdr (p : Plane) (h : ImgHdr) : Plane :=
  { p with ditherSeed := BitVec.ofNat 64 h.seed, imageId := BitVec.ofNat 64 h.imageId, nodeId := h.nodeId,
           patchSeq := h.patchSeq, millinerVersion := h.millinerVersion, spare := h.spare }

/-- The regions of a tile. -/
def Plane.regions (p : Plane) (k : Nat) : List Region := (lookup? p.data k).getD []

/-- A body takes the place of a section (03 R100, REPLACE). -/
def Plane.replaceBody (p : Plane) (inst : Nat) (b : Body) : Plane :=
  match b with
  | .prog t => { p with tiles := insertKey p.tiles inst t }
  | .data l => { p with data := insertKey p.data inst l }
  | .routes l => { p with routes := l }
  | .xpoints l => { p with xpoints := l }
  | .sums l => { p with sums := l }
  | .ramps l => { p with ramps := l }
  | .lines l => { p with lines := l }
  | .streams l => { p with streams := l }
  | .modulators l => { p with modulators := l }
  | .saports l => { p with saports := l }
  | .refPol l => { p with refPol := l.head? }
  | .faultPol l => { p with faultPol := l }
  | .enginePol l => { p with enginePol := l.headD p.enginePol }
  | .latency l => { p with latency := l }
  | .verify => p
  | .signature => p

/-- Records merged by key (03 R100, MERGE). -/
def mergeBy {α : Type} (key : α → Nat) (old new : List α) : List α :=
  old.filter (fun o => !new.any (fun n => key n == key o)) ++ new

/-- What is left of a region outside a record that covers words of it (03 R617). -/
def Region.minus (q r : Region) : List Region :=
  let e := r.start + r.words.length
  if q.y != r.y || e ≤ q.start || q.start + q.words.length ≤ r.start then [q]
  else
    let lo := { q with words := q.words.take (r.start - q.start) }
    let hi := { q with start := max q.start e, words := q.words.drop (e - q.start) }
    [lo, hi].filter (fun x => !x.words.isEmpty)

/-- One record merged into the regions of a tile (03 R617). -/
def mergeRegion (l : List Region) (r : Region) : List Region := l.flatMap (fun q => q.minus r) ++ [r]

/-- A body merged into a section (03 R100, R617). -/
def Plane.mergeBody (p : Plane) (inst : Nat) (b : Body) : Plane :=
  match b with
  | .data l => { p with data := insertKey p.data inst (l.foldl mergeRegion (p.regions inst)) }
  | .routes l => { p with routes := mergeBy (·.dst) p.routes l }
  | .xpoints l => { p with xpoints := mergeBy (fun x => xkey x.inSlot x.sum) p.xpoints l }
  | .sums l => { p with sums := mergeBy (·.sum) p.sums l }
  | .ramps l => { p with ramps := mergeBy (·.ramp) p.ramps l }
  | .lines l => { p with lines := mergeBy (·.line) p.lines l }
  | .streams l => { p with streams := mergeBy StreamRec.key p.streams l }
  | .modulators l => { p with modulators := mergeBy (·.channel) p.modulators l }
  | .saports l => { p with saports := mergeBy (·.port) p.saports l }
  | .faultPol l => { p with faultPol := mergeBy FaultPol.key p.faultPol l }
  | .latency l => { p with latency := mergeBy (·.path) p.latency l }
  | _ => p

/-- Records without those of the listed keys; none where a key is not present or stands twice (03 R100, R616). -/
def deleteBy {α : Type} (key : α → Nat) (old : List α) (keys : List Nat) : Option (List α) :=
  if noDup keys && keys.all (fun k => old.any (fun o => key o == k)) then
    some (old.filter (fun o => !keys.any (fun k => k == key o)))
  else none

/-- Records deleted from a section (03 R100). -/
def Plane.deleteKeys (p : Plane) (t inst : Nat) (ks : List Nat) : Option Plane :=
  match t with
  | 0x0002 => (deleteBy Region.key (p.regions inst) ks).map (fun l => { p with data := insertKey p.data inst l })
  | 0x0003 => (deleteBy (·.dst) p.routes ks).map (fun l => { p with routes := l })
  | 0x0004 => (deleteBy (fun x => xkey x.inSlot x.sum) p.xpoints ks).map (fun l => { p with xpoints := l })
  | 0x0005 => (deleteBy (·.sum) p.sums ks).map (fun l => { p with sums := l })
  | 0x0006 => (deleteBy (·.ramp) p.ramps ks).map (fun l => { p with ramps := l })
  | 0x0007 => (deleteBy (·.line) p.lines ks).map (fun l => { p with lines := l })
  | 0x0008 => (deleteBy StreamRec.key p.streams ks).map (fun l => { p with streams := l })
  | 0x0009 => (deleteBy (·.channel) p.modulators ks).map (fun l => { p with modulators := l })
  | 0x000A => (deleteBy (·.port) p.saports ks).map (fun l => { p with saports := l })
  | 0x000C => (deleteBy FaultPol.key p.faultPol ks).map (fun l => { p with faultPol := l })
  | 0x000E => (deleteBy (·.path) p.latency ks).map (fun l => { p with latency := l })
  | _ => none

/-- A section removed (03 R100). -/
def Plane.removeSec (p : Plane) (t inst : Nat) : Plane :=
  let gone (q : Nat × Nat) : Bool := (q.1 == t && q.2 == inst) || (t == 1 && q.1 == 2 && q.2 == inst)
  let p := { p with sections := p.sections.filter (fun q => !gone q) }
  match t with
  | 0x0001 => { p with tiles := eraseKey p.tiles inst, data := eraseKey p.data inst }
  | 0x0002 => { p with data := eraseKey p.data inst }
  | 0x0003 => { p with routes := [] }
  | 0x0004 => { p with xpoints := [] }
  | 0x0005 => { p with sums := [] }
  | 0x0006 => { p with ramps := [] }
  | 0x0007 => { p with lines := [] }
  | 0x0008 => { p with streams := [] }
  | 0x0009 => { p with modulators := [] }
  | 0x000A => { p with saports := [] }
  | 0x000B => { p with refPol := none }
  | 0x000C => { p with faultPol := [] }
  | 0x000E => { p with latency := [] }
  | _ => p

/-- One section's operation on the plane; none is a patch error (03 R100). -/
def Plane.applySec (p : Plane) (s : ImgSec) (op : SecOp) : Option Plane :=
  let held (q : Plane) : Plane := { q with sections := addNew q.sections (s.type, s.inst) }
  match op with
  | .replace .verify => some p
  | .replace .signature => some p
  | .replace b => some (held (p.replaceBody s.inst b))
  | .merge b => some (held (p.mergeBody s.inst b))
  | .delete ks padded => if padded then p.deleteKeys s.type s.inst ks else none
  | .remove => if mem p.sections (s.type, s.inst) then some (p.removeSec s.type s.inst) else none
  | .bad => none

/-- All sections in table order (assumption log 71; DEDUCED). -/
def applySecs : List (ImgSec × SecOp) → Plane → Option Plane
  | [], p => some p
  | (s, op) :: r, p => (p.applySec s op).bind (applySecs r)

/-! Ranges (03 R102 RANGE). -/

/-- Tile programs (03 R83, R84; 05 R147). -/
def TileProg.inRange (n : Nat) (t : TileProg) : Bool :=
  within 1 16384 t.words.length && decide (t.gather.length ≤ 256) && decide (t.scatter.length ≤ 256) &&
  t.gather.all (fun g => decide (g.slot < n)) &&
  t.scatter.all (fun s => decide (s.slot < n) && (!s.y || decide (s.addr < 0x3C00)))

/-- Regions (03 R86) (assumption log 71; DEDUCED). -/
def Region.inRange (r : Region) : Bool := within 1 16384 r.words.length && decide (r.start + r.words.length ≤ 16384)

/-- Routes (03 R87, 04 R127). -/
def Route.inRange (n : Nat) (r : Route) : Bool :=
  decide (r.dst < n) && decide (r.src < n) && r.dst != r.src && (if r.fade then r.time != 0 else r.time == 0)

/-- Sums (03 R89, 07 R213). -/
def SumRec.inRange (n : Nat) (r : SumRec) : Bool :=
  decide (r.sum < 1024) && decide (r.lane < 48) && decide (r.out < n) && r.zcTimeout != 0 &&
  (if r.aux then r.headroom == 0 && decide (r.auxLaw ≤ 2) && r.thresh == 0 && r.release == 0
   else decide (r.headroom ≤ 7) && r.auxLaw == 0 && decide (0 < r.thresh.toInt) && r.release != 0)

/-- Streams (03 R92, 04 R121, 10 R287, R309). ACCEPT_BELAY set on a transmitted stream and L16 set on a Wyeri stream are out
of range (assumption log 104; DESIGN CHOICE). -/
def StreamRec.inRange (rate node n : Nat) (r : StreamRec) : Bool :=
  let bytes := if r.l16 then 2 else 3
  let pts := if rate = 1 then [6, 12, 16, 48] else if rate = 3 then [12, 24, 32, 96] else []
  within 1 64 r.channels && decide (r.id < 2 ^ 24) && decide (r.first + r.channels ≤ n) &&
  (if r.aes67 then mem pts r.ptime && decide (r.channels * r.ptime * bytes ≤ 1440)
   else within 1 16 r.ptime && decide (r.channels * r.ptime ≤ 256) && !r.l16 && (r.rx || r.id / 4096 == node)) &&
  (if r.rx then within 2 64 r.offset && r.destMac == 0
   else r.offset == 0 && !r.acceptBelay && decide (r.portA < 8) && (!r.roped || (decide (r.portB < 8) && r.portB != r.portA)))

/-- Serial ports (03 R93, 04 R121, R138). -/
def SaRec.inRange (rate n : Nat) (r : SaRec) : Bool :=
  let lim := if r.format < 2 then 2 else if rate ≤ 1 then 32 else if rate ≤ 3 then 16 else 8
  let run (ch slot : Nat) : Bool := if ch = 0 then slot == 0xFFFF else decide (slot + ch ≤ n)
  decide (r.port < 8) && decide (r.format ≤ 2) && (r.wordBits == 16 || r.wordBits == 24 || r.wordBits == 32) &&
  decide (r.chIn ≤ lim) && decide (r.chOut ≤ lim) && run r.chIn r.inSlot && run r.chOut r.outSlot

/-- Modulators (03 R94, 13 R379, R380): IN_SLOT of M2k+1 of a BTL pair is 0xFFFF, any other is a slot (assumption log 104;
DESIGN CHOICE). -/
def ModRec.inRange (n : Nat) (r : ModRec) : Bool :=
  let opt (s : Nat) : Bool := s == 0xFFFF || decide (s < n)
  decide (r.channel < 32) && within 6 12 r.fswMult && decide (r.spreadPct ≤ 8) && within 4 200 r.deadtime &&
  (if r.btl && r.channel % 2 == 1 then r.inSlot == 0xFFFF else decide (r.inSlot < n)) &&
  within 16 1023 r.tripCode && (r.limitCode == 0 || (decide (16 ≤ r.limitCode) && decide (r.limitCode < r.tripCode))) &&
  within 50 5000 r.hiccupMs && decide (r.rail ≤ 3) && within 10 5000 r.dcThresh && within 10 5000 r.dcTimeMs &&
  opt r.csSlot && opt r.vsSlot

/-- The reference policy (12 R360). -/
def RefPol.inRange (r : RefPol) : Bool :=
  decide (r.wtrS ≤ 3600) && within 1 1000 r.slope && within 100 100000000 r.stepNs && within 1 10000 r.dpllBw &&
  within 1000 100000000 r.softPpt && decide (r.softPpt < r.hardPpt) && decide (r.hardPpt ≤ 190000000)

/-- The engine policy (03 R96). -/
def EnginePol.inRange (r : EnginePol) : Bool := within 50 85 r.target && decide (r.vmin ≤ r.vmax) && decide (r.vmax ≤ 60)

/-- Latency records (03 R97, 04 R132). -/
def LatRec.inRange (n : Nat) (r : LatRec) : Bool :=
  mem [1, 2, 3, 7] r.srcKind && decide (r.srcIndex < n) &&
  (if r.dstKind = 6 then decide (r.dstIndex < 32) else mem [4, 5, 7] r.dstKind && decide (r.dstIndex < n))

/-- RANGE of the whole content (03 R102). -/
def Plane.inRange (p : Plane) (maxCap : Nat) : Bool :=
  let n := slotCount p.baseRate
  decide (p.baseRate ≤ 5) && p.tiles.all (fun t => t.2.inRange n) && p.data.all (fun d => d.2.all Region.inRange) &&
  p.routes.all (Route.inRange n) && p.xpoints.all (fun x => decide (x.inSlot < n) && decide (x.sum < 1024)) &&
  p.sums.all (SumRec.inRange n) &&
  p.ramps.all (fun r => decide (r.ramp < 256) && r.time != 0 && decide (r.inSlot < n) && decide (r.sum < 1024)) &&
  p.lines.all (fun r => decide (r.line < 4096) && decide (r.inSlot < n) && decide (r.out < n) && within 1 maxCap r.capacity) &&
  p.streams.all (StreamRec.inRange p.baseRate p.nodeId n) && p.saports.all (SaRec.inRange p.baseRate n) &&
  p.modulators.all (ModRec.inRange n) && (match p.refPol with
    | none => true
    | some r => r.inRange) &&
  p.faultPol.all (fun f => decide (f.zone < 256)) && p.enginePol.inRange && p.latency.all (LatRec.inRange n)

/-! Limits, writers, references, zones, spares, totals (03 R102). -/

/-- Channels and streams of one direction. -/
def Plane.streamCount (p : Plane) (rx : Bool) : Nat := (p.streams.filter (fun r => r.rx == rx)).length
/-- Channels of one direction. -/
def Plane.channelCount (p : Plane) (rx : Bool) : Nat := ((p.streams.filter (fun r => r.rx == rx)).map (·.channels)).sum

/-- LIMIT (00 R1, 04 R124, R125, 07 R208, 10 R309). -/
def Plane.limitsOk (p : Plane) : Bool :=
  let hi := highRate p.baseRate
  let cap (lo up : Nat) : Nat := if hi then up else lo
  let laneX (l : Nat) : Nat := (p.xpoints.filter (fun x => p.sums.any (fun s => s.sum == x.sum && s.lane == l))).length
  decide (p.tiles.length ≤ 64) && decide (p.xpoints.length ≤ cap 262144 131072) && decide (p.sums.length ≤ 1024) &&
  (List.range 48).all (fun l => decide (laneX l ≤ cap 5632 2816) && decide ((p.laneSums l).length ≤ 64)) &&
  decide (p.routes.length ≤ cap 4096 2048) && decide (p.lines.length ≤ 4096) && decide (p.ramps.length ≤ 256) &&
  decide (p.streamCount true ≤ 1024) && decide (p.streamCount false ≤ 512) &&
  decide (p.channelCount true ≤ cap 4096 2048) && decide (p.channelCount false ≤ cap 4096 2048) &&
  [true, false].all (fun d => decide ((p.streams.filter (fun r => r.aes67 && r.rx == d)).length ≤ 64))

/-- Every slot with its writers, one entry per writer (01 R15, 04 R124). -/
def Plane.writers (p : Plane) : List Nat :=
  let run (a n : Nat) : List Nat := (List.range n).map (fun i => a + i)
  let opt (s : Nat) : List Nat := if s = 0xFFFF then [] else [s]
  (p.streams.filter (·.rx)).flatMap (fun r => run r.first r.channels) ++ p.saports.flatMap (fun r => run r.inSlot r.chIn) ++
  p.modulators.flatMap (fun r => opt r.csSlot ++ opt r.vsSlot) ++ p.tiles.flatMap (fun t => t.2.scatter.map (·.slot)) ++
  p.sums.map (·.out) ++ p.lines.map (·.out) ++ p.routes.map (·.dst)

/-- A pair of modulator records agrees (13 R379). -/
def ModRec.agrees (a b : ModRec) : Bool :=
  b.btl && a.enabled == b.enabled && a.fswMult == b.fswMult && a.spreadPct == b.spreadPct && a.deadtime == b.deadtime &&
  a.hiccupMs == b.hiccupMs && a.rail == b.rail && a.dcThresh == b.dcThresh && a.dcTimeMs == b.dcTimeMs &&
  a.feedback == b.feedback && a.feedfwd == b.feedfwd

/-- REFERENCE (03 R85, R86, R89, R90, R94; 13 R379). -/
def Plane.refsOk (p : Plane) : Bool :=
  p.xpoints.all (fun x => p.sums.any (fun s => s.sum == x.sum)) &&
  p.ramps.all (fun r => p.xpoints.any (fun x => x.inSlot == r.inSlot && x.sum == r.sum)) &&
  noDup (p.ramps.map (fun r => xkey r.inSlot r.sum)) &&
  p.modulators.all (fun m => !m.btl || p.modulators.any (fun q =>
    q.channel / 2 == m.channel / 2 && q.channel != m.channel && m.agrees q)) &&
  p.data.all (fun d => (lookup? p.tiles d.1).isSome)

/-- A zone of the table of 01 R17. -/
def zoneKnown (z : Nat) : Bool :=
  z ≤ 2 || within 0x10 0x18 z || within 0x20 0x63 z || z == 0x70 || z == 0x71 || within 0x80 0xA0 z || z == 0xB0 || within 0xC0 0xC3 z

/-- SPARE (03 R78, R85). -/
def Plane.spareOk (p : Plane) : Bool :=
  (List.range 4).all (fun q => let k := p.spare.getD q 0
    within (17 * q) (17 * q + 16) k && (lookup? p.tiles k).isNone && (lookup? p.data k).isNone)

/-- Recounted totals (03 R98). -/
def Plane.totals (p : Plane) : Totals where
  budget := budgetOf p.baseRate
  tiles := p.tiles.length
  xpoints := p.xpoints.length
  sums := p.sums.length
  ramps := p.ramps.length
  lines := p.lines.length
  txStreams := p.streamCount false
  rxStreams := p.streamCount true
  txChannels := p.channelCount false
  rxChannels := p.channelCount true
  slotsWritten := p.writers.length
  delayUnits := p.delayUnits

/-- The totals of a VERIFY record. -/
def readTotals (b : List Byte) : Totals where
  budget := fld b 0x60 2
  tiles := fld b 0x62 1
  xpoints := fld b 0x64 4
  sums := fld b 0x68 2
  ramps := fld b 0x6A 2
  lines := fld b 0x6C 2
  txStreams := fld b 0x6E 2
  rxStreams := fld b 0x70 2
  txChannels := fld b 0x72 2
  rxChannels := fld b 0x74 2
  slotsWritten := fld b 0x76 2
  delayUnits := fld b 0x78 4

/-! Digest and signature. -/

/-- The bytes that DIGEST covers (03 R98). -/
def digestBytes (img : List Byte) (secs : List ImgSec) (verOff : Nat) : List Byte :=
  ((secs.filter (fun s => s.type == 0x000F || s.type == 0x00F0)).foldl (fun b s => splice b (s.at_ + 0x14) [0, 0, 0, 0]) img).take verOff

/-- The signature rule (03 R99, R116). -/
def signatureOk (key : Option SigKey) (img ver : List Byte) (secs : List ImgSec) : Bool :=
  match key with
  | none => true
  | some k => match secs.find? (fun s => s.type == 0x00F0) with
    | none => !k.require
    | some s =>
      let b := slice img s.off s.len
      fld b 0 4 == k.id &&
      ecdsaVerify (beNat (slice k.key 0 48), beNat (slice k.key 48 48)) (sha384 ver) (beNat (slice b 8 48)) (beNat (slice b 0x38 48))

/-- What the load checks use of the engine's state. -/
structure LoadEnv where
  /-- The KIND that the command takes: 1 full image, 2 patch. -/
  kind : Nat
  len : Nat
  /-- The engine's base rate; none for STRUCT_BOOT_WRITE and for the choice of a boot copy. -/
  rate : Option Nat
  shadow : Option Plane
  key : Option SigKey
  dm : Dm

/-- The first failing check: its status and detail. -/
abbrev CheckRes (α : Type) := Except (Status × Nat) α

/-- A check of R102. -/
def must (ok : Bool) (st : Status) (detail : Nat) : CheckRes Unit := if ok then .ok () else .error (st, detail)

/-- The load checks on the content of a plane, from RANGE on (03 R102). -/
def contentChecks (e : LoadEnv) (h : ImgHdr) (p : Plane) (t : Totals) : CheckRes Unit := do
  let full := h.kind == 1
  must (p.inRange e.dm.maxCapacity && within 1 300 h.secCount && (if full then h.patchSeq == 0 && h.baseDigest.all (· == 0#8) else h.patchSeq != 0))
    .rejectedArgs 0x000B
  must p.limitsOk .rejectedArgs 0x000C
  must (p.tiles.all (fun q => decide (q.2.proven ≤ budgetOf p.baseRate)) && t.budget == budgetOf p.baseRate) .rejectedArgs 0x000D
  must (noDup p.writers) .rejectedArgs 0x000E
  must p.refsOk .rejectedArgs 0x000F
  must (p.faultPol.all (fun f => zoneKnown f.zone)) .rejectedArgs 0x0010
  must p.spareOk .rejectedArgs 0x0011
  must (decide (t = p.totals)) .rejectedArgs 0x0012
  must (p.lines.isEmpty || e.dm.fits p) .resource 0x0013

/-- The load checks in the order of R102, with the plane that results. -/
def loadChecks (e : LoadEnv) (bytes : List Byte) : CheckRes Plane := do
  let img := slice bytes 0 e.len
  must (decide (128 ≤ e.len)) .rejectedArgs 0x0003
  let h := parseHdr img
  must (magicOk img && h.kind == e.kind) .rejectedArgs 0x0001
  must (fld img 0x7C 4 == crc32 (slice img 0 0x7C)) .integrity 0x0002
  must (decide (h.size ≤ 25165824) && h.size == e.len) .rejectedArgs 0x0003
  let secs := if h.secOff + 32 * h.secCount ≤ h.size then parseSecs img h else []
  let ops := secs.map (fun s => (s, readSec img s))
  must (layoutOk img h secs && ops.all (fun q => q.2.isSome)) .rejectedArgs 0x0004
  must (secs.all (fun s => s.crc == crc32 (slice img s.off s.len))) .integrity 0x0005
  let verOff := ((secs.find? (fun s => s.type == 0x000F)).map (·.off)).getD 0
  let ver := slice img verOff 128
  let digest := slice ver 0 48
  let result := slice ver 48 48
  must (decide (sha384 (digestBytes img secs verOff) = digest) && (h.kind == 2 || decide (result = digest))) .integrity 0x0006
  must (signatureOk e.key img ver secs) .integrity 0x0007
  must (match e.rate with
    | none => true
    | some r => h.rate == r) .rejectedState 0x0008
  let base ← (if h.kind = 1 then .ok (Plane.ofHdr h) else match e.shadow with
    | none => .error (.rejectedState, 0x0009)
    | some s => if s.digest = h.baseDigest then .ok (s.withHdr h) else .error (.rejectedState, 0x0009))
  let p ← (match applySecs (ops.filterMap (fun q => q.2.map (fun o => (q.1, o)))) base with
    | none => .error (.rejectedArgs, 0x000A)
    | some p => .ok { p with digest := result })
  contentChecks e h p (readTotals ver)
  pure p

/-- The DIGEST field of an image that passed its checks, recomputed (03 R104). -/
def imageDigest (len : Nat) (bytes : List Byte) : List Byte :=
  let img := slice bytes 0 len
  let h := parseHdr img
  let secs := if h.secOff + 32 * h.secCount ≤ len then parseSecs img h else []
  sha384 (digestBytes img secs (((secs.find? (fun s => s.type == 0x000F)).map (·.off)).getD 0))

end Sys2Proof.Machine
end

