-- ==== Sys2Proof/Machine/Monitors.lean ====
section
/-!
DEFINITION. The supply and temperature monitors (14 R413, R414; 19 R551; 20 R589, R590, R592).
-/
namespace Sys2Proof.Machine

/-! Temperature. -/

/-- The end thresholds and the thresholds of a grade in 0.1 °C: TJ_WARN at or above and its end, TJ_CRIT and its end, TJ_LOW at
or below and its end (14 R413, 00 R3, R4). -/
def tjLimits (gradeX : Bool) : (Int × Int) × (Int × Int) × (Int × Int) :=
  if gradeX then ((1050, 1000), (1200, 1100), (-450, -400)) else ((950, 900), (1100, 1000), (-50, 0))

/-- The sensor with the highest reading, the lowest of them, and the reading: Tj (20 R592) (assumption log 98; DESIGN CHOICE). -/
def Mon.tj (m : Mon) : Nat × Int :=
  (List.range 16).foldl (fun b i => if b.2 < rd m.temps i then (i, rd m.temps i) else b) (0, rd m.temps 0)

/-- One temperature detector at a reading: it fires while its condition is absent; a condition ends when the sensors have read
at or beyond the end threshold for 10 s without a break (14 R413). Answers the monitor, whether it fires, whether it ends
(assumption log 98; DESIGN CHOICE). -/
def TempMon.step (x : TempMon) (hit good : Bool) (now : Nat) : TempMon × Bool × Bool :=
  if x.on then
    if good then
      let t := x.okSince.getD now
      if t + 10000000000 ≤ now then (⟨false, none⟩, false, true) else (⟨true, some t⟩, false, false)
    else (⟨true, none⟩, false, false)
  else if hit then (⟨true, none⟩, true, false)
  else (x, false, false)

/-- A temperature detector's answer reaches the fault controller (14 R412) (assumption log 98; DESIGN CHOICE). -/
def State.tempResult (s : State) (code : Nat) (r : TempMon × Bool × Bool) : State :=
  let t := s.mon.tj
  let s := if r.2.1 then s.raise code 0x00 0xFFFF (packBits [(8, t.1), (16, (t.2 % 65536).toNat)]) else s
  if r.2.2 then s.endCond code 0x00 0xFFFF else s

/-- The 16 sensors are read (14 R413) (assumption log 16; DESIGN CHOICE). -/
def State.readTemps (s : State) (v : Vector Int 16) : State :=
  let m := { s.mon with temps := v }
  let lim := tjLimits Config.gradeX
  let tj := m.tj.2
  let every (p : Int → Bool) : Bool := v.toList.all p
  let w := m.warn.step (decide (lim.1.1 ≤ tj)) (every (fun x => decide (x ≤ lim.1.2))) s.now
  let c := m.crit.step (decide (lim.2.1.1 ≤ tj)) (every (fun x => decide (x ≤ lim.2.1.2))) s.now
  let l := m.low.step (decide (tj ≤ lim.2.2.1)) (every (fun x => decide (lim.2.2.2 ≤ x))) s.now
  let s := { s with mon := { m with warn := w.1, crit := c.1, low := l.1 } }
  ((s.tempResult 0x0105 w).tempResult 0x0106 c).tempResult 0x0107 l

/-- Tj of the tile domains (18 R534): the highest reading of the sensors that lie in them (assumption log 100; DESIGN CHOICE). -/
def Mon.tileTj (m : Mon) : Int :=
  ((List.range 16).filter Config.tileSensor).foldl (fun b i => max b (rd m.temps i)) (-2731)

/-! Supplies. -/

/-- Index of VDD_TILE. -/
def railTile : Nat := 7

/-- The limits of a rail in 0.1 mV (20 R589): those of VDD_TILE follow the latest confirmed AVS request, the full range while
the loop is OFF (14 R414). -/
def State.railLimits (s : State) (i : Nat) : Nat × Nat :=
  match i with
  | 0 => (7275, 7725) | 1 => (31350, 34650) | 2 => (17100, 18900) | 3 => (17100, 18900) | 4 => (17100, 18900)
  | 5 => (7275, 7725) | 6 => (7760, 8240)
  | 7 => if s.avs.st = .off then (5500, 8500) else (5500 + 50 * s.avs.ack - 200, 5500 + 50 * s.avs.ack + 200)
  | 8 => (8245, 8755) | 9 => (11640, 12360) | 10 => (10100, 11200) | _ => (4700, 5700)

/-- The domains that a rail alone feeds; none: it feeds one that is never off (19 R551) (assumption log 98; DESIGN CHOICE). -/
def railDomains (i : Nat) : List Nat :=
  match i with
  | 4 => [12] | 7 => [6, 7, 8, 9] | 8 => [3, 4, 13] | 9 => [3, 4, 13] | 10 => [11] | 11 => [11] | _ => []

/-- A rail is monitored: a rail whose domain is off is not (14 R414) (assumption log 98; DESIGN CHOICE). -/
def State.railWatched (s : State) (i : Nat) : Bool := (railDomains i).isEmpty || (railDomains i).any s.domOn

/-- One supply monitor at a reading: SUPPLY fires after 10 µs outside the limits without a break, and its condition ends after
100 ms within them (14 R412, R414) (assumption log 98; DESIGN CHOICE). -/
def RailMon.step (x : RailMon) (watched inside : Bool) (v now : Nat) : RailMon × Bool × Bool :=
  if !watched then (⟨v, none, none, x.on⟩, false, false)
  else if inside then
    let t := x.inSince.getD now
    if x.on && decide (t + 100000000 ≤ now) then (⟨v, none, some t, false⟩, false, true) else (⟨v, none, some t, x.on⟩, false, false)
  else
    let t := x.outSince.getD now
    if !x.on && decide (t + 10000 ≤ now) then (⟨v, some t, none, true⟩, true, false) else (⟨v, some t, none, x.on⟩, false, false)

/-- A rail is read (14 R414) (assumption log 16, 98; DESIGN CHOICE). -/
def State.readRail (s : State) (i v : Nat) : State :=
  if 11 < i then s
  else
    let lim := s.railLimits i
    let r := (rd s.mon.rails i).step (s.railWatched i) (decide (lim.1 ≤ v) && decide (v ≤ lim.2)) v s.now
    let s := { s with mon := { s.mon with rails := wr s.mon.rails i r.1 } }
    let s := if r.2.1 then s.raise 0x0104 0x00 i (packBits [(8, i), (32, v / 10)]) else s
    if r.2.2 then s.endCond 0x0104 0x00 i else s

/-- The POR detector of a rail calls for a power-on reset; that of VDD_TILE compares only while the AVS loop is OFF (19 R551,
R562, 20 R590). -/
def State.porCalled (s : State) (i v : Nat) : Bool :=
  decide (i ≤ 11) && decide (v < (railTable.getD i (0, 0)).2) && (i != railTile || decide (s.avs.st = .off))

end Sys2Proof.Machine
end

