-- ==== Sys2Proof/Machine/SerialPorts.lean ====
section
/-!
DEFINITION. Serial audio ports (04 R138 to R144): sample conversion, frames and their assignment to periods, slips, the
states of a port.
-/
namespace Sys2Proof.Machine

/-- A received word of `w` bits as a slot (04 R140). -/
def saRx (w : Nat) (word : DWord) : Slot :=
  let v : Int := if word.getLsbD (w - 1) then ((word.toNat % 2 ^ w : Nat) : Int) - 2 ^ w else (word.toNat % 2 ^ w : Nat)
  BitVec.ofInt 32 (if w = 32 then asr v 7 else v * 2 ^ (25 - w))

/-- The value that a transmitted slot is limited to (04 R140). -/
def saClamp (v : Slot) : Int :=
  if 0x00ffffff < v.toInt then 0x00ffffff else if v.toInt < -0x01000000 then -0x01000000 else v.toInt

/-- A transmitted slot as a word of `w` bits (04 R140). -/
def saTx (w : Nat) (v : Slot) : DWord :=
  let c := saClamp v
  BitVec.ofNat 32 ((BitVec.ofInt 32 (if w = 32 then c * 2 ^ 7 else asr c (25 - w))).toNat % 2 ^ w)

/-- Channel slots of a frame (04 R138). -/
def SaRec.frameSlots (r : SaRec) : Nat :=
  if r.format < 2 then 2
  else let m := max r.chIn r.chOut
    if m ≤ 2 then 2 else if m ≤ 4 then 4 else if m ≤ 8 then 8 else if m ≤ 16 then 16 else 32

/-- The FS high time, in BCLK periods, that a target port takes (04 R139). -/
def SaRec.highOk (r : SaRec) (high : Nat) : Bool :=
  if r.format < 2 then high == 16 * r.frameSlots else decide (1 ≤ high) && decide (high + 1 ≤ 32 * r.frameSlots)

/-- A good frame of a target port (04 R138, R139, R143): its BCLK count, its FS high time, and an FS period within ±1,000 ppm
of the nominal one in ticks of the period timer (assumption log 22; DEDUCED). -/
def SaRec.goodFrame (r : SaRec) (fs : FsMeas) (rate : Nat) : Bool :=
  fs.bclk == 32 * r.frameSlots && r.highOk fs.high &&
    decide (((fs.ticks * rateHz rate : Nat) - 2000000000 : Int).natAbs * 1000 ≤ 2000000000)

/-- The LIVE record of a serial port. -/
def State.saRec (s : State) (port : Nat) : Option SaRec := (s.pl.live.map (fun p => p.saports.find? (fun r => r.port == port))).join

/-- A port's state put into the state. -/
def State.setSap (s : State) (port : Nat) (x : SaSt) : State := { s with sap := wr s.sap port x }

/-- Write a port's receive slots for the present period. -/
def State.saWrite (s : State) (r : SaRec) (vals : List Slot) (sub : Bool) : State :=
  (List.range r.chIn).foldl (fun s i => s.putSlot (r.inSlot + i) (vals.getD i 0) sub) s

/-- A slip counts and is reported (04 R142): `rep` is 1 for a repeat, 0 for a drop. -/
def State.slip (s : State) (port rep : Nat) : State :=
  let x := rd s.sap port
  let x := if rep = 1 then { x with slipRepeat := satAdd 16 x.slipRepeat 1 } else { x with slipDrop := satAdd 16 x.slipDrop 1 }
  (s.setSap port x).report 0x0A01 0xB0 port (packBits [(8, port), (8, rep)])

/-- A phase within 1/32 period of a boundary (04 R142). -/
def phaseNear (q : Nat) : Bool := decide (q < 0x0800) || decide (0xF800 < q)

/-- A time difference in ns as Q0.16 of the period. -/
def phaseOf (ns rate : Nat) : Nat := min (ns * rateHz rate * 65536 / 1000000000) 0xFFFF

/-- DOUT carries 0: the port is not LOCKED, its zone reaction or the engine-wide safe state is in force (04 R143, 14 R422,
R425) (assumption log 23; DEDUCED). -/
def State.saMuted (s : State) (port : Nat) : Bool :=
  let x := rd s.sap port
  decide (x.st ≠ .locked) || x.react || s.flt.engineSafe

/-- The values that a port reads in the present period, with the output mute applied. -/
def State.saRead (s : State) (r : SaRec) : List Slot :=
  (List.range r.chOut).map (fun i => BitVec.ofInt 32 (s.muted (s.slot (r.outSlot + i)).toInt))

/-- The values read in the period that closes are kept for the frames that start just after the boundary (04 R141). -/
def State.saLatch (s : State) : State :=
  ((s.pl.live.map (·.saports)).getD []).foldl (fun s r => s.setSap r.port { (rd s.sap r.port) with txPrev := s.saRead r }) s

/-- A controller's frame edge at `t` belongs to the boundary that opened the present period: it lies within 10 ns after it
(04 R141) (assumption log 22; DEDUCED). -/
def State.saJustAfter (s : State) (r : SaRec) (t : Nat) : Bool :=
  !r.target && s.per.started && decide (s.per.openedAt < t) && decide (t ≤ s.per.openedAt + 10)

/-- A frame starts: it carries the values read in the present period; a controller's frame that starts within 10 ns after the
boundary carries those of the period before (04 R140 to R142) (assumption log 22; DEDUCED). -/
def State.saStart (s : State) (port : Nat) (r : SaRec) (t : Nat) : State :=
  let x := rd s.sap port
  let muted := s.saMuted port
  let vs := if s.saJustAfter r t then x.txPrev else s.saRead r
  let ws := if muted then [] else vs.map (saTx r.wordBits)
  let dout := ws ++ List.replicate (r.frameSlots - ws.length) 0
  let clips := if muted then 0 else (vs.filter (fun v => decide (saClamp v ≠ v.toInt))).length
  let phase := phaseOf (t - s.per.openedAt) s.per.baseRate
  let y := { x with
    dout := dout
    clip := satAdd 32 x.clip clips
    txCount := x.txCount + 1
    txPhase := if r.target then phase else 0
    phaseWarn := x.phaseWarn || (r.target && decide (x.st = .locked) && phaseNear phase) }
  let s := s.setSap port y
  if r.target && decide (x.st = .locked) && decide (0 < x.txCount) then s.slip port 1 else s

/-- The port loses lock (04 R143): receive slots read 0 from the next period, DOUT carries 0 (assumption log 22; DEDUCED). -/
def State.saLoss (s : State) (port : Nat) (r : SaRec) : State :=
  let x := rd s.sap port
  let s := s.setSap port { x with st := .acquire, good := 0, armed := false, rx := [], vals := [],
                                  txPrev := [], dout := [], loss := satAdd 16 x.loss 1 }
  (s.saWrite r [] true).raise 0x0A02 0xB0 port port

/-- The port becomes LOCKED (04 R143): its LOSS condition ends. -/
def State.saLock (s : State) (port : Nat) : State :=
  (s.setSap port { (rd s.sap port) with st := .locked, good := 0 }).endCond 0x0A02 0xB0 port

/-- A received frame is taken: it waits for its assignment at the next boundary; a controller's frame that ends within 10 ns
after the boundary belongs to the period just opened and is written at once (04 R141, R142) (assumption log 22; DEDUCED). -/
def State.saTake (s : State) (port : Nat) (r : SaRec) (x : SaSt) (vals : List Slot) (t : Nat) : State :=
  if s.saJustAfter r t then
    let s := s.setSap port { x with vals := vals }
    if x.react || s.gap then s else s.saWrite r vals false
  else s.setSap port { x with rx := x.rx ++ [(vals, t)] }

/-- FS_OFFSET in its 16 signed bits (04 R144). -/
def fsClamp (x : Int) : Int := max (-0x8000) (min 0x7FFF x)

/-- A frame ends (04 R141 to R143) (assumption log 22; DEDUCED). -/
def State.saEnd (s : State) (port : Nat) (r : SaRec) (words : List DWord) (fs : FsMeas) (t : Nat) : State :=
  let x := rd s.sap port
  let x := { x with fsOffset := if r.target then fsClamp fs.offset else 0 }
  let vals := (words.take r.frameSlots).map (saRx r.wordBits)
  let good := r.goodFrame fs s.per.baseRate
  match x.st with
  | .disabled => s
  | .acquire =>
    if !r.target then (s.saTake port r x vals t).saLock port
    else if !good then s.setSap port { x with good := 0 }
    else if 15 ≤ x.good then (s.saTake port r x vals t).saLock port
    else s.setSap port { x with good := x.good + 1 }
  | .locked => if r.target && !good then (s.setSap port x).saLoss port r else s.saTake port r x vals t

/-- SAPORT_FRAME (04 R142): a frame ends, with its channel words, or starts (assumption log 22; DEDUCED). -/
def State.saFrame (s : State) (port : Nat) (isEnd : Bool) (words : List DWord) (fs : FsMeas) (t : Nat) : State :=
  match s.saRec port with
  | none => s
  | some r =>
    if (rd s.sap port).st = .disabled then s
    else if isEnd then s.saEnd port r words fs t
    else s.saStart port r t

/-- SAPORT_FS_TIMEOUT (04 R143): no FS edge for 4 nominal frame times. -/
def State.saTimeout (s : State) (port : Nat) : State :=
  match s.saRec port with
  | none => s
  | some r => if r.target && decide ((rd s.sap port).st = .locked) then s.saLoss port r else s

/-- A port's assignment of frames at the boundary that opens a period, and its writes of that period (04 R141, R142)
(assumption log 22, 107; DEDUCED, DESIGN CHOICE). -/
def State.saBoundary (s : State) (r : SaRec) : State :=
  let port := r.port
  let x := rd s.sap port
  match x.st with
  | .disabled => s
  | .acquire => (s.setSap port { x with rx := [], txCount := 0, armed := false }).saWrite r [] true
  | .locked =>
    let lastRx := x.rx.getLast?
    let vals := match lastRx with
      | some (v, _) => v
      | none => x.vals
    let rxPhase := match lastRx with
      | some (_, t) => if r.target then phaseOf (s.per.openedAt - t) s.per.baseRate else 0
      | none => x.rxPhase
    let warn := r.target && lastRx.isSome && phaseNear rxPhase
    let gap := s.gap
    let sub := lastRx.isNone || x.react || gap
    let s := s.setSap port { x with
      rx := [], txCount := 0, armed := true, vals := vals, rxPhase := rxPhase, phaseWarn := x.phaseWarn || warn }
    let s := s.saWrite r (if x.react || gap then [] else vals) sub
    if r.target && !gap then
      let s := if 1 < x.rx.length then s.slip port 0 else s
      let s := if x.rx.isEmpty && x.armed then s.slip port 1 else s
      if x.txCount = 0 && x.armed then s.slip port 0 else s
    else s

/-- A port leaves service: DISABLED, its counters and state 0, its LOSS condition ended (04 R143, R144, 14 R412) (assumption
log 22; DEDUCED). -/
def State.saDisable (s : State) (port : Nat) : State := (s.setSap port SaSt.reset).endCond 0x0A02 0xB0 port

/-- The serial ports at a commit (03 R112, 04 R143). -/
def State.saCommit (s : State) (old new : List SaRec) : State :=
  (List.range 8).foldl (fun s i =>
    match new.find? (fun r => r.port == i) with
    | none => if (rd s.sap i).st = .disabled then s else s.saDisable i
    | some r =>
      let kept := old.any (fun o => o.port == i && o.format == r.format && o.target == r.target && o.wordBits == r.wordBits)
      if kept && decide ((rd s.sap i).st ≠ .disabled) then s
      else if !s.domOn 13 then s
      else s.setSap i { (rd s.sap i) with
        st := .acquire, good := 0, armed := false, rx := [], txCount := 0, vals := [], txPrev := [], dout := [] }) s

/-- SAPORT_STATUS (04 R144). -/
def runSaportStatus (_ : Ctx) (port : Nat) (clear : Bool) (s : State) : Done × State :=
  if 7 < port then (.range, s)
  else
    let x := rd s.sap port
    let target := match s.saRec port with
      | some r => r.target
      | none => false
    let own (v : Nat) : Nat := if target then v else 0
    if x.st = .disabled then (.ok [(1, 0), (1, 0), (1, 0), (2, 0), (2, 0), (2, 0), (2, 0), (2, 0), (2, 0), (4, 0)], s)
    else
      let res := [(1, if x.st = .locked then 2 else 1), (1, b2n target), (1, b2n x.phaseWarn),
        (2, own (BitVec.ofInt 16 x.fsOffset).toNat), (2, own x.rxPhase), (2, own x.txPhase), (2, x.slipDrop), (2, x.slipRepeat), (2, x.loss), (4, x.clip)]
      (.ok res, if clear then s.setSap port { x with phaseWarn := false, slipDrop := 0, slipRepeat := 0, loss := 0, clip := 0 } else s)

end Sys2Proof.Machine
end

