-- ==== Sys2Proof/Machine/ExchangeCmds.lean ====
section
/-!
DEFINITION. Commands of the exchange (04 R133 to R137) and the tile report (05 R180, R181).
-/
namespace Sys2Proof.Machine

/-- Bytes written into a host buffer of a port (assumption log 80, 95; DEDUCED, DESIGN CHOICE). -/
def State.hostWrite (s : State) (port : CPort) (addr : Nat) (bytes : List Byte) : State :=
  { s with ports := { s.ports with hostWrites := (port, addr, bytes) :: s.ports.hostWrites } }

/-- The plane whose LATENCY section a command names, or its answer (04 R135). -/
def State.latencyOf (s : State) (plane : Nat) : Except Done (List LatRec) :=
  if 1 < plane then .error .range
  else if plane = 1 && decide (s.pl.st = .writing) then .error (.fail .rejectedState 0x0030)
  else match s.planeArg plane with
    | none => .error (.fail .rejectedState 0x0041)
    | some p => if mem p.sections (0x000E, 0xFFFF) then .ok p.latency else .error (.fail .rejectedState 0x0041)

/-- Least value of a list, or `d` where it is empty. -/
def minOr (l : List Nat) (d : Nat) : Nat := l.foldl min (l.headD d)

/-- PATH_LATENCY (04 R135). -/
def runPathLatency (_ : Ctx) (plane mode path srcKind srcIndex dstKind dstIndex : Nat) (s : State) : Done × State :=
  if 1 < mode then (.range, s)
  else match s.latencyOf plane with
    | .error d => (d, s)
    | .ok rs =>
      let hits := rs.filter (fun r => if mode = 0 then r.path == path
        else r.srcKind == srcKind && r.srcIndex == srcIndex && r.dstKind == dstKind && r.dstIndex == dstIndex)
      if hits.isEmpty then (.fail .rejectedArgs 0x0040, s)
      else
        let prevs := (hits.map (·.prev)).filter (· != 0xFFFFFFFF)
        (.ok [(2, hits.length), (2, minOr (hits.map (·.path)) 0), (4, minOr (hits.map (·.latency)) 0),
          (4, (hits.map (·.latency)).foldl max 0), (4, minOr prevs 0xFFFFFFFF),
          (4, if prevs.isEmpty then 0xFFFFFFFF else prevs.foldl max 0)], s)

/-- The 16 bytes of a LATENCY record (03 R97). -/
def LatRec.bytes (r : LatRec) : List Byte :=
  leBytes 2 r.path ++ leBytes 1 r.srcKind ++ leBytes 1 r.dstKind ++ leBytes 2 r.srcIndex ++ leBytes 2 r.dstIndex ++
  leBytes 4 r.latency ++ leBytes 4 r.prev

/-- Records in rising order of PATH_ID. -/
def byPath (rs : List LatRec) : List LatRec := (rs.foldl (fun l r => insertKey l r.path r) []).map (·.2)

/-- PATH_LATENCY_DUMP (04 R136). -/
def runPathLatencyDump (c : Ctx) (plane addr len : Nat) (s : State) : Done × State :=
  if noBuf c.port then (.argPtr, s)
  else if len < 16 then (.range, s)
  else match s.latencyOf plane with
    | .error d => (d, s)
    | .ok rs =>
      let out := (byPath rs).take (len / 16)
      (.ok [(4, out.length), (4, rs.length)], s.hostWrite c.port addr (out.flatMap LatRec.bytes))

/-- The writer kind of a slot under a plane (04 R124). -/
def Plane.writerKind (p : Plane) (slot : Nat) : Nat :=
  let run (a n : Nat) : Bool := decide (a ≤ slot) && decide (slot < a + n)
  if p.streams.any (fun r => r.rx && run r.first r.channels) then 1
  else if p.saports.any (fun r => run r.inSlot r.chIn) then 2
  else if p.modulators.any (fun r => r.csSlot == slot || r.vsSlot == slot) then 3
  else if p.tiles.any (fun t => t.2.scatter.any (fun e => e.slot == slot)) then 4
  else if p.sums.any (fun r => r.out == slot) then 5
  else if p.lines.any (fun r => r.out == slot) then 6
  else if p.routes.any (fun r => r.dst == slot) then 7
  else 0

/-- SLOT_PEEK (04 R137). -/
def runSlotPeek (_ : Ctx) (slot : Nat) (s : State) : Done × State :=
  if slotCount s.per.baseRate ≤ slot then (.fail .rejectedArgs 0, s)
  else (.ok [(4, (s.slot slot).toNat), (4, s.per.mediaTime % 2 ^ 32), (1, (s.pl.live.map (·.writerKind slot)).getD 0)], s)

/-- TILE_REPORT (05 R180, R181): checked, then it waits for parked intervals (assumption log 91; DEDUCED). -/
def runTileReport (c : Ctx) (k first count addr : Nat) (s : State) : Done × State :=
  if addr ≠ 0 && noBuf c.port then (.argPtr, s)
  else if 67 < k || 1023 < first || count = 0 || 1024 < first + count || (addr = 0 && 4 < count) then (.range, s)
  else
    let t := s.tile (s.carrierOf k)
    match t.run with
    | .absent => (.fail .rejectedState 0x0050, s)
    | .cold => (.fail .rejectedState 0x0050, s)
    | _ => (.later, { s with treps := s.treps ++ [⟨c.port, c.handle, k, first, count, addr, [], 0, 0, decide (t.run = .parked)⟩] })

/-- One report at the end of a parked interval: 64 words are copied; the command completes with the last ones (assumption log
91; DEDUCED). -/
def State.stepReport (s : State) (r : TileRep) : State :=
  let t := s.tile (s.carrierOf r.k)
  if t.run ≠ .parked then { s with treps := s.treps ++ [r] }
  else if r.skip then { s with treps := s.treps ++ [{ r with skip := false }] }
  else
    let done := r.words.length
    let n := min 64 (r.count - done)
    let words := r.words ++ (List.range n).map (fun i => t.word .y (BitVec.ofNat 14 (0x3C00 + r.first + done + i)))
    let r := { r with words := words, span := r.span + 1, firstMt := if r.span = 0 then s.per.mediaTime % 2 ^ 32 else r.firstMt }
    if words.length < r.count then { s with treps := s.treps ++ [r] }
    else
      let bytes := words.flatMap (fun w => leBytes 4 w.toNat)
      let s := if r.addr = 0 then s else s.hostWrite r.port r.addr bytes
      s.complete r.port r.handle .ok 0
        (leBytes 2 r.count ++ leBytes 2 r.span ++ leBytes 4 r.firstMt ++ (if r.addr = 0 then bytes else []))

/-- The reports in progress at the boundary that closes a period. -/
def State.stepReports (s : State) : State := s.treps.foldl (fun s r => s.stepReport r) { s with treps := [] }

end Sys2Proof.Machine
end

