-- ==== Sys2Proof/Machine/Timebase.lean ====
section
/-!
DEFINITION. The timebase (11 R317 to R320) and the steered clock's frequency (12 R361, R367).
-/
namespace Sys2Proof.Machine

/-- The timebase as it ran at time `t`: before its last step or change of increment, as it ran then (11 R320). -/
def Timebase.ran (b : Timebase) (t : Nat) : Timebase :=
  if b.at_ ≤ t then b
  else match b.past.find? (fun x => decide (x.1 ≤ t)) with
    | some x => { b with at_ := x.1, val := x.2.1, res := x.2.2.1, inc := x.2.2.2.1, step := x.2.2.2.2 }
    | none => b

/-- The timebase at time `t`. -/
def Timebase.advance (b : Timebase) (t : Nat) : Timebase :=
  let b := b.ran t
  let d := (t - b.at_) * b.inc
  { b with at_ := max t b.at_, val := b.val + d, res := b.res + d }

/-- The timebase brought to time `t` for a step or a change of increment; how it ran before is kept for stamping points that
lie back by less than a frame (11 R318, R320) (assumption log 52; DEDUCED). -/
def Timebase.turn (b : Timebase) (t : Nat) : Timebase :=
  { b.advance t with past := (b.at_, b.val, b.res, b.inc, b.step) :: b.past.take 63 }

/-- A stamp at time `t`, `sub` 64ths of a ns after the tick, moved by `cal` (2^-16 ns); bits of FRAC below 1/64 ns are 0 (11
R320, R326, R328). -/
def Timebase.stamp (b : Timebase) (t sub : Nat) (cal : Int) : Stamp :=
  let b := b.advance t
  let v : Int := (b.val / 2 ^ 32 + (sub : Int) * 1024 + cal) / 1024 * 1024
  let r : Int := (((b.res / 2 ^ 32 : Nat) : Int) + (sub : Int) * 1024 + cal) / 1024 * 1024
  { sec := (v / (1000000000 * 65536)).toNat % 2 ^ 64, ns := ((v / 65536) % 1000000000).toNat, frac := (v % 65536).toNat,
    res := (r % 2 ^ 64).toNat, step := b.step }

/-- A stamp of a tick, with the full 16 bits of FRAC. -/
def Timebase.tick (b : Timebase) (t : Nat) : Stamp :=
  let b := b.advance t
  let v : Int := b.val / 2 ^ 32
  { sec := (v / (1000000000 * 65536)).toNat % 2 ^ 64, ns := ((v / 65536) % 1000000000).toNat, frac := (v % 65536).toNat,
    res := (b.res / 2 ^ 32) % 2 ^ 64, step := b.step }

/-- SEC of the timebase at the present time. -/
def State.tbSec (s : State) : Nat := (s.ts.tb.tick s.now).sec

/-- The mean of a list, rounded down (assumption log 24; DESIGN CHOICE). -/
def meanI (l : List Int) : Int := if l.isEmpty then 0 else l.foldl (· + ·) 0 / (l.length : Int)

/-- The selector follows a candidate. -/
def Ref.following (r : Ref) : Bool := decide (r.st = .pullin ∨ r.st = .locked)

/-- The steered clock runs at a frequency within its range, in ppt (12 R361). -/
def State.setFreq (s : State) (f : Int) : State :=
  let tb := s.ts.tb.turn s.now
  { s with ref := { s.ref with freqPpt := f }
           ts := { s.ts with tb := { tb with inc := (2 ^ 48 + 2 ^ 48 * f / 10 ^ 12).toNat } } }

/-- Hardware holdover: the DPLL holds its mean frequency over the last 1 s (12 R367). -/
def State.hwHoldover (s : State) : State :=
  let r := s.ref
  if !r.following || r.cpHold then s
  else
    let f := if r.freqHist.isEmpty then r.freqPpt else meanI r.freqHist
    ({ s with ref := { r with cpHold := true, integ := f * 65536 } } : State).setFreq f

end Sys2Proof.Machine
end

