-- ==== Sys2Proof/Machine/NetOps.lean ====
section
/-!
DEFINITION. Lanes and switch operations (09): frame fields, queues, link exits, forwarding lookups.
-/
namespace Sys2Proof.Machine

/-- A lane. -/
def State.lane (s : State) (i : Nat) : Lane := rd s.net.lanes i
/-- The state with a lane replaced. -/
def State.setLane (s : State) (i : Nat) (l : Lane) : State := { s with net := { s.net with lanes := wr s.net.lanes i l } }
/-- The zone of a lane (01 R17). -/
def laneZone (i : Nat) : Nat := 0x10 + i
/-- The domain of a lane (01 R17). -/
def laneDomain (i : Nat) : Nat := if i < 4 then 3 else 4
/-- A counter of a lane counts `n` (09 R276). -/
def Lane.count (l : Lane) (ix : Nat) (n : Nat := 1) : Lane := { l with counters := upd l.counters ix (fun v => satAdd 64 v n) }
/-- A counter of lane `i` counts `n`. -/
def State.countLane (s : State) (i ix : Nat) (n : Nat := 1) : State := s.setLane i ((s.lane i).count ix n)

/-! Frame fields. -/

/-- Big-endian field of a frame. -/
def befld (b : List Byte) (o n : Nat) : Nat := beNat (slice b o n)

/-- The Ethernet fields of a frame (09 R260). -/
structure EthInfo where
  da : Nat
  sa : Nat
  tagged : Bool
  pcp : Nat
  vid : Nat
  etherType : Nat
  /-- Offset of the first byte after the EtherType. -/
  pay : Nat
  deriving DecidableEq, Repr

/-- Read the Ethernet header. -/
def ethInfo (b : List Byte) : EthInfo :=
  let tag := befld b 12 2 == 0x8100
  { da := befld b 0 6, sa := befld b 6 6, tagged := tag, pcp := if tag then bits (befld b 14 2) 13 3 else 0,
    vid := if tag then bits (befld b 14 2) 0 12 else 0, etherType := if tag then befld b 16 2 else befld b 12 2,
    pay := if tag then 18 else 14 }

/-- A group address. -/
def isGroup (mac : Nat) : Bool := bit mac 40

/-! Queues (09 R269 to R272). -/

/-- Cells that a stored frame takes from the shared pool: it is stored once, so the largest share of its queues (assumption
log 20; DEDUCED). -/
def Stored.poolCells (x : Stored) : Nat := (x.charges.map (·.pool)).foldl max 0
/-- Cells taken from a queue's reserve (assumption log 20; DEDUCED). -/
def Net.rsvUsed (n : Net) (ix : Nat) : Nat :=
  ((n.stored.flatMap (·.charges)).map (fun c => if c.ix = ix then c.rsv else 0)).sum
/-- Occupancy of a queue in cells (assumption log 20; DEDUCED). -/
def Net.occ (n : Net) (ix : Nat) : Nat :=
  ((n.stored.flatMap (·.charges)).map (fun c => if c.ix = ix then c.rsv + c.pool else 0)).sum
/-- Cells taken from the shared pool (assumption log 20; DEDUCED). -/
def Net.poolUsed (n : Net) : Nat := (n.stored.map Stored.poolCells).sum
/-- All queues. -/
def Net.allQueues (n : Net) : List Queue := n.queues.toList.flatMap (·.toList)
/-- The shared pool (assumption log 20; DEDUCED). -/
def Net.pool (n : Net) : Nat := 32768 - (n.allQueues.map (·.rsv)).sum
/-- Queue `q` of port `port`. -/
def Net.queue (n : Net) (port q : Nat) : Queue := rd (n.queues[port]?.getD (Vector.replicate 8 (Queue.reset 0))) q
/-- A queue replaced. -/
def Net.setQueue (n : Net) (port q : Nat) (x : Queue) : Net :=
  { n with queues := wr n.queues port (wr (n.queues[port]?.getD (Vector.replicate 8 (Queue.reset 0))) q x) }

/-- The cells a copy takes in a queue: of the reserve while it has room, the rest of the pool, if the occupancy stays at or
below QMAX and the pool has the cells that the frame does not hold yet; none where it is dropped (09 R270) (assumption log
20; DEDUCED). -/
def Net.charge (n : Net) (port q : Nat) (f : Frame) : Option Charge :=
  let x := n.queue port q
  let ix := port * 8 + q
  let r := min f.cells (x.rsv - n.rsvUsed ix)
  let p := f.cells - r
  let held := ((n.stored.find? (fun e => e.id == f.id)).map Stored.poolCells).getD 0
  if p = 0 || (decide (n.occ ix + f.cells ≤ x.qmax) && decide (n.poolUsed + (p - held) ≤ n.pool)) then some ⟨ix, r, p⟩ else none

/-- Whether a copy's cells can be taken (09 R270) (assumption log 20; DEDUCED). -/
def Net.admits (n : Net) (port q : Nat) (f : Frame) : Bool := (n.charge port q f).isSome

/-- A copy takes its cells: the frame is stored once (09 R269) (assumption log 20; DEDUCED). -/
def Net.store (n : Net) (id : Nat) (c : Charge) : Net :=
  if n.stored.any (fun e => e.id == id) then
    { n with stored := n.stored.map (fun e => if e.id == id then { e with charges := e.charges ++ [c], left := e.left + 1 } else e) }
  else { n with stored := n.stored ++ [⟨id, [c], 1⟩] }

/-- A copy has left: the frame's cells are freed after the last one (09 R269) (assumption log 20; DEDUCED). -/
def Net.release (n : Net) (f : Frame) : Net :=
  if f.cut || f.hb then n
  else { n with stored := n.stored.filterMap (fun e =>
    if e.id == f.id then (if e.left ≤ 1 then none else some { e with left := e.left - 1 }) else some e) }

/-- Whether a frame of ingress `a` comes before one of ingress `b` in the round-robin order after ingress `rr` (09 R271)
(assumption log 110; DEDUCED). -/
def rrBefore (rr a b : Nat) : Bool := decide ((a + 9 - rr) % 10 < (b + 9 - rr) % 10)

/-- A frame put into a queue by the time of its first byte; frames of one time go round-robin by ingress after the frame
before them, `rr` being its ingress (09 R271) (assumption log 110; DEDUCED). -/
def insertFrame (rr : Nat) : List Frame → Frame → List Frame
  | [], f => [f]
  | g :: r, f =>
    if g.first < f.first then g :: insertFrame g.ingress r f
    else if f.first < g.first || rrBefore rr f.ingress g.ingress then f :: g :: r
    else g :: insertFrame rr r f

/-- The oldest frame of the highest-numbered non-empty queue of a port, and the queues without it (09 R271). -/
def Net.takeNext (n : Net) (port : Nat) : Option (Frame × Net) :=
  ((List.range 8).map (fun i => 7 - i)).findSome? (fun q =>
    let x := n.queue port q
    match x.frames with
    | [] => none
    | f :: r => some (f, n.setQueue port q { x with frames := r, rr := f.ingress }))

/-! Heartbeats sent (09 R253, R254). -/

/-- The bytes of a heartbeat of a lane, without the FCS (09 R253, 00 R9). -/
def State.heartbeatBytes (s : State) (i : Nat) : List Byte :=
  let l := s.lane i
  beBytes 6 s.net.hbDa ++ beBytes 6 s.net.nodeMac ++ beBytes 2 s.net.etherType ++ [0xF0#8, 1#8] ++ beBytes 2 (s.nodeId % 4096) ++
  beBytes 1 (i % 8) ++ beBytes 1 (b2n (decide (l.missRun < 3))) ++ beBytes 2 l.hbSeq ++ beBytes 2 (l.lastRxSeq.getD 0) ++
  List.replicate 36 0#8

/-- A heartbeat frame. -/
def State.heartbeatFrame (s : State) (i : Nat) : Frame :=
  { (default : Frame) with bytes := s.heartbeatBytes i, ingress := i, first := s.now, hb := true }

/-- A heartbeat of the lane is due: HB_EN, and 3.96 µs have passed since the start of the last one (09 R254). -/
def State.hbDue (s : State) (i : Nat) : Bool :=
  let l := s.lane i
  l.cfg.hbEn && decide (l.st = .up ∨ l.st = .probing) && (match l.hbAt with
    | none => true
    | some t => decide (t + 3960 ≤ s.now))

/-- A lane in an inter-frame gap starts its next frame: a heartbeat that is due goes ahead of every queue; the frames of the
queues need a lane that is UP (09 R254, R271). -/
def State.kick (s : State) (port : Nat) : State :=
  let l := s.lane port
  if l.inTx.isSome then s
  else if s.hbDue port then
    s.setLane port { l with inTx := some (s.heartbeatFrame port), hbSeq := (l.hbSeq + 1) % 65536, hbAt := some s.now }
  else if l.st = .up then
    match s.net.takeNext port with
    | none => s
    | some (f, n) => { s with net := n }.setLane port { l with inTx := some f }
  else s

/-- A frame's identity is taken. -/
def Net.named (n : Net) (f : Frame) : Net := { n with nextId := max n.nextId (f.id + 1) }

/-- A copy can enter an egress queue: the switch is on, the lane is UP, and its cells can be taken (09 R256, R270). -/
def State.takes (s : State) (port q : Nat) (f : Frame) : Bool :=
  s.domOn 5 && !(decide (port < 8) && decide ((s.lane port).st ≠ .up)) && s.net.admits port q f

/-- A copy enters an egress queue, or is dropped and counted (09 R256, R270); with the switch off there is no queue (01 R19)
(assumption log 20; DEDUCED). -/
def State.enqueue (s : State) (port q : Nat) (f : Frame) : State :=
  if !s.domOn 5 then s
  else if port < 8 && decide ((s.lane port).st ≠ .up) then s.countLane port 14
  else
    let x := s.net.queue port q
    match s.net.charge port q f with
    | some c =>
      let n := (s.net.setQueue port q { x with frames := insertFrame x.rr x.frames { f with queue := q, cut := false } }).store f.id c
      let s := { s with net := n.named f }
      if port < 8 then s.kick port else s
    | none => { s with net := s.net.setQueue port q { x with drops := satAdd 64 x.drops 1 } }

/-- The queue of a forwarded frame (09 R272). -/
def Lane.queueOf (l : Lane) (entry : Nat) (i : EthInfo) : Nat :=
  if entry < 8 then entry else rd l.cfg.pcpMap (if i.tagged then i.pcp else l.cfg.defaultPcp)

/-! Link exits (09 R257, R258, R268). -/

/-- Lookups to a lane go to its backup (09 R268). -/
def Lane.rerouted (l : Lane) : Bool := l.backup.isSome && (l.frrActive || decide (l.st ≠ .up))

/-- The copies that wait for a lane or leave it are gone (09 R257): the frame in transmission is aborted, queued ones count in
QDROP. -/
def Net.flushLane (n : Net) (i : Nat) (inTx : Option Frame) : Net :=
  let n := match inTx with | none => n | some f => n.release f
  turns 8 n (fun q n =>
    let x := n.queue i q
    let n := n.setQueue i q { x with frames := [], drops := satAdd 64 x.drops x.frames.length }
    x.frames.foldl (fun n f => n.release f) n)

/-- A lane leaves UP at the present time, with the exit cause of 14 R412: misses, PEER_RX 0 or PCS lock; a command or a domain
that takes it away counts as PCS lock. Without any lane UP, port C's path is down (15 R488) (assumption log 76, 111; DEDUCED). -/
def State.leaveUp (s : State) (i : Nat) (next : LinkSt) (cause : Nat) : State :=
  let l := s.lane i
  if l.st = .up then
    let times := l.exitTimes.filter (fun u => decide (s.now < u + 1000000000)) ++ [s.now]
    let l := ({ l with
      st := next, inTx := none, exits := satAdd 16 l.exits 1, exitTimes := times, lastExit := s.now
      damped := l.damped || decide (4 ≤ times.length), goodRun := 0, frrActive := l.backup.isSome }).count 19
    let net := s.net.flushLane i (s.lane i).inTx
    let net := { net with macTbl := net.macTbl.filter (fun e => e.static_ || e.mask != 2 ^ i || l.backup.isSome) }
    let s := ({ s with net := net }.setLane i l).event 7
    let s := s.raise 0x0401 (laneZone i) i cause
    if (List.range 8).any (fun j => decide ((s.lane j).st = .up)) then s else s.raise 0x0B01 0xC2 0xFFFF 2
  else s.setLane i { l with st := next, goodRun := 0, inTx := if next = .probing then l.inTx else none }

/-- A lane enters UP (09 R256): its NET_LINK condition ends (assumption log 76; DEDUCED). -/
def State.enterUp (s : State) (i : Nat) : State :=
  let l := s.lane i
  (((s.setLane i { l with st := .up, upSince := s.now }).endCond 0x0401 (laneZone i) i).endCond 0x0B01 0xC2 0xFFFF).event 7

/-- A lane is disabled (09 R256). -/
def State.disableLane (s : State) (i : Nat) : State :=
  let s := (s.leaveUp i .disabled 2).endCond 0x0401 (laneZone i) i
  s.setLane i { (s.lane i) with pcsLock := false, search := false, mode := 3, missRun := 3, peerSeen := false, hbAt := none }

/-- A lane starts its PCS, or the rate search (09 R251, R256). -/
def State.startLane (s : State) (i : Nat) : State :=
  let l := s.lane i
  if l.cfg.enable && s.domOn (laneDomain i) then
    let search := l.cfg.mode == 3
    s.setLane i { l with st := .down, pcsLock := false, search := search, mode := if search then 0 else l.cfg.mode,
                         fec := if search then 0 else l.cfg.fec, missRun := 3, goodRun := 0 }
  else s

/-! Lookups (09 R262 to R268). -/

/-- Lanes of a mask, without the ingress. -/
def maskLanes (mask ingress : Nat) : List Nat := (List.range 8).filter (fun p => bit mask p && p != ingress)

/-- The stream-table entry of a frame (09 R262). -/
def Net.streamEntry (n : Net) (id ingress : Nat) : Option StreamEnt :=
  match n.streamTbl.find? (fun e => e.id == id && e.ingress == ingress) with
  | some e => some e
  | none => n.streamTbl.find? (fun e => e.id == id && e.ingress == 0xFF)

/-- The lane that a MAC lookup giving `p` gives under fast reroute (09 R268). -/
def State.reroute (s : State) (p ingress : Nat) : Option Nat :=
  let l := s.lane p
  match l.backup with
  | some b => if l.rerouted then (if b = ingress then none else some b) else some p
  | none => some p

/-- Egress ports of a frame forwarded by the MAC table: lanes and PC (9), with the entry's queue; none where it is flooded
to nobody (09 R264, R265, R268). -/
def State.macLookup (s : State) (i : EthInfo) (ingress : Nat) : Option (List Nat × Nat) :=
  let hit := s.net.macTbl.find? (fun e => e.mac == i.da && e.vid == i.vid && (e.static_ || !isGroup i.da))
  match hit with
  | some e =>
    let lanes := (maskLanes e.mask 8).filterMap (fun p => if p = ingress then none else s.reroute p ingress)
    some (lanes.eraseDups ++ (if bit e.mask 8 then [9] else []), e.queue)
  | none =>
    let lanes := (List.range 8).filter (fun p => p != ingress && decide ((s.lane p).st = .up) && (s.lane p).cfg.floodEn)
    if lanes.isEmpty then none else some (lanes, 0xFF)

/-- Learning (09 R264). -/
def State.learn (s : State) (i : EthInfo) (lane : Nat) : State :=
  let n := s.net
  if !(s.lane lane).cfg.learnEn || n.macTbl.any (fun e => e.static_ && e.mac == i.sa && e.vid == i.vid) then s
  else if n.macTbl.any (fun e => e.mac == i.sa && e.vid == i.vid) then
    { s with net := { n with macTbl := n.macTbl.map (fun e =>
        if e.mac == i.sa && e.vid == i.vid then { e with mask := 2 ^ lane, refreshed := s.now } else e) } }
  else if 8192 ≤ n.macTbl.length then { s with net := { n with learnFull := satAdd 64 n.learnFull 1 } }
  else { s with net := { n with macTbl := n.macTbl ++ [⟨i.sa, i.vid, false, 2 ^ lane, 0xFF, s.now⟩] } }

/-- Whether a copy can be cut through to lane `e` (09 R273) (assumption log 110; DEDUCED). -/
def State.cuts (s : State) (ingress e : Nat) : Bool :=
  let a := s.lane ingress
  let b := s.lane e
  a.mode == b.mode && decide (a.mode ≤ 1) && a.fec == 0 && b.fec == 0 && decide (b.st = .up) && b.inTx.isNone &&
  (List.range 8).all (fun q => (s.net.queue e q).frames.isEmpty)

/-- The copy that claimed lane `e` by cut-through in the same cycle, where the round-robin of ingress lanes gives the lane to
`f` instead: both frames had their first byte at one time (09 R273) (assumption log 110; DEDUCED). -/
def State.outclaims (s : State) (ingress e : Nat) (f : Frame) : Option Frame :=
  let b := s.lane e
  match b.inTx with
  | none => none
  | some g =>
    if g.cut && g.first == f.first && rrBefore b.cutRr ingress g.ingress &&
        (s.setLane e { b with inTx := none }).cuts ingress e then some g else none

/-- One copy of a frame for an egress: cut through, stored, or, for a faulty frame, nothing (09 R259, R273). -/
def State.forwardCopy (s : State) (ingress e q : Nat) (f : Frame) (faulty : Bool) : State :=
  let cut : Frame := { f with stomp := faulty, queue := q, cut := true }
  if e < 8 && s.domOn 5 && s.cuts ingress e then
    let l := (s.lane e).count 12
    ({ s with net := s.net.named f } : State).setLane e { l with inTx := some cut }
  else match if e < 8 && s.domOn 5 then s.outclaims ingress e f else none with
    | some g =>
      let s := ({ s with net := s.net.named f } : State).setLane e { (s.lane e) with inTx := some cut }
      if g.stomp then s else s.enqueue e g.queue g
    | none => if faulty then s else s.enqueue e q f

end Sys2Proof.Machine
end

