-- ==== Sys2Proof/Machine/Ptp.lean ====
section
/-!
DEFINITION. PTP messages (11 R330 to R338): recognition, handling by mode, time fields of departing frames, transmit reports.
-/
namespace Sys2Proof.Machine

/-- A lane of the time-stamp unit. -/
def State.tsLane (s : State) (i : Nat) : TsLane := rd s.ts.lanes i
/-- The state with a lane of the time-stamp unit replaced. -/
def State.setTsLane (s : State) (i : Nat) (l : TsLane) : State := { s with ts := { s.ts with lanes := wr s.ts.lanes i l } }

/-- CAL_RX and CAL_TX in force on a lane (11 R328, R338). -/
def State.calOf (s : State) (i : Nat) : Int × Int :=
  let m := (s.lane i).mode
  if m < 3 then (rd (s.tsLane i).calRx m, rd (s.tsLane i).calTx m) else (0, 0)

/-- Offset of the UDP header of an IPv4 or IPv6 UDP frame (11 R330). -/
def udpOff (b : List Byte) : Option Nat :=
  let i := ethInfo b
  if i.etherType = 0x0800 then
    let ihl := (befld b i.pay 1 % 16) * 4
    if befld b i.pay 1 / 16 = 4 && befld b (i.pay + 9) 1 = 17 && befld b (i.pay + 6) 2 &&& 0x3FFF == 0 && decide (20 ≤ ihl)
    then some (i.pay + ihl) else none
  else if i.etherType = 0x86DD then
    if befld b i.pay 1 / 16 = 6 && befld b (i.pay + 6) 1 = 17 then some (i.pay + 40) else none
  else none

/-- The offset of the PTP header of an identified message on a lane (11 R330); none for an ordinary frame (assumption log
112; PRESUMED). -/
def State.ptpHeader (s : State) (lane : Nat) (b : List Byte) : Option Nat :=
  let l := s.tsLane lane
  let i := ethInfo b
  let off : Option Nat :=
    if i.etherType = 0x88F7 then (if l.cfg.mapEth then some i.pay else none)
    else match udpOff b with
      | none => none
      | some u =>
        let port := befld b (u + 2) 2
        let en := if i.etherType = 0x0800 then l.cfg.mapIpv4 else l.cfg.mapIpv6
        if en && (port == 319 || port == 320) then some (u + 8) else none
  match off with
  | none => none
  | some o =>
    let mt := befld b o 1 % 16
    if l.cfg.ptpEn && l.stampValid && decide (s.ts.ptp.mode ≠ 0) && befld b (o + 1) 1 % 16 == 2 && (mt ≤ 3 || (8 ≤ mt && mt ≤ 13))
    then some o else none

/-- A frame that carries a PTP message in one of the mappings of 11 R330. -/
def isPtp (b : List Byte) : Bool :=
  (ethInfo b).etherType == 0x88F7 || (match udpOff b with
    | none => false
    | some u => befld b (u + 2) 2 == 319 || befld b (u + 2) 2 == 320)

/-- The lane measures its link by peer delay: on every lane in P2P_TC, on none in E2E_TC, else as it is set (11 R339)
(assumption log 18; DEDUCED). -/
def State.peerDelay (s : State) (lane : Nat) : Bool :=
  match s.ts.ptp.mode with
  | 4 => true
  | 3 => false
  | _ => (s.tsLane lane).cfg.p2p

/-- A report entry as the control processor reads it (11 R336). -/
def reportBytes (x : Stamp × Nat × Nat) : List Byte :=
  leBytes 6 x.1.sec ++ leBytes 4 x.1.ns ++ leBytes 2 x.1.frac ++ leBytes 1 x.1.step ++ [0#8] ++ leBytes 2 x.2.1 ++
  leBytes 2 x.2.2 ++ List.replicate 6 0#8

/-- The firmware reads `n` entries of a lane's report FIFO, in order (11 R336). -/
def State.readReports (s : State) (lane n : Nat) : State :=
  let l := s.tsLane lane
  match (l.fifo.take n).getLast? with
  | none => s
  | some x => s.setTsLane lane { l with fifo := l.fifo.drop n, lastRead := reportBytes x }

/-- The ingress stamp of a Pdelay_Req that the firmware takes is kept by its sequenceId (11 R329, R333) (assumption log 18;
DEDUCED). -/
def State.noteReq (s : State) (lane : Nat) (f : Frame) : State :=
  match s.ptpHeader lane f.bytes, f.stamp with
  | some off, some st =>
    if befld f.bytes off 1 % 16 = 2 then
      let l := s.tsLane lane
      s.setTsLane lane { l with reqs := ((befld f.bytes (off + 30) 2, st) :: l.reqs).take 16 }
    else s
  | _, _ => s

/-- The level code of a clockClass (12 R351). -/
def classLevel (c : Nat) : Nat :=
  if c = 6 || c = 7 then 0 else if c = 13 || c = 14 then 1 else if c = 52 || c = 58 || c = 187 || c = 193 then 2
  else if c = 255 then 0xF else 3

/-- What the firmware's IEEE 1588 engine decides from a message (11 R339, 12 R349, R351) (assumption log 16, 18; DESIGN
CHOICE, DEDUCED). -/
def State.ptpFirmware (s : State) (lane : Nat) (fw : Option PtpFw) : State :=
  match fw with
  | none => s
  | some w =>
    let tc := decide (3 ≤ s.ts.ptp.mode)
    let slave := w.portState == 9
    let s := s.readReports lane w.reads
    let s := s.setTsLane lane { (s.tsLane lane) with
      portState := if tc then 0 else w.portState % 10
      meanDelay := w.meanDelay
      linkDelay := if s.peerDelay lane then w.meanDelay % 2 ^ 32 else (s.tsLane lane).linkDelay
      offset := if slave then w.offset else 0
      clockClass := w.clockClass }
    { s with ref := { s.ref with cand := upd s.ref.cand lane (fun c => { c with rxQl := classLevel w.clockClass }) } }

/-- A PTP message for PC (11 R331, R341, R342): the firmware takes it, or it waits while the control processor is paused. In OC
and BC the firmware discards messages of other domains (assumption log 18; DEDUCED). -/
def State.ptpToPc (s : State) (lane : Nat) (f : Frame) (off : Nat) (fw : Option PtpFw) : State :=
  if !s.pwr.cpRunning then s.enqueue 9 ((s.lane lane).queueOf 0xFF (ethInfo f.bytes)) { f with ptp := true }
  else if s.ts.ptp.mode ≤ 2 && befld f.bytes (off + 4) 1 != s.ts.ptp.domain then s
  else
    let s := s.noteReq lane f
    let l := s.tsLane lane
    let delayReq := befld f.bytes off 1 % 16 == 1 && l.portState == 6
    if delayReq then
      let sec := s.now / 1000000000
      let n := if l.delayReqSec = sec then l.delayReqs else 0
      if 2048 ≤ n then s.setTsLane lane { l with delayReqSec := sec, delayReqs := n, delayReqDrop := satAdd 32 l.delayReqDrop 1 }
      else (s.setTsLane lane { l with delayReqSec := sec, delayReqs := n + 1 }).ptpFirmware lane fw
    else s.ptpFirmware lane fw

/-- Forward a PTP message by the MAC table and by flooding, never to the ingress lane nor to a lane that carries no PTP (11 R331,
R343). -/
def State.ptpForward (s : State) (lane : Nat) (f : Frame) (faulty : Bool) : State :=
  let i := ethInfo f.bytes
  match s.macLookup i lane with
  | none => if faulty then s else s.countLane lane 9
  | some (ports, q) => (ports.filter (fun p => decide (p < 8) && (s.tsLane p).stampValid)).foldl (fun s p =>
      s.forwardCopy lane p ((s.lane lane).queueOf q i) f faulty) s

/-- An identified PTP message on an UP lane (11 R329, R331, R334) (assumption log 112; PRESUMED). -/
def State.ptpHandle (s : State) (lane off : Nat) (f : Frame) (st : Stamp) (fw : Option PtpFw) (faulty : Bool) : State :=
  let mt := befld f.bytes off 1 % 16
  let event := decide (mt ≤ 3)
  let l := s.tsLane lane
  let s := if event && !faulty then s.setTsLane lane { l with rxEvent := satAdd 32 l.rxEvent 1 } else s
  let da := (ethInfo f.bytes).da
  let pc (s : State) : State := if faulty then s else s.ptpToPc lane { f with stamp := if event then some st else none } off fw
  let mode := s.ts.ptp.mode
  let drop (s : State) : State :=
    if faulty then s else s.setTsLane lane { (s.tsLane lane) with e2eDrop := satAdd 32 (s.tsLane lane).e2eDrop 1 }
  let corr (link : Nat) : Frame := { f with op := .residence (off + 8) st.res link }
  if mode ≤ 2 || da = 0x0180C200000E || da = s.net.nodeMac then pc s
  else match mt with
    | 0 => pc (s.ptpForward lane (corr (if mode = 4 then l.linkDelay else 0)) faulty)
    | 1 => if mode = 4 then drop s else s.ptpForward lane (corr 0) faulty
    | 2 => pc s
    | 3 => pc s
    | 10 => pc s
    | 9 => if mode = 4 then drop s else s.ptpForward lane f faulty
    | _ => pc (s.ptpForward lane f faulty)

/-! Departing frames (11 R332 to R337). -/

/-- The end-around sum of 16-bit words, folded. -/
def fold16 (v : Nat) : Nat := if v = 0 then 0 else (v - 1) % 65535 + 1

/-- The sum of the big-endian 16-bit words of bytes, an odd last byte padded with 0. -/
def sum16 (b : List Byte) : Nat := ((List.range ((b.length + 1) / 2)).map (fun i => befld b (2 * i) 2)).sum

/-- A UDP checksum updated incrementally from the old to the new bytes, as RFC 1624 gives (11 R335). -/
def udpUpdate (old new : List Byte) : List Byte :=
  match udpOff old with
  | none => new
  | some u =>
    let hc := befld old (u + 6) 2
    let v4 := (ethInfo old).etherType == 0x0800
    if v4 && hc == 0 then new
    else
      let words := (old.drop u).length / 2 + 1
      let m := sum16 (old.drop u)
      let m' := sum16 (new.drop u)
      splice new (u + 6) (beBytes 2 (65535 - fold16 ((65535 - hc) + (65535 * words - m) + m')))

/-- An addition to a correctionField, which saturates (11 R332): the new field, and whether the addition saturated. -/
def addCorrection (v d : Int) : Int × Bool :=
  if v = 2 ^ 63 - 1 then (v, false) else (clampS 64 (v + d), decide (2 ^ 63 - 1 < v + d))

/-- The correctionField at an offset. -/
def corrField (b : List Byte) (o : Nat) : Int := (BitVec.ofNat 64 (befld b o 8)).toInt

/-- `b` with an amount added to the correctionField at `o`. -/
def putCorrection (b : List Byte) (o : Nat) (d : Int) : List Byte × Bool :=
  let (v, sat) := addCorrection (corrField b o) d
  (splice b o (beBytes 8 (BitVec.ofInt 64 v).toNat), sat)

/-- An interval of the residence counter, which wraps (11 R319). -/
def resDiff (e i : Nat) : Int := (BitVec.ofInt 64 ((e : Int) - (i : Int))).toInt

/-- The time operation of a departing frame with egress stamp `e` (11 R333, R334): new bytes, saturation. -/
def TimeOp.apply (op : TimeOp) (b : List Byte) (e : Stamp) : List Byte × Bool :=
  match op with
  | .none => (b, false)
  | .origin ts co =>
    let b' := splice (splice b ts (beBytes 6 e.sec)) (ts + 6) (beBytes 4 e.ns)
    let (b', sat) := putCorrection b' co e.frac
    (udpUpdate b b', sat)
  | .turnaround co i => let (b', sat) := putCorrection b co (resDiff e.res i); (udpUpdate b b', sat)
  | .residence co i link => let (b', sat) := putCorrection b co (resDiff e.res i + link); (udpUpdate b b', sat)

/-- A transmit report reaches a lane's FIFO (11 R336, R337). -/
def State.txReport (s : State) (lane : Nat) (st : Stamp) (cookie : Nat) : State :=
  let l := s.tsLane lane
  if l.fifo.length < 64 then
    s.setTsLane lane { l with fifo := l.fifo ++ [(st, cookie, if l.overflow then l.lost else 0)], overflow := false, lost := 0,
                              reports := satAdd 32 l.reports 1, reportLost := satAdd 32 l.reportLost (if l.overflow then l.lost else 0) }
  else if l.overflow then s.setTsLane lane { l with lost := satAdd 16 l.lost 1 }
  else
    let s := s.setTsLane lane { l with overflow := true, lost := 1 }
    ({ s with ts := { s.ts with ovf := s.ts.ovf ||| (1#8 <<< lane) } }.report 0x0404 (laneZone lane) lane 0).event 10

/-- A frame leaves a lane at its stamping point (11 R333 to R336): its time fields, counters and report. -/
def State.depart (s : State) (lane : Nat) (f : Frame) (t sub : Nat) : State :=
  let e := s.ts.tb.stamp t sub (s.calOf lane).2
  let (b, sat) := f.op.apply f.bytes e
  let l := s.lane lane
  let l := ({ l with inTx := none, lastTx := some (b, f.stomp), cutRr := if f.cut then f.ingress else l.cutRr }.count 10).count 11 f.len
  let l := if f.hb then l.count 15 else l
  let l := if f.stomp then l.count 13 else l
  let s := ({ s with net := s.net.release f } : State).setLane lane l
  let k := s.tsLane lane
  let k := match f.op with
    | .none => k
    | .residence .. => { k with tcCorrected := satAdd 32 k.tcCorrected 1 }
    | _ => { k with txEvent := satAdd 32 k.txEvent 1 }
  let k := if sat then { k with corrSat := satAdd 32 k.corrSat 1 } else k
  let s := s.setTsLane lane k
  let s := if sat then s.report 0x0405 (laneZone lane) lane 0 else s
  match f.report with
  | some c => if f.stomp then s else s.txReport lane e c
  | none => s

end Sys2Proof.Machine
end

