-- ==== Sys2Proof/Machine/Net.lean ====
section
/-!
DEFINITION. Rows of the lanes and the switch (09): link events, heartbeats, received and sent frames, large sends; and the
network commands.
-/
namespace Sys2Proof.Machine

/-! Links. -/

/-- RATE_SEARCH_DWELL (09 R251): the next mode, after 500 ms without lock or 2 s of lost lock. -/
def State.searchDwell (s : State) (i : Nat) : State :=
  let l := s.lane i
  if l.st ≠ .disabled && l.cfg.mode == 3 && !l.pcsLock then
    s.setLane i { l with search := true, mode := (l.mode + 1) % 3, fec := 0 }
  else s

/-- PCS_LOCK_HELD (09 R256): PCS lock has held for 1 ms (assumption log 79; DESIGN CHOICE). -/
def State.lockHeld (s : State) (i : Nat) : State :=
  let l := s.lane i
  if l.st = .down then
    let l := { l with pcsLock := true, search := false }
    if l.cfg.hbEn then s.setLane i { l with st := .probing, missRun := 3, goodRun := 0 }
    else (s.setLane i l).enterUp i
  else s

/-- PCS_LOCK_LOST (09 R256). -/
def State.lockLost (s : State) (i : Nat) : State :=
  let l := s.lane i
  match l.st with
  | .disabled => s
  | _ =>
    let s := s.setLane i { l with pcsLock := false, missRun := 3, peerSeen := false }
    s.leaveUp i .down 2

/-- HEARTBEAT_TX (09 R253, R254): the lane's heartbeat starts if it is due and no frame is in transmission; else it goes
ahead of the queues when that frame has left. -/
def State.sendHeartbeat (s : State) (i : Nat) : State := if s.hbDue i then s.kick i else s

/-- A valid heartbeat (09 R255, R256): the miss run and the counters follow it in every state but DISABLED, the state of the
link where HB_EN is set (assumption log 111; DEDUCED). -/
def State.gotHeartbeat (s : State) (i : Nat) (hb : Heartbeat) : State :=
  let l := s.lane i
  if l.st = .disabled then s
  else
    let gap := match l.lastRxSeq with
      | none => 0
      | some q => (hb.seq + 65535 - q) % 65536
    let run := if hb.peerRx then l.goodRun + 1 else 0
    let l := (({ l with
      missRun := 0, lastRxSeq := some hb.seq, peerPort := hb.port % 8, peerNode := hb.node % 4096, peerSeen := true
      goodRun := run, goodSince := if l.goodRun = 0 then s.now else l.goodSince }).count 16).count 18 gap
    let s := s.setLane i l
    if !l.cfg.hbEn then s
    else if l.st = .up then (if hb.peerRx then s else s.leaveUp i .probing 1)
    else if l.st = .probing && hb.peerRx && (if l.damped then decide (l.goodSince + 100000000 ≤ s.now) else decide (3 ≤ run)) then s.enterUp i
    else s

/-- HEARTBEAT_RX (09 R255, R276): a good frame of 64 bytes that the MAC consumes. -/
def State.heartbeatRx (s : State) (i : Nat) (hb : Heartbeat) : State :=
  if (s.lane i).st = .disabled then s else ((s.countLane i 0).countLane i 1 64).gotHeartbeat i hb

/-- HEARTBEAT_MISS (09 R255 to R257) (assumption log 111; DEDUCED). -/
def State.missHeartbeat (s : State) (i : Nat) : State :=
  let l := s.lane i
  if l.st = .disabled then s
  else
    let run := min 3 (l.missRun + 1)
    let s := s.setLane i ({ l with misses := satAdd 16 l.misses 1, missRun := run, goodRun := 0 }.count 17)
    if l.cfg.hbEn && l.st = .up && run = 3 then s.leaveUp i .probing 0 else s

/-- DAMPED_CLEAR (09 R258). -/
def State.dampedClear (s : State) (i : Nat) : State :=
  let l := s.lane i
  if l.damped && decide (l.lastExit + 10000000000 ≤ s.now) then s.setLane i { l with damped := false } else s

/-- FRR_RESTORE (09 R268). -/
def State.frrRestore (s : State) (i : Nat) : State :=
  let l := s.lane i
  if l.st = .up && decide (l.upSince + l.restoreMs * 1000000 ≤ s.now) then s.setLane i { l with frrActive := false } else s

/-- MAC_AGE_OUT (09 R264). -/
def State.macAgeOut (s : State) (mac vid : Nat) : State :=
  if s.net.ageS = 0 then s
  else { s with net := { s.net with macTbl := s.net.macTbl.filter (fun e =>
    e.static_ || e.mac != mac || e.vid != vid || decide (s.now < e.refreshed + s.net.ageS * 1000000000)) } }

/-! Received frames. -/

/-- The SSM of an ESMC information PDU (ITU-T G.8264), as a level code (12 R351). PRESUMED layout (assumption log 8). -/
def esmcLevel (b : List Byte) (pay : Nat) : Option Nat :=
  if befld b pay 6 = 0x0A0019A70001 && befld b (pay + 10) 3 = 0x010004 then
    some (match befld b (pay + 13) 1 % 16 with
      | 0x2 => 0 | 0x4 => 1 | 0x8 => 2 | 0xB => 3 | _ => 0xF)
  else none

/-- A frame delivered to PC that the firmware handles at once (10 R306, 12 R351): Wyeri control types without a meaning
count, ESMC PDUs of lanes P0 to P3 set a level; CMD frames wait for CMD_FRAME_RX (assumption log 62; DEDUCED). -/
def State.toPc (s : State) (lane q : Nat) (f : Frame) : State :=
  let i := ethInfo f.bytes
  let type := befld f.bytes i.pay 1
  if i.etherType = s.net.etherType && type = 0x80 || !s.pwr.cpRunning then s.enqueue 9 q f
  else if i.etherType = s.net.etherType && type = 0xF0 then s
  else if i.etherType = s.net.etherType && 0x82 ≤ type then { s with str := { s.str with ctrlBad := satAdd 32 s.str.ctrlBad 1 } }
  else if i.etherType = 0x8809 && decide (lane < 4) then
    match esmcLevel f.bytes i.pay with
    | none => s
    | some ql => { s with ref := { s.ref with cand := upd s.ref.cand (8 + lane) (fun c => { c with rxQl := ql, heard := s.now }) } }
  else s

/-- A valid heartbeat's fields, where the frame is one (09 R255). -/
def State.heartbeatOf (s : State) (b : List Byte) : Option Heartbeat :=
  let i := ethInfo b
  if !i.tagged && i.da = s.net.hbDa && i.etherType = s.net.etherType && befld b 14 1 = 0xF0 && befld b 15 1 = 1 then
    some ⟨befld b 16 2 % 4096, befld b 18 1 % 8, befld b 19 1 % 2 == 1, befld b 20 2, befld b 22 2⟩
  else none

/-- The node runs the LIVE image as a belay node (03 R79). -/
def State.isBelay (s : State) : Bool := match s.pl.live with
  | none => false
  | some p => p.nodeId != s.nodeId

/-- A stream frame goes to PE: for a receive stream of LIVE (09 R263), or for comparison in a belay node (10 R302). -/
def State.peTakes (s : State) (id : Nat) (belay : Bool) : Bool :=
  match s.pl.live with
  | none => false
  | some p => p.streams.any (fun r => r.id == id && (r.rx || (s.isBelay && !belay && !r.aes67)))

/-- A binding is in effect: the LIVE plane holds an AES67 record with its DIR and STREAM_ID (10 R312). -/
def State.bindLive (s : State) (x : BindEntry) : Bool :=
  match s.pl.live with
  | none => false
  | some p => p.streams.any (fun r => r.aes67 && r.rx == x.rx && r.id == x.streamId)

/-- The AES67 receive bindings in effect that an IPv4 UDP frame matches (10 R311, R312). -/
def State.aesBindings (s : State) (b : List Byte) : List BindEntry :=
  let i := ethInfo b
  match udpOff b with
  | none => []
  | some u =>
    if i.etherType ≠ 0x0800 then []
    else s.str.bindings.filter (fun x => x.rx && s.bindLive x && x.dstIp == befld b (i.pay + 16) 4 && x.dstPort == befld b (u + 2) 2 &&
      (x.srcIp == 0 || x.srcIp == befld b (i.pay + 12) 4))

/-- Copies of a stream frame (09 R262, R263). -/
def State.streamForward (s : State) (lane : Nat) (f : Frame) (i : EthInfo) (faulty : Bool) : State :=
  let id := befld f.bytes (i.pay + 1) 3
  let l := s.lane lane
  let ent := s.net.streamEntry id lane
  let s1 := match ent with
    | none => s
    | some e => (maskLanes e.mask lane).foldl (fun s p => s.forwardCopy lane p (l.queueOf e.queue i) f faulty) s
  if faulty then s1
  else if s.peTakes id (bit (befld f.bytes (i.pay + 5) 1) 5) then
    s1.enqueue 8 (l.queueOf ((ent.map (·.queue)).getD 0xFF) i) { f with pe := .stream }
  else if ent.isNone then s1.countLane lane 9 else s1

/-- Copies of a frame forwarded by the MAC table (09 R264, R265). -/
def State.macForward (s : State) (lane : Nat) (f : Frame) (i : EthInfo) (faulty : Bool) : State :=
  match s.macLookup i lane with
  | none => if faulty then s else s.countLane lane 9
  | some (ports, q) =>
    let qq := (s.lane lane).queueOf q i
    ports.foldl (fun s p => if p = 9 then (if faulty then s else s.toPc lane qq f) else s.forwardCopy lane p qq f faulty) s

/-- Classification and forwarding of a frame from an UP lane (09 R261, R263; 10 R311); `fw` is what the firmware decides from
a PTP message. -/
def State.classify (s : State) (lane : Nat) (f : Frame) (st : Stamp) (fw : Option PtpFw) (faulty : Bool) : State :=
  let i := ethInfo f.bytes
  let qq := (s.lane lane).queueOf 0xFF i
  let pc (s : State) : State := if faulty then s else s.toPc lane qq f
  if i.da = 0x0180C2000001 then (if faulty then s else s.countLane lane 7)
  else if i.da = 0x0180C2000002 then pc s
  else match s.ptpHeader lane f.bytes with
    | some off => s.ptpHandle lane off f st fw faulty
    | none =>
      if i.da / 16 = 0x0180C200000 then pc s
      else if i.etherType = s.net.etherType && decide (befld f.bytes i.pay 1 < 0x80) then s.streamForward lane f i faulty
      else
        let s := if faulty then s else (s.aesBindings f.bytes).foldl (fun s x =>
          s.enqueue 8 qq { f with pe := .aes67 x.streamId x.strandB }) s
        if i.da = s.net.nodeMac then pc s else s.macForward lane f i faulty

/-- Events of a kind in a sliding window: the new list, and whether the count `n` is reached, which starts it anew
(14 R619). -/
def slide (times : List Nat) (t len k n : Nat) : List Nat × Bool :=
  let ts := inWindow times t len ++ List.replicate k t
  if n ≤ ts.length then ([], true) else (ts, false)

/-- FEC codewords of a lane count; 16 uncorrectable ones within 1 ms report NET_FEC (09 R277). -/
def State.fecCount (s : State) (i corr uncorr : Nat) : State :=
  let l := ((s.lane i).count 20 corr).count 21 uncorr
  let inMs := (inWindow l.fecTimes s.now 1000000).length + uncorr
  let (ts, hit) := slide l.fecTimes s.now 1000000 uncorr 16
  let s := s.setLane i { l with fecTimes := ts }
  if hit then s.report 0x0402 (laneZone i) i inMs else s

/-- The receive check that a frame fails: its counter and whether copies may already be cut through (09 R259). -/
def rxCheck (f : RxFrame) (maxFrame : Nat) : Option (Nat × Bool) :=
  let len := f.bytes.length + 4
  if !f.preambleOk then some (2, false)
  else if len < 64 then some (3, false)
  else if isGroup (befld f.bytes 6 6) then some (4, false)
  else if f.lateErr then some (2, true)
  else if maxFrame < len then some (5, true)
  else if !f.fcsOk then some (6, true)
  else none

/-- The switch's frame of a received frame. -/
def State.frameOf (s : State) (lane : Nat) (f : RxFrame) : Frame where
  bytes := f.bytes.take ((s.lane lane).cfg.maxFrame - 4)
  ingress := lane
  arriveOff := s.now - s.per.openedAt
  arriveMt := s.per.mediaTime
  op := .none
  report := none
  stomp := false
  pe := .stream
  ptp := false
  id := s.net.nextId
  first := f.t
  queue := 0
  cut := false
  hb := false
  stamp := none

/-- FRAME_RX (09 R256, R259, R261), and PTP_MESSAGE_RX with what the firmware decides. With the switch off, the lanes take
heartbeats only (01 R19) (assumption log 62; DEDUCED). -/
def State.frameRx (s : State) (lane : Nat) (f : RxFrame) (fw : Option PtpFw := none) : State :=
  let l := s.lane lane
  if l.st = .disabled then s
  else
    let s := s.fecCount lane f.fecCorr f.fecUncorr
    let st := s.ts.tb.stamp f.t f.sub (-(s.calOf lane).1)
    let good (s : State) : State := (s.countLane lane 0).countLane lane 1 (f.bytes.length + 4)
    match rxCheck f l.cfg.maxFrame with
    | some (c, started) =>
      let s := s.countLane lane c
      if started && l.st = .up && s.domOn 5 && (s.heartbeatOf f.bytes).isNone then s.classify lane (s.frameOf lane f) st none true
      else s
    | none =>
      let s := good s
      match s.heartbeatOf f.bytes with
      | some hb => s.gotHeartbeat lane hb
      | none =>
        if l.st ≠ .up then s.countLane lane 8
        else if !s.domOn 5 then s
        else (s.learn (ethInfo f.bytes) lane).classify lane (s.frameOf lane f) st fw false

/-- The switch without the PTP messages that wait at PC (assumption log 18; DEDUCED). -/
def Net.dropPtp (n : Net) : Net :=
  turns 8 n (fun q n =>
    let x := n.queue 9 q
    let n := n.setQueue 9 q { x with frames := x.frames.filter (fun g => !g.ptp) }
    (x.frames.filter (·.ptp)).foldl (fun n g => n.release g) n)

/-- PTP_MESSAGE_RX (11 R331): an identified message, with what the firmware decides from it; messages that waited at PC
have been taken by the firmware as well (assumption log 18; DEDUCED). -/
def State.ptpMessage (s : State) (lane : Nat) (f : RxFrame) (fw : Option PtpFw) : State :=
  let s := if s.pwr.cpRunning then
      (((s.net.queues[9]?.getD (Vector.replicate 8 (Queue.reset 0))).toList.flatMap (·.frames)).filter (·.ptp)).foldl
        (fun s g => s.noteReq g.ingress g) { s with net := s.net.dropPtp }
    else s
  s.frameRx lane f fw

/-- Other copies of a stored frame leave every queue, and those in transmission are stomped (09 R269) (assumption log 95;
DESIGN CHOICE). -/
def Net.dropCopies (n : Net) (f : Frame) : Net :=
  if f.cut || f.hb then n
  else
    let dropped := n.allQueues.flatMap (fun q => q.frames.filter (fun g => g.id == f.id))
    let n := { n with
      queues := n.queues.map (fun qs => qs.map (fun q => { q with frames := q.frames.filter (fun g => g.id != f.id) }))
      lanes := n.lanes.map (fun l => { l with inTx := l.inTx.map (fun g =>
        if g.id == f.id && !g.cut && !g.hb then { g with stomp := true } else g) }) }
    dropped.foldl (fun n g => n.release g) n

/-- FRAME_TX_DONE (09 R269, R271, 11 R336): the last byte of the frame in transmission has left; (t, sub) is its stamping
point, `ecc` an error found in a cell of it, with the cell and whether it is a double-bit error (assumption log 95; DESIGN
CHOICE). -/
def State.frameDone (s : State) (lane t sub : Nat) (ecc : Option (Nat × Bool)) : State :=
  match (s.lane lane).inTx with
  | none => s
  | some f =>
    match ecc with
    | none => (s.depart lane f t sub).kick lane
    | some (_, false) =>
      (({ s with net := { s.net with eccCorr := satAdd 64 s.net.eccCorr 1 } }).depart lane f t sub).kick lane
    | some (cell, true) =>
      let s := { s with net := { (s.net.dropCopies f) with eccUncorr := satAdd 64 s.net.eccUncorr 1 } }
      ((s.report 0x0501 0x18 0xFFFF cell).depart lane { f with stomp := true } t sub).kick lane

/-! The control processor's frames (09 R275, 11 R333). -/

/-- A frame of the control processor. -/
def State.pcFrame (s : State) (bytes : List Byte) (op : TimeOp) (report : Option Nat) : Frame where
  bytes := bytes ++ List.replicate (60 - bytes.length) 0
  ingress := 9
  arriveOff := s.now - s.per.openedAt
  arriveMt := s.per.mediaTime
  op := op
  report := report
  stomp := false
  pe := .stream
  ptp := false
  id := s.net.nextId
  first := s.now
  queue := 0
  cut := false
  hb := false
  stamp := none

/-- CP_FRAME_SEND (11 R333). PTP messages take queue 7 (09 R272), and a lane whose phase compensation failed carries none (11
R343). TURNAROUND needs the ingress stamp of the Pdelay_Req that it names (assumption log 18; DEDUCED). -/
def State.cpSend (s : State) (lane q : Nat) (bytes : List Byte) (op : SendOp) (report : Option Nat) : State :=
  let ptp := isPtp bytes || decide (op ≠ .none)
  if !s.pwr.cpRunning || 7 < lane || 7 < q || (ptp && !(s.tsLane lane).stampValid) then s
  else
    let op : Option TimeOp := match op with
      | .none => some .none
      | .origin a b => some (.origin a b)
      | .turnaround a seq => (lookup? (s.tsLane lane).reqs seq).map (fun st => .turnaround a st.res)
    match op with
    | none => s
    | some op => s.enqueue lane (if ptp then 7 else q) (s.pcFrame bytes op report)

/-- The header fields of segment `ix` rewritten (09 R275). -/
def segmentHeader (kind : HdrKind) (hdr seg : List Byte) (ix : Nat) : List Byte :=
  let i := ethInfo hdr
  let p := i.pay
  match kind with
  | .raw => hdr ++ seg
  | .ipv4Udp =>
    let u := p + (befld hdr p 1 % 16) * 4
    let b := hdr ++ seg
    let b := splice b (p + 2) (beBytes 2 (b.length - p))
    let b := splice b (p + 4) (beBytes 2 (befld hdr (p + 4) 2 + ix))
    let b := splice b (p + 10) [0, 0]
    let b := splice b (p + 10) (beBytes 2 (65535 - fold16 (sum16 (slice b p (u - p)))))
    let ulen := b.length - u
    let b := splice (splice b (u + 4) (beBytes 2 ulen)) (u + 6) [0, 0]
    let c := 65535 - fold16 (sum16 (slice b (p + 12) 8) + 17 + ulen + sum16 (b.drop u))
    splice b (u + 6) (beBytes 2 (if c = 0 then 65535 else c))
  | .ipv6Udp =>
    let u := p + 40
    let b := hdr ++ seg
    let ulen := b.length - u
    let b := splice b (p + 4) (beBytes 2 (b.length - (p + 40)))
    let b := splice (splice b (u + 4) (beBytes 2 ulen)) (u + 6) [0, 0]
    let c := 65535 - fold16 (sum16 (slice b (p + 8) 32) + 17 + ulen + sum16 (b.drop u))
    splice b (u + 6) (beBytes 2 (if c = 0 then 65535 else c))

/-- LARGE_SEND (09 R275): the frames of one send enter their queue one after another. -/
def State.largeSend (s : State) (lane q mss : Nat) (kind : HdrKind) (hdr pay : List Byte) : State :=
  if !s.pwr.cpRunning || 7 < lane || 7 < q || !within 14 128 hdr.length || 262144 < pay.length || mss < 64 ||
      (s.lane lane).cfg.maxFrame < mss + hdr.length + 4 then s
  else (List.range ((pay.length + mss - 1) / mss)).foldl (fun s i =>
    s.enqueue lane q (s.pcFrame (segmentHeader kind hdr ((pay.drop (i * mss)).take mss) i) .none none)) s

end Sys2Proof.Machine
end

