-- ==== Sys2Proof/Machine/NetCmds.lean ====
section
/-!
DEFINITION. The network commands (09 R281 to R284).
-/
namespace Sys2Proof.Machine

/-- A port setting is in range (09 R250, R259, R281, R284). -/
def portCfgOk (c : NetPortCfg) : Bool :=
  decide (c.mode ≤ 3) && decide (c.fec ≤ 2) && (c.fec == 0 || c.mode == 0) && within 1522 9216 c.maxFrame &&
  decide (c.defaultPcp ≤ 7) && c.pcpMap.toList.all (fun q => decide (q ≤ 7))

/-- A new setting on a lane (09 R256, R283): a change of MODE or FEC takes it to DOWN. -/
def State.setPortCfg (s : State) (i : Nat) (c : NetPortCfg) : State :=
  let l := s.lane i
  let put (s : State) : State := s.setLane i { (s.lane i) with cfg := c }
  if !c.enable then put (if l.st = .disabled then s else s.disableLane i)
  else if l.st = .disabled then (put s).startLane i
  else if c.mode ≠ l.cfg.mode || c.fec ≠ l.cfg.fec then (put (s.leaveUp i .down 2)).startLane i
  else
    let s := put s
    if c.hbEn == l.cfg.hbEn then s
    else if l.st = .probing then s.enterUp i
    else s.setLane i { (s.lane i) with missRun := if c.hbEn && l.st = .up then 0 else 3, peerSeen := false }

/-- The setting of a lane in CONFIG (assumption log 77; DEDUCED). -/
def State.saveLane (s : State) (i : Nat) (c : NetPortCfg) : State :=
  { s with cfg := { s.cfg with lanes := insertKey s.cfg.lanes i c } }

/-- Result of NET_PORT_CONFIG: the setting applied, and PENDING_REVERT. -/
def State.portCfgResult (s : State) (i : Nat) : Done :=
  let c := (s.lane i).cfg
  .ok [(1, b2n c.enable), (1, c.mode), (1, c.fec), (2, c.maxFrame), (1, b2n c.hbEn), (1, c.defaultPcp),
    (4, packBits ((c.pcpMap.toList.reverse).map (fun q => (3, q)))), (1, b2n c.floodEn), (1, b2n c.learnEn),
    (1, b2n (s.lane i).revert.isSome)]

/-- NET_PORT_CONFIG applied (09 R283) (assumption log 77; DEDUCED). -/
def finNetPortConfig (lane : Nat) (cfg : NetPortCfg) (persist : Bool) (revertS : Nat) (confirm : Bool) (s : State) :
    Done × State :=
  let l := s.lane lane
  let s :=
    if confirm then
      let keep := persist || (l.revert.map (·.persist)).getD false
      let s := s.setLane lane { l with revert := none }
      if keep then s.saveLane lane l.cfg else s
    else
      let s := s.setPortCfg lane cfg
      if revertS = 0 then
        let s := s.setLane lane { (s.lane lane) with revert := none }
        if persist then s.saveLane lane cfg else s
      else
        let old := (l.revert.map (·.old)).getD l.cfg
        s.setLane lane { (s.lane lane) with revert := some ⟨old, s.now + revertS * 1000000000, persist⟩ }
  (s.portCfgResult lane, s)

/-- NET_PORT_CONFIG (09 R281, R283, R284). -/
def runNetPortConfig (_ : Ctx) (lane : Nat) (cfg : NetPortCfg) (persist : Bool) (revertS : Nat) (confirm : Bool) (s : State) :
    Done × State :=
  if 7 < lane || !portCfgOk cfg || 600 < revertS then (.range, s)
  else if confirm && (s.lane lane).revert.isNone then (.fail .rejectedState 0x0082, s)
  else if !s.domOn (laneDomain lane) then (.fail .rejectedState 0x0083, s)
  else if confirm then
    if persist || ((s.lane lane).revert.map (·.persist)).getD false then (.flash, s)
    else finNetPortConfig lane cfg persist revertS true s
  else if persist && revertS = 0 then (.flash, s)
  else finNetPortConfig lane cfg persist revertS false s

/-- NET_REVERT: REVERT_S has passed without confirmation (09 R283) (assumption log 77; DEDUCED). -/
def State.netRevert (s : State) (lane : Nat) : State :=
  match (s.lane lane).revert with
  | none => s
  | some r =>
    if s.now < r.until_ then s
    else
      let s := s.setLane lane { (s.lane lane) with revert := none }
      (s.setPortCfg lane r.old).report 0x0403 (laneZone lane) lane 0

/-- NET_QUEUE_CONFIG applied. -/
def finNetQueueConfig (port q rsv qmax : Nat) (persist : Bool) (s : State) : Done × State :=
  let n := s.net.setQueue port q { (s.net.queue port q) with rsv := rsv, qmax := qmax }
  let s := { s with net := n }
  (.ok [(4, n.pool)], if persist then { s with cfg := { s.cfg with queues := insertKey s.cfg.queues (port * 8 + q) (rsv, qmax) } } else s)

/-- NET_QUEUE_CONFIG (09 R270, R284). -/
def runNetQueueConfig (_ : Ctx) (port q rsv qmax : Nat) (persist : Bool) (s : State) : Done × State :=
  if 9 < port || 7 < q then (.range, s)
  else
    let total := (s.net.allQueues.map (·.rsv)).sum - (s.net.queue port q).rsv + rsv
    if 16384 < total then (.range, s)
    else if persist then (.flash, s)
    else finNetQueueConfig port q rsv qmax false s

/-- NET_SWITCH_CONFIG applied. -/
def finNetSwitchConfig (etherType hbDa nodeMac ageS : Nat) (persist : Bool) (s : State) : Done × State :=
  let s := { s with net := { s.net with etherType := etherType, hbDa := hbDa, nodeMac := nodeMac, ageS := ageS } }
  (.done .ok 0 (leBytes 2 etherType ++ beBytes 6 hbDa ++ beBytes 6 nodeMac ++ leBytes 2 ageS),
   if persist then { s with cfg := { s.cfg with switch := some (etherType, hbDa, nodeMac, ageS) } } else s)

/-- NET_SWITCH_CONFIG (09 R264, R281, R283). -/
def runNetSwitchConfig (_ : Ctx) (etherType hbDa nodeMac ageS : Nat) (persist : Bool) (s : State) : Done × State :=
  if 0xFFFF < etherType || 2 ^ 48 ≤ hbDa || 2 ^ 48 ≤ nodeMac || !(ageS == 0 || within 10 3600 ageS) then (.range, s)
  else if persist then (.flash, s)
  else finNetSwitchConfig etherType hbDa nodeMac ageS false s

/-- One stream-table entry applied. -/
def applyFwd (t : List StreamEnt) (e : FwdEntry) : List StreamEnt :=
  let rest := t.filter (fun x => !(x.id == e.streamId && x.ingress == e.ingress))
  if e.delete then rest else rest ++ [⟨e.streamId, e.ingress, e.egress, e.queue⟩]

/-- The NET_STREAM_FWD entries of the inline bytes or the buffer: 8 bytes each (09 R282). -/
def fwdEntries (count : Nat) (data : List Byte) : List FwdEntry :=
  (List.range count).map (fun i =>
    let f (o n : Nat) : Nat := leNat (slice data (8 * i + o) n)
    ⟨f 0 3, f 3 1, f 4 1, f 5 1, bit (f 6 1) 0⟩)

/-- The NET_MAC_SET entries of the inline bytes or the buffer: 16 bytes each, the address in wire order (09 R281, R282). -/
def macEntries (count : Nat) (data : List Byte) : List MacEntry :=
  (List.range count).map (fun i =>
    let f (o n : Nat) : Nat := leNat (slice data (16 * i + o) n)
    ⟨beNat (slice data (16 * i) 6), f 6 2, f 8 2, f 10 1, bit (f 11 1) 0⟩)

/-- Every DELETE of a batch names a key that the table holds: all entries are checked before any is applied (09 R282, R284). -/
def deletesFound {β : Type} (has : β → Bool) (del : β → Bool) (es : List β) : Bool := es.all (fun e => !del e || has e)

/-- NET_STREAM_FWD (09 R262, R267, R282, R284). -/
def runNetStreamFwd (c : Ctx) (count addr : Nat) (entries : List FwdEntry) (s : State) : Done × State :=
  if noBuf c.port && addr != 0 then (.argPtr, s)
  else if !countOk addr count 5 4096 || entries.any (fun e => decide (2 ^ 24 ≤ e.streamId) || !(e.ingress ≤ 7 || e.ingress == 0xFF) ||
      decide (255 < e.egress) || !(e.queue ≤ 7 || e.queue == 0xFF)) then (.range, s)
  else if !deletesFound (fun e => s.net.streamTbl.any (fun x => x.id == e.streamId && x.ingress == e.ingress)) (·.delete) entries
    then (.fail .rejectedArgs 0x0080, s)
  else
    let t := entries.foldl applyFwd s.net.streamTbl
    if 16384 < t.length then (.fail .resource 0x0081, s)
    else (.ok [(4, entries.length), (4, t.length)], { s with net := { s.net with streamTbl := t } })

/-- One MAC-table entry applied. -/
def applyMac (t : List MacEnt) (e : MacEntry) : List MacEnt :=
  let rest := t.filter (fun x => !(x.mac == e.mac && x.vid == e.vid))
  if e.delete then rest else rest ++ [⟨e.mac, e.vid, true, e.egress, e.queue, 0⟩]

/-- NET_MAC_SET (09 R264, R282, R284): it sets static entries, and deletes an entry of its key, static or learned. -/
def runNetMacSet (c : Ctx) (count addr : Nat) (entries : List MacEntry) (s : State) : Done × State :=
  if noBuf c.port && addr != 0 then (.argPtr, s)
  else if !countOk addr count 2 2048 || entries.any (fun e => decide (2 ^ 48 ≤ e.mac) || decide (4095 < e.vid) ||
      decide (0x1FF < e.egress) || !(e.queue ≤ 7 || e.queue == 0xFF)) then (.range, s)
  else if !deletesFound (fun e => s.net.macTbl.any (fun x => x.mac == e.mac && x.vid == e.vid)) (·.delete) entries
    then (.fail .rejectedArgs 0x0080, s)
  else
    let t := entries.foldl applyMac s.net.macTbl
    if 8192 < t.length then (.fail .resource 0x0081, s)
    else (.ok [(4, entries.length), (4, t.length)], { s with net := { s.net with macTbl := t } })

/-- NET_FRR_SET applied. -/
def finNetFrrSet (lane backup restoreMs : Nat) (persist : Bool) (s : State) : Done × State :=
  let b := if backup = 0xFF then none else some backup
  let l := s.lane lane
  let s := s.setLane lane { l with backup := b, restoreMs := restoreMs,
                                   frrActive := b.isSome && (l.frrActive || decide (l.st ≠ .up)) }
  (.ok [(1, lane), (1, backup), (2, restoreMs)],
   if persist then { s with cfg := { s.cfg with frr := insertKey s.cfg.frr lane (b, restoreMs) } } else s)

/-- NET_FRR_SET (09 R268, R284). -/
def runNetFrrSet (_ : Ctx) (lane backup restoreMs : Nat) (persist : Bool) (s : State) : Done × State :=
  if 7 < lane || !(backup ≤ 7 || backup == 0xFF) || backup == lane || 60000 < restoreMs then (.range, s)
  else if persist then (.flash, s)
  else finNetFrrSet lane backup restoreMs false s

/-- NET_FWD_GET (09 R281, R284). KEY is the STREAM_ID or the MAC address, SUB the INGRESS or the VID. -/
def runNetFwdGet (_ : Ctx) (kind key sub : Nat) (s : State) : Done × State :=
  if kind = 0 then
    if 2 ^ 24 ≤ key || !(sub ≤ 7 || sub == 0xFF) then (.range, s)
    else match s.net.streamTbl.find? (fun e => e.id == key && e.ingress == sub) with
      | none => (.ok [(1, 0)], s)
      | some e => (.ok [(1, 1), (2, e.mask), (1, e.queue)], s)
  else if kind = 1 then
    if 2 ^ 48 ≤ key || 4095 < sub then (.range, s)
    else match s.net.macTbl.find? (fun e => e.mac == key && e.vid == sub) with
      | none => (.ok [(1, 0)], s)
      | some e => (.ok [(1, if e.static_ then 1 else 2), (2, e.mask), (1, e.queue)], s)
  else (.range, s)

/-- The 33 counters of a port in the order of 09 R276; PE and PC have the queue counters only. -/
def State.portCounters (s : State) (port : Nat) : List Nat :=
  let q := (List.range 8).map (fun i => (s.net.queue port i).drops)
  if port < 8 then (s.lane port).counters.toList ++ q ++ [s.net.learnFull, s.net.eccCorr, s.net.eccUncorr]
  else List.replicate 22 0 ++ q ++ [0, 0, 0]

/-- The counters `ixs` of a port at 0: the ones that the command read (09 R276). -/
def State.clearCounters (s : State) (port : Nat) (ixs : List Nat) : State :=
  let hit (i : Nat) : Bool := mem ixs i
  let n := turns 8 s.net (fun i n => if hit (22 + i) then n.setQueue port i { (n.queue port i) with drops := 0 } else n)
  if port < 8 then
    ({ s with net := { n with learnFull := if hit 30 then 0 else n.learnFull, eccCorr := if hit 31 then 0 else n.eccCorr
                              eccUncorr := if hit 32 then 0 else n.eccUncorr } } : State).setLane port
      { (s.lane port) with counters := Vector.ofFn (fun i : Fin 22 => if hit i.val then 0 else rd (s.lane port).counters i.val) }
  else { s with net := n }

/-- NET_COUNTERS (09 R276, R281). -/
def runNetCounters (c : Ctx) (port : Nat) (clear : Bool) (first addr : Nat) (s : State) : Done × State :=
  if noBuf c.port && addr != 0 then (.argPtr, s)
  else if 9 < port || (addr == 0 && decide (31 < first)) then (.range, s)
  else
    let v := s.portCounters port
    let s' := if clear then s.clearCounters port (if addr = 0 then [first, first + 1] else List.range 33) else s
    if addr = 0 then (.ok [(8, v.getD first 0), (8, v.getD (first + 1) 0)], s')
    else (.ok [], s'.hostWrite c.port addr (v.flatMap (leBytes 8)))

end Sys2Proof.Machine
end

