-- ==== Sys2Proof/Machine/Streams.lean ====
section
/-!
DEFINITION. The stream engine (10): frames cut and sent, copies received and merged, receive states, belay comparison,
AES67 packets, and the stream commands.
-/
namespace Sys2Proof.Machine

/-- The receive stream of an ID put into the state. -/
def State.setRx (s : State) (id : Nat) (x : RxSt) : State := { s with str := { s.str with rx := insertKey s.str.rx id x } }
/-- The transmit stream of an ID put into the state. -/
def State.setTx (s : State) (id : Nat) (x : TxSt) : State := { s with str := { s.str with tx := insertKey s.str.tx id x } }
/-- The receive stream of an ID. -/
def State.rxSt (s : State) (id : Nat) : RxSt := (lookup? s.str.rx id).getD RxSt.fresh
/-- The transmit stream of an ID. -/
def State.txSt (s : State) (id : Nat) : TxSt := (lookup? s.str.tx id).getD TxSt.fresh
/-- The LIVE record of a stream. -/
def State.streamRec (s : State) (rx : Bool) (id : Nat) : Option StreamRec :=
  s.pl.live.bind (fun p => p.streams.find? (fun r => r.rx == rx && r.id == id))

/-! Belay comparison (10 R301 to R304). -/

/-- A result of a comparison. -/
inductive BelayRes where
  | match_ | mismatch | missing | skip
  deriving DecidableEq, Repr

/-- The Wyeri transmit streams of LIVE. -/
def State.txIds (s : State) : List Nat :=
  match s.pl.live with
  | none => []
  | some p => (p.streams.filter (fun r => !r.rx && !r.aes67)).map (·.id)

/-- The node becomes ALIGNED when every transmit stream's run has reached 4,096. -/
def State.alignCheck (s : State) : State :=
  let ids := s.txIds
  if s.isBelay && !s.str.aligned && !ids.isEmpty && ids.all (fun i => decide (4096 ≤ (s.txSt i).run)) then
    ({ s with str := { s.str with aligned := true, alignedAt := s.per.mediaTime % 2 ^ 32 } } : State).endCond 0x0506 0x18 0xFFFF
  else s

/-- Every match run is 0. -/
def Str.zeroRuns (x : Str) : Str := { x with tx := x.tx.map (fun p => (p.1, { p.2 with run := 0, missRun := 0 })) }

/-- The belay node is UNALIGNED with every run 0 (10 R304, last row). -/
def State.unalign (s : State) : State := { s with str := { s.str.zeroRuns with aligned := false } }

/-- The result of one comparison on stream `id` (10 R304) (assumption log 86; DEDUCED). -/
def State.belayResult (s : State) (id : Nat) (r : BelayRes) : State :=
  let x := s.txSt id
  let c := s.str
  match r with
  | .match_ =>
    let run := satAdd 32 x.run 1
    (({ s with str := { c with match_ := satAdd 32 c.match_ 1 } } : State).setTx id
      { x with run := run, reached := x.reached || decide (4096 ≤ run), missRun := 0 }).alignCheck
  | .mismatch =>
    let s := { s with str := { c with mismatch := satAdd 32 c.mismatch 1 } }
    if c.aligned then s.unalign.raise 0x0506 0x18 0xFFFF id else s.setTx id { x with run := 0, missRun := 0 }
  | .missing =>
    let s := { s with str := { c with missing := satAdd 32 c.missing 1 } }
    if c.aligned then
      let n := x.missRun + 1
      let s := s.setTx id { x with missRun := n }
      if n = 4096 then s.report 0x0507 0x18 0xFFFF id else s
    else s.setTx id { x with run := 0, missRun := 0 }
  | .skip =>
    let s := { s with str := { c with skip := satAdd 32 c.skip 1 } }
    s.setTx id { x with run := if c.aligned then x.run else 0, missRun := 0 }

/-- Compare an own frame with the primary's (assumption log 86; DEDUCED). -/
def compareFrames (own prim : Bool × Nat × Nat) : BelayRes :=
  if own.1 && prim.1 then (if own.2 = prim.2 then .match_ else .mismatch) else .skip

/-- The belay node has queued its own frame of media time `m` (10 R303) (assumption log 86; DEDUCED). -/
def State.ownFrame (s : State) (id m : Nat) (ok : Bool) (digest tag : Nat) : State :=
  let x := s.txSt id
  let mine := x.prim.find? (fun p => p.1 == m)
  let x := { x with prim := x.prim.filter (fun p => decide (m < p.1)) }
  match mine with
  | some p => (s.setTx id x).belayResult id (compareFrames (ok, digest, tag) p.2)
  | none =>
    if ok then s.setTx id { x with own := x.own ++ [(m, s.boundaryOf m, ok, digest, tag)] }
    else (s.setTx id x).belayResult id .skip

/-- A frame of the primary, arrived in the period of media time `arrive`, reaches the belay node (10 R302, R303) (assumption
log 86; DEDUCED). -/
def State.primFrame (s : State) (r : StreamRec) (m arrive : Nat) (ok : Bool) (digest tag : Nat) : State :=
  let x := s.txSt r.id
  match x.own.find? (fun p => p.1 == m) with
  | some p =>
    if arrive < m + 64 then
      (s.setTx r.id { x with own := x.own.filter (fun q => q.1 != m) }).belayResult r.id (compareFrames p.2.2 (ok, digest, tag))
    else s
  | none =>
    -- the own frame of m is not queued yet: it is queued in period m - 1
    if s.per.mediaTime + 1 < m && m ≤ arrive + 128 && !x.prim.any (fun p => p.1 == m) then
      s.setTx r.id { x with prim := x.prim ++ [(m, ok, digest, tag)] }
    else s

/-- BELAY_COMPARE_EXPIRY (10 R303). -/
def State.belayExpiry (s : State) (id media : Nat) : State :=
  let x := s.txSt id
  match x.own.find? (fun p => p.1 == media) with
  | none => s
  | some p =>
    if s.per.boundaries < p.2.1 + 64 then s
    else (s.setTx id { x with own := x.own.filter (fun q => q.1 != media) }).belayResult id .missing

/-! Transmission (10 R285 to R293, R309, R310). -/

/-- The Ethernet header of the engine's own frames. -/
def ownHeader (da sa : Nat) (tci : Option Nat) (etherType : Nat) : List Byte :=
  beBytes 6 da ++ beBytes 6 sa ++ (match tci with | none => [] | some t => beBytes 2 0x8100 ++ beBytes 2 t) ++ beBytes 2 etherType

/-- The tag of a stream's frames. -/
def StreamRec.tci (r : StreamRec) : Option Nat := if r.tagged then some (r.pcp * 8192 + r.vid) else none

/-- The Wyeri bytes of a stream frame (10 R290). -/
def streamBytes (r : StreamRec) (flags origin m : Nat) (tag : List Byte) (samples : List Slot) : List Byte :=
  let data := samples.flatMap (fun v => beBytes 4 v.toNat)
  [0x10#8] ++ beBytes 3 r.id ++ [1#8, BitVec.ofNat 8 flags] ++ beBytes 2 (origin % 4096) ++ beBytes 6 m ++
  [BitVec.ofNat 8 r.ptime, BitVec.ofNat 8 r.channels] ++ beBytes 4 (crc32 data) ++ slice tag 0 4 ++ data

/-- Bytes per sample of an AES67 stream. -/
def StreamRec.sampleBytes (r : StreamRec) : Nat := if r.l16 then 2 else 3

/-- An AES67 packet from the IP header on (10 R310). -/
def aesBytes (r : StreamRec) (b : BindEntry) (m : Nat) (samples : List Slot) : List Byte :=
  let n := r.sampleBytes
  let data := samples.flatMap (fun v => beBytes n (saTx (8 * n) v).toNat)
  let rtp := [0x80#8, BitVec.ofNat 8 (b.pt % 128)] ++ beBytes 2 ((m / r.ptime) % 65536) ++
    beBytes 4 ((m + 2 ^ 32 - r.ptime - 1) % 2 ^ 32) ++ beBytes 4 r.id
  let ulen := 8 + rtp.length + data.length
  let udp0 := beBytes 2 b.srcPort ++ beBytes 2 b.dstPort ++ beBytes 2 ulen ++ [0, 0] ++ rtp ++ data
  let addr := beBytes 4 b.srcIp ++ beBytes 4 b.dstIp
  let c := 65535 - fold16 (sum16 addr + 17 + ulen + sum16 udp0)
  let udp := splice udp0 6 (beBytes 2 (if c = 0 then 65535 else c))
  let ip0 := [0x45#8, BitVec.ofNat 8 (b.dscp * 4)] ++ beBytes 2 (20 + ulen) ++ [0, 0, 0x40#8, 0, BitVec.ofNat 8 b.ttl, 17#8, 0, 0] ++ addr
  splice ip0 10 (beBytes 2 (65535 - fold16 (sum16 ip0))) ++ udp

/-- A frame of the stream engine, padded to 64 bytes with its FCS. -/
def State.peFrame (s : State) (bytes : List Byte) : Frame := { s.pcFrame bytes .none none with ingress := 8 }

/-- Queue one strand of a stream. -/
def State.sendStrand (s : State) (r : StreamRec) (b : Bool) (bytes : List Byte) : State :=
  let lane := if b then r.portB else r.portA
  let q := rd (s.lane lane).cfg.pcpMap r.pcp
  let queued := s.takes lane q (s.peFrame bytes)
  let s := s.enqueue lane q (s.peFrame bytes)
  let x := s.txSt r.id
  if !queued then s
  else s.setTx r.id (if b then { x with sentB := satAdd 32 x.sentB 1 } else { x with sentA := satAdd 32 x.sentA 1 })

/-- The transmit safe state of the stream engine is in force (10 R292, 14 R425) (assumption log 61; DEDUCED). -/
def State.txSafeNow (s : State) : Bool := s.str.txSafe || s.flt.engineSafe

/-- The transmit safe state was in force in the period that closes: its readings are not VALID (10 R292). -/
def State.txLatch (s : State) : State :=
  if !s.txSafeNow then s
  else { s with str := { s.str with tx := s.str.tx.map (fun q => (q.1, { q.2 with reads := match q.2.reads with
    | [] => []
    | x :: r => { x with safe := true } :: r })) } }

/-- Pack and queue the frame of media time `m` (10 R288, R301, R303, R310) (assumption log 61; DEDUCED). -/
def State.packFrame (s : State) (p : Plane) (r : StreamRec) (m : Nat) (reads : List TxRead) : State :=
  let samples := (reads.reverse.map (·.samples)).flatten
  let x := s.txSt r.id
  let strands := if r.roped then [false, true] else [false]
  if r.aes67 then
    if s.isBelay || s.txSafeNow then s
    else
      let clips := (samples.filter (fun v => saClamp v != v.toInt)).length
      let s := s.setTx r.id { x with clip := satAdd 32 x.clip clips }
      strands.foldl (fun s b =>
        match s.str.bindings.find? (fun e => !e.rx && e.streamId == r.id && e.strandB == b) with
        | none => s
        | some e => s.sendStrand r b (ownHeader r.destMac s.net.nodeMac r.tci 0x0800 ++ aesBytes r e m samples)) s
  else
    let valid := !reads.any (·.safe)
    let sub := reads.any (·.subst)
    let belay := s.isBelay
    let flags := packBits [(2, 0), (1, b2n r.roped), (1, 0), (1, b2n (belay && s.str.alignedTx && x.reached)), (1, b2n belay),
      (1, b2n sub), (1, b2n valid)]
    let frame (b : Bool) : List Byte := streamBytes r (flags + 8 * b2n b) s.nodeId m p.digest samples
    let s := s.setTx r.id { x with invalid := satAdd 32 x.invalid (b2n !valid), subst := satAdd 32 x.subst (b2n sub) }
    let s := strands.foldl (fun s b =>
      s.sendStrand r b (ownHeader r.destMac s.net.nodeMac r.tci s.net.etherType ++ frame b)) s
    if belay then s.ownFrame r.id m (valid && !sub) (befld (frame false) 16 4) (befld (frame false) 20 4) else s

/-- A transmit stream at the boundary that opens period n: the frame of n + 1 where one is due, then the reading of n
(10 R286, R288, R289, R293) (assumption log 61; DEDUCED). -/
def State.txStream (s : State) (p : Plane) (r : StreamRec) : State :=
  let m := s.per.mediaTime + 1
  let x := s.txSt r.id
  let s := if m % r.ptime = 0 && r.ptime ≤ x.reads.length && !s.gap then s.packFrame p r m (x.reads.take r.ptime) else s
  let slots := (List.range r.channels).map (r.first + ·)
  let reading : TxRead := ⟨slots.map s.slot, slots.any (mem s.ex.readSub), s.txSafeNow || s.muteFactor.isSome⟩
  let x := s.txSt r.id
  s.setTx r.id { x with reads := reading :: x.reads.take 95 }

/-! Reception (10 R294 to R300, R311). -/

/-- A media time rebuilt from its low `w` bits, modulo 2^64; none outside the window (10 R294). -/
def rebuildMedia (w : Nat) (f : Nat) (n : Nat) : Option Nat :=
  let d0 := (f + 2 ^ w - n % 2 ^ w) % 2 ^ w
  let d : Int := if 2 ^ (w - 1) ≤ d0 then (d0 : Int) - 2 ^ w else d0
  if d < -(2 ^ (w - 2)) || 2 ^ (w - 2) ≤ d then none else some (((n : Int) + d) % 2 ^ 64).toNat

/-- A counter of a receive stream. -/
def State.rxCount (s : State) (id : Nat) (f : RxCnt → RxCnt) : State :=
  let x := s.rxSt id
  s.setRx id { x with cnt := f x.cnt }

/-- A DIVERGE counts and is reported once per second (10 R298, R313). -/
def State.diverge (s : State) (id m : Nat) : State :=
  let x := s.rxSt id
  let x := { x with cnt := { x.cnt with diverge := satAdd 32 x.cnt.diverge 1 } }
  let due := match x.divergeAt with
    | none => true
    | some t => decide (t + 1000000000 ≤ s.now)
  if due then (s.setRx id { x with divergeAt := some s.now }).report 0x0504 0x18 id (packBits [(32, id), (32, m)])
  else s.setRx id x

/-- The copy of one media time meets the held copy (10 R298). -/
def State.mergeCopy (s : State) (id m : Nat) (c : HeldCopy) : State :=
  let x := s.rxSt id
  let hold (s : State) : State :=
    let x := s.rxSt id
    s.setRx id { x with held := insertKey x.held m c }
  match lookup? x.held m with
  | none => hold s
  | some h =>
    if h.class_ < c.class_ then hold s
    else if c.class_ = h.class_ && c.digest ≠ h.digest then
      let s := s.diverge id m
      if !c.belay && h.belay then hold s else s
    else s.setRx id { x with cnt := { x.cnt with unused := satAdd 32 x.cnt.unused 1 } }

/-- Origin and strand as an index of ARRIVE and USED: PA, PB, BA, BB. -/
def copyIx (belay b : Bool) : Nat := 2 * b2n belay + b2n b

/-- A checked copy of receive stream `r` with media time `m`: on time, not early, received and merged (10 R295, R297, R298).
`rows` are the samples per media time. -/
def State.receiveCopy (s : State) (r : StreamRec) (f : Frame) (m : Nat) (cls digest : Nat) (belay b : Bool)
    (rows : List (List Slot)) : State :=
  let id := r.id
  let rate := rateHz s.per.baseRate
  let lead : Int := ((m + r.offset : Nat) : Int) - f.arriveMt
  let room : Int := lead * 1000000000 - (f.arriveOff + 1000 : Nat) * rate
  if room < 0 then
    let x := s.rxSt id
    let (ts, hit) := slide x.lateTimes s.now 1000000 1 16
    let s := s.setRx id { x with lateTimes := ts, cnt := { x.cnt with late := satAdd 32 x.cnt.late 1 } }
    if hit then s.report 0x0505 0x18 id id else s
  else if 128 < lead then s.rxCount id (fun c => { c with early := satAdd 32 c.early 1 })
  else
    let s := s.rxCount id (fun c => { c with
      arrive := upd c.arrive (copyIx belay b) (fun v => satAdd 32 v 1)
      minMargin := min c.minMargin (room / (rate * 10 : Nat)).toNat })
    (List.range r.ptime).foldl (fun s k =>
      if s.per.mediaTime < m + k + r.offset then s.mergeCopy id (m + k) ⟨cls, digest, belay, b, m, rows.getD k []⟩ else s) s

/-- The rows of samples of a frame. -/
def sampleRows (r : StreamRec) (get : Nat → Slot) : List (List Slot) :=
  (List.range r.ptime).map (fun k => (List.range r.channels).map (fun c => get (k * r.channels + c)))

/-- A stream frame against a receive record (10 R297). -/
def State.rxFrame (s : State) (r : StreamRec) (f : Frame) (w : List Byte) : State :=
  let id := r.id
  let fl := befld w 5 1
  let ch := befld w 15 1
  let pt := befld w 14 1
  let belay := bit fl 5
  let format (s : State) : State := s.rxCount id (fun c => { c with format := satAdd 32 c.format 1 })
  if befld w 0 1 ≠ 0x10 || befld w 4 1 ≠ 1 || w.length < 24 + 4 * ch * pt then format s
  else if ch ≠ r.channels || pt ≠ r.ptime || r.aes67 || (befld w 6 2 % 4096 == id / 4096) == belay then format s
  else if belay && !(r.acceptBelay && bit fl 4) then s.rxCount id (fun c => { c with belaySkip := satAdd 32 c.belaySkip 1 })
  else match rebuildMedia 48 (befld w 8 6) f.arriveMt with
    | none => s.rxCount id (fun c => { c with window := satAdd 32 c.window 1 })
    | some m =>
      if m % r.ptime ≠ 0 then s.rxCount id (fun c => { c with window := satAdd 32 c.window 1 })
      else
        let cls := if !bit fl 7 then 1 else if bit fl 6 then 2 else 3
        s.receiveCopy r f m cls (befld w 16 4) belay (bit fl 3) (sampleRows r (fun i => BitVec.ofNat 32 (befld w (24 + 4 * i) 4)))

/-- The next frame of the PE queues, by strict priority, where it is of a kind, and the switch without it (09 R271)
(assumption log 62; DEDUCED). -/
def Net.takePe (n : Net) (sel : PeKind → Bool) : Option (Frame × Net) :=
  match n.takeNext 8 with
  | none => none
  | some (f, n) => if sel f.pe then some (f, n.release f) else none

/-- STREAM_FRAME_RX (10 R297, R302): the next stream frame that waits at PE (assumption log 62; DEDUCED). -/
def State.streamFrameRx (s : State) : State :=
  match s.net.takePe (fun k => match k with | .stream => true | .aes67 _ _ => false) with
  | none => s
  | some (f, n) =>
    let s := { s with net := n }
    let w := f.bytes.drop (ethInfo f.bytes).pay
    let id := befld w 1 3
    let s := match s.streamRec true id with
      | none => s
      | some r => s.rxFrame r f w
    let fl := befld w 5 1
    match s.streamRec false id with
    | none => s
    | some r =>
      if s.isBelay && !r.aes67 && !bit fl 5 && befld w 0 1 = 0x10 && befld w 4 1 = 1 then
        match rebuildMedia 48 (befld w 8 6) f.arriveMt with
        | none => s
        | some m => s.primFrame r m f.arriveMt (bit fl 7 && !bit fl 6) (befld w 16 4) (befld w 20 4)
      else s

/-- Offset and length of an RTP payload in a UDP payload; none where the header does not check (10 R311). -/
def rtpPayload (b : List Byte) : Option (Nat × Nat) :=
  let b0 := befld b 0 1
  let cc := b0 % 16
  let o := 12 + 4 * cc
  let ext := if bit b0 4 then 4 + 4 * befld b (o + 2) 2 else 0
  let pad := if bit b0 5 then befld b (b.length - 1) 1 else 0
  if b0 / 64 = 2 && o + ext + pad ≤ b.length then some (o + ext, b.length - (o + ext + pad)) else none

/-- AES67_PACKET_RX (10 R311): the next AES67 packet that waits at PE (assumption log 62; DEDUCED). -/
def State.aesPacketRx (s : State) : State :=
  match s.net.takePe (fun k => match k with | .stream => false | .aes67 _ _ => true) with
  | none => s
  | some (f, n) =>
    let s := { s with net := n }
    match f.pe with
    | .stream => s
    | .aes67 id b =>
      match s.streamRec true id, udpOff f.bytes with
      | some r, some u =>
        if !r.aes67 then s
        else
          let udp := slice f.bytes (u + 8) (befld f.bytes (u + 4) 2 - 8)
          let nb := r.sampleBytes
          let len := r.channels * r.ptime * nb
          let format (s : State) : State := s.rxCount id (fun c => { c with format := satAdd 32 c.format 1 })
          match rtpPayload udp with
          | none => format s
          | some (o, l) =>
            if l ≠ len || f.bytes.length < u + 8 + o + l then format s
            else
              let ssrc := befld udp 8 4
              let x := s.rxSt id
              let chg := match x.ssrc with | none => false | some v => v != ssrc
              let s := s.setRx id { x with ssrc := some ssrc, cnt := { x.cnt with ssrcChange := satAdd 32 x.cnt.ssrcChange (b2n chg) } }
              match rebuildMedia 32 (befld udp 4 4) f.arriveMt with
              | none => s.rxCount id (fun c => { c with window := satAdd 32 c.window 1 })
              | some t => s.receiveCopy r f (t + r.ptime) 3 (crc32 (slice udp o len)) false b
                  (sampleRows r (fun i => saRx (8 * nb) (BitVec.ofNat 32 (befld udp (o + nb * i) nb))))
      | _, _ => s

/-- One period of a receive stream (10 R300): the values written, whether they are substitutes, the next state, and whether
it enters FADE. -/
def RxSt.stepRx (x : RxSt) (v : Option (List Slot)) (n : Nat) : List Slot × RxSt × Bool :=
  let ramp (xs : List Slot) (k : Nat) : List Slot := xs.map (fun a => releaseVal a k)
  let fade (h : List Slot) (k : Nat) : List Slot := h.map (fun a => fadeVal a k)
  let zeros : List Slot := List.replicate n 0
  let put (vals : List Slot) (st : RxRun) (h : List Slot) (loss : Bool) : List Slot × RxSt × Bool :=
    (vals, { x with run := st, h := h, last := vals }, loss)
  let l := if x.last.isEmpty then zeros else x.last
  match x.run, v with
  | .muted, some xs => put (ramp xs 1) (.ramp 1) [] false
  | .muted, none => put zeros .muted [] false
  | .ramp k, some xs => if k < 32 then put (xs.map (fun a => BitVec.ofInt 32 (asr (a.toInt * ((k + 1 : Nat) : Int)) 5))) (.ramp (k + 1)) [] false
                        else put xs .run [] false
  | .ramp _, none => put (fade l 1) (.fade 1) l true
  | .run, some xs => put xs .run [] false
  | .run, none => put l (.conceal 1) [] false
  | .conceal _, some xs => put xs .run [] false
  | .conceal j, none => if j < 16 then put l (.conceal (j + 1)) [] false else put (fade l 1) (.fade 1) l true
  | .fade k, none => if k < 32 then put (fade x.h (k + 1)) (.fade (k + 1)) x.h false else put zeros .muted [] false
  | .fade _, some xs => put (ramp xs 1) (.ramp 1) [] false

/-- A receive stream in period n (10 R299, R300). -/
def State.rxStream (s : State) (r : StreamRec) : State :=
  let id := r.id
  let x := s.rxSt id
  let m : Int := (s.per.mediaTime : Int) - r.offset
  let held := if m < 0 then none else lookup? x.held m.toNat
  let used := held.filter (fun h => decide (2 ≤ h.class_) && !s.str.rxMissing && !s.gap)
  let x := { x with held := x.held.filter (fun p => decide (m < (p.1 : Int))),
                    usedFrames := x.usedFrames.filter (fun p => decide (m < (p.1 : Int) + 256)) }
  let x := match used with
    | none => { x with cnt := { x.cnt with missing := satAdd 32 x.cnt.missing 1 } }
    | some h =>
      let key := (h.frame, copyIx h.belay h.strandB)
      if mem x.usedFrames key then x
      else { x with usedFrames := key :: x.usedFrames, cnt := { x.cnt with used := upd x.cnt.used key.2 (fun v => satAdd 32 v 1) } }
  let (vals, x', loss) := x.stepRx (used.map (·.samples)) r.channels
  let s := s.setRx id x'
  let s := (List.range r.channels).foldl (fun s c => s.putSlot (r.first + c) (vals.getD c 0) (decide (x'.run ≠ .run))) s
  let s := if loss then s.raise 0x0503 0x18 id id else s
  if x'.run = .run && s.hasCond 0x0503 0x18 id then s.endCond 0x0503 0x18 id else s

/-- The streams in the period that a boundary opens (10 R286, R299, R304). -/
def State.streamsBoundary (s : State) : State :=
  let s := { s with str := { s.str with alignedTx := s.str.aligned } }
  match s.pl.live with
  | none => s
  | some p => p.streams.foldl (fun s r => if r.rx then s.rxStream r else s.txStream p r) s

/-- The streams at a commit (03 R112): kept streams go on, new and changed ones start anew. -/
def State.streamsCommit (s : State) (old new : List StreamRec) : State :=
  let same (o r : StreamRec) : Bool := decide ({ o with pcp := r.pcp } = r)
  let kept (r : StreamRec) : Bool := old.any (fun o => same o r)
  let rx := (new.filter (·.rx)).map (fun r => (r.id, if kept r then s.rxSt r.id else RxSt.fresh))
  let tx := (new.filter (fun r => !r.rx)).map (fun r => (r.id, if kept r then s.txSt r.id else TxSt.fresh))
  let gone := (old.filter (fun o => o.rx && !new.any (fun r => same o r))).map (·.id)
  let s := gone.foldl (fun s id => s.endCond 0x0503 0x18 id) s
  let s := { s with str := { s.str with
    rx := rx.foldl (fun l (p : Nat × RxSt) => insertKey l p.1 p.2) []
    tx := tx.foldl (fun l (p : Nat × TxSt) => insertKey l p.1 p.2) [] } }
  if s.isBelay then s.alignCheck else s.unalign

/-! Commands (10 R312 to R316). -/

/-- STATE of a receive stream (assumption log 82; DESIGN CHOICE). -/
def RxRun.code : RxRun → Nat
  | .muted => 0 | .ramp _ => 1 | .run => 2 | .conceal _ => 3 | .fade _ => 4

/-- STREAM_STATUS (10 R315). -/
def runStreamStatus (_ : Ctx) (dir id : Nat) (clear : Bool) (s : State) : Done × State :=
  if 1 < dir then (.range, s)
  else match s.streamRec (dir == 1) id with
    | none => (.fail .rejectedArgs 0x0090, s)
    | some _ =>
      if dir = 0 then
        let x := s.txSt id
        (.ok [(4, x.sentA), (4, x.sentB), (4, x.invalid), (4, x.subst), (4, x.clip)],
         if clear then s.setTx id { x with sentA := 0, sentB := 0, invalid := 0, subst := 0, clip := 0 } else s)
      else
        let x := s.rxSt id
        let c := x.cnt
        (.ok ([(1, x.run.code)] ++ c.arrive.toList.map (fun v => (4, v)) ++ c.used.toList.map (fun v => (4, v)) ++
          [(4, c.format), (4, c.belaySkip), (4, c.window), (4, c.late), (4, c.early), (4, c.unused), (4, c.diverge),
           (4, c.ssrcChange), (4, c.missing), (4, c.minMargin)]),
         if clear then s.setRx id { x with cnt := RxCnt.zero } else s)

/-- The smallest match run and its stream ID. -/
def State.minRun (s : State) : Nat × Nat :=
  match s.txIds with
  | [] => (0, 0)
  | i :: r => r.foldl (fun b j => if (s.txSt j).run < b.1 then ((s.txSt j).run, j) else b) ((s.txSt i).run, i)

/-- BELAY_STATUS (10 R315). -/
def runBelayStatus (_ : Ctx) (clear : Bool) (s : State) : Done × State :=
  let x := s.str
  let role := s.isBelay
  let (run, id) := s.minRun
  (.ok [(1, b2n role), (1, b2n (role && x.aligned)), (4, if role then s.txIds.length else 0), (4, run), (4, id), (4, x.match_),
    (4, x.mismatch), (4, x.missing), (4, x.skip), (4, x.alignedAt), (4, x.ctrlMisaddr), (4, x.ctrlBad)],
   if clear then { s with str := { x with match_ := 0, mismatch := 0, missing := 0, skip := 0, ctrlMisaddr := 0, ctrlBad := 0 } }
   else s)

/-- Two entries of one key. -/
def bindSame (a b : BindEntry) : Bool := a.dir == b.dir && a.streamId == b.streamId && a.strand == b.strand

/-- The AES67_BIND entries of the inline bytes or the buffer: 24 bytes each, addresses and ports in network order (10 R312). -/
def bindEntries (count : Nat) (data : List Byte) : List BindEntry :=
  (List.range count).map (fun i =>
    let le (o n : Nat) : Nat := leNat (slice data (24 * i + o) n)
    let be (o n : Nat) : Nat := beNat (slice data (24 * i + o) n)
    ⟨le 0 1, le 1 1, le 2 3, bit (le 5 1) 0, be 6 4, be 10 4, be 14 2, be 16 2, le 18 1, le 19 1, le 20 1⟩)

/-- An entry of AES67_BIND is in range (10 R312, R316). -/
def bindOk (e : BindEntry) : Bool :=
  decide (e.dir ≤ 1) && decide (e.strand ≤ 1) && decide (e.streamId < 2 ^ 24) && decide (e.srcIp < 2 ^ 32) && decide (e.dstIp < 2 ^ 32) && decide (e.srcPort < 65536) && decide (e.dstPort < 65536) &&
  (if e.rx then e.srcPort == 0 && e.ttl == 0 && e.dscp == 0 && e.pt == 0
   else within 1 255 e.ttl && decide (e.dscp ≤ 63) && within 96 127 e.pt)

/-- One binding applied. -/
def applyBind (t : List BindEntry) (e : BindEntry) : List BindEntry :=
  let rest := t.filter (fun x => !bindSame x e)
  if e.delete then rest else rest ++ [e]

/-- AES67_BIND (10 R312, R314, R316). -/
def runAes67Bind (c : Ctx) (count addr : Nat) (entries : List BindEntry) (s : State) : Done × State :=
  if noBuf c.port && addr != 0 then (.argPtr, s)
  else if !countOk addr count 1 256 || !entries.all bindOk ||
      entries.any (fun e => e.delete && entries.any (fun g => !g.delete && bindSame g e)) then (.range, s)
  else if entries.any (fun e => e.delete && !s.str.bindings.any (fun x => bindSame x e)) then (.fail .rejectedArgs 0x0080, s)
  else
    let t := entries.foldl applyBind s.str.bindings
    if 256 < t.length then (.fail .resource 0x0091, s)
    else (.ok [(4, entries.length), (4, t.length)], { s with str := { s.str with bindings := t } })

end Sys2Proof.Machine
end

