-- ==== Sys2Proof/Machine/TimeUnit.lean ====
section
/-!
DEFINITION. The time-stamp unit's rows and commands (11): snapshots, PPS_OUT, calibration, PTP settings and status.
-/
namespace Sys2Proof.Machine

/-- A signed result field in two's complement. -/
def sfld (n : Nat) (v : Int) : RField := (n, (v % (2 ^ (8 * n) : Int)).toNat)

/-- The snapshot registers latch a stamp (11 R324) (assumption log 52; DEDUCED). -/
def State.snap (s : State) : State :=
  { s with ts := { s.ts with snap := s.ts.tb.tick s.now, snapSeq := (s.ts.snapSeq + 1) % 256 } }

/-- PPS_OUT rises (11 R322): the timebase passes a whole second by advancing, within 2 ns of the row's time (assumption log
95; DESIGN CHOICE). -/
def State.ppsRise (s : State) (t : Nat) : State :=
  let ns := (s.ts.tb.tick t).ns
  let close := match s.ts.ppsLast with
    | none => false
    | some u => decide (t < u + 500000000)
  if s.ts.ppsEn && (decide (ns ≤ 2) || decide (999999998 ≤ ns)) && !close then
    { s with ts := { s.ts with ppsLast := some t, ppsUntil := t + s.ts.ppsWidth * 10000 } }
  else s

/-- TS_CAL_TIMEOUT (11 R343). -/
def State.calTimeout (s : State) (lane : Nat) : State :=
  let l := s.lane lane
  if l.pcsLock then
    (s.setTsLane lane { (s.tsLane lane) with stampValid := false }).raise 0x0406 (laneZone lane) lane l.mode
  else s

/-- TS_CALIBRATION_COMPLETE (11 R327, R343). -/
def State.calComplete (s : State) (lane : Nat) : State :=
  if (s.lane lane).pcsLock then
    (s.setTsLane lane { (s.tsLane lane) with stampValid := true }).endCond 0x0406 (laneZone lane) lane
  else s

/-- ANNOUNCE_RECEIPT_TIMEOUT (11 R345, 12 R349): the port leaves SLAVE or UNCALIBRATED; which of LISTENING and MASTER it
enters is free (assumption log 5) (assumption log 17; DESIGN CHOICE). -/
def State.announceTimeout (s : State) (lane : Nat) : State :=
  let l := s.tsLane lane
  if !s.pwr.cpRunning || !l.cfg.ptpEn then s
  else
    let l := { l with announceTimeouts := satAdd 32 l.announceTimeouts 1 }
    if l.portState = 8 || l.portState = 9 then
      let (v, s) := s.fresh
      s.setTsLane lane { l with portState := if v.getLsbD 0 then 4 else 6, offset := 0 }
    else s.setTsLane lane l

/-! Commands (11 R344 to R346). -/

/-- Result fields of a stamp. -/
def Stamp.fields (x : Stamp) : List RField := [(8, x.sec), (4, x.ns), (2, x.frac), (1, x.step)]

/-- TIME_GET (11 R321, R344). -/
def runTimeGet (_ : Ctx) (s : State) : Done × State :=
  (.ok ((s.ts.tb.tick s.now).fields ++ [(8, s.per.mediaTime)] ++ s.ts.boundary.fields), s)

/-- PTP_CONFIG applied. -/
def finPtpConfig (c : PtpCfg) (persist : Bool) (s : State) : Done × State :=
  let tc := decide (3 ≤ c.mode)
  let lanes := s.ts.lanes.map (fun l =>
    if tc then { l with portState := 0, offset := 0 } else if l.portState = 0 then { l with portState := 1 } else l)
  let s := { s with ts := { s.ts with ptp := c, lanes := lanes } }
  (.ok [(1, c.mode), (1, c.profile), (1, c.domain), (1, c.prio1), (1, c.prio2), (1, b2n c.twoStep)],
   if persist then { s with cfg := { s.cfg with ptp := some c } } else s)

/-- PTP_CONFIG (11 R339, R344). OC runs on one lane: with PTP_EN on several it is refused as R346 refuses the second lane
(assumption log 18; DEDUCED). -/
def runPtpConfig (_ : Ctx) (mode profile domain prio1 prio2 : Nat) (twoStep persist : Bool) (s : State) : Done × State :=
  if 4 < mode || 3 < profile || 127 < domain || 255 < prio1 || 255 < prio2 then (.range, s)
  else if mode = 1 && decide (1 < ((List.range 8).filter (fun i => (s.tsLane i).cfg.ptpEn)).length) then (.fail .rejectedState 0x00A1, s)
  else if persist then (.flash, s)
  else finPtpConfig ⟨mode, profile, domain, prio1, prio2, twoStep⟩ false s

/-- A value lies in a range of signed numbers. -/
def withinI (lo hi v : Int) : Bool := decide (lo ≤ v) && decide (v ≤ hi)

/-- The ranges of a profile (11 R340). -/
def profileRange (profile : Nat) (c : PtpPortCfg) : Bool :=
  within 2 10 c.announceTimeout && decide (c.ipv4 < 2 ^ 32) && decide (c.ipv6 < 2 ^ 128) &&
  match profile with
  | 0 => !c.p2p && withinI (-1) 1 c.logSync && withinI 0 4 c.logAnnounce && withinI 0 5 c.logMinDelay
  | 1 => c.p2p && !c.hybrid && withinI (-1) 1 c.logSync && withinI 0 4 c.logAnnounce && withinI 0 5 c.logMinDelay
  | 2 => withinI (-4) 1 c.logSync && withinI 0 4 c.logAnnounce && withinI (-3) 5 c.logMinDelay
  | _ => withinI (-7) (-1) c.logSync && withinI (-3) 1 c.logAnnounce && withinI (-7) 5 c.logMinDelay

/-- PTP_PORT_CONFIG applied. -/
def finPtpPortConfig (lane : Nat) (c : PtpPortCfg) (persist : Bool) (s : State) : Done × State :=
  let l := s.tsLane lane
  let st := if 3 ≤ s.ts.ptp.mode then 0 else if !c.ptpEn then 3 else if l.cfg.ptpEn then l.portState else 1
  let s := s.setTsLane lane { l with cfg := c, portState := st, offset := if st = 9 then l.offset else 0 }
  (.ok [(1, lane), (1, b2n c.ptpEn), (1, packBits [(1, b2n c.mapEth), (1, b2n c.mapIpv4), (1, b2n c.mapIpv6)]), (1, b2n c.p2p),
    (1, b2n c.hybrid), sfld 1 c.logSync, sfld 1 c.logAnnounce, (1, c.announceTimeout), sfld 1 c.logMinDelay, (4, c.ipv4), (16, c.ipv6)],
   if persist then { s with cfg := { s.cfg with ptpPorts := insertKey s.cfg.ptpPorts lane c } } else s)

/-- PTP_PORT_CONFIG (11 R340, R344, R346). -/
def runPtpPortConfig (_ : Ctx) (lane : Nat) (c : PtpPortCfg) (persist : Bool) (s : State) : Done × State :=
  if 7 < lane || !profileRange s.ts.ptp.profile c then (.range, s)
  else if 2 ≤ s.ts.ptp.profile && (c.mapEth || c.mapIpv6) then (.fail .rejectedArgs 0x00A0, s)
  else if c.ptpEn && s.ts.ptp.mode = 1 && (List.range 8).any (fun i => i != lane && (s.tsLane i).cfg.ptpEn) then
    (.fail .rejectedState 0x00A1, s)
  else if !s.domOn (laneDomain lane) then (.fail .rejectedState 0x0083, s)
  else if persist then (.flash, s)
  else finPtpPortConfig lane c false s

/-- A calibration argument as a signed number. -/
def calArg (v : Nat) : Int := (BitVec.ofNat 32 v).toInt

/-- TS_CAL_SET applied. -/
def finTsCalSet (lane mode calRx calTx : Nat) (persist : Bool) (s : State) : Done × State :=
  let l := s.tsLane lane
  let s := s.setTsLane lane { l with calRx := wr l.calRx mode (calArg calRx), calTx := wr l.calTx mode (calArg calTx) }
  (.ok [(1, lane), (1, mode), sfld 4 (calArg calRx), sfld 4 (calArg calTx)],
   if persist then { s with cfg := { s.cfg with cal := insertKey s.cfg.cal (lane * 3 + mode) (calArg calRx, calArg calTx) } } else s)

/-- TS_CAL_SET (11 R328, R344, R346). -/
def runTsCalSet (_ : Ctx) (lane mode calRx calTx : Nat) (persist : Bool) (s : State) : Done × State :=
  let ok (v : Nat) : Bool := decide (v < 2 ^ 32) && withinI (-655360000) 655360000 (calArg v)
  if 7 < lane || 2 < mode || !ok calRx || !ok calTx then (.range, s)
  else if !s.domOn (laneDomain lane) then (.fail .rejectedState 0x0083, s)
  else if persist then (.flash, s)
  else finTsCalSet lane mode calRx calTx false s

/-- PTP_STATUS (11 R345, R346). -/
def runPtpStatus (_ : Ctx) (lane : Nat) (clear : Bool) (s : State) : Done × State :=
  if 7 < lane then (.range, s)
  else
    let l := s.tsLane lane
    (.ok [(1, if l.cfg.ptpEn then l.portState else 3), (8, l.meanDelay), sfld 8 l.offset, (1, b2n l.stampValid), (4, l.rxEvent),
      (4, l.txEvent), (4, l.reports), (4, l.reportLost), (4, l.tcCorrected), (4, l.e2eDrop), (4, l.corrSat), (4, l.delayReqDrop),
      (4, l.announceTimeouts)],
     if clear then s.setTsLane lane { l with rxEvent := 0, txEvent := 0, reports := 0, reportLost := 0, tcCorrected := 0,
                                             e2eDrop := 0, corrSat := 0, delayReqDrop := 0, announceTimeouts := 0 }
     else s)

/-- PPS_OUT settings in force (11 R322, R323). -/
def State.setPps (s : State) (en : Bool) (width : Nat) : State :=
  { s with ts := { s.ts with ppsEn := en, ppsWidth := width, ppsUntil := if en then s.ts.ppsUntil else 0 } }

/-- PPS_OUT_CONFIG applied. -/
def finPpsOutConfig (en : Bool) (width : Nat) (persist : Bool) (s : State) : Done × State :=
  let s := s.setPps en width
  (.ok [(1, b2n en), (2, width)], if persist then { s with cfg := { s.cfg with pps := some (en, width) } } else s)

/-- PPS_OUT_CONFIG (11 R344, R346). -/
def runPpsOutConfig (_ : Ctx) (en : Bool) (width : Nat) (persist : Bool) (s : State) : Done × State :=
  if !within 1 50000 width then (.range, s)
  else if persist then (.flash, s)
  else finPpsOutConfig en width false s

end Sys2Proof.Machine
end

