-- ==== Sys2Proof/Machine/Selector.lean ====
section
/-!
DEFINITION. The reference selector and the media clock (12): candidates, evaluation, windows, steps, rate, commands.
-/
namespace Sys2Proof.Machine

/-- A candidate. -/
def Ref.c (r : Ref) (i : Nat) : Cand := rd r.cand i
/-- A candidate replaced. -/
def Ref.setC (r : Ref) (i : Nat) (c : Cand) : Ref := { r with cand := wr r.cand i c }
/-- The state with the selector replaced. -/
def State.setRef (s : State) (r : Ref) : State := { s with ref := r }

/-- The effective level (12 R351, R353). -/
def Cand.eff (c : Cand) : Nat :=
  if c.rxQl = 5 || c.rxQl = 0xF then c.rxQl else if c.soft then min 4 (c.rxQl + 1) else c.rxQl

/-- A candidate is enabled: mask, priority, not locked out (12 R354, R348). -/
def Ref.enabled (r : Ref) (i : Nat) : Bool :=
  bit r.pol.enableMask i && (i == 14 || r.pol.priority.getD i 0 != 0) && !(r.c i).lockout

/-- A candidate is eligible (12 R354). -/
def Cand.eligible (c : Cand) : Bool := decide (c.st = .eligible) && c.eff != 0xF

/-- The candidate carries time (12 R347, R348) (assumption log 26; DEDUCED). -/
def Ref.carriesTime (r : Ref) (i : Nat) : Bool :=
  decide (i < 8) || (i == 13 && bit r.pol.enableMask 14 && (r.c 14).qualified)

/-- The best eligible candidate: level, then priority, then index (12 R356). PPS and OSC are never selected (assumption log
26; DEDUCED). -/
def Ref.target (r : Ref) : Option Nat :=
  let key (i : Nat) : Nat := (r.c i).eff * 65536 + r.pol.priority.getD i 0 * 256 + i
  let el := (List.range 14).filter (fun i => (r.c i).eligible)
  match el with
  | [] => none
  | a :: l => some (l.foldl (fun b i => if key i < key b then i else b) a)

/-- Three Sync intervals of a lane, in ns (12 R349). -/
def syncLimit (logSync : Int) : Nat :=
  if 0 ≤ logSync then 3000000000 * 2 ^ logSync.toNat else 3000000000 / 2 ^ (-logSync).toNat

/-- Whether a candidate has signal at an evaluation (12 R349): the conditions of the loss table on what the detectors measured
and on what the state holds. In the transparent-clock modes no port is in SLAVE: the time of the Sync messages that arrive
counts (11 R339) (assumption log 97; DEDUCED). -/
def State.candSignal (s : State) (m : RefMeas) (i : Nat) : Bool :=
  let c := s.ref.c i
  decide ((rd m.offsets i).natAbs ≤ 190000000) && !c.lost &&
  (if i < 8 then
    let l := s.tsLane i
    l.cfg.ptpEn && l.stampValid && (l.portState == 8 || l.portState == 9 || decide (3 ≤ s.ts.ptp.mode)) &&
      decide (s.now < c.heard + syncLimit l.cfg.logSync)
  else if i < 12 then decide ((s.lane (i - 8)).st = .up) && c.rxQl != 0xF
  else if i = 12 then
    decide (m.wclkGap * rateHz s.per.baseRate < 4 * 1000000000) && decide (m.wclkDev ≤ 1000000000)
  else if i = 13 then decide (m.ref10Gap < 1000) && decide (m.ref10Dev ≤ 100000000)
  else (s.ref.c 13).qualified && decide (s.now < c.heard + 1500000000) && decide (c.dev ≤ 1000))

/-- A received QL is DNU after 5 s without an ESMC PDU (12 R349, R351). -/
def State.esmcFail (s : State) : State :=
  turns 4 s (fun i s =>
    let c := s.ref.c (8 + i)
    if c.heard + 5000000000 ≤ s.now then s.setRef (s.ref.setC (8 + i) { c with rxQl := 0xF }) else s)

/-- REF_DISQUAL is reported (12 R355, R374): cause 0 signal, 1 hard crossing. -/
def State.disqual (s : State) (i cause : Nat) : State := s.report 0x0303 0x02 i (packBits [(8, i), (8, cause)])

/-- The level of PPS is that of REF10M (12 R347) (assumption log 26; DEDUCED). -/
def Ref.ppsLevel (r : Ref) : Ref := r.setC 14 { (r.c 14) with rxQl := (r.c 13).rxQl, soft := (r.c 13).soft }

/-- A candidate starts over its qualification window; the last 100 s window since the signal returned stands (12 R350, R355)
(assumption log 25; DEDUCED). -/
def Cand.restart (c : Cand) (now : Nat) : Cand :=
  { c with st := .qualifying, qualified := false, w10 := now, off10 := none, hardOk10 := false, wtrSince := none }

/-- A candidate's signal at an evaluation: where it returns, the windows of both kinds start (12 R350, R352) (assumption log
25; DEDUCED). -/
def Cand.sees (c : Cand) (sig : Bool) (now : Nat) : Cand :=
  let c := { c with dev := 0, lost := false }
  if sig && !c.signal then
    { c with signal := true, w10 := now, w100 := now, off10 := none, off100 := none, hardOk10 := false, hardOk100 := true,
             soft10 := false }
  else { c with signal := sig }

/-- R350: one whole 10 s window with signal, and the windows since lie within the hard limit (assumption log 25; DEDUCED). -/
def Cand.meets (c : Cand) : Bool := c.off10.isSome && c.hardOk10 && c.hardOk100

/-- One candidate at an evaluation (12 R354, R355) (assumption log 24; DESIGN CHOICE). -/
def State.stepCand (s : State) (m : RefMeas) (i : Nat) : State :=
  let r := s.ref
  let sig := s.candSignal m i
  let c := (r.c i).sees sig s.now
  if !r.enabled i then
    -- a policy that makes SEL ineligible is no failure: SEL does not wait to restore (12 R360)
    let policy := !(bit r.pol.enableMask i && r.pol.priority.getD i 0 != 0)
    s.setRef (r.setC i { c with st := .disabled, qualified := false, wtrSince := none, off10 := none, hardOk10 := false,
                                before := c.before && !(policy && r.sel == i) })
  else match c.st with
  | .disabled => s.setRef (r.setC i { c with st := .noSignal })
  | .noSignal => s.setRef (r.setC i (if sig then c.restart s.now else c))
  | st =>
    if !sig then
      let s' := s.setRef (r.setC i { c with st := .noSignal, qualified := false, wtrSince := none })
      if c.qualified then s'.disqual i 0 else s'
    else match st with
    | .qualifying =>
      if c.meets then
        let c := { c with qualified := true, before := true }
        let c := if (r.c i).before then { c with st := .wtr, wtrSince := some s.now } else { c with st := .eligible }
        s.setRef { r.setC i c with timeValid := r.timeValid || decide (i < 8) }
      else s.setRef (r.setC i c)
    | .wtr =>
      -- a timer that ELIGIBLE to WTR holds at 0 starts when the level leaves DNU; a running one goes on (12 R355)
      match c.wtrSince with
        | none => s.setRef (r.setC i (if c.eff = 0xF then c else { c with wtrSince := some s.now }))
        | some t => s.setRef (r.setC i (if t + r.pol.wtrS * 1000000000 ≤ s.now then { c with st := .eligible, wtrSince := none } else c))
    | _ => s.setRef (r.setC i (if c.eff = 0xF then { c with st := .wtr, wtrSince := none } else c))

/-- The selector takes a new SEL and pulls in (12 R357 to R359) (assumption log 25; DEDUCED). -/
def State.switchTo (s : State) (t : Nat) : State :=
  let r := s.ref
  let s := s.report 0x0302 0x02 0xFFFF (packBits [(8, r.sel), (8, t)])
  let s := if r.st = .bivouac then s.endCond 0x0306 0x02 0xFFFF else if r.st = .freerun then s.endCond 0x0307 0x02 0xFFFF else s
  (s.setRef { r with st := .pullin, sel := t, switches := satAdd 16 r.switches 1, lockSince := none, bigErrs := 0, baseHist := [],
                     baseFrozen := (r.c t).soft, integ := r.freqPpt * 65536 }).event 5

/-- The selector without a candidate (12 R357): bivouac at a valid baseline, else free run. -/
def State.dropSel (s : State) : State :=
  let r := { s.ref with sel := 0xF, lockSince := none, bigErrs := 0, baseHist := [], baseFrozen := false }
  let s := if r.baseValid then (s.setRef { r with st := .bivouac }).raise 0x0306 0x02 0xFFFF (sfld 4 r.base).2
    else (s.setRef { r with st := .freerun }).raise 0x0307 0x02 0xFFFF 0
  s.event 5

/-- The selector's transition at an evaluation (12 R357). -/
def State.selectorStep (s : State) (locked : Bool) : State :=
  let r := s.ref
  match r.st, r.target with
  | .freerun, none => s
  | .bivouac, none => s
  | .freerun, some t => s.switchTo t
  | .bivouac, some t => s.switchTo t
  | _, none => s.dropSel
  | .locked, some t => if t = r.sel then s else s.switchTo t
  | .pullin, some t =>
    if t ≠ r.sel then s.switchTo t
    else if !locked then s.setRef { r with lockSince := none }
    else match r.lockSince with
      | none => s.setRef { r with lockSince := some s.now }
      | some u => if u + 10000000000 ≤ s.now then (s.setRef { r with st := .locked, baseHist := [] }).event 5 else s

/-- The baseline at an evaluation in LOCKED (12 R359): the last 100 s, valid from 10 s on (assumption log 24; DESIGN CHOICE). -/
def Ref.average (r : Ref) : Ref :=
  if r.st = .locked then
    let h := (r.freqPpt :: r.baseHist).take 100000
    let r := { r with baseHist := h }
    if r.baseFrozen || h.length < 10000 then r else { r with base := meanI h, baseValid := true }
  else r

/-- The frequency applied to the steered clock, clamped to 200 ppm, and its history (12 R361, R367). -/
def State.applyFreq (s : State) (want : Int) : State :=
  let f := max (-200000000) (min 200000000 want)
  let s := (if f = want then s else s.report 0x030A 0x02 0xFFFF (sfld 4 want).2).setFreq f
  s.setRef { s.ref with freqHist := (f :: s.ref.freqHist).take 1000 }

/-- One step of the type-2 loop on a phase error in ns, the timebase or the steered clock ahead counted positive: the integral
gain is a quarter of the square of the proportional one, which makes the damping factor 1.0 (12 R361) (assumption log 96;
DESIGN CHOICE). -/
def State.dpll (s : State) (err : Int) : State :=
  let r := s.ref
  let g : Int := Config.dpllGain r.pol.dpllBw
  let integ := r.integ - g * g * err / (2 ^ 18 * 10 ^ 6)
  (s.setRef { r with integ := integ }).applyFreq ((integ - g * err) / 65536)

/-- While the control processor is paused, a SEL that hardware measures stays in the loop while it has signal; one that loses it
puts the DPLL into hardware holdover, and the loss is kept for the first evaluation after the pause (12 R367). -/
def State.selLost (s : State) : State :=
  let r := s.ref
  if s.pwr.cpRunning || !r.following || decide (r.sel < 8) then s
  else (s.setRef (r.setC r.sel { (r.c r.sel) with lost := true })).hwHoldover

/-- What goes on in a pause of the control processor at the time of an evaluation (12 R367). -/
def State.pausedEval (s : State) (m : RefMeas) : State :=
  let r := s.ref
  let s := s.setRef { r with cand := Vector.ofFn (fun i : Fin 16 =>
    let c := r.c i.val
    { c with lost := c.lost || (c.signal && i.val != 15 && !s.candSignal m i.val), dev := 0 }) }
  if !r.following || decide (r.sel < 8) || r.cpHold then s
  else if !s.candSignal m r.sel then s.selLost
  else
    let s := s.dpll m.err
    if 100 < m.worst then s.setRef { s.ref with lockSince := none } else s

/-- The media rate (12 R363), in 2^-16 ns per s, and the end of the first alignment (12 R364) (assumption log 24; DESIGN
CHOICE). -/
def Ref.mediaRate (r : Ref) : Ref :=
  let clamp (v lim : Int) : Int := max (-lim) (min v lim)
  let r := if !r.aligned && r.acquiring && -(10 * 65536) ≤ r.offset && r.offset ≤ 10 * 65536 then { r with aligned := true, acquiring := false } else r
  { r with rate :=
      if !r.aligned && r.acquiring then clamp (-r.offset * 100) (100000 * 65536)
      else if !r.aligned then 0
      else clamp (-r.offset / 100) ((r.pol.slope : Int) * 65536) }

/-- REF_EVALUATION (12 R355 to R364) on what the detectors measure. The phase error is that
of the SEL of the last evaluation: a retarget leaves the frequency as it is (R358) (assumption log 16, 96; DESIGN CHOICE). -/
def State.evaluate (s : State) (m : RefMeas) : State :=
  if !s.pwr.cpRunning then s.pausedEval m
  else
    let was := s.ref
    let s := turns 15 s.esmcFail (fun i s => s.stepCand m i)
    let s := s.setRef s.ref.ppsLevel
    let s := s.selectorStep (decide (m.worst ≤ 100))
    let r := { s.ref with cpHold := false }
    let s := s.setRef r
    let s := match r.st with
      | .freerun => s.applyFreq r.trim
      | .bivouac => s.applyFreq r.base
      | _ => if was.following && !was.cpHold && was.sel == r.sel then s.dpll m.err else s.applyFreq r.freqPpt
    let r := s.ref.average
    let r := if r.st = .locked && r.carriesTime r.sel && !r.aligned && !r.acquiring then { r with relabel := true } else r
    s.setRef r.mediaRate

/-- The lower of the middle values of a list (12 R352) (assumption log 24; DESIGN CHOICE). -/
def lowerMedian (l : List Int) : Int :=
  ((sortBy (fun a b => decide (a ≤ b)) l)[(l.length - 1) / 2]?).getD 0

/-- The length of a measurement window in ns (12 R352). -/
def windowLen (long : Bool) : Nat := if long then 100000000000 else 10000000000
/-- The start of the present window of a kind. -/
def Cand.windowAt (c : Cand) (long : Bool) : Nat := if long then c.w100 else c.w10
/-- The present window of a kind is complete (assumption log 25; DEDUCED). -/
def Cand.windowDue (c : Cand) (long : Bool) (now : Nat) : Bool := decide (c.windowAt long + windowLen long ≤ now)
/-- The next window of a kind follows on the complete ones: windows are consecutive (12 R352) (assumption log 25; DEDUCED). -/
def Cand.nextWindow (c : Cand) (long : Bool) (now : Nat) : Cand :=
  let w := c.windowAt long + (now - c.windowAt long) / windowLen long * windowLen long
  if long then { c with w100 := w } else { c with w10 := w }

/-- A window of one candidate ends with a drift (12 R352, R353) (assumption log 25; DEDUCED). -/
def State.windowOf (s : State) (long : Bool) (offsets : Vector Int 16) (quals : List Nat) (i : Nat) : State :=
  let r := s.ref
  let c := r.c i
  if !c.signal || !c.windowDue long s.now then s
  else
    let c := c.nextWindow long s.now
    let off := rd offsets i
    let others := (quals.filter (· != i)).map (fun j => rd offsets j)
    let ref := if 2 ≤ others.length then lowerMedian others else r.trim
    let drift := (off - ref).natAbs
    let d := min drift 0xFFFFFFFF
    let soft := decide (r.pol.softPpt < drift)
    let hard := decide (r.pol.hardPpt < drift)
    let c := if long then { c with drift100 := d, off100 := some off, hardOk100 := !hard }
      else { c with drift10 := d, off10 := some off, hardOk10 := !hard, soft10 := c.soft10 || soft }
    let clears := long && !soft && !c.soft10 && c.soft
    let first := soft && !c.soft
    let c := { c with soft := if soft then true else if clears then false else c.soft, soft10 := if long then false else c.soft10 }
    let r := r.setC i c
    let r := if i = r.sel && r.following then
        (if first then { r with baseFrozen := true } else if clears then { r with baseFrozen := false } else r) else r
    let s := s.setRef r
    let data := packBits [(8, i), (32, d)]
    let s := if soft then s.raise 0x0304 0x02 i data else if clears then s.endCond 0x0304 0x02 i else s
    if hard then
      let s := s.report 0x0305 0x02 i data
      let s := if c.st = .disabled || c.st = .noSignal then s else s.setRef (s.ref.setC i (c.restart s.now))
      if c.qualified then s.disqual i 1 else s
    else s

/-- REF_WINDOW_END (12 R352, R353, R367): windows that end while the control processor is paused are discarded (assumption
log 16, 25; DESIGN CHOICE, DEDUCED). -/
def State.windowEndRef (s : State) (long : Bool) (offsets : Vector Int 16) : State :=
  if !s.pwr.cpRunning then
    s.setRef { s.ref with cand := s.ref.cand.map (fun c => if c.signal && c.windowDue long s.now then c.nextWindow long s.now else c) }
  else
    let quals := (List.range 15).filter (fun i => (s.ref.c i).qualified)
    let s := turns 15 s (fun i s => s.windowOf long offsets quals i)
    s.setRef s.ref.ppsLevel

/-- A phase measurement of a time-carrying SEL; the third in a row at or above STEP_NS steps the timebase (12 R362). -/
def State.phase (s : State) (err : Int) : State :=
  let r := s.ref
  if err.natAbs < r.pol.stepNs then s.setRef { r with bigErrs := 0 }
  else if r.bigErrs < 2 then s.setRef { r with bigErrs := r.bigErrs + 1 }
  else
    let tb := s.ts.tb.turn s.now
    let tb := { tb with val := max 0 (tb.val - err * 2 ^ 48), step := (tb.step + 1) % 256 }
    ({ s with ts := { s.ts with tb := tb }, ref := { r with bigErrs := 0, offset := r.offset - err * 65536 } } : State).report
      0x0308 0x02 0xFFFF (sfld 8 (-err)).2

/-- The selector follows candidate `i`. -/
def Ref.follows (r : Ref) (i : Nat) : Bool := r.following && r.sel == i

/-- PTP_SERVO_UPDATE (12 R362) (assumption log 16; DESIGN CHOICE). -/
def State.servo (s : State) (lane : Nat) (err : Int) : State :=
  if !s.pwr.cpRunning then s
  else
    let l := s.tsLane lane
    let s := s.setTsLane lane { l with offset := if l.portState = 9 then err * 65536 else 0 }
    let s := s.setRef (s.ref.setC lane { (s.ref.c lane) with heard := s.now })
    if s.ref.follows lane then s.phase err else s

/-- PPS_IN_EDGE (12 R348, R349, R362): the timebase's error at the edge, and the edge's deviation from the time that REF10M
predicts. -/
def State.ppsIn (s : State) (err : Int) (dev : Nat) : State :=
  let c := s.ref.c 14
  let s := s.setRef (s.ref.setC 14 { c with heard := s.now, dev := max c.dev dev })
  if s.pwr.cpRunning && s.ref.follows 13 && s.ref.carriesTime 13 then s.phase err else s

/-- The SSM that a lane sends (12 R351, R369). -/
def State.ssmOf (s : State) (lane : Nat) : Nat :=
  let r := s.ref
  if r.st = .freerun || r.st = .bivouac then 0xB
  else if lane < 4 && r.sel == 8 + lane then 0xF
  else match (r.c r.sel).eff with
    | 0 => 0x2 | 1 => 0x4 | 2 => 0x8 | 3 => 0xB | 4 => 0xB | _ => 0xF

/-- ESMC_PDU_TX (12 R369). The frame's layout is that of ITU-T G.8264, its queue 7 (assumption log 8). -/
def State.esmcSend (s : State) (lane : Nat) : State :=
  let l := s.lane lane
  if !s.pwr.cpRunning || !l.esmcTx || 7 < lane then s
  else
    let ssm := s.ssmOf lane
    let ev := match l.ssmSent with | none => false | some v => v != ssm
    let bytes := ownHeader 0x0180C2000002 s.net.nodeMac none 0x8809 ++ beBytes 6 0x0A0019A70001 ++
      [if ev then 0x18#8 else 0x10#8, 0, 0, 0, 0x01#8, 0, 0x04#8, BitVec.ofNat 8 ssm] ++ List.replicate 32 0
    (s.setLane lane { l with ssmSent := some ssm }).enqueue lane 7 (s.pcFrame bytes .none none)

/-! Commands (12 R375, R376). -/

/-- STATE code of the selector (assumption log 82; DESIGN CHOICE). -/
def SelSt.code : SelSt → Nat
  | .freerun => 0 | .pullin => 1 | .locked => 2 | .bivouac => 3
/-- STATE code of a candidate (assumption log 82; DESIGN CHOICE). -/
def CandSt.code : CandSt → Nat
  | .disabled => 0 | .noSignal => 1 | .qualifying => 2 | .wtr => 3 | .eligible => 4

/-- EFF_QL of REF_STATUS (12 R370). -/
def Ref.effSel (r : Ref) : Nat := if r.st = .freerun || r.st = .bivouac then 5 else (r.c r.sel).eff % 8

/-- WTR_LEFT in seconds, rounded up (12 R373). -/
def Ref.wtrLeft (r : Ref) (now i : Nat) : Nat :=
  let c := r.c i
  if c.st = .wtr then
    match c.wtrSince with
    | none => r.pol.wtrS
    | some t => (t + r.pol.wtrS * 1000000000 - now + 999999999) / 1000000000
  else 0

/-- Media offset in whole ns (assumption log 24; DESIGN CHOICE). -/
def Ref.offsetNs (r : Ref) : Int := r.offset / 65536
/-- Media rate in ppt: 1 ns per s is 1000 ppt. -/
def Ref.ratePpt (r : Ref) : Int := r.rate * 1000 / 65536

/-- REF_STATUS_GET. -/
def runRefStatusGet (_ : Ctx) (clear : Bool) (s : State) : Done × State :=
  let r := s.ref
  let cands := (List.range 16).flatMap (fun i =>
    let c := r.c i
    [(2, r.wtrLeft s.now i), (1, c.rxQl), (1, c.eff), (1, b2n c.soft), (1, b2n c.qualified), (1, b2n (r.sel == i && i != 15)),
     (1, b2n c.lockout), (1, c.st.code), (4, c.drift10), (4, c.drift100)])
  (.ok ([(2, r.switches), (1, b2n r.baseValid), (1, b2n r.cpHold), (1, b2n r.timeValid), (1, b2n r.aligned), (1, b2n r.acquiring),
      (1, r.effSel), (1, r.sel), (1, r.st.code), sfld 4 r.freqPpt, sfld 4 r.base, sfld 8 r.offsetNs, sfld 4 r.ratePpt,
      sfld 4 r.trim, (1, s.ts.tb.step)] ++ cands),
   if clear then s.setRef { r with switches := 0 } else s)

/-- REF_CAND_CONFIG applied. RX_QL 0xFF names none. -/
def finRefCandConfig (i : Nat) (lockout : Bool) (ql : Nat) (persist : Bool) (s : State) : Done × State :=
  let c := s.ref.c i
  let q := if ql = 0xFF then c.rxQl else ql
  let s := s.setRef ((s.ref.setC i { c with lockout := lockout, rxQl := q }).ppsLevel)
  (.ok [(1, i), (1, b2n lockout), (1, q)],
   if persist then { s with cfg := { s.cfg with cands := insertKey s.cfg.cands i (lockout, q) } } else s)

/-- REF_CAND_CONFIG. -/
def runRefCandConfig (_ : Ctx) (i : Nat) (lockout : Bool) (ql : Nat) (persist : Bool) (s : State) : Done × State :=
  if 14 < i || !(ql == 0xFF || ((i == 12 || i == 13) && decide (ql ≤ 3))) then (.range, s)
  else if persist then (.flash, s)
  else finRefCandConfig i lockout ql false s

/-- REF_OSC_TRIM_SET applied. -/
def finRefOscTrimSet (trim : Int) (persist : Bool) (s : State) : Done × State :=
  let s := s.setRef { s.ref with trim := trim }
  (.ok [sfld 4 trim], if persist then { s with cfg := { s.cfg with trim := some trim } } else s)

/-- REF_OSC_TRIM_SET (12 R371). -/
def runRefOscTrimSet (_ : Ctx) (trim : Int) (persist : Bool) (s : State) : Done × State :=
  if 200000000 < trim.natAbs then (.range, s)
  else if persist then (.flash, s)
  else finRefOscTrimSet trim false s

/-- MEDIA_REALIGN (12 R364, R376). -/
def runMediaRealign (_ : Ctx) (s : State) : Done × State :=
  if (List.range 14).any (fun i => s.ref.carriesTime i && (s.ref.c i).eligible) then
    (.ok [], s.setRef { s.ref with aligned := false, acquiring := false })
  else (.fail .rejectedState 0x00B1, s)

/-- MCLK_CONFIG applied. -/
def finMclkConfig (w : Bool) (m0 m1 : Nat) (persist : Bool) (s : State) : Done × State :=
  let s := s.setRef { s.ref with wclkEn := w, mult0 := m0, mult1 := m1 }
  (.ok [(1, b2n w), (2, m0), (2, m1)], if persist then { s with cfg := { s.cfg with mclk := some (w, m0, m1) } } else s)

/-- MCLK_CONFIG (12 R368). -/
def runMclkConfig (_ : Ctx) (w : Bool) (m0 m1 : Nat) (persist : Bool) (s : State) : Done × State :=
  let ok (m : Nat) : Bool := mem [0, 64, 128, 256, 512] m && decide (m * rateHz s.per.baseRate ≤ 49152000)
  if !ok m0 || !ok m1 then (.range, s)
  else if persist then (.flash, s)
  else finMclkConfig w m0 m1 false s

/-- ESMC_CONFIG applied. -/
def finEsmcConfig (lane : Nat) (sy es persist : Bool) (s : State) : Done × State :=
  let s := s.setLane lane { (s.lane lane) with synceTx := sy, esmcTx := es, ssmSent := if es then (s.lane lane).ssmSent else none }
  (.ok [(1, lane), (1, b2n sy), (1, b2n es)],
   if persist then { s with cfg := { s.cfg with esmc := insertKey s.cfg.esmc lane (sy, es) } } else s)

/-- ESMC_CONFIG (12 R369, R376). -/
def runEsmcConfig (_ : Ctx) (lane : Nat) (sy es persist : Bool) (s : State) : Done × State :=
  if 7 < lane then (.range, s)
  else if !s.domOn (laneDomain lane) then (.fail .rejectedState 0x0083, s)
  else if persist then (.flash, s)
  else finEsmcConfig lane sy es false s

end Sys2Proof.Machine
end

