-- ==== Sys2Proof/Machine/Pstage.lean ====
section
/-!
DEFINITION. Power-stage channels (13 R377 to R400): states and holds, trips, rails, converters, DC detection, the period.
-/
namespace Sys2Proof.Machine

/-- Channel `k`. -/
def State.chan (s : State) (k : Nat) : Chan := rd s.pst.chans k
/-- Channel `k` replaced, alone. -/
def State.setHalf (s : State) (k : Nat) (c : Chan) : State := { s with pst := { s.pst with chans := wr s.pst.chans k c } }
/-- The LIVE record of a channel. -/
def State.modRec (s : State) (k : Nat) : Option ModRec := s.pl.live.bind (fun p => p.modulators.find? (fun r => r.channel == k))
/-- The channel is half of a BTL pair (13 R379). -/
def State.paired (s : State) (k : Nat) : Bool :=
  match s.modRec (k / 2 * 2), s.modRec (k / 2 * 2 + 1) with
  | some a, some b => a.btl && b.btl
  | _, _ => false
/-- The channel that holds the state. -/
def State.lead (s : State) (k : Nat) : Nat := if s.paired k then k / 2 * 2 else k
/-- The halves of a channel. -/
def State.halves (s : State) (l : Nat) : List Nat := if s.paired l then [l / 2 * 2, l / 2 * 2 + 1] else [l]
/-- The channels that hold a state of their own. -/
def State.leads (s : State) : List Nat := (List.range 32).filter (fun k => s.lead k == k)

/-- What the pair shares, copied from `a` into the other half `b`. -/
def Chan.mirror (a b : Chan) : Chan :=
  { b with st := a.st, flt := a.flt, rail := a.rail, host := a.host, sense := a.sense, ssFrom := a.ssFrom, stop := a.stop
           resume := a.resume, gain := a.gain, hiccup := a.hiccup, hist := a.hist, latchDc := a.latchDc
           u := -a.u, frozen := a.frozen, limEnd := a.limEnd }

/-- A channel's state put in place, and mirrored into the other half of a pair. -/
def State.setChan (s : State) (l : Nat) (c : Chan) : State :=
  let s' := s.setHalf l c
  if s.paired l then s'.setHalf (l + 1) (c.mirror (s.chan (l + 1))) else s'

/-- The channel is switching (13 R378). -/
def Chan.switching (c : Chan) : Bool := decide (c.st = .softstart ∨ c.st = .run)
/-- A hold cause is present (13 R396). -/
def State.held (s : State) (c : Chan) : Bool := c.flt || c.rail || c.host || c.sense || s.pst.safeN || s.pst.tw
/-- ENABLED of a channel's record. -/
def State.enabled (s : State) (k : Nat) : Bool := ((s.modRec k).map (·.enabled)).getD false
/-- The zone of a channel (01 R17). -/
def chanZone (k : Nat) : Nat := 0x80 + k

/-- STATE codes (13 R403). -/
def ChSt.code : ChSt → Nat
  | .off => 0 | .held => 1 | .softstart => 2 | .run => 3 | .tripped => 4 | .latched => 5

/-- A PSTAGE_STOP learns that a channel's gates are low at the present boundary (13 R407). -/
def State.stopEnded (s : State) (l : Nat) : State :=
  let stops := s.pst.stops.map (fun (x : StopCmd) =>
    if mem x.wait l then { x with wait := remove x.wait l, last := some s.per.mediaTime } else x)
  let ended := stops.filter (fun x => x.wait.isEmpty)
  let s := { s with pst := { s.pst with stops := stops.filter (fun x => !x.wait.isEmpty) } }
  ended.foldl (fun s x => s.complete x.port x.handle .ok 0 (leBytes 8 (x.last.getD s.per.mediaTime))) s

/-- A channel enters another state (13 R397): leaving TRIPPED or LATCHED ends its conditions, ceasing to switch ends soft
start and stop ramp (assumption log 67; DEDUCED). -/
def State.enter (s : State) (l : Nat) (st : ChSt) : State :=
  let c := s.chan l
  if c.st = st then s
  else
    let tl (x : ChSt) : Bool := decide (x = .tripped ∨ x = .latched)
    let s1 := if tl c.st && !tl st then
        (s.halves l).foldl (fun s h => ((s.endCond 0x0901 (chanZone h) h).endCond 0x0902 (chanZone h) h).endCond 0x0903 (chanZone h) h) s
      else s
    let sw := decide (st = .softstart ∨ st = .run)
    let c' := { c with st := st }
    let c' := if sw then (if st = .softstart then { c' with ssFrom := none } else c')
      else { c' with ssFrom := none, stop := none, gain := 0, u := 0 }
    let c' := if st = .tripped then c' else { c' with hiccup := none }
    let s2 := s1.setChan l c'
    let s3 := if !sw && c.stop.isSome then s2.stopEnded l else s2
    if tl st then s3.event 6 else s3

/-- After a hold cause was set or released, with the channel's flags already in place (13 R397). -/
def State.holdChanged (s : State) (l : Nat) : State :=
  let c := s.chan l
  let s := s.event 6
  if s.held c then
    (if c.switching && (c.flt || c.rail || c.sense || s.pst.safeN || s.pst.tw) then s.enter l .held else s)
  else if c.st = .held && s.enabled l && c.resume.isNone then s.enter l .softstart
  else s

/-- A channel's own hold causes, changed by `f`. -/
def State.setHold (s : State) (l : Nat) (f : Chan → Chan) : State :=
  let c := s.chan l
  let c' := f c
  if c' = c then s else (s.setChan l c').holdChanged l

/-- The engine-wide hold causes changed (SAFE_N, TW). -/
def State.setGlobalHold (s : State) (f : Pst → Pst) : State :=
  let p := f s.pst
  if p.safeN == s.pst.safeN && p.tw == s.pst.tw then { s with pst := p }
  else
    let s := { s with pst := p }
    s.leads.foldl (fun s l => s.holdChanged l) s

/-- HOST is set on a channel: a switching channel runs its stop ramp first (13 R396, R399). -/
def State.hostHold (s : State) (l : Nat) : State :=
  let c := s.chan l
  if c.host then s
  else
    let c := { c with host := true, stop := if c.switching && c.stop.isNone then some none else c.stop }
    (s.setChan l c).event 6

/-! Trips (13 R388 to R392, R398). -/

/-- TRIP qualifies on half `k` (13 R390, R392, R397, R398); `peak` is the peak current of R398 (assumption log 29; DEDUCED). -/
def State.trip (s : State) (k peak : Nat) : State :=
  let l := s.lead k
  let c := s.chan l
  let half := k - l
  let again := decide (c.st = .tripped ∨ c.st = .latched) && s.paired k &&
    (match c.hist.getLast? with | some (t, _) => decide (s.now < t + 35) | none => false)
  if !s.domOn 12 || again then s
  else if !c.switching then s.report 0x0905 (chanZone k) k (packBits [(8, half), (8, c.st.code)])
  else
    let third := decide (2 ≤ c.hist.length) &&
      (match c.hist[c.hist.length - 2]? with | some (t, _) => decide (s.now ≤ t + 10000000000) | none => false)
    let s := s.setChan l { c with hist := (c.hist ++ [(s.now, s.per.mediaTime)]).drop (c.hist.length + 1 - 3) }
    let h := s.chan k
    let s := s.setHalf k { h with trips := satAdd 16 h.trips 1, peak := peak % 65536, tripMt := s.per.mediaTime % 2 ^ 32 }
    let s := s.raise 0x0901 (chanZone k) k (packBits [(8, half), (16, peak)])
    if third then (s.enter l .latched).raise 0x0902 (chanZone k) k 0
    else
      let s := s.enter l .tripped
      s.setChan l { (s.chan l) with hiccup := some (s.now + ((s.modRec l).map (·.hiccupMs)).getD 0 * 1000000) }

/-- HICCUP_EXPIRY (13 R397). -/
def State.hiccupEnd (s : State) (k : Nat) : State :=
  let l := s.lead k
  let c := s.chan l
  match c.hiccup with
  | none => s
  | some t =>
    if c.st ≠ .tripped || s.now < t then s
    else s.enter l (if !s.enabled l then .off else if s.held c then .held else .softstart)

/-- Grid steps of a period (13, before R381). -/
def gridSteps (rate : Nat) : Nat := 2 ^ (23 - rate / 2)
/-- The grid clock in Hz, times 8,192. -/
def gridHz (rate : Nat) : Nat := 8192 * (if rate % 2 = 0 then 45158400 else 49152000)

/-- `2 * d` grid steps, `d` counted from an ideal transition, lie at or beyond half of DEADTIME (units of 0.5 ns) (13 R382). -/
def pastDead (rate deadtime : Nat) (d2 : Int) : Bool := decide ((deadtime * gridHz rate : Nat) ≤ d2 * 2000000000)

/-- The levels of GD_Hk and GD_Lk that the present cycle calls for at grid step `x`: high for h steps centred in the cycle, both
low for DEADTIME around each ideal transition (13 R382); a side that LIMIT ends gives way to the other after DEADTIME, up to the
next scheduled transition to that side or the end of the cycle (13 R389) (assumption log 28; DEDUCED). -/
def Chan.gatesAt (c : Chan) (rate deadtime : Nat) (x : Int) : Bool × Bool :=
  let up := 2 * (x - c.start) - ((c.cycle : Int) - c.high)
  let down := 2 * (x - c.start) - ((c.cycle : Int) + c.high)
  let past := pastDead rate deadtime
  let early (v : Int) : Bool := pastDead rate deadtime (-v) && decide (v ≠ 0)
  let began := !c.fromHigh || past (2 * (x - c.start))
  let h := past up && early down
  let l := (early up && began) || past down
  match c.limAt with
  | none => (h, l)
  | some (pos, y) =>
    if x < y then (h, l)
    else
      let other := past (x - y)
      if pos then (false, other)
      else if 2 * (y - c.start) < (c.cycle : Int) - c.high then (other && early down, past down)
      else (other, false)

/-- The grid step of a time in the present period. -/
def State.gridAt (s : State) (t : Nat) : Int := ((t : Int) - s.per.openedAt) * (gridHz s.per.baseRate : Nat) / 1000000000

/-- The levels at the balls GD_Hk and GD_Lk at the present time: both low unless the channel switches (13 R377, R378, R390). -/
def State.gates (s : State) (k : Nat) (x : Int) : Bool × Bool :=
  match s.modRec k with
  | none => (false, false)
  | some r =>
    if !s.domOn 12 || !(s.chan k).switching || (s.chan k).ssFrom.isNone || (s.chan k).cycle == 0 then (false, false)
    else (s.chan k).gatesAt s.per.baseRate r.deadtime x

/-- LIMIT acts on one half: the side at `x` ends (13 R389). -/
def State.limitHalf (s : State) (k : Nat) (pos : Bool) (x : Int) : State :=
  let g := s.gates k x
  if (if pos then g.1 else g.2) then s.setHalf k { (s.chan k) with limAt := some (pos, x) } else s

/-- LIMIT ends the present cycle of half `k` early, on its positive or its negative side: the output of that side is high, and
has been for the 20 ns of blanking (13 R389). In a pair it acts on both halves (13 R379) (assumption log 28, 29, 67; DEDUCED). -/
def State.limit (s : State) (k : Nat) (pos : Bool) : State :=
  let l := s.lead k
  let c := s.chan l
  let on := ((s.modRec k).map (fun r => r.limitCode != 0)).getD false
  let x := s.gridAt s.now
  let side (y : Int) : Bool := if pos then (s.gates k y).1 else (s.gates k y).2
  let blank : Int := (gridHz s.per.baseRate / 50000000 + 1 : Nat)
  if c.limEnd || !on || !side x || !side (x - blank) then s
  else
    let s := (s.halves l).foldl (fun s h => s.limitHalf h (if h = k then pos else !pos) x) s
    let s := s.setChan l { (s.chan l) with limEnd := true }
    let h := s.chan k
    s.setHalf k { h with limitCycles := satAdd 16 h.limitCycles 1, limActs := h.limActs + 1 }

/-! SAFE_N (13 R391). -/

/-- SAFE_N_FALL (assumption log 29, 30; DEDUCED, DESIGN CHOICE). -/
def State.safeNFall (s : State) : State :=
  (s.setGlobalHold (fun p => { p with safeNLow := true, safeN := true })).raise 0x0108 0x00 0xFFFF 0

/-- SAFE_N_RELEASE: SAFE_N has been high for 10 ms (assumption log 30; DESIGN CHOICE). -/
def State.safeNRelease (s : State) : State :=
  (s.setGlobalHold (fun p => { p with safeNLow := false, safeN := false })).endCond 0x0108 0x00 0xFFFF

/-! Rails (13 R393, R394). -/

/-- Rail `r`. -/
def State.railOf (s : State) (r : Nat) : Rail := rd s.pst.rails r
/-- Rail `r` replaced. -/
def State.setRail (s : State) (r : Nat) (x : Rail) : State := { s with pst := { s.pst with rails := wr s.pst.rails r x } }
/-- A rail that holds its channels. -/
def Rail.bad (x : Rail) : Bool := x.cfg.isNone || x.outside
/-- Converter `i`. -/
def State.conv (s : State) (i : Nat) : Conv := rd s.pst.convs i
/-- Converter `i` replaced. -/
def State.setConv (s : State) (i : Nat) (x : Conv) : State := { s with pst := { s.pst with convs := wr s.pst.convs i x } }

/-- SENSE is due on a channel: a VS converter of it, or the RS converter of its rail, has failed (13 R387, R396). -/
def State.senseDue (s : State) (l : Nat) : Bool :=
  (s.halves l).any (fun h => (s.conv (32 + h)).open_) ||
  (match s.modRec l with | none => false | some r => (s.conv (64 + r.rail)).open_)

/-- RAIL is due on a channel. -/
def State.railDue (s : State) (l : Nat) : Bool := match s.modRec l with | none => false | some r => (s.railOf r.rail).bad

/-- Hold causes RAIL and SENSE follow the rails and the converters. -/
def State.rebind (s : State) : State :=
  s.leads.foldl (fun s l =>
    if (s.modRec l).isNone then s
    else s.setHold l (fun c => { c with rail := s.railDue l, sense := s.senseDue l })) s

/-- A reading in mV (assumption log 66; DEDUCED). -/
def Rail.mv (x : Rail) : Nat := x.reading * ((x.cfg.map (·.rsFs)).getD 0) / 65536

/-- RAIL_OUT_OF_LIMITS: a reading outside the limits for 10 µs (13 R394). Entry outside them is reported; UV and OV show on
which side the rail lies (13 R402). -/
def State.railOut (s : State) (r reading : Nat) : State :=
  let x := { s.railOf r with reading := min reading 65535 }
  match x.cfg with
  | none => s
  | some c =>
    let uv := decide (x.reading * c.rsFs < c.uv * 65536)
    let ov := decide (c.ov * 65536 < x.reading * c.rsFs)
    if !s.domOn 12 then s
    else if !(uv || ov) then s.setRail r x
    else
      let s := s.setRail r { x with outside := true, uv := uv, ov := ov }
      if x.outside then s else (s.raise (if uv then 0x0908 else 0x0909) 0xA0 r (packBits [(8, r), (32, x.mv)])).rebind

/-- RAIL_WITHIN_LIMITS: every tick of 100 ms lies within the limits, less 2% of NOM_MV (13 R394). -/
def State.railIn (s : State) (r reading : Nat) : State :=
  let x := { s.railOf r with reading := min reading 65535 }
  match x.cfg with
  | none => s
  | some c =>
    let v := x.reading * c.rsFs * 50
    if !s.domOn 12 then s
    else if !x.outside || decide (v < (50 * c.uv + c.nom) * 65536) || decide ((50 * c.ov - c.nom) * 65536 < v) then s.setRail r x
    else
      let s := s.setRail r { x with outside := false, uv := false, ov := false }
      ((s.endCond 0x0908 0xA0 r).endCond 0x0909 0xA0 r).rebind

/-- A rail without a setting (13 R393). -/
def State.clearRail (s : State) (r : Nat) : State :=
  let s := s.setRail r { s.railOf r with cfg := none, outside := false, uv := false, ov := false }
  ((s.endCond 0x0908 0xA0 r).endCond 0x0909 0xA0 r).rebind

/-- A rail takes a setting: one that becomes configured starts outside its limits (13 R394). -/
def State.configRail (s : State) (r : Nat) (c : RailCfg) : State :=
  let x := s.railOf r
  (s.setRail r { x with cfg := some c, outside := x.outside || x.cfg.isNone }).rebind

/-! Sense converters (13 R385 to R387, 18 R546, R547). -/

/-- The zone in which a converter's PST_SENSE is reported. -/
def convZone (i : Nat) : Nat := if i < 32 then chanZone i else if i < 64 then chanZone (i - 32) else 0xA0

/-- A reserve that is free: not failed and neither standing in nor due to (assumption log 87; DEDUCED). -/
def State.freeReserve (s : State) : Option Nat :=
  (List.range 4).find? (fun j => !(s.conv (68 + j)).failed &&
    !s.pst.convs.toList.any (fun c => c.resv == some j || c.resvDue == some j))

/-- A converter fails (13 R387): PST_SENSE, and a free reserve stands in from the next boundary (assumption log 87; DEDUCED). -/
def State.convFail (s : State) (i : Nat) (trim : Bool) : State :=
  let x := s.conv i
  if x.failed && (!trim || x.trimBad) then s.setConv i { x with passSince := none }
  else
    let was := x.failed
    let due := if x.resv.isSome || x.resvDue.isSome || 68 ≤ i then x.resvDue else s.freeReserve
    let s := s.setConv i { x with failed := true, trimBad := x.trimBad || trim, passSince := none, open_ := true, resvDue := due,
                                  resvSince := if x.resv.isSome || x.resvDue.isSome then some s.now else x.resvSince, back := false }
    if was then s else (s.raise 0x0906 (convZone i) i i).rebind

/-- A converter's PST_SENSE condition ends: it, or the reserve that stands in, has passed for 100 ms. -/
def State.senseEnds (s : State) (i : Nat) : State :=
  let x := s.conv i
  if x.open_ then ((s.setConv i { x with open_ := false }).endCond 0x0906 (convZone i) i).rebind else s

/-- The converter for which reserve `j` stands in. -/
def State.servedBy (s : State) (j : Nat) : Option Nat := (List.range 68).find? (fun i => (s.conv i).resv == some j)

/-- Readings at a full-scale limit whose first and last lie 1 ms or more apart: 32 ticks per period (13 R387) (assumption log
65; DEDUCED). -/
def fullTicks (rate : Nat) : Nat := (32 * rateHz rate + 999) / 1000 + 1

/-- Reserve `j` fails: the input for which it stands in goes back to its own converter at the next boundary, provided that passes
the check; else no converter of the input passes, its hold returns (R396), and a free reserve is due (13 R387) (assumption
log 87; DEDUCED). -/
def State.reserveFails (s : State) (j : Nat) : State :=
  let s := s.convFail (68 + j) false
  match s.servedBy j with
  | none => s
  | some c =>
    let y := s.conv c
    if !y.failed || y.passSince.isSome then s.setConv c { y with back := true }
    else (s.setConv c { y with resvDue := s.freeReserve, resvSince := none, open_ := true }).rebind

/-- CONVERTER_SELF_CHECK (13 R387, R396) (assumption log 65; DEDUCED). -/
def State.selfCheck (s : State) (i : Nat) (pass : Bool) : State :=
  if 71 < i || !s.domOn 12 then s
  else
    let x := s.conv i
    if !pass then (if 68 ≤ i then s.reserveFails (i - 68) else s.convFail i false)
    else
      let s := if x.failed && !x.trimBad && x.fullRun < fullTicks s.per.baseRate then
          match x.passSince with
          | none => s.setConv i { x with passSince := some s.now }
          | some t =>
            if t + 100000000 ≤ s.now then
              (s.setConv i { x with failed := false, passSince := none, back := x.resv.isSome, resvDue := none }).senseEnds i
            else s
        else s
      if 68 ≤ i then
        match s.servedBy (i - 68) with
        | none => s
        | some c =>
          match (s.conv c).resvSince with
          | none => s
          | some t => if t + 100000000 ≤ s.now then s.senseEnds c else s
      else s

/-- Handovers at a boundary (13 R387) (assumption log 87; DEDUCED). -/
def State.handover (s : State) : State :=
  turns 68 s (fun i s =>
    let x := s.conv i
    let x := if x.back then { x with resv := none, back := false, resvSince := none } else x
    match x.resvDue with
    | none => s.setConv i x
    | some j => s.setConv i { x with resv := some j, resvDue := none, resvSince := some s.now })

/-- CAL_SWEEP (18 R546, R547): one sweep over the 68 converters; `none` is a trim outside its limits. Without a free reserve
the sweep waits (assumption log 87; DEDUCED). -/
def State.calSweep (s : State) (trims : Vector (Option (Int × Int)) 68) : State :=
  if s.hlt.calInterval = 0 || !s.domOn 12 then s
  else match s.freeReserve with
    | none => { s with hlt := { s.hlt with calBlocked := true } }
    | some _ =>
      let s := { s with hlt := { s.hlt with calBlocked := false, lastSweep := s.now } }
      turns 68 s (fun i s =>
        let x := s.conv i
        if x.failed && !x.trimBad then s
        else match rd trims i with
          | some t =>
            if x.trimBad then
              (s.setConv i { x with trim := t, trimBad := false, failed := false, back := x.resv.isSome, resvDue := none }).senseEnds i
            else s.setConv i { x with trim := t }
          | none => s.convFail i true)

/-! Soft start, stop ramp and the modulator (13 R381 to R384, R399). -/

/-- Periods of a soft start (assumption log 67; DEDUCED). -/
def softPeriods (rate : Nat) : Nat := rateHz rate / 20

/-- The gain of soft-start period `j` of `t`. -/
def softGain (j t : Nat) : Nat := if t ≤ j then 0x08000000 else codeGain (-27213 + ((27213 * j / t : Nat) : Int))

/-- A channel in the period that a boundary with count `b` opens: soft start, stop ramp, restart (13 R397, R399) (assumption
log 67; DEDUCED). -/
def State.chanPeriod (s : State) (l b : Nat) : State :=
  let c0 := s.chan l
  let s := match c0.resume with
    | none => s
    | some r =>
      if r ≤ b then
        let s := s.setChan l { c0 with resume := none }
        if c0.st = .held && !s.held c0 && s.enabled l then s.enter l .softstart else s
      else s
  let fresh := decide ((s.chan l).st = .softstart) && (s.chan l).ssFrom.isNone
  let s := if fresh then
      (s.halves l).foldl (fun s h => s.setHalf h { (s.chan h) with high := 0, cycle := 0, fromHigh := false, limAt := none }) s
    else s
  let c := s.chan l
  if !c.switching then s
  else
    let c := if fresh then { c with ssFrom := some b, integ := 0, frozen := false, cycLim := false, limEnd := false } else c
    let base := if c.st = .run then 0x08000000 else softGain (b + 1 - c.ssFrom.getD b) (softPeriods s.per.baseRate)
    let c := match c.stop with
      | none => { c with gain := base }
      | some none => { c with stop := some (some (b, base)), gain := base * 63 / 64 }
      | some (some (p, g)) => { c with gain := if 64 ≤ b + 1 - p then 0 else g * (64 - (b + 1 - p)) / 64 }
    match s.muteFactor, s.boot.mute with
    | some f, some m => s.setChan l { c with gain := m.gains.getD l 0 * f / 64 }
    | _, _ => s.setChan l c

/-- SOFT_START_END (13 R397): the last period of the soft start. -/
def State.softEnd (s : State) (k : Nat) : State :=
  let l := s.lead k
  let c := s.chan l
  match c.ssFrom with
  | none => s
  | some b => if c.st = .softstart && decide (b + softPeriods s.per.baseRate ≤ s.per.boundaries + 1) then s.enter l .run else s

/-- STOP_RAMP_END (13 R399): the boundary that ends the ramp's 64th period. -/
def State.stopEnd (s : State) (k : Nat) : State :=
  let l := s.lead k
  match (s.chan l).stop with
  | some (some (p, _)) =>
    if p + 64 ≤ s.per.boundaries then
      let s := s.enter l .held
      s.setChan l { (s.chan l) with resume := some (s.per.boundaries + 1) }
    else s
  | _ => s

/-- b_i of R381 (assumption log 27; DEDUCED). -/
def cycleStart (rate f spreadPct mt k i : Nat) : Nat :=
  let p := gridSteps rate
  if i = 0 then 0 else if f ≤ i then p
  else
    let d := spreadPct * p / (200 * f)
    p * i / f + Config.spread mt k i % (2 * d + 1) - d

/-- Least interval of R382 in grid steps: DEADTIME + 20 ns, rounded up. -/
def minSteps (rate deadtime : Nat) : Nat := ((deadtime + 40) * gridHz rate + 1999999999) / 2000000000

/-- The high steps of a cycle of `c` steps under modulation `u`, and whether they were limited (13 R382, R383) (assumption
log 27; DEDUCED). -/
def highSteps (c m : Nat) (u : Int) : Nat × Bool :=
  let h := ((c : Int) * (0x01000000 + u) / 0x02000000).toNat
  if h < m then (m, true) else if c - m < h then (c - m, true) else (h, false)

/-- A value limited to plus and minus 1.0 in S8.24. -/
def unit24 (v : Int) : Int := max (-0x01000000) (min v 0x01000000)

/-- The feed-forward factor (13 R383). -/
def feedForward (x : Rail) : Int :=
  match x.cfg with
  | none => 0x01000000
  | some c =>
    let q : Int := if x.reading = 0 then Config.feedForwardZero c.nom else ((c.nom * 65536 * 2 ^ 24 / (c.rsFs * x.reading) : Nat) : Int)
    max 0x00800000 (min q 0x02000000)

/-- The VS quantity of a channel or pair in S8.24 (13 R379, R383) (assumption log 66; DEDUCED). -/
def State.vsQuantity (s : State) (l : Nat) : Int :=
  let v (k : Nat) : Int := (((s.chan k).vsT.getLast?).getD 0) * 512
  if s.paired l then asr (v l - v (l + 1)) 1 else v l

/-- The control law of a tick (13 R383): the new integrator and modulation. -/
def controlLaw (r : ModRec) (lp : LoopCfg) (rail : Rail) (c : Chan) (x v : Int) : Int × Int :=
  let t := unit24 (asr (x * c.gain) 27)
  let f := if r.feedfwd then feedForward rail else 0x01000000
  let e := t - v
  let i := if r.feedback && !c.frozen then unit24 (c.integ + asr (e * lp.ki) 30) else c.integ
  let u := asr (t * f) 24
  (i, unit24 (if r.feedback then u + asr (e * lp.kp) 30 + i else u))

/-- The cycles of one half that start between tick `n` and the next (13 R381 to R383) (assumption log 27; DEDUCED). -/
def State.cycles (s : State) (l k n : Nat) (r : ModRec) (uOld uNew : Int) : State :=
  let rate := s.per.baseRate
  let p := gridSteps rate
  let m := minSteps rate r.deadtime
  let o := (l % 8) * (p / (8 * r.fswMult))
  turns r.fswMult s (fun i s =>
    let b := cycleStart rate r.fswMult r.spreadPct s.per.mediaTime l i
    let st := b + o
    if st < n * p / 32 || (n + 1) * p / 32 ≤ st then s
    else
      let len := cycleStart rate r.fswMult r.spreadPct s.per.mediaTime l (i + 1) - b
      let c := s.chan k
      let (h, lim) := highSteps len m (if st = n * p / 32 then uOld else uNew)
      s.setHalf k { c with frozen := c.cycLim || c.limEnd, high := h, cycle := len, cycLim := lim, limEnd := false,
                           start := (st : Int), fromHigh := (c.gatesAt rate r.deadtime (st : Int)).1, limAt := none,
                           modClip := satAdd 32 c.modClip (b2n lim) })

/-- The interpolator at tick `n` of a period, over the slot values read in the last periods, newest first: linear-phase, so
that a tap depends on the distance to the centre alone, and the value readable in period m is centred on the boundary that
opens period m + 3, 96 ticks after the one that opens m (13 R384) (assumption log 5; DESIGN CHOICE). -/
def interp (n : Nat) (hist : List Slot) : Slot :=
  Config.interpNarrow (((List.range 7).map (fun (i : Nat) =>
    let d := (((n + 32 * i : Nat) : Int) - 96).natAbs
    if d ≤ 96 then (hist.getD i 0).toInt * Config.interpTap d else 0)).sum)

/-- One control tick of a switching channel (13 R383) (assumption log 27, 67; DEDUCED). -/
def State.chanTick (s : State) (l n : Nat) : State :=
  let c := s.chan l
  match s.modRec l with
  | none => s
  | some r =>
    if !c.switching || c.ssFrom.isNone then s
    else
      let lp := (rd s.pst.loops l).getD ⟨0, 0, 0⟩
      let v := s.vsQuantity l
      let (i, u) := controlLaw r lp (s.railOf r.rail) c (interp n c.inHist).toInt v
      let gap := s.gap
      let u := if gap then 0 else u
      let s := s.setChan l { c with integ := if gap then c.integ else i, u := u }
      let s := s.cycles l l n r c.u u
      if s.paired l then
        let s := s.cycles l (l + 1) n ((s.modRec (l + 1)).getD r) (-c.u) (-u)
        let a := s.chan l
        let b := s.chan (l + 1)
        let fr := a.frozen || b.frozen
        (s.setHalf l { a with frozen := fr }).setHalf (l + 1) { b with frozen := fr }
      else s

/-- The reading that counts for converter `i`: its own, or that of the reserve standing in. -/
def State.readingOf (s : State) (i : Nat) (own : Int) (scr : Vector Int 4) : Int :=
  match (s.conv i).resv with
  | none => own
  | some j => rd scr j

/-- A converter's readings at a full-scale limit without a break for 1 ms fail it (13 R387). The limits of CS and VS are
1.0 and -1.0; that of RS is 1.0, since a rail at 0 V is no full-scale reading (assumption log 65; DEDUCED). -/
def State.fullScale (s : State) (i : Nat) (v lo hi : Int) : State :=
  let x := s.conv i
  let n := if v ≤ lo || hi ≤ v then x.fullRun + 1 else 0
  let s := s.setConv i { x with fullRun := n }
  if n = fullTicks s.per.baseRate then (if 68 ≤ i then s.reserveFails (i - 68) else s.convFail i false) else s

/-- MODULATOR_TICK (13 R383, R385): tick `n` of the period with the readings of all converters (assumption log 16, 66; DESIGN
CHOICE, DEDUCED). -/
def State.modTick (s : State) (n : Nat) (cs vs : Vector Int 32) (rs scr : Vector Int 4) : State :=
  if 31 < n || !s.domOn 12 then s
  else
    let s := turns 32 s (fun k s =>
      let a := max (-32768) (min (rd cs k) 32767)
      let b := max (-32768) (min (rd vs k) 32767)
      let c := s.chan k
      let s := s.setHalf k { c with csT := c.csT ++ [s.readingOf k a scr], vsT := c.vsT ++ [s.readingOf (32 + k) b scr] }
      (s.fullScale k a (-32768) 32767).fullScale (32 + k) b (-32768) 32767)
    let s := turns 4 s (fun r s =>
      let a := max 0 (min (rd rs r) 65535)
      let s := s.setRail r { s.railOf r with reading := (max 0 (min (s.readingOf (64 + r) a scr) 65535)).toNat }
      s.fullScale (64 + r) a (-1) 65535)
    let s := turns 4 s (fun j s => match s.servedBy j with
      | none => s
      | some i => if i < 64 then s.fullScale (68 + j) (rd scr j) (-32768) 32767 else s.fullScale (68 + j) (rd scr j) (-1) 65535)
    s.leads.foldl (fun s l =>
      let s := s.chanTick l n
      let c := s.chan l
      if c.st = .run then s.setHalf l { c with dcSum := c.dcSum + s.vsQuantity l, dcN := c.dcN + 1 } else s) s

/-- Periods of a DC block (13 R395). -/
def dcBlock (rate : Nat) : Nat := rateHz rate / 100

/-- DC_BLOCK_END (13 R395): the block that ended is judged. -/
def State.dcEval (s : State) (k : Nat) : State :=
  let l := s.lead k
  let c := s.chan l
  match c.dcEnd, s.modRec l with
  | some (sum, n, ok), some r =>
    let rail := s.railOf r.rail
    let restart := s.setHalf l { c with dcEnd := none, dcRun := 0, dcSign := 0 }
    match rail.cfg with
    | none => restart
    | some rc =>
      let sign : Int := if 0 < sum then 1 else if sum < 0 then -1 else 0
      let vs2 := match rd s.pst.loops l with | some lp => 2 * lp.vsFs | none => rc.nom
      let hit := decide (2 * r.dcThresh * rail.reading * rc.rsFs * n * 2 ^ 24 ≤ sum.natAbs * vs2 * 10000 * 65536)
      if !ok || c.st ≠ .run || n = 0 || sign = 0 || !hit then restart
      else
        let run := if sign = c.dcSign then c.dcRun + 1 else 1
        if run < (r.dcTimeMs + 9) / 10 then s.setHalf l { c with dcEnd := none, dcRun := run, dcSign := sign }
        else
          let s := s.setChan l { c with dcEnd := none, dcRun := 0, dcSign := 0, latchDc := true }
          (s.enter l .latched).raise 0x0903 (chanZone l) l (sfld 4 (sum / (n : Int))).2
  | _, _ => s

/-- A converter's decimated value as a slot (13 R386). -/
def senseSlot (rs : List Int) : Slot := ((Config.decimate rs).signExtend 32) <<< 1

/-- The gains of the period before a mute begins (17 R520) (assumption log 23, 39; DEDUCED). -/
def State.muteGains (s : State) (b : Nat) : State :=
  match s.boot.mute with
  | none => s
  | some m =>
    if m.b ≠ b then s
    else
      let g := s.pst.chans.toList.map (fun (c : Chan) => c.gain)
      { s with boot := { s.boot with mute := some { m with gains := g } } }

/-- The power stage at the boundary that opens a period, after the parity swap (13 R384, R386, R387, R389, R395, R399). -/
def State.pstBoundary (s : State) : State :=
  let b := s.per.boundaries
  let blk := dcBlock s.per.baseRate
  let s := if s.domOn 12 then s.handover else s
  let s := s.muteGains b
  let s := turns 32 s (fun k s =>
    let c := s.chan k
    let s := match s.modRec k with
      | none => s
      | some r =>
        if !s.domOn 12 then s
        else
          let s := if r.csSlot = 0xFFFF then s else s.putSlot r.csSlot (senseSlot c.csT)
          if r.vsSlot = 0xFFFF then s else s.putSlot r.vsSlot (senseSlot c.vsT)
    let f := ((s.modRec k).map (·.fswMult)).getD 0
    let run := if c.switching && 0 < f && f ≤ 2 * c.limActs then c.limRun + 1 else 0
    let full := decide (rateHz s.per.baseRate / 10 ≤ run)
    let inV := match s.modRec k with
      | none => 0
      | some r => if r.inSlot = 0xFFFF then 0 else s.slot r.inSlot
    let ends := s.per.mediaTime % blk == 0
    let s := s.setHalf k { c with
      start := c.start - (gridSteps s.per.baseRate : Nat)
      limAt := c.limAt.map (fun p => (p.1, p.2 - (gridSteps s.per.baseRate : Nat)))
      csT := [], vsT := [], inHist := (inV :: c.inHist).take 8, limActs := 0, limRun := if full then 0 else run
      dcEnd := if ends then some (c.dcSum, c.dcN, c.dcOk) else c.dcEnd
      dcSum := if ends then 0 else c.dcSum, dcN := if ends then 0 else c.dcN
      dcOk := (ends || c.dcOk) && decide (c.st = .run) }
    if full then s.report 0x0904 (chanZone k) k c.limitCycles else s)
  s.leads.foldl (fun s l => s.chanPeriod l b) s

/-- The state of a pair that a commit forms of two channels: TRIPPED and LATCHED of either half, its hold causes and its trip
history stay (01 R16, 03 R112, 13 R379, R397) (assumption log 109; DEDUCED). -/
def Chan.unite (a b : Chan) : Chan :=
  let st : ChSt := if a.st = .latched || b.st = .latched then .latched
    else if a.st = .tripped || b.st = .tripped then .tripped else a.st
  let later (x y : Option Nat) : Option Nat := match x, y with
    | some p, some q => some (max p q)
    | some p, none => some p
    | none, q => q
  let hist := sortBy (fun x y => decide (x.1 ≤ y.1)) (a.hist ++ b.hist)
  let c := { a with st := st, flt := a.flt || b.flt, rail := a.rail || b.rail, host := a.host || b.host, sense := a.sense || b.sense
                    hiccup := later a.hiccup b.hiccup, resume := later a.resume b.resume, hist := hist.drop (hist.length - 3)
                    latchDc := a.latchDc || b.latchDc }
  if st = .softstart || st = .run then c else { c with ssFrom := none, stop := none, gain := 0, u := 0 }

/-- Channel pairs that a commit forms of two channels (13 R379); `was` is the old plane (assumption log 109; DEDUCED). -/
def State.uniteHalves (s : State) (was : Option Plane) : State :=
  let btl (k : Nat) : Bool := match was.bind (fun p => p.modulators.find? (fun r => r.channel == k)) with
    | none => false
    | some r => r.btl
  s.leads.foldl (fun s l =>
    if s.paired l && !(btl l && btl (l + 1)) then s.setChan l ((s.chan l).unite (s.chan (l + 1))) else s) s

/-- The power stage at a commit (13 R397), with the new plane LIVE; `was` is the old plane. -/
def State.pstCommit (s : State) (was : Option Plane) : State :=
  let s := s.uniteHalves was
  s.leads.foldl (fun s l =>
    let c := s.chan l
    let c := if (s.modRec l).isSome then { c with rail := c.rail || s.railDue l, sense := c.sense || s.senseDue l } else c
    let s := s.setChan l c
    if !s.enabled l then
      (if c.st = .held || c.st = .softstart || c.st = .run then s.enter l .off else s)
    else if c.st = .off then s.enter l (if s.held c then .held else .softstart)
    else if c.switching && (c.rail || c.sense) then s.enter l .held
    else s) s

/-- PD12 comes on or the interface restarts (13 R400): LATCHED channels stay LATCHED, the others start in OFF. -/
def Chan.restart (c : Chan) : Chan :=
  { Chan.reset with st := if c.st = .latched then .latched else .off, latchDc := c.latchDc, hist := c.hist }

end Sys2Proof.Machine
end

