-- ==== Sys2Proof/Machine/PstageCmds.lean ====
section
/-!
DEFINITION. Power-stage registers (13 R401 to R404) and commands (13 R406 to R408).
-/
namespace Sys2Proof.Machine

/-- PST_SWITCHING and PST_LATCHED. -/
def State.pstMask (s : State) (sel : Chan → Bool) : Nat :=
  (List.range 32).foldl (fun a k => if sel (s.chan k) then a + 2 ^ k else a) 0

/-- PST_GLOBAL_HOLD (assumption log 30; DESIGN CHOICE). -/
def State.pstGlobal (s : State) : Nat :=
  packBits [(1, b2n s.flt.engineSafe), (1, b2n s.pst.tw), (1, b2n s.pst.safeN), (1, b2n (!s.pst.safeNLow))]

/-- PST_RAILr. -/
def State.pstRail (s : State) (r : Nat) : Nat :=
  let x := s.railOf r
  packBits [(1, b2n x.uv), (1, b2n x.ov), (1, b2n x.cfg.isNone), (1, b2n (s.conv (64 + r)).failed), (12, 0), (16, x.reading)]

/-- LOOP_OPEN (13 R383). -/
def State.loopOpen (s : State) (k : Nat) : Bool :=
  match s.modRec k with
  | none => false
  | some r => r.feedback && (match rd s.pst.loops (s.lead k) with | none => true | some lp => lp.kp == 0 && lp.ki == 0)

/-- PST_CH_STATUS. -/
def State.pstStatus (s : State) (k : Nat) : Nat :=
  let c := s.chan k
  let rsv := match (s.conv k).resv with | some j => some j | none => (s.conv (32 + k)).resv
  let t10 := (c.hist.filter (fun p => decide (s.now ≤ p.1 + 10000000000))).length
  packBits [(13, 0), (2, rsv.getD 0), (1, b2n rsv.isSome), (1, b2n (s.loopOpen k)), (1, b2n c.latchDc), (2, min t10 3), (3, c.st.code),
    (1, b2n (s.paired k)), (1, b2n c.flt), (1, b2n s.pst.safeN), (1, b2n s.pst.tw), (1, b2n c.rail), (1, b2n c.host), (1, b2n c.sense)]

/-- PST_CH_TRIP (assumption log 24; DESIGN CHOICE). -/
def State.pstTrip (s : State) (k : Nat) : Nat :=
  let c := s.chan k
  let left := match c.hiccup with | none => 0 | some t => (t - s.now + 999999) / 1000000
  packBits [(13, left), (3, 0), (16, c.peak)]

/-- PST_CH_COUNT. -/
def State.pstCount (s : State) (k : Nat) : Nat := packBits [(16, (s.chan k).limitCycles), (16, (s.chan k).trips)]

/-- The RC fields of PST_CH_COUNT cleared. -/
def State.pstCountClear (s : State) (k : Nat) : State := s.setHalf k { (s.chan k) with limitCycles := 0, trips := 0 }

/-- PSTAGE_STATUS. -/
def runPstageStatus (_ : Ctx) (ch : Nat) (clear : Bool) (s : State) : Done × State :=
  if 31 < ch then (.range, s)
  else if !s.domOn 12 then (.fail .rejectedState 0x00C0, s)
  else
    let c := s.chan ch
    let h := c.hist.drop (c.hist.length - 2)
    let rail := match s.modRec ch with | none => 0 | some r => s.pstRail r.rail
    (.ok [(4, s.pstStatus ch), (4, s.pstTrip ch), (4, c.tripMt), (4, s.pstCount ch), (4, c.modClip),
      (4, ((h.map (·.2)).getD 0 0) % 2 ^ 32), (4, ((h.map (·.2)).getD 1 0) % 2 ^ 32), (4, rail)],
     if clear then (s.pstCountClear ch).setHalf ch { ((s.pstCountClear ch).chan ch) with modClip := 0 } else s)

/-- The channels that a mask names, each pair once. -/
def State.named (s : State) (mask : BitVec 32) : List Nat :=
  (((List.range 32).filter (fun k => mask.getLsbD k)).map s.lead).eraseDups

/-- The mask of channels' halves. -/
def State.halfMask (s : State) (ls : List Nat) : Nat := ((ls.flatMap s.halves).map (2 ^ ·)).sum

/-- PSTAGE_CLEAR (13 R407). -/
def runPstageClear (_ : Ctx) (mask : BitVec 32) (s : State) : Done × State :=
  if mask = 0 then (.range, s)
  else if !s.domOn 12 then (.fail .rejectedState 0x00C0, s)
  else
    let ls := (s.named mask).filter (fun l => decide ((s.chan l).st = .latched))
    let s' := ls.foldl (fun s l =>
      let s := s.setChan l { (s.chan l) with hist := [], latchDc := false }
      s.enter l (if !s.enabled l then .off else if s.held (s.chan l) then .held else .softstart)) s
    (.ok [(4, s.halfMask ls)], s')

/-- PSTAGE_STOP (13 R407). -/
def runPstageStop (c : Ctx) (mask : BitVec 32) (s : State) : Done × State :=
  if mask = 0 then (.range, s)
  else if !s.domOn 12 then (.fail .rejectedState 0x00C0, s)
  else
    let ls := s.named mask
    let s := ls.foldl (fun s l => s.hostHold l) s
    let wait := ls.filter (fun l => (s.chan l).stop.isSome)
    if wait.isEmpty then (.ok [(8, s.per.mediaTime)], s)
    else (.later, { s with pst := { s.pst with stops := s.pst.stops ++ [⟨c.port, c.handle, wait, none⟩] } })

/-- PSTAGE_START (13 R407, 18 R544). -/
def runPstageStart (_ : Ctx) (mask : BitVec 32) (s : State) : Done × State :=
  if mask = 0 then (.range, s)
  else if !s.domOn 12 then (.fail .rejectedState 0x00C0, s)
  else if s.hlt.maint then (.fail .rejectedState 0x0111, s)
  else
    let ls := (s.named mask).filter (fun l => (s.chan l).host)
    (.ok [(4, s.halfMask ls)], ls.foldl (fun s l => s.setHold l (fun c => { c with host := false })) s)

/-- The settings of a rail hold R393. -/
def railCfgOk (c : RailCfg) : Bool :=
  within 1000 1000000 c.rsFs && decide (c.nom ≤ 2 * c.uv) && decide (c.uv < c.nom) && decide (c.nom < c.ov) && decide (c.ov < c.rsFs)

/-- PSTAGE_RAIL_CONFIG applied. -/
def finPstageRailConfig (r : Nat) (c : RailCfg) (persist : Bool) (s : State) : Done × State :=
  let s := s.configRail r c
  (.ok [(1, r), (4, c.rsFs), (4, c.nom), (4, c.uv), (4, c.ov)],
   if persist then { s with cfg := { s.cfg with rails := insertKey s.cfg.rails r c } } else s)

/-- PSTAGE_RAIL_CONFIG (13 R393, R406, R408). -/
def runPstageRailConfig (_ : Ctx) (r rsFs nom uv ov : Nat) (persist : Bool) (s : State) : Done × State :=
  let c : RailCfg := ⟨rsFs, nom, uv, ov⟩
  if 3 < r || !railCfgOk c then (.range, s)
  else if !s.domOn 12 then (.fail .rejectedState 0x00C0, s)
  else
    let changes := match (s.railOf r).cfg with | none => false | some o => o.rsFs != rsFs || o.nom != nom
    if changes && s.leads.any (fun l => (s.chan l).switching && ((s.modRec l).map (·.rail)) == some r) then (.fail .rejectedState 0x00C1, s)
    else if persist then (.flash, s)
    else finPstageRailConfig r c false s

/-- PSTAGE_LOOP_CONFIG applied: for either half it sets the pair's loop. -/
def finPstageLoopConfig (ch : Nat) (c : LoopCfg) (persist : Bool) (s : State) : Done × State :=
  let hs := s.halves (s.lead ch)
  let s := hs.foldl (fun s h => { s with pst := { s.pst with loops := wr s.pst.loops h (some c) } }) s
  (.ok [(1, ch), (4, c.kp), (4, c.ki), (4, c.vsFs)],
   if persist then hs.foldl (fun s h => { s with cfg := { s.cfg with loops := insertKey s.cfg.loops h c } }) s else s)

/-- PSTAGE_LOOP_CONFIG (13 R406 to R408). -/
def runPstageLoopConfig (_ : Ctx) (ch kp ki vsFs : Nat) (persist : Bool) (s : State) : Done × State :=
  if 31 < ch || 0x7FFFFFFF < kp || 0x10000000 < ki || !within 100 1000000 vsFs then (.range, s)
  else if !s.domOn 12 then (.fail .rejectedState 0x00C0, s)
  else if (s.chan (s.lead ch)).switching then (.fail .rejectedState 0x00C1, s)
  else if persist then (.flash, s)
  else finPstageLoopConfig ch ⟨kp, ki, vsFs⟩ false s

end Sys2Proof.Machine
end

