-- ==== Sys2Proof/Machine/Health.lean ====
section
/-!
DEFINITION. Spares, migration, carriers and self-test (18 R538 to R545), the ageing monitors and the wear indicators
(18 R533 to R537).
-/
namespace Sys2Proof.Machine

/-- Quadrant `q`. -/
def State.quad (s : State) (q : Nat) : Quad := (s.hlt.quads[q]?).getD ⟨.none_, none, none, none⟩
/-- A quadrant replaced. -/
def State.setQuad (s : State) (q : Nat) (x : Quad) : State := { s with hlt := { s.hlt with quads := wr s.hlt.quads q x } }
/-- A tile out of service (18 R541). -/
def State.outOfService (s : State) (k : Nat) : Bool := mem s.hlt.out k
/-- A tile under test (18 R542). -/
def State.underTest (s : State) (k : Nat) : Bool := ((s.quad (quadOf k)).test.map (·.tile)) == some k

/-! Wear indicators (18 R537). -/

/-- The level of an indicator: 0 TILE_AGE, 1 SRAM, 2 SERDES, 3 FLASH, 4 OTP, 5 SPARE; a change is an event. -/
def State.setGrade (s : State) (i level : Nat) : State :=
  if rd s.hlt.grades i = level then s
  else ({ s with hlt := { s.hlt with grades := wr s.hlt.grades i level } } : State).event 9

/-- TILE_AGE from EOL_LOW in 0.1 year (assumption log 94; DEDUCED). -/
def ageLevel (eolLow : Nat) : Nat := if eolLow < 10 then 2 else if eolLow < 50 then 1 else 0

/-- Corrected events of a quadrant that count, with `t` the present time (assumption log 94; DEDUCED). -/
def eccRecent (es : EccEvents) (t : Nat) : EccEvents := es.filter (fun e => decide (t < e.1 + 86400000000000))

/-- The SRAM level of one quadrant. -/
def sramLevel (es : EccEvents) : Nat :=
  if 1000 ≤ es.length || es.any (fun e => decide (3 ≤ (es.filter (fun f => f.2 == e.2)).length)) then 2
  else if 100 ≤ es.length then 1 else 0

/-- The SRAM indicator over all quadrants (assumption log 94; DEDUCED). -/
def State.gradeSram (s : State) : State :=
  s.setGrade 1 ((List.range 4).foldl (fun m q => max m (sramLevel (eccRecent (rd s.hlt.ecc q) s.now))) 0)

/-- A corrected ECC event at an address of quadrant `q`. -/
def State.wear (s : State) (q addr : Nat) : State :=
  ({ s with hlt := { s.hlt with ecc := upd s.hlt.ecc q (fun es => eccRecent es s.now ++ [(s.now, addr)]) } } : State).gradeSram

/-- The 30-day least-squares trend of eye margins, oldest first, reaches 20 mV within 1 year (18 R537) (assumption log 94;
DEDUCED). -/
def eyeTrend (h : List (Option Nat)) : Bool :=
  let pts : List (Int × Int) := h.zipIdx.filterMap (fun x => x.1.map (fun v => ((x.2 : Int), (v : Int))))
  let n : Int := pts.length
  let st := (pts.map (·.1)).sum
  let sv := (pts.map (·.2)).sum
  let d := n * (pts.map (fun p => p.1 * p.1)).sum - st * st
  let k := n * (pts.map (fun p => p.1 * p.2)).sum - st * sv
  decide (0 < d) && decide (k < 0) && decide (sv * d + k * (n * ((h.length : Int) - 1 + 52560) - st) ≤ 20 * n * d)

/-- The SERDES level. -/
def State.serdesLevel (s : State) : Nat :=
  let up := (List.range 8).filter (fun i => decide ((s.lane i).st = .up))
  let below (n : Nat) : Bool := up.any (fun i => match rd s.hlt.eyes i with | some v => decide (v < n) | none => false)
  if below 20 then 2 else if below 40 || up.any (fun i => eyeTrend (rd s.hlt.eyeHist i)) then 1 else 0

/-- The highest erase count of a sector. -/
def Boot.maxErase (b : Boot) : Nat := b.erases.foldl (fun m e => max m e.2) 0
/-- First and last sector of each area of 17 R503, in its order. -/
def Boot.areas (b : Boot) : List (Nat × Nat) :=
  let n := min 0x01810000 ((b.flashBytes - 0x01980000) / 2 / 65536 * 65536) / 65536
  [(0, 0), (1, 1), (2, 3), (4, 5), (6, 6), (7, 7), (8, 135), (136, 263), (264, 391), (392, 407), (408, 407 + n), (408 + n, 407 + 2 * n)]
/-- The highest erase count of a sector in each area (18 R537). -/
def Boot.areaErases (b : Boot) : List Nat :=
  b.areas.map (fun a => b.erases.foldl (fun m e => if within a.1 a.2 e.1 then max m e.2 else m) 0)
/-- Key slots that are not revoked. -/
def Boot.keysLeft (b : Boot) : Nat := ((List.range 4).filter (fun i => !bit b.revoked i)).length
/-- The FLASH level. -/
def Boot.flashLevel (b : Boot) : Nat := if 95000 ≤ b.maxErase then 2 else if 80000 ≤ b.maxErase then 1 else 0
/-- The OTP level. -/
def Boot.otpLevel (b : Boot) : Nat :=
  let left := 128 - b.otp
  if left ≤ 4 || b.keysLeft = 0 then 2 else if left ≤ 16 || b.keysLeft = 1 then 1 else 0
/-- Quadrants whose spare state is NONE. -/
def State.noneCount (s : State) : Nat := ((List.range 4).filter (fun q => decide ((s.quad q).st = .none_))).length
/-- The SPARE indicator follows the quadrants (assumption log 94; DEDUCED). -/
def State.gradeSpare (s : State) : State := s.setGrade 5 (min s.noneCount 2)
/-- The FLASH and OTP indicators (assumption log 94; DEDUCED). -/
def State.gradeFlash (s : State) : State := (s.setGrade 3 s.boot.flashLevel).setGrade 4 s.boot.otpLevel

/-! Migration and self-test. -/

/-- The state of a held request (18 R549) (assumption log 35; DEDUCED). -/
def State.heldState (s : State) (id : Option Nat) (st : Nat) : State :=
  match id with
  | none => s
  | some i => { s with hlt := { s.hlt with held := s.hlt.held.map (fun h => if h.id = i then { h with state := st } else h) } }

/-- A command that may wait completes. -/
def State.finish (s : State) (cmd : Option (CPort × Nat)) (st : Status) (detail : Nat) (res : List Byte) : State :=
  match cmd with
  | none => s
  | some (p, h) => s.complete p h st detail res

/-- A migration of `src` onto its quadrant's spare is requested (18 R538). -/
def State.startMig (s : State) (src : Nat) (cause : MigCause) (cmd : Option (CPort × Nat)) (queue : Option Nat) : State :=
  let q := quadOf src
  s.setQuad q { s.quad q with st := .migrating, mig := some ⟨src, cause, 1, s.per.boundaries + 1, cmd, queue⟩ }

/-- The test of a free tile starts (18 R542) (assumption log 34; DEDUCED). -/
def State.startTest (s : State) (k : Nat) (cmd : Option (CPort × Nat)) (queue : Option Nat) : State :=
  let q := quadOf k
  s.setQuad q { s.quad q with st := .testing, spare := some k, mig := none, test := some ⟨k, cmd, queue⟩ }

/-- A test request is served by a READY quadrant: a carrier is freed by migration, a free tile is tested in place (assumption
log 34; DEDUCED). -/
def State.serveTest (s : State) (k : Nat) (cmd : Option (CPort × Nat)) (queue : Option Nat) : State :=
  if (s.workOf k).isSome then s.startMig k .test cmd queue else s.startTest k cmd queue

/-- A quadrant has entered READY: the first held request for it starts (18 R543) (assumption log 35; DEDUCED). -/
def State.ready (s : State) (q : Nat) : State :=
  (s.hlt.held.foldl (fun s h =>
    if h.state = 0 && quadOf h.tile = q && decide ((s.quad q).st = .ready) then
      if s.outOfService h.tile then s.heldState (some h.id) 4
      else (s.heldState (some h.id) 1).serveTest h.tile none (some h.id)
    else s) s).gradeSpare

/-- A tile leaves service; the list is kept in CONFIG (18 R541). -/
def State.leaveService (s : State) (k : Nat) : State := { s with hlt := { s.hlt with out := addNew s.hlt.out k } }

/-- The RESULT of SELFTEST_TILE: 0 PASS or 1 FAIL, the failing part, QUEUE_ID. -/
def testResult (fail part queue : Nat) : List Byte := leBytes 1 fail ++ leBytes 1 part ++ leBytes 4 queue

/-- SELFTEST_END (18 R540, R542). `part`: 0 pass, 1 signature, 2 uncorrectable word, 3 corrected words, 4 timing run. -/
def State.endTest (s : State) (q part : Nat) : State :=
  let x := s.quad q
  match x.test with
  | none => s
  | some t =>
    let s := (s.heldState t.queue (if part = 0 then 2 else 3)).finish t.cmd .ok 0 (testResult (min part 1) part 0)
    if part = 0 then (s.setQuad q { x with st := .ready, test := none, spare := some t.tile }).ready q
    else ((s.setQuad q { x with st := .none_, test := none, spare := none }).leaveService t.tile).gradeSpare

/-- The largest ITIME_PS of the active tiles among those named (02 R37, R45); none where none is active (assumption log 100;
DESIGN CHOICE). -/
def State.maxItime (s : State) (ks : List Nat) : Option Nat :=
  let act := ks.filter (fun k => (s.workOf k).isSome && decide ((s.tile k).run ≠ .absent ∧ (s.tile k).run ≠ .cold))
  if act.isEmpty then none else some (act.foldl (fun m k => max m (s.tile k).slk.itimePs) 0)

/-- The largest ITIME_PS that a self-test compares with (18 R542). -/
def State.testItime (s : State) (q : Nat) : Nat :=
  match s.maxItime ((List.range 17).map (17 * q + ·)) with
  | some v => v
  | none => (s.maxItime (List.range 68)).getD 1000

/-- The failing part of a self-test. -/
def State.testPart (s : State) (q : Nat) (mismatch : Bool) (uncorr corr itimePs : Nat) : Nat :=
  if mismatch then 1 else if 0 < uncorr then 2 else if 4 < corr then 3
  else if 115 * s.testItime q < 100 * itimePs then 4 else 0

/-- The test of a quadrant, or the migration for it, ends ABORTED; the quadrant's next state is the caller's (assumption log
34; DEDUCED). -/
def State.abortTest (s : State) (q : Nat) : State :=
  let x := s.quad q
  let s := match x.test with
    | some t => (s.heldState t.queue 4).finish t.cmd .aborted 0 []
    | none => s
  let s := match x.mig with
    | some m => if m.cause = MigCause.test then (s.heldState m.queue 4).finish m.cmd .aborted 0 [] else s
    | none => s
  s.setQuad q { x with test := none, mig := none }

/-- MIGRATION_PASS1_END (18 R538): pass 1 takes 8 periods (assumption log 88; DEDUCED). -/
def State.pass1End (s : State) (q : Nat) : State :=
  let x := s.quad q
  match x.mig with
  | none => s
  | some m => if m.phase = 1 && m.startB + 8 ≤ s.per.boundaries then s.setQuad q { x with mig := some { m with phase := 2 } } else s

/-- MIGRATION_PASS2_END (18 R538): the switch is due at the next boundary (assumption log 88; DEDUCED). -/
def State.pass2End (s : State) (q : Nat) : State :=
  let x := s.quad q
  match x.mig with
  | none => s
  | some m => if m.phase = 2 then s.setQuad q { x with mig := some { m with phase := 3 } } else s

/-- A memory as the load port copies it: a word with an uncorrectable error is written as 0, one with an error beyond the
code is free (18 R538, 05 R148) (assumption log 88; DEDUCED). -/
def copyMem (t : Tile) (m : TMem) (mem : Sparse 32) (freeIx : Nat) : Sparse 32 :=
  (t.ecc.filter (fun e => decide (e.1 = m))).foldl (fun w e =>
    match eccCheck t m e.2.1 freeIx with
    | .clean => if eccMulti t m e.2.1 then w.set e.2.1 ((eccFreeWord freeIx).setWidth 32) else w
    | .corrected => w
    | .wrong => w.set e.2.1 ((eccFreeWord freeIx).setWidth 32)
    | .uncorr => w.set e.2.1 0) mem

/-- The words of a P bank from a plane's program for built tile `b` (assumption log 88; DEDUCED). -/
def planeBank (p : Option Plane) (b : Nat) : Sparse 64 :=
  match p.bind (fun p => lookup? p.tiles b) with
  | none => []
  | some t => Sparse.setAll [] ((List.range t.words.length).map (fun i => (i, t.words.getD i 0)))

/-- The spare after the switch: what it takes from the source, with its own slack registers and scrub positions (assumption
log 88; DEDUCED). -/
def Tile.takeOver (dst src : Tile) (pLive pShadow : Sparse 64) (freeIx : Nat) : Tile :=
  { dst with
    run := src.run, coldLeft := src.coldLeft, pLive := pLive, pShadow := pShadow
    x := copyMem src .x src.x freeIx, y := copyMem src .y src.y freeIx, ecc := []
    fg := src.fg, bg := src.bg, bgStopped := false, parkPend := src.parkPend, eccLate := src.eccLate
    gatherDone := src.gatherDone, scatterDone := src.scatterDone, fgCount := src.fgCount, initDue := src.initDue, l := src.l }

/-- Carriers with built tile `b` moved onto `dst`: a built tile whose own carrier was `dst` has none. -/
def moveCarrier (car : Vector Nat 68) (b dst : Nat) : Vector Nat 68 :=
  Vector.ofFn (fun i : Fin 68 => if i.val = b then dst else if rd car i.val = dst then 0x7F else rd car i.val)

/-- The elements of a zone's reaction after work moved from tile `src` to `dst`: the work's outputs stay in the reaction
(14 R423, 18 R538) (assumption log 68; DEDUCED). -/
def moveElems (src dst zone : Nat) (elems : List Nat) : List Nat :=
  if zone = 0x70 then elems.map (fun k => if k = 256 + src then 256 + dst else k)
  else if decide (0x20 ≤ zone) && decide (zone ≤ 0x63) && mem elems src then addNew elems dst else elems

/-- The open episodes and the overflow set follow work that moved from tile `src` to `dst` (assumption log 68; DEDUCED). -/
def State.moveReactions (s : State) (src dst : Nat) : State :=
  { s with flt := { s.flt with
      eps := s.flt.eps.map (fun (e : Episode) => if e.st ≠ .free then { e with elems := moveElems src dst e.zone e.elems } else e)
      ovfSet := s.flt.ovfSet.map (fun o => { o with elems := moveElems src dst o.zone o.elems }) } }

/-- The switch of a migration, between steps 2 and 3 of 01 R20 (18 R538, R540) (assumption log 68, 88; DEDUCED). -/
def State.switchMig (s : State) (q : Nat) : State :=
  let x := s.quad q
  match x.mig, x.spare with
  | some m, some dst =>
    if m.phase ≠ 3 then s
    else match s.workOf m.source with
      | none => s.setQuad q { x with st := .ready, mig := none }
      | some (b, _) =>
        let src := s.tile m.source
        let t := (s.tile dst).takeOver src (planeBank s.pl.live b) (planeBank s.pl.shadow b) s.freeCtr
        let s := if src.ecc.isEmpty then s else { s with freeCtr := s.freeCtr + 2 }
        let s := (s.setTile dst t).setTile m.source { src.absent with l := Lateness.reset }
        let s := ({ s with carrier := moveCarrier s.carrier b dst } : State).moveReactions m.source dst
        match m.cause with
        | .test => (s.setQuad q { x with st := .ready, mig := none, spare := some m.source }).startTest m.source m.cmd m.queue
        | .fault =>
          let eps := s.flt.eps.map (fun e =>
            if e.zone = tileZone m.source && e.migrating && decide (e.st = .recovering) then
              { e with migrated := true }
            else e)
          let s := { s with flt := { s.flt with eps := eps } }
          ((s.setQuad q { x with st := .none_, mig := none, spare := none }).leaveService m.source).gradeSpare
        | .host =>
          let s := s.finish m.cmd .ok 0 (leBytes 1 dst ++ leBytes 8 s.per.mediaTime)
          (s.setQuad q { x with st := .ready, mig := none, spare := some m.source }).ready q
  | _, _ => s

/-- A fault in the spare ends a migration (18 R539, R540, R550). -/
def State.spareFault (s : State) (q : Nat) : State :=
  let x := s.quad q
  match x.mig, x.spare with
  | some m, some dst =>
    let s := match m.cause with
      | .test => (s.heldState m.queue 4).finish m.cmd .aborted 0 []
      | _ => s.finish m.cmd .aborted 0x0117 []
    ((s.setQuad q { x with st := .none_, mig := none, spare := none }).leaveService dst).gradeSpare
  | _, _ => s

/-! Carriers (18 R541). -/

/-- A physical tile carries work of a plane. -/
def carries (p : Plane) (car : Vector Nat 68) (k : Nat) : Bool := p.tiles.any (fun t => rd car t.1 == k)

/-- The tiles of a quadrant that are in service and carry no work, in ascending order. -/
def freeTiles (p : Plane) (car : Vector Nat 68) (out : List Nat) (q : Nat) : List Nat :=
  ((List.range 17).map (17 * q + ·)).filter (fun k => !mem out k && !carries p car k)

/-- Step 2 for one built tile: the lowest free tile that `avoid` does not name, else the last resorts in order (assumption
log 68; DEDUCED). -/
def assignStep2 (p : Plane) (out avoid last : List Nat) (car : Vector Nat 68) (b : Nat) : Vector Nat 68 :=
  let free := freeTiles p car out (quadOf b)
  match free.find? (fun k => !mem avoid k) with
  | some k => wr car b k
  | none => match last.find? (fun k => mem free k) with
    | some k => wr car b k
    | none => wr car b 0x7F

/-- The spare named for a quadrant. -/
def Plane.namedSpare (p : Plane) (q : Nat) : Nat := p.spare.getD q (17 * q + 16)

/-- Step 3: the spare of a quadrant. -/
def pickSpare (p : Plane) (car : Vector Nat 68) (out : List Nat) (q : Nat) : Option Nat :=
  let free := freeTiles p car out q
  if mem free (p.namedSpare q) then some (p.namedSpare q) else free.getLast?

/-- Carriers of the programs of a plane after a reset that restarts the interior. -/
def assignAll (p : Plane) (out : List Nat) : Vector Nat 68 :=
  let own : Vector Nat 68 := Vector.ofFn (fun i : Fin 68 => if mem out i.val then 0x7F else i.val)
  (p.tiles.filter (fun t => mem out t.1)).foldl (fun car t =>
    let named := p.namedSpare (quadOf t.1)
    assignStep2 p out [named] [named] car t.1) own

/-- A quadrant with its spare chosen again. -/
def State.respare (s : State) (p : Plane) (q : Nat) : State :=
  let x := s.quad q
  let sp := if s.domOn (6 + q) then pickSpare p s.carrier s.hlt.out q else none
  (s.setQuad q { x with spare := sp, st := if sp.isSome then .ready else .none_, mig := none, test := none }).gradeSpare

/-- Carriers and spares at a commit that makes `p` LIVE, with `old` the plane before it (18 R541) (assumption log 68;
DEDUCED). -/
def State.commitCarriers (s : State) (old : Option Plane) (p : Plane) : State :=
  match old with
  | none =>
    let s := { s with carrier := assignAll p s.hlt.out }
    (List.range 4).foldl (fun s q => s.respare p q) s
  | some o =>
    let fresh := p.tiles.filter (fun t => (lookup? o.tiles t.1).isNone)
    let car0 : Vector Nat 68 := fresh.foldl (fun c t => wr c t.1 0x7F) s.carrier
    let car := fresh.foldl (fun car t =>
      let b := t.1
      let q := quadOf b
      let free := freeTiles p car s.hlt.out q
      let present := ((s.quad q).spare.map (fun k => [k])).getD []
      if mem free b then wr car b b
      else assignStep2 p s.hlt.out (p.namedSpare q :: present) present car b) car0
    let s := { s with carrier := car }
    (List.range 4).foldl (fun s q =>
      match (s.quad q).spare with
      | some k => if decide ((s.quad q).st = .ready) && carries p car k then s.respare p q else s
      | none => s) s

/-- NO_TILE_FREE (18 R541): a quadrant has more programs than tiles in service. -/
def noTileFree (p : Plane) (out : List Nat) : Bool :=
  (List.range 4).any (fun q =>
    decide (17 - (out.filter (fun k => quadOf k == q)).length < (p.tiles.filter (fun t => quadOf t.1 == q)).length))

/-- The quadrant's domain goes off (18 R539, 19 R560): tiles absent, migration and test end, the spare leaves with it. -/
def State.quadOff (s : State) (q : Nat) : State :=
  let s := match (s.quad q).mig with
    | some m => if m.cause = MigCause.test then s else s.finish m.cmd .aborted 0 []
    | none => s
  let s := s.abortTest q
  let s := (List.range 17).foldl (fun s i =>
    let k := 17 * q + i
    s.setTile k { (s.tile k).absent with x := [], y := [], ecc := [], pLive := [], pShadow := [], l := Lateness.reset, slk := Slack.reset }) s
  (s.setQuad q ⟨.none_, none, none, none⟩).gradeSpare

/-- The quadrant's domain is on again: its spare is chosen. -/
def State.quadOn (s : State) (q : Nat) : State :=
  match s.pl.live with
  | some p => s.respare p q
  | none =>
    let own := 17 * q + 16
    let free := ((List.range 17).map (17 * q + ·)).filter (fun k => !mem s.hlt.out k)
    let sp := if mem free own then some own else free.getLast?
    (s.setQuad q ⟨if sp.isSome then .ready else .none_, sp, none, none⟩).gradeSpare

/-! Ageing (18 R533 to R536). -/

/-- AGEING_MEASUREMENT: f_ref and f_stress of each ring pair, four pairs per domain; eye margins in mV (assumption log 16;
DESIGN CHOICE). -/
def State.ageing (s : State) (freqs : Vector (Nat × Nat) 56) (eyes : Vector (Option Nat) 8) : State :=
  let rings := Vector.ofFn (fun i : Fin 56 =>
    let f := rd freqs i.val
    if s.domOn (i.val / 4) && f.2 != 0 then some (((f.1 * 1000000 / f.2 : Nat) : Int) - 1000000) else rd s.hlt.rings i.val)
  let eyes := Vector.ofFn (fun i : Fin 8 => if (s.lane i.val).st = .up then rd eyes i.val else rd s.hlt.eyes i.val)
  let hist := Vector.ofFn (fun i : Fin 8 =>
    let h := rd s.hlt.eyeHist i.val ++ [if (s.lane i.val).st = .up then rd eyes i.val else none]
    h.drop (h.length - 4320))
  let s := { s with hlt := { s.hlt with rings := rings, eyes := eyes, eyeHist := hist } }
  s.setGrade 2 s.serdesLevel

/-- Stress of one second at `tj` in 0.1 °C, in 2^-32 h (18 R534) (assumption log 31; DESIGN CHOICE). -/
def stressStep (tj : Int) : Nat := greatest (fun n => decide ((3600 * n) ^ 100 ≤ 2 ^ (2350 + tj).toNat)) 48 0

/-- The mean A of the pairs in PD6 to PD9 (18 R535). -/
def State.meanRings (s : State) : Int := meanI ((List.range 16).filterMap (fun i => rd s.hlt.rings (24 + i)))

/-- CONFIDENCE of the estimate (18 R536) (assumption log 94; DEDUCED). -/
def confidence (samples : List (Nat × Int)) (years low : Nat) : Nat :=
  if samples.length < 30 || samples.all (fun x => decide (x.2 < 500)) then 0
  else if 2 * low < years then 1 else if 10 * low < 8 * years then 2 else 3

/-- The ITIME_PS of a day with the conditions under which it compares: REQ_STEP, Tj and the largest of the active tiles (18
R535) (assumption log 100; DESIGN CHOICE). -/
def State.slackToday (s : State) : Option (Nat × Int × Nat) :=
  (s.maxItime (List.range 68)).map (fun t => (s.avs.req, s.mon.tileTj, t))

/-- The slack ageing in ppm against the first 30 days at the same REQ_STEP and with Tj within 2 °C; none where no day of them
compares (18 R535) (assumption log 100; DESIGN CHOICE). -/
def slackAgeing (fresh : List (Nat × Int × Nat)) (today : Option (Nat × Int × Nat)) : Option Int :=
  match today with
  | none => none
  | some (req, tj, t) =>
    let same := fresh.filter (fun x => x.1 == req && decide (x.2.1 ≤ tj + 20) && decide (tj ≤ x.2.1 + 20))
    let sum := (same.map (·.2.2)).sum
    if sum = 0 then none else some (((t * same.length * 1000000 / sum : Nat) : Int) - 1000000)

/-- The fraction of a binary logarithm: `n` bits of it, of a mantissa in units of 2^-40 (assumption log 100; DESIGN CHOICE). -/
def log2Frac : Nat → Nat → Nat → Nat
  | 0, _, acc => acc
  | n + 1, m, acc =>
    let q := m * m / 2 ^ 40
    if 2 ^ 41 ≤ q then log2Frac n (q / 2) (2 * acc + 1) else log2Frac n q (2 * acc)

/-- The binary logarithm in units of 2^-24, rounded down (assumption log 100; DESIGN CHOICE). -/
def log2Fix (x : Nat) : Nat :=
  let e := Nat.log2 x
  e * 2 ^ 24 + log2Frac 24 (if e ≤ 40 then x * 2 ^ (40 - e) else x / 2 ^ (e - 40)) 0

/-- The ageing limit A_LIM in ppm from T_FRESH in fs (18 R534). -/
def ageLimit (tFresh : Nat) : Nat := if tFresh = 0 then 0 else 1000000000000 / tFresh - 1000000

/-- The stress at end of life s_E, from the least-squares fit of ln A_T against ln s with n from 0.10 to 0.35 (18 R536); none where
the samples give no line (assumption log 100; DESIGN CHOICE). -/
def eolStress (samples : List (Nat × Int)) (aLim : Nat) : Option Nat :=
  let pts : List (Int × Int) := samples.filterMap (fun x =>
    if 0 < x.1 && decide (0 < x.2) then some ((log2Fix x.1 : Int), (log2Fix x.2.toNat : Int)) else none)
  let m : Int := pts.length
  let sx := (pts.map (·.1)).sum
  let sy := (pts.map (·.2)).sum
  let d := m * (pts.map (fun p => p.1 * p.1)).sum - sx * sx
  let n := m * (pts.map (fun p => p.1 * p.2)).sum - sx * sy
  if d ≤ 0 then none
  else
    let (p, q) : Int × Int := if 10 * n < d then (1, 10) else if 7 * d < 20 * n then (7, 20) else (n, d)
    let e := (q * (m * (log2Fix aLim : Int) - sy) + p * sx) / (m * p)
    some (greatest (fun x => decide ((log2Fix x : Int) ≤ e)) 96 0)

/-- EOL_YEARS in 0.1 year (18 R536) (assumption log 100; DESIGN CHOICE). -/
def eolYears (samples : List (Nat × Int)) (stress aLim : Nat) : Nat :=
  if aLim = 0 then 0
  else match eolStress samples aLim with
    | none => 0xFFFE
    | some e =>
      let month := stress - ((samples[samples.length - 31]?).map (·.1)).getD 0
      let month := if samples.length < 31 then stress else month
      if e ≤ stress then 0 else if month = 0 then 0xFFFE else min 0xFFFE ((e - stress) * 300 / (365 * month))

/-- DAILY_HEALTH (18 R535 to R537): the figure from the lower confidence bound comes with the row (assumption log 16, 31,
100; DESIGN CHOICE). -/
def State.daily (s : State) (low : Nat) : State :=
  if !s.pwr.cpRunning then s
  else
    let today := s.slackToday
    let fresh := if s.hlt.samples.length < 30 then s.hlt.fresh ++ today.toList else s.hlt.fresh
    let at_ := match slackAgeing fresh today with | some v => max s.meanRings v | none => s.meanRings
    let samples := (s.hlt.samples ++ [(s.hlt.stress, at_)]).drop (s.hlt.samples.length + 1 - 4096)
    let years := eolYears samples s.hlt.stress (ageLimit Config.tFresh.toNat)
    let low := min low 0xFFFE
    let conf := confidence samples years low
    let s := { s with hlt := { s.hlt with
      samples := samples, fresh := fresh, conf := conf, eolYears := if conf = 0 then 0xFFFF else years
      eolLow := if conf = 0 then 0xFFFF else low } }
    ((((s.setGrade 0 (ageLevel s.hlt.eolLow)).gradeSram).setGrade 2 s.serdesLevel).gradeFlash).gradeSpare

/-! Registers (18 R548). -/

/-- HLT_HEALTH. -/
def State.hltHealth (s : State) : Nat :=
  let g (i : Nat) : Nat × Nat := (2, rd s.hlt.grades i)
  packBits [g 0, g 1, g 2, g 3, g 4, g 5, (2, s.hlt.conf), (1, b2n s.hlt.calBlocked), (1, b2n s.hlt.maint), (16, s.hlt.eolLow)]

/-- SPARE_STATE (assumption log 82; DESIGN CHOICE). -/
def QuadSt.code : QuadSt → Nat
  | .ready => 0 | .migrating => 1 | .testing => 2 | .none_ => 3

/-- HLT_QUADq. -/
def State.hltQuad (s : State) (q : Nat) : Nat :=
  let x := s.quad q
  packBits [(8, 0), (5, (s.hlt.out.filter (fun k => quadOf k == q)).length), (2, 0), (7, (x.mig.map (·.source)).getD 0x7F),
    (7, x.spare.getD 0x7F), (3, x.st.code)]

end Sys2Proof.Machine
end

