-- ==== Sys2Proof/Machine/HealthCmds.lean ====
section
/-!
DEFINITION. Commands of health and self-test (18 R543 to R550).
-/
namespace Sys2Proof.Machine

/-- An optional number as a field, with the value that stands for none. -/
def optField (n none_ : Nat) (v : Option Nat) : RField := (n, v.getD none_)

/-- HEALTH_STATUS. -/
def runHealthStatus (_ : Ctx) (s : State) : Done × State :=
  let h := s.hlt
  let at_ := (h.samples.getLast?.map (·.2)).getD 0
  (.ok ([(4, s.hltHealth), (2, h.eolYears), (8, h.stress), sfld 4 at_] ++ (List.range 4).map (fun q => (4, s.hltQuad q)) ++
    (List.range 68).map (fun b => (1, s.carrierOf b)) ++
    [(2, h.eolLow)] ++ (List.range 4).map (fun q => (4, (eccRecent (rd h.ecc q) s.now).length)) ++
    (List.range 8).map (fun i => optField 2 0xFFFF (rd h.eyes i)) ++
    s.boot.areaErases.map (fun n => (4, n)) ++ [(1, 128 - s.boot.otp), (1, s.boot.keysLeft), (1, s.noneCount), (8, h.lastSweep)]), s)

/-- The bytes of AGEING_REPORT: 56 ratios, 0x80000000 where none, then the daily samples. -/
def ageingBytes (h : Hlt) : List Byte :=
  h.rings.toList.flatMap (fun r => match r with
    | some v => leBytes 4 (sfld 4 v).2
    | none => leBytes 4 0x80000000) ++
  h.samples.flatMap (fun x => leBytes 8 x.1 ++ leBytes 4 (sfld 4 x.2).2)

/-- AGEING_REPORT. -/
def runAgeingReport (c : Ctx) (addr : Nat) (s : State) : Done × State :=
  if noBuf c.port then (.argPtr, s)
  else (.ok [], s.hostWrite c.port addr (ageingBytes s.hlt))

/-- SELFTEST_TILE. -/
def runSelftestTile (c : Ctx) (k : Nat) (s : State) : Done × State :=
  if 67 < k then (.range, s)
  else if s.outOfService k || s.underTest k then (.fail .rejectedState 0x0113, s)
  else if decide ((s.quad (quadOf k)).st = .ready) then (.later, s.serveTest k (some (c.port, c.handle)) none)
  else if !c.flags.getLsbD 2 then (.fail .deferred 0x0110, s)
  else if 16 ≤ (s.hlt.held.filter (fun h => h.state == 0)).length then (.fail .resource 0x0112, s)
  else
    let id := s.hlt.nextId
    (.done .deferred 0x0110 (testResult 0 0 id),
      { s with hlt := { s.hlt with held := s.hlt.held ++ [⟨id, k, 0⟩], nextId := id + 1 } })

/-- SELFTEST_RESULT (assumption log 35; DEDUCED). -/
def runSelftestResult (_ : Ctx) (id : Nat) (s : State) : Done × State :=
  match s.hlt.held.find? (fun h => h.id == id) with
  | none => (.fail .rejectedArgs 0x0115, s)
  | some h => (.ok [(1, h.state)], s)

/-- A running test, or the migration for it, ends ABORTED and the quadrant is READY again (18 R540) (assumption log 34;
DEDUCED). -/
def State.cancelTest (s : State) (q : Nat) : State :=
  let s := s.abortTest q
  (s.setQuad q { s.quad q with st := .ready }).ready q

/-- SELFTEST_CANCEL by QUEUE_ID or by TILE (assumption log 35; DEDUCED). -/
def runSelftestCancel (_ : Ctx) (byTile : Bool) (id : Nat) (s : State) : Done × State :=
  let runs (q : Nat) (f : Nat → Option Nat → Bool) : Bool :=
    let x := s.quad q
    (match x.test with | some t => f t.tile t.queue | none => false) ||
    (match x.mig with | some m => decide (m.cause = MigCause.test) && f m.source m.queue | none => false)
  let hit (t : Nat) (qu : Option Nat) : Bool := if byTile then t == id else qu == some id
  let drop := s.hlt.held.filter (fun h => h.state == 0 && (if byTile then h.tile == id else h.id == id))
  let qs := (List.range 4).filter (fun q => runs q hit)
  if byTile && 67 < id then (.range, s)
  else if drop.isEmpty && qs.isEmpty && !(!byTile && s.hlt.held.any (fun h => h.id == id)) then (.fail .rejectedArgs 0x0115, s)
  else
    let s := drop.foldl (fun s h => s.heldState (some h.id) 4) s
    (.ok [], qs.foldl (fun s q => s.cancelTest q) s)

/-- TILE_MIGRATE. -/
def runTileMigrate (c : Ctx) (k : Nat) (s : State) : Done × State :=
  if 67 < k then (.range, s)
  else if s.outOfService k || s.underTest k then (.fail .rejectedState 0x0113, s)
  else if (s.workOf k).isNone then (.fail .rejectedState 0x0116, s)
  else if (s.quad (quadOf k)).st = .ready then (.later, s.startMig k .host (some (c.port, c.handle)) none)
  else (.fail .deferred 0x0110, s)

/-- MAINT_ENTER. -/
def runMaintEnter (_ : Ctx) (s : State) : Done × State :=
  if s.leads.any (fun l => (s.chan l).switching) then (.fail .rejectedState 0x0114, s)
  else
    let s := s.leads.foldl (fun s l => s.hostHold l) s
    (.ok [], { s with hlt := { s.hlt with maint := true } })

/-- MAINT_EXIT. -/
def runMaintExit (_ : Ctx) (s : State) : Done × State :=
  if s.hlt.maint then (.ok [], { s with hlt := { s.hlt with maint := false } }) else (.fail .rejectedState 0x0111, s)

/-- SELFTEST_FULL: the parts under test stop writing their slots (18 R545) (assumption log 35; DEDUCED). -/
def runSelftestFull (c : Ctx) (mask : Nat) (s : State) : Done × State :=
  if 7 < mask then (.range, s)
  else if !s.hlt.maint || s.hlt.full.isSome then (.fail .rejectedState 0x0111, s)
  else
    let s := { s with hlt := { s.hlt with full := some ⟨mask, c.port, c.handle⟩ } }
    if bit mask 0 then
      let s := (List.range 4).foldl (fun s q =>
        let s := match (s.quad q).mig with
          | some m => if m.cause = MigCause.test then s else s.finish m.cmd .aborted 0 []
          | none => s
        let s := s.abortTest q
        if (s.quad q).spare.isSome then s.setQuad q { s.quad q with st := .ready } else s) s
      (.later, { s with tiles := s.tiles.map Tile.absent })
    else (.later, s)

/-- Sums, limiters and ramp units start as new objects, delay histories are cleared (18 R545). -/
def State.renewInterior (s : State) (p : Plane) : State :=
  let b := s.per.boundaries + 1
  { s with
    mtx := { s.mtx with sums := [], ramps := Vector.ofFn (fun i : Fin 256 =>
      match p.ramps.find? (fun r => r.ramp == i.val) with
      | some r => match p.xpoints.find? (fun x => x.inSlot == r.inSlot && x.sum == r.sum) with
        | some x => RampSt.fresh r x.gain b
        | none => .free
      | none => match rd s.mtx.ramps i.val with
        | .fade d => .fade d
        | _ => .free) }
    dm := { s.dm with lines := s.dm.lines.map (fun q => (q.1, { LineSt.fresh (if s.dm.st = .up then some b else none) with lastOut := q.2.lastOut })) } }

/-- A failed tile that carries work: the work goes to a free tile of the quadrant (18 R541 step 2) (assumption log 36;
DEDUCED). -/
def State.moveOff (s : State) (p : Plane) : State :=
  let bad := p.tiles.filter (fun t => mem s.hlt.out (s.carrierOf t.1))
  let car := bad.foldl (fun car t =>
    let q := quadOf t.1
    assignStep2 p s.hlt.out [p.namedSpare q] [p.namedSpare q] car t.1) s.carrier
  { s with carrier := car }

/-- Every tile that carries work cold-starts. -/
def State.coldAll (s : State) : State :=
  (List.range 68).foldl (fun s k =>
    match s.workOf k with
    | none => s
    | some (b, prog) => s.setTile k { (s.tile k).coldStart prog with
        coldLeft := 9, l := Lateness.reset, pLive := planeBank s.pl.live b, pShadow := planeBank s.pl.shadow b, ecc := [] }) s

/-- SELFTEST_FULL_END (18 R540, R545): pass bitmaps of tiles, lanes and memory (assumption log 36; DEDUCED). -/
def State.fullEnd (s : State) (tiles : BitVec 68) (lanes : BitVec 48) (mem_ : Bool) : State :=
  match s.hlt.full with
  | none => s
  | some f =>
    let tested := bit f.mask 0
    let out := if tested then (List.range 68).filter (fun k => !tiles.getLsbD k) else s.hlt.out
    let s := { s with hlt := { s.hlt with full := none, out := out } }
    let s := match s.pl.live with
      | none => if tested then (List.range 4).foldl (fun (s : State) q => if s.domOn (6 + q) then s.quadOn q else s) s else s
      | some p =>
        let s := (s.moveOff p).renewInterior p
        let s := s.coldAll
        if tested then (List.range 4).foldl (fun s q =>
          match (s.quad q).spare with
          | some k => if mem out k || carries p s.carrier k then s.respare p q else s
          | none => (s.respare p q).ready q) s
        else s
    s.complete f.port f.handle .ok 0 (leBytes 9 (if tested then tiles.toNat else 0) ++
      leBytes 6 (if bit f.mask 1 then lanes.toNat else 0) ++ leBytes 1 (b2n (bit f.mask 2 && mem_)))

/-- CAL_CONFIG (18 R546). -/
def runCalConfig (_ : Ctx) (interval : Nat) (persist : Bool) (s : State) : Done × State :=
  if interval ≠ 0 && (interval < 10 || 86400 < interval) then (.range, s)
  else if persist then (.flash, s)
  else (.ok [(4, interval)], { s with hlt := { s.hlt with calInterval := interval } })

/-- CAL_CONFIG once CONFIG is written. -/
def finCalConfig (interval : Nat) (s : State) : Done × State :=
  (.ok [(4, interval)], { s with hlt := { s.hlt with calInterval := interval }, cfg := { s.cfg with calInterval := some interval } })

end Sys2Proof.Machine
end

