-- ==== Sys2Proof/Machine/Planes.lean ====
section
/-!
DEFINITION. The plane life cycle and the structure commands (03 R102 to R119, R618).
-/
namespace Sys2Proof.Machine

/-- The first 8 bytes of a plane digest; zeros without a plane. -/
def digest8 (p : Option Plane) : List Byte := match p with | some p => slice p.digest 0 8 | none => List.replicate 8 0

/-- The load checks of the engine as it stands (03 R102). `rate` none leaves RATE out. -/
def State.loadEnv (s : State) (kind len : Nat) (rate : Option Nat) : LoadEnv := ⟨kind, len, rate, s.pl.shadow, s.pl.sigKey, s.dm⟩

/-- A plane command is in flight (03 R103). -/
def Planes.busy (p : Planes) : Bool := p.cmd.isSome || p.commit.isSome
/-- BUSY. -/
def Done.busy : Done := .fail .rejectedState 0x0030
/-- The planes with the SHADOW state put back by a command that leaves CHECKING. -/
def Planes.unchecked (p : Planes) : Planes :=
  { p with cmd := none, st := match p.st with | .checking r => if r then .ready else .empty | x => x }
/-- SHADOW becomes EMPTY. -/
def Planes.emptied (p : Planes) : Planes := { p with cmd := none, shadow := none, st := .empty }

/-! Boot-structure copies (03 R113, R618; 17 R504). -/

/-- A boot-structure copy whose header is valid. -/
def Boot.copy (b : Boot) (i : Nat) : Option (Nat × List Byte) := rd b.structs i
/-- The newer boot copy; copy 0 where both headers fail. -/
def Boot.newer (b : Boot) : Nat :=
  match b.copy 0, b.copy 1 with
  | some x, some y => if x.1 < y.1 then 1 else 0
  | none, some _ => 1
  | _, _ => 0
/-- S, the size of a boot-structure area. -/
def Boot.structArea (b : Boot) : Nat := min 0x01810000 ((b.flashBytes - 0x01980000) / 2 / 65536 * 65536)

/-! Loading. -/

/-- CHECKING starts. -/
def State.startCheck (s : State) (x : PlaneCmd) : State :=
  { s with pl := { s.pl with cmd := some x, st := .checking (decide (s.pl.st = .ready)) } }

/-- STRUCT_LOAD. -/
def runStructLoad (c : Ctx) (source addr len : Nat) (s : State) : Done × State :=
  if noBuf c.port && (source = 0 || addr ≠ 0) then (.argPtr, s)
  else if 2 < source then (.range, s)
  else if s.pl.busy then (.busy, s)
  else if source = 0 then
    if len < 128 then (.fail .rejectedArgs 0x0003, s)
    else (.later, s.startCheck ⟨c.port, c.handle, .load, 0, 0, len, [], none, false⟩)
  else
    let i := if source = 1 then s.boot.newer else 1 - s.boot.newer
    match s.boot.copy i with
    | none => (.fail .rejectedArgs 0x0001, s)
    | some x =>
      if x.2.length < 128 then (.fail .rejectedArgs 0x0003, s)
      else (.later, s.startCheck ⟨c.port, c.handle, .load, source, i, x.2.length, [], none, false⟩)

/-- STRUCT_PATCH. -/
def runStructPatch (c : Ctx) (source addr len : Nat) (s : State) : Done × State :=
  if noBuf c.port && (source = 0 || addr ≠ 0) then (.argPtr, s)
  else if source ≠ 0 then (.range, s)
  else if s.pl.busy then (.busy, s)
  else if len < 128 then (.fail .rejectedArgs 0x0003, s)
  else if s.pl.st ≠ .ready then (.fail .rejectedState 0x0009, s)
  else (.later, s.startCheck ⟨c.port, c.handle, .patch, 0, 0, len, [], none, false⟩)

/-- STRUCT_COPY. -/
def runStructCopy (c : Ctx) (s : State) : Done × State :=
  if s.pl.busy then (.busy, s)
  else match s.pl.live with
    | none => (.fail .rejectedState 0x0032, s)
    | some p => (.later, { s with pl := { s.pl with
        st := .writing, cmd := some ⟨c.port, c.handle, .copy, 0, 0, 0, p.digest, some p, false⟩ } })

/-- STRUCT_DISCARD (assumption log 37; DEDUCED). -/
def runStructDiscard (_ : Ctx) (s : State) : Done × State :=
  if s.pl.busy then (.busy, s) else (.ok [], { s with pl := s.pl.emptied })

/-- The SHADOW banks of P memory follow the SHADOW plane, on the carriers of its programs (05 R145, 03 R110). -/
def State.writeShadowBanks (s : State) : State :=
  { s with tiles := Vector.ofFn (fun i : Fin 68 =>
      let t := s.tile i.val
      match s.pl.shadow.bind (fun p => p.tiles.find? (fun q => s.carrierOf q.1 == i.val)) with
      | none => t
      | some q => { t with pShadow := planeBank s.pl.shadow q.1, ecc := t.ecc.filter (fun e => decide (e.1 ≠ .ps)) }) }

/-! Commit checks (03 R102, R105, R106, R109; 18 R541). -/

/-- The domains that a plane's blocks lie in (01 R19, 19 R558). -/
def Plane.domainsUsed (p : Plane) : List Nat :=
  [10] ++ p.tiles.map (fun t => 6 + quadOf t.1) ++ (if p.lines.isEmpty then [] else [11]) ++
  (if p.modulators.isEmpty then [] else [12]) ++ (if p.saports.isEmpty then [] else [13]) ++
  (if p.streams.isEmpty then [] else [5]) ++
  p.streams.flatMap (fun r => laneDomain r.portA :: (if r.roped then [laneDomain r.portB] else []))

/-- What R112 names for keeping a tile; ENTRY_BG holds BG_PRESENT (R83). -/
def TileProg.same (a b : TileProg) : Bool :=
  decide (a.words = b.words) && a.entryFg == b.entryFg && a.entryBg == b.entryBg && a.bgPresent == b.bgPresent && a.tag == b.tag

/-- A tile's program changes between two planes. -/
def progChanged (old : Option Plane) (p : Plane) (b : Nat) : Bool :=
  match old.bind (fun o => lookup? o.tiles b), lookup? p.tiles b with
  | some x, some y => !x.same y
  | none, none => false
  | _, _ => true

/-- MIGRATION passes. -/
def State.migrationOk (s : State) (p : Plane) : Bool :=
  let car := (s.commitCarriers s.pl.live p).carrier
  (List.range 68).all (fun b => !progChanged s.pl.live p b ||
    (List.range 4).all (fun q => match (s.quad q).mig with
      | some m => m.source != s.carrierOf b || (lookup? ((s.pl.live.map (·.tiles)).getD []) b).isNone
      | none => true)) &&
  p.tiles.all (fun t => !s.underTest (rd car t.1))

/-- SWITCHING passes (03 R109). -/
def State.switchingOk (s : State) (p : Plane) : Bool :=
  p.modulators.all (fun n => match s.modRec n.channel with
    | none => true
    | some o => !(s.chan n.channel).switching || (o.fswMult == n.fswMult && o.deadtime == n.deadtime && o.btl == n.btl))

/-- Routes that fade at a commit: present in both planes, FADE set in the new one, another source (03 R106) (assumption log
89; DEDUCED). -/
def fadingRoutes (old : Option Plane) (p : Plane) : List (Route × Nat) :=
  match old with
  | none => []
  | some o => p.routes.filterMap (fun r =>
      match o.routes.find? (fun q => q.dst == r.dst) with
      | some q => if r.fade && q.src != r.src then some (r, q.src) else none
      | none => none)

/-- Fades of earlier commits that still run at boundary `b` (04 R130). -/
def State.fadesRunning (s : State) (b : Nat) : List Fade :=
  s.ex.fades.filter (fun f => decide (b < s.per.boundaries + f.len + 1 - f.step))

/-- Fades of earlier commits that go on at boundary `b` under the new plane (04 R129). -/
def State.fadesAt (s : State) (p : Plane) (b : Nat) : List Fade :=
  (s.fadesRunning b).filter (fun f => p.routes.any (fun r => r.dst == f.dst && r.fade))

/-- The new plane changes the source of a route that is still fading at boundary `b`, FADE set or not (04 R129). -/
def State.fadeBusy (s : State) (p : Plane) (b : Nat) : Bool :=
  (s.fadesRunning b).any (fun f => p.routes.any (fun r => r.dst == f.dst && r.src != f.newSrc))

/-- INIT_SIZE passes (03 R112, 05 R177). -/
def initSizeOk (old : Option Plane) (p : Plane) : Bool :=
  p.tiles.all (fun t => match old.bind (fun o => lookup? o.tiles t.1) with
    | none => true
    | some x => !x.same t.2 ||
      decide (t.2.gather.length + ((((lookup? p.data t.1).getD []).filter (·.initAlways)).map (·.words.length)).sum ≤ 256))

/-- The commit checks on SHADOW for a commit at boundary `b`: the first that fails. -/
def State.commitChecks (s : State) (p : Plane) (start b : Nat) : Option (Status × Nat) :=
  let fading := fadingRoutes s.pl.live p
  let still := s.fadesAt p b
  if b < start + 64 then some (.late, 0x0021)
  else if p.domainsUsed.any (fun d => !s.domOn d) then some (.rejectedState, 0x0022)
  else if !s.migrationOk p then some (.rejectedState, 0x0023)
  else if !s.switchingOk p then some (.rejectedState, 0x0024)
  else if s.fadeBusy p b then some (.rejectedState, 0x0025)
  else if 256 < p.ramps.length + still.length + fading.length then some (.resource, 0x0026)
  else if !initSizeOk s.pl.live p then some (.resource, 0x0027)
  else if noTileFree p s.hlt.out then some (.resource, 0x0113)
  else none

/-- The predicted finish fraction of a tile of the new plane is at or above 90% (02 R54). -/
def State.predictsLate (s : State) (p : Plane) : Bool :=
  let s := s.commitCarriers s.pl.live p
  p.tiles.any (fun t =>
    let k := s.carrierOf t.1
    let x := (s.tile k).slk
    let q := (List.range 17).map (fun i => (s.tile (17 * quadOf t.1 + i)).slk)
    let act := q.filter (·.lastActive)
    let itime := if x.lastActive then x.itimePs else if act.isEmpty then 1000 else act.foldl (fun m y => max m y.itimePs) 0
    decide (58982 ≤ (40000000 + t.2.proven * itime * 105) * rateHz s.per.baseRate * 65536 / 100000000000000))

/-- The guard's hold follows the boundary that the engine chose (assumption log 38; DEDUCED). -/
def State.guardFrom (s : State) (b : Nat) : State := { s with avs := s.avs.guard b }

/-- BOUNDARY 0: the boundary is chosen once no confirmation is needed or it has come (03 R105) (assumption log 38; DEDUCED). -/
def State.chooseBoundary (s : State) : State :=
  match s.pl.commit with
  | some k =>
    if k.boundary.isSome || (k.guard && !s.avs.guardOk) then s
    else
      let b := max (k.start + 64) (s.per.boundaries + 33)
      let s := { s with pl := { s.pl with commit := some { k with boundary := some b, confirmed := k.guard } } }
      if k.guard then s.guardFrom b else s
  | none => s

/-- The commit is armed (03 R103, R105; 02 R54) (assumption log 38; DEDUCED). -/
def State.arm (s : State) (p : Plane) (x : Commit) : State :=
  let guard := s.predictsLate p
  let s := { s with pl := { s.pl with commit := some { x with guard := guard }, st := .armed } }
  let s := if guard then s.guardFrom (x.boundary.getD (x.start + 64)) else s
  s.chooseBoundary

/-- STRUCT_COMMIT. -/
def runStructCommit (c : Ctx) (boundary digest : Nat) (s : State) : Done × State :=
  if s.pl.busy then (.busy, s)
  else match s.pl.shadow with
    | none => (.fail .rejectedState 0x0020, s)
    | some p =>
      let b := if boundary = 0 then c.startB + 64 else s.boundaryOf boundary
      if s.pl.st ≠ .ready || leNat (slice p.digest 0 8) ≠ digest then (.fail .rejectedState 0x0020, s)
      else if boundary ≠ 0 && decide (boundary < s.per.mediaTime) then (.fail .late 0x0021, s)
      else match s.commitChecks p c.startB b with
        | some (st, d) => (.fail st d, s)
        | none => (.later, s.arm p ⟨c.port, c.handle, c.startB, if boundary = 0 then none else some b, false, false, false⟩)

/-- A commit ends without a swap: SHADOW is READY (03 R103). -/
def State.endCommit (s : State) (st : Status) (detail : Nat) : State :=
  match s.pl.commit with
  | none => s
  | some k =>
    let s := { s with pl := { s.pl with commit := none, st := .ready } }
    if k.boot then s else s.complete k.port k.handle st detail []

/-- COMMIT_LOCK_POINT (03 R103, R105, R111). -/
def State.lockPoint (s : State) : State :=
  match s.pl.commit, s.pl.shadow with
  | some k, some p =>
    match k.boundary with
    | none => s
    | some b =>
      if s.pl.st ≠ .armed || s.per.boundaries + 32 < b || b ≤ s.per.boundaries then s
      else if !s.pwr.cpRunning then s.endCommit .aborted 0x0033
      else match s.commitChecks p k.start b with
        | some (st, d) => s.endCommit st d
        | none => { s with pl := { s.pl with st := .locked } }
  | _, _ => s

/-- A plane command is given up as STRUCT_CANCEL leaves it, with this status (03 R103, R119; 17 R521). -/
def State.cancelPlane (s : State) (st : Status) (detail : Nat) : State :=
  match s.pl.cmd with
  | some x =>
    let s := match s.pl.st with
      | .checking _ => { s with pl := s.pl.unchecked }
      | _ => { s with pl := s.pl.emptied }
    if x.boot then s else s.complete x.port x.handle st detail []
  | none => if s.pl.st = .armed then s.endCommit st detail else s

/-- STRUCT_CANCEL (03 R119) (assumption log 37, 106; DEDUCED, DESIGN CHOICE). -/
def runStructCancel (c : Ctx) (handle : Nat) (s : State) : Done × State :=
  let no : Done × State := (.fail .rejectedArgs 0, s)
  match (s.port c.port).flight? handle with
  | none => no
  | some f =>
    let named := match f.cmd with
      | .structLoad .. => true | .structPatch .. => true | .structCommit .. => true
      | _ => false
    let mine (p : CPort) (h : Nat) : Bool := p == c.port && h == handle
    if !named then no
    else if !f.started then (.ok [], s.complete c.port handle .aborted 0 [])
    else if (match s.pl.cmd with | some x => mine x.port x.handle | none => false) then (.ok [], s.cancelPlane .aborted 0)
    else match s.pl.commit with
      | some k =>
        if !mine k.port k.handle then no
        else if s.pl.st = .locked then (.fail .rejectedState 0x0031, s)
        else (.ok [], s.endCommit .aborted 0)
      | none => no

/-- The code of a SHADOW state (assumption log 82; DESIGN CHOICE). -/
def ShSt.code : ShSt → Nat
  | .empty => 0 | .ready => 1 | .checking _ => 2 | .writing => 3 | .armed => 4 | .locked => 5

/-- STRUCT_STATUS. -/
def runStructStatus (_ : Ctx) (s : State) : Done × State :=
  let p := s.pl
  let armed := match p.commit with | some k => ((k.boundary.map s.mediaOf).getD 0) | none => 0
  (.done .ok 0 (leBytes 1 p.st.code ++ leBytes 1 (b2n p.live.isSome) ++ digest8 p.live ++ digest8 p.shadow ++ leBytes 8 armed ++
    leBytes 1 s.per.baseRate ++ leBytes 1 (b2n p.sigKey.isSome)), s)

/-- The DELAY_FIT check is held while the memory trains (08 R236): it decides nothing where the plane has no lines. -/
def State.holdsFit (s : State) (r : CheckRes Plane) : Bool :=
  decide (s.dm.st = .training) && (match r with
    | .ok p => !p.lines.isEmpty
    | .error (st, d) => decide (st = .resource) && d == 0x0013)

/-- STRUCT_BOOT_WRITE: the load checks except RATE, then the flash operation (03 R115, 15 R453, 17 R504). BOOT_SPACE stands
after SIZE's length test and before the other checks. While the memory trains the DELAY_FIT check waits, and the command
with it (08 R236) (assumption log 105; DESIGN CHOICE). -/
def runStructBootWrite (c : Ctx) (len : Nat) (image : List Byte) (s : State) : Done × State :=
  if noBuf c.port then (.argPtr, s)
  else if len < 128 then (.fail .rejectedArgs 0x0003, s)
  else if s.boot.structArea - 65536 < len then (.fail .resource 0x00F7, s)
  else
    let r := loadChecks (s.loadEnv 1 len none) image
    if s.holdsFit r then (.later, s)
    else match r with
      | .error (st, d) => (.fail st d, s)
      | .ok _ => (.flash, s)

/-- The flash operation of a STRUCT_BOOT_WRITE begins: the copy that is not the newest is erased, its header's sector and those
of the image (17 R504, R505). -/
def State.bootCopyErased (s : State) (len : Nat) : State :=
  let i := 1 - s.boot.newer
  let first := 408 + i * (s.boot.structArea / 65536)
  { s with boot := ({ s.boot with structs := wr s.boot.structs i none } : Boot).erase first (1 + (len + 65535) / 65536) }

/-- STRUCT_BOOT_WRITE once the copy is written and read back. -/
def finStructBootWrite (len : Nat) (image : List Byte) (s : State) : Done × State :=
  let old := 1 - s.boot.newer
  let seq := ((s.boot.copy (1 - old)).map (·.1)).getD 0 + 1
  (.ok [(4, seq), (1, old)], { s with boot := { s.boot with structs := wr s.boot.structs old (some (seq, slice image 0 len)) } })

/-- STRUCT_KEY_SET (03 R117) (assumption log 37; DEDUCED). -/
def runStructKeySet (c : Ctx) (addr : Nat) (require : Bool) (s : State) : Done × State :=
  let held := (s.pl.sigKey.map (·.require)).getD false
  if noBuf c.port && addr ≠ 0 then (.argPtr, s)
  else if held && (addr = 0 || !require) && !s.hlt.maint then (.fail .rejectedState 0x0111, s)
  else (.flash, s)

/-- STRUCT_KEY_SET once CONFIG is written. -/
def finStructKeySet (keyId addr : Nat) (key : List Byte) (require : Bool) (s : State) : Done × State :=
  if addr = 0 then (.ok [(4, 0), (1, 0)], { s with pl := { s.pl with sigKey := none } })
  else (.ok [(4, keyId), (1, b2n require)], { s with pl := { s.pl with sigKey := some ⟨keyId, slice key 0 96, require⟩ } })

/-! The boot structure (03 R113, R114). -/

/-- Neither copy is valid: BOOT_STRUCT is logged with the detail of each, and the base rate is 96 kHz (assumption log 78;
DEDUCED). -/
def State.noBootStruct (s : State) : State :=
  let d := s.boot.structDetail
  ({ s with boot := { s.boot with tryNext := none }, per := { s.per with baseRate := 3 } } : State).raise 0x0205 0x01 0xFFFF
    (packBits [(16, rd d 0), (16, rd d 1)])

/-- The firmware starts on a boot copy; `i` the copy, `next` the one to try after it (assumption log 78; DEDUCED). -/
def State.tryCopy (s : State) (i : Nat) (next : Option Nat) : State :=
  match s.boot.copy i with
  | some x =>
    let s := { s with boot := { s.boot with tryNext := next } }
    s.startCheck ⟨.A, 0, .load, 1, i, x.2.length, [], none, true⟩
  | none =>
    let s := { s with boot := { s.boot with structDetail := wr s.boot.structDetail i 0x0001 } }
    match next with
    | none => s.noBootStruct
    | some j => match s.boot.copy j with
      | some x =>
        let s := { s with boot := { s.boot with tryNext := none } }
        s.startCheck ⟨.A, 0, .load, 1, j, x.2.length, [], none, true⟩
      | none => { s with boot := { s.boot with structDetail := wr s.boot.structDetail j 0x0001 } }.noBootStruct

/-- The firmware loads the boot structure after a reset that restarts the interior (assumption log 49, 78; DEDUCED). -/
def State.loadBoot (s : State) : State := s.tryCopy s.boot.newer (some (1 - s.boot.newer))

/-- IMAGE_CHECK_COMPLETE (03 R103, R104; 08 R236: DELAY_FIT waits while the memory trains) (assumption log 78, 80; DEDUCED). -/
def State.imageChecked (s : State) (bytes : List Byte) : State :=
  match s.pl.cmd, s.pl.st with
  | some x, .checking _ =>
    let img := if x.source = 0 then bytes else ((s.boot.copy x.copy).map (·.2)).getD []
    let r := loadChecks (s.loadEnv (if x.kind = .patch then 2 else 1) x.len (if x.boot then none else some s.per.baseRate)) img
    if s.holdsFit r then s
    else match r with
      | .ok p => { s with pl := { s.pl with st := .writing, cmd := some { x with digest := imageDigest x.len img, cand := some p } } }
      | .error (st, d) =>
        let s := { s with pl := s.pl.unchecked }
        if !x.boot then s.complete x.port x.handle st d []
        else
          let s := { s with boot := { s.boot with structDetail := wr s.boot.structDetail x.copy d } }
          match s.boot.tryNext with
          | some j => s.tryCopy j none
          | none => s.noBootStruct
  | _, _ => s

/-- IMAGE_WRITE_COMPLETE (03 R103, R104) (assumption log 37, 78; DEDUCED). -/
def State.imageWritten (s : State) (bytes : List Byte) : State :=
  match s.pl.cmd, s.pl.st with
  | some x, .writing =>
    match x.cand with
    | none => { s with pl := s.pl.emptied }
    | some p =>
      if x.kind ≠ .copy && x.source = 0 && decide (imageDigest x.len bytes ≠ x.digest) then
        { s with pl := s.pl.emptied }.complete x.port x.handle .integrity 0x0006 []
      else
        let s := { s with pl := { s.pl with shadow := some p, st := .ready, cmd := none } }.writeShadowBanks
        if x.boot then
          let s := { s with per := { s.per with baseRate := p.baseRate } }
          match s.commitChecks p s.per.boundaries (s.per.boundaries + 64) with
          | some _ => s
          | none => s.arm p ⟨.A, 0, s.per.boundaries, none, false, false, true⟩
        else match x.kind with
          | .load => s.complete x.port x.handle .ok 0 (digest8 (some p) ++ leBytes 8 p.imageId.toNat)
          | .patch => s.complete x.port x.handle .ok 0 (digest8 (some p) ++ leBytes 4 p.patchSeq)
          | .copy => s.complete x.port x.handle .ok 0 (digest8 (some p))
  | _, _ => s

end Sys2Proof.Machine
end

