-- ==== Sys2Proof/Machine/Commit.lean ====
section
/-!
DEFINITION. The swap of the planes at a commit's BOUNDARY (03 R106, R107, R112; 04 R129; 07 R218, R222).
-/
namespace Sys2Proof.Machine

/-- The lists of slots that a commit newly binds to an element. -/
def newOuts (old new : List Nat) : List Nat := new.filter (fun o => !mem old o)

/-- The slots that every late element writes under the LIVE plane: tiles by physical number, lanes, the route engine. -/
structure Outs where
  tiles : Vector (List Nat) 68
  lanes : Vector (List Nat) 48
  routes : List Nat

/-- The output slots of the present LIVE plane. -/
def State.outs (s : State) : Outs where
  tiles := Vector.ofFn (fun i : Fin 68 => s.tileOuts i.val)
  lanes := Vector.ofFn (fun i : Fin 48 => s.laneOuts i.val)
  routes := s.routeOuts

/-- Elements with a reaction take in the slots that the commit bound to them; `rh` is the read half of the new period (02
R69). -/
def State.joinOuts (s : State) (rh : Sparse 32) (old : Outs) : State :=
  { s with
    tiles := Vector.ofFn (fun i : Fin 68 => let t := s.tile i.val
                                           { t with l := t.l.join rh (s.tileOuts i.val) (newOuts (rd old.tiles i.val) (s.tileOuts i.val)) })
    mtx := { s.mtx with lanes := Vector.ofFn (fun i : Fin 48 =>
      let e := rd s.mtx.lanes i.val
      { e with l := e.l.join rh (s.laneOuts i.val) (newOuts (rd old.lanes i.val) (s.laneOuts i.val)) }) }
    ex := { s.ex with route := { s.ex.route with l := s.ex.route.l.join rh s.routeOuts (newOuts old.routes s.routeOuts) } } }

/-- A tile's P banks swap with their bit errors (05 R145). -/
def Tile.swapBanks (t : Tile) : Tile :=
  { t with pLive := t.pShadow, pShadow := t.pLive, ecc := t.ecc.map (fun e =>
      match e.1 with
      | .p => (.ps, e.2)
      | .ps => (.p, e.2)
      | m => (m, e.2)) }

/-- INIT_ALWAYS words of a built tile (05 R177). -/
def Plane.initWords (p : Plane) (b : Nat) : List InitWord :=
  (((lookup? p.data b).getD []).filter (·.initAlways)).flatMap (fun r =>
    (List.range r.words.length).map (fun i => ⟨if r.y then .y else .x, BitVec.ofNat 14 (r.start + i), r.words.getD i 0⟩))

/-- The physical tiles at a commit; the answer counts cold starts. -/
def State.commitTiles (s : State) (old : Option Plane) (p : Plane) (was : Vector Nat 68) : State × Nat :=
  let none_ : Vector Tile 68 := Vector.ofFn (fun i : Fin 68 =>
    let t := s.tile i.val
    if carries p s.carrier i.val then t
    else match t.run with
      | .absent => t
      | _ => t.absent.swapBanks)
  p.tiles.foldl (fun acc q =>
    let (s, n) := acc
    let b := q.1
    let k := s.carrierOf b
    let t := s.tile k
    let here := (old.bind (fun o => lookup? o.tiles b)).isSome && rd was b == k
    let kept := here && (match old.bind (fun o => lookup? o.tiles b) with
      | some x => x.same q.2
      | none => false) && decide (t.run ≠ .absent)
    let t := if here then t.swapBanks else
      { t with pLive := planeBank s.pl.live b, pShadow := planeBank s.pl.shadow b, ecc := t.ecc.filter (fun e => !decide (e.1 = .p ∨ e.1 = .ps)) }
    if kept then (s.setTile k { t with initDue := p.initWords b }, n)
    else if 67 < k then (s, n)
    else (s.setTile k ({ t with l := t.l.replaced }.coldStart q.2), n + 1)) ({ s with tiles := none_ }, 0)

/-- The lowest-numbered unit that is free and named by no RAMP record (03 R106) (assumption log 89; DEDUCED). -/
def freeUnit (ramps : Vector RampSt 256) (p : Plane) : Nat :=
  ((List.range 256).find? (fun i => decide (rd ramps i = .free) && !p.ramps.any (fun r => r.ramp == i))).getD 255

/-- The new targets that a commit gives: crosspoints of both planes whose GAIN differs (03 R112, 07 R218, R222). They take
effect as the first updates of its boundary (07 R227). -/
def gainTargets (old new : Option Plane) : List UpdEntry :=
  ((new.map (·.xpoints)).getD []).filterMap (fun x =>
    match old.bind (fun o => o.xpoints.find? (fun y => y.inSlot == x.inSlot && y.sum == x.sum)) with
    | some y => if y.gain = x.gain then none else some (.xpt ⟨x.inSlot, x.sum, x.gain⟩)
    | none => none)

/-- Ramp units and route fades at a commit whose new plane runs from boundary `b`; the targets of kept units follow with the
updates of the boundary (assumption log 89; DEDUCED). -/
def State.commitRamps (s : State) (old : Option Plane) (p : Plane) : State :=
  let b := s.per.boundaries
  let fades := s.ex.fades.filter (fun f => p.routes.any (fun r => r.dst == f.dst && r.fade && r.src == f.newSrc))
  let gone := s.ex.fades.filter (fun f => !fades.any (fun g => g.dst == f.dst))
  let ramps := gone.foldl (fun v f => wr v f.unit .free) s.mtx.ramps
  -- RAMP records: kept, new, changed, removed
  let ramps' : Vector RampSt 256 := Vector.ofFn (fun i : Fin 256 =>
    let u := rd ramps i.val
    match p.ramps.find? (fun r => r.ramp == i.val) with
    | none => if u.serves then .free else u
    | some r =>
      let g := ((p.xpoints.find? (fun x => x.inSlot == r.inSlot && x.sum == r.sum)).map (·.gain)).getD 0
      let kept := u.serves && (match old.bind (fun o => o.ramps.find? (fun q => q.ramp == i.val)) with
        | some o => o.db == r.db && o.inSlot == r.inSlot && o.sum == r.sum
        | none => false)
      if kept then u else RampSt.fresh r g b)
  let s := { s with mtx := { s.mtx with ramps := ramps' }, ex := { s.ex with fades := [] } }
  -- fades that go on: those whose unit a RAMP record names move
  let s := fades.foldl (fun s f =>
    if p.ramps.any (fun r => r.ramp == f.unit) then
      let u := freeUnit s.mtx.ramps p
      { s with mtx := { s.mtx with ramps := wr s.mtx.ramps u (.fade f.dst) }, ex := { s.ex with fades := s.ex.fades ++ [{ f with unit := u }] } }
    else { s with ex := { s.ex with fades := s.ex.fades ++ [f] } }) s
  (sortBy (fun a b => decide (a.1.dst ≤ b.1.dst)) (fadingRoutes old p)).foldl (fun s q =>
    let u := freeUnit s.mtx.ramps p
    let f : Fade := ⟨q.1.dst, q.2, q.1.src, q.1.db, q.1.time, 0, u⟩
    { s with mtx := { s.mtx with ramps := wr s.mtx.ramps u (.fade f.dst) }, ex := { s.ex with fades := s.ex.fades ++ [f] } }) s

/-- Crosspoints at a commit (07 R218): `units` are the ramp units of the last period under the old plane. New targets of kept
crosspoints follow with the updates of the boundary. -/
def State.commitXpts (s : State) (old : Option Plane) (p : Plane) (units : Vector RampSt 256) : State :=
  let b := s.per.boundaries
  let step (l : List (Nat × XptSt)) (x : Xpoint) : List (Nat × XptSt) :=
    let k := xkey x.inSlot x.sum
    let was := old.bind (fun o => o.xpoints.find? (fun y => y.inSlot == x.inSlot && y.sum == x.sum))
    let st : XptSt := match was, lookup? s.mtx.xpts k with
      | some _, some st =>
        match old.bind (fun o => o.unitOf x.inSlot x.sum), p.unitOf x.inSlot x.sum with
          | some u, none => let g := unitGain (rd units u.ramp) (b - 1)
                            { st with p := g, target := g, pend := none }
          | _, _ => st
      | some y, none => XptSt.fresh y.gain (b - 1)
      | none, _ => XptSt.fresh x.gain b
    insertKey l k st
  { s with mtx := { s.mtx with xpts := p.xpoints.foldl step [] } }

/-- Sums at a commit (03 R112): a changed or new sum starts anew in its first period. -/
def State.commitSums (s : State) (old : Option Plane) (p : Plane) : State :=
  let kept (k : Nat) : Bool := match old.bind (fun o => o.sums.find? (fun r => r.sum == k)), p.sums.find? (fun r => r.sum == k) with
    | some o, some r => o.aux == r.aux && o.lane == r.lane && o.out == r.out && o.headroom == r.headroom && o.auxLaw == r.auxLaw
    | _, _ => false
  { s with mtx := { s.mtx with sums := s.mtx.sums.filter (fun q => kept q.1) } }

/-- HLT_AVS_CTRL takes the engine policy (03 R112, 02 R58). -/
def State.applyPolicy (s : State) (e : EnginePol) : State :=
  let s := s.avsCtrl e.target e.vmin e.vmax
  if e.avsEn then s.avsEnable else s.avsDisable

/-- The swap (01 R20 step 2, 03 R107, R112). The answer gives the commit to complete. -/
def State.swap (s : State) (k : Commit) (p : Plane) : State :=
  let old := s.pl.live
  let was := s.carrier
  let units := s.mtx.ramps
  let s := s.commitCarriers old p
  let s := { s with pl := { s.pl with live := some p, shadow := old, st := if old.isSome then .ready else .empty, commit := none } }
  let (s, cold) := s.commitTiles old p was
  let s := ((s.commitRamps old p).commitXpts old p units).commitSums old p
  let s := { s with dm := s.dm.commitLines ((old.map (fun (x : Plane) => x.lines)).getD []) p.lines s.per.boundaries }
  let s := s.saCommit ((old.map (fun (x : Plane) => x.saports)).getD []) p.saports
  let s := s.streamsCommit ((old.map (fun (x : Plane) => x.streams)).getD []) p.streams
  let s := s.pstCommit old
  let s := { s with ref := { s.ref with pol := p.refPol.getD RefPol.dflt } }
  let s := (s.applyPolicy p.enginePol).endCond 0x0205 0x01 0xFFFF
  if k.boot then s
  else s.complete k.port k.handle .ok 0 (leBytes 8 s.per.mediaTime ++ leBytes 1 cold ++ digest8 (some p))

/-- The commit that falls on the boundary of the present period (03 R103). -/
def State.commitDue (s : State) : State :=
  match s.pl.commit, s.pl.shadow with
  | some k, some p =>
    if s.pl.st ≠ .locked || k.boundary ≠ some s.per.boundaries then s
    else if k.guard && !s.avs.guardOk then s.endCommit .late 0x0028
    else s.swap k p
  | _, _ => s

end Sys2Proof.Machine
end

