-- ==== Sys2Proof/Machine/Abort.lean ====
section
/-!
DEFINITION. What a command that ends before its own completion leaves behind: at its time limit (15 R470), at an activation
(17 R521) and at a restart of the control processor (19 R565).
-/
namespace Sys2Proof.Machine

/-- The image that an FW_STAGE in progress writes. -/
def State.stagingImage (s : State) : Option (List Byte) :=
  match s.ports.flashOn with
  | none => none
  | some (p, h) => match (s.port p).flight? h with
    | some f => (match f.cmd with
      | .fwStage _ _ len _ img => some (slice img 0 len)
      | _ => none)
    | none => none

/-- A flash operation in progress is broken off: an FW_STAGE leaves STAGE INCOMPLETE with some of its sectors marked
complete (17 R515, R531), a number that the manual leaves open (assumption log 5) (assumption log 74; DEDUCED). -/
def State.breakStage (s : State) : State :=
  match s.boot.stage, s.stagingImage with
  | .incomplete size id part, some img =>
    let (v, s) := s.fresh
    let n := (size + 65535) / 65536
    let k := max (part.length / 65536) (v.toNat % (n + 1))
    { s with boot := { s.boot with stage := .incomplete size id (slice (part ++ img.drop part.length) 0 (65536 * k)) } }
  | _, _ => s

/-- Whether a command is the one whose flash operation runs (15 R470). -/
def State.flashHead (s : State) (p : CPort) (h : Nat) : Bool :=
  match s.ports.flashQ with | (q, k) :: _ => q == p && k == h | [] => false

/-- The work of a command in flight taken away; none where it has passed its point of no return (15 R470). -/
def State.dropWork (s : State) (p : CPort) (f : Flight) : Option State :=
  let mine (q : CPort) (h : Nat) : Bool := q == p && h == f.handle
  if !f.started then some s
  else match f.cmd with
    | .structCommit .. => match s.pl.commit with
      | some k => if !mine k.port k.handle then some s
        else if s.pl.st = .locked then none
        else some { s with pl := { s.pl with commit := none, st := .ready } }
      | none => some s
    | .structLoad .. | .structPatch .. | .structCopy .. => match s.pl.cmd with
      | some x => if !mine x.port x.handle then some s
        else match s.pl.st with
          | .checking _ => some { s with pl := s.pl.unchecked }
          | _ => some { s with pl := s.pl.emptied }
      | none => some s
    | .safeApply _ g _ =>
      let x := rd s.mtx.groups g
      if x.owner ≠ p || x.handle ≠ f.handle then some s
      else match x.st with
        | .locked => none
        | .armed => some { s with mtx := { s.mtx with groups := wr s.mtx.groups g { x with st := .filling } } }
        | _ => some s
    | .xpointSet .. | .rampSet .. | .tileParamWrite .. =>
      some { s with mtx := { s.mtx with direct := s.mtx.direct.filter (fun d => !mine d.port d.handle) } }
    | .tileReport .. => some { s with treps := s.treps.filter (fun r => !mine r.port r.handle) }
    | .pstageStop .. => some { s with pst := { s.pst with stops := s.pst.stops.filter (fun x => !mine x.port x.handle) } }
    | .selftestTile .. | .tileMigrate .. =>
      let off (c : Option (CPort × Nat)) : Option (CPort × Nat) := match c with
        | some (q, h) => if mine q h then none else c
        | none => none
      some { s with hlt := { s.hlt with quads := s.hlt.quads.map (fun (x : Quad) =>
        { x with mig := x.mig.map (fun m => { m with cmd := off m.cmd }), test := x.test.map (fun t => { t with cmd := off t.cmd }) }) } }
    | .delayMemRetrain .. =>
      some { s with dm := { s.dm with retrain := s.dm.retrain.filter (fun w => !mine w.1 w.2) } }
    | .devDomainSet .. =>
      some { s with pwr := { s.pwr with domCmds := s.pwr.domCmds.filter (fun d => match d.who with
        | some (q, h) => !mine q h
        | none => true) } }
    | .engineRestart .. => match s.pwr.engRestart with
      | some r =>
        let who := r.who.filter (fun w => !mine w.1 w.2)
        if who.length = r.who.length then some s
        else if r.b ≤ s.per.boundaries then none
        else if who.isEmpty then some { s with pwr := { s.pwr with engRestart := none }, boot := { s.boot with mute := none } }
        else some { s with pwr := { s.pwr with engRestart := some { r with who := who } } }
      | none => some s
    | .fwStage .. => some (if s.flashHead p f.handle then s.breakStage else s)
    | _ => some s

/-- Every command in flight that has not passed a point of no return ends with a status and DETAIL (17 R521, 19 R565). -/
def State.abortAll (s : State) (st : Status) (detail : Nat) : State :=
  [CPort.D, .A, .B, .C].foldl (fun s p =>
    (s.port p).flights.foldl (fun s f => match s.dropWork p f with
      | none => s
      | some s => s.complete p f.handle st detail []) s) s

end Sys2Proof.Machine
end

