-- ==== Sys2Proof/Machine/FaultCtl.lean ====
section
/-!
DEFINITION. The fault controller (14 R409 to R436): severities, episodes, merging, reactions and their release, overflow,
recovery, FAULT_N and the fault log.
-/
namespace Sys2Proof.Machine

/-! The detector catalogue (14 R412). -/

/-- What the catalogue gives of a detector. -/
structure Detector where
  sev : Nat
  cond : Bool
  self : Bool
  zone : Nat → Bool

/-- Zones of tiles, lanes, channels and command ports (01 R17). -/
def zTile (z : Nat) : Bool := within 0x20 0x63 z
def zLane (z : Nat) : Bool := within 0x10 0x17 z
def zChan (z : Nat) : Bool := within 0x80 0x9F z
def zPort (z : Nat) : Bool := within 0xC0 0xC3 z

/-- The catalogue: severity, kind C, self-reacting, zones; none for a code that it does not list. -/
def detector (code : Nat) : Option Detector :=
  let ev (sev : Nat) (z : Nat → Bool) : Option Detector := some ⟨sev, false, false, z⟩
  let co (sev : Nat) (z : Nat → Bool) : Option Detector := some ⟨sev, true, false, z⟩
  let cs (sev : Nat) (z : Nat → Bool) : Option Detector := some ⟨sev, true, true, z⟩
  match code with
  | 0x0101 => ev 3 (· == 0x00) | 0x0102 => ev 3 (· == 0x00) | 0x0103 => co 1 (· == 0x00) | 0x0104 => co 3 (· == 0x00)
  | 0x0105 => co 1 (· == 0x00) | 0x0106 => co 3 (· == 0x00) | 0x0107 => co 1 (· == 0x00) | 0x0108 => cs 1 (· == 0x00)
  | 0x0201 => ev 1 (· == 0x01) | 0x0202 => ev 0 (· == 0x01) | 0x0203 => ev 1 (· == 0x01) | 0x0204 => ev 1 (· == 0x01)
  | 0x0205 => co 1 (· == 0x01)
  | 0x0301 => co 3 (· == 0x02) | 0x0302 => ev 0 (· == 0x02) | 0x0303 => ev 1 (· == 0x02) | 0x0304 => co 1 (· == 0x02)
  | 0x0305 => ev 1 (· == 0x02) | 0x0306 => co 1 (· == 0x02) | 0x0307 => co 1 (· == 0x02) | 0x0308 => ev 0 (· == 0x02)
  | 0x0309 => ev 1 (· == 0x02) | 0x030A => ev 1 (· == 0x02)
  | 0x0401 => co 1 zLane | 0x0402 => ev 1 zLane | 0x0403 => ev 0 zLane | 0x0404 => ev 1 zLane | 0x0405 => ev 1 zLane
  | 0x0406 => co 1 zLane
  | 0x0501 => ev 1 (· == 0x18) | 0x0502 => ev 2 (· == 0x18) | 0x0503 => co 1 (· == 0x18) | 0x0504 => ev 1 (· == 0x18)
  | 0x0505 => ev 1 (· == 0x18) | 0x0506 => co 1 (· == 0x18) | 0x0507 => ev 1 (· == 0x18)
  | 0x0601 => ev 1 (fun z => zTile z || z == 0x70) | 0x0602 => ev 2 (fun z => zTile z || z == 0x70) | 0x0603 => ev 1 zTile
  | 0x0604 => ev 1 zTile | 0x0605 => ev 0 zTile | 0x0606 => ev 1 zTile | 0x0607 => ev 2 zTile | 0x0608 => ev 2 zTile
  | 0x0609 => ev 2 zTile
  | 0x0701 => ev 0 (· == 0x70) | 0x0702 => ev 1 (· == 0x70)
  | 0x0801 => ev 0 (· == 0x71) | 0x0802 => ev 1 (· == 0x71) | 0x0803 => ev 1 (· == 0x71) | 0x0804 => co 2 (· == 0x71)
  | 0x0805 => co 2 (· == 0x71)
  | 0x0901 => cs 2 zChan | 0x0902 => cs 2 zChan | 0x0903 => cs 2 zChan | 0x0904 => ev 1 zChan | 0x0905 => ev 1 zChan
  | 0x0906 => cs 1 (fun z => zChan z || z == 0xA0) | 0x0907 => ev 2 zChan | 0x0908 => cs 2 (· == 0xA0) | 0x0909 => cs 2 (· == 0xA0)
  | 0x0A01 => ev 1 (· == 0xB0) | 0x0A02 => co 1 (· == 0xB0)
  | 0x0B01 => co 1 zPort | 0x0B02 => ev 1 zPort | 0x0B03 => ev 1 zPort
  | _ => none

/-- The condition that the rows FAULT_DECISION and CONDITION_CLEARED begin and end themselves: that of the reference PLLs. Every
other condition begins and ends in the block that has it, those of supplies and temperatures in their monitors (assumption
log 64; DEDUCED). -/
def externCond (code : Nat) : Bool := code == 0x0301
/-- Detectors whose monitors compare readings themselves (14 R413, R414): no report of theirs comes from outside (assumption
log 64; DEDUCED). -/
def ownMonitor (code : Nat) : Bool := within 0x0104 0x0107 code

/-- A report's severity: an uncorrectable scrub read is CORRECTED (14 R412, 08 R244). -/
def Report.sev (r : Report) (d : Detector) : Nat := if r.code = 0x0802 && bits r.data 32 16 = 0xFFFF then 0 else d.sev

/-- The element that a fault in a zone names, from the zone and DATA (14 R412, R416). -/
def elemOf (code zone data : Nat) : Nat :=
  if zTile zone then zone - 0x20
  else if zChan zone then zone - 0x80
  else if zLane zone then zone - 0x10
  else if zone = 0x70 && (code = 0x0601 || code = 0x0602) then
    if data % 256 ≤ 48 then data % 256 else 256 + bits data 8 8
  else if zone = 0xB0 then data % 256
  else if zone = 0x71 then bits data 32 16
  else 0xFFFF

/-- The switchable domain of a zone (01 R17); none where the domain cannot be off. -/
def zoneDomain (z : Nat) : Option Nat :=
  if zTile z then some (6 + quadOf (z - 0x20))
  else if zLane z then some (laneDomain (z - 0x10))
  else if z = 0x18 || z = 0xC2 then some 5
  else if z = 0x70 then some 10
  else if z = 0x71 then some 11
  else if zChan z || z = 0xA0 then some 12
  else if z = 0xB0 || z = 0xC0 || z = 0xC1 then some 13
  else none

/-- A zone contributes detectors: its domain is on (01 R19). -/
def State.zoneOn (s : State) (z : Nat) : Bool := match zoneDomain z with | none => true | some d => s.domOn d

/-! Episodes. -/

/-- Episode slot `i`. -/
def State.ep (s : State) (i : Nat) : Episode := rd s.flt.eps i
/-- An episode slot replaced. -/
def State.setEp (s : State) (i : Nat) (e : Episode) : State := { s with flt := { s.flt with eps := wr s.flt.eps i e } }
/-- The fault controller replaced. -/
def State.setFlt (s : State) (f : Flt) : State := { s with flt := f }
/-- An episode is open: its slot is not FREE (14 R418). -/
def Episode.isOpen (e : Episode) : Bool := decide (e.st ≠ .free)
/-- The slot of the open episode that meets a test. -/
def Flt.find (f : Flt) (p : Episode → Bool) : Option Nat :=
  (List.range 16).find? (fun i => (rd f.eps i).isOpen && p (rd f.eps i))
/-- Open episodes. -/
def Flt.openCount (f : Flt) : Nat := ((List.range 16).filter (fun i => (rd f.eps i).isOpen)).length
/-- Highest level of an open episode. -/
def Flt.worst (f : Flt) : Nat :=
  (List.range 16).foldl (fun m i => if (rd f.eps i).isOpen then max m (rd f.eps i).level else m) 0
/-- A condition of the episode is present (14 R419). -/
def State.condPresent (s : State) (e : Episode) : Bool := e.conds.any (fun c => mem s.flt.conds c)

/-! The log (14 R433 to R435). -/

/-- Unread entries. -/
def Flt.unread (f : Flt) : Nat := (f.log.filter (fun e => !e.read)).length

/-- Remove the first entry that meets a test. -/
def dropFirst (p : LogEntry → Bool) : List LogEntry → List LogEntry
  | [] => []
  | e :: r => if p e then r else e :: dropFirst p r

/-- One entry offered to the ring; CORRECTED and MERGE may be dropped, any other kind replaces an unread entry (14 R435)
(assumption log 46; DEDUCED). -/
def Flt.write (f : Flt) (e : LogEntry) : Flt :=
  let weak (k : Nat) : Bool := k == 2 || k == 9
  let lost (f : Flt) : Flt := { f with missedNext := satAdd 16 f.missedNext 1, missed := satAdd 16 f.missed 1 }
  let put (f : Flt) (log : List LogEntry) : Flt :=
    { f with log := log ++ [{ e with seq := f.logSeq % 2 ^ 32, missed := f.missedNext }], logSeq := f.logSeq + 1, missedNext := 0 }
  if f.log.length < 1024 then put f f.log
  else if f.log.any (·.read) then put f (dropFirst (·.read) f.log)
  else if weak e.kind then lost f
  else if f.log.any (fun x => weak x.kind) then put (lost f) (dropFirst (fun x => weak x.kind) f.log)
  else put (lost f) (f.log.drop 1)

/-- An entry of the log at the present time (14 R433). LEVEL reaching 768 is an event (21 R614). -/
def State.log (s : State) (kind episode zone src det level sev flags data : Nat) : State :=
  let e : LogEntry := { seq := 0, episode := episode, zone := zone, srcZone := src, detector := det, kind := kind
                        level := level, sev := sev, flags := flags + 4 * b2n (!s.pwr.cpRunning)
                        mediaTime := s.per.mediaTime % 2 ^ 48, missed := 0, tbSec := s.tbSec % 2 ^ 32, data := data % 2 ^ 64
                        read := false }
  let was := s.flt.unread
  let s := s.setFlt (s.flt.write e)
  if was < 768 && 768 ≤ s.flt.unread then s.event 4 else s

/-- An entry of an episode without a fault. -/
def State.logEp (s : State) (i kind flags : Nat) : State :=
  s.log kind (s.ep i).id (s.ep i).zone (s.ep i).zone 0 (s.ep i).level 0 flags 0

/-! FAULT_N (14 R430, R431). -/

/-- The level that HOLD_MODE and FORCE ask for outside a pulse: low. -/
def Flt.holdsLow (f : Flt) : Bool :=
  f.force || (f.holdMode == 1 &&
    (List.range 16).any (fun i => (rd f.eps i).isOpen && decide (f.pinSev ≤ (rd f.eps i).level) && !(rd f.eps i).ack))

/-- The ball is low at time `t`: a low level waits for the end of the 10 µs after a release. -/
def Flt.ballLow (f : Flt) (t : Nat) : Bool :=
  f.pinLow && (match f.releasedAt with | none => true | some r => decide (r + 10000 ≤ t))

/-- FAULT_N follows the pulse, HOLD_MODE and FORCE (assumption log 44, 95; DEDUCED, DESIGN CHOICE). -/
def State.pinFollow (s : State) : State :=
  let f := s.flt
  let pulse := match f.pulseEnd with | none => false | some e => decide (s.now < e)
  if pulse || f.holdsLow then s.setFlt { f with pinLow := true, pulseEnd := if pulse then f.pulseEnd else none }
  else if f.ballLow s.now then s.setFlt { f with pinLow := false, pulseEnd := none, releasedAt := some s.now }
  else s.setFlt { f with pinLow := false, pulseEnd := none }

/-- A trigger drives FAULT_N low for the pulse width from its decision, or from the end of the 10 µs after a release. -/
def State.pinTrigger (s : State) : State :=
  let f := s.flt
  let start := max s.now ((f.releasedAt.map (· + 10000)).getD 0)
  s.setFlt { f with pinLow := true, pulseEnd := some (start + f.stretch * 10000) }

/-! Reactions (14 R421 to R425). -/

/-- Zones that have a zone reaction (14 R422). -/
def zoneReacts (z : Nat) : Bool := zTile z || zChan z || z == 0x70 || z == 0x71 || z == 0x18 || z == 0xB0

/-- The zone reaction of an episode is called for: level OUTPUT or above with a fault that is not self-reacting (14 R421). -/
def Episode.zoneReact (e : Episode) : Bool := e.reacting && decide (2 ≤ e.level) && e.outNonSelf && zoneReacts e.zone

/-- The reaction that an episode's level calls for. -/
def Episode.calls (e : Episode) : Bool := decide (e.level = 3) || (decide (2 ≤ e.level) && e.outNonSelf && zoneReacts e.zone)

/-- A change of the late state of one element of the tile zones or of zone 0x70. -/
def State.onElem (s : State) (zone elem : Nat) (f : Lateness → Lateness) : State :=
  let tile (k : Nat) : State := s.setTile k { (s.tile k) with l := f (s.tile k).l }
  if zTile zone then tile elem
  else if zone = 0x70 then
    if elem < 48 then { s with mtx := { s.mtx with lanes := upd s.mtx.lanes elem (fun x => { x with l := f x.l }) } }
    else if elem = 48 then { s with ex := { s.ex with route := { s.ex.route with l := f s.ex.route.l } } }
    else if 256 ≤ elem then tile (elem - 256)
    else s
  else s

/-- The zone reaction on the elements of the tile zones and of zone 0x70 (14 R422, R423); it is taken once. -/
def State.react (s : State) (zone : Nat) (elems : List Nat) : State :=
  elems.foldl (fun s e => s.onElem zone e Lateness.decide_) s

/-- The engine-wide safe state is called for (14 R425, R426). -/
def Flt.safeNow (f : Flt) : Bool :=
  f.overflow || f.leaving.any (fun x => decide (x.level = 3)) ||
    (List.range 16).any (fun i => (rd f.eps i).isOpen && (rd f.eps i).reacting && decide ((rd f.eps i).level = 3))

/-- A zone reaction of `zone` is in force on `elem` (any element: none); `rec` says whether one under recovery counts. -/
def Flt.zoneHeld (f : Flt) (zone : Nat) (elem : Option Nat) (rec_ : Bool) : Bool :=
  let on (l : List Nat) : Bool := match elem with | none => true | some e => mem l e
  (List.range 16).any (fun i =>
      let e := rd f.eps i
      e.isOpen && e.zone == zone && e.zoneReact && (rec_ || decide (e.st ≠ .recovering)) && on e.elems)
    || f.ovfSet.any (fun o => o.zone == zone && decide (2 ≤ o.sev) && o.outNonSelf && on o.elems)
    || f.leaving.any (fun x => x.zone == zone && x.zoneReact)

/-- A legacy fence is in force (14 R422; 02 R68; 08 R245): an episode, the overflow set or a release calls for it, or the
slots of an element or of the delay lines stand under it. -/
def State.fencedNow (s : State) : Bool :=
  let kind (z : Nat) : Bool := zTile z || z == 0x70 || z == 0x71
  (List.range 68).any (fun k => (s.tile k).l.fenced && !(s.tileOuts k).isEmpty)
    || (List.range 48).any (fun i => (rd s.mtx.lanes i).l.fenced && !(s.laneOuts i).isEmpty)
    || (s.ex.route.l.fenced && !s.routeOuts.isEmpty)
    || ((match s.dm.rule with | some ⟨.fence, _⟩ => true | _ => false) && !((s.pl.live.map (·.lines)).getD []).isEmpty)
    || (List.range 16).any (fun i => let e := s.ep i; e.isOpen && e.zoneReact && e.legacy && kind e.zone)
    || s.flt.ovfSet.any (fun o => decide (2 ≤ o.sev) && o.outNonSelf && o.legacy && kind o.zone)
    || s.flt.leaving.any (fun x => x.zoneReact && x.legacy && kind x.zone)

/-- Hold causes FLT, the transmit safe state, the stopped serial ports and the summary bits follow the reactions in force
(assumption log 48; DEDUCED). -/
def State.sync (s : State) : State :=
  let f := s.flt
  let es := f.safeNow
  let s := if es && !f.engineSafe then s.event 3 else s
  let s := s.setFlt { s.flt with engineSafe := es }
  let s := s.leads.foldl (fun s l =>
    let want := es || (s.halves l).any (fun h => f.zoneHeld (chanZone h) none false)
    if (s.chan l).flt = want then s else s.setHold l (fun c => { c with flt := want })) s
  let sw := f.zoneHeld 0x18 none false
  let s := { s with str := { s.str with txSafe := sw, rxMissing := sw } }
  { s with sap := Vector.ofFn (fun i : Fin 8 => { (rd s.sap i.val) with react := f.zoneHeld 0xB0 (some i.val) true }) }

/-- An episode's reaction follows its level, with what that takes from its elements. -/
def State.applyEp (s : State) (i : Nat) : State :=
  let e := s.ep i
  let e := { e with reacting := e.calls }
  let s := s.setEp i e
  (if e.zoneReact then s.react e.zone e.elems else s).sync

/-- Another episode than that of slot `i`, or the overflow set, has a zone reaction on the element: tile zones and the
scatter elements of zone 0x70 share their slots (assumption log 103; DESIGN CHOICE). -/
def State.heldElsewhere (s : State) (i zone elem : Nat) : Bool :=
  let tileOf (z e : Nat) : Option Nat := if zTile z then some e else if z = 0x70 && 256 ≤ e then some (e - 256) else none
  let same (z : Nat) (es : List Nat) : Bool := match tileOf zone elem with
    | some k => es.any (fun e => tileOf z e == some k)
    | none => z == zone && mem es elem
  (List.range 16).any (fun j => let e := s.ep j; j != i && e.isOpen && e.zoneReact && same e.zone e.elems)
    || s.flt.ovfSet.any (fun o => decide (2 ≤ o.sev) && o.outNonSelf && same o.zone o.elems)

/-- Release of an episode's reaction at the next boundary (14 R424) (assumption log 48; DEDUCED). -/
def State.releaseEp (s : State) (i : Nat) : State :=
  let e := s.ep i
  if !e.reacting then s
  else
    let s := if e.zoneReact then e.elems.foldl (fun s k =>
        if s.heldElsewhere i e.zone k then s else s.onElem e.zone k (fun l => { l with relDue := true })) s else s
    let lv : Leaving := ⟨e.zone, e.level, e.zoneReact && decide (e.st ≠ .recovering ∨ e.zone = 0xB0), e.legacy⟩
    (({ s with flt := { s.flt with leaving := s.flt.leaving ++ [lv] } } : State).setEp i { e with reacting := false }).sync

/-- The boundary ends the reactions that were released before it (assumption log 48; DEDUCED). -/
def State.leaveReactions (s : State) : State :=
  if s.flt.leaving.isEmpty then s else (s.setFlt { s.flt with leaving := [] }).sync

/-! Opening, closing and the rows of OPEN (14 R418). -/

/-- An episode that the watchdog or CP_ECC_UNCORR opened (14 R429) (assumption log 42; DEDUCED). -/
def Episode.ofCp (e : Episode) : Bool := e.zone == 0x01 && (e.first == 0x0201 || e.first == 0x0203)

/-- The time from which at most 12 episodes have been open with an empty overflow set (14 R426). -/
def State.ovfWatch (s : State) : State :=
  let f := s.flt
  let low := f.overflow && f.ovfSet.isEmpty && decide (f.openCount ≤ 12)
  s.setFlt { f with lowSince := if low then some (f.lowSince.getD s.now) else none }

/-- HELD, with its log entry and event. -/
def State.hold (s : State) (i : Nat) : State := ((s.setEp i { (s.ep i) with st := .held }).logEp i 7 0).event 2

/-- SETTLING with the settle timer started. -/
def State.settle (s : State) (i : Nat) : State := s.setEp i { (s.ep i) with st := .settling, since := s.now }

/-- The rows of OPEN that need no event of their own: SETTLING without reaction and condition, HELD where no recovery may
start (14 R418, R428) (assumption log 45, 64; DEDUCED). -/
def State.advanceEp (s : State) (i : Nat) : State :=
  let e := s.ep i
  if e.st ≠ .opened || (e.ofCp && !s.pwr.cpRunning) then s
  else if !e.reacting then if s.condPresent e then s else s.settle i
  else if !(s.zonePolicy e.zone).2 || decide (3 ≤ e.attempts) || e.codes.any (fun c => c.1 == 0x0101 || c.1 == 0x0102) then
    s.hold i
  else s

/-- An episode's ID after one (14 R416). -/
def nextEpId (id : Nat) : Nat := if id = 0xFFFE then 1 else id + 1

/-- A new episode in slot `i`. -/
def State.openEp (s : State) (i : Nat) (e : Episode) (det src sev flags data : Nat) : State :=
  let f := s.flt
  let e := { e with st := .opened, id := f.nextId, openMt := s.per.mediaTime }
  let s := (s.setFlt { f with nextId := nextEpId f.nextId }).setEp i e
  let s := if e.zone = 0x01 then { s with boot := { s.boot with ctrlOpened := true } } else s
  let s := s.applyEp i
  let s := (s.log 1 e.id e.zone src det e.level sev flags data).event 2
  let s := if s.flt.pinSev ≤ e.level then s.pinTrigger else s
  s.ovfWatch.advanceEp i

/-- The lowest free slot. -/
def Flt.freeSlot (f : Flt) : Option Nat := (List.range 16).find? (fun i => !(rd f.eps i).isOpen)

/-- The lowest zone of the overflow set (assumption log 69; PRESUMED). -/
def Flt.lowestOvf (f : Flt) : Option Ovf :=
  f.ovfSet.foldl (fun m o => match m with | none => some o | some x => if o.zone < x.zone then some o else m) none

/-- A freed slot takes the lowest zone of the overflow set (14 R426) (assumption log 69; PRESUMED). -/
def State.fromOverflow (s : State) : State :=
  match s.flt.freeSlot, s.flt.lowestOvf with
  | some i, some o =>
    let s := s.setFlt { s.flt with ovfSet := s.flt.ovfSet.filter (fun x => x.zone != o.zone) }
    let e := { Episode.none_ with zone := o.zone, level := o.sev, first := o.first, last := o.first, elems := o.elems
                                  conds := s.flt.conds.filter (fun c => c.zone == o.zone), codes := [(o.first, s.now)]
                                  outNonSelf := o.outNonSelf, legacy := o.legacy }
    s.openEp i e o.first o.zone o.sev 0 o.data
  | _, _ => s

/-- An episode closes: CLOSE is logged, the slot is free (14 R418). `reset` marks a close by a reset (14 R436). -/
def State.closeEp (s : State) (i : Nat) (reset : Bool) : State :=
  let s := (s.releaseEp i).logEp i 6 (b2n reset)
  (((s.setEp i Episode.none_).fromOverflow).ovfWatch).pinFollow

/-- The open episodes of zones that meet a test close by a reset, and the conditions of those zones end (14 R436) (assumption
log 42; DEDUCED). -/
def State.closeZones (s : State) (z : Nat → Bool) (keep : Episode → Bool) : State :=
  let s := s.setFlt { s.flt with conds := s.flt.conds.filter (fun c => !z c.zone) }
  (List.range 16).foldl (fun s i => let e := s.ep i
    if e.isOpen && z e.zone && !keep e then s.closeEp i true else s) s

/-! Merging (14 R417). -/

/-- A fault added to what an episode records: secondary count, last code, elements, conditions, codes (assumption log 43;
DEDUCED). -/
def Episode.absorb (e : Episode) (r : Report) (d : Detector) (sev : Nat) (rec_ : Bool) (now : Nat) : Episode :=
  { e with
    secondary := satAdd 32 e.secondary 1
    last := r.code
    elems := if rec_ && r.zone != e.zone then e.elems else addNew e.elems r.elem
    conds := if d.cond && !r.injected then addNew e.conds ⟨r.code, r.zone, r.elem⟩ else e.conds
    codes := if e.codes.any (fun c => c.1 == r.code) then e.codes else e.codes ++ [(r.code, now)]
    outNonSelf := e.outNonSelf || rec_ || (decide (2 ≤ sev) && !d.self)
    goodRun := if 1 ≤ sev && (zTile e.zone || e.zone == 0x70) then 0 else e.goodRun
    dirtyAt := if 1 ≤ sev && (zTile e.zone || e.zone == 0x70 || r.code == 0x0907) then now else e.dirtyAt }

/-- The log of a merge: ESCALATE, or MERGE under the rate rule (14 R435) (assumption log 43; DEDUCED). -/
def State.logMerge (s : State) (i : Nat) (r : Report) (sev : Nat) (isNew esc : Bool) : State :=
  let e := s.ep i
  let put (k : Nat) (s : State) : State := s.log k e.id e.zone r.zone r.code e.level sev (2 * b2n r.injected) r.data
  let last := (lookup? e.codes r.code).getD 0
  let mark (s : State) : State := s.setEp i { e with codes := updateKey e.codes r.code (fun _ => s.now) }
  if esc then (put 3 (mark s)).event 2
  else if isNew || last + 10000000 ≤ s.now then put 2 (mark s)
  else s

/-- A fault of severity 1 to 3 merges into the episode of slot `i` (14 R417, R418, R430); `rec_`: it comes from an element
that carries out recovery for the episode (assumption log 41, 43; DEDUCED). -/
def State.merge (s : State) (i : Nat) (r : Report) (d : Detector) (sev : Nat) (rec_ : Bool) : State :=
  let old := s.ep i
  let isNew := !old.codes.any (fun c => c.1 == r.code)
  let e := old.absorb r d sev rec_ s.now
  let level := max (max old.level sev) (if rec_ then 2 else 0)
  let esc := decide (old.level < level)
  let ends := decide (old.st = .recovering) && (rec_ || esc || (old.zone == 0x18 && r.code == 0x0502))
  let e := { e with level := level, ack := if esc then false else e.ack, attemptEnd := if ends then s.now else e.attemptEnd
                    migrating := if ends then false else e.migrating
                    st := if old.st = .settling then .opened else if ends then (if rec_ then .held else .opened) else old.st }
  let s := s.setEp i e
  let again := rec_ || esc || ends || decide (old.st = .settling) || old.outNonSelf != e.outNonSelf || old.elems.length != e.elems.length
  let s := if again && (old.st ≠ .recovering || ends) then s.applyEp i else s
  let s := s.logMerge i r sev isNew (esc || (rec_ && decide (old.st = .recovering)))
  let s := if rec_ then (if e.st = .held && old.st = .held then s else s.hold i) else s
  let s := if decide (s.flt.pinSev ≤ sev) && isNew || 2 ≤ sev || (esc && decide (s.flt.pinSev ≤ level)) || rec_ then s.pinTrigger else s
  s.ovfWatch.advanceEp i

/-- A fault of severity 1 to 3 in a zone without an episode while no slot is open to it (14 R426) (assumption log 69;
PRESUMED). -/
def State.overflow (s : State) (r : Report) (d : Detector) (sev : Nat) : State :=
  let f := s.flt
  let was := f.overflow
  let ns := decide (2 ≤ sev) && !d.self
  let set := if f.ovfSet.any (fun o => o.zone == r.zone) then
      f.ovfSet.map (fun o => if o.zone = r.zone then
        { o with sev := max o.sev sev, elems := addNew o.elems r.elem, outNonSelf := o.outNonSelf || ns } else o)
    else f.ovfSet ++ [⟨r.zone, sev, [r.elem], ns, (s.zonePolicy r.zone).1, r.code, r.data⟩]
  let s := s.setFlt { f with overflow := true, ovfSet := set }
  let s := if ns && zoneReacts r.zone then s.react r.zone [r.elem] else s
  let s := s.sync
  let s := s.log 8 0xFFFF r.zone r.zone r.code sev sev (2 * b2n r.injected) r.data
  let s := if was then s else s.event 3
  s.ovfWatch.pinTrigger

/-- The slot of the episode for which the reporting element carries out recovery (14 R417): a spare that receives work of
a fault migration, or a reserve converter that stands in (assumption log 41; DEDUCED). -/
def State.recoveringFor (s : State) (r : Report) : Option Nat :=
  if zTile r.zone then
    let k := r.zone - 0x20
    let q := s.quad (quadOf k)
    match q.mig with
    | some m => if m.cause = MigCause.fault && q.spare == some k then
        s.flt.find (fun e => e.zone == tileZone m.source && decide (e.st = .recovering)) else none
    | none => none
  else if r.code = 0x0906 && 68 ≤ r.elem then
    match s.servedBy r.elem with
    | some c => s.flt.find (fun e => e.zone == convZone c)
    | none => none
  else none

/-- The control processor and command service stop (01 R14). A PTP SEL puts the DPLL into hardware holdover (12 R367). -/
def State.stopCp (s : State) : State :=
  let s := if s.pwr.cpRunning && decide (s.ref.sel < 8) then s.hwHoldover else s
  { s with pwr := { s.pwr with cpRunning := false, service := false, pausedAt := if s.pwr.cpRunning then s.now else s.pwr.pausedAt } }

/-- The masks of the ports that CONFIG holds, or the defaults, come into force (15 R449). -/
def State.applyMasks (s : State) : State :=
  [CPort.A, .B, .C, .D].foldl (fun s p =>
    let d := Ports.reset.get p
    let m := (lookup? s.cfg.privs (portNum p)).getD (d.groups, d.privs)
    s.setPort p { (s.port p) with groups := m.1, privs := m.2 }) s

/-- PD1 CTRL restarts alone (19 R565, R612): commands in flight end ABORTED with RESTART, their entries are written when
command service resumes; held test requests (18 R543) and the sticky errors of ports C and D are lost (assumption log 40;
DEDUCED). -/
def State.restartPd1 (s : State) : State :=
  let s := s.stopCp
  let s := (s.abortAll .aborted 0x0120).applyMasks
  let clear (x : PortS) : PortS := { x with cqFullSeen := false, dmaErr := false, doorbellErr := false, setupErr := false }
  { s with
    pwr := { s.pwr with restarts := satAdd 16 s.pwr.restarts 1 }
    hlt := { s.hlt with held := [] }
    ports := { s.ports with c := clear s.ports.c, d := clear s.ports.d } }

/-- The restart of PD1 that the watchdog or CP_ECC_UNCORR asks for (14 R429): the control processor boots no earlier than
0, 1 s, 10 s or 60 s after the previous restart. Other episodes of zone 0x01 close (14 R436); the episode of these
detectors waits for the restarted firmware (assumption log 42; DEDUCED). -/
def State.restartCp (s : State) : State :=
  let s := s.restartPd1
  let p := s.pwr
  let run := match p.wdLast with | none => 0 | some t => if t + 600000000000 ≤ s.now then 0 else p.wdRun
  let wait := match run with | 0 => 0 | 1 => 1000000000 | 2 => 10000000000 | _ => 60000000000
  let at_ := max s.now (p.wdLast.getD 0 + wait)
  let s : State := { s with pwr := { p with causes := { p.causes with wdog := true }, wdRun := run + 1, wdLast := some at_, bootAfter := at_ } }
  let s := s.closeZones (· == 0x01) Episode.ofCp
  match s.flt.find (·.ofCp) with
  | some i => if (s.ep i).st = .settling then s.setEp i { (s.ep i) with st := .opened } else s
  | none => s

/-- A fault in a spare under migration ends the migration (18 R539, R540): MIGRATE_TO is logged in the source's zone for a
recovery, in the spare's own zone for a command (assumption log 47; DEDUCED). -/
def State.spareHit (s : State) (r : Report) : State :=
  if !zTile r.zone then s
  else
    let k := r.zone - 0x20
    let q := s.quad (quadOf k)
    match q.mig with
    | some m =>
      if q.spare == some k then
        let z := if m.cause = MigCause.fault then m.source else k
        (s.spareFault (quadOf k)).report 0x0609 (tileZone z) z (packBits [(8, m.source), (8, k)])
      else s
    | none => s

/-- Effects of a detector beyond its episode: wear indicators (18 R537) and the restart of PD1 (14 R429). -/
def State.sideEffects (s : State) (r : Report) : State :=
  match r.code with
  | 0x0605 => s.wear (quadOf (r.zone - 0x20)) (packBits [(8, r.zone), (8, r.data % 256), (16, bits r.data 8 16)])
  | 0x0202 => s.wear 0 (2 ^ 40 + r.data % 2 ^ 32)
  | 0x0701 => s.wear 0 (2 ^ 41 + r.data % 2 ^ 32)
  | 0x0203 => s.restartCp
  | _ => s

/-- A CORRECTED fault (14 R410, R435) (assumption log 43; DEDUCED). -/
def State.corrected (s : State) (r : Report) (d : Detector) : State :=
  let f := s.flt
  let f := { f with corrected := insertKey f.corrected r.zone (satAdd 32 ((lookup? f.corrected r.zone).getD 0) 1) }
  let s := s.setFlt f
  let slot := f.find (fun e => e.zone == r.zone)
  let s := match slot with
    | none => s
    | some i => s.setEp i ((s.ep i).absorb r d 0 false s.now)
  let key := r.zone * 65536 + r.code
  let due := match lookup? f.corrLog key with | none => true | some t => decide (t + 1000000000 ≤ s.now)
  if due then
    let s := s.setFlt { s.flt with corrLog := insertKey s.flt.corrLog key s.now }
    s.log 9 ((slot.map (fun i => (s.ep i).id)).getD 0) r.zone r.zone r.code ((slot.map (fun i => (s.ep i).level)).getD 0) 0
      (2 * b2n r.injected) r.data
  else s

/-- The decision on one report (14 R415 to R418) (assumption log 41, 43; DEDUCED). -/
def State.decideReport (s : State) (r : Report) : State :=
  match detector r.code with
  | none => s
  | some d =>
    if !d.zone r.zone || !s.zoneOn r.zone then s
    else
      let sev := r.sev d
      let s := s.setFlt { s.flt with sevCount := upd s.flt.sevCount sev (fun n => satAdd 32 n 1) }
      let s := if sev = 0 then s.corrected r d
        else
          let rec_ := s.recoveringFor r
          let s := match rec_ with
            | some i => s.merge i r d sev true
            | none => match s.flt.find (fun e => e.zone == r.zone) with
              | some i => s.merge i r d sev false
              | none => match s.flt.freeSlot with
                | none => s.overflow r d sev
                | some i =>
                  if s.flt.ovfSet.any (fun o => o.zone == r.zone) then s.overflow r d sev
                  else
                    let e := { Episode.none_ with zone := r.zone, level := sev, first := r.code, legacy := (s.zonePolicy r.zone).1 }
                    let e := { (e.absorb r d sev false s.now) with secondary := 0 }
                    s.openEp i e r.code r.zone sev (2 * b2n r.injected) r.data
          s.spareHit r
      s.sideEffects r

/-- The next report: of the reports of the oldest cycle, the one with the lowest zone code and then the lowest detector
code (14 R415) (assumption log 43; DEDUCED). -/
def nextReport : List Report → Option Report
  | [] => none
  | a :: r => some (r.foldl (fun m x =>
      if x.cycle = m.cycle && (x.zone < m.zone || (x.zone = m.zone && x.code < m.code)) then x else m) a)

/-- The first occurrence of a report taken out. -/
def takeReport (x : Report) : List Report → List Report
  | [] => []
  | a :: r => if a = x then r else a :: takeReport x r

/-- The decision on the next report that waits (14 R415). -/
def State.decideNext (s : State) : State :=
  match nextReport s.flt.reports with
  | none => s
  | some r => (s.setFlt { s.flt with reports := takeReport r s.flt.reports }).decideReport r

/-- FAULT_DECISION: on a report of the row's own, on what the monitors report of readings, or on the next report that waits. -/
def State.faultDecision (s : State) (ext : Option DetIn) : State :=
  match ext with
  | none => s.decideNext
  | some (.temps v) => (s.readTemps v).decideNext
  | some (.rail i v) => (s.readRail i v).decideNext
  | some (.report x) =>
    if ownMonitor x.code then s
    else
    let s := if externCond x.code && (match detector x.code with | some d => d.zone x.zone | none => false) then
        { s with flt := { s.flt with conds := addNew s.flt.conds ⟨x.code, x.zone, x.elem⟩ } } else s
    s.decideReport ⟨x.code, x.zone, x.elem, x.data, false, s.now / 10⟩

/-- The settle timer has reached SETTLE_MS and no condition is present: the episode closes (14 R418, R419). -/
def State.settleEnd (s : State) (i : Nat) : State :=
  let e := s.ep i
  if e.st = .settling && decide (e.since + s.flt.settleMs * 1000000 ≤ s.now) && !s.condPresent e then s.closeEp i false else s

/-- CONDITION_CLEARED: episodes whose last condition has ended go on (14 R418) (assumption log 64; DEDUCED). -/
def State.conditionCleared (s : State) (ext : Option DetIn) : State :=
  let s := match ext with
    | none => s
    | some (.temps v) => s.readTemps v
    | some (.rail i v) => s.readRail i v
    | some (.report x) => if externCond x.code then s.endCond x.code x.zone x.elem else s
  (List.range 16).foldl (fun s i =>
    let e := s.ep i
    if e.conds.isEmpty then s
    else if e.st = .opened then s.advanceEp i
    else s.settleEnd i) s

/-! Recovery (14 R420, R428). -/

/-- The backoff before the next attempt has elapsed (14 R420). -/
def Episode.backoffDone (e : Episode) (now : Nat) : Bool :=
  decide (e.attempts = 0) || decide (e.attemptEnd + (if e.attempts = 1 then 1000000000 else 10000000000) ≤ now)

/-- Receive streams start anew and held copies are cleared: the restart of the stream engine (14 R428) (assumption log 93;
DEDUCED). -/
def State.restartStreams (s : State) : State :=
  { s with str := { s.str with rx := s.str.rx.map (fun p => (p.1, { p.2 with run := .muted, held := [], usedFrames := [] })) } }

/-- An attempt starts: the action of the zone's recovery (14 R428) (assumption log 47, 93; DEDUCED). -/
def State.startRecovery (s : State) (i attempts : Nat) : State :=
  let e := s.ep i
  let s := s.setEp i { e with st := .recovering, attempts := attempts, since := s.now, dirtyAt := s.now, goodRun := 0
                              migrating := false, migrated := false }
  let s := s.logEp i 4 0
  let s := if e.zone = 0x18 then s.restartStreams
    else if e.zone = 0xB0 then
      { s with sap := Vector.ofFn (fun j : Fin 8 => let x := rd s.sap j.val
          if mem e.elems j.val && x.st = .locked then { x with st := .acquire, good := 0 } else x) }
    else s
  s.sync

/-- RECOVERY_START (14 R418, R420) (assumption log 45; DEDUCED). -/
def State.recoveryStart (s : State) (i : Nat) : State :=
  let e := s.ep i
  if e.st = .opened && e.reacting && (s.zonePolicy e.zone).2 && decide (e.attempts < 3) && s.pwr.cpRunning && e.backoffDone s.now then
    s.startRecovery i (e.attempts + 1)
  else s

/-- The criterion of an attempt is met (14 R428) (assumption log 93; DEDUCED). -/
def State.recovered (s : State) (e : Episode) : Bool :=
  let ended (code : Nat) : Bool := !e.conds.any (fun c => c.code == code && mem s.flt.conds c)
  if zTile e.zone then e.migrated || (!e.migrating && decide (256 ≤ e.goodRun))
  else if e.zone = 0x70 then decide (256 ≤ e.goodRun)
  else if e.zone = 0x71 then decide (s.dm.st = .up)
  else if zChan e.zone then
    decide ((s.chan (s.lead (e.zone - 0x80))).st = .run) && decide (e.dirtyAt + 1000000000 ≤ s.now)
  else if e.zone = 0x18 then decide (1000 ≤ e.goodRun)
  else if e.zone = 0xB0 then e.elems.all (fun j => decide ((rd s.sap j).st ≠ .acquire))
  else if e.zone = 0x02 then ended 0x0301
  else if e.zone = 0x00 then ended 0x0104 && ended 0x0106
  else true

/-- RECOVERY_SUCCESS (14 R418) (assumption log 93; DEDUCED). -/
def State.recoverySuccess (s : State) (i : Nat) : State :=
  let e := s.ep i
  if e.st = .recovering && s.pwr.cpRunning && s.recovered e then
    let s := s.setEp i { e with attemptEnd := s.now }
    ((s.releaseEp i).logEp i 5 0).settle i
  else s

/-- An attempt fails: the episode returns to OPEN with its reaction, and the rows of OPEN apply (14 R418). -/
def State.attemptFails (s : State) (i : Nat) : State :=
  let s := s.setEp i { (s.ep i) with st := .opened, attemptEnd := s.now, migrating := false }
  (s.applyEp i).advanceEp i

/-- The on-time wait of a tile has expired: the work migrates to the quadrant's spare, or the attempt fails (14 R428). -/
def State.migrateFor (s : State) (i : Nat) : State :=
  let e := s.ep i
  let src := e.zone - 0x20
  let q := quadOf src
  let x := s.quad q
  let begin_ (s : State) : State :=
    (s.setEp i { e with migrating := true, since := s.now }).startMig src .fault none none
  if (s.workOf src).isNone || x.spare.isNone then s.attemptFails i
  else match x.st with
    | .ready => begin_ s
    | .testing => begin_ (s.abortTest q)
    | .migrating => match x.mig with
      | some m => if m.cause = MigCause.test then begin_ (s.abortTest q) else s.attemptFails i
      | none => s.attemptFails i
    | .none_ => s.attemptFails i

/-- A migration for a recovery takes longer than 20 ms: MIGRATE_TO merges as a fault of the recovery mechanism (14 R428). -/
def State.migrationTimeout (s : State) (i : Nat) : State :=
  let e := s.ep i
  let src := e.zone - 0x20
  let q := quadOf src
  let x := s.quad q
  let data := packBits [(8, src), (8, x.spare.getD 0xFF)]
  let s := s.setQuad q { x with st := .ready, mig := none }
  match detector 0x0609 with
  | some d =>
    let s := s.setFlt { s.flt with sevCount := upd s.flt.sevCount 2 (fun n => satAdd 32 n 1) }
    (s.merge i ⟨0x0609, e.zone, src, data, false, s.now / 10⟩ d 2 true).ready q
  | none => s

/-- The timeout of an attempt in ns; none where the zone has none (14 R428). -/
def Episode.timeout (e : Episode) : Option Nat :=
  if zTile e.zone then some (if e.migrating then 20000000 else 100000000)
  else if e.zone = 0x70 then some 100000000
  else if zChan e.zone then some 2000000000
  else if e.zone = 0xB0 || e.zone = 0x02 then some 1000000000
  else none

/-- RECOVERY_TIMEOUT (14 R428) (assumption log 93; DEDUCED). -/
def State.recoveryTimeout (s : State) (i : Nat) : State :=
  let e := s.ep i
  if e.st ≠ .recovering || !s.pwr.cpRunning || s.recovered e then s
  else if e.zone = 0x71 then if s.dm.st = .failed then s.attemptFails i else s
  else match e.timeout with
    | none => s
    | some n =>
      if s.now < e.since + n then s
      else if zTile e.zone then if e.migrating then s.migrationTimeout i else s.migrateFor i
      else s.attemptFails i

/-- Timers of recoveries that a pause of the control processor stopped go on where they stood (14 R428). -/
def State.resumeTimers (s : State) : State :=
  let d := s.now - s.pwr.pausedAt
  s.setFlt { s.flt with eps := s.flt.eps.map (fun e =>
    if e.st = .recovering then { e with since := e.since + d, dirtyAt := e.dirtyAt + d } else e) }

/-- An element of the tile zones or of zone 0x70 was late in the period that closes. -/
def State.elemLate (s : State) (zone elem : Nat) : Bool :=
  if zTile zone then (s.tile elem).l.late
  else if elem < 48 then (rd s.mtx.lanes elem).l.late
  else if elem = 48 then s.ex.route.l.late
  else if 256 ≤ elem then (s.tile (elem - 256)).l.late else false

/-- Attempts that count periods, at the boundary that closes one (14 R428) (assumption log 93; DEDUCED). -/
def State.countRecoveries (s : State) : State :=
  (List.range 16).foldl (fun s i =>
    let e := s.ep i
    if e.st ≠ .recovering || !s.pwr.cpRunning then s
    else if (zTile e.zone || e.zone = 0x70) && !e.migrating then
      let late := e.elems.any (fun k => s.elemLate e.zone k)
      let whole := decide (e.dirtyAt ≤ s.per.openedAt)
      s.setEp i { e with goodRun := if late then 0 else if whole then e.goodRun + 1 else e.goodRun }
    else if e.zone = 0x18 then s.setEp i { e with goodRun := if e.since ≤ s.per.openedAt then e.goodRun + 1 else e.goodRun }
    else if zChan e.zone then
      if (s.chan (s.lead (e.zone - 0x80))).st = .run then s else s.setEp i { e with dirtyAt := s.now }
    else s) s

/-- OVERFLOW_CLEAR (14 R426). -/
def State.overflowClear (s : State) : State :=
  match s.flt.lowSince with
  | some t => if t + s.flt.settleMs * 1000000 ≤ s.now then (s.setFlt { s.flt with overflow := false, lowSince := none }).sync else s
  | none => s

/-- WATCHDOG_EXPIRY (14 R429): CP_WDOG is decided, and PD1 restarts. -/
def State.watchdogExpiry (s : State) (pc : Nat) : State :=
  if s.pwr.cpRunning then (s.decideReport ⟨0x0201, 0x01, 0xFFFF, pc % 2 ^ 32, false, s.now / 10⟩).restartCp else s

/-- The restarted firmware services the watchdog (14 R429) (assumption log 42; DEDUCED). -/
def State.cpServed (s : State) : State :=
  match s.flt.find (fun e => e.ofCp && decide (e.st = .opened)) with
  | some i => if (s.ep i).reacting then s else s.settle i
  | none => s

end Sys2Proof.Machine
end

