-- ==== Sys2Proof/Machine/FaultCmds.lean ====
section
/-!
DEFINITION. Registers and commands of the fault controller (14 R438 to R444).
-/
namespace Sys2Proof.Machine

/-- FLT_STATUS (14 R438). -/
def State.fltStatus (s : State) : Nat :=
  packBits [(6, 0), (1, b2n (!s.flt.ballLow s.now)), (1, b2n s.flt.engineSafe), (1, b2n s.flt.overflow), (1, b2n s.fencedNow)
           , (2, s.flt.worst), (4, 0), (5, s.flt.openCount)]
/-- FLT_PIN_CTRL (14 R439). -/
def Flt.pinCtrl (f : Flt) : Nat := packBits [(1, 0), (1, b2n f.force), (2, f.holdMode), (2, f.pinSev), (10, 0), (10, f.stretch)]
/-- FLT_LOG_STATUS (14 R440). -/
def Flt.logStatus (f : Flt) : Nat := packBits [(11, f.unread), (5, 0), (16, f.missed)]

/-- The code of an episode's state (14 R441). -/
def EpSt.code : EpSt → Nat
  | .free => 0 | .opened => 1 | .recovering => 2 | .settling => 3 | .held => 4

/-- FLT_EP_STATE, FLT_EP_DET, FLT_EP_COUNT and FLT_EP_OPEN_MT (14 R441). -/
def Episode.regs (e : Episode) : Nat × Nat × Nat × Nat :=
  (packBits [(2, e.attempts), (1, b2n e.ack), (2, e.level), (3, e.st.code), (8, e.zone), (16, e.id)],
   packBits [(16, e.first), (16, e.last)], e.secondary, e.openMt % 2 ^ 32)

/-- The settings of FAULT_N (14 R439, R440): FAULT_N follows them at once. -/
def State.setPin (s : State) (stretch pinSev holdMode : Nat) (force : Bool) (settleMs : Nat) : State :=
  (s.setFlt { s.flt with stretch := stretch, pinSev := pinSev, holdMode := holdMode, force := force, settleMs := settleMs }).pinFollow

/-- A write of FLT_PIN_CTRL; STRETCH or HOLD_MODE out of range has no effect, and the answer says so (14 R439). -/
def State.writePinCtrl (s : State) (v : Nat) : Option State :=
  let stretch := bits v 16 10
  if !within 1 1000 stretch || bits v 2 2 = 3 then none
  else some (s.setPin stretch (bits v 4 2) (bits v 2 2) (bit v 1) s.flt.settleMs)

/-- A write of FLT_SETTLE (14 R440). -/
def State.writeSettle (s : State) (v : Nat) : Option State :=
  if within 100 60000 (v % 65536) then some (s.setFlt { s.flt with settleMs := v % 65536 }) else none

/-- FAULT_STATUS (14 R442): FLT_STATUS, a DEGRADED mark (R422), the open episodes, the severity of each zone in the overflow
set, counts per severity. -/
def runFaultStatus (_ : Ctx) (s : State) : Done × State :=
  let eps := ((List.range 16).map s.ep).filter (·.isOpen)
  let sev (z : Nat) : Nat := ((s.flt.ovfSet.find? (fun o => o.zone == z)).map (·.sev)).getD 0
  (.ok ([(4, s.fltStatus), (1, b2n s.fencedNow), (1, eps.length)] ++ eps.flatMap (fun e => [(2, e.id), (1, e.zone)]) ++
    (List.range 64).map (fun i => (1, packBits ((List.range 4).map (fun j => (2, sev (4 * i + j)))))) ++
    (List.range 4).map (fun i => (4, rd s.flt.sevCount i))), s)

/-- FAULT_EPISODE_GET (14 R442, R444). -/
def runFaultEpisodeGet (_ : Ctx) (id slot : Nat) (s : State) : Done × State :=
  if 0xFFFF < id || (id = 0 && 15 < slot) then (.range, s)
  else
    let at_ := if id = 0 then (if (s.ep slot).isOpen then some slot else none) else s.flt.find (fun e => e.id == id)
    match at_ with
    | none => (.fail .rejectedArgs 0x00D0, s)
    | some i =>
      let e := s.ep i
      let codes := (e.codes.take 8).map (·.1)
      (.ok ([(2, e.id), (1, e.zone), (1, e.st.code), (1, e.level), (1, b2n e.ack), (1, e.attempts), (2, e.first), (2, e.last)
            , (4, e.secondary), (8, e.openMt), (1, codes.length)] ++ codes.map (fun c => (2, c)) ++
            [(4, (lookup? s.flt.corrected e.zone).getD 0), (2, e.elems.length)] ++ e.elems.map (fun k => (2, k))), s)

/-- The 32 bytes of a log entry (14 R433). -/
def LogEntry.bytes (e : LogEntry) : List Byte :=
  leBytes 4 e.seq ++ leBytes 2 e.episode ++ leBytes 1 e.zone ++ leBytes 1 e.srcZone ++ leBytes 2 e.detector ++
  leBytes 1 (packBits [(2, e.sev), (2, e.level), (4, e.kind)]) ++ leBytes 1 e.flags ++ leBytes 6 e.mediaTime ++
  leBytes 2 e.missed ++ leBytes 4 e.tbSec ++ leBytes 8 e.data

/-- The index of the entry at which a read from FROM starts: FROM's own, or the oldest that follows it by the nearest
distance modulo 2^32 (14 R443) (assumption log 46; DEDUCED). -/
def logStart (log : List LogEntry) (start : Nat) : Nat :=
  if start = 0xFFFFFFFF then (log.findIdx? (fun e => !e.read)).getD log.length
  else (log.findIdx? (fun e => decide ((e.seq + 2 ^ 32 - start) % 2 ^ 32 < 2 ^ 31))).getD log.length

/-- FAULT_LOG_READ (14 R442, R443): the entries, the SEQ of the next, MISSED. -/
def runFaultLogRead (c : Ctx) (start count : Nat) (consume : Bool) (addr : Nat) (s : State) : Done × State :=
  if addr ≠ 0 && noBuf c.port then (.argPtr, s)
  else if 0xFFFFFFFF < start || !within 1 (if addr = 0 then 1 else 1024) count then (.range, s)
  else
    let log := s.flt.log
    let i := logStart log start
    let es := (log.drop i).take count
    let next := ((log[i + es.length]?).map (·.seq)).getD (s.flt.logSeq % 2 ^ 32)
    let log' := log.take i ++ es.map (fun e => if consume then { e with read := true } else e) ++ log.drop (i + es.length)
    let bytes := es.flatMap LogEntry.bytes
    let s' := if addr = 0 then s else s.hostWrite c.port addr bytes
    (.done .ok 0 (leBytes 2 es.length ++ leBytes 4 next ++ leBytes 2 s.flt.missed ++ (if addr = 0 then bytes else [])),
     s'.setFlt { s'.flt with log := log' })

/-- FAULT_CLEAR (14 R418, R444): the new state (assumption log 47; DEDUCED). -/
def runFaultClear (_ : Ctx) (id action : Nat) (s : State) : Done × State :=
  if 0xFFFF < id || 1 < action then (.range, s)
  else match s.flt.find (fun e => e.id == id) with
    | none => (.fail .rejectedArgs 0x00D0, s)
    | some i =>
      let e := s.ep i
      let res (s : State) : Done × State := (.ok [(1, (s.ep i).st.code)], s)
      if action = 0 then
        if e.st ≠ .held then (.fail .rejectedState 0x00D2, s) else res ((s.logEp i 10 0).startRecovery i 1)
      else if e.st = .recovering then (.fail .rejectedState 0x00D2, s)
      else if s.condPresent e then (.fail .rejectedState 0x00D1, s)
      else if e.st = .settling then res ((s.setEp i { e with attempts := 0 }).logEp i 10 0)
      else
        let s := s.releaseEp i
        res (((s.setEp i { (s.ep i) with attempts := 0 }).logEp i 10 0).settle i)

/-- FAULT_ACK (14 R443): the number of episodes acknowledged. -/
def runFaultAck (_ : Ctx) (id : Nat) (s : State) : Done × State :=
  if 0xFFFF < id then (.range, s)
  else
    let is := (List.range 16).filter (fun i => (s.ep i).isOpen && (id = 0 || (s.ep i).id = id))
    if id ≠ 0 && is.isEmpty then (.fail .rejectedArgs 0x00D0, s)
    else (.ok [(1, is.length)], (is.foldl (fun s i => (s.setEp i { (s.ep i) with ack := true }).logEp i 10 0) s).pinFollow)

/-- FAULT_PIN_CONFIG once its values are in range and, with PERSIST, CONFIG is written (14 R442). -/
def finFaultPinConfig (stretch pinSev holdMode : Nat) (force : Bool) (settleMs : Nat) (persist : Bool) (s : State) :
    Done × State :=
  let s := s.setPin stretch pinSev holdMode force settleMs
  (.ok [(2, stretch), (1, pinSev), (1, holdMode), (1, b2n force), (2, settleMs)],
   if persist then { s with cfg := { s.cfg with pin := some (stretch, pinSev, holdMode, force, settleMs) } } else s)

/-- FAULT_PIN_CONFIG (14 R442, R444). -/
def runFaultPinConfig (_ : Ctx) (stretch pinSev holdMode : Nat) (force : Bool) (settleMs : Nat) (persist : Bool) (s : State) :
    Done × State :=
  if !within 1 1000 stretch || 3 < pinSev || 2 < holdMode || !within 100 60000 settleMs then (.range, s)
  else if persist then (.flash, s)
  else finFaultPinConfig stretch pinSev holdMode force settleMs false s

/-- FAULT_INJECT (14 R443, R444): the fault is reported as its detector would, and the command completes once it is decided
(assumption log 41; DEDUCED). -/
def runFaultInject (_ : Ctx) (zone det data : Nat) (s : State) : Done × State :=
  match detector det with
  | none => (.range, s)
  | some d =>
    let r : Report := ⟨det, zone, elemOf det zone data, data % 2 ^ 64, true, s.now / 10⟩
    if 0xFF < zone || !d.zone zone then (.range, s)
    else if 2 ≤ r.sev d && !s.hlt.maint then (.fail .rejectedState 0x00D3, s)
    else
      let rec_ := (s.recoveringFor r).map (fun i => (s.ep i).id)
      let s := s.decideReport r
      let id := if r.sev d = 0 || !s.zoneOn zone then 0
        else match rec_, s.flt.find (fun e => e.zone == zone) with
          | some id, _ => id
          | none, some i => (s.ep i).id
          | none, none => 0xFFFF
      (.ok [(2, id)], s)

end Sys2Proof.Machine
end

