-- ==== Sys2Proof/Machine/PortOps.lean ====
section
/-!
DEFINITION. Port states, doorbells and the PCIe events of the command ports (15 R454 to R467, R482, R488), and the access
registers' lock (21 R608 to R610).
-/
namespace Sys2Proof.Machine

/-- The port of a PCIe function; none for port D, which has no ring registers (15 R463) (assumption log 56; DEDUCED). -/
def Requester.port : Requester → Option CPort
  | .A => some .A | .B => some .B | .D => none

/-- The port of a requester: the board manager's is port D (15 R465). -/
def Requester.cport : Requester → CPort
  | .A => .A | .B => .B | .D => .D

/-- Entries that a group of waiting COMPLETE entries counts. -/
def groupLen (gs : List WGroup) : Nat := (gs.map (·.entries.length)).sum

/-- The port's last command may have ended: DRAINING becomes DISABLED (15 R462). -/
def State.portDrained (s : State) (p : CPort) : State := s.setPort p (s.port p).drained

/-- A command of the port that has not started: one that has not left its queue, or one that waits in the flash queue behind
another (15 R484). -/
def State.unstarted (s : State) (p : CPort) (f : Flight) : Bool := !f.started || (f.flash && !s.flashHead p f.handle)

/-- A port leaves ACTIVE or ERROR for DRAINING (15 R462): commands not yet started complete ABORTED, discarded; entries that
wait are discarded; its safe-load groups drop (07 R225). -/
def State.drain (s : State) (p : CPort) : State :=
  let x := s.port p
  match x.st with
  | .disabled => s.setPort p { x with enable := false }
  | .draining => s.setPort p { x with enable := false }
  | _ =>
    let off := x.flights.filter (s.unstarted p)
    let x := { x with st := .draining, enable := false, flights := x.flights.filter (fun f => !s.unstarted p f), placed := [], avail := 0
                      discarded := satAdd 32 x.discarded (off.length + groupLen x.waiting), waiting := [], waitSince := none, fullSince := none }
    let s := off.foldl (fun s f => s.offFlash p f.handle) (s.setPort p x)
    (s.dropGroups p).portDrained p

/-- PORT_ENABLE (15 R462). -/
def State.portEnable (s : State) (p : CPort) : State :=
  let x := s.port p
  if !s.domOn 13 then s
  else match x.st with
    | .disabled =>
      if within 4 9 x.sqLog2 && within 4 12 x.cqLog2 && decide (x.sqLog2 ≤ x.cqLog2) then
        s.setPort p { x with st := .active, enable := true, sqHead := 0, sqTail := 0, cqHead := 0, cqTail := 0, phase := true
                             ring := [], mem := [], waiting := [], waitSince := none, fullSince := none, placed := [], avail := 0 }
      else s.setPort p { x with setupErr := true, enable := false }
    | .draining => s.setPort p { x with setupErr := true }
    | _ => s

/-- A descriptor, argument or buffer read fails, or posted writes stall (15 R462, R488): ring 0 submission, 1 completion,
2 arguments; the command that the read served completes INTEGRITY, is discarded and changes nothing more (00 R10). -/
def State.dmaError (s : State) (p : CPort) (ring index : Nat) (handle : Option Nat) : State :=
  let x := s.port p
  if x.st ≠ .active then s
  else
    let s := s.setPort p { x with st := .error, dmaErr := true
                                  discarded := satAdd 32 x.discarded (groupLen x.waiting), waiting := [], waitSince := none }
    let s := (s.dropGroups p).report 0x0B03 (portZone p) 0xFFFF (packBits [(8, ring), (16, index)])
    match handle.bind (s.port p).flight? with
    | none => s
    | some f => match s.dropWork p f with
      | none => s
      | some s => s.complete p f.handle .integrity 0x00E8 []

/-- The registers of a PCIe function that PERST and a function-level reset return to their reset values (21 R612). -/
def State.resetFunction (s : State) (p : CPort) : State :=
  let x := s.port p
  let r := PortS.reset x.st x.groups x.privs
  let x := { x with sqBase := 0, cqBase := 0, sqLog2 := r.sqLog2, cqLog2 := r.cqLog2, completeVec := r.completeVec
                    acceptVec := r.acceptVec, completeIrq := false, acceptIrq := false, sqHead := 0, sqTail := 0, cqHead := 0
                    cqFullSeen := false, dmaErr := false, doorbellErr := false, setupErr := false }
  let f := portNum p
  { s.setPort p x with ports := { (s.setPort p x).ports with
      evEn := wr s.ports.evEn f 0, evPend := wr s.ports.evPend f 0, msixTable := wr s.ports.msixTable f []
      msixPend := wr s.ports.msixPend f 0 } }

/-- PCIE_LINK_DOWN: the link goes down, or a function-level reset arrives (15 R462, R488). -/
def State.linkDown (s : State) (p : CPort) (flr : Bool) : State :=
  let s := s.drain p
  let s := if flr then s.resetFunction p else s.setPort p { (s.port p) with linkUp := false }
  s.raise 0x0B01 (portZone p) 0xFFFF (b2n flr)

/-- PCIE_PERST (19 R569, 21 R612). -/
def State.perst (s : State) (p : CPort) : State := (s.linkDown p false).resetFunction p

/-- PCIE_LINK_UP (15 R488): the CMD_LINK condition ends. A trained link runs from its reference clock (19 R569, R572)
(assumption log 51, 79; DEDUCED, DESIGN CHOICE). -/
def State.linkUp (s : State) (p : CPort) : State :=
  if !s.domOn 13 then s
  else
    let s := (s.setPort p { (s.port p) with linkUp := true }).endCond 0x0B01 (portZone p) 0xFFFF
    match p with
    | .A => { s with pwr := { s.pwr with refclkA := true } }
    | .B => { s with pwr := { s.pwr with refclkB := true } }
    | _ => s

/-- CMD_SQ_TAIL (15 R455). A tail at or above the ring size has no effect and sets DOORBELL_ERR (assumption log 32, 56;
DESIGN CHOICE, DEDUCED). -/
def State.sqTail (s : State) (p : CPort) (tail : Nat) : State :=
  let x := s.port p
  if x.sqSize p ≤ tail then s.setPort p { x with doorbellErr := true }
  else s.setPort p { x with sqTail := tail, avail := (tail + x.sqSize p - x.sqHead) % x.sqSize p }

/-- CMD_CQ_HEAD (15 R457): frees the entries before the head; one that would pass the last entry written has no effect,
sets DOORBELL_ERR and logs CMD_RING (assumption log 56; DEDUCED). -/
def State.cqHead (s : State) (p : CPort) (head : Nat) : State :=
  let x := s.port p
  let n := (head + x.cqSize p - x.cqHead) % x.cqSize p
  if x.cqSize p ≤ head || x.ring.length < n then
    (s.setPort p { x with doorbellErr := true }).report 0x0B03 (portZone p) 0xFFFF (packBits [(8, 1), (16, head)])
  else (s.setPort p { x with cqHead := head, ring := x.ring.drop n }).flushPort p

/-- CQ_FULL_TIMEOUT: a completion queue full for 1 s (15 R482). -/
def State.cqFull (s : State) (p : CPort) : State :=
  let x := s.port p
  match x.fullSince with
  | some t =>
    if t + 1000000000 ≤ s.now && !x.cqFullSeen then
      (s.setPort p { x with cqFullSeen := true }).report 0x0B03 (portZone p) 0xFFFF (packBits [(8, 1), (16, x.cqTail)])
    else s
  | none => s

/-! The lock of RWL fields (21 R609, R610). -/

/-- The access register of a block (assumption log 10; DEDUCED). -/
def State.access (s : State) (b : Block) : Access := rd s.ports.access b.ix
/-- The access register of a block replaced. -/
def State.setAccess (s : State) (b : Block) (a : Access) : State := { s with ports := { s.ports with access := wr s.ports.access b.ix a } }
/-- The lock state of a requester. -/
def Access.lock (a : Access) : Requester → LockSt
  | .A => a.lockA | .B => a.lockB | .D => a.lockD
/-- The lock state of a requester replaced. -/
def Access.setLock (a : Access) (f : Requester) (l : LockSt) : Access :=
  match f with
  | .A => { a with lockA := l } | .B => { a with lockB := l } | .D => { a with lockD := l }

/-- The requester holds the block unlocked at time `t`. -/
def LockSt.open_ (l : LockSt) (t : Nat) : Bool :=
  match l with
  | .unlocked u => decide (t < u + 1000000000)
  | .again u _ => decide (t < u + 1000000000)
  | _ => false

/-- A KEY write: the sequence 0x1ACC, 0xE55A within 1 ms unlocks; 0x1ACC starts a sequence and leaves an unlocked block
unlocked; any other value relocks (21 R610) (assumption log 52; DEDUCED). -/
def LockSt.key (l : LockSt) (key t : Nat) : LockSt :=
  let half : Option Nat := match l with
    | .half h => some h
    | .again _ h => some h
    | _ => none
  if key = 0x1ACC then match l with
    | .unlocked u => .again u t
    | .again u _ => .again u t
    | _ => .half t
  else match half with
    | some h => if key = 0xE55A && t ≤ h + 1000000 then .unlocked t else .locked
    | none => .locked

/-- A KEY write by a requester (assumption log 52; DEDUCED). -/
def State.keyWrite (s : State) (f : Requester) (b : Block) (key : Nat) : State :=
  let a := s.access b
  s.setAccess b (a.setLock f ((a.lock f).key key s.now))

/-- ACCESS_UNLOCK_EXPIRY: 1 s after unlocking the block relocks (21 R610). -/
def State.unlockExpiry (s : State) (f : Requester) (b : Block) : State :=
  let a := s.access b
  match a.lock f with
  | .unlocked u => if u + 1000000000 ≤ s.now then s.setAccess b (a.setLock f .locked) else s
  | .again u h => if u + 1000000000 ≤ s.now then s.setAccess b (a.setLock f (.half h)) else s
  | _ => s

/-- LOCK_VIOL with the requester's VIOL_ bit (21 R609, R610) (assumption log 52; DEDUCED). -/
def State.violate (s : State) (f : Requester) (b : Block) : State :=
  let a := { s.access b with lockViol := true }
  s.setAccess b (match f with
    | .A => { a with violA := true } | .B => { a with violB := true } | .D => { a with violD := true })

/-- LOCK_VIOL of a write out of range (12 R371, 14 R439, R440). -/
def State.rangeViol (s : State) (b : Block) : State := s.setAccess b { s.access b with lockViol := true }

/-- Write of an RWL field: the firmware writes without a lock (21 R610). -/
def State.rwl (s : State) (f : Option Requester) (b : Block) (write : State → State) : State :=
  match f with
  | none => write s
  | some r => if ((s.access b).lock r).open_ s.now then write s else s.violate r b

/-- The access registers of blocks return to their reset values (assumption log 52; DEDUCED). -/
def State.resetAccess (s : State) (bs : List Block) : State := bs.foldl (fun s b => s.setAccess b Access.reset) s

end Sys2Proof.Machine
end

