-- ==== Sys2Proof/Machine/Restart.lean ====
section
/-!
DEFINITION. Power domains, resets and clock inputs (19): what each reset keeps and loses, and the switching of domains.
-/
namespace Sys2Proof.Machine

/-! What the blocks of a domain do (19 R560). -/

/-- The lanes of a network domain. -/
def domainLanes (d : Nat) : List Nat := if d = 3 then [0, 1, 2, 3] else if d = 4 then [4, 5, 6, 7] else []

/-- A channel that PD12 or a reset starts anew (13 R400): LATCHED or OFF; in MAINTENANCE it keeps HOST (18 R544) (assumption
log 50; DEDUCED). -/
def State.freshChan (s : State) (c : Chan) : Chan := { c.restart with host := s.hlt.maint }

/-- The blocks of the power stage that PD12 holds at their start (13 R400, 21 R612). -/
def State.freshPstage (s : State) : State :=
  { s with pst := { s.pst with
      chans := s.pst.chans.map s.freshChan
      rails := s.pst.rails.map (fun r => { r with outside := false, uv := false, ov := false, reading := 0 })
      convs := Vector.replicate 72 Conv.reset } }

/-- PSTAGE_STOP commands whose channels have gone off with PD12 complete: no named channel switches any more (13 R407). -/
def State.endStops (s : State) : State :=
  let s' := { s with pst := { s.pst with stops := [] } }
  s.pst.stops.foldl (fun s x => s.complete x.port x.handle .ok 0 (leBytes 8 (x.last.getD s.per.mediaTime))) s'

/-- The node MAC address of a part whose CONFIG holds none (15 R485). -/
def defaultMac : Nat := 0x02F17A000000 + Config.uniqueId.toNat % 2 ^ 24

/-- The switch after PD5 has lost its contents (19 R559, R560): empty tables and memory, and the settings that CONFIG holds (09
R284) (assumption log 50; DEDUCED). -/
def State.freshSwitch (s : State) : State :=
  let c := s.cfg
  let frr (i : Nat) : Option Nat × Nat := (lookup? c.frr i).getD (none, 1000)
  let lanes : Vector Lane 8 := Vector.ofFn (fun i : Fin 8 =>
    let l := s.lane i.val
    { l with
      backup := (frr i.val).1, restoreMs := (frr i.val).2, frrActive := (frr i.val).1.isSome && decide (l.st ≠ .up)
      counters := Vector.replicate 22 0, inTx := l.inTx.filter (·.hb) })
  let q (n : Net) (x : Nat × (Nat × Nat)) : Net :=
    n.setQueue (x.1 / 8) (x.1 % 8) { (n.queue (x.1 / 8) (x.1 % 8)) with rsv := x.2.1, qmax := x.2.2 }
  let sw := c.switch.getD (Net.reset.etherType, Net.reset.hbDa, defaultMac, Net.reset.ageS)
  { s with
    net := { c.queues.foldl q Net.reset with
      lanes := lanes, nextId := s.net.nextId, etherType := sw.1, hbDa := sw.2.1, nodeMac := sw.2.2.1, ageS := sw.2.2.2 }
    str := { s.str with bindings := [], rx := [], tx := [] } }

/-- The report FIFO of a lane whose domain restarts (11 R337). -/
def State.freshFifo (s : State) (i : Nat) : State :=
  s.setTsLane i { (s.tsLane i) with fifo := [], lost := 0, overflow := false }

/-- The blocks of a domain stop (19 R560): its zones' episodes close (14 R436). -/
def State.domStop (s : State) (d : Nat) : State :=
  let s : State := match d with
    | 3 => (domainLanes 3).foldl (fun s i => (s.disableLane i).freshFifo i) s
    | 4 => (domainLanes 4).foldl (fun s i => (s.disableLane i).freshFifo i) s
    | 5 => s.freshSwitch
    | 10 => { s with ex := Exch.reset, mtx := Mtx.reset }
    | 11 => s.dmOff
    | 12 => s.freshPstage.endStops
    | 13 => (List.range 8).foldl (fun s i => s.saDisable i) (((s.drain .A).drain .B).resetFunction .A |>.resetFunction .B)
    | q => if within 6 9 q then s.quadOff (q - 6) else s
  let blocks := match d with | 5 => [] | 10 => [] | 12 => [Block.pst] | 13 => [Block.cmd] | _ => []
  (s.resetAccess blocks).closeZones (fun z => zoneDomain z == some d) (fun _ => false)

/-- The blocks of a domain start (19 R560). -/
def State.domStart (s : State) (d : Nat) : State :=
  match d with
  | 3 => (domainLanes 3).foldl (fun s i => s.startLane i) s
  | 4 => (domainLanes 4).foldl (fun s i => s.startLane i) s
  | 11 => { s with dm := s.dm.train }
  | 12 => s.rebind
  | 13 => (s.resetFunction .A).resetFunction .B
  | q => if within 6 9 q then s.quadOn (q - 6) else s

/-! Switching (19 R559). -/

/-- The state of a domain set. -/
def State.setDom (s : State) (d : Nat) (x : DomSt) : State := { s with pwr := { s.pwr with dom := wr s.pwr.dom d x } }

/-- A domain is in RAMP_ON or RAMP_OFF. -/
def Pwr.ramping (p : Pwr) : Bool := (List.range 14).any (fun d => decide (rd p.dom d = .rampOn ∨ rd p.dom d = .rampOff))

/-- The domains that are ON, as a mask. -/
def Pwr.onMask (p : Pwr) : Nat := ((List.range 14).map (fun d => if rd p.dom d = .on then 2 ^ d else 0)).sum

/-- The result of DEV_DOMAIN_SET: ON bits, domains that failed (19 R573). -/
def State.domResult (s : State) (failed : Nat) : List Byte := leBytes 2 s.pwr.onMask ++ leBytes 2 failed

/-- A command whose flash operation does nothing but the write of CONFIG takes its place in the flash queue (15 R470)
(assumption log 81; DEDUCED). -/
def State.flashJoin (s : State) (p : CPort) (h : Nat) : State :=
  let x := s.port p
  let s := s.setPort p { x with flights := x.flights.map (fun f => if f.handle = h then { f with flash := true } else f) }
  let alone := s.ports.flashQ.isEmpty
  { s with ports := { s.ports with
      flashQ := s.ports.flashQ ++ [(p, h)]
      flashOn := if alone then some (p, h) else s.ports.flashOn
      flashAt := if alone then s.now else s.ports.flashAt } }

/-- A switching is over: its command completes, or waits for the write of CONFIG (19 R574). -/
def State.domEnd (s : State) (x : DomCmd) : State :=
  match x.who with
  | none => s
  | some (p, h) =>
    if x.persist then s.flashJoin p h
    else s.complete p h .ok 0 (s.domResult 0)

/-- One item: a domain that stands in the wanted state needs nothing; else its ramp begins. The answer says whether the
item is over. -/
def State.domItem (s : State) (d : Nat) (on : Bool) : State × Bool :=
  match rd s.pwr.dom d, on with
  | .off, true => (s.setDom d .rampOn, false)
  | .on, false => ((s.domStop d).setDom d .rampOff, false)
  | _, _ => (s, true)

/-- The index of the domain that a switching waits for; one with nothing left to do comes first. -/
def DomCmd.rank (x : DomCmd) : Nat := match x.todo with
  | [] => 0
  | (d, _) :: _ => d + 1

/-- The switching that is served next: the one whose next domain has the lowest index (19 R559). -/
def nextSwitching (cs : List DomCmd) : Option Nat :=
  (List.range cs.length).find? (fun i => cs.all (fun y => decide (((cs[i]?).map DomCmd.rank).getD 0 ≤ y.rank)))

/-- Switchings go on until a domain ramps: one domain at a time, in ascending order of index (19 R559). -/
def State.domRun : Nat → State → State
  | 0, s => s
  | n + 1, s =>
    if s.pwr.ramping then s
    else match (nextSwitching s.pwr.domCmds).bind (fun i => (s.pwr.domCmds[i]?).map (fun x => (i, x))) with
      | none => s
      | some (i, x) =>
        match x.todo with
        | [] => State.domRun n (({ s with pwr := { s.pwr with domCmds := s.pwr.domCmds.eraseIdx i } } : State).domEnd x)
        | (d, on) :: t =>
          let (s', ended) := s.domItem d on
          if ended then State.domRun n { s' with pwr := { s'.pwr with domCmds := s'.pwr.domCmds.set i { x with todo := t } } } else s'

/-- Steps that a run of switchings can take before a domain ramps. -/
def Pwr.domFuel (p : Pwr) : Nat := (p.domCmds.map (fun x => x.todo.length + 1)).sum + 1

/-- The switching whose domain `d` ramps: the first that waits for it. -/
def Pwr.switching (p : Pwr) (d : Nat) : Option (Nat × DomCmd) :=
  (p.domCmds.findIdx? (fun x => x.rank == d + 1)).bind (fun i => (p.domCmds[i]?).map (fun x => (i, x)))

/-- The domain that ramped is done: the item of its switching is over, and the next begins. -/
def State.domDone (s : State) (d : Nat) : State :=
  let cmds := match s.pwr.switching d with
    | some (i, x) => s.pwr.domCmds.set i { x with todo := x.todo.drop 1 }
    | none => s.pwr.domCmds
  let s := { s with pwr := { s.pwr with domCmds := cmds } }
  State.domRun s.pwr.domFuel s

/-- DOMAIN_RAMP_ON_DONE (19 R559). -/
def State.rampOnDone (s : State) (d : Nat) : State :=
  if rd s.pwr.dom d = .rampOn then ((s.setDom d .on).domStart d).domDone d else s

/-- DOMAIN_RAMP_ON_FAIL (19 R559, R574): DOMAIN_FAIL is set, the command that asked for it ends ABORTED. -/
def State.rampOnFail (s : State) (d : Nat) : State :=
  if rd s.pwr.dom d ≠ .rampOn then s
  else
    let s := s.setDom d .off
    let s := { s with pwr := { s.pwr with domFail := true } }
    match s.pwr.switching d with
    | some (i, x) =>
      let s := { s with pwr := { s.pwr with domCmds := s.pwr.domCmds.eraseIdx i } }
      let s := match x.who with
        | some (p, h) => s.complete p h .aborted 0x0125 (s.domResult (2 ^ d))
        | none => s
      State.domRun s.pwr.domFuel s
    | none => s

/-- DOMAIN_RAMP_OFF_DONE (19 R559). -/
def State.rampOffDone (s : State) (d : Nat) : State :=
  if rd s.pwr.dom d = .rampOff then (s.setDom d .off).domDone d else s

/-- LIVE uses a domain as R558 says. -/
def State.domInUse (s : State) (d : Nat) : Bool :=
  match s.pl.live with
  | none => false
  | some p =>
    match d with
    | 5 => !p.streams.isEmpty
    | 10 => true
    | 11 => !p.lines.isEmpty
    | 12 => !p.modulators.isEmpty
    | 13 => !p.saports.isEmpty
    | _ =>
      if d = 3 || d = 4 then
        p.streams.any (fun r => (domainLanes d).any (fun i => decide (r.portA = i) || decide (r.portB = i)))
      else p.tiles.any (fun t => decide (6 + quadOf (s.carrierOf t.1) = d) && decide (s.carrierOf t.1 < 68))

/-- SHADOW uses a domain while its commit is ARMED or LOCKED (19 R558). -/
def State.shadowUses (s : State) (d : Nat) : Bool :=
  (s.pl.st = .armed || s.pl.st = .locked) && (match s.pl.shadow with | some p => mem p.domainsUsed d | none => false)

/-- The domain that carries the issuing port (19 R558). -/
def ownPath (c : Ctx) (d : Nat) : Bool :=
  match c.port with
  | .A => d == 13 | .B => d == 13
  | .C => d == 5 || d == laneDomain c.lane
  | .D => false

/-- The domains of a mask, in ascending order. -/
def maskDomains (m : Nat) : List Nat := (List.range 14).filter (fun d => bit m d)

/-- DEV_DOMAIN_SET (19 R558, R574, R575). -/
def runDevDomainSet (c : Ctx) (onMask offMask : Nat) (persist : Bool) (s : State) : Done × State :=
  let named := onMask ||| offMask
  let offs := maskDomains offMask
  if 0x3FFF < onMask || 0x3FFF < offMask || onMask &&& offMask ≠ 0 then (.range, s)
  else if named % 8 ≠ 0 then (.fail .rejectedArgs 0x0121, s)
  else if offs.any (fun d => s.domInUse d || s.shadowUses d) then (.fail .rejectedState 0x0122, s)
  else if offs.any (ownPath c) then (.fail .rejectedState 0x0123, s)
  else if (maskDomains named).any (fun d => decide (rd s.pwr.dom d = .rampOn ∨ rd s.pwr.dom d = .rampOff)) then
    (.fail .rejectedState 0x0124, s)
  else if persist && 8 ≤ s.ports.flashQ.length then (.fail .resource 0x00E5, s)
  else
    let x : DomCmd := ⟨some (c.port, c.handle), persist, offs.map (fun d => (d, false)) ++ (maskDomains onMask).map (fun d => (d, true))⟩
    let s := { s with pwr := { s.pwr with domCmds := s.pwr.domCmds ++ [x] } }
    (.later, State.domRun s.pwr.domFuel s)

/-- DEV_DOMAIN_SET once CONFIG holds the resulting OFF mask (19 R574). -/
def finDevDomainSet (s : State) : Done × State :=
  let s := { s with pwr := { s.pwr with offMask := 0x3FFF - s.pwr.onMask } }
  (.done .ok 0 (s.domResult 0), s)

/-! Registers and status (19 R571, R572). -/

/-- BOOT_RESET_CAUSE. -/
def Pwr.resetCause (p : Pwr) : Nat :=
  packBits [(1, b2n p.causes.por), (1, 0), (1, b2n p.causes.ext), (1, b2n p.causes.soft), (1, b2n p.causes.wdog)
           , (1, b2n p.causes.engine), (1, b2n p.causes.chip), (1, b2n p.causes.trial), (8, 0), (16, p.restarts)]
/-- Causes without those whose bits are written 1. -/
def Causes.clear (c : Causes) (v : Nat) : Causes :=
  ⟨c.por && !bit v 0, c.ext && !bit v 2, c.soft && !bit v 3, c.wdog && !bit v 4, c.engine && !bit v 5, c.chip && !bit v 6
  , c.trial && !bit v 7⟩
/-- BOOT_DOMAIN. -/
def Pwr.domainReg (p : Pwr) : Nat :=
  let busy := ((List.range 14).map (fun d => if rd p.dom d = .rampOn || rd p.dom d = .rampOff then 2 ^ d else 0)).sum
  packBits [(14, busy), (14, p.onMask), (2, 0), (1, b2n p.domFail), (1, b2n p.cfgOverride)]
/-- BOOT_CLOCK (assumption log 51; DEDUCED). -/
def Pwr.clockReg (p : Pwr) : Nat :=
  packBits [(2, p.oscFreq), (4, 0), (1, b2n p.oscOk), (1, b2n p.coreLock), (1, b2n p.mediaLock), (1, b2n p.memLock)
           , (1, b2n p.refclkA), (1, b2n p.refclkB)]

/-- DEV_POWER_STATUS (19 R573, R574): with CLEAR the W1C bits that it has read clear, and PD1_RESTARTS as read (21 R611). -/
def runDevPowerStatus (_ : Ctx) (clear : Bool) (s : State) : Done × State :=
  let p := s.pwr
  let p' := if clear then { p with causes := p.causes.clear 0xFF, restarts := 0, domFail := false } else p
  (.ok [(4, p.resetCause), (4, p.domainReg), (4, p.clockReg), (1, s.avs.req), (1, s.avs.ack)], { s with pwr := p' })

/-! Resets (19 R562 to R566). -/

/-- What a restart of the interior loses: planes, exchange, matrix, tiles, delay-line histories, reports (19 R563). The
structure-signing key is in CONFIG. The spares are those of 18 R541 without a structure. -/
def State.loseInterior (s : State) : State :=
  let quads : Vector Quad 4 := Vector.ofFn (fun q : Fin 4 =>
    let own := 17 * q.val + 16
    let free := ((List.range 17).map (17 * q.val + ·)).filter (fun k => !mem s.hlt.out k)
    let sp := if mem free own then some own else free.getLast?
    ⟨if sp.isSome then .ready else .none_, sp, none, none⟩)
  { s with
    pl := { Planes.reset with sigKey := s.pl.sigKey }
    ex := Exch.reset
    mtx := Mtx.reset
    tiles := Vector.replicate 68 Tile.reset
    carrier := Vector.ofFn (fun i : Fin 68 => i.val)
    treps := []
    dm := { s.dm with lines := [] }
    str := { s.str with rx := [], tx := [], aligned := false, alignedTx := false }
    hlt := { s.hlt with quads := quads, full := none } }

/-- Commands whose work the restart of the interior takes away end ABORTED with RESTART (19 R565). -/
def State.loseCommands (s : State) : State :=
  [CPort.D, .A, .B, .C].foldl (fun s p =>
    (s.port p).flights.foldl (fun s f =>
      let gone := match f.cmd with
        | .structLoad .. => true | .structPatch .. => true | .structCopy .. => true | .structCommit .. => true
        | .xpointSet .. => true | .rampSet .. => true | .tileParamWrite .. => true | .safeApply .. => true
        | .tileReport .. => true | .selftestTile .. => true | .tileMigrate .. => true | .selftestFull .. => true
        | _ => false
      if gone && f.started then s.complete p f.handle .aborted 0x0120 [] else s) s) s

/-- The reset of everything but PD0 (19 R562, R563): RESET_N and CHIP_RESET (assumption log 40, 50; DEDUCED). -/
def State.resetEngine (s : State) : State :=
  let s := s.restartPd1
  let s := (s.closeZones (fun z => z != 0xC3) (fun _ => false)).avsDisable
  let s := s.loseInterior
  let s := s.freshPstage
  let s := s.resetAccess [.net, .ts, .ref, .pst, .cmd]
  let dm := { Dm.reset with gRec := s.dm.gRec, cfgRate := s.dm.cfgRate, cfgScrub := s.dm.cfgScrub }
  let ports := { Ports.reset with
    d := s.ports.d, taken := s.ports.taken, access := s.ports.access, deferred := s.ports.deferred.filter (fun x => x.1 == .D)
    pc := { PortC.reset with keys := s.ports.pc.keys }, hostWrites := s.ports.hostWrites }
  { s with
    pwr := { s.pwr with dom := Vector.replicate 14 .on, domCmds := [], engRestart := none, coldBoot := true, refclkA := false
                        refclkB := false, bootAfter := s.now }
    per := { Per.reset with boundaries := s.per.boundaries, openedAt := s.now }
    dm := dm, sap := Vector.replicate 8 SaSt.reset, net := Net.reset, str := Str.reset, ts := { Ts.reset with tb := { Ts.reset.tb with at_ := s.now } }, ref := Ref.reset
    pst := { s.pst with stops := [], loops := Vector.replicate 32 none, rails := Vector.replicate 4 ⟨none, false, false, false, 0⟩ }
    ports := ports
    boot := { s.boot with tryNext := none, reload := false, mute := none } }

/-- PD1 to PD13 leave reset (19 R564, R567): the PLLs lock, delay-memory training begins (08 R243) (assumption log 51;
DEDUCED). -/
def State.release (s : State) : State :=
  if s.pwr.oscOk && !s.pwr.resetLow && !s.pwr.released then
    { s with pwr := { s.pwr with released := true, coreLock := true, mediaLock := true, memLock := true, bootAfter := s.now }
             ts := { s.ts with tb := { Ts.reset.tb with at_ := s.now } }
             dm := ({ s.dm with rate := s.dm.cfgRate.getD s.dm.rate } : Dm).train }
  else s

/-- POWER_ON_RESET (19 R562 to R564): everything but flash, OTP, CONFIG, and the settings CONFIG holds, is as at the first
power-up; TWA[2:0] is sampled (16 R489) (assumption log 50; DEDUCED). -/
def State.powerOn (s : State) (twa : Nat) : State :=
  let s := s.breakStage
  let b := s.boot
  { State.reset with
    pending := s.pending, now := s.now, freeCtr := s.freeCtr
    pwr := { Pwr.reset with offMask := s.pwr.offMask }
    pl := { Planes.reset with sigKey := s.pl.sigKey }
    dm := { Dm.reset with gRec := s.dm.gRec, cfgRate := s.dm.cfgRate, cfgScrub := s.dm.cfgScrub }
    hlt := { Hlt.reset with out := s.hlt.out, samples := s.hlt.samples, stress := s.hlt.stress, eolYears := s.hlt.eolYears
                            eolLow := s.hlt.eolLow, conf := s.hlt.conf, grades := s.hlt.grades, fresh := s.hlt.fresh
                            eyeHist := s.hlt.eyeHist }
    cfg := s.cfg
    ports := { Ports.reset with
      pc := { PortC.reset with keys := s.ports.pc.keys.map (fun k => (k.1, { k.2 with highest := k.2.floor, reply := k.2.replyFloor })) }
      hostWrites := s.ports.hostWrites }
    boot := { Boot.reset with
      flashBytes := b.flashBytes, recs := b.recs, slots := b.slots, stage := b.stage, log := b.log, structs := b.structs
      cfgSeq := b.cfgSeq, erases := b.erases, otp := b.otp, revoked := b.revoked }
    tw := { Tw.reset with twa := twa % 8 } }

/-- POWER_ON_RESET on a rail's reading in 0.1 mV: a drop that calls for no power-on reset is one that the SUPPLY monitor sees (19
R553, R562, 20 R590). -/
def State.railDrop (s : State) (i v twa : Nat) : State := if s.porCalled i v then s.powerOn twa else s.readRail i v

/-- RESET_N_FALL (19 R564): PD1 to PD13 are held in reset, the gate outputs are low. -/
def State.resetFall (s : State) : State :=
  let s := s.resetEngine
  { s with pwr := { s.pwr with resetLow := true, released := false, causes := { s.pwr.causes with ext := true } } }

/-- RESET_N_RISE (19 R564): stage 2 of 17 R510 follows. -/
def State.resetRise (s : State) : State :=
  if s.pwr.resetLow then ({ s with pwr := { s.pwr with resetLow := false } } : State).release else s

/-- OSC_IN_DETECTED (19 R567): the nominal frequency is found; PD1 to PD13 leave reset (assumption log 51, 79; DEDUCED,
DESIGN CHOICE). -/
def State.oscFound (s : State) (freq : Nat) : State :=
  if 3 < freq then s else ({ s with pwr := { s.pwr with oscOk := true, oscFreq := freq } } : State).release

/-- OSC_IN_LOSS (19 R568): BOUNDARY is reported with the expected period and none measured. -/
def State.oscLoss (s : State) : State :=
  if s.pwr.oscOk then
    ({ s with pwr := { s.pwr with oscOk := false } } : State).report 0x0101 0x00 0xFFFF (packBits [(32, periodTicks s.per.baseRate), (32, 0)])
  else s

/-- SOFT_RESET by command (19 R565): its own COMPLETE comes first; PD1 restarts 1 ms after it (assumption log 40; DEDUCED). -/
def runSoftReset (c : Ctx) (s : State) : Done × State :=
  let s := s.complete c.port c.handle .ok 0 []
  let s := s.abortAll .aborted 0x0120
  let s := s.restartPd1.closeZones (· == 0x01) (fun _ => false)
  (.later, { s with pwr := { s.pwr with causes := { s.pwr.causes with soft := true }, bootAfter := s.now + 1000000 } })

/-- CHIP_RESET (19 R574): its COMPLETE and the RESTART entries come first; the reset takes effect (assumption log 40;
DEDUCED). -/
def runChipReset (c : Ctx) (s : State) : Done × State :=
  let s := s.complete c.port c.handle .ok 0 []
  let s := (s.abortAll .aborted 0x0120).resetEngine
  let s := { s with pwr := { s.pwr with causes := { s.pwr.causes with chip := true }, bootAfter := s.now + 1000000 }
                    dm := ({ s.dm with rate := s.dm.cfgRate.getD s.dm.rate } : Dm).train }
  (.later, s)

/-- ENGINE_RESTART is accepted (19 R566, R575): b is the first boundary at least 2 periods after the accept period. A
command that finds a restart in progress joins it (assumption log 49; DEDUCED). -/
def runEngineRestart (c : Ctx) (s : State) : Done × State :=
  if s.pl.st = .armed || s.pl.st = .locked then (.fail .rejectedState 0x00E7, s)
  else match s.pwr.engRestart with
    | some r => (.later, { s with pwr := { s.pwr with engRestart := some { r with who := r.who ++ [(c.port, c.handle)] } } })
    | none =>
      let b := max (c.acceptB + 2) (s.per.boundaries + 1)
      (.later, { s with pwr := { s.pwr with engRestart := some ⟨[(c.port, c.handle)], b⟩ }, boot := { s.boot with mute := some ⟨b, [], none⟩ } })

/-- The channels go to OFF; LATCHED, hold causes and counters stay (19 R566) (assumption log 49; DEDUCED). -/
def Chan.engineOff (c : Chan) : Chan :=
  { Chan.reset with
    st := if c.st = .latched then .latched else .off, latchDc := c.latchDc, hist := c.hist, flt := c.flt, rail := c.rail
    host := c.host, sense := c.sense, trips := c.trips, peak := c.peak, tripMt := c.tripMt, limitCycles := c.limitCycles
    modClip := c.modClip }

/-- At b + 64 the interior and the stream engine restart; the firmware loads the boot structure (19 R566, 03 R113). The
answer is the state before that load (assumption log 49; DEDUCED). -/
def State.engineRestarts (s : State) : State :=
  match s.pwr.engRestart with
  | none => s
  | some r =>
    if s.per.boundaries < r.b + 64 then s
    else
      let s := s.loseCommands
      let s := s.closeZones (fun z => zTile z || z == 0x70 || z == 0x18) (fun _ => false)
      let s := s.loseInterior.restartStreams.avsDisable
      let s := { s with
        pwr := { s.pwr with engRestart := none, causes := { s.pwr.causes with engine := true } }
        pst := { s.pst with chans := s.pst.chans.map Chan.engineOff }
        boot := { s.boot with mute := none } }
      r.who.foldl (fun s w => s.complete w.1 w.2 .ok 0 (leBytes 8 (s.mediaOf (r.b + 64)))) s.endStops

end Sys2Proof.Machine
end

