-- ==== Sys2Proof/Machine/Boot.lean ====
section
/-!
DEFINITION. Boot, flash layout and firmware update (17): images, boot records, the boot stages, staging, activation, trial
and fallback, the fault log in flash.
-/
namespace Sys2Proof.Machine

/-! Firmware images (17 R507 to R509). -/

/-- IMAGE_SIZE. -/
def fwSize (img : List Byte) : Nat := fld img 0x008 4
/-- SVN. -/
def fwSvn (img : List Byte) : Nat := fld img 0x00F 1
/-- VERSION. -/
def fwVersion (img : List Byte) : Nat := fld img 0x010 4
/-- UCODE_ID. -/
def fwUcode (img : List Byte) : Nat := fld img 0x018 8
/-- KEY_INDEX. -/
def fwKey (img : List Byte) : Nat := fld img 0x038 1
/-- DIGEST bytes 0 to 15. -/
def fwId (img : List Byte) : List Byte := slice img 0x040 16

/-- A section of an image lies in it. -/
def fwSection (img : List Byte) (o : Nat) : Bool := decide (fld img o 4 + fld img (o + 4) 4 ≤ fwSize img)

/-- The points of R509 other than authenticity and the anti-rollback counter. -/
def fwFormatOk (img : List Byte) : Bool :=
  decide (512 ≤ img.length) && decide (slice img 0 4 = [0x46#8, 0x46#8, 0x57#8, 0x52#8]) && fld img 0x004 2 == 1 &&
  fld img 0x006 2 == 512 && within 512 8388608 (fwSize img) && decide (fwSize img ≤ img.length) && fld img 0x00C 2 == 0x7240 &&
  decide (fld img 0x00E 1 ≤ Config.revision.toNat) && decide (fwSvn img ≤ 128) && fwSection img 0x020 && fwSection img 0x028 &&
  fwSection img 0x030 && decide (fld img 0x024 4 ≤ 3670016) && zeros img 0x014 4 && zeros img 0x03A 6 && zeros img 0x130 208

/-- The image is authentic (17 R508). -/
def fwAuthentic (revoked : Nat) (img : List Byte) : Bool :=
  let k := fwKey img
  decide (k < 4) && !bit revoked k && decide (beNat (sha384 (slice img 0x070 96)) = (Config.keyHash k).toNat) &&
  ecdsaVerify (beNat (slice img 0x070 48), beNat (slice img 0x0A0 48)) (sha384 (slice img 0 0x0D0)) (beNat (slice img 0x0D0 48))
    (beNat (slice img 0x100 48)) &&
  decide (slice img 0x040 48 = sha384 (slice img 512 (fwSize img - 512)))

/-- The first point of R509 that an image fails, with its status and DETAIL (17 R532); none where it is acceptable. -/
def Boot.fwCheck (b : Boot) (img : List Byte) : Option (Status × Nat) :=
  if !fwFormatOk img then some (.rejectedArgs, 0x00F1)
  else if !fwAuthentic b.revoked img then some (.integrity, 0x00F2)
  else if fwSvn img < b.otp then some (.rejectedArgs, 0x00F3)
  else none

/-! Boot records (17 R505, R506). -/

/-- A slot's index: 0 RUN_A, 1 RUN_B. -/
def slotIx (b : Bool) : Nat := b2n b

/-- The 128 bytes of a record (17 R506). -/
def BootRec.bytes (r : BootRec) : List Byte :=
  let body := [0x46#8, 0x42#8, 0x52#8, 0x43#8] ++ leBytes 4 r.seq ++ leBytes 1 (slotIx r.slotB) ++ leBytes 1 (match r.st with
      | .confirmed => 0 | .trial => 1 | .fallback => 2) ++ leBytes 1 r.trialBoots ++ leBytes 1 (b2n r.requireHost) ++
    leBytes 2 r.windowS ++ leBytes 1 r.cause ++ leBytes 1 0 ++ leBytes 4 r.ver.1 ++ leBytes 4 r.ver.2 ++ leBytes 1 r.svn.1 ++
    leBytes 1 r.svn.2 ++ List.replicate 6 0 ++ slice r.id.1 0 16 ++ slice r.id.2 0 16 ++ List.replicate 60 0
  body ++ leBytes 4 (crc32 body)

/-- The index of the newest valid record; none where no copy is valid. -/
def Boot.newestRec (b : Boot) : Option Nat :=
  match rd b.recs 0, rd b.recs 1 with
  | some x, some y => some (if x.seq < y.seq then 1 else 0)
  | some _, none => some 0
  | none, some _ => some 1
  | none, none => none

/-- The record in force (17 R506). -/
def Boot.record (b : Boot) : BootRec := ((b.newestRec).bind (fun i => rd b.recs i)).getD BootRec.dflt

/-- A record written to the copy that is not the newest valid one, with the next sequence number (17 R505). -/
def Boot.writeRec (b : Boot) (r : BootRec) : Boot :=
  let i := match b.newestRec with | some j => 1 - j | none => 0
  ({ b with recs := wr b.recs i (some { r with seq := b.record.seq + 1 }) } : Boot).erase i 1

/-- The image in a slot is acceptable. -/
def Boot.slotOk (b : Boot) (slotB : Bool) : Bool :=
  match rd b.slots (slotIx slotB) with
  | some img => (b.fwCheck img).isNone
  | none => false

/-- The code of a record's STATE. -/
def RecSt.code : RecSt → Nat
  | .confirmed => 0 | .trial => 1 | .fallback => 2

/-! Registers (17 R529). -/

/-- The lowest sector of an open cairn that is not complete (17 R515). -/
def StageSt.resume : StageSt → Nat
  | .incomplete _ _ part => part.length / 65536
  | _ => 0
/-- The code of a stage state. -/
def StageSt.code : StageSt → Nat
  | .empty => 0 | .incomplete .. => 1 | .staged _ => 2

/-- BOOT_STATUS. -/
def Boot.status (b : Boot) : Nat :=
  let r := b.record
  packBits [(1, b2n b.runB), (2, r.st.code), (2, b.stage.code), (1, r.trialBoots), (1, b2n b.spiMode), (1, b2n b.recovery)
           , (3, r.cause), (8, b.stage.resume)]

/-- BOOT_TRIAL. -/
def State.bootTrial (s : State) : Nat :=
  let b := s.boot
  let left := match b.trialEnd with | some e => (e - s.now + 999999999) / 1000000000 | none => 0
  packBits [(12, left), (1, b2n b.consent), (1, b2n b.record.requireHost), (1, b2n b.healthy)]

/-- BOOT_OTP. -/
def Boot.otpReg (b : Boot) : Nat := packBits [(8, b.otp), (4, b.revoked)]

/-- FLASH is reported in zone 0x01: operation 0 read, 1 program, 2 erase; flash address (14 R412) (assumption log 74;
DEDUCED). -/
def State.flashFault (s : State) (op addr : Nat) : State := s.report 0x0204 0x01 0xFFFF (packBits [(8, op), (32, addr)])

/-! Choice of the slot (17 R512). -/

/-- Rows CONFIRMED and FALLBACK: the slot booted, none where no slot is acceptable (assumption log 73; DEDUCED). -/
def State.pickSlot (s : State) : State × Option Bool :=
  let r := s.boot.record
  if s.boot.slotOk r.slotB then (s, some r.slotB)
  else if s.boot.slotOk (!r.slotB) then
    (({ s with boot := s.boot.writeRec { r with st := .fallback, slotB := !r.slotB, cause := 4 } } : State).event 8, some (!r.slotB))
  else (s, none)

/-- Row TRIAL, 1: the record falls back; a boot of the other slot follows (assumption log 73; DEDUCED). -/
def State.fallBack (s : State) : State × Option Bool :=
  let r := s.boot.record
  let cause := if s.boot.timedOut then 1 else 2
  let b := s.boot.writeRec { r with st := .fallback, slotB := !r.slotB, cause := cause }
  (({ s with boot := { b with trialEnd := none } } : State).event 8).pickSlot

/-- The choice of R512 (assumption log 73; DEDUCED). -/
def State.chooseSlot (s : State) : State × Option Bool :=
  let r := s.boot.record
  match r.st with
  | .confirmed => s.pickSlot
  | .fallback => s.pickSlot
  | .trial =>
    if r.trialBoots = 0 then
      let b := s.boot.writeRec { r with trialBoots := 1 }
      let s := ({ s with boot := { b with trialEnd := some (s.now + r.windowS * 1000000000), consent := false, goodSince := none
                                          healthy := false } } : State).event 8
      if s.boot.slotOk r.slotB then (s, some r.slotB) else s.fallBack
    else s.fallBack

/-! CONFIG at stage 6 (17 R510; 21 R612; 19 R561, R563). -/

/-- Settings that every boot applies: masks, own node ID and MAC address, the settings of the time-stamp unit and of the
reference selector, rails and loops (13 R393, R406), CAL_INTERVAL (assumption log 72; DEDUCED). -/
def State.applyConfig (s : State) : State :=
  let c := s.cfg
  let s := s.applyMasks
  let s := { s with nodeId := c.node.getD (Config.uniqueId.toNat % 4096), nodeNext := none }
  let s := if s.isBelay then s else s.unalign
  let s := { s with net := { s.net with nodeMac := (c.switch.map (·.2.2.1)).getD defaultMac } }
  let s := (finPtpConfig (c.ptp.getD Ts.reset.ptp) false s).2
  let s := turns 8 s (fun i s => (finPtpPortConfig i ((lookup? c.ptpPorts i).getD PtpPortCfg.off) false s).2)
  let s := turns 8 s (fun i s => s.setTsLane i { (s.tsLane i) with
    calRx := Vector.ofFn (fun m : Fin 3 => ((lookup? c.cal (i * 3 + m.val)).getD (0, 0)).1)
    calTx := Vector.ofFn (fun m : Fin 3 => ((lookup? c.cal (i * 3 + m.val)).getD (0, 0)).2) })
  let pps := c.pps.getD (Ts.reset.ppsEn, Ts.reset.ppsWidth)
  let s := (finPpsOutConfig pps.1 pps.2 false s).2
  let s := turns 15 s (fun i s =>
    let x := (lookup? c.cands i).getD (false, (Cand.reset i).rxQl)
    (finRefCandConfig i x.1 (if i = 12 || i = 13 then x.2 else 0xFF) false s).2)
  let s := (finRefOscTrimSet (c.trim.getD 0) false s).2
  let m := c.mclk.getD (false, 0, 0)
  let s := (finMclkConfig m.1 m.2.1 m.2.2 false s).2
  let s := turns 8 s (fun i s => let x := (lookup? c.esmc i).getD (false, false); (finEsmcConfig i x.1 x.2 false s).2)
  let s := turns 4 s (fun r s => match lookup? c.rails r with
    | some x => s.configRail r x
    | none => if (s.railOf r).cfg.isSome then s.clearRail r else s)
  let s : State := { s with pst := { s.pst with loops := Vector.ofFn (fun k : Fin 32 => lookup? c.loops k.val) } }
  { s with hlt := { s.hlt with calInterval := c.calInterval.getD Hlt.reset.calInterval } }

/-- Settings of blocks that a restart of PD1 alone keeps (19 R563): lanes and switch; the lanes start (assumption log 72;
DEDUCED). -/
def State.applyColdConfig (s : State) : State :=
  let c := s.cfg
  let s := c.lanes.foldl (fun s x => s.setLane x.1 { (s.lane x.1) with cfg := x.2 }) s
  let s := c.queues.foldl (fun s x => (finNetQueueConfig (x.1 / 8) (x.1 % 8) x.2.1 x.2.2 false s).2) s
  let s := match c.switch with | some x => (finNetSwitchConfig x.1 x.2.1 x.2.2.1 x.2.2.2 false s).2 | none => s
  let s := c.frr.foldl (fun s x => s.setLane x.1 { (s.lane x.1) with backup := x.2.1, restoreMs := x.2.2, frrActive := x.2.1.isSome }) s
  (List.range 8).foldl (fun s i => s.startLane i) s

/-- FAULT_N as CONFIG sets it: its registers are those of PD0, which only a power-on reset returns (14 R432, R442)
(assumption log 50; DEDUCED). -/
def State.applyPin (s : State) : State :=
  match s.cfg.pin with
  | some (a, b, c, d, e) => s.setPin a b c d e
  | none => s

/-- The plane of the boot structure that R113 selects. -/
def State.bootPlane (s : State) : Option Plane :=
  let test (i : Nat) : Option Plane := match s.boot.copy i with
    | some x => (match loadChecks (s.loadEnv 1 x.2.length none) x.2 with | .ok p => some p | .error _ => none)
    | none => none
  match test s.boot.newer with
  | some p => some p
  | none => test (1 - s.boot.newer)

/-- The domains that the OFF mask names go off, but for those that the boot structure uses (19 R561) (assumption log 72;
DEDUCED). -/
def State.applyOffMask (s : State) : State :=
  if s.pwr.offMask = 0 then s
  else
    let named := maskDomains s.pwr.offMask
    let used := match s.bootPlane with | some p => p.domainsUsed | none => []
    let off := named.filter (fun d => !mem used d)
    let s := { s with pwr := { s.pwr with cfgOverride := named.any (fun d => mem used d)
                                          domCmds := s.pwr.domCmds ++ [⟨none, false, off.map (fun d => (d, false))⟩] } }
    State.domRun s.pwr.domFuel s

/-! Boot (17 R510 to R514). -/

/-- The OTP steps of a confirmed image that a reset interrupted (17 R523); a part without a record has confirmed none. -/
def State.finishConfirm (s : State) : State :=
  let r := s.boot.record
  if r.st ≠ .confirmed || s.boot.newestRec.isNone then s
  else match rd s.boot.slots (slotIx r.slotB) with
    | none => s
    | some img =>
      let b := s.boot
      ({ s with boot := { b with otp := max b.otp (min (fwSvn img) 128)
                                 revoked := b.revoked ||| (fld img 0x039 1 % 16 &&& (15 - 2 ^ fwKey img)) } } : State).gradeFlash

/-- The outputs ramp back in once new microcode runs; a fallback with another microcode mutes them first (17 R519, R520)
(assumption log 73; DEDUCED). -/
def State.bootMute (s : State) (old : Nat) : State :=
  let b := s.boot
  let n := s.per.boundaries + 1
  if s.pwr.engRestart.isSome then s
  else if s.pwr.coldBoot then { s with boot := { b with mute := none } }
  else match b.mute with
    | some m => if m.inAt.isNone then { s with boot := { b with mute := some { m with inAt := some (max n (m.b + 64)) } } } else s
    | none => if old ≠ b.ucode && s.pl.live.isSome then { s with boot := { b with mute := some ⟨n, [], some (n + 64)⟩ } } else s

/-- Stages 6 to 9 of a boot with an acceptable image (assumption log 72; DEDUCED). -/
def State.firmwareStarts (s : State) (slotB : Bool) : State :=
  let img := (rd s.boot.slots (slotIx slotB)).getD []
  let old := s.boot.ucode
  let cold := s.pwr.coldBoot
  let s := { s with
    boot := { s.boot with runB := slotB, ucode := fwUcode img, version := fwVersion img, recovery := false, reload := false
                          timedOut := false, ctrlOpened := false, goodSince := none, healthy := false }
    pwr := { s.pwr with cpRunning := true } }
  let s := if s.boot.record.st = .trial then s else { s with boot := { s.boot with trialEnd := none, consent := false } }
  let s := s.finishConfirm.applyConfig
  let s := if cold then s.applyColdConfig.applyOffMask else s
  let s := if s.pwr.porBoot then s.applyPin else s
  let s := s.bootMute old
  let s := { s with pwr := { s.pwr with coldBoot := false, porBoot := false } }
  let s := s.resumeTimers.cpServed.resumeService.gradeFlash
  if cold || s.pl.live.isNone then s.loadBoot else s

/-- No structure is LIVE and every gate output is low in recovery mode (17 R513). -/
def State.dropLive (s : State) : State :=
  if s.pl.live.isNone then s
  else
    let s := s.loseInterior
    { s with pst := { s.pst with chans := s.pst.chans.map Chan.engineOff } }

/-- Recovery mode: no slot is acceptable (17 R513) (assumption log 73; DEDUCED). -/
def State.enterRecovery (s : State) : State :=
  let s := s.dropLive
  let s := { s with boot := { s.boot with recovery := true, reload := false, trialEnd := none, timedOut := false }
                    pwr := { s.pwr with cpRunning := true } }
  (s.applyMasks.flashFault 0 0).cpServed.resumeService

/-- FIRMWARE_BOOT: stages 2 to 9 of R510, in single-SPI mode where the flash does not answer in octal DTR mode (R511)
(assumption log 40; DEDUCED). -/
def State.firmwareBoot (s : State) (spi : Bool) : State :=
  if !s.pwr.released || s.pwr.cpRunning || s.now < s.pwr.bootAfter then s
  else
    let s := { s with boot := { s.boot with spiMode := spi } }
    let s := if spi then s.flashFault 0 0 else s
    match s.chooseSlot with
    | (s, some b) => s.firmwareStarts b
    | (s, none) => s.enterRecovery

/-! Staging (17 R515 to R517). -/

/-- FW_STAGE: step 1 of R516, and the match that RESUME needs. -/
def runFwStage (c : Ctx) (len : Nat) (resume : Bool) (image : List Byte) (s : State) : Done × State :=
  let img := slice image 0 len
  if noBuf c.port then (.argPtr, s)
  else if resume && !(match s.boot.stage with
      | .incomplete size id _ => fwSize img == size && decide (fwId img = id)
      | _ => false) then (.fail .rejectedState 0x00F6, s)
  else match s.boot.fwCheck img with
    | some (st, d) => (.fail st d, s)
    | none => (.flash, s)

/-- The flash operation of FW_STAGE begins: step 2 of R516 for a new image. -/
def State.stageBegins (s : State) (len : Nat) (resume : Bool) (image : List Byte) : State :=
  let img := slice image 0 len
  if resume then s
  else { s with boot := ({ s.boot with stage := .incomplete (fwSize img) (fwId img) [] } : Boot).erase 6 2 }

/-- The end of the flash operation of FW_STAGE: `ok`, or a third failure in the sector after `done` complete ones. Where another
staging in the queue has changed the cairn, RESUME does not match it. -/
def finFwStage (len : Nat) (image : List Byte) (ok : Bool) (done_ : Nat) (s : State) : Done × State :=
  let img := slice image 0 (min (fwSize (slice image 0 len)) len)
  match s.boot.stage with
  | .incomplete size id part =>
    let n := (size + 65535) / 65536
    if fwSize (slice image 0 len) ≠ size || decide (fwId (slice image 0 len) ≠ id) then (.fail .rejectedState 0x00F6, s)
    else if !ok then
      let k := max (part.length / 65536) (min done_ (n - 1))
      let full := part ++ img.drop part.length
      let s := { s with boot := ({ s.boot with stage := .incomplete size id (slice full 0 (65536 * k)) } : Boot).erase (8 + part.length / 65536) (k + 1 - part.length / 65536) }
      let s := { s with boot := (s.boot.erase (8 + k) 1).erase (8 + k) 1 }
      (.fail .integrity 0x00F8, s.flashFault 1 (0x00080000 + 65536 * k))
    else
      let b := s.boot.erase (8 + part.length / 65536) (n - part.length / 65536)
      let full := slice (part ++ img.drop part.length) 0 size
      match b.fwCheck full with
      | some (st, d) => (.fail st d, { s with boot := ({ b with stage := .empty } : Boot).erase 7 1 })
      | none =>
        (.ok [(4, fwVersion full), (1, fwSvn full), (2, n - part.length / 65536)], { s with boot := { b with stage := .staged full } })
  | _ => (.fail .rejectedState 0x00F6, s)

/-- FW_STAGE_DISCARD once STAGE_HDR and STAGE_JNL are erased (17 R531). -/
def finFwStageDiscard (s : State) : Done × State :=
  (.ok [(1, 0)], { s with boot := ({ s.boot with stage := .empty } : Boot).erase 6 2 })

/-! Activation (17 R518 to R521). -/

/-- FW_ACTIVATE (17 R518, R532). -/
def runFwActivate (_ : Ctx) (windowS : Nat) (s : State) : Done × State :=
  if windowS ≠ 0 && !within 60 3600 windowS then (.range, s)
  else match s.boot.stage with
    | .staged img =>
      if s.boot.record.st = .trial then (.fail .rejectedState 0x00F4, s)
      else (match s.boot.fwCheck img with
        | some (st, d) => (.fail st d, s)
        | none => (.flash, s))
    | _ => (.fail .rejectedState 0x00F0, s)

/-- The first sector of a slot (17 R503). -/
def slotSector (slotB : Bool) : Nat := if slotB then 264 else 136

/-- The slot that ACTIVE does not name already holds the staged image (17 R518). -/
def Boot.sameImage (b : Boot) (img : List Byte) : Bool :=
  match rd b.slots (slotIx (!b.record.slotB)) with
  | some x => decide (slice x 0x040 48 = slice img 0x040 48)
  | none => false

/-- The copy of FW_ACTIVATE begins: the slot that it writes holds no image until the copy ends (17 R518) (assumption log 74;
DEDUCED). -/
def State.copyBegins (s : State) : State :=
  match s.boot.stage with
  | .staged img =>
    if s.boot.sameImage img then s
    else
      let slotB := !s.boot.record.slotB
      { s with boot := ({ s.boot with slots := wr s.boot.slots (slotIx slotB) none } : Boot).erase (slotSector slotB) ((fwSize img + 65535) / 65536) }
  | _ => s

/-- Step 2 of R519: other commands end ABORTED with ACTIVATE, command service stops, the reload is due; with another
microcode the outputs ramp to mute from the next boundary. -/
def State.startReload (s : State) (change : Bool) : State :=
  let s := s.abortAll .aborted 0x00F9
  { s with pwr := { s.pwr with service := false }
           boot := { s.boot with reload := true
                                 mute := if change then some ⟨s.per.boundaries + 1, [], none⟩ else s.boot.mute } }

/-- The ports that are ACTIVE. -/
def State.activePorts (s : State) : List CPort := [CPort.A, .B, .C, .D].filter (fun p => decide ((s.port p).st = .active))

/-- The image of a slot, as the boot record holds it (17 R506). -/
def BootRec.withImage (r : BootRec) (slotB : Bool) (img : List Byte) : BootRec :=
  if slotB then { r with ver := (r.ver.1, fwVersion img), svn := (r.svn.1, fwSvn img), id := (r.id.1, fwId img) }
  else { r with ver := (fwVersion img, r.ver.2), svn := (fwSvn img, r.svn.2), id := (fwId img, r.id.2) }

/-- The copy of FW_ACTIVATE has ended and the boot record is written (17 R518, R519) (assumption log 74; DEDUCED). -/
def State.activated (s : State) (port : CPort) (handle windowS : Nat) (requireHost ok : Bool) : State :=
  match s.boot.stage with
  | .staged img =>
    let r := s.boot.record
    let slotB := !r.slotB
    if !ok then (s.complete port handle .integrity 0x00F8 []).flashFault 1 (65536 * slotSector slotB)
    else
      let b := { s.boot with slots := wr s.boot.slots (slotIx slotB) (some img), portsWere := s.activePorts }
      let change := fwUcode img != b.ucode
      let r := { r.withImage slotB img with
        st := .trial, trialBoots := 0, slotB := slotB, requireHost := requireHost, windowS := if windowS = 0 then 300 else windowS
        cause := 0 }
      let s := { s with boot := b.writeRec r }
      (s.complete port handle .ok 0 (leBytes 1 (slotIx slotB) ++ leBytes 1 (b2n change))).startReload change
  | _ => s.complete port handle .rejectedState 0x00F0 []

/-- FW_ACTIVATE_COPY_DONE: the activation at the head of the flash queue goes on. -/
def State.activateCopyDone (s : State) (ok : Bool) : State :=
  match s.ports.flashQ with
  | (p, h) :: _ => match (s.port p).flight? h with
    | some f => match f.cmd with
      | .fwActivate _ w r => s.activated p h w r ok
      | _ => s
    | none => s
  | [] => s

/-- UCODE_RELOAD: at t3 the control processor reloads through the boot ROM (17 R519). -/
def State.ucodeReload (s : State) : State :=
  let due := match s.boot.mute with
    | some m => m.inAt.isSome || decide (m.b + 64 ≤ s.per.boundaries)
    | none => true
  if s.boot.reload && due && s.pwr.cpRunning then
    let s := s.stopCp
    { s with pwr := { s.pwr with bootAfter := s.now }, boot := { s.boot with reload := false } }
  else s

/-! Trial, confirmation and fallback (17 R522 to R526). -/

/-- FW_CONFIRM: consent is recorded (17 R531) (assumption log 73; DEDUCED). -/
def runFwConfirm (_ : Ctx) (s : State) : Done × State :=
  if s.boot.record.st = .trial then (.ok [(1, 0)], { s with boot := { s.boot with consent := true } })
  else (.fail .rejectedState 0x00F5, s)

/-- FW_REVERT (17 R524, R532). -/
def runFwRevert (_ : Ctx) (s : State) : Done × State :=
  if s.boot.record.st = .trial then (.flash, s) else (.fail .rejectedState 0x00F5, s)

/-- FW_REVERT once its record is written: it completes, and the reload follows as in R519. -/
def State.reverted (s : State) (port : CPort) (handle : Nat) : State :=
  let r := s.boot.record
  let b := s.boot.writeRec { r with st := .fallback, slotB := !r.slotB, cause := 3 }
  let s := ({ s with boot := { b with trialEnd := none, consent := false } } : State).event 8
  let change := match rd s.boot.slots (slotIx (!r.slotB)) with
    | some img => fwUcode img != s.boot.ucode
    | none => false
  (s.complete port handle .ok 0 (leBytes 1 (slotIx (!r.slotB)))).startReload change

/-- The criteria of R522 at an evaluation. `other`: the reference selector makes its evaluations and the watchdog has been
serviced in time, which no row shows (assumption log 73; DEDUCED). -/
def State.trialGood (s : State) (other : Bool) : Bool :=
  let noCopy := (s.boot.copy 0).isNone && (s.boot.copy 1).isNone
  other && (s.pl.live.isSome || noCopy) && s.boot.portsWere.all (fun p => decide ((s.port p).st = .active)) && s.pwr.service &&
  !s.boot.ctrlOpened && !(List.range 16).any (fun i => (s.ep i).isOpen && (s.ep i).level == 3)

/-- TRIAL_HEALTH_EVALUATION: healthy after 30 s without a break; the confirmation of R523 follows (assumption log 16; DESIGN
CHOICE). -/
def State.trialEval (s : State) (other : Bool) : State :=
  let r := s.boot.record
  if r.st ≠ .trial || !s.pwr.cpRunning || s.boot.recovery || s.boot.trialEnd.isNone then s
  else
    let since := if s.trialGood other then some (s.boot.goodSince.getD s.now) else none
    let healthy := match since with | some t => decide (t + 30000000000 ≤ s.now) | none => false
    let s := { s with boot := { s.boot with goodSince := since, healthy := healthy } }
    if healthy && (!r.requireHost || s.boot.consent) then
      let b := s.boot.writeRec { r with st := .confirmed, trialBoots := 0 }
      (({ s with boot := { b with trialEnd := none, consent := false } } : State).finishConfirm).event 8
    else s

/-- TRIAL_TIMER_EXPIRY: PD1 CTRL restarts, and the boot ROM falls back (17 R522, R524). -/
def State.trialExpiry (s : State) : State :=
  match s.boot.trialEnd with
  | none => s
  | some e =>
    if s.now < e then s
    else
      let s := (s.restartPd1).closeZones (· == 0x01) (fun _ => false)
      { s with boot := { s.boot with timedOut := true, trialEnd := none }
               pwr := { s.pwr with causes := { s.pwr.causes with trial := true }, bootAfter := s.now } }

/-! The fault log in flash (17 R528). -/

/-- Erasures of the sectors of LOG. -/
def Boot.logErases (b : Boot) : Nat := (b.erases.map (fun e => if within 392 407 e.1 then e.2 else 0)).sum

/-- The ring with one entry added: when it is full, its oldest sector of 2,048 entries is erased first. -/
def Boot.addLog (b : Boot) (e : LogEntry) : Boot :=
  if 32768 ≤ b.log.length then ({ b with log := b.log.drop 2048 ++ [e] } : Boot).erase (392 + b.logErases % 16) 1
  else { b with log := b.log ++ [e] }

/-- FLASH_LOG_COPY: the entries of severity DEGRADED or above that are newer than the last one copied. -/
def State.logCopy (s : State) : State :=
  if !s.pwr.cpRunning || s.boot.recovery then s
  else
    let new_ := s.flt.log.filter (fun e => decide (1 ≤ e.sev) && (match s.boot.copied with
      | none => true
      | some q => decide ((e.seq + 2 ^ 32 - q - 1) % 2 ^ 32 < 2 ^ 31)))
    match new_.getLast? with
    | none => s
    | some l => ({ s with boot := { new_.foldl Boot.addLog s.boot with copied := some l.seq } } : State).gradeFlash

/-! Commands (17 R530 to R532). -/

/-- FW_STATUS: the record's fields from SEQ to ID_B as they are laid out. -/
def runFwStatus (_ : Ctx) (s : State) : Done × State :=
  let b := s.boot
  let r := b.record
  let st := match b.stage with | .staged img => (fwVersion img, fwSvn img) | _ => (0, 0)
  (.done .ok 0 (slice r.bytes 4 60 ++ leBytes 4 b.status ++
    leBytes 4 s.bootTrial ++ leBytes 4 b.otpReg ++ leBytes 4 st.1 ++ leBytes 1 st.2 ++ leBytes 8 b.flashBytes), s)

/-- FLASH_LOG_READ: entries, and the SEQ of the next one. -/
def runFlashLogRead (c : Ctx) (start count addr : Nat) (s : State) : Done × State :=
  if addr ≠ 0 && noBuf c.port then (.argPtr, s)
  else if 0xFFFFFFFF < start || !within 1 (if addr = 0 then 1 else 2048) count then (.range, s)
  else
    let log := s.boot.log
    let i := if start = 0xFFFFFFFF then 0
      else (log.findIdx? (fun e => decide ((e.seq + 2 ^ 32 - start) % 2 ^ 32 < 2 ^ 31))).getD log.length
    let es := (log.drop i).take count
    let next := ((log[i + es.length]?).map (·.seq)).getD (s.flt.logSeq % 2 ^ 32)
    let bytes := es.flatMap LogEntry.bytes
    (.done .ok 0 (leBytes 2 es.length ++ leBytes 4 next ++ (if addr = 0 then bytes else [])),
     if addr = 0 then s else s.hostWrite c.port addr bytes)

end Sys2Proof.Machine
end

