-- ==== Sys2Proof/Machine/Service.lean ====
section
/-!
DEFINITION. Command service (15): taking of descriptors, envelope checks, fences, the flash queue, time limits; the device
and port commands.
-/
namespace Sys2Proof.Machine

/-! Device and port commands (15 R483 to R487). -/

/-- DEV_IDENTITY. -/
def runDevIdentity (c : Ctx) (s : State) : Done × State :=
  (.ok [(2, 0x7240), (1, Config.revision.toNat), (1, b2n Config.gradeX), (4, s.boot.version), (4, Config.bootRomVersion.toNat)
       , (8, Config.uniqueId.toNat), (2, s.nodeId), (1, s.per.baseRate), (1, portNum c.port), (2, c.groups), (1, c.privs)], s)

/-- DEV_NODE_ID_SET applied: the new ID holds from the next boundary. -/
def finDevNodeIdSet (node : Nat) (persist : Bool) (s : State) : Done × State :=
  let s := { s with nodeNext := some node, cfg := if persist then { s.cfg with node := some node } else s.cfg }
  (.ok [(2, node), (8, s.mediaOf (s.per.boundaries + 1))], s)

/-- DEV_NODE_ID_SET. -/
def runDevNodeIdSet (_ : Ctx) (node : Nat) (persist : Bool) (s : State) : Done × State :=
  if 4095 < node then (.range, s)
  else if s.pl.st = .armed || s.pl.st = .locked then (.fail .rejectedState 0x00E7, s)
  else if persist then (.flash, s)
  else finDevNodeIdSet node false s

/-- A command waits in the flash queue behind another. -/
def State.flashWaits (s : State) (p : CPort) (h : Nat) : Bool :=
  s.ports.flashQ.any (fun q => q.1 == p && q.2 == h) && !s.flashHead p h

/-- CMD_ABORT. -/
def runCmdAbort (c : Ctx) (handle : Nat) (s : State) : Done × State :=
  match (s.port c.port).flight? handle with
  | none => (.fail (if (s.port c.port).ended handle then .rejectedState else .rejectedArgs)
      (if (s.port c.port).ended handle then 0x00E6 else 0x00E9), s)
  | some f =>
    if !f.started || s.flashWaits c.port handle then (.ok [], s.complete c.port handle .aborted 0 [])
    else (.fail .rejectedState 0x00E6, s)

/-- CMD_PORT_PRIV_SET applied; the masks change when its COMPLETE entry is written (15 R450). -/
def finCmdPortPrivSet (port groups privs : Nat) (persist : Bool) (s : State) : Done × State :=
  (.ok [(2, groups), (1, privs % 128)],
   if persist then { s with cfg := { s.cfg with privs := insertKey s.cfg.privs port (groups, privs % 128) } } else s)

/-- CMD_PORT_PRIV_SET (assumption log 75; DEDUCED). -/
def runCmdPortPrivSet (_ : Ctx) (port groups privs : Nat) (persist : Bool) (s : State) : Done × State :=
  if !within 1 3 port || 0xFFFF < groups || 0xFF < privs || (2 ≤ port && bit privs 6) then (.range, s)
  else if persist then (.flash, s)
  else finCmdPortPrivSet port groups privs false s

/-- CMD_KEY_SET (assumption log 75; DEDUCED). -/
def runCmdKeySet (c : Ctx) (keyId addr groups privs : Nat) (s : State) : Done × State :=
  if noBuf c.port && addr ≠ 0 then (.argPtr, s)
  else if !within 1 8 keyId || 0xFFFF < groups || 0xFF < privs then (.range, s)
  else if addr = 0 && (lookup? s.ports.pc.keys keyId).isNone then (.fail .rejectedArgs 0x0080, s)
  else (.flash, s)

/-- CMD_KEY_SET once CONFIG is written. -/
def finCmdKeySet (keyId addr : Nat) (key : List Byte) (groups privs : Nat) (s : State) : Done × State :=
  let keys := if addr = 0 then eraseKey s.ports.pc.keys keyId
    else insertKey s.ports.pc.keys keyId ⟨slice key 0 32, groups, privs % 128, 0, 2 ^ 24, 0, 2 ^ 24⟩
  (.ok [(1, if addr = 0 then 0 else keyId), (1, keys.length)], { s with ports := { s.ports with pc := { s.ports.pc with keys := keys } } })

/-- The code of a port's STATE; ports C and D read ACTIVE while command service runs (15 R465). -/
def State.portState (s : State) (p : CPort) : Nat :=
  if noBuf p then b2n s.pwr.service
  else match (s.port p).st with
    | .disabled => 0 | .active => 1 | .error => 2 | .draining => 3

/-- CMD_PORT_STATUS: port and counters (15 R486) (assumption log 75; DEDUCED). -/
def runCmdPortStatus (_ : Ctx) (port : Nat) (clear : Bool) (s : State) : Done × State :=
  match portOf port with
  | none => (.range, s)
  | some p =>
    let x := s.port p
    let k := s.ports.pc
    let c := decide (p = .C)
    let head := if noBuf p then 0 else x.sqHead
    let res : List RField :=
      [(1, s.portState p), (2, x.inFlight), (2, head), (4, x.accepted)] ++ x.completed.toList.map (fun n => (4, n)) ++
      [(4, x.discarded), (4, x.cqFullMs s.now), (4, if c then k.authFail else 0), (4, if c then k.replayFail else 0)
      , (4, if c then k.keyUnknown else 0), (4, if c then k.resent else 0)]
    let s := if clear then
        let since : Int := if x.waitSince.isSome then -(s.now - x.waitSince.getD 0 : Nat) else 0
        let s := s.setPort p { x with accepted := 0, completed := Vector.replicate 10 0, discarded := 0, cqFullNs := since }
        if c then { s with ports := { s.ports with pc := { s.ports.pc with authFail := 0, replayFail := 0, keyUnknown := 0, resent := 0 } } }
        else s
      else s
    (.ok res, s)

/-- CMD_ECHO. -/
def runCmdEcho (_ : Ctx) (bytes : List Byte) (s : State) : Done × State :=
  if 48 < bytes.length then (.range, s) else (.done .ok 0 bytes, s)

/-! A command's run, and its end after a flash operation. -/

/-- The run of a host command as it starts. -/
def runCmd (c : Ctx) (i : Instr) (s : State) : Done × State :=
  match i with
  | .structLoad _ src addr len => runStructLoad c src addr len s
  | .structPatch _ src addr len => runStructPatch c src addr len s
  | .structCopy _ => runStructCopy c s
  | .structCommit _ b d => runStructCommit c b d s
  | .structCancel _ h => runStructCancel c h s
  | .structDiscard _ => runStructDiscard c s
  | .structStatus _ => runStructStatus c s
  | .structBootWrite _ _ len img => runStructBootWrite c len img s
  | .structKeySet _ _ addr _ req => runStructKeySet c addr req s
  | .pathLatency _ pl mode path sk si dk di => runPathLatency c pl mode path sk si dk di s
  | .pathLatencyDump _ pl addr len => runPathLatencyDump c pl addr len s
  | .slotPeek _ slot => runSlotPeek c slot s
  | .saportStatus _ port clr => runSaportStatus c port clr s
  | .tileReport _ k first count addr => runTileReport c k first count addr s
  | .xpointSet _ mode group count addr data => runXpointSet c mode group count addr (xpointEntries count data) s
  | .rampSet _ mode group count addr data => runRampSet c mode group count addr (rampEntries count data) s
  | .tileParamWrite _ mode group k mem addr count buf data => runTileParamWrite c mode group k mem addr count buf (paramWords count data) s
  | .safeApply _ g b => runSafeApply c g b s
  | .safeDiscard _ g f => runSafeDiscard c g f s
  | .safeStatus _ g => runSafeStatus c g s
  | .xpointGet _ pl i o => runXpointGet c pl i o s
  | .sumStatus _ sum clr => runSumStatus c sum clr s
  | .rampStatus _ r => runRampStatus c r s
  | .delayStatus _ clr => runDelayStatus c clr s
  | .delayLineStatus _ pl l => runDelayLineStatus c pl l s
  | .delayMemConfig _ rate scrub => runDelayMemConfig c rate scrub s
  | .delayMemRetrain _ => runDelayMemRetrain c s
  | .netPortConfig _ lane cfg p r conf => runNetPortConfig c lane cfg p r conf s
  | .netQueueConfig _ port q rsv qmax p => runNetQueueConfig c port q rsv qmax p s
  | .netSwitchConfig _ et da mac age p => runNetSwitchConfig c et da mac age p s
  | .netStreamFwd _ count addr data => runNetStreamFwd c count addr (fwdEntries count data) s
  | .netMacSet _ count addr data => runNetMacSet c count addr (macEntries count data) s
  | .netFrrSet _ lane b ms p => runNetFrrSet c lane b ms p s
  | .netFwdGet _ kind key sub => runNetFwdGet c kind key sub s
  | .netCounters _ port clr first addr => runNetCounters c port clr first addr s
  | .streamStatus _ dir id clr => runStreamStatus c dir id clr s
  | .belayStatus _ clr => runBelayStatus c clr s
  | .aes67Bind _ count addr data => runAes67Bind c count addr (bindEntries count data) s
  | .timeGet _ => runTimeGet c s
  | .ptpConfig _ mode profile domain p1 p2 two p => runPtpConfig c mode profile domain p1 p2 two p s
  | .ptpPortConfig _ lane cfg p => runPtpPortConfig c lane cfg p s
  | .tsCalSet _ lane mode rx tx p => runTsCalSet c lane mode rx tx p s
  | .ptpStatus _ lane clr => runPtpStatus c lane clr s
  | .ppsOutConfig _ en w p => runPpsOutConfig c en w p s
  | .refStatusGet _ clr => runRefStatusGet c clr s
  | .refCandConfig _ i lock ql p => runRefCandConfig c i lock ql p s
  | .refOscTrimSet _ trim p => runRefOscTrimSet c trim p s
  | .mediaRealign _ => runMediaRealign c s
  | .mclkConfig _ w m0 m1 p => runMclkConfig c w m0 m1 p s
  | .esmcConfig _ lane sy es p => runEsmcConfig c lane sy es p s
  | .pstageStatus _ ch clr => runPstageStatus c ch clr s
  | .pstageClear _ m => runPstageClear c m s
  | .pstageStop _ m => runPstageStop c m s
  | .pstageStart _ m => runPstageStart c m s
  | .pstageRailConfig _ r fs nom uv ov p => runPstageRailConfig c r fs nom uv ov p s
  | .pstageLoopConfig _ ch kp ki fs p => runPstageLoopConfig c ch kp ki fs p s
  | .faultStatus _ => runFaultStatus c s
  | .faultEpisodeGet _ id slot => runFaultEpisodeGet c id slot s
  | .faultLogRead _ start count cons addr => runFaultLogRead c start count cons addr s
  | .faultClear _ id act => runFaultClear c id act s
  | .faultAck _ id => runFaultAck c id s
  | .faultPinConfig _ st sev hm f ms p => runFaultPinConfig c st sev hm f ms p s
  | .faultInject _ zone det data => runFaultInject c zone det data s
  | .devIdentity _ => runDevIdentity c s
  | .devNodeIdSet _ node p => runDevNodeIdSet c node p s
  | .cmdAbort _ h => runCmdAbort c h s
  | .cmdPortPrivSet _ port g v p => runCmdPortPrivSet c port g v p s
  | .cmdKeySet _ id addr _ g v => runCmdKeySet c id addr g v s
  | .cmdPortStatus _ port clr => runCmdPortStatus c port clr s
  | .cmdEcho _ bytes => runCmdEcho c bytes s
  | .fwStatus _ => runFwStatus c s
  | .fwStage _ _ len resume img => runFwStage c len resume img s
  | .fwStageDiscard _ => (.flash, s)
  | .fwActivate _ w _ => runFwActivate c w s
  | .fwConfirm _ => runFwConfirm c s
  | .fwRevert _ => runFwRevert c s
  | .flashLogRead _ start count addr => runFlashLogRead c start count addr s
  | .healthStatus _ => runHealthStatus c s
  | .ageingReport _ addr => runAgeingReport c addr s
  | .selftestTile _ k => runSelftestTile c k s
  | .selftestResult _ q => runSelftestResult c q s
  | .selftestCancel _ byTile id => runSelftestCancel c byTile id s
  | .tileMigrate _ k => runTileMigrate c k s
  | .maintEnter _ => runMaintEnter c s
  | .maintExit _ => runMaintExit c s
  | .selftestFull _ m => runSelftestFull c m s
  | .calConfig _ n p => runCalConfig c n p s
  | .softReset _ => runSoftReset c s
  | .engineRestart _ => runEngineRestart c s
  | .chipReset _ => runChipReset c s
  | .devDomainSet _ on off p => runDevDomainSet c on off p s
  | .devPowerStatus _ clr => runDevPowerStatus c clr s
  | _ => (.later, s)

/-- CONFIG is rewritten in the copy that is not the newest (17 R505); its sectors are erased (assumption log 77; DEDUCED). -/
def State.configWritten (s : State) : State :=
  let b := s.boot
  { s with boot := ({ b with cfgSeq := b.cfgSeq + 1 } : Boot).erase (2 + 2 * ((b.cfgSeq + 1) % 2)) 2 }

/-- What a command does once its flash operation has ended well. -/
def finCmd (i : Instr) (s : State) : Done × State :=
  match i with
  | .structBootWrite _ _ len img => finStructBootWrite len img s
  | .fwStageDiscard _ => finFwStageDiscard s
  | .structKeySet _ id addr key req => finStructKeySet id addr key req s.configWritten
  | .delayMemConfig _ rate scrub => finDelayMemConfig rate scrub s.configWritten
  | .netPortConfig _ lane cfg p r conf => finNetPortConfig lane cfg p r conf s.configWritten
  | .netQueueConfig _ port q rsv qmax p => finNetQueueConfig port q rsv qmax p s.configWritten
  | .netSwitchConfig _ et da mac age p => finNetSwitchConfig et da mac age p s.configWritten
  | .netFrrSet _ lane b ms p => finNetFrrSet lane b ms p s.configWritten
  | .ptpConfig _ mode profile domain p1 p2 two p => finPtpConfig ⟨mode, profile, domain, p1, p2, two⟩ p s.configWritten
  | .ptpPortConfig _ lane cfg p => finPtpPortConfig lane cfg p s.configWritten
  | .tsCalSet _ lane mode rx tx p => finTsCalSet lane mode rx tx p s.configWritten
  | .ppsOutConfig _ en w p => finPpsOutConfig en w p s.configWritten
  | .refCandConfig _ i lock ql p => finRefCandConfig i lock ql p s.configWritten
  | .refOscTrimSet _ trim p => finRefOscTrimSet trim p s.configWritten
  | .mclkConfig _ w m0 m1 p => finMclkConfig w m0 m1 p s.configWritten
  | .esmcConfig _ lane sy es p => finEsmcConfig lane sy es p s.configWritten
  | .pstageRailConfig _ r fs nom uv ov p => finPstageRailConfig r ⟨fs, nom, uv, ov⟩ p s.configWritten
  | .pstageLoopConfig _ ch kp ki fs p => finPstageLoopConfig ch ⟨kp, ki, fs⟩ p s.configWritten
  | .faultPinConfig _ st sev hm f ms p => finFaultPinConfig st sev hm f ms p s.configWritten
  | .devNodeIdSet _ node p => finDevNodeIdSet node p s.configWritten
  | .cmdPortPrivSet _ port g v p => finCmdPortPrivSet port g v p s.configWritten
  | .cmdKeySet _ id addr key g v => finCmdKeySet id addr key g v s.configWritten
  | .calConfig _ n _ => finCalConfig n s.configWritten
  | .devDomainSet .. => finDevDomainSet s.configWritten
  | _ => (.ok [], s)

/-! The flash queue (15 R470). -/

/-- What the flash operation of a command does as it begins. -/
def State.flashBegins (s : State) (i : Instr) : State :=
  match i with
  | .fwStage _ _ len resume img => s.stageBegins len resume img
  | .structBootWrite _ _ len _ => s.bootCopyErased len
  | .fwActivate .. => s.copyBegins
  | _ => s

/-- The flash operation at the head of the queue begins (assumption log 81; DEDUCED). -/
def State.flashKick (s : State) : State :=
  match s.ports.flashQ with
  | [] => { s with ports := { s.ports with flashOn := none } }
  | (p, h) :: _ =>
    if s.ports.flashOn = some (p, h) then s
    else
      let s := { s with ports := { s.ports with flashOn := some (p, h), flashAt := s.now } }
      match (s.port p).flight? h with
      | some f => s.flashBegins f.cmd
      | none => s

/-- A command takes its place in the flash queue; the ninth completes RESOURCE (assumption log 81, 92; DEDUCED). -/
def State.flashEnter (s : State) (p : CPort) (h : Nat) : State :=
  if 8 ≤ s.ports.flashQ.length then s.complete p h .resource 0x00E5 []
  else
    let x := s.port p
    let s := s.setPort p { x with flights := x.flights.map (fun f => if f.handle = h then { f with flash := true } else f) }
    ({ s with ports := { s.ports with flashQ := s.ports.flashQ ++ [(p, h)] } } : State).flashKick

/-- The head of the flash queue leaves it. -/
def State.flashPop (s : State) (p : CPort) (h : Nat) : State :=
  { s with ports := { s.ports with flashQ := s.ports.flashQ.filter (fun q => !(q.1 == p && q.2 == h)) } }

/-- FLASH_OPERATION_DONE: the operation at the head ends; `ok` false is a third read-back failure, for an image after
`done` complete sectors (assumption log 74; DEDUCED). -/
def State.flashDone (s : State) (ok : Bool) (done_ : Nat) : State :=
  let s := s.flashKick
  match s.ports.flashQ with
  | [] => s
  | (p, h) :: _ =>
    match (s.port p).flight? h with
    | none => (s.flashPop p h).flashKick
    | some f =>
      if !s.pwr.cpRunning then s
      else
        let end_ (r : Done × State) : State := match r.1 with
          | .done st d res => ((r.2.gradeFlash.flashPop p h).complete p h st d res).flashKick
          | _ => r.2
        match f.cmd with
        | .fwActivate .. => s
        | .fwStage _ _ len _ img => end_ (finFwStage len img ok done_ s)
        | .fwRevert _ => if ok then ((s.flashPop p h).reverted p h).flashKick else end_ (.fail .integrity 0x00F8, s.flashFault 1 0)
        | c => if ok then end_ (finCmd c s) else end_ (.fail .integrity 0x00F8, s.flashFault 1 0)

/-! Taking of descriptors (15 R446, R455 to R457, R468, R471, R477). -/

/-- The commands that recovery mode serves (17 R513). -/
def recoveryServes : Instr → Bool
  | .devIdentity _ => true | .fwStatus _ => true | .fwStage .. => true | .fwActivate .. => true
  | _ => false

/-- The envelope checks at acceptance (15 R468, 17 R513): the first that fails (assumption log 92; DEDUCED). -/
def State.envelope (s : State) (c : CmdInfo) (i : Instr) (groups privs : Nat) : Option (Status × Nat) :=
  let e := c.env
  if e.flags.toNat ≥ 32 || (e.flags.getLsbD 1 && (e.ptrAddr % 8 ≠ 0 || !within 1 4096 e.ptrLen)) then some (.rejectedArgs, 0x000B)
  else if e.flags.getLsbD 1 && noBuf e.port then some (.rejectedArgs, 0x00E4)
  else if !bit groups (c.opcode / 256) then some (.denied, 0x00E1)
  else if (match c.priv with | some v => !bit privs v | none => false) then some (.denied, 0x00E2)
  else if s.boot.recovery && !recoveryServes i then some (.rejectedState, 0x00FA)
  else none

/-- Commands that a port can have in flight (15 R445). -/
def flightLimit : CPort → Nat
  | .C => 64 | .D => 4 | _ => 512

/-- The 64 bytes of the next available descriptor where the engine holds them: port C's CMD frame (10 R307) and port D's window
(16 R495); ports A and B have theirs in host memory (15 R451) (assumption log 32; DESIGN CHOICE). -/
def State.nextDesc (s : State) (p : CPort) : Option (List Byte) :=
  match p with
  | .C => s.ports.pc.descs.head?
  | .D => if s.ports.d.avail = 0 then none
          else some ((List.range 64).map (fun k => Sparse.get s.tw.sq (0x100 + 64 * s.ports.d.sqHead + k)))
  | _ => none

/-- The next descriptor has an OPCODE that no command defines (15 R468 check 1) (assumption log 63; DEDUCED). -/
def State.unknownDesc (s : State) (p : CPort) : Bool :=
  match s.nextDesc p with
  | none => false
  | some d => !definedOpcode (leNat (slice d 0 2))

/-- The row at the head of the port is the descriptor that the engine holds: OPCODE, FLAGS and HOST_TAG (15 R451) (assumption
log 32; DESIGN CHOICE). -/
def State.descFits (s : State) (p : CPort) : Bool :=
  match (s.port p).placed.head?.bind cmdInfo, s.nextDesc p with
  | some c, some d =>
    leNat (slice d 0 2) == c.opcode && leNat (slice d 2 2) == c.env.flags.toNat && leNat (slice d 4 4) == c.env.tag.toNat
  | _, _ => true

/-- A descriptor of the port can be taken (15 R446, R455); recovery mode serves ports A and D (17 R513) (assumption log 32;
DESIGN CHOICE). -/
def State.canTake (s : State) (p : CPort) : Bool :=
  let x := s.port p
  let room := match p with
    | .C => true
    | .D => decide (x.inFlight < 4)
    | q => decide (x.inFlight < flightLimit q) && decide (s.ports.a.inFlight + s.ports.b.inFlight < 956)
  s.pwr.service && decide (x.st = .active) && decide (1 ≤ x.avail) &&
  (s.unknownDesc p || (!x.placed.isEmpty && s.descFits p)) && decide (1 ≤ x.cqFree p) &&
  x.waiting.isEmpty && room && !(s.boot.recovery && (p == .B || p == .C))

/-- The next handle of a port: rising modulo 65,536, without 0 and the handles in flight. -/
def PortS.pick (x : PortS) : Nat :=
  ((List.range (x.inFlight + 2)).map (fun i => (x.nextHandle + i) % 65536)).find? (fun h =>
    decide (h ≠ 0) && (x.flight? h).isNone && !x.ended h) |>.getD 1

/-- An ACCEPT entry (15 R459). -/
def acceptEntry (handle : Nat) (tag : BitVec 32) (opcode sqHead : Nat) : Entry where
  kind := 1
  handle := handle
  tag := tag
  opcode := opcode
  status := 0
  detail := 0
  count := 0
  sqHead := sqHead
  data := []
  phase := false
  index := 0

/-- The ACCEPT entry of a command is written. -/
def State.writeAccept (s : State) (p : CPort) (e : Entry) : State :=
  match p with
  | .C => s.holdReply [e]
  | _ => (s.setPort p (((s.port p).writeEntry p e).markFull p s.now)).entryIrq p true false

/-- The entries that answer a repeated descriptor of port C, where one of its tag is recorded (15 R477). -/
def State.repeated (s : State) (tag : BitVec 32) : Option (List Entry) :=
  let x := s.ports.c
  match x.flights.find? (fun f => f.tag == tag) with
  | some f => some [acceptEntry f.handle tag (opcodeOf f.cmd) 0]
  | none => (s.ports.pc.recs.find? (fun r => r.tag == tag)).map (fun r =>
      acceptEntry r.handle tag ((r.entries.head?.map (·.opcode)).getD 0) 0 :: r.entries)

/-- A descriptor is accepted: its flight, its ACCEPT entry, and what the envelope checks refuse (15 R446, R450, R468). `x` is
the port with the descriptor taken off, `key` the key and lane of its CMD frame (assumption log 92; DEDUCED). -/
def State.acceptNew (s : State) (p : CPort) (i : Instr) (c : CmdInfo) (x : PortS) (key : Option (Nat × Nat × Nat)) : State :=
  let km := (key.bind (fun k => lookup? s.ports.pc.keys k.1)).map (fun k => (k.groups, k.privs))
  let (kg, kp) := if p = .C then km.getD (0, 0) else (0xFFFF, 0xFF)
  let h := x.pick
  let full := decide (p = .C) && decide (flightLimit p ≤ x.inFlight)
  let f : Flight := { handle := h, cmd := i, tag := c.env.tag, fence := c.env.flags.getLsbD 0, irqSuppress := c.env.flags.getLsbD 3
                      started := false, flash := false, acceptB := s.per.boundaries, startB := s.per.boundaries, startT := s.now
                      seq := s.ports.taken, groups := x.groups &&& kg, privs := x.privs &&& kp, lane := (key.map (·.2.1)).getD 0 }
  let x := { x with flights := x.flights ++ [f], nextHandle := (h + 1) % 65536, accepted := satAdd 32 x.accepted 1 }
  let s := ({ s with ports := { s.ports with taken := s.ports.taken + 1 } } : State)
  let s := (s.setPort p x).writeAccept p (acceptEntry h c.env.tag c.opcode x.sqHead)
  if full then s.complete p h .resource 0x00E3 []
  else match s.envelope c i f.groups f.privs with
    | some (st, d) => s.complete p h st d []
    | none => s

/-- The entries of a recorded command go out again (15 R477). -/
def State.resend (s : State) (es : List Entry) : State :=
  let s := s.holdReply es
  { s with ports := { s.ports with pc := { s.ports.pc with resent := satAdd 32 s.ports.pc.resent 1 } } }

/-- The submission head after a descriptor is taken; port C has no ring (15 R465). -/
def PortS.nextHead (x : PortS) (p : CPort) : Nat := if p = .C then 0 else (x.sqHead + 1) % x.sqSize p

/-- The descriptor at the head of port C's CMD frames is taken off. -/
def State.dropDesc (s : State) (p : CPort) : State :=
  let c := s.ports.pc
  if p = .C then
    { s with ports := { s.ports with pc := { c with frames := c.frames.drop 1, descs := c.descs.drop 1,
                                                    taking := (c.frames.head?.map (·.2.2)).getD c.taking } } }
  else s

/-- A descriptor with an undefined OPCODE: a repeat on port C is answered from the record; else it is accepted and completes
RESOURCE where port C is full, and REJECTED_ARGS with OPCODE (15 R456, R468, R471, R477) (assumption log 63; DEDUCED). -/
def State.takeUnknown (s : State) (p : CPort) : State :=
  match s.nextDesc p with
  | none => s
  | some d =>
    let op := leNat (slice d 0 2)
    let flags := leNat (slice d 2 2)
    let tag := BitVec.ofNat 32 (leNat (slice d 4 4))
    let y := s.port p
    let x := { y with avail := y.avail - 1, sqHead := y.nextHead p }
    let h := x.pick
    let s := s.dropDesc p
    match (if p = .C && bit flags 4 then s.repeated tag else none) with
    | some es => (s.setPort p x).resend es
    | none =>
      let f : Flight := { handle := h, cmd := .sampleBoundary, tag := tag, fence := false, irqSuppress := bit flags 3
                          started := false, flash := false, acceptB := s.per.boundaries, startB := s.per.boundaries, startT := s.now
                          seq := s.ports.taken, groups := 0, privs := 0, lane := 0 }
      let r : Status × Nat := if p = .C && flightLimit p ≤ x.inFlight then (.resource, 0x00E3) else (.rejectedArgs, 0x00E0)
      let x := { x with nextHandle := (h + 1) % 65536, accepted := satAdd 32 x.accepted 1 }
      let s := ({ s with ports := { s.ports with taken := s.ports.taken + 1 } } : State)
      let s := (s.setPort p x).writeAccept p (acceptEntry h f.tag op x.sqHead)
      s.putGroup p (s.port p) f r.1 (completeEntries f op r.1 r.2 [])

/-- The descriptor at the head of a port's submission queue is taken and accepted (assumption log 32; DESIGN CHOICE). -/
def State.take (s : State) (p : CPort) : State :=
  if s.unknownDesc p then s.takeUnknown p
  else
  let x := s.port p
  match x.placed with
  | [] => s
  | i :: rest =>
    let key := s.ports.pc.frames.head?
    let s := s.dropDesc p
    let x := { x with placed := rest, avail := x.avail - 1, sqHead := x.nextHead p }
    match cmdInfo i with
    | none => s.setPort p x
    | some c =>
      match (if p = .C && c.env.flags.getLsbD 4 then s.repeated c.env.tag else none) with
      | some es => (s.setPort p x).resend es
      | none => s.acceptNew p i c x key

/-! Start of commands (15 R468, R469). -/

/-- The commands of a port that can start: no fenced command was accepted before one, and with FENCE no other (assumption log
15; DEDUCED). -/
def startable : Nat → Bool → List Flight → List Flight
  | _, _, [] => []
  | n, fenced, f :: r =>
    if !f.started && !fenced && !(f.fence && n ≠ 0) then f :: startable (n + 1) (fenced || f.fence) r
    else startable (n + 1) (fenced || f.fence) r

/-- What the run of a command answered is carried out. -/
def State.runEnds (p : CPort) (h : Nat) (r : Done × State) : State :=
  match r with
  | (.done st d res, s) => s.complete p h st d res
  | (.later, s) => s
  | (.flash, s) => s.flashEnter p h

/-- The context of a started command. -/
def Flight.ctx (f : Flight) (p : CPort) : Ctx :=
  ⟨p, f.handle, ((cmdInfo f.cmd).map (·.env.flags)).getD 0, f.acceptB, f.startB, f.seq, f.groups, f.privs, f.lane⟩

/-- A STRUCT_BOOT_WRITE that is not in the flash queue: once started, its load checks are held while the memory trains (08 R236). -/
def Flight.waits (f : Flight) : Bool :=
  !f.flash && (match f.cmd with
    | .structBootWrite .. => true
    | _ => false)

/-- The command of a port whose DELAY_FIT check was held while the memory trained and can be made now: a STRUCT_BOOT_WRITE
that has started and is not in the flash queue (08 R236). -/
def State.heldCheck (s : State) (p : CPort) : Option Flight :=
  if s.dm.st = .training then none
  else (s.port p).flights.find? (fun f => f.started && f.waits)

/-- A held check is made: the command runs as at its start. -/
def State.endHold (s : State) (p : CPort) (f : Flight) : State :=
  State.runEnds p f.handle (runCmd (f.ctx p) f.cmd s)

/-- A command starts: check 6 of the envelope, then its run (assumption log 92; DEDUCED). -/
def State.start (s : State) (p : CPort) (f : Flight) : State :=
  let x := s.port p
  let s := s.setPort p { x with flights := x.flights.map (fun g =>
    if g.handle = f.handle then { g with started := true, startB := s.per.boundaries, startT := s.now } else g) }
  match cmdInfo f.cmd with
  | none => s.complete p f.handle .rejectedArgs 0x00E0 []
  | some c =>
    if c.env.readErr then
      if noBuf p then s.complete p f.handle .integrity 0x00E8 [] else s.dmaError p 2 x.sqHead (some f.handle)
    else
      State.runEnds p f.handle (runCmd ⟨p, f.handle, c.env.flags, f.acceptB, s.per.boundaries, f.seq, f.groups, f.privs, f.lane⟩ f.cmd s)

/-- An action for one port: a start before a held check, that before a taking (assumption log 15; DEDUCED). -/
def State.actOf (s : State) (p : CPort) : Option State :=
  match startable 0 false (s.port p).flights with
  | f :: _ => some (s.start p f)
  | [] => match s.heldCheck p with
    | some f => some (s.endHold p f)
    | none => if s.canTake p then some (s.take p) else none

/-- The start of a command of a port that is not of class BULK or FLASH (15 R481) (assumption log 15; DEDUCED). -/
def State.quickOf (s : State) (p : CPort) : Option State :=
  ((startable 0 false (s.port p).flights).find? (fun f => timeClass f.cmd = .quick || timeClass f.cmd = .boundary)).map (s.start p)

/-- Ports A, B and C round-robin: each descriptor taken moves the first place on (15 R481) (assumption log 15; DEDUCED). -/
def Ports.turns (p : Ports) : List CPort :=
  match p.taken % 3 with
  | 0 => [.A, .B, .C]
  | 1 => [.B, .C, .A]
  | _ => [.C, .A, .B]

/-- One action of command service (15 R481): port D in tier 1; in tier 2 the QUICK starts of ports A, B and C ahead of their
takings and their BULK and FLASH work, each round-robin (assumption log 15; DEDUCED). -/
def State.serveOne (s : State) : Option State :=
  if !s.pwr.service then none
  else match s.actOf .D with
    | some t => some t
    | none => match s.ports.turns.findSome? s.quickOf with
      | some t => some t
      | none => s.ports.turns.findSome? s.actOf

/-- Command service acts until nothing is left to do (assumption log 15; DEDUCED). -/
def State.serveN : Nat → State → State
  | 0, s => s
  | n + 1, s => match s.serveOne with
    | none => s
    | some s => State.serveN n s

/-- Actions that command service can still take (assumption log 15; DEDUCED). -/
def Ports.work (p : Ports) : Nat :=
  ([CPort.A, .B, .C, .D].map (fun q => 3 * (p.get q).placed.length + 2 * (p.get q).flights.length)).sum + p.pc.descs.length + p.d.avail + 1

/-- Command service serves what waits (assumption log 9, 15; DESIGN CHOICE, DEDUCED). -/
def State.serve (s : State) : State := State.serveN s.ports.work s

/-- A host command: its descriptor stands in the submission queue of its port, and command service acts (assumption log 9,
10, 32; DESIGN CHOICE, DEDUCED). -/
def State.hostCmd (s : State) (i : Instr) : State :=
  match cmdInfo i with
  | none => s
  | some c =>
    let x := s.port c.env.port
    (s.setPort c.env.port { x with placed := x.placed ++ [i] }).serve

/-! Time limits (15 R470). -/

/-- The boundary of a command of class BOUNDARY: that of its commit or of its safe-load group (15 R470). -/
def State.endBoundary (s : State) (p : CPort) (f : Flight) : Option Nat :=
  match f.cmd with
  | .structCommit .. => s.pl.commit.bind (fun k => if k.port = p && k.handle = f.handle then k.boundary else none)
  | .safeApply _ g _ =>
    let x := rd s.mtx.groups g
    if x.owner = p && x.handle = f.handle then some x.boundary else none
  | _ => none

/-- When the limit of a command's class is reached (15 R470): for class BOUNDARY after its boundary, for class FLASH after the
begin of its flash operation (assumption log 81; DEDUCED). -/
def State.limitAt (s : State) (p : CPort) (f : Flight) : Nat :=
  match s.endBoundary p f with
  | some b => s.per.openedAt + b * 1000000000 / rateHz s.per.baseRate - s.per.boundaries * 1000000000 / rateHz s.per.baseRate +
      (timeClass f.cmd).limit
  | none => (if timeClass f.cmd = .flash then s.ports.flashAt else f.startT) + (timeClass f.cmd).limit

/-- COMMAND_TIMEOUT: a started command that has not passed a point of no return completes TIMEOUT at the limit of its class; the
timer of a command of class FLASH starts with its flash operation (assumption log 81; DEDUCED). -/
def State.cmdTimeout (s : State) (p : CPort) (h : Nat) : State :=
  match (s.port p).flight? h with
  | none => s
  | some f =>
    if !s.pwr.service || !f.started || (timeClass f.cmd = .flash && !s.flashHead p h) then s
    else match (s.at_ (s.limitAt p f)).dropWork p f with
      | none => s
      | some s => ((s.complete p h .timeout 0 []).flashKick).serve

end Sys2Proof.Machine
end

