-- ==== Sys2Proof/Machine/Registers.lean ====
section
/-!
DEFINITION. The register space (21 R607 to R615): which register stands at an offset, its value, what reading clears and
what writing changes.
-/
namespace Sys2Proof.Machine

/-- The registers of BAR0, with the index of their lane, channel, slot, tile, port or block. -/
inductive Reg where
  | msixTable (w : Nat) | msixPend (w : Nat)
  | netStatus (p : Nat) | netPeer (p : Nat) | netHb (p : Nat)
  | tsCtrl | tsSnap (i : Nat) | tsOvf
  | tsPortCtrl (p : Nat) | tsCalRx (p : Nat) | tsCalTx (p : Nat) | tsLink (p : Nat) | tsFifo (p : Nat)
  | refStatus | refFreq | refBase | refOffset | refRate | refTrim
  | candStatus (i : Nat) | candDrift10 (i : Nat) | candDrift100 (i : Nat)
  | pstSwitching | pstLatched | pstGlobal | pstRail (r : Nat)
  | chStatus (k : Nat) | chTrip (k : Nat) | chTripMt (k : Nat) | chCount (k : Nat)
  | fltStatus | fltPin | fltLog | fltSettle
  | epState (e : Nat) | epDet (e : Nat) | epCount (e : Nat) | epMt (e : Nat)
  /-- Register `o` (offset divided by 4) of a port's group. -/
  | cmd (p : CPort) (o : Nat)
  | evEn (f : Nat) | evPend (f : Nat)
  | bootStatus | bootTrial | bootOtp | resetCause | bootDomain | bootClock
  | hltPeriod | hltPark | hltWindow
  /-- Register `o` (offset divided by 4) of a tile's group. -/
  | tslk (k o : Nat)
  | avsCtrl | avsStatus | avsFlags | hltHealth | hltQuad (q : Nat)
  | access (b : Block)
  deriving DecidableEq, Repr

/-- The register of group `g` at word `o` of a port, where the group holds it (15 R462). -/
def cmdReg (p : CPort) (o : Nat) : Option Reg := if o < 10 && (!noBuf p || 8 ≤ o) then some (.cmd p o) else none

/-- The register at a byte offset of BAR0; none for a reserved offset (21 R607) (assumption log 53; PRESUMED). -/
def regOf (off : Nat) : Option Reg :=
  if off % 4 ≠ 0 then none
  else
    let o := off % 0x10000
    match off / 0x10000 with
    | 0x00 => if o < 0x400 then some (.msixTable (o / 4)) else if o = 0x1000 || o = 0x1004 then some (.msixPend ((o - 0x1000) / 4)) else none
    | 0x10 =>
      if o = 0xFF00 then some (.access .net)
      else if within 0x1000 0x11FF o then
        (match o % 0x40 with
        | 0 => some (.netStatus (o % 0x1000 / 0x40)) | 4 => some (.netPeer (o % 0x1000 / 0x40))
        | 8 => some (.netHb (o % 0x1000 / 0x40)) | _ => none)
      else none
    | 0x12 =>
      if o = 0xFF00 then some (.access .ts)
      else if within 0x1000 0x11FF o then
        let p := o % 0x1000 / 0x40
        (match o % 0x40 with
        | 0 => some (.tsPortCtrl p) | 4 => some (.tsCalRx p) | 8 => some (.tsCalTx p) | 12 => some (.tsLink p)
        | 16 => some (.tsFifo p) | _ => none)
      else (match o with
        | 0 => some .tsCtrl | 4 => some (.tsSnap 0) | 8 => some (.tsSnap 1) | 12 => some (.tsSnap 2) | 16 => some (.tsSnap 3)
        | 20 => some .tsOvf | _ => none)
    | 0x13 =>
      if o = 0xFF00 then some (.access .ref)
      else if within 0x100 0x1FF o then
        (match o % 0x10 with
        | 0 => some (.candStatus (o % 0x100 / 0x10)) | 4 => some (.candDrift10 (o % 0x100 / 0x10))
        | 8 => some (.candDrift100 (o % 0x100 / 0x10)) | _ => none)
      else (match o with
        | 0 => some .refStatus | 4 => some .refFreq | 8 => some .refBase | 12 => some .refOffset | 16 => some .refRate
        | 20 => some .refTrim | _ => none)
    | 0x14 =>
      if o = 0xFF00 then some (.access .pst)
      else if within 0x1000 0x17FF o then
        let k := o % 0x1000 / 0x40
        (match o % 0x40 with
        | 0 => some (.chStatus k) | 4 => some (.chTrip k) | 8 => some (.chTripMt k) | 12 => some (.chCount k) | _ => none)
      else (match o with
        | 0 => some .pstSwitching | 4 => some .pstLatched | 8 => some .pstGlobal | 0x10 => some (.pstRail 0)
        | 0x14 => some (.pstRail 1) | 0x18 => some (.pstRail 2) | 0x1C => some (.pstRail 3) | _ => none)
    | 0x15 =>
      if o = 0xFF00 then some (.access .flt)
      else if within 0x100 0x2FF o then
        let e := (o - 0x100) / 0x20
        (match o % 0x20 with
        | 0 => some (.epState e) | 4 => some (.epDet e) | 8 => some (.epCount e) | 12 => some (.epMt e) | _ => none)
      else (match o with
        | 0 => some .fltStatus | 4 => some .fltPin | 8 => some .fltLog | 12 => some .fltSettle | _ => none)
    | 0x16 =>
      if o = 0xFF00 then some (.access .cmd)
      else (match o / 0x100 with
        | 0 => cmdReg .A (o % 0x100 / 4) | 1 => cmdReg .B (o % 0x100 / 4) | 2 => cmdReg .C (o % 0x100 / 4)
        | 3 => cmdReg .D (o % 0x100 / 4)
        | 4 => if o = 0x400 then some (.evEn 0) else if o = 0x404 then some (.evPend 0) else none
        | 5 => if o = 0x500 then some (.evEn 1) else if o = 0x504 then some (.evPend 1) else none
        | _ => none)
    | 0x17 =>
      (match o with
      | 0xFF00 => some (.access .boot) | 0 => some .bootStatus | 4 => some .bootTrial | 8 => some .bootOtp
      | 0x100 => some .resetCause | 0x104 => some .bootDomain | 0x108 => some .bootClock | _ => none)
    | 0x30 =>
      (match o with
      | 0xFF00 => some (.access .hlt) | 0x100 => some .hltPeriod | 0x104 => some .hltPark | 0x108 => some .hltWindow
      | 0x200 => some .avsCtrl | 0x204 => some .avsStatus | 0x208 => some .avsFlags | 0x300 => some .hltHealth
      | 0x310 => some (.hltQuad 0) | 0x314 => some (.hltQuad 1) | 0x318 => some (.hltQuad 2) | 0x31C => some (.hltQuad 3)
      | _ => none)
    | 0x31 => if o / 0x40 < 68 && o % 0x40 < 0x18 then some (.tslk (o / 0x40) (o % 0x40 / 4)) else none
    | _ => none

/-- The domain that holds a register (21 R612). -/
def Reg.domain : Reg → Nat
  | .msixTable _ => 13 | .msixPend _ => 13
  | .netStatus p => laneDomain p | .netPeer p => laneDomain p | .netHb p => laneDomain p
  | .pstRail _ => 12 | .chStatus _ => 12 | .chTrip _ => 12 | .chTripMt _ => 12 | .chCount _ => 12
  | .tsCtrl => 2 | .tsSnap _ => 2 | .tsOvf => 2 | .tsPortCtrl _ => 2 | .tsCalRx _ => 2 | .tsCalTx _ => 2 | .tsLink _ => 2
  | .tsFifo _ => 2
  | .refStatus => 2 | .refFreq => 2 | .refBase => 2 | .refOffset => 2 | .refRate => 2 | .refTrim => 2 | .candStatus _ => 2
  | .candDrift10 _ => 2 | .candDrift100 _ => 2
  | .cmd p _ => if noBuf p then 1 else 13
  | .evEn _ => 13 | .evPend _ => 13
  | .hltHealth => 1 | .hltQuad _ => 1
  | .hltPeriod => 10 | .hltPark => 10 | .hltWindow => 10
  | .tslk k _ => 6 + quadOf k
  | .access .ts => 2 | .access .ref => 2 | .access .pst => 12 | .access .cmd => 13
  | _ => 0

/-- The block whose access register serves a register (21 R609). -/
def Reg.block : Reg → Option Block
  | .msixTable _ => none | .msixPend _ => none
  | .netStatus _ => some .net | .netPeer _ => some .net | .netHb _ => some .net
  | .tsCtrl => some .ts | .tsSnap _ => some .ts | .tsOvf => some .ts | .tsPortCtrl _ => some .ts | .tsCalRx _ => some .ts
  | .tsCalTx _ => some .ts | .tsLink _ => some .ts | .tsFifo _ => some .ts
  | .refStatus => some .ref | .refFreq => some .ref | .refBase => some .ref | .refOffset => some .ref | .refRate => some .ref
  | .refTrim => some .ref | .candStatus _ => some .ref | .candDrift10 _ => some .ref | .candDrift100 _ => some .ref
  | .pstSwitching => some .pst | .pstLatched => some .pst | .pstGlobal => some .pst | .pstRail _ => some .pst
  | .chStatus _ => some .pst | .chTrip _ => some .pst | .chTripMt _ => some .pst | .chCount _ => some .pst
  | .fltStatus => some .flt | .fltPin => some .flt | .fltLog => some .flt | .fltSettle => some .flt
  | .epState _ => some .flt | .epDet _ => some .flt | .epCount _ => some .flt | .epMt _ => some .flt
  | .cmd _ _ => some .cmd | .evEn _ => some .cmd | .evPend _ => some .cmd
  | .bootStatus => some .boot | .bootTrial => some .boot | .bootOtp => some .boot | .resetCause => some .boot
  | .bootDomain => some .boot | .bootClock => some .boot
  | .hltPeriod => some .hlt | .hltPark => some .hlt | .hltWindow => some .hlt | .tslk _ _ => some .hlt
  | .avsCtrl => some .hlt | .avsStatus => some .hlt | .avsFlags => some .hlt | .hltHealth => some .hlt | .hltQuad _ => some .hlt
  | .access b => some b

/-! Values (02 R39 to R48, R60 to R62; 09 R278 to R280; 11 R323 to R338; 12 R370 to R373; 13 R401 to R404; 14 R438 to R441;
15 R463 to R465; 17 R529; 18 R548; 19 R571, R572; 21 R609, R615). -/

/-- A signed value as a register word. -/
def sword (v : Int) : Nat := (v % (2 ^ 32 : Int)).toNat

/-- The code of a lane's link state. -/
def LinkSt.code : LinkSt → Nat
  | .disabled => 0 | .down => 1 | .probing => 2 | .up => 3

/-- NET_PORT_STATUS. -/
def Lane.statusReg (l : Lane) : Nat :=
  packBits [(16, l.exits), (1, b2n l.revert.isSome), (1, b2n l.pcsLock), (1, b2n l.damped), (1, b2n l.rerouted), (1, b2n l.cfg.hbEn)
           , (1, b2n l.search), (2, l.fec), (2, l.mode), (2, l.st.code)]
/-- NET_PORT_PEER. -/
def Lane.peerReg (l : Lane) : Nat :=
  packBits [(12, l.peerNode), (4, 0), (3, l.peerPort), (12, 0), (1, b2n (decide (l.st = .up) && l.cfg.hbEn && l.peerSeen))]
/-- NET_HB_STATUS. -/
def Lane.hbReg (l : Lane) : Nat := packBits [(2, l.missRun), (14, 0), (16, l.misses)]

/-- A snapshot register. -/
def Ts.snapReg (t : Ts) (i : Nat) : Nat :=
  match i with
  | 0 => t.snap.sec % 2 ^ 32
  | 1 => t.snap.sec / 2 ^ 32 % 2 ^ 32
  | 2 => t.snap.ns % 2 ^ 30
  | _ => packBits [(16, t.snap.frac), (8, t.snap.step), (8, t.snapSeq)]

/-- TS_PORT_CTRL. -/
def PtpPortCfg.reg (c : PtpPortCfg) : Nat :=
  packBits [(1, b2n c.ptpEn), (3, 0), (1, b2n c.p2p), (1, b2n c.mapIpv6), (1, b2n c.mapIpv4), (1, b2n c.mapEth)]

/-- REF_STATUS. -/
def Ref.statusReg (r : Ref) : Nat :=
  packBits [(3, r.st.code), (1, 0), (4, r.sel), (3, r.effSel), (1, b2n r.acquiring), (1, b2n r.aligned), (1, b2n r.timeValid)
           , (1, b2n r.cpHold), (1, b2n r.baseValid), (16, r.switches)]
/-- REF_CAND_STATUS. -/
def Ref.candReg (r : Ref) (now i : Nat) : Nat :=
  let c := r.c i
  packBits [(3, c.st.code), (5, 0), (1, b2n c.lockout), (1, b2n (r.sel == i && i != 15)), (1, b2n c.qualified), (1, b2n c.soft)
           , (4, c.eff), (4, c.rxQl), (12, r.wtrLeft now i)]

/-- A register of a port's group; the doorbells read 0. -/
def State.cmdValue (s : State) (p : CPort) (o : Nat) : Nat :=
  let x := s.port p
  match o with
  | 0 => x.sqBase.toNat % 2 ^ 32
  | 1 => x.sqBase.toNat / 2 ^ 32
  | 2 => x.cqBase.toNat % 2 ^ 32
  | 3 => x.cqBase.toNat / 2 ^ 32
  | 4 => packBits [(4, x.sqLog2), (4, 0), (4, x.cqLog2)]
  | 7 => packBits [(1, b2n x.enable), (1, b2n x.acceptIrq), (1, b2n x.completeIrq), (5, 0), (6, x.acceptVec), (2, 0), (6, x.completeVec)]
  | 8 => packBits [(9, if noBuf p then 0 else x.sqHead), (7, 0), (10, x.inFlight), (4, 0), (2, s.portState p)]
  | 9 => packBits [(1, b2n x.setupErr), (1, b2n x.doorbellErr), (1, b2n x.dmaErr), (1, b2n x.cqFullSeen)]
  | _ => 0

/-- The code of a miss state (02 R48). -/
def Miss.code : Miss → Nat
  | .onTime => 0 | .one => 1 | .zone => 2
/-- A register of a tile's group. -/
def Tile.slkReg (t : Tile) (o : Nat) : Nat :=
  let k := t.slk
  match o with
  | 0 => packBits [(16, k.start), (16, k.finish)]
  | 1 => packBits [(16, k.fgCount), (14, 0), (1, b2n k.overrun), (1, b2n k.valid)]
  | 2 => k.itimePs % 65536
  | 3 => packBits [(16, k.fracLast), (16, k.fracWmax)]
  | 4 => k.minSlack % 65536
  | 5 => packBits [(2, k.missReg.code), (14, 0), (16, k.lateCount)]
  | _ => 0

/-- The code of the AVS state. -/
def AvsSt.code : AvsSt → Nat
  | .off => 0 | .hold => 1 | .track => 2 | .failed => 3
/-- HLT_AVS_CTRL. -/
def Avs.ctrlReg (a : Avs) : Nat := packBits [(1, b2n a.en), (1, b2n a.hold), (2, 0), (6, a.vmax), (6, a.vmin), (8, a.target)]
/-- HLT_AVS_STATUS. -/
def Avs.statusReg (a : Avs) : Nat := packBits [(2, a.attempts), (6, 0), (3, a.lowRun), (3, a.st.code), (6, a.ack), (6, a.req)]
/-- HLT_AVS_FLAGS. -/
def Avs.flagsReg (a : Avs) : Nat :=
  packBits [(1, b2n a.atVmax), (1, b2n a.atVmin), (1, b2n a.emergSeen), (1, b2n a.failedSeen), (1, b2n a.cfgErr)]

/-- An access register as its reader sees it (21 R609). -/
def Access.reg (a : Access) (f : Requester) (now : Nat) : Nat :=
  packBits [(1, b2n ((a.lock f).open_ now)), (1, b2n a.lockViol), (2, 0), (1, b2n a.violA), (1, b2n a.violB), (1, b2n a.violD)
           , (1, b2n a.widthErr)]

/-- The function of a requester: 0 A, 1 B; port D has none. -/
def Requester.fn : Requester → Option Nat
  | .A => some 0 | .B => some 1 | .D => none

/-- The value of a register to a requester. -/
def State.regValue (s : State) (f : Requester) (r : Reg) : Nat :=
  match r with
  | .msixTable w => match (Requester.fn f) with
    | some i => ((lookup? (rd s.ports.msixTable i) w).getD (if w % 4 = 3 then 1 else 0)).toNat
    | none => 0
  | .msixPend w => match (Requester.fn f) with | some i => bits (rd s.ports.msixPend i).toNat (32 * w) 32 | none => 0
  | .netStatus p => (s.lane p).statusReg
  | .netPeer p => (s.lane p).peerReg
  | .netHb p => (s.lane p).hbReg
  | .tsCtrl => packBits [(1, 0), (1, b2n s.ts.ppsEn), (14, 0), (16, s.ts.ppsWidth)]
  | .tsSnap i => s.ts.snapReg i
  | .tsOvf => s.ts.ovf.toNat
  | .tsPortCtrl p => PtpPortCfg.reg (s.tsLane p).cfg
  | .tsCalRx p => if (s.lane p).mode < 3 then sword (rd (s.tsLane p).calRx (s.lane p).mode) else 0
  | .tsCalTx p => if (s.lane p).mode < 3 then sword (rd (s.tsLane p).calTx (s.lane p).mode) else 0
  | .tsLink p => (s.tsLane p).linkDelay % 2 ^ 32
  | .tsFifo p => packBits [(7, (s.tsLane p).fifo.length), (9, 0), (16, (s.tsLane p).lost)]
  | .refStatus => s.ref.statusReg
  | .refFreq => sword s.ref.freqPpt
  | .refBase => sword s.ref.base
  | .refOffset => sword (max (-2147483647) (min 2147483647 s.ref.offsetNs))
  | .refRate => sword s.ref.ratePpt
  | .refTrim => sword s.ref.trim
  | .candStatus i => s.ref.candReg s.now i
  | .candDrift10 i => (s.ref.c i).drift10 % 2 ^ 32
  | .candDrift100 i => (s.ref.c i).drift100 % 2 ^ 32
  | .pstSwitching => s.pstMask (fun c => c.switching)
  | .pstLatched => s.pstMask (fun c => decide (c.st = .latched))
  | .pstGlobal => s.pstGlobal
  | .pstRail r => s.pstRail r
  | .chStatus k => s.pstStatus k
  | .chTrip k => s.pstTrip k
  | .chTripMt k => (s.chan k).tripMt % 2 ^ 32
  | .chCount k => s.pstCount k
  | .fltStatus => s.fltStatus
  | .fltPin => s.flt.pinCtrl
  | .fltLog => s.flt.logStatus
  | .fltSettle => s.flt.settleMs
  | .epState e => (s.ep e).regs.1
  | .epDet e => (s.ep e).regs.2.1
  | .epCount e => (s.ep e).regs.2.2.1
  | .epMt e => (s.ep e).regs.2.2.2
  | .cmd p o => s.cmdValue p o
  | .evEn i => (rd s.ports.evEn i).toNat
  | .evPend i => (rd s.ports.evPend i).toNat
  | .bootStatus => s.boot.status
  | .bootTrial => s.bootTrial
  | .bootOtp => s.boot.otpReg
  | .resetCause => s.pwr.resetCause
  | .bootDomain => s.pwr.domainReg
  | .bootClock => s.pwr.clockReg
  | .hltPeriod => if s.pl.live.isSome then packBits [(16, periodTicks s.per.baseRate), (16, deadlineTicks s.per.baseRate)] else 0
  | .hltPark => if s.pl.live.isSome then parkTicks s.per.baseRate % 65536 else 0
  | .hltWindow => packBits [(7, s.per.slowest), (9, 0), (16, s.per.fmax)]
  | .tslk k o => (s.tile k).slkReg o
  | .avsCtrl => s.avs.ctrlReg
  | .avsStatus => s.avs.statusReg
  | .avsFlags => s.avs.flagsReg
  | .hltHealth => s.hltHealth
  | .hltQuad q => s.hltQuad q
  | .access b => (s.access b).reg f s.now

/-- What a read of the word clears: its RC fields (00 R7, 21 R611). -/
def State.regCleared (s : State) (r : Reg) : State :=
  match r with
  | .netStatus p => s.setLane p { (s.lane p) with exits := 0 }
  | .netHb p => s.setLane p { (s.lane p) with misses := 0 }
  | .refStatus => { s with ref := { s.ref with switches := 0 } }
  | .chCount k => s.pstCountClear k
  | .fltLog => s.setFlt { s.flt with missed := 0 }
  | .resetCause => { s with pwr := { s.pwr with restarts := 0 } }
  | .tslk k 4 => s.setTile k { (s.tile k) with slk := { (s.tile k).slk with minSlack := 0xFFFF } }
  | .tslk k 5 => s.setTile k { (s.tile k) with slk := { (s.tile k).slk with lateCount := 0 } }
  | _ => s

/-- A read of the word at an offset: its value, and the state after it. -/
def State.readWord (s : State) (f : Requester) (off : Nat) : Nat × State :=
  match regOf off with
  | none => (0, s)
  | some r => if s.domOn r.domain then (s.regValue f r, s.regCleared r) else (0, s)

/-! Writes. -/

/-- A write to a word of an MSI-X table; a message that becomes unmasked while pending is sent (21 R607, PCI Express Base
Specification) (assumption log 53; PRESUMED). -/
def State.writeMsix (s : State) (i w v : Nat) : State :=
  let v := BitVec.ofNat 32 (match w % 4 with | 0 => v / 4 * 4 | 3 => v % 2 | _ => v)
  let t := rd s.ports.msixTable i
  let t := if v = (if w % 4 = 3 then 1#32 else 0#32) then eraseKey t w else insertKey t w v
  let s := { s with ports := { s.ports with msixTable := wr s.ports.msixTable i t } }
  if w % 4 = 3 && v = 0 && (rd s.ports.msixPend i).getLsbD (w / 4) then
    { s with ports := { s.ports with msixPend := upd s.ports.msixPend i (fun p => p &&& ~~~(1#64 <<< (w / 4))), msix := (i, w / 4) :: s.ports.msix } }
  else s

/-- A write to a register of port A's or B's own group (15 R455 to R465) (assumption log 56; DEDUCED). -/
def State.writeCmd (s : State) (p : CPort) (o v : Nat) : State :=
  let x := s.port p
  let setup (y : PortS) : State := if x.st = .disabled then s.setPort p y else s.setPort p { x with setupErr := true }
  let lo (b : BitVec 64) : BitVec 64 := BitVec.ofNat 64 (b.toNat / 2 ^ 32 * 2 ^ 32 + v / 4096 * 4096)
  let hi (b : BitVec 64) : BitVec 64 := BitVec.ofNat 64 (v * 2 ^ 32 + b.toNat % 2 ^ 32)
  match o with
  | 0 => setup { x with sqBase := lo x.sqBase }
  | 1 => setup { x with sqBase := hi x.sqBase }
  | 2 => setup { x with cqBase := lo x.cqBase }
  | 3 => setup { x with cqBase := hi x.cqBase }
  | 4 => setup { x with sqLog2 := bits v 0 4, cqLog2 := bits v 8 4 }
  | 5 => (s.sqTail p (v % 512)).serve
  | 6 => (s.cqHead p (v % 4096)).serve
  | 7 =>
    let s := s.setPort p { x with completeVec := bits v 16 6, acceptVec := bits v 8 6, completeIrq := bit v 2, acceptIrq := bit v 1 }
    if bit v 0 then (s.portEnable p).serve else if x.enable then s.drain p else s
  | 9 => s.setPort p { x with setupErr := x.setupErr && !bit v 0, doorbellErr := x.doorbellErr && !bit v 1
                              dmaErr := x.dmaErr && !bit v 2, cqFullSeen := x.cqFullSeen && !bit v 3 }
  | _ => s

/-- HLT_AVS_CTRL written: a value out of range has no effect and sets CFG_ERR (02 R60). -/
def State.writeAvsCtrl (s : State) (v : Nat) : State :=
  let target := bits v 16 8
  let vmin := bits v 10 6
  let vmax := bits v 4 6
  if target < 50 || 85 < target || vmax < vmin || 60 < vmax then { s with avs := { s.avs with cfgErr := true } }
  else
    let s := s.avsCtrl target vmin vmax
    let s := if bit v 1 = s.avs.hold then s else if bit v 1 then s.avsHold else s.avsUnhold
    if bit v 0 = s.avs.en then s else if bit v 0 then s.avsEnable else s.avsDisable

/-- An access register written: KEY, and its W1C flags (21 R609, R610) (assumption log 52; DEDUCED). -/
def State.writeAccess (s : State) (f : Requester) (b : Block) (v : Nat) : State :=
  let a := s.access b
  (s.setAccess b { a with widthErr := a.widthErr && !bit v 7, violD := a.violD && !bit v 6, violB := a.violB && !bit v 5
                          violA := a.violA && !bit v 4, lockViol := a.lockViol && !bit v 1 }).keyWrite f b (v / 65536)

/-- A write whose range fails leaves the register and sets LOCK_VIOL. -/
def State.orViol (s : State) (b : Block) (x : Option State) : State := x.getD (s.rangeViol b)

/-- FLT_PIN_CTRL written by a requester (14 R439). -/
def State.writeFltPin (s : State) (f : Requester) (v : Nat) : State :=
  s.rwl (some f) .flt (fun s => s.orViol .flt (s.writePinCtrl v))

/-- A write of a whole word by a requester, under the access codes of its fields (00 R7). Read-only registers keep. -/
def State.regWrite (s : State) (f : Requester) (r : Reg) (v : Nat) : State :=
  match r with
  | .msixTable w => match (Requester.fn f) with | some i => s.writeMsix i w v | none => s
  | .tsCtrl =>
    let s := if bit v 0 then s.snap else s
    s.rwl (some f) .ts (fun s => s.setPps (bit v 1) (if within 1 50000 (bits v 16 16) then bits v 16 16 else s.ts.ppsWidth))
  | .tsOvf => { s with ts := { s.ts with ovf := s.ts.ovf &&& ~~~(BitVec.ofNat 8 v) } }
  | .tsPortCtrl p => s.rwl (some f) .ts (fun s =>
      let c := { (s.tsLane p).cfg with mapEth := bit v 7, mapIpv4 := bit v 6, mapIpv6 := bit v 5, p2p := bit v 4, ptpEn := bit v 0 }
      (finPtpPortConfig p c false s).2)
  | .tsLink p => s.rwl (some f) .ts (fun s => s.setTsLane p { (s.tsLane p) with linkDelay := v })
  | .refTrim =>
    let t := (BitVec.ofNat 32 v).toInt
    s.rwl (some f) .ref (fun s => if 200000000 < t.natAbs then s.rangeViol .ref else { s with ref := { s.ref with trim := t } })
  | .fltPin => s.writeFltPin f v
  | .fltSettle => s.rwl (some f) .flt (fun s => s.orViol .flt (s.writeSettle v))
  | .cmd p o => if (Requester.port f) = some p then s.writeCmd p o v else s
  | .evEn i => if (Requester.fn f) = some i then { s with ports := { s.ports with evEn := wr s.ports.evEn i (BitVec.ofNat 12 (v / 4 * 4)) } } else s
  | .evPend i =>
    if (Requester.fn f) = some i then { s with ports := { s.ports with evPend := upd s.ports.evPend i (fun p => p &&& ~~~(BitVec.ofNat 12 v)) } } else s
  | .resetCause => { s with pwr := { s.pwr with causes := s.pwr.causes.clear v } }
  | .bootDomain => { s with pwr := { s.pwr with domFail := s.pwr.domFail && !bit v 30 } }
  | .avsCtrl => s.rwl (some f) .hlt (fun s => s.writeAvsCtrl v)
  | .avsFlags =>
    let a := s.avs
    { s with avs := { a with atVmax := a.atVmax && !bit v 0, atVmin := a.atVmin && !bit v 1, emergSeen := a.emergSeen && !bit v 2
                             failedSeen := a.failedSeen && !bit v 3, cfgErr := a.cfgErr && !bit v 4 } }
  | .access b => s.writeAccess f b v
  | _ => s

/-- A write of a word at an offset. -/
def State.writeWord (s : State) (f : Requester) (off v : Nat) : State :=
  match regOf off with
  | none => s
  | some r => if s.domOn r.domain then s.regWrite f r (v % 2 ^ 32) else s

/-- A PCIe function reaches BAR0 while PD13 is on and its link is up; port D always reaches the window's pages (assumption
log 52; DEDUCED). -/
def State.reaches (s : State) (f : Requester) : Bool :=
  match (Requester.port f) with
  | some p => s.domOn 13 && (s.port p).linkUp
  | none => true

/-- What a requester does through BAR0 has an effect while it reaches the registers; the firmware always does. -/
def State.byReq (s : State) (f : Option Requester) (g : State → State) : State :=
  match f with
  | none => g s
  | some r => if s.reaches r then g s else s

/-- REGISTER_WRITE of `width` bytes at a byte offset (21 R608): 8 bytes are two words, fewer than 4 have no effect and set
WIDTH_ERR. -/
def State.writeReg (s : State) (f : Requester) (off value width : Nat) : State :=
  if !s.reaches f then s
  else if width = 4 then s.writeWord f off value
  else if width = 8 then (s.writeWord f off (value % 2 ^ 32)).writeWord f (off + 4) (value / 2 ^ 32)
  else match (regOf (off / 4 * 4)).bind (fun r => if s.domOn r.domain then r.block else none) with
    | none => s
    | some b => s.setAccess b { s.access b with widthErr := true }

/-- RC_REGISTER_READ: the whole word at an offset is read. -/
def State.readReg (s : State) (f : Requester) (off : Nat) : State :=
  if !s.reaches f then s
  else
    let (v, s) := s.readWord f (off / 4 * 4)
    { s with ports := { s.ports with readValue := v } }

end Sys2Proof.Machine
end

