-- ==== Sys2Proof/Machine/AvsRows.lean ====
section
/-!
DEFINITION. Rows of the AVS loop (02).
-/
namespace Sys2Proof.Machine

/-- AVS_CONFIRM_TIMEOUT: a request that waits has failed once (02 R56). -/
def State.avsTimeout (s : State) : State := if s.avs.waiting then s.avsFail else s

/-- AVS_WRITE_RETRY: the write of a failed attempt is repeated (02 R56). -/
def State.avsRewrite (s : State) : State :=
  if s.avs.retryDue then { s with avs := { s.avs with retryDue := false, waiting := true } } else s

/-- AVS_FAILED_RETRY: in FAILED, VMAX_STEP is written once (02 R57, R59). -/
def State.avsFailedWrite (s : State) : State :=
  if s.avs.st = .failed then { s with avs := { s.avs with req := s.avs.vmax, waiting := true } } else s

/-- AVS_EN_SET (R57). EN written 1 moves the AVS loop to HOLD at VMAX_STEP. -/
def execAvsEnSet (f : Option Requester) (t : Nat) (s : State) : Host.Outcome State Fault Refusal :=
  .next ((s.at_ t).byReq f (fun s => s.rwl f .hlt State.avsEnable))

/-- AVS_EN_CLEAR (R57). EN written 0 moves the loop to OFF. -/
def execAvsEnClear (f : Option Requester) (t : Nat) (s : State) : Host.Outcome State Fault Refusal :=
  .next ((s.at_ t).byReq f (fun s => s.rwl f .hlt State.avsDisable))

/-- AVS_HOLD_SET (R57). HOLD written 1 holds the request at VMAX_STEP. -/
def execAvsHoldSet (f : Option Requester) (t : Nat) (s : State) : Host.Outcome State Fault Refusal :=
  .next ((s.at_ t).byReq f (fun s => s.rwl f .hlt State.avsHold))

/-- AVS_HOLD_CLEAR (R57). HOLD cleared lets an expired HOLD enter TRACK. -/
def execAvsHoldClear (f : Option Requester) (t : Nat) (s : State) : Host.Outcome State Fault Refusal :=
  .next ((s.at_ t).byReq f (fun s => s.rwl f .hlt State.avsUnhold))

/-- AVS_CTRL_WRITE (R60). A write of target and limits to HLT_AVS_CTRL, refused with CFG_ERR if out of range. -/
def execAvsCtrlWrite (f : Option Requester) (target vmin vmax t : Nat) (s : State) : Host.Outcome State Fault Refusal :=
  .next ((s.at_ t).byReq f (fun s => s.rwl f .hlt (fun s => s.avsCtrl target vmin vmax)))

/-- AVS_HOLD_TIMER_EXPIRY (R57). The HOLD timer expires and the loop enters TRACK. -/
def execAvsHoldTimerExpiry (t : Nat) (s : State) : Host.Outcome State Fault Refusal := .next ((s.at_ t).avsHoldExpiry)

/-- AVS_VOLTAGE_READ (R56). A 50 µs regulator read confirms or fails the request. -/
def execAvsVoltageRead (mv : Option Nat) (t : Nat) (s : State) : Host.Outcome State Fault Refusal :=
  .next ((s.at_ t).avsRead mv)

/-- AVS_CONFIRM_TIMEOUT (R56). The confirmation timeout expires and an attempt fails. -/
def execAvsConfirmTimeout (t : Nat) (s : State) : Host.Outcome State Fault Refusal := .next ((s.at_ t).avsTimeout)

/-- AVS_WRITE_RETRY (R56). 10 µs after a failed attempt the write is repeated. -/
def execAvsWriteRetry (t : Nat) (s : State) : Host.Outcome State Fault Refusal := .next ((s.at_ t).avsRewrite)

/-- AVS_FAILED_RETRY (R57). In FAILED, VMAX_STEP is written once per 10 ms. -/
def execAvsFailedRetry (t : Nat) (s : State) : Host.Outcome State Fault Refusal := .next ((s.at_ t).avsFailedWrite)

end Sys2Proof.Machine
end

