-- ==== Sys2Proof/Machine/BootRows.lean ====
section
/-!
DEFINITION. Rows of boot and update (17).
-/
namespace Sys2Proof.Machine

/-- FW_STATUS (R530). Command that reports boot and staging state. -/
def execFwStatus (e : Env) (s : State) : Host.Outcome State Fault Refusal := .next (s.hostCmd (.fwStatus e))

/-- FW_STAGE (R516). Command that stages a firmware image. -/
def execFwStage (e : Env) (addr len : Nat) (resume : Bool) (image : List Byte) (s : State) :
    Host.Outcome State Fault Refusal :=
  .next (s.hostCmd (.fwStage e addr len resume image))

/-- FW_STAGE_DISCARD (R531). Command that empties STAGE. -/
def execFwStageDiscard (e : Env) (s : State) : Host.Outcome State Fault Refusal := .next (s.hostCmd (.fwStageDiscard e))

/-- FW_ACTIVATE (R518). Command that copies the staged image to the other slot and starts a trial. -/
def execFwActivate (e : Env) (windowS : Nat) (requireHost : Bool) (s : State) : Host.Outcome State Fault Refusal :=
  .next (s.hostCmd (.fwActivate e windowS requireHost))

/-- FW_ACTIVATE_COPY_DONE (R519). The slot copy ends and the trial boot record is written. -/
def execFwActivateCopyDone (ok : Bool) (t : Nat) (s : State) : Host.Outcome State Fault Refusal :=
  .next (((s.at_ t).activateCopyDone ok).flashKick.serve)

/-- UCODE_RELOAD (R519). At t3 the control processor reloads through the boot ROM. -/
def execUcodeReload (t : Nat) (s : State) : Host.Outcome State Fault Refusal := .next ((s.at_ t).ucodeReload.serve)

/-- FW_CONFIRM (R531). Command that records host consent. -/
def execFwConfirm (e : Env) (s : State) : Host.Outcome State Fault Refusal := .next (s.hostCmd (.fwConfirm e))

/-- FW_REVERT (R524). Command that falls back to the previous slot. -/
def execFwRevert (e : Env) (s : State) : Host.Outcome State Fault Refusal := .next (s.hostCmd (.fwRevert e))

/-- FLASH_LOG_READ (R531). Command that reads the log copy in flash. -/
def execFlashLogRead (e : Env) (start count addr : Nat) (s : State) : Host.Outcome State Fault Refusal :=
  .next (s.hostCmd (.flashLogRead e start count addr))

/-- TRIAL_HEALTH_EVALUATION (R522). The trial firmware evaluates its health once per second and may confirm. -/
def execTrialHealthEvaluation (other : Bool) (t : Nat) (s : State) : Host.Outcome State Fault Refusal :=
  .next (((s.at_ t).trialEval other).serve)

/-- TRIAL_TIMER_EXPIRY (R522). The trial timer expires and PD1 restarts for fallback. -/
def execTrialTimerExpiry (t : Nat) (s : State) : Host.Outcome State Fault Refusal := .next ((s.at_ t).trialExpiry.serve)

/-- FIRMWARE_BOOT (R510). The boot ROM runs the boot stages after a reset release. -/
def execFirmwareBoot (spi : Bool) (t : Nat) (s : State) : Host.Outcome State Fault Refusal :=
  .next (((s.at_ t).firmwareBoot spi).serve)

/-- FLASH_LOG_COPY (R528). The firmware copies log entries into the LOG area. -/
def execFlashLogCopy (t : Nat) (s : State) : Host.Outcome State Fault Refusal := .next ((s.at_ t).logCopy)

end Sys2Proof.Machine
end

