-- ==== Sys2Proof/Machine/DelayRows.lean ====
section
/-!
DEFINITION. Rows of the delay memory (08).
-/
namespace Sys2Proof.Machine

/-- DM_TRAINING_RETRY: a failed attempt is repeated (08 R243). -/
def State.dmRetry (s : State) : State :=
  if s.dm.st = .training && s.dm.retryWait then { s with dm := { s.dm with retryWait := false } } else s

/-- DM_DOWN_TIMER: DOWN goes to TRAINING (08 R243). -/
def State.dmDownEnd (s : State) : State := if s.dm.st = .down then { s with dm := s.dm.train } else s

/-- DM_TRACKING_READ: the interval oscillators are read and the timing follows (08 R238). -/
def State.dmTrack (s : State) : State :=
  if s.dm.st = .up then { s with dm := { s.dm with tracks := s.dm.tracks + 1 } } else s

/-- DELAY_STATUS (R247). Command that reports delay-memory state and counters. -/
def execDelayStatus (e : Env) (clear : Bool) (s : State) : Host.Outcome State Fault Refusal :=
  .next (s.hostCmd (.delayStatus e clear))

/-- DELAY_LINE_STATUS (R247). Command that reports one delay line. -/
def execDelayLineStatus (e : Env) (plane line : Nat) (s : State) : Host.Outcome State Fault Refusal :=
  .next (s.hostCmd (.delayLineStatus e plane line))

/-- DELAY_MEM_CONFIG (R246). Command that sets the data rate and scrub time in CONFIG. -/
def execDelayMemConfig (e : Env) (rate scrubMin : Nat) (s : State) : Host.Outcome State Fault Refusal :=
  .next (s.hostCmd (.delayMemConfig e rate scrubMin))

/-- DELAY_MEM_RETRAIN (R243). Command that restarts training of a FAILED or DOWN memory. -/
def execDelayMemRetrain (e : Env) (s : State) : Host.Outcome State Fault Refusal := .next (s.hostCmd (.delayMemRetrain e))

/-- DELAY_BLOCK_READ (R244). A fetched delay-line block returns from memory and errors are corrected or held. -/
def execDelayBlockRead (line block due : Nat) (errs : List (Nat × Bool)) (late : Bool) (t : Nat) (s : State) :
    Host.Outcome State Fault Refusal :=
  .next ((s.at_ t).blockRead line block due errs late)

/-- DELAY_SCRUB_READ (R242). The scrub walker reads and corrects one block of delay memory. -/
def execDelayScrubRead (block : Nat) (errs : List (Nat × Bool)) (s : State) : Host.Outcome State Fault Refusal :=
  .next (s.scrubRead block errs)

/-- DM_TRAINING_DONE (R243). Delay-memory training ends in UP, a retry or FAILED. -/
def execDmTrainingDone (mr8 : Option Nat) (pass : Bool) (step : Nat) (s : State) : Host.Outcome State Fault Refusal :=
  .next ((s.dmTrained mr8 pass step).serve)

/-- DM_TRAINING_RETRY (R243). 100 ms after a failed attempt, training is retried. -/
def execDmTrainingRetry (s : State) : Host.Outcome State Fault Refusal := .next (s.dmRetry)

/-- DM_DOWN_TIMER (R243). 100 ms after entering DOWN the memory retrains. -/
def execDmDownTimer (s : State) : Host.Outcome State Fault Refusal := .next (s.dmDownEnd)

/-- DM_MR4_READ (R238). The controller reads MR4 every 32 ms and sets the refresh rate. -/
def execDmMr4Read (refresh : Nat) (hot : Bool) (s : State) : Host.Outcome State Fault Refusal :=
  .next (s.mr4Read refresh hot)

/-- DM_TRACKING_READ (R238). The WCK2DQ oscillators are read every 100 ms and timing adjusted. -/
def execDmTrackingRead (s : State) : Host.Outcome State Fault Refusal := .next (s.dmTrack)

/-- DM_PLL_LOCK_LOSS (R245). Loss of lock in the memory PLL or a PHY DLL. -/
def execDmPllLockLoss (s : State) : Host.Outcome State Fault Refusal := .next (s.dmDown 2)

end Sys2Proof.Machine
end

