-- ==== Sys2Proof/Machine/ExchangeRows.lean ====
section
/-!
DEFINITION. Rows of the exchange, path latency and tile reports (04, 05).
-/
namespace Sys2Proof.Machine

/-- PATH_LATENCY (R135). Command that reports recorded path latencies. -/
def execPathLatency (e : Env) (plane mode path srcKind srcIndex dstKind dstIndex : Nat) (s : State) :
    Host.Outcome State Fault Refusal :=
  .next (s.hostCmd (.pathLatency e plane mode path srcKind srcIndex dstKind dstIndex))

/-- PATH_LATENCY_DUMP (R136). Command that dumps the LATENCY records to a buffer. -/
def execPathLatencyDump (e : Env) (plane addr len : Nat) (s : State) : Host.Outcome State Fault Refusal :=
  .next (s.hostCmd (.pathLatencyDump e plane addr len))

/-- SLOT_PEEK (R137). Command that reads one slot of the read half. -/
def execSlotPeek (e : Env) (slot : Nat) (s : State) : Host.Outcome State Fault Refusal :=
  .next (s.hostCmd (.slotPeek e slot))

/-- SAPORT_STATUS (R144). Command that reports a serial port's state and counters. -/
def execSaportStatus (e : Env) (port : Nat) (clear : Bool) (s : State) : Host.Outcome State Fault Refusal :=
  .next (s.hostCmd (.saportStatus e port clear))

/-- TILE_REPORT (R181). Command that copies report-window words during parked intervals. -/
def execTileReport (e : Env) (k first count addr : Nat) (s : State) : Host.Outcome State Fault Refusal :=
  .next (s.hostCmd (.tileReport e k first count addr))

end Sys2Proof.Machine
end

