-- ==== Sys2Proof/Machine/FaultRows.lean ====
section
/-!
DEFINITION. Rows of the fault controller (14).
-/
namespace Sys2Proof.Machine

/-- FAULT_DECISION (R418). The fault controller decides on a detector report and opens, merges or escalates an episode. -/
def execFaultDecision (ext : Option DetIn) (t : Nat) (s : State) : Host.Outcome State Fault Refusal :=
  .next (((s.at_ t).faultDecision ext).serve)

/-- CONDITION_CLEARED (R418). The last condition of an episode ends and it enters SETTLING. -/
def execConditionCleared (ext : Option DetIn) (t : Nat) (s : State) : Host.Outcome State Fault Refusal :=
  .next (((s.at_ t).conditionCleared ext).serve)

/-- SETTLE_TIMER_EXPIRY (R419). SETTLE_MS passes and the episode closes. -/
def execSettleTimerExpiry (slot t : Nat) (s : State) : Host.Outcome State Fault Refusal :=
  .next (((s.at_ t).settleEnd slot).serve)

/-- RECOVERY_START (R420). After the backoff an episode starts its zone's recovery. -/
def execRecoveryStart (slot t : Nat) (s : State) : Host.Outcome State Fault Refusal :=
  .next (((s.at_ t).recoveryStart slot).serve)

/-- RECOVERY_SUCCESS (R428). A recovery meets its criterion and the reaction is released. -/
def execRecoverySuccess (slot t : Nat) (s : State) : Host.Outcome State Fault Refusal :=
  .next (((s.at_ t).recoverySuccess slot).serve)

/-- RECOVERY_TIMEOUT (R428). A recovery's timeout expires and the attempt fails or migration starts. -/
def execRecoveryTimeout (slot t : Nat) (s : State) : Host.Outcome State Fault Refusal :=
  .next (((s.at_ t).recoveryTimeout slot).serve)

/-- FAULT_N_PULSE_END (R431). The pulse width ends and FAULT_N follows HOLD_MODE. -/
def execFaultNPulseEnd (t : Nat) (s : State) : Host.Outcome State Fault Refusal := .next ((s.at_ t).pinFollow)

/-- OVERFLOW_CLEAR (R426). At most 12 episodes open for SETTLE_MS clears OVERFLOW. -/
def execOverflowClear (t : Nat) (s : State) : Host.Outcome State Fault Refusal := .next ((s.at_ t).overflowClear)

/-- WATCHDOG_EXPIRY (R429). The watchdog expires and PD1 CTRL restarts. -/
def execWatchdogExpiry (pc t : Nat) (s : State) : Host.Outcome State Fault Refusal := .next ((s.at_ t).watchdogExpiry pc)

/-- FAULT_STATUS (R442). Command that reports the fault summary. -/
def execFaultStatus (e : Env) (s : State) : Host.Outcome State Fault Refusal := .next (s.hostCmd (.faultStatus e))

/-- FAULT_EPISODE_GET (R442). Command that reports one episode. -/
def execFaultEpisodeGet (e : Env) (id slot : Nat) (s : State) : Host.Outcome State Fault Refusal :=
  .next (s.hostCmd (.faultEpisodeGet e id slot))

/-- FAULT_LOG_READ (R443). Command that reads fault log entries. -/
def execFaultLogRead (e : Env) (start count : Nat) (consume : Bool) (addr : Nat) (s : State) :
    Host.Outcome State Fault Refusal :=
  .next (s.hostCmd (.faultLogRead e start count consume addr))

/-- FAULT_CLEAR (R418). Command that retries or closes an episode. -/
def execFaultClear (e : Env) (id action : Nat) (s : State) : Host.Outcome State Fault Refusal :=
  .next (s.hostCmd (.faultClear e id action))

/-- FAULT_ACK (R443). Command that acknowledges episodes. -/
def execFaultAck (e : Env) (id : Nat) (s : State) : Host.Outcome State Fault Refusal := .next (s.hostCmd (.faultAck e id))

/-- FAULT_PIN_CONFIG (R442). Command that sets FAULT_N behaviour and SETTLE_MS. -/
def execFaultPinConfig (e : Env) (stretch pinSev holdMode : Nat) (force : Bool) (settleMs : Nat) (persist : Bool) (s : State) :
    Host.Outcome State Fault Refusal :=
  .next (s.hostCmd (.faultPinConfig e stretch pinSev holdMode force settleMs persist))

/-- FAULT_INJECT (R443). Command that reports a fault as its detector would. -/
def execFaultInject (e : Env) (zone detector data : Nat) (s : State) : Host.Outcome State Fault Refusal :=
  .next (s.hostCmd (.faultInject e zone detector data))

/-- FLT_PIN_CTRL_WRITE (R439). A write to FLT_PIN_CTRL sets FAULT_N behaviour or forces it low. -/
def execFltPinCtrlWrite (f : Requester) (value t : Nat) (s : State) : Host.Outcome State Fault Refusal :=
  .next ((s.at_ t).byReq (some f) (fun s => s.writeFltPin f value))

end Sys2Proof.Machine
end

