-- ==== Sys2Proof/Machine/HealthRows.lean ====
section
/-!
DEFINITION. Rows of health and self-test (18).
-/
namespace Sys2Proof.Machine

/-- STRESS_ACCUMULATE: one second at the highest reading of the sensors in the tile domains (18 R534). -/
def State.stressed (s : State) (temps : Vector Int 16) : State :=
  let s := s.readTemps temps
  { s with hlt := { s.hlt with stress := satAdd 64 s.hlt.stress (stressStep s.mon.tileTj) } }

/-- HEALTH_STATUS (R549). Command that reports health. -/
def execHealthStatus (e : Env) (s : State) : Host.Outcome State Fault Refusal := .next (s.hostCmd (.healthStatus e))

/-- AGEING_REPORT (R549). Command that dumps ageing data. -/
def execAgeingReport (e : Env) (addr : Nat) (s : State) : Host.Outcome State Fault Refusal :=
  .next (s.hostCmd (.ageingReport e addr))

/-- SELFTEST_TILE (R542). Command that tests a tile, migrating its work first. -/
def execSelftestTile (e : Env) (k : Nat) (s : State) : Host.Outcome State Fault Refusal :=
  .next (s.hostCmd (.selftestTile e k))

/-- SELFTEST_RESULT (R549). Command that reports a held test request. -/
def execSelftestResult (e : Env) (queue : Nat) (s : State) : Host.Outcome State Fault Refusal :=
  .next (s.hostCmd (.selftestResult e queue))

/-- SELFTEST_CANCEL (R549). Command that drops a request or aborts a test. -/
def execSelftestCancel (e : Env) (byTile : Bool) (id : Nat) (s : State) : Host.Outcome State Fault Refusal :=
  .next (s.hostCmd (.selftestCancel e byTile id))

/-- TILE_MIGRATE (R538). Command that migrates a carrier's work onto the spare. -/
def execTileMigrate (e : Env) (k : Nat) (s : State) : Host.Outcome State Fault Refusal :=
  .next (s.hostCmd (.tileMigrate e k))

/-- MAINT_ENTER (R544). Command that enters MAINTENANCE. -/
def execMaintEnter (e : Env) (s : State) : Host.Outcome State Fault Refusal := .next (s.hostCmd (.maintEnter e))

/-- MAINT_EXIT (R544). Command that leaves MAINTENANCE. -/
def execMaintExit (e : Env) (s : State) : Host.Outcome State Fault Refusal := .next (s.hostCmd (.maintExit e))

/-- SELFTEST_FULL (R545). Command that tests the parts its mask names. -/
def execSelftestFull (e : Env) (mask : Nat) (s : State) : Host.Outcome State Fault Refusal :=
  .next (s.hostCmd (.selftestFull e mask))

/-- CAL_CONFIG (R546). Command that sets CAL_INTERVAL. -/
def execCalConfig (e : Env) (interval : Nat) (persist : Bool) (s : State) : Host.Outcome State Fault Refusal :=
  .next (s.hostCmd (.calConfig e interval persist))

/-- MIGRATION_PASS1_END (R538). Pass 1 ends and write mirroring starts. -/
def execMigrationPass1End (q : Nat) (s : State) : Host.Outcome State Fault Refusal := .next (s.pass1End q)

/-- MIGRATION_PASS2_END (R538). Pass 2 ends and the switch is due at the next boundary. -/
def execMigrationPass2End (q : Nat) (s : State) : Host.Outcome State Fault Refusal := .next (s.pass2End q)

/-- SELFTEST_END (R542). A tile's 40 ms test ends in pass or fail. -/
def execSelftestEnd (q : Nat) (mismatch : Bool) (uncorr corr itimePs : Nat) (s : State) : Host.Outcome State Fault Refusal :=
  .next ((s.endTest q (s.testPart q mismatch uncorr corr itimePs)).serve)

/-- AGEING_MEASUREMENT (R533). Every 10 minutes the ring pairs are measured. -/
def execAgeingMeasurement (freqs : Vector (Nat × Nat) 56) (eyes : Vector (Option Nat) 8) (s : State) :
    Host.Outcome State Fault Refusal :=
  .next (s.ageing freqs eyes)

/-- STRESS_ACCUMULATE (R534). Each second stress hours advance. -/
def execStressAccumulate (temps : Vector Int 16) (s : State) : Host.Outcome State Fault Refusal := .next (s.stressed temps)

/-- DAILY_HEALTH (R535). Once per 24 h tile ageing is stored and indicators graded. -/
def execDailyHealth (eolLow : Nat) (s : State) : Host.Outcome State Fault Refusal := .next (s.daily eolLow)

/-- SELFTEST_FULL_END (R545). The destructive full self-test of the masked parts ends, tiles are put in or out of service and carried work cold-starts. -/
def execSelftestFullEnd (tiles : BitVec 68) (lanes : BitVec 48) (mem : Bool) (s : State) :
    Host.Outcome State Fault Refusal :=
  .next ((s.fullEnd tiles lanes mem).serve)

end Sys2Proof.Machine
end

