-- ==== Sys2Proof/Machine/MixRows.lean ====
section
/-!
DEFINITION. Rows of the matrix, ramp units and safe-load groups (07).
-/
namespace Sys2Proof.Machine

/-- XPOINT_SET (R224). Command that sets crosspoint targets directly or stages them. -/
def execXpointSet (e : Env) (mode group count addr : Nat) (data : List Byte) (s : State) :
    Host.Outcome State Fault Refusal :=
  .next (s.hostCmd (.xpointSet e mode group count addr data))

/-- RAMP_SET (R230). Command that sets ramp unit targets directly or stages them. -/
def execRampSet (e : Env) (mode group count addr : Nat) (data : List Byte) (s : State) :
    Host.Outcome State Fault Refusal :=
  .next (s.hostCmd (.rampSet e mode group count addr data))

/-- TILE_PARAM_WRITE (R228). Command that writes tile X or Y words through the load port. -/
def execTileParamWrite (e : Env) (mode group k mem addr count buf : Nat) (data : List Byte) (s : State) :
    Host.Outcome State Fault Refusal :=
  .next (s.hostCmd (.tileParamWrite e mode group k mem addr count buf data))

/-- SAFE_APPLY (R226). Command that arms a safe-load group for a boundary. -/
def execSafeApply (e : Env) (group boundary : Nat) (s : State) : Host.Outcome State Fault Refusal :=
  .next (s.hostCmd (.safeApply e group boundary))

/-- SAFE_DISCARD (R225). Command that drops a safe-load group's entries. -/
def execSafeDiscard (e : Env) (group : Nat) (force : Bool) (s : State) : Host.Outcome State Fault Refusal :=
  .next (s.hostCmd (.safeDiscard e group force))

/-- SAFE_STATUS (R229). Command that reports a safe-load group. -/
def execSafeStatus (e : Env) (group : Nat) (s : State) : Host.Outcome State Fault Refusal :=
  .next (s.hostCmd (.safeStatus e group))

/-- SAFE_LOCK_POINT (R225). Eight periods before BOUNDARY an armed safe-load group locks. -/
def execSafeLockPoint (group : Nat) (s : State) : Host.Outcome State Fault Refusal := .next (s.safeLock group)

/-- XPOINT_GET (R231). Command that reports a crosspoint's gains and state. -/
def execXpointGet (e : Env) (plane inSlot sum : Nat) (s : State) : Host.Outcome State Fault Refusal :=
  .next (s.hostCmd (.xpointGet e plane inSlot sum))

/-- SUM_STATUS (R231). Command that reports a sum output's state and counters. -/
def execSumStatus (e : Env) (sum : Nat) (clear : Bool) (s : State) : Host.Outcome State Fault Refusal :=
  .next (s.hostCmd (.sumStatus e sum clear))

/-- RAMP_STATUS (R231). Command that reports a ramp unit. -/
def execRampStatus (e : Env) (ramp : Nat) (s : State) : Host.Outcome State Fault Refusal :=
  .next (s.hostCmd (.rampStatus e ramp))

end Sys2Proof.Machine
end

