-- ==== Sys2Proof/Machine/NetRows.lean ====
section
/-!
DEFINITION. Rows of the network ports and the switch (09).
-/
namespace Sys2Proof.Machine

/-- NET_PORT_CONFIG (R283). Command that sets a lane's mode and options. -/
def execNetPortConfig (e : Env) (lane : Nat) (cfg : NetPortCfg) (persist : Bool) (revertS : Nat) (confirm : Bool) (s : State) :
    Host.Outcome State Fault Refusal :=
  .next (s.hostCmd (.netPortConfig e lane cfg persist revertS confirm))

/-- NET_QUEUE_CONFIG (R270). Command that sets a queue's reserve and ceiling. -/
def execNetQueueConfig (e : Env) (port queue rsv qmax : Nat) (persist : Bool) (s : State) :
    Host.Outcome State Fault Refusal :=
  .next (s.hostCmd (.netQueueConfig e port queue rsv qmax persist))

/-- NET_SWITCH_CONFIG (R283). Command that sets the EtherType, heartbeat address, node MAC and ageing. -/
def execNetSwitchConfig (e : Env) (etherType hbDa nodeMac ageS : Nat) (persist : Bool) (s : State) :
    Host.Outcome State Fault Refusal :=
  .next (s.hostCmd (.netSwitchConfig e etherType hbDa nodeMac ageS persist))

/-- NET_STREAM_FWD (R282). Command that sets or deletes stream-table entries. -/
def execNetStreamFwd (e : Env) (count addr : Nat) (data : List Byte) (s : State) : Host.Outcome State Fault Refusal :=
  .next (s.hostCmd (.netStreamFwd e count addr data))

/-- NET_MAC_SET (R282). Command that sets or deletes static MAC-table entries. -/
def execNetMacSet (e : Env) (count addr : Nat) (data : List Byte) (s : State) : Host.Outcome State Fault Refusal :=
  .next (s.hostCmd (.netMacSet e count addr data))

/-- NET_FRR_SET (R268). Command that sets a lane's backup lane and restore time. -/
def execNetFrrSet (e : Env) (lane backup restoreMs : Nat) (persist : Bool) (s : State) : Host.Outcome State Fault Refusal :=
  .next (s.hostCmd (.netFrrSet e lane backup restoreMs persist))

/-- NET_FWD_GET (R281). Command that looks up a forwarding entry. -/
def execNetFwdGet (e : Env) (kind key sub : Nat) (s : State) : Host.Outcome State Fault Refusal :=
  .next (s.hostCmd (.netFwdGet e kind key sub))

/-- NET_COUNTERS (R276). Command that reads and optionally clears switch counters. -/
def execNetCounters (e : Env) (port : Nat) (clear : Bool) (first addr : Nat) (s : State) :
    Host.Outcome State Fault Refusal :=
  .next (s.hostCmd (.netCounters e port clear first addr))

/-- NET_REVERT (R283). REVERT_S expires without confirmation and the old lane setting is restored. -/
def execNetRevert (lane t : Nat) (s : State) : Host.Outcome State Fault Refusal := .next ((s.at_ t).netRevert lane)

/-- RATE_SEARCH_DWELL (R251). The rate search moves to the next mode after its dwell or after 2 s of lost lock. -/
def execRateSearchDwell (lane t : Nat) (s : State) : Host.Outcome State Fault Refusal := .next ((s.at_ t).searchDwell lane)

/-- PCS_LOCK_HELD (R256). PCS lock has held for 1 ms and the lane goes UP or PROBING. -/
def execPcsLockHeld (lane t : Nat) (s : State) : Host.Outcome State Fault Refusal := .next ((s.at_ t).lockHeld lane)

/-- PCS_LOCK_LOST (R256). The PCS loses lock and the lane goes DOWN. -/
def execPcsLockLost (lane t : Nat) (s : State) : Host.Outcome State Fault Refusal := .next ((s.at_ t).lockLost lane)

/-- HEARTBEAT_TX (R254). A lane sends its heartbeat at the next gap after 3.96 µs. -/
def execHeartbeatTx (lane t : Nat) (s : State) : Host.Outcome State Fault Refusal := .next ((s.at_ t).sendHeartbeat lane)

/-- HEARTBEAT_RX (R255). A valid heartbeat is consumed and the miss run reset. -/
def execHeartbeatRx (lane : Nat) (hb : Heartbeat) (t : Nat) (s : State) : Host.Outcome State Fault Refusal :=
  .next ((s.at_ t).heartbeatRx lane hb)

/-- HEARTBEAT_MISS (R255). The 4.00 µs heartbeat interval timer expires and a miss is counted. -/
def execHeartbeatMiss (lane t : Nat) (s : State) : Host.Outcome State Fault Refusal := .next ((s.at_ t).missHeartbeat lane)

/-- DAMPED_CLEAR (R258). DAMPED clears after 10 s without an exit from UP. -/
def execDampedClear (lane t : Nat) (s : State) : Host.Outcome State Fault Refusal := .next ((s.at_ t).dampedClear lane)

/-- FRR_RESTORE (R268). A lane UP for RESTORE_MS ends its fast reroute. -/
def execFrrRestore (lane t : Nat) (s : State) : Host.Outcome State Fault Refusal := .next ((s.at_ t).frrRestore lane)

/-- MAC_AGE_OUT (R264). A learned MAC entry not refreshed for AGE_S is removed. -/
def execMacAgeOut (mac vid t : Nat) (s : State) : Host.Outcome State Fault Refusal := .next ((s.at_ t).macAgeOut mac vid)

/-- FRAME_RX (R261). A received frame passes or fails the MAC checks and is classified and forwarded. -/
def execFrameRx (lane : Nat) (f : RxFrame) (s : State) : Host.Outcome State Fault Refusal :=
  .next (((s.at_ f.t).at_ f.tEnd).frameRx lane f)

/-- FRAME_TX_DONE (R336). A frame's last byte leaves and a report is produced when asked. -/
def execFrameTxDone (lane t sub : Nat) (ecc : Option (Nat × Bool)) (s : State) : Host.Outcome State Fault Refusal :=
  .next ((s.at_ t).frameDone lane t sub ecc)

/-- LARGE_SEND (R275). A large send is segmented into frames with rewritten headers. -/
def execLargeSend (lane queue mss : Nat) (kind : HdrKind) (header payload : List Byte) (s : State) :
    Host.Outcome State Fault Refusal :=
  .next (s.largeSend lane queue mss kind header payload)

/-- CP_FRAME_SEND (R333). The control processor sends a frame with a time operation or REPORT. -/
def execCpFrameSend (lane queue : Nat) (bytes : List Byte) (op : SendOp) (report : Option Nat) (s : State) :
    Host.Outcome State Fault Refusal :=
  .next (s.cpSend lane queue bytes op report)

end Sys2Proof.Machine
end

