-- ==== Sys2Proof/Machine/CmdFrames.lean ====
section
/-!
DEFINITION. CMD and CMD_REPLY frames of port C (10 R306 to R308, 15 R471 to R477).
-/
namespace Sys2Proof.Machine

/-- A refusal of a CMD frame (15 R476): cause 0 AUTH, 1 REPLAY, 2 unknown key. The first of a cause in 1 s is reported. -/
def State.refuseCmd (s : State) (key cause : Nat) : State :=
  let c := s.ports.pc
  let before := (rd c.refTimes cause).filter (fun t => decide (s.now < t + 1000000000))
  let quiet := match rd c.refTime cause with | none => true | some t => decide (t + 1000000000 ≤ s.now)
  let c : PortC :=
    { c with
      authFail := if cause = 0 then satAdd 32 c.authFail 1 else c.authFail
      replayFail := if cause = 1 then satAdd 32 c.replayFail 1 else c.replayFail
      keyUnknown := if cause = 2 then satAdd 32 c.keyUnknown 1 else c.keyUnknown
      refTimes := wr c.refTimes cause (before ++ [s.now])
      refTime := if quiet then wr c.refTime cause (some s.now) else c.refTime }
  let s := { s with ports := { s.ports with pc := c } }
  if quiet then s.report 0x0B02 0xC2 0xFFFF (packBits [(8, key), (8, cause), (16, min before.length 0xFFFF)]) else s

/-- A counter of a key that reaches its floor in CONFIG raises the floor by 2^24 above it (15 R475) (assumption log 33;
DEDUCED). -/
def raiseFloor (v floor : Nat) : Nat := if floor ≤ v then v + 2 ^ 24 else floor

/-- An authentic CMD frame is accepted: its replay counter, its descriptors, and the way its replies go (assumption log 32,
33; DESIGN CHOICE, DEDUCED). -/
def State.acceptCmd (s : State) (f : Frame) (id count replay : Nat) (k : Key) : State :=
  let i := ethInfo f.bytes
  let k' : Key := { k with highest := replay, floor := raiseFloor replay k.floor }
  let c : PortC := { s.ports.pc with
    keys := insertKey s.ports.pc.keys id k'
    frames := s.ports.pc.frames ++ List.replicate count (id, f.ingress, s.ports.pc.frameNo + 1)
    frameNo := s.ports.pc.frameNo + 1
    descs := s.ports.pc.descs ++ (List.range count).map (fun n => slice (f.bytes.drop i.pay) (16 + 64 * n) 64)
    lastKey := id, lastMac := i.sa, lastLane := f.ingress
    lastTag := if i.tagged then some (befld f.bytes 14 2) else none }
  let s := if k'.floor = k.floor then s else s.configWritten.gradeFlash
  { s with ports := { s.ports with pc := c, c := { s.ports.c with avail := s.ports.c.avail + count } } }

/-- The checks of a CMD frame at PC, in the order of 10 R308 (assumption log 32; DESIGN CHOICE). -/
def State.checkCmd (s : State) (f : Frame) : State :=
  let w := f.bytes.drop (ethInfo f.bytes).pay
  let id := befld w 4 1
  let count := befld w 6 2
  let l := count * 64
  let bad : State := { s with str := { s.str with ctrlBad := satAdd 32 s.str.ctrlBad 1 } }
  if befld w 2 2 % 4096 ≠ s.nodeId then { s with str := { s.str with ctrlMisaddr := satAdd 32 s.str.ctrlMisaddr 1 } }
  else if !within 1 16 count || decide (w.length < 32 + l) then bad
  else match lookup? s.ports.pc.keys id with
    | none => s.refuseCmd id 2
    | some k =>
      if (hmacSha256 k.material (slice w 0 (16 + l))).take 16 ≠ slice w (16 + l) 16 then s.refuseCmd id 0
      else if befld w 8 8 ≤ k.highest then s.refuseCmd id 1
      else s.acceptCmd f id count (befld w 8 8) k

/-- Frames that wait at PC are handled in the switch's order up to the first CMD frame (assumption log 62; DEDUCED). -/
def State.pcFrames : Nat → State → State
  | 0, s => s
  | n + 1, s =>
    match s.net.takeNext 9 with
    | none => s
    | some (f, net) =>
      let i := ethInfo f.bytes
      let s := { s with net := net.release f }
      if i.etherType = s.net.etherType && befld f.bytes i.pay 1 = 0x80 then s.checkCmd f
      else if f.ptp then State.pcFrames n s
      else State.pcFrames n (s.toPc f.ingress 0 f)

/-- CMD_FRAME_RX (15 R471): command service takes the next CMD frame that waits at PC (assumption log 32; DESIGN CHOICE). -/
def State.cmdFrameRx (s : State) : State :=
  if !s.pwr.service || s.boot.recovery then s
  else (State.pcFrames ((List.range 8).map (fun q => (s.net.queue 9 q).frames.length)).sum s).serve

/-- Entries held for port C in groups that no frame splits: a COMPLETE with its CONT entries (15 R472). -/
def replyGroups : List Entry → List (List Entry)
  | [] => []
  | e :: r =>
    match replyGroups r with
    | [] => [[e]]
    | g :: gs => if (g.head?.map (·.kind)) = some 3 then (e :: g) :: gs else [e] :: g :: gs

/-- An entry that the reply of its CMD frame carries: ACCEPT, and the COMPLETE of a descriptor that found port C full (15
R471). -/
def Entry.answers (e : Entry) : Bool := e.kind == 1 || (e.kind == 2 && e.status == 4 && e.detail == 0x00E3)

/-- Such entries in groups, one for each CMD frame (15 R471). -/
def acceptGroups : List Entry → List (List Entry)
  | [] => []
  | e :: r =>
    match acceptGroups r with
    | [] => [[e]]
    | g :: gs => if (g.head?.map (·.index)) = some e.index then (e :: g) :: gs else [e] :: g :: gs

/-- The held entries as they go out: the answers to CMD frames, then the others (15 R471, R472) (assumption log 33; DEDUCED). -/
def replyParts (es : List Entry) : List (List Entry) :=
  acceptGroups (es.filter Entry.answers) ++ replyGroups (es.filter (fun e => !e.answers))

/-- Groups packed into frames of up to 32 entries, oldest first. -/
def replyFrames : List Entry → List (List Entry) → List (List Entry)
  | acc, [] => if acc.isEmpty then [] else [acc]
  | acc, g :: gs =>
    if acc.isEmpty || decide (acc.length + g.length ≤ 32) then replyFrames (acc ++ g) gs else acc :: replyFrames g gs

/-- The Wyeri bytes of a CMD_REPLY frame (10 R307). -/
def replyBytes (node id replay : Nat) (material : List Byte) (es : List Entry) : List Byte :=
  let w := beBytes 1 0x81 ++ beBytes 1 1 ++ beBytes 2 (node % 4096) ++ beBytes 1 id ++ beBytes 1 0 ++ beBytes 2 es.length ++
    beBytes 8 replay ++ es.flatMap Entry.bytes
  w ++ (hmacSha256 material w).take 16

/-- One CMD_REPLY frame to the source of the most recent authenticated CMD frame, in queue 6 (10 R308) (assumption log 33;
DEDUCED). -/
def State.sendReply (s : State) (es : List Entry) : State :=
  let c := s.ports.pc
  match lookup? c.keys c.lastKey with
  | none => s
  | some k =>
    let k' : Key := { k with reply := k.reply + 1, replyFloor := raiseFloor (k.reply + 1) k.replyFloor }
    let s := if k'.replyFloor = k.replyFloor then s else s.configWritten.gradeFlash
    let s := { s with ports := { s.ports with pc := { c with keys := insertKey c.keys c.lastKey k' } } }
    s.enqueue c.lastLane 6 (s.pcFrame (ownHeader c.lastMac s.net.nodeMac c.lastTag s.net.etherType ++
      replyBytes s.nodeId c.lastKey k'.reply k.material es) .none none)

/-- CMD_REPLY_FLUSH (15 R472): the held entries go out. -/
def State.replyFlush (s : State) : State :=
  if !s.pwr.service then s
  else
    let es := s.ports.pc.held
    let s := { s with ports := { s.ports with pc := { s.ports.pc with held := [] } } }
    (replyFrames [] (replyParts es)).foldl (fun s g => s.sendReply g) s

end Sys2Proof.Machine
end

