-- ==== Sys2Proof/Machine/Boundary.lean ====
section
/-!
DEFINITION. SAMPLE_BOUNDARY (01 R20, 02 R35 to R53, 12 R363 to R365): the period that ends is completed, the planes and the
exchange swap, and the readers and writers of the new period start.
-/
namespace Sys2Proof.Machine

/-! The period that ends (01 R20 step 1). -/

/-- The slots of one tile in the period that ends: a cold-starting tile writes 0 and loads its next part (05 R176); a late
one takes its late value (assumption log 19; DEDUCED). -/
def State.closeTile (s : State) (k : Nat) : State :=
  let t := s.tile k
  let outs := s.tileOuts k
  let s : State := match t.run with
    | .cold =>
      let regs := ((s.workOf k).bind (fun w => s.pl.live.bind (fun p => lookup? p.data w.1))).getD []
      let t' := if 1 ≤ t.coldLeft && t.coldLeft ≤ 8 then t.coldLoad regs (8 - t.coldLeft) else t
      outs.foldl (fun (s : State) o => s.putSlot o 0 true) (s.setTile k { t' with coldLeft := t.coldLeft - 1 })
    | _ => s
  { s with ex := t.l.close s.ex outs }

/-- The late values of every element: tiles, lanes, the route engine. -/
def State.closeElems (s : State) : State :=
  let s := turns 68 s (fun k s => s.closeTile k)
  let s := turns 48 s (fun i s => { s with ex := (rd s.mtx.lanes i).l.close s.ex (s.laneOuts i) })
  { s with ex := s.ex.route.l.close s.ex s.routeOuts }

/-- The late states of every element go on (02 R66 to R70). -/
def State.elemsAfter (s : State) : State :=
  { s with
    tiles := s.tiles.map (fun t => { t with l := t.l.afterClose })
    mtx := { s.mtx with lanes := s.mtx.lanes.map (fun e => { e with l := e.l.afterClose }) }
    ex := { s.ex with route := { s.ex.route with l := s.ex.route.l.afterClose } } }

/-- The largest finish fraction of the window's active tiles, and the lowest tile that has it (02 R37, R41). -/
def State.windowMax (s : State) : Nat × Nat :=
  (List.range 68).foldl (fun m k =>
    let x := (s.tile k).slk
    if x.winActive && decide (m.1 < x.winMax) then (x.winMax, k) else m) (0, 0)

/-- The window registers at the boundary that closes a window (02 R36 to R38, R41) (assumption log 83; DESIGN CHOICE). -/
def State.closeWindow (s : State) : State :=
  if s.per.wndPeriods + 1 < windowPeriods s.per.baseRate then { s with per := { s.per with wndPeriods := s.per.wndPeriods + 1 } }
  else
    let m := s.windowMax
    { s with
      tiles := s.tiles.map Tile.closeWindow
      per := { s.per with wndPeriods := 0, windows := s.per.windows + 1, fmax := m.1, slowest := m.2, wndDue := true }
      avs := s.avs.windowTick (s.per.boundaries + 1) }

/-- The slack of the period, and what the AVS loop does about it at its boundary (02 R35, R52, R53). -/
def State.closeSlack (s : State) (late : Bool) : State :=
  let s := { s with tiles := s.tiles.map (fun (t : Tile) => t.closeSlack s.per.baseRate) }
  let high := (List.range 68).any (fun k => (s.tile k).slk.valid && decide (pct 90 ≤ (s.tile k).slk.fracLast))
  let a := { s.avs with winBase := s.avs.req }
  let a := if high then a.emergency s.now else a
  let a := if late then a.lateElement s.now else a
  ({ s with avs := a } : State).closeWindow

/-- The scrub walkers of the tiles (05 R151): from the park point and the finish tick on, so only in tiles that are PARKED
at the end of the period (05 R175) (assumption log 14; DEDUCED). -/
def State.scrubTiles (s : State) : State :=
  turns 68 s (fun k s =>
    if s.domOn (6 + quadOf k) && decide ((s.tile k).run = .parked ∨ (s.tile k).run = .bg) then
      let (t, rs) := (s.tile k).scrub s.freeCtr
      s.putTileStep k t rs
    else s)

/-- Every background task is parked before the boundary (01 R21 step 8) (assumption log 12; DEDUCED). -/
def State.parkAll (s : State) : State :=
  { s with tiles := s.tiles.map (fun t => if t.run = .bg then t.park else t) }

/-- The period that ends is completed (assumption log 11; DEDUCED). -/
def State.closePeriod (s : State) : State :=
  let s := if s.per.deadlineDone then s else s.deadline (deadlineTicks s.per.baseRate)
  let late := s.anyLate
  let s := s.closeElems
  let s := if s.testing 2 then s else s.runLines
  let s := (s.closeSlack late).scrubTiles.parkAll.saLatch.txLatch
  s.stepReports.countRecoveries.elemsAfter

/-! Media time (11 R321, 12 R363 to R365). -/

/-- A stamp as a number of 2^-16 ns. -/
def Stamp.units (x : Stamp) : Nat := (x.sec * 1000000000 + x.ns) * 65536 + x.frac

/-- The ideal instant of a media time in 2^-16 ns, rounded down. -/
def idealUnits (m rate : Nat) : Nat := m * 1000000000 * 65536 / rateHz rate

/-- The stamp of an instant in 2^-16 ns of the timebase, with the residence counter and STEP_SEQ of the present tick. -/
def State.stampOf (s : State) (units : Int) : Stamp :=
  { s.ts.tb.tick s.now with
    sec := (units / (1000000000 * 65536)).toNat % 2 ^ 64, ns := ((units / 65536) % 1000000000).toNat, frac := (units % 65536).toNat }

/-- The media offset moves by r over one period; what lies below 2^-16 ns is carried on (12 R363) (assumption log 96; DESIGN
CHOICE). -/
def State.slewed (s : State) : State :=
  let n : Int := rateHz s.per.baseRate
  let d := s.ref.rate + s.ref.offRem
  { s with ref := { s.ref with offset := s.ref.offset + d / n, offRem := d % n } }

/-- The stamp in 2^-16 ns of the boundary of a media time: its ideal instant and the media offset (12 R363) (assumption log
96; DESIGN CHOICE). -/
def State.boundaryUnits (s : State) (m : Nat) : Int := (idealUnits m s.per.baseRate : Int) + s.ref.offset

/-- The media PLL's next boundary: o has moved by r, and the clock stands at the tick at which the timebase reads the boundary's
stamp (12 R363). The first boundary after a reset comes at once (12 R364) (assumption log 96; DESIGN CHOICE). -/
def State.mediaClock (s : State) : State :=
  if s.per.started then
    let s := s.slewed
    let b := s.ts.tb.advance s.now
    let left : Int := s.boundaryUnits (s.per.mediaTime + 1) * 2 ^ 32 - b.val
    s.at_ (s.now + (left / ((max 1 b.inc : Nat) : Int)).toNat)
  else s

/-- A new period is counted, labelled and stamped. The first one after a reset takes the media time of the timebase
(assumption log 11; DEDUCED). -/
def State.openPeriod (s : State) : State :=
  let st := s.ts.tb.tick s.now
  let m := if s.per.started then s.per.mediaTime + 1 else st.units * rateHz s.per.baseRate / (1000000000 * 65536)
  let o : Int := if s.per.started then s.ref.offset else (st.units : Int) - (idealUnits m s.per.baseRate : Int)
  let s : State := { s with
    per := { s.per with boundaries := s.per.boundaries + 1, mediaTime := m, openedAt := s.now, started := true
                        deadlineDone := false, parkDone := false }
    ref := { s.ref with offset := o, offRem := if s.per.started then s.ref.offRem else 0 } }
  { s with ts := { s.ts with boundary := s.stampOf (s.boundaryUnits m) } }

/-- The k of a relabel: the offset in periods, to the nearest integer, ties toward 0 (12 R364) (assumption log 58; DEDUCED). -/
def relabelBy (offset : Int) (rate : Nat) : Int :=
  let den := 1000000000 * 65536
  let k : Nat := (2 * (offset.natAbs * rateHz rate) + den - 1) / (2 * den)
  if offset < 0 then -(k : Int) else k

/-- What a relabel by a nonzero k does beside the label (12 R365) (assumption log 58; DEDUCED). -/
def State.relabelled (s : State) : State :=
  let s := if s.pl.st = .armed then s.endCommit .aborted 0x00B0 else s
  let s := turns 16 s (fun i s =>
    let g := rd s.mtx.groups i
    if g.st = .armed then
      ({ s with mtx := { s.mtx with groups := wr s.mtx.groups i { g with st := .filling } } } : State).complete g.owner g.handle .aborted 0x00B0 []
    else s)
  { s with str := { s.str with
    rx := s.str.rx.map (fun p => (p.1, { p.2 with held := [] }))
    tx := s.str.tx.map (fun p => (p.1, { p.2 with reads := [] })) } }

/-- The relabel that is due at this boundary (12 R364, R365) (assumption log 58; DEDUCED). -/
def State.relabel (s : State) : State :=
  if !s.ref.relabel then s
  else
    let k := relabelBy s.ref.offset s.per.baseRate
    let m := ((s.per.mediaTime : Int) + k).toNat
    let r := { s.ref with relabel := false, acquiring := true
                          offset := s.boundaryUnits s.per.mediaTime - (idealUnits m s.per.baseRate : Int) }
    let s := { s with ref := r, per := { s.per with mediaTime := m } }
    if k = 0 then s else s.relabelled.report 0x0309 0x02 0xFFFF (k % 2 ^ 64).toNat

/-! The period that opens (01 R20 steps 2 to 4). -/

/-- The parity swap (04 R122): what the write half holds becomes the read half; slots without a writer read 0. -/
def Exch.swapped (e : Exch) : Exch :=
  { e with
    readHalf := Sparse.setAll [] e.writeHalf
    readSub := e.writeSub
    writeHalf := []
    writeSub := []
    route := { e.route with done := false, tick := none } }

/-- The legacy mode of an element's reaction: that of the open episode it belongs to, else the policy of its zone. -/
def State.legacyOf (s : State) (zone elem : Nat) : Bool :=
  match s.flt.find (fun e => e.zone == zone && mem e.elems elem) with
  | some i => (s.ep i).legacy
  | none => s.zoneLegacy zone

/-- The legacy mode of a tile: that of the open episode whose element it is, of a tile zone or of zone 0x70 where its
scatter is the element; else the policy of its own zone. -/
def State.legacyTile (s : State) (k : Nat) : Bool :=
  match s.flt.find (fun e => (e.zone == 0x70 && mem e.elems (256 + k)) || (zTile e.zone && mem e.elems k)) with
  | some i => (s.ep i).legacy
  | none => s.zoneLegacy (tileZone k)

/-- Reactions and releases that the fault controller decided are taken (14 R423, R424). -/
def State.openElems (s : State) : State :=
  let rh := s.ex.readHalf
  { s with
    tiles := Vector.ofFn (fun i : Fin 68 =>
      let t := s.tile i.val
      { t with l := t.l.opened (s.legacyTile i.val) rh (s.tileOuts i.val) })
    mtx := { s.mtx with lanes := Vector.ofFn (fun i : Fin 48 =>
      let e := rd s.mtx.lanes i.val
      { e with done := false, tick := none, l := e.l.opened (s.legacyOf 0x70 i.val) rh (s.laneOuts i.val) }) }
    ex := { s.ex with route := { s.ex.route with l := s.ex.route.l.opened (s.legacyOf 0x70 48) rh s.routeOuts } } }

/-- Tiles that carry work enter WAIT and gather (05 R175, R177) (assumption log 11; DEDUCED). -/
def State.startTiles (s : State) : State :=
  turns 68 s (fun k s =>
    let t := s.tile k
    match t.run, s.workOf k with
    | .absent, _ => s
    | .cold, _ => s
    | _, some (_, p) => s.setTile k (t.enterWait s.ex.readHalf p)
    | _, none => s)

/-- Readers and writers of the rim start the new period (assumption log 11; DEDUCED). -/
def State.startRim (s : State) : State :=
  let s := s.streamsBoundary
  let s := match s.pl.live with
    | none => s
    | some p => p.saports.foldl (fun s r => s.saBoundary r) s
  s.pstBoundary

/-- A node ID that waits for the boundary applies (15 R484); a node that becomes primary is UNALIGNED (10 R304). -/
def State.nodeApply (s : State) : State :=
  match s.nodeNext with
  | none => s
  | some n =>
    let s := { s with nodeId := n, nodeNext := none }
    if s.isBelay then s else s.unalign

/-- An engine restart that is due happens; the firmware then loads the boot structure (19 R566) (assumption log 49; DEDUCED). -/
def State.restartDue (s : State) : State :=
  let s' := s.engineRestarts
  if s.pwr.engRestart.isSome && s'.pwr.engRestart.isNone && s.pwr.cpRunning then s'.loadBoot else s'

/-- The planes, the carriers and the exchange swap, in that order. The slots that the commit
binds join a reaction before work migrates: a migration moves the values of its reaction with the miss state (18 R539)
(assumption log 11; DEDUCED). -/
def State.swaps (s : State) : State :=
  let old := s.outs
  let s := s.endFades.commitDue
  let s := s.joinOuts s.ex.swapped.readHalf old
  let s := turns 4 s (fun q s => s.switchMig q)
  { s with ex := s.ex.swapped }

/-- MISS_STATE of each tile as the boundary leaves it (02 R38, R48). -/
def State.latchMiss (s : State) : State :=
  { s with tiles := s.tiles.map (fun t => { t with slk := { t.slk with missReg := t.l.miss } }) }

/-- SAMPLE_BOUNDARY. While PD1 to PD13 are held in reset no boundary exists (19 R564) (assumption log 11, 12; DEDUCED). -/
def State.sampleBoundary (s : State) : State :=
  if !s.pwr.released then s
  else
    let s := (s.mediaClock.closePeriod.lockPoint.lockGroups 8).openPeriod.relabel.leaveReactions
    let old := s.pl.live
    let s := s.swaps
    let s := (s.openElems.latchMiss.applyUpdates (gainTargets old s.pl.live)).stepRamps.nodeApply
    let s := s.startRim.startTiles.restartDue
    s.chooseBoundary.serve

/-- WINDOW_END: in TRACK the loop acts on the window's Fmax (02 R51, R57). -/
def State.windowEnd (s : State) : State :=
  if s.per.wndDue then
    let s := { s with per := { s.per with wndDue := false } }
    if s.avs.st = .track then { s with avs := s.avs.evaluate s.per.fmax } else s
  else s

end Sys2Proof.Machine
end

