-- ==== Sys2Proof/Machine/PeriodRows.lean ====
section
/-!
DEFINITION. Rows of the sample period (01, 02, 05): boundary, sample start, scatter, lanes, deadline, windows, cold starts and events.
-/
namespace Sys2Proof.Machine

/-- LANE_COMPLETE names lanes 0 to 47, and 48 for the route engine. -/
def State.elemComplete (s : State) (n tick : Nat) : State :=
  if n = 48 then s.routeComplete tick else if n < 48 then s.laneComplete n tick else s

/-- SAMPLE_BOUNDARY (R20). The media clock opens a new period and the engine carries out the ordered boundary actions and starts gather, matrix and rim reads for the new period. -/
def execSampleBoundary (s : State) : Host.Outcome State Fault Refusal := .next s.sampleBoundary

/-- SSTART (R173). A tile's gather completes and its foreground starts at ENTRY_FG. -/
def execSstart (k tick : Nat) (s : State) : Host.Outcome State Fault Refusal := .next ((s.tickAt tick).sstart k tick)

/-- SCATTER_COMPLETE (R175). A tile's scatter finishes and the background resumes or the tile parks. -/
def execScatterComplete (k tick : Nat) (s : State) : Host.Outcome State Fault Refusal :=
  .next ((s.tickAt tick).scatterComplete k tick)

/-- LANE_COMPLETE (R207). A matrix lane or the route engine has its last sum in the write half and signals completion
(assumption log 59; DEDUCED). -/
def execLaneComplete (lane tick : Nat) (s : State) : Host.Outcome State Fault Refusal :=
  .next ((s.tickAt tick).elemComplete lane tick)

/-- PARK (R174). The park point is reached and the background task parks at the first eligible boundary. -/
def execPark (k : Nat) (s : State) : Host.Outcome State Fault Refusal := .next (s.parkTile k)

/-- SCATTER_DEADLINE (R63). At the deadline tick every late element is halted and lateness is logged. -/
def execScatterDeadline (haltTick : Nat) (s : State) : Host.Outcome State Fault Refusal :=
  .next ((s.tickAt haltTick).deadline haltTick)

/-- WINDOW_END (R51). A slack window closes, Fmax is evaluated and the AVS loop adjusts its request. -/
def execWindowEnd (s : State) : Host.Outcome State Fault Refusal := .next (s.windowEnd)

/-- COLD_START_END (R175). Eight periods after the commit boundary a cold-starting tile enters WAIT. -/
def execColdStartEnd (k : Nat) (s : State) : Host.Outcome State Fault Refusal := .next (s.coldEnd k)

/-- EVENT_TAKEN (R171). A pending unmasked SAT or TRAP event redirects fetch to its handler. -/
def execEventTaken (k : Nat) (s : State) : Host.Outcome State Fault Refusal := .next (s.tileEvent k)

end Sys2Proof.Machine
end

