-- ==== Sys2Proof/Machine/PortRows.lean ====
section
/-!
DEFINITION. Rows of the command ports and of commands (15).
-/
namespace Sys2Proof.Machine

/-- An event of the PCIe function that serves port A or B; port D has no function. -/
def State.onPort (s : State) (f : Requester) (g : State → CPort → State) : State :=
  match Requester.port f with
  | none => s
  | some p => g s p

/-- CMD_SQ_TAIL (R455). Submission doorbell write that makes descriptors available. -/
def execCmdSqTail (f : Requester) (tail : Nat) (s : State) : Host.Outcome State Fault Refusal :=
  .next (s.onPort f (fun s p => (s.sqTail p tail).serve))

/-- CMD_CQ_HEAD (R457). Completion doorbell write that frees entries and lets waiting entries be written. -/
def execCmdCqHead (f : Requester) (head : Nat) (s : State) : Host.Outcome State Fault Refusal :=
  .next (s.onPort f (fun s p => (s.cqHead p head).serve))

/-- PORT_ENABLE (R462). ENABLE written 1 starts the port or sets SETUP_ERR. -/
def execPortEnable (f : Requester) (s : State) : Host.Outcome State Fault Refusal :=
  .next (s.onPort f (fun s p => (s.portEnable p).serve))

/-- PORT_DISABLE (R462). ENABLE written 0 drains the port. -/
def execPortDisable (f : Requester) (s : State) : Host.Outcome State Fault Refusal :=
  .next (s.onPort f (fun s p => (s.drain p).serve))

/-- PCIE_DMA_ERROR (R462). A read times out or errors, or posted writes stall, and the port enters ERROR. -/
def execPcieDmaError (f : Requester) (ring index : Nat) (handle : Option Nat) (s : State) :
    Host.Outcome State Fault Refusal :=
  .next (s.onPort f (fun s p => (s.dmaError p ring index handle).serve))

/-- PCIE_LINK_DOWN (R462). The PCIe link goes down or a function-level reset arrives and the port drains. -/
def execPcieLinkDown (f : Requester) (flr : Bool) (s : State) : Host.Outcome State Fault Refusal :=
  .next (s.onPort f (fun s p => (s.linkDown p flr).serve))

/-- PCIE_PERST (R569). PERST resets the port's PCIe controller. -/
def execPciePerst (f : Requester) (s : State) : Host.Outcome State Fault Refusal :=
  .next (s.onPort f (fun s p => (s.perst p).serve))

/-- CQ_FULL_TIMEOUT (R482). A completion queue full for 1 s sets CQ_FULL_SEEN. -/
def execCqFullTimeout (f : Requester) (t : Nat) (s : State) : Host.Outcome State Fault Refusal :=
  .next ((s.at_ t).cqFull (Requester.cport f))

/-- DEV_IDENTITY (R483). Command that reports the part identity. -/
def execDevIdentity (e : Env) (s : State) : Host.Outcome State Fault Refusal := .next (s.hostCmd (.devIdentity e))

/-- DEV_NODE_ID_SET (R484). Command that sets the node ID. -/
def execDevNodeIdSet (e : Env) (node : Nat) (persist : Bool) (s : State) : Host.Outcome State Fault Refusal :=
  .next (s.hostCmd (.devNodeIdSet e node persist))

/-- CMD_ABORT (R484). Command that aborts a command not yet started. -/
def execCmdAbort (e : Env) (handle : Nat) (s : State) : Host.Outcome State Fault Refusal :=
  .next (s.hostCmd (.cmdAbort e handle))

/-- CMD_PORT_PRIV_SET (R483). Command that sets a port's masks. -/
def execCmdPortPrivSet (e : Env) (port groups privs : Nat) (persist : Bool) (s : State) : Host.Outcome State Fault Refusal :=
  .next (s.hostCmd (.cmdPortPrivSet e port groups privs persist))

/-- CMD_KEY_SET (R484). Command that sets or deletes a port C key. -/
def execCmdKeySet (e : Env) (keyId addr : Nat) (key : List Byte) (groups privs : Nat) (s : State) :
    Host.Outcome State Fault Refusal :=
  .next (s.hostCmd (.cmdKeySet e keyId addr key groups privs))

/-- CMD_PORT_STATUS (R486). Command that reports a port's counters. -/
def execCmdPortStatus (e : Env) (port : Nat) (clear : Bool) (s : State) : Host.Outcome State Fault Refusal :=
  .next (s.hostCmd (.cmdPortStatus e port clear))

/-- CMD_ECHO (R483). Command that returns its bytes. -/
def execCmdEcho (e : Env) (bytes : List Byte) (s : State) : Host.Outcome State Fault Refusal :=
  .next (s.hostCmd (.cmdEcho e bytes))

/-- COMMAND_TIMEOUT (R470). A command's timeout-class timer reaches its limit before completion and the engine writes COMPLETE with TIMEOUT. -/
def execCommandTimeout (p : CPort) (handle : Nat) (s : State) : Host.Outcome State Fault Refusal :=
  .next (s.cmdTimeout p handle)

/-- FLASH_OPERATION_DONE (R470). A flash program, erase or verify operation of a FLASH-class command ends, the command completes and the next queued flash operation starts. -/
def execFlashOperationDone (ok : Bool) (sectors t : Nat) (s : State) : Host.Outcome State Fault Refusal :=
  .next (((s.at_ t).flashDone ok sectors).serve)

/-- PCIE_LINK_UP (R488). The PCIe link of port A or B comes up again, ending the CMD_LINK condition. -/
def execPcieLinkUp (f : Requester) (s : State) : Host.Outcome State Fault Refusal :=
  .next (s.onPort f (fun s p => s.linkUp p))

end Sys2Proof.Machine
end

