-- ==== Sys2Proof/Machine/PowerRows.lean ====
section
/-!
DEFINITION. Rows of supplies, domains and resets (19).
-/
namespace Sys2Proof.Machine

/-- SOFT_RESET (R565). DEV_RESET kind 1 restarts PD1 CTRL. -/
def execSoftReset (e : Env) (s : State) : Host.Outcome State Fault Refusal := .next (s.hostCmd (.softReset e))

/-- ENGINE_RESTART (R566). DEV_RESET kind 2 mutes outputs and restarts the interior. -/
def execEngineRestart (e : Env) (s : State) : Host.Outcome State Fault Refusal := .next (s.hostCmd (.engineRestart e))

/-- CHIP_RESET (R574). DEV_RESET kind 3 resets PD1 to PD13. -/
def execChipReset (e : Env) (s : State) : Host.Outcome State Fault Refusal := .next (s.hostCmd (.chipReset e))

/-- DEV_DOMAIN_SET (R574). Command that switches power domains. -/
def execDevDomainSet (e : Env) (onMask offMask : Nat) (persist : Bool) (s : State) : Host.Outcome State Fault Refusal :=
  .next (s.hostCmd (.devDomainSet e onMask offMask persist))

/-- DEV_POWER_STATUS (R574). Command that reports reset, domain and clock status. -/
def execDevPowerStatus (e : Env) (clear : Bool) (s : State) : Host.Outcome State Fault Refusal :=
  .next (s.hostCmd (.devPowerStatus e clear))

/-- DOMAIN_RAMP_ON_DONE (R559). A domain's supply settles and the domain is ON. -/
def execDomainRampOnDone (d t : Nat) (s : State) : Host.Outcome State Fault Refusal := .next (((s.at_ t).rampOnDone d).serve)

/-- DOMAIN_RAMP_ON_FAIL (R559). A domain fails to ramp within 200 µs. -/
def execDomainRampOnFail (d t : Nat) (s : State) : Host.Outcome State Fault Refusal := .next (((s.at_ t).rampOnFail d).serve)

/-- DOMAIN_RAMP_OFF_DONE (R559). 20 µs after switch-off the domain is OFF. -/
def execDomainRampOffDone (d t : Nat) (s : State) : Host.Outcome State Fault Refusal :=
  .next (((s.at_ t).rampOffDone d).serve)

/-- POWER_ON_RESET (R562). A rail below its POR threshold resets everything. -/
def execPowerOnReset (rail v twa t : Nat) (s : State) : Host.Outcome State Fault Refusal := .next ((s.at_ t).railDrop rail v twa)

/-- RESET_N_FALL (R564). RESET_N low resets PD1 to PD13 and drives gates low. -/
def execResetNFall (t : Nat) (s : State) : Host.Outcome State Fault Refusal := .next ((s.at_ t).resetFall)

/-- RESET_N_RISE (R564). RESET_N release starts boot. -/
def execResetNRise (t : Nat) (s : State) : Host.Outcome State Fault Refusal := .next ((s.at_ t).resetRise)

/-- OSC_IN_DETECTED (R567). OSC_IN is identified and the rest of the engine leaves reset. -/
def execOscInDetected (freq t : Nat) (s : State) : Host.Outcome State Fault Refusal := .next ((s.at_ t).oscFound freq)

/-- OSC_IN_LOSS (R568). OSC_IN stops or moves for 10 µs and BOUNDARY is reported. -/
def execOscInLoss (t : Nat) (s : State) : Host.Outcome State Fault Refusal := .next ((s.at_ t).oscLoss)

end Sys2Proof.Machine
end

