-- ==== Sys2Proof/Machine/PstageRows.lean ====
section
/-!
DEFINITION. Rows of the power stage (13).
-/
namespace Sys2Proof.Machine

/-- MODULATOR_TICK (R383). A control tick samples the converters and computes the modulation. -/
def execModulatorTick (n : Nat) (cs vs : Vector Int 32) (rs scr : Vector Int 4) (t : Nat) (s : State) :
    Host.Outcome State Fault Refusal :=
  .next ((s.at_ t).modTick n cs vs rs scr)

/-- TRIP_QUALIFY (R390). A TRIP comparator crossing qualifies and the channel enters safe state. -/
def execTripQualify (ch peak t : Nat) (s : State) : Host.Outcome State Fault Refusal := .next ((s.at_ t).trip ch peak)

/-- LIMIT_QUALIFY (R389). A LIMIT crossing ends the present switching half-cycle early. -/
def execLimitQualify (ch : Nat) (pos : Bool) (t : Nat) (s : State) : Host.Outcome State Fault Refusal :=
  .next ((s.at_ t).limit ch pos)

/-- SAFE_N_FALL (R391). A qualified SAFE_N low puts every channel in safe state. -/
def execSafeNFall (t : Nat) (s : State) : Host.Outcome State Fault Refusal := .next ((s.at_ t).safeNFall)

/-- SAFE_N_RELEASE (R391). SAFE_N high for 10 ms releases its hold cause. -/
def execSafeNRelease (t : Nat) (s : State) : Host.Outcome State Fault Refusal := .next ((s.at_ t).safeNRelease)

/-- HICCUP_EXPIRY (R397). A tripped channel's hiccup timer expires. -/
def execHiccupExpiry (ch t : Nat) (s : State) : Host.Outcome State Fault Refusal := .next ((s.at_ t).hiccupEnd ch)

/-- SOFT_START_END (R399). The last soft-start period puts the channel in RUN. -/
def execSoftStartEnd (ch : Nat) (s : State) : Host.Outcome State Fault Refusal := .next (s.softEnd ch)

/-- STOP_RAMP_END (R399). The HOST stop ramp ends and the gates go low. -/
def execStopRampEnd (ch : Nat) (s : State) : Host.Outcome State Fault Refusal := .next ((s.stopEnd ch).serve)

/-- DC_BLOCK_END (R395). A DC detection block ends and the DC count advances or latches. -/
def execDcBlockEnd (ch : Nat) (s : State) : Host.Outcome State Fault Refusal := .next (s.dcEval ch)

/-- RAIL_OUT_OF_LIMITS (R394). A rail lies outside its limits for 10 µs and its channels are held. -/
def execRailOutOfLimits (rail reading t : Nat) (s : State) : Host.Outcome State Fault Refusal :=
  .next ((s.at_ t).railOut rail reading)

/-- RAIL_WITHIN_LIMITS (R394). A rail stays within limits for 100 ms and its hold is released. -/
def execRailWithinLimits (rail reading t : Nat) (s : State) : Host.Outcome State Fault Refusal :=
  .next ((s.at_ t).railIn rail reading)

/-- CONVERTER_SELF_CHECK (R387). A sense converter checks itself against the reference every 10 ms. -/
def execConverterSelfCheck (conv : Nat) (pass : Bool) (t : Nat) (s : State) : Host.Outcome State Fault Refusal :=
  .next ((s.at_ t).selfCheck conv pass)

/-- CAL_SWEEP (R546). A calibration sweep trims each converter through a reserve. -/
def execCalSweep (trims : Vector (Option (Int × Int)) 68) (t : Nat) (s : State) : Host.Outcome State Fault Refusal :=
  .next ((s.at_ t).calSweep trims)

/-- PSTAGE_STATUS (R407). Command that reports a channel. -/
def execPstageStatus (e : Env) (ch : Nat) (clear : Bool) (s : State) : Host.Outcome State Fault Refusal :=
  .next (s.hostCmd (.pstageStatus e ch clear))

/-- PSTAGE_CLEAR (R407). Command that takes channels out of LATCHED. -/
def execPstageClear (e : Env) (mask : BitVec 32) (s : State) : Host.Outcome State Fault Refusal :=
  .next (s.hostCmd (.pstageClear e mask))

/-- PSTAGE_STOP (R407). Command that sets HOST and ramps channels off. -/
def execPstageStop (e : Env) (mask : BitVec 32) (s : State) : Host.Outcome State Fault Refusal :=
  .next (s.hostCmd (.pstageStop e mask))

/-- PSTAGE_START (R407). Command that clears HOST. -/
def execPstageStart (e : Env) (mask : BitVec 32) (s : State) : Host.Outcome State Fault Refusal :=
  .next (s.hostCmd (.pstageStart e mask))

/-- PSTAGE_RAIL_CONFIG (R393). Command that sets a rail's scaling and limits. -/
def execPstageRailConfig (e : Env) (rail rsFs nom uv ov : Nat) (persist : Bool) (s : State) :
    Host.Outcome State Fault Refusal :=
  .next (s.hostCmd (.pstageRailConfig e rail rsFs nom uv ov persist))

/-- PSTAGE_LOOP_CONFIG (R406). Command that sets a channel's loop coefficients. -/
def execPstageLoopConfig (e : Env) (ch kp ki vsFs : Nat) (persist : Bool) (s : State) : Host.Outcome State Fault Refusal :=
  .next (s.hostCmd (.pstageLoopConfig e ch kp ki vsFs persist))

end Sys2Proof.Machine
end

