-- ==== Sys2Proof/Machine/RefRows.lean ====
section
/-!
DEFINITION. Rows of the reference selector (12).
-/
namespace Sys2Proof.Machine

/-- PTP_SERVO_UPDATE (R362). A PTP phase measurement feeds the DPLL and may step the timebase. -/
def execPtpServoUpdate (lane : Nat) (errNs : Int) (t : Nat) (s : State) : Host.Outcome State Fault Refusal :=
  .next ((s.at_ t).servo lane errNs)

/-- PPS_IN_EDGE (R348). A PPS_IN edge gives phase within the second to REF10M. -/
def execPpsInEdge (errNs : Int) (devNs t : Nat) (s : State) : Host.Outcome State Fault Refusal :=
  .next ((s.at_ t).ppsIn errNs devNs)

/-- REF_EVALUATION (R357). The 1 ms selector evaluation updates candidates, selection and media rate. -/
def execRefEvaluation (m : RefMeas) (t : Nat) (s : State) : Host.Outcome State Fault Refusal := .next ((s.at_ t).evaluate m)

/-- REF_WINDOW_END (R352). A 10 s or 100 s measurement window completes and drift is judged. -/
def execRefWindowEnd (long : Bool) (offsets : Vector Int 16) (t : Nat) (s : State) : Host.Outcome State Fault Refusal :=
  .next ((s.at_ t).windowEndRef long offsets)

/-- ESMC_PDU_TX (R369). An ESMC information PDU is sent once per second. -/
def execEsmcPduTx (lane t : Nat) (s : State) : Host.Outcome State Fault Refusal := .next ((s.at_ t).esmcSend lane)

/-- REF_STATUS_GET (R375). Command that reports selector state. -/
def execRefStatusGet (e : Env) (clear : Bool) (s : State) : Host.Outcome State Fault Refusal :=
  .next (s.hostCmd (.refStatusGet e clear))

/-- REF_CAND_CONFIG (R375). Command that sets lockout and level of a candidate. -/
def execRefCandConfig (e : Env) (cand : Nat) (lockout : Bool) (rxQl : Nat) (persist : Bool) (s : State) :
    Host.Outcome State Fault Refusal :=
  .next (s.hostCmd (.refCandConfig e cand lockout rxQl persist))

/-- REF_OSC_TRIM_SET (R375). Command that sets OSC_TRIM. -/
def execRefOscTrimSet (e : Env) (trim : Int) (persist : Bool) (s : State) : Host.Outcome State Fault Refusal :=
  .next (s.hostCmd (.refOscTrimSet e trim persist))

/-- MEDIA_REALIGN (R364). Command that clears MEDIA_ALIGNED for a new alignment. -/
def execMediaRealign (e : Env) (s : State) : Host.Outcome State Fault Refusal := .next (s.hostCmd (.mediaRealign e))

/-- MCLK_CONFIG (R368). Command that sets the media clock outputs. -/
def execMclkConfig (e : Env) (wclkEn : Bool) (mult0 mult1 : Nat) (persist : Bool) (s : State) :
    Host.Outcome State Fault Refusal :=
  .next (s.hostCmd (.mclkConfig e wclkEn mult0 mult1 persist))

/-- ESMC_CONFIG (R369). Command that sets SyncE and ESMC transmission of a lane. -/
def execEsmcConfig (e : Env) (lane : Nat) (synceTx esmcTx persist : Bool) (s : State) : Host.Outcome State Fault Refusal :=
  .next (s.hostCmd (.esmcConfig e lane synceTx esmcTx persist))

/-- HARDWARE_HOLDOVER (R367). While the control processor is paused, the selected hardware reference loses signal and the DPLL enters hardware holdover with CP_HOLD set. -/
def execHardwareHoldover (s : State) : Host.Outcome State Fault Refusal := .next s.selLost

end Sys2Proof.Machine
end

