-- ==== Sys2Proof/Machine/RegisterRows.lean ====
section
/-!
DEFINITION. Rows of the register access rules (21).
-/
namespace Sys2Proof.Machine

/-- The block of a number. -/
def blockOf : Nat → Option Block
  | 0 => some .net | 1 => some .ts | 2 => some .ref | 3 => some .pst | 4 => some .flt | 5 => some .cmd | 6 => some .boot
  | 7 => some .hlt | _ => none

/-- An access of one of the eight blocks with an access register. -/
def State.onBlock (s : State) (n : Nat) (g : State → Block → State) : State :=
  match blockOf n with
  | none => s
  | some b => g s b

/-- ACCESS_KEY_WRITE (R610). A KEY write advances, completes or breaks a block's unlock sequence. -/
def execAccessKeyWrite (f : Requester) (block key t : Nat) (s : State) : Host.Outcome State Fault Refusal :=
  .next ((s.at_ t).byReq (some f) (fun s => s.onBlock block (fun s b => s.keyWrite f b key)))

/-- ACCESS_UNLOCK_EXPIRY (R610). 1 s after unlocking, the block relocks for the requester. -/
def execAccessUnlockExpiry (f : Requester) (block t : Nat) (s : State) : Host.Outcome State Fault Refusal :=
  .next ((s.at_ t).onBlock block (fun s b => s.unlockExpiry f b))

/-- RC_REGISTER_READ (R611). A read of a word with RC fields returns and clears them. -/
def execRcRegisterRead (f : Requester) (off t : Nat) (s : State) : Host.Outcome State Fault Refusal :=
  .next ((s.at_ t).readReg f off)

/-- REGISTER_WRITE (R7). A write to a register that has no row of its own, under its access codes. -/
def execRegisterWrite (f : Requester) (off value width t : Nat) (s : State) : Host.Outcome State Fault Refusal :=
  .next (((s.at_ t).writeReg f off value width).serve)

end Sys2Proof.Machine
end

