-- ==== Sys2Proof/Machine/SerialRows.lean ====
section
/-!
DEFINITION. Rows of the serial audio ports (04).
-/
namespace Sys2Proof.Machine

/-- SAPORT_FRAME (R142). A serial-port frame ends or starts and is assigned to a period. -/
def execSaportFrame (port : Nat) (isEnd : Bool) (words : List DWord) (fs : FsMeas) (t : Nat) (s : State) :
    Host.Outcome State Fault Refusal :=
  .next ((s.at_ t).saFrame port isEnd words fs t)

/-- SAPORT_FS_TIMEOUT (R143). No FS edge for 4 frame times takes the port to ACQUIRE. -/
def execSaportFsTimeout (port : Nat) (s : State) : Host.Outcome State Fault Refusal := .next (s.saTimeout port)

end Sys2Proof.Machine
end

