-- ==== Sys2Proof/Machine/StreamRows.lean ====
section
/-!
DEFINITION. Rows of Wyeri and AES67 transport and control frames (10, 15).
-/
namespace Sys2Proof.Machine

/-- STREAM_FRAME_RX (R297). A stream frame copy reaches PE, is checked and merged. -/
def execStreamFrameRx (s : State) : Host.Outcome State Fault Refusal := .next (s.streamFrameRx)

/-- BELAY_COMPARE_EXPIRY (R303). 64 periods pass without the primary's frame and the result is missing. -/
def execBelayCompareExpiry (streamId media : Nat) (s : State) : Host.Outcome State Fault Refusal :=
  .next (s.belayExpiry streamId media)

/-- AES67_PACKET_RX (R311). A matching AES67 packet is copied to PE and merged. -/
def execAes67PacketRx (s : State) : Host.Outcome State Fault Refusal := .next (s.aesPacketRx)

/-- CMD_FRAME_RX (R471). A CMD frame is authenticated and its descriptors accepted. -/
def execCmdFrameRx (s : State) : Host.Outcome State Fault Refusal := .next (s.cmdFrameRx)

/-- CMD_REPLY_FLUSH (R472). Held port C entries are sent in a CMD_REPLY frame within 10 µs. -/
def execCmdReplyFlush (t : Nat) (s : State) : Host.Outcome State Fault Refusal := .next ((s.at_ t).replyFlush)

/-- STREAM_STATUS (R315). Command that reports a stream's counters. -/
def execStreamStatus (e : Env) (dir id : Nat) (clear : Bool) (s : State) : Host.Outcome State Fault Refusal :=
  .next (s.hostCmd (.streamStatus e dir id clear))

/-- BELAY_STATUS (R315). Command that reports belay state. -/
def execBelayStatus (e : Env) (clear : Bool) (s : State) : Host.Outcome State Fault Refusal :=
  .next (s.hostCmd (.belayStatus e clear))

/-- AES67_BIND (R312). Command that sets AES67 bindings. -/
def execAes67Bind (e : Env) (count addr : Nat) (data : List Byte) (s : State) : Host.Outcome State Fault Refusal :=
  .next (s.hostCmd (.aes67Bind e count addr data))

end Sys2Proof.Machine
end

