-- ==== Sys2Proof/Machine/StructRows.lean ====
section
/-!
DEFINITION. Rows of the structure planes (03).
-/
namespace Sys2Proof.Machine

/-- STRUCT_LOAD (R103). Command that reads and checks a full image for SHADOW. -/
def execStructLoad (e : Env) (source addr len : Nat) (s : State) : Host.Outcome State Fault Refusal :=
  .next (s.hostCmd (.structLoad e source addr len))

/-- STRUCT_PATCH (R101). Command that checks a patch against SHADOW. -/
def execStructPatch (e : Env) (source addr len : Nat) (s : State) : Host.Outcome State Fault Refusal :=
  .next (s.hostCmd (.structPatch e source addr len))

/-- STRUCT_COPY (R103). Command that copies LIVE into SHADOW. -/
def execStructCopy (e : Env) (s : State) : Host.Outcome State Fault Refusal := .next (s.hostCmd (.structCopy e))

/-- STRUCT_COMMIT (R105). Command that arms a plane swap at a boundary. -/
def execStructCommit (e : Env) (boundary digest8 : Nat) (s : State) : Host.Outcome State Fault Refusal :=
  .next (s.hostCmd (.structCommit e boundary digest8))

/-- STRUCT_CANCEL (R119). Command that cancels a load, patch or commit. -/
def execStructCancel (e : Env) (handle : Nat) (s : State) : Host.Outcome State Fault Refusal :=
  .next (s.hostCmd (.structCancel e handle))

/-- STRUCT_DISCARD (R103). Command that empties SHADOW. -/
def execStructDiscard (e : Env) (s : State) : Host.Outcome State Fault Refusal := .next (s.hostCmd (.structDiscard e))

/-- STRUCT_STATUS (R118). Command that reports plane states and digests. -/
def execStructStatus (e : Env) (s : State) : Host.Outcome State Fault Refusal := .next (s.hostCmd (.structStatus e))

/-- STRUCT_BOOT_WRITE (R115). Command that writes a checked image to the older boot-structure copy. -/
def execStructBootWrite (e : Env) (addr len : Nat) (image : List Byte) (s : State) : Host.Outcome State Fault Refusal :=
  .next (s.hostCmd (.structBootWrite e addr len image))

/-- STRUCT_KEY_SET (R117). Command that installs, replaces or deletes the structure-signing key. -/
def execStructKeySet (e : Env) (keyId addr : Nat) (key : List Byte) (require : Bool) (s : State) :
    Host.Outcome State Fault Refusal :=
  .next (s.hostCmd (.structKeySet e keyId addr key require))

/-- IMAGE_CHECK_COMPLETE (R103). The load checks of an image finish and SHADOW returns or moves to WRITING. -/
def execImageCheckComplete (image : List Byte) (s : State) : Host.Outcome State Fault Refusal :=
  .next ((s.imageChecked image).serve)

/-- IMAGE_WRITE_COMPLETE (R103). Writing or copying into SHADOW finishes and SHADOW becomes READY. -/
def execImageWriteComplete (image : List Byte) (s : State) : Host.Outcome State Fault Refusal :=
  .next ((s.imageWritten image).serve)

/-- COMMIT_LOCK_POINT (R105). At 32 periods before BOUNDARY the commit checks are repeated and the commit locks or fails. -/
def execCommitLockPoint (s : State) : Host.Outcome State Fault Refusal := .next (s.lockPoint.serve)

end Sys2Proof.Machine
end

