-- ==== Sys2Proof/Machine/TileRows.lean ====
section
/-!
DEFINITION. Rows of the tile instructions (06).
-/
namespace Sys2Proof.Machine

/-- NOP (R192). Tile instruction that performs no operation. -/
def execTNop (k tick : Nat) (s : State) : Host.Outcome State Fault Refusal := .next ((s.tickAt tick).tileRow k tick selNOP)

/-- END (R193). Tile instruction that ends the foreground or parks the background. -/
def execTEnd (k tick : Nat) (s : State) : Host.Outcome State Fault Refusal := .next ((s.tickAt tick).tileRow k tick selEND)

/-- BRA (R192). Conditional branch with two delay slots. -/
def execTBra (k tick : Nat) (s : State) : Host.Outcome State Fault Refusal := .next ((s.tickAt tick).tileRow k tick selBRA)

/-- CALL (R192). Conditional call that pushes the return address. -/
def execTCall (k tick : Nat) (s : State) : Host.Outcome State Fault Refusal := .next ((s.tickAt tick).tileRow k tick selCALL)

/-- RET (R192). Conditional return that pops the return address. -/
def execTRet (k tick : Nat) (s : State) : Host.Outcome State Fault Refusal := .next ((s.tickAt tick).tileRow k tick selRET)

/-- RTE (R192). Return from an event handler, clearing IH. -/
def execTRte (k tick : Nat) (s : State) : Host.Outcome State Fault Refusal := .next ((s.tickAt tick).tileRow k tick selRTE)

/-- DBNZ (R192). Decrement LC and branch while nonzero. -/
def execTDbnz (k tick : Nat) (s : State) : Host.Outcome State Fault Refusal := .next ((s.tickAt tick).tileRow k tick selDBNZ)

/-- TRAP (R192). Sets the TRAP event pending. -/
def execTTrap (k tick : Nat) (s : State) : Host.Outcome State Fault Refusal := .next ((s.tickAt tick).tileRow k tick selTRAP)

/-- REP (R195). Repeats the next instruction n times. -/
def execTRep (k tick : Nat) (s : State) : Host.Outcome State Fault Refusal := .next ((s.tickAt tick).tileRow k tick selREP)

/-- DMAC (R197). Dual multiply-accumulate into an accumulator pair. -/
def execTDmac (k tick : Nat) (s : State) : Host.Outcome State Fault Refusal := .next ((s.tickAt tick).tileRow k tick selDMAC)

/-- MPY (R196). Multiply into an accumulator. -/
def execTMpy (k tick : Nat) (s : State) : Host.Outcome State Fault Refusal := .next ((s.tickAt tick).tileRow k tick selMPY)

/-- MAC (R196). Multiply and add to an accumulator. -/
def execTMac (k tick : Nat) (s : State) : Host.Outcome State Fault Refusal := .next ((s.tickAt tick).tileRow k tick selMAC)

/-- MSU (R196). Multiply and subtract from an accumulator. -/
def execTMsu (k tick : Nat) (s : State) : Host.Outcome State Fault Refusal := .next ((s.tickAt tick).tileRow k tick selMSU)

/-- MPYN (R196). Negated multiply into an accumulator. -/
def execTMpyn (k tick : Nat) (s : State) : Host.Outcome State Fault Refusal := .next ((s.tickAt tick).tileRow k tick selMPYN)

/-- TAP (R198). Filter tap with multiply-accumulate and aging write. -/
def execTTap (k tick : Nat) (s : State) : Host.Outcome State Fault Refusal := .next ((s.tickAt tick).tileRow k tick selTAP)

/-- MOV (R201). Data register move. -/
def execTMov (k tick : Nat) (s : State) : Host.Outcome State Fault Refusal := .next ((s.tickAt tick).tileRow k tick selMOV)

/-- ADD (R201). Modular add of data registers. -/
def execTAdd (k tick : Nat) (s : State) : Host.Outcome State Fault Refusal := .next ((s.tickAt tick).tileRow k tick selADD)

/-- SUB (R201). Modular subtract of data registers. -/
def execTSub (k tick : Nat) (s : State) : Host.Outcome State Fault Refusal := .next ((s.tickAt tick).tileRow k tick selSUB)

/-- ADDS (R201). Saturating add. -/
def execTAdds (k tick : Nat) (s : State) : Host.Outcome State Fault Refusal := .next ((s.tickAt tick).tileRow k tick selADDS)

/-- SUBS (R201). Saturating subtract. -/
def execTSubs (k tick : Nat) (s : State) : Host.Outcome State Fault Refusal := .next ((s.tickAt tick).tileRow k tick selSUBS)

/-- AND (R201). Bitwise AND. -/
def execTAnd (k tick : Nat) (s : State) : Host.Outcome State Fault Refusal := .next ((s.tickAt tick).tileRow k tick selAND)

/-- OR (R201). Bitwise OR. -/
def execTOr (k tick : Nat) (s : State) : Host.Outcome State Fault Refusal := .next ((s.tickAt tick).tileRow k tick selOR)

/-- XOR (R201). Bitwise XOR. -/
def execTXor (k tick : Nat) (s : State) : Host.Outcome State Fault Refusal := .next ((s.tickAt tick).tileRow k tick selXOR)

/-- NOT (R201). Bitwise complement. -/
def execTNot (k tick : Nat) (s : State) : Host.Outcome State Fault Refusal := .next ((s.tickAt tick).tileRow k tick selNOT)

/-- NEG (R201). Saturating negate. -/
def execTNeg (k tick : Nat) (s : State) : Host.Outcome State Fault Refusal := .next ((s.tickAt tick).tileRow k tick selNEG)

/-- ABS (R201). Saturating absolute value. -/
def execTAbs (k tick : Nat) (s : State) : Host.Outcome State Fault Refusal := .next ((s.tickAt tick).tileRow k tick selABS)

/-- CMP (R201). Compare, setting flags only. -/
def execTCmp (k tick : Nat) (s : State) : Host.Outcome State Fault Refusal := .next ((s.tickAt tick).tileRow k tick selCMP)

/-- MIN (R201). Signed minimum. -/
def execTMin (k tick : Nat) (s : State) : Host.Outcome State Fault Refusal := .next ((s.tickAt tick).tileRow k tick selMIN)

/-- MAX (R201). Signed maximum. -/
def execTMax (k tick : Nat) (s : State) : Host.Outcome State Fault Refusal := .next ((s.tickAt tick).tileRow k tick selMAX)

/-- TST (R201). Test bits, setting flags only. -/
def execTTst (k tick : Nat) (s : State) : Host.Outcome State Fault Refusal := .next ((s.tickAt tick).tileRow k tick selTST)

/-- LSL (R202). Logical shift left. -/
def execTLsl (k tick : Nat) (s : State) : Host.Outcome State Fault Refusal := .next ((s.tickAt tick).tileRow k tick selLSL)

/-- ASR (R202). Arithmetic shift right. -/
def execTAsr (k tick : Nat) (s : State) : Host.Outcome State Fault Refusal := .next ((s.tickAt tick).tileRow k tick selASR)

/-- LSR (R202). Logical shift right. -/
def execTLsr (k tick : Nat) (s : State) : Host.Outcome State Fault Refusal := .next ((s.tickAt tick).tileRow k tick selLSR)

/-- ASLS (R202). Saturating arithmetic shift left. -/
def execTAsls (k tick : Nat) (s : State) : Host.Outcome State Fault Refusal := .next ((s.tickAt tick).tileRow k tick selASLS)

/-- CLR (R200). Clear an accumulator. -/
def execTClr (k tick : Nat) (s : State) : Host.Outcome State Fault Refusal := .next ((s.tickAt tick).tileRow k tick selCLR)

/-- MOVA (R200). Accumulator move. -/
def execTMova (k tick : Nat) (s : State) : Host.Outcome State Fault Refusal := .next ((s.tickAt tick).tileRow k tick selMOVA)

/-- ADDA (R200). Saturating accumulator add. -/
def execTAdda (k tick : Nat) (s : State) : Host.Outcome State Fault Refusal := .next ((s.tickAt tick).tileRow k tick selADDA)

/-- SUBA (R200). Saturating accumulator subtract. -/
def execTSuba (k tick : Nat) (s : State) : Host.Outcome State Fault Refusal := .next ((s.tickAt tick).tileRow k tick selSUBA)

/-- NEGA (R200). Saturating accumulator negate. -/
def execTNega (k tick : Nat) (s : State) : Host.Outcome State Fault Refusal := .next ((s.tickAt tick).tileRow k tick selNEGA)

/-- ABSA (R200). Saturating accumulator absolute value. -/
def execTAbsa (k tick : Nat) (s : State) : Host.Outcome State Fault Refusal := .next ((s.tickAt tick).tileRow k tick selABSA)

/-- ASHA (R200). Accumulator arithmetic shift. -/
def execTAsha (k tick : Nat) (s : State) : Host.Outcome State Fault Refusal := .next ((s.tickAt tick).tileRow k tick selASHA)

/-- EXT (R199). Extract an accumulator to 32 bits under RND. -/
def execTExt (k tick : Nat) (s : State) : Host.Outcome State Fault Refusal := .next ((s.tickAt tick).tileRow k tick selEXT)

/-- LDA (R200). Load an accumulator from a data register at an extraction point. -/
def execTLda (k tick : Nat) (s : State) : Host.Outcome State Fault Refusal := .next ((s.tickAt tick).tileRow k tick selLDA)

/-- CMPA (R200). Compare accumulators, setting flags only. -/
def execTCmpa (k tick : Nat) (s : State) : Host.Outcome State Fault Refusal := .next ((s.tickAt tick).tileRow k tick selCMPA)

/-- MOVC (R203). Move between a data register and a control register. -/
def execTMovc (k tick : Nat) (s : State) : Host.Outcome State Fault Refusal := .next ((s.tickAt tick).tileRow k tick selMOVC)

/-- LDIW (R204). Load a 32-bit immediate into a register. -/
def execTLdiw (k tick : Nat) (s : State) : Host.Outcome State Fault Refusal := .next ((s.tickAt tick).tileRow k tick selLDIW)

/-- DITH (R205). Write a dither draw from seed, media time and generator index. -/
def execTDith (k tick : Nat) (s : State) : Host.Outcome State Fault Refusal := .next ((s.tickAt tick).tileRow k tick selDITH)

/-- UNDEFINED_INSTRUCTION (R183). An undefined operation or move field executes as no-operation and logs ILLEGAL. -/
def execUndefinedInstruction (k tick : Nat) (s : State) : Host.Outcome State Fault Refusal :=
  .next ((s.tickAt tick).tileRow k tick selUNDEF)

end Sys2Proof.Machine
end

