-- ==== Sys2Proof/Machine/TimeRows.lean ====
section
/-!
DEFINITION. Rows of the time-stamp unit (11).
-/
namespace Sys2Proof.Machine

/-- PTP_MESSAGE_RX (R331). An identified PTP message is stamped and handled by PTP mode. -/
def execPtpMessageRx (lane : Nat) (f : RxFrame) (fw : Option PtpFw) (s : State) : Host.Outcome State Fault Refusal :=
  .next (((s.at_ f.t).at_ f.tEnd).ptpMessage lane f fw)

/-- TIME_GET (R344). Command that returns a timebase stamp and boundary stamp. -/
def execTimeGet (e : Env) (s : State) : Host.Outcome State Fault Refusal := .next (s.hostCmd (.timeGet e))

/-- PTP_CONFIG (R339). Command that sets PTP mode, profile and domain. -/
def execPtpConfig (e : Env) (mode profile domain prio1 prio2 : Nat) (twoStep persist : Bool) (s : State) :
    Host.Outcome State Fault Refusal :=
  .next (s.hostCmd (.ptpConfig e mode profile domain prio1 prio2 twoStep persist))

/-- PTP_PORT_CONFIG (R340). Command that sets a lane's PTP settings. -/
def execPtpPortConfig (e : Env) (lane : Nat) (cfg : PtpPortCfg) (persist : Bool) (s : State) :
    Host.Outcome State Fault Refusal :=
  .next (s.hostCmd (.ptpPortConfig e lane cfg persist))

/-- TS_CAL_SET (R328). Command that sets a lane's calibration offsets. -/
def execTsCalSet (e : Env) (lane mode calRx calTx : Nat) (persist : Bool) (s : State) : Host.Outcome State Fault Refusal :=
  .next (s.hostCmd (.tsCalSet e lane mode calRx calTx persist))

/-- PTP_STATUS (R345). Command that reports a lane's PTP state and counters. -/
def execPtpStatus (e : Env) (lane : Nat) (clear : Bool) (s : State) : Host.Outcome State Fault Refusal :=
  .next (s.hostCmd (.ptpStatus e lane clear))

/-- PPS_OUT_CONFIG (R322). Command that sets PPS_OUT enable and width. -/
def execPpsOutConfig (e : Env) (en : Bool) (width : Nat) (persist : Bool) (s : State) : Host.Outcome State Fault Refusal :=
  .next (s.hostCmd (.ppsOutConfig e en width persist))

/-- TS_SNAP (R324). Writing 1 to SNAP latches a timebase stamp into the snapshot registers. -/
def execTsSnap (f : Requester) (t : Nat) (s : State) : Host.Outcome State Fault Refusal :=
  .next ((s.at_ t).byReq (some f) (fun s => if s.domOn 2 then s.snap else s))

/-- PPS_OUT_EDGE (R322). PPS_OUT rises when NS passes through 0. -/
def execPpsOutEdge (t : Nat) (s : State) : Host.Outcome State Fault Refusal := .next ((s.at_ t).ppsRise t)

/-- TS_CAL_TIMEOUT (R343). Phase compensation fails to complete within 10 ms of lock. -/
def execTsCalTimeout (lane t : Nat) (s : State) : Host.Outcome State Fault Refusal := .next ((s.at_ t).calTimeout lane)

/-- ANNOUNCE_RECEIPT_TIMEOUT (R349). A PTP port's announce receipt timeout expires, the port leaves SLAVE and its PTP candidate loses signal. -/
def execAnnounceReceiptTimeout (lane : Nat) (s : State) : Host.Outcome State Fault Refusal := .next (s.announceTimeout lane)

/-- TS_CALIBRATION_COMPLETE (R327). The phase compensation measured after PCS lock completes, stamps on the lane become valid and a TS_CAL_LOCK condition ends. -/
def execTsCalibrationComplete (lane t : Nat) (s : State) : Host.Outcome State Fault Refusal :=
  .next ((s.at_ t).calComplete lane)

end Sys2Proof.Machine
end

