-- ==== Sys2Proof/Machine/TwoWire.lean ====
section
/-!
DEFINITION. The two-wire board-manager port (16).
-/
namespace Sys2Proof.Machine

/-- The target replaced. -/
def State.setTw (s : State) (t : Tw) : State := { s with tw := t }
/-- A bit of TW_FLAGS is set (16 R498). -/
def State.twFlag (s : State) (i : Nat) : State := s.setTw { s.tw with flags := s.tw.flags ||| (1#8 <<< i) }

/-! The window (16 R495 to R498). -/

/-- What stands at a window address. -/
inductive TwArea where
  | local_
  | sq
  | cq
  | page
  | reserved
  deriving DecidableEq, Repr

/-- The area of a window address (16 R495). -/
def twArea (a : Nat) : TwArea :=
  if a < 0x28 then .local_
  else if a < 0x100 then .reserved
  else if a < 0x200 then .sq
  else if a < 0x400 then .cq
  else if a < 0x1000 then .reserved
  else if a < 0x2000 then .page
  else .reserved

/-- The pages of the port D subset: none for another page, else whether port D writes it (21 R613). -/
def twPage (p : Nat) : Option Bool :=
  if mem [0x101, 0x130, 0x140, 0x141, 0x310, 0x311] p then some false
  else if mem [0x150, 0x170, 0x300, 0x10F, 0x13F, 0x14F, 0x15F, 0x17F, 0x30F] p then some true
  else none

/-- BAR0 offset of a window address in the page window. -/
def Tw.bar (t : Tw) (a : Nat) : Nat := t.page * 0x1000 + a % 0x1000

/-- The value of a TW_ register (16 R498); the write-only ones read 0. -/
def State.twLocal (s : State) (a : Nat) : Nat :=
  let t := s.tw
  let d := s.ports.d
  match a / 4 with
  | 0 => 0x72404201
  | 1 => t.flags.toNat
  | 2 => packBits [(4, t.fPos), (11, t.fByte), (1, b2n t.fDir), (2, t.fKind), (13, 0), (1, b2n t.framing)]
  | 3 => t.page
  | 6 => packBits [(3, d.inFlight), (2, d.sqHead), (2, 0), (4, d.cqTail), (1, b2n d.phase)]
  | 8 => packBits [(2, 0), (1, b2n s.pst.tw), (2, t.seq)]
  | 9 => 0x58 + t.twa
  | _ => 0

/-! Force-safe (16 R500, R501). -/

/-- A sequence is broken: SAFE_SEQ_ERR is set and SEQ returns to idle (assumption log 55; DEDUCED). -/
def State.twBreak (s : State) : State := (s.setTw { s.tw with seq := 0 }).twFlag 7

/-- A window write that is none of the sequence's breaks a sequence in progress (assumption log 55; DEDUCED). -/
def State.twOther (s : State) : State := if s.tw.seq = 0 then s else s.twBreak

/-- A word of the sequence is committed; its 10 ms may have run out (assumption log 55; DEDUCED). -/
def State.twSeq (s : State) (a v : Nat) : State :=
  let s := if s.tw.seq ≠ 0 && s.tw.seqAt + 10000000 < s.now then s.twBreak else s
  let t := s.tw
  if a = 0x1C then
    if t.seq = 0 && v = 0xA55A then s.setTw { t with seq := 1, seqAt := s.now }
    else if t.seq = 1 && v = 0x5AA5 then s.setTw { t with seq := 2 }
    else s.twBreak
  else if t.seq ≠ 2 then s.twOther
  else if v % 4 = 1 then (s.setTw { t with seq := 0 }).setGlobalHold (fun p => { p with tw := true })
  else if v % 4 = 2 then (s.setTw { t with seq := 0 }).setGlobalHold (fun p => { p with tw := false })
  else s.twBreak

/-! Writes. -/

/-- A whole word of the window's registers is written (16 R496 to R499) (assumption log 55; DEDUCED). -/
def State.twWord (s : State) (a v : Nat) : State :=
  if a = 0x1C || a = 0x20 then s.twSeq a v
  else
    let s := s.twOther
    let t := s.tw
    match twArea a with
    | .local_ => (match a / 4 with
      | 1 => s.setTw { t with flags := t.flags &&& ~~~(BitVec.ofNat 8 v) }
      | 2 => if bit v 31 then s.setTw { t with framing := false, fKind := 0, fDir := false, fByte := 0, fPos := 0 } else s
      | 3 => s.setTw { t with page := v % 1024 }
      | 4 => s.setTw { t with sqTail := some (v % 4) }
      | 5 => s.setTw { t with cqHead := some (v % 16) }
      | _ => s)
    | .page => (match regOf (t.bar a) with
      | none => s
      | some r => if s.domOn r.domain then s.regWrite .D r v else s.twFlag 5)
    | _ => s

/-- A byte joins the assembly of its word; the word is written at its last byte, if all four came in this transaction. -/
def State.twAssemble (s : State) (a : Nat) (b : Byte) : State :=
  let w := a / 4 * 4
  let got := match s.tw.assembly with
    | some (k, bs) => if k = w then bs ++ [(a % 4, b.toNat)] else [(a % 4, b.toNat)]
    | none => [(a % 4, b.toNat)]
  if a % 4 ≠ 3 then s.setTw { s.tw with assembly := some (w, got) }
  else
    let s := s.setTw { s.tw with assembly := none }
    if (List.range 4).all (fun i => (lookup? got i).isSome) then
      s.twWord w ((List.range 4).map (fun i => (lookup? got i).getD 0 * 256 ^ i)).sum
    else s.twFlag 4

/-- A data byte is committed at a window address (16 R491, R492, R495 to R497). -/
def State.twWriteByte (s : State) (a : Nat) (b : Byte) : State :=
  match twArea a with
  | .local_ => s.twAssemble a b
  | .sq => let s := s.twOther
           s.setTw { s.tw with sq := Sparse.set s.tw.sq a b }
  | .cq => s.twOther
  | .reserved => s.twOther.twFlag 2
  | .page => if twPage s.tw.page = some true then s.twAssemble a b else s.twOther.twFlag 3

/-! Reads. -/

/-- A word of the window's registers is latched unless it was latched earlier in the transaction (16 R497). -/
def State.twLatch (s : State) (a : Nat) : Nat × State :=
  let w := a / 4 * 4
  match lookup? s.tw.latched w with
  | some v => (v, s)
  | none =>
    let r : Nat × State :=
      if w < 0x28 then (s.twLocal w, s)
      else match regOf (s.tw.bar w) with
        | none => (0, s)
        | some r => if s.domOn r.domain then s.readWord .D (s.tw.bar w) else (0, s.twFlag 5)
    (r.1, r.2.setTw { r.2.tw with latched := insertKey r.2.tw.latched w r.1 })

/-- The byte at a window address, and the state after it is read. -/
def State.twReadByte (s : State) (a : Nat) : Byte × State :=
  match twArea a with
  | .local_ => let (v, s) := s.twLatch a
               (BitVec.ofNat 8 (v / 256 ^ (a % 4)), s)
  | .page =>
    if (twPage s.tw.page).isSome then
      let (v, s) := s.twLatch a
      (BitVec.ofNat 8 (v / 256 ^ (a % 4)), s)
    else (0, s)
  | .sq => (Sparse.get s.tw.sq a, s)
  | .cq => (match lookup? s.ports.d.mem ((a - 0x200) / 32) with
    | some e => e.bytes.getD (a % 32) 0
    | none => 0, s)
  | .reserved => (0, s)

/-! Bus events (16 R489 to R494, R499). -/

/-- A transaction ends: a word without its last byte is discarded with PARTIAL, the latch is empty (assumption log 55;
DEDUCED). -/
def State.twEnd (s : State) : State :=
  let part := s.tw.assembly.isSome
  let s := s.setTw { s.tw with phase := .idle, assembly := none, latched := [] }
  if part then s.twFlag 4 else s

/-- TW_START: a START or repeated START with its address byte; the CMD_LINK condition of a stuck bus ends. -/
def State.twStart (s : State) (addr : Nat) (read : Bool) : State :=
  let s := s.twEnd.endCond 0x0B01 0xC3 0xFFFF
  if addr = 0x58 + s.tw.twa then s.setTw { s.tw with phase := if read then .read else .ptr0, count := 0 } else s

/-- A byte has been acknowledged: its index after the address goes up. -/
def Tw.counted (t : Tw) : Tw := { t with count := t.count + 1 }

/-- TW_BYTE_WRITE: a byte of a write transaction is committed (assumption log 55; DEDUCED). -/
def State.twByteWrite (s : State) (b : Byte) : State :=
  let t := s.tw
  match t.phase with
  | .ptr0 => s.setTw { t.counted with phase := .ptr1 b.toNat }
  | .ptr1 hi => s.setTw { t.counted with phase := .write, pointer := hi * 256 + b.toNat }
  | .write => (s.setTw { t.counted with pointer := (t.pointer + 1) % 65536 }).twWriteByte t.pointer b
  | _ => s

/-- TW_BYTE_READ: a byte is sent; after the controller's NACK the target waits for START or STOP. -/
def State.twByteRead (s : State) (ack : Bool) : State :=
  let t := s.tw
  match t.phase with
  | .read =>
    let (b, s) := s.twReadByte t.pointer
    s.setTw { s.tw.counted with out := b, pointer := (t.pointer + 1) % 65536, phase := if ack then .read else .idle }
  | _ => s

/-- Held doorbells of port D take effect (15 R455, R457; 16 R499) (assumption log 55; DEDUCED). -/
def State.twDoorbells (s : State) : State :=
  let t := s.tw
  let s := s.setTw { t with sqTail := none, cqHead := none }
  let s := match t.cqHead with
    | none => s
    | some h =>
      let x := s.ports.d
      let bad := decide (x.ring.length < (h + 16 - x.cqHead) % 16)
      let s := s.cqHead .D h
      if bad then s.twFlag 6 else s
  match t.sqTail with
  | none => s
  | some n => s.sqTail .D n

/-- TW_STOP. -/
def State.twStop (s : State) : State := s.twEnd.twDoorbells.serve

/-- TW_FRAMING_ERROR: a condition at bit position `pos` of a byte in an acknowledged transaction: 0 START, 1 repeated START,
2 STOP. After a START the address byte of the fresh transaction follows as TW_START (assumption log 55; DEDUCED). -/
def State.twFraming (s : State) (pos kind : Nat) : State :=
  let t := s.tw
  if t.phase = .idle || !within 1 9 pos || 2 < kind then s
  else
    let s := s.setTw { t with framing := true, fKind := kind, fDir := decide (t.phase = .read), fByte := min t.count 2047, fPos := pos }
    if kind = 2 then s.twStop else s.twEnd

/-- TW_SCL_LOW and TW_SDA_LOW: a line has been low for 25 ms (16 R494). -/
def State.twStuck (s : State) (flag : Nat) : State := (s.twEnd.twFlag flag).raise 0x0B01 0xC3 0xFFFF 3

/-- TW_SAFE_SEQ_EXPIRY: 10 ms have passed since the first key (16 R500). -/
def State.twExpiry (s : State) : State := if s.tw.seq ≠ 0 && s.tw.seqAt + 10000000 ≤ s.now then s.twBreak else s

end Sys2Proof.Machine
end

