-- ==== Sys2Proof/Machine/TwRows.lean ====
section
/-!
DEFINITION. Rows of the two-wire target (16).
-/
namespace Sys2Proof.Machine

/-- TW_START (R489). A START with a matching address opens a two-wire transaction. -/
def execTwStart (addr : Nat) (read : Bool) (t : Nat) (s : State) : Host.Outcome State Fault Refusal :=
  .next ((s.at_ t).twStart addr read)

/-- TW_BYTE_WRITE (R492). A written byte is committed at its acknowledge. -/
def execTwByteWrite (b : Byte) (t : Nat) (s : State) : Host.Outcome State Fault Refusal := .next ((s.at_ t).twByteWrite b)

/-- TW_BYTE_READ (R497). A byte is read from the pointer, latching its word. -/
def execTwByteRead (ack : Bool) (t : Nat) (s : State) : Host.Outcome State Fault Refusal := .next ((s.at_ t).twByteRead ack)

/-- TW_STOP (R499). A STOP ends the transaction and held doorbells take effect. -/
def execTwStop (t : Nat) (s : State) : Host.Outcome State Fault Refusal := .next ((s.at_ t).twStop)

/-- TW_FRAMING_ERROR (R492). A START or STOP inside a byte discards it and sets FRAMING. -/
def execTwFramingError (pos kind t : Nat) (s : State) : Host.Outcome State Fault Refusal :=
  .next ((s.at_ t).twFraming pos kind)

/-- TW_SCL_LOW (R494). SCL low for 25 ms resets the target to idle. -/
def execTwSclLow (t : Nat) (s : State) : Host.Outcome State Fault Refusal := .next ((s.at_ t).twStuck 0)

/-- TW_SDA_LOW (R494). SDA low for 25 ms resets the target to idle. -/
def execTwSdaLow (t : Nat) (s : State) : Host.Outcome State Fault Refusal := .next ((s.at_ t).twStuck 1)

/-- TW_SAFE_SEQ_EXPIRY (R500). 10 ms pass before the force-safe sequence completes. -/
def execTwSafeSeqExpiry (t : Nat) (s : State) : Host.Outcome State Fault Refusal := .next ((s.at_ t).twExpiry)

end Sys2Proof.Machine
end

