-- ==== Sys2Proof/Machine/Dispatch.lean ====
section
/-!
DEFINITION. Which meaning each command of the block has: one arm per constructor of `Instr`, each one direct call.
-/
namespace Sys2Proof.Machine

/-- The effect of a command on everything but the queue. -/
def exec (i : Instr) (s : State) : Host.Outcome State Fault Refusal :=
  match i with
  | .sampleBoundary => Sys2Proof.Machine.execSampleBoundary s
  | .sstart k tick => Sys2Proof.Machine.execSstart k tick s
  | .scatterComplete k tick => Sys2Proof.Machine.execScatterComplete k tick s
  | .laneComplete lane tick => Sys2Proof.Machine.execLaneComplete lane tick s
  | .park k => Sys2Proof.Machine.execPark k s
  | .scatterDeadline haltTick => Sys2Proof.Machine.execScatterDeadline haltTick s
  | .windowEnd => Sys2Proof.Machine.execWindowEnd s
  | .coldStartEnd k => Sys2Proof.Machine.execColdStartEnd k s
  | .tNop k tick => Sys2Proof.Machine.execTNop k tick s
  | .tEnd k tick => Sys2Proof.Machine.execTEnd k tick s
  | .tBra k tick => Sys2Proof.Machine.execTBra k tick s
  | .tCall k tick => Sys2Proof.Machine.execTCall k tick s
  | .tRet k tick => Sys2Proof.Machine.execTRet k tick s
  | .tRte k tick => Sys2Proof.Machine.execTRte k tick s
  | .tDbnz k tick => Sys2Proof.Machine.execTDbnz k tick s
  | .tTrap k tick => Sys2Proof.Machine.execTTrap k tick s
  | .tRep k tick => Sys2Proof.Machine.execTRep k tick s
  | .tDmac k tick => Sys2Proof.Machine.execTDmac k tick s
  | .tMpy k tick => Sys2Proof.Machine.execTMpy k tick s
  | .tMac k tick => Sys2Proof.Machine.execTMac k tick s
  | .tMsu k tick => Sys2Proof.Machine.execTMsu k tick s
  | .tMpyn k tick => Sys2Proof.Machine.execTMpyn k tick s
  | .tTap k tick => Sys2Proof.Machine.execTTap k tick s
  | .tMov k tick => Sys2Proof.Machine.execTMov k tick s
  | .tAdd k tick => Sys2Proof.Machine.execTAdd k tick s
  | .tSub k tick => Sys2Proof.Machine.execTSub k tick s
  | .tAdds k tick => Sys2Proof.Machine.execTAdds k tick s
  | .tSubs k tick => Sys2Proof.Machine.execTSubs k tick s
  | .tAnd k tick => Sys2Proof.Machine.execTAnd k tick s
  | .tOr k tick => Sys2Proof.Machine.execTOr k tick s
  | .tXor k tick => Sys2Proof.Machine.execTXor k tick s
  | .tNot k tick => Sys2Proof.Machine.execTNot k tick s
  | .tNeg k tick => Sys2Proof.Machine.execTNeg k tick s
  | .tAbs k tick => Sys2Proof.Machine.execTAbs k tick s
  | .tCmp k tick => Sys2Proof.Machine.execTCmp k tick s
  | .tMin k tick => Sys2Proof.Machine.execTMin k tick s
  | .tMax k tick => Sys2Proof.Machine.execTMax k tick s
  | .tTst k tick => Sys2Proof.Machine.execTTst k tick s
  | .tLsl k tick => Sys2Proof.Machine.execTLsl k tick s
  | .tAsr k tick => Sys2Proof.Machine.execTAsr k tick s
  | .tLsr k tick => Sys2Proof.Machine.execTLsr k tick s
  | .tAsls k tick => Sys2Proof.Machine.execTAsls k tick s
  | .tClr k tick => Sys2Proof.Machine.execTClr k tick s
  | .tMova k tick => Sys2Proof.Machine.execTMova k tick s
  | .tAdda k tick => Sys2Proof.Machine.execTAdda k tick s
  | .tSuba k tick => Sys2Proof.Machine.execTSuba k tick s
  | .tNega k tick => Sys2Proof.Machine.execTNega k tick s
  | .tAbsa k tick => Sys2Proof.Machine.execTAbsa k tick s
  | .tAsha k tick => Sys2Proof.Machine.execTAsha k tick s
  | .tExt k tick => Sys2Proof.Machine.execTExt k tick s
  | .tLda k tick => Sys2Proof.Machine.execTLda k tick s
  | .tCmpa k tick => Sys2Proof.Machine.execTCmpa k tick s
  | .tMovc k tick => Sys2Proof.Machine.execTMovc k tick s
  | .tLdiw k tick => Sys2Proof.Machine.execTLdiw k tick s
  | .tDith k tick => Sys2Proof.Machine.execTDith k tick s
  | .undefinedInstruction k tick => Sys2Proof.Machine.execUndefinedInstruction k tick s
  | .eventTaken k => Sys2Proof.Machine.execEventTaken k s
  | .structLoad e source addr len => Sys2Proof.Machine.execStructLoad e source addr len s
  | .structPatch e source addr len => Sys2Proof.Machine.execStructPatch e source addr len s
  | .structCopy e => Sys2Proof.Machine.execStructCopy e s
  | .structCommit e boundary digest8 => Sys2Proof.Machine.execStructCommit e boundary digest8 s
  | .structCancel e handle => Sys2Proof.Machine.execStructCancel e handle s
  | .structDiscard e => Sys2Proof.Machine.execStructDiscard e s
  | .structStatus e => Sys2Proof.Machine.execStructStatus e s
  | .structBootWrite e addr len image => Sys2Proof.Machine.execStructBootWrite e addr len image s
  | .structKeySet e keyId addr key require => Sys2Proof.Machine.execStructKeySet e keyId addr key require s
  | .imageCheckComplete image => Sys2Proof.Machine.execImageCheckComplete image s
  | .imageWriteComplete image => Sys2Proof.Machine.execImageWriteComplete image s
  | .commitLockPoint => Sys2Proof.Machine.execCommitLockPoint s
  | .pathLatency e plane mode path srcKind srcIndex dstKind dstIndex => Sys2Proof.Machine.execPathLatency e plane mode path srcKind srcIndex dstKind dstIndex s
  | .pathLatencyDump e plane addr len => Sys2Proof.Machine.execPathLatencyDump e plane addr len s
  | .slotPeek e slot => Sys2Proof.Machine.execSlotPeek e slot s
  | .saportStatus e port clear => Sys2Proof.Machine.execSaportStatus e port clear s
  | .tileReport e k first count addr => Sys2Proof.Machine.execTileReport e k first count addr s
  | .xpointSet e mode group count addr data => Sys2Proof.Machine.execXpointSet e mode group count addr data s
  | .rampSet e mode group count addr data => Sys2Proof.Machine.execRampSet e mode group count addr data s
  | .tileParamWrite e mode group k mem addr count buf data => Sys2Proof.Machine.execTileParamWrite e mode group k mem addr count buf data s
  | .safeApply e group boundary => Sys2Proof.Machine.execSafeApply e group boundary s
  | .safeDiscard e group force => Sys2Proof.Machine.execSafeDiscard e group force s
  | .safeStatus e group => Sys2Proof.Machine.execSafeStatus e group s
  | .safeLockPoint group => Sys2Proof.Machine.execSafeLockPoint group s
  | .xpointGet e plane inSlot sum => Sys2Proof.Machine.execXpointGet e plane inSlot sum s
  | .sumStatus e sum clear => Sys2Proof.Machine.execSumStatus e sum clear s
  | .rampStatus e ramp => Sys2Proof.Machine.execRampStatus e ramp s
  | .delayStatus e clear => Sys2Proof.Machine.execDelayStatus e clear s
  | .delayLineStatus e plane line => Sys2Proof.Machine.execDelayLineStatus e plane line s
  | .delayMemConfig e rate scrubMin => Sys2Proof.Machine.execDelayMemConfig e rate scrubMin s
  | .delayMemRetrain e => Sys2Proof.Machine.execDelayMemRetrain e s
  | .delayBlockRead line block due errs late t => Sys2Proof.Machine.execDelayBlockRead line block due errs late t s
  | .delayScrubRead block errs => Sys2Proof.Machine.execDelayScrubRead block errs s
  | .dmTrainingDone mr8 pass step => Sys2Proof.Machine.execDmTrainingDone mr8 pass step s
  | .dmTrainingRetry => Sys2Proof.Machine.execDmTrainingRetry s
  | .dmDownTimer => Sys2Proof.Machine.execDmDownTimer s
  | .dmMr4Read refresh hot => Sys2Proof.Machine.execDmMr4Read refresh hot s
  | .dmTrackingRead => Sys2Proof.Machine.execDmTrackingRead s
  | .dmPllLockLoss => Sys2Proof.Machine.execDmPllLockLoss s
  | .netPortConfig e lane cfg persist revertS confirm => Sys2Proof.Machine.execNetPortConfig e lane cfg persist revertS confirm s
  | .netQueueConfig e port queue rsv qmax persist => Sys2Proof.Machine.execNetQueueConfig e port queue rsv qmax persist s
  | .netSwitchConfig e etherType hbDa nodeMac ageS persist => Sys2Proof.Machine.execNetSwitchConfig e etherType hbDa nodeMac ageS persist s
  | .netStreamFwd e count addr data => Sys2Proof.Machine.execNetStreamFwd e count addr data s
  | .netMacSet e count addr data => Sys2Proof.Machine.execNetMacSet e count addr data s
  | .netFrrSet e lane backup restoreMs persist => Sys2Proof.Machine.execNetFrrSet e lane backup restoreMs persist s
  | .netFwdGet e kind key sub => Sys2Proof.Machine.execNetFwdGet e kind key sub s
  | .netCounters e port clear first addr => Sys2Proof.Machine.execNetCounters e port clear first addr s
  | .netRevert lane t => Sys2Proof.Machine.execNetRevert lane t s
  | .rateSearchDwell lane t => Sys2Proof.Machine.execRateSearchDwell lane t s
  | .pcsLockHeld lane t => Sys2Proof.Machine.execPcsLockHeld lane t s
  | .pcsLockLost lane t => Sys2Proof.Machine.execPcsLockLost lane t s
  | .heartbeatTx lane t => Sys2Proof.Machine.execHeartbeatTx lane t s
  | .heartbeatRx lane hb t => Sys2Proof.Machine.execHeartbeatRx lane hb t s
  | .heartbeatMiss lane t => Sys2Proof.Machine.execHeartbeatMiss lane t s
  | .dampedClear lane t => Sys2Proof.Machine.execDampedClear lane t s
  | .frrRestore lane t => Sys2Proof.Machine.execFrrRestore lane t s
  | .macAgeOut mac vid t => Sys2Proof.Machine.execMacAgeOut mac vid t s
  | .frameRx lane f => Sys2Proof.Machine.execFrameRx lane f s
  | .frameTxDone lane t sub ecc => Sys2Proof.Machine.execFrameTxDone lane t sub ecc s
  | .largeSend lane queue mss kind header payload => Sys2Proof.Machine.execLargeSend lane queue mss kind header payload s
  | .cpFrameSend lane queue bytes op report => Sys2Proof.Machine.execCpFrameSend lane queue bytes op report s
  | .streamFrameRx => Sys2Proof.Machine.execStreamFrameRx s
  | .belayCompareExpiry streamId media => Sys2Proof.Machine.execBelayCompareExpiry streamId media s
  | .aes67PacketRx => Sys2Proof.Machine.execAes67PacketRx s
  | .cmdFrameRx => Sys2Proof.Machine.execCmdFrameRx s
  | .cmdReplyFlush t => Sys2Proof.Machine.execCmdReplyFlush t s
  | .streamStatus e dir id clear => Sys2Proof.Machine.execStreamStatus e dir id clear s
  | .belayStatus e clear => Sys2Proof.Machine.execBelayStatus e clear s
  | .aes67Bind e count addr data => Sys2Proof.Machine.execAes67Bind e count addr data s
  | .ptpMessageRx lane f fw => Sys2Proof.Machine.execPtpMessageRx lane f fw s
  | .timeGet e => Sys2Proof.Machine.execTimeGet e s
  | .ptpConfig e mode profile domain prio1 prio2 twoStep persist => Sys2Proof.Machine.execPtpConfig e mode profile domain prio1 prio2 twoStep persist s
  | .ptpPortConfig e lane cfg persist => Sys2Proof.Machine.execPtpPortConfig e lane cfg persist s
  | .tsCalSet e lane mode calRx calTx persist => Sys2Proof.Machine.execTsCalSet e lane mode calRx calTx persist s
  | .ptpStatus e lane clear => Sys2Proof.Machine.execPtpStatus e lane clear s
  | .ppsOutConfig e en width persist => Sys2Proof.Machine.execPpsOutConfig e en width persist s
  | .tsSnap f t => Sys2Proof.Machine.execTsSnap f t s
  | .ppsOutEdge t => Sys2Proof.Machine.execPpsOutEdge t s
  | .tsCalTimeout lane t => Sys2Proof.Machine.execTsCalTimeout lane t s
  | .ptpServoUpdate lane errNs t => Sys2Proof.Machine.execPtpServoUpdate lane errNs t s
  | .ppsInEdge errNs devNs t => Sys2Proof.Machine.execPpsInEdge errNs devNs t s
  | .refEvaluation m t => Sys2Proof.Machine.execRefEvaluation m t s
  | .refWindowEnd long offsets t => Sys2Proof.Machine.execRefWindowEnd long offsets t s
  | .esmcPduTx lane t => Sys2Proof.Machine.execEsmcPduTx lane t s
  | .refStatusGet e clear => Sys2Proof.Machine.execRefStatusGet e clear s
  | .refCandConfig e cand lockout rxQl persist => Sys2Proof.Machine.execRefCandConfig e cand lockout rxQl persist s
  | .refOscTrimSet e trim persist => Sys2Proof.Machine.execRefOscTrimSet e trim persist s
  | .mediaRealign e => Sys2Proof.Machine.execMediaRealign e s
  | .mclkConfig e wclkEn mult0 mult1 persist => Sys2Proof.Machine.execMclkConfig e wclkEn mult0 mult1 persist s
  | .esmcConfig e lane synceTx esmcTx persist => Sys2Proof.Machine.execEsmcConfig e lane synceTx esmcTx persist s
  | .modulatorTick n cs vs rs scr t => Sys2Proof.Machine.execModulatorTick n cs vs rs scr t s
  | .tripQualify ch peak t => Sys2Proof.Machine.execTripQualify ch peak t s
  | .limitQualify ch pos t => Sys2Proof.Machine.execLimitQualify ch pos t s
  | .safeNFall t => Sys2Proof.Machine.execSafeNFall t s
  | .safeNRelease t => Sys2Proof.Machine.execSafeNRelease t s
  | .hiccupExpiry ch t => Sys2Proof.Machine.execHiccupExpiry ch t s
  | .softStartEnd ch => Sys2Proof.Machine.execSoftStartEnd ch s
  | .stopRampEnd ch => Sys2Proof.Machine.execStopRampEnd ch s
  | .dcBlockEnd ch => Sys2Proof.Machine.execDcBlockEnd ch s
  | .railOutOfLimits rail reading t => Sys2Proof.Machine.execRailOutOfLimits rail reading t s
  | .railWithinLimits rail reading t => Sys2Proof.Machine.execRailWithinLimits rail reading t s
  | .converterSelfCheck conv pass t => Sys2Proof.Machine.execConverterSelfCheck conv pass t s
  | .calSweep trims t => Sys2Proof.Machine.execCalSweep trims t s
  | .pstageStatus e ch clear => Sys2Proof.Machine.execPstageStatus e ch clear s
  | .pstageClear e mask => Sys2Proof.Machine.execPstageClear e mask s
  | .pstageStop e mask => Sys2Proof.Machine.execPstageStop e mask s
  | .pstageStart e mask => Sys2Proof.Machine.execPstageStart e mask s
  | .pstageRailConfig e rail rsFs nom uv ov persist => Sys2Proof.Machine.execPstageRailConfig e rail rsFs nom uv ov persist s
  | .pstageLoopConfig e ch kp ki vsFs persist => Sys2Proof.Machine.execPstageLoopConfig e ch kp ki vsFs persist s
  | .faultDecision ext t => Sys2Proof.Machine.execFaultDecision ext t s
  | .conditionCleared ext t => Sys2Proof.Machine.execConditionCleared ext t s
  | .settleTimerExpiry slot t => Sys2Proof.Machine.execSettleTimerExpiry slot t s
  | .recoveryStart slot t => Sys2Proof.Machine.execRecoveryStart slot t s
  | .recoverySuccess slot t => Sys2Proof.Machine.execRecoverySuccess slot t s
  | .recoveryTimeout slot t => Sys2Proof.Machine.execRecoveryTimeout slot t s
  | .faultNPulseEnd t => Sys2Proof.Machine.execFaultNPulseEnd t s
  | .overflowClear t => Sys2Proof.Machine.execOverflowClear t s
  | .watchdogExpiry pc t => Sys2Proof.Machine.execWatchdogExpiry pc t s
  | .faultStatus e => Sys2Proof.Machine.execFaultStatus e s
  | .faultEpisodeGet e id slot => Sys2Proof.Machine.execFaultEpisodeGet e id slot s
  | .faultLogRead e start count consume addr => Sys2Proof.Machine.execFaultLogRead e start count consume addr s
  | .faultClear e id action => Sys2Proof.Machine.execFaultClear e id action s
  | .faultAck e id => Sys2Proof.Machine.execFaultAck e id s
  | .faultPinConfig e stretch pinSev holdMode force settleMs persist => Sys2Proof.Machine.execFaultPinConfig e stretch pinSev holdMode force settleMs persist s
  | .faultInject e zone detector data => Sys2Proof.Machine.execFaultInject e zone detector data s
  | .cmdSqTail f tail => Sys2Proof.Machine.execCmdSqTail f tail s
  | .cmdCqHead f head => Sys2Proof.Machine.execCmdCqHead f head s
  | .portEnable f => Sys2Proof.Machine.execPortEnable f s
  | .portDisable f => Sys2Proof.Machine.execPortDisable f s
  | .pcieDmaError f ring index handle => Sys2Proof.Machine.execPcieDmaError f ring index handle s
  | .pcieLinkDown f flr => Sys2Proof.Machine.execPcieLinkDown f flr s
  | .pciePerst f => Sys2Proof.Machine.execPciePerst f s
  | .cqFullTimeout f t => Sys2Proof.Machine.execCqFullTimeout f t s
  | .devIdentity e => Sys2Proof.Machine.execDevIdentity e s
  | .devNodeIdSet e node persist => Sys2Proof.Machine.execDevNodeIdSet e node persist s
  | .cmdAbort e handle => Sys2Proof.Machine.execCmdAbort e handle s
  | .cmdPortPrivSet e port groups privs persist => Sys2Proof.Machine.execCmdPortPrivSet e port groups privs persist s
  | .cmdKeySet e keyId addr key groups privs => Sys2Proof.Machine.execCmdKeySet e keyId addr key groups privs s
  | .cmdPortStatus e port clear => Sys2Proof.Machine.execCmdPortStatus e port clear s
  | .cmdEcho e bytes => Sys2Proof.Machine.execCmdEcho e bytes s
  | .twStart addr read t => Sys2Proof.Machine.execTwStart addr read t s
  | .twByteWrite b t => Sys2Proof.Machine.execTwByteWrite b t s
  | .twByteRead ack t => Sys2Proof.Machine.execTwByteRead ack t s
  | .twStop t => Sys2Proof.Machine.execTwStop t s
  | .twFramingError pos kind t => Sys2Proof.Machine.execTwFramingError pos kind t s
  | .twSclLow t => Sys2Proof.Machine.execTwSclLow t s
  | .twSdaLow t => Sys2Proof.Machine.execTwSdaLow t s
  | .twSafeSeqExpiry t => Sys2Proof.Machine.execTwSafeSeqExpiry t s
  | .fwStatus e => Sys2Proof.Machine.execFwStatus e s
  | .fwStage e addr len resume image => Sys2Proof.Machine.execFwStage e addr len resume image s
  | .fwStageDiscard e => Sys2Proof.Machine.execFwStageDiscard e s
  | .fwActivate e windowS requireHost => Sys2Proof.Machine.execFwActivate e windowS requireHost s
  | .fwActivateCopyDone ok t => Sys2Proof.Machine.execFwActivateCopyDone ok t s
  | .ucodeReload t => Sys2Proof.Machine.execUcodeReload t s
  | .fwConfirm e => Sys2Proof.Machine.execFwConfirm e s
  | .fwRevert e => Sys2Proof.Machine.execFwRevert e s
  | .flashLogRead e start count addr => Sys2Proof.Machine.execFlashLogRead e start count addr s
  | .trialHealthEvaluation other t => Sys2Proof.Machine.execTrialHealthEvaluation other t s
  | .trialTimerExpiry t => Sys2Proof.Machine.execTrialTimerExpiry t s
  | .firmwareBoot spi t => Sys2Proof.Machine.execFirmwareBoot spi t s
  | .flashLogCopy t => Sys2Proof.Machine.execFlashLogCopy t s
  | .healthStatus e => Sys2Proof.Machine.execHealthStatus e s
  | .ageingReport e addr => Sys2Proof.Machine.execAgeingReport e addr s
  | .selftestTile e k => Sys2Proof.Machine.execSelftestTile e k s
  | .selftestResult e queue => Sys2Proof.Machine.execSelftestResult e queue s
  | .selftestCancel e byTile id => Sys2Proof.Machine.execSelftestCancel e byTile id s
  | .tileMigrate e k => Sys2Proof.Machine.execTileMigrate e k s
  | .maintEnter e => Sys2Proof.Machine.execMaintEnter e s
  | .maintExit e => Sys2Proof.Machine.execMaintExit e s
  | .selftestFull e mask => Sys2Proof.Machine.execSelftestFull e mask s
  | .calConfig e interval persist => Sys2Proof.Machine.execCalConfig e interval persist s
  | .migrationPass1End q => Sys2Proof.Machine.execMigrationPass1End q s
  | .migrationPass2End q => Sys2Proof.Machine.execMigrationPass2End q s
  | .selftestEnd q mismatch uncorr corr itimePs => Sys2Proof.Machine.execSelftestEnd q mismatch uncorr corr itimePs s
  | .ageingMeasurement freqs eyes => Sys2Proof.Machine.execAgeingMeasurement freqs eyes s
  | .stressAccumulate temps => Sys2Proof.Machine.execStressAccumulate temps s
  | .dailyHealth eolLow => Sys2Proof.Machine.execDailyHealth eolLow s
  | .softReset e => Sys2Proof.Machine.execSoftReset e s
  | .engineRestart e => Sys2Proof.Machine.execEngineRestart e s
  | .chipReset e => Sys2Proof.Machine.execChipReset e s
  | .devDomainSet e onMask offMask persist => Sys2Proof.Machine.execDevDomainSet e onMask offMask persist s
  | .devPowerStatus e clear => Sys2Proof.Machine.execDevPowerStatus e clear s
  | .domainRampOnDone d t => Sys2Proof.Machine.execDomainRampOnDone d t s
  | .domainRampOnFail d t => Sys2Proof.Machine.execDomainRampOnFail d t s
  | .domainRampOffDone d t => Sys2Proof.Machine.execDomainRampOffDone d t s
  | .powerOnReset rail v twa t => Sys2Proof.Machine.execPowerOnReset rail v twa t s
  | .resetNFall t => Sys2Proof.Machine.execResetNFall t s
  | .resetNRise t => Sys2Proof.Machine.execResetNRise t s
  | .oscInDetected freq t => Sys2Proof.Machine.execOscInDetected freq t s
  | .oscInLoss t => Sys2Proof.Machine.execOscInLoss t s
  | .avsEnSet f t => Sys2Proof.Machine.execAvsEnSet f t s
  | .avsEnClear f t => Sys2Proof.Machine.execAvsEnClear f t s
  | .avsHoldSet f t => Sys2Proof.Machine.execAvsHoldSet f t s
  | .avsHoldClear f t => Sys2Proof.Machine.execAvsHoldClear f t s
  | .avsCtrlWrite f target vmin vmax t => Sys2Proof.Machine.execAvsCtrlWrite f target vmin vmax t s
  | .avsHoldTimerExpiry t => Sys2Proof.Machine.execAvsHoldTimerExpiry t s
  | .avsVoltageRead mv t => Sys2Proof.Machine.execAvsVoltageRead mv t s
  | .avsConfirmTimeout t => Sys2Proof.Machine.execAvsConfirmTimeout t s
  | .avsWriteRetry t => Sys2Proof.Machine.execAvsWriteRetry t s
  | .avsFailedRetry t => Sys2Proof.Machine.execAvsFailedRetry t s
  | .saportFrame port isEnd words fs t => Sys2Proof.Machine.execSaportFrame port isEnd words fs t s
  | .saportFsTimeout port => Sys2Proof.Machine.execSaportFsTimeout port s
  | .accessKeyWrite f block key t => Sys2Proof.Machine.execAccessKeyWrite f block key t s
  | .accessUnlockExpiry f block t => Sys2Proof.Machine.execAccessUnlockExpiry f block t s
  | .fltPinCtrlWrite f value t => Sys2Proof.Machine.execFltPinCtrlWrite f value t s
  | .rcRegisterRead f off t => Sys2Proof.Machine.execRcRegisterRead f off t s
  | .registerWrite f off value width t => Sys2Proof.Machine.execRegisterWrite f off value width t s
  | .commandTimeout p handle => Sys2Proof.Machine.execCommandTimeout p handle s
  | .flashOperationDone ok sectors t => Sys2Proof.Machine.execFlashOperationDone ok sectors t s
  | .selftestFullEnd tiles lanes mem => Sys2Proof.Machine.execSelftestFullEnd tiles lanes mem s
  | .pcieLinkUp f => Sys2Proof.Machine.execPcieLinkUp f s
  | .announceReceiptTimeout lane => Sys2Proof.Machine.execAnnounceReceiptTimeout lane s
  | .tsCalibrationComplete lane t => Sys2Proof.Machine.execTsCalibrationComplete lane t s
  | .hardwareHoldover => Sys2Proof.Machine.execHardwareHoldover s

end Sys2Proof.Machine
end

