-- ==== Sys2Proof/Machine/TileEncode.lean ====
section
/-!
DEFINITION. The tile word of an operation and two moves, from the encoding tables of 06 (R182 to R205): the other direction of
TileDecode.
-/
namespace Sys2Proof.Machine

/-- A register number as a field of 2 bits. -/
def f2 (i : Fin 4) : BitVec 2 := BitVec.ofNat 2 i.val
/-- A register number as a field of 3 bits. -/
def f3 (i : Fin 8) : BitVec 3 := BitVec.ofNat 3 i.val
/-- A field of 1 bit. -/
def f1 (b : Bool) : BitVec 1 := BitVec.ofBool b

/-- The code of a control register (06 R203); 30 stands for a code that names none. -/
def crCode : Option TReg → BitVec 5
  | some (.ax i) => 0b000#3 ++ f2 i | some (.ay i) => 0b001#3 ++ f2 i | some (.mx i) => 0b010#3 ++ f2 i
  | some (.my i) => 0b011#3 ++ f2 i | some (.lx i) => 0b100#3 ++ f2 i | some (.ly i) => 0b101#3 ++ f2 i
  | some .amode => 24#5 | some .sr => 25#5 | some .lc => 26#5 | some .evmask => 27#5 | some .evpend => 28#5
  | some .evvec => 29#5 | some (.d _) => 30#5 | none => 30#5

/-- The sub-operation code of a data ALU operation (06 R201). -/
def AluOp.code : AluOp → BitVec 4
  | .mov => 0 | .add => 1 | .sub => 2 | .adds => 3 | .subs => 4 | .and => 5 | .or => 6 | .xor => 7 | .not => 8 | .neg => 9
  | .abs => 10 | .cmp => 11 | .min => 12 | .max => 13 | .tst => 14

/-- The sub-operation code of an operation on two accumulators (06 R200). -/
def AccOp.code : AccOp → BitVec 4
  | .mova => 1 | .adda => 2 | .suba => 3 | .nega => 4 | .absa => 5

/-- The KIND of a single multiply (06 R196). -/
def MulOp.code : MulOp → BitVec 2
  | .mpy => 0 | .mac => 1 | .msu => 2 | .mpyn => 3

/-- The KIND of a shift (06 R202). -/
def ShiftOp.code : ShiftOp → BitVec 2
  | .lsl => 0 | .asr => 1 | .lsr => 2 | .asls => 3

/-- The 16 bits of the operation field (06 R185 to R205): the group in bits [15:12]. -/
def TOp.field : TOp → BitVec 16
  | .nop => 0x0000#16
  | .tend => 0x0100#16
  | .bra cc _ => 0x02#8 ++ BitVec.ofNat 4 cc.val ++ 0#4
  | .call cc _ => 0x03#8 ++ BitVec.ofNat 4 cc.val ++ 0#4
  | .ret cc => 0x04#8 ++ BitVec.ofNat 4 cc.val ++ 0#4
  | .rte => 0x0500#16
  | .dbnz _ => 0x0600#16
  | .trap => 0x0700#16
  | .repImm n => 0x1#4 ++ 0#2 ++ BitVec.ofNat 10 (n - 1)
  | .repReg r => 0x1#4 ++ 1#1 ++ 0#8 ++ f3 r
  | .dmac pair s0 s1 fresh p q r s =>
    (if pair then 0x3#4 else 0x2#4) ++ f1 s0 ++ f1 s1 ++ f1 fresh ++ f2 p ++ f2 q ++ f2 r ++ f2 s ++ 0#1
  | .mul op i p q => 0x4#4 ++ op.code ++ f2 i ++ f3 p ++ f3 q ++ 0#2
  | .tap i n m sub xm ym => 0x5#4 ++ f2 i ++ f2 n ++ f2 m ++ f1 sub ++ f2 xm ++ f2 ym ++ 0#1
  | .alu op dd ds => 0x6#4 ++ op.code ++ f3 dd ++ f3 ds ++ 0#2
  | .shift op (.imm n) dd => 0x7#4 ++ op.code ++ 0#1 ++ f3 dd ++ 0#1 ++ BitVec.ofNat 5 n.val
  | .shift op (.reg r) dd => 0x7#4 ++ op.code ++ 1#1 ++ f3 dd ++ 0#3 ++ f3 r
  | .clr i => 0x80#8 ++ f2 i ++ 0#6
  | .acc op i j => 0x8#4 ++ op.code ++ f2 i ++ f2 j ++ 0#4
  | .asha i sh => 0x86#8 ++ f2 i ++ BitVec.ofInt 6 sh
  | .ext i d e => 0x87#8 ++ f2 i ++ f3 d ++ f2 e ++ 0#1
  | .lda i d e => 0x88#8 ++ f2 i ++ f3 d ++ f2 e ++ 0#1
  | .cmpa i j => 0x89#8 ++ f2 i ++ f2 j ++ 0#4
  | .movc toC d r => 0x9#4 ++ f1 toC ++ f3 d ++ crCode r ++ 0#3
  | .ldiw (some (.d i)) _ => 0xA#4 ++ 0#1 ++ f3 i ++ 0#8
  | .ldiw t _ => 0xA#4 ++ 1#1 ++ crCode t ++ 0#6
  | .dith dd j => 0xB#4 ++ 0#1 ++ f3 dd ++ j

/-- The word bits [47:0] that an operation itself uses (06 R192, R204): a target in the X field, an immediate; 0 where it uses
none, and the moves of the word stand there. -/
def TOp.rest : TOp → BitVec 48
  | .bra _ t => 0#10 ++ t ++ 0#24
  | .call _ t => 0#10 ++ t ++ 0#24
  | .dbnz t => 0#10 ++ t ++ 0#24
  | .ldiw _ imm => imm ++ 0#16
  | _ => 0

/-- The word of an operation without moves. -/
def TOp.word (op : TOp) : PWord := op.field ++ op.rest

/-- An operation that the encoding can write: a count of 1 to 1,024, a shift of 6 bits signed, a control register with a code. -/
def TOp.wf : TOp → Bool
  | .repImm n => within 1 1024 n
  | .asha _ sh => decide (-32 ≤ sh) && decide (sh ≤ 31)
  | .movc _ _ (some (.d _)) => false
  | _ => true

/-- An operation of a word in which both move fields are free for moves (06 R182, R187). -/
def TOp.freeMoves : TOp → Bool
  | .bra .. => false | .call .. => false | .dbnz .. => false | .ldiw .. => false | .tap .. => false
  | _ => true

/-- The KIND of a pointer register (06 R186). -/
def PtrKind.code : PtrKind → BitVec 2
  | .an => 0 | .mn => 1 | .ln => 2

/-- The 24 bits of a move field (06 R186): the form in bits [23:21]. -/
def TMove.field : TMove → MoveField
  | .nop => 0
  | .ind store d n mode => 1#3 ++ f1 store ++ f3 d ++ f2 n ++ f2 mode ++ 0#13
  | .accind i e n mode => 2#3 ++ f2 i ++ f2 e ++ f2 n ++ f2 mode ++ 0#13
  | .abs store d addr => 3#3 ++ f1 store ++ f3 d ++ 0#3 ++ addr
  | .accabs i e addr => 4#3 ++ f2 i ++ f2 e ++ 0#3 ++ addr
  | .ptrld k j n mode => 5#3 ++ k.code ++ f2 j ++ f2 n ++ f2 mode ++ 0#13
  | .ptrimm k j imm => 6#3 ++ k.code ++ f2 j ++ 0#3 ++ imm
  | .xfer dst src => 7#3 ++ BitVec.ofNat 5 dst.val ++ BitVec.ofNat 5 src.val ++ 0#11

/-- The word of an operation that leaves both fields free, with an X move and a Y move. -/
def tileWord (op : TOp) (x y : TMove) : PWord := op.field ++ x.field ++ y.field

end Sys2Proof.Machine
end

