-- ==== Sys2Proof/Safety.lean ====
section
/-!
DEFINITION. What counts as a safe run, in the terms that claims use: the canonical form of the memories, the bounds that the
manual gives to queues and logs, and the safe state of the outputs.
-/
namespace Sys2Proof.Machine

/-- A step that answers a next state. -/
def completes (i : Instr) (s : State) : Prop := ∃ t, exec i s = .next t

/-- The memories of a tile are in canonical form, so that equal memories are equal data. -/
def Tile.memWf (t : Tile) : Bool := t.pLive.wf && t.pShadow.wf && t.x.wf && t.y.wf

/-- The read half of the exchange is in canonical form. -/
def Exch.wf (e : Exch) : Bool := Sparse.wf e.readHalf

/-- Every addressed memory of the block is in canonical form: P, X and Y of every tile, and the read half of the exchange. -/
def State.memOk (s : State) : Prop := s.ex.wf = true ∧ ∀ k, (s.tile k).memWf = true

/-! Tiles. -/

/-- The register context of a task of physical tile `k`. -/
def State.ctx (s : State) (k : Nat) (bg : Bool) : TCtx := (s.tile k).ctx bg

/-- Physical tile `k` runs the task `bg` with no event due, its memories hold no bit error, and the word at its program
counter is `w`: the next thing it does is to execute `w` (05 R145, R163, R171). No PARK waits on the background: a boundary
at which the background parks brings the loads of its last instruction into their registers as well (05 R174). -/
structure State.tileAt (s : State) (k : Nat) (bg : Bool) (w : PWord) : Prop where
  task : (s.tile k).task = some bg
  quiet : (s.tile k).eventDue bg = false
  clean : (s.tile k).ecc = []
  word : (s.tile k).pLive.get (s.ctx k bg).pc.toNat = w
  stay : bg = true → (s.tile k).parkPend = false

/-- The tile stands neither in a delay slot nor in a repetition, so that transfers, REP and END are legal (05 R167). -/
def State.tileFree (s : State) (k : Nat) (bg : Bool) : Prop := (s.ctx k bg).delay = none ∧ (s.ctx k bg).rep = 0

/-- The context of a task with the loads of its last instruction in their registers (05 R163). -/
def State.landed (s : State) (k : Nat) (bg : Bool) : TCtx := (s.ctx k bg).applyLoads (s.ctx k bg).loads

/-- The flags Z, N, V and C of a status word (05 R155). -/
def zf (sr : BitVec 32) : Bool := sr.getLsbD 0
/-- The flag N (05 R155). -/
def nf (sr : BitVec 32) : Bool := sr.getLsbD 1
/-- The flag V (05 R155). -/
def vf (sr : BitVec 32) : Bool := sr.getLsbD 2
/-- The flag C (05 R155). -/
def cf (sr : BitVec 32) : Bool := sr.getLsbD 3

/-- The number clamped to the range of `n` bits, signed (05 R156, 06 R201). -/
def sat (n : Nat) (x : Int) : Int := max (-2 ^ (n - 1)) (min (2 ^ (n - 1) - 1) x)

/-- `n` bits of the operation field of a tile word, from bit `lo` up (06 R182: the field is word bits [63:48]). -/
def opBits (w : PWord) (lo n : Nat) : Nat := w.toNat / 2 ^ (48 + lo) % 2 ^ n

/-- From `s` to `t` the instruction wrote `v` to data register `i` and nothing else among data registers and accumulators;
Z and N are those of `v`, and V and C as given. -/
structure State.dGot (s t : State) (k : Nat) (bg : Bool) (i : Fin 8) (v : DWord) (V C : Bool) : Prop where
  d : (t.ctx k bg).d = (s.landed k bg).d.set i v
  a : (t.ctx k bg).a = (s.landed k bg).a
  zEq : zf (t.ctx k bg).sr = decide (v = 0)
  nEq : nf (t.ctx k bg).sr = v.msb
  vEq : vf (t.ctx k bg).sr = V
  cEq : cf (t.ctx k bg).sr = C

/-- From `s` to `t` the instruction wrote no data register and no accumulator; Z and N are those of `v`, and V and C as given. -/
structure State.flagsGot (s t : State) (k : Nat) (bg : Bool) (v : DWord) (V C : Bool) : Prop where
  d : (t.ctx k bg).d = (s.landed k bg).d
  a : (t.ctx k bg).a = (s.landed k bg).a
  zEq : zf (t.ctx k bg).sr = decide (v = 0)
  nEq : nf (t.ctx k bg).sr = v.msb
  vEq : vf (t.ctx k bg).sr = V
  cEq : cf (t.ctx k bg).sr = C

/-- The clamped accumulator of a number. -/
def accOfInt (v : Int) : Acc := BitVec.ofInt 80 (sat 80 v)
/-- Whether a number lies outside the range of an accumulator. -/
def accClips (v : Int) : Bool := decide (sat 80 v ≠ v)

/-- From `s` to `t` the instruction wrote the clamped `v` to accumulator `i` and nothing else among data registers and
accumulators; V says whether it clamped, and a clamp sets SATi and makes the SAT event pending; C is unchanged. -/
structure State.aGot (s t : State) (k : Nat) (bg : Bool) (i : Fin 4) (v : Int) : Prop where
  a : (t.ctx k bg).a = (s.landed k bg).a.set i (accOfInt v)
  d : (t.ctx k bg).d = (s.landed k bg).d
  vEq : vf (t.ctx k bg).sr = accClips v
  cEq : cf (t.ctx k bg).sr = cf (s.landed k bg).sr
  sat : (t.ctx k bg).sr.getLsbD (4 + i) = ((s.landed k bg).sr.getLsbD (4 + i) || accClips v)
  ev : accClips v = true → (t.ctx k bg).evpend.getLsbD 2 = true

/-- Z and N of a context are those of an accumulator value. -/
def State.znAcc (t : State) (k : Nat) (bg : Bool) (v : Int) : Prop :=
  zf (t.ctx k bg).sr = decide (accOfInt v = 0) ∧ nf (t.ctx k bg).sr = (accOfInt v).msb

/-- Z and N of a context are as the last instruction left them. -/
def State.znKept (s t : State) (k : Nat) (bg : Bool) : Prop :=
  zf (t.ctx k bg).sr = zf (s.landed k bg).sr ∧ nf (t.ctx k bg).sr = nf (s.landed k bg).sr

/-- From `s` to `t` the instruction changed no data register, no accumulator and no flag. -/
structure State.nothingGot (s t : State) (k : Nat) (bg : Bool) : Prop where
  d : (t.ctx k bg).d = (s.landed k bg).d
  a : (t.ctx k bg).a = (s.landed k bg).a
  znEq : s.znKept t k bg
  vEq : vf (t.ctx k bg).sr = vf (s.landed k bg).sr
  cEq : cf (t.ctx k bg).sr = cf (s.landed k bg).sr

/-- The control registers in the order of their codes 0 to 29 (06 R203). -/
def crTable : List TReg :=
  [.ax 0, .ax 1, .ax 2, .ax 3, .ay 0, .ay 1, .ay 2, .ay 3, .mx 0, .mx 1, .mx 2, .mx 3, .my 0, .my 1, .my 2, .my 3,
   .lx 0, .lx 1, .lx 2, .lx 3, .ly 0, .ly 1, .ly 2, .ly 3, .amode, .sr, .lc, .evmask, .evpend, .evvec]

/-- From `s` to `t` an operation wrote `v` to a register (06 R203, R204): the low bits of its width, SR without TASK and the
reserved bits, EVPEND cleared where `v` has ones. Of SR, MSAT may stand set by a clamp in a move field, and with it SAT in
EVPEND. -/
def State.crGot (s t : State) (k : Nat) (bg : Bool) (v : DWord) : TReg → Prop
  | .d i => (t.ctx k bg).d = (s.landed k bg).d.set i v
  | .ax i => (t.ctx k bg).ax[i] = v.setWidth 14
  | .ay i => (t.ctx k bg).ay[i] = v.setWidth 14
  | .mx i => (t.ctx k bg).mx[i] = v.setWidth 14
  | .my i => (t.ctx k bg).my[i] = v.setWidth 14
  | .lx i => (t.ctx k bg).lx[i] = v.setWidth 14
  | .ly i => (t.ctx k bg).ly[i] = v.setWidth 14
  | .amode => (t.ctx k bg).amode = v.setWidth 8
  | .lc => (t.ctx k bg).lc = v.setWidth 16
  | .evmask => (t.ctx k bg).evmask = v &&& 0xC#32
  | .evvec => (t.ctx k bg).evvec = v &&& 0x3FF8#32
  | .evpend => (t.ctx k bg).evpend.getLsbD 3 = ((s.landed k bg).evpend.getLsbD 3 && !v.getLsbD 3)
  | .sr => ∀ b, b < 32 → b ≠ 8 → (t.ctx k bg).sr.getLsbD b =
      (if b = 11 then (s.landed k bg).sr.getLsbD 11 else if b < 14 then v.getLsbD b else false)

/-- The exact value of an extraction before its clamp, from the exact accumulator value (06 R199). -/
def extExact (a : Int) (sh rnd : Nat) : Int :=
  if (rnd = 1 ∧ 2 ^ (sh - 1) ≤ a % 2 ^ sh) ∨
      (rnd = 2 ∧ (2 ^ (sh - 1) < a % 2 ^ sh ∨ (a % 2 ^ sh = 2 ^ (sh - 1) ∧ a / 2 ^ sh % 2 = 1))) then a / 2 ^ sh + 1
  else a / 2 ^ sh

/-- The shift of an extraction point (06 R199). -/
def extPoint (e : Nat) : Nat := [32, 30, 27, 24].getD e 0

/-- A transfer has been issued (06 R192, 05 R165): two delay slots follow, then the target, or the instruction after them. -/
def State.transferred (s t : State) (k : Nat) (bg : Bool) (target : Option TAddr) : Prop :=
  (t.ctx k bg).pc = (s.ctx k bg).pc + 1 ∧ (t.ctx k bg).delay = some ⟨2, target⟩ ∧ (t.ctx k bg).rep = 0

/-- A report of a code with a DATA word has been added to the reports that wait for the fault controller. -/
def State.reported (s t : State) (code zone elem data : Nat) : Prop :=
  ⟨code, zone, elem, data, false, t.now / 10⟩ ∈ t.flt.reports ∧ ∃ l, t.flt.reports = s.flt.reports ++ l

/-- A condition has begun: it is present, and its report waits for the fault controller (14 R412, R415). -/
def State.raised (s t : State) (code zone elem data : Nat) : Prop :=
  s.reported t code zone elem data ∧ ⟨code, zone, elem⟩ ∈ t.flt.conds

/-- The rows of the tile instructions (06), each on a tile and a tick. -/
def tileRows : List (Nat → Nat → Instr) :=
  [.tNop, .tEnd, .tBra, .tCall, .tRet, .tRte, .tDbnz, .tTrap, .tRep, .tDmac, .tMpy, .tMac, .tMsu, .tMpyn, .tTap, .tMov, .tAdd,
   .tSub, .tAdds, .tSubs, .tAnd, .tOr, .tXor, .tNot, .tNeg, .tAbs, .tCmp, .tMin, .tMax, .tTst, .tLsl, .tAsr, .tLsr, .tAsls,
   .tClr, .tMova, .tAdda, .tSuba, .tNega, .tAbsa, .tAsha, .tExt, .tLda, .tCmpa, .tMovc, .tLdiw, .tDith, .undefinedInstruction]

/-! Commands. -/

/-- A command in flight for which command service has nothing to do: it has started without a fence and waits for no check. -/
def Flight.settled (f : Flight) : Prop := f.started = true ∧ f.fence = false ∧ f.waits = false

/-- Command service has nothing to do: no descriptor waits to be taken, every command in flight has started without a fence, no
COMPLETE entry waits for space. -/
def State.portsIdle (s : State) : Prop :=
  ∀ q, (∀ f ∈ (s.port q).flights, f.settled) ∧ (s.port q).placed = [] ∧ s.unknownDesc q = false ∧ (s.port q).waiting = []

/-- The handle that the next command of a port with rings gets. -/
def State.nextHandle (s : State) (q : CPort) : Nat := (s.port q).pick

/-- A host command meets an idle command service at a port with rings (A, B, or D of the two-wire target): the port is ACTIVE
with a descriptor made available, there is room for the command and its entries, and the envelope checks pass (15 R445, R455,
R457, R468). At the two-wire port the descriptor is the one that stands in the window, and no other is available (16 R495). -/
structure State.meets (s : State) (i : Instr) (c : CmdInfo) : Prop where
  info : cmdInfo i = some c
  ring : c.env.port ≠ .C
  service : s.pwr.service = true
  idle : s.portsIdle
  active : (s.port c.env.port).st = .active
  avail : 1 ≤ (s.port c.env.port).avail
  room : (s.port c.env.port).ring.length + 16 ≤ (s.port c.env.port).cqSize c.env.port
  few : ∀ q, (s.port q).flights.length < 4
  fresh : ∀ g ∈ (s.port c.env.port).flights, g.handle ≠ s.nextHandle c.env.port
  normal : s.boot.recovery = false
  flags : c.env.flags.toNat < 32
  fence : c.env.flags.getLsbD 0 = false
  inline_ : c.env.flags.getLsbD 1 = false
  group : bit (s.port c.env.port).groups (c.opcode / 256) = true
  priv : ∀ v, c.priv = some v → bit (s.port c.env.port).privs v = true
  read : c.env.readErr = false
  desc : ∀ d, s.nextDesc c.env.port = some d →
    leNat (slice d 0 2) = c.opcode ∧ leNat (slice d 2 2) = c.env.flags.toNat ∧ leNat (slice d 4 4) = c.env.tag.toNat
  last : c.env.port = .D → (s.port .D).avail = 1

/-- An entry without the place where it was written. -/
def Entry.plain (e : Entry) : Entry := { e with phase := false, index := 0 }

/-- The ACCEPT entry of a command that a port with rings takes next (15 R459). -/
def State.acceptOf (s : State) (c : CmdInfo) : Entry :=
  acceptEntry (s.nextHandle c.env.port) c.env.tag c.opcode
    (((s.port c.env.port).sqHead + 1) % (s.port c.env.port).sqSize c.env.port)

/-- From `s` to `t` the port took one descriptor and wrote its ACCEPT entry; the command is in flight as `f` (15 R445, R459). -/
structure State.accepted (s t : State) (c : CmdInfo) (f : Flight) : Prop where
  ring : (t.port c.env.port).ring.map Entry.plain = (s.port c.env.port).ring.map Entry.plain ++ [s.acceptOf c]
  avail : (t.port c.env.port).avail = (s.port c.env.port).avail - 1
  flights : (t.port c.env.port).flights = (s.port c.env.port).flights ++ [f]
  other : ∀ q, q ≠ c.env.port → (t.port q).flights = (s.port q).flights
  tag : f.tag = c.env.tag
  handle : f.handle = s.nextHandle c.env.port

/-- From `s` to `t` the port took one descriptor and wrote its ACCEPT entry and its COMPLETE entry with CONT entries; the
commands in flight are those of before (15 R445, R459 to R461). -/
structure State.answered (s t : State) (c : CmdInfo) (st : Status) (detail : Nat) (res : List Byte) : Prop where
  ring : ∃ f : Flight, f.tag = c.env.tag ∧ f.handle = s.nextHandle c.env.port ∧
    (t.port c.env.port).ring.map Entry.plain = (s.port c.env.port).ring.map Entry.plain ++
      (s.acceptOf c :: completeEntries f c.opcode st detail res)
  avail : (t.port c.env.port).avail = (s.port c.env.port).avail - 1
  flights : ∀ q, (t.port q).flights = (s.port q).flights

/-- `t` is as `u` but for what command service does: the rings, the commands in flight, the flash queue and the messages
signalled. The writes into host buffers and the keys of port C are as in `u`. -/
structure State.as (t u : State) : Prop where
  rest : t = { u with ports := t.ports }
  writes : t.ports.hostWrites = u.ports.hostWrites
  keys : t.ports.pc.keys = u.ports.pc.keys

/-- Command service can act no further: every command in flight has started without a fence, and no descriptor waits to be
taken. -/
def State.portsCalm (s : State) : Prop :=
  ∀ q, (∀ f ∈ (s.port q).flights, f.settled) ∧ (s.port q).placed = [] ∧ s.unknownDesc q = false

/-- The host command `i` is answered at once, with this status, DETAIL and result; the state is then as `u`. -/
def State.answers (s : State) (i : Instr) (c : CmdInfo) (st : Status) (d : Nat) (res : List Byte) (u : State) : Prop :=
  ∃ t, exec i s = .next t ∧ s.answered t c st d res ∧ t.as u

/-- The host command `i` is accepted and stays in flight; the state is then as `u`. -/
def State.starts (s : State) (i : Instr) (c : CmdInfo) (u : State) : Prop :=
  ∃ t f, exec i s = .next t ∧ s.accepted t c f ∧ f.cmd = i ∧ t.as u

/-- The host command `i` is accepted and becomes the flash operation that runs, with `v` as the state once it has begun; when
that operation ends well the command is answered OK with this result, and the state is then as `u` with the wear of the flash
graded (15 R470, 18 R537). -/
def State.flashesVia (s : State) (i : Instr) (c : CmdInfo) (v : State) (res : List Byte) (u : State) : Prop :=
  ∃ t f t', exec i s = .next t ∧ s.accepted t c f ∧ f.cmd = i ∧ t.as v ∧ t.ports.flashQ = [(c.env.port, f.handle)] ∧
    exec (.flashOperationDone true 0 s.now) t = .next t' ∧ s.answered t' c .ok 0 res ∧ t'.as u.gradeFlash

/-- The host command `i` becomes the flash operation that runs, with no other effect until that operation ends well. -/
def State.flashes (s : State) (i : Instr) (c : CmdInfo) (res : List Byte) (u : State) : Prop := s.flashesVia i c s res u

/-- From `s` to `t` the port took one descriptor, wrote its ACCEPT entry, ended its command `g` ABORTED, and answered the
descriptor OK; `g` has left flight. -/
structure State.cancelled (s t : State) (c : CmdInfo) (g : Flight) (res : List Byte) : Prop where
  ring : ∃ f : Flight, f.tag = c.env.tag ∧ f.handle = s.nextHandle c.env.port ∧
    (t.port c.env.port).ring.map Entry.plain = (s.port c.env.port).ring.map Entry.plain ++
      (s.acceptOf c :: completeEntries g (opcodeOf g.cmd) .aborted 0 [] ++ completeEntries f c.opcode .ok 0 res)
  flights : (t.port c.env.port).flights = (s.port c.env.port).flights.filter (fun k => k.handle != g.handle)
  other : ∀ q, q ≠ c.env.port → (t.port q).flights = (s.port q).flights

/-- The host command `i` is answered OK at once and ends the command `g` of its port ABORTED; the state is then as `u`. -/
def State.cancels (s : State) (i : Instr) (c : CmdInfo) (g : Flight) (res : List Byte) (u : State) : Prop :=
  ∃ t, exec i s = .next t ∧ s.cancelled t c g res ∧ t.as u

/-- An argument of a command that lists `count` entries is in the descriptor, with at most `inl` of them, or in a host buffer,
with at most `buf`, on a port that has host memory (15 R453). -/
def listed (port : CPort) (addr count inl buf : Nat) : Prop :=
  1 ≤ count ∧ ((addr = 0 ∧ count ≤ inl) ∨ (addr ≠ 0 ∧ port ≠ .D ∧ count ≤ buf))

/-- A safe-load group takes further entries from a port: it is EMPTY or FILLING by that port, and the totals stay within the
limits of a group (07 R225, R228). -/
def State.groupTakes (s : State) (group : Nat) (port : CPort) (es : List UpdEntry) : Prop :=
  ((rd s.mtx.groups group).st = .empty ∨ ((rd s.mtx.groups group).st = .filling ∧ (rd s.mtx.groups group).owner = port)) ∧
    ((rd s.mtx.groups group).entries ++ es).length - wordCount ((rd s.mtx.groups group).entries ++ es) ≤ 4096 ∧
    wordCount ((rd s.mtx.groups group).entries ++ es) ≤ 1024 ∧
    ∀ k, k < 68 → wordsFor ((rd s.mtx.groups group).entries ++ es) k ≤ 32

/-- The state with further entries in a group, which is then FILLING and owned by the port. -/
def State.staged (s : State) (group : Nat) (port : CPort) (es : List UpdEntry) : State :=
  { s with mtx := { s.mtx with groups := (wr s.mtx.groups group
    { (rd s.mtx.groups group) with st := .filling, owner := port, entries := (rd s.mtx.groups group).entries ++ es }) } }

/-- The state with a direct update that waits for its boundary, the second after the command's start, in the order in which
their commands were accepted (07 R224, R227). -/
def State.queued (s : State) (port : CPort) (es : List UpdEntry) : State :=
  let before := s.mtx.direct.filter (fun d => decide (d.seq ≤ s.ports.taken))
  let after := s.mtx.direct.filter (fun d => decide (s.ports.taken < d.seq))
  let new_ : Direct := ⟨s.per.boundaries + 2, s.ports.taken, port, s.nextHandle port, es⟩
  { s with mtx := { s.mtx with direct := before ++ [new_] ++ after } }

/-- A flash operation can run: none runs or waits, and the control processor runs. -/
def State.flashFree (s : State) : Prop := (s.ports.flashQ = [] ∧ s.ports.flashOn = none) ∧ s.pwr.cpRunning = true

/-- A command in flight at a port with rings can be answered at once: there is room for its entries and none waits. -/
structure State.canAnswer (s : State) (q : CPort) (f : Flight) : Prop where
  ring : q ≠ .C
  service : s.pwr.service = true
  flight : (s.port q).flight? f.handle = some f
  active : (s.port q).st = .active
  none_ : (s.port q).waiting = []
  room : (s.port q).ring.length + 16 ≤ (s.port q).cqSize q

/-- From `s` to `t` a command in flight was answered: its COMPLETE entry with CONT entries, and it has left flight. -/
structure State.closed (s t : State) (q : CPort) (f : Flight) (st : Status) (d : Nat) (res : List Byte) : Prop where
  ring : (t.port q).ring.map Entry.plain = (s.port q).ring.map Entry.plain ++ completeEntries f (opcodeOf f.cmd) st d res
  flights : (t.port q).flights = (s.port q).flights.filter (fun g => g.handle != f.handle)
  other : ∀ r, r ≠ q → (t.port r).flights = (s.port r).flights

/-- The bytes of result fields, little-endian in their order (assumption log 3). -/
def resBytes (fs : List RField) : List Byte := fs.flatMap (fun f => leBytes f.1 f.2)

/-- Every power-stage channel of a state has its gates low: nothing switches (13 R382). -/
def State.quiet (s : State) : Prop := ∀ k, k < 32 → (s.chan k).switching = false

end Sys2Proof.Machine
end

