-- ==== Sys2Proof/Certificates/Slice0/Obligations.lean ====
section
/-!
DEFINITION. The statements for the provers. Each is a proposition about the block for every state that meets its hypotheses;
its docstring names the rules of the manual that it rests on, or the log entry of the model's choice.
-/

open Sys2Proof Sys2Proof.Machine

/-! The queue. -/

/-- A step runs the command at the front of the queue with the rest of the queue. -/
def Obligations.StepRunsFront : Prop :=
  ∀ (i : Sys2Proof.Instr) (s : Sys2Proof.Machine.State),
    Sys2Proof.Machine.step { s with pending := i :: s.pending } = Sys2Proof.Machine.exec i s

/-! Tiles (05, 06). -/

/-- 06 R201, all of it: the fifteen data ALU operations by their SUB codes, with result and flags, and the undefined code. -/
def Obligations.TileDataAlu : Prop :=
  ∀ (s : State) (k tick : Nat) (bg : Bool) (w : PWord) (dd ds : Fin 8), s.tileAt k bg w →
    opBits w 12 4 = 6 → opBits w 5 3 = dd.val → opBits w 2 3 = ds.val →
    ∃ a b : DWord, ∃ C : Bool, a = (s.ctx k bg).d[dd] ∧ b = (s.ctx k bg).d[ds] ∧ C = cf (s.landed k bg).sr ∧
    (opBits w 8 4 = 0 → ∃ t, exec (.tMov k tick) s = .next t ∧ s.dGot t k bg dd b false C) ∧
    (opBits w 8 4 = 1 → ∃ t, exec (.tAdd k tick) s = .next t ∧
      s.dGot t k bg dd (a + b) (decide ((a + b).toInt ≠ a.toInt + b.toInt)) (decide (2 ^ 32 ≤ a.toNat + b.toNat))) ∧
    (opBits w 8 4 = 2 → ∃ t, exec (.tSub k tick) s = .next t ∧
      s.dGot t k bg dd (a - b) (decide ((a - b).toInt ≠ a.toInt - b.toInt)) (decide (b.toNat ≤ a.toNat))) ∧
    (opBits w 8 4 = 3 → ∃ t v, exec (.tAdds k tick) s = .next t ∧ v.toInt = sat 32 (a.toInt + b.toInt) ∧
      s.dGot t k bg dd v (decide (v.toInt ≠ a.toInt + b.toInt)) (decide (2 ^ 32 ≤ a.toNat + b.toNat))) ∧
    (opBits w 8 4 = 4 → ∃ t v, exec (.tSubs k tick) s = .next t ∧ v.toInt = sat 32 (a.toInt - b.toInt) ∧
      s.dGot t k bg dd v (decide (v.toInt ≠ a.toInt - b.toInt)) (decide (b.toNat ≤ a.toNat))) ∧
    (opBits w 8 4 = 5 → ∃ t, exec (.tAnd k tick) s = .next t ∧ s.dGot t k bg dd (a &&& b) false C) ∧
    (opBits w 8 4 = 6 → ∃ t, exec (.tOr k tick) s = .next t ∧ s.dGot t k bg dd (a ||| b) false C) ∧
    (opBits w 8 4 = 7 → ∃ t, exec (.tXor k tick) s = .next t ∧ s.dGot t k bg dd (a ^^^ b) false C) ∧
    (opBits w 8 4 = 8 → ∃ t, exec (.tNot k tick) s = .next t ∧ s.dGot t k bg dd (~~~b) false C) ∧
    (opBits w 8 4 = 9 → ∃ t v, exec (.tNeg k tick) s = .next t ∧ v.toInt = sat 32 (-b.toInt) ∧
      s.dGot t k bg dd v (decide (v.toInt ≠ -b.toInt)) C) ∧
    (opBits w 8 4 = 10 → ∃ t v, exec (.tAbs k tick) s = .next t ∧ v.toInt = sat 32 |b.toInt| ∧
      s.dGot t k bg dd v (decide (v.toInt ≠ |b.toInt|)) C) ∧
    (opBits w 8 4 = 11 → ∃ t, exec (.tCmp k tick) s = .next t ∧
      s.flagsGot t k bg (a - b) (decide ((a - b).toInt ≠ a.toInt - b.toInt)) (decide (b.toNat ≤ a.toNat))) ∧
    (opBits w 8 4 = 12 → ∃ t v, exec (.tMin k tick) s = .next t ∧ v.toInt = min a.toInt b.toInt ∧ s.dGot t k bg dd v false C) ∧
    (opBits w 8 4 = 13 → ∃ t v, exec (.tMax k tick) s = .next t ∧ v.toInt = max a.toInt b.toInt ∧ s.dGot t k bg dd v false C) ∧
    (opBits w 8 4 = 14 → ∃ t, exec (.tTst k tick) s = .next t ∧ s.flagsGot t k bg (a &&& b) false C) ∧
    (opBits w 8 4 = 15 → ∃ t, exec (.undefinedInstruction k tick) s = .next t ∧ s.nothingGot t k bg)

/-- 06 R202, all of it: the four shifts by KIND, by an immediate or a register amount, with result and flags. -/
def Obligations.TileShifts : Prop :=
  ∀ (s : State) (k tick : Nat) (bg : Bool) (w : PWord) (dd q : Fin 8) (n : Nat), s.tileAt k bg w →
    opBits w 12 4 = 7 → opBits w 6 3 = dd.val → opBits w 0 3 = q.val →
    n = (if opBits w 9 1 = 0 then opBits w 0 5 else (s.ctx k bg).d[q].toNat) →
    ∃ a : DWord, ∃ C : Bool, a = (s.ctx k bg).d[dd] ∧ C = cf (s.landed k bg).sr ∧
    (opBits w 10 2 = 0 → ∃ t, exec (.tLsl k tick) s = .next t ∧ s.dGot t k bg dd (if n < 32 then a <<< n else 0) false
      (if n = 0 then C else if n ≤ 32 then a.getLsbD (32 - n) else false)) ∧
    (opBits w 10 2 = 1 → ∃ t v, exec (.tAsr k tick) s = .next t ∧
      v.toInt = (if n < 32 then a.toInt / 2 ^ n else if a.msb then -1 else 0) ∧
      s.dGot t k bg dd v false (if n = 0 then C else if n < 32 then a.getLsbD (n - 1) else a.msb)) ∧
    (opBits w 10 2 = 2 → ∃ t v, exec (.tLsr k tick) s = .next t ∧ v.toNat = (if n < 32 then a.toNat / 2 ^ n else 0) ∧
      s.dGot t k bg dd v false (if n = 0 then C else if n ≤ 32 then a.getLsbD (n - 1) else false)) ∧
    (opBits w 10 2 = 3 → ∃ t v, exec (.tAsls k tick) s = .next t ∧ v.toInt = sat 32 (a.toInt * 2 ^ n) ∧
      s.dGot t k bg dd v (decide (v.toInt ≠ a.toInt * 2 ^ n)) C)

/-- 06 R196, all of it: the four single multiplies by KIND. -/
def Obligations.TileMultiplies : Prop :=
  ∀ (s : State) (k tick : Nat) (bg : Bool) (w : PWord) (i : Fin 4) (p q : Fin 8), s.tileAt k bg w →
    opBits w 12 4 = 4 → opBits w 8 2 = i.val → opBits w 5 3 = p.val → opBits w 2 3 = q.val →
    ∃ x a : Int, x = (s.ctx k bg).d[p].toInt * (s.ctx k bg).d[q].toInt ∧ a = (s.ctx k bg).a[i].toInt ∧
    (opBits w 10 2 = 0 → ∃ t, exec (.tMpy k tick) s = .next t ∧ s.aGot t k bg i x ∧ s.znKept t k bg ∧ accClips x = false) ∧
    (opBits w 10 2 = 1 → ∃ t, exec (.tMac k tick) s = .next t ∧ s.aGot t k bg i (a + x) ∧ s.znKept t k bg) ∧
    (opBits w 10 2 = 2 → ∃ t, exec (.tMsu k tick) s = .next t ∧ s.aGot t k bg i (a - x) ∧ s.znKept t k bg) ∧
    (opBits w 10 2 = 3 → ∃ t, exec (.tMpyn k tick) s = .next t ∧ s.aGot t k bg i (-x) ∧ s.znKept t k bg ∧
      accClips (-x) = false)

/-- 06 R197: DMAC, two signed products into the accumulators of a pair, each product of a register of D0 to D3 and one of D4 to
D7; V says whether either clamped. -/
def Obligations.TileDualMultiply : Prop :=
  ∀ (s : State) (k tick : Nat) (bg : Bool) (w : PWord) (p q r u : Fin 4) (e o : Fin 4), s.tileAt k bg w →
    opBits w 13 3 = 1 → opBits w 7 2 = p.val → opBits w 5 2 = q.val → opBits w 3 2 = r.val → opBits w 1 2 = u.val →
    e.val = 2 * opBits w 12 1 → o.val = 2 * opBits w 12 1 + 1 →
    ∃ x y : Int,
      x = (if opBits w 9 1 = 1 then 0 else (s.ctx k bg).a[e].toInt) + (if opBits w 11 1 = 1 then -1 else 1) *
        ((s.ctx k bg).d[p.val].toInt * (s.ctx k bg).d[4 + q.val].toInt) ∧
      y = (if opBits w 9 1 = 1 then 0 else (s.ctx k bg).a[o].toInt) + (if opBits w 10 1 = 1 then -1 else 1) *
        ((s.ctx k bg).d[r.val].toInt * (s.ctx k bg).d[4 + u.val].toInt) ∧
      ∃ t, exec (.tDmac k tick) s = .next t ∧
        (t.ctx k bg).a = ((s.landed k bg).a.set e (accOfInt x)).set o (accOfInt y) ∧
        (t.ctx k bg).d = (s.landed k bg).d ∧ s.znKept t k bg ∧ vf (t.ctx k bg).sr = (accClips x || accClips y) ∧
        cf (t.ctx k bg).sr = cf (s.landed k bg).sr

/-- 06 R200 with R199 and the flags of R206: the ten accumulator operations by SUB. -/
def Obligations.TileAccumulators : Prop :=
  ∀ (s : State) (k tick : Nat) (bg : Bool) (w : PWord) (i j e : Fin 4) (d : Fin 8), s.tileAt k bg w →
    opBits w 12 4 = 8 → opBits w 6 2 = i.val → opBits w 4 2 = j.val → opBits w 3 3 = d.val → opBits w 1 2 = e.val →
    ∃ a b : Int, a = (s.ctx k bg).a[i].toInt ∧ b = (s.ctx k bg).a[j].toInt ∧
    (opBits w 8 4 = 0 → ∃ t, exec (.tClr k tick) s = .next t ∧ s.aGot t k bg i 0 ∧ t.znAcc k bg 0) ∧
    (opBits w 8 4 = 1 → ∃ t, exec (.tMova k tick) s = .next t ∧ s.aGot t k bg i b ∧ t.znAcc k bg b) ∧
    (opBits w 8 4 = 2 → ∃ t, exec (.tAdda k tick) s = .next t ∧ s.aGot t k bg i (a + b) ∧ t.znAcc k bg (a + b)) ∧
    (opBits w 8 4 = 3 → ∃ t, exec (.tSuba k tick) s = .next t ∧ s.aGot t k bg i (a - b) ∧ t.znAcc k bg (a - b)) ∧
    (opBits w 8 4 = 4 → ∃ t, exec (.tNega k tick) s = .next t ∧ s.aGot t k bg i (-b) ∧ t.znAcc k bg (-b)) ∧
    (opBits w 8 4 = 5 → ∃ t, exec (.tAbsa k tick) s = .next t ∧ s.aGot t k bg i |b| ∧ t.znAcc k bg |b|) ∧
    (opBits w 8 4 = 6 → ∃ t v, exec (.tAsha k tick) s = .next t ∧
      v = (if opBits w 0 6 < 32 then a * 2 ^ opBits w 0 6 else a / 2 ^ (64 - opBits w 0 6)) ∧
      s.aGot t k bg i v ∧ t.znAcc k bg v) ∧
    (opBits w 8 4 = 7 → ∃ (t : State) (v : DWord) (q : Int), exec (.tExt k tick) s = .next t ∧
      q = extExact a (extPoint e) (((s.ctx k bg).sr.toNat / 4096) % 4) ∧ v.toInt = sat 32 q ∧
      s.dGot t k bg d v (decide (v.toInt ≠ q)) (cf (s.landed k bg).sr) ∧
      (v.toInt ≠ q → (t.ctx k bg).sr.getLsbD 8 = true ∧ (t.ctx k bg).evpend.getLsbD 2 = true)) ∧
    (opBits w 8 4 = 8 → ∃ t, exec (.tLda k tick) s = .next t ∧ s.aGot t k bg i ((s.ctx k bg).d[d].toInt * 2 ^ extPoint e) ∧
      t.znAcc k bg ((s.ctx k bg).d[d].toInt * 2 ^ extPoint e) ∧ accClips ((s.ctx k bg).d[d].toInt * 2 ^ extPoint e) = false) ∧
    (opBits w 8 4 = 9 → ∃ t, exec (.tCmpa k tick) s = .next t ∧ (t.ctx k bg).d = (s.landed k bg).d ∧
      (t.ctx k bg).a = (s.landed k bg).a ∧ zf (t.ctx k bg).sr = decide (a = b) ∧ nf (t.ctx k bg).sr = decide (a < b) ∧
      vf (t.ctx k bg).sr = false ∧ cf (t.ctx k bg).sr = cf (s.landed k bg).sr) ∧
    (10 ≤ opBits w 8 4 → ∃ t, exec (.undefinedInstruction k tick) s = .next t ∧ s.nothingGot t k bg)

/-- 06 R194: when each condition code holds, from Z, N, V and C. -/
def Obligations.ConditionCodes : Prop :=
  ∀ (sr : BitVec 32) (cc : CC), ccHolds cc sr =
    match cc.val with
    | 0 => true
    | 1 => zf sr
    | 2 => !zf sr
    | 3 => nf sr
    | 4 => !nf sr
    | 5 => vf sr
    | 6 => !vf sr
    | 7 => cf sr
    | 8 => !cf sr
    | 9 => decide (zf sr = false ∧ nf sr = vf sr)
    | 10 => decide (nf sr = vf sr)
    | 11 => decide (nf sr ≠ vf sr)
    | 12 => decide (zf sr = true ∨ nf sr ≠ vf sr)
    | 13 => decide (cf sr = true ∧ zf sr = false)
    | 14 => decide (cf sr = false ∨ zf sr = true)
    | _ => false

/-- 06 R192 and R195 with 05 R165, R166 and R168: the control instructions and REP, outside delay slots and repetitions. -/
def Obligations.TileControl : Prop :=
  ∀ (s : State) (k tick : Nat) (bg : Bool) (w : PWord) (cc : CC) (target : TAddr), s.tileAt k bg w → s.tileFree k bg →
    opBits w 4 4 = cc.val → target = w.extractLsb' 24 14 →
    ∃ (c : TCtx) (yes : Bool), c = s.ctx k bg ∧ yes = ccHolds cc c.sr ∧
    (opBits w 12 4 = 0 → opBits w 8 4 = 0 → ∃ t, exec (.tNop k tick) s = .next t ∧ s.nothingGot t k bg ∧
      (t.ctx k bg).pc = c.pc + 1 ∧ t.tileFree k bg) ∧
    (opBits w 12 4 = 0 → opBits w 8 4 = 2 → ∃ t, exec (.tBra k tick) s = .next t ∧ s.nothingGot t k bg ∧
      s.transferred t k bg (if yes then some target else none) ∧ (t.ctx k bg).stack = c.stack) ∧
    (opBits w 12 4 = 0 → opBits w 8 4 = 3 → ∃ t, exec (.tCall k tick) s = .next t ∧ s.nothingGot t k bg ∧
      s.transferred t k bg (if yes then some target else none) ∧
      (t.ctx k bg).stack = (if yes then (c.pc + 3) :: c.stack.take 7 else c.stack) ∧
      (yes = true → 8 ≤ c.stack.length → s.reported t 0x0607 (tileZone k) k (stackData c.pc bg))) ∧
    (opBits w 12 4 = 0 → opBits w 8 4 = 4 → ∃ t, exec (.tRet k tick) s = .next t ∧ s.nothingGot t k bg ∧
      s.transferred t k bg (if yes then c.stack.head? else none) ∧
      (t.ctx k bg).stack = (if yes then c.stack.tail else c.stack) ∧
      (yes = true → c.stack = [] → s.reported t 0x0607 (tileZone k) k (stackData c.pc bg))) ∧
    (opBits w 12 4 = 0 → opBits w 8 4 = 5 → ∃ t, exec (.tRte k tick) s = .next t ∧ s.nothingGot t k bg ∧
      s.transferred t k bg c.stack.head? ∧ (t.ctx k bg).stack = c.stack.tail ∧ (t.ctx k bg).sr.getLsbD 10 = false ∧
      (c.stack = [] → s.reported t 0x0607 (tileZone k) k (stackData c.pc bg))) ∧
    (opBits w 12 4 = 0 → opBits w 8 4 = 6 → ∃ t, exec (.tDbnz k tick) s = .next t ∧ s.nothingGot t k bg ∧
      (t.ctx k bg).lc = c.lc - 1 ∧ s.transferred t k bg (if c.lc - 1 = 0 then none else some target)) ∧
    (opBits w 12 4 = 0 → opBits w 8 4 = 7 → ∃ t, exec (.tTrap k tick) s = .next t ∧ s.nothingGot t k bg ∧
      (t.ctx k bg).evpend.getLsbD 3 = true ∧ (t.ctx k bg).pc = c.pc + 1) ∧
    (opBits w 12 4 = 0 → 8 ≤ opBits w 8 4 → ∃ t, exec (.undefinedInstruction k tick) s = .next t ∧ s.nothingGot t k bg ∧
      (t.ctx k bg).pc = c.pc + 1 ∧ s.reported t 0x0608 (tileZone k) k (illegalData c.pc bg w)) ∧
    (opBits w 12 4 = 1 → ∃ t n, exec (.tRep k tick) s = .next t ∧ s.nothingGot t k bg ∧
      n = (if opBits w 11 1 = 0 then opBits w 0 10 + 1 else min 1024 (rd c.d (opBits w 0 3)).toNat) ∧
      (t.ctx k bg).delay = none ∧ (t.ctx k bg).rep = n ∧ (t.ctx k bg).pc = c.pc + (if n = 0 then 2 else 1) ∧
      (opBits w 11 1 = 1 → 1024 < (rd c.d (opBits w 0 3)).toNat → (t.ctx k bg).sr.getLsbD 9 = true))

/-- 06 R193 with 05 R173 and R174: END in either task, outside delay slots and repetitions. -/
def Obligations.TileEnd : Prop :=
  ∀ (s : State) (k tick : Nat) (bg : Bool) (w : PWord), s.tileAt k bg w → s.tileFree k bg →
    opBits w 12 4 = 0 → opBits w 8 4 = 1 →
    ∃ t, exec (.tEnd k tick) s = .next t ∧ s.nothingGot t k bg ∧ (t.ctx k bg).stack = [] ∧
      (t.ctx k bg).sr.getLsbD 10 = false ∧ (t.ctx k bg).stores = [] ∧
      (t.tile k).x = ((s.tile k).applyStores (s.ctx k bg).stores).x ∧
      (t.tile k).y = ((s.tile k).applyStores (s.ctx k bg).stores).y ∧
      (bg = false → (t.tile k).run = .drain ∧ (t.tile k).fgCount = (s.tile k).fgCount + 1) ∧
      (bg = true → (t.tile k).run = .parked ∧ (∀ b p, s.workOf k = some (b, p) → (t.ctx k true).pc = p.entryBg))

/-- 05 R165, R167 and R168: how the program counter goes on in delay slots and repetitions, shown on NOP; and a transfer there
is not carried out and is logged ILLEGAL, shown on BRA. -/
def Obligations.TileDelayAndRepeat : Prop :=
  ∀ (s : State) (k tick : Nat) (bg : Bool) (w : PWord), s.tileAt k bg w → opBits w 12 4 = 0 →
    ∃ c : TCtx, c = s.ctx k bg ∧
    (opBits w 8 4 = 0 → ∃ t, exec (.tNop k tick) s = .next t ∧
      (∀ target, c.rep ≤ 1 → c.delay = some ⟨2, target⟩ →
        (t.ctx k bg).pc = c.pc + 1 ∧ (t.ctx k bg).delay = some ⟨1, target⟩) ∧
      (∀ target, c.rep ≤ 1 → c.delay = some ⟨1, target⟩ →
        (t.ctx k bg).pc = target.getD (c.pc + 1) ∧ (t.ctx k bg).delay = none) ∧
      (2 ≤ c.rep → (t.ctx k bg).pc = c.pc ∧ (t.ctx k bg).rep = c.rep - 1) ∧
      (c.rep = 1 → c.delay = none → (t.ctx k bg).pc = c.pc + 1 ∧ (t.ctx k bg).rep = 0)) ∧
    (opBits w 8 4 = 2 → ¬ s.tileFree k bg → ∃ t, exec (.tBra k tick) s = .next t ∧ s.nothingGot t k bg ∧
      s.reported t 0x0608 (tileZone k) k (illegalData c.pc bg w) ∧
      (∀ target, c.rep ≤ 1 → c.delay = some ⟨2, target⟩ → (t.ctx k bg).delay = some ⟨1, target⟩))

/-- 06 R203, R204 and R205: MOVC in both directions, LDIW, DITH. -/
def Obligations.TileRegisters : Prop :=
  ∀ (s : State) (k tick : Nat) (bg : Bool) (w : PWord) (d : Fin 8), s.tileAt k bg w → opBits w 8 3 = d.val →
    (opBits w 12 4 = 9 → opBits w 11 1 = 0 → ∀ r, crTable[opBits w 3 5]? = some r → ∃ t, exec (.tMovc k tick) s = .next t ∧
      (t.ctx k bg).d = (s.landed k bg).d.set d ((s.ctx k bg).readReg r) ∧ (t.ctx k bg).a = (s.landed k bg).a ∧
      s.znKept t k bg ∧ vf (t.ctx k bg).sr = vf (s.landed k bg).sr ∧ cf (t.ctx k bg).sr = cf (s.landed k bg).sr) ∧
    (opBits w 12 4 = 9 → opBits w 11 1 = 1 → ∀ r, crTable[opBits w 3 5]? = some r → ∃ t, exec (.tMovc k tick) s = .next t ∧
      s.crGot t k bg (s.ctx k bg).d[d] r ∧ (t.ctx k bg).a = (s.landed k bg).a ∧ (t.ctx k bg).d = (s.landed k bg).d) ∧
    (opBits w 12 4 = 9 → 30 ≤ opBits w 3 5 → ∃ t, exec (.tMovc k tick) s = .next t ∧ s.nothingGot t k bg ∧
      s.reported t 0x0608 (tileZone k) k (illegalData (s.ctx k bg).pc bg w)) ∧
    (opBits w 12 4 = 10 → opBits w 11 1 = 0 → ∃ t, exec (.tLdiw k tick) s = .next t ∧
      s.crGot t k bg (w.extractLsb' 16 32) (.d d) ∧ (t.ctx k bg).a = (s.landed k bg).a) ∧
    (opBits w 12 4 = 10 → opBits w 11 1 = 1 → ∀ r, crTable[opBits w 6 5]? = some r → ∃ t, exec (.tLdiw k tick) s = .next t ∧
      s.crGot t k bg (w.extractLsb' 16 32) r ∧ (t.ctx k bg).a = (s.landed k bg).a ∧ (t.ctx k bg).d = (s.landed k bg).d) ∧
    (opBits w 12 4 = 10 → opBits w 11 1 = 1 → 30 ≤ opBits w 6 5 → ∃ t, exec (.tLdiw k tick) s = .next t ∧
      s.nothingGot t k bg ∧ s.reported t 0x0608 (tileZone k) k (illegalData (s.ctx k bg).pc bg w)) ∧
    (opBits w 12 4 = 11 → ∃ (t : State) (z0 z1 z2 z3 : BitVec 64), exec (.tDith k tick) s = .next t ∧
      z0 = (s.tileEnv k bg).seed + (s.tileEnv k bg).mediaTime * 0x9e3779b97f4a7c15#64 +
        BitVec.ofNat 64 (256 * (s.tileEnv k bg).built + opBits w 0 8) * 0xd1b54a32d192ed03#64 ∧
      z1 = (z0 ^^^ (z0 >>> 30)) * 0xbf58476d1ce4e5b9#64 ∧ z2 = (z1 ^^^ (z1 >>> 27)) * 0x94d049bb133111eb#64 ∧
      z3 = z2 ^^^ (z2 >>> 31) ∧ (t.ctx k bg).d = (s.landed k bg).d.set d (z3.extractLsb' 32 32) ∧
      (t.ctx k bg).a = (s.landed k bg).a ∧ s.znKept t k bg) ∧
    (12 ≤ opBits w 12 4 → ∃ t, exec (.undefinedInstruction k tick) s = .next t ∧ s.nothingGot t k bg ∧
      s.reported t 0x0608 (tileZone k) k (illegalData (s.ctx k bg).pc bg w))

/-- 06 R198: TAP, the product of a word of X and a word of Y, the aging write, and the right to write of each task (05 R147). -/
def Obligations.TileTap : Prop :=
  ∀ (s : State) (k tick : Nat) (bg : Bool) (w : PWord) (i n m : Fin 4), s.tileAt k bg w →
    opBits w 12 4 = 5 → opBits w 10 2 = i.val → opBits w 8 2 = n.val → opBits w 6 2 = m.val →
    ∃ (xa ya : TAddr) (x y : DWord) (v : Int) (t : State), xa = (s.ctx k bg).ax[n] ∧ ya = (s.ctx k bg).ay[m] ∧
      x = (s.tile k).x.get xa.toNat ∧ y = (if bg = true ∨ ya.toNat < 0x3C00 then (s.tile k).y.get ya.toNat else 0) ∧
      v = (s.ctx k bg).a[i].toInt + (if opBits w 5 1 = 1 then -1 else 1) * (x.toInt * y.toInt) ∧
      exec (.tTap k tick) s = .next t ∧ s.aGot t k bg i v ∧ s.znKept t k bg ∧
      (bg = false → ∃ l, (t.ctx k bg).stores = l ++ [(.x, postMod xa 1 (s.ctx k bg).lx[n] false, x)]) ∧
      (bg = true → s.reported t 0x0604 (tileZone k) k (packBits [(8, 0), (16, (postMod xa 1 (s.ctx k bg).lx[n] false).toNat), (8, 1)])) ∧
      (xField w = 0 → (t.ctx k bg).ax = if opBits w 3 2 = 0 then (s.landed k bg).ax else
        (s.landed k bg).ax.set n (postMod xa (if opBits w 3 2 = 1 then (s.ctx k bg).mx[n].toInt else if opBits w 3 2 = 2 then 1 else -1)
          (s.ctx k bg).lx[n] ((s.ctx k bg).amode.getLsbD n.val)))

/-- 06 R186, R187, R189 and R190 with 05 R147 and R163, shown on NOP with an X-move alone: loads and stores of X memory, by
address register and absolute; the load is seen from the second following instruction, a store of the background is refused. -/
def Obligations.TileMoves : Prop :=
  ∀ (s : State) (k tick : Nat) (bg : Bool) (w : PWord) (d : Fin 8) (n mode : Fin 4), s.tileAt k bg w →
    opBits w 12 4 = 0 → opBits w 8 4 = 0 → yField w = 0 →
    (xField w).extractLsb' 17 3 = BitVec.ofNat 3 d.val → (xField w).extractLsb' 15 2 = BitVec.ofNat 2 n.val →
    (xField w).extractLsb' 13 2 = BitVec.ofNat 2 mode.val →
    ∃ (c : TCtx) (at_ : TAddr), c = s.ctx k bg ∧ at_ = (xField w).extractLsb' 0 14 ∧
    ((xField w).extractLsb' 20 4 = 2#4 → ∃ t, exec (.tNop k tick) s = .next t ∧
      (t.ctx k bg).loads = [(.d d, (s.tile k).x.get c.ax[n].toNat)] ∧ (t.ctx k bg).stores = [] ∧
      (t.ctx k bg).d = (s.landed k bg).d ∧ (mode.val = 0 → (t.ctx k bg).ax = (s.landed k bg).ax) ∧
      (mode.val = 1 → (t.ctx k bg).ax = (s.landed k bg).ax.set n
        (postMod c.ax[n] c.mx[n].toInt c.lx[n] (c.amode.getLsbD n.val)))) ∧
    ((xField w).extractLsb' 20 4 = 3#4 → ∃ t, exec (.tNop k tick) s = .next t ∧ (t.ctx k bg).loads = [] ∧
      (bg = false → (t.ctx k bg).stores = [(.x, c.ax[n], c.d[d])]) ∧
      (bg = true → (t.ctx k bg).stores = [] ∧
        s.reported t 0x0604 (tileZone k) k (packBits [(8, 0), (16, c.ax[n].toNat), (8, 1)]))) ∧
    ((xField w).extractLsb' 20 4 = 6#4 → ∃ t, exec (.tNop k tick) s = .next t ∧
      (t.ctx k bg).loads = [(.d d, (s.tile k).x.get at_.toNat)] ∧ (t.ctx k bg).stores = [] ∧
      (t.ctx k bg).ax = (s.landed k bg).ax) ∧
    ((xField w).extractLsb' 20 4 = 7#4 → ∃ t, exec (.tNop k tick) s = .next t ∧ (t.ctx k bg).loads = [] ∧
      (t.ctx k bg).ax = (s.landed k bg).ax ∧ (bg = false → (t.ctx k bg).stores = [(.x, at_, c.d[d])]))

/-- The frame of every tile instruction: whatever it does, it changes its own tile, the reports that wait for the fault
controller, the clock and the free-value counter, and nothing else; and of its tile's memories, at the instruction, only the
words that the instruction before it stores (05 R163). -/
def Obligations.TileFrame : Prop :=
  ∀ f ∈ tileRows, ∀ (s : State) (k tick : Nat), ∃ t, exec (f k tick) s = .next t ∧
    (∀ j, j ≠ k → t.tile j = s.tile j) ∧
    (∃ l, t = { s with now := t.now, freeCtr := t.freeCtr, tiles := t.tiles,
                       flt := { s.flt with reports := s.flt.reports ++ l } }) ∧
    (∀ (bg : Bool) (w : PWord), s.tileAt k bg w →
      (t.tile k).pLive = (s.tile k).pLive ∧ (t.tile k).pShadow = (s.tile k).pShadow ∧ (t.tile k).ctx (!bg) = s.ctx k (!bg) ∧
      (∀ a, (∀ st ∈ (s.ctx k bg).stores, st.1 = .y ∨ st.2.1.toNat ≠ a) → (t.tile k).x.get a = (s.tile k).x.get a) ∧
      (∀ a, (∀ st ∈ (s.ctx k bg).stores, st.1 ≠ .y ∨ st.2.1.toNat ≠ a) → (t.tile k).y.get a = (s.tile k).y.get a))

/-! Structure planes (03). -/

/-- 03 R101, R103, R104, R119: the plane commands on an engine where none is in flight, and the ends of checks and writing.
STRUCT_LOAD and STRUCT_PATCH take SHADOW to CHECKING, STRUCT_COPY to WRITING with the LIVE plane as its content, STRUCT_DISCARD
to EMPTY. An image that passes takes SHADOW to WRITING; one that fails returns SHADOW to its state before; a written plane is in
SHADOW, and SHADOW is READY. The form of the state is the model's (assumption log 3). -/
def Obligations.PlaneCommands : Prop :=
  (
    ∀ (s : State) (e : Env) (c : CmdInfo), s.pl.busy = false →
      (∀ addr len, s.meets (.structLoad e 0 addr len) c → e.port ≠ .D → 128 ≤ len →
        s.starts (.structLoad e 0 addr len) c { s with pl := { s.pl with
          st := .checking (decide (s.pl.st = .ready)), cmd := some ⟨e.port, s.nextHandle e.port, .load, 0, 0, len, [], none, false⟩ } }) ∧
      (∀ source addr len seq img, s.meets (.structLoad e source addr len) c → source = 1 ∨ source = 2 → addr = 0 ∨ e.port ≠ .D →
        s.boot.copy (if source = 1 then s.boot.newer else 1 - s.boot.newer) = some (seq, img) → 128 ≤ img.length →
        s.starts (.structLoad e source addr len) c { s with pl := { s.pl with
          st := .checking (decide (s.pl.st = .ready))
          cmd := some ⟨e.port, s.nextHandle e.port, .load, source, if source = 1 then s.boot.newer else 1 - s.boot.newer, img.length, [],
            none, false⟩ } }) ∧
      (∀ addr len, s.meets (.structPatch e 0 addr len) c → e.port ≠ .D → 128 ≤ len → s.pl.st = .ready →
        s.starts (.structPatch e 0 addr len) c { s with pl := { s.pl with
          st := .checking true, cmd := some ⟨e.port, s.nextHandle e.port, .patch, 0, 0, len, [], none, false⟩ } }) ∧
      (∀ p, s.meets (.structCopy e) c → s.pl.live = some p →
        s.starts (.structCopy e) c { s with pl := { s.pl with
          st := .writing, cmd := some ⟨e.port, s.nextHandle e.port, .copy, 0, 0, 0, p.digest, some p, false⟩ } }) ∧
      (s.meets (.structDiscard e) c →
        s.answers (.structDiscard e) c .ok 0 [] { s with pl := { s.pl with st := .empty, shadow := none, cmd := none } })) ∧
  (
    ∀ (s : State) (x : PlaneCmd) (r : Bool) (img : List Byte), s.portsCalm → s.pl.cmd = some x → x.boot = false →
      (s.pl.st = .checking r → x.source = 0 → s.dm.st ≠ .training →
        match loadChecks (s.loadEnv (if x.kind = .patch then 2 else 1) x.len (some s.per.baseRate)) img with
        | .ok p => exec (.imageCheckComplete img) s = .next { s with pl := { s.pl with
            st := .writing, cmd := some { x with digest := imageDigest x.len img, cand := some p } } }
        | .error _ => ∃ t, exec (.imageCheckComplete img) s = .next t ∧
            t.as { s with pl := { s.pl with st := if r then .ready else .empty, cmd := none } }) ∧
      (∀ p, s.pl.st = .writing → x.cand = some p → x.kind = .copy ∨ imageDigest x.len img = x.digest →
        ∃ t, exec (.imageWriteComplete img) s = .next t ∧
          t.pl = { s.pl with st := .ready, shadow := some p, cmd := none } ∧ t.per = s.per ∧ t.ex = s.ex ∧ t.mtx = s.mtx ∧
          ∀ k, (t.tile k).pLive = (s.tile k).pLive ∧ (t.tile k).x = (s.tile k).x ∧ (t.tile k).y = (s.tile k).y))

/-- 03 R105, R109: STRUCT_COMMIT of the READY plane whose digest it names arms SHADOW where the commit checks pass and no tile
is predicted late: at BOUNDARY, or at the boundary 64 periods after the start for BOUNDARY 0. COMMIT_LOCK_POINT locks the commit
from 32 periods before the boundary on, where the checks pass again. -/
def Obligations.PlaneCommit : Prop :=
  ∀ (s : State) (e : Env) (c : CmdInfo) (p : Plane) (digest : Nat), s.pl.shadow = some p →
    (∀ boundary, s.meets (.structCommit e boundary digest) c → s.pl.busy = false → s.pl.st = .ready →
      leNat (slice p.digest 0 8) = digest → boundary ≠ 0 → s.per.mediaTime ≤ boundary → s.predictsLate p = false →
      s.commitChecks p s.per.boundaries (s.per.boundaries + (boundary - s.per.mediaTime)) = none →
      s.starts (.structCommit e boundary digest) c { s with pl := { s.pl with
        st := .armed, commit := some ⟨e.port, s.nextHandle e.port, s.per.boundaries,
          some (s.per.boundaries + (boundary - s.per.mediaTime)), false, false, false⟩ } }) ∧
    (s.meets (.structCommit e 0 digest) c → s.pl.busy = false → s.pl.st = .ready → leNat (slice p.digest 0 8) = digest →
      s.predictsLate p = false → s.commitChecks p s.per.boundaries (s.per.boundaries + 64) = none →
      s.starts (.structCommit e 0 digest) c { s with pl := { s.pl with
        st := .armed, commit := some ⟨e.port, s.nextHandle e.port, s.per.boundaries, some (s.per.boundaries + 64),
          false, false, false⟩ } }) ∧
    (∀ k b, s.portsCalm → s.pl.commit = some k → k.boundary = some b → s.pl.st = .armed → b ≤ s.per.boundaries + 32 →
      s.per.boundaries < b → s.pwr.cpRunning = true → s.commitChecks p k.start b = none →
      exec .commitLockPoint s = .next { s with pl := { s.pl with st := .locked } })

/-- 03 R115 to R119: STRUCT_STATUS reports the planes; STRUCT_BOOT_WRITE erases the older copy of the boot structure and writes
a checked image to it, with the next sequence number, and stays in flight while its DELAY_FIT check is held (08 R236);
STRUCT_KEY_SET installs or deletes the structure-signing key in CONFIG; STRUCT_CANCEL of a load in its checks returns SHADOW to
its state before, and of an armed commit to READY, and the command it names ends ABORTED. The layout of the results is the
model's (assumption log 3). -/
def Obligations.PlaneStore : Prop :=
  (
    ∀ (s : State) (e : Env) (c : CmdInfo),
      (s.meets (.structStatus e) c →
        s.answers (.structStatus e) c .ok 0
          (leBytes 1 s.pl.st.code ++ leBytes 1 (if s.pl.live.isSome then 1 else 0) ++ digest8 s.pl.live ++ digest8 s.pl.shadow ++
            leBytes 8 (match s.pl.commit with | some k => ((k.boundary.map s.mediaOf).getD 0) | none => 0) ++
            leBytes 1 s.per.baseRate ++ leBytes 1 (if s.pl.sigKey.isSome then 1 else 0)) s) ∧
      (∀ addr len img, s.meets (.structBootWrite e addr len img) c → s.flashFree → e.port ≠ .D → 128 ≤ len →
        len ≤ s.boot.structArea - 65536 →
        (s.holdsFit (loadChecks (s.loadEnv 1 len none) img) = true → s.starts (.structBootWrite e addr len img) c s) ∧
        (s.holdsFit (loadChecks (s.loadEnv 1 len none) img) = false → match loadChecks (s.loadEnv 1 len none) img with
        | .error (st, d) => s.answers (.structBootWrite e addr len img) c st d [] s
        | .ok _ => s.flashesVia (.structBootWrite e addr len img) c (s.bootCopyErased len)
            (resBytes [(4, ((s.boot.copy s.boot.newer).map (·.1)).getD 0 + 1), (1, 1 - s.boot.newer)])
            { s with boot := { (s.bootCopyErased len).boot with structs := (wr s.boot.structs (1 - s.boot.newer)
              (some (((s.boot.copy s.boot.newer).map (·.1)).getD 0 + 1, slice img 0 len))) } })) ∧
      (∀ keyId addr key require, s.meets (.structKeySet e keyId addr key require) c → s.flashFree → addr = 0 ∨ e.port ≠ .D →
        (∀ k, s.pl.sigKey = some k → k.require = true → s.hlt.maint = true) →
        s.flashes (.structKeySet e keyId addr key require) c
          (if addr = 0 then resBytes [(4, 0), (1, 0)] else resBytes [(4, keyId), (1, if require then 1 else 0)])
          { s.configWritten with pl := { s.pl with
              sigKey := if addr = 0 then none else some ⟨keyId, slice key 0 96, require⟩ } })) ∧
  (
    ∀ (s : State) (e : Env) (c : CmdInfo) (g : Flight), s.meets (.structCancel e g.handle) c →
      (s.port e.port).flight? g.handle = some g →
      (∀ e' source addr len x r, g.cmd = .structLoad e' source addr len → s.pl.cmd = some x → x.port = e.port →
        x.handle = g.handle → x.boot = false → s.pl.st = .checking r →
        s.cancels (.structCancel e g.handle) c g [] { s with pl := { s.pl with st := if r then .ready else .empty, cmd := none } }) ∧
      (∀ e' boundary digest k, g.cmd = .structCommit e' boundary digest → s.pl.cmd = none → s.pl.commit = some k →
        k.port = e.port → k.handle = g.handle → k.boot = false → s.pl.st = .armed →
        s.cancels (.structCancel e g.handle) c g [] { s with pl := { s.pl with st := .ready, commit := none } }))

/-- 04 R135 to R137, R144, 05 R181: SLOT_PEEK reads a slot of the read half; SAPORT_STATUS reports a serial port and clears its
counters where CLEAR is set; TILE_REPORT of a tile that runs waits for parked intervals; PATH_LATENCY reports the number, the
extremes of LATENCY and the extremes of PREV over the records of the LIVE plane that match; PATH_LATENCY_DUMP writes the records
to the host buffer, as many as fit. The layout of the results is the model's (assumption log 3). -/
def Obligations.ExchangeReads : Prop :=
  (
    ∀ (s : State) (e : Env) (c : CmdInfo),
      (∀ slot, s.meets (.slotPeek e slot) c → slot < slotCount s.per.baseRate →
        s.answers (.slotPeek e slot) c .ok 0 (resBytes [(4, (s.ex.readHalf.get slot).toNat), (4, s.per.mediaTime % 2 ^ 32),
          (1, match s.pl.live with | some p => p.writerKind slot | none => 0)]) s) ∧
      (∀ port clear, s.meets (.saportStatus e port clear) c → port ≤ 7 → (rd s.sap port).st = .disabled →
        s.answers (.saportStatus e port clear) c .ok 0
          (resBytes [(1, 0), (1, 0), (1, 0), (2, 0), (2, 0), (2, 0), (2, 0), (2, 0), (2, 0), (4, 0)]) s) ∧
      (∀ port clear x r, s.meets (.saportStatus e port clear) c → port ≤ 7 → rd s.sap port = x → x.st ≠ .disabled →
        s.saRec port = some r →
        s.answers (.saportStatus e port clear) c .ok 0
          (resBytes [(1, if x.st = .locked then 2 else 1), (1, if r.target then 1 else 0), (1, if x.phaseWarn then 1 else 0),
            (2, if r.target then (BitVec.ofInt 16 x.fsOffset).toNat else 0), (2, if r.target then x.rxPhase else 0),
            (2, if r.target then x.txPhase else 0), (2, x.slipDrop), (2, x.slipRepeat),
            (2, x.loss), (4, x.clip)])
          (if clear then { s with sap := (wr s.sap port
            { x with phaseWarn := false, slipDrop := 0, slipRepeat := 0, loss := 0, clip := 0 }) } else s)) ∧
      (∀ k first count addr, s.meets (.tileReport e k first count addr) c → k ≤ 67 → 1 ≤ count → first + count ≤ 1024 →
        (addr = 0 → count ≤ 4) → (addr ≠ 0 → e.port ≠ .D) →
        (s.tile (s.carrierOf k)).run ≠ .absent → (s.tile (s.carrierOf k)).run ≠ .cold →
        s.starts (.tileReport e k first count addr) c { s with treps := (s.treps ++
          [⟨e.port, s.nextHandle e.port, k, first, count, addr, [], 0, 0, decide ((s.tile (s.carrierOf k)).run = .parked)⟩]) })) ∧
  (
    ∀ (s : State) (e : Env) (c : CmdInfo) (p : Plane), s.pl.live = some p → (0x000E, 0xFFFF) ∈ p.sections →
      (∀ mode path sk si dk di hits, s.meets (.pathLatency e 0 mode path sk si dk di) c → mode ≤ 1 →
        hits = p.latency.filter (fun r => if mode = 0 then r.path == path else
          r.srcKind == sk && r.srcIndex == si && r.dstKind == dk && r.dstIndex == di) → hits ≠ [] →
        ∃ first lo hi plo phi, s.answers (.pathLatency e 0 mode path sk si dk di) c .ok 0
            (resBytes [(2, hits.length), (2, first), (4, lo), (4, hi), (4, plo), (4, phi)]) s ∧
          (∃ r ∈ hits, r.path = first) ∧ (∃ r ∈ hits, r.latency = lo) ∧ (∃ r ∈ hits, r.latency = hi) ∧
          (∀ r ∈ hits, first ≤ r.path ∧ lo ≤ r.latency ∧ r.latency ≤ hi) ∧
          (if ∀ r ∈ hits, r.prev = 0xFFFFFFFF then plo = 0xFFFFFFFF ∧ phi = 0xFFFFFFFF
           else (∃ r ∈ hits, r.prev = plo ∧ plo ≠ 0xFFFFFFFF) ∧ (∃ r ∈ hits, r.prev = phi ∧ phi ≠ 0xFFFFFFFF) ∧
             ∀ r ∈ hits, r.prev ≠ 0xFFFFFFFF → plo ≤ r.prev ∧ r.prev ≤ phi)) ∧
      (∀ addr len, s.meets (.pathLatencyDump e 0 addr len) c → e.port ≠ .D → 16 ≤ len →
        s.answers (.pathLatencyDump e 0 addr len) c .ok 0
          (resBytes [(4, min (len / 16) (byPath p.latency).length), (4, p.latency.length)])
          (s.hostWrite e.port addr (((byPath p.latency).take (len / 16)).flatMap LatRec.bytes))))

/-! Routing and gain (07). -/

/-- 07 R224, R225, R229, R230: XPOINT_SET, RAMP_SET and TILE_PARAM_WRITE read COUNT entries from their inline bytes or the
buffer; with MODE 0 these wait for the second boundary after the start; with MODE 1 they go into the group and the command
completes. -/
def Obligations.MixUpdates : Prop :=
  ∀ (s : State) (e : Env) (c : CmdInfo) (p : Plane) (group count addr : Nat), s.pl.live = some p → group ≤ 15 →
    (∀ data, listed e.port addr count 5 4096 →
      (∀ x ∈ xpointEntries count data, ∃ y ∈ p.xpoints, y.inSlot = x.inSlot ∧ y.sum = x.sum) →
      (s.meets (.xpointSet e 0 group count addr data) c →
        s.starts (.xpointSet e 0 group count addr data) c (s.queued e.port ((xpointEntries count data).map .xpt))) ∧
      (s.meets (.xpointSet e 1 group count addr data) c → s.groupTakes group e.port ((xpointEntries count data).map .xpt) →
        s.answers (.xpointSet e 1 group count addr data) c .ok 0 (resBytes [(8, 0), (4, count), (4, 0)])
          (s.staged group e.port ((xpointEntries count data).map .xpt)))) ∧
    (∀ data, listed e.port addr count 5 4096 →
      (∀ x ∈ rampEntries count data, (x.law = 0 ∨ x.law = 1 ∨ x.law = 0xFF) ∧ (∃ r ∈ p.ramps, r.ramp = x.ramp) ∧
        (rd s.mtx.ramps x.ramp).serves = true) →
      (s.meets (.rampSet e 0 group count addr data) c →
        s.starts (.rampSet e 0 group count addr data) c (s.queued e.port ((rampEntries count data).map .ramp))) ∧
      (s.meets (.rampSet e 1 group count addr data) c → s.groupTakes group e.port ((rampEntries count data).map .ramp) →
        s.answers (.rampSet e 1 group count addr data) c .ok 0 (resBytes [(8, 0), (4, count), (4, 0)])
          (s.staged group e.port ((rampEntries count data).map .ramp)))) ∧
    (∀ (k m buf : Nat) (data : List Byte) (es : List UpdEntry), listed e.port buf count 10 32 → k ≤ 67 → m ≤ 1 →
      addr + count ≤ (if m = 1 then 0x3C00 else 0x4000) → es.length = count →
      (∀ i, i < count → es[i]? = some (.word k (m == 1) (addr + i) (BitVec.ofNat 32 (leNat (slice data (4 * i) 4))))) →
      (s.meets (.tileParamWrite e 0 group k m addr count buf data) c → s.tileUsable (s.carrierOf k) = true →
        s.starts (.tileParamWrite e 0 group k m addr count buf data) c (s.queued e.port es)) ∧
      (s.meets (.tileParamWrite e 1 group k m addr count buf data) c → s.groupTakes group e.port es →
        s.answers (.tileParamWrite e 1 group k m addr count buf data) c .ok 0 (resBytes [(8, 0), (4, count), (4, 0)])
          (s.staged group e.port es)))

/-- 07 R225, R226, R229: SAFE_APPLY arms a FILLING group of its port for a boundary at least 16 periods on; SAFE_LOCK_POINT
locks it 8 periods before; SAFE_DISCARD drops a FILLING group, and an ARMED one with its pending SAFE_APPLY; SAFE_STATUS
reports. -/
def Obligations.SafeLoad : Prop :=
  ∀ (s : State) (e : Env) (c : CmdInfo) (group : Nat) (g : Group), group ≤ 15 → rd s.mtx.groups group = g →
    (∀ boundary b others, s.meets (.safeApply e group boundary) c → g.st = .filling → g.owner = e.port →
      b = (if boundary = 0 then s.per.boundaries + 16 else s.per.boundaries + (boundary - s.per.mediaTime)) →
      (boundary ≠ 0 → s.per.mediaTime + 16 ≤ boundary) →
      others = (List.range 16).flatMap (fun i => if (rd s.mtx.groups i).boundary = b ∧
        ((rd s.mtx.groups i).st = .armed ∨ (rd s.mtx.groups i).st = .locked) then (rd s.mtx.groups i).entries else []) →
      (∀ k, k < 68 → wordsFor g.entries k ≠ 0 → wordsFor others k + wordsFor g.entries k ≤ 32) →
      s.starts (.safeApply e group boundary) c { s with mtx := { s.mtx with groups := (wr s.mtx.groups group
        { g with st := .armed, boundary := b, handle := s.nextHandle e.port }) } }) ∧
    (∀ force, s.meets (.safeDiscard e group force) c → force = false → g.st = .empty →
      s.answers (.safeDiscard e group force) c .ok 0 (resBytes [(4, 0)]) s) ∧
    (∀ force, s.meets (.safeDiscard e group force) c → force = false → g.st = .filling → g.owner = e.port →
      s.answers (.safeDiscard e group force) c .ok 0 (resBytes [(4, g.entries.length)])
        { s with mtx := { s.mtx with groups := wr s.mtx.groups group Group.reset } }) ∧
    (∀ k, s.meets (.safeDiscard e group false) c → g.st = .armed → g.owner = e.port →
      (s.port e.port).flight? g.handle = some k →
      s.cancels (.safeDiscard e group false) c k (resBytes [(4, g.entries.length)])
        { s with mtx := { s.mtx with groups := wr s.mtx.groups group Group.reset } }) ∧
    (s.meets (.safeStatus e group) c →
      s.answers (.safeStatus e group) c .ok 0 (resBytes [(1, match g.st with | .empty => 0 | .filling => 1 | .armed => 2 | .locked => 3),
        (1, portNum g.owner), (2, g.entries.length - wordCount g.entries), (2, wordCount g.entries),
        (8, if g.st = .armed ∨ g.st = .locked then s.mediaOf g.boundary else 0)]) s) ∧
    (g.st = .armed → g.boundary ≤ s.per.boundaries + 8 →
      exec (.safeLockPoint group) s = .next { s with mtx := { s.mtx with groups := wr s.mtx.groups group { g with st := .locked } } }) ∧
    (g.st ≠ .armed ∨ s.per.boundaries + 8 < g.boundary → exec (.safeLockPoint group) s = .next s)

/-- 07 R231, R232: XPOINT_GET reports the gains of a crosspoint of the SHADOW plane, and of a LIVE one its running gain, with
its target and pending age or those of the ramp unit that serves it; SUM_STATUS reports a sum of LIVE, also one that has not
been computed yet, and clears its counters where CLEAR is set; RAMP_STATUS reports a unit that is FREE, in HOLD or RAMPING. The
layout of the results is the model's (assumption log 3). -/
def Obligations.MixReads : Prop :=
  ∀ (s : State) (e : Env) (c : CmdInfo) (p : Plane),
    (∀ i o x, s.meets (.xpointGet e 0 i o) c → s.pl.live = some p →
      p.xpoints.find? (fun y => y.inSlot == i && y.sum == o) = some x → p.unitOf i o = none →
      ∀ y, lookup? s.mtx.xpts (xkey i o) = some y →
      s.answers (.xpointGet e 0 i o) c .ok 0 (resBytes [(4, x.gain.toNat), (4, y.last.toNat), (4, y.target.toNat),
        (1, if y.pend.isSome then 1 else 0), (4, match y.pend with | some b => s.per.boundaries - b | none => 0), (1, 0xFF)]) s) ∧
    (∀ i o x u g, s.meets (.xpointGet e 0 i o) c → s.pl.live = some p →
      p.xpoints.find? (fun y => y.inSlot == i && y.sum == o) = some x → p.unitOf i o = some u →
      ((∃ g0 t db b, rd s.mtx.ramps u.ramp = .ramping g0 g t db b) ∨ rd s.mtx.ramps u.ramp = .hold g) →
      ∀ y, lookup? s.mtx.xpts (xkey i o) = some y →
      s.answers (.xpointGet e 0 i o) c .ok 0 (resBytes [(4, x.gain.toNat), (4, y.last.toNat), (4, g.toNat), (1, 2), (4, 0),
        (1, u.ramp)]) s) ∧
    (∀ i o x, s.meets (.xpointGet e 1 i o) c → s.pl.shadow = some p → s.pl.st ≠ .writing →
      p.xpoints.find? (fun y => y.inSlot == i && y.sum == o) = some x →
      s.answers (.xpointGet e 1 i o) c .ok 0 (resBytes [(4, x.gain.toNat), (4, 0), (4, 0), (1, 0), (4, 0),
        (1, match p.unitOf i o with | some r => r.ramp | none => 0xFF)]) s) ∧
    (∀ sum clear r x, s.meets (.sumStatus e sum clear) c → s.pl.live = some p →
      p.sums.find? (fun q => q.sum == sum) = some r → x = (lookup? s.mtx.sums sum).getD (SumSt.fresh r.auxLaw 0) →
      s.answers (.sumStatus e sum clear) c .ok 0 (resBytes [(1, if r.aux then 1 else 0), (1, r.lane), (2, x.n),
          (4, if r.aux then x.scale else 2 ^ 27), (4, if r.aux then x.target else 2 ^ 27), (4, if r.aux then 2 ^ 27 else x.lg),
          (4, if r.aux then 2 ^ 27 else x.lgMin), (4, x.overs), (4, x.clip)])
        (if clear = true ∧ (lookup? s.mtx.sums sum).isSome = true then
          { s with mtx := { s.mtx with sums := insertKey s.mtx.sums sum { x with overs := 0, clip := 0, lgMin := 2 ^ 27 } } }
         else s)) ∧
    (∀ ramp, s.meets (.rampStatus e ramp) c → ramp ≤ 255 → rd s.mtx.ramps ramp = .free →
      s.answers (.rampStatus e ramp) c .ok 0 (resBytes [(1, 0), (1, 0), (1, 0), (4, 0), (4, 0), (2, 0), (2, 0), (2, 0)]) s) ∧
    (∀ ramp g r, s.meets (.rampStatus e ramp) c → ramp ≤ 255 → rd s.mtx.ramps ramp = .hold g → s.pl.live = some p →
      p.ramps.find? (fun q => q.ramp == ramp) = some r →
      s.answers (.rampStatus e ramp) c .ok 0 (resBytes [(1, 1), (1, if r.db then 1 else 0), (1, 0), (4, g.toNat), (4, g.toNat),
        (2, 0), (2, r.inSlot), (2, r.sum)]) s) ∧
    (∀ ramp g0 g1 len b r, s.meets (.rampStatus e ramp) c → ramp ≤ 255 → rd s.mtx.ramps ramp = .ramping g0 g1 len false b →
      s.pl.live = some p → p.ramps.find? (fun q => q.ramp == ramp) = some r →
      s.answers (.rampStatus e ramp) c .ok 0 (resBytes [(1, 2), (1, 0), (1, 0), (4, (unitGain (.ramping g0 g1 len false b) s.per.boundaries).toNat),
        (4, g1.toNat), (2, b + len - 1 - s.per.boundaries), (2, r.inSlot), (2, r.sum)]) s)

/-! The delay memory (08). -/

/-- 08 R246, R247: the commands of the delay memory. DELAY_STATUS and DELAY_LINE_STATUS report; DELAY_MEM_CONFIG writes CONFIG;
DELAY_MEM_RETRAIN takes a DOWN or FAILED memory to TRAINING. The layout of the results is the model's (assumption log 3). -/
def Obligations.DelayCommands : Prop :=
  ∀ (s : State) (e : Env) (c : CmdInfo),
    (∀ clear, s.meets (.delayStatus e clear) c →
      s.answers (.delayStatus e clear) c .ok 0
        (resBytes [(1, match s.dm.st with | .off => 0 | .training => 1 | .up => 2 | .down => 3 | .failed => 4),
          (1, s.dm.g.getD 0), (2, s.dm.rate), (4, usableUnits s.dm.capacityG),
          (4, match s.pl.live with | some p => p.delayUnits | none => 0), (4, s.dm.corr), (4, s.dm.uncorr), (4, s.dm.late),
          (2, s.dm.cfgScrub.getD 60), (4, s.dm.lastPass), (1, s.dm.refresh)])
        (if clear then { s with dm := { s.dm with corr := 0, uncorr := 0, late := 0 } } else s)) ∧
    (∀ line p r x, s.meets (.delayLineStatus e 0 line) c → line ≤ 4095 → s.pl.live = some p →
      p.lines.find? (fun q => q.line == line) = some r → lookup? s.dm.lines line = some x →
      s.answers (.delayLineStatus e 0 line) c .ok 0 (resBytes [(4, r.delay), (4, r.capacity), (4, r.bufBase),
        (4, match x.s with | some b => s.mediaOf b % 2 ^ 32 | none => 0), (4, x.holds)]) s) ∧
    (∀ rate scrub, s.meets (.delayMemConfig e rate scrub) c → s.flashFree →
      rate = 3200 ∨ rate = 4267 ∨ rate = 5500 ∨ rate = 6400 → 15 ≤ scrub → scrub ≤ 1440 →
      s.flashes (.delayMemConfig e rate scrub) c (resBytes [(2, rate), (2, scrub)])
        { s.configWritten with dm := { s.dm with cfgRate := some rate, cfgScrub := some scrub } }) ∧
    (s.meets (.delayMemRetrain e) c → s.dm.st = .down ∨ s.dm.st = .failed →
      s.starts (.delayMemRetrain e) c { s with dm := { s.dm with
        st := .training, attempt := 0, retryWait := false, rate := s.dm.cfgRate.getD 6400, refresh := 0
        retrain := some (e.port, s.nextHandle e.port) } })

/-- 08 R238, R239, R242 to R245: the states of the delay memory and its errors. Training that passes takes it to UP, where every
line starts anew two periods on; one that fails is repeated twice, after which the memory is FAILED; DOWN trains again; the down
criteria of an UP memory take it to DOWN and raise DM_DOWN. A single-bit error of a line read is corrected, counted and reported
as DM_CORR; a double-bit error is counted, reported as DM_UNCORR, and marks both samples of the word for the hold value; a scrub
read of the next block of the walker counts in the same way, without a line, and moves the walker on. -/
def Obligations.DelayStates : Prop :=
  (
    ∀ (s : State),
      (∀ g step, s.portsCalm → s.dm.st = .training → s.dm.retryWait = false → g = 2 ∨ g = 4 ∨ g = 6 ∨ g = 8 →
        ∃ t, exec (.dmTrainingDone (some g) true step) s = .next t ∧ t.dm.st = .up ∧ t.dm.g = some g ∧ t.dm.gRec = some g ∧
          t.dm.retrain = none ∧ t.dm.lines.map (·.1) = s.dm.lines.map (·.1) ∧
          (∀ q ∈ t.dm.lines, q.2.s = some (s.per.boundaries + 2) ∧ q.2.hist = []) ∧
          t.hasCond 0x0804 0x71 0xFFFF = false ∧ t.hasCond 0x0805 0x71 0xFFFF = false ∧ t.ex = s.ex ∧ t.tiles = s.tiles) ∧
      (∀ g step, s.portsCalm → s.dm.st = .training → s.dm.retryWait = false → g = 2 ∨ g = 4 ∨ g = 6 ∨ g = 8 → s.dm.attempt < 2 →
        exec (.dmTrainingDone (some g) false step) s =
          .next { s with dm := { s.dm with g := some g, attempt := s.dm.attempt + 1, retryWait := true } }) ∧
      (∀ g step, s.portsCalm → s.dm.st = .training → s.dm.retryWait = false → g = 2 ∨ g = 4 ∨ g = 6 ∨ g = 8 → 2 ≤ s.dm.attempt →
        ∃ t, exec (.dmTrainingDone (some g) false step) s = .next t ∧ t.dm.st = .failed ∧ t.dm.retrain = none ∧
          s.raised t 0x0805 0x71 0xFFFF step) ∧
      (s.dm.st = .training → s.dm.retryWait = true →
        exec .dmTrainingRetry s = .next { s with dm := { s.dm with retryWait := false } }) ∧
      (s.dm.st = .down → exec .dmDownTimer s = .next { s with dm := { s.dm with
        st := .training, attempt := 0, retryWait := false, rate := s.dm.cfgRate.getD 6400, refresh := 0 } }) ∧
      (s.dm.st = .up → ∃ t, exec .dmPllLockLoss s = .next t ∧ s.raised t 0x0804 0x71 0xFFFF 2 ∧
        t = { s with dm := { s.dm with st := .down, leave := false, uncorrTimes := [] }, flt := t.flt }) ∧
      (∀ refresh, s.dm.st = .training ∨ s.dm.st = .up ∨ s.dm.st = .down →
        exec (.dmMr4Read refresh false) s = .next { s with dm := { s.dm with refresh := refresh % 32 } }) ∧
      (∀ refresh, s.dm.st = .up → ∃ t, exec (.dmMr4Read refresh true) s = .next t ∧ s.raised t 0x0804 0x71 0xFFFF 3 ∧
        t.dm.st = .down ∧ t.dm.refresh = refresh % 32) ∧
      (s.dm.st = .up → exec .dmTrackingRead s = .next { s with dm := { s.dm with tracks := s.dm.tracks + 1 } })) ∧
  (
    ∀ (s : State) (block : Nat), s.dm.st = .up →
      (∀ line due w x, lookup? s.dm.lines line = some x →
        ∃ t, exec (.delayBlockRead line block due [(w, false)] false s.now) s = .next t ∧ t.dm.corr = satAdd 32 s.dm.corr 1 ∧
          t.dm.uncorr = s.dm.uncorr ∧ t.dm.lines = s.dm.lines ∧ s.reported t 0x0801 0x71 line (packBits [(32, block), (16, 0)])) ∧
      (∀ line w x, lookup? s.dm.lines line = some x → inWindow s.dm.uncorrTimes s.now 1000000 = [] →
        ∃ t y, exec (.delayBlockRead line block s.per.mediaTime [(w, true)] false s.now) s = .next t ∧
          t.dm.uncorr = satAdd 32 s.dm.uncorr 1 ∧ t.dm.corr = s.dm.corr ∧ t.dm.st = .up ∧ lookup? t.dm.lines line = some y ∧
          y.repl = x.repl ++ [(s.per.boundaries + 2 * w, s.per.boundaries), (s.per.boundaries + 2 * w + 1, s.per.boundaries)] ∧
          s.reported t 0x0802 0x71 line (packBits [(32, block), (16, line)])) ∧
      (∀ errs, block ≠ s.dm.scrubPos → exec (.delayScrubRead block errs) s = .next s) ∧
      (block = s.dm.scrubPos → exec (.delayScrubRead block []) s = .next { s with dm := { s.dm with
        scrubPos := if s.dm.scrubBlocks ≤ block + 1 then 0 else block + 1
        lastPass := if s.dm.scrubBlocks ≤ block + 1 then s.per.mediaTime % 2 ^ 32 else s.dm.lastPass } }) ∧
      (∀ w, block = s.dm.scrubPos → ∃ t, exec (.delayScrubRead block [(w, true)]) s = .next t ∧
        t.dm.uncorr = satAdd 32 s.dm.uncorr 1 ∧ t.dm.lines = s.dm.lines ∧
        s.reported t 0x0802 0x71 0xFFFF (packBits [(32, block), (16, 0xFFFF)])))

/-! Network lanes and the switch (09). -/

/-- 09 R262, R264, R276, R281 to R284: settings and tables of the network. NET_PORT_CONFIG puts a setting in force, with
REVERT_S the old one stands by; CONFIRM keeps the new one; NET_QUEUE_CONFIG, NET_SWITCH_CONFIG and NET_FRR_SET set theirs;
NET_STREAM_FWD and NET_MAC_SET carry out their entries in order, where every deletion names a key of the table as it stood
before the command; NET_FWD_GET looks an entry up; NET_COUNTERS reads two counters of a port or writes all 33 to the host
buffer, and clears those that it has read where CLEAR is set. The layout of the results is the model's (assumption log 3). -/
def Obligations.NetSettings : Prop :=
  (
    ∀ (s : State) (e : Env) (c : CmdInfo) (lane : Nat), lane ≤ 7 →
      (∀ cfg revertS, s.meets (.netPortConfig e lane cfg false revertS false) c → portCfgOk cfg = true → revertS ≤ 600 →
        s.domOn (laneDomain lane) = true →
        ∃ u, s.answers (.netPortConfig e lane cfg false revertS false) c .ok 0
            (resBytes [(1, b2n cfg.enable), (1, cfg.mode), (1, cfg.fec), (2, cfg.maxFrame), (1, b2n cfg.hbEn), (1, cfg.defaultPcp),
              (4, packBits ((cfg.pcpMap.toList.reverse).map (fun q => (3, q)))), (1, b2n cfg.floodEn), (1, b2n cfg.learnEn),
              (1, if revertS = 0 then 0 else 1)]) u ∧
          (u.lane lane).cfg = cfg ∧
          (u.lane lane).revert = (if revertS = 0 then none else
            some ⟨match (s.lane lane).revert with | some r => r.old | none => (s.lane lane).cfg, s.now + revertS * 1000000000, false⟩) ∧
          (∀ j, j ≠ lane → u.lane j = s.lane j) ∧ u.cfg = s.cfg ∧ u.net.streamTbl = s.net.streamTbl) ∧
      (∀ arg cfg revertS r, s.meets (.netPortConfig e lane arg false revertS true) c → portCfgOk arg = true → revertS ≤ 600 →
        s.domOn (laneDomain lane) = true → (s.lane lane).cfg = cfg → (s.lane lane).revert = some r → r.persist = false →
        s.answers (.netPortConfig e lane arg false revertS true) c .ok 0
          (resBytes [(1, b2n cfg.enable), (1, cfg.mode), (1, cfg.fec), (2, cfg.maxFrame), (1, b2n cfg.hbEn), (1, cfg.defaultPcp),
            (4, packBits ((cfg.pcpMap.toList.reverse).map (fun q => (3, q)))), (1, b2n cfg.floodEn), (1, b2n cfg.learnEn), (1, 0)])
          (s.setLane lane { (s.lane lane) with revert := none })) ∧
      (∀ port q rsv qmax n, s.meets (.netQueueConfig e port q rsv qmax false) c → port ≤ 9 → q ≤ 7 →
        (s.net.allQueues.map (·.rsv)).sum - (s.net.queue port q).rsv + rsv ≤ 16384 →
        n = s.net.setQueue port q { (s.net.queue port q) with rsv := rsv, qmax := qmax } →
        s.answers (.netQueueConfig e port q rsv qmax false) c .ok 0 (resBytes [(4, 32768 - (n.allQueues.map (·.rsv)).sum)])
          { s with net := n }) ∧
      (∀ et da mac age, s.meets (.netSwitchConfig e et da mac age false) c → et ≤ 0xFFFF → da < 2 ^ 48 → mac < 2 ^ 48 →
        age = 0 ∨ (10 ≤ age ∧ age ≤ 3600) →
        s.answers (.netSwitchConfig e et da mac age false) c .ok 0 (leBytes 2 et ++ beBytes 6 da ++ beBytes 6 mac ++ leBytes 2 age)
          { s with net := { s.net with etherType := et, hbDa := da, nodeMac := mac, ageS := age } }) ∧
      (∀ backup ms, s.meets (.netFrrSet e lane backup ms false) c → backup ≤ 7 ∨ backup = 0xFF → backup ≠ lane → ms ≤ 60000 →
        s.answers (.netFrrSet e lane backup ms false) c .ok 0 (resBytes [(1, lane), (1, backup), (2, ms)])
          (s.setLane lane { (s.lane lane) with
            backup := if backup = 0xFF then none else some backup
            restoreMs := ms
            frrActive := backup ≠ 0xFF && ((s.lane lane).frrActive || (s.lane lane).st ≠ .up) }))) ∧
  (
    ∀ (s : State) (e : Env) (c : CmdInfo),
      (∀ count addr data es, s.meets (.netStreamFwd e count addr data) c → listed e.port addr count 5 4096 →
        es = fwdEntries count data → (∀ x ∈ es, (x.ingress ≤ 7 ∨ x.ingress = 0xFF) ∧ (x.queue ≤ 7 ∨ x.queue = 0xFF)) →
        (∀ x ∈ es, x.delete = true → ∃ y ∈ s.net.streamTbl, y.id = x.streamId ∧ y.ingress = x.ingress) →
        (es.foldl applyFwd s.net.streamTbl).length ≤ 16384 →
        s.answers (.netStreamFwd e count addr data) c .ok 0
          (resBytes [(4, count), (4, (es.foldl applyFwd s.net.streamTbl).length)])
          { s with net := { s.net with streamTbl := es.foldl applyFwd s.net.streamTbl } }) ∧
      (∀ count addr data es, s.meets (.netMacSet e count addr data) c → listed e.port addr count 2 2048 →
        es = macEntries count data → (∀ x ∈ es, x.vid ≤ 4095 ∧ x.egress ≤ 0x1FF ∧ (x.queue ≤ 7 ∨ x.queue = 0xFF)) →
        (∀ x ∈ es, x.delete = true → ∃ y ∈ s.net.macTbl, y.mac = x.mac ∧ y.vid = x.vid) →
        (es.foldl applyMac s.net.macTbl).length ≤ 8192 →
        s.answers (.netMacSet e count addr data) c .ok 0
          (resBytes [(4, count), (4, (es.foldl applyMac s.net.macTbl).length)])
          { s with net := { s.net with macTbl := es.foldl applyMac s.net.macTbl } }) ∧
      (∀ key sub, s.meets (.netFwdGet e 0 key sub) c → key < 2 ^ 24 → sub ≤ 7 ∨ sub = 0xFF →
        s.answers (.netFwdGet e 0 key sub) c .ok 0
          (match s.net.streamTbl.find? (fun x => x.id == key && x.ingress == sub) with
           | none => resBytes [(1, 0)] | some x => resBytes [(1, 1), (2, x.mask), (1, x.queue)]) s) ∧
      (∀ key sub, s.meets (.netFwdGet e 1 key sub) c → key < 2 ^ 48 → sub ≤ 4095 →
        s.answers (.netFwdGet e 1 key sub) c .ok 0
          (match s.net.macTbl.find? (fun x => x.mac == key && x.vid == sub) with
           | none => resBytes [(1, 0)] | some x => resBytes [(1, if x.static_ then 1 else 2), (2, x.mask), (1, x.queue)]) s) ∧
      (∀ port clear first, s.meets (.netCounters e port clear first 0) c → port ≤ 9 → first ≤ 31 →
        ∃ u, s.answers (.netCounters e port clear first 0) c .ok 0
            (resBytes [(8, (s.portCounters port).getD first 0), (8, (s.portCounters port).getD (first + 1) 0)]) u ∧
          u = { s with net := u.net } ∧ (clear = false → u = s) ∧
          (clear = true → ∀ i, (u.portCounters port).getD i 0 =
            (if i = first ∨ i = first + 1 then 0 else (s.portCounters port).getD i 0))) ∧
      (∀ port clear first addr, s.meets (.netCounters e port clear first addr) c → port ≤ 9 → addr ≠ 0 → e.port ≠ .D →
        ∃ u, s.answers (.netCounters e port clear first addr) c .ok 0 []
            (u.hostWrite e.port addr ((s.portCounters port).flatMap (leBytes 8))) ∧
          u = { s with net := u.net } ∧ (clear = false → u = s) ∧ (clear = true → ∀ i, (u.portCounters port).getD i 0 = 0)))

/-- 09 R251, R253 to R258, R264, R268, R283: the states of a lane. Lock takes a lane to UP, or to PROBING with heartbeats; loss
of lock and the third missed heartbeat take it from UP; a heartbeat that is due goes out on a lane that sends no frame, and
waits on one that does; the third good heartbeat takes a probing lane to UP; timers end DAMPED, fast reroute, a learned entry
and an unconfirmed setting. -/
def Obligations.LaneStates : Prop :=
  ∀ (s : State) (i tm : Nat) (l : Lane), i < 8 → s.lane i = l →
    (∀ r, l.revert = some r → r.until_ ≤ s.now → ∃ t, exec (.netRevert i tm) s = .next t ∧ (t.lane i).cfg = r.old ∧
      (t.lane i).revert = none ∧ s.reported t 0x0403 (0x10 + i) i 0) ∧
    (l.st ≠ .disabled → l.cfg.mode = 3 → l.pcsLock = false →
      exec (.rateSearchDwell i tm) s =
        .next (({ s with now := max s.now tm } : State).setLane i { l with search := true, mode := (l.mode + 1) % 3, fec := 0 })) ∧
    (l.st = .down → ∃ t, exec (.pcsLockHeld i tm) s = .next t ∧ (t.lane i).pcsLock = true ∧
      (t.lane i).st = (if l.cfg.hbEn then .probing else .up) ∧ (l.cfg.hbEn = false → t.hasCond 0x0401 (0x10 + i) i = false) ∧
      (∀ j, j ≠ i → t.lane j = s.lane j)) ∧
    (l.st = .up → ∃ t, exec (.pcsLockLost i tm) s = .next t ∧ (t.lane i).st = .down ∧ (t.lane i).pcsLock = false ∧
      (t.lane i).exits = satAdd 16 l.exits 1 ∧ s.reported t 0x0401 (0x10 + i) i 2 ∧ (∀ j, j ≠ i → t.lane j = s.lane j) ∧
      ∀ q, q < 8 → (t.net.queue i q).frames = []) ∧
    (l.cfg.hbEn = true → l.st = .up ∨ l.st = .probing → l.inTx = none → (∀ u, l.hbAt = some u → u + 3960 ≤ max s.now tm) →
      ∃ t f, exec (.heartbeatTx i tm) s = .next t ∧ (t.lane i).inTx = some f ∧ f.hb = true ∧ f.bytes.length = 60 ∧
        f.bytes.take 24 = beBytes 6 s.net.hbDa ++ beBytes 6 s.net.nodeMac ++ beBytes 2 s.net.etherType ++ [0xF0#8, 1#8] ++
          beBytes 2 (s.nodeId % 4096) ++ beBytes 1 i ++ beBytes 1 (if l.missRun < 3 then 1 else 0) ++ beBytes 2 l.hbSeq ++
          beBytes 2 (l.lastRxSeq.getD 0) ∧ (∀ x ∈ f.bytes.drop 24, x = 0#8) ∧
        (t.lane i).hbSeq = (l.hbSeq + 1) % 65536 ∧ (t.lane i).hbAt = some (max s.now tm) ∧ t.net.queues = s.net.queues ∧
        (∀ j, j ≠ i → t.lane j = s.lane j)) ∧
    (l.inTx ≠ none ∨ (∃ u, l.hbAt = some u ∧ max s.now tm < u + 3960) →
      ∃ t, exec (.heartbeatTx i tm) s = .next t ∧ (t.lane i).hbSeq = l.hbSeq ∧ (t.lane i).hbAt = l.hbAt ∧
        (l.inTx ≠ none → (t.lane i).inTx = l.inTx)) ∧
    (∀ hb : Heartbeat, l.cfg.hbEn = true → l.st = .probing → l.damped = false → hb.peerRx = true → 2 ≤ l.goodRun →
      ∃ t, exec (.heartbeatRx i hb tm) s = .next t ∧ (t.lane i).st = .up ∧ (t.lane i).missRun = 0 ∧
        (t.lane i).lastRxSeq = some hb.seq ∧
        rd (t.lane i).counters 0 = satAdd 64 (rd l.counters 0) 1 ∧ (t.lane i).peerPort = hb.port % 8 ∧ (t.lane i).peerNode = hb.node % 4096) ∧
    (l.cfg.hbEn = true → l.st = .up → l.missRun = 2 → ∃ t, exec (.heartbeatMiss i tm) s = .next t ∧ (t.lane i).st = .probing ∧
      (t.lane i).misses = satAdd 16 l.misses 1 ∧ s.reported t 0x0401 (0x10 + i) i 0) ∧
    (l.cfg.hbEn = true → l.st = .up → l.missRun < 2 → ∃ t, exec (.heartbeatMiss i tm) s = .next t ∧ (t.lane i).st = .up ∧
      (t.lane i).missRun = l.missRun + 1 ∧ t.flt = s.flt) ∧
    (l.damped = true → l.lastExit + 10000000000 ≤ s.now →
      exec (.dampedClear i tm) s = .next (({ s with now := max s.now tm } : State).setLane i { l with damped := false })) ∧
    (l.st = .up → l.upSince + l.restoreMs * 1000000 ≤ s.now →
      exec (.frrRestore i tm) s = .next (({ s with now := max s.now tm } : State).setLane i { l with frrActive := false })) ∧
    (∀ mac vid, s.net.ageS ≠ 0 → ∃ t, exec (.macAgeOut mac vid tm) s = .next t ∧
      (∀ x, x ∈ t.net.macTbl ↔ x ∈ s.net.macTbl ∧ (x.static_ = true ∨ x.mac ≠ mac ∨ x.vid ≠ vid ∨
        max s.now tm < x.refreshed + s.net.ageS * 1000000000)))

/-- 09 R259, R261, R269, R271, R275, 11 R333: frames. A frame with a wrong FCS on a lane that is not UP counts and goes nowhere;
a frame for one lane that is sending is queued whole, behind frames whose first byte came before its own; a frame whose last
byte left is the last one sent; a frame of the control processor, and a large send of one segment, are queued. -/
def Obligations.Frames : Prop :=
  ∀ (s : State) (i : Nat) (l : Lane), i < 8 → s.lane i = l →
    (∀ f : RxFrame, l.st = .down ∨ l.st = .probing → rxCheck f l.cfg.maxFrame = some (6, true) → f.fecUncorr = 0 →
      ∃ t, exec (.frameRx i f) s = .next t ∧ rd (t.lane i).counters 6 = satAdd 64 (rd l.counters 6) 1 ∧ (t.lane i).st = l.st ∧
        t.net.queues = s.net.queues ∧ t.net.macTbl = s.net.macTbl ∧ ∀ j, j ≠ i → t.lane j = s.lane j) ∧
    (∀ (f : RxFrame) (d q k : Nat) (x : Frame), l.st = .up → rxCheck f l.cfg.maxFrame = none → f.fecUncorr = 0 → f.t ≤ s.now →
      f.tEnd ≤ s.now → s.domOn 5 = true →
      s.heartbeatOf f.bytes = none → s.ptpHeader i f.bytes = none → s.aesBindings f.bytes = [] → l.cfg.learnEn = false →
      (ethInfo f.bytes).da / 16 ≠ 0x0180C200000 → (ethInfo f.bytes).da ≠ s.net.nodeMac →
      (ethInfo f.bytes).etherType ≠ s.net.etherType → s.macLookup (ethInfo f.bytes) i = some ([d], q) → d < 8 → d ≠ i →
      (s.lane d).st = .up → (∃ g, (s.lane d).inTx = some g ∧ g.cut = false) → x = s.frameOf i f → x.bytes = f.bytes →
      k = l.queueOf q (ethInfo f.bytes) → s.net.admits d k x = true → (∀ g ∈ (s.net.queue d k).frames, g.first < f.t) →
      ∃ t, exec (.frameRx i f) s = .next t ∧
        (t.net.queue d k).frames = (s.net.queue d k).frames ++ [{ x with queue := k }] ∧
        rd (t.lane i).counters 0 = satAdd 64 (rd l.counters 0) 1 ∧ ∀ j, j ≠ i → t.lane j = s.lane j) ∧
    (∀ (x : Frame) (tx sub : Nat), l.inTx = some x → x.op = .none → x.report = none → x.stomp = false → x.hb = false →
      l.cfg.hbEn = false → s.net.takeNext i = none →
      ∃ t, exec (.frameTxDone i tx sub none) s = .next t ∧ (t.lane i).inTx = none ∧ (t.lane i).lastTx = some (x.bytes, false) ∧
        rd (t.lane i).counters 10 = satAdd 64 (rd l.counters 10) 1 ∧
        rd (t.lane i).counters 11 = satAdd 64 (rd l.counters 11) x.len ∧ t.net.queues = s.net.queues) ∧
    (∀ (bytes : List Byte) (q : Nat) (x : Frame), s.pwr.cpRunning = true → q < 8 → l.st = .up → l.inTx ≠ none → s.domOn 5 = true →
      isPtp bytes = false → x = s.pcFrame bytes .none none → s.net.admits i q x = true →
      (∀ g ∈ (s.net.queue i q).frames, g.first < s.now) →
      ∃ t, exec (.cpFrameSend i q bytes .none none) s = .next t ∧ t = { s with net := t.net } ∧ t.net.lanes = s.net.lanes ∧
        t.net.queues = (s.net.setQueue i q { (s.net.queue i q) with
          frames := (s.net.queue i q).frames ++ [{ x with queue := q }] }).queues) ∧
    (∀ (header payload : List Byte) (q mss : Nat) (x : Frame), s.pwr.cpRunning = true → q < 8 → l.st = .up → l.inTx ≠ none →
      s.domOn 5 = true → 14 ≤ header.length → header.length ≤ 128 → 64 ≤ mss → mss + header.length + 4 ≤ l.cfg.maxFrame →
      1 ≤ payload.length → payload.length ≤ mss → payload.length ≤ 262144 → x = s.pcFrame (header ++ payload) .none none →
      s.net.admits i q x = true → (∀ g ∈ (s.net.queue i q).frames, g.first < s.now) →
      ∃ t, exec (.largeSend i q mss .raw header payload) s = .next t ∧ t = { s with net := t.net } ∧ t.net.lanes = s.net.lanes ∧
        t.net.queues = (s.net.setQueue i q { (s.net.queue i q) with
          frames := (s.net.queue i q).frames ++ [{ x with queue := q }] }).queues)

/-! Streams and control frames (10, 15). -/

/-- 10 R297, R298, R303, R311: a frame or packet that waits at PE is taken; one of a receive stream that does not have the form
of the stream's record counts FORMAT and supplies nothing; a missing comparison result counts MISSING and ends the run. -/
def Obligations.StreamReceive : Prop :=
  ∀ (s : State) (n : Net) (f : Frame),
    (s.net.takePe (fun k => match k with | .stream => true | .aes67 _ _ => false) = none → exec .streamFrameRx s = .next s) ∧
    (∀ r w, s.net.takePe (fun k => match k with | .stream => true | .aes67 _ _ => false) = some (f, n) →
      w = f.bytes.drop (ethInfo f.bytes).pay → s.streamRec true (befld w 1 3) = some r → s.streamRec false (befld w 1 3) = none →
      r.id = befld w 1 3 → befld w 15 1 ≠ r.channels →
      ∃ t, exec .streamFrameRx s = .next t ∧ t.net = n ∧ (t.rxSt r.id).cnt.format = satAdd 32 (s.rxSt r.id).cnt.format 1 ∧
        (t.rxSt r.id).held = (s.rxSt r.id).held ∧ t.ex = s.ex) ∧
    (∀ r w m, s.net.takePe (fun k => match k with | .stream => true | .aes67 _ _ => false) = some (f, n) →
      w = f.bytes.drop (ethInfo f.bytes).pay → s.streamRec true (befld w 1 3) = some r → s.streamRec false (befld w 1 3) = none →
      r.id = befld w 1 3 → r.aes67 = false → r.ptime = 1 → befld w 0 1 = 0x10 → befld w 4 1 = 1 → befld w 15 1 = r.channels →
      befld w 14 1 = 1 → 24 + 4 * r.channels ≤ w.length → bit (befld w 5 1) 5 = false → befld w 6 2 % 4096 = r.id / 4096 →
      rebuildMedia 48 (befld w 8 6) f.arriveMt = some m → s.per.mediaTime < m + r.offset → m + r.offset ≤ f.arriveMt + 128 →
      (f.arriveOff + 1000) * rateHz s.per.baseRate ≤ (m + r.offset - f.arriveMt) * 1000000000 → f.arriveMt ≤ m + r.offset →
      lookup? (s.rxSt r.id).held m = none →
      ∃ t h, exec .streamFrameRx s = .next t ∧ t.net = n ∧ lookup? (t.rxSt r.id).held m = some h ∧
        h.samples = (List.range r.channels).map (fun k => BitVec.ofNat 32 (befld w (24 + 4 * k) 4)) ∧
        h.digest = befld w 16 4 ∧ h.belay = false ∧ h.strandB = bit (befld w 5 1) 3 ∧
        h.class_ = (if bit (befld w 5 1) 7 = false then 1 else if bit (befld w 5 1) 6 then 2 else 3) ∧ t.ex = s.ex) ∧
    (∀ id b r u, s.net.takePe (fun k => match k with | .stream => false | .aes67 _ _ => true) = some (f, n) → f.pe = .aes67 id b →
      s.streamRec true id = some r → r.id = id → r.aes67 = true → udpOff f.bytes = some u →
      rtpPayload (slice f.bytes (u + 8) (befld f.bytes (u + 4) 2 - 8)) = none →
      ∃ t, exec .aes67PacketRx s = .next t ∧ t.net = n ∧ (t.rxSt id).cnt.format = satAdd 32 (s.rxSt id).cnt.format 1 ∧
        (t.rxSt id).held = (s.rxSt id).held) ∧
    (∀ id b r u udp o m, s.net.takePe (fun k => match k with | .stream => false | .aes67 _ _ => true) = some (f, n) →
      f.pe = .aes67 id b → s.streamRec true id = some r → r.id = id → r.aes67 = true → r.ptime = 1 → r.l16 = false →
      udpOff f.bytes = some u → udp = slice f.bytes (u + 8) (befld f.bytes (u + 4) 2 - 8) →
      rtpPayload udp = some (o, 3 * r.channels) → u + 8 + o + 3 * r.channels ≤ f.bytes.length →
      rebuildMedia 32 (befld udp 4 4) f.arriveMt = some m → s.per.mediaTime < m + 1 + r.offset →
      m + 1 + r.offset ≤ f.arriveMt + 128 → f.arriveMt ≤ m + 1 + r.offset →
      (f.arriveOff + 1000) * rateHz s.per.baseRate ≤ (m + 1 + r.offset - f.arriveMt) * 1000000000 →
      lookup? (s.rxSt id).held (m + 1) = none →
      ∃ t h, exec .aes67PacketRx s = .next t ∧ t.net = n ∧ lookup? (t.rxSt id).held (m + 1) = some h ∧ h.class_ = 3 ∧
        h.strandB = b ∧ h.samples = (List.range r.channels).map (fun k => saRx 24 (BitVec.ofNat 32 (befld udp (o + 3 * k) 3)))) ∧
    (∀ id media p, (s.txSt id).own.find? (fun q => q.1 == media) = some p → p.2.1 + 64 ≤ s.per.boundaries → s.str.aligned = false →
      ∃ t, exec (.belayCompareExpiry id media) s = .next t ∧ t.str.missing = satAdd 32 s.str.missing 1 ∧
        (t.txSt id).own = (s.txSt id).own.filter (fun q => q.1 != media) ∧ (t.txSt id).run = 0)

/-- 10 R312, R315: STREAM_STATUS and BELAY_STATUS report, and clear their counters where CLEAR is set; AES67_BIND reads COUNT
entries from its inline bytes or the buffer and carries them out in order. The layout of the results is the model's (assumption
log 3). -/
def Obligations.StreamCommands : Prop :=
  ∀ (s : State) (e : Env) (c : CmdInfo),
    (∀ id clear r x, s.meets (.streamStatus e 0 id clear) c → s.streamRec false id = some r → s.txSt id = x →
      s.answers (.streamStatus e 0 id clear) c .ok 0
        (resBytes [(4, x.sentA), (4, x.sentB), (4, x.invalid), (4, x.subst), (4, x.clip)])
        (if clear then s.setTx id { x with sentA := 0, sentB := 0, invalid := 0, subst := 0, clip := 0 } else s)) ∧
    (∀ id clear r x, s.meets (.streamStatus e 1 id clear) c → s.streamRec true id = some r → s.rxSt id = x →
      s.answers (.streamStatus e 1 id clear) c .ok 0
        (resBytes ([(1, x.run.code)] ++ x.cnt.arrive.toList.map (fun v => (4, v)) ++ x.cnt.used.toList.map (fun v => (4, v)) ++
          [(4, x.cnt.format), (4, x.cnt.belaySkip), (4, x.cnt.window), (4, x.cnt.late), (4, x.cnt.early), (4, x.cnt.unused),
           (4, x.cnt.diverge), (4, x.cnt.ssrcChange), (4, x.cnt.missing), (4, x.cnt.minMargin)]))
        (if clear then s.setRx id { x with cnt := RxCnt.zero } else s)) ∧
    (∀ clear, s.meets (.belayStatus e clear) c → s.isBelay = true →
      s.answers (.belayStatus e clear) c .ok 0
        (resBytes [(1, 1), (1, if s.str.aligned then 1 else 0), (4, s.txIds.length), (4, s.minRun.1), (4, s.minRun.2),
          (4, s.str.match_), (4, s.str.mismatch), (4, s.str.missing), (4, s.str.skip), (4, s.str.alignedAt),
          (4, s.str.ctrlMisaddr), (4, s.str.ctrlBad)])
        (if clear then { s with str := { s.str with
          match_ := 0, mismatch := 0, missing := 0, skip := 0, ctrlMisaddr := 0, ctrlBad := 0 } } else s)) ∧
    (∀ count addr data es, s.meets (.aes67Bind e count addr data) c → listed e.port addr count 1 256 →
      es = bindEntries count data → (∀ x ∈ es, bindOk x = true) →
      (∀ x ∈ es, x.delete = true → (∃ y ∈ s.str.bindings, bindSame y x = true) ∧ ∀ y ∈ es, y.delete = false → bindSame y x = false) →
      (es.foldl applyBind s.str.bindings).length ≤ 256 →
      s.answers (.aes67Bind e count addr data) c .ok 0 (resBytes [(4, count), (4, (es.foldl applyBind s.str.bindings).length)])
        { s with str := { s.str with bindings := es.foldl applyBind s.str.bindings } })

/-- 10 R306 to R308, 15 R471, R472, R475: a CMD frame that is the first to wait at PC and passes the checks raises its key's
replay counter and makes its descriptors available; one that is not authentic counts AUTH and does neither. The entries that
wait for a reply go out in one CMD_REPLY frame, in queue 6 of the lane of the last CMD frame, with the next reply counter. -/
def Obligations.ControlFrames : Prop :=
  ∀ (s : State),
    (∀ (f : Frame) (n : Net) (w : List Byte) (k : Key), s.portsCalm → s.pwr.service = true → s.boot.recovery = false →
      s.net.takeNext 9 = some (f, n) → (∃ q, q < 8 ∧ f ∈ (s.net.queue 9 q).frames) → w = f.bytes.drop (ethInfo f.bytes).pay →
      (ethInfo f.bytes).etherType = s.net.etherType → befld f.bytes (ethInfo f.bytes).pay 1 = 0x80 →
      befld w 2 2 % 4096 = s.nodeId → 1 ≤ befld w 6 2 → befld w 6 2 ≤ 16 → definedOpcode (leNat (slice w 16 2)) = true →
      32 + befld w 6 2 * 64 ≤ w.length → lookup? s.ports.pc.keys (befld w 4 1) = some k →
      k.highest < befld w 8 8 → ∃ t, exec .cmdFrameRx s = .next t ∧ t.net = n.release f ∧
        (if (hmacSha256 k.material (slice w 0 (16 + befld w 6 2 * 64))).take 16 = slice w (16 + befld w 6 2 * 64) 16 then
          t.ports.c.avail = s.ports.c.avail + befld w 6 2 ∧
          t.ports.pc.descs = s.ports.pc.descs ++ (List.range (befld w 6 2)).map (fun j => slice w (16 + 64 * j) 64) ∧
          ∃ k', lookup? t.ports.pc.keys (befld w 4 1) = some k' ∧ k'.highest = befld w 8 8 ∧ k'.material = k.material
        else t.ports.c.avail = s.ports.c.avail ∧ t.ports.pc.authFail = satAdd 32 s.ports.pc.authFail 1 ∧
          t.ports.pc.keys = s.ports.pc.keys)) ∧
    (∀ (k : Key) (x : Entry) (tm : Nat), s.pwr.service = true → s.ports.pc.held = [x] →
      lookup? s.ports.pc.keys s.ports.pc.lastKey = some k → s.ports.pc.lastLane < 8 → (s.lane s.ports.pc.lastLane).st = .up →
      (s.lane s.ports.pc.lastLane).inTx ≠ none → s.net.etherType % 65536 ≠ 0x8100 →
      s.domOn 5 = true → (∀ f : Frame, f.bytes.length ≤ 150 → s.net.admits s.ports.pc.lastLane 6 f = true) →
      (∀ g ∈ (s.net.queue s.ports.pc.lastLane 6).frames, g.first < max s.now tm) →
      ∃ t f, exec (.cmdReplyFlush tm) s = .next t ∧ t.ports.pc.held = [] ∧
        (t.net.queue s.ports.pc.lastLane 6).frames = (s.net.queue s.ports.pc.lastLane 6).frames ++ [f] ∧
        f.bytes.drop (ethInfo f.bytes).pay = replyBytes s.nodeId s.ports.pc.lastKey (k.reply + 1) k.material [x])

/-! Time and references (11, 12). -/

/-- 11 R318, R320 to R322, R324, R331, R334, R339, R345: the time-stamp unit. TIME_GET returns the timebase, the media time and
the boundary stamp; a snapshot latches a stamp; PPS_OUT rises at a whole second; calibration marks the stamps of a lane; an
announce receipt timeout takes a port out of SLAVE, whichever of LISTENING and MASTER it enters (assumption log 5). A PTP
message in OC and BC mode goes to the control processor, whose firmware's decision comes with the row (assumption log 1), and
one of another domain is discarded; in P2P_TC mode a Delay_Req is dropped and counted. -/
def Obligations.TimeUnit : Prop :=
  (
    ∀ (s : State),
      (∀ (e : Env) (c : CmdInfo), s.meets (.timeGet e) c → s.answers (.timeGet e) c .ok 0
        (resBytes ((s.ts.tb.tick s.now).fields ++ [(8, s.per.mediaTime)] ++ s.ts.boundary.fields)) s) ∧
      (∀ f tm, s.domOn 2 = true → s.reaches f = true → exec (.tsSnap f tm) s = .next { s with
        now := max s.now tm, ts := { s.ts with snap := s.ts.tb.tick (max s.now tm), snapSeq := (s.ts.snapSeq + 1) % 256 } }) ∧
      (∀ tm, s.ts.tb = ⟨0, 0, 0, 2 ^ 48, 0, []⟩ → tm < 10 ^ 18 →
        s.ts.tb.tick tm = ⟨tm / 10 ^ 9, tm % 10 ^ 9, 0, tm * 65536 % 2 ^ 64, 0⟩) ∧
      (∀ tm, s.now ≤ tm → s.ts.ppsEn = true → (s.ts.tb.tick tm).ns ≤ 2 ∨ 999999998 ≤ (s.ts.tb.tick tm).ns →
        (∀ u, s.ts.ppsLast = some u → u + 500000000 ≤ tm) →
        exec (.ppsOutEdge tm) s = .next { s with
          now := tm, ts := { s.ts with ppsLast := some tm, ppsUntil := tm + s.ts.ppsWidth * 10000 } }) ∧
      (∀ tm, s.ts.ppsEn = false → exec (.ppsOutEdge tm) s = .next { s with now := max s.now tm }) ∧
      (∀ lane tm, lane < 8 → (s.lane lane).pcsLock = true → ∃ t, exec (.tsCalTimeout lane tm) s = .next t ∧
        (t.tsLane lane).stampValid = false ∧ s.raised t 0x0406 (0x10 + lane) lane (s.lane lane).mode ∧
        ∀ j, j ≠ lane → t.tsLane j = s.tsLane j) ∧
      (∀ lane tm, lane < 8 → (s.lane lane).pcsLock = true → ∃ t, exec (.tsCalibrationComplete lane tm) s = .next t ∧
        (t.tsLane lane).stampValid = true ∧ t.hasCond 0x0406 (0x10 + lane) lane = false ∧
        ∀ j, j ≠ lane → t.tsLane j = s.tsLane j) ∧
      (∀ lane, lane < 8 → s.pwr.cpRunning = true → (s.tsLane lane).cfg.ptpEn = true →
        (s.tsLane lane).portState = 8 ∨ (s.tsLane lane).portState = 9 → ∃ t, exec (.announceReceiptTimeout lane) s = .next t ∧
        ((t.tsLane lane).portState = 4 ∨ (t.tsLane lane).portState = 6) ∧ (t.tsLane lane).offset = 0 ∧
        (t.tsLane lane).announceTimeouts = satAdd 32 (s.tsLane lane).announceTimeouts 1 ∧ ∀ j, j ≠ lane → t.tsLane j = s.tsLane j)) ∧
  (
    ∀ (s : State) (lane : Nat) (f : RxFrame) (off : Nat), lane < 8 → (s.lane lane).st = .up → s.domOn 5 = true →
      rxCheck f (s.lane lane).cfg.maxFrame = none → f.fecCorr = 0 → f.fecUncorr = 0 → f.t ≤ s.now → f.tEnd ≤ s.now →
      s.heartbeatOf f.bytes = none → s.ptpHeader lane f.bytes = some off → s.pwr.cpRunning = true →
      (ethInfo f.bytes).da ≠ 0x0180C2000001 → (ethInfo f.bytes).da ≠ 0x0180C2000002 →
      (∀ q, q < 8 → ∀ g ∈ (s.net.queue 9 q).frames, g.ptp = false) →
      (∀ w : PtpFw, 1 ≤ s.ts.ptp.mode → s.ts.ptp.mode ≤ 2 → befld f.bytes off 1 % 16 = 0 → befld f.bytes (off + 4) 1 = s.ts.ptp.domain →
        w.portState ≤ 9 → ∃ t, exec (.ptpMessageRx lane f (some w)) s = .next t ∧
          (t.tsLane lane).rxEvent = satAdd 32 (s.tsLane lane).rxEvent 1 ∧ (t.tsLane lane).portState = w.portState ∧
          (t.tsLane lane).meanDelay = w.meanDelay ∧ (t.tsLane lane).offset = (if w.portState = 9 then w.offset else 0) ∧
          (t.tsLane lane).fifo = (s.tsLane lane).fifo.drop w.reads ∧
          (t.ref.c lane).rxQl = classLevel w.clockClass ∧ rd (t.lane lane).counters 0 = satAdd 64 (rd (s.lane lane).counters 0) 1 ∧
          t.net.queues = s.net.queues ∧ ∀ j, j ≠ lane → t.tsLane j = s.tsLane j) ∧
      (∀ fw, 1 ≤ s.ts.ptp.mode → s.ts.ptp.mode ≤ 2 → befld f.bytes off 1 % 16 = 0 → befld f.bytes (off + 4) 1 ≠ s.ts.ptp.domain →
        ∃ t, exec (.ptpMessageRx lane f fw) s = .next t ∧ (t.tsLane lane).portState = (s.tsLane lane).portState ∧
          (t.tsLane lane).meanDelay = (s.tsLane lane).meanDelay ∧ (t.tsLane lane).offset = (s.tsLane lane).offset ∧ t.ref = s.ref ∧
          t.net.queues = s.net.queues) ∧
      (s.ts.ptp.mode = 4 → befld f.bytes off 1 % 16 = 1 → (ethInfo f.bytes).da ≠ 0x0180C200000E →
        (ethInfo f.bytes).da ≠ s.net.nodeMac → ∀ fw, ∃ t, exec (.ptpMessageRx lane f fw) s = .next t ∧
          (t.tsLane lane).rxEvent = satAdd 32 (s.tsLane lane).rxEvent 1 ∧
          (t.tsLane lane).e2eDrop = satAdd 32 (s.tsLane lane).e2eDrop 1 ∧ (t.tsLane lane).portState = (s.tsLane lane).portState ∧
          t.net.queues = s.net.queues ∧ ∀ j, j ≠ lane → t.tsLane j = s.tsLane j))

/-- 11 R322, R328, R338 to R340, R344, R345: the settings of the time-stamp unit, and the status of a lane. A transparent clock
has no port states. The layout of the results is the model's (assumption log 3). -/
def Obligations.TimeCommands : Prop :=
  ∀ (s : State) (e : Env) (c : CmdInfo),
    (∀ mode profile domain p1 p2 two, s.meets (.ptpConfig e mode profile domain p1 p2 two false) c → mode ≤ 4 → profile ≤ 3 →
      domain ≤ 127 → p1 ≤ 255 → p2 ≤ 255 →
      (mode ≠ 1 ∨ ((List.range 8).filter (fun j => (s.tsLane j).cfg.ptpEn)).length ≤ 1) →
      ∃ u, s.answers (.ptpConfig e mode profile domain p1 p2 two false) c .ok 0
          (resBytes [(1, mode), (1, profile), (1, domain), (1, p1), (1, p2), (1, if two then 1 else 0)]) u ∧
        u.ts.ptp = ⟨mode, profile, domain, p1, p2, two⟩ ∧ u.ts.tb = s.ts.tb ∧ u.cfg = s.cfg ∧
        ∀ j, j < 8 → (u.tsLane j).cfg = (s.tsLane j).cfg ∧ (3 ≤ mode → (u.tsLane j).portState = 0)) ∧
    (∀ lane cfg, s.meets (.ptpPortConfig e lane cfg false) c → lane ≤ 7 → profileRange s.ts.ptp.profile cfg = true →
      s.ts.ptp.profile ≤ 1 ∨ (cfg.mapEth = false ∧ cfg.mapIpv6 = false) →
      (s.ts.ptp.mode ≠ 1 ∨ cfg.ptpEn = false ∨ ∀ j, j < 8 → j ≠ lane → (s.tsLane j).cfg.ptpEn = false) →
      s.domOn (laneDomain lane) = true →
      ∃ u, s.answers (.ptpPortConfig e lane cfg false) c .ok 0
          (resBytes [(1, lane), (1, b2n cfg.ptpEn), (1, packBits [(1, b2n cfg.mapEth), (1, b2n cfg.mapIpv4), (1, b2n cfg.mapIpv6)]),
            (1, b2n cfg.p2p), (1, b2n cfg.hybrid), (1, (BitVec.ofInt 8 cfg.logSync).toNat), (1, (BitVec.ofInt 8 cfg.logAnnounce).toNat),
            (1, cfg.announceTimeout), (1, (BitVec.ofInt 8 cfg.logMinDelay).toNat), (4, cfg.ipv4), (16, cfg.ipv6)]) u ∧
        (u.tsLane lane).cfg = cfg ∧
        (u.tsLane lane).calRx = (s.tsLane lane).calRx ∧ (cfg.ptpEn = false → s.ts.ptp.mode ≤ 2 → (u.tsLane lane).portState = 3) ∧
        (∀ j, j ≠ lane → u.tsLane j = s.tsLane j) ∧ u.ts.ptp = s.ts.ptp ∧ u.cfg = s.cfg) ∧
    (∀ lane mode rx tx, s.meets (.tsCalSet e lane mode rx tx false) c → lane ≤ 7 → mode ≤ 2 → rx < 2 ^ 32 → tx < 2 ^ 32 →
      (calArg rx).natAbs ≤ 655360000 → (calArg tx).natAbs ≤ 655360000 → s.domOn (laneDomain lane) = true →
      ∃ u, s.answers (.tsCalSet e lane mode rx tx false) c .ok 0 (resBytes [(1, lane), (1, mode), (4, rx), (4, tx)]) u ∧
        rd (u.tsLane lane).calRx mode = calArg rx ∧ rd (u.tsLane lane).calTx mode = calArg tx ∧
        (∀ m, m ≠ mode → rd (u.tsLane lane).calRx m = rd (s.tsLane lane).calRx m) ∧
        (∀ j, j ≠ lane → u.tsLane j = s.tsLane j) ∧ u.cfg = s.cfg) ∧
    (∀ lane clear l, s.meets (.ptpStatus e lane clear) c → lane ≤ 7 → s.tsLane lane = l → l.cfg.ptpEn = true →
      s.answers (.ptpStatus e lane clear) c .ok 0
        (resBytes [(1, l.portState), (8, l.meanDelay), (8, (BitVec.ofInt 64 l.offset).toNat), (1, if l.stampValid then 1 else 0),
          (4, l.rxEvent), (4, l.txEvent), (4, l.reports), (4, l.reportLost), (4, l.tcCorrected), (4, l.e2eDrop), (4, l.corrSat),
          (4, l.delayReqDrop), (4, l.announceTimeouts)])
        (if clear then s.setTsLane lane { l with
          rxEvent := 0, txEvent := 0, reports := 0, reportLost := 0, tcCorrected := 0, e2eDrop := 0, corrSat := 0, delayReqDrop := 0, announceTimeouts := 0 } else s)) ∧
    (∀ en width, s.meets (.ppsOutConfig e en width false) c → 1 ≤ width → width ≤ 50000 →
      s.answers (.ppsOutConfig e en width false) c .ok 0 (resBytes [(1, if en then 1 else 0), (2, width)])
        { s with ts := { s.ts with ppsEn := en, ppsWidth := width, ppsUntil := (if en then s.ts.ppsUntil else 0) } }) ∧
    (∀ en width persist, s.meets (.ppsOutConfig e en width persist) c → width = 0 ∨ 50000 < width →
      s.answers (.ppsOutConfig e en width persist) c .rejectedArgs 0x000B [] s)

/-- 12 R348, R349, R352, R357, R361, R362, R367, R369: the reference selector. A phase measurement of the candidate that it
follows steps the timebase at the third in a row at or above STEP_NS, and not before; an evaluation without an eligible
candidate stays in free run at the oscillator's trim; while the control processor is paused an evaluation changes no candidate's
state and windows that end are discarded; a hardware reference that then loses its signal puts the clock into hardware holdover
at the mean frequency. The rounding of the mean and the form of the evaluation are the model's (assumption log 16, 24). -/
def Obligations.Selector : Prop :=
  ∀ (s : State),
    (∀ lane err tm, lane < 8 → s.now ≤ tm → s.ts.tb.at_ ≤ tm → s.pwr.cpRunning = true → s.ref.st = .locked → s.ref.sel = lane →
      s.ref.pol.stepNs ≤ err.natAbs → s.ref.bigErrs = 2 → ∃ t, exec (.ptpServoUpdate lane err tm) s = .next t ∧
        t.ts.tb.val = max 0 (s.ts.tb.val + ((tm - s.ts.tb.at_ : Nat) : Int) * s.ts.tb.inc - err * 2 ^ 48) ∧
        t.ts.tb.step = (s.ts.tb.step + 1) % 256 ∧ t.ts.tb.res = s.ts.tb.res + (tm - s.ts.tb.at_) * s.ts.tb.inc ∧
        t.ref.bigErrs = 0 ∧ s.reported t 0x0308 0x02 0xFFFF (BitVec.ofInt 64 (-err)).toNat) ∧
    (∀ lane err tm, lane < 8 → s.pwr.cpRunning = true → s.ref.follows lane = true → s.ref.pol.stepNs ≤ err.natAbs →
      s.ref.bigErrs < 2 → ∃ t, exec (.ptpServoUpdate lane err tm) s = .next t ∧ t.ref.bigErrs = s.ref.bigErrs + 1 ∧ t.ts.tb = s.ts.tb) ∧
    (∀ lane err tm, lane < 8 → s.pwr.cpRunning = true → s.ref.follows lane = true → err.natAbs < s.ref.pol.stepNs →
      ∃ t, exec (.ptpServoUpdate lane err tm) s = .next t ∧
        t.ref = { s.ref.setC lane { (s.ref.c lane) with heard := max s.now tm } with bigErrs := 0 } ∧ t.ts.tb = s.ts.tb ∧
        (t.tsLane lane).offset = (if (s.tsLane lane).portState = 9 then err * 65536 else 0)) ∧
    (∀ err dev tm, s.pwr.cpRunning = true → s.ref.follows 13 = true → s.ref.carriesTime 13 = true → err.natAbs < s.ref.pol.stepNs →
      ∃ t, exec (.ppsInEdge err dev tm) s = .next t ∧ t.ref.bigErrs = 0 ∧ (t.ref.c 14).heard = max s.now tm ∧
        (t.ref.c 14).dev = max (s.ref.c 14).dev dev ∧ t.ts = s.ts) ∧
    (∀ m tm, s.pwr.cpRunning = true → s.ref.st = .freerun → (∀ i, s.ref.enabled i = false) → s.ref.acquiring = false →
      s.ref.trim.natAbs ≤ 200000000 →
      ∃ t, exec (.refEvaluation m tm) s = .next t ∧ t.ref.st = .freerun ∧ t.ref.sel = s.ref.sel ∧
        t.ref.freqPpt = s.ref.trim ∧ t.ts.tb.inc = (2 ^ 48 + 2 ^ 48 * s.ref.trim / 10 ^ 12).toNat ∧ t.flt = s.flt ∧
        ∀ i, i < 15 → (t.ref.c i).st = .disabled) ∧
    (∀ m tm, s.pwr.cpRunning = false → s.ref.following = false ∨ s.ref.sel < 8 ∨ s.ref.cpHold = true →
      ∃ t, exec (.refEvaluation m tm) s = .next t ∧ t.ts = s.ts ∧ t.flt = s.flt ∧ t.ref = { s.ref with cand := t.ref.cand } ∧
        ∀ i, i < 16 → (t.ref.c i).st = (s.ref.c i).st ∧ (t.ref.c i).qualified = (s.ref.c i).qualified) ∧
    (∀ m tm, tm ≤ s.now → s.pwr.cpRunning = false → s.ref.following = true → 8 ≤ s.ref.sel → s.ref.sel ≤ 13 → s.ref.cpHold = false →
      s.candSignal m s.ref.sel = false → s.ref.freqHist ≠ [] →
      ∃ t, exec (.refEvaluation m tm) s = .next t ∧ t.ref.cpHold = true ∧ t.ref.freqPpt = meanI s.ref.freqHist ∧
        t.ref.st = s.ref.st ∧ t.ref.sel = s.ref.sel) ∧
    (∀ long offs tm, s.pwr.cpRunning = false → ∃ t, exec (.refWindowEnd long offs tm) s = .next t ∧ t.ts = s.ts ∧ t.flt = s.flt ∧
      t.ref = { s.ref with cand := t.ref.cand } ∧ ∀ i, i < 16 → (t.ref.c i).st = (s.ref.c i).st ∧
        (t.ref.c i).drift10 = (s.ref.c i).drift10 ∧ (t.ref.c i).drift100 = (s.ref.c i).drift100 ∧
        (t.ref.c i).off10 = (s.ref.c i).off10 ∧ (t.ref.c i).soft = (s.ref.c i).soft) ∧
    (∀ (offs : Vector Int 16) tm (i : Fin 14), s.pwr.cpRunning = true → (∀ j, j < 15 → (s.ref.c j).qualified = false) →
      (s.ref.c i).signal = true → (s.ref.c i).w10 + 10000000000 ≤ s.now → (s.ref.c i).st = .qualifying →
      (∀ j, j < 15 → j ≠ i → (s.ref.c j).signal = false) →
      (offs.get ⟨i, by omega⟩ - s.ref.trim).natAbs ≤ s.ref.pol.softPpt → s.ref.pol.softPpt ≤ s.ref.pol.hardPpt →
      (offs.get ⟨i, by omega⟩ - s.ref.trim).natAbs < 2 ^ 32 →
      ∃ t, exec (.refWindowEnd false offs tm) s = .next t ∧ (t.ref.c i).drift10 = (offs.get ⟨i, by omega⟩ - s.ref.trim).natAbs ∧
        (t.ref.c i).hardOk10 = true ∧ (t.ref.c i).soft = (s.ref.c i).soft ∧ (s.ref.c i).w10 + 10000000000 ≤ (t.ref.c i).w10 ∧
        t.flt = s.flt ∧ t.ref.st = s.ref.st) ∧
    (∀ lane tm, lane < 8 → s.pwr.cpRunning = true → (s.lane lane).esmcTx = true → (s.lane lane).st = .up →
      (s.lane lane).inTx ≠ none → s.domOn 5 = true → (∀ f : Frame, f.bytes.length ≤ 60 → s.net.admits lane 7 f = true) →
      (∀ g ∈ (s.net.queue lane 7).frames, g.first < max s.now tm) →
      ∃ t f, exec (.esmcPduTx lane tm) s = .next t ∧
        (t.net.queue lane 7).frames = (s.net.queue lane 7).frames ++ [f] ∧
        f.bytes.length = 60 ∧ befld f.bytes 0 6 = 0x0180C2000002 ∧ befld f.bytes 12 2 = 0x8809 ∧
        (t.lane lane).ssmSent = some (s.ssmOf lane)) ∧
    (s.pwr.cpRunning = false → s.ref.st = .locked → 8 ≤ s.ref.sel → s.ref.sel ≤ 13 → s.ref.cpHold = false → s.ref.freqHist ≠ [] →
      ∃ t, exec .hardwareHoldover s = .next t ∧ t.ref.cpHold = true ∧ t.ref.freqPpt = meanI s.ref.freqHist ∧ t.ref.st = .locked ∧
        t.ref.sel = s.ref.sel ∧ t.ts.tb.inc = (2 ^ 48 + 2 ^ 48 * meanI s.ref.freqHist / 10 ^ 12).toNat)

/-- 12 R364, R368 to R376: the commands of the selector and of the media clock outputs. The layout of the results is the model's
(assumption log 3). -/
def Obligations.RefCommands : Prop :=
  ∀ (s : State) (e : Env) (c : CmdInfo),
    (∀ clear r, s.meets (.refStatusGet e clear) c → s.ref = r →
      s.answers (.refStatusGet e clear) c .ok 0
        (resBytes [(2, r.switches), (1, if r.baseValid then 1 else 0), (1, if r.cpHold then 1 else 0),
          (1, if r.timeValid then 1 else 0), (1, if r.aligned then 1 else 0), (1, if r.acquiring then 1 else 0), (1, r.effSel),
          (1, r.sel), (1, r.st.code), (4, (BitVec.ofInt 32 r.freqPpt).toNat), (4, (BitVec.ofInt 32 r.base).toNat),
          (8, (BitVec.ofInt 64 (r.offset / 65536)).toNat), (4, (BitVec.ofInt 32 r.ratePpt).toNat),
          (4, (BitVec.ofInt 32 r.trim).toNat), (1, s.ts.tb.step)] ++
         (List.range 16).flatMap (fun i => resBytes [(2, r.wtrLeft s.now i), (1, (r.c i).rxQl), (1, (r.c i).eff),
           (1, b2n (r.c i).soft), (1, b2n (r.c i).qualified), (1, if r.sel = i ∧ i ≠ 15 then 1 else 0), (1, b2n (r.c i).lockout),
           (1, (r.c i).st.code), (4, (r.c i).drift10), (4, (r.c i).drift100)]))
        (if clear then { s with ref := { r with switches := 0 } } else s)) ∧
    (∀ i lockout ql, s.meets (.refCandConfig e i lockout ql false) c → i ≤ 13 → ql = 0xFF ∨ (12 ≤ i ∧ ql ≤ 3) →
      ∃ u, s.answers (.refCandConfig e i lockout ql false) c .ok 0
          (resBytes [(1, i), (1, if lockout then 1 else 0), (1, (u.ref.c i).rxQl)]) u ∧
        (u.ref.c i).lockout = lockout ∧ (u.ref.c i).rxQl = (if ql = 0xFF then (s.ref.c i).rxQl else ql) ∧
        (u.ref.c 14).rxQl = (u.ref.c 13).rxQl ∧ (∀ j, j ≠ i → j ≠ 14 → u.ref.c j = s.ref.c j) ∧ u.ts = s.ts ∧ u.cfg = s.cfg) ∧
    (∀ trim, s.meets (.refOscTrimSet e trim false) c → -200000000 ≤ trim → trim ≤ 200000000 →
      s.answers (.refOscTrimSet e trim false) c .ok 0 (resBytes [(4, (BitVec.ofInt 32 trim).toNat)])
        { s with ref := { s.ref with trim := trim } }) ∧
    (∀ trim, s.meets (.refOscTrimSet e trim true) c → s.flashFree → -200000000 ≤ trim → trim ≤ 200000000 →
      ∃ u, s.flashes (.refOscTrimSet e trim true) c (resBytes [(4, (BitVec.ofInt 32 trim).toNat)]) u ∧
        u.ref = { s.ref with trim := trim } ∧ u.cfg = { s.cfg with trim := some trim } ∧ u.boot.cfgSeq = s.boot.cfgSeq + 1) ∧
    (s.meets (.mediaRealign e) c → (∃ i, i < 14 ∧ s.ref.carriesTime i = true ∧ (s.ref.c i).eligible = true) →
      s.answers (.mediaRealign e) c .ok 0 [] { s with ref := { s.ref with aligned := false, acquiring := false } }) ∧
    (s.meets (.mediaRealign e) c → (∀ i, i < 14 → s.ref.carriesTime i = true → (s.ref.c i).eligible = false) →
      s.answers (.mediaRealign e) c .rejectedState 0x00B1 [] s) ∧
    (∀ w m0 m1, s.meets (.mclkConfig e w m0 m1 false) c → (∀ m, m = m0 ∨ m = m1 →
        (m = 0 ∨ m = 64 ∨ m = 128 ∨ m = 256 ∨ m = 512) ∧ m * rateHz s.per.baseRate ≤ 49152000) →
      s.answers (.mclkConfig e w m0 m1 false) c .ok 0 (resBytes [(1, if w then 1 else 0), (2, m0), (2, m1)])
        { s with ref := { s.ref with wclkEn := w, mult0 := m0, mult1 := m1 } }) ∧
    (∀ lane sy es, s.meets (.esmcConfig e lane sy es false) c → lane ≤ 7 → s.domOn (laneDomain lane) = true →
      s.answers (.esmcConfig e lane sy es false) c .ok 0 (resBytes [(1, lane), (1, if sy then 1 else 0), (1, if es then 1 else 0)])
        (s.setLane lane { (s.lane lane) with
          synceTx := sy, esmcTx := es, ssmSent := (if es then (s.lane lane).ssmSent else none) }))

/-! The power stage (13). -/

/-- 13 R389, R390, R397, R398: a TRIP that qualifies on a channel that switches takes it to TRIPPED with its hiccup timer, and
the third within 10 s to LATCHED; the timer's end takes it out of TRIPPED. A TRIP on a channel that does not switch is only
reported. LIMIT on a side whose gate is high, and has been for the 20 ns of blanking, takes that gate low and ends the cycle; on
a side whose gate is low it does nothing. -/
def Obligations.ChannelTrips : Prop :=
  ∀ (s : State) (k : Nat) (c : Chan) (tm now : Nat), k < 32 → s.paired k = false → s.chan k = c → c.stop = none → s.domOn 12 = true →
    now = max s.now tm →
    (∀ peak, c.switching = true → c.hist.length ≤ 1 → peak < 65536 → ∃ t, exec (.tripQualify k peak tm) s = .next t ∧
      (t.chan k).st = .tripped ∧ (t.chan k).gain = 0 ∧ (t.chan k).trips = satAdd 16 c.trips 1 ∧ (t.chan k).peak = peak ∧
      (t.chan k).hiccup = some (now + ((s.modRec k).map (·.hiccupMs)).getD 0 * 1000000) ∧
      (t.chan k).hist = c.hist ++ [(now, s.per.mediaTime)] ∧
      s.raised t 0x0901 (0x80 + k) k (packBits [(8, 0), (16, peak)]) ∧ ∀ j, j ≠ k → t.chan j = s.chan j) ∧
    (∀ peak a b, c.switching = true → c.hist.drop (c.hist.length - 2) = [a, b] → now ≤ a.1 + 10000000000 → peak < 65536 →
      ∃ t, exec (.tripQualify k peak tm) s = .next t ∧ (t.chan k).st = .latched ∧ (t.chan k).gain = 0 ∧ (t.chan k).hiccup = none ∧
        s.raised t 0x0901 (0x80 + k) k (packBits [(8, 0), (16, peak)]) ∧ s.raised t 0x0902 (0x80 + k) k 0 ∧
        ∀ j, j ≠ k → t.chan j = s.chan j) ∧
    (∀ peak, c.switching = false → ∃ t, exec (.tripQualify k peak tm) s = .next t ∧ t.pst = s.pst ∧
      s.reported t 0x0905 (0x80 + k) k (packBits [(8, 0), (8, c.st.code)])) ∧
    (∀ u, c.st = .tripped → c.hiccup = some u → u ≤ now → ∃ t, exec (.hiccupExpiry k tm) s = .next t ∧
      (t.chan k).st = (if s.enabled k = false then .off else if s.held c then .held else .softstart) ∧ (t.chan k).hiccup = none ∧
      t.hasCond 0x0901 (0x80 + k) k = false ∧ (∀ j, j ≠ k → t.chan j = s.chan j) ∧ t.flt.reports = s.flt.reports) ∧
    (∀ u, c.hiccup = some u → now < u → exec (.hiccupExpiry k tm) s = .next { s with now := now }) ∧
    (∀ r pos x, c.limEnd = false → s.modRec k = some r → r.limitCode ≠ 0 → x = s.gridAt now →
      (∀ y, y = x ∨ y = x - (gridHz s.per.baseRate / 50000000 + 1 : Nat) →
        (if pos then (s.gates k y).1 else (s.gates k y).2) = true) →
      ∃ t, exec (.limitQualify k pos tm) s = .next t ∧ (if pos then (t.gates k x).1 else (t.gates k x).2) = false ∧
        (t.chan k).limEnd = true ∧ (t.chan k).limitCycles = satAdd 16 c.limitCycles 1 ∧ (t.chan k).limActs = c.limActs + 1 ∧
        (t.chan k).st = c.st ∧ ∀ j, j ≠ k → t.chan j = s.chan j) ∧
    (∀ pos, c.limEnd = true ∨ (if pos then (s.gates k (s.gridAt now)).1 else (s.gates k (s.gridAt now)).2) = false →
      exec (.limitQualify k pos tm) s = .next { s with now := now })

/-- 13 R391, R396, R397, R399: SAFE_N low holds every channel, so that nothing switches, and its release starts the channels
that nothing else holds; the last soft-start period takes a channel to RUN; the end of a stop ramp takes it to HELD, and ends
the PSTAGE_STOP that waits for it. -/
def Obligations.ChannelHolds : Prop :=
  ∀ (s : State), (∀ k, s.paired k = false) →
    (∀ tm, s.pst.safeN = false → (∀ k, (s.chan k).stop = none) → ∃ t, exec (.safeNFall tm) s = .next t ∧ t.quiet ∧
      t.pst.safeN = true ∧ s.raised t 0x0108 0x00 0xFFFF 0 ∧
      ∀ k, k < 32 → (t.chan k).st = (if (s.chan k).switching then .held else (s.chan k).st)) ∧
    (∀ tm, s.pst.safeN = true → s.pst.tw = false → (∀ k, (s.chan k).switching = false) →
      ∃ t, exec (.safeNRelease tm) s = .next t ∧ t.pst.safeN = false ∧ t.hasCond 0x0108 0x00 0xFFFF = false ∧
      ∀ k, k < 32 → (t.chan k).st = (if (s.chan k).st = .held ∧ s.enabled k = true ∧ (s.chan k).resume = none ∧
        (s.chan k).flt = false ∧ (s.chan k).rail = false ∧ (s.chan k).host = false ∧ (s.chan k).sense = false
        then .softstart else (s.chan k).st)) ∧
    (∀ k b, k < 32 → (s.chan k).st = .softstart → (s.chan k).ssFrom = some b → (s.chan k).stop = none →
      ∃ t, exec (.softStartEnd k) s = .next t ∧
        (t.chan k).st = (if b + rateHz s.per.baseRate / 20 ≤ s.per.boundaries + 1 then .run else .softstart) ∧
        (t.chan k).gain = (s.chan k).gain ∧ ∀ j, j ≠ k → t.chan j = s.chan j) ∧
    (∀ k p g q f, k < 32 → (s.chan k).switching = true → (s.chan k).stop = some (some (p, g)) → p + 64 ≤ s.per.boundaries →
      s.portsCalm → s.canAnswer q f → s.pst.stops = [⟨q, f.handle, [k], none⟩] →
      ∃ t, exec (.stopRampEnd k) s = .next t ∧ (t.chan k).st = .held ∧ (t.chan k).gain = 0 ∧ (t.chan k).stop = none ∧
        (t.chan k).resume = some (s.per.boundaries + 1) ∧ t.pst.stops = [] ∧
        s.closed t q f .ok 0 (leBytes 8 s.per.mediaTime) ∧ ∀ j, j ≠ k → t.chan j = s.chan j)

/-- 13 R383, R385, R387, R394 to R396, 18 R546, R547: rails, DC and converters. A rail outside its limits holds its channels,
and one back within them releases them; a block of DC above the threshold counts, and the last one of DC_TIME latches the
channel off. A tick keeps the readings of a channel that rests and modulates one that switches without feedback or feed-forward;
a converter that fails its check is out, and a free reserve is due to stand in; a sweep trims every converter. The taps of the
interpolator and the narrowing of its sum are free (assumption log 5). -/
def Obligations.RailsAndDc : Prop :=
  (
    ∀ (s : State) (tm : Nat), (∀ k, s.paired k = false) → s.domOn 12 = true →
      (∀ r reading cfg, r < 4 → reading ≤ 65535 → (s.railOf r).cfg = some cfg → (s.railOf r).outside = false →
        reading * cfg.rsFs < cfg.uv * 65536 → ∃ t, exec (.railOutOfLimits r reading tm) s = .next t ∧
          (t.railOf r).outside = true ∧ (t.railOf r).uv = true ∧ (t.railOf r).reading = reading ∧
          s.raised t 0x0908 0xA0 r (packBits [(8, r), (32, reading * cfg.rsFs / 65536)]) ∧
          (∀ k m, k < 32 → s.modRec k = some m → m.rail = r → (t.chan k).rail = true) ∧ ∀ j, j ≠ r → t.railOf j = s.railOf j) ∧
      (∀ r reading cfg, r < 4 → reading ≤ 65535 → (s.railOf r).cfg = some cfg → (s.railOf r).outside = true → cfg.nom ≤ 50 * cfg.ov →
        (50 * cfg.uv + cfg.nom) * 65536 ≤ reading * cfg.rsFs * 50 → reading * cfg.rsFs * 50 ≤ (50 * cfg.ov - cfg.nom) * 65536 →
        ∃ t, exec (.railWithinLimits r reading tm) s = .next t ∧ (t.railOf r).outside = false ∧ (t.railOf r).uv = false ∧
          (t.railOf r).ov = false ∧ t.hasCond 0x0908 0xA0 r = false ∧ t.hasCond 0x0909 0xA0 r = false ∧
          (∀ k m, k < 32 → s.modRec k = some m → m.rail = r → (t.chan k).rail = false) ∧ ∀ j, j ≠ r → t.railOf j = s.railOf j) ∧
      (∀ k sum n r cfg lp, k < 32 → (s.chan k).dcEnd = some (sum, n, true) → s.modRec k = some r → (s.railOf r.rail).cfg = some cfg →
        rd s.pst.loops k = some lp → (s.chan k).st = .run → (s.chan k).stop = none → 0 < n → 0 < sum →
        2 * r.dcThresh * (s.railOf r.rail).reading * cfg.rsFs * n * 2 ^ 24 ≤ sum.natAbs * (2 * lp.vsFs) * 10000 * 65536 →
        (s.chan k).dcSign = 1 →
        ∃ t, exec (.dcBlockEnd k) s = .next t ∧
          (if (s.chan k).dcRun + 1 < (r.dcTimeMs + 9) / 10 then (t.chan k).dcRun = (s.chan k).dcRun + 1 ∧ (t.chan k).st = .run ∧ t.flt = s.flt
           else (t.chan k).st = .latched ∧ (t.chan k).latchDc = true ∧ (t.chan k).gain = 0 ∧
            s.raised t 0x0903 (0x80 + k) k (BitVec.ofInt 32 (sum / (n : Int))).toNat) ∧ ∀ j, j ≠ k → t.chan j = s.chan j)) ∧
  (
    ∀ (s : State) (tm : Nat), s.domOn 12 = true →
      (∀ n (cs vs : Vector Int 32) (rs scr : Vector Int 4), n ≤ 31 → (∀ k, s.paired k = false) →
        (∀ i, (s.conv i).resv = none) → (∀ i : Fin 32, -32768 < cs.get i ∧ cs.get i < 32767 ∧ -32768 < vs.get i ∧ vs.get i < 32767) →
        (∀ i : Fin 4, 0 ≤ rs.get i ∧ rs.get i < 65535) →
        ∃ t, exec (.modulatorTick n cs vs rs scr tm) s = .next t ∧ t.flt = s.flt ∧
          (∀ k : Fin 32, (t.chan k).csT = (s.chan k).csT ++ [cs.get k] ∧ (t.chan k).vsT = (s.chan k).vsT ++ [vs.get k] ∧
            (t.chan k).st = (s.chan k).st ∧ (t.chan k).gain = (s.chan k).gain ∧
            ((s.chan k).switching = false → (t.chan k).u = (s.chan k).u ∧ (t.chan k).modClip = (s.chan k).modClip) ∧
            (∀ r, s.modRec k = some r → r.feedback = false → r.feedfwd = false → (s.chan k).switching = true →
              (s.chan k).ssFrom ≠ none → s.gap = false →
              (t.chan k).u = max (-0x01000000) (min (asr ((interp n (s.chan k).inHist).toInt * (s.chan k).gain) 27) 0x01000000))) ∧
          ∀ i : Fin 4, ((t.railOf i).reading : Int) = rs.get i) ∧
      (∀ i, i < 68 → (s.conv i).failed = false → (s.conv i).resv = none → (s.conv i).resvDue = none →
        ∃ t, exec (.converterSelfCheck i false tm) s = .next t ∧ (t.conv i).failed = true ∧ (t.conv i).resvDue = s.freeReserve ∧
          (t.conv i).open_ = true ∧ s.raised t 0x0906 (convZone i) i i ∧ ∀ j, j ≠ i → t.conv j = s.conv j) ∧
      (∀ i u, i < 68 → (s.conv i).failed = true → (s.conv i).trimBad = false → (s.conv i).fullRun < fullTicks s.per.baseRate →
        (s.conv i).passSince = some u → u + 100000000 ≤ max s.now tm → (s.conv i).open_ = true →
        ∃ t, exec (.converterSelfCheck i true tm) s = .next t ∧ (t.conv i).failed = false ∧ (t.conv i).open_ = false ∧
          (t.conv i).back = (s.conv i).resv.isSome ∧ t.hasCond 0x0906 (convZone i) i = false) ∧
      (∀ (trims : Vector (Option (Int × Int)) 68) r, s.hlt.calInterval ≠ 0 → s.freeReserve = some r →
        (∀ i, (s.conv i).failed = false ∧ (s.conv i).trimBad = false) → (∀ i, trims.get i ≠ none) →
        ∃ t, exec (.calSweep trims tm) s = .next t ∧ t.hlt.lastSweep = max s.now tm ∧ t.flt = s.flt ∧
          ∀ i : Fin 68, some (t.conv i).trim = trims.get i ∧ (t.conv i).failed = false))

/-- 13 R393, R396, R403 to R408, 18 R544: the commands of the power stage, for a channel of its own. The layout of the results
is the model's (assumption log 3). -/
def Obligations.ChannelCommands : Prop :=
  ∀ (s : State) (e : Env) (c : CmdInfo) (k : Nat) (x : Chan) (mask : BitVec 32), k < 32 → s.paired k = false → s.chan k = x →
    s.domOn 12 = true → mask = 1#32 <<< k →
    (∀ clear r, s.meets (.pstageStatus e k clear) c → s.modRec k = some r → x.hist = [] → ∃ u,
      s.answers (.pstageStatus e k clear) c .ok 0
        (resBytes [(4, s.pstStatus k), (4, s.pstTrip k), (4, x.tripMt), (4, packBits [(16, x.limitCycles), (16, x.trips)]),
          (4, x.modClip), (4, 0), (4, 0), (4, s.pstRail r.rail)]) u ∧ (clear = false → u = s) ∧
        (clear = true → (u.chan k) = { x with trips := 0, limitCycles := 0, modClip := 0 } ∧ ∀ j, j ≠ k → u.chan j = s.chan j)) ∧
    (s.meets (.pstageClear e mask) c → x.st = .latched → x.stop = none → ∃ u,
      s.answers (.pstageClear e mask) c .ok 0 (leBytes 4 (2 ^ k)) u ∧
      (u.chan k).st = (if s.enabled k = false then .off else if s.held x then .held else .softstart) ∧ (u.chan k).hist = [] ∧
      (u.chan k).latchDc = false ∧ u.hasCond 0x0902 (0x80 + k) k = false ∧ ∀ j, j ≠ k → u.chan j = s.chan j) ∧
    (s.meets (.pstageClear e mask) c → x.st ≠ .latched → s.answers (.pstageClear e mask) c .ok 0 (leBytes 4 0) s) ∧
    (s.meets (.pstageStop e mask) c → x.host = false → x.switching = false → x.stop = none → ∃ u,
      s.answers (.pstageStop e mask) c .ok 0 (leBytes 8 s.per.mediaTime) u ∧ (u.chan k).host = true ∧ (u.chan k).st = x.st ∧
      ∀ j, j ≠ k → u.chan j = s.chan j) ∧
    (s.meets (.pstageStop e mask) c → x.host = false → x.switching = true → x.stop = none → ∃ u,
      s.starts (.pstageStop e mask) c u ∧ (u.chan k).host = true ∧ (u.chan k).stop = some none ∧ (u.chan k).st = x.st ∧
      u.pst.stops = s.pst.stops ++ [⟨e.port, s.nextHandle e.port, [k], none⟩] ∧ ∀ j, j ≠ k → u.chan j = s.chan j) ∧
    (s.meets (.pstageStart e mask) c → s.hlt.maint = false → x.host = true → x.stop = none → ∃ u,
      s.answers (.pstageStart e mask) c .ok 0 (leBytes 4 (2 ^ k)) u ∧ (u.chan k).host = false ∧
      (u.chan k).st = (if x.st = .held ∧ s.enabled k = true ∧ x.resume = none ∧ s.held { x with host := false } = false then .softstart
        else if x.switching ∧ s.held { x with host := false } = true then .held else x.st) ∧ ∀ j, j ≠ k → u.chan j = s.chan j) ∧
    (s.meets (.pstageStart e mask) c → s.hlt.maint = true → s.answers (.pstageStart e mask) c .rejectedState 0x0111 [] s) ∧
    (∀ r cfg, s.meets (.pstageRailConfig e r cfg.rsFs cfg.nom cfg.uv cfg.ov false) c → r ≤ 3 → railCfgOk cfg = true →
      s.quiet → ∃ u, s.answers (.pstageRailConfig e r cfg.rsFs cfg.nom cfg.uv cfg.ov false) c .ok 0
        (resBytes [(1, r), (4, cfg.rsFs), (4, cfg.nom), (4, cfg.uv), (4, cfg.ov)]) u ∧ (u.railOf r).cfg = some cfg ∧
      (u.railOf r).outside = ((s.railOf r).outside || (s.railOf r).cfg.isNone) ∧ (∀ j, j ≠ r → u.railOf j = s.railOf j) ∧
      u.cfg = s.cfg) ∧
    (∀ kp ki fs, s.meets (.pstageLoopConfig e k kp ki fs false) c → kp ≤ 0x7FFFFFFF → ki ≤ 0x10000000 → 100 ≤ fs → fs ≤ 1000000 →
      x.switching = false → s.answers (.pstageLoopConfig e k kp ki fs false) c .ok 0 (resBytes [(1, k), (4, kp), (4, ki), (4, fs)])
        { s with pst := { s.pst with loops := wr s.pst.loops k (some ⟨kp, ki, fs⟩) } }) ∧
    (∀ kp ki fs p, s.meets (.pstageLoopConfig e k kp ki fs p) c → kp ≤ 0x7FFFFFFF → ki ≤ 0x10000000 → 100 ≤ fs → fs ≤ 1000000 →
      x.switching = true → s.answers (.pstageLoopConfig e k kp ki fs p) c .rejectedState 0x00C1 [] s)

/-! Faults (14). -/

/-- 14 R410, R415 to R418, R421, R425, R430: what the fault controller decides on a report. A WARN event opens an episode that
settles; a fault of level ENGINE puts the engine-wide safe state in force and FAULT_N low; a CORRECTED fault only counts; a
further fault of a zone merges into its episode. -/
def Obligations.FaultDecisions : Prop :=
  ∀ (s : State) (tm : Nat) (r : Report) (d : Detector) (i : Nat), s.portsCalm → s.flt.reports = [r] → detector r.code = some d →
    d.zone r.zone = true → s.zoneOn r.zone = true → s.recoveringFor r = none →
    (zTile r.zone = true → (s.quad (quadOf (r.zone - 0x20))).mig = none) →
    r.code ∉ [0x0101, 0x0102, 0x0201, 0x0202, 0x0203, 0x0605, 0x0701] → (∀ o ∈ s.flt.ovfSet, o.zone ≠ r.zone) →
    (r.sev d = 1 → d.cond = false → s.flt.find (fun e => e.zone == r.zone) = none → s.flt.freeSlot = some i →
      ∃ t, exec (.faultDecision none tm) s = .next t ∧ (t.ep i).st = .settling ∧ (t.ep i).id = s.flt.nextId ∧
        (t.ep i).zone = r.zone ∧ (t.ep i).level = 1 ∧ (t.ep i).first = r.code ∧ (t.ep i).last = r.code ∧ (t.ep i).secondary = 0 ∧
        (t.ep i).elems = [r.elem] ∧ (t.ep i).reacting = false ∧ t.flt.nextId = nextEpId s.flt.nextId ∧ t.flt.reports = [] ∧
        rd t.flt.sevCount 1 = satAdd 32 (rd s.flt.sevCount 1) 1 ∧ ∀ j, j ≠ i → t.ep j = s.ep j) ∧
    (r.sev d = 3 → s.flt.pinSev ≤ 3 → s.flt.find (fun e => e.zone == r.zone) = none → s.flt.freeSlot = some i →
      (∀ k, s.paired k = false ∧ (s.chan k).flt = false) →
      ∃ t, exec (.faultDecision none tm) s = .next t ∧ t.flt.engineSafe = true ∧ t.flt.pinLow = true ∧ (t.ep i).level = 3 ∧
        (t.ep i).reacting = true ∧ t.quiet ∧ ∀ k, k < 32 → (t.chan k).flt = true) ∧
    (r.sev d = 0 → s.flt.find (fun e => e.zone == r.zone) = none →
      ∃ t, exec (.faultDecision none tm) s = .next t ∧ t.flt.eps = s.flt.eps ∧ t.flt.pinLow = s.flt.pinLow ∧
        t.flt.pulseEnd = s.flt.pulseEnd ∧ t.flt.engineSafe = s.flt.engineSafe ∧
        lookup? t.flt.corrected r.zone = some (satAdd 32 ((lookup? s.flt.corrected r.zone).getD 0) 1)) ∧
    (1 ≤ r.sev d → r.sev d ≤ (s.ep i).level → s.flt.find (fun e => e.zone == r.zone) = some i → (s.ep i).st = .held →
      ∃ t, exec (.faultDecision none tm) s = .next t ∧ (t.ep i).st = .held ∧ (t.ep i).id = (s.ep i).id ∧
        (t.ep i).level = (s.ep i).level ∧ (t.ep i).last = r.code ∧ (t.ep i).first = (s.ep i).first ∧
        (t.ep i).secondary = satAdd 32 (s.ep i).secondary 1 ∧ t.flt.nextId = s.flt.nextId ∧ ∀ j, j ≠ i → t.ep j = s.ep j)

/-- 14 R412 to R414, 20 R589, R592: the monitors, on readings that come with the row CONDITION_CLEARED while no episode waits
for the end of a condition. Tj is the highest of the sixteen sensors; TJ_WARN and TJ_CRIT begin at their thresholds of the
part's grade or above, TJ_LOW at its own or below, and each ends when every sensor has read beyond its end threshold for 10 s.
SUPPLY begins when a rail has been outside its limits for 10 µs, VDD_TILE those of the confirmed AVS request; a rail whose
domains are all off is not watched. The order of the rails and which domains a rail feeds are the model's (assumption log 98).
-/
def Obligations.Monitors : Prop :=
  ∀ (s : State) (tm now : Nat), s.portsCalm → now = max s.now tm → (∀ i, (s.ep i).conds = []) →
    (∀ v : Vector Int 16, ∃ t, exec (.conditionCleared (some (.temps v)) tm) s = .next t ∧ t.mon.temps = v ∧
      t.mon.rails = s.mon.rails ∧ t.flt.eps = s.flt.eps ∧
      (s.mon.warn.on = false → (t.mon.warn.on = true ↔ ∃ i : Fin 16, (if Config.gradeX then 1050 else 950) ≤ v.get i)) ∧
      (s.mon.crit.on = false → (t.mon.crit.on = true ↔ ∃ i : Fin 16, (if Config.gradeX then 1200 else 1100) ≤ v.get i)) ∧
      (s.mon.low.on = false → (t.mon.low.on = true ↔ ∀ i : Fin 16, v.get i ≤ (if Config.gradeX then -450 else -50))) ∧
      (∀ u, s.mon.warn = ⟨true, some u⟩ → (∀ i : Fin 16, v.get i ≤ (if Config.gradeX then 1000 else 900)) →
        t.mon.warn.on = decide (now < u + 10000000000)) ∧
      (∀ u, s.mon.crit = ⟨true, some u⟩ → (∀ i : Fin 16, v.get i ≤ (if Config.gradeX then 1100 else 1000)) →
        t.mon.crit.on = decide (now < u + 10000000000)) ∧
      (∀ u, s.mon.low = ⟨true, some u⟩ → (∀ i : Fin 16, (if Config.gradeX then -400 else 0) ≤ v.get i) →
        t.mon.low.on = decide (now < u + 10000000000)) ∧
      (s.mon.warn.on = false → t.mon.warn.on = true → t.hasCond 0x0105 0x00 0xFFFF = true) ∧
      (s.mon.crit.on = false → t.mon.crit.on = true → t.hasCond 0x0106 0x00 0xFFFF = true) ∧
      (s.mon.low.on = false → t.mon.low.on = true → t.hasCond 0x0107 0x00 0xFFFF = true)) ∧
    (∀ i v x lo hi, i ≤ 11 → rd s.mon.rails i = x → x.on = false → s.railWatched i = true → v < lo ∨ hi < v →
      (if i = 7 then (if s.avs.st = .off then lo = 5500 ∧ hi = 8500
          else lo = 5500 + 50 * s.avs.ack - 200 ∧ hi = 5500 + 50 * s.avs.ack + 200)
        else (lo, hi) = [(7275, 7725), (31350, 34650), (17100, 18900), (17100, 18900), (17100, 18900), (7275, 7725), (7760, 8240),
          (0, 0), (8245, 8755), (11640, 12360), (10100, 11200), (4700, 5700)].getD i (0, 0)) →
      ∃ t, exec (.conditionCleared (some (.rail i v)) tm) s = .next t ∧ t.mon.temps = s.mon.temps ∧
        (match x.outSince with
          | some u => if u + 10000 ≤ now then (rd t.mon.rails i).on = true ∧ s.raised t 0x0104 0x00 i (packBits [(8, i), (32, v / 10)])
              else (rd t.mon.rails i).on = false ∧ t.flt.reports = s.flt.reports
          | none => (rd t.mon.rails i).on = false ∧ (rd t.mon.rails i).outSince = some now ∧ t.flt.reports = s.flt.reports)) ∧
    (∀ i v, i ≤ 11 → s.railWatched i = false → ∃ t, exec (.conditionCleared (some (.rail i v)) tm) s = .next t ∧
      t.flt.reports = s.flt.reports ∧ t.flt.conds = s.flt.conds ∧ (rd t.mon.rails i).on = (rd s.mon.rails i).on)

/-- 14 R418 to R420, R424, R428: how an episode goes on. The end of its last condition takes it to SETTLING, the settle time
closes it, its recovery starts, meets its criterion, or runs out of time. -/
def Obligations.EpisodeStates : Prop :=
  ∀ (s : State) (tm now i : Nat) (e : Episode), i < 16 → s.portsCalm → s.ep i = e → now = max s.now tm → s.pst.stops = [] →
    (∀ x : DetReport, externCond x.code = true → e.st = .opened → e.reacting = false → e.conds = [⟨x.code, x.zone, x.elem⟩] →
      e.ofCp = false → (∀ j, j ≠ i → (s.ep j).conds = []) →
      ∃ t, exec (.conditionCleared (some (.report x)) tm) s = .next t ∧ (t.ep i).st = .settling ∧ (t.ep i).since = now ∧
        t.hasCond x.code x.zone x.elem = false ∧ ∀ j, j ≠ i → t.ep j = s.ep j) ∧
    (e.st = .opened → e.reacting = false → e.conds ≠ [] → s.condPresent e = false → e.ofCp = false →
      (∀ j, j ≠ i → (s.ep j).conds = []) → ∃ t, exec (.conditionCleared none tm) s = .next t ∧ (t.ep i).st = .settling ∧
        (t.ep i).since = now ∧ ∀ j, j ≠ i → t.ep j = s.ep j) ∧
    (e.st = .settling → e.since + s.flt.settleMs * 1000000 ≤ now → s.condPresent e = false → e.reacting = false →
      s.flt.ovfSet = [] → s.flt.log.length < 1024 →
      ∃ t x, exec (.settleTimerExpiry i tm) s = .next t ∧ t.ep i = Episode.none_ ∧ t.flt.log = s.flt.log ++ [x] ∧ x.kind = 6 ∧
        x.episode = e.id ∧ x.zone = e.zone ∧ ∀ j, j ≠ i → t.ep j = s.ep j) ∧
    (e.st = .opened → e.reacting = true → (s.zonePolicy e.zone).2 = true → e.attempts < 3 → s.pwr.cpRunning = true →
      e.attempts = 0 ∨ e.attemptEnd + (if e.attempts = 1 then 1000000000 else 10000000000) ≤ now →
      ∃ t, exec (.recoveryStart i tm) s = .next t ∧ (t.ep i).st = .recovering ∧ (t.ep i).attempts = e.attempts + 1 ∧
        (t.ep i).since = now ∧ (t.ep i).reacting = true ∧ ∀ j, j ≠ i → t.ep j = s.ep j) ∧
    (e.st = .recovering → s.pwr.cpRunning = true → e.zone = 0x70 → 256 ≤ e.goodRun →
      ∃ t, exec (.recoverySuccess i tm) s = .next t ∧ (t.ep i).st = .settling ∧ (t.ep i).since = now ∧
        (t.ep i).reacting = false ∧ (t.ep i).attemptEnd = now ∧ ∀ j, j ≠ i → t.ep j = s.ep j) ∧
    (e.st = .recovering → s.pwr.cpRunning = true → e.zone = 0x70 → e.goodRun < 256 → e.since + 100000000 ≤ now →
      (s.zonePolicy 0x70).2 = true → (∀ p ∈ e.codes, p.1 ≠ 0x0101 ∧ p.1 ≠ 0x0102) → e.level = 2 → e.outNonSelf = true →
      ∃ t, exec (.recoveryTimeout i tm) s = .next t ∧ (t.ep i).st = (if e.attempts < 3 then .opened else .held) ∧
        (t.ep i).attempts = e.attempts ∧ (t.ep i).reacting = true ∧ ∀ j, j ≠ i → t.ep j = s.ep j) ∧
    (e.st = .recovering → e.zone = 0x70 → now < e.since + 100000000 → ∃ t, exec (.recoveryTimeout i tm) s = .next t ∧
      t.flt = s.flt)

/-- 14 R425, R426, R429, R431, R439: FAULT_N after its pulse, the end of the overflow, the watchdog, and FLT_PIN_CTRL, which a
requester writes only while it holds the block unlocked. -/
def Obligations.FaultOutputs : Prop :=
  ∀ (s : State) (tm now : Nat), now = max s.now tm →
    (∀ p, s.flt.pulseEnd = some p → p ≤ now → s.flt.pinLow = true → s.flt.releasedAt = none → s.flt.holdsLow = false →
      exec (.faultNPulseEnd tm) s = .next { s with
        now := now, flt := { s.flt with pinLow := false, pulseEnd := none, releasedAt := some now } }) ∧
    (∀ p, s.flt.pulseEnd = some p → p ≤ now → s.flt.holdsLow = true → ∃ t, exec (.faultNPulseEnd tm) s = .next t ∧
      t.flt.pinLow = true) ∧
    (∀ u, s.flt.lowSince = some u → u + s.flt.settleMs * 1000000 ≤ now → s.flt.leaving = [] →
      (∀ i, i < 16 → (s.ep i).level ≠ 3) → ∃ t, exec (.overflowClear tm) s = .next t ∧ t.flt.overflow = false ∧
      t.flt.engineSafe = false ∧ t.flt.eps = s.flt.eps) ∧
    (∀ pc, s.pwr.cpRunning = true → ∃ t, exec (.watchdogExpiry pc tm) s = .next t ∧ t.pwr.cpRunning = false ∧
      t.pwr.service = false ∧ t.pwr.causes.wdog = true ∧ t.pwr.restarts = satAdd 16 s.pwr.restarts 1 ∧ t.per = s.per) ∧
    (∀ f stretch sev hold force, s.reaches f = true → ((s.access .flt).lock f).open_ now = true → 1 ≤ stretch → stretch ≤ 1000 →
      sev ≤ 3 → hold ≤ 2 →
      ∃ t, exec (.fltPinCtrlWrite f (packBits [(1, 0), (1, if force then 1 else 0), (2, hold), (2, sev), (10, 0), (10, stretch)]) tm) s
          = .next t ∧ t.flt.stretch = stretch ∧ t.flt.pinSev = sev ∧ t.flt.holdMode = hold ∧ t.flt.force = force ∧
        t.flt.eps = s.flt.eps ∧ (force = true → t.flt.pinLow = true)) ∧
    (∀ f v, s.reaches f = true → ((s.access .flt).lock f).open_ now = false →
      ∃ t, exec (.fltPinCtrlWrite f v tm) s = .next t ∧ t.flt = s.flt ∧ (t.access .flt).lockViol = true)

/-- 14 R442 to R444: the commands of the fault controller. The layout of the results is the model's (assumption log 3). -/
def Obligations.FaultCommands : Prop :=
  ∀ (s : State) (e : Env) (c : CmdInfo) (i : Nat) (x : Episode), i < 16 → s.ep i = x → s.pst.stops = [] →
    (∀ eps, s.meets (.faultStatus e) c → eps = ((List.range 16).map s.ep).filter (·.isOpen) →
      s.answers (.faultStatus e) c .ok 0 (leBytes 4 s.fltStatus ++ leBytes 1 (b2n s.fencedNow) ++ leBytes 1 eps.length ++
        eps.flatMap (fun y => leBytes 2 y.id ++ leBytes 1 y.zone) ++
        (List.range 64).flatMap (fun n => leBytes 1 (packBits ((List.range 4).map (fun j =>
          (2, match s.flt.ovfSet.find? (fun o => o.zone == 4 * n + j) with | none => 0 | some o => o.sev))))) ++
        (List.range 4).flatMap (fun n => leBytes 4 (rd s.flt.sevCount n))) s) ∧
    (∀ id codes, s.meets (.faultEpisodeGet e id 0) c → id ≠ 0 → id ≤ 0xFFFF → s.flt.find (fun y => y.id == id) = some i →
      x.elems.length ≤ 100 → codes = (x.codes.take 8).map (·.1) → s.answers (.faultEpisodeGet e id 0) c .ok 0
        (resBytes [(2, x.id), (1, x.zone), (1, x.st.code), (1, x.level), (1, if x.ack then 1 else 0), (1, x.attempts), (2, x.first),
          (2, x.last), (4, x.secondary), (8, x.openMt), (1, codes.length)] ++ codes.flatMap (leBytes 2) ++
         leBytes 4 ((lookup? s.flt.corrected x.zone).getD 0) ++ leBytes 2 x.elems.length ++ x.elems.flatMap (leBytes 2)) s) ∧
    (∀ id, s.meets (.faultEpisodeGet e id 0) c → id ≠ 0 → id ≤ 0xFFFF → s.flt.find (fun y => y.id == id) = none →
      s.answers (.faultEpisodeGet e id 0) c .rejectedArgs 0x00D0 [] s) ∧
    (∀ consume a rest, s.meets (.faultLogRead e 0xFFFFFFFF 1 consume 0) c → s.flt.log = a :: rest → a.read = false →
      s.answers (.faultLogRead e 0xFFFFFFFF 1 consume 0) c .ok 0
        (leBytes 2 1 ++ leBytes 4 ((rest.head?.map (·.seq)).getD (s.flt.logSeq % 2 ^ 32)) ++ leBytes 2 s.flt.missed ++ a.bytes)
        (if consume then { s with flt := { s.flt with log := { a with read := true } :: rest } } else s)) ∧
    (∀ id, s.meets (.faultClear e id 0) c → id ≤ 0xFFFF → s.flt.find (fun y => y.id == id) = some i → x.st = .held →
      ∃ u, s.answers (.faultClear e id 0) c .ok 0 (leBytes 1 2) u ∧ (u.ep i).st = .recovering ∧ (u.ep i).attempts = 1 ∧
        ∀ j, j ≠ i → u.ep j = s.ep j) ∧
    (∀ id, s.meets (.faultClear e id 1) c → id ≤ 0xFFFF → s.flt.find (fun y => y.id == id) = some i → x.st = .held →
      s.condPresent x = false → ∃ u, s.answers (.faultClear e id 1) c .ok 0 (leBytes 1 3) u ∧ (u.ep i).st = .settling ∧
        (u.ep i).attempts = 0 ∧ (u.ep i).reacting = false ∧ ∀ j, j ≠ i → u.ep j = s.ep j) ∧
    (∀ id, s.meets (.faultClear e id 1) c → id ≤ 0xFFFF → s.flt.find (fun y => y.id == id) = some i → x.st = .held →
      s.condPresent x = true → s.answers (.faultClear e id 1) c .rejectedState 0x00D1 [] s) ∧
    (s.meets (.faultAck e 0) c → ∃ u, s.answers (.faultAck e 0) c .ok 0 (leBytes 1 s.flt.openCount) u ∧
      ∀ j, j < 16 → u.ep j = { (s.ep j) with ack := (s.ep j).ack || (s.ep j).isOpen }) ∧
    (∀ stretch sev hold force settle, s.meets (.faultPinConfig e stretch sev hold force settle false) c → 1 ≤ stretch →
      stretch ≤ 1000 → sev ≤ 3 → hold ≤ 2 → 100 ≤ settle → settle ≤ 60000 →
      ∃ u, s.answers (.faultPinConfig e stretch sev hold force settle false) c .ok 0
        (resBytes [(2, stretch), (1, sev), (1, hold), (1, if force then 1 else 0), (2, settle)]) u ∧ u.flt.stretch = stretch ∧
        u.flt.pinSev = sev ∧ u.flt.holdMode = hold ∧ u.flt.force = force ∧ u.flt.settleMs = settle ∧ u.flt.eps = s.flt.eps ∧
        u.cfg = s.cfg) ∧
    (∀ zone det data d, s.meets (.faultInject e zone det data) c → zone ≤ 0xFF → detector det = some d → d.zone zone = true →
      d.sev = 0 → det ∉ [0x0202, 0x0605, 0x0701] → ∃ u, s.answers (.faultInject e zone det data) c .ok 0 (leBytes 2 0) u ∧
        (u.flt.find (fun y => y.zone == zone) = none → u.flt.eps = s.flt.eps)) ∧
    (∀ zone det data d, s.meets (.faultInject e zone det data) c → zone ≤ 0xFF → detector det = some d → d.zone zone = true →
      2 ≤ d.sev → det ≠ 0x0802 → s.hlt.maint = false →
      s.answers (.faultInject e zone det data) c .rejectedState 0x00D3 [] s)

/-! Command ports (15) and register access (21). -/

/-- 15 R455, R457, R462, R482, R488, 19 R569, 21 R612: what PCIe does to ports A and B. Doorbells make descriptors available and
free entries; ENABLE starts a port whose sizes are in range, and sets SETUP_ERR otherwise; a port drains when it is disabled or
its link goes down; a DMA error takes it to ERROR, and the command that a failed read served ends without its work. -/
def Obligations.PortStates : Prop :=
  ∀ (s : State) (f : Requester) (p : CPort) (x : PortS) (tm : Nat), s.portsCalm → Requester.port f = some p → s.port p = x →
    (∀ tail, tail < 2 ^ x.sqLog2 → exec (.cmdSqTail f tail) s =
      .next (s.setPort p { x with sqTail := tail, avail := (tail + 2 ^ x.sqLog2 - x.sqHead) % 2 ^ x.sqLog2 })) ∧
    (∀ tail, 2 ^ x.sqLog2 ≤ tail → exec (.cmdSqTail f tail) s = .next (s.setPort p { x with doorbellErr := true })) ∧
    (∀ head, head < 2 ^ x.cqLog2 → (head + 2 ^ x.cqLog2 - x.cqHead) % 2 ^ x.cqLog2 ≤ x.ring.length → x.waiting = [] →
      x.waitSince = none → ∀ r, r = x.ring.drop ((head + 2 ^ x.cqLog2 - x.cqHead) % 2 ^ x.cqLog2) →
      exec (.cmdCqHead f head) s = .next (s.setPort p { x with cqHead := head, ring := r
                                                               fullSince := if r.length < 2 ^ x.cqLog2 then none
                                                                 else some (x.fullSince.getD s.now) })) ∧
    (∀ head, 2 ^ x.cqLog2 ≤ head → ∃ t, exec (.cmdCqHead f head) s = .next t ∧ (t.port p).doorbellErr = true ∧
      (t.port p).ring = x.ring ∧ (t.port p).cqHead = x.cqHead ∧ s.reported t 0x0B03 (portZone p) 0xFFFF (packBits [(8, 1), (16, head)])) ∧
    (s.domOn 13 = true → x.st = .disabled → 4 ≤ x.sqLog2 → x.sqLog2 ≤ 9 → x.sqLog2 ≤ x.cqLog2 → x.cqLog2 ≤ 12 →
      ∃ t, exec (.portEnable f) s = .next t ∧ (t.port p).st = .active ∧ (t.port p).enable = true ∧ (t.port p).sqHead = 0 ∧
        (t.port p).cqTail = 0 ∧ (t.port p).phase = true ∧ ∀ q, q ≠ p → t.port q = s.port q) ∧
    (s.domOn 13 = true → x.st = .disabled → x.sqLog2 < 4 ∨ 9 < x.sqLog2 ∨ x.cqLog2 < x.sqLog2 ∨ 12 < x.cqLog2 →
      exec (.portEnable f) s = .next (s.setPort p { x with setupErr := true, enable := false })) ∧
    (x.st = .active → x.flights = [] → ∃ t, exec (.portDisable f) s = .next t ∧ (t.port p).st = .disabled ∧
      (t.port p).enable = false ∧ (t.port p).avail = 0 ∧ (∀ q, q ≠ p → t.port q = s.port q) ∧
      ∀ g, g < 16 → (rd s.mtx.groups g).st = .filling → (rd s.mtx.groups g).owner = p → rd t.mtx.groups g = Group.reset) ∧
    (x.st = .active → x.flights ≠ [] → (∀ g ∈ x.flights, g.flash = false) → (∀ g, (rd s.mtx.groups g).st ≠ .armed) →
      ∃ t, exec (.portDisable f) s = .next t ∧ (t.port p).st = .draining ∧
      (t.port p).flights = x.flights) ∧
    (∀ ring index, x.st = .active → (∀ g, (rd s.mtx.groups g).st ≠ .armed) → ∃ t, exec (.pcieDmaError f ring index none) s = .next t ∧ (t.port p).st = .error ∧
      (t.port p).dmaErr = true ∧ (t.port p).flights = x.flights ∧
      s.reported t 0x0B03 (portZone p) 0xFFFF (packBits [(8, ring), (16, index)])) ∧
    (∀ index (g : Flight) e group count addr data, x.st = .active → s.pwr.service = true → (∀ j, (rd s.mtx.groups j).st ≠ .armed) →
      x.flight? g.handle = some g → g.cmd = .xpointSet e 0 group count addr data →
      ∃ t, exec (.pcieDmaError f 2 index (some g.handle)) s = .next t ∧ (t.port p).st = .error ∧ (t.port p).ring = x.ring ∧
        (t.port p).flights = x.flights.filter (fun k => k.handle != g.handle) ∧
        ∀ d ∈ t.mtx.direct, d.port = p → d.handle ≠ g.handle) ∧
    (x.st = .active → x.flights = [] → ∃ t, exec (.pcieLinkDown f false) s = .next t ∧ (t.port p).st = .disabled ∧
      (t.port p).linkUp = false ∧ s.raised t 0x0B01 (portZone p) 0xFFFF 0) ∧
    (x.st = .active → x.flights = [] → ∃ t, exec (.pcieLinkDown f true) s = .next t ∧ (t.port p).st = .disabled ∧
      (t.port p).linkUp = x.linkUp ∧ (t.port p).sqBase = 0 ∧ s.raised t 0x0B01 (portZone p) 0xFFFF 1) ∧
    (x.st = .active → x.flights = [] → ∃ t, exec (.pciePerst f) s = .next t ∧ (t.port p).st = .disabled ∧
      (t.port p).sqBase = 0 ∧ (t.port p).cqBase = 0 ∧ s.raised t 0x0B01 (portZone p) 0xFFFF 0) ∧
    (s.domOn 13 = true → ∃ t, exec (.pcieLinkUp f) s = .next t ∧ (t.port p).linkUp = true ∧ (t.port p).st = x.st ∧
      t.hasCond 0x0B01 (portZone p) 0xFFFF = false) ∧
    (∀ g q y u, q = Requester.cport g → s.port q = y → y.fullSince = some u → u + 1000000000 ≤ max s.now tm → y.cqFullSeen = false →
      ∃ t, exec (.cqFullTimeout g tm) s = .next t ∧ (t.port q).cqFullSeen = true ∧
        s.reported t 0x0B03 (portZone q) 0xFFFF (packBits [(8, 1), (16, y.cqTail)]) ∧ (t.port q).waiting = y.waiting)

/-- 15 R450, R473, R483 to R487: the commands of the device and ports group. What the part is (revision, grade, identifiers) is
fixed by the part (assumption log 5). The layout of the results is the model's (assumption log 3). -/
def Obligations.PortCommands : Prop :=
  ∀ (s : State) (e : Env) (c : CmdInfo),
    (s.meets (.devIdentity e) c → ∃ rev grade rom uid, s.answers (.devIdentity e) c .ok 0
      (resBytes [(2, 0x7240), (1, rev), (1, grade), (4, s.boot.version), (4, rom), (8, uid), (2, s.nodeId), (1, s.per.baseRate),
        (1, portNum e.port), (2, (s.port e.port).groups), (1, (s.port e.port).privs)]) s) ∧
    (∀ node, s.meets (.devNodeIdSet e node false) c → node ≤ 4095 → s.pl.st ≠ .armed → s.pl.st ≠ .locked →
      s.answers (.devNodeIdSet e node false) c .ok 0 (resBytes [(2, node), (8, s.mediaOf (s.per.boundaries + 1))])
        { s with nodeNext := some node }) ∧
    (∀ node p, s.meets (.devNodeIdSet e node p) c → node ≤ 4095 → s.pl.st = .armed →
      s.answers (.devNodeIdSet e node p) c .rejectedState 0x00E7 [] s) ∧
    (∀ h g, s.meets (.cmdAbort e h) c → (s.port e.port).flight? h = some g → g.handle = h → s.flashWaits e.port h = true →
      s.cancels (.cmdAbort e h) c g [] s) ∧
    (∀ h, s.meets (.cmdAbort e h) c → (s.port e.port).flight? h = none → h ≠ s.nextHandle e.port →
      s.answers (.cmdAbort e h) c .rejectedArgs 0x00E9 [] s) ∧
    (∀ port groups privs q, s.meets (.cmdPortPrivSet e port groups privs false) c → portOf port = some q → q ≠ .A → groups ≤ 0xFFFF →
      privs ≤ 0xFF → (noBuf q = true → bit privs 6 = false) →
      ∃ t, exec (.cmdPortPrivSet e port groups privs false) s = .next t ∧ (t.port q).groups = groups ∧
        (t.port q).privs = privs % 128 ∧ t.cfg = s.cfg ∧
        ∃ f : Flight, f.tag = e.tag ∧ f.handle = s.nextHandle e.port ∧
          (t.port e.port).ring.map Entry.plain = (s.port e.port).ring.map Entry.plain ++
            (s.acceptOf c :: completeEntries f c.opcode .ok 0 (resBytes [(2, groups), (1, privs % 128)]))) ∧
    (∀ id addr key groups privs, s.meets (.cmdKeySet e id addr key groups privs) c → s.flashFree → 1 ≤ id → id ≤ 8 → addr ≠ 0 →
      e.port ≠ .D → key.length = 32 → groups ≤ 0xFFFF → privs ≤ 0xFF →
      ∃ u k, s.flashes (.cmdKeySet e id addr key groups privs) c (resBytes [(1, id), (1, u.ports.pc.keys.length)]) u ∧
        lookup? u.ports.pc.keys id = some k ∧ k.material = key ∧ k.groups = groups ∧ k.privs = privs % 128 ∧ k.highest = 0 ∧
        ∀ j, j ≠ id → lookup? u.ports.pc.keys j = lookup? s.ports.pc.keys j) ∧
    (∀ id groups privs key, s.meets (.cmdKeySet e id 0 key groups privs) c → 1 ≤ id → id ≤ 8 → groups ≤ 0xFFFF → privs ≤ 0xFF →
      lookup? s.ports.pc.keys id = none → s.answers (.cmdKeySet e id 0 key groups privs) c .rejectedArgs 0x0080 [] s) ∧
    (∀ x, s.meets (.cmdPortStatus e 3 false) c → e.port ≠ .D → s.ports.d = x → s.answers (.cmdPortStatus e 3 false) c .ok 0
      (resBytes ([(1, 1), (2, x.flights.length), (2, 0), (4, x.accepted)] ++ x.completed.toList.map (fun n => (4, n)) ++
        [(4, x.discarded), (4, x.cqFullMs s.now), (4, 0), (4, 0), (4, 0), (4, 0)])) s) ∧
    (∀ bytes, s.meets (.cmdEcho e bytes) c → bytes.length ≤ 48 → s.answers (.cmdEcho e bytes) c .ok 0 bytes s) ∧
    (∀ bytes, s.meets (.cmdEcho e bytes) c → 48 < bytes.length → s.answers (.cmdEcho e bytes) c .rejectedArgs 0x000B [] s)

/-- 15 R448, R449, R468, R470, 17 R513: the envelope checks and the ends of commands. A command of a group that its port may not
use is answered DENIED with GROUP, one that lacks its privilege DENIED with PRIV, and nothing else changes. A command whose time
runs out, counted from its start, is answered TIMEOUT and loses its work: here a direct update that waits for its boundary; that
the row moves the clock on to the limit is the model's (assumption log 81). The end of a flash operation answers its command; a
failed one is answered INTEGRITY. -/
def Obligations.CommandEnds : Prop :=
  (
    ∀ (s : State) (p : CPort) (f : Flight), s.canAnswer p f → s.portsCalm →
      (∀ e group count addr data, f.cmd = .xpointSet e 0 group count addr data → s.ports.flashQ = [] →
        ∃ t, exec (.commandTimeout p f.handle) s = .next t ∧ s.closed t p f .timeout 0 [] ∧
          (∀ d ∈ t.mtx.direct, d.port = p → d.handle ≠ f.handle) ∧ t.mtx.xpts = s.mtx.xpts ∧
          t.now = max s.now (f.startT + if addr = 0 then 10000000 else 5000000000)) ∧
      (∀ e trim tm n, f.cmd = .refOscTrimSet e trim true → s.ports.flashQ = [(p, f.handle)] → s.ports.flashOn = some (p, f.handle) →
        s.pwr.cpRunning = true → ∃ t, exec (.flashOperationDone true n tm) s = .next t ∧ t.ref.trim = trim ∧ t.cfg.trim = some trim ∧
          t.ports.flashQ = [] ∧ s.closed t p f .ok 0 (leBytes 4 (BitVec.ofInt 32 trim).toNat)) ∧
      (∀ e trim tm n, f.cmd = .refOscTrimSet e trim true → s.ports.flashQ = [(p, f.handle)] → s.ports.flashOn = some (p, f.handle) →
        s.pwr.cpRunning = true → ∃ t, exec (.flashOperationDone false n tm) s = .next t ∧ t.ref = s.ref ∧ t.cfg = s.cfg ∧
          t.ports.flashQ = [] ∧ s.closed t p f .integrity 0x00F8 [])) ∧
  (
    ∀ (s : State) (i : Instr) (c : CmdInfo), cmdInfo i = some c → c.env.port ≠ .C → s.pwr.service = true → s.portsIdle →
      (s.port c.env.port).st = .active → 1 ≤ (s.port c.env.port).avail →
      (s.port c.env.port).ring.length + 16 ≤ (s.port c.env.port).cqSize c.env.port → (∀ q, (s.port q).flights.length < 4) →
      (∀ g ∈ (s.port c.env.port).flights, g.handle ≠ s.nextHandle c.env.port) → s.boot.recovery = false →
      c.env.flags.toNat < 32 → c.env.flags.getLsbD 1 = false →
      (∀ d, s.nextDesc c.env.port = some d →
        leNat (slice d 0 2) = c.opcode ∧ leNat (slice d 2 2) = c.env.flags.toNat ∧ leNat (slice d 4 4) = c.env.tag.toNat) →
      (c.env.port = .D → (s.port .D).avail = 1) →
      (bit (s.port c.env.port).groups (c.opcode / 256) = false → s.answers i c .denied 0x00E1 [] s) ∧
      (∀ v, bit (s.port c.env.port).groups (c.opcode / 256) = true → c.priv = some v → bit (s.port c.env.port).privs v = false →
        s.answers i c .denied 0x00E2 [] s))

/-- 00 R7, 21 R607 to R615: the register space. KEY 0x1ACC and then 0xE55A within 1 ms unlock a block for a requester for 1 s; a
locked field keeps and sets the violation flags; a read clears RC fields; a write of fewer than 4 bytes only sets WIDTH_ERR. -/
def Obligations.RegisterSpace : Prop :=
  ∀ (s : State) (f : Requester) (b : Block) (n tm now : Nat), blockOf n = some b → now = max s.now tm → s.reaches f = true →
    (∃ t, exec (.accessKeyWrite f n 0x1ACC tm) s = .next t ∧
      (((s.access b).lock f).open_ now = false → (s.access b).lock f = .locked → (t.access b).lock f = .half now) ∧
      (∀ g, g ≠ f → (t.access b).lock g = (s.access b).lock g) ∧ ∀ d, d ≠ b → t.access d = s.access d) ∧
    (∀ h, (s.access b).lock f = .half h → now ≤ h + 1000000 → ∃ t, exec (.accessKeyWrite f n 0xE55A tm) s = .next t ∧
      (t.access b).lock f = .unlocked now ∧ ((t.access b).lock f).open_ now = true ∧
      ((t.access b).lock f).open_ (now + 1000000000) = false) ∧
    (∀ key, key ≠ 0x1ACC → key ≠ 0xE55A → ∃ t, exec (.accessKeyWrite f n key tm) s = .next t ∧ (t.access b).lock f = .locked) ∧
    (∀ u, (s.access b).lock f = .unlocked u → u + 1000000000 ≤ now → ∃ t, exec (.accessUnlockExpiry f n tm) s = .next t ∧
      (t.access b).lock f = .locked ∧ ∀ g, g ≠ f → (t.access b).lock g = (s.access b).lock g) ∧
    (∀ u, (s.access b).lock f = .unlocked u → now < u + 1000000000 →
      exec (.accessUnlockExpiry f n tm) s = .next { s with now := now }) ∧
    (∀ k, k < 8 → s.domOn (laneDomain k) = true → ∃ t, exec (.rcRegisterRead f (0x101000 + 0x40 * k) tm) s = .next t ∧
      (t.lane k).exits = 0 ∧ (t.lane k).st = (s.lane k).st ∧ ∀ j, j ≠ k → t.lane j = s.lane j) ∧
    (∀ k, k < 32 → s.domOn 12 = true → ∃ t, exec (.rcRegisterRead f (0x14100C + 0x40 * k) tm) s = .next t ∧
      (t.chan k).trips = 0 ∧ (t.chan k).limitCycles = 0 ∧ (t.chan k).modClip = (s.chan k).modClip ∧ ∀ j, j ≠ k → t.chan j = s.chan j) ∧
    (∀ v, s.portsCalm → s.domOn 2 = true → ((s.access .ts).lock f).open_ now = true → bit v 0 = false → 1 ≤ bits v 16 16 →
      bits v 16 16 ≤ 50000 → ∃ t, exec (.registerWrite f 0x120000 v 4 tm) s = .next t ∧ t.ts.ppsEn = bit v 1 ∧
      t.ts.ppsWidth = bits v 16 16 ∧ t.ts.tb = s.ts.tb ∧ t.ts.snap = s.ts.snap) ∧
    (∀ v, s.portsCalm → s.domOn 2 = true → ((s.access .ts).lock f).open_ now = false → bit v 0 = false →
      ∃ t, exec (.registerWrite f 0x120000 v 4 tm) s = .next t ∧ t.ts = s.ts ∧ (t.access .ts).lockViol = true ∧
      (f = .A → (t.access .ts).violA = true)) ∧
    (∀ v w, s.portsCalm → s.domOn 2 = true → w < 4 → ∃ t, exec (.registerWrite f 0x120000 v w tm) s = .next t ∧ t.ts = s.ts ∧
      (t.access .ts).widthErr = true)

/-! The two-wire target and the serial audio ports (16, 04). -/

/-- 16 R489 to R501: the two-wire target. A START with its address opens a transaction; the first two bytes of a write set the
pointer; bytes of the submission area are stored; a read returns the identification word; a STOP ends the transaction; a framing
error and a stuck line idle the target. The last byte of the word 1 at window address 0x20 after both keys forces every channel
safe, and 10 ms break the sequence. -/
def Obligations.TwoWire : Prop :=
  (
    ∀ (s : State) (tm now : Nat), now = max s.now tm → s.tw.assembly = none →
      (∀ read, s.tw.phase = .idle → s.tw.latched = [] → ∃ t, exec (.twStart (0x58 + s.tw.twa) read tm) s = .next t ∧
        t.tw = { s.tw with phase := (if read then .read else .ptr0), count := 0 } ∧ t.hasCond 0x0B01 0xC3 0xFFFF = false) ∧
      (∀ a read, a ≠ 0x58 + s.tw.twa → ∃ t, exec (.twStart a read tm) s = .next t ∧ t.tw.phase = .idle ∧
        t.tw.pointer = s.tw.pointer ∧ t.tw.flags = s.tw.flags) ∧
      (∀ b : Byte, s.tw.phase = .ptr0 → exec (.twByteWrite b tm) s = .next { s with
        now := now, tw := { s.tw with count := s.tw.count + 1, phase := .ptr1 b.toNat } }) ∧
      (∀ (b : Byte) hi, s.tw.phase = .ptr1 hi → exec (.twByteWrite b tm) s = .next { s with
        now := now, tw := { s.tw with count := s.tw.count + 1, phase := .write, pointer := hi * 256 + b.toNat } }) ∧
      (∀ b : Byte, s.tw.phase = .write → 0x100 ≤ s.tw.pointer → s.tw.pointer < 0x200 → s.tw.seq = 0 →
        exec (.twByteWrite b tm) s = .next { s with now := now, tw := { s.tw with
          count := s.tw.count + 1, pointer := s.tw.pointer + 1, sq := s.tw.sq.set s.tw.pointer b } }) ∧
      (∀ b : Byte, s.tw.phase = .write → 0x28 ≤ s.tw.pointer → s.tw.pointer < 0x100 → s.tw.seq = 0 →
        exec (.twByteWrite b tm) s = .next { s with now := now, tw := { s.tw with
          count := s.tw.count + 1, pointer := s.tw.pointer + 1, flags := s.tw.flags ||| 4#8 } }) ∧
      (∀ ack, s.tw.phase = .read → s.tw.pointer < 4 → s.tw.latched = [] → ∃ t, exec (.twByteRead ack tm) s = .next t ∧
        t.tw.out = BitVec.ofNat 8 (0x72404201 / 256 ^ s.tw.pointer) ∧ t.tw.pointer = s.tw.pointer + 1 ∧
        t.tw.phase = (if ack then .read else .idle)) ∧
      (s.portsCalm → s.tw.sqTail = none → s.tw.cqHead = none → exec (.twStop tm) s = .next { s with
        now := now, tw := { s.tw with phase := .idle, latched := [] } }) ∧
      (∀ n, s.portsCalm → s.tw.sqTail = some n → n < 4 → s.tw.cqHead = none →
        definedOpcode (leNat [Sparse.get s.tw.sq (0x100 + 64 * s.ports.d.sqHead), Sparse.get s.tw.sq (0x101 + 64 * s.ports.d.sqHead)]) = true → ∃ t, exec (.twStop tm) s = .next t ∧
        t.tw.sqTail = none ∧ t.ports.d.avail = (n + 4 - s.ports.d.sqHead) % 4 ∧ t.ports.d.sqTail = n) ∧
      (∀ pos kind, s.tw.phase = .write → 1 ≤ pos → pos ≤ 9 → kind ≤ 1 → ∃ t, exec (.twFramingError pos kind tm) s = .next t ∧
        t.tw.framing = true ∧ t.tw.fKind = kind ∧ t.tw.fPos = pos ∧ t.tw.fDir = false ∧ t.tw.fByte = min s.tw.count 2047 ∧
        t.tw.phase = .idle ∧ t.tw.pointer = s.tw.pointer) ∧
      (∃ t, exec (.twSclLow tm) s = .next t ∧ t.tw.phase = .idle ∧ t.tw.flags = s.tw.flags ||| 1#8 ∧ s.raised t 0x0B01 0xC3 0xFFFF 3) ∧
      (∃ t, exec (.twSdaLow tm) s = .next t ∧ t.tw.phase = .idle ∧ t.tw.flags = s.tw.flags ||| 2#8 ∧ s.raised t 0x0B01 0xC3 0xFFFF 3) ∧
      (s.tw.seq ≠ 0 → s.tw.seqAt + 10000000 ≤ now → exec (.twSafeSeqExpiry tm) s = .next { s with
        now := now, tw := { s.tw with seq := 0, flags := s.tw.flags ||| 0x80#8 } }) ∧
      (s.tw.seq = 0 → exec (.twSafeSeqExpiry tm) s = .next { s with now := now })) ∧
  (
    ∀ (s : State) (tm : Nat), s.tw.phase = .write → s.tw.pointer = 0x23 →
      s.tw.assembly = some (0x20, [(0, 1), (1, 0), (2, 0)]) → s.tw.seq = 2 → max s.now tm ≤ s.tw.seqAt + 10000000 →
      s.pst.tw = false → (∀ k, s.paired k = false) →
      ∃ t, exec (.twByteWrite 0 tm) s = .next t ∧ t.pst.tw = true ∧ t.tw.seq = 0 ∧ t.quiet ∧
        ∀ k, k < 32 → (t.chan k).st = (if (s.chan k).switching then .held else (s.chan k).st))

/-- 04 R138 to R143: serial audio frames. The start of a frame of a LOCKED port carries the slots of the present period, limited
to the range of its words; a good end waits for the next boundary; a controller port locks at its first frame, a target at the
16th good one in a row; a target with a bad frame or without FS loses lock. What a controller's frame edge carries that falls
within 10 ns after the boundary is the model's reading (assumption log 22), so these clauses leave it out. -/
def Obligations.SerialFrames : Prop :=
  ∀ (s : State) (port : Nat) (r : SaRec) (x : SaSt) (words : List DWord) (fs : FsMeas) (tm : Nat), port < 8 → s.saRec port = some r →
    rd s.sap port = x → s.now ≤ tm → (r.target = false → s.per.openedAt + 10 < tm) →
    (x.st = .locked → x.react = false → s.flt.engineSafe = false → s.boot.mute = none → r.target = false →
      (∀ i, i < r.chOut → -0x01000000 ≤ (s.slot (r.outSlot + i)).toInt ∧ (s.slot (r.outSlot + i)).toInt ≤ 0x00FFFFFF) →
      r.chOut ≤ r.frameSlots → r.wordBits = 32 →
      ∃ t, exec (.saportFrame port false words fs tm) s = .next t ∧
        (rd t.sap port).dout = (List.range r.chOut).map (fun i => s.slot (r.outSlot + i) <<< 7) ++
          List.replicate (r.frameSlots - r.chOut) 0 ∧
        (rd t.sap port).clip = satAdd 32 x.clip 0 ∧ (rd t.sap port).txCount = x.txCount + 1 ∧
        ∀ j, j ≠ port → rd t.sap j = rd s.sap j) ∧
    (x.st = .locked → (r.target = true → r.goodFrame fs s.per.baseRate = true) →
      ∃ t, exec (.saportFrame port true words fs tm) s = .next t ∧
      (rd t.sap port).rx = x.rx ++ [((words.take r.frameSlots).map (saRx r.wordBits), tm)] ∧ (rd t.sap port).st = .locked ∧
      ∀ j, j ≠ port → rd t.sap j = rd s.sap j) ∧
    (x.st = .acquire → r.target = false → ∃ t, exec (.saportFrame port true words fs tm) s = .next t ∧
      (rd t.sap port).st = .locked ∧ t.hasCond 0x0A02 0xB0 port = false) ∧
    (x.st = .acquire → r.target = true → r.goodFrame fs s.per.baseRate = true →
      ∃ t, exec (.saportFrame port true words fs tm) s = .next t ∧
      (rd t.sap port).st = (if 15 ≤ x.good then .locked else .acquire) ∧ (x.good < 15 → (rd t.sap port).good = x.good + 1)) ∧
    (x.st = .acquire → r.target = true → r.goodFrame fs s.per.baseRate = false →
      ∃ t, exec (.saportFrame port true words fs tm) s = .next t ∧ (rd t.sap port).st = .acquire ∧ (rd t.sap port).good = 0) ∧
    (x.st = .locked → r.target = true → fs.bclk ≠ 32 * r.frameSlots → ∃ t, exec (.saportFrame port true words fs tm) s = .next t ∧
      (rd t.sap port).st = .acquire ∧ (rd t.sap port).loss = satAdd 16 x.loss 1 ∧ s.raised t 0x0A02 0xB0 port port) ∧
    (x.st = .locked → r.target = true → ∃ t, exec (.saportFsTimeout port) s = .next t ∧ (rd t.sap port).st = .acquire ∧
      (rd t.sap port).loss = satAdd 16 x.loss 1 ∧ (rd t.sap port).dout = [] ∧ s.raised t 0x0A02 0xB0 port port ∧
      ∀ j, j ≠ port → rd t.sap j = rd s.sap j)

/-! The sample period (01, 02, 05) and the AVS loop (02). -/

/-- 01 R20, 02 R36 to R38, R63 to R68, 12 R363, 19 R564: SAMPLE_BOUNDARY opens a period: boundaries and media time count on, the
write half becomes the read half; the media offset moves by r, and the boundary's stamp is its ideal instant and that offset;
before PD1 to PD13 are released there is no boundary. How the media clock is cut into boundaries is the model's (assumption log
96). At the deadline a tile that has not signalled halts and is late; WINDOW_END ends the evaluation of a window, and of two
raises at its boundary the highest is requested. -/
def Obligations.SamplePeriod : Prop :=
  ∀ (s : State) (tm : Nat),
    (s.pwr.released = false → exec .sampleBoundary s = .next s) ∧
    (∀ o : Int, s.pwr.released = true → s.portsCalm → s.ref.relabel = false → s.pwr.engRestart = none → s.per.started = true →
      o = s.ref.offset + (s.ref.rate + s.ref.offRem) / (rateHz s.per.baseRate : Int) + (idealUnits (s.per.mediaTime + 1) s.per.baseRate : Int) →
      ∃ t, exec .sampleBoundary s = .next t ∧ t.per.boundaries = s.per.boundaries + 1 ∧
        t.per.mediaTime = s.per.mediaTime + 1 ∧ s.now ≤ t.per.openedAt ∧ t.per.openedAt = t.now ∧ t.per.deadlineDone = false ∧
        t.ref.offset = s.ref.offset + (s.ref.rate + s.ref.offRem) / (rateHz s.per.baseRate : Int) ∧
        t.ts.boundary.ns = (o / 65536 % 1000000000).toNat ∧ t.ts.boundary.frac = (o % 65536).toNat) ∧
    (s.pwr.released = true → s.portsCalm → s.ref.relabel = false → s.pwr.engRestart = none → s.per.started = false →
      ∃ t, exec .sampleBoundary s = .next t ∧ t.per.started = true ∧ t.per.openedAt = s.now ∧
        t.per.mediaTime = (s.ts.tb.tick s.now).units * rateHz s.per.baseRate / (1000000000 * 65536)) ∧
    (s.pwr.released = true → s.portsCalm → s.ref.relabel = false → s.pwr.engRestart = none → s.pl.live = none → s.pl.commit = none →
      ∃ t, exec .sampleBoundary s = .next t ∧ t.ex.readHalf = Sparse.setAll [] s.ex.writeHalf ∧ t.ex.writeHalf = []) ∧
    (s.pl.live = none → exec (.scatterDeadline tm) s = .next (s.tickAt tm)) ∧
    (∀ k, s.pl.live.isSome = true → s.per.deadlineDone = false → k < 68 → (s.tile k).run = .fg ∨ (s.tile k).run = .wait →
      (s.tile k).l.miss = .onTime → ∃ t, exec (.scatterDeadline tm) s = .next t ∧ t.per.deadlineDone = true ∧
        (t.tile k).run = .halted ∧ (t.tile k).l.late = true ∧ (t.tile k).l.miss = .one ∧
        (t.tile k).l.hold = (s.tileOuts k).map (fun o => (o, s.ex.readHalf.get o)) ∧
        ⟨0x0601, tileZone k, k, lateData 0xFF k (s.tile k).fgCount, false, t.now / 10⟩ ∈ t.flt.reports) ∧
    (∀ k, s.pl.live.isSome = true → s.per.deadlineDone = false → k < 68 → (s.tile k).run = .parked →
      ∃ t, exec (.scatterDeadline tm) s = .next t ∧ t.tile k = s.tile k) ∧
    (s.per.wndDue = false → exec .windowEnd s = .next s) ∧
    (s.per.wndDue = true → s.avs.st ≠ .track → exec .windowEnd s = .next { s with per := { s.per with wndDue := false } }) ∧
    (s.per.wndDue = true → s.avs.st = .track → s.per.fmax < (s.avs.target - 2) * 65536 / 100 → s.avs.lowRun < 7 →
      s.per.fmax ≤ (s.avs.target + 2) * 65536 / 100 →
      exec .windowEnd s = .next { s with per := { s.per with wndDue := false }, avs := { s.avs with lowRun := s.avs.lowRun + 1 } }) ∧
    (s.per.wndDue = true → s.avs.st = .track → (s.avs.target + 10) * 65536 / 100 ≤ s.per.fmax → s.avs.winBase = s.avs.req →
      s.avs.vmin ≤ s.avs.req + 4 → s.avs.req + 4 ≤ s.avs.vmax →
      exec .windowEnd s = .next { s with per := { s.per with wndDue := false }, avs := { s.avs with
        lowRun := 0, req := s.avs.req + 4, attempts := 0, waiting := true, retryDue := false } }) ∧
    (∀ n, s.per.wndDue = true → s.avs.st = .track → (s.avs.target + 10) * 65536 / 100 ≤ s.per.fmax → s.avs.req = s.avs.winBase + n →
      4 ≤ n → s.avs.req ≤ s.avs.vmax → s.avs.vmin ≤ s.avs.winBase + 4 → s.avs.winBase < s.avs.vmax →
      exec .windowEnd s = .next { s with per := { s.per with wndDue := false }, avs := { s.avs with lowRun := 0 } })

/-- 05 R171, R173 to R178, 07 R207, R211, R212: a tile in its period. SSTART starts the foreground at ENTRY_FG and changes no
register but PC; scatter writes each entry's word into its slot; the park point parks a background outside delay slots and REP,
with the results of its last instruction in registers and memory; a cold start ends in WAIT; an event pushes the return address
and goes to its handler. A lane writes its sums once. -/
def Obligations.TilePeriod : Prop :=
  ∀ (s : State) (k tick : Nat), k < 68 →
    (∀ w p, (s.tile k).run = .wait → s.workOf k = some (w, p) → ∃ t, exec (.sstart k tick) s = .next t ∧
      (t.tile k).run = .fg ∧ (t.tile k).fg.pc = p.entryFg ∧ (t.tile k).fg.delay = none ∧ (t.tile k).fg.rep = 0 ∧
      (t.tile k).fg.d = (s.tile k).fg.d ∧ (t.tile k).fg.a = (s.tile k).fg.a ∧ (t.tile k).fg.sr = (s.tile k).fg.sr ∧
      (t.tile k).fg.stack = (s.tile k).fg.stack ∧ (t.tile k).bg = (s.tile k).bg ∧ (t.tile k).x = (s.tile k).x ∧
      (t.tile k).y = (s.tile k).y ∧ (t.tile k).fgCount = 0 ∧ (t.tile k).slk.startTick = some tick ∧
      ∀ j, j ≠ k → t.tile j = s.tile j) ∧
    ((s.tile k).run ≠ .wait → exec (.sstart k tick) s = .next (s.tickAt tick)) ∧
    (∀ w p, (s.tile k).run = .drain → s.workOf k = some (w, p) → (s.tile k).ecc = [] →
      (p.scatter.Pairwise (fun x y => x.slot ≠ y.slot)) → ∃ t, exec (.scatterComplete k tick) s = .next t ∧
      (∀ x ∈ p.scatter, lookup? t.ex.writeHalf x.slot = some ((s.tile k).word (if x.y then .y else .x) (BitVec.ofNat 14 x.addr))) ∧
      (∀ o, (∀ x ∈ p.scatter, x.slot ≠ o) → lookup? t.ex.writeHalf o = lookup? s.ex.writeHalf o) ∧
      t.ex.readHalf = s.ex.readHalf ∧
      (t.tile k).run = (if tick < parkTicks s.per.baseRate ∧ p.bgPresent = true ∧ (s.tile k).bgStopped = false then .bg else .parked) ∧
      (t.tile k).slk.finishTick = some tick ∧ (t.tile k).fg = (s.tile k).fg ∧ (t.tile k).bg = (s.tile k).bg ∧
      ∀ j, j ≠ k → t.tile j = s.tile j) ∧
    ((s.tile k).run = .bg → (s.tile k).bg.delay = none → (s.tile k).bg.rep = 0 → ∃ t, exec (.park k) s = .next t ∧
      (t.tile k).run = .parked ∧ (t.tile k).bg = { s.landed k true with loads := [], stores := [] } ∧
      ((s.tile k).bg.stores = [] → (t.tile k).x = (s.tile k).x ∧ (t.tile k).y = (s.tile k).y) ∧
      (t.tile k).fg = (s.tile k).fg ∧ ∀ j, j ≠ k → t.tile j = s.tile j) ∧
    ((s.tile k).run = .bg → (s.tile k).bg.delay ≠ none ∨ (s.tile k).bg.rep ≠ 0 → ∃ t, exec (.park k) s = .next t ∧
      (t.tile k).run = .bg ∧ (t.tile k).parkPend = true ∧ (t.tile k).bg = (s.tile k).bg ∧ ∀ j, j ≠ k → t.tile j = s.tile j) ∧
    (∀ w p, (s.tile k).run = .cold → (s.tile k).coldLeft = 0 → s.workOf k = some (w, p) → (s.tile k).initDue = [] →
      p.gather = [] → ∃ t, exec (.coldStartEnd k) s = .next t ∧ (t.tile k).run = .wait ∧ (t.tile k).x = (s.tile k).x ∧
        (t.tile k).y = (s.tile k).y ∧ (t.tile k).fg = (s.tile k).fg ∧ ∀ j, j ≠ k → t.tile j = s.tile j) ∧
    (∀ n, (s.tile k).run = .cold → (s.tile k).coldLeft = n + 1 → exec (.coldStartEnd k) s = .next s) ∧
    (∀ bg c, (s.tile k).task = some bg → s.ctx k bg = c → (s.tile k).eventDue bg = true → c.stack.length < 8 →
      bg = true ∨ c.raised = 0 → c.evpend.getLsbD 2 = true → c.evmask.getLsbD 2 = true → ∃ t, exec (.eventTaken k) s = .next t ∧
        (t.ctx k bg).pc = c.evvec.setWidth 14 ∧ (t.ctx k bg).stack = c.pc :: c.stack ∧
        (t.ctx k bg).evpend.getLsbD 2 = false ∧ (t.ctx k bg).evpend.getLsbD 3 = c.evpend.getLsbD 3 ∧
        (t.ctx k bg).sr.getLsbD 10 = true ∧ (t.ctx k bg).d = c.d ∧ (t.ctx k bg).a = c.a ∧
        (bg = false → (t.tile k).fgCount = (s.tile k).fgCount + 2)) ∧
    (∀ bg, (s.tile k).task = some bg → (s.tile k).eventDue bg = false → exec (.eventTaken k) s = .next s) ∧
    (∀ lane p, s.pl.live = some p → lane < 48 → (rd s.mtx.lanes lane).done = false → s.per.deadlineDone = false → s.hlt.full = none →
      ∃ t, exec (.laneComplete lane tick) s = .next t ∧ (rd t.mtx.lanes lane).done = true ∧
        (rd t.mtx.lanes lane).tick = some tick ∧
        (∀ j, j ≠ lane → j < 48 → rd t.mtx.lanes j = rd s.mtx.lanes j) ∧ t.ex.readHalf = s.ex.readHalf ∧ t.mtx.ramps = s.mtx.ramps) ∧
    (∀ lane p r x acc n xs, s.pl.live = some p → lane < 48 → (rd s.mtx.lanes lane).done = false → s.per.deadlineDone = false →
      s.hlt.full = none → p.laneSums lane = [r] → r.aux = false → lookup? s.mtx.sums r.sum = some x →
      sumInputs (s.tickAt tick) p r = (acc, n, xs) → r.thresh.toNat < x.prev.natAbs ∨ r.thresh.toNat < (clampS (32 + r.headroom) (acc / 2 ^ 27)).natAbs →
      ∃ t y, exec (.laneComplete lane tick) s = .next t ∧ lookup? t.mtx.sums r.sum = some y ∧
        y.prev = clampS (32 + r.headroom) (acc / 2 ^ 27) ∧
        y.lg = min (r.thresh.toNat * 2 ^ 27 / max x.prev.natAbs y.prev.natAbs) (x.lg + (2 ^ 27 - x.lg + r.release - 1) / r.release) ∧
        lookup? t.ex.writeHalf r.out = some (satBV 32 (x.prev * (y.lg : Int) / 2 ^ 27))) ∧
    (∀ lane, s.pl.live = none → lane < 49 → exec (.laneComplete lane tick) s = .next (s.tickAt tick))

/-- 02 R52 to R60: the AVS loop. EN takes it from OFF to HOLD at VMAX_STEP for 16 windows and back; HOLD set holds it, cleared
lets an expired hold track; a write of limits out of range only sets CFG_ERR; a read within 10 mV confirms a request, else an
attempt fails, and the third takes the loop to FAILED, where VMAX_STEP is written again. -/
def Obligations.AvsLoop : Prop :=
  ∀ (s : State) (tm : Nat) (a : Avs), s.avs = a →
    (a.st = .off → a.req ≠ a.vmax → exec (.avsEnSet none tm) s = .next { s with
      now := max s.now tm
      avs := { a with en := true, st := .hold, expired := false, req := a.vmax, attempts := 0, waiting := true, retryDue := false,
                      holdUntil := none, holdWindows := some 16, holdFrom := s.per.boundaries } }) ∧
    (a.st ≠ .off → exec (.avsEnSet none tm) s = .next { s with now := max s.now tm, avs := { a with en := true } }) ∧
    (a.st = .hold ∨ a.st = .track → a.req = a.vmax → exec (.avsEnClear none tm) s =
      .next { s with now := max s.now tm, avs := { a with en := false, st := .off } }) ∧
    (a.st = .off ∨ a.st = .failed → exec (.avsEnClear none tm) s =
      .next { s with now := max s.now tm, avs := { a with en := false } }) ∧
    (a.st = .track → a.req = a.vmax → exec (.avsHoldSet none tm) s = .next { s with
      now := max s.now tm, avs := { a with hold := true, st := .hold, expired := true, holdUntil := none, holdWindows := none } }) ∧
    (a.st = .hold → a.expired = true → exec (.avsHoldClear none tm) s = .next { s with
      now := max s.now tm, avs := { a with hold := false, st := .track, lowRun := 0, expired := false } }) ∧
    (a.st = .hold → a.expired = false → exec (.avsHoldClear none tm) s =
      .next { s with now := max s.now tm, avs := { a with hold := false } }) ∧
    (∀ target vmin vmax, 50 ≤ target → target ≤ 85 → vmin ≤ vmax → vmax ≤ 60 → exec (.avsCtrlWrite none target vmin vmax tm) s =
      .next { s with now := max s.now tm, avs := { a with target := target, vmin := vmin, vmax := vmax } }) ∧
    (∀ target vmin vmax, target < 50 ∨ 85 < target ∨ vmax < vmin ∨ 60 < vmax → exec (.avsCtrlWrite none target vmin vmax tm) s =
      .next { s with now := max s.now tm, avs := { a with cfgErr := true } }) ∧
    (∀ f target vmin vmax, s.reaches f = true → ((s.access .hlt).lock f).open_ (max s.now tm) = false →
      ∃ t, exec (.avsCtrlWrite (some f) target vmin vmax tm) s = .next t ∧ t.avs = a ∧ (t.access .hlt).lockViol = true) ∧
    (a.st = .hold → a.hold = false → a.expired = false → a.holdUntil.getD 0 ≤ max s.now tm → a.holdWindows.getD 0 = 0 →
      exec (.avsHoldTimerExpiry tm) s = .next { s with
        now := max s.now tm, avs := { a with st := .track, lowRun := 0, holdUntil := none, holdWindows := none } }) ∧
    (a.st = .hold → max s.now tm < a.holdUntil.getD 0 → exec (.avsHoldTimerExpiry tm) s = .next { s with now := max s.now tm }) ∧
    (∀ mv, a.st ≠ .failed → a.waiting = true → mv ≤ 560 + 5 * a.req → 540 + 5 * a.req ≤ mv →
      exec (.avsVoltageRead (some mv) tm) s = .next { s with
        now := max s.now tm, avs := { a with ack := a.req, attempts := 0, waiting := false, retryDue := false } }) ∧
    (∀ mv, 560 + 5 * a.req < mv ∨ mv < 540 + 5 * a.req → exec (.avsVoltageRead (some mv) tm) s = .next { s with now := max s.now tm }) ∧
    (∀ mv, a.st = .failed → a.en = true → a.req = a.vmax → mv = 550 + 5 * a.req → ∃ t, exec (.avsVoltageRead (some mv) tm) s = .next t ∧
      t.avs.st = .hold ∧ t.avs.ack = a.vmax ∧ t.avs.holdUntil = some (max s.now tm + 1000000000) ∧ t.hasCond 0x0103 0x00 0 = false) ∧
    (a.waiting = true → a.st ≠ .failed → a.attempts < 2 → exec (.avsConfirmTimeout tm) s =
      .next { s with now := max s.now tm, avs := { a with attempts := a.attempts + 1, retryDue := true } }) ∧
    (a.waiting = true → a.st ≠ .failed → a.attempts < 2 → exec (.avsVoltageRead none tm) s =
      .next { s with now := max s.now tm, avs := { a with attempts := a.attempts + 1, retryDue := true } }) ∧
    (a.waiting = true → a.st ≠ .failed → a.attempts = 2 → ∃ t, exec (.avsConfirmTimeout tm) s = .next t ∧ t.avs.st = .failed ∧
      t.avs.failedSeen = true ∧ t.avs.waiting = false ∧ t.avs.req = a.req ∧ s.raised t 0x0103 0x00 0 (packBits [(8, a.req), (8, a.ack), (8, 3)])) ∧
    (a.retryDue = true → exec (.avsWriteRetry tm) s = .next { s with now := max s.now tm, avs := { a with retryDue := false, waiting := true } }) ∧
    (a.retryDue = false → exec (.avsWriteRetry tm) s = .next { s with now := max s.now tm }) ∧
    (a.st = .failed → exec (.avsFailedRetry tm) s = .next { s with now := max s.now tm, avs := { a with req := a.vmax, waiting := true } }) ∧
    (a.st ≠ .failed → exec (.avsFailedRetry tm) s = .next { s with now := max s.now tm })

/-! Boot, flash and update (17). -/

/-- 17 R515 to R519, R524, R528 to R532: the firmware commands. FW_STATUS reports; FW_STAGE writes an acceptable image to STAGE;
FW_STAGE_DISCARD empties STAGE; FW_ACTIVATE takes the flash for the copy, during which the slot that it writes holds no image
(the model's reading, assumption log 74), and which a slot with the same image needs not; FW_CONFIRM records consent in a trial;
FW_REVERT falls back; FLASH_LOG_READ reads the log. The layout of the results is the model's (assumption log 3). -/
def Obligations.FirmwareCommands : Prop :=
  ∀ (s : State) (e : Env) (c : CmdInfo) (r : BootRec), s.boot.record = r →
    (s.meets (.fwStatus e) c → ∃ ver svn, s.answers (.fwStatus e) c .ok 0
      (resBytes [(4, r.seq), (1, if r.slotB then 1 else 0), (1, r.st.code), (1, r.trialBoots), (1, if r.requireHost then 1 else 0),
          (2, r.windowS), (1, r.cause), (1, 0), (4, r.ver.1), (4, r.ver.2), (1, r.svn.1), (1, r.svn.2),
          (6, 0)] ++ slice r.id.1 0 16 ++ slice r.id.2 0 16 ++
        resBytes [(4, s.boot.status), (4, s.bootTrial), (4, s.boot.otp % 256 + s.boot.revoked % 16 * 256), (4, ver), (1, svn),
          (8, s.boot.flashBytes)]) s ∧
      (∀ img, s.boot.stage = .staged img → ver = fld img 0x010 4 ∧ svn = fld img 0x00F 1) ∧
      ((∀ img, s.boot.stage ≠ .staged img) → ver = 0 ∧ svn = 0)) ∧
    (∀ addr len image size, s.meets (.fwStage e addr len false image) c → s.flashFree → e.port = .A ∨ e.port = .B →
      size = fld (slice image 0 len) 0x008 4 → match s.boot.fwCheck (slice image 0 len) with
      | some (st, d) => s.answers (.fwStage e addr len false image) c st d [] s
      | none => ∃ t f t', exec (.fwStage e addr len false image) s = .next t ∧ s.accepted t c f ∧ t.boot.slots = s.boot.slots ∧
        t.boot.recs = s.boot.recs ∧ (∃ id, t.boot.stage = .incomplete size id []) ∧
        exec (.flashOperationDone true 0 s.now) t = .next t' ∧
        s.answered t' c .ok 0 (resBytes [(4, fld image 0x010 4), (1, fld image 0x00F 1), (2, (size + 65535) / 65536)]) ∧
        t'.boot.stage = .staged (slice image 0 size) ∧ t'.boot.slots = s.boot.slots ∧ t'.boot.recs = s.boot.recs) ∧
    (s.meets (.fwStageDiscard e) c → s.flashFree → ∃ u, s.flashes (.fwStageDiscard e) c (resBytes [(1, 0)]) u ∧
      u.boot.stage = .empty ∧ u.boot.slots = s.boot.slots ∧ u.boot.recs = s.boot.recs) ∧
    (∀ w rh img, s.meets (.fwActivate e w rh) c → s.flashFree → w = 0 ∨ (60 ≤ w ∧ w ≤ 3600) → s.boot.stage = .staged img →
      r.st ≠ .trial → match s.boot.fwCheck img with
      | some (st, d) => s.answers (.fwActivate e w rh) c st d [] s
      | none => ∃ t f, exec (.fwActivate e w rh) s = .next t ∧ s.accepted t c f ∧ f.cmd = .fwActivate e w rh ∧
        t.ports.flashQ = [(c.env.port, f.handle)] ∧ t.boot.stage = s.boot.stage ∧ t.boot.recs = s.boot.recs ∧ t.pl = s.pl ∧
        rd t.boot.slots (slotIx r.slotB) = rd s.boot.slots (slotIx r.slotB) ∧
        (s.boot.sameImage img = true → t.as s) ∧ (s.boot.sameImage img = false → rd t.boot.slots (slotIx (!r.slotB)) = none)) ∧
    (∀ w rh, s.meets (.fwActivate e w rh) c → w = 0 ∨ (60 ≤ w ∧ w ≤ 3600) → s.boot.stage = .empty →
      s.answers (.fwActivate e w rh) c .rejectedState 0x00F0 [] s) ∧
    (∀ w rh img, s.meets (.fwActivate e w rh) c → w = 0 ∨ (60 ≤ w ∧ w ≤ 3600) → s.boot.stage = .staged img → r.st = .trial →
      s.answers (.fwActivate e w rh) c .rejectedState 0x00F4 [] s) ∧
    (s.meets (.fwConfirm e) c → r.st = .trial → s.answers (.fwConfirm e) c .ok 0 (resBytes [(1, 0)])
      { s with boot := { s.boot with consent := true } }) ∧
    (s.meets (.fwConfirm e) c → r.st ≠ .trial → s.answers (.fwConfirm e) c .rejectedState 0x00F5 [] s) ∧
    (s.meets (.fwRevert e) c → s.flashFree → r.st = .trial → ∃ t f t', exec (.fwRevert e) s = .next t ∧ s.accepted t c f ∧ t.as s ∧
      exec (.flashOperationDone true 0 s.now) t = .next t' ∧ t'.boot.record.st = .fallback ∧ t'.boot.record.slotB = !r.slotB ∧
      t'.boot.record.cause = 3 ∧ t'.boot.trialEnd = none ∧ t'.boot.reload = true ∧ t'.pwr.service = false ∧ t'.boot.slots = s.boot.slots) ∧
    (s.meets (.fwRevert e) c → r.st ≠ .trial → s.answers (.fwRevert e) c .rejectedState 0x00F5 [] s) ∧
    (∀ count addr es, s.meets (.flashLogRead e 0xFFFFFFFF count addr) c → addr ≠ 0 → e.port = .A ∨ e.port = .B → 1 ≤ count → count ≤ 2048 →
      es = s.boot.log.take count →
      s.answers (.flashLogRead e 0xFFFFFFFF count addr) c .ok 0
        (resBytes [(2, es.length), (4, ((s.boot.log[es.length]?).map (·.seq)).getD (s.flt.logSeq % 2 ^ 32))])
        (s.hostWrite e.port addr (es.flatMap LogEntry.bytes))) ∧
    (∀ start x, s.meets (.flashLogRead e start 1 0) c → start ≤ 0xFFFFFFFF → s.boot.log = [x] → start = x.seq → x.seq < 2 ^ 32 →
      s.answers (.flashLogRead e start 1 0) c .ok 0 (resBytes [(2, 1), (4, s.flt.logSeq % 2 ^ 32)] ++ x.bytes) s)

/-- 17 R510 to R513, R518, R519, R522 to R524, R528: what happens in boot and update without a command. The end of the copy
writes a TRIAL record and the reload follows; a healthy trial is confirmed; an expired one restarts PD1; FIRMWARE_BOOT runs the
slot of the record, or recovery mode where no slot is acceptable: no structure is then LIVE, no channel switches and the ports
have the masks of CONFIG; the log is copied. -/
def Obligations.FirmwareEvents : Prop :=
  ∀ (s : State) (tm now : Nat) (r : BootRec), s.portsCalm → now = max s.now tm → s.boot.record = r →
    (∀ p f e w rh img rest, s.canAnswer p f → (∀ q, (s.port q).flights = if q = p then [f] else []) → f.cmd = .fwActivate e w rh →
      s.ports.flashQ = (p, f.handle) :: rest → s.boot.stage = .staged img → ∃ t, exec (.fwActivateCopyDone true tm) s = .next t ∧
        t.boot.record.st = .trial ∧ t.boot.record.slotB = !r.slotB ∧ t.boot.record.requireHost = rh ∧
        t.boot.record.windowS = (if w = 0 then 300 else w) ∧ t.boot.record.trialBoots = 0 ∧ t.boot.record.seq = r.seq + 1 ∧
        t.boot.record.cause = 0 ∧
        rd t.boot.slots (if r.slotB then 0 else 1) = some img ∧ rd t.boot.slots (if r.slotB then 1 else 0) = rd s.boot.slots (if r.slotB then 1 else 0) ∧
        t.boot.reload = true ∧ t.pwr.service = false ∧
        s.closed t p f .ok 0 (resBytes [(1, if r.slotB then 0 else 1), (1, if fld img 0x018 8 = s.boot.ucode then 0 else 1)])) ∧
    (∀ p f e w rh img, s.canAnswer p f → f.cmd = .fwActivate e w rh → s.ports.flashQ = [(p, f.handle)] →
      s.boot.stage = .staged img → ∃ t, exec (.fwActivateCopyDone false tm) s = .next t ∧ t.boot = s.boot ∧
        s.closed t p f .integrity 0x00F8 []) ∧
    (s.boot.reload = true → s.pwr.cpRunning = true → s.boot.mute = none → ∃ t, exec (.ucodeReload tm) s = .next t ∧
      t.pwr.cpRunning = false ∧ t.pwr.service = false ∧ t.pwr.bootAfter = now ∧ t.boot.reload = false ∧ t.pwr.dom = s.pwr.dom) ∧
    (∀ m, s.boot.mute = some m → m.inAt = none → s.per.boundaries < m.b + 64 → exec (.ucodeReload tm) s = .next { s with now := now }) ∧
    (∀ other, r.st ≠ .trial → exec (.trialHealthEvaluation other tm) s = .next { s with now := now }) ∧
    (∀ e, r.st = .trial → s.pwr.cpRunning = true → s.boot.recovery = false → s.boot.trialEnd = some e →
      exec (.trialHealthEvaluation false tm) s = .next { s with now := now, boot := { s.boot with goodSince := none, healthy := false } }) ∧
    (∀ e u, r.st = .trial → s.pwr.cpRunning = true → s.boot.recovery = false → s.boot.trialEnd = some e → s.trialGood true = true →
      s.boot.goodSince = some u → u + 30000000000 ≤ now → r.requireHost = false ∨ s.boot.consent = true →
      ∃ t, exec (.trialHealthEvaluation true tm) s = .next t ∧ t.boot.record.st = .confirmed ∧ t.boot.record.slotB = r.slotB ∧
        t.boot.trialEnd = none ∧ t.boot.healthy = true) ∧
    (∀ e, s.boot.trialEnd = some e → e ≤ now → ∃ t, exec (.trialTimerExpiry tm) s = .next t ∧ t.boot.timedOut = true ∧
      t.boot.trialEnd = none ∧ t.pwr.cpRunning = false ∧ t.pwr.service = false ∧ t.pwr.causes.trial = true ∧
      t.pwr.restarts = satAdd 16 s.pwr.restarts 1 ∧ t.boot.recs = s.boot.recs) ∧
    (∀ e, s.boot.trialEnd = some e → now < e → exec (.trialTimerExpiry tm) s = .next { s with now := now }) ∧
    (∀ spi, s.pwr.released = false ∨ s.pwr.cpRunning = true ∨ now < s.pwr.bootAfter →
      exec (.firmwareBoot spi tm) s = .next { s with now := now }) ∧
    (∀ spi, s.pwr.released = true → s.pwr.cpRunning = false → s.pwr.bootAfter ≤ now → r.st ≠ .trial →
      ∃ t, exec (.firmwareBoot spi tm) s = .next t ∧ t.pwr.cpRunning = true ∧ t.boot.spiMode = spi ∧ t.boot.slots = s.boot.slots ∧
        (∀ img, s.boot.slotOk r.slotB = true → rd s.boot.slots (if r.slotB then 1 else 0) = some img → t.boot.runB = r.slotB ∧
          t.boot.version = fld img 0x010 4 ∧ t.boot.ucode = fld img 0x018 8 ∧ t.boot.recovery = false ∧ t.boot.recs = s.boot.recs) ∧
        (s.boot.slotOk true = false → s.boot.slotOk false = false → t.boot.recovery = true ∧ t.boot.recs = s.boot.recs ∧
          t.pl.live = none ∧ (s.pl.live ≠ none → t.quiet) ∧
          (s.ports.deferred = [] → lookup? s.cfg.privs 3 = none → (t.port .D).groups = 0x02E0 ∧ (t.port .D).privs = 0x0C))) ∧
    (s.pwr.cpRunning = false ∨ s.boot.recovery = true → exec (.flashLogCopy tm) s = .next { s with now := now }) ∧
    (∀ new l, s.pwr.cpRunning = true → s.boot.recovery = false → s.boot.copied = none → new = s.flt.log.filter (fun e => decide (1 ≤ e.sev)) →
      new.getLast? = some l → s.boot.log.length + new.length ≤ 32768 → exec (.flashLogCopy tm) s = .next ({ s with
        now := now, boot := { s.boot with log := s.boot.log ++ new, copied := some l.seq } } : State).gradeFlash)

/-! Health and self-test (18). -/

/-- 18 R538, R542 to R546, R549, R550: the health commands. HEALTH_STATUS and AGEING_REPORT report; SELFTEST_TILE tests a free
tile in place, first moves the work of a carrier, or is held where its quadrant is busy; SELFTEST_CANCEL drops a held request;
TILE_MIGRATE moves work; MAINT_ENTER holds every channel; SELFTEST_FULL runs in MAINTENANCE only; CAL_CONFIG sets CAL_INTERVAL.
The layout of the results is the model's (assumption log 3). -/
def Obligations.HealthCommands : Prop :=
  ∀ (s : State) (e : Env) (c : CmdInfo) (h : Hlt), s.hlt = h →
    (s.meets (.healthStatus e) c → s.answers (.healthStatus e) c .ok 0
      (resBytes ([(4, s.hltHealth), (2, h.eolYears), (8, h.stress), sfld 4 ((h.samples.getLast?.map (·.2)).getD 0)] ++
        (List.range 4).map (fun q => (4, s.hltQuad q)) ++ (List.range 68).map (fun b => (1, s.carrierOf b)) ++ [(2, h.eolLow)] ++
        (List.range 4).map (fun q => (4, ((rd h.ecc q).filter (fun x => decide (s.now < x.1 + 86400000000000))).length)) ++
        (List.range 8).map (fun i => (2, (rd h.eyes i).getD 0xFFFF)) ++
        s.boot.areaErases.map (fun n => (4, n)) ++ [(1, 128 - s.boot.otp), (1, s.boot.keysLeft), (1, s.noneCount), (8, h.lastSweep)])) s) ∧
    (∀ addr, s.meets (.ageingReport e addr) c → e.port = .A ∨ e.port = .B →
      s.answers (.ageingReport e addr) c .ok 0 [] (s.hostWrite e.port addr (ageingBytes h))) ∧
    (∀ k x, s.meets (.selftestTile e k) c → k ≤ 67 → s.outOfService k = false → s.underTest k = false → s.quad (quadOf k) = x →
      x.st = .ready → s.workOf k = none → s.starts (.selftestTile e k) c (s.setQuad (quadOf k)
        ⟨.testing, some k, none, some ⟨k, some (e.port, s.nextHandle e.port), none⟩⟩)) ∧
    (∀ k x w, s.meets (.selftestTile e k) c → k ≤ 67 → s.outOfService k = false → s.underTest k = false → s.quad (quadOf k) = x →
      x.st = .ready → s.workOf k = some w → s.starts (.selftestTile e k) c (s.setQuad (quadOf k)
        { x with st := .migrating, mig := some ⟨k, .test, 1, s.per.boundaries + 1, some (e.port, s.nextHandle e.port), none⟩ })) ∧
    (∀ k, s.meets (.selftestTile e k) c → k ≤ 67 → s.outOfService k = false → s.underTest k = false → (s.quad (quadOf k)).st ≠ .ready →
      (e.flags.getLsbD 2 = false → s.answers (.selftestTile e k) c .deferred 0x0110 [] s) ∧
      (e.flags.getLsbD 2 = true → h.held.length < 16 → s.answers (.selftestTile e k) c .deferred 0x0110
        (resBytes [(1, 0), (1, 0), (4, h.nextId)])
        { s with hlt := { h with held := h.held ++ [⟨h.nextId, k, 0⟩], nextId := h.nextId + 1 } })) ∧
    (∀ id x, s.meets (.selftestResult e id) c → h.held.find? (fun y => y.id == id) = some x →
      s.answers (.selftestResult e id) c .ok 0 (resBytes [(1, x.state)]) s) ∧
    (∀ id, s.meets (.selftestResult e id) c → h.held.find? (fun y => y.id == id) = none →
      s.answers (.selftestResult e id) c .rejectedArgs 0x0115 [] s) ∧
    (∀ id x, s.meets (.selftestCancel e false id) c → x ∈ h.held → x.id = id → x.state = 0 →
      (∀ q, (s.quad q).mig = none ∧ (s.quad q).test = none) → s.answers (.selftestCancel e false id) c .ok 0 []
        { s with hlt := { h with held := h.held.map (fun y => if y.id = id then { y with state := 4 } else y) } }) ∧
    (∀ id, s.meets (.selftestCancel e false id) c → (∀ x ∈ h.held, x.id ≠ id) →
      (∀ q, (s.quad q).mig = none ∧ (s.quad q).test = none) → s.answers (.selftestCancel e false id) c .rejectedArgs 0x0115 [] s) ∧
    (∀ k x w, s.meets (.tileMigrate e k) c → k ≤ 67 → s.outOfService k = false → s.underTest k = false → s.workOf k = some w →
      s.quad (quadOf k) = x →
      (x.st = .ready → s.starts (.tileMigrate e k) c (s.setQuad (quadOf k)
        { x with st := .migrating, mig := some ⟨k, .host, 1, s.per.boundaries + 1, some (e.port, s.nextHandle e.port), none⟩ })) ∧
      (x.st ≠ .ready → s.answers (.tileMigrate e k) c .deferred 0x0110 [] s)) ∧
    (∀ k, s.meets (.tileMigrate e k) c → k ≤ 67 → s.outOfService k = false → s.underTest k = false → s.workOf k = none →
      s.answers (.tileMigrate e k) c .rejectedState 0x0116 [] s) ∧
    (s.meets (.maintEnter e) c → s.quiet → ∃ u, s.answers (.maintEnter e) c .ok 0 [] u ∧ u.hlt = { h with maint := true } ∧
      (∀ l ∈ s.leads, (u.chan l).host = true) ∧ u.pl = s.pl) ∧
    (∀ l, s.meets (.maintEnter e) c → l ∈ s.leads → (s.chan l).switching = true → s.answers (.maintEnter e) c .rejectedState 0x0114 [] s) ∧
    (s.meets (.maintExit e) c → h.maint = true → s.answers (.maintExit e) c .ok 0 [] { s with hlt := { h with maint := false } }) ∧
    (s.meets (.maintExit e) c → h.maint = false → s.answers (.maintExit e) c .rejectedState 0x0111 [] s) ∧
    (∀ mask, s.meets (.selftestFull e mask) c → mask ≤ 7 → mask % 2 = 0 → h.maint = true → h.full = none →
      s.starts (.selftestFull e mask) c { s with hlt := { h with full := some ⟨mask, e.port, s.nextHandle e.port⟩ } }) ∧
    (∀ mask, s.meets (.selftestFull e mask) c → mask ≤ 7 → mask % 2 = 1 → h.maint = true → h.full = none →
      (∀ q, (s.quad q).mig = none ∧ (s.quad q).test = none) → ∃ u, s.starts (.selftestFull e mask) c u ∧
        u.hlt.full = some ⟨mask, e.port, s.nextHandle e.port⟩ ∧ u.hlt.out = h.out ∧ (∀ k, k < 68 → (u.tile k).run = .absent) ∧ u.pl = s.pl) ∧
    (∀ mask, s.meets (.selftestFull e mask) c → mask ≤ 7 → h.maint = false →
      s.answers (.selftestFull e mask) c .rejectedState 0x0111 [] s) ∧
    (∀ n, s.meets (.calConfig e n false) c → n = 0 ∨ (10 ≤ n ∧ n ≤ 86400) → s.answers (.calConfig e n false) c .ok 0 (resBytes [(4, n)])
      { s with hlt := { h with calInterval := n } }) ∧
    (∀ n, s.meets (.calConfig e n true) c → s.flashFree → n = 0 ∨ (10 ≤ n ∧ n ≤ 86400) →
      ∃ u, s.flashes (.calConfig e n true) c (resBytes [(4, n)]) u ∧ u.hlt.calInterval = n ∧ u.hlt.out = h.out ∧
        u.cfg.calInterval = some n)

/-- 18 R533 to R542, R545: health without a command. The passes of a migration end in turn; a self-test ends in PASS, and the
tile is the spare, or in FAIL, and it leaves service; ring pairs give their ratio, each second its stress at the highest sensor
of the tile domains, each day a sample, and from the 30th on an estimate (its arithmetic is the model's, assumption log 100); a
full self-test answers its command. The passes of a migration take their time from the row (assumption log 1). -/
def Obligations.HealthEvents : Prop :=
  ∀ (s : State) (q : Nat) (x : Quad), q < 4 → s.quad q = x →
    (∀ m, x.mig = some m → m.phase = 1 → m.startB + 8 ≤ s.per.boundaries →
      exec (.migrationPass1End q) s = .next (s.setQuad q { x with mig := some { m with phase := 2 } })) ∧
    (∀ m, x.mig = some m → m.phase = 1 → s.per.boundaries < m.startB + 8 → exec (.migrationPass1End q) s = .next s) ∧
    (∀ m, x.mig = some m → m.phase = 2 → exec (.migrationPass2End q) s = .next (s.setQuad q { x with mig := some { m with phase := 3 } })) ∧
    (x.mig = none → exec (.migrationPass1End q) s = .next s ∧ exec (.migrationPass2End q) s = .next s) ∧
    (∀ p f k corr itime, s.portsCalm → s.canAnswer p f → s.hlt.held = [] → x.test = some ⟨k, some (p, f.handle), none⟩ → corr ≤ 4 →
      100 * itime ≤ 115 * s.testItime q → ∃ t, exec (.selftestEnd q false 0 corr itime) s = .next t ∧
        s.closed t p f .ok 0 (resBytes [(1, 0), (1, 0), (4, 0)]) ∧ (t.quad q).st = .ready ∧ (t.quad q).spare = some k ∧
        (t.quad q).test = none ∧ t.hlt.out = s.hlt.out ∧ ∀ j, j < 4 → j ≠ q → t.quad j = s.quad j) ∧
    (∀ p f k uncorr corr itime, s.portsCalm → s.canAnswer p f → s.hlt.held = [] → x.test = some ⟨k, some (p, f.handle), none⟩ →
      ∃ t, exec (.selftestEnd q true uncorr corr itime) s = .next t ∧ s.closed t p f .ok 0 (resBytes [(1, 1), (1, 1), (4, 0)]) ∧
        (t.quad q).st = .none_ ∧ (t.quad q).spare = none ∧ k ∈ t.hlt.out ∧ (∀ j ∈ s.hlt.out, j ∈ t.hlt.out) ∧
        ∀ j, j < 4 → j ≠ q → t.quad j = s.quad j) ∧
    (∀ freqs eyes, ∃ t, exec (.ageingMeasurement freqs eyes) s = .next t ∧
      (∀ i, i < 56 → s.domOn (i / 4) = true → (rd freqs i).2 ≠ 0 →
        rd t.hlt.rings i = some ((((rd freqs i).1 * 1000000 / (rd freqs i).2 : Nat) : Int) - 1000000)) ∧
      (∀ i, i < 56 → s.domOn (i / 4) = false → rd t.hlt.rings i = rd s.hlt.rings i) ∧
      (∀ i, i < 8 → rd t.hlt.eyes i = if (s.lane i).st = .up then rd eyes i else rd s.hlt.eyes i) ∧
      (∀ i, i < 8 → (rd t.hlt.eyeHist i).getLast? = some (if (s.lane i).st = .up then rd eyes i else none)) ∧ t.hlt.quads = s.hlt.quads) ∧
    (∀ (temps : Vector Int 16) (tj : Int), tj = Mon.tileTj { s.mon with temps := temps } → (∀ i : Fin 16, temps.get i ≤ 2000) →
      ∃ n t, (3600 * n) ^ 100 ≤ 2 ^ (2350 + tj).toNat ∧ 2 ^ (2350 + tj).toNat < (3600 * (n + 1)) ^ 100 ∧
        exec (.stressAccumulate temps) s = .next t ∧ t.hlt.stress = satAdd 64 s.hlt.stress n ∧ t.mon.temps = temps ∧
        t.hlt.samples = s.hlt.samples ∧ t.hlt.out = s.hlt.out) ∧
    (∀ low, s.pwr.cpRunning = false → exec (.dailyHealth low) s = .next s) ∧
    (∀ low, s.pwr.cpRunning = true → s.hlt.samples.length < 29 → s.maxItime (List.range 68) = none →
      ∃ t, exec (.dailyHealth low) s = .next t ∧ t.hlt.samples = s.hlt.samples ++ [(s.hlt.stress, s.meanRings)] ∧ t.hlt.conf = 0 ∧
      t.hlt.eolYears = 0xFFFF ∧ t.hlt.eolLow = 0xFFFF ∧ t.hlt.fresh = s.hlt.fresh ∧ t.hlt.stress = s.hlt.stress) ∧
    (∀ low v, s.pwr.cpRunning = true → s.hlt.samples.length < 29 → s.maxItime (List.range 68) = some v → s.hlt.fresh = [] →
      ∃ t, exec (.dailyHealth low) s = .next t ∧ t.hlt.fresh = [(s.avs.req, s.mon.tileTj, v)] ∧
      t.hlt.samples = s.hlt.samples ++ [(s.hlt.stress, if v = 0 then s.meanRings else max s.meanRings 0)]) ∧
    (∀ low, s.pwr.cpRunning = true → 29 ≤ s.hlt.samples.length → s.hlt.samples.length < 4096 →
      (∃ y ∈ s.hlt.samples, 500 ≤ y.2) → ∃ t, exec (.dailyHealth low) s = .next t ∧ t.hlt.eolLow = min low 0xFFFE ∧
        t.hlt.eolYears ≤ 0xFFFE ∧ 1 ≤ t.hlt.conf ∧ t.hlt.conf ≤ 3 ∧ (t.hlt.conf = 1 ↔ 2 * t.hlt.eolLow < t.hlt.eolYears) ∧
        (t.hlt.conf = 3 ↔ 8 * t.hlt.eolYears ≤ 10 * t.hlt.eolLow)) ∧
    (∀ tiles lanes mem, s.portsCalm → s.hlt.full = none → exec (.selftestFullEnd tiles lanes mem) s = .next s) ∧
    (∀ tiles lanes mem p f, s.portsCalm → s.canAnswer p f → s.hlt.full = some ⟨6, p, f.handle⟩ → s.pl.live = none →
      ∃ t, exec (.selftestFullEnd tiles lanes mem) s = .next t ∧ t.hlt = { s.hlt with full := none } ∧
        s.closed t p f .ok 0 (leBytes 9 0 ++ leBytes 6 lanes.toNat ++ leBytes 1 (if mem then 1 else 0))) ∧
    (∀ tiles lanes mem p f, s.portsCalm → s.canAnswer p f → s.hlt.full = some ⟨1, p, f.handle⟩ → s.pl.live = none →
      ∃ t, exec (.selftestFullEnd tiles lanes mem) s = .next t ∧ t.hlt.full = none ∧
        (∀ k, k < 68 → (k ∈ t.hlt.out ↔ tiles.getLsbD k = false)) ∧
        s.closed t p f .ok 0 (leBytes 9 tiles.toNat ++ leBytes 6 0 ++ leBytes 1 0))

/-! Supplies, domains and resets (19). -/

/-- 19 R558, R559, R565, R566, R573 to R575: the commands of power and reset. A soft reset answers its command and restarts PD1
alone; a chip reset restarts everything but PD0; an engine restart is due at the second boundary after its acceptance;
DEV_DOMAIN_SET ramps its domains one after the other; DEV_POWER_STATUS reports. The layout of the results is the model's
(assumption log 3). -/
def Obligations.PowerCommands : Prop :=
  ∀ (s : State) (e : Env) (c : CmdInfo),
    (s.meets (.softReset e) c → (∀ q, (s.port q).flights = []) → ∃ t f, exec (.softReset e) s = .next t ∧ f.tag = e.tag ∧
      f.handle = s.nextHandle e.port ∧ (t.port e.port).ring.map Entry.plain = (s.port e.port).ring.map Entry.plain ++
        (s.acceptOf c :: completeEntries f c.opcode .ok 0 []) ∧
      t.pwr.cpRunning = false ∧ t.pwr.service = false ∧ t.pwr.causes = { s.pwr.causes with soft := true } ∧
      t.pwr.bootAfter = s.now + 1000000 ∧ t.pwr.restarts = satAdd 16 s.pwr.restarts 1 ∧ t.pl = s.pl ∧ t.per = s.per ∧
      t.ex.readHalf = s.ex.readHalf ∧ t.ex.writeHalf = s.ex.writeHalf ∧ t.avs = s.avs) ∧
    (s.meets (.chipReset e) c → e.port = .D → (∀ q, (s.port q).flights = []) → ∃ t f, exec (.chipReset e) s = .next t ∧ f.tag = e.tag ∧
      f.handle = s.nextHandle e.port ∧ t.ports.d.ring.map Entry.plain = s.ports.d.ring.map Entry.plain ++
        (s.acceptOf c :: completeEntries f c.opcode .ok 0 []) ∧
      t.pwr.cpRunning = false ∧ t.pwr.causes = { s.pwr.causes with chip := true } ∧ t.pwr.bootAfter = s.now + 1000000 ∧
      t.pwr.coldBoot = true ∧ (∀ d, d < 14 → t.domOn d = true) ∧ t.pl.live = none ∧ t.ex = Exch.reset ∧ t.mtx = Mtx.reset ∧ t.net = Net.reset ∧
      t.quiet ∧ t.boot.recs = s.boot.recs ∧ t.boot.slots = s.boot.slots ∧ t.boot.log = s.boot.log ∧ t.cfg = s.cfg ∧ t.tw = s.tw) ∧
    (∀ b, s.meets (.engineRestart e) c → s.pl.st ≠ .armed → s.pl.st ≠ .locked → s.pwr.engRestart = none → b = s.per.boundaries + 2 →
      s.starts (.engineRestart e) c { s with
        pwr := { s.pwr with engRestart := some ⟨[(e.port, s.nextHandle e.port)], b⟩ }, boot := { s.boot with mute := some ⟨b, [], none⟩ } }) ∧
    (s.meets (.engineRestart e) c → s.pl.st = .armed ∨ s.pl.st = .locked → s.answers (.engineRestart e) c .rejectedState 0x00E7 [] s) ∧
    (∀ d, s.meets (.devDomainSet e (2 ^ d) 0 false) c → 3 ≤ d → d < 14 → (∀ j, rd s.pwr.dom j ≠ .rampOn ∧ rd s.pwr.dom j ≠ .rampOff) →
      s.pwr.domCmds = [] → rd s.pwr.dom d = .off → s.starts (.devDomainSet e (2 ^ d) 0 false) c
        { s with pwr := { s.pwr with dom := wr s.pwr.dom d .rampOn
                                     domCmds := [⟨some (e.port, s.nextHandle e.port), false, [(d, true)]⟩] } }) ∧
    (∀ d, s.meets (.devDomainSet e 0 (2 ^ d) false) c → 6 ≤ d → d < 10 → (∀ j, rd s.pwr.dom j ≠ .rampOn ∧ rd s.pwr.dom j ≠ .rampOff) →
      s.pwr.domCmds = [] → rd s.pwr.dom d = .on → s.pl.live = none → s.pl.st = .empty → (s.quad (d - 6)).mig = none → (s.quad (d - 6)).test = none →
      s.flt.conds = [] → (∀ i, i < 16 → (s.ep i).isOpen = false) → ∃ u, s.starts (.devDomainSet e 0 (2 ^ d) false) c u ∧
        rd u.pwr.dom d = .rampOff ∧ (∀ j, j ≠ d → rd u.pwr.dom j = rd s.pwr.dom j) ∧ (∀ i, i < 17 → (u.tile (17 * (d - 6) + i)).run = .absent)) ∧
    (∀ on off p, s.meets (.devDomainSet e on off p) c → on < 2 ^ 14 → off < 2 ^ 14 → on &&& off = 0 → (on ||| off) % 8 ≠ 0 →
      s.answers (.devDomainSet e on off p) c .rejectedArgs 0x0121 [] s) ∧
    (∀ d, s.meets (.devDomainSet e 0 (2 ^ d) false) c → 3 ≤ d → d < 14 → s.domInUse d = true →
      s.answers (.devDomainSet e 0 (2 ^ d) false) c .rejectedState 0x0122 [] s) ∧
    (s.meets (.devPowerStatus e false) c → s.answers (.devPowerStatus e false) c .ok 0
      (resBytes [(4, s.pwr.resetCause), (4, s.pwr.domainReg), (4, s.pwr.clockReg), (1, s.avs.req), (1, s.avs.ack)]) s) ∧
    (s.meets (.devPowerStatus e true) c → s.answers (.devPowerStatus e true) c .ok 0
      (resBytes [(4, s.pwr.resetCause), (4, s.pwr.domainReg), (4, s.pwr.clockReg), (1, s.avs.req), (1, s.avs.ack)])
      { s with pwr := { s.pwr with causes := ⟨false, false, false, false, false, false, false⟩, restarts := 0, domFail := false } })

/-- 19 R559, R562 to R564, R567, R568, R571: domains and resets without a command. A ramp ends ON, OFF or failed, and the
command that waits for it completes; a rail below its threshold of 19 R551 resets everything, but VDD_TILE while the AVS loop
asks for less than the full voltage; a power-on reset leaves only flash, OTP, CONFIG and what CONFIG holds; RESET_N holds the
engine in reset; PD1 to PD13 leave reset once RESET_N is high and OSC_IN is found. -/
def Obligations.PowerEvents : Prop :=
  ∀ (s : State) (tm now : Nat), now = max s.now tm →
    (∀ d p f, s.portsCalm → d < 14 → d ≠ 12 ∨ s.pst.stops = [] → rd s.pwr.dom d = .rampOn → s.pwr.domCmds = [⟨some (p, f.handle), false, [(d, true)]⟩] →
      (∀ j, j ≠ d → rd s.pwr.dom j = .on ∨ rd s.pwr.dom j = .off) →
      s.canAnswer p f → ∃ t, exec (.domainRampOnDone d tm) s = .next t ∧ rd t.pwr.dom d = .on ∧
        (∀ j, j ≠ d → rd t.pwr.dom j = rd s.pwr.dom j) ∧ t.pwr.domCmds = [] ∧ s.closed t p f .ok 0 (resBytes [(2, t.pwr.onMask), (2, 0)])) ∧
    (∀ d p f, s.portsCalm → d < 14 → rd s.pwr.dom d = .rampOn → s.pwr.domCmds = [⟨some (p, f.handle), false, [(d, true)]⟩] →
      (∀ j, j ≠ d → rd s.pwr.dom j = .on ∨ rd s.pwr.dom j = .off) →
      s.canAnswer p f → ∃ t, exec (.domainRampOnFail d tm) s = .next t ∧ rd t.pwr.dom d = .off ∧
        (∀ j, j ≠ d → rd t.pwr.dom j = rd s.pwr.dom j) ∧ t.pwr.domFail = true ∧
        s.closed t p f .aborted 0x0125 (resBytes [(2, t.pwr.onMask), (2, 2 ^ d)])) ∧
    (∀ d, s.portsCalm → d < 14 → rd s.pwr.dom d = .rampOff → s.pwr.domCmds = [] →
      exec (.domainRampOffDone d tm) s = .next { s with now := now, pwr := { s.pwr with dom := wr s.pwr.dom d .off } }) ∧
    (∀ d, s.portsCalm → rd s.pwr.dom d = .on ∨ rd s.pwr.dom d = .off → exec (.domainRampOnDone d tm) s = .next { s with now := now } ∧
      exec (.domainRampOnFail d tm) s = .next { s with now := now } ∧ exec (.domainRampOffDone d tm) s = .next { s with now := now }) ∧
    (∀ rail v twa, rail ≤ 11 → v < (railTable.getD rail (0, 0)).2 → rail ≠ 7 ∨ s.avs.st = .off →
      ∃ t, exec (.powerOnReset rail v twa tm) s = .next t ∧ t.now = now ∧ t.pwr = { Pwr.reset with offMask := s.pwr.offMask } ∧
      t.pl.live = none ∧ t.pl.st = Planes.reset.st ∧ t.ex = Exch.reset ∧ t.mtx = Mtx.reset ∧ t.tiles = State.reset.tiles ∧ t.per = Per.reset ∧ t.net = Net.reset ∧
      t.flt = State.reset.flt ∧ t.pst = State.reset.pst ∧ t.avs = State.reset.avs ∧ t.cfg = s.cfg ∧ t.boot.recs = s.boot.recs ∧
      t.boot.slots = s.boot.slots ∧ t.boot.log = s.boot.log ∧ t.boot.otp = s.boot.otp ∧ t.boot.revoked = s.boot.revoked ∧
      t.hlt.out = s.hlt.out ∧ t.hlt.stress = s.hlt.stress ∧ t.tw.twa = twa % 8) ∧
    (∀ v twa, s.avs.st ≠ .off → ∃ t, exec (.powerOnReset 7 v twa tm) s = .next t ∧ t.pwr = s.pwr ∧ t.pl = s.pl ∧ t.tiles = s.tiles ∧
      t.boot = s.boot ∧ (s.railWatched 7 = true → (rd s.mon.rails 7).on = false → (rd s.mon.rails 7).outSince = none →
        v + 200 < 5500 + 50 * s.avs.ack → rd t.mon.rails 7 = ⟨v, some now, none, false⟩)) ∧
    (∃ t, exec (.resetNFall tm) s = .next t ∧ t.pwr.resetLow = true ∧ t.pwr.released = false ∧ t.pwr.cpRunning = false ∧
      t.pwr.causes = { s.pwr.causes with ext := true } ∧ (∀ d, d < 14 → t.domOn d = true) ∧ t.pl.live = none ∧ t.ex = Exch.reset ∧
      t.mtx = Mtx.reset ∧ t.quiet ∧ t.cfg = s.cfg ∧ t.boot.recs = s.boot.recs ∧ t.boot.slots = s.boot.slots) ∧
    (s.pwr.resetLow = true → s.pwr.released = false → s.pwr.oscOk = true → ∃ t, exec (.resetNRise tm) s = .next t ∧
      t.pwr.resetLow = false ∧ t.pwr.released = true ∧ t.pwr.bootAfter = now ∧ t.dm.st = .training ∧ t.pl = s.pl) ∧
    (s.pwr.resetLow = true → s.pwr.oscOk = false →
      exec (.resetNRise tm) s = .next { s with now := now, pwr := { s.pwr with resetLow := false } }) ∧
    (s.pwr.resetLow = false → exec (.resetNRise tm) s = .next { s with now := now }) ∧
    (∀ freq, freq ≤ 3 → s.pwr.resetLow = false → s.pwr.released = false → ∃ t, exec (.oscInDetected freq tm) s = .next t ∧
      t.pwr.oscOk = true ∧ t.pwr.oscFreq = freq ∧ t.pwr.released = true ∧ t.pwr.bootAfter = now ∧ t.dm.st = .training) ∧
    (∀ freq, freq ≤ 3 → s.pwr.resetLow = true → exec (.oscInDetected freq tm) s = .next { s with
      now := now, pwr := { s.pwr with oscOk := true, oscFreq := freq } }) ∧
    (s.pwr.oscOk = true → ∃ t, exec (.oscInLoss tm) s = .next t ∧ t.pwr = { s.pwr with oscOk := false } ∧
      s.reported t 0x0101 0x00 0xFFFF (packBits [(32, periodTicks s.per.baseRate), (32, 0)])) ∧
    (s.pwr.oscOk = false → exec (.oscInLoss tm) s = .next { s with now := now })

/-! Headline statements. -/

/-- 06 R182, R185 to R205: decoding gives back what was encoded: every operation that the encoding can write, every move, and a
word of an operation with an X move and a Y move. -/
def Obligations.TileEncoding : Prop :=
  (∀ op : TOp, op.wf = true → decodeOp op.word = some op) ∧
  (∀ m : TMove, decodeMove m.field = some m) ∧
  (∀ (op : TOp) (x y : TMove), op.wf = true → op.freeMoves = true → decodeOp (tileWord op x y) = some op ∧
    decodeMove (xField (tileWord op x y)) = some x ∧ decodeMove (yField (tileWord op x y)) = some y)

/-- What every step keeps, from every state: it takes exactly the command at the front of the queue, or leaves an empty queue;
the clock does not go back (assumption log 1); every addressed memory keeps its canonical form, so that equal memories are equal
data. -/
def Obligations.StepKeeps : Prop :=
  ∀ s t : State, step s = .next t → t.pending = s.pending.tail ∧ s.now ≤ t.now ∧ (s.memOk → t.memOk)

/-- 19 R559, R562, R571, 02 R58, 14 R432, 13 R400, 18 R548: what reset leaves: memories in canonical form, an empty queue on
which a step idles (assumption log 2), every domain on, POR the one cause, no structure LIVE, AVS off, no episode, no channel
that switches. -/
def Obligations.ResetState : Prop :=
  State.reset.memOk ∧ State.reset.pending = [] ∧ step State.reset = .next State.reset ∧
    (∀ d, d < 14 → State.reset.domOn d = true) ∧ State.reset.pwr.causes = ⟨true, false, false, false, false, false, false⟩ ∧
    State.reset.pl.live = none ∧ State.reset.avs.st = .off ∧ State.reset.avs.target = 70 ∧ State.reset.hlt.calInterval = 60 ∧
    (∀ i, i < 16 → (State.reset.ep i).isOpen = false) ∧ State.reset.quiet ∧ (∀ k, k < 68 → (State.reset.tile k).run = .absent) ∧
    ∀ s : State, s.pending = [] → step s = .next s
end

