-- ==== Sys2Proof/Laws/State.lean ====
section
/-!
SUPPORT. What each update of one part of the state leaves alone, field by field and accessor by accessor, and what the
accessor of that part reads afterwards.
-/
namespace Sys2Proof.Machine

theorem rd_wr {α : Type} [Inhabited α] {n : Nat} (v : Vector α n) (i j : Nat) (x : α) :
    rd (wr v i x) j = if i = j ∧ i < n then x else rd v j := by
  unfold rd wr
  by_cases hj : j < n
  · rw [Vector.getElem?_eq_getElem hj, Vector.getElem?_eq_getElem hj, Vector.getElem_setIfInBounds]
    by_cases hij : i = j
    · simp [hij, hj]
    · simp [hij]
  · have h1 : (v.setIfInBounds i x)[j]? = none := by simp; omega
    have h2 : v[j]? = none := by simp; omega
    rw [h1, h2]
    by_cases hij : i = j
    · simp [hij, hj]
    · simp [hij]

variable (s : State)

/-! at_ -/

@[simp] theorem State.at_pending (t : Nat) : (s.at_ t).pending = s.pending := rfl
@[simp] theorem State.at_freeCtr (t : Nat) : (s.at_ t).freeCtr = s.freeCtr := rfl
@[simp] theorem State.at_pwr (t : Nat) : (s.at_ t).pwr = s.pwr := rfl
@[simp] theorem State.at_avs (t : Nat) : (s.at_ t).avs = s.avs := rfl
@[simp] theorem State.at_per (t : Nat) : (s.at_ t).per = s.per := rfl
@[simp] theorem State.at_pl (t : Nat) : (s.at_ t).pl = s.pl := rfl
@[simp] theorem State.at_ex (t : Nat) : (s.at_ t).ex = s.ex := rfl
@[simp] theorem State.at_mtx (t : Nat) : (s.at_ t).mtx = s.mtx := rfl
@[simp] theorem State.at_tiles (t : Nat) : (s.at_ t).tiles = s.tiles := rfl
@[simp] theorem State.at_carrier (t : Nat) : (s.at_ t).carrier = s.carrier := rfl
@[simp] theorem State.at_dm (t : Nat) : (s.at_ t).dm = s.dm := rfl
@[simp] theorem State.at_sap (t : Nat) : (s.at_ t).sap = s.sap := rfl
@[simp] theorem State.at_treps (t : Nat) : (s.at_ t).treps = s.treps := rfl
@[simp] theorem State.at_net (t : Nat) : (s.at_ t).net = s.net := rfl
@[simp] theorem State.at_str (t : Nat) : (s.at_ t).str = s.str := rfl
@[simp] theorem State.at_ts (t : Nat) : (s.at_ t).ts = s.ts := rfl
@[simp] theorem State.at_ref (t : Nat) : (s.at_ t).ref = s.ref := rfl
@[simp] theorem State.at_pst (t : Nat) : (s.at_ t).pst = s.pst := rfl
@[simp] theorem State.at_hlt (t : Nat) : (s.at_ t).hlt = s.hlt := rfl
@[simp] theorem State.at_cfg (t : Nat) : (s.at_ t).cfg = s.cfg := rfl
@[simp] theorem State.at_nodeId (t : Nat) : (s.at_ t).nodeId = s.nodeId := rfl
@[simp] theorem State.at_nodeNext (t : Nat) : (s.at_ t).nodeNext = s.nodeNext := rfl
@[simp] theorem State.at_flt (t : Nat) : (s.at_ t).flt = s.flt := rfl
@[simp] theorem State.at_ports (t : Nat) : (s.at_ t).ports = s.ports := rfl
@[simp] theorem State.at_boot (t : Nat) : (s.at_ t).boot = s.boot := rfl
@[simp] theorem State.at_tw (t : Nat) : (s.at_ t).tw = s.tw := rfl
@[simp] theorem State.at_mon (t : Nat) : (s.at_ t).mon = s.mon := rfl
@[simp] theorem State.at_jtag (t : Nat) : (s.at_ t).jtag = s.jtag := rfl

/-! tickAt -/

@[simp] theorem State.tickAt_pending (t : Nat) : (s.tickAt t).pending = s.pending := rfl
@[simp] theorem State.tickAt_freeCtr (t : Nat) : (s.tickAt t).freeCtr = s.freeCtr := rfl
@[simp] theorem State.tickAt_pwr (t : Nat) : (s.tickAt t).pwr = s.pwr := rfl
@[simp] theorem State.tickAt_avs (t : Nat) : (s.tickAt t).avs = s.avs := rfl
@[simp] theorem State.tickAt_per (t : Nat) : (s.tickAt t).per = s.per := rfl
@[simp] theorem State.tickAt_pl (t : Nat) : (s.tickAt t).pl = s.pl := rfl
@[simp] theorem State.tickAt_ex (t : Nat) : (s.tickAt t).ex = s.ex := rfl
@[simp] theorem State.tickAt_mtx (t : Nat) : (s.tickAt t).mtx = s.mtx := rfl
@[simp] theorem State.tickAt_tiles (t : Nat) : (s.tickAt t).tiles = s.tiles := rfl
@[simp] theorem State.tickAt_carrier (t : Nat) : (s.tickAt t).carrier = s.carrier := rfl
@[simp] theorem State.tickAt_dm (t : Nat) : (s.tickAt t).dm = s.dm := rfl
@[simp] theorem State.tickAt_sap (t : Nat) : (s.tickAt t).sap = s.sap := rfl
@[simp] theorem State.tickAt_treps (t : Nat) : (s.tickAt t).treps = s.treps := rfl
@[simp] theorem State.tickAt_net (t : Nat) : (s.tickAt t).net = s.net := rfl
@[simp] theorem State.tickAt_str (t : Nat) : (s.tickAt t).str = s.str := rfl
@[simp] theorem State.tickAt_ts (t : Nat) : (s.tickAt t).ts = s.ts := rfl
@[simp] theorem State.tickAt_ref (t : Nat) : (s.tickAt t).ref = s.ref := rfl
@[simp] theorem State.tickAt_pst (t : Nat) : (s.tickAt t).pst = s.pst := rfl
@[simp] theorem State.tickAt_hlt (t : Nat) : (s.tickAt t).hlt = s.hlt := rfl
@[simp] theorem State.tickAt_cfg (t : Nat) : (s.tickAt t).cfg = s.cfg := rfl
@[simp] theorem State.tickAt_nodeId (t : Nat) : (s.tickAt t).nodeId = s.nodeId := rfl
@[simp] theorem State.tickAt_nodeNext (t : Nat) : (s.tickAt t).nodeNext = s.nodeNext := rfl
@[simp] theorem State.tickAt_flt (t : Nat) : (s.tickAt t).flt = s.flt := rfl
@[simp] theorem State.tickAt_ports (t : Nat) : (s.tickAt t).ports = s.ports := rfl
@[simp] theorem State.tickAt_boot (t : Nat) : (s.tickAt t).boot = s.boot := rfl
@[simp] theorem State.tickAt_tw (t : Nat) : (s.tickAt t).tw = s.tw := rfl
@[simp] theorem State.tickAt_mon (t : Nat) : (s.tickAt t).mon = s.mon := rfl
@[simp] theorem State.tickAt_jtag (t : Nat) : (s.tickAt t).jtag = s.jtag := rfl

/-! setTile -/

@[simp] theorem State.setTile_pending (k : Nat) (x : Tile) : (s.setTile k x).pending = s.pending := rfl
@[simp] theorem State.setTile_now (k : Nat) (x : Tile) : (s.setTile k x).now = s.now := rfl
@[simp] theorem State.setTile_freeCtr (k : Nat) (x : Tile) : (s.setTile k x).freeCtr = s.freeCtr := rfl
@[simp] theorem State.setTile_pwr (k : Nat) (x : Tile) : (s.setTile k x).pwr = s.pwr := rfl
@[simp] theorem State.setTile_avs (k : Nat) (x : Tile) : (s.setTile k x).avs = s.avs := rfl
@[simp] theorem State.setTile_per (k : Nat) (x : Tile) : (s.setTile k x).per = s.per := rfl
@[simp] theorem State.setTile_pl (k : Nat) (x : Tile) : (s.setTile k x).pl = s.pl := rfl
@[simp] theorem State.setTile_ex (k : Nat) (x : Tile) : (s.setTile k x).ex = s.ex := rfl
@[simp] theorem State.setTile_mtx (k : Nat) (x : Tile) : (s.setTile k x).mtx = s.mtx := rfl
@[simp] theorem State.setTile_carrier (k : Nat) (x : Tile) : (s.setTile k x).carrier = s.carrier := rfl
@[simp] theorem State.setTile_dm (k : Nat) (x : Tile) : (s.setTile k x).dm = s.dm := rfl
@[simp] theorem State.setTile_sap (k : Nat) (x : Tile) : (s.setTile k x).sap = s.sap := rfl
@[simp] theorem State.setTile_treps (k : Nat) (x : Tile) : (s.setTile k x).treps = s.treps := rfl
@[simp] theorem State.setTile_net (k : Nat) (x : Tile) : (s.setTile k x).net = s.net := rfl
@[simp] theorem State.setTile_str (k : Nat) (x : Tile) : (s.setTile k x).str = s.str := rfl
@[simp] theorem State.setTile_ts (k : Nat) (x : Tile) : (s.setTile k x).ts = s.ts := rfl
@[simp] theorem State.setTile_ref (k : Nat) (x : Tile) : (s.setTile k x).ref = s.ref := rfl
@[simp] theorem State.setTile_pst (k : Nat) (x : Tile) : (s.setTile k x).pst = s.pst := rfl
@[simp] theorem State.setTile_hlt (k : Nat) (x : Tile) : (s.setTile k x).hlt = s.hlt := rfl
@[simp] theorem State.setTile_cfg (k : Nat) (x : Tile) : (s.setTile k x).cfg = s.cfg := rfl
@[simp] theorem State.setTile_nodeId (k : Nat) (x : Tile) : (s.setTile k x).nodeId = s.nodeId := rfl
@[simp] theorem State.setTile_nodeNext (k : Nat) (x : Tile) : (s.setTile k x).nodeNext = s.nodeNext := rfl
@[simp] theorem State.setTile_flt (k : Nat) (x : Tile) : (s.setTile k x).flt = s.flt := rfl
@[simp] theorem State.setTile_ports (k : Nat) (x : Tile) : (s.setTile k x).ports = s.ports := rfl
@[simp] theorem State.setTile_boot (k : Nat) (x : Tile) : (s.setTile k x).boot = s.boot := rfl
@[simp] theorem State.setTile_tw (k : Nat) (x : Tile) : (s.setTile k x).tw = s.tw := rfl
@[simp] theorem State.setTile_mon (k : Nat) (x : Tile) : (s.setTile k x).mon = s.mon := rfl
@[simp] theorem State.setTile_jtag (k : Nat) (x : Tile) : (s.setTile k x).jtag = s.jtag := rfl

/-! report -/

@[simp] theorem State.report_pending (c z e d : Nat) : (s.report c z e d).pending = s.pending := rfl
@[simp] theorem State.report_now (c z e d : Nat) : (s.report c z e d).now = s.now := rfl
@[simp] theorem State.report_freeCtr (c z e d : Nat) : (s.report c z e d).freeCtr = s.freeCtr := rfl
@[simp] theorem State.report_pwr (c z e d : Nat) : (s.report c z e d).pwr = s.pwr := rfl
@[simp] theorem State.report_avs (c z e d : Nat) : (s.report c z e d).avs = s.avs := rfl
@[simp] theorem State.report_per (c z e d : Nat) : (s.report c z e d).per = s.per := rfl
@[simp] theorem State.report_pl (c z e d : Nat) : (s.report c z e d).pl = s.pl := rfl
@[simp] theorem State.report_ex (c z e d : Nat) : (s.report c z e d).ex = s.ex := rfl
@[simp] theorem State.report_mtx (c z e d : Nat) : (s.report c z e d).mtx = s.mtx := rfl
@[simp] theorem State.report_tiles (c z e d : Nat) : (s.report c z e d).tiles = s.tiles := rfl
@[simp] theorem State.report_carrier (c z e d : Nat) : (s.report c z e d).carrier = s.carrier := rfl
@[simp] theorem State.report_dm (c z e d : Nat) : (s.report c z e d).dm = s.dm := rfl
@[simp] theorem State.report_sap (c z e d : Nat) : (s.report c z e d).sap = s.sap := rfl
@[simp] theorem State.report_treps (c z e d : Nat) : (s.report c z e d).treps = s.treps := rfl
@[simp] theorem State.report_net (c z e d : Nat) : (s.report c z e d).net = s.net := rfl
@[simp] theorem State.report_str (c z e d : Nat) : (s.report c z e d).str = s.str := rfl
@[simp] theorem State.report_ts (c z e d : Nat) : (s.report c z e d).ts = s.ts := rfl
@[simp] theorem State.report_ref (c z e d : Nat) : (s.report c z e d).ref = s.ref := rfl
@[simp] theorem State.report_pst (c z e d : Nat) : (s.report c z e d).pst = s.pst := rfl
@[simp] theorem State.report_hlt (c z e d : Nat) : (s.report c z e d).hlt = s.hlt := rfl
@[simp] theorem State.report_cfg (c z e d : Nat) : (s.report c z e d).cfg = s.cfg := rfl
@[simp] theorem State.report_nodeId (c z e d : Nat) : (s.report c z e d).nodeId = s.nodeId := rfl
@[simp] theorem State.report_nodeNext (c z e d : Nat) : (s.report c z e d).nodeNext = s.nodeNext := rfl
@[simp] theorem State.report_ports (c z e d : Nat) : (s.report c z e d).ports = s.ports := rfl
@[simp] theorem State.report_boot (c z e d : Nat) : (s.report c z e d).boot = s.boot := rfl
@[simp] theorem State.report_tw (c z e d : Nat) : (s.report c z e d).tw = s.tw := rfl
@[simp] theorem State.report_mon (c z e d : Nat) : (s.report c z e d).mon = s.mon := rfl
@[simp] theorem State.report_jtag (c z e d : Nat) : (s.report c z e d).jtag = s.jtag := rfl

/-! raise -/

@[simp] theorem State.raise_pending (c z e d : Nat) : (s.raise c z e d).pending = s.pending := rfl
@[simp] theorem State.raise_now (c z e d : Nat) : (s.raise c z e d).now = s.now := rfl
@[simp] theorem State.raise_freeCtr (c z e d : Nat) : (s.raise c z e d).freeCtr = s.freeCtr := rfl
@[simp] theorem State.raise_pwr (c z e d : Nat) : (s.raise c z e d).pwr = s.pwr := rfl
@[simp] theorem State.raise_avs (c z e d : Nat) : (s.raise c z e d).avs = s.avs := rfl
@[simp] theorem State.raise_per (c z e d : Nat) : (s.raise c z e d).per = s.per := rfl
@[simp] theorem State.raise_pl (c z e d : Nat) : (s.raise c z e d).pl = s.pl := rfl
@[simp] theorem State.raise_ex (c z e d : Nat) : (s.raise c z e d).ex = s.ex := rfl
@[simp] theorem State.raise_mtx (c z e d : Nat) : (s.raise c z e d).mtx = s.mtx := rfl
@[simp] theorem State.raise_tiles (c z e d : Nat) : (s.raise c z e d).tiles = s.tiles := rfl
@[simp] theorem State.raise_carrier (c z e d : Nat) : (s.raise c z e d).carrier = s.carrier := rfl
@[simp] theorem State.raise_dm (c z e d : Nat) : (s.raise c z e d).dm = s.dm := rfl
@[simp] theorem State.raise_sap (c z e d : Nat) : (s.raise c z e d).sap = s.sap := rfl
@[simp] theorem State.raise_treps (c z e d : Nat) : (s.raise c z e d).treps = s.treps := rfl
@[simp] theorem State.raise_net (c z e d : Nat) : (s.raise c z e d).net = s.net := rfl
@[simp] theorem State.raise_str (c z e d : Nat) : (s.raise c z e d).str = s.str := rfl
@[simp] theorem State.raise_ts (c z e d : Nat) : (s.raise c z e d).ts = s.ts := rfl
@[simp] theorem State.raise_ref (c z e d : Nat) : (s.raise c z e d).ref = s.ref := rfl
@[simp] theorem State.raise_pst (c z e d : Nat) : (s.raise c z e d).pst = s.pst := rfl
@[simp] theorem State.raise_hlt (c z e d : Nat) : (s.raise c z e d).hlt = s.hlt := rfl
@[simp] theorem State.raise_cfg (c z e d : Nat) : (s.raise c z e d).cfg = s.cfg := rfl
@[simp] theorem State.raise_nodeId (c z e d : Nat) : (s.raise c z e d).nodeId = s.nodeId := rfl
@[simp] theorem State.raise_nodeNext (c z e d : Nat) : (s.raise c z e d).nodeNext = s.nodeNext := rfl
@[simp] theorem State.raise_ports (c z e d : Nat) : (s.raise c z e d).ports = s.ports := rfl
@[simp] theorem State.raise_boot (c z e d : Nat) : (s.raise c z e d).boot = s.boot := rfl
@[simp] theorem State.raise_tw (c z e d : Nat) : (s.raise c z e d).tw = s.tw := rfl
@[simp] theorem State.raise_mon (c z e d : Nat) : (s.raise c z e d).mon = s.mon := rfl
@[simp] theorem State.raise_jtag (c z e d : Nat) : (s.raise c z e d).jtag = s.jtag := rfl

/-! endCond -/

@[simp] theorem State.endCond_pending (c z e : Nat) : (s.endCond c z e).pending = s.pending := rfl
@[simp] theorem State.endCond_now (c z e : Nat) : (s.endCond c z e).now = s.now := rfl
@[simp] theorem State.endCond_freeCtr (c z e : Nat) : (s.endCond c z e).freeCtr = s.freeCtr := rfl
@[simp] theorem State.endCond_pwr (c z e : Nat) : (s.endCond c z e).pwr = s.pwr := rfl
@[simp] theorem State.endCond_avs (c z e : Nat) : (s.endCond c z e).avs = s.avs := rfl
@[simp] theorem State.endCond_per (c z e : Nat) : (s.endCond c z e).per = s.per := rfl
@[simp] theorem State.endCond_pl (c z e : Nat) : (s.endCond c z e).pl = s.pl := rfl
@[simp] theorem State.endCond_ex (c z e : Nat) : (s.endCond c z e).ex = s.ex := rfl
@[simp] theorem State.endCond_mtx (c z e : Nat) : (s.endCond c z e).mtx = s.mtx := rfl
@[simp] theorem State.endCond_tiles (c z e : Nat) : (s.endCond c z e).tiles = s.tiles := rfl
@[simp] theorem State.endCond_carrier (c z e : Nat) : (s.endCond c z e).carrier = s.carrier := rfl
@[simp] theorem State.endCond_dm (c z e : Nat) : (s.endCond c z e).dm = s.dm := rfl
@[simp] theorem State.endCond_sap (c z e : Nat) : (s.endCond c z e).sap = s.sap := rfl
@[simp] theorem State.endCond_treps (c z e : Nat) : (s.endCond c z e).treps = s.treps := rfl
@[simp] theorem State.endCond_net (c z e : Nat) : (s.endCond c z e).net = s.net := rfl
@[simp] theorem State.endCond_str (c z e : Nat) : (s.endCond c z e).str = s.str := rfl
@[simp] theorem State.endCond_ts (c z e : Nat) : (s.endCond c z e).ts = s.ts := rfl
@[simp] theorem State.endCond_ref (c z e : Nat) : (s.endCond c z e).ref = s.ref := rfl
@[simp] theorem State.endCond_pst (c z e : Nat) : (s.endCond c z e).pst = s.pst := rfl
@[simp] theorem State.endCond_hlt (c z e : Nat) : (s.endCond c z e).hlt = s.hlt := rfl
@[simp] theorem State.endCond_cfg (c z e : Nat) : (s.endCond c z e).cfg = s.cfg := rfl
@[simp] theorem State.endCond_nodeId (c z e : Nat) : (s.endCond c z e).nodeId = s.nodeId := rfl
@[simp] theorem State.endCond_nodeNext (c z e : Nat) : (s.endCond c z e).nodeNext = s.nodeNext := rfl
@[simp] theorem State.endCond_ports (c z e : Nat) : (s.endCond c z e).ports = s.ports := rfl
@[simp] theorem State.endCond_boot (c z e : Nat) : (s.endCond c z e).boot = s.boot := rfl
@[simp] theorem State.endCond_tw (c z e : Nat) : (s.endCond c z e).tw = s.tw := rfl
@[simp] theorem State.endCond_mon (c z e : Nat) : (s.endCond c z e).mon = s.mon := rfl
@[simp] theorem State.endCond_jtag (c z e : Nat) : (s.endCond c z e).jtag = s.jtag := rfl

/-! event -/

@[simp] theorem State.event_pending (v : Nat) : (s.event v).pending = s.pending := rfl
@[simp] theorem State.event_now (v : Nat) : (s.event v).now = s.now := rfl
@[simp] theorem State.event_freeCtr (v : Nat) : (s.event v).freeCtr = s.freeCtr := rfl
@[simp] theorem State.event_pwr (v : Nat) : (s.event v).pwr = s.pwr := rfl
@[simp] theorem State.event_avs (v : Nat) : (s.event v).avs = s.avs := rfl
@[simp] theorem State.event_per (v : Nat) : (s.event v).per = s.per := rfl
@[simp] theorem State.event_pl (v : Nat) : (s.event v).pl = s.pl := rfl
@[simp] theorem State.event_ex (v : Nat) : (s.event v).ex = s.ex := rfl
@[simp] theorem State.event_mtx (v : Nat) : (s.event v).mtx = s.mtx := rfl
@[simp] theorem State.event_tiles (v : Nat) : (s.event v).tiles = s.tiles := rfl
@[simp] theorem State.event_carrier (v : Nat) : (s.event v).carrier = s.carrier := rfl
@[simp] theorem State.event_dm (v : Nat) : (s.event v).dm = s.dm := rfl
@[simp] theorem State.event_sap (v : Nat) : (s.event v).sap = s.sap := rfl
@[simp] theorem State.event_treps (v : Nat) : (s.event v).treps = s.treps := rfl
@[simp] theorem State.event_net (v : Nat) : (s.event v).net = s.net := rfl
@[simp] theorem State.event_str (v : Nat) : (s.event v).str = s.str := rfl
@[simp] theorem State.event_ts (v : Nat) : (s.event v).ts = s.ts := rfl
@[simp] theorem State.event_ref (v : Nat) : (s.event v).ref = s.ref := rfl
@[simp] theorem State.event_pst (v : Nat) : (s.event v).pst = s.pst := rfl
@[simp] theorem State.event_hlt (v : Nat) : (s.event v).hlt = s.hlt := rfl
@[simp] theorem State.event_cfg (v : Nat) : (s.event v).cfg = s.cfg := rfl
@[simp] theorem State.event_nodeId (v : Nat) : (s.event v).nodeId = s.nodeId := rfl
@[simp] theorem State.event_nodeNext (v : Nat) : (s.event v).nodeNext = s.nodeNext := rfl
@[simp] theorem State.event_flt (v : Nat) : (s.event v).flt = s.flt := rfl
@[simp] theorem State.event_boot (v : Nat) : (s.event v).boot = s.boot := rfl
@[simp] theorem State.event_tw (v : Nat) : (s.event v).tw = s.tw := rfl
@[simp] theorem State.event_mon (v : Nat) : (s.event v).mon = s.mon := rfl
@[simp] theorem State.event_jtag (v : Nat) : (s.event v).jtag = s.jtag := rfl

/-! putSlot -/

@[simp] theorem State.putSlot_pending (i : Nat) (v : Slot) (b : Bool) : (s.putSlot i v b).pending = s.pending := rfl
@[simp] theorem State.putSlot_now (i : Nat) (v : Slot) (b : Bool) : (s.putSlot i v b).now = s.now := rfl
@[simp] theorem State.putSlot_freeCtr (i : Nat) (v : Slot) (b : Bool) : (s.putSlot i v b).freeCtr = s.freeCtr := rfl
@[simp] theorem State.putSlot_pwr (i : Nat) (v : Slot) (b : Bool) : (s.putSlot i v b).pwr = s.pwr := rfl
@[simp] theorem State.putSlot_avs (i : Nat) (v : Slot) (b : Bool) : (s.putSlot i v b).avs = s.avs := rfl
@[simp] theorem State.putSlot_per (i : Nat) (v : Slot) (b : Bool) : (s.putSlot i v b).per = s.per := rfl
@[simp] theorem State.putSlot_pl (i : Nat) (v : Slot) (b : Bool) : (s.putSlot i v b).pl = s.pl := rfl
@[simp] theorem State.putSlot_mtx (i : Nat) (v : Slot) (b : Bool) : (s.putSlot i v b).mtx = s.mtx := rfl
@[simp] theorem State.putSlot_tiles (i : Nat) (v : Slot) (b : Bool) : (s.putSlot i v b).tiles = s.tiles := rfl
@[simp] theorem State.putSlot_carrier (i : Nat) (v : Slot) (b : Bool) : (s.putSlot i v b).carrier = s.carrier := rfl
@[simp] theorem State.putSlot_dm (i : Nat) (v : Slot) (b : Bool) : (s.putSlot i v b).dm = s.dm := rfl
@[simp] theorem State.putSlot_sap (i : Nat) (v : Slot) (b : Bool) : (s.putSlot i v b).sap = s.sap := rfl
@[simp] theorem State.putSlot_treps (i : Nat) (v : Slot) (b : Bool) : (s.putSlot i v b).treps = s.treps := rfl
@[simp] theorem State.putSlot_net (i : Nat) (v : Slot) (b : Bool) : (s.putSlot i v b).net = s.net := rfl
@[simp] theorem State.putSlot_str (i : Nat) (v : Slot) (b : Bool) : (s.putSlot i v b).str = s.str := rfl
@[simp] theorem State.putSlot_ts (i : Nat) (v : Slot) (b : Bool) : (s.putSlot i v b).ts = s.ts := rfl
@[simp] theorem State.putSlot_ref (i : Nat) (v : Slot) (b : Bool) : (s.putSlot i v b).ref = s.ref := rfl
@[simp] theorem State.putSlot_pst (i : Nat) (v : Slot) (b : Bool) : (s.putSlot i v b).pst = s.pst := rfl
@[simp] theorem State.putSlot_hlt (i : Nat) (v : Slot) (b : Bool) : (s.putSlot i v b).hlt = s.hlt := rfl
@[simp] theorem State.putSlot_cfg (i : Nat) (v : Slot) (b : Bool) : (s.putSlot i v b).cfg = s.cfg := rfl
@[simp] theorem State.putSlot_nodeId (i : Nat) (v : Slot) (b : Bool) : (s.putSlot i v b).nodeId = s.nodeId := rfl
@[simp] theorem State.putSlot_nodeNext (i : Nat) (v : Slot) (b : Bool) : (s.putSlot i v b).nodeNext = s.nodeNext := rfl
@[simp] theorem State.putSlot_flt (i : Nat) (v : Slot) (b : Bool) : (s.putSlot i v b).flt = s.flt := rfl
@[simp] theorem State.putSlot_ports (i : Nat) (v : Slot) (b : Bool) : (s.putSlot i v b).ports = s.ports := rfl
@[simp] theorem State.putSlot_boot (i : Nat) (v : Slot) (b : Bool) : (s.putSlot i v b).boot = s.boot := rfl
@[simp] theorem State.putSlot_tw (i : Nat) (v : Slot) (b : Bool) : (s.putSlot i v b).tw = s.tw := rfl
@[simp] theorem State.putSlot_mon (i : Nat) (v : Slot) (b : Bool) : (s.putSlot i v b).mon = s.mon := rfl
@[simp] theorem State.putSlot_jtag (i : Nat) (v : Slot) (b : Bool) : (s.putSlot i v b).jtag = s.jtag := rfl

/-! setPort -/

@[simp] theorem State.setPort_pending (q : CPort) (x : PortS) : (s.setPort q x).pending = s.pending := rfl
@[simp] theorem State.setPort_now (q : CPort) (x : PortS) : (s.setPort q x).now = s.now := rfl
@[simp] theorem State.setPort_freeCtr (q : CPort) (x : PortS) : (s.setPort q x).freeCtr = s.freeCtr := rfl
@[simp] theorem State.setPort_pwr (q : CPort) (x : PortS) : (s.setPort q x).pwr = s.pwr := rfl
@[simp] theorem State.setPort_avs (q : CPort) (x : PortS) : (s.setPort q x).avs = s.avs := rfl
@[simp] theorem State.setPort_per (q : CPort) (x : PortS) : (s.setPort q x).per = s.per := rfl
@[simp] theorem State.setPort_pl (q : CPort) (x : PortS) : (s.setPort q x).pl = s.pl := rfl
@[simp] theorem State.setPort_ex (q : CPort) (x : PortS) : (s.setPort q x).ex = s.ex := rfl
@[simp] theorem State.setPort_mtx (q : CPort) (x : PortS) : (s.setPort q x).mtx = s.mtx := rfl
@[simp] theorem State.setPort_tiles (q : CPort) (x : PortS) : (s.setPort q x).tiles = s.tiles := rfl
@[simp] theorem State.setPort_carrier (q : CPort) (x : PortS) : (s.setPort q x).carrier = s.carrier := rfl
@[simp] theorem State.setPort_dm (q : CPort) (x : PortS) : (s.setPort q x).dm = s.dm := rfl
@[simp] theorem State.setPort_sap (q : CPort) (x : PortS) : (s.setPort q x).sap = s.sap := rfl
@[simp] theorem State.setPort_treps (q : CPort) (x : PortS) : (s.setPort q x).treps = s.treps := rfl
@[simp] theorem State.setPort_net (q : CPort) (x : PortS) : (s.setPort q x).net = s.net := rfl
@[simp] theorem State.setPort_str (q : CPort) (x : PortS) : (s.setPort q x).str = s.str := rfl
@[simp] theorem State.setPort_ts (q : CPort) (x : PortS) : (s.setPort q x).ts = s.ts := rfl
@[simp] theorem State.setPort_ref (q : CPort) (x : PortS) : (s.setPort q x).ref = s.ref := rfl
@[simp] theorem State.setPort_pst (q : CPort) (x : PortS) : (s.setPort q x).pst = s.pst := rfl
@[simp] theorem State.setPort_hlt (q : CPort) (x : PortS) : (s.setPort q x).hlt = s.hlt := rfl
@[simp] theorem State.setPort_cfg (q : CPort) (x : PortS) : (s.setPort q x).cfg = s.cfg := rfl
@[simp] theorem State.setPort_nodeId (q : CPort) (x : PortS) : (s.setPort q x).nodeId = s.nodeId := rfl
@[simp] theorem State.setPort_nodeNext (q : CPort) (x : PortS) : (s.setPort q x).nodeNext = s.nodeNext := rfl
@[simp] theorem State.setPort_flt (q : CPort) (x : PortS) : (s.setPort q x).flt = s.flt := rfl
@[simp] theorem State.setPort_boot (q : CPort) (x : PortS) : (s.setPort q x).boot = s.boot := rfl
@[simp] theorem State.setPort_tw (q : CPort) (x : PortS) : (s.setPort q x).tw = s.tw := rfl
@[simp] theorem State.setPort_mon (q : CPort) (x : PortS) : (s.setPort q x).mon = s.mon := rfl
@[simp] theorem State.setPort_jtag (q : CPort) (x : PortS) : (s.setPort q x).jtag = s.jtag := rfl

/-! setAccess -/

@[simp] theorem State.setAccess_pending (b : Block) (x : Access) : (s.setAccess b x).pending = s.pending := rfl
@[simp] theorem State.setAccess_now (b : Block) (x : Access) : (s.setAccess b x).now = s.now := rfl
@[simp] theorem State.setAccess_freeCtr (b : Block) (x : Access) : (s.setAccess b x).freeCtr = s.freeCtr := rfl
@[simp] theorem State.setAccess_pwr (b : Block) (x : Access) : (s.setAccess b x).pwr = s.pwr := rfl
@[simp] theorem State.setAccess_avs (b : Block) (x : Access) : (s.setAccess b x).avs = s.avs := rfl
@[simp] theorem State.setAccess_per (b : Block) (x : Access) : (s.setAccess b x).per = s.per := rfl
@[simp] theorem State.setAccess_pl (b : Block) (x : Access) : (s.setAccess b x).pl = s.pl := rfl
@[simp] theorem State.setAccess_ex (b : Block) (x : Access) : (s.setAccess b x).ex = s.ex := rfl
@[simp] theorem State.setAccess_mtx (b : Block) (x : Access) : (s.setAccess b x).mtx = s.mtx := rfl
@[simp] theorem State.setAccess_tiles (b : Block) (x : Access) : (s.setAccess b x).tiles = s.tiles := rfl
@[simp] theorem State.setAccess_carrier (b : Block) (x : Access) : (s.setAccess b x).carrier = s.carrier := rfl
@[simp] theorem State.setAccess_dm (b : Block) (x : Access) : (s.setAccess b x).dm = s.dm := rfl
@[simp] theorem State.setAccess_sap (b : Block) (x : Access) : (s.setAccess b x).sap = s.sap := rfl
@[simp] theorem State.setAccess_treps (b : Block) (x : Access) : (s.setAccess b x).treps = s.treps := rfl
@[simp] theorem State.setAccess_net (b : Block) (x : Access) : (s.setAccess b x).net = s.net := rfl
@[simp] theorem State.setAccess_str (b : Block) (x : Access) : (s.setAccess b x).str = s.str := rfl
@[simp] theorem State.setAccess_ts (b : Block) (x : Access) : (s.setAccess b x).ts = s.ts := rfl
@[simp] theorem State.setAccess_ref (b : Block) (x : Access) : (s.setAccess b x).ref = s.ref := rfl
@[simp] theorem State.setAccess_pst (b : Block) (x : Access) : (s.setAccess b x).pst = s.pst := rfl
@[simp] theorem State.setAccess_hlt (b : Block) (x : Access) : (s.setAccess b x).hlt = s.hlt := rfl
@[simp] theorem State.setAccess_cfg (b : Block) (x : Access) : (s.setAccess b x).cfg = s.cfg := rfl
@[simp] theorem State.setAccess_nodeId (b : Block) (x : Access) : (s.setAccess b x).nodeId = s.nodeId := rfl
@[simp] theorem State.setAccess_nodeNext (b : Block) (x : Access) : (s.setAccess b x).nodeNext = s.nodeNext := rfl
@[simp] theorem State.setAccess_flt (b : Block) (x : Access) : (s.setAccess b x).flt = s.flt := rfl
@[simp] theorem State.setAccess_boot (b : Block) (x : Access) : (s.setAccess b x).boot = s.boot := rfl
@[simp] theorem State.setAccess_tw (b : Block) (x : Access) : (s.setAccess b x).tw = s.tw := rfl
@[simp] theorem State.setAccess_mon (b : Block) (x : Access) : (s.setAccess b x).mon = s.mon := rfl
@[simp] theorem State.setAccess_jtag (b : Block) (x : Access) : (s.setAccess b x).jtag = s.jtag := rfl

/-! hostWrite -/

@[simp] theorem State.hostWrite_pending (q : CPort) (a : Nat) (l : List Byte) : (s.hostWrite q a l).pending = s.pending := rfl
@[simp] theorem State.hostWrite_now (q : CPort) (a : Nat) (l : List Byte) : (s.hostWrite q a l).now = s.now := rfl
@[simp] theorem State.hostWrite_freeCtr (q : CPort) (a : Nat) (l : List Byte) : (s.hostWrite q a l).freeCtr = s.freeCtr := rfl
@[simp] theorem State.hostWrite_pwr (q : CPort) (a : Nat) (l : List Byte) : (s.hostWrite q a l).pwr = s.pwr := rfl
@[simp] theorem State.hostWrite_avs (q : CPort) (a : Nat) (l : List Byte) : (s.hostWrite q a l).avs = s.avs := rfl
@[simp] theorem State.hostWrite_per (q : CPort) (a : Nat) (l : List Byte) : (s.hostWrite q a l).per = s.per := rfl
@[simp] theorem State.hostWrite_pl (q : CPort) (a : Nat) (l : List Byte) : (s.hostWrite q a l).pl = s.pl := rfl
@[simp] theorem State.hostWrite_ex (q : CPort) (a : Nat) (l : List Byte) : (s.hostWrite q a l).ex = s.ex := rfl
@[simp] theorem State.hostWrite_mtx (q : CPort) (a : Nat) (l : List Byte) : (s.hostWrite q a l).mtx = s.mtx := rfl
@[simp] theorem State.hostWrite_tiles (q : CPort) (a : Nat) (l : List Byte) : (s.hostWrite q a l).tiles = s.tiles := rfl
@[simp] theorem State.hostWrite_carrier (q : CPort) (a : Nat) (l : List Byte) : (s.hostWrite q a l).carrier = s.carrier := rfl
@[simp] theorem State.hostWrite_dm (q : CPort) (a : Nat) (l : List Byte) : (s.hostWrite q a l).dm = s.dm := rfl
@[simp] theorem State.hostWrite_sap (q : CPort) (a : Nat) (l : List Byte) : (s.hostWrite q a l).sap = s.sap := rfl
@[simp] theorem State.hostWrite_treps (q : CPort) (a : Nat) (l : List Byte) : (s.hostWrite q a l).treps = s.treps := rfl
@[simp] theorem State.hostWrite_net (q : CPort) (a : Nat) (l : List Byte) : (s.hostWrite q a l).net = s.net := rfl
@[simp] theorem State.hostWrite_str (q : CPort) (a : Nat) (l : List Byte) : (s.hostWrite q a l).str = s.str := rfl
@[simp] theorem State.hostWrite_ts (q : CPort) (a : Nat) (l : List Byte) : (s.hostWrite q a l).ts = s.ts := rfl
@[simp] theorem State.hostWrite_ref (q : CPort) (a : Nat) (l : List Byte) : (s.hostWrite q a l).ref = s.ref := rfl
@[simp] theorem State.hostWrite_pst (q : CPort) (a : Nat) (l : List Byte) : (s.hostWrite q a l).pst = s.pst := rfl
@[simp] theorem State.hostWrite_hlt (q : CPort) (a : Nat) (l : List Byte) : (s.hostWrite q a l).hlt = s.hlt := rfl
@[simp] theorem State.hostWrite_cfg (q : CPort) (a : Nat) (l : List Byte) : (s.hostWrite q a l).cfg = s.cfg := rfl
@[simp] theorem State.hostWrite_nodeId (q : CPort) (a : Nat) (l : List Byte) : (s.hostWrite q a l).nodeId = s.nodeId := rfl
@[simp] theorem State.hostWrite_nodeNext (q : CPort) (a : Nat) (l : List Byte) : (s.hostWrite q a l).nodeNext = s.nodeNext := rfl
@[simp] theorem State.hostWrite_flt (q : CPort) (a : Nat) (l : List Byte) : (s.hostWrite q a l).flt = s.flt := rfl
@[simp] theorem State.hostWrite_boot (q : CPort) (a : Nat) (l : List Byte) : (s.hostWrite q a l).boot = s.boot := rfl
@[simp] theorem State.hostWrite_tw (q : CPort) (a : Nat) (l : List Byte) : (s.hostWrite q a l).tw = s.tw := rfl
@[simp] theorem State.hostWrite_mon (q : CPort) (a : Nat) (l : List Byte) : (s.hostWrite q a l).mon = s.mon := rfl
@[simp] theorem State.hostWrite_jtag (q : CPort) (a : Nat) (l : List Byte) : (s.hostWrite q a l).jtag = s.jtag := rfl

/-! setLane -/

@[simp] theorem State.setLane_pending (i : Nat) (x : Lane) : (s.setLane i x).pending = s.pending := rfl
@[simp] theorem State.setLane_now (i : Nat) (x : Lane) : (s.setLane i x).now = s.now := rfl
@[simp] theorem State.setLane_freeCtr (i : Nat) (x : Lane) : (s.setLane i x).freeCtr = s.freeCtr := rfl
@[simp] theorem State.setLane_pwr (i : Nat) (x : Lane) : (s.setLane i x).pwr = s.pwr := rfl
@[simp] theorem State.setLane_avs (i : Nat) (x : Lane) : (s.setLane i x).avs = s.avs := rfl
@[simp] theorem State.setLane_per (i : Nat) (x : Lane) : (s.setLane i x).per = s.per := rfl
@[simp] theorem State.setLane_pl (i : Nat) (x : Lane) : (s.setLane i x).pl = s.pl := rfl
@[simp] theorem State.setLane_ex (i : Nat) (x : Lane) : (s.setLane i x).ex = s.ex := rfl
@[simp] theorem State.setLane_mtx (i : Nat) (x : Lane) : (s.setLane i x).mtx = s.mtx := rfl
@[simp] theorem State.setLane_tiles (i : Nat) (x : Lane) : (s.setLane i x).tiles = s.tiles := rfl
@[simp] theorem State.setLane_carrier (i : Nat) (x : Lane) : (s.setLane i x).carrier = s.carrier := rfl
@[simp] theorem State.setLane_dm (i : Nat) (x : Lane) : (s.setLane i x).dm = s.dm := rfl
@[simp] theorem State.setLane_sap (i : Nat) (x : Lane) : (s.setLane i x).sap = s.sap := rfl
@[simp] theorem State.setLane_treps (i : Nat) (x : Lane) : (s.setLane i x).treps = s.treps := rfl
@[simp] theorem State.setLane_str (i : Nat) (x : Lane) : (s.setLane i x).str = s.str := rfl
@[simp] theorem State.setLane_ts (i : Nat) (x : Lane) : (s.setLane i x).ts = s.ts := rfl
@[simp] theorem State.setLane_ref (i : Nat) (x : Lane) : (s.setLane i x).ref = s.ref := rfl
@[simp] theorem State.setLane_pst (i : Nat) (x : Lane) : (s.setLane i x).pst = s.pst := rfl
@[simp] theorem State.setLane_hlt (i : Nat) (x : Lane) : (s.setLane i x).hlt = s.hlt := rfl
@[simp] theorem State.setLane_cfg (i : Nat) (x : Lane) : (s.setLane i x).cfg = s.cfg := rfl
@[simp] theorem State.setLane_nodeId (i : Nat) (x : Lane) : (s.setLane i x).nodeId = s.nodeId := rfl
@[simp] theorem State.setLane_nodeNext (i : Nat) (x : Lane) : (s.setLane i x).nodeNext = s.nodeNext := rfl
@[simp] theorem State.setLane_flt (i : Nat) (x : Lane) : (s.setLane i x).flt = s.flt := rfl
@[simp] theorem State.setLane_ports (i : Nat) (x : Lane) : (s.setLane i x).ports = s.ports := rfl
@[simp] theorem State.setLane_boot (i : Nat) (x : Lane) : (s.setLane i x).boot = s.boot := rfl
@[simp] theorem State.setLane_tw (i : Nat) (x : Lane) : (s.setLane i x).tw = s.tw := rfl
@[simp] theorem State.setLane_mon (i : Nat) (x : Lane) : (s.setLane i x).mon = s.mon := rfl
@[simp] theorem State.setLane_jtag (i : Nat) (x : Lane) : (s.setLane i x).jtag = s.jtag := rfl

/-! setTsLane -/

@[simp] theorem State.setTsLane_pending (i : Nat) (x : TsLane) : (s.setTsLane i x).pending = s.pending := rfl
@[simp] theorem State.setTsLane_now (i : Nat) (x : TsLane) : (s.setTsLane i x).now = s.now := rfl
@[simp] theorem State.setTsLane_freeCtr (i : Nat) (x : TsLane) : (s.setTsLane i x).freeCtr = s.freeCtr := rfl
@[simp] theorem State.setTsLane_pwr (i : Nat) (x : TsLane) : (s.setTsLane i x).pwr = s.pwr := rfl
@[simp] theorem State.setTsLane_avs (i : Nat) (x : TsLane) : (s.setTsLane i x).avs = s.avs := rfl
@[simp] theorem State.setTsLane_per (i : Nat) (x : TsLane) : (s.setTsLane i x).per = s.per := rfl
@[simp] theorem State.setTsLane_pl (i : Nat) (x : TsLane) : (s.setTsLane i x).pl = s.pl := rfl
@[simp] theorem State.setTsLane_ex (i : Nat) (x : TsLane) : (s.setTsLane i x).ex = s.ex := rfl
@[simp] theorem State.setTsLane_mtx (i : Nat) (x : TsLane) : (s.setTsLane i x).mtx = s.mtx := rfl
@[simp] theorem State.setTsLane_tiles (i : Nat) (x : TsLane) : (s.setTsLane i x).tiles = s.tiles := rfl
@[simp] theorem State.setTsLane_carrier (i : Nat) (x : TsLane) : (s.setTsLane i x).carrier = s.carrier := rfl
@[simp] theorem State.setTsLane_dm (i : Nat) (x : TsLane) : (s.setTsLane i x).dm = s.dm := rfl
@[simp] theorem State.setTsLane_sap (i : Nat) (x : TsLane) : (s.setTsLane i x).sap = s.sap := rfl
@[simp] theorem State.setTsLane_treps (i : Nat) (x : TsLane) : (s.setTsLane i x).treps = s.treps := rfl
@[simp] theorem State.setTsLane_net (i : Nat) (x : TsLane) : (s.setTsLane i x).net = s.net := rfl
@[simp] theorem State.setTsLane_str (i : Nat) (x : TsLane) : (s.setTsLane i x).str = s.str := rfl
@[simp] theorem State.setTsLane_ref (i : Nat) (x : TsLane) : (s.setTsLane i x).ref = s.ref := rfl
@[simp] theorem State.setTsLane_pst (i : Nat) (x : TsLane) : (s.setTsLane i x).pst = s.pst := rfl
@[simp] theorem State.setTsLane_hlt (i : Nat) (x : TsLane) : (s.setTsLane i x).hlt = s.hlt := rfl
@[simp] theorem State.setTsLane_cfg (i : Nat) (x : TsLane) : (s.setTsLane i x).cfg = s.cfg := rfl
@[simp] theorem State.setTsLane_nodeId (i : Nat) (x : TsLane) : (s.setTsLane i x).nodeId = s.nodeId := rfl
@[simp] theorem State.setTsLane_nodeNext (i : Nat) (x : TsLane) : (s.setTsLane i x).nodeNext = s.nodeNext := rfl
@[simp] theorem State.setTsLane_flt (i : Nat) (x : TsLane) : (s.setTsLane i x).flt = s.flt := rfl
@[simp] theorem State.setTsLane_ports (i : Nat) (x : TsLane) : (s.setTsLane i x).ports = s.ports := rfl
@[simp] theorem State.setTsLane_boot (i : Nat) (x : TsLane) : (s.setTsLane i x).boot = s.boot := rfl
@[simp] theorem State.setTsLane_tw (i : Nat) (x : TsLane) : (s.setTsLane i x).tw = s.tw := rfl
@[simp] theorem State.setTsLane_mon (i : Nat) (x : TsLane) : (s.setTsLane i x).mon = s.mon := rfl
@[simp] theorem State.setTsLane_jtag (i : Nat) (x : TsLane) : (s.setTsLane i x).jtag = s.jtag := rfl

/-! setHalf -/

@[simp] theorem State.setHalf_pending (k : Nat) (x : Chan) : (s.setHalf k x).pending = s.pending := rfl
@[simp] theorem State.setHalf_now (k : Nat) (x : Chan) : (s.setHalf k x).now = s.now := rfl
@[simp] theorem State.setHalf_freeCtr (k : Nat) (x : Chan) : (s.setHalf k x).freeCtr = s.freeCtr := rfl
@[simp] theorem State.setHalf_pwr (k : Nat) (x : Chan) : (s.setHalf k x).pwr = s.pwr := rfl
@[simp] theorem State.setHalf_avs (k : Nat) (x : Chan) : (s.setHalf k x).avs = s.avs := rfl
@[simp] theorem State.setHalf_per (k : Nat) (x : Chan) : (s.setHalf k x).per = s.per := rfl
@[simp] theorem State.setHalf_pl (k : Nat) (x : Chan) : (s.setHalf k x).pl = s.pl := rfl
@[simp] theorem State.setHalf_ex (k : Nat) (x : Chan) : (s.setHalf k x).ex = s.ex := rfl
@[simp] theorem State.setHalf_mtx (k : Nat) (x : Chan) : (s.setHalf k x).mtx = s.mtx := rfl
@[simp] theorem State.setHalf_tiles (k : Nat) (x : Chan) : (s.setHalf k x).tiles = s.tiles := rfl
@[simp] theorem State.setHalf_carrier (k : Nat) (x : Chan) : (s.setHalf k x).carrier = s.carrier := rfl
@[simp] theorem State.setHalf_dm (k : Nat) (x : Chan) : (s.setHalf k x).dm = s.dm := rfl
@[simp] theorem State.setHalf_sap (k : Nat) (x : Chan) : (s.setHalf k x).sap = s.sap := rfl
@[simp] theorem State.setHalf_treps (k : Nat) (x : Chan) : (s.setHalf k x).treps = s.treps := rfl
@[simp] theorem State.setHalf_net (k : Nat) (x : Chan) : (s.setHalf k x).net = s.net := rfl
@[simp] theorem State.setHalf_str (k : Nat) (x : Chan) : (s.setHalf k x).str = s.str := rfl
@[simp] theorem State.setHalf_ts (k : Nat) (x : Chan) : (s.setHalf k x).ts = s.ts := rfl
@[simp] theorem State.setHalf_ref (k : Nat) (x : Chan) : (s.setHalf k x).ref = s.ref := rfl
@[simp] theorem State.setHalf_hlt (k : Nat) (x : Chan) : (s.setHalf k x).hlt = s.hlt := rfl
@[simp] theorem State.setHalf_cfg (k : Nat) (x : Chan) : (s.setHalf k x).cfg = s.cfg := rfl
@[simp] theorem State.setHalf_nodeId (k : Nat) (x : Chan) : (s.setHalf k x).nodeId = s.nodeId := rfl
@[simp] theorem State.setHalf_nodeNext (k : Nat) (x : Chan) : (s.setHalf k x).nodeNext = s.nodeNext := rfl
@[simp] theorem State.setHalf_flt (k : Nat) (x : Chan) : (s.setHalf k x).flt = s.flt := rfl
@[simp] theorem State.setHalf_ports (k : Nat) (x : Chan) : (s.setHalf k x).ports = s.ports := rfl
@[simp] theorem State.setHalf_boot (k : Nat) (x : Chan) : (s.setHalf k x).boot = s.boot := rfl
@[simp] theorem State.setHalf_tw (k : Nat) (x : Chan) : (s.setHalf k x).tw = s.tw := rfl
@[simp] theorem State.setHalf_mon (k : Nat) (x : Chan) : (s.setHalf k x).mon = s.mon := rfl
@[simp] theorem State.setHalf_jtag (k : Nat) (x : Chan) : (s.setHalf k x).jtag = s.jtag := rfl

/-! setRail -/

@[simp] theorem State.setRail_pending (r : Nat) (x : Rail) : (s.setRail r x).pending = s.pending := rfl
@[simp] theorem State.setRail_now (r : Nat) (x : Rail) : (s.setRail r x).now = s.now := rfl
@[simp] theorem State.setRail_freeCtr (r : Nat) (x : Rail) : (s.setRail r x).freeCtr = s.freeCtr := rfl
@[simp] theorem State.setRail_pwr (r : Nat) (x : Rail) : (s.setRail r x).pwr = s.pwr := rfl
@[simp] theorem State.setRail_avs (r : Nat) (x : Rail) : (s.setRail r x).avs = s.avs := rfl
@[simp] theorem State.setRail_per (r : Nat) (x : Rail) : (s.setRail r x).per = s.per := rfl
@[simp] theorem State.setRail_pl (r : Nat) (x : Rail) : (s.setRail r x).pl = s.pl := rfl
@[simp] theorem State.setRail_ex (r : Nat) (x : Rail) : (s.setRail r x).ex = s.ex := rfl
@[simp] theorem State.setRail_mtx (r : Nat) (x : Rail) : (s.setRail r x).mtx = s.mtx := rfl
@[simp] theorem State.setRail_tiles (r : Nat) (x : Rail) : (s.setRail r x).tiles = s.tiles := rfl
@[simp] theorem State.setRail_carrier (r : Nat) (x : Rail) : (s.setRail r x).carrier = s.carrier := rfl
@[simp] theorem State.setRail_dm (r : Nat) (x : Rail) : (s.setRail r x).dm = s.dm := rfl
@[simp] theorem State.setRail_sap (r : Nat) (x : Rail) : (s.setRail r x).sap = s.sap := rfl
@[simp] theorem State.setRail_treps (r : Nat) (x : Rail) : (s.setRail r x).treps = s.treps := rfl
@[simp] theorem State.setRail_net (r : Nat) (x : Rail) : (s.setRail r x).net = s.net := rfl
@[simp] theorem State.setRail_str (r : Nat) (x : Rail) : (s.setRail r x).str = s.str := rfl
@[simp] theorem State.setRail_ts (r : Nat) (x : Rail) : (s.setRail r x).ts = s.ts := rfl
@[simp] theorem State.setRail_ref (r : Nat) (x : Rail) : (s.setRail r x).ref = s.ref := rfl
@[simp] theorem State.setRail_hlt (r : Nat) (x : Rail) : (s.setRail r x).hlt = s.hlt := rfl
@[simp] theorem State.setRail_cfg (r : Nat) (x : Rail) : (s.setRail r x).cfg = s.cfg := rfl
@[simp] theorem State.setRail_nodeId (r : Nat) (x : Rail) : (s.setRail r x).nodeId = s.nodeId := rfl
@[simp] theorem State.setRail_nodeNext (r : Nat) (x : Rail) : (s.setRail r x).nodeNext = s.nodeNext := rfl
@[simp] theorem State.setRail_flt (r : Nat) (x : Rail) : (s.setRail r x).flt = s.flt := rfl
@[simp] theorem State.setRail_ports (r : Nat) (x : Rail) : (s.setRail r x).ports = s.ports := rfl
@[simp] theorem State.setRail_boot (r : Nat) (x : Rail) : (s.setRail r x).boot = s.boot := rfl
@[simp] theorem State.setRail_tw (r : Nat) (x : Rail) : (s.setRail r x).tw = s.tw := rfl
@[simp] theorem State.setRail_mon (r : Nat) (x : Rail) : (s.setRail r x).mon = s.mon := rfl
@[simp] theorem State.setRail_jtag (r : Nat) (x : Rail) : (s.setRail r x).jtag = s.jtag := rfl

/-! setConv -/

@[simp] theorem State.setConv_pending (i : Nat) (x : Conv) : (s.setConv i x).pending = s.pending := rfl
@[simp] theorem State.setConv_now (i : Nat) (x : Conv) : (s.setConv i x).now = s.now := rfl
@[simp] theorem State.setConv_freeCtr (i : Nat) (x : Conv) : (s.setConv i x).freeCtr = s.freeCtr := rfl
@[simp] theorem State.setConv_pwr (i : Nat) (x : Conv) : (s.setConv i x).pwr = s.pwr := rfl
@[simp] theorem State.setConv_avs (i : Nat) (x : Conv) : (s.setConv i x).avs = s.avs := rfl
@[simp] theorem State.setConv_per (i : Nat) (x : Conv) : (s.setConv i x).per = s.per := rfl
@[simp] theorem State.setConv_pl (i : Nat) (x : Conv) : (s.setConv i x).pl = s.pl := rfl
@[simp] theorem State.setConv_ex (i : Nat) (x : Conv) : (s.setConv i x).ex = s.ex := rfl
@[simp] theorem State.setConv_mtx (i : Nat) (x : Conv) : (s.setConv i x).mtx = s.mtx := rfl
@[simp] theorem State.setConv_tiles (i : Nat) (x : Conv) : (s.setConv i x).tiles = s.tiles := rfl
@[simp] theorem State.setConv_carrier (i : Nat) (x : Conv) : (s.setConv i x).carrier = s.carrier := rfl
@[simp] theorem State.setConv_dm (i : Nat) (x : Conv) : (s.setConv i x).dm = s.dm := rfl
@[simp] theorem State.setConv_sap (i : Nat) (x : Conv) : (s.setConv i x).sap = s.sap := rfl
@[simp] theorem State.setConv_treps (i : Nat) (x : Conv) : (s.setConv i x).treps = s.treps := rfl
@[simp] theorem State.setConv_net (i : Nat) (x : Conv) : (s.setConv i x).net = s.net := rfl
@[simp] theorem State.setConv_str (i : Nat) (x : Conv) : (s.setConv i x).str = s.str := rfl
@[simp] theorem State.setConv_ts (i : Nat) (x : Conv) : (s.setConv i x).ts = s.ts := rfl
@[simp] theorem State.setConv_ref (i : Nat) (x : Conv) : (s.setConv i x).ref = s.ref := rfl
@[simp] theorem State.setConv_hlt (i : Nat) (x : Conv) : (s.setConv i x).hlt = s.hlt := rfl
@[simp] theorem State.setConv_cfg (i : Nat) (x : Conv) : (s.setConv i x).cfg = s.cfg := rfl
@[simp] theorem State.setConv_nodeId (i : Nat) (x : Conv) : (s.setConv i x).nodeId = s.nodeId := rfl
@[simp] theorem State.setConv_nodeNext (i : Nat) (x : Conv) : (s.setConv i x).nodeNext = s.nodeNext := rfl
@[simp] theorem State.setConv_flt (i : Nat) (x : Conv) : (s.setConv i x).flt = s.flt := rfl
@[simp] theorem State.setConv_ports (i : Nat) (x : Conv) : (s.setConv i x).ports = s.ports := rfl
@[simp] theorem State.setConv_boot (i : Nat) (x : Conv) : (s.setConv i x).boot = s.boot := rfl
@[simp] theorem State.setConv_tw (i : Nat) (x : Conv) : (s.setConv i x).tw = s.tw := rfl
@[simp] theorem State.setConv_mon (i : Nat) (x : Conv) : (s.setConv i x).mon = s.mon := rfl
@[simp] theorem State.setConv_jtag (i : Nat) (x : Conv) : (s.setConv i x).jtag = s.jtag := rfl

/-! setRef -/

@[simp] theorem State.setRef_pending (r : Ref) : (s.setRef r).pending = s.pending := rfl
@[simp] theorem State.setRef_now (r : Ref) : (s.setRef r).now = s.now := rfl
@[simp] theorem State.setRef_freeCtr (r : Ref) : (s.setRef r).freeCtr = s.freeCtr := rfl
@[simp] theorem State.setRef_pwr (r : Ref) : (s.setRef r).pwr = s.pwr := rfl
@[simp] theorem State.setRef_avs (r : Ref) : (s.setRef r).avs = s.avs := rfl
@[simp] theorem State.setRef_per (r : Ref) : (s.setRef r).per = s.per := rfl
@[simp] theorem State.setRef_pl (r : Ref) : (s.setRef r).pl = s.pl := rfl
@[simp] theorem State.setRef_ex (r : Ref) : (s.setRef r).ex = s.ex := rfl
@[simp] theorem State.setRef_mtx (r : Ref) : (s.setRef r).mtx = s.mtx := rfl
@[simp] theorem State.setRef_tiles (r : Ref) : (s.setRef r).tiles = s.tiles := rfl
@[simp] theorem State.setRef_carrier (r : Ref) : (s.setRef r).carrier = s.carrier := rfl
@[simp] theorem State.setRef_dm (r : Ref) : (s.setRef r).dm = s.dm := rfl
@[simp] theorem State.setRef_sap (r : Ref) : (s.setRef r).sap = s.sap := rfl
@[simp] theorem State.setRef_treps (r : Ref) : (s.setRef r).treps = s.treps := rfl
@[simp] theorem State.setRef_net (r : Ref) : (s.setRef r).net = s.net := rfl
@[simp] theorem State.setRef_str (r : Ref) : (s.setRef r).str = s.str := rfl
@[simp] theorem State.setRef_ts (r : Ref) : (s.setRef r).ts = s.ts := rfl
@[simp] theorem State.setRef_pst (r : Ref) : (s.setRef r).pst = s.pst := rfl
@[simp] theorem State.setRef_hlt (r : Ref) : (s.setRef r).hlt = s.hlt := rfl
@[simp] theorem State.setRef_cfg (r : Ref) : (s.setRef r).cfg = s.cfg := rfl
@[simp] theorem State.setRef_nodeId (r : Ref) : (s.setRef r).nodeId = s.nodeId := rfl
@[simp] theorem State.setRef_nodeNext (r : Ref) : (s.setRef r).nodeNext = s.nodeNext := rfl
@[simp] theorem State.setRef_flt (r : Ref) : (s.setRef r).flt = s.flt := rfl
@[simp] theorem State.setRef_ports (r : Ref) : (s.setRef r).ports = s.ports := rfl
@[simp] theorem State.setRef_boot (r : Ref) : (s.setRef r).boot = s.boot := rfl
@[simp] theorem State.setRef_tw (r : Ref) : (s.setRef r).tw = s.tw := rfl
@[simp] theorem State.setRef_mon (r : Ref) : (s.setRef r).mon = s.mon := rfl
@[simp] theorem State.setRef_jtag (r : Ref) : (s.setRef r).jtag = s.jtag := rfl

/-! setEp -/

@[simp] theorem State.setEp_pending (i : Nat) (x : Episode) : (s.setEp i x).pending = s.pending := rfl
@[simp] theorem State.setEp_now (i : Nat) (x : Episode) : (s.setEp i x).now = s.now := rfl
@[simp] theorem State.setEp_freeCtr (i : Nat) (x : Episode) : (s.setEp i x).freeCtr = s.freeCtr := rfl
@[simp] theorem State.setEp_pwr (i : Nat) (x : Episode) : (s.setEp i x).pwr = s.pwr := rfl
@[simp] theorem State.setEp_avs (i : Nat) (x : Episode) : (s.setEp i x).avs = s.avs := rfl
@[simp] theorem State.setEp_per (i : Nat) (x : Episode) : (s.setEp i x).per = s.per := rfl
@[simp] theorem State.setEp_pl (i : Nat) (x : Episode) : (s.setEp i x).pl = s.pl := rfl
@[simp] theorem State.setEp_ex (i : Nat) (x : Episode) : (s.setEp i x).ex = s.ex := rfl
@[simp] theorem State.setEp_mtx (i : Nat) (x : Episode) : (s.setEp i x).mtx = s.mtx := rfl
@[simp] theorem State.setEp_tiles (i : Nat) (x : Episode) : (s.setEp i x).tiles = s.tiles := rfl
@[simp] theorem State.setEp_carrier (i : Nat) (x : Episode) : (s.setEp i x).carrier = s.carrier := rfl
@[simp] theorem State.setEp_dm (i : Nat) (x : Episode) : (s.setEp i x).dm = s.dm := rfl
@[simp] theorem State.setEp_sap (i : Nat) (x : Episode) : (s.setEp i x).sap = s.sap := rfl
@[simp] theorem State.setEp_treps (i : Nat) (x : Episode) : (s.setEp i x).treps = s.treps := rfl
@[simp] theorem State.setEp_net (i : Nat) (x : Episode) : (s.setEp i x).net = s.net := rfl
@[simp] theorem State.setEp_str (i : Nat) (x : Episode) : (s.setEp i x).str = s.str := rfl
@[simp] theorem State.setEp_ts (i : Nat) (x : Episode) : (s.setEp i x).ts = s.ts := rfl
@[simp] theorem State.setEp_ref (i : Nat) (x : Episode) : (s.setEp i x).ref = s.ref := rfl
@[simp] theorem State.setEp_pst (i : Nat) (x : Episode) : (s.setEp i x).pst = s.pst := rfl
@[simp] theorem State.setEp_hlt (i : Nat) (x : Episode) : (s.setEp i x).hlt = s.hlt := rfl
@[simp] theorem State.setEp_cfg (i : Nat) (x : Episode) : (s.setEp i x).cfg = s.cfg := rfl
@[simp] theorem State.setEp_nodeId (i : Nat) (x : Episode) : (s.setEp i x).nodeId = s.nodeId := rfl
@[simp] theorem State.setEp_nodeNext (i : Nat) (x : Episode) : (s.setEp i x).nodeNext = s.nodeNext := rfl
@[simp] theorem State.setEp_ports (i : Nat) (x : Episode) : (s.setEp i x).ports = s.ports := rfl
@[simp] theorem State.setEp_boot (i : Nat) (x : Episode) : (s.setEp i x).boot = s.boot := rfl
@[simp] theorem State.setEp_tw (i : Nat) (x : Episode) : (s.setEp i x).tw = s.tw := rfl
@[simp] theorem State.setEp_mon (i : Nat) (x : Episode) : (s.setEp i x).mon = s.mon := rfl
@[simp] theorem State.setEp_jtag (i : Nat) (x : Episode) : (s.setEp i x).jtag = s.jtag := rfl

/-! setFlt -/

@[simp] theorem State.setFlt_pending (f : Flt) : (s.setFlt f).pending = s.pending := rfl
@[simp] theorem State.setFlt_now (f : Flt) : (s.setFlt f).now = s.now := rfl
@[simp] theorem State.setFlt_freeCtr (f : Flt) : (s.setFlt f).freeCtr = s.freeCtr := rfl
@[simp] theorem State.setFlt_pwr (f : Flt) : (s.setFlt f).pwr = s.pwr := rfl
@[simp] theorem State.setFlt_avs (f : Flt) : (s.setFlt f).avs = s.avs := rfl
@[simp] theorem State.setFlt_per (f : Flt) : (s.setFlt f).per = s.per := rfl
@[simp] theorem State.setFlt_pl (f : Flt) : (s.setFlt f).pl = s.pl := rfl
@[simp] theorem State.setFlt_ex (f : Flt) : (s.setFlt f).ex = s.ex := rfl
@[simp] theorem State.setFlt_mtx (f : Flt) : (s.setFlt f).mtx = s.mtx := rfl
@[simp] theorem State.setFlt_tiles (f : Flt) : (s.setFlt f).tiles = s.tiles := rfl
@[simp] theorem State.setFlt_carrier (f : Flt) : (s.setFlt f).carrier = s.carrier := rfl
@[simp] theorem State.setFlt_dm (f : Flt) : (s.setFlt f).dm = s.dm := rfl
@[simp] theorem State.setFlt_sap (f : Flt) : (s.setFlt f).sap = s.sap := rfl
@[simp] theorem State.setFlt_treps (f : Flt) : (s.setFlt f).treps = s.treps := rfl
@[simp] theorem State.setFlt_net (f : Flt) : (s.setFlt f).net = s.net := rfl
@[simp] theorem State.setFlt_str (f : Flt) : (s.setFlt f).str = s.str := rfl
@[simp] theorem State.setFlt_ts (f : Flt) : (s.setFlt f).ts = s.ts := rfl
@[simp] theorem State.setFlt_ref (f : Flt) : (s.setFlt f).ref = s.ref := rfl
@[simp] theorem State.setFlt_pst (f : Flt) : (s.setFlt f).pst = s.pst := rfl
@[simp] theorem State.setFlt_hlt (f : Flt) : (s.setFlt f).hlt = s.hlt := rfl
@[simp] theorem State.setFlt_cfg (f : Flt) : (s.setFlt f).cfg = s.cfg := rfl
@[simp] theorem State.setFlt_nodeId (f : Flt) : (s.setFlt f).nodeId = s.nodeId := rfl
@[simp] theorem State.setFlt_nodeNext (f : Flt) : (s.setFlt f).nodeNext = s.nodeNext := rfl
@[simp] theorem State.setFlt_ports (f : Flt) : (s.setFlt f).ports = s.ports := rfl
@[simp] theorem State.setFlt_boot (f : Flt) : (s.setFlt f).boot = s.boot := rfl
@[simp] theorem State.setFlt_tw (f : Flt) : (s.setFlt f).tw = s.tw := rfl
@[simp] theorem State.setFlt_mon (f : Flt) : (s.setFlt f).mon = s.mon := rfl
@[simp] theorem State.setFlt_jtag (f : Flt) : (s.setFlt f).jtag = s.jtag := rfl

/-! setQuad -/

@[simp] theorem State.setQuad_pending (q : Nat) (x : Quad) : (s.setQuad q x).pending = s.pending := rfl
@[simp] theorem State.setQuad_now (q : Nat) (x : Quad) : (s.setQuad q x).now = s.now := rfl
@[simp] theorem State.setQuad_freeCtr (q : Nat) (x : Quad) : (s.setQuad q x).freeCtr = s.freeCtr := rfl
@[simp] theorem State.setQuad_pwr (q : Nat) (x : Quad) : (s.setQuad q x).pwr = s.pwr := rfl
@[simp] theorem State.setQuad_avs (q : Nat) (x : Quad) : (s.setQuad q x).avs = s.avs := rfl
@[simp] theorem State.setQuad_per (q : Nat) (x : Quad) : (s.setQuad q x).per = s.per := rfl
@[simp] theorem State.setQuad_pl (q : Nat) (x : Quad) : (s.setQuad q x).pl = s.pl := rfl
@[simp] theorem State.setQuad_ex (q : Nat) (x : Quad) : (s.setQuad q x).ex = s.ex := rfl
@[simp] theorem State.setQuad_mtx (q : Nat) (x : Quad) : (s.setQuad q x).mtx = s.mtx := rfl
@[simp] theorem State.setQuad_tiles (q : Nat) (x : Quad) : (s.setQuad q x).tiles = s.tiles := rfl
@[simp] theorem State.setQuad_carrier (q : Nat) (x : Quad) : (s.setQuad q x).carrier = s.carrier := rfl
@[simp] theorem State.setQuad_dm (q : Nat) (x : Quad) : (s.setQuad q x).dm = s.dm := rfl
@[simp] theorem State.setQuad_sap (q : Nat) (x : Quad) : (s.setQuad q x).sap = s.sap := rfl
@[simp] theorem State.setQuad_treps (q : Nat) (x : Quad) : (s.setQuad q x).treps = s.treps := rfl
@[simp] theorem State.setQuad_net (q : Nat) (x : Quad) : (s.setQuad q x).net = s.net := rfl
@[simp] theorem State.setQuad_str (q : Nat) (x : Quad) : (s.setQuad q x).str = s.str := rfl
@[simp] theorem State.setQuad_ts (q : Nat) (x : Quad) : (s.setQuad q x).ts = s.ts := rfl
@[simp] theorem State.setQuad_ref (q : Nat) (x : Quad) : (s.setQuad q x).ref = s.ref := rfl
@[simp] theorem State.setQuad_pst (q : Nat) (x : Quad) : (s.setQuad q x).pst = s.pst := rfl
@[simp] theorem State.setQuad_cfg (q : Nat) (x : Quad) : (s.setQuad q x).cfg = s.cfg := rfl
@[simp] theorem State.setQuad_nodeId (q : Nat) (x : Quad) : (s.setQuad q x).nodeId = s.nodeId := rfl
@[simp] theorem State.setQuad_nodeNext (q : Nat) (x : Quad) : (s.setQuad q x).nodeNext = s.nodeNext := rfl
@[simp] theorem State.setQuad_flt (q : Nat) (x : Quad) : (s.setQuad q x).flt = s.flt := rfl
@[simp] theorem State.setQuad_ports (q : Nat) (x : Quad) : (s.setQuad q x).ports = s.ports := rfl
@[simp] theorem State.setQuad_boot (q : Nat) (x : Quad) : (s.setQuad q x).boot = s.boot := rfl
@[simp] theorem State.setQuad_tw (q : Nat) (x : Quad) : (s.setQuad q x).tw = s.tw := rfl
@[simp] theorem State.setQuad_mon (q : Nat) (x : Quad) : (s.setQuad q x).mon = s.mon := rfl
@[simp] theorem State.setQuad_jtag (q : Nat) (x : Quad) : (s.setQuad q x).jtag = s.jtag := rfl

/-! setSap -/

@[simp] theorem State.setSap_pending (q : Nat) (x : SaSt) : (s.setSap q x).pending = s.pending := rfl
@[simp] theorem State.setSap_now (q : Nat) (x : SaSt) : (s.setSap q x).now = s.now := rfl
@[simp] theorem State.setSap_freeCtr (q : Nat) (x : SaSt) : (s.setSap q x).freeCtr = s.freeCtr := rfl
@[simp] theorem State.setSap_pwr (q : Nat) (x : SaSt) : (s.setSap q x).pwr = s.pwr := rfl
@[simp] theorem State.setSap_avs (q : Nat) (x : SaSt) : (s.setSap q x).avs = s.avs := rfl
@[simp] theorem State.setSap_per (q : Nat) (x : SaSt) : (s.setSap q x).per = s.per := rfl
@[simp] theorem State.setSap_pl (q : Nat) (x : SaSt) : (s.setSap q x).pl = s.pl := rfl
@[simp] theorem State.setSap_ex (q : Nat) (x : SaSt) : (s.setSap q x).ex = s.ex := rfl
@[simp] theorem State.setSap_mtx (q : Nat) (x : SaSt) : (s.setSap q x).mtx = s.mtx := rfl
@[simp] theorem State.setSap_tiles (q : Nat) (x : SaSt) : (s.setSap q x).tiles = s.tiles := rfl
@[simp] theorem State.setSap_carrier (q : Nat) (x : SaSt) : (s.setSap q x).carrier = s.carrier := rfl
@[simp] theorem State.setSap_dm (q : Nat) (x : SaSt) : (s.setSap q x).dm = s.dm := rfl
@[simp] theorem State.setSap_treps (q : Nat) (x : SaSt) : (s.setSap q x).treps = s.treps := rfl
@[simp] theorem State.setSap_net (q : Nat) (x : SaSt) : (s.setSap q x).net = s.net := rfl
@[simp] theorem State.setSap_str (q : Nat) (x : SaSt) : (s.setSap q x).str = s.str := rfl
@[simp] theorem State.setSap_ts (q : Nat) (x : SaSt) : (s.setSap q x).ts = s.ts := rfl
@[simp] theorem State.setSap_ref (q : Nat) (x : SaSt) : (s.setSap q x).ref = s.ref := rfl
@[simp] theorem State.setSap_pst (q : Nat) (x : SaSt) : (s.setSap q x).pst = s.pst := rfl
@[simp] theorem State.setSap_hlt (q : Nat) (x : SaSt) : (s.setSap q x).hlt = s.hlt := rfl
@[simp] theorem State.setSap_cfg (q : Nat) (x : SaSt) : (s.setSap q x).cfg = s.cfg := rfl
@[simp] theorem State.setSap_nodeId (q : Nat) (x : SaSt) : (s.setSap q x).nodeId = s.nodeId := rfl
@[simp] theorem State.setSap_nodeNext (q : Nat) (x : SaSt) : (s.setSap q x).nodeNext = s.nodeNext := rfl
@[simp] theorem State.setSap_flt (q : Nat) (x : SaSt) : (s.setSap q x).flt = s.flt := rfl
@[simp] theorem State.setSap_ports (q : Nat) (x : SaSt) : (s.setSap q x).ports = s.ports := rfl
@[simp] theorem State.setSap_boot (q : Nat) (x : SaSt) : (s.setSap q x).boot = s.boot := rfl
@[simp] theorem State.setSap_tw (q : Nat) (x : SaSt) : (s.setSap q x).tw = s.tw := rfl
@[simp] theorem State.setSap_mon (q : Nat) (x : SaSt) : (s.setSap q x).mon = s.mon := rfl
@[simp] theorem State.setSap_jtag (q : Nat) (x : SaSt) : (s.setSap q x).jtag = s.jtag := rfl

/-! setRx -/

@[simp] theorem State.setRx_pending (i : Nat) (x : RxSt) : (s.setRx i x).pending = s.pending := rfl
@[simp] theorem State.setRx_now (i : Nat) (x : RxSt) : (s.setRx i x).now = s.now := rfl
@[simp] theorem State.setRx_freeCtr (i : Nat) (x : RxSt) : (s.setRx i x).freeCtr = s.freeCtr := rfl
@[simp] theorem State.setRx_pwr (i : Nat) (x : RxSt) : (s.setRx i x).pwr = s.pwr := rfl
@[simp] theorem State.setRx_avs (i : Nat) (x : RxSt) : (s.setRx i x).avs = s.avs := rfl
@[simp] theorem State.setRx_per (i : Nat) (x : RxSt) : (s.setRx i x).per = s.per := rfl
@[simp] theorem State.setRx_pl (i : Nat) (x : RxSt) : (s.setRx i x).pl = s.pl := rfl
@[simp] theorem State.setRx_ex (i : Nat) (x : RxSt) : (s.setRx i x).ex = s.ex := rfl
@[simp] theorem State.setRx_mtx (i : Nat) (x : RxSt) : (s.setRx i x).mtx = s.mtx := rfl
@[simp] theorem State.setRx_tiles (i : Nat) (x : RxSt) : (s.setRx i x).tiles = s.tiles := rfl
@[simp] theorem State.setRx_carrier (i : Nat) (x : RxSt) : (s.setRx i x).carrier = s.carrier := rfl
@[simp] theorem State.setRx_dm (i : Nat) (x : RxSt) : (s.setRx i x).dm = s.dm := rfl
@[simp] theorem State.setRx_sap (i : Nat) (x : RxSt) : (s.setRx i x).sap = s.sap := rfl
@[simp] theorem State.setRx_treps (i : Nat) (x : RxSt) : (s.setRx i x).treps = s.treps := rfl
@[simp] theorem State.setRx_net (i : Nat) (x : RxSt) : (s.setRx i x).net = s.net := rfl
@[simp] theorem State.setRx_ts (i : Nat) (x : RxSt) : (s.setRx i x).ts = s.ts := rfl
@[simp] theorem State.setRx_ref (i : Nat) (x : RxSt) : (s.setRx i x).ref = s.ref := rfl
@[simp] theorem State.setRx_pst (i : Nat) (x : RxSt) : (s.setRx i x).pst = s.pst := rfl
@[simp] theorem State.setRx_hlt (i : Nat) (x : RxSt) : (s.setRx i x).hlt = s.hlt := rfl
@[simp] theorem State.setRx_cfg (i : Nat) (x : RxSt) : (s.setRx i x).cfg = s.cfg := rfl
@[simp] theorem State.setRx_nodeId (i : Nat) (x : RxSt) : (s.setRx i x).nodeId = s.nodeId := rfl
@[simp] theorem State.setRx_nodeNext (i : Nat) (x : RxSt) : (s.setRx i x).nodeNext = s.nodeNext := rfl
@[simp] theorem State.setRx_flt (i : Nat) (x : RxSt) : (s.setRx i x).flt = s.flt := rfl
@[simp] theorem State.setRx_ports (i : Nat) (x : RxSt) : (s.setRx i x).ports = s.ports := rfl
@[simp] theorem State.setRx_boot (i : Nat) (x : RxSt) : (s.setRx i x).boot = s.boot := rfl
@[simp] theorem State.setRx_tw (i : Nat) (x : RxSt) : (s.setRx i x).tw = s.tw := rfl
@[simp] theorem State.setRx_mon (i : Nat) (x : RxSt) : (s.setRx i x).mon = s.mon := rfl
@[simp] theorem State.setRx_jtag (i : Nat) (x : RxSt) : (s.setRx i x).jtag = s.jtag := rfl

/-! setTx -/

@[simp] theorem State.setTx_pending (i : Nat) (x : TxSt) : (s.setTx i x).pending = s.pending := rfl
@[simp] theorem State.setTx_now (i : Nat) (x : TxSt) : (s.setTx i x).now = s.now := rfl
@[simp] theorem State.setTx_freeCtr (i : Nat) (x : TxSt) : (s.setTx i x).freeCtr = s.freeCtr := rfl
@[simp] theorem State.setTx_pwr (i : Nat) (x : TxSt) : (s.setTx i x).pwr = s.pwr := rfl
@[simp] theorem State.setTx_avs (i : Nat) (x : TxSt) : (s.setTx i x).avs = s.avs := rfl
@[simp] theorem State.setTx_per (i : Nat) (x : TxSt) : (s.setTx i x).per = s.per := rfl
@[simp] theorem State.setTx_pl (i : Nat) (x : TxSt) : (s.setTx i x).pl = s.pl := rfl
@[simp] theorem State.setTx_ex (i : Nat) (x : TxSt) : (s.setTx i x).ex = s.ex := rfl
@[simp] theorem State.setTx_mtx (i : Nat) (x : TxSt) : (s.setTx i x).mtx = s.mtx := rfl
@[simp] theorem State.setTx_tiles (i : Nat) (x : TxSt) : (s.setTx i x).tiles = s.tiles := rfl
@[simp] theorem State.setTx_carrier (i : Nat) (x : TxSt) : (s.setTx i x).carrier = s.carrier := rfl
@[simp] theorem State.setTx_dm (i : Nat) (x : TxSt) : (s.setTx i x).dm = s.dm := rfl
@[simp] theorem State.setTx_sap (i : Nat) (x : TxSt) : (s.setTx i x).sap = s.sap := rfl
@[simp] theorem State.setTx_treps (i : Nat) (x : TxSt) : (s.setTx i x).treps = s.treps := rfl
@[simp] theorem State.setTx_net (i : Nat) (x : TxSt) : (s.setTx i x).net = s.net := rfl
@[simp] theorem State.setTx_ts (i : Nat) (x : TxSt) : (s.setTx i x).ts = s.ts := rfl
@[simp] theorem State.setTx_ref (i : Nat) (x : TxSt) : (s.setTx i x).ref = s.ref := rfl
@[simp] theorem State.setTx_pst (i : Nat) (x : TxSt) : (s.setTx i x).pst = s.pst := rfl
@[simp] theorem State.setTx_hlt (i : Nat) (x : TxSt) : (s.setTx i x).hlt = s.hlt := rfl
@[simp] theorem State.setTx_cfg (i : Nat) (x : TxSt) : (s.setTx i x).cfg = s.cfg := rfl
@[simp] theorem State.setTx_nodeId (i : Nat) (x : TxSt) : (s.setTx i x).nodeId = s.nodeId := rfl
@[simp] theorem State.setTx_nodeNext (i : Nat) (x : TxSt) : (s.setTx i x).nodeNext = s.nodeNext := rfl
@[simp] theorem State.setTx_flt (i : Nat) (x : TxSt) : (s.setTx i x).flt = s.flt := rfl
@[simp] theorem State.setTx_ports (i : Nat) (x : TxSt) : (s.setTx i x).ports = s.ports := rfl
@[simp] theorem State.setTx_boot (i : Nat) (x : TxSt) : (s.setTx i x).boot = s.boot := rfl
@[simp] theorem State.setTx_tw (i : Nat) (x : TxSt) : (s.setTx i x).tw = s.tw := rfl
@[simp] theorem State.setTx_mon (i : Nat) (x : TxSt) : (s.setTx i x).mon = s.mon := rfl
@[simp] theorem State.setTx_jtag (i : Nat) (x : TxSt) : (s.setTx i x).jtag = s.jtag := rfl

/-! setTw -/

@[simp] theorem State.setTw_pending (x : Tw) : (s.setTw x).pending = s.pending := rfl
@[simp] theorem State.setTw_now (x : Tw) : (s.setTw x).now = s.now := rfl
@[simp] theorem State.setTw_freeCtr (x : Tw) : (s.setTw x).freeCtr = s.freeCtr := rfl
@[simp] theorem State.setTw_pwr (x : Tw) : (s.setTw x).pwr = s.pwr := rfl
@[simp] theorem State.setTw_avs (x : Tw) : (s.setTw x).avs = s.avs := rfl
@[simp] theorem State.setTw_per (x : Tw) : (s.setTw x).per = s.per := rfl
@[simp] theorem State.setTw_pl (x : Tw) : (s.setTw x).pl = s.pl := rfl
@[simp] theorem State.setTw_ex (x : Tw) : (s.setTw x).ex = s.ex := rfl
@[simp] theorem State.setTw_mtx (x : Tw) : (s.setTw x).mtx = s.mtx := rfl
@[simp] theorem State.setTw_tiles (x : Tw) : (s.setTw x).tiles = s.tiles := rfl
@[simp] theorem State.setTw_carrier (x : Tw) : (s.setTw x).carrier = s.carrier := rfl
@[simp] theorem State.setTw_dm (x : Tw) : (s.setTw x).dm = s.dm := rfl
@[simp] theorem State.setTw_sap (x : Tw) : (s.setTw x).sap = s.sap := rfl
@[simp] theorem State.setTw_treps (x : Tw) : (s.setTw x).treps = s.treps := rfl
@[simp] theorem State.setTw_net (x : Tw) : (s.setTw x).net = s.net := rfl
@[simp] theorem State.setTw_str (x : Tw) : (s.setTw x).str = s.str := rfl
@[simp] theorem State.setTw_ts (x : Tw) : (s.setTw x).ts = s.ts := rfl
@[simp] theorem State.setTw_ref (x : Tw) : (s.setTw x).ref = s.ref := rfl
@[simp] theorem State.setTw_pst (x : Tw) : (s.setTw x).pst = s.pst := rfl
@[simp] theorem State.setTw_hlt (x : Tw) : (s.setTw x).hlt = s.hlt := rfl
@[simp] theorem State.setTw_cfg (x : Tw) : (s.setTw x).cfg = s.cfg := rfl
@[simp] theorem State.setTw_nodeId (x : Tw) : (s.setTw x).nodeId = s.nodeId := rfl
@[simp] theorem State.setTw_nodeNext (x : Tw) : (s.setTw x).nodeNext = s.nodeNext := rfl
@[simp] theorem State.setTw_flt (x : Tw) : (s.setTw x).flt = s.flt := rfl
@[simp] theorem State.setTw_ports (x : Tw) : (s.setTw x).ports = s.ports := rfl
@[simp] theorem State.setTw_boot (x : Tw) : (s.setTw x).boot = s.boot := rfl
@[simp] theorem State.setTw_mon (x : Tw) : (s.setTw x).mon = s.mon := rfl
@[simp] theorem State.setTw_jtag (x : Tw) : (s.setTw x).jtag = s.jtag := rfl

/-! configWritten -/

@[simp] theorem State.configWritten_pending : (s.configWritten).pending = s.pending := rfl
@[simp] theorem State.configWritten_now : (s.configWritten).now = s.now := rfl
@[simp] theorem State.configWritten_freeCtr : (s.configWritten).freeCtr = s.freeCtr := rfl
@[simp] theorem State.configWritten_pwr : (s.configWritten).pwr = s.pwr := rfl
@[simp] theorem State.configWritten_avs : (s.configWritten).avs = s.avs := rfl
@[simp] theorem State.configWritten_per : (s.configWritten).per = s.per := rfl
@[simp] theorem State.configWritten_pl : (s.configWritten).pl = s.pl := rfl
@[simp] theorem State.configWritten_ex : (s.configWritten).ex = s.ex := rfl
@[simp] theorem State.configWritten_mtx : (s.configWritten).mtx = s.mtx := rfl
@[simp] theorem State.configWritten_tiles : (s.configWritten).tiles = s.tiles := rfl
@[simp] theorem State.configWritten_carrier : (s.configWritten).carrier = s.carrier := rfl
@[simp] theorem State.configWritten_dm : (s.configWritten).dm = s.dm := rfl
@[simp] theorem State.configWritten_sap : (s.configWritten).sap = s.sap := rfl
@[simp] theorem State.configWritten_treps : (s.configWritten).treps = s.treps := rfl
@[simp] theorem State.configWritten_net : (s.configWritten).net = s.net := rfl
@[simp] theorem State.configWritten_str : (s.configWritten).str = s.str := rfl
@[simp] theorem State.configWritten_ts : (s.configWritten).ts = s.ts := rfl
@[simp] theorem State.configWritten_ref : (s.configWritten).ref = s.ref := rfl
@[simp] theorem State.configWritten_pst : (s.configWritten).pst = s.pst := rfl
@[simp] theorem State.configWritten_hlt : (s.configWritten).hlt = s.hlt := rfl
@[simp] theorem State.configWritten_cfg : (s.configWritten).cfg = s.cfg := rfl
@[simp] theorem State.configWritten_nodeId : (s.configWritten).nodeId = s.nodeId := rfl
@[simp] theorem State.configWritten_nodeNext : (s.configWritten).nodeNext = s.nodeNext := rfl
@[simp] theorem State.configWritten_flt : (s.configWritten).flt = s.flt := rfl
@[simp] theorem State.configWritten_ports : (s.configWritten).ports = s.ports := rfl
@[simp] theorem State.configWritten_tw : (s.configWritten).tw = s.tw := rfl
@[simp] theorem State.configWritten_mon : (s.configWritten).mon = s.mon := rfl
@[simp] theorem State.configWritten_jtag : (s.configWritten).jtag = s.jtag := rfl

/-! Accessors of parts that an update leaves alone. -/

@[simp] theorem State.at_tile (t : Nat) (j : Nat) : (s.at_ t).tile j = s.tile j := rfl
@[simp] theorem State.at_lane (t : Nat) (j : Nat) : (s.at_ t).lane j = s.lane j := rfl
@[simp] theorem State.at_tsLane (t : Nat) (j : Nat) : (s.at_ t).tsLane j = s.tsLane j := rfl
@[simp] theorem State.at_chan (t : Nat) (j : Nat) : (s.at_ t).chan j = s.chan j := rfl
@[simp] theorem State.at_railOf (t : Nat) (j : Nat) : (s.at_ t).railOf j = s.railOf j := rfl
@[simp] theorem State.at_conv (t : Nat) (j : Nat) : (s.at_ t).conv j = s.conv j := rfl
@[simp] theorem State.at_ep (t : Nat) (j : Nat) : (s.at_ t).ep j = s.ep j := rfl
@[simp] theorem State.at_quad (t : Nat) (j : Nat) : (s.at_ t).quad j = s.quad j := rfl
@[simp] theorem State.at_port (t : Nat) (p : CPort) : (s.at_ t).port p = s.port p := rfl
@[simp] theorem State.at_access (t : Nat) (blk : Block) : (s.at_ t).access blk = s.access blk := rfl
@[simp] theorem State.at_rxSt (t : Nat) (j : Nat) : (s.at_ t).rxSt j = s.rxSt j := rfl
@[simp] theorem State.at_txSt (t : Nat) (j : Nat) : (s.at_ t).txSt j = s.txSt j := rfl
@[simp] theorem State.at_domOn (t : Nat) (j : Nat) : (s.at_ t).domOn j = s.domOn j := rfl
@[simp] theorem State.at_modRec (t : Nat) (j : Nat) : (s.at_ t).modRec j = s.modRec j := rfl
@[simp] theorem State.tickAt_tile (t : Nat) (j : Nat) : (s.tickAt t).tile j = s.tile j := rfl
@[simp] theorem State.tickAt_lane (t : Nat) (j : Nat) : (s.tickAt t).lane j = s.lane j := rfl
@[simp] theorem State.tickAt_tsLane (t : Nat) (j : Nat) : (s.tickAt t).tsLane j = s.tsLane j := rfl
@[simp] theorem State.tickAt_chan (t : Nat) (j : Nat) : (s.tickAt t).chan j = s.chan j := rfl
@[simp] theorem State.tickAt_railOf (t : Nat) (j : Nat) : (s.tickAt t).railOf j = s.railOf j := rfl
@[simp] theorem State.tickAt_conv (t : Nat) (j : Nat) : (s.tickAt t).conv j = s.conv j := rfl
@[simp] theorem State.tickAt_ep (t : Nat) (j : Nat) : (s.tickAt t).ep j = s.ep j := rfl
@[simp] theorem State.tickAt_quad (t : Nat) (j : Nat) : (s.tickAt t).quad j = s.quad j := rfl
@[simp] theorem State.tickAt_port (t : Nat) (p : CPort) : (s.tickAt t).port p = s.port p := rfl
@[simp] theorem State.tickAt_access (t : Nat) (blk : Block) : (s.tickAt t).access blk = s.access blk := rfl
@[simp] theorem State.tickAt_rxSt (t : Nat) (j : Nat) : (s.tickAt t).rxSt j = s.rxSt j := rfl
@[simp] theorem State.tickAt_txSt (t : Nat) (j : Nat) : (s.tickAt t).txSt j = s.txSt j := rfl
@[simp] theorem State.tickAt_domOn (t : Nat) (j : Nat) : (s.tickAt t).domOn j = s.domOn j := rfl
@[simp] theorem State.tickAt_modRec (t : Nat) (j : Nat) : (s.tickAt t).modRec j = s.modRec j := rfl
@[simp] theorem State.setTile_lane (k : Nat) (x : Tile) (j : Nat) : (s.setTile k x).lane j = s.lane j := rfl
@[simp] theorem State.setTile_tsLane (k : Nat) (x : Tile) (j : Nat) : (s.setTile k x).tsLane j = s.tsLane j := rfl
@[simp] theorem State.setTile_chan (k : Nat) (x : Tile) (j : Nat) : (s.setTile k x).chan j = s.chan j := rfl
@[simp] theorem State.setTile_railOf (k : Nat) (x : Tile) (j : Nat) : (s.setTile k x).railOf j = s.railOf j := rfl
@[simp] theorem State.setTile_conv (k : Nat) (x : Tile) (j : Nat) : (s.setTile k x).conv j = s.conv j := rfl
@[simp] theorem State.setTile_ep (k : Nat) (x : Tile) (j : Nat) : (s.setTile k x).ep j = s.ep j := rfl
@[simp] theorem State.setTile_quad (k : Nat) (x : Tile) (j : Nat) : (s.setTile k x).quad j = s.quad j := rfl
@[simp] theorem State.setTile_port (k : Nat) (x : Tile) (p : CPort) : (s.setTile k x).port p = s.port p := rfl
@[simp] theorem State.setTile_access (k : Nat) (x : Tile) (blk : Block) : (s.setTile k x).access blk = s.access blk := rfl
@[simp] theorem State.setTile_rxSt (k : Nat) (x : Tile) (j : Nat) : (s.setTile k x).rxSt j = s.rxSt j := rfl
@[simp] theorem State.setTile_txSt (k : Nat) (x : Tile) (j : Nat) : (s.setTile k x).txSt j = s.txSt j := rfl
@[simp] theorem State.setTile_domOn (k : Nat) (x : Tile) (j : Nat) : (s.setTile k x).domOn j = s.domOn j := rfl
@[simp] theorem State.setTile_modRec (k : Nat) (x : Tile) (j : Nat) : (s.setTile k x).modRec j = s.modRec j := rfl
@[simp] theorem State.report_tile (c z e d : Nat) (j : Nat) : (s.report c z e d).tile j = s.tile j := rfl
@[simp] theorem State.report_lane (c z e d : Nat) (j : Nat) : (s.report c z e d).lane j = s.lane j := rfl
@[simp] theorem State.report_tsLane (c z e d : Nat) (j : Nat) : (s.report c z e d).tsLane j = s.tsLane j := rfl
@[simp] theorem State.report_chan (c z e d : Nat) (j : Nat) : (s.report c z e d).chan j = s.chan j := rfl
@[simp] theorem State.report_railOf (c z e d : Nat) (j : Nat) : (s.report c z e d).railOf j = s.railOf j := rfl
@[simp] theorem State.report_conv (c z e d : Nat) (j : Nat) : (s.report c z e d).conv j = s.conv j := rfl
@[simp] theorem State.report_ep (c z e d : Nat) (j : Nat) : (s.report c z e d).ep j = s.ep j := rfl
@[simp] theorem State.report_quad (c z e d : Nat) (j : Nat) : (s.report c z e d).quad j = s.quad j := rfl
@[simp] theorem State.report_port (c z e d : Nat) (p : CPort) : (s.report c z e d).port p = s.port p := rfl
@[simp] theorem State.report_access (c z e d : Nat) (blk : Block) : (s.report c z e d).access blk = s.access blk := rfl
@[simp] theorem State.report_rxSt (c z e d : Nat) (j : Nat) : (s.report c z e d).rxSt j = s.rxSt j := rfl
@[simp] theorem State.report_txSt (c z e d : Nat) (j : Nat) : (s.report c z e d).txSt j = s.txSt j := rfl
@[simp] theorem State.report_domOn (c z e d : Nat) (j : Nat) : (s.report c z e d).domOn j = s.domOn j := rfl
@[simp] theorem State.report_modRec (c z e d : Nat) (j : Nat) : (s.report c z e d).modRec j = s.modRec j := rfl
@[simp] theorem State.raise_tile (c z e d : Nat) (j : Nat) : (s.raise c z e d).tile j = s.tile j := rfl
@[simp] theorem State.raise_lane (c z e d : Nat) (j : Nat) : (s.raise c z e d).lane j = s.lane j := rfl
@[simp] theorem State.raise_tsLane (c z e d : Nat) (j : Nat) : (s.raise c z e d).tsLane j = s.tsLane j := rfl
@[simp] theorem State.raise_chan (c z e d : Nat) (j : Nat) : (s.raise c z e d).chan j = s.chan j := rfl
@[simp] theorem State.raise_railOf (c z e d : Nat) (j : Nat) : (s.raise c z e d).railOf j = s.railOf j := rfl
@[simp] theorem State.raise_conv (c z e d : Nat) (j : Nat) : (s.raise c z e d).conv j = s.conv j := rfl
@[simp] theorem State.raise_ep (c z e d : Nat) (j : Nat) : (s.raise c z e d).ep j = s.ep j := rfl
@[simp] theorem State.raise_quad (c z e d : Nat) (j : Nat) : (s.raise c z e d).quad j = s.quad j := rfl
@[simp] theorem State.raise_port (c z e d : Nat) (p : CPort) : (s.raise c z e d).port p = s.port p := rfl
@[simp] theorem State.raise_access (c z e d : Nat) (blk : Block) : (s.raise c z e d).access blk = s.access blk := rfl
@[simp] theorem State.raise_rxSt (c z e d : Nat) (j : Nat) : (s.raise c z e d).rxSt j = s.rxSt j := rfl
@[simp] theorem State.raise_txSt (c z e d : Nat) (j : Nat) : (s.raise c z e d).txSt j = s.txSt j := rfl
@[simp] theorem State.raise_domOn (c z e d : Nat) (j : Nat) : (s.raise c z e d).domOn j = s.domOn j := rfl
@[simp] theorem State.raise_modRec (c z e d : Nat) (j : Nat) : (s.raise c z e d).modRec j = s.modRec j := rfl
@[simp] theorem State.endCond_tile (c z e : Nat) (j : Nat) : (s.endCond c z e).tile j = s.tile j := rfl
@[simp] theorem State.endCond_lane (c z e : Nat) (j : Nat) : (s.endCond c z e).lane j = s.lane j := rfl
@[simp] theorem State.endCond_tsLane (c z e : Nat) (j : Nat) : (s.endCond c z e).tsLane j = s.tsLane j := rfl
@[simp] theorem State.endCond_chan (c z e : Nat) (j : Nat) : (s.endCond c z e).chan j = s.chan j := rfl
@[simp] theorem State.endCond_railOf (c z e : Nat) (j : Nat) : (s.endCond c z e).railOf j = s.railOf j := rfl
@[simp] theorem State.endCond_conv (c z e : Nat) (j : Nat) : (s.endCond c z e).conv j = s.conv j := rfl
@[simp] theorem State.endCond_ep (c z e : Nat) (j : Nat) : (s.endCond c z e).ep j = s.ep j := rfl
@[simp] theorem State.endCond_quad (c z e : Nat) (j : Nat) : (s.endCond c z e).quad j = s.quad j := rfl
@[simp] theorem State.endCond_port (c z e : Nat) (p : CPort) : (s.endCond c z e).port p = s.port p := rfl
@[simp] theorem State.endCond_access (c z e : Nat) (blk : Block) : (s.endCond c z e).access blk = s.access blk := rfl
@[simp] theorem State.endCond_rxSt (c z e : Nat) (j : Nat) : (s.endCond c z e).rxSt j = s.rxSt j := rfl
@[simp] theorem State.endCond_txSt (c z e : Nat) (j : Nat) : (s.endCond c z e).txSt j = s.txSt j := rfl
@[simp] theorem State.endCond_domOn (c z e : Nat) (j : Nat) : (s.endCond c z e).domOn j = s.domOn j := rfl
@[simp] theorem State.endCond_modRec (c z e : Nat) (j : Nat) : (s.endCond c z e).modRec j = s.modRec j := rfl
@[simp] theorem State.event_tile (v : Nat) (j : Nat) : (s.event v).tile j = s.tile j := rfl
@[simp] theorem State.event_lane (v : Nat) (j : Nat) : (s.event v).lane j = s.lane j := rfl
@[simp] theorem State.event_tsLane (v : Nat) (j : Nat) : (s.event v).tsLane j = s.tsLane j := rfl
@[simp] theorem State.event_chan (v : Nat) (j : Nat) : (s.event v).chan j = s.chan j := rfl
@[simp] theorem State.event_railOf (v : Nat) (j : Nat) : (s.event v).railOf j = s.railOf j := rfl
@[simp] theorem State.event_conv (v : Nat) (j : Nat) : (s.event v).conv j = s.conv j := rfl
@[simp] theorem State.event_ep (v : Nat) (j : Nat) : (s.event v).ep j = s.ep j := rfl
@[simp] theorem State.event_quad (v : Nat) (j : Nat) : (s.event v).quad j = s.quad j := rfl
@[simp] theorem State.event_rxSt (v : Nat) (j : Nat) : (s.event v).rxSt j = s.rxSt j := rfl
@[simp] theorem State.event_txSt (v : Nat) (j : Nat) : (s.event v).txSt j = s.txSt j := rfl
@[simp] theorem State.event_domOn (v : Nat) (j : Nat) : (s.event v).domOn j = s.domOn j := rfl
@[simp] theorem State.event_modRec (v : Nat) (j : Nat) : (s.event v).modRec j = s.modRec j := rfl
@[simp] theorem State.setPort_tile (q : CPort) (x : PortS) (j : Nat) : (s.setPort q x).tile j = s.tile j := rfl
@[simp] theorem State.setPort_lane (q : CPort) (x : PortS) (j : Nat) : (s.setPort q x).lane j = s.lane j := rfl
@[simp] theorem State.setPort_tsLane (q : CPort) (x : PortS) (j : Nat) : (s.setPort q x).tsLane j = s.tsLane j := rfl
@[simp] theorem State.setPort_chan (q : CPort) (x : PortS) (j : Nat) : (s.setPort q x).chan j = s.chan j := rfl
@[simp] theorem State.setPort_railOf (q : CPort) (x : PortS) (j : Nat) : (s.setPort q x).railOf j = s.railOf j := rfl
@[simp] theorem State.setPort_conv (q : CPort) (x : PortS) (j : Nat) : (s.setPort q x).conv j = s.conv j := rfl
@[simp] theorem State.setPort_ep (q : CPort) (x : PortS) (j : Nat) : (s.setPort q x).ep j = s.ep j := rfl
@[simp] theorem State.setPort_quad (q : CPort) (x : PortS) (j : Nat) : (s.setPort q x).quad j = s.quad j := rfl
@[simp] theorem State.setPort_rxSt (q : CPort) (x : PortS) (j : Nat) : (s.setPort q x).rxSt j = s.rxSt j := rfl
@[simp] theorem State.setPort_txSt (q : CPort) (x : PortS) (j : Nat) : (s.setPort q x).txSt j = s.txSt j := rfl
@[simp] theorem State.setPort_domOn (q : CPort) (x : PortS) (j : Nat) : (s.setPort q x).domOn j = s.domOn j := rfl
@[simp] theorem State.setPort_modRec (q : CPort) (x : PortS) (j : Nat) : (s.setPort q x).modRec j = s.modRec j := rfl
@[simp] theorem State.setAccess_tile (b : Block) (x : Access) (j : Nat) : (s.setAccess b x).tile j = s.tile j := rfl
@[simp] theorem State.setAccess_lane (b : Block) (x : Access) (j : Nat) : (s.setAccess b x).lane j = s.lane j := rfl
@[simp] theorem State.setAccess_tsLane (b : Block) (x : Access) (j : Nat) : (s.setAccess b x).tsLane j = s.tsLane j := rfl
@[simp] theorem State.setAccess_chan (b : Block) (x : Access) (j : Nat) : (s.setAccess b x).chan j = s.chan j := rfl
@[simp] theorem State.setAccess_railOf (b : Block) (x : Access) (j : Nat) : (s.setAccess b x).railOf j = s.railOf j := rfl
@[simp] theorem State.setAccess_conv (b : Block) (x : Access) (j : Nat) : (s.setAccess b x).conv j = s.conv j := rfl
@[simp] theorem State.setAccess_ep (b : Block) (x : Access) (j : Nat) : (s.setAccess b x).ep j = s.ep j := rfl
@[simp] theorem State.setAccess_quad (b : Block) (x : Access) (j : Nat) : (s.setAccess b x).quad j = s.quad j := rfl
@[simp] theorem State.setAccess_port (b : Block) (x : Access) (p : CPort) : (s.setAccess b x).port p = s.port p := by cases p <;> rfl
@[simp] theorem State.setAccess_rxSt (b : Block) (x : Access) (j : Nat) : (s.setAccess b x).rxSt j = s.rxSt j := rfl
@[simp] theorem State.setAccess_txSt (b : Block) (x : Access) (j : Nat) : (s.setAccess b x).txSt j = s.txSt j := rfl
@[simp] theorem State.setAccess_domOn (b : Block) (x : Access) (j : Nat) : (s.setAccess b x).domOn j = s.domOn j := rfl
@[simp] theorem State.setAccess_modRec (b : Block) (x : Access) (j : Nat) : (s.setAccess b x).modRec j = s.modRec j := rfl
@[simp] theorem State.hostWrite_tile (q : CPort) (a : Nat) (l : List Byte) (j : Nat) : (s.hostWrite q a l).tile j = s.tile j := rfl
@[simp] theorem State.hostWrite_lane (q : CPort) (a : Nat) (l : List Byte) (j : Nat) : (s.hostWrite q a l).lane j = s.lane j := rfl
@[simp] theorem State.hostWrite_tsLane (q : CPort) (a : Nat) (l : List Byte) (j : Nat) : (s.hostWrite q a l).tsLane j = s.tsLane j := rfl
@[simp] theorem State.hostWrite_chan (q : CPort) (a : Nat) (l : List Byte) (j : Nat) : (s.hostWrite q a l).chan j = s.chan j := rfl
@[simp] theorem State.hostWrite_railOf (q : CPort) (a : Nat) (l : List Byte) (j : Nat) : (s.hostWrite q a l).railOf j = s.railOf j := rfl
@[simp] theorem State.hostWrite_conv (q : CPort) (a : Nat) (l : List Byte) (j : Nat) : (s.hostWrite q a l).conv j = s.conv j := rfl
@[simp] theorem State.hostWrite_ep (q : CPort) (a : Nat) (l : List Byte) (j : Nat) : (s.hostWrite q a l).ep j = s.ep j := rfl
@[simp] theorem State.hostWrite_quad (q : CPort) (a : Nat) (l : List Byte) (j : Nat) : (s.hostWrite q a l).quad j = s.quad j := rfl
@[simp] theorem State.hostWrite_port (q : CPort) (a : Nat) (l : List Byte) (p : CPort) : (s.hostWrite q a l).port p = s.port p := by cases p <;> rfl
@[simp] theorem State.hostWrite_access (q : CPort) (a : Nat) (l : List Byte) (blk : Block) : (s.hostWrite q a l).access blk = s.access blk := rfl
@[simp] theorem State.hostWrite_rxSt (q : CPort) (a : Nat) (l : List Byte) (j : Nat) : (s.hostWrite q a l).rxSt j = s.rxSt j := rfl
@[simp] theorem State.hostWrite_txSt (q : CPort) (a : Nat) (l : List Byte) (j : Nat) : (s.hostWrite q a l).txSt j = s.txSt j := rfl
@[simp] theorem State.hostWrite_domOn (q : CPort) (a : Nat) (l : List Byte) (j : Nat) : (s.hostWrite q a l).domOn j = s.domOn j := rfl
@[simp] theorem State.hostWrite_modRec (q : CPort) (a : Nat) (l : List Byte) (j : Nat) : (s.hostWrite q a l).modRec j = s.modRec j := rfl
@[simp] theorem State.setLane_tile (i : Nat) (x : Lane) (j : Nat) : (s.setLane i x).tile j = s.tile j := rfl
@[simp] theorem State.setLane_tsLane (i : Nat) (x : Lane) (j : Nat) : (s.setLane i x).tsLane j = s.tsLane j := rfl
@[simp] theorem State.setLane_chan (i : Nat) (x : Lane) (j : Nat) : (s.setLane i x).chan j = s.chan j := rfl
@[simp] theorem State.setLane_railOf (i : Nat) (x : Lane) (j : Nat) : (s.setLane i x).railOf j = s.railOf j := rfl
@[simp] theorem State.setLane_conv (i : Nat) (x : Lane) (j : Nat) : (s.setLane i x).conv j = s.conv j := rfl
@[simp] theorem State.setLane_ep (i : Nat) (x : Lane) (j : Nat) : (s.setLane i x).ep j = s.ep j := rfl
@[simp] theorem State.setLane_quad (i : Nat) (x : Lane) (j : Nat) : (s.setLane i x).quad j = s.quad j := rfl
@[simp] theorem State.setLane_port (i : Nat) (x : Lane) (p : CPort) : (s.setLane i x).port p = s.port p := rfl
@[simp] theorem State.setLane_access (i : Nat) (x : Lane) (blk : Block) : (s.setLane i x).access blk = s.access blk := rfl
@[simp] theorem State.setLane_rxSt (i : Nat) (x : Lane) (j : Nat) : (s.setLane i x).rxSt j = s.rxSt j := rfl
@[simp] theorem State.setLane_txSt (i : Nat) (x : Lane) (j : Nat) : (s.setLane i x).txSt j = s.txSt j := rfl
@[simp] theorem State.setLane_domOn (i : Nat) (x : Lane) (j : Nat) : (s.setLane i x).domOn j = s.domOn j := rfl
@[simp] theorem State.setLane_modRec (i : Nat) (x : Lane) (j : Nat) : (s.setLane i x).modRec j = s.modRec j := rfl
@[simp] theorem State.setTsLane_tile (i : Nat) (x : TsLane) (j : Nat) : (s.setTsLane i x).tile j = s.tile j := rfl
@[simp] theorem State.setTsLane_lane (i : Nat) (x : TsLane) (j : Nat) : (s.setTsLane i x).lane j = s.lane j := rfl
@[simp] theorem State.setTsLane_chan (i : Nat) (x : TsLane) (j : Nat) : (s.setTsLane i x).chan j = s.chan j := rfl
@[simp] theorem State.setTsLane_railOf (i : Nat) (x : TsLane) (j : Nat) : (s.setTsLane i x).railOf j = s.railOf j := rfl
@[simp] theorem State.setTsLane_conv (i : Nat) (x : TsLane) (j : Nat) : (s.setTsLane i x).conv j = s.conv j := rfl
@[simp] theorem State.setTsLane_ep (i : Nat) (x : TsLane) (j : Nat) : (s.setTsLane i x).ep j = s.ep j := rfl
@[simp] theorem State.setTsLane_quad (i : Nat) (x : TsLane) (j : Nat) : (s.setTsLane i x).quad j = s.quad j := rfl
@[simp] theorem State.setTsLane_port (i : Nat) (x : TsLane) (p : CPort) : (s.setTsLane i x).port p = s.port p := rfl
@[simp] theorem State.setTsLane_access (i : Nat) (x : TsLane) (blk : Block) : (s.setTsLane i x).access blk = s.access blk := rfl
@[simp] theorem State.setTsLane_rxSt (i : Nat) (x : TsLane) (j : Nat) : (s.setTsLane i x).rxSt j = s.rxSt j := rfl
@[simp] theorem State.setTsLane_txSt (i : Nat) (x : TsLane) (j : Nat) : (s.setTsLane i x).txSt j = s.txSt j := rfl
@[simp] theorem State.setTsLane_domOn (i : Nat) (x : TsLane) (j : Nat) : (s.setTsLane i x).domOn j = s.domOn j := rfl
@[simp] theorem State.setTsLane_modRec (i : Nat) (x : TsLane) (j : Nat) : (s.setTsLane i x).modRec j = s.modRec j := rfl
@[simp] theorem State.setHalf_tile (k : Nat) (x : Chan) (j : Nat) : (s.setHalf k x).tile j = s.tile j := rfl
@[simp] theorem State.setHalf_lane (k : Nat) (x : Chan) (j : Nat) : (s.setHalf k x).lane j = s.lane j := rfl
@[simp] theorem State.setHalf_tsLane (k : Nat) (x : Chan) (j : Nat) : (s.setHalf k x).tsLane j = s.tsLane j := rfl
@[simp] theorem State.setHalf_railOf (k : Nat) (x : Chan) (j : Nat) : (s.setHalf k x).railOf j = s.railOf j := rfl
@[simp] theorem State.setHalf_conv (k : Nat) (x : Chan) (j : Nat) : (s.setHalf k x).conv j = s.conv j := rfl
@[simp] theorem State.setHalf_ep (k : Nat) (x : Chan) (j : Nat) : (s.setHalf k x).ep j = s.ep j := rfl
@[simp] theorem State.setHalf_quad (k : Nat) (x : Chan) (j : Nat) : (s.setHalf k x).quad j = s.quad j := rfl
@[simp] theorem State.setHalf_port (k : Nat) (x : Chan) (p : CPort) : (s.setHalf k x).port p = s.port p := rfl
@[simp] theorem State.setHalf_access (k : Nat) (x : Chan) (blk : Block) : (s.setHalf k x).access blk = s.access blk := rfl
@[simp] theorem State.setHalf_rxSt (k : Nat) (x : Chan) (j : Nat) : (s.setHalf k x).rxSt j = s.rxSt j := rfl
@[simp] theorem State.setHalf_txSt (k : Nat) (x : Chan) (j : Nat) : (s.setHalf k x).txSt j = s.txSt j := rfl
@[simp] theorem State.setHalf_domOn (k : Nat) (x : Chan) (j : Nat) : (s.setHalf k x).domOn j = s.domOn j := rfl
@[simp] theorem State.setHalf_modRec (k : Nat) (x : Chan) (j : Nat) : (s.setHalf k x).modRec j = s.modRec j := rfl
@[simp] theorem State.setRail_tile (r : Nat) (x : Rail) (j : Nat) : (s.setRail r x).tile j = s.tile j := rfl
@[simp] theorem State.setRail_lane (r : Nat) (x : Rail) (j : Nat) : (s.setRail r x).lane j = s.lane j := rfl
@[simp] theorem State.setRail_tsLane (r : Nat) (x : Rail) (j : Nat) : (s.setRail r x).tsLane j = s.tsLane j := rfl
@[simp] theorem State.setRail_chan (r : Nat) (x : Rail) (j : Nat) : (s.setRail r x).chan j = s.chan j := rfl
@[simp] theorem State.setRail_conv (r : Nat) (x : Rail) (j : Nat) : (s.setRail r x).conv j = s.conv j := rfl
@[simp] theorem State.setRail_ep (r : Nat) (x : Rail) (j : Nat) : (s.setRail r x).ep j = s.ep j := rfl
@[simp] theorem State.setRail_quad (r : Nat) (x : Rail) (j : Nat) : (s.setRail r x).quad j = s.quad j := rfl
@[simp] theorem State.setRail_port (r : Nat) (x : Rail) (p : CPort) : (s.setRail r x).port p = s.port p := rfl
@[simp] theorem State.setRail_access (r : Nat) (x : Rail) (blk : Block) : (s.setRail r x).access blk = s.access blk := rfl
@[simp] theorem State.setRail_rxSt (r : Nat) (x : Rail) (j : Nat) : (s.setRail r x).rxSt j = s.rxSt j := rfl
@[simp] theorem State.setRail_txSt (r : Nat) (x : Rail) (j : Nat) : (s.setRail r x).txSt j = s.txSt j := rfl
@[simp] theorem State.setRail_domOn (r : Nat) (x : Rail) (j : Nat) : (s.setRail r x).domOn j = s.domOn j := rfl
@[simp] theorem State.setRail_modRec (r : Nat) (x : Rail) (j : Nat) : (s.setRail r x).modRec j = s.modRec j := rfl
@[simp] theorem State.setConv_tile (i : Nat) (x : Conv) (j : Nat) : (s.setConv i x).tile j = s.tile j := rfl
@[simp] theorem State.setConv_lane (i : Nat) (x : Conv) (j : Nat) : (s.setConv i x).lane j = s.lane j := rfl
@[simp] theorem State.setConv_tsLane (i : Nat) (x : Conv) (j : Nat) : (s.setConv i x).tsLane j = s.tsLane j := rfl
@[simp] theorem State.setConv_chan (i : Nat) (x : Conv) (j : Nat) : (s.setConv i x).chan j = s.chan j := rfl
@[simp] theorem State.setConv_railOf (i : Nat) (x : Conv) (j : Nat) : (s.setConv i x).railOf j = s.railOf j := rfl
@[simp] theorem State.setConv_ep (i : Nat) (x : Conv) (j : Nat) : (s.setConv i x).ep j = s.ep j := rfl
@[simp] theorem State.setConv_quad (i : Nat) (x : Conv) (j : Nat) : (s.setConv i x).quad j = s.quad j := rfl
@[simp] theorem State.setConv_port (i : Nat) (x : Conv) (p : CPort) : (s.setConv i x).port p = s.port p := rfl
@[simp] theorem State.setConv_access (i : Nat) (x : Conv) (blk : Block) : (s.setConv i x).access blk = s.access blk := rfl
@[simp] theorem State.setConv_rxSt (i : Nat) (x : Conv) (j : Nat) : (s.setConv i x).rxSt j = s.rxSt j := rfl
@[simp] theorem State.setConv_txSt (i : Nat) (x : Conv) (j : Nat) : (s.setConv i x).txSt j = s.txSt j := rfl
@[simp] theorem State.setConv_domOn (i : Nat) (x : Conv) (j : Nat) : (s.setConv i x).domOn j = s.domOn j := rfl
@[simp] theorem State.setConv_modRec (i : Nat) (x : Conv) (j : Nat) : (s.setConv i x).modRec j = s.modRec j := rfl
@[simp] theorem State.setEp_tile (i : Nat) (x : Episode) (j : Nat) : (s.setEp i x).tile j = s.tile j := rfl
@[simp] theorem State.setEp_lane (i : Nat) (x : Episode) (j : Nat) : (s.setEp i x).lane j = s.lane j := rfl
@[simp] theorem State.setEp_tsLane (i : Nat) (x : Episode) (j : Nat) : (s.setEp i x).tsLane j = s.tsLane j := rfl
@[simp] theorem State.setEp_chan (i : Nat) (x : Episode) (j : Nat) : (s.setEp i x).chan j = s.chan j := rfl
@[simp] theorem State.setEp_railOf (i : Nat) (x : Episode) (j : Nat) : (s.setEp i x).railOf j = s.railOf j := rfl
@[simp] theorem State.setEp_conv (i : Nat) (x : Episode) (j : Nat) : (s.setEp i x).conv j = s.conv j := rfl
@[simp] theorem State.setEp_quad (i : Nat) (x : Episode) (j : Nat) : (s.setEp i x).quad j = s.quad j := rfl
@[simp] theorem State.setEp_port (i : Nat) (x : Episode) (p : CPort) : (s.setEp i x).port p = s.port p := rfl
@[simp] theorem State.setEp_access (i : Nat) (x : Episode) (blk : Block) : (s.setEp i x).access blk = s.access blk := rfl
@[simp] theorem State.setEp_rxSt (i : Nat) (x : Episode) (j : Nat) : (s.setEp i x).rxSt j = s.rxSt j := rfl
@[simp] theorem State.setEp_txSt (i : Nat) (x : Episode) (j : Nat) : (s.setEp i x).txSt j = s.txSt j := rfl
@[simp] theorem State.setEp_domOn (i : Nat) (x : Episode) (j : Nat) : (s.setEp i x).domOn j = s.domOn j := rfl
@[simp] theorem State.setEp_modRec (i : Nat) (x : Episode) (j : Nat) : (s.setEp i x).modRec j = s.modRec j := rfl
@[simp] theorem State.setQuad_tile (q : Nat) (x : Quad) (j : Nat) : (s.setQuad q x).tile j = s.tile j := rfl
@[simp] theorem State.setQuad_lane (q : Nat) (x : Quad) (j : Nat) : (s.setQuad q x).lane j = s.lane j := rfl
@[simp] theorem State.setQuad_tsLane (q : Nat) (x : Quad) (j : Nat) : (s.setQuad q x).tsLane j = s.tsLane j := rfl
@[simp] theorem State.setQuad_chan (q : Nat) (x : Quad) (j : Nat) : (s.setQuad q x).chan j = s.chan j := rfl
@[simp] theorem State.setQuad_railOf (q : Nat) (x : Quad) (j : Nat) : (s.setQuad q x).railOf j = s.railOf j := rfl
@[simp] theorem State.setQuad_conv (q : Nat) (x : Quad) (j : Nat) : (s.setQuad q x).conv j = s.conv j := rfl
@[simp] theorem State.setQuad_ep (q : Nat) (x : Quad) (j : Nat) : (s.setQuad q x).ep j = s.ep j := rfl
@[simp] theorem State.setQuad_port (q : Nat) (x : Quad) (p : CPort) : (s.setQuad q x).port p = s.port p := rfl
@[simp] theorem State.setQuad_access (q : Nat) (x : Quad) (blk : Block) : (s.setQuad q x).access blk = s.access blk := rfl
@[simp] theorem State.setQuad_rxSt (q : Nat) (x : Quad) (j : Nat) : (s.setQuad q x).rxSt j = s.rxSt j := rfl
@[simp] theorem State.setQuad_txSt (q : Nat) (x : Quad) (j : Nat) : (s.setQuad q x).txSt j = s.txSt j := rfl
@[simp] theorem State.setQuad_domOn (q : Nat) (x : Quad) (j : Nat) : (s.setQuad q x).domOn j = s.domOn j := rfl
@[simp] theorem State.setQuad_modRec (q : Nat) (x : Quad) (j : Nat) : (s.setQuad q x).modRec j = s.modRec j := rfl
@[simp] theorem State.setRx_tile (i : Nat) (x : RxSt) (j : Nat) : (s.setRx i x).tile j = s.tile j := rfl
@[simp] theorem State.setRx_lane (i : Nat) (x : RxSt) (j : Nat) : (s.setRx i x).lane j = s.lane j := rfl
@[simp] theorem State.setRx_tsLane (i : Nat) (x : RxSt) (j : Nat) : (s.setRx i x).tsLane j = s.tsLane j := rfl
@[simp] theorem State.setRx_chan (i : Nat) (x : RxSt) (j : Nat) : (s.setRx i x).chan j = s.chan j := rfl
@[simp] theorem State.setRx_railOf (i : Nat) (x : RxSt) (j : Nat) : (s.setRx i x).railOf j = s.railOf j := rfl
@[simp] theorem State.setRx_conv (i : Nat) (x : RxSt) (j : Nat) : (s.setRx i x).conv j = s.conv j := rfl
@[simp] theorem State.setRx_ep (i : Nat) (x : RxSt) (j : Nat) : (s.setRx i x).ep j = s.ep j := rfl
@[simp] theorem State.setRx_quad (i : Nat) (x : RxSt) (j : Nat) : (s.setRx i x).quad j = s.quad j := rfl
@[simp] theorem State.setRx_port (i : Nat) (x : RxSt) (p : CPort) : (s.setRx i x).port p = s.port p := rfl
@[simp] theorem State.setRx_access (i : Nat) (x : RxSt) (blk : Block) : (s.setRx i x).access blk = s.access blk := rfl
@[simp] theorem State.setRx_txSt (i : Nat) (x : RxSt) (j : Nat) : (s.setRx i x).txSt j = s.txSt j := rfl
@[simp] theorem State.setRx_domOn (i : Nat) (x : RxSt) (j : Nat) : (s.setRx i x).domOn j = s.domOn j := rfl
@[simp] theorem State.setRx_modRec (i : Nat) (x : RxSt) (j : Nat) : (s.setRx i x).modRec j = s.modRec j := rfl
@[simp] theorem State.setTx_tile (i : Nat) (x : TxSt) (j : Nat) : (s.setTx i x).tile j = s.tile j := rfl
@[simp] theorem State.setTx_lane (i : Nat) (x : TxSt) (j : Nat) : (s.setTx i x).lane j = s.lane j := rfl
@[simp] theorem State.setTx_tsLane (i : Nat) (x : TxSt) (j : Nat) : (s.setTx i x).tsLane j = s.tsLane j := rfl
@[simp] theorem State.setTx_chan (i : Nat) (x : TxSt) (j : Nat) : (s.setTx i x).chan j = s.chan j := rfl
@[simp] theorem State.setTx_railOf (i : Nat) (x : TxSt) (j : Nat) : (s.setTx i x).railOf j = s.railOf j := rfl
@[simp] theorem State.setTx_conv (i : Nat) (x : TxSt) (j : Nat) : (s.setTx i x).conv j = s.conv j := rfl
@[simp] theorem State.setTx_ep (i : Nat) (x : TxSt) (j : Nat) : (s.setTx i x).ep j = s.ep j := rfl
@[simp] theorem State.setTx_quad (i : Nat) (x : TxSt) (j : Nat) : (s.setTx i x).quad j = s.quad j := rfl
@[simp] theorem State.setTx_port (i : Nat) (x : TxSt) (p : CPort) : (s.setTx i x).port p = s.port p := rfl
@[simp] theorem State.setTx_access (i : Nat) (x : TxSt) (blk : Block) : (s.setTx i x).access blk = s.access blk := rfl
@[simp] theorem State.setTx_rxSt (i : Nat) (x : TxSt) (j : Nat) : (s.setTx i x).rxSt j = s.rxSt j := rfl
@[simp] theorem State.setTx_domOn (i : Nat) (x : TxSt) (j : Nat) : (s.setTx i x).domOn j = s.domOn j := rfl
@[simp] theorem State.setTx_modRec (i : Nat) (x : TxSt) (j : Nat) : (s.setTx i x).modRec j = s.modRec j := rfl

/-! What an accessor reads after its own update. -/

@[simp] theorem State.setPort_port_self (q : CPort) (x : PortS) : (s.setPort q x).port q = x := by cases q <;> rfl
theorem State.setPort_port_other (q p : CPort) (x : PortS) (h : p ≠ q) : (s.setPort q x).port p = s.port p := by
  cases q <;> cases p <;> first | rfl | exact absurd rfl h
theorem State.setTile_tile (k j : Nat) (x : Tile) : (s.setTile k x).tile j = if k = j ∧ k < 68 then x else s.tile j :=
  rd_wr s.tiles k j x
theorem State.setLane_lane (i j : Nat) (x : Lane) : (s.setLane i x).lane j = if i = j ∧ i < 8 then x else s.lane j :=
  rd_wr s.net.lanes i j x
theorem State.setTsLane_tsLane (i j : Nat) (x : TsLane) : (s.setTsLane i x).tsLane j = if i = j ∧ i < 8 then x else s.tsLane j :=
  rd_wr s.ts.lanes i j x
theorem State.setHalf_chan (k j : Nat) (x : Chan) : (s.setHalf k x).chan j = if k = j ∧ k < 32 then x else s.chan j :=
  rd_wr s.pst.chans k j x
theorem State.setRail_railOf (r j : Nat) (x : Rail) : (s.setRail r x).railOf j = if r = j ∧ r < 4 then x else s.railOf j :=
  rd_wr s.pst.rails r j x
theorem State.setConv_conv (i j : Nat) (x : Conv) : (s.setConv i x).conv j = if i = j ∧ i < 72 then x else s.conv j :=
  rd_wr s.pst.convs i j x
theorem State.setEp_ep (i j : Nat) (x : Episode) : (s.setEp i x).ep j = if i = j ∧ i < 16 then x else s.ep j :=
  rd_wr s.flt.eps i j x
theorem State.setSap_sap (q j : Nat) (x : SaSt) : rd (s.setSap q x).sap j = if q = j ∧ q < 8 then x else rd s.sap j :=
  rd_wr s.sap q j x

end Sys2Proof.Machine
end

