-- ==== Sys2Proof/Laws/Keeps.lean ====
section
/-!
SUPPORT. What every operation of the model keeps: the queue of waiting commands, the clock's direction, the canonical form of
the memories. `Keeps s t` says it of two states; one lemma per operation composes.
-/
namespace Sys2Proof.Machine

/-- From `s` to `t` the queue is unchanged, the clock does not go back, and memories in canonical form stay so. -/
structure Keeps (s t : State) : Prop where
  pending : t.pending = s.pending
  now : s.now ≤ t.now
  mem : s.memOk → t.memOk

theorem Keeps.refl (s : State) : Keeps s s := ⟨rfl, Nat.le_refl _, id⟩

theorem Keeps.trans {a b c : State} (h : Keeps a b) (k : Keeps b c) : Keeps a c :=
  ⟨k.pending.trans h.pending, Nat.le_trans h.now k.now, fun m => k.mem (h.mem m)⟩

/-- A state that differs from `s` in none of the fields that matter. -/
theorem Keeps.same {a s t : State} (h : Keeps a s) (hp : t.pending = s.pending) (hn : t.now = s.now) (ht : t.tiles = s.tiles)
    (hr : t.ex.readHalf = s.ex.readHalf) : Keeps a t := by
  refine h.trans ⟨hp, Nat.le_of_eq hn.symm, ?_⟩
  intro m
  unfold State.memOk State.tile Exch.wf at *
  rw [ht, hr]
  exact m

/-- A state written as an update of `s` that leaves the queue, the clock, the tiles and the read half. -/
theorem Keeps.mk_ {a s : State} {freeCtr} {pwr} {avs} {per} {pl} {ex} {mtx} {carrier} {dm} {sap} {treps} {net} {str} {ts} {ref} {pst} {hlt} {cfg} {nodeId} {nodeNext} {flt} {ports} {boot} {tw} {mon} {jtag}
    (h : Keeps a s) (hr : ex.readHalf = s.ex.readHalf) :
    Keeps a (State.mk s.pending s.now freeCtr pwr avs per pl ex mtx s.tiles carrier dm sap treps net str ts ref pst hlt cfg nodeId nodeNext flt ports boot tw mon jtag) :=
  h.same rfl rfl rfl hr

theorem Keeps.of_snd {α : Type} {a s : State} {p : α × State} {x : α} (e : p = (x, s)) (h : Keeps a p.2) : Keeps a s := by
  rw [e] at h; exact h

theorem Keeps.of_fst {α : Type} {a s : State} {p : State × α} {x : α} (e : p = (s, x)) (h : Keeps a p.1) : Keeps a s := by
  rw [e] at h; exact h

/-- The clock set to a later time. -/
theorem Keeps.at_ {a s : State} (h : Keeps a s) (t : Nat) : Keeps a (s.at_ t) :=
  h.trans ⟨rfl, Nat.le_max_left _ _, id⟩

theorem Keeps.foldl {α : Type} {a s : State} {f : State → α → State} (l : List α) (h : Keeps a s)
    (hf : ∀ s x, Keeps a s → Keeps a (f s x)) : Keeps a (l.foldl f s) := by
  induction l generalizing s with
  | nil => exact h
  | cons x l ih => exact ih (hf s x h)

theorem Keeps.turns {a s : State} {f : Nat → State → State} (n : Nat) (h : Keeps a s)
    (hf : ∀ i s, Keeps a s → Keeps a (f i s)) : Keeps a (turns n s f) := by
  unfold Machine.turns
  exact Keeps.foldl _ h (fun s x hs => hf x s hs)

/-- A tile put in place whose memories are in canonical form when those of the tile it replaces are. -/
theorem Keeps.setTile {a s : State} (h : Keeps a s) (k : Nat) (t : Tile)
    (ht : (s.tile k).memWf = true → t.memWf = true) : Keeps a (s.setTile k t) := by
  refine h.trans ⟨rfl, Nat.le_refl _, ?_⟩
  intro m
  refine ⟨m.1, ?_⟩
  intro j
  show (rd (wr s.tiles k t) j).memWf = true
  rw [rd_wr]
  split
  · exact ht (m.2 k)
  · exact m.2 j

end Sys2Proof.Machine
end

