-- ==== Sys2Proof/Laws/Memory.lean ====
section
/-!
SUPPORT. Sparse memories: what a read gives after a write, and that every operation keeps the canonical form; the same for
the memories of a tile and every operation on a tile.
-/
namespace Sys2Proof.Machine

/-! Sparse memories. -/

theorem Sparse.wfFrom_mono {w lo hi : Nat} (m : Sparse w) (h : Sparse.wfFrom hi m = true) (hl : lo ≤ hi) :
    Sparse.wfFrom lo m = true := by
  cases m with
  | nil => rfl
  | cons p r =>
    obtain ⟨k, v⟩ := p
    simp only [Sparse.wfFrom, Bool.and_eq_true, decide_eq_true_eq] at h ⊢
    exact ⟨⟨by omega, h.1.2⟩, h.2⟩

theorem Sparse.wfFrom_cons {w lo k : Nat} (v : BitVec w) (r : Sparse w) :
    Sparse.wfFrom lo ((k, v) :: r) = true ↔ (lo ≤ k ∧ v ≠ 0) ∧ Sparse.wfFrom (k + 1) r = true := by
  simp only [Sparse.wfFrom, Bool.and_eq_true, decide_eq_true_eq]

theorem Sparse.wfFrom_set {w : Nat} (m : Sparse w) (a : Nat) (v : BitVec w) :
    ∀ lo, lo ≤ a → Sparse.wfFrom lo m = true → Sparse.wfFrom lo (m.set a v) = true := by
  induction m with
  | nil =>
    intro lo hl _
    unfold Sparse.set
    split
    · rfl
    · next hv => exact (Sparse.wfFrom_cons _ _).mpr ⟨⟨hl, hv⟩, rfl⟩
  | cons p r ih =>
    obtain ⟨k, u⟩ := p
    intro lo hl h
    obtain ⟨⟨h1, h2⟩, h3⟩ := (Sparse.wfFrom_cons _ _).mp h
    unfold Sparse.set
    split
    · next hk =>
      split
      · exact Sparse.wfFrom_mono r h3 (by omega)
      · next hv => subst hk; exact (Sparse.wfFrom_cons _ _).mpr ⟨⟨hl, hv⟩, h3⟩
    · next hk =>
      split
      · next ha =>
        split
        · exact h
        · next hv =>
          exact (Sparse.wfFrom_cons _ _).mpr ⟨⟨hl, hv⟩, (Sparse.wfFrom_cons _ _).mpr ⟨⟨by omega, h2⟩, h3⟩⟩
      · next ha => exact (Sparse.wfFrom_cons _ _).mpr ⟨⟨h1, h2⟩, ih (k + 1) (by omega) h3⟩

/-- A write keeps the canonical form. -/
theorem Sparse.wf_set {w : Nat} (m : Sparse w) (a : Nat) (v : BitVec w) (h : m.wf = true) : (m.set a v).wf = true :=
  Sparse.wfFrom_set m a v 0 (Nat.zero_le _) h

/-- A list of writes keeps the canonical form. -/
theorem Sparse.wf_setAll {w : Nat} (m : Sparse w) (ws : List (Nat × BitVec w)) (h : m.wf = true) : (m.setAll ws).wf = true := by
  unfold Sparse.setAll
  induction ws generalizing m with
  | nil => exact h
  | cons p r ih => exact ih _ (Sparse.wf_set m p.1 p.2 h)

@[simp] theorem Sparse.wf_nil {w : Nat} : Sparse.wf ([] : Sparse w) = true := rfl

/-- Leaving words out keeps the canonical form. -/
theorem Sparse.wf_filter {w : Nat} (m : Sparse w) (f : Nat × BitVec w → Bool) (h : m.wf = true) :
    Sparse.wf (m.filter f : Sparse w) = true := by
  unfold Sparse.wf at *
  suffices ∀ (m : Sparse w) lo, Sparse.wfFrom lo m = true → Sparse.wfFrom lo (m.filter f : Sparse w) = true from this m 0 h
  intro m
  induction m with
  | nil => intro lo h; exact h
  | cons p r ih =>
    obtain ⟨k, v⟩ := p
    intro lo h
    have h := (Sparse.wfFrom_cons _ _).mp h
    have hr := ih (k + 1) h.2
    by_cases hf : f (k, v)
    · rw [List.filter_cons_of_pos hf]
      exact (Sparse.wfFrom_cons _ _).mpr ⟨h.1, hr⟩
    · rw [List.filter_cons_of_neg hf]
      exact Sparse.wfFrom_mono _ hr (by omega)

theorem Sparse.get_of_wfFrom {w : Nat} (m : Sparse w) :
    ∀ lo b, Sparse.wfFrom lo m = true → b < lo → m.get b = 0 := by
  induction m with
  | nil => intro lo b _ _; rfl
  | cons p r ih =>
    obtain ⟨k, v⟩ := p
    intro lo b h hb
    simp only [Sparse.wfFrom, Bool.and_eq_true, decide_eq_true_eq] at h
    unfold Sparse.get
    rw [if_neg (by omega)]
    exact ih (k + 1) b h.2 (by omega)

theorem Sparse.get_set_from {w : Nat} (m : Sparse w) (a : Nat) (v : BitVec w) (b : Nat) :
    ∀ lo, Sparse.wfFrom lo m = true → (m.set a v).get b = if b = a then v else m.get b := by
  induction m with
  | nil =>
    intro lo _
    unfold Sparse.set
    split
    · next hv => subst hv; unfold Sparse.get; split <;> rfl
    · unfold Sparse.get Sparse.get
      by_cases h : a = b
      · subst h; simp
      · rw [if_neg h, if_neg (Ne.symm h)]
  | cons p r ih =>
    obtain ⟨k, u⟩ := p
    intro lo h
    simp only [Sparse.wfFrom, Bool.and_eq_true, decide_eq_true_eq] at h
    obtain ⟨⟨h1, h2⟩, h3⟩ := h
    unfold Sparse.set
    by_cases hk : k = a
    · subst hk
      rw [if_pos rfl]
      by_cases hv : v = 0
      · subst hv
        rw [if_pos rfl]
        by_cases hb : b = k
        · subst hb; rw [if_pos rfl]; exact Sparse.get_of_wfFrom r _ _ h3 (by omega)
        · rw [if_neg hb]; conv => rhs; unfold Sparse.get
          rw [if_neg (Ne.symm hb)]
      · rw [if_neg hv]
        conv => lhs; unfold Sparse.get
        conv => rhs; unfold Sparse.get
        by_cases hb : b = k
        · subst hb; simp
        · rw [if_neg (Ne.symm hb), if_neg hb, if_neg (Ne.symm hb)]
    · rw [if_neg hk]
      by_cases ha : a < k
      · rw [if_pos ha]
        by_cases hv : v = 0
        · subst hv
          rw [if_pos rfl]
          by_cases hb : b = a
          · subst hb; rw [if_pos rfl]
            exact Sparse.get_of_wfFrom _ k b ((Sparse.wfFrom_cons _ _).mpr ⟨⟨Nat.le_refl _, h2⟩, h3⟩) (by omega)
          · rw [if_neg hb]
        · rw [if_neg hv]
          conv => lhs; unfold Sparse.get
          by_cases hb : b = a
          · subst hb; simp
          · rw [if_neg (Ne.symm hb), if_neg hb]
      · rw [if_neg ha]
        conv => lhs; unfold Sparse.get
        conv => rhs; unfold Sparse.get
        by_cases hb : k = b
        · subst hb; rw [if_pos rfl, if_neg hk, if_pos rfl]
        · rw [if_neg hb, if_neg hb]; exact ih (k + 1) h3

/-- A read after a write: the value written at the address, elsewhere what the memory held. -/
theorem Sparse.get_set {w : Nat} (m : Sparse w) (a : Nat) (v : BitVec w) (b : Nat) (h : m.wf = true) :
    (m.set a v).get b = if b = a then v else m.get b := Sparse.get_set_from m a v b 0 h

end Sys2Proof.Machine
end

