-- ==== Sys2Proof/Laws/Service.lean ====
section
/-!
SUPPORT. Command service: what a host command does that meets an idle service, and that nothing happens without work.
-/
namespace Sys2Proof.Machine

@[simp] theorem Ports.get_put_same (p : Ports) (q : CPort) (x : PortS) : (p.put q x).get q = x := by cases q <;> rfl
theorem Ports.get_put_other (p : Ports) (q r : CPort) (x : PortS) (h : q ≠ r) : (p.put q x).get r = p.get r := by
  cases q <;> cases r <;> first | rfl | exact absurd rfl h
@[simp] theorem Ports.put_put (p : Ports) (q : CPort) (x y : PortS) : (p.put q x).put q y = p.put q y := by cases q <;> rfl
@[simp] theorem State.port_setPort_same (s : State) (q : CPort) (x : PortS) : (s.setPort q x).port q = x := Ports.get_put_same _ _ _
theorem State.port_setPort_other (s : State) (q r : CPort) (x : PortS) (h : q ≠ r) : (s.setPort q x).port r = s.port r :=
  Ports.get_put_other _ _ _ _ h

/-- No command starts among commands that have started. -/
theorem startable_none (l : List Flight) (h : ∀ f ∈ l, f.settled) : ∀ n, startable n false l = [] := by
  induction l with
  | nil => intro n; rfl
  | cons f r ih =>
    intro n
    obtain ⟨h1, h2, -⟩ := h f (by simp)
    unfold startable
    simp [h1, h2, ih (fun g hg => h g (List.mem_cons_of_mem _ hg))]

/-- A new command without a fence is the one that starts after commands that have started. -/
theorem startable_last (l : List Flight) (f : Flight) (h : ∀ f ∈ l, f.settled) (hn : f.started = false)
    (hf : f.fence = false) : ∀ n, startable n false (l ++ [f]) = [f] := by
  induction l with
  | nil => intro n; simp [startable, hn, hf]
  | cons g r ih =>
    intro n
    obtain ⟨h1, h2, -⟩ := h g (by simp)
    rw [List.cons_append]
    unfold startable
    simp [h1, h2, ih (fun k hk => h k (List.mem_cons_of_mem _ hk))]

/-- No check is held among commands that wait for none. -/
theorem State.heldCheck_none (s : State) (q : CPort) (h : ∀ f ∈ (s.port q).flights, f.started = true → f.waits = false) :
    s.heldCheck q = none := by
  unfold State.heldCheck
  split
  · rfl
  · rw [List.find?_eq_none]
    intro f hf
    by_cases hs : f.started = true
    · simp [h f hf hs]
    · simp [hs]

/-- Without a row that stands at the port and without an undefined descriptor nothing is taken. -/
theorem State.canTake_none (s : State) (q : CPort) (h : (s.port q).placed = []) (hu : s.unknownDesc q = false) :
    s.canTake q = false := by
  unfold State.canTake
  simp [h, hu]

theorem State.actOf_none (s : State) (q : CPort) (h1 : startable 0 false (s.port q).flights = []) (h2 : s.heldCheck q = none)
    (h3 : s.canTake q = false) : s.actOf q = none := by
  unfold State.actOf
  simp [h1, h2, h3]

theorem State.quickOf_none (s : State) (q : CPort) (h1 : startable 0 false (s.port q).flights = []) : s.quickOf q = none := by
  unfold State.quickOf
  simp [h1]

/-- The ports of tier 2 in the order of their turns. -/
theorem Ports.turns_mem (p : Ports) (q : CPort) : q ∈ p.turns ↔ q ≠ .D := by
  unfold Ports.turns
  split <;> cases q <;> simp

theorem findSome?_only {α β : Type} [DecidableEq α] (l : List α) (f : α → Option β) (q : α) (b : β) (hq : q ∈ l) (h : f q = some b)
    (ho : ∀ p, p ≠ q → f p = none) : l.findSome? f = some b := by
  induction l with
  | nil => simp at hq
  | cons p r ih =>
    by_cases hp : p = q
    · subst hp; simp [h]
    · simp only [List.findSome?_cons, ho p hp]
      exact ih (by rcases List.mem_cons.mp hq with e | e; exact absurd e.symm hp; exact e)

/-- Without an action for any port command service stops. -/
theorem State.serveOne_none (s : State) (h : ∀ q, startable 0 false (s.port q).flights = [] ∧ s.heldCheck q = none ∧
    s.canTake q = false) : s.serveOne = none := by
  have ha : ∀ q, s.actOf q = none := fun q => s.actOf_none q (h q).1 (h q).2.1 (h q).2.2
  have hk : ∀ q, s.quickOf q = none := fun q => s.quickOf_none q (h q).1
  have h1 : s.ports.turns.findSome? s.quickOf = none := List.findSome?_eq_none_iff.mpr (fun q _ => hk q)
  have h2 : s.ports.turns.findSome? s.actOf = none := List.findSome?_eq_none_iff.mpr (fun q _ => ha q)
  unfold State.serveOne
  simp [ha, h1, h2]

/-- Command service takes a descriptor where that is the only action left. -/
theorem State.serveOne_take (s : State) (q : CPort) (hs : s.pwr.service = true)
    (h : ∀ p, startable 0 false (s.port p).flights = [] ∧ s.heldCheck p = none) (hq : s.canTake q = true)
    (ho : ∀ p, p ≠ q → s.canTake p = false) : s.serveOne = some (s.take q) := by
  have ha : ∀ p, p ≠ q → s.actOf p = none := fun p hp => s.actOf_none p (h p).1 (h p).2 (ho p hp)
  have hk : ∀ p, s.quickOf p = none := fun p => s.quickOf_none p (h p).1
  have hact : s.actOf q = some (s.take q) := by
    unfold State.actOf
    simp [(h q).1, (h q).2, hq]
  unfold State.serveOne
  rw [hs]
  simp only [Bool.not_true, Bool.false_eq_true, if_false]
  by_cases hd : q = .D
  · subst hd; rw [hact]
  · rw [ha .D (Ne.symm hd)]
    have : s.ports.turns.findSome? s.quickOf = none := by simp [List.findSome?_eq_none_iff, hk]
    rw [this]
    exact findSome?_only _ _ q _ ((Ports.turns_mem _ _).mpr hd) hact ha

/-- Command service starts a command where that is the only action left. -/
theorem State.serveOne_start (s : State) (q : CPort) (f : Flight) (hs : s.pwr.service = true)
    (hq : startable 0 false (s.port q).flights = [f])
    (ho : ∀ p, p ≠ q → startable 0 false (s.port p).flights = [] ∧ s.heldCheck p = none ∧ s.canTake p = false) :
    s.serveOne = some (s.start q f) := by
  have ha : ∀ p, p ≠ q → s.actOf p = none := fun p hp => s.actOf_none p (ho p hp).1 (ho p hp).2.1 (ho p hp).2.2
  have hk : ∀ p, p ≠ q → s.quickOf p = none := fun p hp => s.quickOf_none p (ho p hp).1
  have hact : s.actOf q = some (s.start q f) := by
    unfold State.actOf
    simp [hq]
  unfold State.serveOne
  rw [hs]
  simp only [Bool.not_true, Bool.false_eq_true, if_false]
  by_cases hd : q = .D
  · subst hd; rw [hact]
  · rw [ha .D (Ne.symm hd)]
    dsimp only
    have hm := (Ports.turns_mem s.ports q).mpr hd
    by_cases hc : timeClass f.cmd = .quick ∨ timeClass f.cmd = .boundary
    · have : s.quickOf q = some (s.start q f) := by
        unfold State.quickOf
        simp [hq, hc]
      rw [findSome?_only _ _ q _ hm this hk]
    · have : s.quickOf q = none := by
        unfold State.quickOf
        simp [hq, hc]
      have hn : s.ports.turns.findSome? s.quickOf = none := by
        rw [List.findSome?_eq_none_iff]
        intro p _
        by_cases hp : p = q
        · rw [hp]; exact this
        · exact hk p hp
      rw [hn]
      exact findSome?_only _ _ q _ hm hact ha

/-- Without a command to start and without a descriptor to take, command service does nothing. -/
theorem State.serveN_calm (n : Nat) (s : State) (h : s.portsCalm) : State.serveN n s = s := by
  have : s.serveOne = none := State.serveOne_none s (fun q =>
    ⟨startable_none _ (h q).1 0, s.heldCheck_none q (fun f hf _ => ((h q).1 f hf).2.2), s.canTake_none q (h q).2.1 (h q).2.2⟩)
  cases n with
  | zero => rfl
  | succ n => unfold State.serveN; rw [this]

theorem State.serve_calm (s : State) (h : s.portsCalm) : s.serve = s := State.serveN_calm _ s h

theorem State.portsIdle.calm {s : State} (h : s.portsIdle) : s.portsCalm := fun q => ⟨(h q).1, (h q).2.1, (h q).2.2.1⟩

theorem State.serve_idle (s : State) (h : s.portsIdle) : s.serve = s := s.serve_calm h.calm

/-- The groups and privileges that the envelope checks test are the low bits of the masks. -/
theorem cmdInfo_small {i : Instr} {c : CmdInfo} (h : cmdInfo i = some c) :
    c.opcode / 256 < 16 ∧ ∀ v, c.priv = some v → v < 8 := by
  cases i <;> simp only [cmdInfo, Option.some.injEq, reduceCtorEq] at h <;> subst h <;>
    exact ⟨by norm_num, by intro v hv; simp at hv; try omega⟩

theorem bit_and_low (g m k n : Nat) (h : bit g k = true) (hk : k < n) (hm : m = 2 ^ n - 1) : bit (g &&& m) k = true := by
  unfold bit at *
  rw [Nat.testBit_and, h, hm, Nat.testBit_two_pow_sub_one]
  simp [hk]

/-- The context of a run, from the state that the command met. -/
def State.runCtx (s : State) (c : CmdInfo) (f : Flight) : Ctx :=
  ⟨c.env.port, f.handle, c.env.flags, s.per.boundaries, s.per.boundaries, f.seq, f.groups, f.privs, f.lane⟩

/-- Signals of entries change the message record only. -/
theorem Ports.signal_eq (p : Ports) (f v : Nat) : ∃ msix msixPend, p.signal f v = { p with msix := msix, msixPend := msixPend } := by
  unfold Ports.signal
  dsimp only
  split
  · exact ⟨_, _, rfl⟩
  · exact ⟨_, _, rfl⟩

theorem State.entryIrq_eq (s : State) (q : CPort) (a b : Bool) :
    ∃ msix msixPend, s.entryIrq q a b = { s with ports := { s.ports with msix := msix, msixPend := msixPend } } := by
  have sig : ∀ (f v : Nat) (on : Bool), ∃ msix msixPend, (if on then { s with ports := s.ports.signal f v } else s) =
      { s with ports := { s.ports with msix := msix, msixPend := msixPend } } := by
    intro f v on
    cases on
    · exact ⟨_, _, rfl⟩
    · obtain ⟨m, n, h⟩ := s.ports.signal_eq f v
      exact ⟨m, n, by rw [h]; rfl⟩
  cases q
  · exact sig 0 _ _
  · exact sig 1 _ _
  · exact ⟨_, _, rfl⟩
  · exact ⟨_, _, rfl⟩

/-- The port of a command that stands in its submission queue. -/
def PortS.withPlaced (x : PortS) (l : List Instr) : PortS := { x with placed := l }

/-- The port without the descriptor that is taken. -/
def PortS.popped (x : PortS) (q : CPort) : PortS :=
  { x with placed := [], avail := x.avail - 1, sqHead := (x.sqHead + 1) % x.sqSize q }

/-- The port with a new flight. -/
def PortS.flying (x : PortS) (f : Flight) : PortS :=
  { x with flights := x.flights ++ [f], nextHandle := (f.handle + 1) % 65536, accepted := satAdd 32 x.accepted 1 }

theorem PortS.popped_withPlaced (x : PortS) (l : List Instr) (q : CPort) : (x.withPlaced l).popped q = x.popped q := by
  cases q <;> rfl

theorem State.setPort_setPort (s : State) (q : CPort) (x y : PortS) : (s.setPort q x).setPort q y = s.setPort q y := by
  cases q <;> rfl

/-- Rows that stand at a port leave its descriptors alone. -/
theorem State.nextDesc_withPlaced (s : State) (q p : CPort) (l : List Instr) :
    (s.setPort q ((s.port q).withPlaced l)).nextDesc p = s.nextDesc p := by cases q <;> cases p <;> rfl

theorem State.unknownDesc_of {s t : State} {q : CPort} (h : t.nextDesc q = s.nextDesc q) : t.unknownDesc q = s.unknownDesc q := by
  unfold State.unknownDesc; rw [h]

/-- A descriptor that is the row's fits it. -/
theorem State.descFits_of {s : State} {q : CPort} {i : Instr} {c : CmdInfo} (hi : cmdInfo i = some c)
    (hp : (s.port q).placed = [i]) (h : ∀ d, s.nextDesc q = some d →
      leNat (slice d 0 2) = c.opcode ∧ leNat (slice d 2 2) = c.env.flags.toNat ∧ leNat (slice d 4 4) = c.env.tag.toNat) :
    s.descFits q = true := by
  unfold State.descFits
  cases hd : s.nextDesc q with
  | none => simp [hp, hi]
  | some d =>
    obtain ⟨h1, h2, h3⟩ := h d hd
    simp [hp, hi, h1, h2, h3]

/-- One more descriptor has been taken. -/
def State.tookOne (s : State) : State := { s with ports := { s.ports with taken := s.ports.taken + 1 } }

@[simp] theorem State.port_tookOne (s : State) (q : CPort) : s.tookOne.port q = s.port q := by cases q <;> rfl
theorem State.tookOne_setPort (s : State) (q : CPort) (x : PortS) : (s.setPort q x).tookOne = s.tookOne.setPort q x := by
  cases q <;> rfl

/-- The descriptor of a host command at the head of a queue of a port with rings goes to acceptance. -/
theorem State.take_one (s : State) (q : CPort) (x : PortS) (i : Instr) (c : CmdInfo) (hi : cmdInfo i = some c) (hq : q ≠ .C)
    (hu : (s.setPort q (x.withPlaced [i])).unknownDesc q = false) :
    (s.setPort q (x.withPlaced [i])).take q =
      (s.setPort q (x.withPlaced [i])).acceptNew q i c (x.popped q) s.ports.pc.frames.head? := by
  cases q
  case C => exact absurd rfl hq
  all_goals
    unfold State.take
    rw [hu, State.port_setPort_same]
    simp only [PortS.withPlaced, hi]
    rfl

/-- The envelope checks pass for a command that meets an idle service. -/
theorem State.envelope_meets {s : State} {i : Instr} {c : CmdInfo} (h : s.meets i c) (u : State) (hu : u.boot = s.boot)
    (g v : Nat) (hg : g = (s.port c.env.port).groups &&& 0xFFFF) (hv : v = (s.port c.env.port).privs &&& 0xFF) :
    u.envelope c i g v = none := by
  obtain ⟨hi, hr, hs, hidle, hact, hav, hroom, hfew, hfresh, hnorm, hfl, hfe, hin, hgr, hpr, hrd⟩ := h
  obtain ⟨hop, hpv⟩ := cmdInfo_small hi
  have h1 : bit g (c.opcode / 256) = true := hg ▸ bit_and_low _ _ _ 16 hgr hop rfl
  have h2 : ∀ k, c.priv = some k → bit v k = true := fun k hk => hv ▸ bit_and_low _ 0xFF _ 8 (hpr k hk) (hpv k hk) rfl
  have h3 : ¬ c.env.flags.toNat ≥ 32 := by omega
  unfold State.envelope
  simp only [hin, h1, hu, hnorm, h3, decide_false, Bool.false_and, Bool.or_self, Bool.false_eq_true, if_false, Bool.not_true]
  cases hv : c.priv with
  | none => rfl
  | some v => simp only [h2 v hv, Bool.not_true, Bool.false_eq_true, if_false]

/-- The flight of a command as a port with rings accepts it. -/
def State.newFlight (s : State) (i : Instr) (c : CmdInfo) (x : PortS) (key : Option (Nat × Nat × Nat)) : Flight :=
  { handle := x.pick, cmd := i, tag := c.env.tag, fence := c.env.flags.getLsbD 0
    irqSuppress := c.env.flags.getLsbD 3, started := false, flash := false, acceptB := s.per.boundaries
    startB := s.per.boundaries, startT := s.now, seq := s.ports.taken, groups := x.groups &&& 0xFFFF
    privs := x.privs &&& 0xFF, lane := (key.map (·.2.1)).getD 0 }

/-- Acceptance of a command that passes the envelope checks. -/
theorem State.acceptNew_ok (s : State) (q : CPort) (i : Instr) (c : CmdInfo) (x : PortS) (key : Option (Nat × Nat × Nat)) (hq : q ≠ .C)
    (he : ∀ u : State, u.boot = s.boot → u.envelope c i (x.groups &&& 0xFFFF) (x.privs &&& 0xFF) = none) :
    s.acceptNew q i c x key = (s.tookOne.setPort q (x.flying (s.newFlight i c x key))).writeAccept q
      (acceptEntry x.pick c.env.tag c.opcode x.sqHead) := by
  have hboot : ((s.tookOne.setPort q (x.flying (s.newFlight i c x key))).writeAccept q
      (acceptEntry x.pick c.env.tag c.opcode x.sqHead)).boot = s.boot := by
    cases q
    case C => exact absurd rfl hq
    all_goals
      unfold State.writeAccept
      obtain ⟨m, n, h⟩ := State.entryIrq_eq ((s.tookOne.setPort _ (x.flying (s.newFlight i c x key))).setPort _
        ((((s.tookOne.setPort _ (x.flying (s.newFlight i c x key))).port _).writeEntry _
          (acceptEntry x.pick c.env.tag c.opcode x.sqHead)).markFull _ _)) _ true false
      exact (congrArg State.boot h).trans rfl
  have hen := he _ hboot
  have key2 : ∀ (w : State) (o : Option (Status × Nat)), o = none →
      (match o with
        | some (st, d) => w.complete q x.pick st d []
        | none => w) = w := by
    intro w o ho
    subst ho
    rfl
  cases q
  case C => exact absurd rfl hq
  all_goals exact key2 _ _ hen

/-- What a port with rings holds once the ACCEPT entry of a new flight is written. -/
def PortS.acceptedWith (x : PortS) (q : CPort) (f : Flight) (c : CmdInfo) : PortS :=
  ((x.flying f).writeEntry q (acceptEntry x.pick c.env.tag c.opcode x.sqHead)).markFull q f.startT

/-- The message record changes and nothing else. -/
def Ports.msgs (p : Ports) (m : List (Nat × Nat)) (n : Vector (BitVec 64) 2) : Ports := { p with msix := m, msixPend := n }
/-- The message record of the state changes and nothing else. -/
def State.msgs (s : State) (m : List (Nat × Nat)) (n : Vector (BitVec 64) 2) : State := { s with ports := s.ports.msgs m n }

@[simp] theorem State.port_msgs (s : State) (m : List (Nat × Nat)) (n : Vector (BitVec 64) 2) (q : CPort) :
    (s.msgs m n).port q = s.port q := by cases q <;> rfl

theorem State.msgs_setPort (s : State) (m : List (Nat × Nat)) (n : Vector (BitVec 64) 2) (q : CPort) (x : PortS) :
    (s.msgs m n).setPort q x = (s.setPort q x).msgs m n := by cases q <;> rfl

theorem State.writeAccept_eq (s : State) (q : CPort) (e : Entry) (hq : q ≠ .C) :
    ∃ m n, s.writeAccept q e = (s.setPort q (((s.port q).writeEntry q e).markFull q s.now)).msgs m n := by
  obtain ⟨m, n, h⟩ := State.entryIrq_eq (s.setPort q (((s.port q).writeEntry q e).markFull q s.now)) q true false
  refine ⟨m, n, ?_⟩
  cases q
  case C => exact absurd rfl hq
  all_goals exact h

/-- The first command of service on a descriptor alone at its port: it is taken and accepted. -/
theorem State.serve_takes {s : State} {i : Instr} {c : CmdInfo} (h : s.meets i c) :
    ∃ m n, (s.setPort c.env.port ((s.port c.env.port).withPlaced [i])).serveOne =
      some ((s.tookOne.setPort c.env.port (((s.port c.env.port).popped c.env.port).acceptedWith c.env.port
        (s.newFlight i c ((s.port c.env.port).popped c.env.port) s.ports.pc.frames.head?) c)).msgs m n) := by
  have hen := State.envelope_meets h
  obtain ⟨hi, hr, hs, hidle, hact, hav, hroom, hfew, hfresh, hnorm, hfl, hfe, hin, hgr, hpr, hrd, hdesc, -⟩ := h
  generalize hq : c.env.port = q at *
  have hunk : ∀ p, (s.setPort q ((s.port q).withPlaced [i])).unknownDesc p = false := by
    intro p
    rw [State.unknownDesc_of (State.nextDesc_withPlaced s q p [i])]
    exact (hidle p).2.2.1
  have hsettled : ∀ p, ∀ f ∈ ((s.setPort q ((s.port q).withPlaced [i])).port p).flights, f.settled := by
    intro p
    by_cases hp : q = p
    · subst hp; rw [State.port_setPort_same]; exact (hidle q).1
    · rw [State.port_setPort_other _ _ _ _ hp]; exact (hidle p).1
  have hother : ∀ p, p ≠ q → (s.setPort q ((s.port q).withPlaced [i])).canTake p = false := by
    intro p hp
    apply State.canTake_none _ _ _ (hunk p)
    rw [State.port_setPort_other _ _ _ _ (Ne.symm hp)]
    exact (hidle p).2.1
  have hthis : (s.setPort q ((s.port q).withPlaced [i])).canTake q = true := by
    have hin0 : ∀ p, ((s.setPort q ((s.port q).withPlaced [i])).port p).inFlight < 4 := by
      intro p
      unfold PortS.inFlight
      by_cases hp : q = p
      · subst hp
        rw [State.port_setPort_same]
        show (s.port q).flights.length + (s.port q).waiting.length < 4
        rw [(hidle q).2.2.2]; exact hfew q
      · rw [State.port_setPort_other _ _ _ _ hp, (hidle p).2.2.2]; exact hfew p
    have ha : (s.setPort q ((s.port q).withPlaced [i])).ports.a.inFlight < 4 := hin0 .A
    have hb : (s.setPort q ((s.port q).withPlaced [i])).ports.b.inFlight < 4 := hin0 .B
    have hq0 := hin0 q
    have hsv : (s.setPort q ((s.port q).withPlaced [i])).pwr.service = true := hs
    have hrec : (s.setPort q ((s.port q).withPlaced [i])).boot.recovery = false := hnorm
    have hx : (s.setPort q ((s.port q).withPlaced [i])).port q = (s.port q).withPlaced [i] := State.port_setPort_same _ _ _
    have hfit : (s.setPort q ((s.port q).withPlaced [i])).descFits q = true := by
      apply State.descFits_of hi
      · rw [hx]; rfl
      · rw [State.nextDesc_withPlaced]; exact hdesc
    have hfree : 1 ≤ ((s.port q).withPlaced [i]).cqFree q := by
      unfold PortS.cqFree
      rw [if_neg hr]
      show 1 ≤ (s.port q).cqSize q - (s.port q).ring.length
      omega
    unfold State.canTake
    rw [hx] at hq0 ⊢
    simp only [hsv, hrec, hfit]
    rw [show ((s.port q).withPlaced [i]).st = .active from hact, show ((s.port q).withPlaced [i]).avail = (s.port q).avail from rfl,
      show ((s.port q).withPlaced [i]).placed = [i] from rfl,
      show ((s.port q).withPlaced [i]).waiting = [] from (hidle q).2.2.2]
    cases q
    case C => exact absurd rfl hr
    all_goals
      first
      | have h1 : ((s.port CPort.A).withPlaced [i]).inFlight < 512 := by omega
        have h2 : (s.setPort CPort.A ((s.port CPort.A).withPlaced [i])).ports.a.inFlight +
          (s.setPort CPort.A ((s.port CPort.A).withPlaced [i])).ports.b.inFlight < 956 := by omega
        simp [hav, hfree, flightLimit, h1, h2]
      | have h1 : ((s.port CPort.B).withPlaced [i]).inFlight < 512 := by omega
        have h2 : (s.setPort CPort.B ((s.port CPort.B).withPlaced [i])).ports.a.inFlight +
          (s.setPort CPort.B ((s.port CPort.B).withPlaced [i])).ports.b.inFlight < 956 := by omega
        simp [hav, hfree, flightLimit, h1, h2]
      | simp [hav, hfree, hq0]
  have htake : (s.setPort q ((s.port q).withPlaced [i])).take q = (s.setPort q ((s.port q).withPlaced [i])).acceptNew q i c
      ((s.port q).popped q) s.ports.pc.frames.head? := State.take_one s q (s.port q) i c hi hr (hunk q)
  obtain ⟨m, n, hw⟩ := State.writeAccept_eq ((s.setPort q ((s.port q).withPlaced [i])).tookOne.setPort q
      (((s.port q).popped q).flying (s.newFlight i c ((s.port q).popped q) s.ports.pc.frames.head?))) q
      (acceptEntry ((s.port q).popped q).pick c.env.tag c.opcode ((s.port q).popped q).sqHead) hr
  refine ⟨m, n, ?_⟩
  have hacc := State.acceptNew_ok (s.setPort q ((s.port q).withPlaced [i])) q i c ((s.port q).popped q) s.ports.pc.frames.head? hr
    (fun u hu => hen u hu _ _ rfl rfl)
  have hnew : (s.setPort q ((s.port q).withPlaced [i])).newFlight i c ((s.port q).popped q) s.ports.pc.frames.head? =
      s.newFlight i c ((s.port q).popped q) s.ports.pc.frames.head? := by cases q <;> rfl
  have htk : (s.setPort q ((s.port q).withPlaced [i])).take q =
      (s.tookOne.setPort q (((s.port q).popped q).acceptedWith q
        (s.newFlight i c ((s.port q).popped q) s.ports.pc.frames.head?) c)).msgs m n := by
    rw [htake, hacc, hnew, hw, State.port_setPort_same, State.setPort_setPort, State.tookOne_setPort, State.setPort_setPort]
    rfl
  have hone := State.serveOne_take (s.setPort q ((s.port q).withPlaced [i])) q hs (fun p => ⟨startable_none _ (hsettled p) 0,
    State.heldCheck_none _ p (fun f hf _ => (hsettled p f hf).2.2)⟩) hthis hother
  rw [hone, htk]

/-- The port of a command that has started. -/
def PortS.started (x : PortS) (l : List Flight) : PortS := { x with flights := l }

/-- The command that was accepted alone is started: its run, and what that answered. -/
theorem State.serve_starts {u : State} {q : CPort} {x : PortS} {l : List Flight} {f : Flight} {c : CmdInfo}
    (hx : u.port q = x) (hf : x.flights = l ++ [f]) (hl : ∀ g ∈ l, g.settled)
    (hfr : ∀ g ∈ l, g.handle ≠ f.handle) (hn : f.started = false) (hfe : f.fence = false) (hs : u.pwr.service = true)
    (ho : ∀ p, p ≠ q → (∀ g ∈ (u.port p).flights, g.settled) ∧ (u.port p).placed = [] ∧ u.unknownDesc p = false)
    (hi : cmdInfo f.cmd = some c) (hre : c.env.readErr = false) :
    u.serveOne = some (State.runEnds q f.handle (runCmd ⟨q, f.handle, c.env.flags, f.acceptB, u.per.boundaries, f.seq, f.groups,
      f.privs, f.lane⟩ f.cmd (u.setPort q (x.started (l ++ [{ f with started := true, startB := u.per.boundaries, startT := u.now }]))))) := by
  have hstart : u.start q f = State.runEnds q f.handle (runCmd ⟨q, f.handle, c.env.flags, f.acceptB, u.per.boundaries, f.seq, f.groups,
      f.privs, f.lane⟩ f.cmd (u.setPort q (x.started (l ++ [{ f with started := true, startB := u.per.boundaries, startT := u.now }])))) := by
    unfold State.start
    rw [hx]
    have hm : ({ x with flights := x.flights.map (fun g =>
        if g.handle = f.handle then { g with started := true, startB := u.per.boundaries, startT := u.now } else g) } : PortS) =
        x.started (l ++ [{ f with started := true, startB := u.per.boundaries, startT := u.now }]) := by
      have hmap : l.map (fun g => if g.handle = f.handle then
          { g with started := true, startB := u.per.boundaries, startT := u.now } else g) = l := by
        rw [List.map_congr_left (g := id) (fun g hg => by rw [if_neg (hfr g hg)]; rfl), List.map_id]
      rw [hf, List.map_append, hmap]
      simp [PortS.started]
    simp only [hm, hi, hre, Bool.false_eq_true, if_false]
    rfl
  rw [State.serveOne_start u q f hs (by rw [hx, hf]; exact startable_last l f hl hn hfe 0) (fun p hp =>
    ⟨startable_none _ (ho p hp).1 0, u.heldCheck_none p (fun g hg _ => ((ho p hp).1 g hg).2.2),
      u.canTake_none p (ho p hp).2.1 (ho p hp).2.2⟩), hstart]

/-- No undefined descriptor comes to the head of a queue: what the engine holds of descriptors is as before, or port D has none
available. -/
theorem State.unknownDesc_kept {s t : State} (hs : ∀ q, s.unknownDesc q = false) (ht : t.tw = s.tw)
    (hc : t.ports.pc.descs = s.ports.pc.descs)
    (hd : (t.port .D).avail = 0 ∨ ((t.port .D).avail = (s.port .D).avail ∧ (t.port .D).sqHead = (s.port .D).sqHead)) (q : CPort) :
    t.unknownDesc q = false := by
  cases q
  case A => rfl
  case B => rfl
  case C =>
    have h : t.nextDesc .C = s.nextDesc .C := by
      show t.ports.pc.descs.head? = s.ports.pc.descs.head?
      rw [hc]
    rw [State.unknownDesc_of h]
    exact hs _
  case D =>
    rcases hd with h | ⟨h1, h2⟩
    · have : t.nextDesc .D = none := if_pos h
      unfold State.unknownDesc; rw [this]
    · have : t.nextDesc .D = s.nextDesc .D := by
        have e1 : t.ports.d.avail = s.ports.d.avail := h1
        have e2 : t.ports.d.sqHead = s.ports.d.sqHead := h2
        unfold State.nextDesc
        simp only [e1, e2, ht]
      rw [State.unknownDesc_of this]
      exact hs _

/-- Ports as the run of a command finds them, from those before it: its flight `f` has started and its ACCEPT entry stands. -/
structure Ports.running (a b : Ports) (c : CmdInfo) (f : Flight) : Prop where
  other : ∀ q, q ≠ c.env.port → b.get q = a.get q
  flights : (b.get c.env.port).flights = (a.get c.env.port).flights ++ [f]
  placed : (b.get c.env.port).placed = []
  avail : (b.get c.env.port).avail = (a.get c.env.port).avail - 1
  waiting : (b.get c.env.port).waiting = (a.get c.env.port).waiting
  st : (b.get c.env.port).st = (a.get c.env.port).st
  size : (b.get c.env.port).cqSize c.env.port = (a.get c.env.port).cqSize c.env.port
  ring : (b.get c.env.port).ring.map Entry.plain = (a.get c.env.port).ring.map Entry.plain ++
    [acceptEntry f.handle c.env.tag c.opcode (((a.get c.env.port).sqHead + 1) % (a.get c.env.port).sqSize c.env.port)]
  rest : ∃ pa pb pc pd msix msixPend, b = { a with a := pa, b := pb, c := pc, d := pd, msix := msix, msixPend := msixPend
                                                   taken := a.taken + 1 }
  tag : f.tag = c.env.tag
  groups : f.groups = (a.get c.env.port).groups &&& 0xFFFF
  privs : f.privs = (a.get c.env.port).privs &&& 0xFF
  flash : f.flash = false
  started : f.started = true
  fence : f.fence = c.env.flags.getLsbD 0
  handle : f.handle = (a.get c.env.port).pick
  seq : f.seq = a.taken

@[simp] theorem PortS.cqSize_writeEntry (x : PortS) (q : CPort) (e : Entry) (p : CPort) : (x.writeEntry q e).cqSize p = x.cqSize p := rfl
@[simp] theorem PortS.ring_writeEntry (x : PortS) (q : CPort) (e : Entry) :
    (x.writeEntry q e).ring.map Entry.plain = x.ring.map Entry.plain ++ [e.plain] := by
  simp [PortS.writeEntry, Entry.plain]

theorem Ports.get_put_msgs (a : Ports) (q : CPort) (y : PortS) (m : List (Nat × Nat)) (n : Vector (BitVec 64) 2) :
    ((a.put q y).msgs m n).get q = y ∧ (∀ p, p ≠ q → ((a.put q y).msgs m n).get p = a.get p) ∧
      ∃ pa pb pc pd, (a.put q y).msgs m n = { a with a := pa, b := pb, c := pc, d := pd, msix := m, msixPend := n } := by
  refine ⟨by cases q <;> rfl, ?_, by cases q <;> exact ⟨_, _, _, _, rfl⟩⟩
  intro p hp
  cases q <;> cases p <;> first | rfl | exact absurd rfl hp

/-- A flight that waits for a held check is a STRUCT_BOOT_WRITE. -/
theorem Flight.waits_cmd (f : Flight) (h : f.waits = true) : ∃ e addr len img, f.cmd = .structBootWrite e addr len img := by
  unfold Flight.waits at h
  rw [Bool.and_eq_true] at h
  obtain ⟨-, h⟩ := h
  split at h
  · next e addr len img he => exact ⟨e, addr, len, img, he⟩
  · exact absurd h (by simp)

/-- A port that has accepted a new flight and started it. -/
theorem PortS.accepted_started (x : PortS) (q : CPort) (f : Flight) (l : List Flight) (c : CmdInfo)
    (hf : f.handle = (x.popped q).pick) :
    let y := ((x.popped q).acceptedWith q f c).started l
    y.flights = l ∧ y.placed = [] ∧ y.avail = x.avail - 1 ∧ y.waiting = x.waiting ∧ y.st = x.st ∧ y.cqSize q = x.cqSize q ∧
      y.ring.map Entry.plain = x.ring.map Entry.plain ++
        [acceptEntry f.handle c.env.tag c.opcode ((x.sqHead + 1) % x.sqSize q)] ∧
      ((x.popped q).acceptedWith q f c).flights = x.flights ++ [f] := by
  have h := PortS.ring_writeEntry ((x.popped q).flying f) q (acceptEntry (x.popped q).pick c.env.tag c.opcode (x.popped q).sqHead)
  simp only [PortS.acceptedWith, PortS.started, PortS.markFull]
  refine ⟨trivial, rfl, rfl, rfl, rfl, by cases q <;> rfl, ?_, rfl⟩
  rw [h, hf]
  rfl

/-- What happens at one port leaves the descriptors of the others. -/
theorem State.nextDesc_other (s : State) (q p : CPort) (y : PortS) (m : List (Nat × Nat)) (n : Vector (BitVec 64) 2) (hp : p ≠ q) :
    ((s.tookOne.setPort q y).msgs m n).nextDesc p = s.nextDesc p := by
  cases q <;> cases p <;> first | exact absurd rfl hp | rfl

/-- A host command that meets an idle service is taken, accepted and started at once. -/
theorem State.hostCmd_runs {s : State} {i : Instr} {c : CmdInfo} (h : s.meets i c) :
    ∃ (P : Ports) (f : Flight) (n : Nat), s.ports.running P c f ∧ f.cmd = i ∧
      s.hostCmd i = State.serveN (n + 1) (State.runEnds c.env.port f.handle (runCmd (s.runCtx c f) i { s with ports := P })) := by
  obtain ⟨m, n, htake⟩ := State.serve_takes h
  obtain ⟨hi, hr, hs, hidle, hact, hav, hroom, hfew, hfresh, hnorm, hfl, hfe, hin, hgr, hpr, hrd, -, -⟩ := h
  generalize hq : c.env.port = q at *
  generalize hf : s.newFlight i c ((s.port q).popped q) s.ports.pc.frames.head? = f at *
  have hcmd : f.cmd = i := by rw [← hf]; rfl
  have hnew : f.started = false := by rw [← hf]; rfl
  have hfence : f.fence = false := by rw [← hf]; exact hfe
  have hpick : f.handle = s.nextHandle q := by rw [← hf]; rfl
  have hfs : (((s.port q).popped q).acceptedWith q f c).flights = (s.port q).flights ++ [f] :=
    (PortS.accepted_started (s.port q) q f [] c (by rw [← hf]; rfl)).2.2.2.2.2.2.2
  have hport : ((s.tookOne.setPort q (((s.port q).popped q).acceptedWith q f c)).msgs m n).port q =
      ((s.port q).popped q).acceptedWith q f c := by rw [State.port_msgs, State.port_setPort_same]
  have hstart := State.serve_starts (u := (s.tookOne.setPort q (((s.port q).popped q).acceptedWith q f c)).msgs m n) (q := q)
    (x := ((s.port q).popped q).acceptedWith q f c) (f := f) (c := c) hport hfs (hidle q).1
    (by rw [hpick]; exact hfresh) hnew hfence hs
    (by
      intro p hp
      have hd := s.nextDesc_other q p (((s.port q).popped q).acceptedWith q f c) m n hp
      rw [State.port_msgs, State.port_setPort_other _ _ _ _ (Ne.symm hp), State.port_tookOne, State.unknownDesc_of hd]
      exact ⟨(hidle p).1, (hidle p).2.1, (hidle p).2.2.1⟩)
    (by rw [hcmd]; exact hi) hrd
  generalize hl : (s.port q).flights ++ [{ f with started := true, startB := s.per.boundaries, startT := s.now }] = l
  have hwork : ∃ k, (s.setPort q ((s.port q).withPlaced [i])).ports.work = k + 3 := by
    have e : ((s.setPort q ((s.port q).withPlaced [i])).ports.get q).placed = [i] := by
      have : (s.setPort q ((s.port q).withPlaced [i])).ports.get q = (s.port q).withPlaced [i] := State.port_setPort_same _ _ _
      rw [this]; rfl
    refine ⟨(s.setPort q ((s.port q).withPlaced [i])).ports.work - 3, ?_⟩
    have : 3 ≤ (s.setPort q ((s.port q).withPlaced [i])).ports.work := by
      unfold Ports.work
      simp only [List.map_cons, List.map_nil, List.sum_cons, List.sum_nil]
      have e1 : ((s.setPort q ((s.port q).withPlaced [i])).ports.get q).placed.length = 1 := by rw [e]; rfl
      cases q <;> omega
    omega
  obtain ⟨k, hwork⟩ := hwork
  have htook : ∀ p, s.tookOne.ports.get p = s.ports.get p := s.port_tookOne
  refine ⟨((s.tookOne.ports.put q ((((s.port q).popped q).acceptedWith q f c).started l)).msgs m n),
    { f with started := true, startB := s.per.boundaries, startT := s.now }, k, ?_, hcmd, ?_⟩
  · obtain ⟨hg, ho, ⟨pa, pb, pc, pd, hrest⟩⟩ := Ports.get_put_msgs s.tookOne.ports q
      ((((s.port q).popped q).acceptedWith q f c).started l) m n
    obtain ⟨e1, e2, e3, e4, e5, e6, e7, -⟩ := PortS.accepted_started (s.port q) q f l c (by rw [← hf]; rfl)
    constructor
    · rw [hq]; exact fun p hp => (ho p hp).trans (htook p)
    · rw [hq, hg, e1, ← hl]; rfl
    · rw [hq, hg]; exact e2
    · rw [hq, hg]; exact e3
    · rw [hq, hg]; exact e4
    · rw [hq, hg]; exact e5
    · rw [hq, hg]; exact e6
    · rw [hq, hg]; exact e7
    · exact ⟨pa, pb, pc, pd, _, _, hrest⟩
    · rw [← hf]; rfl
    · rw [hq, ← hf]; rfl
    · rw [hq, ← hf]; rfl
    · rw [← hf]; rfl
    · rfl
    · rw [← hf]; rfl
    · rw [hq]; exact hpick
    · rw [← hf]; rfl
  · have hhost : s.hostCmd i = State.serveN (s.setPort q ((s.port q).withPlaced [i])).ports.work
        (s.setPort q ((s.port q).withPlaced [i])) := by
      unfold State.hostCmd
      rw [hi]
      show (s.setPort c.env.port { (s.port c.env.port) with placed := (s.port c.env.port).placed ++ [i] }).serve = _
      rw [hq, (hidle q).2.1]
      rfl
    rw [hhost, hwork]
    show (match (s.setPort q ((s.port q).withPlaced [i])).serveOne with
      | none => s.setPort q ((s.port q).withPlaced [i])
      | some s => State.serveN (k + 2) s) = _
    rw [htake]
    show (match State.serveOne _ with
      | none => _
      | some s => State.serveN (k + 1) s) = _
    have hb : f.acceptB = s.per.boundaries := by rw [← hf]; rfl
    have hset : ∀ y, ((s.tookOne.setPort q (((s.port q).popped q).acceptedWith q f c)).msgs m n).setPort q y =
        { s with ports := ((s.tookOne.ports.put q y).msgs m n) } := by
      intro y
      rw [State.msgs_setPort, State.setPort_setPort]; rfl
    rw [hstart, hset]
    unfold State.runCtx
    rw [hq, ← hl]
    simp only [hcmd, hb]
    rfl

/-! The COMPLETE entry of a command alone at its port. -/

theorem completeEntries_plain (f : Flight) (op : Nat) (st : Status) (d : Nat) (r : List Byte) :
    (completeEntries f op st d r).map Entry.plain = completeEntries f op st d r := by
  unfold completeEntries
  simp [Entry.plain, Function.comp_def]

theorem completeEntries_length (f : Flight) (op : Nat) (st : Status) (d : Nat) (r : List Byte) :
    (completeEntries f op st d r).length = 1 + (min r.length 436 - 16 + 27) / 28 := by
  unfold completeEntries
  simp [Nat.add_comm]

/-- What writing entries leaves of a port: only the ring and its tail move. -/
structure PortS.Wrote (x y : PortS) (q : CPort) (es : List Entry) : Prop where
  ring : y.ring.map Entry.plain = x.ring.map Entry.plain ++ es.map Entry.plain
  flights : y.flights = x.flights
  placed : y.placed = x.placed
  avail : y.avail = x.avail
  waiting : y.waiting = x.waiting
  size : y.cqSize q = x.cqSize q
  st : y.st = x.st
  head : y.sqHead = x.sqHead

theorem PortS.wrote_fold (q : CPort) (es : List Entry) : ∀ x : PortS, x.Wrote (es.foldl (fun p e => p.writeEntry q e) x) q es := by
  induction es with
  | nil => intro x; exact ⟨by simp, rfl, rfl, rfl, rfl, rfl, rfl, rfl⟩
  | cons e es ih =>
    intro x
    obtain ⟨h1, h2, h3, h4, h5, h6, h7, h8⟩ := ih (x.writeEntry q e)
    refine ⟨?_, h2, h3, h4, h5, h6, h7, h8⟩
    rw [List.foldl_cons, h1, PortS.ring_writeEntry, List.map_cons, List.append_assoc]
    rfl

/-- One group of entries that fits is written whole. -/
theorem flushGroups_one (q : CPort) (g : WGroup) (x : PortS) (h : g.entries.length ≤ x.cqFree q) :
    ∃ y, flushGroups q [g] x = (y, [g]) ∧ y.ring.map Entry.plain = x.ring.map Entry.plain ++ g.entries.map Entry.plain ∧
      y.flights = x.flights ∧ y.placed = x.placed ∧ y.avail = x.avail ∧ y.waiting = [] ∧ y.st = x.st ∧ y.cqSize q = x.cqSize q := by
  obtain ⟨h1, h2, h3, h4, -, h6, h7, -⟩ := PortS.wrote_fold q g.entries x
  unfold flushGroups
  rw [if_pos h]
  exact ⟨_, rfl, h1, h2, h3, h4, rfl, h7, h6⟩

/-- What follows the writing of an entry changes messages and masks alone. -/
theorem State.groupWritten_eq (s : State) (q : CPort) (g : WGroup) :
    ∃ P : Ports, s.groupWritten q g = { s with ports := P } ∧ ∀ p, (P.get p).ring = (s.port p).ring ∧
      (P.get p).flights = (s.port p).flights ∧ (P.get p).placed = (s.port p).placed ∧ (P.get p).avail = (s.port p).avail ∧
      (P.get p).waiting = (s.port p).waiting ∧ (P.get p).st = (s.port p).st ∧ (P.get p).cqSize p = (s.port p).cqSize p ∧
      (P.get p).sqHead = (s.port p).sqHead := by
  obtain ⟨m, n, h⟩ := State.entryIrq_eq s q false g.quiet
  unfold State.groupWritten
  rw [h]
  cases hg : g.masks with
  | none => exact ⟨_, rfl, by intro p; cases p <;> exact ⟨rfl, rfl, rfl, rfl, rfl, rfl, rfl, rfl⟩⟩
  | some v =>
    obtain ⟨r, gr, pr⟩ := v
    exact ⟨_, rfl, by intro p; cases r <;> cases p <;> exact ⟨rfl, rfl, rfl, rfl, rfl, rfl, rfl, rfl⟩⟩

/-- A port whose one COMPLETE group waits, with room for it: the group is written. -/
theorem State.flushPort_one (s : State) (q : CPort) (g : WGroup) (hw : (s.port q).waiting = [g])
    (hr : g.entries.length ≤ (s.port q).cqFree q) :
    ∃ P : Ports, s.flushPort q = { s with ports := P } ∧
      (P.get q).ring.map Entry.plain = (s.port q).ring.map Entry.plain ++ g.entries.map Entry.plain ∧
      (P.get q).flights = (s.port q).flights ∧ (P.get q).placed = (s.port q).placed ∧ (P.get q).avail = (s.port q).avail ∧
      (P.get q).waiting = [] ∧ (P.get q).st = (s.port q).st ∧ (P.get q).cqSize q = (s.port q).cqSize q ∧
      ∀ p, p ≠ q → (P.get p).flights = (s.port p).flights ∧ (P.get p).placed = (s.port p).placed ∧
        (P.get p).waiting = (s.port p).waiting := by
  obtain ⟨y, hy, h1, h2, h3, h4, h5, h6, h7⟩ := flushGroups_one q g (s.port q) hr
  have key : ∀ z : PortS, z.ring = y.ring → z.flights = y.flights → z.placed = y.placed → z.avail = y.avail →
      z.waiting = y.waiting → z.st = y.st → z.cqSize q = y.cqSize q → ∃ P : Ports, (s.setPort q z).groupWritten q g = { s with ports := P } ∧
      (P.get q).ring.map Entry.plain = (s.port q).ring.map Entry.plain ++ g.entries.map Entry.plain ∧
      (P.get q).flights = (s.port q).flights ∧ (P.get q).placed = (s.port q).placed ∧ (P.get q).avail = (s.port q).avail ∧
      (P.get q).waiting = [] ∧ (P.get q).st = (s.port q).st ∧ (P.get q).cqSize q = (s.port q).cqSize q ∧
      ∀ p, p ≠ q → (P.get p).flights = (s.port p).flights ∧ (P.get p).placed = (s.port p).placed ∧
        (P.get p).waiting = (s.port p).waiting := by
    intro z e1 e2 e3 e4 e5 e6 e7
    obtain ⟨P, hP, hp⟩ := State.groupWritten_eq (s.setPort q z) q g
    refine ⟨P, hP, ?_⟩
    obtain ⟨a1, a2, a3, a4, a5, a6, a7, -⟩ := hp q
    rw [State.port_setPort_same] at a1 a2 a3 a4 a5 a6 a7
    refine ⟨by rw [a1, e1, h1], by rw [a2, e2, h2], by rw [a3, e3, h3], by rw [a4, e4, h4], by rw [a5, e5, h5],
      by rw [a6, e6, h6], by rw [a7, e7, h7], ?_⟩
    intro p hpq
    obtain ⟨-, b2, b3, -, b5, -, -, -⟩ := hp p
    rw [State.port_setPort_other _ _ _ _ (Ne.symm hpq)] at b2 b3 b5
    exact ⟨b2, b3, b5⟩
  unfold State.flushPort
  simp only [hw, hy, h5, List.isEmpty_nil, if_true, List.foldl_cons, List.foldl_nil]
  cases hws : y.waitSince with
  | none => exact key (y.markFull q s.now) rfl rfl rfl rfl rfl rfl rfl
  | some t => exact key _ rfl rfl rfl rfl h5.symm rfl rfl

/-- A command in flight at a port with rings and room completes: its entries are written, it leaves flight, and nothing but the
ports changes. -/
theorem State.complete_at (s : State) (q : CPort) (f : Flight) (st : Status) (d : Nat) (r : List Byte) (hq : q ≠ .C)
    (hs : s.pwr.service = true) (hfl : (s.port q).flight? f.handle = some f)
    (hw : (s.port q).waiting = []) (ha : (s.port q).st = .active)
    (hr : (s.port q).ring.length + (1 + (r.length - 16 + 27) / 28) ≤ (s.port q).cqSize q) :
    ∃ P : Ports, s.complete q f.handle st d r = { s with ports := P } ∧
      (P.get q).ring.map Entry.plain = (s.port q).ring.map Entry.plain ++ completeEntries f (opcodeOf f.cmd) st d r ∧
      (P.get q).flights = (s.port q).flights.filter (fun g => g.handle != f.handle) ∧ (P.get q).placed = (s.port q).placed ∧
      (P.get q).avail = (s.port q).avail ∧ (P.get q).waiting = [] ∧
      (P.get q).st = (s.port q).st ∧ (P.get q).cqSize q = (s.port q).cqSize q ∧
      ∀ p, p ≠ q → (P.get p).flights = (s.port p).flights ∧ (P.get p).placed = (s.port p).placed ∧
        (P.get p).waiting = (s.port p).waiting := by
  have hc : s.complete q f.handle st d r = s.writeComplete q f.handle st d r := by
    unfold State.complete
    rw [if_pos hs]
  rw [hc]
  unfold State.writeComplete
  simp only [hfl]
  have key : ∀ (g : WGroup), g.entries = completeEntries f (opcodeOf f.cmd) st d r →
      ∃ P : Ports, (((s.offFlash q f.handle).setPort q
        { (s.port q) with flights := (s.port q).flights.filter (fun g => g.handle != f.handle)
                          waiting := (s.port q).waiting ++ [g] }).flushPort q) = { s with ports := P } ∧
      (P.get q).ring.map Entry.plain = (s.port q).ring.map Entry.plain ++ completeEntries f (opcodeOf f.cmd) st d r ∧
      (P.get q).flights = (s.port q).flights.filter (fun g => g.handle != f.handle) ∧ (P.get q).placed = (s.port q).placed ∧
      (P.get q).avail = (s.port q).avail ∧ (P.get q).waiting = [] ∧
      (P.get q).st = (s.port q).st ∧ (P.get q).cqSize q = (s.port q).cqSize q ∧
      ∀ p, p ≠ q → (P.get p).flights = (s.port p).flights ∧ (P.get p).placed = (s.port p).placed ∧
        (P.get p).waiting = (s.port p).waiting := by
    intro g hg
    rw [hw, List.nil_append]
    generalize hx : ({ (s.port q) with flights := (s.port q).flights.filter (fun g => g.handle != f.handle), waiting := [g] } : PortS) = x
    have hsame : ((s.offFlash q f.handle).setPort q x).port q = x := State.port_setPort_same _ _ _
    obtain ⟨P, hP, h1, h2, h3, h4, h5, h7, h8, h6⟩ := State.flushPort_one
      ((s.offFlash q f.handle).setPort q x) q g (by rw [hsame, ← hx])
      (by
        rw [hsame, ← hx, hg, completeEntries_length]
        unfold PortS.cqFree
        rw [if_neg hq]
        show _ ≤ (s.port q).cqSize q - (s.port q).ring.length
        omega)
    rw [hsame] at h1 h2 h3 h4 h7 h8
    refine ⟨P, hP, ?_, ?_, ?_, ?_, h5, ?_, ?_, ?_⟩
    · rw [h1, hg, completeEntries_plain, ← hx]
    · rw [h2, ← hx]
    · rw [h3, ← hx]
    · rw [h4, ← hx]
    · rw [h7, ← hx]
    · rw [h8, ← hx]; rfl
    · intro p hp
      obtain ⟨b1, b2, b3⟩ := h6 p hp
      rw [State.port_setPort_other _ _ _ _ (Ne.symm hp)] at b1 b2 b3
      cases p <;> exact ⟨b1, b2, b3⟩
  split
  · next he => rw [ha] at he; cases he
  · next he => rw [ha] at he; cases he
  · cases q
    case C => exact absurd rfl hq
    all_goals exact key ⟨completeEntries f (opcodeOf f.cmd) st d r, f.irqSuppress, f.masks st⟩ rfl

/-- A command last among the flights of its port completes. -/
theorem State.complete_one (s : State) (q : CPort) (f : Flight) (st : Status) (d : Nat) (r : List Byte) (hq : q ≠ .C)
    (hs : s.pwr.service = true) (l : List Flight) (hf : (s.port q).flights = l ++ [f]) (hl : ∀ g ∈ l, g.handle ≠ f.handle)
    (hw : (s.port q).waiting = []) (ha : (s.port q).st = .active)
    (hr : (s.port q).ring.length + (1 + (r.length - 16 + 27) / 28) ≤ (s.port q).cqSize q) :
    ∃ P : Ports, s.complete q f.handle st d r = { s with ports := P } ∧
      (P.get q).ring.map Entry.plain = (s.port q).ring.map Entry.plain ++ completeEntries f (opcodeOf f.cmd) st d r ∧
      (P.get q).flights = l ∧ (P.get q).placed = (s.port q).placed ∧ (P.get q).avail = (s.port q).avail ∧ (P.get q).waiting = [] ∧
      ∀ p, p ≠ q → (P.get p).flights = (s.port p).flights ∧ (P.get p).placed = (s.port p).placed ∧
        (P.get p).waiting = (s.port p).waiting := by
  have hfl : (s.port q).flight? f.handle = some f := by
    unfold PortS.flight?
    rw [hf, List.find?_append]
    have : l.find? (fun g => g.handle == f.handle) = none := by
      rw [List.find?_eq_none]
      intro g hg
      simp [hl g hg]
    rw [this]
    simp
  have hfil : (s.port q).flights.filter (fun g => g.handle != f.handle) = l := by
    rw [hf, List.filter_append]
    have : l.filter (fun g => g.handle != f.handle) = l := by
      rw [List.filter_eq_self]
      intro g hg
      simp [hl g hg]
    rw [this]
    simp
  have h := State.complete_at s q f st d r hq hs hfl hw ha hr
  rw [hfil] at h
  obtain ⟨P, h1, h2, h3, h4, h5, h6, -, -, h7⟩ := h
  exact ⟨P, h1, h2, h3, h4, h5, h6, h7⟩

/-- The answer to a command in flight that can be answered at once. -/
theorem State.complete_closed {s : State} {q : CPort} {f : Flight} (h : s.canAnswer q f) (st : Status) (d : Nat) (r : List Byte)
    (hr : r.length ≤ 400) :
    ∃ P : Ports, s.complete q f.handle st d r = { s with ports := P } ∧ s.closed { s with ports := P } q f st d r := by
  obtain ⟨P, h1, h2, h3, h4, h5, h6, -, -, h7⟩ := State.complete_at s q f st d r h.ring h.service h.flight h.none_ h.active
    (by have := h.room; omega)
  exact ⟨P, h1, h2, h3, fun p hp => (h7 p hp).1⟩

/-! Rows that leave service calm. -/

/-- What leaves service calm: flights of before and no new descriptor. -/
theorem State.portsCalm.of_ports {s t : State} (h : s.portsCalm)
    (hf : ∀ q, ∀ f ∈ (t.port q).flights, f ∈ (s.port q).flights) (hp : ∀ q, (t.port q).placed = (s.port q).placed ∨ (t.port q).placed = [])
    (ht : t.tw = s.tw) (hc : t.ports.pc.descs = s.ports.pc.descs)
    (hd : (t.port .D).avail = 0 ∨ ((t.port .D).avail = (s.port .D).avail ∧ (t.port .D).sqHead = (s.port .D).sqHead)) : t.portsCalm :=
  fun q => ⟨fun f hm => (h q).1 f (hf q f hm), (hp q).elim (fun e => e.trans (h q).2.1) id,
    State.unknownDesc_kept (fun q => (h q).2.2) ht hc hd q⟩

/-- From `x` to `y` a port kept its descriptors and gained no flight. -/
structure PortS.Fewer (x y : PortS) : Prop where
  flights : ∀ f ∈ y.flights, f ∈ x.flights
  placed : y.placed = x.placed
  avail : y.avail = x.avail
  head : y.sqHead = x.sqHead

theorem PortS.Fewer.refl (x : PortS) : x.Fewer x := ⟨fun _ h => h, rfl, rfl, rfl⟩
theorem PortS.Fewer.trans {x y z : PortS} (h : x.Fewer y) (k : y.Fewer z) : x.Fewer z :=
  ⟨fun f m => h.flights f (k.flights f m), k.placed.trans h.placed, k.avail.trans h.avail, k.head.trans h.head⟩

/-- From `s` to `t` only ports changed, and none of them gained a flight, a descriptor or a flash operation. -/
structure State.Fewer (s t : State) : Prop where
  as_ : ∃ P, t = { s with ports := P }
  ports : ∀ q, (s.port q).Fewer (t.port q)
  flash : ∀ x ∈ t.ports.flashQ, x ∈ s.ports.flashQ
  writes : t.ports.hostWrites = s.ports.hostWrites
  keys : t.ports.pc.keys = s.ports.pc.keys
  descs : t.ports.pc.descs = s.ports.pc.descs

theorem State.Fewer.refl (s : State) : s.Fewer s := ⟨⟨s.ports, rfl⟩, fun _ => PortS.Fewer.refl _, fun _ h => h, rfl, rfl, rfl⟩
theorem State.Fewer.trans {s t u : State} (h : s.Fewer t) (k : t.Fewer u) : s.Fewer u := by
  obtain ⟨⟨P, rfl⟩, h2, h3, h4, h5, h6⟩ := h
  obtain ⟨⟨Q, rfl⟩, k2, k3, k4, k5, k6⟩ := k
  exact ⟨⟨Q, rfl⟩, fun q => (h2 q).trans (k2 q), fun x m => h3 x (k3 x m), k4.trans h4, k5.trans h5, k6.trans h6⟩
theorem State.Fewer.calm {s t : State} (h : s.Fewer t) (c : s.portsCalm) : t.portsCalm :=
  c.of_ports (fun q f m => (h.ports q).flights f m) (fun q => Or.inl (h.ports q).placed)
    (by obtain ⟨P, hP⟩ := h.as_; rw [hP]) h.descs (Or.inr ⟨(h.ports .D).avail, (h.ports .D).head⟩)

theorem State.Fewer.setPort (s : State) (q : CPort) (x : PortS) (h : (s.port q).Fewer x) : s.Fewer (s.setPort q x) := by
  refine ⟨⟨_, rfl⟩, fun p => ?_, by cases q <;> exact fun _ m => m, by cases q <;> rfl, by cases q <;> rfl, by cases q <;> rfl⟩
  by_cases hp : q = p
  · subst hp; rw [State.port_setPort_same]; exact h
  · rw [State.port_setPort_other _ _ _ _ hp]; exact PortS.Fewer.refl _

theorem State.Fewer.of_ports (s : State) (P : Ports) (h : ∀ q, P.get q = s.port q) (hf : ∀ x ∈ P.flashQ, x ∈ s.ports.flashQ)
    (hw : P.hostWrites = s.ports.hostWrites) (hk : P.pc.keys = s.ports.pc.keys) (hd : P.pc.descs = s.ports.pc.descs) :
    s.Fewer { s with ports := P } :=
  ⟨⟨P, rfl⟩, fun q => by show (s.port q).Fewer (P.get q); rw [h q]; exact PortS.Fewer.refl _, hf, hw, hk, hd⟩

theorem PortC.record_keys (c : PortC) (f : Flight) (es : List Entry) :
    (c.record f es).keys = c.keys ∧ (c.record f es).descs = c.descs := by
  unfold PortC.record; exact ⟨rfl, rfl⟩

theorem State.pc_fewer (s : State) (x : PortC) (h : x.keys = s.ports.pc.keys ∧ x.descs = s.ports.pc.descs) :
    s.Fewer { s with ports := { s.ports with pc := x } } :=
  State.Fewer.of_ports s _ (fun p => by cases p <;> rfl) (fun _ m => m) rfl h.1 h.2

theorem PortS.Fewer.writeEntry (x : PortS) (q : CPort) (es : List Entry) : x.Fewer (es.foldl (fun p e => p.writeEntry q e) x) := by
  obtain ⟨-, h2, h3, h4, -, -, -, h5⟩ := PortS.wrote_fold q es x
  exact ⟨by rw [h2]; exact fun _ h => h, h3, h4, h5⟩

theorem flushGroups_fewer (q : CPort) (gs : List WGroup) : ∀ x : PortS, x.Fewer (flushGroups q gs x).1 := by
  induction gs with
  | nil => intro x; exact ⟨fun _ h => h, rfl, rfl, rfl⟩
  | cons g r ih =>
    intro x
    unfold flushGroups
    split
    · have h1 := PortS.Fewer.writeEntry x q g.entries
      generalize g.entries.foldl (fun p e => p.writeEntry q e) x = y at *
      have h2 := ih { y with completed := upd y.completed ((g.entries.head?.map (·.status)).getD 0) (fun n => satAdd 32 n 1) }
      exact ⟨fun f m => h1.flights f (h2.flights f m), h2.placed.trans h1.placed, h2.avail.trans h1.avail, h2.head.trans h1.head⟩
    · exact ⟨fun _ h => h, rfl, rfl, rfl⟩

theorem State.groupWritten_fewer (s : State) (q : CPort) (g : WGroup) : s.Fewer (s.groupWritten q g) := by
  obtain ⟨P, hP, h⟩ := State.groupWritten_eq s q g
  have hrest : (s.groupWritten q g).ports.flashQ = s.ports.flashQ ∧ (s.groupWritten q g).ports.hostWrites = s.ports.hostWrites ∧
      (s.groupWritten q g).ports.pc = s.ports.pc := by
    obtain ⟨m, n, hi⟩ := State.entryIrq_eq s q false g.quiet
    unfold State.groupWritten
    rw [hi]
    cases hg : g.masks with
    | none => exact ⟨rfl, rfl, rfl⟩
    | some v =>
      obtain ⟨r, gr, pr⟩ := v
      cases r <;> exact ⟨rfl, rfl, rfl⟩
  rw [hP] at hrest ⊢
  exact ⟨⟨P, rfl⟩, fun p => ⟨by show ∀ f ∈ (P.get p).flights, _; rw [(h p).2.1]; exact fun _ h => h, (h p).2.2.1,
    (h p).2.2.2.1, (h p).2.2.2.2.2.2.2⟩, by rw [hrest.1]; exact fun _ m => m, hrest.2.1, by rw [hrest.2.2], by rw [hrest.2.2]⟩

theorem State.flushPort_fewer (s : State) (q : CPort) : s.Fewer (s.flushPort q) := by
  have hfold : ∀ (l : List WGroup) (u : State), s.Fewer u → s.Fewer (l.foldl (fun s g => s.groupWritten q g) u) := by
    intro l
    induction l with
    | nil => intro u h; exact h
    | cons g r ih => intro u h; exact ih _ (h.trans (State.groupWritten_fewer u q g))
  unfold State.flushPort
  dsimp only
  have h1 := flushGroups_fewer q (s.port q).waiting (s.port q)
  generalize hr : flushGroups q (s.port q).waiting (s.port q) = r at *
  clear hr
  obtain ⟨y, done⟩ := r
  apply hfold
  apply State.Fewer.setPort
  refine h1.trans ?_
  dsimp only
  split
  · split
    · exact ⟨fun _ h => h, rfl, rfl, rfl⟩
    · exact ⟨fun _ h => h, rfl, rfl, rfl⟩
  · split
    · exact ⟨fun _ h => h, rfl, rfl, rfl⟩
    · exact ⟨fun _ h => h, rfl, rfl, rfl⟩

/-- The entries of a finished command go out: no flight and no descriptor comes in. -/
theorem State.putGroup_fewer (s : State) (q : CPort) (p : PortS) (f : Flight) (st : Status) (es : List Entry)
    (h : (s.port q).Fewer p) : s.Fewer (s.putGroup q p f st es) := by
  cases q
  case C =>
    unfold State.putGroup
    dsimp only
    have h1 := State.Fewer.setPort s .C { p with completed := upd p.completed st.code (fun n => satAdd 32 n 1) }
      ⟨h.flights, h.placed, h.avail, h.head⟩
    generalize s.setPort .C { p with completed := upd p.completed st.code (fun n => satAdd 32 n 1) } = u at *
    have h2 := State.pc_fewer u { u.ports.pc with held := u.ports.pc.held ++ es.map (fun e => { e with index := u.ports.pc.taking }) } ⟨rfl, rfl⟩
    have h3 := State.groupWritten_fewer (u.holdReply es) .C ⟨es, f.irqSuppress, f.masks st⟩
    have h4 := State.pc_fewer ((u.holdReply es).groupWritten .C ⟨es, f.irqSuppress, f.masks st⟩)
      (((u.holdReply es).groupWritten .C ⟨es, f.irqSuppress, f.masks st⟩).ports.pc.record f es) (PortC.record_keys _ _ _)
    exact h1.trans (h2.trans (h3.trans h4))
  all_goals exact (State.Fewer.setPort s _ { p with waiting := p.waiting ++ [⟨es, f.irqSuppress, f.masks st⟩] }
    ⟨h.flights, h.placed, h.avail, h.head⟩).trans (State.flushPort_fewer _ _)

/-- The answer to a command changes ports alone, and adds no flight and no descriptor. -/
theorem State.complete_fewer (s : State) (q : CPort) (h : Nat) (st : Status) (d : Nat) (r : List Byte) :
    s.Fewer (s.complete q h st d r) := by
  have hw : s.Fewer (s.writeComplete q h st d r) := by
    unfold State.writeComplete
    dsimp only
    split
    · exact State.Fewer.refl s
    · next f _ =>
      have hoff : s.Fewer (s.offFlash q h) := State.Fewer.of_ports s _ (fun p => by cases p <;> rfl)
        (fun _ m => List.mem_of_mem_filter m) rfl rfl rfl
      have hport : (s.offFlash q h).port q = s.port q := by cases q <;> rfl
      have hset : ∀ x : PortS, (s.port q).Fewer x → s.Fewer ((s.offFlash q h).setPort q x) := by
        intro x hx
        exact hoff.trans (State.Fewer.setPort _ q x (by rw [hport]; exact hx))
      have hfil : ∀ f ∈ (s.port q).flights.filter (fun g => g.handle != h), f ∈ (s.port q).flights := fun f hm =>
        List.mem_of_mem_filter hm
      split
      · exact hset _ ⟨hfil, rfl, rfl, rfl⟩
      · apply hset
        unfold PortS.drained
        split <;> exact ⟨hfil, rfl, rfl, rfl⟩
      · exact hoff.trans (State.putGroup_fewer _ _ _ _ _ _ (by rw [hport]; exact ⟨hfil, rfl, rfl, rfl⟩))
  unfold State.complete
  split
  · exact hw
  · split
    · exact State.Fewer.refl s
    · exact State.Fewer.of_ports s _ (fun p => by cases p <;> rfl) (fun _ m => m) rfl rfl rfl

/-! Host commands. -/

/-- Ports alike in what command service works on: states, rings, descriptors and flights. -/
structure PortS.Same (x y : PortS) : Prop where
  st : y.st = x.st
  flights : y.flights = x.flights
  placed : y.placed = x.placed
  avail : y.avail = x.avail
  waiting : y.waiting = x.waiting
  ring : y.ring = x.ring
  size : ∀ q, y.cqSize q = x.cqSize q
  head : y.sqHead = x.sqHead

theorem PortS.Same.refl (x : PortS) : x.Same x := ⟨rfl, rfl, rfl, rfl, rfl, rfl, fun _ => rfl, rfl⟩

/-- Ports alike in what command service works on, with the descriptors of port C. -/
def Ports.Same (P Q : Ports) : Prop := (∀ q, (P.get q).Same (Q.get q)) ∧ Q.pc.descs = P.pc.descs

theorem Ports.Same.refl (P : Ports) : P.Same P := ⟨fun _ => PortS.Same.refl _, rfl⟩

/-- The run of a command and its answer bring no undefined descriptor to the head of a queue. -/
theorem Ports.running.known {s t : State} {i : Instr} {c : CmdInfo} {P Q : Ports} {f : Flight} (h : s.meets i c)
    (hP : s.ports.running P c f) (hQ : P.Same Q) (ht : t.tw = s.tw) (hd : t.ports.pc.descs = Q.pc.descs)
    (ha : (t.port .D).avail = (Q.get .D).avail) (hh : (t.port .D).sqHead = (Q.get .D).sqHead) (q : CPort) : t.unknownDesc q = false := by
  apply State.unknownDesc_kept (fun q => (h.idle q).2.2.1) ht
  · rw [hd, hQ.2]
    obtain ⟨pa, pb, pc, pd, m, n, e⟩ := hP.rest
    rw [e]
  · rw [ha, hh, (hQ.1 .D).avail, (hQ.1 .D).head]
    by_cases hp : CPort.D = c.env.port
    · left
      have := hP.avail
      rw [← hp] at this
      rw [this]
      have h1 := h.last hp.symm
      show (s.port .D).avail - 1 = 0
      omega
    · right
      rw [hP.other _ hp]
      exact ⟨rfl, rfl⟩

/-- What a host command does that meets an idle service and whose run completes at once: its effect, and its answer. `g` is
what the run does to the ports. -/
theorem State.hostCmd_does {s : State} {i : Instr} {c : CmdInfo} (h : s.meets i c) (st : Status) (d : Nat) (res : List Byte)
    (u : State) (g : Ports → Ports) (hlen : res.length ≤ 400) (hu : u.pwr.service = true) (htw : u.tw = s.tw)
    (hg : ∀ P : Ports, P.Same (g P))
    (hgw : ∀ P : Ports, P.hostWrites = s.ports.hostWrites → P.pc.keys = s.ports.pc.keys →
      (g P).hostWrites = u.ports.hostWrites ∧ (g P).pc.keys = u.ports.pc.keys)
    (hrun : ∀ (P : Ports) (f : Flight), s.ports.running P c f → f.cmd = i →
      runCmd (s.runCtx c f) i { s with ports := P } = (.done st d res, { u with ports := g P })) :
    ∃ t, s.hostCmd i = t ∧ s.answered t c st d res ∧ t.as u := by
  obtain ⟨P, f, k, hP, hcmd, he⟩ := State.hostCmd_runs h
  have hi := h.info
  have hidle := h.idle
  rw [hrun P f hP hcmd] at he
  have hop : opcodeOf f.cmd = c.opcode := by unfold opcodeOf; rw [hcmd, hi]; rfl
  have hringlen : (P.get c.env.port).ring.length = (s.port c.env.port).ring.length + 1 := by
    have := congrArg List.length hP.ring
    rw [List.length_append, List.length_map, List.length_map] at this
    exact this
  have hfew := State.complete_fewer { u with ports := g P } c.env.port f.handle st d res
  obtain ⟨Q, hQ, h1, h2, h3, h4, h5, h6⟩ := State.complete_one { u with ports := g P } c.env.port f st d res h.ring hu
    (s.port c.env.port).flights (((hg P).1 _).flights.trans hP.flights) (by rw [hP.handle]; exact h.fresh)
    (((hg P).1 _).waiting.trans (hP.waiting.trans (hidle c.env.port).2.2.2)) (((hg P).1 _).st.trans (hP.st.trans h.active))
    (by
      show ((g P).get c.env.port).ring.length + _ ≤ ((g P).get c.env.port).cqSize c.env.port
      rw [((hg P).1 _).ring, ((hg P).1 _).size, hringlen, hP.size]
      have : (s.port c.env.port).ring.length + 16 ≤ (s.ports.get c.env.port).cqSize c.env.port := h.room
      omega)
  have hplaced : ∀ p, (P.get p).placed = [] := by
    intro p
    by_cases hp : p = c.env.port
    · subst hp; exact hP.placed
    · rw [hP.other p hp]; exact (hidle p).2.1
  have hflights : ∀ p, (Q.get p).flights = (s.port p).flights := by
    intro p
    by_cases hp : p = c.env.port
    · subst hp; exact h2
    · rw [(h6 p hp).1]
      show ((g P).get p).flights = _
      rw [((hg P).1 p).flights, hP.other p hp]; rfl
  rw [hQ] at hfew
  have hknown : ∀ p, State.unknownDesc { u with ports := Q } p = false :=
    Ports.running.known h hP (hg P) htw hfew.descs (hfew.ports .D).avail (hfew.ports .D).head
  have hcalm : ({ u with ports := Q } : State).portsCalm := by
    intro p
    refine ⟨by show ∀ g ∈ (Q.get p).flights, _; rw [hflights p]; exact (hidle p).1, ?_, hknown p⟩
    show (Q.get p).placed = []
    by_cases hp : p = c.env.port
    · subst hp; rw [h3]; exact ((hg P).1 _).placed.trans (hplaced _)
    · rw [(h6 p hp).2.1]; exact ((hg P).1 p).placed.trans (hplaced p)
  have hkept : P.hostWrites = s.ports.hostWrites ∧ P.pc.keys = s.ports.pc.keys := by
    obtain ⟨pa, pb, pc, pd, m, n, e⟩ := hP.rest
    rw [e]; exact ⟨rfl, rfl⟩
  obtain ⟨hw, hk⟩ := hgw P hkept.1 hkept.2
  refine ⟨{ u with ports := Q }, ?_, ⟨⟨f, hP.tag, hP.handle, ?_⟩, ?_, hflights⟩, rfl, hfew.writes.trans hw, hfew.keys.trans hk⟩
  · rw [he]
    show State.serveN (k + 1) (State.complete { u with ports := g P } c.env.port f.handle st d res) = _
    rw [hQ]
    exact State.serveN_calm _ _ hcalm
  · show (Q.get c.env.port).ring.map Entry.plain = _
    rw [h1, hop]
    show ((g P).get c.env.port).ring.map Entry.plain ++ _ = _
    rw [((hg P).1 _).ring, hP.ring, List.append_assoc, hP.handle]
    rfl
  · show (Q.get c.env.port).avail = _
    rw [h4]
    exact ((hg P).1 _).avail.trans hP.avail

/-- A host command whose run completes at once and leaves the ports alone. -/
theorem State.hostCmd_done {s : State} {i : Instr} {c : CmdInfo} (h : s.meets i c) (hex : exec i s = .next (s.hostCmd i))
    (st : Status) (d : Nat) (res : List Byte) (u : State) (hlen : res.length ≤ 400) (hu : u.pwr.service = true)
    (hw : u.ports = s.ports) (htw : u.tw = s.tw)
    (hrun : ∀ (P : Ports) (f : Flight), s.ports.running P c f → f.cmd = i →
      runCmd (s.runCtx c f) i { s with ports := P } = (.done st d res, { u with ports := P })) : s.answers i c st d res u := by
  obtain ⟨t, h1, h2, h3⟩ := State.hostCmd_does h st d res u id hlen hu htw (fun _ => Ports.Same.refl _)
    (fun P a b => by rw [hw]; exact ⟨a, b⟩) hrun
  exact ⟨t, by rw [hex, h1], h2, h3⟩

/-- The flights that the run of a command finds give command service nothing to do, its own waiting for no check. -/
theorem Ports.running.settled {s : State} {i : Instr} {c : CmdInfo} {P : Ports} {f : Flight} (h : s.meets i c)
    (hP : s.ports.running P c f) (hw : f.waits = false) (p : CPort) : ∀ g ∈ (P.get p).flights, g.settled := by
  by_cases hpq : p = c.env.port
  · subst hpq
    rw [hP.flights]
    intro g hg
    rcases List.mem_append.mp hg with hg | hg
    · exact (h.idle _).1 g hg
    · rw [List.mem_singleton.mp hg]; exact ⟨hP.started, by rw [hP.fence]; exact h.fence, hw⟩
  · rw [hP.other p hpq]; exact (h.idle p).1

/-- Service stops where a command has been accepted and stays in flight. -/
theorem State.serveN_running {s u : State} {i : Instr} {c : CmdInfo} {P Q : Ports} {f : Flight} (h : s.meets i c)
    (hP : s.ports.running P c f) (ht : u.tw = s.tw) (hf : ∀ q, ∀ g ∈ (Q.get q).flights, g.settled)
    (hp : ∀ q, (Q.get q).placed = (P.get q).placed) (hc : Q.pc.descs = P.pc.descs)
    (ha : (Q.get .D).avail = (P.get .D).avail) (hh : (Q.get .D).sqHead = (P.get .D).sqHead)
    (n : Nat) : State.serveN n { u with ports := Q } = { u with ports := Q } := by
  apply State.serveN_calm
  intro p
  refine ⟨hf p, ?_, Ports.running.known (t := { u with ports := Q }) h hP (Ports.Same.refl P) ht hc ha hh p⟩
  show (Q.get p).placed = []
  rw [hp p]
  by_cases hpq : p = c.env.port
  · subst hpq; exact hP.placed
  · rw [hP.other p hpq]; exact (h.idle p).2.1

/-- What a host command does that meets an idle service and whose run stays in flight: its effect, and its ACCEPT entry. -/
theorem State.hostCmd_later {s : State} {i : Instr} {c : CmdInfo} (h : s.meets i c) (u : Flight → State)
    (htw : ∀ f, (u f).tw = s.tw) (hno : ∀ e addr len img, i ≠ .structBootWrite e addr len img)
    (hrun : ∀ (P : Ports) (f : Flight), s.ports.running P c f → f.cmd = i →
      runCmd (s.runCtx c f) i { s with ports := P } = (.later, { u f with ports := P })) :
    ∃ (P : Ports) (f : Flight), s.hostCmd i = { u f with ports := P } ∧ s.accepted { u f with ports := P } c f ∧ f.cmd = i ∧
      s.ports.running P c f := by
  obtain ⟨P, f, k, hP, hcmd, he⟩ := State.hostCmd_runs h
  rw [hrun P f hP hcmd] at he
  refine ⟨P, f, ?_, ⟨?_, hP.avail, hP.flights, ?_, hP.tag, hP.handle⟩, hcmd, hP⟩
  · rw [he]
    have hw : f.waits = false := by
      by_contra hne
      obtain ⟨e, a, l, m, hc⟩ := f.waits_cmd (by simpa using hne)
      exact hno e a l m (by rw [← hcmd, hc])
    exact State.serveN_running h hP (htw f) (Ports.running.settled h hP hw) (fun q => rfl) rfl rfl rfl _
  · show (P.get c.env.port).ring.map Entry.plain = _
    rw [hP.ring, hP.handle]; rfl
  · intro q hq
    show (P.get q).flights = _
    rw [hP.other q hq]; rfl

/-- A host command whose run stays in flight and leaves the ports alone. -/
theorem State.hostCmd_starts {s : State} {i : Instr} {c : CmdInfo} (h : s.meets i c) (hex : exec i s = .next (s.hostCmd i))
    (u : State) (hw : u.ports = s.ports) (htw : u.tw = s.tw) (hno : ∀ e addr len img, i ≠ .structBootWrite e addr len img)
    (hrun : ∀ (P : Ports) (f : Flight), s.ports.running P c f → f.cmd = i →
      runCmd (s.runCtx c f) i { s with ports := P } = (.later, { u with ports := P })) : s.starts i c u := by
  obtain ⟨P, f, h1, h2, h3, h4⟩ := State.hostCmd_later h (fun _ => u) (fun _ => htw) hno hrun
  have hkept : P.hostWrites = s.ports.hostWrites ∧ P.pc.keys = s.ports.pc.keys := by
    obtain ⟨pa, pb, pc, pd, m, n, e⟩ := h4.rest
    rw [e]; exact ⟨rfl, rfl⟩
  exact ⟨_, f, by rw [hex, h1], h2, h3, rfl, by rw [hw]; exact hkept.1, by rw [hw]; exact hkept.2⟩

/-- A host command whose run goes to an empty flash queue: it stands there as the operation that has begun. -/
theorem State.hostCmd_flash {s : State} {i : Instr} {c : CmdInfo} (h : s.meets i c) (hq : s.ports.flashQ = [] ∧ s.ports.flashOn = none)
    (v : State) (htw : v.tw = s.tw) (hb : ∀ P : Ports, State.flashBegins { s with ports := P } i = { v with ports := P })
    (hrun : ∀ (P : Ports) (f : Flight), s.ports.running P c f → f.cmd = i →
      runCmd (s.runCtx c f) i { s with ports := P } = (.flash, { s with ports := P })) :
    ∃ (Q : Ports) (f : Flight), s.hostCmd i = { v with ports := Q } ∧ s.accepted { v with ports := Q } c f ∧ f.cmd = i ∧
      f.flash = true ∧ Q.flashQ = [(c.env.port, f.handle)] ∧ Q.flashOn = some (c.env.port, f.handle) ∧
      ({ v with ports := Q } : State).portsIdle ∧ (Q.get c.env.port).st = .active ∧
      (Q.get c.env.port).cqSize c.env.port = (s.port c.env.port).cqSize c.env.port ∧ Q.hostWrites = s.ports.hostWrites ∧
      Q.pc.keys = s.ports.pc.keys := by
  obtain ⟨P, f, k, hP, hcmd, he⟩ := State.hostCmd_runs h
  have hkept : P.hostWrites = s.ports.hostWrites ∧ P.pc.keys = s.ports.pc.keys := by
    obtain ⟨pa, pb, pc, pd, m, n, e⟩ := hP.rest
    rw [e]; exact ⟨rfl, rfl⟩
  rw [hrun P f hP hcmd] at he
  generalize hp : c.env.port = q at *
  have hPq : P.flashQ = [] := by
    obtain ⟨pa, pb, pc, pd, m, n, e⟩ := hP.rest
    rw [e]; exact hq.1
  have hfl := hP.flights
  rw [hp] at hfl
  have hfresh : ∀ g ∈ (s.ports.get q).flights, g.handle ≠ f.handle := by
    have := h.fresh
    rw [hp] at this
    rw [hP.handle, hp]
    exact this
  generalize hx : ({ P.get q with flights := (P.get q).flights.map (fun g =>
    if g.handle = f.handle then { g with flash := true } else g) } : PortS) = x
  have hxf : x.flights = (s.ports.get q).flights ++ [{ f with flash := true }] := by
    rw [← hx]
    show (P.get q).flights.map _ = _
    rw [hfl, List.map_append]
    have hmap : (s.ports.get q).flights.map (fun g => if g.handle = f.handle then { g with flash := true } else g) =
        (s.ports.get q).flights := by
      rw [List.map_congr_left (g := id) (fun g hg => by rw [if_neg (hfresh g hg)]; rfl), List.map_id]
    rw [hmap]
    simp
  have hfind : x.flight? f.handle = some { f with flash := true } := by
    unfold PortS.flight?
    rw [hxf, List.find?_append]
    have : (s.ports.get q).flights.find? (fun g => g.handle == f.handle) = none := by
      rw [List.find?_eq_none]
      intro g hg
      simp [hfresh g hg]
    rw [this]
    simp
  have henter : State.flashEnter { s with ports := P } q f.handle =
      { v with ports := { (P.put q x) with flashQ := [(q, f.handle)], flashOn := some (q, f.handle), flashAt := s.now } } := by
    unfold State.flashEnter
    have h8 : ¬ 8 ≤ (State.ports { s with ports := P }).flashQ.length := by
      show ¬ 8 ≤ P.flashQ.length
      rw [hPq]; simp
    rw [if_neg h8]
    have hset : ({ s with ports := P } : State).setPort q { (State.port { s with ports := P } q) with
        flights := (State.port { s with ports := P } q).flights.map (fun g =>
          if g.handle = f.handle then { g with flash := true } else g) } = { s with ports := P.put q x } := by
      rw [← hx]; rfl
    have hq2 : (P.put q x).flashQ = [] := by rw [← hPq]; cases q <;> rfl
    have hon : (P.put q x).flashOn ≠ some (q, f.handle) := by
      have : P.flashOn = s.ports.flashOn := by
        obtain ⟨pa, pb, pc, pd, m, n, e⟩ := hP.rest
        rw [e]
      rw [show (P.put q x).flashOn = P.flashOn by cases q <;> rfl, this, hq.2]
      simp
    simp only [hset, hq2, List.nil_append]
    unfold State.flashKick
    dsimp only
    rw [if_neg hon]
    have h3 : ∀ W : Ports, W.get q = x → (State.port { s with ports := W } q).flight? f.handle = some { f with flash := true } := by
      intro W hW
      show (W.get q).flight? f.handle = _
      rw [hW]; exact hfind
    rw [h3 _ (by cases q <;> rfl)]
    dsimp only
    rw [hcmd, hb]
  have hother : ∀ p, p ≠ q → ({ (P.put q x) with flashQ := [(q, f.handle)], flashOn := some (q, f.handle), flashAt := s.now } : Ports).get p = P.get p := by
    intro p hpq
    rw [← Ports.get_put_other P q p x (Ne.symm hpq)]
    cases p <;> rfl
  have hsame : ({ (P.put q x) with flashQ := [(q, f.handle)], flashOn := some (q, f.handle), flashAt := s.now } : Ports).get q = x := by
    cases q <;> rfl
  have hsettled : ∀ p, ∀ g ∈ (({ (P.put q x) with flashQ := [(q, f.handle)], flashOn := some (q, f.handle), flashAt := s.now } : Ports).get p).flights,
      g.settled := by
    intro p
    by_cases hpq : p = q
    · subst hpq
      rw [hsame, hxf]
      intro g hg
      rcases List.mem_append.mp hg with hg | hg
      · exact (h.idle p).1 g hg
      · rw [List.mem_singleton.mp hg]
        exact ⟨hP.started, by rw [← h.fence]; exact hP.fence, rfl⟩
    · rw [hother p hpq, hP.other p (by rw [hp]; exact hpq)]
      exact (h.idle p).1
  refine ⟨{ (P.put q x) with flashQ := [(q, f.handle)], flashOn := some (q, f.handle), flashAt := s.now }, { f with flash := true }, ?_,
    ⟨?_, ?_, ?_, ?_, hP.tag, ?_⟩, hcmd, rfl, rfl, rfl, ?_, ?_, ?_, by rw [← hkept.1]; cases q <;> rfl, by rw [← hkept.2]; cases q <;> rfl⟩
  · rw [he]
    show State.serveN (k + 1) (State.flashEnter { s with ports := P } q f.handle) = _
    rw [henter]
    apply State.serveN_running h hP htw hsettled
    · intro p
      by_cases hpq : p = q
      · subst hpq; rw [hsame, ← hx]
      · rw [hother p hpq]
    · cases q <;> rfl
    · by_cases hpq : CPort.D = q
      · rw [← hpq] at hsame hx ⊢; rw [hsame, ← hx]
      · rw [hother _ hpq]
    · by_cases hpq : CPort.D = q
      · rw [← hpq] at hsame hx ⊢; rw [hsame, ← hx]
      · rw [hother _ hpq]
  · rw [hp]
    show (Ports.get _ q).ring.map Entry.plain = _
    rw [hsame, ← hx]
    have := hP.ring
    rw [hp] at this
    show (P.get q).ring.map Entry.plain = _
    rw [this, hP.handle, hp]
    unfold State.acceptOf
    rw [hp]; rfl
  · rw [hp]
    show (Ports.get _ q).avail = _
    rw [hsame, ← hx]
    have := hP.avail
    rw [hp] at this
    exact this
  · rw [hp]
    show (Ports.get _ q).flights = _
    rw [hsame]; exact hxf
  · intro p hpq
    rw [hp] at hpq
    show (Ports.get _ p).flights = _
    rw [hother p hpq, hP.other p (by rw [hp]; exact hpq)]; rfl
  · rw [hP.handle]; rfl
  · intro p
    refine ⟨hsettled p, ?_, ?_, ?_⟩
    · show (Ports.get _ p).placed = []
      by_cases hpq : p = q
      · subst hpq
        rw [hsame, ← hx]
        have := hP.placed
        rw [hp] at this; exact this
      · rw [hother p hpq, hP.other p (by rw [hp]; exact hpq)]; exact (h.idle p).2.1
    · refine Ports.running.known (t := { v with ports := { (P.put q x) with flashQ := [(q, f.handle)], flashOn := some (q, f.handle), flashAt := s.now } })
        h hP (Ports.Same.refl P) htw ?_ ?_ ?_ p
      · cases q <;> rfl
      · show (Ports.get _ _).avail = _
        by_cases hpq : CPort.D = q
        · rw [← hpq] at hsame hx ⊢; rw [hsame, ← hx]
        · rw [hother _ hpq]
      · show (Ports.get _ _).sqHead = _
        by_cases hpq : CPort.D = q
        · rw [← hpq] at hsame hx ⊢; rw [hsame, ← hx]
        · rw [hother _ hpq]
    · show (Ports.get _ p).waiting = []
      by_cases hpq : p = q
      · subst hpq
        rw [hsame, ← hx]
        have := hP.waiting
        rw [hp] at this
        exact this.trans (h.idle p).2.2.2
      · rw [hother p hpq, hP.other p (by rw [hp]; exact hpq)]; exact (h.idle p).2.2.2
  · show (Ports.get _ q).st = _
    rw [hsame, ← hx]
    have h1 := hP.st
    have h2 := h.active
    rw [hp] at h1 h2
    exact h1.trans h2
  · show (Ports.get _ q).cqSize _ = _
    rw [hsame, ← hx]
    have h1 := hP.size
    rw [hp] at h1
    exact h1

theorem State.at_now (s : State) : s.at_ s.now = s := by
  show { s with now := max s.now s.now } = s
  rw [Nat.max_self]

/-- Marking an event changes messages alone. -/
theorem State.event_ports (s : State) (v : Nat) : ∃ f : Ports → Ports, (∀ P, ({ s with ports := P } : State).event v = { s with ports := f P }) ∧
    ∀ P, P.Same (f P) ∧ (f P).flashQ = P.flashQ ∧ (f P).hostWrites = P.hostWrites ∧ (f P).pc.keys = P.pc.keys := by
  let one (p : Ports) (f : Nat) : Ports :=
    let was := (rd p.evPend f).getLsbD v
    let p := { p with evPend := upd p.evPend f (fun w => w ||| (1#12 <<< v)) }
    if !was && (rd p.evEn f).getLsbD v then p.signal f v else p
  have h1 : ∀ P f, P.Same (one P f) ∧ (one P f).flashQ = P.flashQ ∧ (one P f).hostWrites = P.hostWrites ∧
      (one P f).pc.keys = P.pc.keys := by
    intro P f
    have key : ∀ (e : Vector (BitVec 12) 2) m n, P.Same ({ P with evPend := e, msix := m, msixPend := n } : Ports) := by
      intro e m n
      exact ⟨fun q => by cases q <;> exact PortS.Same.refl _, rfl⟩
    simp only [one]
    split
    · obtain ⟨m, n, e⟩ := Ports.signal_eq { P with evPend := upd P.evPend f (fun w => w ||| (1#12 <<< v)) } f v
      rw [e]
      exact ⟨key _ m n, rfl, rfl, rfl⟩
    · exact ⟨key _ P.msix P.msixPend, rfl, rfl, rfl⟩
  refine ⟨fun P => one (one P 0) 1, fun P => rfl, fun P => ?_⟩
  obtain ⟨⟨a1, a2⟩, a3, a4, a5⟩ := h1 P 0
  obtain ⟨⟨b1, b2⟩, b3, b4, b5⟩ := h1 (one P 0) 1
  refine ⟨⟨fun q => ?_, b2.trans a2⟩, b3.trans a3, b4.trans a4, b5.trans a5⟩
  have a := a1 q
  have b := b1 q
  exact ⟨b.st.trans a.st, b.flights.trans a.flights, b.placed.trans a.placed, b.avail.trans a.avail, b.waiting.trans a.waiting,
    b.ring.trans a.ring, fun p => (b.size p).trans (a.size p), b.head.trans a.head⟩

theorem State.setGrade_ports (s : State) (i level : Nat) : ∃ f : Ports → Ports,
    (∀ P, ({ s with ports := P } : State).setGrade i level = { s.setGrade i level with ports := f P }) ∧
    ∀ P, P.Same (f P) ∧ (f P).flashQ = P.flashQ ∧ (f P).hostWrites = P.hostWrites ∧ (f P).pc.keys = P.pc.keys := by
  by_cases hg : rd s.hlt.grades i = level
  · refine ⟨id, fun P => ?_, fun P => ⟨Ports.Same.refl _, rfl, rfl, rfl⟩⟩
    unfold State.setGrade
    simp [hg]
  · obtain ⟨f, hf, hk⟩ := State.event_ports ({ s with hlt := { s.hlt with grades := wr s.hlt.grades i level } }) 9
    refine ⟨f, fun P => ?_, hk⟩
    unfold State.setGrade
    rw [if_neg hg, if_neg hg]
    have h0 := hf s.ports
    have h1 : (State.event { s with hlt := { s.hlt with grades := wr s.hlt.grades i level } } 9) =
      { s with hlt := { s.hlt with grades := wr s.hlt.grades i level }, ports := f s.ports } := h0
    rw [h1]
    exact hf P

/-- The grading of the flash leaves what command service works on. -/
theorem State.gradeFlash_ports (s : State) : ∃ f : Ports → Ports,
    (∀ P, ({ s with ports := P } : State).gradeFlash = { s.gradeFlash with ports := f P }) ∧
    ∀ P, P.Same (f P) ∧ (f P).flashQ = P.flashQ ∧ (f P).hostWrites = P.hostWrites ∧ (f P).pc.keys = P.pc.keys := by
  obtain ⟨f, hf, hk⟩ := s.setGrade_ports 3 s.boot.flashLevel
  obtain ⟨g, hg, hl⟩ := (s.setGrade 3 s.boot.flashLevel).setGrade_ports 4 s.boot.otpLevel
  refine ⟨fun P => g (f P), fun P => ?_, fun P => ?_⟩
  · unfold State.gradeFlash
    show (State.setGrade (State.setGrade { s with ports := P } 3 s.boot.flashLevel) 4 s.boot.otpLevel) = _
    rw [hf P]
    exact hg (f P)
  · obtain ⟨⟨a1, a2⟩, a3, a4, a5⟩ := hk P
    obtain ⟨⟨b1, b2⟩, b3, b4, b5⟩ := hl (f P)
    refine ⟨⟨fun q => ?_, b2.trans a2⟩, b3.trans a3, b4.trans a4, b5.trans a5⟩
    have a := a1 q
    have b := b1 q
    exact ⟨b.st.trans a.st, b.flights.trans a.flights, b.placed.trans a.placed, b.avail.trans a.avail, b.waiting.trans a.waiting,
      b.ring.trans a.ring, fun p => (b.size p).trans (a.size p), b.head.trans a.head⟩

theorem State.gradeFlash_rest (s : State) : ∃ P h, s.gradeFlash = { s with ports := P, hlt := h } := by
  have one : ∀ (s : State) i l, ∃ P h, s.setGrade i l = { s with ports := P, hlt := h } := by
    intro s i l
    unfold State.setGrade
    split
    · exact ⟨_, _, rfl⟩
    · exact ⟨_, _, rfl⟩
  obtain ⟨P, h, e⟩ := one s 3 s.boot.flashLevel
  obtain ⟨Q, k, e'⟩ := one (s.setGrade 3 s.boot.flashLevel) 4 s.boot.otpLevel
  unfold State.gradeFlash
  rw [e', e]
  exact ⟨Q, k, rfl⟩

/-- A host command of the flash queue from its acceptance to the end of its flash operation. -/
theorem State.hostCmd_flashed {s : State} {i : Instr} {c : CmdInfo} (h : s.meets i c) (hq : s.flashFree)
    (hex : exec i s = .next (s.hostCmd i))
    (hn1 : ∀ e addr len resume img, i ≠ .fwStage e addr len resume img) (hn2 : ∀ e w r, i ≠ .fwActivate e w r)
    (hn3 : ∀ e, i ≠ .fwRevert e)
    (v : State) (hv : v.tw = s.tw ∧ v.now = s.now ∧ v.pwr = s.pwr ∧ v.ports = s.ports)
    (hb : ∀ P : Ports, State.flashBegins { s with ports := P } i = { v with ports := P })
    (hrun : ∀ (P : Ports) (f : Flight), s.ports.running P c f → f.cmd = i →
      runCmd (s.runCtx c f) i { s with ports := P } = (.flash, { s with ports := P }))
    (res : List Byte) (u : State) (g : Ports → Ports) (hu : u.pwr.service = true) (hlen : res.length ≤ 380) (htw : u.tw = s.tw)
    (hg : ∀ P : Ports, P.Same (g P)) (hgq : ∀ P : Ports, (g P).flashQ = P.flashQ)
    (hgw : ∀ P : Ports, P.hostWrites = s.ports.hostWrites → P.pc.keys = s.ports.pc.keys →
      (g P).hostWrites = u.ports.hostWrites ∧ (g P).pc.keys = u.ports.pc.keys)
    (hfin : ∀ P : Ports, finCmd i { v with ports := P } = (.done .ok 0 res, { u with ports := g P })) :
    s.flashesVia i c v res u := by
  obtain ⟨Q, f, h1, h2, h3, -, h5, h6, hidle, hact, hsize, hqw, hqk⟩ := State.hostCmd_flash h hq.1 v hv.1 hb hrun
  obtain ⟨gr, hgr, hgk⟩ := u.gradeFlash_ports
  have hfl : (Q.get c.env.port).flights = (s.port c.env.port).flights ++ [f] := h2.flights
  have hfresh : ∀ g ∈ (s.port c.env.port).flights, g.handle ≠ f.handle := by rw [h2.handle]; exact h.fresh
  have hfind : (Q.get c.env.port).flight? f.handle = some f := by
    unfold PortS.flight?
    rw [hfl, List.find?_append]
    have : (s.port c.env.port).flights.find? (fun g => g.handle == f.handle) = none := by
      rw [List.find?_eq_none]
      intro g hg
      simp [hfresh g hg]
    rw [this]
    simp
  have hkick : State.flashKick { v with ports := Q } = { v with ports := Q } := by
    unfold State.flashKick
    simp only [h5, h6, if_true]
  -- the end of the operation
  obtain ⟨Q', hQ'⟩ : ∃ Q' : Ports, Q' = { gr (g Q) with flashQ := [] } := ⟨_, rfl⟩
  have hget : ∀ p, (Q.get p).Same (Q'.get p) := by
    intro p
    have : Q'.get p = (gr (g Q)).get p := by rw [hQ']; cases p <;> rfl
    rw [this]
    have a := (hg Q).1 p
    have b := (hgk (g Q)).1.1 p
    exact ⟨b.st.trans a.st, b.flights.trans a.flights, b.placed.trans a.placed, b.avail.trans a.avail, b.waiting.trans a.waiting,
      b.ring.trans a.ring, fun p => (b.size p).trans (a.size p), b.head.trans a.head⟩
  have hdescs : Q'.pc.descs = Q.pc.descs := by rw [hQ']; exact (hgk (g Q)).1.2.trans (hg Q).2
  have hpop : State.flashPop { u.gradeFlash with ports := gr (g Q) } c.env.port f.handle = { u.gradeFlash with ports := Q' } := by
    unfold State.flashPop
    have : (gr (g Q)).flashQ = [(c.env.port, f.handle)] := ((hgk (g Q)).2.1.trans (hgq Q)).trans h5
    simp [this, hQ']
  obtain ⟨gp, gh, hrest⟩ := u.gradeFlash_rest
  have hug : u.gradeFlash.pwr.service = true := by rw [hrest]; exact hu
  have htg : u.gradeFlash.tw = v.tw := by rw [hrest]; exact htw.trans hv.1.symm
  have hfew := State.complete_fewer { u.gradeFlash with ports := Q' } c.env.port f.handle .ok 0 res
  have hringlen : (Q.get c.env.port).ring.length = (s.port c.env.port).ring.length + 1 := by
    have := congrArg List.length h2.ring
    rw [List.length_append, List.length_map, List.length_map] at this
    exact this
  obtain ⟨R, hR, r1, r2, r3, r4, r5, r6⟩ := State.complete_one { u.gradeFlash with ports := Q' } c.env.port f .ok 0 res h.ring hug
    (s.port c.env.port).flights (by show (Q'.get _).flights = _; rw [(hget _).flights]; exact hfl) hfresh
    (by show (Q'.get _).waiting = _; rw [(hget _).waiting]; exact (hidle _).2.2.2)
    (by show (Q'.get _).st = _; rw [(hget _).st]; exact hact)
    (by
      show (Q'.get _).ring.length + _ ≤ (Q'.get _).cqSize _
      rw [(hget _).ring, (hget _).size, hringlen, hsize]
      have := h.room
      omega)
  have hRq : R.flashQ = [] := by
    have := hfew.flash
    rw [hR] at this
    have h0 : ∀ x ∈ R.flashQ, x ∈ Q'.flashQ := this
    rw [hQ'] at h0
    exact List.eq_nil_iff_forall_not_mem.mpr (fun x m => by have := h0 x m; simp at this)
  have hRk : State.flashKick { u.gradeFlash with ports := R } = { u.gradeFlash with ports := { R with flashOn := none } } := by
    unfold State.flashKick
    simp only [hRq]
  rw [hR] at hfew
  have hRget : ∀ p, ({ R with flashOn := none } : Ports).get p = R.get p := by intro p; cases p <;> rfl
  have hRcalm : ({ u.gradeFlash with ports := { R with flashOn := none } } : State).portsCalm := by
    have h0 : ({ u.gradeFlash with ports := Q' } : State).portsCalm :=
      State.portsCalm.of_ports (s := { v with ports := Q }) hidle.calm (fun q f m => by
          have : f ∈ (Q'.get q).flights := m
          rw [(hget q).flights] at this
          exact this) (fun q => Or.inl (hget q).placed) htg hdescs (Or.inr ⟨(hget _).avail, (hget _).head⟩)
    have hp : ∀ q, ({ u.gradeFlash with ports := { R with flashOn := none } } : State).port q =
        ({ u.gradeFlash with ports := R } : State).port q := hRget
    exact State.portsCalm.of_ports (hfew.calm h0) (fun q f m => by rw [hp q] at m; exact m) (fun q => Or.inl (by rw [hp q])) rfl rfl
      (Or.inr ⟨by rw [hp .D], by rw [hp .D]⟩)
  have hop : opcodeOf f.cmd = c.opcode := by unfold opcodeOf; rw [h3, h.info]; rfl
  refine ⟨{ v with ports := Q }, f, { u.gradeFlash with ports := { R with flashOn := none } }, by rw [hex, h1], h2, h3,
    ⟨rfl, by rw [hv.2.2.2]; exact hqw, by rw [hv.2.2.2]; exact hqk⟩, h5, ?_, ?_, rfl, ?_, ?_⟩
  · show Host.Outcome.next (State.serve (State.flashDone (State.at_ { v with ports := Q } s.now) true 0)) = _
    have hat : State.at_ { v with ports := Q } s.now = { v with ports := Q } := by
      rw [← hv.2.1]; exact State.at_now { v with ports := Q }
    rw [hat]
    have hdone : State.flashDone { v with ports := Q } true 0 = { u.gradeFlash with ports := { R with flashOn := none } } := by
      unfold State.flashDone
      rw [hkick]
      simp only [h5]
      have hf : State.port { v with ports := Q } c.env.port = Q.get c.env.port := rfl
      have hcp : v.pwr.cpRunning = true := by rw [hv.2.2.1]; exact hq.2
      rw [hf, hfind]
      simp only [hcp, Bool.not_true, Bool.false_eq_true, if_false, if_true, h3]
      rw [hfin]
      show State.flashKick (State.complete (State.flashPop (State.gradeFlash { u with ports := g Q }) c.env.port f.handle) c.env.port
        f.handle .ok 0 res) = _
      rw [hgr, hpop, hR, hRk]
    rw [hdone, State.serve_calm _ hRcalm]
  · refine ⟨⟨f, h2.tag, h2.handle, ?_⟩, ?_, ?_⟩
    · show (Ports.get _ _).ring.map Entry.plain = _
      rw [hRget, r1, hop]
      show (Q'.get _).ring.map Entry.plain ++ _ = _
      rw [(hget _).ring]
      have := h2.ring
      show (Q.get c.env.port).ring.map Entry.plain ++ _ = _
      rw [show (Q.get c.env.port).ring.map Entry.plain = _ from this]
      simp
    · show (Ports.get _ _).avail = _
      rw [hRget, r4]
      show (Q'.get _).avail = _
      rw [(hget _).avail]
      exact h2.avail
    · intro p
      show (Ports.get _ p).flights = _
      rw [hRget]
      by_cases hp : p = c.env.port
      · subst hp; exact r2
      · rw [(r6 p hp).1]
        show (Q'.get p).flights = _
        rw [(hget p).flights]
        exact h2.other p hp
  · refine Eq.trans (b := Q'.hostWrites) hfew.writes ?_
    rw [hQ']
    have h0 := hgr u.ports
    have hw : u.gradeFlash.ports.hostWrites = u.ports.hostWrites := by
      rw [show u.gradeFlash = { u.gradeFlash with ports := gr u.ports } from h0]; exact (hgk u.ports).2.2.1
    rw [hw]
    exact (hgk (g Q)).2.2.1.trans (hgw Q hqw hqk).1
  · refine Eq.trans (b := Q'.pc.keys) hfew.keys ?_
    rw [hQ']
    have h0 := hgr u.ports
    have hw : u.gradeFlash.ports.pc.keys = u.ports.pc.keys := by
      rw [show u.gradeFlash = { u.gradeFlash with ports := gr u.ports } from h0]; exact (hgk u.ports).2.2.2
    rw [hw]
    exact (hgk (g Q)).2.2.2.trans (hgw Q hqw hqk).2

/-- A host command whose run ends another command of its port ABORTED and completes at once. -/
theorem State.hostCmd_cancels {s : State} {i : Instr} {c : CmdInfo} (h : s.meets i c) (hex : exec i s = .next (s.hostCmd i))
    (g : Flight) (hg : (s.port c.env.port).flight? g.handle = some g) (res : List Byte) (u : State) (hlen : res.length ≤ 200)
    (hu : u.pwr.service = true) (hw : u.ports = s.ports) (htw : u.tw = s.tw)
    (hrun : ∀ (P : Ports) (f : Flight), s.ports.running P c f → f.cmd = i → (P.get c.env.port).flight? g.handle = some g →
      runCmd (s.runCtx c f) i { s with ports := P } =
        (.done .ok 0 res, ({ u with ports := P } : State).complete c.env.port g.handle .aborted 0 [])) :
    s.cancels i c g res u := by
  obtain ⟨P, f, k, hP, hcmd, he⟩ := State.hostCmd_runs h
  have hidle := h.idle
  have hgm : g ∈ (s.port c.env.port).flights := List.mem_of_find?_eq_some hg
  have hne : f.handle ≠ g.handle := by rw [hP.handle]; exact fun e => h.fresh g hgm e.symm
  have hgP : (P.get c.env.port).flight? g.handle = some g := by
    unfold PortS.flight?
    rw [hP.flights, List.find?_append]
    have : (s.port c.env.port).flights.find? (fun k => k.handle == g.handle) = some g := hg
    show Option.or ((s.port c.env.port).flights.find? _) _ = _
    rw [this]; rfl
  rw [hrun P f hP hcmd hgP] at he
  have hop : opcodeOf f.cmd = c.opcode := by unfold opcodeOf; rw [hcmd, h.info]; rfl
  have hringlen : (P.get c.env.port).ring.length = (s.port c.env.port).ring.length + 1 := by
    have := congrArg List.length hP.ring
    rw [List.length_append, List.length_map, List.length_map] at this
    exact this
  have hroom : (s.port c.env.port).ring.length + 16 ≤ (P.get c.env.port).cqSize c.env.port := by rw [hP.size]; exact h.room
  obtain ⟨Q, hQ, a1, a2, a3, a4, a5, a7, a8, a6⟩ := State.complete_at { u with ports := P } c.env.port g .aborted 0 [] h.ring hu hgP
    (hP.waiting.trans (hidle c.env.port).2.2.2) (hP.st.trans h.active)
    (by
      show (P.get c.env.port).ring.length + _ ≤ (P.get c.env.port).cqSize c.env.port
      simp only [List.length_nil]
      omega)
  have hflQ : (Q.get c.env.port).flights = (s.port c.env.port).flights.filter (fun k => k.handle != g.handle) ++ [f] := by
    rw [a2]
    show (P.get c.env.port).flights.filter _ = _
    rw [hP.flights, List.filter_append]
    simp only [List.filter_cons, bne_iff_ne, ne_eq, hne, not_false_eq_true, if_true, List.filter_nil]
    rfl
  have hQlen : (Q.get c.env.port).ring.length = (s.port c.env.port).ring.length + 2 := by
    have := congrArg List.length a1
    rw [List.length_append, List.length_map, List.length_map, completeEntries_length] at this
    rw [this]
    show (P.get c.env.port).ring.length + _ = _
    rw [hringlen]
    rfl
  have hfew1 := State.complete_fewer { u with ports := P } c.env.port g.handle .aborted 0 []
  have hfew2 := State.complete_fewer { u with ports := Q } c.env.port f.handle .ok 0 res
  obtain ⟨R, hR, r1, r2, r3, r4, r5, r6⟩ := State.complete_one { u with ports := Q } c.env.port f .ok 0 res h.ring hu
    ((s.port c.env.port).flights.filter (fun k => k.handle != g.handle)) hflQ
    (fun k hk => by rw [hP.handle]; exact h.fresh k (List.mem_of_mem_filter hk)) a5
    (by show (Q.get c.env.port).st = _; rw [a7]; exact hP.st.trans h.active)
    (by
      show (Q.get c.env.port).ring.length + _ ≤ (Q.get c.env.port).cqSize c.env.port
      have : (Q.get c.env.port).cqSize c.env.port = (P.get c.env.port).cqSize c.env.port := a8
      rw [this, hQlen]
      omega)
  have hplaced : ∀ p, (P.get p).placed = [] := by
    intro p
    by_cases hp : p = c.env.port
    · subst hp; exact hP.placed
    · rw [hP.other p hp]; exact (hidle p).2.1
  have hother : ∀ p, p ≠ c.env.port → (R.get p).flights = (s.port p).flights := by
    intro p hp
    rw [(r6 p hp).1]
    show (Q.get p).flights = _
    rw [(a6 p hp).1]
    show (P.get p).flights = _
    rw [hP.other p hp]; rfl
  rw [hQ] at hfew1
  rw [hR] at hfew2
  have hcalm : ({ u with ports := R } : State).portsCalm := by
    intro p
    refine ⟨?_, ?_, Ports.running.known (t := { u with ports := R }) h hP (Ports.Same.refl P) htw (hfew2.descs.trans hfew1.descs)
      ((hfew2.ports .D).avail.trans (hfew1.ports .D).avail) ((hfew2.ports .D).head.trans (hfew1.ports .D).head) p⟩
    · show ∀ k ∈ (R.get p).flights, _
      by_cases hp : p = c.env.port
      · subst hp
        rw [r2]
        exact fun k hk => (hidle _).1 k (List.mem_of_mem_filter hk)
      · rw [hother p hp]; exact (hidle p).1
    · show (R.get p).placed = []
      by_cases hp : p = c.env.port
      · subst hp; rw [r3]; exact a3.trans (hplaced _)
      · rw [(r6 p hp).2.1]; exact ((a6 p hp).2.1).trans (hplaced p)
  have hkept : P.hostWrites = s.ports.hostWrites ∧ P.pc.keys = s.ports.pc.keys := by
    obtain ⟨pa, pb, pc, pd, m, n, e⟩ := hP.rest
    rw [e]; exact ⟨rfl, rfl⟩
  refine ⟨{ u with ports := R }, ?_, ⟨⟨f, hP.tag, hP.handle, ?_⟩, r2, hother⟩, rfl, ?_, ?_⟩
  · rw [hex, he]
    show Host.Outcome.next (State.serveN (k + 1) (State.complete (State.complete { u with ports := P } c.env.port g.handle .aborted 0 [])
      c.env.port f.handle .ok 0 res)) = _
    rw [hQ, hR, State.serveN_calm _ _ hcalm]
  · show (R.get c.env.port).ring.map Entry.plain = _
    rw [r1, hop]
    show (Q.get c.env.port).ring.map Entry.plain ++ _ = _
    rw [a1]
    show (P.get c.env.port).ring.map Entry.plain ++ _ ++ _ = _
    rw [hP.ring, List.append_assoc, List.append_assoc, hP.handle]
    rfl
  · rw [hw]; exact (hfew2.writes.trans hfew1.writes).trans hkept.1
  · rw [hw]; exact (hfew2.keys.trans hfew1.keys).trans hkept.2

end Sys2Proof.Machine
end

