-- ==== Sys2Proof/Laws/Tile.lean ====
section
/-!
SUPPORT. What one instruction of a tile can do: its moves, its operation, its writeback; and the row of the table on the
state.
-/
namespace Sys2Proof.Machine

/-! Reads and moves of an instruction on a tile without bit errors. -/

/-- What the moves of an instruction leave as it was: all but address registers, and what is pending. -/
structure TRun.Moved (r r' : TRun) : Prop where
  t : r'.t = r.t
  a : r'.c.a = r.c.a
  d : r'.c.d = r.c.d
  amode : r'.c.amode = r.c.amode
  pc : r'.c.pc = r.c.pc
  sr : r'.c.sr = r.c.sr
  lc : r'.c.lc = r.c.lc
  evmask : r'.c.evmask = r.c.evmask
  evpend : r'.c.evpend = r.c.evpend
  evvec : r'.c.evvec = r.c.evvec
  stack : r'.c.stack = r.c.stack
  delay : r'.c.delay = r.c.delay
  rep : r'.c.rep = r.c.rep
  uncorr : r'.uncorr = r.uncorr
  flow : r'.flow = r.flow
  /-- Of the sticky bits only MSAT can rise, and with it the SAT event. -/
  sticky : r'.sticky = r.sticky ∧ r'.satEv = r.satEv ∨ r'.sticky = r.sticky ||| 0x100#32 ∧ r'.satEv = true

theorem TRun.Moved.refl (r : TRun) : r.Moved r := by
  constructor <;> first | rfl | exact Or.inl ⟨rfl, rfl⟩

theorem TRun.Moved.trans {a b c : TRun} (h : a.Moved b) (k : b.Moved c) : a.Moved c := by
  constructor
  · rw [k.t, h.t]
  · rw [k.a, h.a]
  · rw [k.d, h.d]
  · rw [k.amode, h.amode]
  · rw [k.pc, h.pc]
  · rw [k.sr, h.sr]
  · rw [k.lc, h.lc]
  · rw [k.evmask, h.evmask]
  · rw [k.evpend, h.evpend]
  · rw [k.evvec, h.evvec]
  · rw [k.stack, h.stack]
  · rw [k.delay, h.delay]
  · rw [k.rep, h.rep]
  · rw [k.uncorr, h.uncorr]
  · rw [k.flow, h.flow]
  · have h0 := h.sticky
    have k0 := k.sticky
    rcases h0 with ⟨h1, h2⟩ | ⟨h1, h2⟩ <;> rcases k0 with ⟨k1, k2⟩ | ⟨k1, k2⟩
    · exact Or.inl ⟨by rw [k1, h1], by rw [k2, h2]⟩
    · exact Or.inr ⟨by rw [k1, h1], k2⟩
    · exact Or.inr ⟨by rw [k1, h1], by rw [k2, h2]⟩
    · refine Or.inr ⟨?_, k2⟩
      rw [k1, h1, BitVec.or_assoc, BitVec.or_self]

theorem TRun.moved_log (r : TRun) (code data : Nat) : r.Moved (r.log code data) := by
  constructor <;> first | rfl | exact Or.inl ⟨rfl, rfl⟩

theorem TRun.moved_loads (r : TRun) (l : List (TReg × DWord)) : r.Moved { r with loads := l } := by
  constructor <;> first | rfl | exact Or.inl ⟨rfl, rfl⟩

theorem TRun.moved_store (env : TEnv) (r : TRun) (m : TMem) (a : TAddr) (v : DWord) : r.Moved (r.store env m a v) := by
  unfold TRun.store
  split
  · constructor <;> first | rfl | exact Or.inl ⟨rfl, rfl⟩
  · exact r.moved_log _ _

/-- Without bit errors a read changes nothing but the log. -/
theorem TRun.moved_read (env : TEnv) (r : TRun) (m : TMem) (a : TAddr) (h : r.t.ecc = []) : r.Moved (r.read env m a).2 := by
  unfold TRun.read
  split
  · exact r.moved_log _ _
  · simp only [eccCheck, eccMulti, h, List.find?_nil, List.any_nil, Bool.false_eq_true, if_false]
    exact TRun.Moved.refl r

/-- Without bit errors a permitted read gives the stored word. -/
theorem TRun.read_fst (env : TEnv) (r : TRun) (m : TMem) (a : TAddr) (h : r.t.ecc = []) :
    (r.read env m a).1 = if canRead env.bg m a then r.t.word m a else 0 := by
  unfold TRun.read
  by_cases hc : canRead env.bg m a = true
  · simp [eccCheck, eccMulti, h, hc]
  · simp [hc]

theorem TRun.moved_ptr (r : TRun) (y : Bool) (k : PtrKind) (j : Fin 4) (v : DWord) :
    r.Moved { r with c := r.c.writeReg (ptrReg y k j) v } := by
  cases y <;> cases k <;> (constructor <;> first | rfl | exact Or.inl ⟨rfl, rfl⟩)

theorem TRun.moved_ptrimm (r : TRun) (l : List TReg) : r.Moved { r with ptrimm := l } := by
  constructor <;> first | rfl | exact Or.inl ⟨rfl, rfl⟩

theorem TRun.moved_postMove (r : TRun) (old : TCtx) (y : Bool) (n mode : Fin 4) : r.Moved (r.postMove old y n mode) := by
  unfold TRun.postMove
  split
  · exact TRun.Moved.refl r
  · exact r.moved_ptr y .an n _

theorem TRun.moved_msat (r : TRun) (b : Bool) : r.Moved (r.msat b) := by
  unfold TRun.msat
  split
  · constructor <;> first | rfl | exact Or.inr ⟨rfl, rfl⟩
  · exact TRun.Moved.refl r

/-- One move changes address registers and what is pending, nothing else. -/
theorem TRun.moved_move (env : TEnv) (old : TCtx) (y post : Bool) (r : TRun) (mv : TMove) (h : r.t.ecc = []) :
    r.Moved (r.move env old y post mv) := by
  have pm : ∀ (q : TRun) (n mode : Fin 4), q.Moved (if post then q.postMove old y n mode else q) := by
    intro q n mode
    split
    · exact q.moved_postMove old y n mode
    · exact TRun.Moved.refl q
  cases mv with
  | nop => exact TRun.Moved.refl r
  | ind st d n mode =>
    cases st
    case true => exact (r.moved_store env _ _ _).trans (pm _ n mode)
    case false => exact ((r.moved_read env _ _ h).trans (TRun.moved_loads _ _)).trans (pm _ n mode)
  | abs st d addr =>
    cases st
    case true => exact r.moved_store env _ _ _
    case false => exact (r.moved_read env _ _ h).trans (TRun.moved_loads _ _)
  | accind i e n mode => exact ((r.moved_store env _ _ _).trans (TRun.moved_msat _ _)).trans (pm _ n mode)
  | accabs i e addr => exact (r.moved_store env _ _ _).trans (TRun.moved_msat _ _)
  | ptrld k j n mode => exact ((r.moved_read env _ _ h).trans (TRun.moved_loads _ _)).trans (pm _ n mode)
  | ptrimm k j imm => exact (r.moved_ptr y k j _).trans (TRun.moved_ptrimm _ _)
  | xfer dst src => exact r.moved_loads _

/-- The two moves of a word, under any rule of the operation. -/
theorem TRun.moved_moves (env : TEnv) (old : TCtx) (w : PWord) (rule : MoveRule) (r : TRun) (h : r.t.ecc = []) :
    r.Moved (r.moves env old w rule) := by
  have free : ∀ (y : Bool) (q : TRun) (f : MoveField), q.t.ecc = [] →
      q.Moved (match decodeMove f with
        | none => q.log 0x0608 (illegalData old.pc env.bg w)
        | some mv => q.move env old y true mv) := by
    intro y q f hq
    split
    · exact q.moved_log _ _
    · exact q.moved_move env old y true _ hq
  cases rule with
  | free =>
    have h1 := free false r (xField w) h
    exact h1.trans (free true _ (yField w) (by rw [h1.t]; exact h))
  | xTarget => exact free true r (yField w) h
  | imm => exact TRun.Moved.refl r
  | tend =>
    unfold TRun.moves
    have ill : ∀ (q : TRun) (b : Prop) [Decidable b], q.Moved (if b then q else q.log 0x0608 (illegalData old.pc env.bg w)) := by
      intro q b _
      split
      · exact TRun.Moved.refl q
      · exact q.moved_log _ _
    exact (ill r _).trans (ill _ _)
  | tap m =>
    have h1 : r.Moved (match decodeMove (xField w) with
        | none => r.log 0x0608 (illegalData old.pc env.bg w)
        | some mv => if mv.accesses then r.log 0x0608 (illegalData old.pc env.bg w) else r.move env old false true mv) := by
      split
      · exact r.moved_log _ _
      · split
        · exact r.moved_log _ _
        · exact r.moved_move env old false true _ h
    have h2 : ∀ q : TRun, q.t.ecc = [] → q.Moved (match decodeMove (yField w) with
        | none => q.log 0x0608 (illegalData old.pc env.bg w)
        | some mv =>
          if mv.isLoad then q.log 0x0608 (illegalData old.pc env.bg w)
          else if mv.postmodified = some m then
            (q.move env old true false mv).log 0x0608 (illegalData old.pc env.bg w)
          else q.move env old true true mv) := by
      intro q hq
      split
      · exact q.moved_log _ _
      · split
        · exact q.moved_log _ _
        · split
          · exact (q.moved_move env old true false _ hq).trans (TRun.moved_log _ _ _)
          · exact q.moved_move env old true true _ hq
    exact h1.trans (h2 _ (by rw [h1.t]; exact h))

/-! One instruction on a tile. -/

/-- The instruction as it stands before its moves. -/
def Tile.started (t : Tile) (bg : Bool) : TRun :=
  { t := t, c := (t.ctx bg).applyLoads (t.ctx bg).loads, reps := [], uncorr := false, satEv := false, sticky := 0,
    loads := [], stores := [], ptrimm := [], flow := .next }

/-- The context that an instruction leaves, before the program counter moves. -/
def TRun.written (r : TRun) (old : TCtx) : TCtx :=
  { r.c with
    sr := r.c.sr ||| r.sticky
    evpend := if r.satEv then r.c.evpend ||| 4#32 else r.c.evpend
    raised := (if r.satEv then r.c.evpend ||| 4#32 else r.c.evpend) &&& ~~~old.evpend
    loads := r.loads
    stores := r.stores }

@[simp] theorem Tile.ctx_setCtx (t : Tile) (bg : Bool) (c : TCtx) : (t.setCtx bg c).ctx bg = c := by cases bg <;> rfl

theorem rd_wr_same {α : Type} [Inhabited α] {n : Nat} (v : Vector α n) (i : Nat) (x : α) (h : i < n) : rd (wr v i x) i = x := by
  unfold rd wr; simp [h]

theorem rd_wr_other {α : Type} [Inhabited α] {n : Nat} (v : Vector α n) (i j : Nat) (x : α) (h : i ≠ j) :
    rd (wr v i x) j = rd v j := by
  unfold rd wr
  by_cases hj : j < n
  · rw [Vector.getElem?_eq_getElem hj, Vector.getElem?_eq_getElem hj, Vector.getElem_setIfInBounds, if_neg h]
  · have h1 : (v.setIfInBounds i x)[j]? = none := by simp; omega
    have h2 : v[j]? = none := by simp; omega
    rw [h1, h2]

/-- A tile past the 68 of the block runs no task. -/
theorem State.lt_of_task {s : State} {k : Nat} {bg : Bool} (h : (s.tile k).task = some bg) : k < 68 := by
  rcases Nat.lt_or_ge k 68 with hk | hk
  · exact hk
  · have : s.tile k = default := by
      unfold State.tile rd
      have : s.tiles[k]? = none := by simp; omega
      rw [this]; rfl
    rw [this] at h; cases h

@[simp] theorem State.tile_setTile_same (s : State) (k : Nat) (t : Tile) (h : k < 68) : (s.setTile k t).tile k = t :=
  rd_wr_same s.tiles k t h
@[simp] theorem State.tile_setTile_other (s : State) (k j : Nat) (t : Tile) (h : k ≠ j) : (s.setTile k t).tile j = s.tile j :=
  rd_wr_other s.tiles k j t h
@[simp] theorem State.tile_at_ (s : State) (n k : Nat) : (s.at_ n).tile k = s.tile k := rfl
@[simp] theorem State.tile_tickAt (s : State) (n k : Nat) : (s.tickAt n).tile k = s.tile k := rfl
@[simp] theorem State.tile_report (s : State) (code zone elem data k : Nat) : (s.report code zone elem data).tile k = s.tile k := rfl

/-- A state with reports added. -/
def State.plusReports (s : State) (l : List Report) : State := { s with flt := { s.flt with reports := s.flt.reports ++ l } }

theorem State.report_eq (s : State) (code zone elem data : Nat) : ∃ l, s.report code zone elem data = s.plusReports l :=
  ⟨[⟨code, zone, elem, data, false, s.now / 10⟩], rfl⟩

theorem State.plusReports_plus (s : State) (a b : List Report) : (s.plusReports a).plusReports b = s.plusReports (a ++ b) := by
  unfold State.plusReports
  simp only [List.append_assoc]

theorem State.plusReports_nil (s : State) : s.plusReports [] = s := by
  unfold State.plusReports
  simp only [List.append_nil]

/-- The report of a tile as the fault controller gets it. -/
def repOf (s : State) (k : Nat) (r : TRep) : Report := ⟨r.1, tileZone k, k, r.2, false, s.now / 10⟩

/-- Reports of a tile go to the list of reports and change nothing else. -/
theorem State.tileReports_eq (s : State) (k : Nat) (rs : List TRep) :
    s.tileReports k rs = s.plusReports (rs.map (repOf s k)) := by
  unfold State.tileReports
  induction rs generalizing s with
  | nil => exact s.plusReports_nil.symm
  | cons r rs ih =>
    rw [List.foldl_cons, ih]
    show (s.plusReports [repOf s k r]).plusReports (rs.map (repOf s k)) = _
    rw [State.plusReports_plus]
    rfl

/-- A tile's step put in place: only that tile, the reports and the free-value counter change. -/
theorem State.putTileStep_eq (s : State) (k : Nat) (t' : Tile) (reps : List TRep) :
    ∃ l n, s.putTileStep k t' reps = (({ s with freeCtr := n } : State).setTile k t').plusReports (reps.map (repOf s k) ++ l) := by
  have key : ∀ q : State, q.now = s.now → ∃ l,
      (if decide ((s.tile k).fgCount ≤ budgetOf (q.tileReports k reps).per.baseRate) &&
          decide (budgetOf (q.tileReports k reps).per.baseRate < t'.fgCount)
        then (q.tileReports k reps).report 0x0603 (tileZone k) k t'.fgCount else q.tileReports k reps) = q.plusReports (reps.map (repOf s k) ++ l) := by
    intro q hq
    have hn : repOf q k = repOf s k := by funext r; simp [repOf, hq]
    rw [State.tileReports_eq, hn]
    split
    · obtain ⟨m, hm⟩ := (q.plusReports (reps.map (repOf s k))).report_eq 0x0603 (tileZone k) k t'.fgCount
      rw [hm, State.plusReports_plus]
      exact ⟨_, rfl⟩
    · exact ⟨[], by rw [List.append_nil]⟩
  by_cases he : (s.tile k).ecc.isEmpty
  · obtain ⟨l, hl⟩ := key (s.setTile k t') rfl
    refine ⟨l, s.freeCtr, ?_⟩
    unfold State.putTileStep
    simp only [he, if_true]
    exact hl
  · obtain ⟨l, hl⟩ := key (({ s with freeCtr := s.freeCtr + 8 } : State).setTile k t') rfl
    refine ⟨l, s.freeCtr + 8, ?_⟩
    unfold State.putTileStep
    simp only [he, Bool.false_eq_true, if_false]
    exact hl

@[simp] theorem State.tile_plusReports (s : State) (l : List Report) (k : Nat) : (s.plusReports l).tile k = s.tile k := rfl

/-- The instruction at the program counter carried out: the run `r` after moves and operation, and what the tile holds then. -/
theorem Tile.row_clean (env : TEnv) (entryBg : TAddr) (tick : Nat) (sel : Option TOp → Option RowOp) (t : Tile) (row : RowOp)
    (hq : t.eventDue env.bg = false) (he : t.ecc = [])
    (hs : sel (decodeOp (t.pLive.get (t.ctx env.bg).pc.toNat)) = some row) :
    t.row env entryBg tick sel = some (t.exec env entryBg tick (t.pLive.get (t.ctx env.bg).pc.toNat) row) := by
  unfold Tile.row
  rw [if_neg (by simp [hq])]
  have hf : t.fetch env = (some (t.pLive.get (t.ctx env.bg).pc.toNat), t, []) := by
    unfold Tile.fetch eccCheck eccMulti
    rw [he]; rfl
  rw [hf]
  simp only [hs, List.nil_append]

theorem Tile.applyStores_parkPend (t : Tile) (ws : List (TMem × TAddr × DWord)) : (t.applyStores ws).parkPend = t.parkPend := by
  unfold Tile.applyStores
  induction ws generalizing t with
  | nil => rfl
  | cons x r ih =>
    rw [List.foldl_cons, ih]
    obtain ⟨m, a, v⟩ := x
    cases m <;> rfl

/-- The memories and the context that an instruction other than END leaves. -/
theorem Tile.exec_ctx (env : TEnv) (entryBg : TAddr) (tick : Nat) (w : PWord) (row : RowOp) (t : Tile)
    (hb : row.placed = true → (t.ctx env.bg).delay = none ∧ (t.ctx env.bg).rep = 0) (r : TRun)
    (hr : row.run env (t.ctx env.bg) ((t.started env.bg).moves env (t.ctx env.bg) w row.rule) = r)
    (hu : r.uncorr = false) (hf : r.flow ≠ .tend) (hp : env.bg = true → r.t.parkPend = false) :
    (t.exec env entryBg tick w row).2 = r.reps ∧
    (t.exec env entryBg tick w row).1.ctx env.bg = (r.written (t.ctx env.bg)).advance r.flow ∧
      (t.exec env entryBg tick w row).1.x = (r.t.applyStores (t.ctx env.bg).stores).x ∧
      (t.exec env entryBg tick w row).1.y = (r.t.applyStores (t.ctx env.bg).stores).y ∧
      (t.exec env entryBg tick w row).1.pLive = (r.t.applyStores (t.ctx env.bg).stores).pLive := by
  have hbl : (row.placed && ((t.ctx env.bg).delay.isSome || (t.ctx env.bg).rep != 0)) = false := by
    cases hp : row.placed with
    | false => rfl
    | true => obtain ⟨h1, h2⟩ := hb hp; simp [h1, h2]
  unfold Tile.exec
  simp only [hbl, Bool.false_eq_true, if_false]
  unfold Tile.started at hr
  rw [hr]
  simp only [hu, hf, Bool.false_eq_true, if_false]
  obtain ⟨bg, freeIx, seed, mediaTime, built⟩ := env
  cases bg
  · exact ⟨rfl, rfl, rfl, rfl, rfl⟩
  · have hs : ((r.t.applyStores (t.ctx true).stores).setCtx true ((r.written (t.ctx true)).advance r.flow)).parkPend = false := by
      rw [show ∀ (u : Tile) c, (u.setCtx true c).parkPend = u.parkPend from fun _ _ => rfl, Tile.applyStores_parkPend]
      exact hp rfl
    simp only [TRun.written] at hs
    simp only [if_true, Bool.true_and]
    rw [hs]
    exact ⟨rfl, rfl, rfl, rfl, rfl⟩

/-- What an instruction row does on the state when its tile is at the instruction: the tile, and what else changes. -/
theorem State.tileRow_at {s : State} {k : Nat} {bg : Bool} {w : PWord} (tick : Nat) (sel : Option TOp → Option RowOp)
    (row : RowOp) (h : s.tileAt k bg w) (hs : sel (decodeOp w) = some row) :
    ∃ entryBg l n, (s.tickAt tick).tileRow k tick sel =
      (({ s.tickAt tick with freeCtr := n } : State).setTile k
        ((s.tile k).exec (s.tileEnv k bg) entryBg tick w row).1).plusReports
          (((s.tile k).exec (s.tileEnv k bg) entryBg tick w row).2.map (repOf (s.tickAt tick) k) ++ l) := by
  have hw : (s.tile k).pLive.get ((s.tile k).ctx bg).pc.toNat = w := h.word
  have hrow := Tile.row_clean (s.tileEnv k bg) ((((s.tickAt tick).workOf k).map (·.2.entryBg)).getD 0) tick sel (s.tile k) row
    h.quiet h.clean (by show sel (decodeOp ((s.tile k).pLive.get ((s.tile k).ctx bg).pc.toNat)) = _; rw [hw]; exact hs)
  obtain ⟨l, n, hl⟩ := (s.tickAt tick).putTileStep_eq k
    ((s.tile k).exec (s.tileEnv k bg) ((((s.tickAt tick).workOf k).map (·.2.entryBg)).getD 0) tick w row).1
    ((s.tile k).exec (s.tileEnv k bg) ((((s.tickAt tick).workOf k).map (·.2.entryBg)).getD 0) tick w row).2
  refine ⟨(((s.tickAt tick).workOf k).map (·.2.entryBg)).getD 0, l, n, ?_⟩
  rw [← hl]
  unfold State.tileRow
  rw [State.tile_tickAt, h.task]
  show (match (s.tile k).row (s.tileEnv k bg) _ tick sel with
    | none => s.tickAt tick
    | some (t', reps) => (s.tickAt tick).putTileStep k t' reps) = _
  rw [hrow]
  show (s.tickAt tick).putTileStep k ((s.tile k).exec (s.tileEnv k bg) _ tick ((s.tile k).pLive.get ((s.tile k).ctx bg).pc.toNat) row).1
    ((s.tile k).exec (s.tileEnv k bg) _ tick ((s.tile k).pLive.get ((s.tile k).ctx bg).pc.toNat) row).2 = _
  rw [hw]

/-- An instruction row of a tile at the instruction: after moves that leave `r1`, the operation of the row gives the run
whose written context, program counter and reports the state then holds. -/
theorem State.tile_result {s : State} {k : Nat} {bg : Bool} {w : PWord} (tick : Nat) (sel : Option TOp → Option RowOp)
    (row : RowOp) (h : s.tileAt k bg w) (hs : sel (decodeOp w) = some row) (hb : row.placed = true → s.tileFree k bg) :
    ∃ r1 : TRun, r1 = ((s.tile k).started bg).moves (s.tileEnv k bg) (s.ctx k bg) w row.rule ∧
      ((s.tile k).started bg).Moved r1 ∧
      ∀ r, row.run (s.tileEnv k bg) (s.ctx k bg) r1 = r → r.uncorr = false → r.flow ≠ .tend → r.t = s.tile k →
        ((s.tickAt tick).tileRow k tick sel).ctx k bg = (r.written (s.ctx k bg)).advance r.flow ∧
        (∀ x ∈ r.reps, repOf (s.tickAt tick) k x ∈ ((s.tickAt tick).tileRow k tick sel).flt.reports) ∧
        (∃ l, ((s.tickAt tick).tileRow k tick sel).flt.reports = s.flt.reports ++ l) ∧
        ((s.tickAt tick).tileRow k tick sel).now = (s.tickAt tick).now := by
  obtain ⟨entryBg, l, n, e⟩ := State.tileRow_at tick sel row h hs
  refine ⟨_, rfl, TRun.moved_moves _ _ _ _ _ h.clean, ?_⟩
  intro r hr hu hf ht
  obtain ⟨h1, h2, -⟩ := Tile.exec_ctx (s.tileEnv k bg) entryBg tick w row (s.tile k) hb r hr hu hf
    (fun hbg => by rw [ht]; exact h.stay hbg)
  rw [e]
  refine ⟨?_, ?_, ⟨_, rfl⟩, rfl⟩
  · show ((State.setTile _ k _).plusReports _ |>.tile k).ctx bg = _
    rw [State.tile_plusReports, State.tile_setTile_same _ _ _ (State.lt_of_task h.task)]
    exact h2
  · intro x hx
    show _ ∈ s.flt.reports ++ _
    rw [h1]
    exact List.mem_append_right _ (List.mem_append_left _ (List.mem_map_of_mem hx))

/-- A field of the operation field of a tile word. -/
theorem opBits_eq (w : PWord) (lo n : Nat) (h : lo + n ≤ 16) :
    opBits w lo n = ((w.extractLsb' 48 16).extractLsb' lo n).toNat := by
  unfold opBits
  rw [BitVec.extractLsb'_toNat, BitVec.extractLsb'_toNat, Nat.shiftRight_eq_div_pow, Nat.shiftRight_eq_div_pow, Nat.pow_add,
    ← Nat.div_div_eq_div_mul]
  generalize w.toNat / 2 ^ 48 = x
  apply Nat.eq_of_testBit_eq
  intro i
  simp only [Nat.testBit_mod_two_pow, Nat.testBit_div_two_pow]
  by_cases hi : i < n
  · have : lo + i < 16 := by omega
    simp [hi, Nat.add_comm, this]
  · simp [hi]


@[simp] theorem TRun.putD_uncorr (r : TRun) (i : Fin 8) (v : DWord) : (r.putD i v).uncorr = r.uncorr := rfl
@[simp] theorem TRun.putD_flow (r : TRun) (i : Fin 8) (v : DWord) : (r.putD i v).flow = r.flow := rfl
@[simp] theorem TRun.putD_sticky (r : TRun) (i : Fin 8) (v : DWord) : (r.putD i v).sticky = r.sticky := rfl
@[simp] theorem TRun.putD_d (r : TRun) (i : Fin 8) (v : DWord) : (r.putD i v).c.d = r.c.d.set i v := rfl
@[simp] theorem TRun.putD_a (r : TRun) (i : Fin 8) (v : DWord) : (r.putD i v).c.a = r.c.a := rfl
@[simp] theorem TRun.putD_sr (r : TRun) (i : Fin 8) (v : DWord) : (r.putD i v).c.sr = r.c.sr := rfl
@[simp] theorem TRun.putD_satEv (r : TRun) (i : Fin 8) (v : DWord) : (r.putD i v).satEv = r.satEv := rfl
@[simp] theorem TRun.flags_uncorr (r : TRun) (f : FlagSet) : (r.flags f).uncorr = r.uncorr := rfl
@[simp] theorem TRun.flags_flow (r : TRun) (f : FlagSet) : (r.flags f).flow = r.flow := rfl
@[simp] theorem TRun.flags_sticky (r : TRun) (f : FlagSet) : (r.flags f).sticky = r.sticky := rfl
@[simp] theorem TRun.flags_d (r : TRun) (f : FlagSet) : (r.flags f).c.d = r.c.d := rfl
@[simp] theorem TRun.flags_a (r : TRun) (f : FlagSet) : (r.flags f).c.a = r.c.a := rfl
@[simp] theorem TRun.flags_sr (r : TRun) (f : FlagSet) : (r.flags f).c.sr = f.apply r.c.sr := rfl
@[simp] theorem TRun.flags_satEv (r : TRun) (f : FlagSet) : (r.flags f).satEv = r.satEv := rfl

@[simp] theorem TRun.written_d (r : TRun) (o : TCtx) : (r.written o).d = r.c.d := rfl
@[simp] theorem TRun.written_a (r : TRun) (o : TCtx) : (r.written o).a = r.c.a := rfl
@[simp] theorem TRun.written_sr (r : TRun) (o : TCtx) : (r.written o).sr = r.c.sr ||| r.sticky := rfl

/-- What the advance of the program counter leaves. -/
theorem TCtx.advance_keeps (c : TCtx) (f : Flow) :
    (c.advance f).d = c.d ∧ (c.advance f).a = c.a ∧ (c.advance f).sr = c.sr ∧ (c.advance f).evpend = c.evpend ∧
      (c.advance f).stack = c.stack ∧ (c.advance f).loads = c.loads ∧ (c.advance f).stores = c.stores ∧
      (c.advance f).ax = c.ax ∧ (c.advance f).ay = c.ay ∧ (c.advance f).lc = c.lc := by
  unfold TCtx.advance
  cases f with
  | next =>
    dsimp only
    split
    · exact ⟨rfl, rfl, rfl, rfl, rfl, rfl, rfl, rfl, rfl, rfl⟩
    · split
      · exact ⟨rfl, rfl, rfl, rfl, rfl, rfl, rfl, rfl, rfl, rfl⟩
      · split <;> exact ⟨rfl, rfl, rfl, rfl, rfl, rfl, rfl, rfl, rfl, rfl⟩
  | transfer t => exact ⟨rfl, rfl, rfl, rfl, rfl, rfl, rfl, rfl, rfl, rfl⟩
  | rep n => cases n <;> exact ⟨rfl, rfl, rfl, rfl, rfl, rfl, rfl, rfl, rfl, rfl⟩
  | tend => exact ⟨rfl, rfl, rfl, rfl, rfl, rfl, rfl, rfl, rfl, rfl⟩

@[simp] theorem TCtx.advance_d (c : TCtx) (f : Flow) : (c.advance f).d = c.d := (c.advance_keeps f).1
@[simp] theorem TCtx.advance_a (c : TCtx) (f : Flow) : (c.advance f).a = c.a := (c.advance_keeps f).2.1
@[simp] theorem TCtx.advance_sr (c : TCtx) (f : Flow) : (c.advance f).sr = c.sr := (c.advance_keeps f).2.2.1
@[simp] theorem TCtx.advance_evpend (c : TCtx) (f : Flow) : (c.advance f).evpend = c.evpend := (c.advance_keeps f).2.2.2.1
@[simp] theorem TCtx.advance_stack (c : TCtx) (f : Flow) : (c.advance f).stack = c.stack := (c.advance_keeps f).2.2.2.2.1

/-- The status word with flags put in, bit by bit. -/
theorem FlagSet.apply_bits (f : FlagSet) (sr : BitVec 32) :
    zf (f.apply sr) = f.z.getD (zf sr) ∧ nf (f.apply sr) = f.n.getD (nf sr) ∧ vf (f.apply sr) = f.v.getD (vf sr) ∧
      cf (f.apply sr) = f.c.getD (cf sr) := by
  obtain ⟨z, n, v, c⟩ := f
  rcases z with _ | z <;> rcases n with _ | n <;> rcases v with _ | v <;> rcases c with _ | c <;>
    (try cases z) <;> (try cases n) <;> (try cases v) <;> (try cases c) <;>
    simp [FlagSet.apply, putBit, zf, nf, vf, cf]

/-- Putting flags in leaves the bits above them. -/
theorem FlagSet.apply_above (f : FlagSet) (sr : BitVec 32) (b : Nat) (h : 4 ≤ b) : (f.apply sr).getLsbD b = sr.getLsbD b := by
  have one : ∀ (w : BitVec 32) (i : Nat) (o : Option Bool), i < b → (putBit w i o).getLsbD b = w.getLsbD b := by
    intro w i o hi
    rcases o with _ | o
    · rfl
    · cases o
      · simp only [putBit, BitVec.getLsbD_and, BitVec.getLsbD_not, BitVec.getLsbD_shiftLeft, BitVec.getLsbD_one]
        by_cases hb : b < 32
        · simp [hb]; omega
        · simp [BitVec.getLsbD_of_ge w b (by omega)]
      · simp only [putBit, BitVec.getLsbD_or, BitVec.getLsbD_shiftLeft, BitVec.getLsbD_one]
        simp; omega
  unfold FlagSet.apply
  rw [one _ 3 _ (by omega), one _ 2 _ (by omega), one _ 1 _ (by omega), one _ 0 _ (by omega)]

end Sys2Proof.Machine
end

