-- ==== Sys2Proof/WellFormed.lean ====
section
/-!
DEFINITION. Well-formed commands: which operands name something that the block has. A descriptor's own argument checks are
the command's (it answers REJECTED_ARGS); these checks are the block's numbering of its parts and the form of the tables.
-/
namespace Sys2Proof

/-- Network lanes P0 to P7. -/
def laneOk (n : Nat) : Bool := decide (n < 8)
/-- Matrix lanes 0 to 47, and 48 for the route engine (07 R207, 02 R71). -/
def elemOk (n : Nat) : Bool := decide (n < 49)
/-- Tiles T0 to T67. -/
def tileOk (n : Nat) : Bool := decide (n < 68)
/-- A tick of the slowest period (02 R27). -/
def tickOk (n : Nat) : Bool := decide (n ≤ 45351)
/-- Safe-load groups G0 to G15 (07 R225). -/
def groupOk (n : Nat) : Bool := decide (n < 16)
/-- The data of an updating command that was read: the 40 inline bytes, or the bytes of its buffer (07 R229). -/
def dataOk (e : Env) (addr bytes len : Nat) : Bool := e.readErr || len == (if addr = 0 then 40 else bytes)
/-- Transmit queues 0 to 7 (09 R269). -/
def queueOk (n : Nat) : Bool := decide (n < 8)
/-- Modulator channels M0 to M31. -/
def chanOk (n : Nat) : Bool := decide (n < 32)
/-- Rail senses RS0 to RS3. -/
def railOk (n : Nat) : Bool := decide (n < 4)
/-- The 68 sense inputs that have a converter: CS0 to CS31, VS0 to VS31, RS0 to RS3 (13 R386). -/
def convOk (n : Nat) : Bool := decide (n < 68)
/-- Episode slots 0 to 15 (14 R416). -/
def epOk (n : Nat) : Bool := decide (n < 16)
/-- Serial audio ports SA0 to SA7. -/
def saOk (n : Nat) : Bool := decide (n < 8)
/-- Tile quadrants 0 to 3. -/
def quadOk (n : Nat) : Bool := decide (n < 4)
/-- Power domains PD0 to PD13. -/
def domOk (n : Nat) : Bool := decide (n < 14)
/-- TWA[2:0] (16 R489). -/
def twaOk (n : Nat) : Bool := decide (n < 8)
/-- OSC_FREQ codes (19 R572). -/
def freqOk (n : Nat) : Bool := decide (n < 4)
/-- Seven-bit two-wire addresses (16 R489). -/
def addrOk (n : Nat) : Bool := decide (n < 128)
/-- Blocks that have an access register (21 R609). -/
def blockOk (n : Nat) : Bool := decide (n < 8)
/-- Byte offsets of BAR0, 4 MiB (00 R6). -/
def offsetOk (n : Nat) : Bool := decide (n < 0x400000)

/-- A well-formed command. -/
def Instr.wf (i : Instr) : Bool :=
  match i with
  | .sampleBoundary => true
  | .sstart k tick => tileOk k && tickOk tick
  | .scatterComplete k tick => tileOk k && tickOk tick
  | .laneComplete lane tick => elemOk lane && tickOk tick
  | .park k => tileOk k
  | .scatterDeadline haltTick => tickOk haltTick
  | .windowEnd => true
  | .coldStartEnd k => tileOk k
  | .tNop k tick => tileOk k && tickOk tick
  | .tEnd k tick => tileOk k && tickOk tick
  | .tBra k tick => tileOk k && tickOk tick
  | .tCall k tick => tileOk k && tickOk tick
  | .tRet k tick => tileOk k && tickOk tick
  | .tRte k tick => tileOk k && tickOk tick
  | .tDbnz k tick => tileOk k && tickOk tick
  | .tTrap k tick => tileOk k && tickOk tick
  | .tRep k tick => tileOk k && tickOk tick
  | .tDmac k tick => tileOk k && tickOk tick
  | .tMpy k tick => tileOk k && tickOk tick
  | .tMac k tick => tileOk k && tickOk tick
  | .tMsu k tick => tileOk k && tickOk tick
  | .tMpyn k tick => tileOk k && tickOk tick
  | .tTap k tick => tileOk k && tickOk tick
  | .tMov k tick => tileOk k && tickOk tick
  | .tAdd k tick => tileOk k && tickOk tick
  | .tSub k tick => tileOk k && tickOk tick
  | .tAdds k tick => tileOk k && tickOk tick
  | .tSubs k tick => tileOk k && tickOk tick
  | .tAnd k tick => tileOk k && tickOk tick
  | .tOr k tick => tileOk k && tickOk tick
  | .tXor k tick => tileOk k && tickOk tick
  | .tNot k tick => tileOk k && tickOk tick
  | .tNeg k tick => tileOk k && tickOk tick
  | .tAbs k tick => tileOk k && tickOk tick
  | .tCmp k tick => tileOk k && tickOk tick
  | .tMin k tick => tileOk k && tickOk tick
  | .tMax k tick => tileOk k && tickOk tick
  | .tTst k tick => tileOk k && tickOk tick
  | .tLsl k tick => tileOk k && tickOk tick
  | .tAsr k tick => tileOk k && tickOk tick
  | .tLsr k tick => tileOk k && tickOk tick
  | .tAsls k tick => tileOk k && tickOk tick
  | .tClr k tick => tileOk k && tickOk tick
  | .tMova k tick => tileOk k && tickOk tick
  | .tAdda k tick => tileOk k && tickOk tick
  | .tSuba k tick => tileOk k && tickOk tick
  | .tNega k tick => tileOk k && tickOk tick
  | .tAbsa k tick => tileOk k && tickOk tick
  | .tAsha k tick => tileOk k && tickOk tick
  | .tExt k tick => tileOk k && tickOk tick
  | .tLda k tick => tileOk k && tickOk tick
  | .tCmpa k tick => tileOk k && tickOk tick
  | .tMovc k tick => tileOk k && tickOk tick
  | .tLdiw k tick => tileOk k && tickOk tick
  | .tDith k tick => tileOk k && tickOk tick
  | .undefinedInstruction k tick => tileOk k && tickOk tick
  | .eventTaken k => tileOk k
  | .structLoad .. => true
  | .structPatch .. => true
  | .structCopy .. => true
  | .structCommit .. => true
  | .structCancel .. => true
  | .structDiscard .. => true
  | .structStatus .. => true
  | .structBootWrite .. => true
  | .structKeySet .. => true
  | .imageCheckComplete .. => true
  | .imageWriteComplete .. => true
  | .commitLockPoint => true
  | .pathLatency .. => true
  | .pathLatencyDump .. => true
  | .slotPeek .. => true
  | .saportStatus .. => true
  | .tileReport .. => true
  | .xpointSet e _ _ count addr data => dataOk e addr (8 * count) data.length
  | .rampSet e _ _ count addr data => dataOk e addr (8 * count) data.length
  | .tileParamWrite e _ _ _ _ _ count buf data => dataOk e buf (4 * count) data.length
  | .safeApply .. => true
  | .safeDiscard .. => true
  | .safeStatus .. => true
  | .safeLockPoint group => groupOk group
  | .xpointGet .. => true
  | .sumStatus .. => true
  | .rampStatus .. => true
  | .delayStatus .. => true
  | .delayLineStatus .. => true
  | .delayMemConfig .. => true
  | .delayMemRetrain .. => true
  | .delayBlockRead .. => true
  | .delayScrubRead .. => true
  | .dmTrainingDone .. => true
  | .dmTrainingRetry => true
  | .dmDownTimer => true
  | .dmMr4Read .. => true
  | .dmTrackingRead => true
  | .dmPllLockLoss => true
  | .netPortConfig .. => true
  | .netQueueConfig .. => true
  | .netSwitchConfig .. => true
  | .netStreamFwd e count addr data => dataOk e addr (8 * count) data.length
  | .netMacSet e count addr data => dataOk e addr (16 * count) data.length
  | .netFrrSet .. => true
  | .netFwdGet .. => true
  | .netCounters .. => true
  | .netRevert lane _ => laneOk lane
  | .rateSearchDwell lane _ => laneOk lane
  | .pcsLockHeld lane _ => laneOk lane
  | .pcsLockLost lane _ => laneOk lane
  | .heartbeatTx lane _ => laneOk lane
  | .heartbeatRx lane _ _ => laneOk lane
  | .heartbeatMiss lane _ => laneOk lane
  | .dampedClear lane _ => laneOk lane
  | .frrRestore lane _ => laneOk lane
  | .macAgeOut .. => true
  | .frameRx lane _ => laneOk lane
  | .frameTxDone lane _ _ _ => laneOk lane
  | .largeSend lane queue _ _ _ _ => laneOk lane && queueOk queue
  | .cpFrameSend lane queue _ _ _ => laneOk lane && queueOk queue
  | .streamFrameRx => true
  | .belayCompareExpiry .. => true
  | .aes67PacketRx => true
  | .cmdFrameRx => true
  | .cmdReplyFlush .. => true
  | .streamStatus .. => true
  | .belayStatus .. => true
  | .aes67Bind e count addr data => dataOk e addr (24 * count) data.length
  | .ptpMessageRx lane _ _ => laneOk lane
  | .timeGet .. => true
  | .ptpConfig .. => true
  | .ptpPortConfig .. => true
  | .tsCalSet .. => true
  | .ptpStatus .. => true
  | .ppsOutConfig .. => true
  | .tsSnap .. => true
  | .ppsOutEdge .. => true
  | .tsCalTimeout lane _ => laneOk lane
  | .ptpServoUpdate lane _ _ => laneOk lane
  | .ppsInEdge .. => true
  | .refEvaluation .. => true
  | .refWindowEnd .. => true
  | .esmcPduTx lane _ => laneOk lane
  | .refStatusGet .. => true
  | .refCandConfig .. => true
  | .refOscTrimSet .. => true
  | .mediaRealign .. => true
  | .mclkConfig .. => true
  | .esmcConfig .. => true
  | .modulatorTick .. => true
  | .tripQualify ch _ _ => chanOk ch
  | .limitQualify ch _ _ => chanOk ch
  | .safeNFall .. => true
  | .safeNRelease .. => true
  | .hiccupExpiry ch _ => chanOk ch
  | .softStartEnd ch => chanOk ch
  | .stopRampEnd ch => chanOk ch
  | .dcBlockEnd ch => chanOk ch
  | .railOutOfLimits rail _ _ => railOk rail
  | .railWithinLimits rail _ _ => railOk rail
  | .converterSelfCheck conv _ _ => convOk conv
  | .calSweep .. => true
  | .pstageStatus .. => true
  | .pstageClear .. => true
  | .pstageStop .. => true
  | .pstageStart .. => true
  | .pstageRailConfig .. => true
  | .pstageLoopConfig .. => true
  | .faultDecision .. => true
  | .conditionCleared .. => true
  | .settleTimerExpiry slot _ => epOk slot
  | .recoveryStart slot _ => epOk slot
  | .recoverySuccess slot _ => epOk slot
  | .recoveryTimeout slot _ => epOk slot
  | .faultNPulseEnd .. => true
  | .overflowClear .. => true
  | .watchdogExpiry .. => true
  | .faultStatus .. => true
  | .faultEpisodeGet .. => true
  | .faultLogRead .. => true
  | .faultClear .. => true
  | .faultAck .. => true
  | .faultPinConfig .. => true
  | .faultInject .. => true
  | .cmdSqTail .. => true
  | .cmdCqHead .. => true
  | .portEnable .. => true
  | .portDisable .. => true
  | .pcieDmaError .. => true
  | .pcieLinkDown .. => true
  | .pciePerst .. => true
  | .cqFullTimeout .. => true
  | .devIdentity .. => true
  | .devNodeIdSet .. => true
  | .cmdAbort .. => true
  | .cmdPortPrivSet .. => true
  | .cmdKeySet .. => true
  | .cmdPortStatus .. => true
  | .cmdEcho .. => true
  | .twStart addr _ _ => addrOk addr
  | .twByteWrite .. => true
  | .twByteRead .. => true
  | .twStop .. => true
  | .twFramingError .. => true
  | .twSclLow .. => true
  | .twSdaLow .. => true
  | .twSafeSeqExpiry .. => true
  | .fwStatus .. => true
  | .fwStage .. => true
  | .fwStageDiscard .. => true
  | .fwActivate .. => true
  | .fwActivateCopyDone .. => true
  | .ucodeReload .. => true
  | .fwConfirm .. => true
  | .fwRevert .. => true
  | .flashLogRead .. => true
  | .trialHealthEvaluation .. => true
  | .trialTimerExpiry .. => true
  | .firmwareBoot .. => true
  | .flashLogCopy .. => true
  | .healthStatus .. => true
  | .ageingReport .. => true
  | .selftestTile .. => true
  | .selftestResult .. => true
  | .selftestCancel .. => true
  | .tileMigrate .. => true
  | .maintEnter .. => true
  | .maintExit .. => true
  | .selftestFull .. => true
  | .calConfig .. => true
  | .migrationPass1End q => quadOk q
  | .migrationPass2End q => quadOk q
  | .selftestEnd q _ _ _ _ => quadOk q
  | .ageingMeasurement .. => true
  | .stressAccumulate .. => true
  | .dailyHealth .. => true
  | .softReset .. => true
  | .engineRestart .. => true
  | .chipReset .. => true
  | .devDomainSet .. => true
  | .devPowerStatus .. => true
  | .domainRampOnDone d _ => domOk d
  | .domainRampOnFail d _ => domOk d
  | .domainRampOffDone d _ => domOk d
  | .powerOnReset _ _ twa _ => twaOk twa
  | .resetNFall .. => true
  | .resetNRise .. => true
  | .oscInDetected freq _ => freqOk freq
  | .oscInLoss .. => true
  | .avsEnSet .. => true
  | .avsEnClear .. => true
  | .avsHoldSet .. => true
  | .avsHoldClear .. => true
  | .avsCtrlWrite .. => true
  | .avsHoldTimerExpiry .. => true
  | .avsVoltageRead .. => true
  | .avsConfirmTimeout .. => true
  | .avsWriteRetry .. => true
  | .avsFailedRetry .. => true
  | .saportFrame port _ _ _ _ => saOk port
  | .saportFsTimeout port => saOk port
  | .accessKeyWrite _ block _ _ => blockOk block
  | .accessUnlockExpiry _ block _ => blockOk block
  | .fltPinCtrlWrite .. => true
  | .rcRegisterRead _ off _ => offsetOk off
  | .registerWrite _ off _ _ _ => offsetOk off
  | .commandTimeout .. => true
  | .flashOperationDone .. => true
  | .selftestFullEnd .. => true
  | .pcieLinkUp .. => true
  | .announceReceiptTimeout lane => laneOk lane
  | .tsCalibrationComplete lane _ => laneOk lane
  | .hardwareHoldover .. => true

end Sys2Proof
end

