-- ==== Sys2Proof/Tests/Slice0.lean ====
section
/-!
SUPPORT. Tests of the model on small states: for every statement with premises a state and operands that meet them, clause
by clause; ill-formed commands; tile words of the manual's examples; single steps. Expected values come from the manual.
-/
namespace Sys2Proof.Tests

open Sys2Proof.Machine

/-! States for the witnesses. -/

/-- The environment of a command on a port. -/
def envOf (q : CPort) : Env := ⟨q, 0, 7, 0, 0, false⟩
/-- The environment on port A. -/
def eA : Env := envOf .A
/-- The environment on port D, the two-wire target. -/
def eD : Env := envOf .D
/-- The facts of a host command. -/
def infoOf (i : Instr) : CmdInfo := (cmdInfo i).getD ⟨eA, 0, none⟩

/-- A port with rings that has one descriptor to take and a ring of 64 entries. -/
def openPort : PortS := { PortS.reset .active 0xFFFF 0xFF with avail := 1, cqLog2 := 6, linkUp := true }

/-- The part after its boot: clocks and domains up, the control processor and command service running, ports A and D open. -/
def up : State := { State.reset with
  now := 5000000000
  pwr := { Pwr.reset with released := true, oscOk := true, cpRunning := true, service := true, coldBoot := false, porBoot := false }
  per := { Per.reset with started := true, boundaries := 1000, mediaTime := 77000 }
  ports := { Ports.reset with a := openPort, b := { Ports.reset.b with linkUp := true } } }

/-- A state with a descriptor of an operation in the window of port D, tag 7. -/
def onD (op : Nat) (s : State) : State :=
  { s with
    ports := { s.ports with d := openPort }
    tw := { s.tw with sq := [(0x100, BitVec.ofNat 8 op), (0x101, BitVec.ofNat 8 (op / 256)), (0x104, 7)].filter (fun x => x.2 != 0) } }

/-- A plane with nothing in it. -/
def plane : Plane where
  digest := []
  baseRate := 3
  ditherSeed := 0
  imageId := 0
  nodeId := 0
  patchSeq := 0
  millinerVersion := 0
  spare := []
  tiles := []
  data := []
  routes := []
  xpoints := []
  sums := []
  ramps := []
  lines := []
  streams := []
  saports := []
  modulators := []
  refPol := none
  faultPol := []
  enginePol := ⟨false, 70, 10, 60⟩
  latency := []
  sections := []

/-- The part with a structure LIVE. -/
def live (p : Plane) : State := { up with pl := { Planes.reset with live := some p } }

/-- A command in flight at port A. -/
def flightOf (i : Instr) : Flight := ⟨7, i, 9, false, false, true, false, 0, 0, 0, 0, 0xFFFF, 0xFF, 0⟩
/-- A state with that command in flight. -/
def flying (s : State) (i : Instr) : State := s.setPort .A { openPort with avail := 0, flights := [flightOf i] }

/-- A word whose operation field is given. -/
def word16 (n : Nat) : PWord := BitVec.ofNat 64 (n * 2 ^ 48)
/-- A state in which tile 5 is about to execute a word in a task. -/
def onTile (bg : Bool) (w : PWord) (c : TCtx) : State :=
  up.setTile 5 { Tile.reset with run := if bg then .bg else .fg, pLive := [(0, w)], fg := if bg then TCtx.cold 0 false else c
                                 bg := if bg then c else TCtx.cold 0 true }
/-- A context with operands. -/
def ctx5 (bg : Bool) : TCtx := { TCtx.cold 0 bg with
  d := #v[0x7FFFFFFF, 1, 0x80000000, 0xFFFFFFFF, 3, 5, 0x40000000, 40], a := #v[7, -1, 2 ^ 79 - 1, 0] }

theorem of_rd {α : Type} [Inhabited α] {n : Nat} (v : Vector α n) (P : α → Prop) (h : ∀ i, P (v.get i)) (hd : P default) (k : Nat) :
    P (rd v k) := by
  unfold rd
  rcases Nat.lt_or_ge k n with hk | hk
  · rw [Vector.getElem?_eq_getElem hk]
    exact h ⟨k, hk⟩
  · rw [Vector.getElem?_eq_none hk]
    exact hd

theorem unpaired {s : State} (h : s.pl.live = none) (k : Nat) : s.paired k = false := by
  unfold State.paired State.modRec
  rw [h]
  rfl

/-- Command service can act no further, as a check. -/
def calmB (s : State) : Bool :=
  [CPort.A, .B, .C, .D].all (fun q => (s.port q).flights.all (fun f => f.started && !f.fence && !f.waits) &&
    (s.port q).placed.isEmpty && !s.unknownDesc q)

theorem calm_of {s : State} (h : calmB s = true) : s.portsCalm := by
  simp only [calmB, Bool.and_eq_true, List.all_eq_true, Bool.not_eq_true', List.isEmpty_iff, List.mem_cons, List.not_mem_nil,
    or_false, forall_eq_or_imp, forall_eq] at h
  obtain ⟨ha, hb, hc, hd⟩ := h
  intro q
  cases q
  · exact ⟨fun f hf => ⟨(ha.1.1 f hf).1.1, (ha.1.1 f hf).1.2, (ha.1.1 f hf).2⟩, ha.1.2, ha.2⟩
  · exact ⟨fun f hf => ⟨(hb.1.1 f hf).1.1, (hb.1.1 f hf).1.2, (hb.1.1 f hf).2⟩, hb.1.2, hb.2⟩
  · exact ⟨fun f hf => ⟨(hc.1.1 f hf).1.1, (hc.1.1 f hf).1.2, (hc.1.1 f hf).2⟩, hc.1.2, hc.2⟩
  · exact ⟨fun f hf => ⟨(hd.1.1 f hf).1.1, (hd.1.1 f hf).1.2, (hd.1.1 f hf).2⟩, hd.1.2, hd.2⟩

/-- Command service has nothing to do, as a check. -/
def idleB (s : State) : Bool := calmB s && [CPort.A, .B, .C, .D].all (fun q => (s.port q).waiting.isEmpty)

theorem idle_of {s : State} (h : idleB s = true) : s.portsIdle := by
  simp only [idleB, Bool.and_eq_true, List.all_eq_true, List.isEmpty_iff, List.mem_cons, List.not_mem_nil,
    or_false, forall_eq_or_imp, forall_eq] at h
  obtain ⟨h1, ha, hb, hc, hd⟩ := h
  intro q
  have := calm_of h1 q
  cases q
  · exact ⟨this.1, this.2.1, this.2.2, ha⟩
  · exact ⟨this.1, this.2.1, this.2.2, hb⟩
  · exact ⟨this.1, this.2.1, this.2.2, hc⟩
  · exact ⟨this.1, this.2.1, this.2.2, hd⟩

/-- The descriptor that the engine holds for a command spells it. -/
def spellsB (s : State) (c : CmdInfo) : Bool :=
  match s.nextDesc c.env.port with
  | none => true
  | some d => decide (leNat (slice d 0 2) = c.opcode) && decide (leNat (slice d 2 2) = c.env.flags.toNat) &&
      decide (leNat (slice d 4 4) = c.env.tag.toNat)

/-- What a state must show for a command to meet an idle service. -/
def meetsB (s : State) (c : CmdInfo) : Bool :=
  let p := s.port c.env.port
  decide (c.env.port ≠ .C) && s.pwr.service && idleB s && [CPort.A, .B, .C, .D].all (fun q => decide ((s.port q).flights.length < 4)) &&
  decide (p.st = .active) && decide (1 ≤ p.avail) && decide (p.ring.length + 16 ≤ p.cqSize c.env.port) &&
  p.flights.all (fun g => g.handle != s.nextHandle c.env.port) && !s.boot.recovery && decide (c.env.flags.toNat < 32) &&
  !c.env.flags.getLsbD 0 && !c.env.flags.getLsbD 1 && bit p.groups (c.opcode / 256) &&
  (match c.priv with | some v => bit p.privs v | none => true) && !c.env.readErr && spellsB s c &&
  (decide (c.env.port ≠ .D) || decide ((s.port .D).avail = 1))

theorem meets_of {s : State} {i : Instr} {c : CmdInfo} (hi : cmdInfo i = some c) (h : meetsB s c = true) : s.meets i c := by
  simp only [meetsB, Bool.and_eq_true, decide_eq_true_eq, List.all_eq_true, Bool.not_eq_true', bne_iff_ne, ne_eq,
    List.mem_cons, List.not_mem_nil, or_false, forall_eq_or_imp, forall_eq, Bool.or_eq_true] at h
  obtain ⟨⟨⟨⟨⟨⟨⟨⟨⟨⟨⟨⟨⟨⟨⟨⟨h1, h2⟩, h3⟩, hf⟩, h4⟩, h5⟩, h6⟩, h7⟩, h8⟩, h9⟩, h10⟩, h11⟩, h12⟩, h13⟩, h14⟩, h15⟩, h16⟩ := h
  refine ⟨hi, h1, h2, idle_of h3, h4, h5, h6, ?_, fun g hg => h7 g hg, h8, h9, h10, h11, h12, ?_, h14, ?_, fun hd => h16.resolve_left (fun h => h hd)⟩
  · intro q
    cases q
    · exact hf.1
    · exact hf.2.1
    · exact hf.2.2.1
    · exact hf.2.2.2
  · intro v hv
    rw [hv] at h13
    exact h13
  · intro d hd
    simp only [spellsB, hd, Bool.and_eq_true, decide_eq_true_eq] at h15
    exact ⟨h15.1.1, h15.1.2, h15.2⟩

/-- What a state must show for a command in flight to be answered at once. -/
def canAnswerB (s : State) (q : CPort) (f : Flight) : Bool :=
  let p := s.port q
  decide (q ≠ .C) && s.pwr.service && decide (p.flight? f.handle = some f) && decide (p.st = .active) && p.waiting.isEmpty &&
    decide (p.ring.length + 16 ≤ p.cqSize q)

theorem canAnswer_of {s : State} {q : CPort} {f : Flight} (h : canAnswerB s q f = true) : s.canAnswer q f := by
  simp only [canAnswerB, Bool.and_eq_true, decide_eq_true_eq, List.isEmpty_iff] at h
  obtain ⟨⟨⟨⟨⟨h1, h2⟩, h3⟩, h4⟩, h5⟩, h6⟩ := h
  exact ⟨h1, h2, h3, h4, h5, h6⟩

/-- A network lane that is UP and transmits a frame. -/
def upLane : Lane := { Lane.reset with st := .up, mode := 0, pcsLock := true, inTx := some default }
/-- A lane in a link state. -/
def laneIs (l : Lane) : State := up.setLane 7 l
/-- A frame of 60 bytes from the address 2 to an address. -/
def frame60 (da etype : Nat) : List Byte := beBytes 6 da ++ beBytes 6 2 ++ beBytes 2 etype ++ List.replicate 46 0
/-- A frame received without an error. -/
def rx60 (b : List Byte) : RxFrame := { bytes := b, t := 0 }

theorem admits_small {n : Net} {port q : Nat} {f : Frame} (h : n.stored = []) (hf : f.cells ≤ (n.queue port q).rsv) :
    n.admits port q f = true := by
  have e : f.cells - min f.cells (n.queue port q).rsv = 0 := by omega
  simp [Net.admits, Net.charge, Net.rsvUsed, h, e]

theorem single_add {α : Type} {x : α} {d : α → Bool} {Q : List α → α → Prop} (hx : d x = false) :
    ∀ pre y post, [x] = pre ++ y :: post → d y = true → Q pre y := by
  intro pre y post h hy
  rcases pre with _ | ⟨a, as⟩
  · simp only [List.nil_append, List.cons.injEq] at h
    rw [← h.1, hx] at hy
    exact absurd hy (by decide)
  · simp at h

/-- A frame that waits at the stream engine's port. -/
def atPe (k : PeKind) (b : List Byte) : State :=
  { up with
    pl := { Planes.reset with live := some { plane with streams := [⟨true, k != .stream, 1, 0x3007, 9, 1, 20, false, false, false, 0, 0, false, 0, 0, 0⟩] } }
    net := up.net.setQueue 8 7 ⟨[{ (default : Frame) with bytes := b, arriveOff := 100, arriveMt := 77000, pe := k }], 32, 4096, 0, 0⟩ }
/-- A stream frame of stream 0x003007 with a channel count, media time 77,000 and one sample. -/
def streamFrame (ch : Nat) : List Byte :=
  beBytes 6 1 ++ beBytes 6 2 ++ beBytes 2 0x88B5 ++ beBytes 1 0x10 ++ beBytes 3 0x3007 ++ [1, 0x80] ++ beBytes 2 3 ++ beBytes 6 77000 ++
  beBytes 1 1 ++ beBytes 1 ch ++ beBytes 4 0 ++ beBytes 4 0 ++ beBytes 4 0x12345678 ++ List.replicate 20 0
/-- An AES67 packet of one 24-bit sample with its first RTP byte. -/
def rtpFrame (b0 : Byte) : List Byte :=
  beBytes 6 1 ++ beBytes 6 2 ++ beBytes 2 0x0800 ++ [0x45, 0] ++ beBytes 2 43 ++ beBytes 4 0 ++ [64, 17] ++ beBytes 10 0 ++
  beBytes 4 0x50005000 ++ beBytes 2 23 ++ beBytes 2 0 ++ [b0, 96] ++ beBytes 2 0 ++ beBytes 4 77000 ++ beBytes 4 5 ++ [0x80, 0, 1, 0, 0, 0]

/-- A CMD frame of one DEV_IDENTITY descriptor with its MAC, under key 7 with counter 9. -/
def cmdFrame : List Byte :=
  beBytes 6 1 ++ beBytes 6 2 ++ beBytes 2 0x88B5 ++ [0x80, 1, 0, 0, 7, 0] ++ beBytes 2 1 ++ beBytes 8 9 ++ [1, 9] ++ List.replicate 62 0 ++
  beBytes 16 0xc378156f02100de08b081066de257a1a
/-- The key. -/
def key7 : Key := ⟨List.replicate 32 5, 0x3FE, 0x7F, 8, 8, 0, 0⟩
/-- The part with a key for port C. -/
def keyed : State := { up with ports := { up.ports with pc := { PortC.reset with keys := [(7, key7)], lastKey := 7, lastLane := 7, held := [⟨1, 2, 3, 4, 0, 0, 1, 0, [], true, 0⟩] } } }

/-- A channel record without a pair. -/
def modK (k : Nat) : ModRec := ⟨k, true, false, false, false, 4, 0, 10, 5, 0x4000, 0x7000, 100, 1, 10, 25, 0, 0⟩
/-- The part with a channel of that record, and rail 1 set. -/
def amp (k : Nat) (c : Chan) : State :=
  { live { plane with modulators := [modK k] } with
    pst := { Pst.reset with chans := wr (Vector.replicate 32 Chan.reset) k c
                            rails := wr (Vector.replicate 4 ⟨none, false, false, false, 0⟩) 1 ⟨some ⟨100000, 48000, 40000, 56000⟩, false, false, false, 31457⟩ } }

theorem unpaired_of {s : State} {p : Plane} (h : s.pl.live = some p) (hb : p.modulators.all (fun r => !r.btl) = true) (k : Nat) :
    s.paired k = false := by
  have hm : ∀ j r, s.modRec j = some r → r.btl = false := by
    intro j r hr
    unfold State.modRec at hr
    rw [h] at hr
    have := List.all_eq_true.mp hb r (List.mem_of_find?_eq_some hr)
    simpa using this
  unfold State.paired
  cases ha : s.modRec (k / 2 * 2) with
  | none => rfl
  | some a =>
    cases s.modRec (k / 2 * 2 + 1) with
    | none => rfl
    | some b => simp [hm _ _ ha]

theorem none_enabled {s : State} (h : s.ref.pol.enableMask = 0) (i : Nat) : s.ref.enabled i = false := by
  simp [Ref.enabled, bit, h]

theorem conds_of {s : State} {i : Nat} (h : ∀ k : Fin 16, k.val ≠ i → (s.flt.eps.get k).conds = []) {j : Nat} (hj : j ≠ i) :
    (s.ep j).conds = [] := by
  unfold State.ep rd
  rcases Nat.lt_or_ge j 16 with hk | hk
  · rw [Vector.getElem?_eq_getElem hk]
    exact h ⟨j, hk⟩ hj
  · rw [Vector.getElem?_eq_none hk]
    rfl

theorem of_getD {α : Type} {n : Nat} (v : Vector α n) (P : α → Prop) (h : ∀ i, P (v.get i)) {d : α} (hd : P d) (k : Nat) :
    P (v[k]?.getD d) := by
  rcases Nat.lt_or_ge k n with hk | hk
  · rw [Vector.getElem?_eq_getElem hk]
    exact h ⟨k, hk⟩
  · rw [Vector.getElem?_eq_none hk]
    exact hd

/-- A boot record. -/
def recd (st : RecSt) (b : Bool) : BootRec := { BootRec.dflt with seq := 5, st := st, slotB := b }
/-- The part with a boot record and a staged image of 512 bytes. -/
def booted (st : RecSt) (b : Bool) : State :=
  { up with boot := { Boot.reset with recs := #v[some (recd st b), none], stage := .staged (List.replicate 512 0) } }

theorem of_rdI {α : Type} [Inhabited α] {n : Nat} (v : Vector α n) (P : Nat → α → Prop) (h : ∀ i : Fin n, P i (v.get i))
    (hd : ∀ k, P k default) (k : Nat) : P k (rd v k) := by
  unfold rd
  rcases Nat.lt_or_ge k n with hk | hk
  · rw [Vector.getElem?_eq_getElem hk]
    exact h ⟨k, hk⟩
  · rw [Vector.getElem?_eq_none hk]
    exact hd k

/-- The part with a domain in a state, and a command in flight. -/
def domIs (d : Nat) (x : DomSt) (i : Instr) (c : List DomCmd) : State :=
  let s := up.setPort .A { openPort with flights := [flightOf i] }
  { s with pwr := { s.pwr with dom := wr s.pwr.dom d x, domCmds := c } }

/-- A structure image of 432 bytes with one delay line, built from 03 R78 to R99 (CRC-32 and SHA-384 computed outside). -/
def lineImage : List Byte :=
  leBytes 17 0x8000040301000001B00080000252545346 ++ List.replicate 79 0 ++ leBytes 4 0x43322110 ++ List.replicate 24 0 ++
    leBytes 28 0x10E278080000000100000018000001000000FFFF000100073936A4A2 ++ List.replicate 8 0 ++
    leBytes 24 0x4B4E6A950000000100000010000001200000FFFF0001000D ++ List.replicate 8 0 ++ leBytes 10 0x1300000FFFF0001000E ++
    List.replicate 22 0 ++ leBytes 24 0x752669480000000100000080000001300000FFFF0001000F ++ List.replicate 12 0 ++
    leBytes 9 0x400000001000000001 ++ List.replicate 20 0 ++ leBytes 3 0x3C0A46 ++ List.replicate 12 0 ++
    leBytes 48 0x7E57171AD0E77CE044CE21CC729EF5A2B6E057008A348B054DC994D8E9725779FD071B7517B603C315290B87B32ED5E1 ++
    leBytes 48 0x7E57171AD0E77CE044CE21CC729EF5A2B6E057008A348B054DC994D8E9725779FD071B7517B603C315290B87B32ED5E1 ++
    leBytes 2 0x2400 ++ List.replicate 10 0 ++ leBytes 1 0x1 ++ List.replicate 9 0 ++ leBytes 3 0x10001 ++ List.replicate 7 0

/-- The part while its delay memory trains. -/
def training : State := { up with dm := { Dm.reset with st := .training } }

set_option maxRecDepth 20000 in
theorem line_image_waits : training.holdsFit (loadChecks (training.loadEnv 1 432 none) lineImage) = true := by decide +kernel

/-! WITNESSES. One theorem for each statement with premises: a clause of it, a state and operands that meet its premises. -/

theorem witness_tile_data_alu :
    (∃ (s : State) (k : Nat) (bg : Bool) (w : PWord) (dd : Fin 8) (ds : Fin 8), s.tileAt k bg w ∧ opBits w 12 4 = 6 ∧
      opBits w 5 3 = dd.val ∧ opBits w 2 3 = ds.val ∧ opBits w 8 4 = 0) ∧
    (∃ (s : State) (k : Nat) (bg : Bool) (w : PWord) (dd : Fin 8) (ds : Fin 8), s.tileAt k bg w ∧ opBits w 12 4 = 6 ∧
      opBits w 5 3 = dd.val ∧ opBits w 2 3 = ds.val ∧ opBits w 8 4 = 1) ∧
    (∃ (s : State) (k : Nat) (bg : Bool) (w : PWord) (dd : Fin 8) (ds : Fin 8), s.tileAt k bg w ∧ opBits w 12 4 = 6 ∧
      opBits w 5 3 = dd.val ∧ opBits w 2 3 = ds.val ∧ opBits w 8 4 = 2) ∧
    (∃ (s : State) (k : Nat) (bg : Bool) (w : PWord) (dd : Fin 8) (ds : Fin 8), s.tileAt k bg w ∧ opBits w 12 4 = 6 ∧
      opBits w 5 3 = dd.val ∧ opBits w 2 3 = ds.val ∧ opBits w 8 4 = 3) ∧
    (∃ (s : State) (k : Nat) (bg : Bool) (w : PWord) (dd : Fin 8) (ds : Fin 8), s.tileAt k bg w ∧ opBits w 12 4 = 6 ∧
      opBits w 5 3 = dd.val ∧ opBits w 2 3 = ds.val ∧ opBits w 8 4 = 4) ∧
    (∃ (s : State) (k : Nat) (bg : Bool) (w : PWord) (dd : Fin 8) (ds : Fin 8), s.tileAt k bg w ∧ opBits w 12 4 = 6 ∧
      opBits w 5 3 = dd.val ∧ opBits w 2 3 = ds.val ∧ opBits w 8 4 = 5) ∧
    (∃ (s : State) (k : Nat) (bg : Bool) (w : PWord) (dd : Fin 8) (ds : Fin 8), s.tileAt k bg w ∧ opBits w 12 4 = 6 ∧
      opBits w 5 3 = dd.val ∧ opBits w 2 3 = ds.val ∧ opBits w 8 4 = 6) ∧
    (∃ (s : State) (k : Nat) (bg : Bool) (w : PWord) (dd : Fin 8) (ds : Fin 8), s.tileAt k bg w ∧ opBits w 12 4 = 6 ∧
      opBits w 5 3 = dd.val ∧ opBits w 2 3 = ds.val ∧ opBits w 8 4 = 7) ∧
    (∃ (s : State) (k : Nat) (bg : Bool) (w : PWord) (dd : Fin 8) (ds : Fin 8), s.tileAt k bg w ∧ opBits w 12 4 = 6 ∧
      opBits w 5 3 = dd.val ∧ opBits w 2 3 = ds.val ∧ opBits w 8 4 = 8) ∧
    (∃ (s : State) (k : Nat) (bg : Bool) (w : PWord) (dd : Fin 8) (ds : Fin 8), s.tileAt k bg w ∧ opBits w 12 4 = 6 ∧
      opBits w 5 3 = dd.val ∧ opBits w 2 3 = ds.val ∧ opBits w 8 4 = 9) ∧
    (∃ (s : State) (k : Nat) (bg : Bool) (w : PWord) (dd : Fin 8) (ds : Fin 8), s.tileAt k bg w ∧ opBits w 12 4 = 6 ∧
      opBits w 5 3 = dd.val ∧ opBits w 2 3 = ds.val ∧ opBits w 8 4 = 10) ∧
    (∃ (s : State) (k : Nat) (bg : Bool) (w : PWord) (dd : Fin 8) (ds : Fin 8), s.tileAt k bg w ∧ opBits w 12 4 = 6 ∧
      opBits w 5 3 = dd.val ∧ opBits w 2 3 = ds.val ∧ opBits w 8 4 = 11) ∧
    (∃ (s : State) (k : Nat) (bg : Bool) (w : PWord) (dd : Fin 8) (ds : Fin 8), s.tileAt k bg w ∧ opBits w 12 4 = 6 ∧
      opBits w 5 3 = dd.val ∧ opBits w 2 3 = ds.val ∧ opBits w 8 4 = 12) ∧
    (∃ (s : State) (k : Nat) (bg : Bool) (w : PWord) (dd : Fin 8) (ds : Fin 8), s.tileAt k bg w ∧ opBits w 12 4 = 6 ∧
      opBits w 5 3 = dd.val ∧ opBits w 2 3 = ds.val ∧ opBits w 8 4 = 13) ∧
    (∃ (s : State) (k : Nat) (bg : Bool) (w : PWord) (dd : Fin 8) (ds : Fin 8), s.tileAt k bg w ∧ opBits w 12 4 = 6 ∧
      opBits w 5 3 = dd.val ∧ opBits w 2 3 = ds.val ∧ opBits w 8 4 = 14) ∧
    (∃ (s : State) (k : Nat) (bg : Bool) (w : PWord) (dd : Fin 8) (ds : Fin 8), s.tileAt k bg w ∧ opBits w 12 4 = 6 ∧
      opBits w 5 3 = dd.val ∧ opBits w 2 3 = ds.val ∧ opBits w 8 4 = 15) :=
  ⟨
    ⟨onTile true (word16 0x600C) (ctx5 true), 5, true, word16 0x600C, 0, 3,
      ⟨by decide, by decide, by decide, by decide, by decide⟩, by and_intros <;> decide⟩,
    ⟨onTile false (word16 0x6130) (ctx5 false), 5, false, word16 0x6130, 1, 4,
      ⟨by decide, by decide, by decide, by decide, by decide⟩, by and_intros <;> decide⟩,
    ⟨onTile true (word16 0x6254) (ctx5 true), 5, true, word16 0x6254, 2, 5,
      ⟨by decide, by decide, by decide, by decide, by decide⟩, by and_intros <;> decide⟩,
    ⟨onTile false (word16 0x6378) (ctx5 false), 5, false, word16 0x6378, 3, 6,
      ⟨by decide, by decide, by decide, by decide, by decide⟩, by and_intros <;> decide⟩,
    ⟨onTile true (word16 0x649C) (ctx5 true), 5, true, word16 0x649C, 4, 7,
      ⟨by decide, by decide, by decide, by decide, by decide⟩, by and_intros <;> decide⟩,
    ⟨onTile false (word16 0x65A0) (ctx5 false), 5, false, word16 0x65A0, 5, 0,
      ⟨by decide, by decide, by decide, by decide, by decide⟩, by and_intros <;> decide⟩,
    ⟨onTile true (word16 0x66C4) (ctx5 true), 5, true, word16 0x66C4, 6, 1,
      ⟨by decide, by decide, by decide, by decide, by decide⟩, by and_intros <;> decide⟩,
    ⟨onTile false (word16 0x67E8) (ctx5 false), 5, false, word16 0x67E8, 7, 2,
      ⟨by decide, by decide, by decide, by decide, by decide⟩, by and_intros <;> decide⟩,
    ⟨onTile true (word16 0x680C) (ctx5 true), 5, true, word16 0x680C, 0, 3,
      ⟨by decide, by decide, by decide, by decide, by decide⟩, by and_intros <;> decide⟩,
    ⟨onTile false (word16 0x6930) (ctx5 false), 5, false, word16 0x6930, 1, 4,
      ⟨by decide, by decide, by decide, by decide, by decide⟩, by and_intros <;> decide⟩,
    ⟨onTile true (word16 0x6A54) (ctx5 true), 5, true, word16 0x6A54, 2, 5,
      ⟨by decide, by decide, by decide, by decide, by decide⟩, by and_intros <;> decide⟩,
    ⟨onTile false (word16 0x6B78) (ctx5 false), 5, false, word16 0x6B78, 3, 6,
      ⟨by decide, by decide, by decide, by decide, by decide⟩, by and_intros <;> decide⟩,
    ⟨onTile true (word16 0x6C9C) (ctx5 true), 5, true, word16 0x6C9C, 4, 7,
      ⟨by decide, by decide, by decide, by decide, by decide⟩, by and_intros <;> decide⟩,
    ⟨onTile false (word16 0x6DA0) (ctx5 false), 5, false, word16 0x6DA0, 5, 0,
      ⟨by decide, by decide, by decide, by decide, by decide⟩, by and_intros <;> decide⟩,
    ⟨onTile true (word16 0x6EC4) (ctx5 true), 5, true, word16 0x6EC4, 6, 1,
      ⟨by decide, by decide, by decide, by decide, by decide⟩, by and_intros <;> decide⟩,
    ⟨onTile false (word16 0x6FE8) (ctx5 false), 5, false, word16 0x6FE8, 7, 2,
      ⟨by decide, by decide, by decide, by decide, by decide⟩, by and_intros <;> decide⟩⟩

theorem witness_tile_shifts :
    (∃ (s : State) (k : Nat) (bg : Bool) (w : PWord) (dd : Fin 8) (q : Fin 8) (n : Nat), s.tileAt k bg w ∧ opBits w 12 4 = 7 ∧
      opBits w 6 3 = dd.val ∧ opBits w 0 3 = q.val ∧ n = (if opBits w 9 1 = 0 then opBits w 0 5 else (s.ctx k bg).d[q].toNat) ∧
      opBits w 10 2 = 0) ∧
    (∃ (s : State) (k : Nat) (bg : Bool) (w : PWord) (dd : Fin 8) (q : Fin 8) (n : Nat), s.tileAt k bg w ∧ opBits w 12 4 = 7 ∧
      opBits w 6 3 = dd.val ∧ opBits w 0 3 = q.val ∧ n = (if opBits w 9 1 = 0 then opBits w 0 5 else (s.ctx k bg).d[q].toNat) ∧
      opBits w 10 2 = 1) ∧
    (∃ (s : State) (k : Nat) (bg : Bool) (w : PWord) (dd : Fin 8) (q : Fin 8) (n : Nat), s.tileAt k bg w ∧ opBits w 12 4 = 7 ∧
      opBits w 6 3 = dd.val ∧ opBits w 0 3 = q.val ∧ n = (if opBits w 9 1 = 0 then opBits w 0 5 else (s.ctx k bg).d[q].toNat) ∧
      opBits w 10 2 = 2) ∧
    (∃ (s : State) (k : Nat) (bg : Bool) (w : PWord) (dd : Fin 8) (q : Fin 8) (n : Nat), s.tileAt k bg w ∧ opBits w 12 4 = 7 ∧
      opBits w 6 3 = dd.val ∧ opBits w 0 3 = q.val ∧ n = (if opBits w 9 1 = 0 then opBits w 0 5 else (s.ctx k bg).d[q].toNat) ∧
      opBits w 10 2 = 3) :=
  ⟨
    ⟨onTile false (word16 0x7287) (ctx5 false), 5, false, word16 0x7287, 2, 7, _,
      ⟨by decide, by decide, by decide, by decide, by decide⟩, by decide, by decide, by decide, rfl, by decide⟩,
    ⟨onTile false (word16 0x7687) (ctx5 false), 5, false, word16 0x7687, 2, 7, _,
      ⟨by decide, by decide, by decide, by decide, by decide⟩, by decide, by decide, by decide, rfl, by decide⟩,
    ⟨onTile false (word16 0x7A87) (ctx5 false), 5, false, word16 0x7A87, 2, 7, _,
      ⟨by decide, by decide, by decide, by decide, by decide⟩, by decide, by decide, by decide, rfl, by decide⟩,
    ⟨onTile false (word16 0x7E87) (ctx5 false), 5, false, word16 0x7E87, 2, 7, _,
      ⟨by decide, by decide, by decide, by decide, by decide⟩, by decide, by decide, by decide, rfl, by decide⟩⟩

theorem witness_tile_multiplies :
    (∃ (s : State) (k : Nat) (bg : Bool) (w : PWord) (i : Fin 4) (p : Fin 8) (q : Fin 8), s.tileAt k bg w ∧ opBits w 12 4 = 4 ∧
      opBits w 8 2 = i.val ∧ opBits w 5 3 = p.val ∧ opBits w 2 3 = q.val ∧ opBits w 10 2 = 0) ∧
    (∃ (s : State) (k : Nat) (bg : Bool) (w : PWord) (i : Fin 4) (p : Fin 8) (q : Fin 8), s.tileAt k bg w ∧ opBits w 12 4 = 4 ∧
      opBits w 8 2 = i.val ∧ opBits w 5 3 = p.val ∧ opBits w 2 3 = q.val ∧ opBits w 10 2 = 1) ∧
    (∃ (s : State) (k : Nat) (bg : Bool) (w : PWord) (i : Fin 4) (p : Fin 8) (q : Fin 8), s.tileAt k bg w ∧ opBits w 12 4 = 4 ∧
      opBits w 8 2 = i.val ∧ opBits w 5 3 = p.val ∧ opBits w 2 3 = q.val ∧ opBits w 10 2 = 2) ∧
    (∃ (s : State) (k : Nat) (bg : Bool) (w : PWord) (i : Fin 4) (p : Fin 8) (q : Fin 8), s.tileAt k bg w ∧ opBits w 12 4 = 4 ∧
      opBits w 8 2 = i.val ∧ opBits w 5 3 = p.val ∧ opBits w 2 3 = q.val ∧ opBits w 10 2 = 3) :=
  ⟨
    ⟨onTile false (word16 0x4208) (ctx5 false), 5, false, word16 0x4208, 2, 0, 2,
      ⟨by decide, by decide, by decide, by decide, by decide⟩, by and_intros <;> decide⟩,
    ⟨onTile false (word16 0x4608) (ctx5 false), 5, false, word16 0x4608, 2, 0, 2,
      ⟨by decide, by decide, by decide, by decide, by decide⟩, by and_intros <;> decide⟩,
    ⟨onTile false (word16 0x4A08) (ctx5 false), 5, false, word16 0x4A08, 2, 0, 2,
      ⟨by decide, by decide, by decide, by decide, by decide⟩, by and_intros <;> decide⟩,
    ⟨onTile false (word16 0x4E08) (ctx5 false), 5, false, word16 0x4E08, 2, 0, 2,
      ⟨by decide, by decide, by decide, by decide, by decide⟩, by and_intros <;> decide⟩⟩

theorem witness_tile_dual_multiply :
    (∃ (s : State) (k : Nat) (bg : Bool) (w : PWord) (p : Fin 4) (q : Fin 4) (r : Fin 4) (u : Fin 4) (e : Fin 4) (o : Fin 4),
      s.tileAt k bg w ∧ opBits w 13 3 = 1 ∧ opBits w 7 2 = p.val ∧ opBits w 5 2 = q.val ∧ opBits w 3 2 = r.val ∧
      opBits w 1 2 = u.val ∧ e.val = 2 * opBits w 12 1 ∧ o.val = 2 * opBits w 12 1 + 1) :=
  ⟨onTile false (word16 0x38DE) (ctx5 false), 5, false, word16 0x38DE, 1, 2, 3, 3, 2, 3,
    ⟨by decide, by decide, by decide, by decide, by decide⟩, by and_intros <;> decide⟩

theorem witness_tile_accumulators :
    (∃ (s : State) (k : Nat) (bg : Bool) (w : PWord) (i : Fin 4) (j : Fin 4) (e : Fin 4) (d : Fin 8), s.tileAt k bg w ∧
      opBits w 12 4 = 8 ∧ opBits w 6 2 = i.val ∧ opBits w 4 2 = j.val ∧ opBits w 3 3 = d.val ∧ opBits w 1 2 = e.val ∧
      opBits w 8 4 = 0) ∧
    (∃ (s : State) (k : Nat) (bg : Bool) (w : PWord) (i : Fin 4) (j : Fin 4) (e : Fin 4) (d : Fin 8), s.tileAt k bg w ∧
      opBits w 12 4 = 8 ∧ opBits w 6 2 = i.val ∧ opBits w 4 2 = j.val ∧ opBits w 3 3 = d.val ∧ opBits w 1 2 = e.val ∧
      opBits w 8 4 = 1) ∧
    (∃ (s : State) (k : Nat) (bg : Bool) (w : PWord) (i : Fin 4) (j : Fin 4) (e : Fin 4) (d : Fin 8), s.tileAt k bg w ∧
      opBits w 12 4 = 8 ∧ opBits w 6 2 = i.val ∧ opBits w 4 2 = j.val ∧ opBits w 3 3 = d.val ∧ opBits w 1 2 = e.val ∧
      opBits w 8 4 = 2) ∧
    (∃ (s : State) (k : Nat) (bg : Bool) (w : PWord) (i : Fin 4) (j : Fin 4) (e : Fin 4) (d : Fin 8), s.tileAt k bg w ∧
      opBits w 12 4 = 8 ∧ opBits w 6 2 = i.val ∧ opBits w 4 2 = j.val ∧ opBits w 3 3 = d.val ∧ opBits w 1 2 = e.val ∧
      opBits w 8 4 = 3) ∧
    (∃ (s : State) (k : Nat) (bg : Bool) (w : PWord) (i : Fin 4) (j : Fin 4) (e : Fin 4) (d : Fin 8), s.tileAt k bg w ∧
      opBits w 12 4 = 8 ∧ opBits w 6 2 = i.val ∧ opBits w 4 2 = j.val ∧ opBits w 3 3 = d.val ∧ opBits w 1 2 = e.val ∧
      opBits w 8 4 = 4) ∧
    (∃ (s : State) (k : Nat) (bg : Bool) (w : PWord) (i : Fin 4) (j : Fin 4) (e : Fin 4) (d : Fin 8), s.tileAt k bg w ∧
      opBits w 12 4 = 8 ∧ opBits w 6 2 = i.val ∧ opBits w 4 2 = j.val ∧ opBits w 3 3 = d.val ∧ opBits w 1 2 = e.val ∧
      opBits w 8 4 = 5) ∧
    (∃ (s : State) (k : Nat) (bg : Bool) (w : PWord) (i : Fin 4) (j : Fin 4) (e : Fin 4) (d : Fin 8), s.tileAt k bg w ∧
      opBits w 12 4 = 8 ∧ opBits w 6 2 = i.val ∧ opBits w 4 2 = j.val ∧ opBits w 3 3 = d.val ∧ opBits w 1 2 = e.val ∧
      opBits w 8 4 = 6) ∧
    (∃ (s : State) (k : Nat) (bg : Bool) (w : PWord) (i : Fin 4) (j : Fin 4) (e : Fin 4) (d : Fin 8), s.tileAt k bg w ∧
      opBits w 12 4 = 8 ∧ opBits w 6 2 = i.val ∧ opBits w 4 2 = j.val ∧ opBits w 3 3 = d.val ∧ opBits w 1 2 = e.val ∧
      opBits w 8 4 = 7) ∧
    (∃ (s : State) (k : Nat) (bg : Bool) (w : PWord) (i : Fin 4) (j : Fin 4) (e : Fin 4) (d : Fin 8), s.tileAt k bg w ∧
      opBits w 12 4 = 8 ∧ opBits w 6 2 = i.val ∧ opBits w 4 2 = j.val ∧ opBits w 3 3 = d.val ∧ opBits w 1 2 = e.val ∧
      opBits w 8 4 = 8) ∧
    (∃ (s : State) (k : Nat) (bg : Bool) (w : PWord) (i : Fin 4) (j : Fin 4) (e : Fin 4) (d : Fin 8), s.tileAt k bg w ∧
      opBits w 12 4 = 8 ∧ opBits w 6 2 = i.val ∧ opBits w 4 2 = j.val ∧ opBits w 3 3 = d.val ∧ opBits w 1 2 = e.val ∧
      opBits w 8 4 = 9) ∧
    (∃ (s : State) (k : Nat) (bg : Bool) (w : PWord) (i : Fin 4) (j : Fin 4) (e : Fin 4) (d : Fin 8), s.tileAt k bg w ∧
      opBits w 12 4 = 8 ∧ opBits w 6 2 = i.val ∧ opBits w 4 2 = j.val ∧ opBits w 3 3 = d.val ∧ opBits w 1 2 = e.val ∧
      10 ≤ opBits w 8 4) :=
  ⟨
    ⟨onTile false (word16 0x808E) (ctx5 false), 5, false, word16 0x808E, 2, 0, 3, 1,
      ⟨by decide, by decide, by decide, by decide, by decide⟩, by and_intros <;> decide⟩,
    ⟨onTile false (word16 0x818E) (ctx5 false), 5, false, word16 0x818E, 2, 0, 3, 1,
      ⟨by decide, by decide, by decide, by decide, by decide⟩, by and_intros <;> decide⟩,
    ⟨onTile false (word16 0x828E) (ctx5 false), 5, false, word16 0x828E, 2, 0, 3, 1,
      ⟨by decide, by decide, by decide, by decide, by decide⟩, by and_intros <;> decide⟩,
    ⟨onTile false (word16 0x838E) (ctx5 false), 5, false, word16 0x838E, 2, 0, 3, 1,
      ⟨by decide, by decide, by decide, by decide, by decide⟩, by and_intros <;> decide⟩,
    ⟨onTile false (word16 0x848E) (ctx5 false), 5, false, word16 0x848E, 2, 0, 3, 1,
      ⟨by decide, by decide, by decide, by decide, by decide⟩, by and_intros <;> decide⟩,
    ⟨onTile false (word16 0x858E) (ctx5 false), 5, false, word16 0x858E, 2, 0, 3, 1,
      ⟨by decide, by decide, by decide, by decide, by decide⟩, by and_intros <;> decide⟩,
    ⟨onTile false (word16 0x868E) (ctx5 false), 5, false, word16 0x868E, 2, 0, 3, 1,
      ⟨by decide, by decide, by decide, by decide, by decide⟩, by and_intros <;> decide⟩,
    ⟨onTile false (word16 0x878E) (ctx5 false), 5, false, word16 0x878E, 2, 0, 3, 1,
      ⟨by decide, by decide, by decide, by decide, by decide⟩, by and_intros <;> decide⟩,
    ⟨onTile false (word16 0x888E) (ctx5 false), 5, false, word16 0x888E, 2, 0, 3, 1,
      ⟨by decide, by decide, by decide, by decide, by decide⟩, by and_intros <;> decide⟩,
    ⟨onTile false (word16 0x898E) (ctx5 false), 5, false, word16 0x898E, 2, 0, 3, 1,
      ⟨by decide, by decide, by decide, by decide, by decide⟩, by and_intros <;> decide⟩,
    ⟨onTile false (word16 0x8A8E) (ctx5 false), 5, false, word16 0x8A8E, 2, 0, 3, 1,
      ⟨by decide, by decide, by decide, by decide, by decide⟩, by and_intros <;> decide⟩⟩

theorem witness_tile_control :
    (∃ (s : State) (k : Nat) (bg : Bool) (w : PWord) (cc : CC) (target : TAddr), s.tileAt k bg w ∧ s.tileFree k bg ∧
      opBits w 4 4 = cc.val ∧ target = w.extractLsb' 24 14 ∧ opBits w 12 4 = 0 ∧ opBits w 8 4 = 0) ∧
    (∃ (s : State) (k : Nat) (bg : Bool) (w : PWord) (cc : CC) (target : TAddr), s.tileAt k bg w ∧ s.tileFree k bg ∧
      opBits w 4 4 = cc.val ∧ target = w.extractLsb' 24 14 ∧ opBits w 12 4 = 0 ∧ opBits w 8 4 = 2) ∧
    (∃ (s : State) (k : Nat) (bg : Bool) (w : PWord) (cc : CC) (target : TAddr), s.tileAt k bg w ∧ s.tileFree k bg ∧
      opBits w 4 4 = cc.val ∧ target = w.extractLsb' 24 14 ∧ opBits w 12 4 = 0 ∧ opBits w 8 4 = 3) ∧
    (∃ (s : State) (k : Nat) (bg : Bool) (w : PWord) (cc : CC) (target : TAddr), s.tileAt k bg w ∧ s.tileFree k bg ∧
      opBits w 4 4 = cc.val ∧ target = w.extractLsb' 24 14 ∧ opBits w 12 4 = 0 ∧ opBits w 8 4 = 4) ∧
    (∃ (s : State) (k : Nat) (bg : Bool) (w : PWord) (cc : CC) (target : TAddr), s.tileAt k bg w ∧ s.tileFree k bg ∧
      opBits w 4 4 = cc.val ∧ target = w.extractLsb' 24 14 ∧ opBits w 12 4 = 0 ∧ opBits w 8 4 = 5) ∧
    (∃ (s : State) (k : Nat) (bg : Bool) (w : PWord) (cc : CC) (target : TAddr), s.tileAt k bg w ∧ s.tileFree k bg ∧
      opBits w 4 4 = cc.val ∧ target = w.extractLsb' 24 14 ∧ opBits w 12 4 = 0 ∧ opBits w 8 4 = 6) ∧
    (∃ (s : State) (k : Nat) (bg : Bool) (w : PWord) (cc : CC) (target : TAddr), s.tileAt k bg w ∧ s.tileFree k bg ∧
      opBits w 4 4 = cc.val ∧ target = w.extractLsb' 24 14 ∧ opBits w 12 4 = 0 ∧ opBits w 8 4 = 7) ∧
    (∃ (s : State) (k : Nat) (bg : Bool) (w : PWord) (cc : CC) (target : TAddr), s.tileAt k bg w ∧ s.tileFree k bg ∧
      opBits w 4 4 = cc.val ∧ target = w.extractLsb' 24 14 ∧ opBits w 12 4 = 0 ∧ 8 ≤ opBits w 8 4) ∧
    (∃ (s : State) (k : Nat) (bg : Bool) (w : PWord) (cc : CC) (target : TAddr), s.tileAt k bg w ∧ s.tileFree k bg ∧
      opBits w 4 4 = cc.val ∧ target = w.extractLsb' 24 14 ∧ opBits w 12 4 = 1) :=
  ⟨
    ⟨onTile false (word16 0x0000) (ctx5 false), 5, false, word16 0x0000, 0, _,
      ⟨by decide, by decide, by decide, by decide, by decide⟩, ⟨by decide, by decide⟩, by decide, rfl, by decide, by decide⟩,
    ⟨onTile false (word16 0x0230) (ctx5 false), 5, false, word16 0x0230, 3, _,
      ⟨by decide, by decide, by decide, by decide, by decide⟩, ⟨by decide, by decide⟩, by decide, rfl, by decide, by decide⟩,
    ⟨onTile false (word16 0x0340) (ctx5 false), 5, false, word16 0x0340, 4, _,
      ⟨by decide, by decide, by decide, by decide, by decide⟩, ⟨by decide, by decide⟩, by decide, rfl, by decide, by decide⟩,
    ⟨onTile false (word16 0x0400) (ctx5 false), 5, false, word16 0x0400, 0, _,
      ⟨by decide, by decide, by decide, by decide, by decide⟩, ⟨by decide, by decide⟩, by decide, rfl, by decide, by decide⟩,
    ⟨onTile false (word16 0x0500) (ctx5 false), 5, false, word16 0x0500, 0, _,
      ⟨by decide, by decide, by decide, by decide, by decide⟩, ⟨by decide, by decide⟩, by decide, rfl, by decide, by decide⟩,
    ⟨onTile false (word16 0x0600) (ctx5 false), 5, false, word16 0x0600, 0, _,
      ⟨by decide, by decide, by decide, by decide, by decide⟩, ⟨by decide, by decide⟩, by decide, rfl, by decide, by decide⟩,
    ⟨onTile false (word16 0x0700) (ctx5 false), 5, false, word16 0x0700, 0, _,
      ⟨by decide, by decide, by decide, by decide, by decide⟩, ⟨by decide, by decide⟩, by decide, rfl, by decide, by decide⟩,
    ⟨onTile false (word16 0x0800) (ctx5 false), 5, false, word16 0x0800, 0, _,
      ⟨by decide, by decide, by decide, by decide, by decide⟩, ⟨by decide, by decide⟩, by decide, rfl, by decide, by decide⟩,
    ⟨onTile false (word16 0x1807) (ctx5 false), 5, false, word16 0x1807, 0, _,
      ⟨by decide, by decide, by decide, by decide, by decide⟩, ⟨by decide, by decide⟩, by decide, rfl, by decide⟩⟩

theorem witness_tile_end :
    (∃ (s : State) (k : Nat) (bg : Bool) (w : PWord), s.tileAt k bg w ∧ s.tileFree k bg ∧ opBits w 12 4 = 0 ∧ opBits w 8 4 = 1) :=
  ⟨onTile true (word16 0x0100) (ctx5 true), 5, true, word16 0x0100, ⟨by decide, by decide, by decide, by decide, by decide⟩,
    ⟨by decide, by decide⟩, by decide, by decide⟩

theorem witness_tile_delay_and_repeat :
    (∃ (s : State) (k : Nat) (bg : Bool) (w : PWord), s.tileAt k bg w ∧ opBits w 12 4 = 0 ∧ opBits w 8 4 = 0) ∧
    (∃ (s : State) (k : Nat) (bg : Bool) (w : PWord), s.tileAt k bg w ∧ opBits w 12 4 = 0 ∧ opBits w 8 4 = 2 ∧
      ¬ s.tileFree k bg) :=
  ⟨
    ⟨onTile false (word16 0x0000) (ctx5 false), 5, false, word16 0x0000,
      ⟨by decide, by decide, by decide, by decide, by decide⟩, by decide, by decide⟩,
    ⟨onTile false (word16 0x0200) { ctx5 false with delay := some ⟨1, none⟩ }, 5, false, word16 0x0200,
      ⟨by decide, by decide, by decide, by decide, by decide⟩, by decide, by decide, (fun h => absurd h.1 (by decide))⟩⟩

theorem witness_tile_registers :
    (∃ (s : State) (k : Nat) (bg : Bool) (w : PWord) (d : Fin 8) (r : _), s.tileAt k bg w ∧ opBits w 8 3 = d.val ∧
      opBits w 12 4 = 9 ∧ opBits w 11 1 = 0 ∧ crTable[opBits w 3 5]? = some r) ∧
    (∃ (s : State) (k : Nat) (bg : Bool) (w : PWord) (d : Fin 8) (r : _), s.tileAt k bg w ∧ opBits w 8 3 = d.val ∧
      opBits w 12 4 = 9 ∧ opBits w 11 1 = 1 ∧ crTable[opBits w 3 5]? = some r) ∧
    (∃ (s : State) (k : Nat) (bg : Bool) (w : PWord) (d : Fin 8), s.tileAt k bg w ∧ opBits w 8 3 = d.val ∧ opBits w 12 4 = 9 ∧
      30 ≤ opBits w 3 5) ∧
    (∃ (s : State) (k : Nat) (bg : Bool) (w : PWord) (d : Fin 8), s.tileAt k bg w ∧ opBits w 8 3 = d.val ∧ opBits w 12 4 = 10 ∧
      opBits w 11 1 = 0) ∧
    (∃ (s : State) (k : Nat) (bg : Bool) (w : PWord) (d : Fin 8) (r : _), s.tileAt k bg w ∧ opBits w 8 3 = d.val ∧
      opBits w 12 4 = 10 ∧ opBits w 11 1 = 1 ∧ crTable[opBits w 6 5]? = some r) ∧
    (∃ (s : State) (k : Nat) (bg : Bool) (w : PWord) (d : Fin 8), s.tileAt k bg w ∧ opBits w 8 3 = d.val ∧ opBits w 12 4 = 10 ∧
      opBits w 11 1 = 1 ∧ 30 ≤ opBits w 6 5) ∧
    (∃ (s : State) (k : Nat) (bg : Bool) (w : PWord) (d : Fin 8), s.tileAt k bg w ∧ opBits w 8 3 = d.val ∧ opBits w 12 4 = 11) ∧
    (∃ (s : State) (k : Nat) (bg : Bool) (w : PWord) (d : Fin 8), s.tileAt k bg w ∧ opBits w 8 3 = d.val ∧ 12 ≤ opBits w 12 4) :=
  ⟨
    ⟨onTile false (word16 0x93E8) (ctx5 false), 5, false, word16 0x93E8, 3, _,
      ⟨by decide, by decide, by decide, by decide, by decide⟩, by decide, by decide, by decide, rfl⟩,
    ⟨onTile false (word16 0x9AC8) (ctx5 false), 5, false, word16 0x9AC8, 2, _,
      ⟨by decide, by decide, by decide, by decide, by decide⟩, by decide, by decide, by decide, rfl⟩,
    ⟨onTile false (word16 0x90F0) (ctx5 false), 5, false, word16 0x90F0, 0,
      ⟨by decide, by decide, by decide, by decide, by decide⟩, by and_intros <;> decide⟩,
    ⟨onTile false (word16 0xA700) (ctx5 false), 5, false, word16 0xA700, 7,
      ⟨by decide, by decide, by decide, by decide, by decide⟩, by and_intros <;> decide⟩,
    ⟨onTile false (word16 0xAE40) (ctx5 false), 5, false, word16 0xAE40, 6, _,
      ⟨by decide, by decide, by decide, by decide, by decide⟩, by decide, by decide, by decide, rfl⟩,
    ⟨onTile false (word16 0xAF80) (ctx5 false), 5, false, word16 0xAF80, 7,
      ⟨by decide, by decide, by decide, by decide, by decide⟩, by and_intros <;> decide⟩,
    ⟨onTile false (word16 0xB4FF) (ctx5 false), 5, false, word16 0xB4FF, 4,
      ⟨by decide, by decide, by decide, by decide, by decide⟩, by decide, by decide⟩,
    ⟨onTile false (word16 0xC100) (ctx5 false), 5, false, word16 0xC100, 1,
      ⟨by decide, by decide, by decide, by decide, by decide⟩, by decide, by decide⟩⟩

theorem witness_tile_tap :
    (∃ (s : State) (k : Nat) (bg : Bool) (w : PWord) (i : Fin 4) (n : Fin 4) (m : Fin 4), s.tileAt k bg w ∧ opBits w 12 4 = 5 ∧
      opBits w 10 2 = i.val ∧ opBits w 8 2 = n.val ∧ opBits w 6 2 = m.val) :=
  ⟨onTile false (word16 0x5DA8) (ctx5 false), 5, false, word16 0x5DA8, 3, 1, 2,
    ⟨by decide, by decide, by decide, by decide, by decide⟩, by and_intros <;> decide⟩

theorem witness_tile_moves :
    (∃ (s : State) (k : Nat) (bg : Bool) (w : PWord) (d : Fin 8) (n : Fin 4) (mode : Fin 4), s.tileAt k bg w ∧
      opBits w 12 4 = 0 ∧ opBits w 8 4 = 0 ∧ yField w = 0 ∧ (xField w).extractLsb' 17 3 = BitVec.ofNat 3 d.val ∧
      (xField w).extractLsb' 15 2 = BitVec.ofNat 2 n.val ∧ (xField w).extractLsb' 13 2 = BitVec.ofNat 2 mode.val ∧
      (xField w).extractLsb' 20 4 = 2#4) ∧
    (∃ (s : State) (k : Nat) (bg : Bool) (w : PWord) (d : Fin 8) (n : Fin 4) (mode : Fin 4), s.tileAt k bg w ∧
      opBits w 12 4 = 0 ∧ opBits w 8 4 = 0 ∧ yField w = 0 ∧ (xField w).extractLsb' 17 3 = BitVec.ofNat 3 d.val ∧
      (xField w).extractLsb' 15 2 = BitVec.ofNat 2 n.val ∧ (xField w).extractLsb' 13 2 = BitVec.ofNat 2 mode.val ∧
      (xField w).extractLsb' 20 4 = 3#4) ∧
    (∃ (s : State) (k : Nat) (bg : Bool) (w : PWord) (d : Fin 8) (n : Fin 4) (mode : Fin 4), s.tileAt k bg w ∧
      opBits w 12 4 = 0 ∧ opBits w 8 4 = 0 ∧ yField w = 0 ∧ (xField w).extractLsb' 17 3 = BitVec.ofNat 3 d.val ∧
      (xField w).extractLsb' 15 2 = BitVec.ofNat 2 n.val ∧ (xField w).extractLsb' 13 2 = BitVec.ofNat 2 mode.val ∧
      (xField w).extractLsb' 20 4 = 6#4) ∧
    (∃ (s : State) (k : Nat) (bg : Bool) (w : PWord) (d : Fin 8) (n : Fin 4) (mode : Fin 4), s.tileAt k bg w ∧
      opBits w 12 4 = 0 ∧ opBits w 8 4 = 0 ∧ yField w = 0 ∧ (xField w).extractLsb' 17 3 = BitVec.ofNat 3 d.val ∧
      (xField w).extractLsb' 15 2 = BitVec.ofNat 2 n.val ∧ (xField w).extractLsb' 13 2 = BitVec.ofNat 2 mode.val ∧
      (xField w).extractLsb' 20 4 = 7#4) :=
  ⟨
    ⟨onTile false 0x00002DA000000000#64 (ctx5 false), 5, false, 0x00002DA000000000#64, 6, 3, 1,
      ⟨by decide, by decide, by decide, by decide, by decide⟩, by and_intros <;> decide⟩,
    ⟨onTile false 0x00003DA000000000#64 (ctx5 false), 5, false, 0x00003DA000000000#64, 6, 3, 1,
      ⟨by decide, by decide, by decide, by decide, by decide⟩, by and_intros <;> decide⟩,
    ⟨onTile false 0x00006DA123000000#64 (ctx5 false), 5, false, 0x00006DA123000000#64, 6, 3, 1,
      ⟨by decide, by decide, by decide, by decide, by decide⟩, by and_intros <;> decide⟩,
    ⟨onTile false 0x00007DA123000000#64 (ctx5 false), 5, false, 0x00007DA123000000#64, 6, 3, 1,
      ⟨by decide, by decide, by decide, by decide, by decide⟩, by and_intros <;> decide⟩⟩

theorem witness_tile_frame :
    (∃ (f : _), f ∈ tileRows) :=
  ⟨Instr.tNop, by unfold tileRows; exact List.mem_cons_self⟩

theorem witness_plane_commands :
    (∃ (s : State) (e : Env) (c : CmdInfo) (addr : _) (len : _), s.pl.busy = false ∧ s.meets (.structLoad e 0 addr len) c ∧
      e.port ≠ .D ∧ 128 ≤ len) ∧
    (∃ (s : State) (e : Env) (c : CmdInfo) (source : _) (addr : _) (len : _) (seq : _) (img : _), s.pl.busy = false ∧
      s.meets (.structLoad e source addr len) c ∧ (source = 1 ∨ source = 2) ∧ (addr = 0 ∨ e.port ≠ .D) ∧
      s.boot.copy (if source = 1 then s.boot.newer else 1 - s.boot.newer) = some (seq, img) ∧ 128 ≤ img.length) ∧
    (∃ (s : State) (e : Env) (c : CmdInfo) (addr : _) (len : _), s.pl.busy = false ∧ s.meets (.structPatch e 0 addr len) c ∧
      e.port ≠ .D ∧ 128 ≤ len ∧ s.pl.st = .ready) ∧
    (∃ (s : State) (e : Env) (c : CmdInfo) (p : _), s.pl.busy = false ∧ s.meets (.structCopy e) c ∧ s.pl.live = some p) ∧
    (∃ (s : State) (e : Env) (c : CmdInfo), s.pl.busy = false ∧ s.meets (.structDiscard e) c) ∧
    (∃ (s : State) (x : PlaneCmd) (r : Bool), s.portsCalm ∧ s.pl.cmd = some x ∧ x.boot = false ∧ s.pl.st = .checking r ∧
      x.source = 0 ∧ s.dm.st ≠ .training) ∧
    (∃ (s : State) (x : PlaneCmd) (img : List Byte) (p : _), s.portsCalm ∧ s.pl.cmd = some x ∧ x.boot = false ∧
      s.pl.st = .writing ∧ x.cand = some p ∧ (x.kind = .copy ∨ imageDigest x.len img = x.digest)) :=
  ⟨
    ⟨up, eA, _, 4096, 128, by decide, meets_of rfl (by decide), by decide, by decide⟩,
    ⟨{ up with boot := { Boot.reset with structs := #v[some (1, List.replicate 128 0), none] } }, eA, _, 1, 0, 0, 1,
      List.replicate 128 0, by decide, meets_of rfl (by decide), by decide, by decide, by decide, by simp⟩,
    ⟨{ up with pl := { Planes.reset with shadow := some plane, st := .ready } }, eA, _, 4096, 128, by decide,
      meets_of rfl (by decide), by and_intros <;> decide⟩,
    ⟨live plane, eA, _, _, by decide, meets_of rfl (by decide), rfl⟩,
    ⟨up, eA, _, by decide, meets_of rfl (by decide)⟩,
    ⟨{ flying up (.structLoad eA 0 4096 128) with pl := { Planes.reset with st := .checking false, cmd := some ⟨.A, 7, .load, 0, 0, 128, [], none, false⟩ } },
      ⟨.A, 7, .load, 0, 0, 128, [], none, false⟩, false, calm_of (by decide), by and_intros <;> decide⟩,
    ⟨{ flying up (.structCopy eA) with pl := { Planes.reset with st := .writing, cmd := some ⟨.A, 7, .copy, 0, 0, 0, [], some plane, false⟩ } },
      ⟨.A, 7, .copy, 0, 0, 0, [], some plane, false⟩, [], plane, calm_of (by decide), by and_intros <;> decide⟩⟩

theorem witness_plane_commit :
    (∃ (s : State) (e : Env) (c : CmdInfo) (p : Plane) (digest : Nat) (boundary : _), s.pl.shadow = some p ∧
      s.meets (.structCommit e boundary digest) c ∧ s.pl.busy = false ∧ s.pl.st = .ready ∧ leNat (slice p.digest 0 8) = digest ∧
      boundary ≠ 0 ∧ s.per.mediaTime ≤ boundary ∧ s.predictsLate p = false ∧
      s.commitChecks p s.per.boundaries (s.per.boundaries + (boundary - s.per.mediaTime)) = none) ∧
    (∃ (s : State) (e : Env) (c : CmdInfo) (p : Plane) (digest : Nat), s.pl.shadow = some p ∧
      s.meets (.structCommit e 0 digest) c ∧ s.pl.busy = false ∧ s.pl.st = .ready ∧ leNat (slice p.digest 0 8) = digest ∧
      s.predictsLate p = false ∧ s.commitChecks p s.per.boundaries (s.per.boundaries + 64) = none) ∧
    (∃ (s : State) (p : Plane) (k : _) (b : _), s.pl.shadow = some p ∧ s.portsCalm ∧ s.pl.commit = some k ∧
      k.boundary = some b ∧ s.pl.st = .armed ∧ b ≤ s.per.boundaries + 32 ∧ s.per.boundaries < b ∧ s.pwr.cpRunning = true ∧
      s.commitChecks p k.start b = none) :=
  ⟨
    ⟨{ up with pl := { Planes.reset with shadow := some plane, st := .ready } }, eA, _, plane, 0, 77100, by decide,
      meets_of rfl (by decide), by and_intros <;> decide⟩,
    ⟨{ up with pl := { Planes.reset with shadow := some plane, st := .ready } }, eA, _, plane, 0, by decide,
      meets_of rfl (by decide), by and_intros <;> decide⟩,
    ⟨{ flying up (.structCommit eA 0 0) with pl := { Planes.reset with shadow := some plane, st := .armed, commit := some ⟨.A, 7, 968, some 1032, false, false, false⟩ } },
      plane, ⟨.A, 7, 968, some 1032, false, false, false⟩, 1032, by decide, calm_of (by decide), by and_intros <;> decide⟩⟩

theorem witness_plane_store :
    (∃ (s : State) (e : Env) (c : CmdInfo), s.meets (.structStatus e) c) ∧
    (∃ (s : State) (e : Env) (c : CmdInfo) (addr : _) (len : _) (img : _), s.meets (.structBootWrite e addr len img) c ∧
      s.flashFree ∧ e.port ≠ .D ∧ 128 ≤ len ∧ len ≤ s.boot.structArea - 65536 ∧
      s.holdsFit (loadChecks (s.loadEnv 1 len none) img) = true) ∧
    (∃ (s : State) (e : Env) (c : CmdInfo) (addr : _) (len : _) (img : _), s.meets (.structBootWrite e addr len img) c ∧
      s.flashFree ∧ e.port ≠ .D ∧ 128 ≤ len ∧ len ≤ s.boot.structArea - 65536 ∧
      s.holdsFit (loadChecks (s.loadEnv 1 len none) img) = false) ∧
    (∃ (s : State) (e : Env) (c : CmdInfo) (keyId : _) (addr : _) (key : _) (require : _),
      s.meets (.structKeySet e keyId addr key require) c ∧ s.flashFree ∧ (addr = 0 ∨ e.port ≠ .D) ∧
      (∀ k, s.pl.sigKey = some k → k.require = true → s.hlt.maint = true)) ∧
    (∃ (s : State) (e : Env) (c : CmdInfo) (g : Flight) (e' : _) (source : _) (addr : _) (len : _) (x : _) (r : _),
      s.meets (.structCancel e g.handle) c ∧ (s.port e.port).flight? g.handle = some g ∧
      g.cmd = .structLoad e' source addr len ∧ s.pl.cmd = some x ∧ x.port = e.port ∧ x.handle = g.handle ∧ x.boot = false ∧
      s.pl.st = .checking r) ∧
    (∃ (s : State) (e : Env) (c : CmdInfo) (g : Flight) (e' : _) (boundary : _) (digest : _) (k : _),
      s.meets (.structCancel e g.handle) c ∧ (s.port e.port).flight? g.handle = some g ∧
      g.cmd = .structCommit e' boundary digest ∧ s.pl.cmd = none ∧ s.pl.commit = some k ∧ k.port = e.port ∧
      k.handle = g.handle ∧ k.boot = false ∧ s.pl.st = .armed) :=
  ⟨
    ⟨live plane, eA, _, meets_of rfl (by decide)⟩,
    ⟨training, eA, _, 4096, 432, lineImage, meets_of rfl (by decide), ⟨by decide, by decide⟩, by decide, by decide, by decide,
      line_image_waits⟩,
    ⟨up, eA, _, 4096, 128, [], meets_of rfl (by decide), ⟨by decide, by decide⟩, by and_intros <;> decide⟩,
    ⟨up, eA, _, 5, 0, [], true, meets_of rfl (by decide), ⟨by decide, by decide⟩, by decide, fun k h => nomatch h⟩,
    ⟨{ up.setPort .A { openPort with flights := [flightOf (.structLoad eA 0 4096 128)] } with pl := { Planes.reset with st := .checking true, cmd := some ⟨.A, 7, .load, 0, 0, 128, [], none, false⟩ } },
      eA, _, flightOf (.structLoad eA 0 4096 128), _, _, _, _, ⟨.A, 7, .load, 0, 0, 128, [], none, false⟩, _,
      meets_of rfl (by decide), by decide, rfl, by decide, by decide, by decide, by decide, rfl⟩,
    ⟨{ up.setPort .A { openPort with flights := [flightOf (.structCommit eA 0 0)] } with pl := { Planes.reset with shadow := some plane, st := .armed, commit := some ⟨.A, 7, 990, some 1064, false, false, false⟩ } },
      eA, _, flightOf (.structCommit eA 0 0), _, _, _, ⟨.A, 7, 990, some 1064, false, false, false⟩, meets_of rfl (by decide),
      by decide, rfl, by and_intros <;> decide⟩⟩

theorem witness_exchange_reads :
    (∃ (s : State) (e : Env) (c : CmdInfo) (slot : _), s.meets (.slotPeek e slot) c ∧ slot < slotCount s.per.baseRate) ∧
    (∃ (s : State) (e : Env) (c : CmdInfo) (port : _) (clear : _), s.meets (.saportStatus e port clear) c ∧ port ≤ 7 ∧
      (rd s.sap port).st = .disabled) ∧
    (∃ (s : State) (e : Env) (c : CmdInfo) (port : _) (clear : _) (x : _) (r : _), s.meets (.saportStatus e port clear) c ∧
      port ≤ 7 ∧ rd s.sap port = x ∧ x.st ≠ .disabled ∧ s.saRec port = some r) ∧
    (∃ (s : State) (e : Env) (c : CmdInfo) (k : _) (first : _) (count : _) (addr : _),
      s.meets (.tileReport e k first count addr) c ∧ k ≤ 67 ∧ 1 ≤ count ∧ first + count ≤ 1024 ∧ (addr = 0 → count ≤ 4) ∧
      (addr ≠ 0 → e.port ≠ .D) ∧ (s.tile (s.carrierOf k)).run ≠ .absent ∧ (s.tile (s.carrierOf k)).run ≠ .cold) ∧
    (∃ (s : State) (e : Env) (c : CmdInfo) (p : Plane) (mode : _) (path : _) (sk : _) (si : _) (dk : _) (di : _) (hits : _),
      s.pl.live = some p ∧ (0x000E, 0xFFFF) ∈ p.sections ∧ s.meets (.pathLatency e 0 mode path sk si dk di) c ∧ mode ≤ 1 ∧
      hits = p.latency.filter (fun r => if mode = 0 then r.path == path else r.srcKind == sk && r.srcIndex == si && r.dstKind == dk && r.dstIndex == di) ∧
      hits ≠ []) ∧
    (∃ (s : State) (e : Env) (c : CmdInfo) (p : Plane) (addr : _) (len : _), s.pl.live = some p ∧
      (0x000E, 0xFFFF) ∈ p.sections ∧ s.meets (.pathLatencyDump e 0 addr len) c ∧ e.port ≠ .D ∧ 16 ≤ len) :=
  ⟨
    ⟨up, eA, _, 8191, meets_of rfl (by decide), by decide⟩,
    ⟨up, eA, _, 7, true, meets_of rfl (by decide), by decide, by decide⟩,
    ⟨{ live { plane with saports := [⟨7, 0, false, 32, 2, 2, 0, 2⟩] } with sap := wr (Vector.replicate 8 SaSt.reset) 7 { SaSt.reset with st := .locked, loss := 3 } },
      eA, _, 7, true, { SaSt.reset with st := .locked, loss := 3 }, ⟨7, 0, false, 32, 2, 2, 0, 2⟩, meets_of rfl (by decide),
      by and_intros <;> decide⟩,
    ⟨up.setTile 67 { Tile.reset with run := .parked }, eA, _, 67, 1023, 1, 0, meets_of rfl (by decide),
      by and_intros <;> decide⟩,
    ⟨live { plane with latency := [⟨3, 1, 4, 5, 6, 100, 0xFFFFFFFF⟩, ⟨3, 1, 4, 5, 6, 90, 80⟩], sections := [(0x000E, 0xFFFF)] },
      eA, _,
      { plane with latency := [⟨3, 1, 4, 5, 6, 100, 0xFFFFFFFF⟩, ⟨3, 1, 4, 5, 6, 90, 80⟩], sections := [(0x000E, 0xFFFF)] }, 1,
      0, 1, 5, 4, 6,
      { plane with latency := [⟨3, 1, 4, 5, 6, 100, 0xFFFFFFFF⟩, ⟨3, 1, 4, 5, 6, 90, 80⟩], sections := [(0x000E, 0xFFFF)] }.latency,
      by decide, by decide, meets_of rfl (by decide), by and_intros <;> decide⟩,
    ⟨live { plane with latency := [⟨3, 1, 4, 5, 6, 100, 0xFFFFFFFF⟩, ⟨3, 1, 4, 5, 6, 90, 80⟩], sections := [(0x000E, 0xFFFF)] },
      eA, _,
      { plane with latency := [⟨3, 1, 4, 5, 6, 100, 0xFFFFFFFF⟩, ⟨3, 1, 4, 5, 6, 90, 80⟩], sections := [(0x000E, 0xFFFF)] },
      4096, 16, by decide, by decide, meets_of rfl (by decide), by decide, by decide⟩⟩

theorem witness_mix_updates :
    (∃ (s : State) (e : Env) (c : CmdInfo) (p : Plane) (group : Nat) (count : Nat) (addr : Nat) (data : _), s.pl.live = some p ∧
      group ≤ 15 ∧ listed e.port addr count 5 4096 ∧
      (∀ x ∈ xpointEntries count data, ∃ y ∈ p.xpoints, y.inSlot = x.inSlot ∧ y.sum = x.sum) ∧
      s.meets (.xpointSet e 0 group count addr data) c) ∧
    (∃ (s : State) (e : Env) (c : CmdInfo) (p : Plane) (group : Nat) (count : Nat) (addr : Nat) (data : _), s.pl.live = some p ∧
      group ≤ 15 ∧ listed e.port addr count 5 4096 ∧
      (∀ x ∈ xpointEntries count data, ∃ y ∈ p.xpoints, y.inSlot = x.inSlot ∧ y.sum = x.sum) ∧
      s.meets (.xpointSet e 1 group count addr data) c ∧ s.groupTakes group e.port ((xpointEntries count data).map .xpt)) ∧
    (∃ (s : State) (e : Env) (c : CmdInfo) (p : Plane) (group : Nat) (count : Nat) (addr : Nat) (data : _), s.pl.live = some p ∧
      group ≤ 15 ∧ listed e.port addr count 5 4096 ∧
      (∀ x ∈ rampEntries count data, (x.law = 0 ∨ x.law = 1 ∨ x.law = 0xFF) ∧ (∃ r ∈ p.ramps, r.ramp = x.ramp) ∧ (rd s.mtx.ramps x.ramp).serves = true) ∧
      s.meets (.rampSet e 0 group count addr data) c) ∧
    (∃ (s : State) (e : Env) (c : CmdInfo) (p : Plane) (group : Nat) (count : Nat) (addr : Nat) (data : _), s.pl.live = some p ∧
      group ≤ 15 ∧ listed e.port addr count 5 4096 ∧
      (∀ x ∈ rampEntries count data, (x.law = 0 ∨ x.law = 1 ∨ x.law = 0xFF) ∧ (∃ r ∈ p.ramps, r.ramp = x.ramp) ∧ (rd s.mtx.ramps x.ramp).serves = true) ∧
      s.meets (.rampSet e 1 group count addr data) c ∧ s.groupTakes group e.port ((rampEntries count data).map .ramp)) ∧
    (∃ (s : State) (e : Env) (c : CmdInfo) (p : Plane) (group : Nat) (count : Nat) (addr : Nat) (k : Nat) (m : Nat) (buf : Nat) (data : List Byte) (es : List UpdEntry),
      s.pl.live = some p ∧ group ≤ 15 ∧ listed e.port buf count 10 32 ∧ k ≤ 67 ∧ m ≤ 1 ∧
      addr + count ≤ (if m = 1 then 0x3C00 else 0x4000) ∧ es.length = count ∧
      (∀ i, i < count → es[i]? = some (.word k (m == 1) (addr + i) (BitVec.ofNat 32 (leNat (slice data (4 * i) 4))))) ∧
      s.meets (.tileParamWrite e 0 group k m addr count buf data) c ∧ s.tileUsable (s.carrierOf k) = true) ∧
    (∃ (s : State) (e : Env) (c : CmdInfo) (p : Plane) (group : Nat) (count : Nat) (addr : Nat) (k : Nat) (m : Nat) (buf : Nat) (data : List Byte) (es : List UpdEntry),
      s.pl.live = some p ∧ group ≤ 15 ∧ listed e.port buf count 10 32 ∧ k ≤ 67 ∧ m ≤ 1 ∧
      addr + count ≤ (if m = 1 then 0x3C00 else 0x4000) ∧ es.length = count ∧
      (∀ i, i < count → es[i]? = some (.word k (m == 1) (addr + i) (BitVec.ofNat 32 (leNat (slice data (4 * i) 4))))) ∧
      s.meets (.tileParamWrite e 1 group k m addr count buf data) c ∧ s.groupTakes group e.port es) :=
  ⟨
    ⟨{ live { plane with xpoints := [⟨3, 5, 0⟩, ⟨8191, 1023, 1⟩], ramps := [⟨255, false, 10, 8191, 1023, 0⟩], sums := [⟨5, false, 47, 9, 0, 0, 100, 64, 10⟩, ⟨1023, false, 0, 10, 0, 0, 100, 64, 10⟩] } with mtx := { Mtx.reset with ramps := wr (Vector.replicate 256 RampSt.free) 255 (.hold 5), xpts := [(xkey 3 5, ⟨1, 2, some 990, none, 1⟩)], sums := [(5, ⟨7, 0, 7, 3, 2, 0, 0, 0, 0, 1⟩)] } },
      eA, _,
      { plane with xpoints := [⟨3, 5, 0⟩, ⟨8191, 1023, 1⟩], ramps := [⟨255, false, 10, 8191, 1023, 0⟩], sums := [⟨5, false, 47, 9, 0, 0, 100, 64, 10⟩, ⟨1023, false, 0, 10, 0, 0, 100, 64, 10⟩] },
      15, 1, 0, ([3, 0, 5, 0, 7, 0, 0, 0] ++ List.replicate 32 0), by decide, by decide, by unfold listed; decide, by decide,
      meets_of rfl (by decide)⟩,
    ⟨{ live { plane with xpoints := [⟨3, 5, 0⟩, ⟨8191, 1023, 1⟩], ramps := [⟨255, false, 10, 8191, 1023, 0⟩], sums := [⟨5, false, 47, 9, 0, 0, 100, 64, 10⟩, ⟨1023, false, 0, 10, 0, 0, 100, 64, 10⟩] } with mtx := { Mtx.reset with ramps := wr (Vector.replicate 256 RampSt.free) 255 (.hold 5), xpts := [(xkey 3 5, ⟨1, 2, some 990, none, 1⟩)], sums := [(5, ⟨7, 0, 7, 3, 2, 0, 0, 0, 0, 1⟩)] } },
      eA, _,
      { plane with xpoints := [⟨3, 5, 0⟩, ⟨8191, 1023, 1⟩], ramps := [⟨255, false, 10, 8191, 1023, 0⟩], sums := [⟨5, false, 47, 9, 0, 0, 100, 64, 10⟩, ⟨1023, false, 0, 10, 0, 0, 100, 64, 10⟩] },
      15, 1, 0, ([3, 0, 5, 0, 7, 0, 0, 0] ++ List.replicate 32 0), by decide, by decide, by unfold listed; decide, by decide,
      meets_of rfl (by decide), by unfold State.groupTakes; decide⟩,
    ⟨{ live { plane with xpoints := [⟨3, 5, 0⟩, ⟨8191, 1023, 1⟩], ramps := [⟨255, false, 10, 8191, 1023, 0⟩], sums := [⟨5, false, 47, 9, 0, 0, 100, 64, 10⟩, ⟨1023, false, 0, 10, 0, 0, 100, 64, 10⟩] } with mtx := { Mtx.reset with ramps := wr (Vector.replicate 256 RampSt.free) 255 (.hold 5), xpts := [(xkey 3 5, ⟨1, 2, some 990, none, 1⟩)], sums := [(5, ⟨7, 0, 7, 3, 2, 0, 0, 0, 0, 1⟩)] } },
      eA, _,
      { plane with xpoints := [⟨3, 5, 0⟩, ⟨8191, 1023, 1⟩], ramps := [⟨255, false, 10, 8191, 1023, 0⟩], sums := [⟨5, false, 47, 9, 0, 0, 100, 64, 10⟩, ⟨1023, false, 0, 10, 0, 0, 100, 64, 10⟩] },
      15, 1, 0, ([255, 0xFF, 0xFF, 0xFF, 9, 0, 0, 0] ++ List.replicate 32 0), by decide +kernel, by decide +kernel,
      by unfold listed; decide +kernel, by decide +kernel, meets_of rfl (by decide +kernel)⟩,
    ⟨{ live { plane with xpoints := [⟨3, 5, 0⟩, ⟨8191, 1023, 1⟩], ramps := [⟨255, false, 10, 8191, 1023, 0⟩], sums := [⟨5, false, 47, 9, 0, 0, 100, 64, 10⟩, ⟨1023, false, 0, 10, 0, 0, 100, 64, 10⟩] } with mtx := { Mtx.reset with ramps := wr (Vector.replicate 256 RampSt.free) 255 (.hold 5), xpts := [(xkey 3 5, ⟨1, 2, some 990, none, 1⟩)], sums := [(5, ⟨7, 0, 7, 3, 2, 0, 0, 0, 0, 1⟩)] } },
      eA, _,
      { plane with xpoints := [⟨3, 5, 0⟩, ⟨8191, 1023, 1⟩], ramps := [⟨255, false, 10, 8191, 1023, 0⟩], sums := [⟨5, false, 47, 9, 0, 0, 100, 64, 10⟩, ⟨1023, false, 0, 10, 0, 0, 100, 64, 10⟩] },
      15, 1, 0, ([255, 0xFF, 0xFF, 0xFF, 9, 0, 0, 0] ++ List.replicate 32 0), by decide +kernel, by decide +kernel,
      by unfold listed; decide +kernel, by decide +kernel, meets_of rfl (by decide +kernel),
      by unfold State.groupTakes; decide +kernel⟩,
    ⟨({ live { plane with xpoints := [⟨3, 5, 0⟩, ⟨8191, 1023, 1⟩], ramps := [⟨255, false, 10, 8191, 1023, 0⟩], sums := [⟨5, false, 47, 9, 0, 0, 100, 64, 10⟩, ⟨1023, false, 0, 10, 0, 0, 100, 64, 10⟩] } with mtx := { Mtx.reset with ramps := wr (Vector.replicate 256 RampSt.free) 255 (.hold 5), xpts := [(xkey 3 5, ⟨1, 2, some 990, none, 1⟩)], sums := [(5, ⟨7, 0, 7, 3, 2, 0, 0, 0, 0, 1⟩)] } }).setTile 67 { Tile.reset with run := .parked },
      eA, _,
      { plane with xpoints := [⟨3, 5, 0⟩, ⟨8191, 1023, 1⟩], ramps := [⟨255, false, 10, 8191, 1023, 0⟩], sums := [⟨5, false, 47, 9, 0, 0, 100, 64, 10⟩, ⟨1023, false, 0, 10, 0, 0, 100, 64, 10⟩] },
      15, 1, 0x3BFF, 67, 1, 0, ([6, 0, 0, 0] ++ List.replicate 36 0), [.word 67 true 0x3BFF 6], by decide, by decide,
      by unfold listed; decide, by decide, by decide, by decide, by decide, by decide, meets_of rfl (by decide), by decide⟩,
    ⟨({ live { plane with xpoints := [⟨3, 5, 0⟩, ⟨8191, 1023, 1⟩], ramps := [⟨255, false, 10, 8191, 1023, 0⟩], sums := [⟨5, false, 47, 9, 0, 0, 100, 64, 10⟩, ⟨1023, false, 0, 10, 0, 0, 100, 64, 10⟩] } with mtx := { Mtx.reset with ramps := wr (Vector.replicate 256 RampSt.free) 255 (.hold 5), xpts := [(xkey 3 5, ⟨1, 2, some 990, none, 1⟩)], sums := [(5, ⟨7, 0, 7, 3, 2, 0, 0, 0, 0, 1⟩)] } }).setTile 67 { Tile.reset with run := .parked },
      eA, _,
      { plane with xpoints := [⟨3, 5, 0⟩, ⟨8191, 1023, 1⟩], ramps := [⟨255, false, 10, 8191, 1023, 0⟩], sums := [⟨5, false, 47, 9, 0, 0, 100, 64, 10⟩, ⟨1023, false, 0, 10, 0, 0, 100, 64, 10⟩] },
      15, 1, 0x3BFF, 67, 1, 0, ([6, 0, 0, 0] ++ List.replicate 36 0), [.word 67 true 0x3BFF 6], by decide, by decide,
      by unfold listed; decide, by decide, by decide, by decide, by decide, by decide, meets_of rfl (by decide),
      by unfold State.groupTakes; decide⟩⟩

theorem witness_safe_load :
    (∃ (s : State) (e : Env) (c : CmdInfo) (group : Nat) (g : Group) (boundary : _) (b : _) (others : _), group ≤ 15 ∧
      rd s.mtx.groups group = g ∧ s.meets (.safeApply e group boundary) c ∧ g.st = .filling ∧ g.owner = e.port ∧
      b = (if boundary = 0 then s.per.boundaries + 16 else s.per.boundaries + (boundary - s.per.mediaTime)) ∧
      (boundary ≠ 0 → s.per.mediaTime + 16 ≤ boundary) ∧
      others = (List.range 16).flatMap (fun i => if (rd s.mtx.groups i).boundary = b ∧ ((rd s.mtx.groups i).st = .armed ∨ (rd s.mtx.groups i).st = .locked) then (rd s.mtx.groups i).entries else []) ∧
      (∀ k, k < 68 → wordsFor g.entries k ≠ 0 → wordsFor others k + wordsFor g.entries k ≤ 32)) ∧
    (∃ (s : State) (e : Env) (c : CmdInfo) (group : Nat) (g : Group) (force : _), group ≤ 15 ∧ rd s.mtx.groups group = g ∧
      s.meets (.safeDiscard e group force) c ∧ force = false ∧ g.st = .empty) ∧
    (∃ (s : State) (e : Env) (c : CmdInfo) (group : Nat) (g : Group) (force : _), group ≤ 15 ∧ rd s.mtx.groups group = g ∧
      s.meets (.safeDiscard e group force) c ∧ force = false ∧ g.st = .filling ∧ g.owner = e.port) ∧
    (∃ (s : State) (e : Env) (c : CmdInfo) (group : Nat) (g : Group) (k : _), group ≤ 15 ∧ rd s.mtx.groups group = g ∧
      s.meets (.safeDiscard e group false) c ∧ g.st = .armed ∧ g.owner = e.port ∧ (s.port e.port).flight? g.handle = some k) ∧
    (∃ (s : State) (e : Env) (c : CmdInfo) (group : Nat) (g : Group), group ≤ 15 ∧ rd s.mtx.groups group = g ∧
      s.meets (.safeStatus e group) c) ∧
    (∃ (s : State) (group : Nat) (g : Group), group ≤ 15 ∧ rd s.mtx.groups group = g ∧ g.st = .armed ∧
      g.boundary ≤ s.per.boundaries + 8) ∧
    (∃ (s : State) (group : Nat) (g : Group), group ≤ 15 ∧ rd s.mtx.groups group = g ∧
      (g.st ≠ .armed ∨ s.per.boundaries + 8 < g.boundary)) :=
  ⟨
    ⟨{ up with mtx := { Mtx.reset with groups := wr (Vector.replicate 16 Group.reset) 15 ⟨.filling, .A, [.word 67 true 5 6], 0, 0⟩ } },
      eA, _, 15, _, 77016, _, _, by decide, rfl, meets_of rfl (by decide), by decide, by decide, rfl, by decide, rfl, by decide⟩,
    ⟨up, eA, _, 15, _, false, by decide, rfl, meets_of rfl (by decide), by decide, by decide⟩,
    ⟨{ up with mtx := { Mtx.reset with groups := wr (Vector.replicate 16 Group.reset) 15 ⟨.filling, .A, [.xpt ⟨3, 5, 7⟩], 0, 0⟩ } },
      eA, _, 15, _, false, by decide, rfl, meets_of rfl (by decide), by and_intros <;> decide⟩,
    ⟨{ up.setPort .A { openPort with flights := [flightOf (.safeApply eA 15 0)] } with mtx := { Mtx.reset with groups := wr (Vector.replicate 16 Group.reset) 15 ⟨.armed, .A, [.xpt ⟨3, 5, 7⟩], 1020, 7⟩ } },
      eA, _, 15, _, _, by decide, rfl, meets_of rfl (by decide), by decide, by decide, rfl⟩,
    ⟨{ up with mtx := { Mtx.reset with groups := wr (Vector.replicate 16 Group.reset) 15 ⟨.armed, .A, [.xpt ⟨3, 5, 7⟩], 1020, 0⟩ } },
      eA, _, 15, _, by decide, rfl, meets_of rfl (by decide)⟩,
    ⟨{ up with mtx := { Mtx.reset with groups := wr (Vector.replicate 16 Group.reset) 15 ⟨.armed, .A, [.xpt ⟨3, 5, 7⟩], 1008, 0⟩ } },
      15, _, by decide, rfl, by decide, by decide⟩,
    ⟨{ up with mtx := { Mtx.reset with groups := wr (Vector.replicate 16 Group.reset) 15 ⟨.armed, .A, [.xpt ⟨3, 5, 7⟩], 1009, 0⟩ } },
      15, _, by decide, rfl, by decide⟩⟩

theorem witness_mix_reads :
    (∃ (s : State) (e : Env) (c : CmdInfo) (p : Plane) (i : _) (o : _) (x : _) (y : _), s.meets (.xpointGet e 0 i o) c ∧
      s.pl.live = some p ∧ p.xpoints.find? (fun y => y.inSlot == i && y.sum == o) = some x ∧ p.unitOf i o = none ∧
      lookup? s.mtx.xpts (xkey i o) = some y) ∧
    (∃ (s : State) (e : Env) (c : CmdInfo) (p : Plane) (i : _) (o : _) (x : _) (u : _) (g : _) (y : _),
      s.meets (.xpointGet e 0 i o) c ∧ s.pl.live = some p ∧ p.xpoints.find? (fun y => y.inSlot == i && y.sum == o) = some x ∧
      p.unitOf i o = some u ∧ ((∃ g0 t db b, rd s.mtx.ramps u.ramp = .ramping g0 g t db b) ∨ rd s.mtx.ramps u.ramp = .hold g) ∧
      lookup? s.mtx.xpts (xkey i o) = some y) ∧
    (∃ (s : State) (e : Env) (c : CmdInfo) (p : Plane) (i : _) (o : _) (x : _), s.meets (.xpointGet e 1 i o) c ∧
      s.pl.shadow = some p ∧ s.pl.st ≠ .writing ∧ p.xpoints.find? (fun y => y.inSlot == i && y.sum == o) = some x) ∧
    (∃ (s : State) (e : Env) (c : CmdInfo) (p : Plane) (sum : _) (clear : _) (r : _) (x : _),
      s.meets (.sumStatus e sum clear) c ∧ s.pl.live = some p ∧ p.sums.find? (fun q => q.sum == sum) = some r ∧
      x = (lookup? s.mtx.sums sum).getD (SumSt.fresh r.auxLaw 0)) ∧
    (∃ (s : State) (e : Env) (c : CmdInfo) (ramp : _), s.meets (.rampStatus e ramp) c ∧ ramp ≤ 255 ∧
      rd s.mtx.ramps ramp = .free) ∧
    (∃ (s : State) (e : Env) (c : CmdInfo) (p : Plane) (ramp : _) (g : _) (r : _), s.meets (.rampStatus e ramp) c ∧ ramp ≤ 255 ∧
      rd s.mtx.ramps ramp = .hold g ∧ s.pl.live = some p ∧ p.ramps.find? (fun q => q.ramp == ramp) = some r) ∧
    (∃ (s : State) (e : Env) (c : CmdInfo) (p : Plane) (ramp : _) (g0 : _) (g1 : _) (len : _) (b : _) (r : _),
      s.meets (.rampStatus e ramp) c ∧ ramp ≤ 255 ∧ rd s.mtx.ramps ramp = .ramping g0 g1 len false b ∧ s.pl.live = some p ∧
      p.ramps.find? (fun q => q.ramp == ramp) = some r) :=
  ⟨
    ⟨{ live { plane with xpoints := [⟨3, 5, 0⟩, ⟨8191, 1023, 1⟩], ramps := [⟨255, false, 10, 8191, 1023, 0⟩], sums := [⟨5, false, 47, 9, 0, 0, 100, 64, 10⟩, ⟨1023, false, 0, 10, 0, 0, 100, 64, 10⟩] } with mtx := { Mtx.reset with ramps := wr (Vector.replicate 256 RampSt.free) 255 (.hold 5), xpts := [(xkey 3 5, ⟨1, 2, some 990, none, 1⟩)], sums := [(5, ⟨7, 0, 7, 3, 2, 0, 0, 0, 0, 1⟩)] } },
      eA, _,
      { plane with xpoints := [⟨3, 5, 0⟩, ⟨8191, 1023, 1⟩], ramps := [⟨255, false, 10, 8191, 1023, 0⟩], sums := [⟨5, false, 47, 9, 0, 0, 100, 64, 10⟩, ⟨1023, false, 0, 10, 0, 0, 100, 64, 10⟩] },
      3, 5, (⟨3, 5, 0⟩ : Xpoint), (⟨1, 2, some 990, none, 1⟩ : XptSt), meets_of rfl (by decide), by and_intros <;> decide⟩,
    ⟨{ live { plane with xpoints := [⟨3, 5, 0⟩, ⟨8191, 1023, 1⟩], ramps := [⟨255, false, 10, 8191, 1023, 0⟩], sums := [⟨5, false, 47, 9, 0, 0, 100, 64, 10⟩, ⟨1023, false, 0, 10, 0, 0, 100, 64, 10⟩] } with mtx := { Mtx.reset with ramps := wr (Vector.replicate 256 RampSt.free) 255 (.hold 5), xpts := [(xkey 8191 1023, ⟨1, 2, none, none, 1⟩)], sums := [(5, ⟨7, 0, 7, 3, 2, 0, 0, 0, 0, 1⟩)] } },
      eA, _,
      { plane with xpoints := [⟨3, 5, 0⟩, ⟨8191, 1023, 1⟩], ramps := [⟨255, false, 10, 8191, 1023, 0⟩], sums := [⟨5, false, 47, 9, 0, 0, 100, 64, 10⟩, ⟨1023, false, 0, 10, 0, 0, 100, 64, 10⟩] },
      8191, 1023, ⟨8191, 1023, 1⟩, ⟨255, false, 10, 8191, 1023, 0⟩, (5 : Gain), (⟨1, 2, none, none, 1⟩ : XptSt),
      meets_of rfl (by decide +kernel), by decide +kernel, by decide +kernel, by decide +kernel, .inr (by decide +kernel),
      by decide +kernel⟩,
    ⟨{ up with pl := { Planes.reset with shadow := some { plane with xpoints := [⟨3, 5, 0⟩, ⟨8191, 1023, 1⟩], ramps := [⟨255, false, 10, 8191, 1023, 0⟩], sums := [⟨5, false, 47, 9, 0, 0, 100, 64, 10⟩, ⟨1023, false, 0, 10, 0, 0, 100, 64, 10⟩] }, st := .ready } },
      eA, _,
      { plane with xpoints := [⟨3, 5, 0⟩, ⟨8191, 1023, 1⟩], ramps := [⟨255, false, 10, 8191, 1023, 0⟩], sums := [⟨5, false, 47, 9, 0, 0, 100, 64, 10⟩, ⟨1023, false, 0, 10, 0, 0, 100, 64, 10⟩] },
      8191, 1023, ⟨8191, 1023, 1⟩, meets_of rfl (by decide), by and_intros <;> decide⟩,
    ⟨{ live { plane with xpoints := [⟨3, 5, 0⟩, ⟨8191, 1023, 1⟩], ramps := [⟨255, false, 10, 8191, 1023, 0⟩], sums := [⟨5, false, 47, 9, 0, 0, 100, 64, 10⟩, ⟨1023, false, 0, 10, 0, 0, 100, 64, 10⟩] } with mtx := { Mtx.reset with ramps := wr (Vector.replicate 256 RampSt.free) 255 (.hold 5), xpts := [(xkey 3 5, ⟨1, 2, some 990, none, 1⟩)], sums := [(5, ⟨7, 0, 7, 3, 2, 0, 0, 0, 0, 1⟩)] } },
      eA, _,
      { plane with xpoints := [⟨3, 5, 0⟩, ⟨8191, 1023, 1⟩], ramps := [⟨255, false, 10, 8191, 1023, 0⟩], sums := [⟨5, false, 47, 9, 0, 0, 100, 64, 10⟩, ⟨1023, false, 0, 10, 0, 0, 100, 64, 10⟩] },
      5, true, ⟨5, false, 47, 9, 0, 0, 100, 64, 10⟩, ⟨7, 0, 7, 3, 2, 0, 0, 0, 0, 1⟩, meets_of rfl (by decide),
      by and_intros <;> decide⟩,
    ⟨{ live { plane with xpoints := [⟨3, 5, 0⟩, ⟨8191, 1023, 1⟩], ramps := [⟨255, false, 10, 8191, 1023, 0⟩], sums := [⟨5, false, 47, 9, 0, 0, 100, 64, 10⟩, ⟨1023, false, 0, 10, 0, 0, 100, 64, 10⟩] } with mtx := { Mtx.reset with ramps := wr (Vector.replicate 256 RampSt.free) 255 (.hold 5), xpts := [(xkey 3 5, ⟨1, 2, some 990, none, 1⟩)], sums := [(5, ⟨7, 0, 7, 3, 2, 0, 0, 0, 0, 1⟩)] } },
      eA, _, 0, meets_of rfl (by decide +kernel), by decide +kernel, by decide +kernel⟩,
    ⟨{ live { plane with xpoints := [⟨3, 5, 0⟩, ⟨8191, 1023, 1⟩], ramps := [⟨255, false, 10, 8191, 1023, 0⟩], sums := [⟨5, false, 47, 9, 0, 0, 100, 64, 10⟩, ⟨1023, false, 0, 10, 0, 0, 100, 64, 10⟩] } with mtx := { Mtx.reset with ramps := wr (Vector.replicate 256 RampSt.free) 255 (.hold 5), xpts := [(xkey 3 5, ⟨1, 2, some 990, none, 1⟩)], sums := [(5, ⟨7, 0, 7, 3, 2, 0, 0, 0, 0, 1⟩)] } },
      eA, _,
      { plane with xpoints := [⟨3, 5, 0⟩, ⟨8191, 1023, 1⟩], ramps := [⟨255, false, 10, 8191, 1023, 0⟩], sums := [⟨5, false, 47, 9, 0, 0, 100, 64, 10⟩, ⟨1023, false, 0, 10, 0, 0, 100, 64, 10⟩] },
      255, (5 : Gain), ⟨255, false, 10, 8191, 1023, 0⟩, meets_of rfl (by decide +kernel), by and_intros <;> decide +kernel⟩,
    ⟨{ live { plane with xpoints := [⟨3, 5, 0⟩, ⟨8191, 1023, 1⟩], ramps := [⟨255, false, 10, 8191, 1023, 0⟩], sums := [⟨5, false, 47, 9, 0, 0, 100, 64, 10⟩, ⟨1023, false, 0, 10, 0, 0, 100, 64, 10⟩] } with mtx := { Mtx.reset with ramps := wr (Vector.replicate 256 RampSt.free) 255 (.ramping 0 5 64 false 990), xpts := [(xkey 3 5, ⟨1, 2, some 990, none, 1⟩)], sums := [(5, ⟨7, 0, 7, 3, 2, 0, 0, 0, 0, 1⟩)] } },
      eA, _,
      { plane with xpoints := [⟨3, 5, 0⟩, ⟨8191, 1023, 1⟩], ramps := [⟨255, false, 10, 8191, 1023, 0⟩], sums := [⟨5, false, 47, 9, 0, 0, 100, 64, 10⟩, ⟨1023, false, 0, 10, 0, 0, 100, 64, 10⟩] },
      255, (0 : Gain), (5 : Gain), 64, 990, ⟨255, false, 10, 8191, 1023, 0⟩, meets_of rfl (by decide +kernel),
      by and_intros <;> decide +kernel⟩⟩

theorem witness_delay_commands :
    (∃ (s : State) (e : Env) (c : CmdInfo) (clear : _), s.meets (.delayStatus e clear) c) ∧
    (∃ (s : State) (e : Env) (c : CmdInfo) (line : _) (p : _) (r : _) (x : _), s.meets (.delayLineStatus e 0 line) c ∧
      line ≤ 4095 ∧ s.pl.live = some p ∧ p.lines.find? (fun q => q.line == line) = some r ∧ lookup? s.dm.lines line = some x) ∧
    (∃ (s : State) (e : Env) (c : CmdInfo) (rate : _) (scrub : _), s.meets (.delayMemConfig e rate scrub) c ∧ s.flashFree ∧
      (rate = 3200 ∨ rate = 4267 ∨ rate = 5500 ∨ rate = 6400) ∧ 15 ≤ scrub ∧ scrub ≤ 1440) ∧
    (∃ (s : State) (e : Env) (c : CmdInfo), s.meets (.delayMemRetrain e) c ∧ (s.dm.st = .down ∨ s.dm.st = .failed)) :=
  ⟨
    ⟨{ up with dm := { Dm.reset with st := .up, corr := 5 } }, eA, _, true, meets_of rfl (by decide)⟩,
    ⟨{ live { plane with lines := [⟨4095, 1, 2, 10, 20, 0⟩] } with dm := { Dm.reset with st := .up, lines := [(4095, ⟨some 900, [], 0, 0, [], 0, none⟩)] } },
      eA, _, 4095, { plane with lines := [⟨4095, 1, 2, 10, 20, 0⟩] }, ⟨4095, 1, 2, 10, 20, 0⟩,
      ⟨some 900, [], 0, 0, [], 0, none⟩, meets_of rfl (by decide), by and_intros <;> decide⟩,
    ⟨up, eA, _, 6400, 1440, meets_of rfl (by decide), ⟨by decide, by decide⟩, by and_intros <;> decide⟩,
    ⟨{ up with dm := { Dm.reset with st := .failed } }, eA, _, meets_of rfl (by decide), by decide⟩⟩

theorem witness_delay_states :
    (∃ (s : State) (g : _), s.portsCalm ∧ s.dm.st = .training ∧ s.dm.retryWait = false ∧ (g = 2 ∨ g = 4 ∨ g = 6 ∨ g = 8)) ∧
    (∃ (s : State) (g : _), s.portsCalm ∧ s.dm.st = .training ∧ s.dm.retryWait = false ∧ (g = 2 ∨ g = 4 ∨ g = 6 ∨ g = 8) ∧
      s.dm.attempt < 2) ∧
    (∃ (s : State) (g : _), s.portsCalm ∧ s.dm.st = .training ∧ s.dm.retryWait = false ∧ (g = 2 ∨ g = 4 ∨ g = 6 ∨ g = 8) ∧
      2 ≤ s.dm.attempt) ∧
    (∃ (s : State), s.dm.st = .training ∧ s.dm.retryWait = true) ∧
    (∃ (s : State), s.dm.st = .down) ∧
    (∃ (s : State), s.dm.st = .up) ∧
    (∃ (s : State), (s.dm.st = .training ∨ s.dm.st = .up ∨ s.dm.st = .down)) ∧
    (∃ (s : State), s.dm.st = .up) ∧
    (∃ (s : State), s.dm.st = .up) ∧
    (∃ (s : State) (line : _) (x : _), s.dm.st = .up ∧ lookup? s.dm.lines line = some x) ∧
    (∃ (s : State) (line : _) (x : _), s.dm.st = .up ∧ lookup? s.dm.lines line = some x ∧
      inWindow s.dm.uncorrTimes s.now 1000000 = []) ∧
    (∃ (s : State) (block : Nat), s.dm.st = .up ∧ block ≠ s.dm.scrubPos) ∧
    (∃ (s : State) (block : Nat), s.dm.st = .up ∧ block = s.dm.scrubPos) ∧
    (∃ (s : State) (block : Nat), s.dm.st = .up ∧ block = s.dm.scrubPos) :=
  ⟨
    ⟨{ up with dm := { Dm.reset with st := .training, lines := [(7, ⟨some 900, [], 0, 0, [], 0, none⟩)] } }, 8,
      calm_of (by decide), by and_intros <;> decide⟩,
    ⟨{ up with dm := { Dm.reset with st := .training, attempt := 1 } }, 2, calm_of (by decide), by and_intros <;> decide⟩,
    ⟨{ up with dm := { Dm.reset with st := .training, attempt := 2 } }, 4, calm_of (by decide), by and_intros <;> decide⟩,
    ⟨{ up with dm := { Dm.reset with st := .training, retryWait := true } }, by decide, by decide⟩,
    ⟨{ up with dm := { Dm.reset with st := .down } }, by decide⟩,
    ⟨{ up with dm := { Dm.reset with st := .up, g := some 8, lines := [(7, ⟨some 900, [], 0, 0, [], 0, none⟩)] } }, by decide⟩,
    ⟨{ up with dm := { Dm.reset with st := .down } }, by decide⟩,
    ⟨{ up with dm := { Dm.reset with st := .up, g := some 8, lines := [(7, ⟨some 900, [], 0, 0, [], 0, none⟩)] } }, by decide⟩,
    ⟨{ up with dm := { Dm.reset with st := .up, g := some 8, lines := [(7, ⟨some 900, [], 0, 0, [], 0, none⟩)] } }, by decide⟩,
    ⟨{ up with dm := { Dm.reset with st := .up, g := some 8, lines := [(7, ⟨some 900, [], 0, 0, [], 0, none⟩)] } }, 7,
      ⟨some 900, [], 0, 0, [], 0, none⟩, by decide, by decide⟩,
    ⟨{ up with dm := { Dm.reset with st := .up, g := some 8, lines := [(7, ⟨some 900, [], 0, 0, [], 0, none⟩)] } }, 7,
      ⟨some 900, [], 0, 0, [], 0, none⟩, by and_intros <;> decide⟩,
    ⟨{ up with dm := { Dm.reset with st := .up, g := some 8, lines := [(7, ⟨some 900, [], 0, 0, [], 0, none⟩)] } }, 1,
      by decide, by decide⟩,
    ⟨{ up with dm := { Dm.reset with st := .up, g := some 8, lines := [(7, ⟨some 900, [], 0, 0, [], 0, none⟩)] } }, 0,
      by decide, by decide⟩,
    ⟨{ up with dm := { Dm.reset with st := .up, g := some 8, lines := [(7, ⟨some 900, [], 0, 0, [], 0, none⟩)] } }, 0,
      by decide, by decide⟩⟩

theorem witness_net_settings :
    (∃ (s : State) (e : Env) (c : CmdInfo) (lane : Nat) (cfg : _) (revertS : _), lane ≤ 7 ∧
      s.meets (.netPortConfig e lane cfg false revertS false) c ∧ portCfgOk cfg = true ∧ revertS ≤ 600 ∧
      s.domOn (laneDomain lane) = true) ∧
    (∃ (s : State) (e : Env) (c : CmdInfo) (lane : Nat) (arg : _) (cfg : _) (revertS : _) (r : _), lane ≤ 7 ∧
      s.meets (.netPortConfig e lane arg false revertS true) c ∧ portCfgOk arg = true ∧ revertS ≤ 600 ∧
      s.domOn (laneDomain lane) = true ∧ (s.lane lane).cfg = cfg ∧ (s.lane lane).revert = some r ∧ r.persist = false) ∧
    (∃ (s : State) (e : Env) (c : CmdInfo) (lane : Nat) (port : _) (q : _) (rsv : _) (qmax : _) (n : _), lane ≤ 7 ∧
      s.meets (.netQueueConfig e port q rsv qmax false) c ∧ port ≤ 9 ∧ q ≤ 7 ∧
      (s.net.allQueues.map (·.rsv)).sum - (s.net.queue port q).rsv + rsv ≤ 16384 ∧
      n = s.net.setQueue port q { (s.net.queue port q) with rsv := rsv, qmax := qmax }) ∧
    (∃ (s : State) (e : Env) (c : CmdInfo) (lane : Nat) (et : _) (da : _) (mac : _) (age : _), lane ≤ 7 ∧
      s.meets (.netSwitchConfig e et da mac age false) c ∧ et ≤ 0xFFFF ∧ da < 2 ^ 48 ∧ mac < 2 ^ 48 ∧
      (age = 0 ∨ (10 ≤ age ∧ age ≤ 3600))) ∧
    (∃ (s : State) (e : Env) (c : CmdInfo) (lane : Nat) (backup : _) (ms : _), lane ≤ 7 ∧
      s.meets (.netFrrSet e lane backup ms false) c ∧ (backup ≤ 7 ∨ backup = 0xFF) ∧ backup ≠ lane ∧ ms ≤ 60000) ∧
    (∃ (s : State) (e : Env) (c : CmdInfo) (count : _) (addr : _) (data : _) (es : _),
      s.meets (.netStreamFwd e count addr data) c ∧ listed e.port addr count 5 4096 ∧ es = fwdEntries count data ∧
      (∀ x ∈ es, (x.ingress ≤ 7 ∨ x.ingress = 0xFF) ∧ (x.queue ≤ 7 ∨ x.queue = 0xFF)) ∧
      (∀ x ∈ es, x.delete = true → ∃ y ∈ s.net.streamTbl, y.id = x.streamId ∧ y.ingress = x.ingress) ∧
      (es.foldl applyFwd s.net.streamTbl).length ≤ 16384) ∧
    (∃ (s : State) (e : Env) (c : CmdInfo) (count : _) (addr : _) (data : _) (es : _),
      s.meets (.netMacSet e count addr data) c ∧ listed e.port addr count 2 2048 ∧ es = macEntries count data ∧
      (∀ x ∈ es, x.vid ≤ 4095 ∧ x.egress ≤ 0x1FF ∧ (x.queue ≤ 7 ∨ x.queue = 0xFF)) ∧
      (∀ x ∈ es, x.delete = true → ∃ y ∈ s.net.macTbl, y.mac = x.mac ∧ y.vid = x.vid) ∧
      (es.foldl applyMac s.net.macTbl).length ≤ 8192) ∧
    (∃ (s : State) (e : Env) (c : CmdInfo) (key : _) (sub : _), s.meets (.netFwdGet e 0 key sub) c ∧ key < 2 ^ 24 ∧
      (sub ≤ 7 ∨ sub = 0xFF)) ∧
    (∃ (s : State) (e : Env) (c : CmdInfo) (key : _) (sub : _), s.meets (.netFwdGet e 1 key sub) c ∧ key < 2 ^ 48 ∧ sub ≤ 4095) ∧
    (∃ (s : State) (e : Env) (c : CmdInfo) (port : _) (clear : _) (first : _), s.meets (.netCounters e port clear first 0) c ∧
      port ≤ 9 ∧ first ≤ 31) ∧
    (∃ (s : State) (e : Env) (c : CmdInfo) (port : _) (clear : _) (first : _) (addr : _),
      s.meets (.netCounters e port clear first addr) c ∧ port ≤ 9 ∧ addr ≠ 0 ∧ e.port ≠ .D) :=
  ⟨
    ⟨(onD 0x0301 up), eD, _, 7, ({ defaultPort with maxFrame := 1522, mode := 2 } : NetPortCfg), 600, by decide,
      meets_of rfl (by decide), by and_intros <;> decide⟩,
    ⟨(onD 0x0301 (laneIs { Lane.reset with revert := some ⟨defaultPort, 5000000001, false⟩ })), eD, _, 7, defaultPort, _, 0, _,
      by decide, meets_of rfl (by decide), by decide, by decide, by decide, rfl, rfl, by decide⟩,
    ⟨up, eA, _, 7, 9, 7, 32, 1, _, by decide, meets_of rfl (by decide), by decide, by decide, by decide, rfl⟩,
    ⟨up, eA, _, 7, 0xFFFF, 1, 2, 10, by decide, meets_of rfl (by decide), by and_intros <;> decide⟩,
    ⟨(onD 0x0306 up), eD, _, 7, 6, 60000, by decide, meets_of rfl (by decide), by and_intros <;> decide⟩,
    ⟨up, eA, _, 1, 0, ([0xFF, 0xFF, 0xFF, 7, 255, 7, 0, 0] ++ List.replicate 32 0), _, meets_of rfl (by decide),
      by unfold listed; decide, rfl, by and_intros <;> decide⟩,
    ⟨up, eA, _, 1, 0, ([0, 0, 0, 0, 0, 1, 0xFF, 0x0F, 0xFF, 1, 7, 0, 0, 0, 0, 0] ++ List.replicate 24 0), _,
      meets_of rfl (by decide), by unfold listed; decide, rfl, by and_intros <;> decide⟩,
    ⟨(onD 0x0307 up), eD, _, 0xFFFFFF, 0xFF, meets_of rfl (by decide), by decide, by decide⟩,
    ⟨(onD 0x0307 up), eD, _, 0xFFFFFFFFFFFF, 4095, meets_of rfl (by decide), by decide, by decide⟩,
    ⟨(onD 0x0308 up), eD, _, 9, true, 31, meets_of rfl (by decide), by decide, by decide⟩,
    ⟨up, eA, _, 8, true, 0, 4096, meets_of rfl (by decide), by and_intros <;> decide⟩⟩

theorem witness_lane_states :
    (∃ (s : State) (i : Nat) (l : Lane) (r : _), i < 8 ∧ s.lane i = l ∧ l.revert = some r ∧ r.until_ ≤ s.now) ∧
    (∃ (s : State) (i : Nat) (l : Lane), i < 8 ∧ s.lane i = l ∧ l.st ≠ .disabled ∧ l.cfg.mode = 3 ∧ l.pcsLock = false) ∧
    (∃ (s : State) (i : Nat) (l : Lane), i < 8 ∧ s.lane i = l ∧ l.st = .down) ∧
    (∃ (s : State) (i : Nat) (l : Lane), i < 8 ∧ s.lane i = l ∧ l.st = .up) ∧
    (∃ (s : State) (i : Nat) (tm : Nat) (l : Lane), i < 8 ∧ s.lane i = l ∧ l.cfg.hbEn = true ∧ (l.st = .up ∨ l.st = .probing) ∧
      l.inTx = none ∧ (∀ u, l.hbAt = some u → u + 3960 ≤ max s.now tm)) ∧
    (∃ (s : State) (i : Nat) (tm : Nat) (l : Lane), i < 8 ∧ s.lane i = l ∧
      (l.inTx ≠ none ∨ (∃ u, l.hbAt = some u ∧ max s.now tm < u + 3960))) ∧
    (∃ (s : State) (i : Nat) (l : Lane) (hb : Heartbeat), i < 8 ∧ s.lane i = l ∧ l.cfg.hbEn = true ∧ l.st = .probing ∧
      l.damped = false ∧ hb.peerRx = true ∧ 2 ≤ l.goodRun) ∧
    (∃ (s : State) (i : Nat) (l : Lane), i < 8 ∧ s.lane i = l ∧ l.cfg.hbEn = true ∧ l.st = .up ∧ l.missRun = 2) ∧
    (∃ (s : State) (i : Nat) (l : Lane), i < 8 ∧ s.lane i = l ∧ l.cfg.hbEn = true ∧ l.st = .up ∧ l.missRun < 2) ∧
    (∃ (s : State) (i : Nat) (l : Lane), i < 8 ∧ s.lane i = l ∧ l.damped = true ∧ l.lastExit + 10000000000 ≤ s.now) ∧
    (∃ (s : State) (i : Nat) (l : Lane), i < 8 ∧ s.lane i = l ∧ l.st = .up ∧ l.upSince + l.restoreMs * 1000000 ≤ s.now) ∧
    (∃ (s : State) (i : Nat) (l : Lane), i < 8 ∧ s.lane i = l ∧ s.net.ageS ≠ 0) :=
  ⟨
    ⟨laneIs { Lane.reset with revert := some ⟨defaultPort, 5000000000, false⟩ }, 7, _, ⟨defaultPort, 5000000000, false⟩,
      by decide, rfl, by decide, by decide⟩,
    ⟨laneIs { Lane.reset with st := .down, mode := 2 }, 7, _, by decide, rfl, by and_intros <;> decide⟩,
    ⟨laneIs { Lane.reset with st := .down, mode := 0 }, 7, _, by decide, rfl, by decide⟩,
    ⟨laneIs upLane, 7, _, by decide, rfl, by decide⟩,
    ⟨laneIs { upLane with inTx := none, cfg := { defaultPort with hbEn := true }, hbSeq := 0xFFFF, hbAt := some 4999996043 }, 7,
      5000000003, _, by decide, rfl, by and_intros <;> decide⟩,
    ⟨laneIs { upLane with cfg := { defaultPort with hbEn := true } }, 7, 5000000003, _, by decide, rfl, by decide⟩,
    ⟨laneIs { upLane with cfg := { defaultPort with hbEn := true }, st := .probing, goodRun := 2 }, 7, _, ⟨1, 2, true, 3, 4⟩,
      by decide, rfl, by and_intros <;> decide⟩,
    ⟨laneIs { upLane with cfg := { defaultPort with hbEn := true }, missRun := 2 }, 7, _, by decide, rfl,
      by and_intros <;> decide⟩,
    ⟨laneIs { upLane with cfg := { defaultPort with hbEn := true }, missRun := 1 }, 7, _, by decide, rfl,
      by and_intros <;> decide⟩,
    ⟨{ up with now := 10000000000 }.setLane 7 { upLane with damped := true }, 7, _, by decide, rfl, by decide, by decide⟩,
    ⟨laneIs { upLane with upSince := 4000000000 }, 7, _, by decide, rfl, by decide, by decide⟩,
    ⟨laneIs upLane, 7, _, by decide, rfl, by decide⟩⟩

theorem witness_frames :
    (∃ (s : State) (i : Nat) (l : Lane) (f : RxFrame), i < 8 ∧ s.lane i = l ∧ (l.st = .down ∨ l.st = .probing) ∧
      rxCheck f l.cfg.maxFrame = some (6, true) ∧ f.fecUncorr = 0) ∧
    (∃ (s : State) (i : Nat) (l : Lane) (f : RxFrame) (d : Nat) (q : Nat) (k : Nat) (x : Frame), i < 8 ∧ s.lane i = l ∧
      l.st = .up ∧ rxCheck f l.cfg.maxFrame = none ∧ f.fecUncorr = 0 ∧ f.t ≤ s.now ∧ f.tEnd ≤ s.now ∧ s.domOn 5 = true ∧
      s.heartbeatOf f.bytes = none ∧ s.ptpHeader i f.bytes = none ∧ s.aesBindings f.bytes = [] ∧ l.cfg.learnEn = false ∧
      (ethInfo f.bytes).da / 16 ≠ 0x0180C200000 ∧ (ethInfo f.bytes).da ≠ s.net.nodeMac ∧
      (ethInfo f.bytes).etherType ≠ s.net.etherType ∧ s.macLookup (ethInfo f.bytes) i = some ([d], q) ∧ d < 8 ∧ d ≠ i ∧
      (s.lane d).st = .up ∧ (∃ g, (s.lane d).inTx = some g ∧ g.cut = false) ∧ x = s.frameOf i f ∧ x.bytes = f.bytes ∧
      k = l.queueOf q (ethInfo f.bytes) ∧ s.net.admits d k x = true ∧ (∀ g ∈ (s.net.queue d k).frames, g.first < f.t)) ∧
    (∃ (s : State) (i : Nat) (l : Lane) (x : Frame), i < 8 ∧ s.lane i = l ∧ l.inTx = some x ∧ x.op = .none ∧ x.report = none ∧
      x.stomp = false ∧ x.hb = false ∧ l.cfg.hbEn = false ∧ s.net.takeNext i = none) ∧
    (∃ (s : State) (i : Nat) (l : Lane) (bytes : List Byte) (q : Nat) (x : Frame), i < 8 ∧ s.lane i = l ∧
      s.pwr.cpRunning = true ∧ q < 8 ∧ l.st = .up ∧ l.inTx ≠ none ∧ s.domOn 5 = true ∧ isPtp bytes = false ∧
      x = s.pcFrame bytes .none none ∧ s.net.admits i q x = true ∧ (∀ g ∈ (s.net.queue i q).frames, g.first < s.now)) ∧
    (∃ (s : State) (i : Nat) (l : Lane) (header : List Byte) (payload : List Byte) (q : Nat) (mss : Nat) (x : Frame), i < 8 ∧
      s.lane i = l ∧ s.pwr.cpRunning = true ∧ q < 8 ∧ l.st = .up ∧ l.inTx ≠ none ∧ s.domOn 5 = true ∧ 14 ≤ header.length ∧
      header.length ≤ 128 ∧ 64 ≤ mss ∧ mss + header.length + 4 ≤ l.cfg.maxFrame ∧ 1 ≤ payload.length ∧ payload.length ≤ mss ∧
      payload.length ≤ 262144 ∧ x = s.pcFrame (header ++ payload) .none none ∧ s.net.admits i q x = true ∧
      (∀ g ∈ (s.net.queue i q).frames, g.first < s.now)) :=
  ⟨
    ⟨laneIs { Lane.reset with st := .down }, 7, _, { rx60 (frame60 3 0x88) with fcsOk := false }, by decide, rfl,
      by and_intros <;> decide⟩,
    ⟨{ laneIs upLane with net := { (laneIs upLane).net with macTbl := [⟨3, 0, true, 64, 0xFF, 0⟩] } }.setLane 6 upLane, 7, _,
      rx60 (frame60 3 0x88), 6, 0xFF, _, _, by decide, rfl, by decide, by decide, by decide, by decide, by decide, by decide,
      by decide, by decide, by decide, by decide, by decide, by decide, by decide, by decide, by decide, by decide, by decide,
      by decide, rfl, by decide, rfl, admits_small (by decide) (by decide +kernel), by decide⟩,
    ⟨laneIs { upLane with inTx := some { (default : Frame) with bytes := frame60 3 0x88 } }, 7, _,
      { (default : Frame) with bytes := frame60 3 0x88 }, by decide, rfl, by and_intros <;> decide⟩,
    ⟨laneIs upLane, 7, _, frame60 3 0x88, 7, _, by decide, rfl, by decide, by decide, by decide, by decide, by decide,
      by decide, rfl, admits_small (by decide) (by decide +kernel), by decide⟩,
    ⟨laneIs upLane, 7, _, (frame60 3 0x88).take 14, [1, 2], 0, 64, _, by decide, rfl, by decide, by decide, by decide,
      by decide, by decide, by decide, by decide, by decide, by decide, by decide, by decide, by decide, rfl,
      admits_small (by decide) (by decide +kernel), by decide⟩⟩

theorem witness_stream_receive :
    (∃ (s : State), s.net.takePe (fun k => match k with | .stream => true | .aes67 _ _ => false) = none) ∧
    (∃ (s : State) (n : Net) (f : Frame) (r : _) (w : _),
      s.net.takePe (fun k => match k with | .stream => true | .aes67 _ _ => false) = some (f, n) ∧
      w = f.bytes.drop (ethInfo f.bytes).pay ∧ s.streamRec true (befld w 1 3) = some r ∧
      s.streamRec false (befld w 1 3) = none ∧ r.id = befld w 1 3 ∧ befld w 15 1 ≠ r.channels) ∧
    (∃ (s : State) (n : Net) (f : Frame) (r : _) (w : _) (m : _),
      s.net.takePe (fun k => match k with | .stream => true | .aes67 _ _ => false) = some (f, n) ∧
      w = f.bytes.drop (ethInfo f.bytes).pay ∧ s.streamRec true (befld w 1 3) = some r ∧
      s.streamRec false (befld w 1 3) = none ∧ r.id = befld w 1 3 ∧ r.aes67 = false ∧ r.ptime = 1 ∧ befld w 0 1 = 0x10 ∧
      befld w 4 1 = 1 ∧ befld w 15 1 = r.channels ∧ befld w 14 1 = 1 ∧ 24 + 4 * r.channels ≤ w.length ∧
      bit (befld w 5 1) 5 = false ∧ befld w 6 2 % 4096 = r.id / 4096 ∧ rebuildMedia 48 (befld w 8 6) f.arriveMt = some m ∧
      s.per.mediaTime < m + r.offset ∧ m + r.offset ≤ f.arriveMt + 128 ∧
      (f.arriveOff + 1000) * rateHz s.per.baseRate ≤ (m + r.offset - f.arriveMt) * 1000000000 ∧ f.arriveMt ≤ m + r.offset ∧
      lookup? (s.rxSt r.id).held m = none) ∧
    (∃ (s : State) (n : Net) (f : Frame) (id : _) (b : _) (r : _) (u : _),
      s.net.takePe (fun k => match k with | .stream => false | .aes67 _ _ => true) = some (f, n) ∧ f.pe = .aes67 id b ∧
      s.streamRec true id = some r ∧ r.id = id ∧ r.aes67 = true ∧ udpOff f.bytes = some u ∧
      rtpPayload (slice f.bytes (u + 8) (befld f.bytes (u + 4) 2 - 8)) = none) ∧
    (∃ (s : State) (n : Net) (f : Frame) (id : _) (b : _) (r : _) (u : _) (udp : _) (o : _) (m : _),
      s.net.takePe (fun k => match k with | .stream => false | .aes67 _ _ => true) = some (f, n) ∧ f.pe = .aes67 id b ∧
      s.streamRec true id = some r ∧ r.id = id ∧ r.aes67 = true ∧ r.ptime = 1 ∧ r.l16 = false ∧ udpOff f.bytes = some u ∧
      udp = slice f.bytes (u + 8) (befld f.bytes (u + 4) 2 - 8) ∧ rtpPayload udp = some (o, 3 * r.channels) ∧
      u + 8 + o + 3 * r.channels ≤ f.bytes.length ∧ rebuildMedia 32 (befld udp 4 4) f.arriveMt = some m ∧
      s.per.mediaTime < m + 1 + r.offset ∧ m + 1 + r.offset ≤ f.arriveMt + 128 ∧ f.arriveMt ≤ m + 1 + r.offset ∧
      (f.arriveOff + 1000) * rateHz s.per.baseRate ≤ (m + 1 + r.offset - f.arriveMt) * 1000000000 ∧
      lookup? (s.rxSt id).held (m + 1) = none) ∧
    (∃ (s : State) (id : _) (media : _) (p : _), (s.txSt id).own.find? (fun q => q.1 == media) = some p ∧
      p.2.1 + 64 ≤ s.per.boundaries ∧ s.str.aligned = false) :=
  ⟨
    ⟨up, by decide⟩,
    ⟨atPe .stream (streamFrame 2), _, _,
      (⟨true, false, 1, 0x3007, 9, 1, 20, false, false, false, 0, 0, false, 0, 0, 0⟩ : StreamRec), _, rfl, rfl,
      by and_intros <;> decide⟩,
    ⟨atPe .stream (streamFrame 1), _, _,
      (⟨true, false, 1, 0x3007, 9, 1, 20, false, false, false, 0, 0, false, 0, 0, 0⟩ : StreamRec), _, 77000, by exact rfl,
      by exact rfl, by and_intros <;> decide +kernel⟩,
    ⟨atPe (.aes67 0x3007 true) (rtpFrame 0), _, _, 0x3007, true,
      (⟨true, true, 1, 0x3007, 9, 1, 20, false, false, false, 0, 0, false, 0, 0, 0⟩ : StreamRec), _, rfl, by decide, by decide,
      by decide, by decide, rfl, by decide⟩,
    ⟨atPe (.aes67 0x3007 true) (rtpFrame 0x80), _, _, 0x3007, true,
      (⟨true, true, 1, 0x3007, 9, 1, 20, false, false, false, 0, 0, false, 0, 0, 0⟩ : StreamRec), _, _, 12, 77000, rfl,
      by decide, by decide, by decide, by decide, by decide, by decide, rfl, rfl, by and_intros <;> decide⟩,
    ⟨up.setTx 5 { TxSt.fresh with own := [(76000, 900, true, 1, 2)] }, 5, 76000, _, rfl, by decide, by decide⟩⟩

theorem witness_stream_commands :
    (∃ (s : State) (e : Env) (c : CmdInfo) (id : _) (clear : _) (r : _) (x : _), s.meets (.streamStatus e 0 id clear) c ∧
      s.streamRec false id = some r ∧ s.txSt id = x) ∧
    (∃ (s : State) (e : Env) (c : CmdInfo) (id : _) (clear : _) (r : _) (x : _), s.meets (.streamStatus e 1 id clear) c ∧
      s.streamRec true id = some r ∧ s.rxSt id = x) ∧
    (∃ (s : State) (e : Env) (c : CmdInfo) (clear : _), s.meets (.belayStatus e clear) c ∧ s.isBelay = true) ∧
    (∃ (s : State) (e : Env) (c : CmdInfo) (count : _) (addr : _) (data : _) (es : _),
      s.meets (.aes67Bind e count addr data) c ∧ listed e.port addr count 1 256 ∧ es = bindEntries count data ∧
      (∀ x ∈ es, bindOk x = true) ∧
      (∀ x ∈ es, x.delete = true → (∃ y ∈ s.str.bindings, bindSame y x = true) ∧ ∀ y ∈ es, y.delete = false → bindSame y x = false) ∧
      (es.foldl applyBind s.str.bindings).length ≤ 256) :=
  ⟨
    ⟨(live { plane with streams := [⟨false, false, 1, 0x3007, 9, 1, 20, false, false, false, 0, 0, false, 0, 0, 0⟩] }).setTx 0x3007 { TxSt.fresh with sentA := 7 },
      eA, _, 0x3007, true, _, _, meets_of rfl (by decide), rfl, rfl⟩,
    ⟨(live { plane with streams := [⟨true, false, 1, 0x3007, 9, 1, 20, false, false, false, 0, 0, false, 0, 0, 0⟩] }).setRx 0x3007 RxSt.fresh,
      eA, _, 0x3007, true, _, _, meets_of rfl (by decide), rfl, rfl⟩,
    ⟨live { plane with nodeId := 5 }, eA, _, true, meets_of rfl (by decide), by decide⟩,
    ⟨up, eA, _, 1, 0,
      ([0, 1, 0xFF, 0xFF, 0xFF, 0, 0, 0, 0, 0, 0, 0, 0, 1, 0xFF, 0xFF, 0x13, 0x8C, 1, 63, 96, 0, 0, 0] ++ List.replicate 16 0),
      _, meets_of rfl (by decide), by unfold listed; decide, rfl, by and_intros <;> decide⟩⟩

theorem witness_control_frames :
    (∃ (s : State) (f : Frame) (n : Net) (w : List Byte) (k : Key), s.portsCalm ∧ s.pwr.service = true ∧
      s.boot.recovery = false ∧ s.net.takeNext 9 = some (f, n) ∧ (∃ q, q < 8 ∧ f ∈ (s.net.queue 9 q).frames) ∧
      w = f.bytes.drop (ethInfo f.bytes).pay ∧ (ethInfo f.bytes).etherType = s.net.etherType ∧
      befld f.bytes (ethInfo f.bytes).pay 1 = 0x80 ∧ befld w 2 2 % 4096 = s.nodeId ∧ 1 ≤ befld w 6 2 ∧ befld w 6 2 ≤ 16 ∧
      definedOpcode (leNat (slice w 16 2)) = true ∧ 32 + befld w 6 2 * 64 ≤ w.length ∧
      lookup? s.ports.pc.keys (befld w 4 1) = some k ∧ k.highest < befld w 8 8) ∧
    (∃ (s : State) (k : Key) (x : Entry) (tm : Nat), s.pwr.service = true ∧ s.ports.pc.held = [x] ∧
      lookup? s.ports.pc.keys s.ports.pc.lastKey = some k ∧ s.ports.pc.lastLane < 8 ∧ (s.lane s.ports.pc.lastLane).st = .up ∧
      (s.lane s.ports.pc.lastLane).inTx ≠ none ∧ s.net.etherType % 65536 ≠ 0x8100 ∧ s.domOn 5 = true ∧
      (∀ f : Frame, f.bytes.length ≤ 150 → s.net.admits s.ports.pc.lastLane 6 f = true) ∧
      (∀ g ∈ (s.net.queue s.ports.pc.lastLane 6).frames, g.first < max s.now tm)) :=
  ⟨
    ⟨{ keyed with net := keyed.net.setQueue 9 7 ⟨[{ (default : Frame) with bytes := cmdFrame }], 32, 4096, 0, 0⟩ },
      { (default : Frame) with bytes := cmdFrame }, _, _, key7, calm_of (by decide +kernel), by decide +kernel,
      by decide +kernel, by exact rfl, ⟨7, by decide +kernel⟩, by exact rfl, by and_intros <;> decide +kernel⟩,
    ⟨keyed.setLane 7 upLane, key7, ⟨1, 2, 3, 4, 0, 0, 1, 0, [], true, 0⟩, 5000000000, by decide, by decide, by decide,
      by decide, by decide, by decide, by decide, by decide,
      fun f h => admits_small (by decide +kernel) (show (f.bytes.length + 4 + 255) / 256 ≤ 32 by omega), by decide⟩⟩

theorem witness_time_unit :
    (∃ (s : State) (e : Env) (c : CmdInfo), s.meets (.timeGet e) c) ∧
    (∃ (s : State) (f : _), s.domOn 2 = true ∧ s.reaches f = true) ∧
    (∃ (s : State) (tm : _), s.ts.tb = ⟨0, 0, 0, 2 ^ 48, 0, []⟩ ∧ tm < 10 ^ 18) ∧
    (∃ (s : State) (tm : _), s.now ≤ tm ∧ s.ts.ppsEn = true ∧ ((s.ts.tb.tick tm).ns ≤ 2 ∨ 999999998 ≤ (s.ts.tb.tick tm).ns) ∧
      (∀ u, s.ts.ppsLast = some u → u + 500000000 ≤ tm)) ∧
    (∃ (s : State), s.ts.ppsEn = false) ∧
    (∃ (s : State) (lane : _), lane < 8 ∧ (s.lane lane).pcsLock = true) ∧
    (∃ (s : State) (lane : _), lane < 8 ∧ (s.lane lane).pcsLock = true) ∧
    (∃ (s : State) (lane : _), lane < 8 ∧ s.pwr.cpRunning = true ∧ (s.tsLane lane).cfg.ptpEn = true ∧
      ((s.tsLane lane).portState = 8 ∨ (s.tsLane lane).portState = 9)) ∧
    (∃ (s : State) (lane : Nat) (f : RxFrame) (off : Nat) (w : PtpFw), lane < 8 ∧ (s.lane lane).st = .up ∧ s.domOn 5 = true ∧
      rxCheck f (s.lane lane).cfg.maxFrame = none ∧ f.fecCorr = 0 ∧ f.fecUncorr = 0 ∧ f.t ≤ s.now ∧ f.tEnd ≤ s.now ∧
      s.heartbeatOf f.bytes = none ∧ s.ptpHeader lane f.bytes = some off ∧ s.pwr.cpRunning = true ∧
      (ethInfo f.bytes).da ≠ 0x0180C2000001 ∧ (ethInfo f.bytes).da ≠ 0x0180C2000002 ∧
      (∀ q, q < 8 → ∀ g ∈ (s.net.queue 9 q).frames, g.ptp = false) ∧ 1 ≤ s.ts.ptp.mode ∧ s.ts.ptp.mode ≤ 2 ∧
      befld f.bytes off 1 % 16 = 0 ∧ befld f.bytes (off + 4) 1 = s.ts.ptp.domain ∧ w.portState ≤ 9) ∧
    (∃ (s : State) (lane : Nat) (f : RxFrame) (off : Nat), lane < 8 ∧ (s.lane lane).st = .up ∧ s.domOn 5 = true ∧
      rxCheck f (s.lane lane).cfg.maxFrame = none ∧ f.fecCorr = 0 ∧ f.fecUncorr = 0 ∧ f.t ≤ s.now ∧ f.tEnd ≤ s.now ∧
      s.heartbeatOf f.bytes = none ∧ s.ptpHeader lane f.bytes = some off ∧ s.pwr.cpRunning = true ∧
      (ethInfo f.bytes).da ≠ 0x0180C2000001 ∧ (ethInfo f.bytes).da ≠ 0x0180C2000002 ∧
      (∀ q, q < 8 → ∀ g ∈ (s.net.queue 9 q).frames, g.ptp = false) ∧ 1 ≤ s.ts.ptp.mode ∧ s.ts.ptp.mode ≤ 2 ∧
      befld f.bytes off 1 % 16 = 0 ∧ befld f.bytes (off + 4) 1 ≠ s.ts.ptp.domain) ∧
    (∃ (s : State) (lane : Nat) (f : RxFrame) (off : Nat), lane < 8 ∧ (s.lane lane).st = .up ∧ s.domOn 5 = true ∧
      rxCheck f (s.lane lane).cfg.maxFrame = none ∧ f.fecCorr = 0 ∧ f.fecUncorr = 0 ∧ f.t ≤ s.now ∧ f.tEnd ≤ s.now ∧
      s.heartbeatOf f.bytes = none ∧ s.ptpHeader lane f.bytes = some off ∧ s.pwr.cpRunning = true ∧
      (ethInfo f.bytes).da ≠ 0x0180C2000001 ∧ (ethInfo f.bytes).da ≠ 0x0180C2000002 ∧
      (∀ q, q < 8 → ∀ g ∈ (s.net.queue 9 q).frames, g.ptp = false) ∧ s.ts.ptp.mode = 4 ∧ befld f.bytes off 1 % 16 = 1 ∧
      (ethInfo f.bytes).da ≠ 0x0180C200000E ∧ (ethInfo f.bytes).da ≠ s.net.nodeMac) :=
  ⟨
    ⟨(onD 0x0401 up), eD, _, meets_of rfl (by decide)⟩,
    ⟨up, .D, by decide, by decide⟩,
    ⟨up, 999999999999999999, by decide, by decide⟩,
    ⟨{ up with ts := { Ts.reset with ppsEn := true } }, 6000000002, by decide, by decide, by decide, fun u h => nomatch h⟩,
    ⟨up, by decide⟩,
    ⟨laneIs upLane, 7, by decide, by decide⟩,
    ⟨laneIs upLane, 7, by decide, by decide⟩,
    ⟨(up).setTsLane 7 { TsLane.reset with cfg := { PtpPortCfg.off with ptpEn := true, mapEth := true, announceTimeout := 3 }, portState := 9 },
      7, by and_intros <;> decide⟩,
    ⟨{ (((up).setTsLane 7 { TsLane.reset with cfg := { PtpPortCfg.off with ptpEn := true, mapEth := true, announceTimeout := 3 }, portState := 9 }).setLane 7 upLane) with ts := { ((up).setTsLane 7 { TsLane.reset with cfg := { PtpPortCfg.off with ptpEn := true, mapEth := true, announceTimeout := 3 }, portState := 9 }).ts with ptp := ⟨2, 0, 0, 0, 0, false⟩ } },
      7, rx60 (beBytes 6 0x011B19000000 ++ beBytes 6 2 ++ beBytes 2 0x88F7 ++ [0, 2] ++ List.replicate 44 0), _,
      ⟨9, 1000, -5, 6, 0⟩, by decide, by decide, by decide, by decide, by decide, by decide, by decide, by decide, by decide,
      rfl, by and_intros <;> decide⟩,
    ⟨{ (((up).setTsLane 7 { TsLane.reset with cfg := { PtpPortCfg.off with ptpEn := true, mapEth := true, announceTimeout := 3 }, portState := 9 }).setLane 7 upLane) with ts := { ((up).setTsLane 7 { TsLane.reset with cfg := { PtpPortCfg.off with ptpEn := true, mapEth := true, announceTimeout := 3 }, portState := 9 }).ts with ptp := ⟨2, 0, 0, 0, 0, false⟩ } },
      7, rx60 (beBytes 6 0x011B19000000 ++ beBytes 6 2 ++ beBytes 2 0x88F7 ++ [0, 2] ++ [0, 44, 5] ++ List.replicate 41 0), _,
      by decide, by decide, by decide, by decide, by decide, by decide, by decide, by decide, by decide, rfl,
      by and_intros <;> decide⟩,
    ⟨{ (((up).setTsLane 7 { TsLane.reset with cfg := { PtpPortCfg.off with ptpEn := true, mapEth := true, announceTimeout := 3 }, portState := 9 }).setLane 7 upLane) with ts := { ((up).setTsLane 7 { TsLane.reset with cfg := { PtpPortCfg.off with ptpEn := true, mapEth := true, announceTimeout := 3 }, portState := 9 }).ts with ptp := ⟨4, 0, 0, 0, 0, false⟩ } },
      7, rx60 (beBytes 6 0x011B19000000 ++ beBytes 6 2 ++ beBytes 2 0x88F7 ++ [1, 2] ++ List.replicate 44 0), _, by decide,
      by decide, by decide, by decide, by decide, by decide, by decide, by decide, by decide, rfl, by and_intros <;> decide⟩⟩

theorem witness_time_commands :
    (∃ (s : State) (e : Env) (c : CmdInfo) (mode : _) (profile : _) (domain : _) (p1 : _) (p2 : _) (two : _),
      s.meets (.ptpConfig e mode profile domain p1 p2 two false) c ∧ mode ≤ 4 ∧ profile ≤ 3 ∧ domain ≤ 127 ∧ p1 ≤ 255 ∧
      p2 ≤ 255 ∧ (mode ≠ 1 ∨ ((List.range 8).filter (fun j => (s.tsLane j).cfg.ptpEn)).length ≤ 1)) ∧
    (∃ (s : State) (e : Env) (c : CmdInfo) (lane : _) (cfg : PtpPortCfg), s.meets (.ptpPortConfig e lane cfg false) c ∧
      lane ≤ 7 ∧ profileRange s.ts.ptp.profile cfg = true ∧
      (s.ts.ptp.profile ≤ 1 ∨ (cfg.mapEth = false ∧ cfg.mapIpv6 = false)) ∧
      (s.ts.ptp.mode ≠ 1 ∨ cfg.ptpEn = false ∨ ∀ j, j < 8 → j ≠ lane → (s.tsLane j).cfg.ptpEn = false) ∧
      s.domOn (laneDomain lane) = true) ∧
    (∃ (s : State) (e : Env) (c : CmdInfo) (lane : _) (mode : _) (rx : _) (tx : _),
      s.meets (.tsCalSet e lane mode rx tx false) c ∧ lane ≤ 7 ∧ mode ≤ 2 ∧ rx < 2 ^ 32 ∧ tx < 2 ^ 32 ∧
      (calArg rx).natAbs ≤ 655360000 ∧ (calArg tx).natAbs ≤ 655360000 ∧ s.domOn (laneDomain lane) = true) ∧
    (∃ (s : State) (e : Env) (c : CmdInfo) (lane : _) (clear : _) (l : _), s.meets (.ptpStatus e lane clear) c ∧ lane ≤ 7 ∧
      s.tsLane lane = l ∧ l.cfg.ptpEn = true) ∧
    (∃ (s : State) (e : Env) (c : CmdInfo) (en : _) (width : _), s.meets (.ppsOutConfig e en width false) c ∧ 1 ≤ width ∧
      width ≤ 50000) ∧
    (∃ (s : State) (e : Env) (c : CmdInfo) (en : _) (width : _) (persist : _), s.meets (.ppsOutConfig e en width persist) c ∧
      (width = 0 ∨ 50000 < width)) :=
  ⟨
    ⟨up, eA, _, 4, 3, 127, 255, 0, true, meets_of rfl (by decide), by and_intros <;> decide⟩,
    ⟨{ up with ts := { Ts.reset with ptp := ⟨1, 0, 0, 0, 0, false⟩ } }, eA, _, 7,
      { PtpPortCfg.off with ptpEn := true, mapIpv4 := true, announceTimeout := 3 }, meets_of rfl (by decide), by decide,
      by decide, by decide, .inr (.inr (by decide)), by decide⟩,
    ⟨up, eA, _, 7, 2, 4294967295, 655360000, meets_of rfl (by decide), by and_intros <;> decide⟩,
    ⟨(up).setTsLane 7 { TsLane.reset with cfg := { PtpPortCfg.off with ptpEn := true, mapEth := true, announceTimeout := 3 }, rxEvent := 4 },
      eA, _, 7, true, _, meets_of rfl (by decide), by decide, rfl, by decide⟩,
    ⟨up, eA, _, false, 50000, meets_of rfl (by decide), by decide, by decide⟩,
    ⟨up, eA, _, true, 50001, true, meets_of rfl (by decide), by decide⟩⟩

theorem witness_selector :
    (∃ (s : State) (lane : _) (err : Int) (tm : _), lane < 8 ∧ s.now ≤ tm ∧ s.ts.tb.at_ ≤ tm ∧ s.pwr.cpRunning = true ∧
      s.ref.st = .locked ∧ s.ref.sel = lane ∧ s.ref.pol.stepNs ≤ err.natAbs ∧ s.ref.bigErrs = 2) ∧
    (∃ (s : State) (lane : _) (err : Int), lane < 8 ∧ s.pwr.cpRunning = true ∧ s.ref.follows lane = true ∧
      s.ref.pol.stepNs ≤ err.natAbs ∧ s.ref.bigErrs < 2) ∧
    (∃ (s : State) (lane : _) (err : Int), lane < 8 ∧ s.pwr.cpRunning = true ∧ s.ref.follows lane = true ∧
      err.natAbs < s.ref.pol.stepNs) ∧
    (∃ (s : State) (err : Int), s.pwr.cpRunning = true ∧ s.ref.follows 13 = true ∧ s.ref.carriesTime 13 = true ∧
      err.natAbs < s.ref.pol.stepNs) ∧
    (∃ (s : State), s.pwr.cpRunning = true ∧ s.ref.st = .freerun ∧ (∀ i, s.ref.enabled i = false) ∧ s.ref.acquiring = false ∧
      s.ref.trim.natAbs ≤ 200000000) ∧
    (∃ (s : State), s.pwr.cpRunning = false ∧ (s.ref.following = false ∨ s.ref.sel < 8 ∨ s.ref.cpHold = true)) ∧
    (∃ (s : State) (m : RefMeas) (tm : _), tm ≤ s.now ∧ s.pwr.cpRunning = false ∧ s.ref.following = true ∧ 8 ≤ s.ref.sel ∧
      s.ref.sel ≤ 13 ∧ s.ref.cpHold = false ∧ s.candSignal m s.ref.sel = false ∧ s.ref.freqHist ≠ []) ∧
    (∃ (s : State), s.pwr.cpRunning = false) ∧
    (∃ (s : State) (offs : Vector Int 16) (i : Fin 14), s.pwr.cpRunning = true ∧ (∀ j, j < 15 → (s.ref.c j).qualified = false) ∧
      (s.ref.c i).signal = true ∧ (s.ref.c i).w10 + 10000000000 ≤ s.now ∧ (s.ref.c i).st = .qualifying ∧
      (∀ j, j < 15 → j ≠ i → (s.ref.c j).signal = false) ∧ (offs.get ⟨i, by omega⟩ - s.ref.trim).natAbs ≤ s.ref.pol.softPpt ∧
      s.ref.pol.softPpt ≤ s.ref.pol.hardPpt ∧ (offs.get ⟨i, by omega⟩ - s.ref.trim).natAbs < 2 ^ 32) ∧
    (∃ (s : State) (lane : _) (tm : _), lane < 8 ∧ s.pwr.cpRunning = true ∧ (s.lane lane).esmcTx = true ∧
      (s.lane lane).st = .up ∧ (s.lane lane).inTx ≠ none ∧ s.domOn 5 = true ∧
      (∀ f : Frame, f.bytes.length ≤ 60 → s.net.admits lane 7 f = true) ∧
      (∀ g ∈ (s.net.queue lane 7).frames, g.first < max s.now tm)) ∧
    (∃ (s : State), s.pwr.cpRunning = false ∧ s.ref.st = .locked ∧ 8 ≤ s.ref.sel ∧ s.ref.sel ≤ 13 ∧ s.ref.cpHold = false ∧
      s.ref.freqHist ≠ []) :=
  ⟨
    ⟨{ up with ref := { Ref.reset with st := .locked, sel := 7, bigErrs := 2 } }, 7, -1000, 5000000003,
      by and_intros <;> decide⟩,
    ⟨{ up with ref := { Ref.reset with st := .locked, sel := 7, bigErrs := 1 } }, 7, 1000, by and_intros <;> decide⟩,
    ⟨{ up with ref := { Ref.reset with st := .pullin, sel := 7, bigErrs := 1 } }, 7, 999, by and_intros <;> decide⟩,
    ⟨{ up with ref := { Ref.reset with st := .locked, sel := 13, cand := wr Ref.reset.cand 14 { Cand.reset 14 with qualified := true } } },
      3, by and_intros <;> decide⟩,
    ⟨{ up with ref := { Ref.reset with pol := { RefPol.dflt with enableMask := 0 }, trim := 7 } }, by decide, by decide,
      none_enabled rfl, by decide, by decide⟩,
    ⟨State.reset, by decide, by decide⟩,
    ⟨{ State.reset with now := 5000000003, ref := { Ref.reset with st := .locked, sel := 13, freqHist := [4, 7] } },
      (⟨5, 0, 0, 0, 1000, 0, Vector.replicate 16 0⟩ : RefMeas), 5000000003, by and_intros <;> decide⟩,
    ⟨State.reset, by decide⟩,
    ⟨{ up with now := 10000000000, ref := { Ref.reset with cand := wr Ref.reset.cand 5 { Cand.reset 5 with st := .qualifying, signal := true } } },
      Vector.replicate 16 (-1000000), 5, by and_intros <;> decide⟩,
    ⟨laneIs { upLane with esmcTx := true }, 7, 5000000003, by decide, by decide, by decide, by decide, by decide, by decide,
      fun f h => admits_small (by decide +kernel) (show (f.bytes.length + 4 + 255) / 256 ≤ 32 by omega), by decide⟩,
    ⟨{ State.reset with ref := { Ref.reset with st := .locked, sel := 13, freqHist := [-200000000] } },
      by and_intros <;> decide⟩⟩

theorem witness_ref_commands :
    (∃ (s : State) (e : Env) (c : CmdInfo) (clear : _) (r : _), s.meets (.refStatusGet e clear) c ∧ s.ref = r) ∧
    (∃ (s : State) (e : Env) (c : CmdInfo) (i : _) (lockout : _) (ql : _), s.meets (.refCandConfig e i lockout ql false) c ∧
      i ≤ 13 ∧ (ql = 0xFF ∨ (12 ≤ i ∧ ql ≤ 3))) ∧
    (∃ (s : State) (e : Env) (c : CmdInfo) (trim : Int), s.meets (.refOscTrimSet e trim false) c ∧ -200000000 ≤ trim ∧
      trim ≤ 200000000) ∧
    (∃ (s : State) (e : Env) (c : CmdInfo) (trim : Int), s.meets (.refOscTrimSet e trim true) c ∧ s.flashFree ∧
      -200000000 ≤ trim ∧ trim ≤ 200000000) ∧
    (∃ (s : State) (e : Env) (c : CmdInfo), s.meets (.mediaRealign e) c ∧
      (∃ i, i < 14 ∧ s.ref.carriesTime i = true ∧ (s.ref.c i).eligible = true)) ∧
    (∃ (s : State) (e : Env) (c : CmdInfo), s.meets (.mediaRealign e) c ∧
      (∀ i, i < 14 → s.ref.carriesTime i = true → (s.ref.c i).eligible = false)) ∧
    (∃ (s : State) (e : Env) (c : CmdInfo) (w : _) (m0 : _) (m1 : _), s.meets (.mclkConfig e w m0 m1 false) c ∧
      (∀ m, m = m0 ∨ m = m1 → (m = 0 ∨ m = 64 ∨ m = 128 ∨ m = 256 ∨ m = 512) ∧ m * rateHz s.per.baseRate ≤ 49152000)) ∧
    (∃ (s : State) (e : Env) (c : CmdInfo) (lane : _) (sy : _) (es : _), s.meets (.esmcConfig e lane sy es false) c ∧ lane ≤ 7 ∧
      s.domOn (laneDomain lane) = true) :=
  ⟨
    ⟨up, eA, _, true, _, meets_of rfl (by decide), rfl⟩,
    ⟨up, eA, _, 13, true, 3, meets_of rfl (by decide), by decide, by decide⟩,
    ⟨up, eA, _, -200000000, meets_of rfl (by decide), by decide, by decide⟩,
    ⟨up, eA, _, 200000000, meets_of rfl (by decide), ⟨by decide, by decide⟩, by decide, by decide⟩,
    ⟨{ up with ref := { Ref.reset with cand := wr Ref.reset.cand 7 { Cand.reset 7 with st := .eligible, rxQl := 1 } } }, eA, _,
      meets_of rfl (by decide), by decide⟩,
    ⟨up, eA, _, meets_of rfl (by decide), by decide⟩,
    ⟨up, eA, _, true, 512, 0, meets_of rfl (by decide), by rintro m (rfl | rfl) <;> decide⟩,
    ⟨up, eA, _, 7, true, false, meets_of rfl (by decide), by decide, by decide⟩⟩

theorem witness_channel_trips :
    (∃ (s : State) (k : Nat) (c : Chan) (tm : Nat) (now : Nat) (peak : _), k < 32 ∧ s.paired k = false ∧ s.chan k = c ∧
      c.stop = none ∧ s.domOn 12 = true ∧ now = max s.now tm ∧ c.switching = true ∧ c.hist.length ≤ 1 ∧ peak < 65536) ∧
    (∃ (s : State) (k : Nat) (c : Chan) (tm : Nat) (now : Nat) (peak : _) (a : Nat × Nat) (b : Nat × Nat), k < 32 ∧
      s.paired k = false ∧ s.chan k = c ∧ c.stop = none ∧ s.domOn 12 = true ∧ now = max s.now tm ∧ c.switching = true ∧
      c.hist.drop (c.hist.length - 2) = [a, b] ∧ now ≤ a.1 + 10000000000 ∧ peak < 65536) ∧
    (∃ (s : State) (k : Nat) (c : Chan) (tm : Nat) (now : Nat), k < 32 ∧ s.paired k = false ∧ s.chan k = c ∧ c.stop = none ∧
      s.domOn 12 = true ∧ now = max s.now tm ∧ c.switching = false) ∧
    (∃ (s : State) (k : Nat) (c : Chan) (tm : Nat) (now : Nat) (u : _), k < 32 ∧ s.paired k = false ∧ s.chan k = c ∧
      c.stop = none ∧ s.domOn 12 = true ∧ now = max s.now tm ∧ c.st = .tripped ∧ c.hiccup = some u ∧ u ≤ now) ∧
    (∃ (s : State) (k : Nat) (c : Chan) (tm : Nat) (now : Nat) (u : _), k < 32 ∧ s.paired k = false ∧ s.chan k = c ∧
      c.stop = none ∧ s.domOn 12 = true ∧ now = max s.now tm ∧ c.hiccup = some u ∧ now < u) ∧
    (∃ (s : State) (k : Nat) (c : Chan) (tm : Nat) (now : Nat) (r : _) (pos : Bool) (x : _), k < 32 ∧ s.paired k = false ∧
      s.chan k = c ∧ c.stop = none ∧ s.domOn 12 = true ∧ now = max s.now tm ∧ c.limEnd = false ∧ s.modRec k = some r ∧
      r.limitCode ≠ 0 ∧ x = s.gridAt now ∧
      (∀ y, y = x ∨ y = x - (gridHz s.per.baseRate / 50000000 + 1 : Nat) → (if pos then (s.gates k y).1 else (s.gates k y).2) = true)) ∧
    (∃ (s : State) (k : Nat) (c : Chan) (tm : Nat) (now : Nat) (pos : Bool), k < 32 ∧ s.paired k = false ∧ s.chan k = c ∧
      c.stop = none ∧ s.domOn 12 = true ∧ now = max s.now tm ∧
      (c.limEnd = true ∨ (if pos then (s.gates k (s.gridAt now)).1 else (s.gates k (s.gridAt now)).2) = false)) :=
  ⟨
    ⟨(amp 31 { Chan.reset with st := .run, ssFrom := some 900, gain := 100 }), 31, _, 5000000003, _, 65535, by decide,
      unpaired_of rfl (by decide) _, rfl, by decide, by decide, rfl, by and_intros <;> decide⟩,
    ⟨(amp 31 { Chan.reset with st := .run, ssFrom := some 900, hist := [(1, 1), (2, 2), (3, 3)] }), 31, _, 5000000003, _, 65535,
      (2, 2), (3, 3), by decide, unpaired_of rfl (by decide) _, rfl, by decide, by decide, rfl, by and_intros <;> decide⟩,
    ⟨(amp 31 { Chan.reset with st := .held }), 31, _, 5000000003, _, by decide, unpaired_of rfl (by decide) _, rfl, by decide,
      by decide, rfl, by decide⟩,
    ⟨(amp 31 { Chan.reset with st := .tripped, hiccup := some 5000000003 }), 31, _, 5000000003, _, _, by decide,
      unpaired_of rfl (by decide) _, rfl, by decide, by decide, rfl, by decide, rfl, by decide⟩,
    ⟨(amp 31 { Chan.reset with st := .tripped, hiccup := some 5000000004 }), 31, _, 5000000003, _, _, by decide,
      unpaired_of rfl (by decide) _, rfl, by decide, by decide, rfl, rfl, by decide⟩,
    ⟨(let s := (amp 31 { Chan.reset with st := .run, ssFrom := some 900, gain := 100, cycle := 1048576, high := 1048576 }); { s with per := { s.per with openedAt := 4999999903 } }),
      31, _, 5000000003, _, modK 31, true, 40265, by decide, unpaired_of rfl (by decide) _, rfl, by decide, by decide, rfl,
      by decide, by decide, by decide, by decide, by rintro y (rfl | rfl) <;> decide⟩,
    ⟨(let s := (amp 31 { Chan.reset with st := .run, ssFrom := some 900, gain := 100, cycle := 1048576, high := 1048576 }); { s with per := { s.per with openedAt := 4999999903 } }),
      31, _, 5000000003, _, false, by decide, unpaired_of rfl (by decide) _, rfl, by decide, by decide, rfl, .inr (by decide)⟩⟩

theorem witness_channel_holds :
    (∃ (s : State), (∀ k, s.paired k = false) ∧ s.pst.safeN = false ∧ (∀ k, (s.chan k).stop = none)) ∧
    (∃ (s : State), (∀ k, s.paired k = false) ∧ s.pst.safeN = true ∧ s.pst.tw = false ∧ (∀ k, (s.chan k).switching = false)) ∧
    (∃ (s : State) (k : _) (b : _), (∀ k, s.paired k = false) ∧ k < 32 ∧ (s.chan k).st = .softstart ∧
      (s.chan k).ssFrom = some b ∧ (s.chan k).stop = none) ∧
    (∃ (s : State) (k : _) (p : _) (g : _) (q : CPort) (f : _), (∀ k, s.paired k = false) ∧ k < 32 ∧
      (s.chan k).switching = true ∧ (s.chan k).stop = some (some (p, g)) ∧ p + 64 ≤ s.per.boundaries ∧ s.portsCalm ∧
      s.canAnswer q f ∧ s.pst.stops = [⟨q, f.handle, [k], none⟩]) :=
  ⟨
    ⟨(amp 31 { Chan.reset with st := .run, ssFrom := some 900, gain := 100 }), unpaired_of rfl (by decide), by decide,
      of_rd _ (fun c : Chan => c.stop = none) (by decide) rfl⟩,
    ⟨(let s := amp 31 { Chan.reset with st := .held }; { s with pst := { s.pst with safeN := true } }),
      unpaired_of rfl (by decide), by decide, by decide, of_rd _ (fun c : Chan => c.switching = false) (by decide) rfl⟩,
    ⟨(amp 31 { Chan.reset with st := .softstart, ssFrom := some 900 }), 31, 900, unpaired_of rfl (by decide),
      by and_intros <;> decide⟩,
    ⟨(let s := (amp 31 { Chan.reset with st := .run, stop := some (some (936, 5)) }).setPort .A { openPort with flights := [flightOf (.pstageStop eA 0x80000000)] }; { s with pst := { s.pst with stops := [⟨.A, 7, [31], none⟩] } }),
      31, 936, 5, .A, flightOf (.pstageStop eA 0x80000000), unpaired_of rfl (by decide), by decide, by decide, by decide,
      by decide, calm_of (by decide), canAnswer_of (by decide), by decide⟩⟩

theorem witness_rails_and_dc :
    (∃ (s : State) (r : _) (reading : _) (cfg : _), (∀ k, s.paired k = false) ∧ s.domOn 12 = true ∧ r < 4 ∧ reading ≤ 65535 ∧
      (s.railOf r).cfg = some cfg ∧ (s.railOf r).outside = false ∧ reading * cfg.rsFs < cfg.uv * 65536) ∧
    (∃ (s : State) (r : _) (reading : _) (cfg : _), (∀ k, s.paired k = false) ∧ s.domOn 12 = true ∧ r < 4 ∧ reading ≤ 65535 ∧
      (s.railOf r).cfg = some cfg ∧ (s.railOf r).outside = true ∧ cfg.nom ≤ 50 * cfg.ov ∧
      (50 * cfg.uv + cfg.nom) * 65536 ≤ reading * cfg.rsFs * 50 ∧ reading * cfg.rsFs * 50 ≤ (50 * cfg.ov - cfg.nom) * 65536) ∧
    (∃ (s : State) (k : _) (sum : Int) (n : _) (r : _) (cfg : _) (lp : _), (∀ k, s.paired k = false) ∧ s.domOn 12 = true ∧
      k < 32 ∧ (s.chan k).dcEnd = some (sum, n, true) ∧ s.modRec k = some r ∧ (s.railOf r.rail).cfg = some cfg ∧
      rd s.pst.loops k = some lp ∧ (s.chan k).st = .run ∧ (s.chan k).stop = none ∧ 0 < n ∧ 0 < sum ∧
      2 * r.dcThresh * (s.railOf r.rail).reading * cfg.rsFs * n * 2 ^ 24 ≤ sum.natAbs * (2 * lp.vsFs) * 10000 * 65536 ∧
      (s.chan k).dcSign = 1) ∧
    (∃ (s : State) (n : _) (cs : Vector Int 32) (vs : Vector Int 32) (rs : Vector Int 4), s.domOn 12 = true ∧ n ≤ 31 ∧
      (∀ k, s.paired k = false) ∧ (∀ i, (s.conv i).resv = none) ∧
      (∀ i : Fin 32, -32768 < cs.get i ∧ cs.get i < 32767 ∧ -32768 < vs.get i ∧ vs.get i < 32767) ∧
      (∀ i : Fin 4, 0 ≤ rs.get i ∧ rs.get i < 65535)) ∧
    (∃ (s : State) (i : _), s.domOn 12 = true ∧ i < 68 ∧ (s.conv i).failed = false ∧ (s.conv i).resv = none ∧
      (s.conv i).resvDue = none) ∧
    (∃ (s : State) (tm : Nat) (i : _) (u : _), s.domOn 12 = true ∧ i < 68 ∧ (s.conv i).failed = true ∧
      (s.conv i).trimBad = false ∧ (s.conv i).fullRun < fullTicks s.per.baseRate ∧ (s.conv i).passSince = some u ∧
      u + 100000000 ≤ max s.now tm ∧ (s.conv i).open_ = true) ∧
    (∃ (s : State) (trims : Vector (Option (Int × Int)) 68) (r : _), s.domOn 12 = true ∧ s.hlt.calInterval ≠ 0 ∧
      s.freeReserve = some r ∧ (∀ i, (s.conv i).failed = false ∧ (s.conv i).trimBad = false) ∧ (∀ i, trims.get i ≠ none)) :=
  ⟨
    ⟨(amp 31 { Chan.reset with st := .run, ssFrom := some 900, gain := 100 }), 1, 26214, ⟨100000, 48000, 40000, 56000⟩,
      unpaired_of rfl (by decide), by and_intros <;> decide⟩,
    ⟨(let s := amp 31 { Chan.reset with st := .held, rail := true }; s.setRail 1 { (s.railOf 1) with outside := true, uv := true }),
      1, 26844, ⟨100000, 48000, 40000, 56000⟩, unpaired_of rfl (by decide), by and_intros <;> decide⟩,
    ⟨(let s := amp 31 { Chan.reset with st := .run, ssFrom := some 900, dcEnd := some (100000000, 960, true), dcRun := 2, dcSign := 1 }; { s with pst := { s.pst with loops := wr (Vector.replicate 32 none) 31 (some ⟨0, 0, 100000⟩) } }),
      31, 100000000, 960, modK 31, ⟨100000, 48000, 40000, 56000⟩, ⟨0, 0, 100000⟩, unpaired_of rfl (by decide),
      by and_intros <;> decide⟩,
    ⟨(amp 31 { Chan.reset with st := .run, ssFrom := some 900, gain := 100 }), 31, Vector.replicate 32 (-32767),
      Vector.replicate 32 32766, Vector.replicate 4 65534, by decide, by decide, unpaired_of rfl (by decide),
      of_rd _ (fun c : Conv => c.resv = none) (by decide) rfl, by decide, by decide⟩,
    ⟨(amp 31 { Chan.reset with st := .run, ssFrom := some 900, gain := 100 }), 67, by and_intros <;> decide⟩,
    ⟨(let s := (amp 31 { Chan.reset with st := .run, ssFrom := some 900, gain := 100 }); { s with pst := { s.pst with convs := wr (Vector.replicate 72 Conv.reset) 67 { Conv.reset with failed := true, open_ := true, passSince := some 4900000003, resv := some 2 } } }),
      5000000003, 67, 4900000003, by and_intros <;> decide⟩,
    ⟨(amp 31 { Chan.reset with st := .run, ssFrom := some 900, gain := 100 }), Vector.replicate 68 (some (1, 2)), _, by decide,
      by decide, rfl, of_rd _ (fun c : Conv => c.failed = false ∧ c.trimBad = false) (by decide) ⟨rfl, rfl⟩, by decide⟩⟩

theorem witness_channel_commands :
    (∃ (s : State) (e : Env) (c : CmdInfo) (k : Nat) (x : Chan) (mask : BitVec 32) (clear : _) (r : _), k < 32 ∧
      s.paired k = false ∧ s.chan k = x ∧ s.domOn 12 = true ∧ mask = 1#32 <<< k ∧ s.meets (.pstageStatus e k clear) c ∧
      s.modRec k = some r ∧ x.hist = []) ∧
    (∃ (s : State) (e : Env) (c : CmdInfo) (k : Nat) (x : Chan) (mask : BitVec 32), k < 32 ∧ s.paired k = false ∧ s.chan k = x ∧
      s.domOn 12 = true ∧ mask = 1#32 <<< k ∧ s.meets (.pstageClear e mask) c ∧ x.st = .latched ∧ x.stop = none) ∧
    (∃ (s : State) (e : Env) (c : CmdInfo) (k : Nat) (x : Chan) (mask : BitVec 32), k < 32 ∧ s.paired k = false ∧ s.chan k = x ∧
      s.domOn 12 = true ∧ mask = 1#32 <<< k ∧ s.meets (.pstageClear e mask) c ∧ x.st ≠ .latched) ∧
    (∃ (s : State) (e : Env) (c : CmdInfo) (k : Nat) (x : Chan) (mask : BitVec 32), k < 32 ∧ s.paired k = false ∧ s.chan k = x ∧
      s.domOn 12 = true ∧ mask = 1#32 <<< k ∧ s.meets (.pstageStop e mask) c ∧ x.host = false ∧ x.switching = false ∧
      x.stop = none) ∧
    (∃ (s : State) (e : Env) (c : CmdInfo) (k : Nat) (x : Chan) (mask : BitVec 32), k < 32 ∧ s.paired k = false ∧ s.chan k = x ∧
      s.domOn 12 = true ∧ mask = 1#32 <<< k ∧ s.meets (.pstageStop e mask) c ∧ x.host = false ∧ x.switching = true ∧
      x.stop = none) ∧
    (∃ (s : State) (e : Env) (c : CmdInfo) (k : Nat) (x : Chan) (mask : BitVec 32), k < 32 ∧ s.paired k = false ∧ s.chan k = x ∧
      s.domOn 12 = true ∧ mask = 1#32 <<< k ∧ s.meets (.pstageStart e mask) c ∧ s.hlt.maint = false ∧ x.host = true ∧
      x.stop = none) ∧
    (∃ (s : State) (e : Env) (c : CmdInfo) (k : Nat) (x : Chan) (mask : BitVec 32), k < 32 ∧ s.paired k = false ∧ s.chan k = x ∧
      s.domOn 12 = true ∧ mask = 1#32 <<< k ∧ s.meets (.pstageStart e mask) c ∧ s.hlt.maint = true) ∧
    (∃ (s : State) (e : Env) (c : CmdInfo) (k : Nat) (x : Chan) (mask : BitVec 32) (r : _) (cfg : RailCfg), k < 32 ∧
      s.paired k = false ∧ s.chan k = x ∧ s.domOn 12 = true ∧ mask = 1#32 <<< k ∧
      s.meets (.pstageRailConfig e r cfg.rsFs cfg.nom cfg.uv cfg.ov false) c ∧ r ≤ 3 ∧ railCfgOk cfg = true ∧ s.quiet) ∧
    (∃ (s : State) (e : Env) (c : CmdInfo) (k : Nat) (x : Chan) (mask : BitVec 32) (kp : _) (ki : _) (fs : _), k < 32 ∧
      s.paired k = false ∧ s.chan k = x ∧ s.domOn 12 = true ∧ mask = 1#32 <<< k ∧
      s.meets (.pstageLoopConfig e k kp ki fs false) c ∧ kp ≤ 0x7FFFFFFF ∧ ki ≤ 0x10000000 ∧ 100 ≤ fs ∧ fs ≤ 1000000 ∧
      x.switching = false) ∧
    (∃ (s : State) (e : Env) (c : CmdInfo) (k : Nat) (x : Chan) (mask : BitVec 32) (kp : _) (ki : _) (fs : _) (p : _), k < 32 ∧
      s.paired k = false ∧ s.chan k = x ∧ s.domOn 12 = true ∧ mask = 1#32 <<< k ∧ s.meets (.pstageLoopConfig e k kp ki fs p) c ∧
      kp ≤ 0x7FFFFFFF ∧ ki ≤ 0x10000000 ∧ 100 ≤ fs ∧ fs ≤ 1000000 ∧ x.switching = true) :=
  ⟨
    ⟨(onD 0x0501 (amp 31 { Chan.reset with st := .run, ssFrom := some 900, gain := 100 })), eD, _, 31, _, _, true, modK 31,
      by decide, unpaired_of rfl (by decide) _, rfl, by decide, rfl, meets_of rfl (by decide), by decide, by decide⟩,
    ⟨(amp 31 { Chan.reset with st := .latched, latchDc := true }), eA, _, 31, _, _, by decide, unpaired_of rfl (by decide) _,
      rfl, by decide, rfl, meets_of rfl (by decide), by decide, by decide⟩,
    ⟨(amp 31 { Chan.reset with st := .run, ssFrom := some 900, gain := 100 }), eA, _, 31, _, _, by decide,
      unpaired_of rfl (by decide) _, rfl, by decide, rfl, meets_of rfl (by decide), by decide⟩,
    ⟨(amp 31 { Chan.reset with st := .held }), eA, _, 31, _, _, by decide, unpaired_of rfl (by decide) _, rfl, by decide, rfl,
      meets_of rfl (by decide), by and_intros <;> decide⟩,
    ⟨(amp 31 { Chan.reset with st := .run, ssFrom := some 900, gain := 100 }), eA, _, 31, _, _, by decide,
      unpaired_of rfl (by decide) _, rfl, by decide, rfl, meets_of rfl (by decide), by and_intros <;> decide⟩,
    ⟨(amp 31 { Chan.reset with st := .held, host := true }), eA, _, 31, _, _, by decide, unpaired_of rfl (by decide) _, rfl,
      by decide, rfl, meets_of rfl (by decide), by and_intros <;> decide⟩,
    ⟨(let s := amp 31 { Chan.reset with st := .held }; { s with hlt := { s.hlt with maint := true } }), eA, _, 31, _, _,
      by decide, unpaired_of rfl (by decide) _, rfl, by decide, rfl, meets_of rfl (by decide), by decide⟩,
    ⟨(amp 31 { Chan.reset with st := .held }), eA, _, 31, _, _, 3,
      ({ rsFs := 1000000, nom := 48000, uv := 24000, ov := 999999 } : RailCfg), by decide, unpaired_of rfl (by decide) _, rfl,
      by decide, rfl, meets_of rfl (by decide), by decide, by decide, by unfold State.quiet; decide⟩,
    ⟨(amp 31 { Chan.reset with st := .held }), eA, _, 31, _, _, 0x7FFFFFFF, 0x10000000, 1000000, by decide,
      unpaired_of rfl (by decide) _, rfl, by decide, rfl, meets_of rfl (by decide), by and_intros <;> decide⟩,
    ⟨(amp 31 { Chan.reset with st := .run, ssFrom := some 900, gain := 100 }), eA, _, 31, _, _, 0, 0, 100, true, by decide,
      unpaired_of rfl (by decide) _, rfl, by decide, rfl, meets_of rfl (by decide), by and_intros <;> decide⟩⟩

theorem witness_fault_decisions :
    (∃ (s : State) (r : Report) (d : Detector) (i : Nat), s.portsCalm ∧ s.flt.reports = [r] ∧ detector r.code = some d ∧
      d.zone r.zone = true ∧ s.zoneOn r.zone = true ∧ s.recoveringFor r = none ∧
      (zTile r.zone = true → (s.quad (quadOf (r.zone - 0x20))).mig = none) ∧
      r.code ∉ [0x0101, 0x0102, 0x0201, 0x0202, 0x0203, 0x0605, 0x0701] ∧ (∀ o ∈ s.flt.ovfSet, o.zone ≠ r.zone) ∧ r.sev d = 1 ∧
      d.cond = false ∧ s.flt.find (fun e => e.zone == r.zone) = none ∧ s.flt.freeSlot = some i) ∧
    (∃ (s : State) (r : Report) (d : Detector) (i : Nat), s.portsCalm ∧ s.flt.reports = [r] ∧ detector r.code = some d ∧
      d.zone r.zone = true ∧ s.zoneOn r.zone = true ∧ s.recoveringFor r = none ∧
      (zTile r.zone = true → (s.quad (quadOf (r.zone - 0x20))).mig = none) ∧
      r.code ∉ [0x0101, 0x0102, 0x0201, 0x0202, 0x0203, 0x0605, 0x0701] ∧ (∀ o ∈ s.flt.ovfSet, o.zone ≠ r.zone) ∧ r.sev d = 3 ∧
      s.flt.pinSev ≤ 3 ∧ s.flt.find (fun e => e.zone == r.zone) = none ∧ s.flt.freeSlot = some i ∧
      (∀ k, s.paired k = false ∧ (s.chan k).flt = false)) ∧
    (∃ (s : State) (r : Report) (d : Detector), s.portsCalm ∧ s.flt.reports = [r] ∧ detector r.code = some d ∧
      d.zone r.zone = true ∧ s.zoneOn r.zone = true ∧ s.recoveringFor r = none ∧
      (zTile r.zone = true → (s.quad (quadOf (r.zone - 0x20))).mig = none) ∧
      r.code ∉ [0x0101, 0x0102, 0x0201, 0x0202, 0x0203, 0x0605, 0x0701] ∧ (∀ o ∈ s.flt.ovfSet, o.zone ≠ r.zone) ∧ r.sev d = 0 ∧
      s.flt.find (fun e => e.zone == r.zone) = none) ∧
    (∃ (s : State) (r : Report) (d : Detector) (i : Nat), s.portsCalm ∧ s.flt.reports = [r] ∧ detector r.code = some d ∧
      d.zone r.zone = true ∧ s.zoneOn r.zone = true ∧ s.recoveringFor r = none ∧
      (zTile r.zone = true → (s.quad (quadOf (r.zone - 0x20))).mig = none) ∧
      r.code ∉ [0x0101, 0x0102, 0x0201, 0x0202, 0x0203, 0x0605, 0x0701] ∧ (∀ o ∈ s.flt.ovfSet, o.zone ≠ r.zone) ∧ 1 ≤ r.sev d ∧
      r.sev d ≤ (s.ep i).level ∧ s.flt.find (fun e => e.zone == r.zone) = some i ∧ (s.ep i).st = .held) :=
  ⟨
    ⟨(let s := up; { s with flt := { s.flt with reports := [⟨0x0606, 0x63, 67, 9, false, 5⟩] } }),
      ⟨0x0606, 0x63, 67, 9, false, 5⟩, _, 0, calm_of (by decide), by decide, rfl, rfl, by decide, by decide, fun _ => by decide,
      by and_intros <;> decide⟩,
    ⟨(let s := (amp 31 { Chan.reset with st := .run, ssFrom := some 900, gain := 100 }); { s with flt := { s.flt with reports := [⟨0x0104, 0, 0xFFFF, 9, false, 5⟩], pinSev := 3 } }),
      ⟨0x0104, 0, 0xFFFF, 9, false, 5⟩, _, 0, calm_of (by decide), by decide, rfl, rfl, by decide, by decide,
      fun _ => by decide, by decide, by decide, by decide, by decide, by decide, by decide,
      fun k => ⟨unpaired_of rfl (by decide) k, of_rd _ (fun c : Chan => c.flt = false) (by decide) rfl k⟩⟩,
    ⟨(let s := up; { s with flt := { s.flt with reports := [⟨0x0801, 0x71, 7, 9, false, 5⟩] } }),
      ⟨0x0801, 0x71, 7, 9, false, 5⟩, _, calm_of (by decide), by decide, rfl, rfl, by decide, by decide, fun _ => by decide,
      by and_intros <;> decide⟩,
    ⟨(let s := up; { s with flt := { s.flt with eps := wr s.flt.eps 15 { Episode.none_ with st := .held, id := 5, zone := 0x70, level := 1 }, reports := [⟨0x0702, 0x70, 3, 9, false, 5⟩] } }),
      ⟨0x0702, 0x70, 3, 9, false, 5⟩, _, 15, calm_of (by decide), by decide, rfl, rfl, by decide, by decide, fun _ => by decide,
      by and_intros <;> decide⟩⟩

theorem witness_monitors :
    (∃ (s : State) (tm : Nat) (now : Nat), s.portsCalm ∧ now = max s.now tm ∧ (∀ i, (s.ep i).conds = [])) ∧
    (∃ (s : State) (tm : Nat) (now : Nat) (i : _) (v : _) (x : RailMon) (lo : _) (hi : _), s.portsCalm ∧ now = max s.now tm ∧
      (∀ i, (s.ep i).conds = []) ∧ i ≤ 11 ∧ rd s.mon.rails i = x ∧ x.on = false ∧ s.railWatched i = true ∧ (v < lo ∨ hi < v) ∧
      (if i = 7 then (if s.avs.st = .off then lo = 5500 ∧ hi = 8500 else lo = 5500 + 50 * s.avs.ack - 200 ∧ hi = 5500 + 50 * s.avs.ack + 200) else (lo, hi) = [(7275, 7725), (31350, 34650), (17100, 18900), (17100, 18900), (17100, 18900), (7275, 7725), (7760, 8240), (0, 0), (8245, 8755), (11640, 12360), (10100, 11200), (4700, 5700)].getD i (0, 0))) ∧
    (∃ (s : State) (tm : Nat) (now : Nat) (i : _), s.portsCalm ∧ now = max s.now tm ∧ (∀ i, (s.ep i).conds = []) ∧ i ≤ 11 ∧
      s.railWatched i = false) :=
  ⟨
    ⟨{ up with mon := { Mon.reset with warn := ⟨true, some 5⟩, low := ⟨true, some 5⟩ } }, 5000000003, _, calm_of (by decide),
      rfl, of_rd _ (fun e : Episode => e.conds = []) (by decide) rfl⟩,
    ⟨{ up with mon := { Mon.reset with rails := wr Mon.reset.rails 1 ⟨33000, some 4999990003, none, false⟩ } }, 5000000003, _,
      1, 31349, ⟨33000, some 4999990003, none, false⟩, 31350, 34650, calm_of (by decide), rfl,
      of_rd _ (fun e : Episode => e.conds = []) (by decide) rfl, by decide, by decide, by decide, by decide, .inl (by decide),
      by decide⟩,
    ⟨(let s := up; { s with pwr := { s.pwr with dom := wr s.pwr.dom 11 .off } }), 5000000003, _, 10, calm_of (by decide), rfl,
      of_rd _ (fun e : Episode => e.conds = []) (by decide) rfl, by decide, by decide⟩⟩

theorem witness_episode_states :
    (∃ (s : State) (tm : Nat) (now : Nat) (i : Nat) (e : Episode) (x : DetReport), i < 16 ∧ s.portsCalm ∧ s.ep i = e ∧
      now = max s.now tm ∧ s.pst.stops = [] ∧ externCond x.code = true ∧ e.st = .opened ∧ e.reacting = false ∧
      e.conds = [⟨x.code, x.zone, x.elem⟩] ∧ e.ofCp = false ∧ (∀ j, j ≠ i → (s.ep j).conds = [])) ∧
    (∃ (s : State) (tm : Nat) (now : Nat) (i : Nat) (e : Episode), i < 16 ∧ s.portsCalm ∧ s.ep i = e ∧ now = max s.now tm ∧
      s.pst.stops = [] ∧ e.st = .opened ∧ e.reacting = false ∧ e.conds ≠ [] ∧ s.condPresent e = false ∧ e.ofCp = false ∧
      (∀ j, j ≠ i → (s.ep j).conds = [])) ∧
    (∃ (s : State) (tm : Nat) (now : Nat) (i : Nat) (e : Episode), i < 16 ∧ s.portsCalm ∧ s.ep i = e ∧ now = max s.now tm ∧
      s.pst.stops = [] ∧ e.st = .settling ∧ e.since + s.flt.settleMs * 1000000 ≤ now ∧ s.condPresent e = false ∧
      e.reacting = false ∧ s.flt.ovfSet = [] ∧ s.flt.log.length < 1024) ∧
    (∃ (s : State) (tm : Nat) (now : Nat) (i : Nat) (e : Episode), i < 16 ∧ s.portsCalm ∧ s.ep i = e ∧ now = max s.now tm ∧
      s.pst.stops = [] ∧ e.st = .opened ∧ e.reacting = true ∧ (s.zonePolicy e.zone).2 = true ∧ e.attempts < 3 ∧
      s.pwr.cpRunning = true ∧ (e.attempts = 0 ∨ e.attemptEnd + (if e.attempts = 1 then 1000000000 else 10000000000) ≤ now)) ∧
    (∃ (s : State) (tm : Nat) (now : Nat) (i : Nat) (e : Episode), i < 16 ∧ s.portsCalm ∧ s.ep i = e ∧ now = max s.now tm ∧
      s.pst.stops = [] ∧ e.st = .recovering ∧ s.pwr.cpRunning = true ∧ e.zone = 0x70 ∧ 256 ≤ e.goodRun) ∧
    (∃ (s : State) (tm : Nat) (now : Nat) (i : Nat) (e : Episode), i < 16 ∧ s.portsCalm ∧ s.ep i = e ∧ now = max s.now tm ∧
      s.pst.stops = [] ∧ e.st = .recovering ∧ s.pwr.cpRunning = true ∧ e.zone = 0x70 ∧ e.goodRun < 256 ∧
      e.since + 100000000 ≤ now ∧ (s.zonePolicy 0x70).2 = true ∧ (∀ p ∈ e.codes, p.1 ≠ 0x0101 ∧ p.1 ≠ 0x0102) ∧ e.level = 2 ∧
      e.outNonSelf = true) ∧
    (∃ (s : State) (tm : Nat) (now : Nat) (i : Nat) (e : Episode), i < 16 ∧ s.portsCalm ∧ s.ep i = e ∧ now = max s.now tm ∧
      s.pst.stops = [] ∧ e.st = .recovering ∧ e.zone = 0x70 ∧ now < e.since + 100000000) :=
  ⟨
    ⟨(let s := up; { s with flt := { s.flt with eps := wr s.flt.eps 15 { Episode.none_ with st := .opened, id := 5, zone := 2, level := 3, first := 0x0301, conds := [⟨0x0301, 2, 0xFFFF⟩] }, conds := [⟨0x0301, 2, 0xFFFF⟩] } }),
      5000000003, _, 15, _, (⟨0x0301, 2, 0xFFFF, 0⟩ : DetReport), by decide, calm_of (by decide), rfl, rfl, by decide,
      by decide, by decide, by decide, by decide, by decide, fun j h => conds_of (by decide) h⟩,
    ⟨(let s := up; { s with flt := { s.flt with eps := wr s.flt.eps 15 { Episode.none_ with st := .opened, id := 5, zone := 0, level := 3, first := 0x0104, conds := [⟨0x0104, 0, 0xFFFF⟩] } } }),
      5000000003, _, 15, _, by decide, calm_of (by decide), rfl, rfl, by decide, by decide, by decide, by decide, by decide,
      by decide, fun j h => conds_of (by decide) h⟩,
    ⟨(let s := up; { s with flt := { s.flt with eps := wr s.flt.eps 15 { Episode.none_ with st := .settling, id := 5, since := 4000000003 } } }),
      5000000003, _, 15, _, by decide, calm_of (by decide), rfl, rfl, by and_intros <;> decide⟩,
    ⟨(let s := (let s := up; { s with now := 10000000000 }); { s with flt := { s.flt with eps := wr s.flt.eps 15 { Episode.none_ with st := .opened, id := 5, zone := 0x70, level := 2, reacting := true, attempts := 2, attemptEnd := 0 } } }),
      10000000000, _, 15, _, by decide, calm_of (by decide), rfl, rfl, by decide, by decide, by decide, by decide, by decide,
      by decide, .inr (by decide)⟩,
    ⟨(let s := up; { s with flt := { s.flt with eps := wr s.flt.eps 15 { Episode.none_ with st := .recovering, id := 5, zone := 0x70, level := 2, reacting := true, goodRun := 256 } } }),
      5000000003, _, 15, _, by decide, calm_of (by decide), rfl, rfl, by and_intros <;> decide⟩,
    ⟨(let s := up; { s with flt := { s.flt with eps := wr s.flt.eps 15 { Episode.none_ with st := .recovering, id := 5, zone := 0x70, level := 2, reacting := true, outNonSelf := true, goodRun := 255, attempts := 3, since := 4900000003, codes := [(0x0602, 1)] } } }),
      5000000003, _, 15, _, by decide, calm_of (by decide), rfl, rfl, by and_intros <;> decide⟩,
    ⟨(let s := up; { s with flt := { s.flt with eps := wr s.flt.eps 15 { Episode.none_ with st := .recovering, id := 5, zone := 0x70, since := 4900000004 } } }),
      5000000003, _, 15, _, by decide, calm_of (by decide), rfl, rfl, by and_intros <;> decide⟩⟩

theorem witness_fault_outputs :
    (∃ (s : State) (tm : Nat) (now : Nat) (p : _), now = max s.now tm ∧ s.flt.pulseEnd = some p ∧ p ≤ now ∧
      s.flt.pinLow = true ∧ s.flt.releasedAt = none ∧ s.flt.holdsLow = false) ∧
    (∃ (s : State) (tm : Nat) (now : Nat) (p : _), now = max s.now tm ∧ s.flt.pulseEnd = some p ∧ p ≤ now ∧
      s.flt.holdsLow = true) ∧
    (∃ (s : State) (tm : Nat) (now : Nat) (u : _), now = max s.now tm ∧ s.flt.lowSince = some u ∧
      u + s.flt.settleMs * 1000000 ≤ now ∧ s.flt.leaving = [] ∧ (∀ i, i < 16 → (s.ep i).level ≠ 3)) ∧
    (∃ (s : State) (tm : Nat) (now : Nat), now = max s.now tm ∧ s.pwr.cpRunning = true) ∧
    (∃ (s : State) (tm : Nat) (now : Nat) (f : Requester) (stretch : _) (sev : _) (hold : _), now = max s.now tm ∧
      s.reaches f = true ∧ ((s.access .flt).lock f).open_ now = true ∧ 1 ≤ stretch ∧ stretch ≤ 1000 ∧ sev ≤ 3 ∧ hold ≤ 2) ∧
    (∃ (s : State) (tm : Nat) (now : Nat) (f : Requester), now = max s.now tm ∧ s.reaches f = true ∧
      ((s.access .flt).lock f).open_ now = false) :=
  ⟨
    ⟨{ up with flt := { Flt.reset with pinLow := true, pulseEnd := some 5000000003 } }, 5000000003, _, 5000000003, rfl,
      by and_intros <;> decide⟩,
    ⟨{ up with flt := { Flt.reset with pinLow := true, pulseEnd := some 5000000003, force := true } }, 5000000003, _,
      5000000003, rfl, by and_intros <;> decide⟩,
    ⟨{ up with flt := { Flt.reset with lowSince := some 4000000003, overflow := true, engineSafe := true } }, 5000000003, _,
      4000000003, rfl, by and_intros <;> decide⟩,
    ⟨up, 5000000003, _, rfl, by decide⟩,
    ⟨(let s := up; { s with ports := { s.ports with access := wr s.ports.access 4 { Access.reset with lockD := .unlocked 4999999000 } } }),
      5000000003, _, .D, 1000, 3, 2, rfl, by and_intros <;> decide⟩,
    ⟨up, 5000000003, _, .D, rfl, by decide, by decide⟩⟩

theorem witness_fault_commands :
    (∃ (s : State) (e : Env) (c : CmdInfo) (i : Nat) (x : Episode) (eps : _), i < 16 ∧ s.ep i = x ∧ s.pst.stops = [] ∧
      s.meets (.faultStatus e) c ∧ eps = ((List.range 16).map s.ep).filter (·.isOpen)) ∧
    (∃ (s : State) (e : Env) (c : CmdInfo) (i : Nat) (x : Episode) (id : _) (codes : _), i < 16 ∧ s.ep i = x ∧
      s.pst.stops = [] ∧ s.meets (.faultEpisodeGet e id 0) c ∧ id ≠ 0 ∧ id ≤ 0xFFFF ∧
      s.flt.find (fun y => y.id == id) = some i ∧ x.elems.length ≤ 100 ∧ codes = (x.codes.take 8).map (·.1)) ∧
    (∃ (s : State) (e : Env) (c : CmdInfo) (i : Nat) (x : Episode) (id : _), i < 16 ∧ s.ep i = x ∧ s.pst.stops = [] ∧
      s.meets (.faultEpisodeGet e id 0) c ∧ id ≠ 0 ∧ id ≤ 0xFFFF ∧ s.flt.find (fun y => y.id == id) = none) ∧
    (∃ (s : State) (e : Env) (c : CmdInfo) (i : Nat) (x : Episode) (consume : _) (a : LogEntry) (rest : _), i < 16 ∧
      s.ep i = x ∧ s.pst.stops = [] ∧ s.meets (.faultLogRead e 0xFFFFFFFF 1 consume 0) c ∧ s.flt.log = a :: rest ∧
      a.read = false) ∧
    (∃ (s : State) (e : Env) (c : CmdInfo) (i : Nat) (x : Episode) (id : _), i < 16 ∧ s.ep i = x ∧ s.pst.stops = [] ∧
      s.meets (.faultClear e id 0) c ∧ id ≤ 0xFFFF ∧ s.flt.find (fun y => y.id == id) = some i ∧ x.st = .held) ∧
    (∃ (s : State) (e : Env) (c : CmdInfo) (i : Nat) (x : Episode) (id : _), i < 16 ∧ s.ep i = x ∧ s.pst.stops = [] ∧
      s.meets (.faultClear e id 1) c ∧ id ≤ 0xFFFF ∧ s.flt.find (fun y => y.id == id) = some i ∧ x.st = .held ∧
      s.condPresent x = false) ∧
    (∃ (s : State) (e : Env) (c : CmdInfo) (i : Nat) (x : Episode) (id : _), i < 16 ∧ s.ep i = x ∧ s.pst.stops = [] ∧
      s.meets (.faultClear e id 1) c ∧ id ≤ 0xFFFF ∧ s.flt.find (fun y => y.id == id) = some i ∧ x.st = .held ∧
      s.condPresent x = true) ∧
    (∃ (s : State) (e : Env) (c : CmdInfo) (i : Nat) (x : Episode), i < 16 ∧ s.ep i = x ∧ s.pst.stops = [] ∧
      s.meets (.faultAck e 0) c) ∧
    (∃ (s : State) (e : Env) (c : CmdInfo) (i : Nat) (x : Episode) (stretch : _) (sev : _) (hold : _) (force : _) (settle : _),
      i < 16 ∧ s.ep i = x ∧ s.pst.stops = [] ∧ s.meets (.faultPinConfig e stretch sev hold force settle false) c ∧ 1 ≤ stretch ∧
      stretch ≤ 1000 ∧ sev ≤ 3 ∧ hold ≤ 2 ∧ 100 ≤ settle ∧ settle ≤ 60000) ∧
    (∃ (s : State) (e : Env) (c : CmdInfo) (i : Nat) (x : Episode) (zone : _) (det : _) (data : _) (d : _), i < 16 ∧
      s.ep i = x ∧ s.pst.stops = [] ∧ s.meets (.faultInject e zone det data) c ∧ zone ≤ 0xFF ∧ detector det = some d ∧
      d.zone zone = true ∧ d.sev = 0 ∧ det ∉ [0x0202, 0x0605, 0x0701]) ∧
    (∃ (s : State) (e : Env) (c : CmdInfo) (i : Nat) (x : Episode) (zone : _) (det : _) (data : _) (d : _), i < 16 ∧
      s.ep i = x ∧ s.pst.stops = [] ∧ s.meets (.faultInject e zone det data) c ∧ zone ≤ 0xFF ∧ detector det = some d ∧
      d.zone zone = true ∧ 2 ≤ d.sev ∧ det ≠ 0x0802 ∧ s.hlt.maint = false) :=
  ⟨
    ⟨(onD 0x0601 up), eD, _, 15, _, _, by decide, rfl, by decide, meets_of rfl (by decide), rfl⟩,
    ⟨(onD 0x0602 (let s := up; { s with flt := { s.flt with eps := wr s.flt.eps 15 { Episode.none_ with st := .held, id := 5, zone := 0x70, level := 2, elems := [3], reacting := true, outNonSelf := true, attempts := 3 } } })),
      eD, _, 15, _, 5, _, by decide, rfl, by decide, meets_of rfl (by decide), by decide, by decide, by decide, by decide, rfl⟩,
    ⟨(onD 0x0602 up), eD, _, 15, _, 0xFFFF, by decide, rfl, by decide, meets_of rfl (by decide), by and_intros <;> decide⟩,
    ⟨(onD 0x0603 { up with flt := { Flt.reset with log := [⟨7, 5, 0x70, 0, 0x0702, 1, 1, 1, 0, 77000, 0, 5, 9, false⟩] } }), eD,
      _, 15, _, true, ⟨7, 5, 0x70, 0, 0x0702, 1, 1, 1, 0, 77000, 0, 5, 9, false⟩, _, by decide, rfl, by decide,
      meets_of rfl (by decide), rfl, by decide⟩,
    ⟨(let s := up; { s with flt := { s.flt with eps := wr s.flt.eps 15 { Episode.none_ with st := .held, id := 5, zone := 0x70, level := 2, elems := [3], reacting := true, outNonSelf := true, attempts := 3 } } }),
      eA, _, 15, _, 5, by decide, rfl, by decide, meets_of rfl (by decide), by and_intros <;> decide⟩,
    ⟨(let s := up; { s with flt := { s.flt with eps := wr s.flt.eps 15 { Episode.none_ with st := .held, id := 5, zone := 0x70, level := 2, elems := [3], reacting := true, outNonSelf := true, attempts := 3 } } }),
      eA, _, 15, _, 5, by decide, rfl, by decide, meets_of rfl (by decide), by and_intros <;> decide⟩,
    ⟨(let s := up; { s with flt := { s.flt with eps := wr s.flt.eps 15 { Episode.none_ with st := .held, id := 5, zone := 0x70, level := 2, conds := [⟨0x0205, 1, 2⟩] }, conds := [⟨0x0205, 1, 2⟩] } }),
      eA, _, 15, _, 5, by decide, rfl, by decide, meets_of rfl (by decide), by and_intros <;> decide⟩,
    ⟨(let s := up; { s with flt := { s.flt with eps := wr s.flt.eps 15 { Episode.none_ with st := .held, id := 5, zone := 0x70, level := 2, elems := [3], reacting := true, outNonSelf := true, attempts := 3 } } }),
      eA, _, 15, _, by decide, rfl, by decide, meets_of rfl (by decide)⟩,
    ⟨up, eA, _, 15, _, 1000, 3, 2, false, 60000, by decide, rfl, by decide, meets_of rfl (by decide), by and_intros <;> decide⟩,
    ⟨up, eA, _, 15, _, 0x71, 0x0801, 5, _, by decide, rfl, by decide, meets_of rfl (by decide), by decide, rfl, rfl, by decide,
      by decide⟩,
    ⟨up, eA, _, 15, _, 0x70, 0x0602, 5, _, by decide, rfl, by decide, meets_of rfl (by decide), by decide, rfl, rfl,
      by and_intros <;> decide⟩⟩

theorem witness_port_states :
    (∃ (s : State) (f : Requester) (p : CPort) (x : PortS) (tail : _), s.portsCalm ∧ Requester.port f = some p ∧ s.port p = x ∧
      tail < 2 ^ x.sqLog2) ∧
    (∃ (s : State) (f : Requester) (p : CPort) (x : PortS) (tail : _), s.portsCalm ∧ Requester.port f = some p ∧ s.port p = x ∧
      2 ^ x.sqLog2 ≤ tail) ∧
    (∃ (s : State) (f : Requester) (p : CPort) (x : PortS) (head : _) (r : _), s.portsCalm ∧ Requester.port f = some p ∧
      s.port p = x ∧ head < 2 ^ x.cqLog2 ∧ (head + 2 ^ x.cqLog2 - x.cqHead) % 2 ^ x.cqLog2 ≤ x.ring.length ∧ x.waiting = [] ∧
      x.waitSince = none ∧ r = x.ring.drop ((head + 2 ^ x.cqLog2 - x.cqHead) % 2 ^ x.cqLog2)) ∧
    (∃ (s : State) (f : Requester) (p : CPort) (x : PortS) (head : _), s.portsCalm ∧ Requester.port f = some p ∧ s.port p = x ∧
      2 ^ x.cqLog2 ≤ head) ∧
    (∃ (s : State) (f : Requester) (p : CPort) (x : PortS), s.portsCalm ∧ Requester.port f = some p ∧ s.port p = x ∧
      s.domOn 13 = true ∧ x.st = .disabled ∧ 4 ≤ x.sqLog2 ∧ x.sqLog2 ≤ 9 ∧ x.sqLog2 ≤ x.cqLog2 ∧ x.cqLog2 ≤ 12) ∧
    (∃ (s : State) (f : Requester) (p : CPort) (x : PortS), s.portsCalm ∧ Requester.port f = some p ∧ s.port p = x ∧
      s.domOn 13 = true ∧ x.st = .disabled ∧ (x.sqLog2 < 4 ∨ 9 < x.sqLog2 ∨ x.cqLog2 < x.sqLog2 ∨ 12 < x.cqLog2)) ∧
    (∃ (s : State) (f : Requester) (p : CPort) (x : PortS), s.portsCalm ∧ Requester.port f = some p ∧ s.port p = x ∧
      x.st = .active ∧ x.flights = []) ∧
    (∃ (s : State) (f : Requester) (p : CPort) (x : PortS), s.portsCalm ∧ Requester.port f = some p ∧ s.port p = x ∧
      x.st = .active ∧ x.flights ≠ [] ∧ (∀ g ∈ x.flights, g.flash = false) ∧ (∀ g, (rd s.mtx.groups g).st ≠ .armed)) ∧
    (∃ (s : State) (f : Requester) (p : CPort) (x : PortS), s.portsCalm ∧ Requester.port f = some p ∧ s.port p = x ∧
      x.st = .active ∧ (∀ g, (rd s.mtx.groups g).st ≠ .armed)) ∧
    (∃ (s : State) (f : Requester) (p : CPort) (x : PortS) (g : Flight) (e : _) (group : _) (count : _) (addr : _) (data : _),
      s.portsCalm ∧ Requester.port f = some p ∧ s.port p = x ∧ x.st = .active ∧ s.pwr.service = true ∧
      (∀ j, (rd s.mtx.groups j).st ≠ .armed) ∧ x.flight? g.handle = some g ∧ g.cmd = .xpointSet e 0 group count addr data) ∧
    (∃ (s : State) (f : Requester) (p : CPort) (x : PortS), s.portsCalm ∧ Requester.port f = some p ∧ s.port p = x ∧
      x.st = .active ∧ x.flights = []) ∧
    (∃ (s : State) (f : Requester) (p : CPort) (x : PortS), s.portsCalm ∧ Requester.port f = some p ∧ s.port p = x ∧
      x.st = .active ∧ x.flights = []) ∧
    (∃ (s : State) (f : Requester) (p : CPort) (x : PortS), s.portsCalm ∧ Requester.port f = some p ∧ s.port p = x ∧
      x.st = .active ∧ x.flights = []) ∧
    (∃ (s : State) (f : Requester) (p : CPort) (x : PortS), s.portsCalm ∧ Requester.port f = some p ∧ s.port p = x ∧
      s.domOn 13 = true) ∧
    (∃ (s : State) (f : Requester) (p : CPort) (x : PortS) (tm : Nat) (g : Requester) (q : CPort) (y : _) (u : _), s.portsCalm ∧
      Requester.port f = some p ∧ s.port p = x ∧ q = Requester.cport g ∧ s.port q = y ∧ y.fullSince = some u ∧
      u + 1000000000 ≤ max s.now tm ∧ y.cqFullSeen = false) :=
  ⟨
    ⟨(up.setPort .A { openPort with avail := 0 }), .A, .A, _, 15, calm_of (by decide), by decide, rfl, by decide⟩,
    ⟨(up.setPort .A { openPort with avail := 0 }), .A, .A, _, 16, calm_of (by decide), by decide, rfl, by decide⟩,
    ⟨(up.setPort .A { openPort with ring := [⟨0, 2, 3, 4, 0, 0, 1, 0, [], true, 0⟩, ⟨0, 2, 3, 4, 0, 0, 1, 0, [], true, 0⟩], cqHead := 63 }),
      .A, .A, _, 1, _, calm_of (by decide), by decide, rfl, by decide, by decide, by decide, by decide, rfl⟩,
    ⟨(up.setPort .A { openPort with avail := 0 }), .A, .A, _, 64, calm_of (by decide), by decide, rfl, by decide⟩,
    ⟨(up.setPort .A { openPort with st := .disabled, sqLog2 := 9, cqLog2 := 12 }), .A, .A, _, calm_of (by decide), by decide,
      rfl, by and_intros <;> decide⟩,
    ⟨(up.setPort .A { openPort with st := .disabled, sqLog2 := 10, cqLog2 := 12 }), .A, .A, _, calm_of (by decide), by decide,
      rfl, by decide, by decide, .inr (.inl (by decide))⟩,
    ⟨(up.setPort .A { openPort with avail := 0 }), .A, .A, _, calm_of (by decide), by decide, rfl, by decide, by decide⟩,
    ⟨(up.setPort .A { openPort with flights := [flightOf (.cmdEcho eA [])] }), .A, .A, _, calm_of (by decide), by decide, rfl,
      by decide, by decide, by decide, of_rd _ (fun g : Group => g.st ≠ .armed) (by decide) (by decide)⟩,
    ⟨(up.setPort .A { openPort with flights := [flightOf (.cmdEcho eA [])] }), .A, .A, _, calm_of (by decide), by decide, rfl,
      by decide, of_rd _ (fun g : Group => g.st ≠ .armed) (by decide) (by decide)⟩,
    ⟨(let s := up.setPort .A { openPort with avail := 0, flights := [flightOf (.xpointSet eA 0 0 1 0 [3, 0, 5, 0, 7, 0, 0, 0])] }; { s with mtx := { s.mtx with direct := [⟨1001, 0, .A, 7, [.xpt ⟨3, 5, 7⟩]⟩] } }),
      .A, .A, { openPort with avail := 0, flights := [flightOf (.xpointSet eA 0 0 1 0 [3, 0, 5, 0, 7, 0, 0, 0])] },
      flightOf (.xpointSet eA 0 0 1 0 [3, 0, 5, 0, 7, 0, 0, 0]), eA, 0, 1, 0, [3, 0, 5, 0, 7, 0, 0, 0], calm_of (by decide),
      by decide, by decide, by decide, by decide, of_rd _ (fun g : Group => g.st ≠ .armed) (by decide) (by decide), by decide,
      by decide⟩,
    ⟨(up.setPort .A { openPort with avail := 0 }), .A, .A, _, calm_of (by decide), by decide, rfl, by decide, by decide⟩,
    ⟨(up.setPort .A { openPort with avail := 0 }), .A, .A, _, calm_of (by decide), by decide, rfl, by decide, by decide⟩,
    ⟨(up.setPort .A { openPort with avail := 0 }), .A, .A, _, calm_of (by decide), by decide, rfl, by decide, by decide⟩,
    ⟨(up.setPort .A { openPort with st := .disabled, linkUp := false }), .A, .A, _, calm_of (by decide), by decide, rfl,
      by decide⟩,
    ⟨(up.setPort .D { up.ports.d with fullSince := some 4000000003 }), .A, .A, _, 5000000003, .D, .D, _, 4000000003,
      calm_of (by decide), by decide, rfl, by decide, rfl, by and_intros <;> decide⟩⟩

theorem witness_port_commands :
    (∃ (s : State) (e : Env) (c : CmdInfo), s.meets (.devIdentity e) c) ∧
    (∃ (s : State) (e : Env) (c : CmdInfo) (node : _), s.meets (.devNodeIdSet e node false) c ∧ node ≤ 4095 ∧ s.pl.st ≠ .armed ∧
      s.pl.st ≠ .locked) ∧
    (∃ (s : State) (e : Env) (c : CmdInfo) (node : _) (p : _), s.meets (.devNodeIdSet e node p) c ∧ node ≤ 4095 ∧
      s.pl.st = .armed) ∧
    (∃ (s : State) (e : Env) (c : CmdInfo) (h : _) (g : _), s.meets (.cmdAbort e h) c ∧ (s.port e.port).flight? h = some g ∧
      g.handle = h ∧ s.flashWaits e.port h = true) ∧
    (∃ (s : State) (e : Env) (c : CmdInfo) (h : _), s.meets (.cmdAbort e h) c ∧ (s.port e.port).flight? h = none ∧
      h ≠ s.nextHandle e.port) ∧
    (∃ (s : State) (e : Env) (c : CmdInfo) (port : _) (groups : _) (privs : _) (q : CPort),
      s.meets (.cmdPortPrivSet e port groups privs false) c ∧ portOf port = some q ∧ q ≠ .A ∧ groups ≤ 0xFFFF ∧ privs ≤ 0xFF ∧
      (noBuf q = true → bit privs 6 = false)) ∧
    (∃ (s : State) (e : Env) (c : CmdInfo) (id : _) (addr : _) (key : _) (groups : _) (privs : _),
      s.meets (.cmdKeySet e id addr key groups privs) c ∧ s.flashFree ∧ 1 ≤ id ∧ id ≤ 8 ∧ addr ≠ 0 ∧ e.port ≠ .D ∧
      key.length = 32 ∧ groups ≤ 0xFFFF ∧ privs ≤ 0xFF) ∧
    (∃ (s : State) (e : Env) (c : CmdInfo) (id : _) (groups : _) (privs : _) (key : _),
      s.meets (.cmdKeySet e id 0 key groups privs) c ∧ 1 ≤ id ∧ id ≤ 8 ∧ groups ≤ 0xFFFF ∧ privs ≤ 0xFF ∧
      lookup? s.ports.pc.keys id = none) ∧
    (∃ (s : State) (e : Env) (c : CmdInfo) (x : _), s.meets (.cmdPortStatus e 3 false) c ∧ e.port ≠ .D ∧ s.ports.d = x) ∧
    (∃ (s : State) (e : Env) (c : CmdInfo) (bytes : _), s.meets (.cmdEcho e bytes) c ∧ bytes.length ≤ 48) ∧
    (∃ (s : State) (e : Env) (c : CmdInfo) (bytes : _), s.meets (.cmdEcho e bytes) c ∧ 48 < bytes.length) :=
  ⟨
    ⟨(onD 0x0901 up), eD, _, meets_of rfl (by decide)⟩,
    ⟨up, eA, _, 4095, meets_of rfl (by decide), by and_intros <;> decide⟩,
    ⟨{ up with pl := { Planes.reset with shadow := some plane, st := .armed } }, eA, _, 4095, true, meets_of rfl (by decide),
      by decide, by decide⟩,
    ⟨(let s := (up.setPort .A { openPort with flights := [{ flightOf (.refOscTrimSet eA 5 true) with flash := true }] }); { s with ports := { s.ports with flashQ := [(.D, 3), (.A, 7)], flashOn := some (.D, 3) } }),
      eA, _, 7, _, meets_of rfl (by decide), rfl, by decide, by decide⟩,
    ⟨up, eA, _, 7, meets_of rfl (by decide), by decide, by decide⟩,
    ⟨up, eA, _, 3, 0xFFFF, 0xBF, .D, meets_of rfl (by decide), by and_intros <;> decide⟩,
    ⟨up, eA, _, 8, 4096, List.replicate 32 5, 0xFFFF, 0xFF, meets_of rfl (by decide), ⟨by decide, by decide⟩,
      by and_intros <;> decide⟩,
    ⟨up, eA, _, 8, 1, 1, [], meets_of rfl (by decide), by and_intros <;> decide⟩,
    ⟨up, eA, _, _, meets_of rfl (by decide), by decide, rfl⟩,
    ⟨up, eA, _, List.replicate 48 1, meets_of rfl (by decide), by decide⟩,
    ⟨up, eA, _, List.replicate 49 1, meets_of rfl (by decide), by decide⟩⟩

theorem witness_command_ends :
    (∃ (s : State) (p : CPort) (f : Flight) (e : _) (group : _) (count : _) (addr : _) (data : _), s.canAnswer p f ∧
      s.portsCalm ∧ f.cmd = .xpointSet e 0 group count addr data ∧ s.ports.flashQ = []) ∧
    (∃ (s : State) (p : CPort) (f : Flight) (e : _) (trim : Int), s.canAnswer p f ∧ s.portsCalm ∧
      f.cmd = .refOscTrimSet e trim true ∧ s.ports.flashQ = [(p, f.handle)] ∧ s.ports.flashOn = some (p, f.handle) ∧
      s.pwr.cpRunning = true) ∧
    (∃ (s : State) (p : CPort) (f : Flight) (e : _) (trim : Int), s.canAnswer p f ∧ s.portsCalm ∧
      f.cmd = .refOscTrimSet e trim true ∧ s.ports.flashQ = [(p, f.handle)] ∧ s.ports.flashOn = some (p, f.handle) ∧
      s.pwr.cpRunning = true) ∧
    (∃ (s : State) (i : Instr) (c : CmdInfo), cmdInfo i = some c ∧ c.env.port ≠ .C ∧ s.pwr.service = true ∧ s.portsIdle ∧
      (s.port c.env.port).st = .active ∧ 1 ≤ (s.port c.env.port).avail ∧
      (s.port c.env.port).ring.length + 16 ≤ (s.port c.env.port).cqSize c.env.port ∧ (∀ q, (s.port q).flights.length < 4) ∧
      (∀ g ∈ (s.port c.env.port).flights, g.handle ≠ s.nextHandle c.env.port) ∧ s.boot.recovery = false ∧
      c.env.flags.toNat < 32 ∧ c.env.flags.getLsbD 1 = false ∧
      (∀ d, s.nextDesc c.env.port = some d → leNat (slice d 0 2) = c.opcode ∧ leNat (slice d 2 2) = c.env.flags.toNat ∧ leNat (slice d 4 4) = c.env.tag.toNat) ∧
      (c.env.port = .D → (s.port .D).avail = 1) ∧ bit (s.port c.env.port).groups (c.opcode / 256) = false) ∧
    (∃ (s : State) (i : Instr) (c : CmdInfo) (v : _), cmdInfo i = some c ∧ c.env.port ≠ .C ∧ s.pwr.service = true ∧
      s.portsIdle ∧ (s.port c.env.port).st = .active ∧ 1 ≤ (s.port c.env.port).avail ∧
      (s.port c.env.port).ring.length + 16 ≤ (s.port c.env.port).cqSize c.env.port ∧ (∀ q, (s.port q).flights.length < 4) ∧
      (∀ g ∈ (s.port c.env.port).flights, g.handle ≠ s.nextHandle c.env.port) ∧ s.boot.recovery = false ∧
      c.env.flags.toNat < 32 ∧ c.env.flags.getLsbD 1 = false ∧
      (∀ d, s.nextDesc c.env.port = some d → leNat (slice d 0 2) = c.opcode ∧ leNat (slice d 2 2) = c.env.flags.toNat ∧ leNat (slice d 4 4) = c.env.tag.toNat) ∧
      (c.env.port = .D → (s.port .D).avail = 1) ∧ bit (s.port c.env.port).groups (c.opcode / 256) = true ∧ c.priv = some v ∧
      bit (s.port c.env.port).privs v = false) :=
  ⟨
    ⟨(let s := up.setPort .A { openPort with avail := 0, flights := [flightOf (.xpointSet eA 0 0 1 0 [3, 0, 5, 0, 7, 0, 0, 0])] }; { s with mtx := { s.mtx with direct := [⟨1001, 0, .A, 7, [.xpt ⟨3, 5, 7⟩]⟩] } }),
      .A, flightOf (.xpointSet eA 0 0 1 0 [3, 0, 5, 0, 7, 0, 0, 0]), eA, 0, 1, 0, [3, 0, 5, 0, 7, 0, 0, 0],
      canAnswer_of (by decide), calm_of (by decide), by decide, by decide⟩,
    ⟨(let s := (up.setPort .A { openPort with flights := [{ flightOf (.refOscTrimSet eA 5 true) with flash := true }] }); { s with ports := { s.ports with flashQ := [(.A, 7)], flashOn := some (.A, 7) } }),
      .A, { flightOf (.refOscTrimSet eA 5 true) with flash := true }, eA, _, canAnswer_of (by decide), calm_of (by decide), rfl,
      by and_intros <;> decide⟩,
    ⟨(let s := (up.setPort .A { openPort with flights := [{ flightOf (.refOscTrimSet eA 5 true) with flash := true }] }); { s with ports := { s.ports with flashQ := [(.A, 7)], flashOn := some (.A, 7) } }),
      .A, { flightOf (.refOscTrimSet eA 5 true) with flash := true }, eA, _, canAnswer_of (by decide), calm_of (by decide), rfl,
      by and_intros <;> decide⟩,
    ⟨(up.setPort .A { openPort with groups := 0xFDFF }), .devIdentity eA, ⟨eA, 0x0901, none⟩, by decide, by decide, by decide,
      idle_of (by decide), by decide, by decide, by decide, by intro q; cases q <;> decide, by decide, by decide, by decide,
      by decide, (fun d h => nomatch h), by decide, by decide⟩,
    ⟨(up.setPort .A { openPort with privs := 0xFE }), .structCopy eA, ⟨eA, 0x0103, some 0⟩, 0, by decide, by decide, by decide,
      idle_of (by decide), by decide, by decide, by decide, by intro q; cases q <;> decide, by decide, by decide, by decide,
      by decide, (fun d h => nomatch h), by and_intros <;> decide⟩⟩

theorem witness_register_space :
    (∃ (s : State) (f : Requester) (b : Block) (n : Nat) (tm : Nat) (now : Nat), blockOf n = some b ∧ now = max s.now tm ∧
      s.reaches f = true) ∧
    (∃ (s : State) (f : Requester) (b : Block) (n : Nat) (tm : Nat) (now : Nat) (h : _), blockOf n = some b ∧
      now = max s.now tm ∧ s.reaches f = true ∧ (s.access b).lock f = .half h ∧ now ≤ h + 1000000) ∧
    (∃ (s : State) (f : Requester) (b : Block) (n : Nat) (tm : Nat) (now : Nat) (key : _), blockOf n = some b ∧
      now = max s.now tm ∧ s.reaches f = true ∧ key ≠ 0x1ACC ∧ key ≠ 0xE55A) ∧
    (∃ (s : State) (f : Requester) (b : Block) (n : Nat) (tm : Nat) (now : Nat) (u : _), blockOf n = some b ∧
      now = max s.now tm ∧ s.reaches f = true ∧ (s.access b).lock f = .unlocked u ∧ u + 1000000000 ≤ now) ∧
    (∃ (s : State) (f : Requester) (b : Block) (n : Nat) (tm : Nat) (now : Nat) (u : _), blockOf n = some b ∧
      now = max s.now tm ∧ s.reaches f = true ∧ (s.access b).lock f = .unlocked u ∧ now < u + 1000000000) ∧
    (∃ (s : State) (f : Requester) (b : Block) (n : Nat) (tm : Nat) (now : Nat) (k : _), blockOf n = some b ∧
      now = max s.now tm ∧ s.reaches f = true ∧ k < 8 ∧ s.domOn (laneDomain k) = true) ∧
    (∃ (s : State) (f : Requester) (b : Block) (n : Nat) (tm : Nat) (now : Nat) (k : _), blockOf n = some b ∧
      now = max s.now tm ∧ s.reaches f = true ∧ k < 32 ∧ s.domOn 12 = true) ∧
    (∃ (s : State) (f : Requester) (b : Block) (n : Nat) (tm : Nat) (now : Nat) (v : _), blockOf n = some b ∧
      now = max s.now tm ∧ s.reaches f = true ∧ s.portsCalm ∧ s.domOn 2 = true ∧ ((s.access .ts).lock f).open_ now = true ∧
      bit v 0 = false ∧ 1 ≤ bits v 16 16 ∧ bits v 16 16 ≤ 50000) ∧
    (∃ (s : State) (f : Requester) (b : Block) (n : Nat) (tm : Nat) (now : Nat) (v : _), blockOf n = some b ∧
      now = max s.now tm ∧ s.reaches f = true ∧ s.portsCalm ∧ s.domOn 2 = true ∧ ((s.access .ts).lock f).open_ now = false ∧
      bit v 0 = false) ∧
    (∃ (s : State) (f : Requester) (b : Block) (n : Nat) (tm : Nat) (now : Nat) (w : _), blockOf n = some b ∧
      now = max s.now tm ∧ s.reaches f = true ∧ s.portsCalm ∧ s.domOn 2 = true ∧ w < 4) :=
  ⟨
    ⟨up, .D, .hlt, 7, 5000000003, _, by decide, rfl, by decide⟩,
    ⟨(let s := up; { s with ports := { s.ports with access := wr s.ports.access 7 { Access.reset with lockD := .half 4999000003 } } }),
      .D, .hlt, 7, 5000000003, _, 4999000003, by decide, rfl, by and_intros <;> decide⟩,
    ⟨up, .D, .hlt, 7, 5000000003, _, 5, by decide, rfl, by and_intros <;> decide⟩,
    ⟨(let s := up; { s with ports := { s.ports with access := wr s.ports.access 7 { Access.reset with lockD := .unlocked 4000000003 } } }),
      .D, .hlt, 7, 5000000003, _, 4000000003, by decide, rfl, by and_intros <;> decide⟩,
    ⟨(let s := up; { s with ports := { s.ports with access := wr s.ports.access 7 { Access.reset with lockD := .unlocked 4000000004 } } }),
      .D, .hlt, 7, 5000000003, _, 4000000004, by decide, rfl, by and_intros <;> decide⟩,
    ⟨laneIs { upLane with exits := 3 }, .D, .hlt, 7, 5000000003, _, 7, by decide, rfl, by and_intros <;> decide⟩,
    ⟨(amp 31 { Chan.reset with trips := 3, limitCycles := 4 }), .D, .hlt, 7, 5000000003, _, 31, by decide, rfl,
      by and_intros <;> decide⟩,
    ⟨(let s := up; { s with ports := { s.ports with access := wr s.ports.access 1 { Access.reset with lockD := .unlocked 4999000000 } } }),
      .D, .hlt, 7, 5000000003, _, 0xC3500002, by decide, rfl, by decide, calm_of (by decide), by and_intros <;> decide⟩,
    ⟨up, .D, .hlt, 7, 5000000003, _, 2, by decide, rfl, by decide, calm_of (by decide), by and_intros <;> decide⟩,
    ⟨up, .D, .hlt, 7, 5000000003, _, 3, by decide, rfl, by decide, calm_of (by decide), by decide, by decide⟩⟩

theorem witness_two_wire :
    (∃ (s : State) (tm : Nat) (now : Nat), now = max s.now tm ∧ s.tw.assembly = none ∧ s.tw.phase = .idle ∧ s.tw.latched = []) ∧
    (∃ (s : State) (tm : Nat) (now : Nat) (a : _), now = max s.now tm ∧ s.tw.assembly = none ∧ a ≠ 0x58 + s.tw.twa) ∧
    (∃ (s : State) (tm : Nat) (now : Nat), now = max s.now tm ∧ s.tw.assembly = none ∧ s.tw.phase = .ptr0) ∧
    (∃ (s : State) (tm : Nat) (now : Nat) (hi : _), now = max s.now tm ∧ s.tw.assembly = none ∧ s.tw.phase = .ptr1 hi) ∧
    (∃ (s : State) (tm : Nat) (now : Nat), now = max s.now tm ∧ s.tw.assembly = none ∧ s.tw.phase = .write ∧
      0x100 ≤ s.tw.pointer ∧ s.tw.pointer < 0x200 ∧ s.tw.seq = 0) ∧
    (∃ (s : State) (tm : Nat) (now : Nat), now = max s.now tm ∧ s.tw.assembly = none ∧ s.tw.phase = .write ∧
      0x28 ≤ s.tw.pointer ∧ s.tw.pointer < 0x100 ∧ s.tw.seq = 0) ∧
    (∃ (s : State) (tm : Nat) (now : Nat), now = max s.now tm ∧ s.tw.assembly = none ∧ s.tw.phase = .read ∧ s.tw.pointer < 4 ∧
      s.tw.latched = []) ∧
    (∃ (s : State) (tm : Nat) (now : Nat), now = max s.now tm ∧ s.tw.assembly = none ∧ s.portsCalm ∧ s.tw.sqTail = none ∧
      s.tw.cqHead = none) ∧
    (∃ (s : State) (tm : Nat) (now : Nat) (n : _), now = max s.now tm ∧ s.tw.assembly = none ∧ s.portsCalm ∧
      s.tw.sqTail = some n ∧ n < 4 ∧ s.tw.cqHead = none ∧
      definedOpcode (leNat [Sparse.get s.tw.sq (0x100 + 64 * s.ports.d.sqHead), Sparse.get s.tw.sq (0x101 + 64 * s.ports.d.sqHead)]) = true) ∧
    (∃ (s : State) (tm : Nat) (now : Nat) (pos : _) (kind : _), now = max s.now tm ∧ s.tw.assembly = none ∧
      s.tw.phase = .write ∧ 1 ≤ pos ∧ pos ≤ 9 ∧ kind ≤ 1) ∧
    (∃ (s : State) (tm : Nat) (now : Nat), now = max s.now tm ∧ s.tw.assembly = none) ∧
    (∃ (s : State) (tm : Nat) (now : Nat), now = max s.now tm ∧ s.tw.assembly = none) ∧
    (∃ (s : State) (tm : Nat) (now : Nat), now = max s.now tm ∧ s.tw.assembly = none ∧ s.tw.seq ≠ 0 ∧
      s.tw.seqAt + 10000000 ≤ now) ∧
    (∃ (s : State) (tm : Nat) (now : Nat), now = max s.now tm ∧ s.tw.assembly = none ∧ s.tw.seq = 0) ∧
    (∃ (s : State) (tm : Nat), s.tw.phase = .write ∧ s.tw.pointer = 0x23 ∧
      s.tw.assembly = some (0x20, [(0, 1), (1, 0), (2, 0)]) ∧ s.tw.seq = 2 ∧ max s.now tm ≤ s.tw.seqAt + 10000000 ∧
      s.pst.tw = false ∧ (∀ k, s.paired k = false)) :=
  ⟨
    ⟨{ up with tw := { Tw.reset with twa := 7 } }, 5000000003, _, rfl, by and_intros <;> decide⟩,
    ⟨{ up with tw := { Tw.reset with twa := 7 } }, 5000000003, _, 0x58, rfl, by decide, by decide⟩,
    ⟨{ up with tw := { Tw.reset with phase := .ptr0 } }, 5000000003, _, rfl, by decide, by decide⟩,
    ⟨{ up with tw := { Tw.reset with phase := .ptr1 2 } }, 5000000003, _, _, rfl, by decide, rfl⟩,
    ⟨{ up with tw := { Tw.reset with phase := .write, pointer := 0x1FF } }, 5000000003, _, rfl, by and_intros <;> decide⟩,
    ⟨{ up with tw := { Tw.reset with phase := .write, pointer := 0x28 } }, 5000000003, _, rfl, by and_intros <;> decide⟩,
    ⟨{ up with tw := { Tw.reset with phase := .read, pointer := 3 } }, 5000000003, _, rfl, by and_intros <;> decide⟩,
    ⟨{ up with tw := { Tw.reset with phase := .write } }, 5000000003, _, rfl, by decide, calm_of (by decide), by decide,
      by decide⟩,
    ⟨{ up with tw := { Tw.reset with phase := .write, sqTail := some 3, sq := [(0x100, 1), (0x101, 9)] } }, 5000000003, _, 3,
      rfl, by decide, calm_of (by decide), by and_intros <;> decide⟩,
    ⟨{ up with tw := { Tw.reset with phase := .write, count := 3000 } }, 5000000003, _, 9, 1, rfl, by and_intros <;> decide⟩,
    ⟨up, 5000000003, _, rfl, by decide⟩,
    ⟨up, 5000000003, _, rfl, by decide⟩,
    ⟨{ up with tw := { Tw.reset with seq := 1, seqAt := 4990000003 } }, 5000000003, _, rfl, by and_intros <;> decide⟩,
    ⟨up, 5000000003, _, rfl, by decide, by decide⟩,
    ⟨(let s := (amp 31 { Chan.reset with st := .run, ssFrom := some 900, gain := 100 }); { s with tw := { s.tw with phase := .write, pointer := 0x23, assembly := some (0x20, [(0, 1), (1, 0), (2, 0)]), seq := 2, seqAt := 4990000003 } }),
      5000000003, by decide, by decide, by decide, by decide, by decide, by decide, unpaired_of rfl (by decide)⟩⟩

theorem witness_serial_frames :
    (∃ (s : State) (port : Nat) (r : SaRec) (x : SaSt) (tm : Nat), port < 8 ∧ s.saRec port = some r ∧ rd s.sap port = x ∧
      s.now ≤ tm ∧ (r.target = false → s.per.openedAt + 10 < tm) ∧ x.st = .locked ∧ x.react = false ∧ s.flt.engineSafe = false ∧
      s.boot.mute = none ∧ r.target = false ∧
      (∀ i, i < r.chOut → -0x01000000 ≤ (s.slot (r.outSlot + i)).toInt ∧ (s.slot (r.outSlot + i)).toInt ≤ 0x00FFFFFF) ∧
      r.chOut ≤ r.frameSlots ∧ r.wordBits = 32) ∧
    (∃ (s : State) (port : Nat) (r : SaRec) (x : SaSt) (fs : FsMeas) (tm : Nat), port < 8 ∧ s.saRec port = some r ∧
      rd s.sap port = x ∧ s.now ≤ tm ∧ (r.target = false → s.per.openedAt + 10 < tm) ∧ x.st = .locked ∧
      (r.target = true → r.goodFrame fs s.per.baseRate = true)) ∧
    (∃ (s : State) (port : Nat) (r : SaRec) (x : SaSt) (tm : Nat), port < 8 ∧ s.saRec port = some r ∧ rd s.sap port = x ∧
      s.now ≤ tm ∧ (r.target = false → s.per.openedAt + 10 < tm) ∧ x.st = .acquire ∧ r.target = false) ∧
    (∃ (s : State) (port : Nat) (r : SaRec) (x : SaSt) (fs : FsMeas) (tm : Nat), port < 8 ∧ s.saRec port = some r ∧
      rd s.sap port = x ∧ s.now ≤ tm ∧ (r.target = false → s.per.openedAt + 10 < tm) ∧ x.st = .acquire ∧ r.target = true ∧
      r.goodFrame fs s.per.baseRate = true) ∧
    (∃ (s : State) (port : Nat) (r : SaRec) (x : SaSt) (fs : FsMeas) (tm : Nat), port < 8 ∧ s.saRec port = some r ∧
      rd s.sap port = x ∧ s.now ≤ tm ∧ (r.target = false → s.per.openedAt + 10 < tm) ∧ x.st = .acquire ∧ r.target = true ∧
      r.goodFrame fs s.per.baseRate = false) ∧
    (∃ (s : State) (port : Nat) (r : SaRec) (x : SaSt) (fs : FsMeas) (tm : Nat), port < 8 ∧ s.saRec port = some r ∧
      rd s.sap port = x ∧ s.now ≤ tm ∧ (r.target = false → s.per.openedAt + 10 < tm) ∧ x.st = .locked ∧ r.target = true ∧
      fs.bclk ≠ 32 * r.frameSlots) ∧
    (∃ (s : State) (port : Nat) (r : SaRec) (x : SaSt) (tm : Nat), port < 8 ∧ s.saRec port = some r ∧ rd s.sap port = x ∧
      s.now ≤ tm ∧ (r.target = false → s.per.openedAt + 10 < tm) ∧ x.st = .locked ∧ r.target = true) :=
  ⟨
    ⟨{ live { plane with saports := [⟨7, 0, false, 32, 2, 2, 0, 2⟩] } with sap := wr (Vector.replicate 8 SaSt.reset) 7 { SaSt.reset with st := .locked } },
      7, _, _, 5000000003, by decide, rfl, rfl, by and_intros <;> decide⟩,
    ⟨{ live { plane with saports := [⟨7, 0, true, 32, 2, 2, 0, 2⟩] } with sap := wr (Vector.replicate 8 SaSt.reset) 7 { SaSt.reset with st := .locked } },
      7, _, _, (⟨64, 32, 20833, 0⟩ : FsMeas), 5000000003, by decide, rfl, rfl, by and_intros <;> decide⟩,
    ⟨{ live { plane with saports := [⟨7, 0, false, 32, 2, 2, 0, 2⟩] } with sap := wr (Vector.replicate 8 SaSt.reset) 7 { SaSt.reset with st := .acquire } },
      7, _, _, 5000000003, by decide, rfl, rfl, by and_intros <;> decide⟩,
    ⟨{ live { plane with saports := [⟨7, 0, true, 32, 2, 2, 0, 2⟩] } with sap := wr (Vector.replicate 8 SaSt.reset) 7 { SaSt.reset with st := .acquire, good := 15 } },
      7, _, _, (⟨64, 32, 20833, 0⟩ : FsMeas), 5000000003, by decide, rfl, rfl, by and_intros <;> decide⟩,
    ⟨{ live { plane with saports := [⟨7, 0, true, 32, 2, 2, 0, 2⟩] } with sap := wr (Vector.replicate 8 SaSt.reset) 7 { SaSt.reset with st := .acquire, good := 15 } },
      7, _, _, (⟨63, 32, 20833, 0⟩ : FsMeas), 5000000003, by decide, rfl, rfl, by and_intros <;> decide⟩,
    ⟨{ live { plane with saports := [⟨7, 0, true, 32, 2, 2, 0, 2⟩] } with sap := wr (Vector.replicate 8 SaSt.reset) 7 { SaSt.reset with st := .locked } },
      7, _, _, (⟨63, 32, 20833, 0⟩ : FsMeas), 5000000003, by decide, rfl, rfl, by and_intros <;> decide⟩,
    ⟨{ live { plane with saports := [⟨7, 0, true, 32, 2, 2, 0, 2⟩] } with sap := wr (Vector.replicate 8 SaSt.reset) 7 { SaSt.reset with st := .locked } },
      7, _, _, 5000000003, by decide, rfl, rfl, by and_intros <;> decide⟩⟩

theorem witness_sample_period :
    (∃ (s : State), s.pwr.released = false) ∧
    (∃ (s : State) (o : Int), s.pwr.released = true ∧ s.portsCalm ∧ s.ref.relabel = false ∧ s.pwr.engRestart = none ∧
      s.per.started = true ∧
      o = s.ref.offset + (s.ref.rate + s.ref.offRem) / (rateHz s.per.baseRate : Int) + (idealUnits (s.per.mediaTime + 1) s.per.baseRate : Int)) ∧
    (∃ (s : State), s.pwr.released = true ∧ s.portsCalm ∧ s.ref.relabel = false ∧ s.pwr.engRestart = none ∧
      s.per.started = false) ∧
    (∃ (s : State), s.pwr.released = true ∧ s.portsCalm ∧ s.ref.relabel = false ∧ s.pwr.engRestart = none ∧ s.pl.live = none ∧
      s.pl.commit = none) ∧
    (∃ (s : State), s.pl.live = none) ∧
    (∃ (s : State) (k : _), s.pl.live.isSome = true ∧ s.per.deadlineDone = false ∧ k < 68 ∧
      ((s.tile k).run = .fg ∨ (s.tile k).run = .wait) ∧ (s.tile k).l.miss = .onTime) ∧
    (∃ (s : State) (k : _), s.pl.live.isSome = true ∧ s.per.deadlineDone = false ∧ k < 68 ∧ (s.tile k).run = .parked) ∧
    (∃ (s : State), s.per.wndDue = false) ∧
    (∃ (s : State), s.per.wndDue = true ∧ s.avs.st ≠ .track) ∧
    (∃ (s : State), s.per.wndDue = true ∧ s.avs.st = .track ∧ s.per.fmax < (s.avs.target - 2) * 65536 / 100 ∧ s.avs.lowRun < 7 ∧
      s.per.fmax ≤ (s.avs.target + 2) * 65536 / 100) ∧
    (∃ (s : State), s.per.wndDue = true ∧ s.avs.st = .track ∧ (s.avs.target + 10) * 65536 / 100 ≤ s.per.fmax ∧
      s.avs.winBase = s.avs.req ∧ s.avs.vmin ≤ s.avs.req + 4 ∧ s.avs.req + 4 ≤ s.avs.vmax) ∧
    (∃ (s : State) (n : _), s.per.wndDue = true ∧ s.avs.st = .track ∧ (s.avs.target + 10) * 65536 / 100 ≤ s.per.fmax ∧
      s.avs.req = s.avs.winBase + n ∧ 4 ≤ n ∧ s.avs.req ≤ s.avs.vmax ∧ s.avs.vmin ≤ s.avs.winBase + 4 ∧
      s.avs.winBase < s.avs.vmax) :=
  ⟨
    ⟨State.reset, by decide⟩,
    ⟨up, _, by decide, calm_of (by decide), by decide, by decide, by decide, rfl⟩,
    ⟨{ up with per := { up.per with started := false } }, by decide, calm_of (by decide), by and_intros <;> decide⟩,
    ⟨{ up with ex := { Exch.reset with writeHalf := [(3, 5)], readHalf := [(1, 2)] } }, by decide, calm_of (by decide),
      by and_intros <;> decide⟩,
    ⟨up, by decide⟩,
    ⟨(let s := (live { plane with tiles := [(67, ⟨[], 0, 3, 5, true, 0, [⟨1, 2⟩], [⟨true, 0x3FFF, 7⟩, ⟨false, 4, 8⟩]⟩)] }).setTile 67 { Tile.reset with run := .fg }; { s with pwr := s.pwr }),
      67, by decide, by decide, by decide, .inl (by decide), by decide⟩,
    ⟨(let s := (live { plane with tiles := [(67, ⟨[], 0, 3, 5, true, 0, [⟨1, 2⟩], [⟨true, 0x3FFF, 7⟩, ⟨false, 4, 8⟩]⟩)] }).setTile 67 { Tile.reset with run := .parked }; { s with pwr := s.pwr }),
      67, by and_intros <;> decide⟩,
    ⟨up, by decide⟩,
    ⟨{ up with per := { up.per with wndDue := true } }, by decide, by decide⟩,
    ⟨{ up with per := { up.per with wndDue := true, fmax := 40000 }, avs := { Avs.reset with st := .track, lowRun := 6 } },
      by and_intros <;> decide⟩,
    ⟨{ up with per := { up.per with wndDue := true, fmax := 52430 }, avs := { Avs.reset with st := .track, req := 0x38, winBase := 0x38 } },
      by and_intros <;> decide⟩,
    ⟨{ up with per := { up.per with wndDue := true, fmax := 52430 }, avs := { Avs.reset with st := .track, req := 0x3C, winBase := 0x38 } },
      4, by and_intros <;> decide⟩⟩

theorem witness_tile_period :
    (∃ (s : State) (k : Nat) (w : _) (p : _), k < 68 ∧ (s.tile k).run = .wait ∧ s.workOf k = some (w, p)) ∧
    (∃ (s : State) (k : Nat), k < 68 ∧ (s.tile k).run ≠ .wait) ∧
    (∃ (s : State) (k : Nat) (w : _) (p : _), k < 68 ∧ (s.tile k).run = .drain ∧ s.workOf k = some (w, p) ∧
      (s.tile k).ecc = [] ∧ (p.scatter.Pairwise (fun x y => x.slot ≠ y.slot))) ∧
    (∃ (s : State) (k : Nat), k < 68 ∧ (s.tile k).run = .bg ∧ (s.tile k).bg.delay = none ∧ (s.tile k).bg.rep = 0) ∧
    (∃ (s : State) (k : Nat), k < 68 ∧ (s.tile k).run = .bg ∧ ((s.tile k).bg.delay ≠ none ∨ (s.tile k).bg.rep ≠ 0)) ∧
    (∃ (s : State) (k : Nat) (w : _) (p : _), k < 68 ∧ (s.tile k).run = .cold ∧ (s.tile k).coldLeft = 0 ∧
      s.workOf k = some (w, p) ∧ (s.tile k).initDue = [] ∧ p.gather = []) ∧
    (∃ (s : State) (k : Nat) (n : _), k < 68 ∧ (s.tile k).run = .cold ∧ (s.tile k).coldLeft = n + 1) ∧
    (∃ (s : State) (k : Nat) (bg : _) (c : _), k < 68 ∧ (s.tile k).task = some bg ∧ s.ctx k bg = c ∧
      (s.tile k).eventDue bg = true ∧ c.stack.length < 8 ∧ (bg = true ∨ c.raised = 0) ∧ c.evpend.getLsbD 2 = true ∧
      c.evmask.getLsbD 2 = true) ∧
    (∃ (s : State) (k : Nat) (bg : _), k < 68 ∧ (s.tile k).task = some bg ∧ (s.tile k).eventDue bg = false) ∧
    (∃ (s : State) (k : Nat) (lane : _) (p : _), k < 68 ∧ s.pl.live = some p ∧ lane < 48 ∧ (rd s.mtx.lanes lane).done = false ∧
      s.per.deadlineDone = false ∧ s.hlt.full = none) ∧
    (∃ (s : State) (k : Nat) (tick : Nat) (lane : _) (p : _) (r : _) (x : _) (acc : _) (n : _) (xs : _), k < 68 ∧
      s.pl.live = some p ∧ lane < 48 ∧ (rd s.mtx.lanes lane).done = false ∧ s.per.deadlineDone = false ∧ s.hlt.full = none ∧
      p.laneSums lane = [r] ∧ r.aux = false ∧ lookup? s.mtx.sums r.sum = some x ∧ sumInputs (s.tickAt tick) p r = (acc, n, xs) ∧
      (r.thresh.toNat < x.prev.natAbs ∨ r.thresh.toNat < (clampS (32 + r.headroom) (acc / 2 ^ 27)).natAbs)) ∧
    (∃ (s : State) (k : Nat) (lane : _), k < 68 ∧ s.pl.live = none ∧ lane < 49) :=
  ⟨
    ⟨(let s := (live { plane with tiles := [(67, ⟨[], 0, 3, 5, true, 0, [⟨1, 2⟩], [⟨true, 0x3FFF, 7⟩, ⟨false, 4, 8⟩]⟩)] }).setTile 67 { Tile.reset with run := .wait, fgCount := 5, fg := { TCtx.cold 7 false with pc := 9 } }; { s with pwr := s.pwr }),
      67, _, _, by decide, by decide, rfl⟩,
    ⟨(let s := (live plane).setTile 67 { Tile.reset with run := .bg }; { s with pwr := s.pwr }), 67, by decide, by decide⟩,
    ⟨(let s := (live { plane with tiles := [(67, ⟨[], 0, 3, 5, true, 0, [⟨1, 2⟩], [⟨true, 0x3FFF, 7⟩, ⟨false, 4, 8⟩]⟩)] }).setTile 67 { Tile.reset with run := .drain, x := [(4, 6)], y := [(0x3FFF, 7)] }; { s with pwr := s.pwr }),
      67, _, _, by decide, by decide, rfl, by decide, by decide⟩,
    ⟨(let s := (live plane).setTile 67 { Tile.reset with run := .bg, bg := TCtx.cold 0 true }; { s with pwr := s.pwr }), 67,
      by and_intros <;> decide⟩,
    ⟨(let s := (live plane).setTile 67 { Tile.reset with run := .bg, bg := { TCtx.cold 0 true with rep := 1 } }; { s with pwr := s.pwr }),
      67, by decide, by decide, .inr (by decide)⟩,
    ⟨(let s := (live { plane with tiles := [(67, ⟨[], 0, 3, 5, true, 0, [], []⟩)] }).setTile 67 { Tile.reset with run := .cold, coldLeft := 0 }; { s with pwr := s.pwr }),
      67, _, _, by decide, by decide, by decide, rfl, by decide, by decide⟩,
    ⟨(let s := (live { plane with tiles := [(67, ⟨[], 0, 3, 5, true, 0, [], []⟩)] }).setTile 67 { Tile.reset with run := .cold, coldLeft := 8 }; { s with pwr := s.pwr }),
      67, 7, by and_intros <;> decide⟩,
    ⟨(let s := (live plane).setTile 67 { Tile.reset with run := .bg, bg := { TCtx.cold 5 true with stack := [1, 2, 3, 4, 5, 6, 7], evpend := 0xC, evmask := 4, evvec := 0x3FF0 } }; { s with pwr := s.pwr }),
      67, true, _, by decide, by decide, rfl, by decide, by decide, .inl rfl, by decide, by decide⟩,
    ⟨(let s := (live plane).setTile 67 { Tile.reset with run := .fg, fg := { TCtx.cold 5 false with evpend := 0xC, evmask := 4, evvec := 0x3FF0 } }; { s with pwr := s.pwr }),
      67, false, by and_intros <;> decide⟩,
    ⟨live plane, 67, 47, plane, by and_intros <;> decide⟩,
    ⟨(let s := live { plane with sums := [⟨1023, false, 47, 9, 3, 0, 100, 64, 10⟩], xpoints := [⟨3, 1023, 0x08000000⟩] }; { s with mtx := { s.mtx with sums := [(1023, ⟨5, 200, 7, 3, 2, 0, 0, 0, 0, 1⟩)] }, ex := { s.ex with readHalf := [(3, 77)] } }),
      67, 100, 47, { plane with sums := [⟨1023, false, 47, 9, 3, 0, 100, 64, 10⟩], xpoints := [⟨3, 1023, 0x08000000⟩] },
      ⟨1023, false, 47, 9, 3, 0, 100, 64, 10⟩, ⟨5, 200, 7, 3, 2, 0, 0, 0, 0, 1⟩, _, _, _, by decide, by decide, by decide,
      by decide, by decide, by decide, by decide, by decide, by decide, rfl, .inl (by decide)⟩,
    ⟨up, 67, 48, by and_intros <;> decide⟩⟩

theorem witness_avs_loop :
    (∃ (s : State) (a : Avs), s.avs = a ∧ a.st = .off ∧ a.req ≠ a.vmax) ∧
    (∃ (s : State) (a : Avs), s.avs = a ∧ a.st ≠ .off) ∧
    (∃ (s : State) (a : Avs), s.avs = a ∧ (a.st = .hold ∨ a.st = .track) ∧ a.req = a.vmax) ∧
    (∃ (s : State) (a : Avs), s.avs = a ∧ (a.st = .off ∨ a.st = .failed)) ∧
    (∃ (s : State) (a : Avs), s.avs = a ∧ a.st = .track ∧ a.req = a.vmax) ∧
    (∃ (s : State) (a : Avs), s.avs = a ∧ a.st = .hold ∧ a.expired = true) ∧
    (∃ (s : State) (a : Avs), s.avs = a ∧ a.st = .hold ∧ a.expired = false) ∧
    (∃ (s : State) (a : Avs) (target : _) (vmin : _) (vmax : _), s.avs = a ∧ 50 ≤ target ∧ target ≤ 85 ∧ vmin ≤ vmax ∧
      vmax ≤ 60) ∧
    (∃ (s : State) (a : Avs) (target : _) (vmin : _) (vmax : _), s.avs = a ∧
      (target < 50 ∨ 85 < target ∨ vmax < vmin ∨ 60 < vmax)) ∧
    (∃ (s : State) (tm : Nat) (a : Avs) (f : Requester), s.avs = a ∧ s.reaches f = true ∧
      ((s.access .hlt).lock f).open_ (max s.now tm) = false) ∧
    (∃ (s : State) (tm : Nat) (a : Avs), s.avs = a ∧ a.st = .hold ∧ a.hold = false ∧ a.expired = false ∧
      a.holdUntil.getD 0 ≤ max s.now tm ∧ a.holdWindows.getD 0 = 0) ∧
    (∃ (s : State) (tm : Nat) (a : Avs), s.avs = a ∧ a.st = .hold ∧ max s.now tm < a.holdUntil.getD 0) ∧
    (∃ (s : State) (a : Avs) (mv : _), s.avs = a ∧ a.st ≠ .failed ∧ a.waiting = true ∧ mv ≤ 560 + 5 * a.req ∧
      540 + 5 * a.req ≤ mv) ∧
    (∃ (s : State) (a : Avs) (mv : _), s.avs = a ∧ (560 + 5 * a.req < mv ∨ mv < 540 + 5 * a.req)) ∧
    (∃ (s : State) (a : Avs) (mv : _), s.avs = a ∧ a.st = .failed ∧ a.en = true ∧ a.req = a.vmax ∧ mv = 550 + 5 * a.req) ∧
    (∃ (s : State) (a : Avs), s.avs = a ∧ a.waiting = true ∧ a.st ≠ .failed ∧ a.attempts < 2) ∧
    (∃ (s : State) (a : Avs), s.avs = a ∧ a.waiting = true ∧ a.st ≠ .failed ∧ a.attempts < 2) ∧
    (∃ (s : State) (a : Avs), s.avs = a ∧ a.waiting = true ∧ a.st ≠ .failed ∧ a.attempts = 2) ∧
    (∃ (s : State) (a : Avs), s.avs = a ∧ a.retryDue = true) ∧
    (∃ (s : State) (a : Avs), s.avs = a ∧ a.retryDue = false) ∧
    (∃ (s : State) (a : Avs), s.avs = a ∧ a.st = .failed) ∧
    (∃ (s : State) (a : Avs), s.avs = a ∧ a.st ≠ .failed) :=
  ⟨
    ⟨{ up with avs := { Avs.reset with req := 0x30 } }, _, rfl, by decide, by decide⟩,
    ⟨{ up with avs := { Avs.reset with st := .hold } }, _, rfl, by decide⟩,
    ⟨{ up with avs := { Avs.reset with st := .track, req := 0x3C, en := true } }, _, rfl, .inr (by decide), by decide⟩,
    ⟨{ up with avs := { Avs.reset with st := .failed, en := true } }, _, rfl, .inr (by decide)⟩,
    ⟨{ up with avs := { Avs.reset with st := .track, req := 0x3C, en := true } }, _, rfl, by decide, by decide⟩,
    ⟨{ up with avs := { Avs.reset with st := .hold, hold := true, expired := true } }, _, rfl, by decide, by decide⟩,
    ⟨{ up with avs := { Avs.reset with st := .hold, hold := true } }, _, rfl, by decide, by decide⟩,
    ⟨up, _, 85, 60, 60, rfl, by and_intros <;> decide⟩,
    ⟨up, _, 86, 1, 2, rfl, .inr (.inl (by decide))⟩,
    ⟨up, 5000000003, _, .D, rfl, by decide, by decide⟩,
    ⟨{ up with avs := { Avs.reset with st := .hold, holdUntil := some 5000000003 } }, 5000000003, _, rfl,
      by and_intros <;> decide⟩,
    ⟨{ up with avs := { Avs.reset with st := .hold, holdUntil := some 5000000004 } }, 5000000003, _, rfl, by decide, by decide⟩,
    ⟨{ up with avs := { Avs.reset with st := .track, waiting := true } }, _, 860, rfl, by and_intros <;> decide⟩,
    ⟨{ up with avs := { Avs.reset with st := .track, waiting := true } }, _, 861, rfl, .inl (by decide)⟩,
    ⟨{ up with avs := { Avs.reset with st := .failed, en := true } }, _, 850, rfl, by and_intros <;> decide⟩,
    ⟨{ up with avs := { Avs.reset with st := .track, waiting := true, attempts := 1 } }, _, rfl, by and_intros <;> decide⟩,
    ⟨{ up with avs := { Avs.reset with st := .track, waiting := true } }, _, rfl, by and_intros <;> decide⟩,
    ⟨{ up with avs := { Avs.reset with st := .track, waiting := true, attempts := 2 } }, _, rfl, by and_intros <;> decide⟩,
    ⟨{ up with avs := { Avs.reset with retryDue := true } }, _, rfl, by decide⟩,
    ⟨up, _, rfl, by decide⟩,
    ⟨{ up with avs := { Avs.reset with st := .failed } }, _, rfl, by decide⟩,
    ⟨{ up with avs := { Avs.reset with st := .hold } }, _, rfl, by decide⟩⟩

theorem witness_firmware_commands :
    (∃ (s : State) (e : Env) (c : CmdInfo) (r : BootRec), s.boot.record = r ∧ s.meets (.fwStatus e) c) ∧
    (∃ (s : State) (e : Env) (c : CmdInfo) (r : BootRec) (addr : _) (len : _) (image : _) (size : _), s.boot.record = r ∧
      s.meets (.fwStage e addr len false image) c ∧ s.flashFree ∧ (e.port = .A ∨ e.port = .B) ∧
      size = fld (slice image 0 len) 0x008 4) ∧
    (∃ (s : State) (e : Env) (c : CmdInfo) (r : BootRec), s.boot.record = r ∧ s.meets (.fwStageDiscard e) c ∧ s.flashFree) ∧
    (∃ (s : State) (e : Env) (c : CmdInfo) (r : BootRec) (w : _) (rh : _) (img : _), s.boot.record = r ∧
      s.meets (.fwActivate e w rh) c ∧ s.flashFree ∧ (w = 0 ∨ (60 ≤ w ∧ w ≤ 3600)) ∧ s.boot.stage = .staged img ∧ r.st ≠ .trial) ∧
    (∃ (s : State) (e : Env) (c : CmdInfo) (r : BootRec) (w : _) (rh : _), s.boot.record = r ∧ s.meets (.fwActivate e w rh) c ∧
      (w = 0 ∨ (60 ≤ w ∧ w ≤ 3600)) ∧ s.boot.stage = .empty) ∧
    (∃ (s : State) (e : Env) (c : CmdInfo) (r : BootRec) (w : _) (rh : _) (img : _), s.boot.record = r ∧
      s.meets (.fwActivate e w rh) c ∧ (w = 0 ∨ (60 ≤ w ∧ w ≤ 3600)) ∧ s.boot.stage = .staged img ∧ r.st = .trial) ∧
    (∃ (s : State) (e : Env) (c : CmdInfo) (r : BootRec), s.boot.record = r ∧ s.meets (.fwConfirm e) c ∧ r.st = .trial) ∧
    (∃ (s : State) (e : Env) (c : CmdInfo) (r : BootRec), s.boot.record = r ∧ s.meets (.fwConfirm e) c ∧ r.st ≠ .trial) ∧
    (∃ (s : State) (e : Env) (c : CmdInfo) (r : BootRec), s.boot.record = r ∧ s.meets (.fwRevert e) c ∧ s.flashFree ∧
      r.st = .trial) ∧
    (∃ (s : State) (e : Env) (c : CmdInfo) (r : BootRec), s.boot.record = r ∧ s.meets (.fwRevert e) c ∧ r.st ≠ .trial) ∧
    (∃ (s : State) (e : Env) (c : CmdInfo) (r : BootRec) (count : _) (addr : _) (es : _), s.boot.record = r ∧
      s.meets (.flashLogRead e 0xFFFFFFFF count addr) c ∧ addr ≠ 0 ∧ (e.port = .A ∨ e.port = .B) ∧ 1 ≤ count ∧ count ≤ 2048 ∧
      es = s.boot.log.take count) ∧
    (∃ (s : State) (e : Env) (c : CmdInfo) (r : BootRec) (start : _) (x : LogEntry), s.boot.record = r ∧
      s.meets (.flashLogRead e start 1 0) c ∧ start ≤ 0xFFFFFFFF ∧ s.boot.log = [x] ∧ start = x.seq ∧ x.seq < 2 ^ 32) :=
  ⟨
    ⟨(onD 0x0801 (booted .trial true)), eD, _, _, rfl, meets_of rfl (by decide)⟩,
    ⟨up, eA, _, _, 4096, 512, List.replicate 512 0, _, by exact rfl, meets_of rfl (by decide +kernel),
      ⟨by decide +kernel, by decide +kernel⟩, .inl rfl, by exact rfl⟩,
    ⟨booted .confirmed true, eA, _, _, rfl, meets_of rfl (by decide), ⟨by decide, by decide⟩⟩,
    ⟨booted .confirmed true, eA, _, _, 3600, true, List.replicate 512 0, by exact rfl, meets_of rfl (by decide +kernel),
      ⟨by decide +kernel, by decide +kernel⟩, .inr (by decide +kernel), by decide +kernel, by decide +kernel⟩,
    ⟨up, eA, _, _, 3600, true, rfl, meets_of rfl (by decide), .inr (by decide), by decide⟩,
    ⟨booted .trial false, eA, _, _, 3600, true, List.replicate 512 0, by exact rfl, meets_of rfl (by decide +kernel),
      .inr (by decide +kernel), by decide +kernel, by decide +kernel⟩,
    ⟨booted .trial false, eA, _, _, rfl, meets_of rfl (by decide), by decide⟩,
    ⟨booted .confirmed false, eA, _, _, rfl, meets_of rfl (by decide), by decide⟩,
    ⟨booted .trial false, eA, _, _, rfl, meets_of rfl (by decide), ⟨by decide, by decide⟩, by decide⟩,
    ⟨booted .fallback false, eA, _, _, rfl, meets_of rfl (by decide), by decide⟩,
    ⟨(let s := booted .trial false; { s with boot := { s.boot with log := [⟨7, 5, 0x70, 0, 0x0702, 1, 1, 1, 0, 77000, 0, 5, 9, false⟩] } }),
      eA, _, _, 2048, 4096, _, rfl, meets_of rfl (by decide), by decide, .inl rfl, by decide, by decide, rfl⟩,
    ⟨(let s := booted .trial false; { s with boot := { s.boot with log := [⟨7, 5, 0x70, 0, 0x0702, 1, 1, 1, 0, 77000, 0, 5, 9, false⟩] } }),
      eA, _, _, 7, ⟨7, 5, 0x70, 0, 0x0702, 1, 1, 1, 0, 77000, 0, 5, 9, false⟩, rfl, meets_of rfl (by decide),
      by and_intros <;> decide⟩⟩

theorem witness_firmware_events :
    (∃ (s : State) (tm : Nat) (now : Nat) (r : BootRec) (p : CPort) (f : Flight) (e : _) (w : _) (rh : _) (img : List Byte) (rest : List (CPort × Nat)),
      s.portsCalm ∧ now = max s.now tm ∧ s.boot.record = r ∧ s.canAnswer p f ∧
      (∀ q, (s.port q).flights = if q = p then [f] else []) ∧ f.cmd = .fwActivate e w rh ∧
      s.ports.flashQ = (p, f.handle) :: rest ∧ s.boot.stage = .staged img) ∧
    (∃ (s : State) (tm : Nat) (now : Nat) (r : BootRec) (p : CPort) (f : Flight) (e : _) (w : _) (rh : _) (img : List Byte),
      s.portsCalm ∧ now = max s.now tm ∧ s.boot.record = r ∧ s.canAnswer p f ∧ f.cmd = .fwActivate e w rh ∧
      s.ports.flashQ = [(p, f.handle)] ∧ s.boot.stage = .staged img) ∧
    (∃ (s : State) (tm : Nat) (now : Nat) (r : BootRec), s.portsCalm ∧ now = max s.now tm ∧ s.boot.record = r ∧
      s.boot.reload = true ∧ s.pwr.cpRunning = true ∧ s.boot.mute = none) ∧
    (∃ (s : State) (tm : Nat) (now : Nat) (r : BootRec) (m : _), s.portsCalm ∧ now = max s.now tm ∧ s.boot.record = r ∧
      s.boot.mute = some m ∧ m.inAt = none ∧ s.per.boundaries < m.b + 64) ∧
    (∃ (s : State) (tm : Nat) (now : Nat) (r : BootRec), s.portsCalm ∧ now = max s.now tm ∧ s.boot.record = r ∧ r.st ≠ .trial) ∧
    (∃ (s : State) (tm : Nat) (now : Nat) (r : BootRec) (e : Nat), s.portsCalm ∧ now = max s.now tm ∧ s.boot.record = r ∧
      r.st = .trial ∧ s.pwr.cpRunning = true ∧ s.boot.recovery = false ∧ s.boot.trialEnd = some e) ∧
    (∃ (s : State) (tm : Nat) (now : Nat) (r : BootRec) (e : Nat) (u : _), s.portsCalm ∧ now = max s.now tm ∧
      s.boot.record = r ∧ r.st = .trial ∧ s.pwr.cpRunning = true ∧ s.boot.recovery = false ∧ s.boot.trialEnd = some e ∧
      s.trialGood true = true ∧ s.boot.goodSince = some u ∧ u + 30000000000 ≤ now ∧
      (r.requireHost = false ∨ s.boot.consent = true)) ∧
    (∃ (s : State) (tm : Nat) (now : Nat) (r : BootRec) (e : Nat), s.portsCalm ∧ now = max s.now tm ∧ s.boot.record = r ∧
      s.boot.trialEnd = some e ∧ e ≤ now) ∧
    (∃ (s : State) (tm : Nat) (now : Nat) (r : BootRec) (e : Nat), s.portsCalm ∧ now = max s.now tm ∧ s.boot.record = r ∧
      s.boot.trialEnd = some e ∧ now < e) ∧
    (∃ (s : State) (tm : Nat) (now : Nat) (r : BootRec), s.portsCalm ∧ now = max s.now tm ∧ s.boot.record = r ∧
      (s.pwr.released = false ∨ s.pwr.cpRunning = true ∨ now < s.pwr.bootAfter)) ∧
    (∃ (s : State) (tm : Nat) (now : Nat) (r : BootRec), s.portsCalm ∧ now = max s.now tm ∧ s.boot.record = r ∧
      s.pwr.released = true ∧ s.pwr.cpRunning = false ∧ s.pwr.bootAfter ≤ now ∧ r.st ≠ .trial) ∧
    (∃ (s : State) (tm : Nat) (now : Nat) (r : BootRec), s.portsCalm ∧ now = max s.now tm ∧ s.boot.record = r ∧
      (s.pwr.cpRunning = false ∨ s.boot.recovery = true)) ∧
    (∃ (s : State) (tm : Nat) (now : Nat) (r : BootRec) (new : _) (l : LogEntry), s.portsCalm ∧ now = max s.now tm ∧
      s.boot.record = r ∧ s.pwr.cpRunning = true ∧ s.boot.recovery = false ∧ s.boot.copied = none ∧
      new = s.flt.log.filter (fun e => decide (1 ≤ e.sev)) ∧ new.getLast? = some l ∧ s.boot.log.length + new.length ≤ 32768) :=
  ⟨
    ⟨(let s := (booted .confirmed true).setPort .A { openPort with flights := [flightOf (.fwActivate eA 60 true)] }; { s with ports := { s.ports with flashQ := [(.A, 7)] } }),
      5000000003, _, _, .A, flightOf (.fwActivate eA 60 true), eA, 60, true, List.replicate 512 0, [],
      calm_of (by decide +kernel), by exact rfl, by exact rfl, canAnswer_of (by decide +kernel), by intro q; cases q <;> rfl,
      by and_intros <;> decide +kernel⟩,
    ⟨(let s := (booted .confirmed true).setPort .A { openPort with flights := [flightOf (.fwActivate eA 60 true)] }; { s with ports := { s.ports with flashQ := [(.A, 7)] } }),
      5000000003, _, _, .A, flightOf (.fwActivate eA 60 true), eA, 60, true, List.replicate 512 0, calm_of (by decide +kernel),
      by exact rfl, by exact rfl, canAnswer_of (by decide +kernel), by and_intros <;> decide +kernel⟩,
    ⟨(let s := booted .trial false; { s with boot := { s.boot with reload := true } }), 5000000003, _, _, calm_of (by decide),
      rfl, rfl, by and_intros <;> decide⟩,
    ⟨(let s := booted .trial false; { s with boot := { s.boot with reload := true, mute := some ⟨937, [], none⟩ } }),
      5000000003, _, _, _, calm_of (by decide), rfl, rfl, rfl, by decide, by decide⟩,
    ⟨booted .confirmed true, 5000000003, _, _, calm_of (by decide), rfl, rfl, by decide⟩,
    ⟨(let s := booted .trial false; { s with boot := { s.boot with trialEnd := some 9000000000, goodSince := some 5, healthy := true } }),
      5000000003, _, _, 9000000000, calm_of (by decide), rfl, rfl, by and_intros <;> decide⟩,
    ⟨(let s := (let s := booted .trial false; { s with boot := { s.boot with trialEnd := some 90000000000, goodSince := some 5 } }); { s with now := 30000000005 }),
      0, _, _, 90000000000, 5, calm_of (by decide), rfl, rfl, by decide, by decide, by decide, by decide, by decide, by decide,
      by decide, .inl rfl⟩,
    ⟨(let s := booted .trial false; { s with boot := { s.boot with trialEnd := some 5000000003 } }), 5000000003, _, _,
      5000000003, calm_of (by decide), rfl, rfl, by decide, by decide⟩,
    ⟨(let s := booted .trial false; { s with boot := { s.boot with trialEnd := some 5000000004 } }), 5000000003, _, _,
      5000000004, calm_of (by decide), rfl, rfl, by decide, by decide⟩,
    ⟨booted .confirmed true, 5000000003, _, _, calm_of (by decide), rfl, rfl, .inr (.inl rfl)⟩,
    ⟨(let s := booted .confirmed true; { s with pwr := { s.pwr with cpRunning := false, bootAfter := 5000000003 } }),
      5000000003, _, _, calm_of (by decide), rfl, rfl, by and_intros <;> decide⟩,
    ⟨State.reset, 5000000003, _, _, calm_of (by decide), rfl, rfl, .inl rfl⟩,
    ⟨{ up with flt := { Flt.reset with log := [⟨7, 5, 0x70, 0, 0x0702, 1, 1, 1, 0, 77000, 0, 5, 9, false⟩, { (⟨7, 5, 0x70, 0, 0x0702, 1, 1, 1, 0, 77000, 0, 5, 9, false⟩ : LogEntry) with sev := 0 }] } },
      5000000003, _, _, _, ⟨7, 5, 0x70, 0, 0x0702, 1, 1, 1, 0, 77000, 0, 5, 9, false⟩, calm_of (by decide), rfl, rfl, by decide,
      by decide, by decide, rfl, by decide, by decide⟩⟩

theorem witness_health_commands :
    (∃ (s : State) (e : Env) (c : CmdInfo) (h : Hlt), s.hlt = h ∧ s.meets (.healthStatus e) c) ∧
    (∃ (s : State) (e : Env) (c : CmdInfo) (h : Hlt) (addr : _), s.hlt = h ∧ s.meets (.ageingReport e addr) c ∧
      (e.port = .A ∨ e.port = .B)) ∧
    (∃ (s : State) (e : Env) (c : CmdInfo) (h : Hlt) (k : _) (x : _), s.hlt = h ∧ s.meets (.selftestTile e k) c ∧ k ≤ 67 ∧
      s.outOfService k = false ∧ s.underTest k = false ∧ s.quad (quadOf k) = x ∧ x.st = .ready ∧ s.workOf k = none) ∧
    (∃ (s : State) (e : Env) (c : CmdInfo) (h : Hlt) (k : _) (x : _) (w : _), s.hlt = h ∧ s.meets (.selftestTile e k) c ∧
      k ≤ 67 ∧ s.outOfService k = false ∧ s.underTest k = false ∧ s.quad (quadOf k) = x ∧ x.st = .ready ∧ s.workOf k = some w) ∧
    (∃ (s : State) (e : Env) (c : CmdInfo) (h : Hlt) (k : _), s.hlt = h ∧ s.meets (.selftestTile e k) c ∧ k ≤ 67 ∧
      s.outOfService k = false ∧ s.underTest k = false ∧ (s.quad (quadOf k)).st ≠ .ready ∧ e.flags.getLsbD 2 = false) ∧
    (∃ (s : State) (e : Env) (c : CmdInfo) (h : Hlt) (k : _), s.hlt = h ∧ s.meets (.selftestTile e k) c ∧ k ≤ 67 ∧
      s.outOfService k = false ∧ s.underTest k = false ∧ (s.quad (quadOf k)).st ≠ .ready ∧ e.flags.getLsbD 2 = true ∧
      h.held.length < 16) ∧
    (∃ (s : State) (e : Env) (c : CmdInfo) (h : Hlt) (id : _) (x : _), s.hlt = h ∧ s.meets (.selftestResult e id) c ∧
      h.held.find? (fun y => y.id == id) = some x) ∧
    (∃ (s : State) (e : Env) (c : CmdInfo) (h : Hlt) (id : _), s.hlt = h ∧ s.meets (.selftestResult e id) c ∧
      h.held.find? (fun y => y.id == id) = none) ∧
    (∃ (s : State) (e : Env) (c : CmdInfo) (h : Hlt) (id : _) (x : HeldTest), s.hlt = h ∧
      s.meets (.selftestCancel e false id) c ∧ x ∈ h.held ∧ x.id = id ∧ x.state = 0 ∧
      (∀ q, (s.quad q).mig = none ∧ (s.quad q).test = none)) ∧
    (∃ (s : State) (e : Env) (c : CmdInfo) (h : Hlt) (id : _), s.hlt = h ∧ s.meets (.selftestCancel e false id) c ∧
      (∀ x ∈ h.held, x.id ≠ id) ∧ (∀ q, (s.quad q).mig = none ∧ (s.quad q).test = none)) ∧
    (∃ (s : State) (e : Env) (c : CmdInfo) (h : Hlt) (k : _) (x : _) (w : _), s.hlt = h ∧ s.meets (.tileMigrate e k) c ∧
      k ≤ 67 ∧ s.outOfService k = false ∧ s.underTest k = false ∧ s.workOf k = some w ∧ s.quad (quadOf k) = x ∧ x.st = .ready) ∧
    (∃ (s : State) (e : Env) (c : CmdInfo) (h : Hlt) (k : _) (x : _) (w : _), s.hlt = h ∧ s.meets (.tileMigrate e k) c ∧
      k ≤ 67 ∧ s.outOfService k = false ∧ s.underTest k = false ∧ s.workOf k = some w ∧ s.quad (quadOf k) = x ∧ x.st ≠ .ready) ∧
    (∃ (s : State) (e : Env) (c : CmdInfo) (h : Hlt) (k : _), s.hlt = h ∧ s.meets (.tileMigrate e k) c ∧ k ≤ 67 ∧
      s.outOfService k = false ∧ s.underTest k = false ∧ s.workOf k = none) ∧
    (∃ (s : State) (e : Env) (c : CmdInfo) (h : Hlt), s.hlt = h ∧ s.meets (.maintEnter e) c ∧ s.quiet) ∧
    (∃ (s : State) (e : Env) (c : CmdInfo) (h : Hlt) (l : _), s.hlt = h ∧ s.meets (.maintEnter e) c ∧ l ∈ s.leads ∧
      (s.chan l).switching = true) ∧
    (∃ (s : State) (e : Env) (c : CmdInfo) (h : Hlt), s.hlt = h ∧ s.meets (.maintExit e) c ∧ h.maint = true) ∧
    (∃ (s : State) (e : Env) (c : CmdInfo) (h : Hlt), s.hlt = h ∧ s.meets (.maintExit e) c ∧ h.maint = false) ∧
    (∃ (s : State) (e : Env) (c : CmdInfo) (h : Hlt) (mask : _), s.hlt = h ∧ s.meets (.selftestFull e mask) c ∧ mask ≤ 7 ∧
      mask % 2 = 0 ∧ h.maint = true ∧ h.full = none) ∧
    (∃ (s : State) (e : Env) (c : CmdInfo) (h : Hlt) (mask : _), s.hlt = h ∧ s.meets (.selftestFull e mask) c ∧ mask ≤ 7 ∧
      mask % 2 = 1 ∧ h.maint = true ∧ h.full = none ∧ (∀ q, (s.quad q).mig = none ∧ (s.quad q).test = none)) ∧
    (∃ (s : State) (e : Env) (c : CmdInfo) (h : Hlt) (mask : _), s.hlt = h ∧ s.meets (.selftestFull e mask) c ∧ mask ≤ 7 ∧
      h.maint = false) ∧
    (∃ (s : State) (e : Env) (c : CmdInfo) (h : Hlt) (n : _), s.hlt = h ∧ s.meets (.calConfig e n false) c ∧
      (n = 0 ∨ (10 ≤ n ∧ n ≤ 86400))) ∧
    (∃ (s : State) (e : Env) (c : CmdInfo) (h : Hlt) (n : _), s.hlt = h ∧ s.meets (.calConfig e n true) c ∧ s.flashFree ∧
      (n = 0 ∨ (10 ≤ n ∧ n ≤ 86400))) :=
  ⟨
    ⟨(onD 0x0701 (live { plane with tiles := [(67, ⟨[], 0, 3, 5, true, 0, [⟨1, 2⟩], [⟨true, 0x3FFF, 7⟩, ⟨false, 4, 8⟩]⟩)] })),
      eD, _, _, rfl, meets_of rfl (by decide)⟩,
    ⟨(live { plane with tiles := [(67, ⟨[], 0, 3, 5, true, 0, [⟨1, 2⟩], [⟨true, 0x3FFF, 7⟩, ⟨false, 4, 8⟩]⟩)] }), eA, _, _,
      4096, rfl, meets_of rfl (by decide), .inl rfl⟩,
    ⟨(live { plane with tiles := [(67, ⟨[], 0, 3, 5, true, 0, [⟨1, 2⟩], [⟨true, 0x3FFF, 7⟩, ⟨false, 4, 8⟩]⟩)] }), eA, _, _, 66,
      _, rfl, meets_of rfl (by decide), by decide, by decide, by decide, rfl, by decide, by decide⟩,
    ⟨(live { plane with tiles := [(67, ⟨[], 0, 3, 5, true, 0, [⟨1, 2⟩], [⟨true, 0x3FFF, 7⟩, ⟨false, 4, 8⟩]⟩)] }), eA, _, _, 67,
      _, _, rfl, meets_of rfl (by decide), by decide, by decide, by decide, rfl, by decide, rfl⟩,
    ⟨(let s := live { plane with tiles := [(67, ⟨[], 0, 3, 5, true, 0, [⟨1, 2⟩], [⟨true, 0x3FFF, 7⟩, ⟨false, 4, 8⟩]⟩)] }; { s with hlt := { s.hlt with quads := wr Hlt.reset.quads 3 ⟨.migrating, some 67, some ⟨66, .fault, 1, 5, none, none⟩, none⟩ } }),
      eA, _, _, 67, rfl, meets_of rfl (by decide), by and_intros <;> decide⟩,
    ⟨(let s := live { plane with tiles := [(67, ⟨[], 0, 3, 5, true, 0, [⟨1, 2⟩], [⟨true, 0x3FFF, 7⟩, ⟨false, 4, 8⟩]⟩)] }; { s with hlt := { s.hlt with quads := wr Hlt.reset.quads 3 ⟨.migrating, some 67, some ⟨66, .fault, 1, 5, none, none⟩, none⟩ } }),
      ⟨.A, 4, 7, 0, 0, false⟩, _, _, 67, rfl, meets_of rfl (by decide), by and_intros <;> decide⟩,
    ⟨(let s := live { plane with tiles := [(67, ⟨[], 0, 3, 5, true, 0, [⟨1, 2⟩], [⟨true, 0x3FFF, 7⟩, ⟨false, 4, 8⟩]⟩)] }; { s with hlt := { s.hlt with held := [⟨9, 67, 2⟩] } }),
      eA, _, _, 9, _, rfl, meets_of rfl (by decide), rfl⟩,
    ⟨(live { plane with tiles := [(67, ⟨[], 0, 3, 5, true, 0, [⟨1, 2⟩], [⟨true, 0x3FFF, 7⟩, ⟨false, 4, 8⟩]⟩)] }), eA, _, _, 9,
      rfl, meets_of rfl (by decide), by decide⟩,
    ⟨(let s := live { plane with tiles := [(67, ⟨[], 0, 3, 5, true, 0, [⟨1, 2⟩], [⟨true, 0x3FFF, 7⟩, ⟨false, 4, 8⟩]⟩)] }; { s with hlt := { s.hlt with held := [⟨9, 67, 0⟩] } }),
      eA, _, _, 9, ⟨9, 67, 0⟩, rfl, meets_of rfl (by decide), by decide, by decide, by decide,
      of_getD _ (fun x : Quad => x.mig = none ∧ x.test = none) (by decide) (by decide)⟩,
    ⟨(live { plane with tiles := [(67, ⟨[], 0, 3, 5, true, 0, [⟨1, 2⟩], [⟨true, 0x3FFF, 7⟩, ⟨false, 4, 8⟩]⟩)] }), eA, _, _, 9,
      rfl, meets_of rfl (by decide), by decide,
      of_getD _ (fun x : Quad => x.mig = none ∧ x.test = none) (by decide) (by decide)⟩,
    ⟨(live { plane with tiles := [(67, ⟨[], 0, 3, 5, true, 0, [⟨1, 2⟩], [⟨true, 0x3FFF, 7⟩, ⟨false, 4, 8⟩]⟩)] }), eA, _, _, 67,
      _, _, rfl, meets_of rfl (by decide), by decide, by decide, by decide, rfl, rfl, by decide⟩,
    ⟨(let s := live { plane with tiles := [(67, ⟨[], 0, 3, 5, true, 0, [⟨1, 2⟩], [⟨true, 0x3FFF, 7⟩, ⟨false, 4, 8⟩]⟩)] }; { s with hlt := { s.hlt with quads := wr Hlt.reset.quads 3 ⟨.migrating, some 67, some ⟨66, .fault, 1, 5, none, none⟩, none⟩ } }),
      eA, _, _, 67, _, _, rfl, meets_of rfl (by decide), by decide, by decide, by decide, rfl, rfl, by decide⟩,
    ⟨(live { plane with tiles := [(67, ⟨[], 0, 3, 5, true, 0, [⟨1, 2⟩], [⟨true, 0x3FFF, 7⟩, ⟨false, 4, 8⟩]⟩)] }), eA, _, _, 66,
      rfl, meets_of rfl (by decide), by and_intros <;> decide⟩,
    ⟨(amp 31 { Chan.reset with st := .held }), eA, _, _, rfl, meets_of rfl (by decide), by unfold State.quiet; decide⟩,
    ⟨(amp 31 { Chan.reset with st := .run, ssFrom := some 900, gain := 100 }), eA, _, _, 31, rfl, meets_of rfl (by decide),
      by decide, by decide⟩,
    ⟨(let s := live { plane with tiles := [(67, ⟨[], 0, 3, 5, true, 0, [⟨1, 2⟩], [⟨true, 0x3FFF, 7⟩, ⟨false, 4, 8⟩]⟩)] }; { s with hlt := { s.hlt with maint := true } }),
      eA, _, _, rfl, meets_of rfl (by decide), by decide⟩,
    ⟨(live { plane with tiles := [(67, ⟨[], 0, 3, 5, true, 0, [⟨1, 2⟩], [⟨true, 0x3FFF, 7⟩, ⟨false, 4, 8⟩]⟩)] }), eA, _, _, rfl,
      meets_of rfl (by decide), by decide⟩,
    ⟨(let s := live { plane with tiles := [(67, ⟨[], 0, 3, 5, true, 0, [⟨1, 2⟩], [⟨true, 0x3FFF, 7⟩, ⟨false, 4, 8⟩]⟩)] }; { s with hlt := { s.hlt with maint := true } }),
      eA, _, _, 6, rfl, meets_of rfl (by decide), by and_intros <;> decide⟩,
    ⟨(let s := live { plane with tiles := [(67, ⟨[], 0, 3, 5, true, 0, [⟨1, 2⟩], [⟨true, 0x3FFF, 7⟩, ⟨false, 4, 8⟩]⟩)] }; { s with hlt := { s.hlt with maint := true } }),
      eA, _, _, 7, rfl, meets_of rfl (by decide), by decide, by decide, by decide, by decide,
      of_getD _ (fun x : Quad => x.mig = none ∧ x.test = none) (by decide) (by decide)⟩,
    ⟨(live { plane with tiles := [(67, ⟨[], 0, 3, 5, true, 0, [⟨1, 2⟩], [⟨true, 0x3FFF, 7⟩, ⟨false, 4, 8⟩]⟩)] }), eA, _, _, 7,
      rfl, meets_of rfl (by decide), by decide, by decide⟩,
    ⟨(live { plane with tiles := [(67, ⟨[], 0, 3, 5, true, 0, [⟨1, 2⟩], [⟨true, 0x3FFF, 7⟩, ⟨false, 4, 8⟩]⟩)] }), eA, _, _,
      86400, rfl, meets_of rfl (by decide), .inr (by decide)⟩,
    ⟨(live { plane with tiles := [(67, ⟨[], 0, 3, 5, true, 0, [⟨1, 2⟩], [⟨true, 0x3FFF, 7⟩, ⟨false, 4, 8⟩]⟩)] }), eA, _, _, 10,
      rfl, meets_of rfl (by decide), ⟨by decide, by decide⟩, .inr (by decide)⟩⟩

theorem witness_health_events :
    (∃ (s : State) (q : Nat) (x : Quad) (m : _), q < 4 ∧ s.quad q = x ∧ x.mig = some m ∧ m.phase = 1 ∧
      m.startB + 8 ≤ s.per.boundaries) ∧
    (∃ (s : State) (q : Nat) (x : Quad) (m : _), q < 4 ∧ s.quad q = x ∧ x.mig = some m ∧ m.phase = 1 ∧
      s.per.boundaries < m.startB + 8) ∧
    (∃ (s : State) (q : Nat) (x : Quad) (m : _), q < 4 ∧ s.quad q = x ∧ x.mig = some m ∧ m.phase = 2) ∧
    (∃ (s : State) (q : Nat) (x : Quad), q < 4 ∧ s.quad q = x ∧ x.mig = none) ∧
    (∃ (s : State) (q : Nat) (x : Quad), q < 4 ∧ s.quad q = x ∧ x.mig = none) ∧
    (∃ (s : State) (q : Nat) (x : Quad) (p : CPort) (f : Flight) (k : _) (corr : _) (itime : _), q < 4 ∧ s.quad q = x ∧
      s.portsCalm ∧ s.canAnswer p f ∧ s.hlt.held = [] ∧ x.test = some ⟨k, some (p, f.handle), none⟩ ∧ corr ≤ 4 ∧
      100 * itime ≤ 115 * s.testItime q) ∧
    (∃ (s : State) (q : Nat) (x : Quad) (p : CPort) (f : Flight) (k : _), q < 4 ∧ s.quad q = x ∧ s.portsCalm ∧ s.canAnswer p f ∧
      s.hlt.held = [] ∧ x.test = some ⟨k, some (p, f.handle), none⟩) ∧
    (∃ (s : State) (q : Nat) (x : Quad), q < 4 ∧ s.quad q = x) ∧
    (∃ (s : State) (q : Nat) (x : Quad) (temps : Vector Int 16) (tj : Int), q < 4 ∧ s.quad q = x ∧
      tj = Mon.tileTj { s.mon with temps := temps } ∧ (∀ i : Fin 16, temps.get i ≤ 2000)) ∧
    (∃ (s : State) (q : Nat) (x : Quad), q < 4 ∧ s.quad q = x ∧ s.pwr.cpRunning = false) ∧
    (∃ (s : State) (q : Nat) (x : Quad), q < 4 ∧ s.quad q = x ∧ s.pwr.cpRunning = true ∧ s.hlt.samples.length < 29 ∧
      s.maxItime (List.range 68) = none) ∧
    (∃ (s : State) (q : Nat) (x : Quad) (v : _), q < 4 ∧ s.quad q = x ∧ s.pwr.cpRunning = true ∧ s.hlt.samples.length < 29 ∧
      s.maxItime (List.range 68) = some v ∧ s.hlt.fresh = []) ∧
    (∃ (s : State) (q : Nat) (x : Quad), q < 4 ∧ s.quad q = x ∧ s.pwr.cpRunning = true ∧ 29 ≤ s.hlt.samples.length ∧
      s.hlt.samples.length < 4096 ∧ (∃ y ∈ s.hlt.samples, 500 ≤ y.2)) ∧
    (∃ (s : State) (q : Nat) (x : Quad), q < 4 ∧ s.quad q = x ∧ s.portsCalm ∧ s.hlt.full = none) ∧
    (∃ (s : State) (q : Nat) (x : Quad) (p : CPort) (f : Flight), q < 4 ∧ s.quad q = x ∧ s.portsCalm ∧ s.canAnswer p f ∧
      s.hlt.full = some ⟨6, p, f.handle⟩ ∧ s.pl.live = none) ∧
    (∃ (s : State) (q : Nat) (x : Quad) (p : CPort) (f : Flight), q < 4 ∧ s.quad q = x ∧ s.portsCalm ∧ s.canAnswer p f ∧
      s.hlt.full = some ⟨1, p, f.handle⟩ ∧ s.pl.live = none) :=
  ⟨
    ⟨(let s := up; { s with hlt := { s.hlt with quads := wr s.hlt.quads 3 ⟨.migrating, some 67, some ⟨66, .fault, 1, 992, none, none⟩, none⟩ } }),
      3, _, _, by decide, rfl, rfl, by decide, by decide⟩,
    ⟨(let s := up; { s with hlt := { s.hlt with quads := wr s.hlt.quads 3 ⟨.migrating, some 67, some ⟨66, .fault, 1, 993, none, none⟩, none⟩ } }),
      3, _, _, by decide, rfl, rfl, by decide, by decide⟩,
    ⟨(let s := up; { s with hlt := { s.hlt with quads := wr s.hlt.quads 3 ⟨.migrating, some 67, some ⟨66, .fault, 2, 992, none, none⟩, none⟩ } }),
      3, _, _, by decide, rfl, rfl, by decide⟩,
    ⟨up, 3, _, by decide, rfl, by decide⟩,
    ⟨up, 3, _, by decide, rfl, by decide⟩,
    ⟨(let s := up.setPort .A { openPort with flights := [flightOf (.selftestTile eA 66)] }; { s with hlt := { s.hlt with quads := wr s.hlt.quads 3 ⟨.testing, some 66, none, some ⟨66, some (.A, 7), none⟩⟩ } }),
      3, _, .A, flightOf (.selftestTile eA 66), 66, 4, 0, by decide, rfl, calm_of (by decide), canAnswer_of (by decide),
      by and_intros <;> decide⟩,
    ⟨(let s := up.setPort .A { openPort with flights := [flightOf (.selftestTile eA 66)] }; { s with hlt := { s.hlt with quads := wr s.hlt.quads 3 ⟨.testing, some 66, none, some ⟨66, some (.A, 7), none⟩⟩ } }),
      3, _, .A, flightOf (.selftestTile eA 66), 66, by decide, rfl, calm_of (by decide), canAnswer_of (by decide), by decide,
      by decide⟩,
    ⟨up, 3, _, by decide, rfl⟩,
    ⟨up, 3, _, Vector.replicate 16 2000, _, by decide, rfl, rfl, by decide⟩,
    ⟨State.reset, 3, _, by decide, rfl, by decide⟩,
    ⟨up, 3, _, by decide, rfl, by and_intros <;> decide⟩,
    ⟨(let s := (live { plane with tiles := [(67, ⟨[], 0, 3, 5, true, 0, [⟨1, 2⟩], [⟨true, 0x3FFF, 7⟩, ⟨false, 4, 8⟩]⟩)] }).setTile 67 { Tile.reset with run := .parked, slk := { Tile.reset.slk with itimePs := 900 } }; { s with pwr := s.pwr }),
      3, _, 900, by decide, rfl, by and_intros <;> decide⟩,
    ⟨(let s := up; { s with hlt := { s.hlt with samples := List.replicate 29 (5, 500) } }), 3, _, by decide +kernel,
      by exact rfl, by and_intros <;> decide +kernel⟩,
    ⟨up, 3, _, by decide, rfl, calm_of (by decide), by decide⟩,
    ⟨(let s := up.setPort .A { openPort with flights := [flightOf (.selftestFull eA 6)] }; { s with hlt := { s.hlt with maint := true, full := some ⟨6, .A, 7⟩ } }),
      3, _, .A, flightOf (.selftestFull eA 6), by decide, rfl, calm_of (by decide), canAnswer_of (by decide), by decide,
      by decide⟩,
    ⟨(let s := up.setPort .A { openPort with flights := [flightOf (.selftestFull eA 1)] }; { s with hlt := { s.hlt with maint := true, full := some ⟨1, .A, 7⟩ } }),
      3, _, .A, flightOf (.selftestFull eA 1), by decide, rfl, calm_of (by decide), canAnswer_of (by decide), by decide,
      by decide⟩⟩

theorem witness_power_commands :
    (∃ (s : State) (e : Env) (c : CmdInfo), s.meets (.softReset e) c ∧ (∀ q, (s.port q).flights = [])) ∧
    (∃ (s : State) (e : Env) (c : CmdInfo), s.meets (.chipReset e) c ∧ e.port = .D ∧ (∀ q, (s.port q).flights = [])) ∧
    (∃ (s : State) (e : Env) (c : CmdInfo) (b : _), s.meets (.engineRestart e) c ∧ s.pl.st ≠ .armed ∧ s.pl.st ≠ .locked ∧
      s.pwr.engRestart = none ∧ b = s.per.boundaries + 2) ∧
    (∃ (s : State) (e : Env) (c : CmdInfo), s.meets (.engineRestart e) c ∧ (s.pl.st = .armed ∨ s.pl.st = .locked)) ∧
    (∃ (s : State) (e : Env) (c : CmdInfo) (d : _), s.meets (.devDomainSet e (2 ^ d) 0 false) c ∧ 3 ≤ d ∧ d < 14 ∧
      (∀ j, rd s.pwr.dom j ≠ .rampOn ∧ rd s.pwr.dom j ≠ .rampOff) ∧ s.pwr.domCmds = [] ∧ rd s.pwr.dom d = .off) ∧
    (∃ (s : State) (e : Env) (c : CmdInfo) (d : _), s.meets (.devDomainSet e 0 (2 ^ d) false) c ∧ 6 ≤ d ∧ d < 10 ∧
      (∀ j, rd s.pwr.dom j ≠ .rampOn ∧ rd s.pwr.dom j ≠ .rampOff) ∧ s.pwr.domCmds = [] ∧ rd s.pwr.dom d = .on ∧
      s.pl.live = none ∧ s.pl.st = .empty ∧ (s.quad (d - 6)).mig = none ∧ (s.quad (d - 6)).test = none ∧ s.flt.conds = [] ∧
      (∀ i, i < 16 → (s.ep i).isOpen = false)) ∧
    (∃ (s : State) (e : Env) (c : CmdInfo) (on : _) (off : _) (p : _), s.meets (.devDomainSet e on off p) c ∧ on < 2 ^ 14 ∧
      off < 2 ^ 14 ∧ on &&& off = 0 ∧ (on ||| off) % 8 ≠ 0) ∧
    (∃ (s : State) (e : Env) (c : CmdInfo) (d : _), s.meets (.devDomainSet e 0 (2 ^ d) false) c ∧ 3 ≤ d ∧ d < 14 ∧
      s.domInUse d = true) ∧
    (∃ (s : State) (e : Env) (c : CmdInfo), s.meets (.devPowerStatus e false) c) ∧
    (∃ (s : State) (e : Env) (c : CmdInfo), s.meets (.devPowerStatus e true) c) :=
  ⟨
    ⟨up, eA, _, meets_of rfl (by decide), by intro q; cases q <;> rfl⟩,
    ⟨(onD 0x0910 up), eD, _, meets_of rfl (by decide), by decide, by intro q; cases q <;> rfl⟩,
    ⟨up, eA, _, _, meets_of rfl (by decide), by decide, by decide, by decide, rfl⟩,
    ⟨{ up with pl := { Planes.reset with shadow := some plane, st := .locked } }, eA, _, meets_of rfl (by decide),
      .inr (by decide)⟩,
    ⟨(onD 0x0911 (let s := up; { s with pwr := { s.pwr with dom := wr s.pwr.dom 13 .off } })), eD, _, 13,
      meets_of rfl (by decide), by decide, by decide,
      of_rd _ (fun x : DomSt => x ≠ .rampOn ∧ x ≠ .rampOff) (by decide) (by decide), by decide, by decide⟩,
    ⟨up, eA, _, 9, meets_of rfl (by decide), by decide, by decide,
      of_rd _ (fun x : DomSt => x ≠ .rampOn ∧ x ≠ .rampOff) (by decide) (by decide), by and_intros <;> decide⟩,
    ⟨up, eA, _, 8, 1, true, meets_of rfl (by decide), by and_intros <;> decide⟩,
    ⟨live { plane with saports := [⟨7, 0, false, 32, 2, 2, 0, 2⟩] }, eA, _, 13, meets_of rfl (by decide),
      by and_intros <;> decide⟩,
    ⟨(onD 0x0912 up), eD, _, meets_of rfl (by decide)⟩,
    ⟨(onD 0x0912 up), eD, _, meets_of rfl (by decide)⟩⟩

theorem witness_power_events :
    (∃ (s : State) (tm : Nat) (now : Nat) (d : _) (p : CPort) (f : Flight), now = max s.now tm ∧ s.portsCalm ∧ d < 14 ∧
      (d ≠ 12 ∨ s.pst.stops = []) ∧ rd s.pwr.dom d = .rampOn ∧ s.pwr.domCmds = [⟨some (p, f.handle), false, [(d, true)]⟩] ∧
      (∀ j, j ≠ d → rd s.pwr.dom j = .on ∨ rd s.pwr.dom j = .off) ∧ s.canAnswer p f) ∧
    (∃ (s : State) (tm : Nat) (now : Nat) (d : _) (p : CPort) (f : Flight), now = max s.now tm ∧ s.portsCalm ∧ d < 14 ∧
      rd s.pwr.dom d = .rampOn ∧ s.pwr.domCmds = [⟨some (p, f.handle), false, [(d, true)]⟩] ∧
      (∀ j, j ≠ d → rd s.pwr.dom j = .on ∨ rd s.pwr.dom j = .off) ∧ s.canAnswer p f) ∧
    (∃ (s : State) (tm : Nat) (now : Nat) (d : _), now = max s.now tm ∧ s.portsCalm ∧ d < 14 ∧ rd s.pwr.dom d = .rampOff ∧
      s.pwr.domCmds = []) ∧
    (∃ (s : State) (tm : Nat) (now : Nat) (d : _), now = max s.now tm ∧ s.portsCalm ∧
      (rd s.pwr.dom d = .on ∨ rd s.pwr.dom d = .off)) ∧
    (∃ (s : State) (tm : Nat) (now : Nat) (d : _), now = max s.now tm ∧ s.portsCalm ∧
      (rd s.pwr.dom d = .on ∨ rd s.pwr.dom d = .off)) ∧
    (∃ (s : State) (tm : Nat) (now : Nat) (d : _), now = max s.now tm ∧ s.portsCalm ∧
      (rd s.pwr.dom d = .on ∨ rd s.pwr.dom d = .off)) ∧
    (∃ (s : State) (tm : Nat) (now : Nat) (rail : Nat) (v : Nat), now = max s.now tm ∧ rail ≤ 11 ∧
      v < (railTable.getD rail (0, 0)).2 ∧ (rail ≠ 7 ∨ s.avs.st = .off)) ∧
    (∃ (s : State) (tm : Nat) (now : Nat), now = max s.now tm ∧ s.avs.st ≠ .off) ∧
    (∃ (s : State) (tm : Nat) (now : Nat), now = max s.now tm) ∧
    (∃ (s : State) (tm : Nat) (now : Nat), now = max s.now tm ∧ s.pwr.resetLow = true ∧ s.pwr.released = false ∧
      s.pwr.oscOk = true) ∧
    (∃ (s : State) (tm : Nat) (now : Nat), now = max s.now tm ∧ s.pwr.resetLow = true ∧ s.pwr.oscOk = false) ∧
    (∃ (s : State) (tm : Nat) (now : Nat), now = max s.now tm ∧ s.pwr.resetLow = false) ∧
    (∃ (s : State) (tm : Nat) (now : Nat) (freq : _), now = max s.now tm ∧ freq ≤ 3 ∧ s.pwr.resetLow = false ∧
      s.pwr.released = false) ∧
    (∃ (s : State) (tm : Nat) (now : Nat) (freq : _), now = max s.now tm ∧ freq ≤ 3 ∧ s.pwr.resetLow = true) ∧
    (∃ (s : State) (tm : Nat) (now : Nat), now = max s.now tm ∧ s.pwr.oscOk = true) ∧
    (∃ (s : State) (tm : Nat) (now : Nat), now = max s.now tm ∧ s.pwr.oscOk = false) :=
  ⟨
    ⟨domIs 13 .rampOn (.devDomainSet eD 0x2000 0 false) [⟨some (.A, 7), false, [(13, true)]⟩], 5000000003, _, 13, .A,
      flightOf (.devDomainSet eD 0x2000 0 false), rfl, calm_of (by decide), by decide, .inl (by decide), by decide, by decide,
      of_rdI _ (fun j (x : DomSt) => j ≠ 13 → x = .on ∨ x = .off) (by decide) (fun _ _ => .inr rfl), canAnswer_of (by decide)⟩,
    ⟨domIs 13 .rampOn (.devDomainSet eD 0x2000 0 false) [⟨some (.A, 7), false, [(13, true)]⟩], 5000000003, _, 13, .A,
      flightOf (.devDomainSet eD 0x2000 0 false), rfl, calm_of (by decide), by decide, by decide, by decide,
      of_rdI _ (fun j (x : DomSt) => j ≠ 13 → x = .on ∨ x = .off) (by decide) (fun _ _ => .inr rfl), canAnswer_of (by decide)⟩,
    ⟨domIs 13 .rampOff (.devDomainSet eD 0x2000 0 false) [], 5000000003, _, 13, rfl, calm_of (by decide),
      by and_intros <;> decide⟩,
    ⟨up, 5000000003, _, 13, rfl, calm_of (by decide), .inl (by decide)⟩,
    ⟨up, 5000000003, _, 13, rfl, calm_of (by decide), .inl (by decide)⟩,
    ⟨up, 5000000003, _, 13, rfl, calm_of (by decide), .inl (by decide)⟩,
    ⟨up, 5000000003, _, 11, 4499, rfl, by decide, by decide, .inl (by decide)⟩,
    ⟨{ up with avs := { Avs.reset with st := .failed } }, 5000000003, _, rfl, by decide⟩,
    ⟨up, 5000000003, _, rfl⟩,
    ⟨{ State.reset with pwr := { Pwr.reset with resetLow := true, oscOk := true } }, 5000000003, _, rfl,
      by and_intros <;> decide⟩,
    ⟨{ State.reset with pwr := { Pwr.reset with resetLow := true } }, 5000000003, _, rfl, by decide, by decide⟩,
    ⟨up, 5000000003, _, rfl, by decide⟩,
    ⟨State.reset, 5000000003, _, 3, rfl, by and_intros <;> decide⟩,
    ⟨{ State.reset with pwr := { Pwr.reset with resetLow := true } }, 5000000003, _, 3, rfl, by decide, by decide⟩,
    ⟨up, 5000000003, _, rfl, by decide⟩,
    ⟨State.reset, 5000000003, _, rfl, by decide⟩⟩

theorem witness_step_keeps :
    (∃ (s : State) (t : State), step s = .next t) :=
  ⟨{ up with pending := [.windowEnd] }, up, rfl⟩

/-! WELL-FORMEDNESS. For each check the last value it admits and the first it refuses. -/

theorem test_wf_lane : (Instr.pcsLockHeld 7 0).wf = true ∧ (Instr.pcsLockHeld 8 0).wf = false := by decide
theorem test_wf_element : (Instr.laneComplete 48 0).wf = true ∧ (Instr.laneComplete 49 0).wf = false := by decide
theorem test_wf_tile : (Instr.park 67).wf = true ∧ (Instr.park 68).wf = false := by decide
theorem test_wf_tick : (Instr.tEnd 0 45351).wf = true ∧ (Instr.tEnd 0 45352).wf = false := by decide
theorem test_wf_group : (Instr.safeLockPoint 15).wf = true ∧ (Instr.safeLockPoint 16).wf = false := by decide
theorem test_wf_count : (Instr.xpointSet eA 0 0 1 0 (List.replicate 40 0)).wf = true ∧
    (Instr.xpointSet eA 0 0 1 0 (List.replicate 8 0)).wf = false ∧ (Instr.xpointSet eA 0 0 2 4096 (List.replicate 16 0)).wf = true ∧
    (Instr.xpointSet eA 0 0 2 4096 (List.replicate 15 0)).wf = false ∧
    (Instr.xpointSet { eA with readErr := true } 0 0 2 0 []).wf = true := by decide
theorem test_wf_queue : (Instr.cpFrameSend 7 7 [] .none none).wf = true ∧ (Instr.cpFrameSend 7 8 [] .none none).wf = false := by decide
theorem test_wf_channel : (Instr.softStartEnd 31).wf = true ∧ (Instr.softStartEnd 32).wf = false := by decide
theorem test_wf_rail : (Instr.railOutOfLimits 3 0 0).wf = true ∧ (Instr.railOutOfLimits 4 0 0).wf = false := by decide
theorem test_wf_converter : (Instr.converterSelfCheck 67 true 0).wf = true ∧ (Instr.converterSelfCheck 68 true 0).wf = false := by decide
theorem test_wf_episode : (Instr.recoveryStart 15 0).wf = true ∧ (Instr.recoveryStart 16 0).wf = false := by decide
theorem test_wf_serial_port : (Instr.saportFsTimeout 7).wf = true ∧ (Instr.saportFsTimeout 8).wf = false := by decide
theorem test_wf_quadrant : (Instr.migrationPass1End 3).wf = true ∧ (Instr.migrationPass1End 4).wf = false := by decide
theorem test_wf_domain : (Instr.domainRampOnDone 13 0).wf = true ∧ (Instr.domainRampOnDone 14 0).wf = false := by decide
theorem test_wf_straps : (Instr.powerOnReset 11 0 7 0).wf = true ∧ (Instr.powerOnReset 11 0 8 0).wf = false := by decide
theorem test_wf_osc_freq : (Instr.oscInDetected 3 0).wf = true ∧ (Instr.oscInDetected 4 0).wf = false := by decide
theorem test_wf_two_wire_address : (Instr.twStart 127 true 0).wf = true ∧ (Instr.twStart 128 true 0).wf = false := by decide
theorem test_wf_block : (Instr.accessUnlockExpiry .A 7 0).wf = true ∧ (Instr.accessUnlockExpiry .A 8 0).wf = false := by decide
theorem test_wf_offset : (Instr.registerWrite .A 0x3FFFFF 0 4 0).wf = true ∧ (Instr.registerWrite .A 0x400000 0 4 0).wf = false := by decide

/-! TILE WORDS. Words of the worked examples of 06, and one word per remaining group built from the field tables of R185 to
R205. -/

/-- LDIW LC, #8 at 0x0120 of the FIR example. -/
theorem test_word_ldiw : decodeOp 0xAE80000000080000 = some (.ldiw (some .lc) 8) := by decide
/-- MX0 and MY0 loaded at 0x0121: 129 and 128. -/
theorem test_word_ptrimm : decodeOp 0x0000C80081C80080 = some .nop ∧ decodeMove (xField 0x0000C80081C80080) = some (.ptrimm .mn 0 129) ∧
    decodeMove (yField 0x0000C80081C80080) = some (.ptrimm .mn 0 128) := by decide
/-- CLR A0 with two indirect loads at 0x0124. -/
theorem test_word_clr : decodeOp 0x80002C20002E2000 = some (.clr 0) ∧ decodeMove (xField 0x80002C20002E2000) = some (.ind false 6 0 1) ∧
    decodeMove (yField 0x80002C20002E2000) = some (.ind false 7 0 1) := by decide
/-- REP #64 at 0x0125. -/
theorem test_word_rep : decodeOp 0x103F000000000000 = some (.repImm 64) := by decide
/-- TAP A0, AX0 −1, AY0 −1 at 0x0126. -/
theorem test_word_tap : decodeOp 0x501E000000000000 = some (.tap 0 0 0 false 3 3) := by decide
/-- DBNZ 0x0124 at 0x0127. -/
theorem test_word_dbnz : decodeOp 0x0600000124000000 = some (.dbnz 0x124) := by decide
/-- The accumulator store at 0x0128: ext(A0, 0b01) to X[AX1], AX1 +1. -/
theorem test_word_accind : decodeMove (xField 0x000042C000000000) = some (.accind 0 1 1 2) := by decide
/-- s1 of the biquad example: DMAC, CLR 1, D0·D4 and D1·D5, with its two loads. -/
theorem test_word_dmac : decodeOp 0x220A226000284000 = some (.dmac false false false true 0 0 1 1) ∧
    decodeMove (xField 0x220A226000284000) = some (.ind false 1 0 3) ∧
    decodeMove (yField 0x220A226000284000) = some (.ind false 4 0 2) := by decide
/-- Group 0x4: MSU A2, D1, D7 is 0100 10 10 001 111 00. -/
theorem test_word_msu : decodeOp (word16 0b0100101000111100) = some (.mul .msu 2 1 7) := by decide
/-- Group 0x6: NEG D1, D3 is 0110 1001 001 011 00. -/
theorem test_word_neg : decodeOp (word16 0b0110100100101100) = some (.alu .neg 1 3) := by decide
/-- Group 0x7: ASR D2 by 7 is 0111 01 0 010 0 00111; by D7 with SRC 1 it is 0111 01 1 010 000 111. -/
theorem test_word_asr : decodeOp (word16 0b0111010010000111) = some (.shift .asr (.imm 7) 2) ∧
    decodeOp (word16 0b0111011010000111) = some (.shift .asr (.reg 7) 2) := by decide
/-- Group 0x8: EXT A3, D5, E 0b01 is 1000 0111 11 101 01 0; ASHA A1 by −1 is 1000 0110 01 111111. -/
theorem test_word_ext_asha : decodeOp (word16 0b1000011111101010) = some (.ext 3 5 1) ∧
    decodeOp (word16 0b1000011001111111) = some (.asha 1 (-1)) := by decide
/-- Group 0x9: MOVC LC from D4 is 1001 1 100 11010 000. -/
theorem test_word_movc : decodeOp (word16 0b1001110011010000) = some (.movc true 4 (some .lc)) := by decide
/-- Group 0xB: DITH D6 with J 0xA5 is 1011 0 110 10100101. -/
theorem test_word_dith : decodeOp (word16 0xB6A5) = some (.dith 6 0xA5) := by decide
/-- Undefined codes: groups 0xC to 0xF, ALU 0xF, accumulator 0xA. -/
theorem test_word_undefined : decodeOp (word16 0xC000) = none ∧ decodeOp (word16 0xFFFF) = none ∧ decodeOp (word16 0x6F00) = none ∧
    decodeOp (word16 0x8A00) = none := by decide

/-! SINGLE STEPS. -/

/-- What a field of the next state is; none where there is no next state. -/
def after {α : Type} (i : Instr) (s : State) (f : State → α) : Option α :=
  match Machine.step { s with pending := [i] } with
  | .next t => some (f t)
  | _ => none

/-- The example of R199: 0.5 in S2.30 times 0.5 in S8.24 extracts to 0x0040_0000. -/
theorem test_ext_example : (extExact (2 ^ 52) (extPoint 1) 0) = 0x00400000 := by decide
/-- NEG of 0x8000_0000 gives 0x7FFF_FFFF with V set (R201). -/
theorem test_neg_clamps : after (.tNeg 5 0) (onTile false (word16 0b0110100100101000) (ctx5 false))
    (fun t => ((t.tile 5).fg.d[1], (t.tile 5).fg.sr.getLsbD 2)) = some (0x7FFFFFFF, true) := by decide
/-- ADD wraps: 0x7FFF_FFFF + 1 is 0x8000_0000 (R201). -/
theorem test_add_wraps : after (.tAdd 5 0) (onTile false (word16 0b0110000100000100) (ctx5 false)) (fun t => (t.tile 5).fg.d[0]) =
    some 0x80000000 := by decide
/-- ADDS saturates: 0x7FFF_FFFF + 1 is 0x7FFF_FFFF (R201). -/
theorem test_adds_saturates : after (.tAdds 5 0) (onTile false (word16 0b0110001100000100) (ctx5 false))
    (fun t => (t.tile 5).fg.d[0]) = some 0x7FFFFFFF := by decide
/-- SUB with itself as its source is 0 (R201). -/
theorem test_sub_self : after (.tSub 5 0) (onTile false (word16 0b0110001001001000) (ctx5 false)) (fun t => (t.tile 5).fg.d[2]) =
    some 0 := by decide
/-- ASR by a register amount of 40 gives the sign (R202). -/
theorem test_asr_over : after (.tAsr 5 0) (onTile false (word16 0b0111011010000111) (ctx5 false)) (fun t => (t.tile 5).fg.d[2]) =
    some 0xFFFFFFFF := by decide
/-- LSL by 40 gives 0 (R202). -/
theorem test_lsl_over : after (.tLsl 5 0) (onTile false (word16 0b0111001011000111) (ctx5 false)) (fun t => (t.tile 5).fg.d[3]) =
    some 0 := by decide
/-- ABSA of −1 is 1 (R200). -/
theorem test_absa : after (.tAbsa 5 0) (onTile false (word16 0b1000010100010000) (ctx5 false)) (fun t => (t.tile 5).fg.a[0]) =
    some 1 := by decide
/-- A row that is not the instruction at PC changes nothing. -/
theorem test_other_row : after (.tAdd 5 0) (onTile false (word16 0b0110001001001000) (ctx5 false)) (fun t => (t.tile 5).fg.pc) =
    some 0 := by decide
/-- CMD_ECHO answers with its data: ACCEPT and COMPLETE (15 R483). -/
theorem test_echo : after (.cmdEcho eA [1, 2, 3]) up (fun t => t.ports.a.ring.map (fun x => (x.opcode, x.status))) =
    some [(0x0907, 0), (0x0907, 0)] := by decide
/-- A descriptor of a group that the port may not use is DENIED (15 R468). -/
theorem test_denied : after (.structCopy eD) ((onD 0x0103 up).setPort .D { openPort with groups := 0x02E0 })
    (fun t => t.ports.d.ring.map (fun x => x.status)) = some [0, 8] := by decide +kernel
/-- A boundary advances MEDIA_TIME by one (01, the cycle table). -/
theorem test_media_time : after .sampleBoundary up (fun t => t.per.mediaTime) = some 77001 := by decide +kernel
/-- A write of the key sequence unlocks the block for that requester (21 R610). -/
theorem test_unlock : after (.accessKeyWrite .B 1 0xE55A 5000000000) { up with ports := { up.ports with
      access := wr up.ports.access 1 { Access.reset with lockB := .half 5000000000 } } }
    (fun t => ((t.access .ts).lockB, (t.access .ts).lockA)) = some (.unlocked 5000000000, .locked) := by decide
/-- The first byte read of the two-wire map's ID register is its low byte (16 R498). -/
theorem test_two_wire_id : after (.twByteRead true 5000000000) { up with tw := { Tw.reset with phase := .read } } (fun t => t.tw.out) =
    some 0x01 := by decide

end Sys2Proof.Tests
end

section
/-! SUPPORT. The clamp and overflow arithmetic of tile instructions, as the statements write it (05 R156, 06 R199 to R202). -/
namespace Sys2Proof.Machine

theorem clampS_eq_sat (w : Nat) (v : Int) : clampS w v = sat w v := by
  have hp : (0 : Int) < 2 ^ (w - 1) := by positivity
  unfold clampS sat
  split_ifs <;> omega

theorem clipsS_eq_decide_sat_ne (w : Nat) (v : Int) : clipsS w v = decide (sat w v ≠ v) := by
  have hp : (0 : Int) < 2 ^ (w - 1) := by positivity
  unfold clipsS sat
  rw [← Bool.decide_or]
  exact decide_eq_decide.mpr (by omega)

theorem clipsS_80 (v : Int) : clipsS 80 v = accClips v := clipsS_eq_decide_sat_ne 80 v

theorem satBV_80 (v : Int) : satBV 80 v = accOfInt v := by
  unfold satBV accOfInt
  rw [clampS_eq_sat]

theorem satBV_toInt {w : Nat} (hw : 0 < w) (v : Int) : (satBV w v).toInt = sat w v := by
  have hp : (0 : Int) < 2 ^ (w - 1) := by positivity
  unfold satBV
  rw [clampS_eq_sat]
  apply BitVec.toInt_ofInt_eq_self hw <;> unfold sat <;> omega

/-- A clamped word differs from the number exactly where the clamp changes it. -/
theorem clipsS_eq_decide_satBV_ne {w : Nat} (hw : 0 < w) (v : Int) : clipsS w v = decide ((satBV w v).toInt ≠ v) := by
  rw [satBV_toInt hw, clipsS_eq_decide_sat_ne]

theorem clipsS_eq_false {w : Nat} {v : Int} (hlo : -2 ^ (w - 1) ≤ v) (hhi : v < 2 ^ (w - 1)) : clipsS w v = false := by
  unfold clipsS
  simp only [Bool.or_eq_false_iff, decide_eq_false_iff_not]
  omega

/-- A wrapped number differs from the number exactly where a clamp would change it. -/
theorem clipsS_eq_decide_ofInt_ne {w : Nat} (hw : 0 < w) (v : Int) : clipsS w v = decide ((BitVec.ofInt w v).toInt ≠ v) := by
  unfold clipsS
  rw [← Bool.decide_or]
  refine decide_eq_decide.mpr ⟨fun h he => ?_, fun h => ?_⟩
  · have hlo := BitVec.le_toInt (BitVec.ofInt w v)
    have hhi := BitVec.toInt_lt (x := BitVec.ofInt w v)
    omega
  · by_contra hc
    exact h (BitVec.toInt_ofInt_eq_self hw (by omega) (by omega))

theorem clipsS_add (a b : DWord) : clipsS 32 (a.toInt + b.toInt) = decide ((a + b).toInt ≠ a.toInt + b.toInt) := by
  rw [clipsS_eq_decide_ofInt_ne (by decide), BitVec.toInt_ofInt, BitVec.toInt_add]

theorem clipsS_sub (a b : DWord) : clipsS 32 (a.toInt - b.toInt) = decide ((a - b).toInt ≠ a.toInt - b.toInt) := by
  rw [clipsS_eq_decide_ofInt_ne (by decide), BitVec.toInt_ofInt, BitVec.toInt_sub]

theorem abs_toInt_le (x : DWord) : |x.toInt| ≤ 2 ^ 31 :=
  abs_le.mpr ⟨BitVec.le_toInt x, le_of_lt (BitVec.toInt_lt (x := x))⟩

theorem abs_prod_le (x y : DWord) : |x.toInt * y.toInt| ≤ 2 ^ 62 :=
  calc |x.toInt * y.toInt| = |x.toInt| * |y.toInt| := abs_mul _ _
    _ ≤ 2 ^ 31 * 2 ^ 31 := mul_le_mul (abs_toInt_le x) (abs_toInt_le y) (abs_nonneg _) (by positivity)
    _ = 2 ^ 62 := by norm_num

theorem accClips_eq_false {v : Int} (h : |v| ≤ 2 ^ 78) : accClips v = false := by
  obtain ⟨hlo, hhi⟩ := abs_le.mp h
  rw [← clipsS_80]
  exact clipsS_eq_false (by omega) (by omega)

/-! Shifts (06 R202). -/

/-- Past 32 places every further place leaves a word that is not 0 outside 32 bits, on the same side. -/
theorem shiftLeft_min_cases (a : DWord) (n : Nat) :
    a.toInt * 2 ^ min n 32 = a.toInt * 2 ^ n ∨ (2 ^ 31 ≤ a.toInt * 2 ^ min n 32 ∧ 2 ^ 31 ≤ a.toInt * 2 ^ n) ∨
      (a.toInt * 2 ^ min n 32 < -2 ^ 31 ∧ a.toInt * 2 ^ n < -2 ^ 31) := by
  rcases Nat.le_total n 32 with hn | hn
  · exact Or.inl (by rw [Nat.min_eq_left hn])
  · have hp : (2 : Int) ^ 32 ≤ 2 ^ n := pow_le_pow_right₀ (by norm_num) hn
    rw [Nat.min_eq_right hn]
    rcases lt_trichotomy a.toInt 0 with ha | ha | ha
    · have := mul_le_mul_of_nonpos_left hp ha.le
      omega
    · simp [ha]
    · have := mul_le_mul_of_nonneg_left hp ha.le
      omega

theorem sat_shiftLeft_min (a : DWord) (n : Nat) : sat 32 (a.toInt * 2 ^ min n 32) = sat 32 (a.toInt * 2 ^ n) := by
  have h := shiftLeft_min_cases a n
  unfold sat
  omega

theorem clipsS_shiftLeft_min (a : DWord) (n : Nat) :
    clipsS 32 (a.toInt * 2 ^ min n 32) = decide (sat 32 (a.toInt * 2 ^ n) ≠ a.toInt * 2 ^ n) := by
  have h := shiftLeft_min_cases a n
  rw [clipsS_eq_decide_sat_ne]
  unfold sat
  exact decide_eq_decide.mpr (by omega)

/-- An arithmetic right shift divides toward minus infinity; from 32 places on only the sign is left. -/
theorem sshiftRight_min_toInt (a : DWord) (n : Nat) :
    (a.sshiftRight (min n 31)).toInt = if n < 32 then a.toInt / 2 ^ n else if a.msb then -1 else 0 := by
  rw [BitVec.toInt_sshiftRight, Int.shiftRight_eq_div_pow]
  split
  · rw [Nat.min_eq_left (by omega)]
    norm_cast
  · rw [Nat.min_eq_right (by omega)]
    have hlo := BitVec.le_toInt a
    have hhi := BitVec.toInt_lt (x := a)
    simp only [BitVec.msb_eq_toInt, decide_eq_true_eq]
    split <;> omega

/-! Extraction (06 R199). -/

theorem extShift_eq_extPoint (e : Fin 4) : extShift e = extPoint e := by
  revert e; decide

theorem srRnd_eq (sr : BitVec 32) : srRnd sr = sr.toNat / 4096 % 4 := by
  unfold srRnd
  rw [BitVec.extractLsb'_toNat, Nat.shiftRight_eq_div_pow]

/-- The low bits of a word are those of its signed value. -/
theorem toInt_emod_two_pow (a : Acc) {n : Nat} (hn : n ≤ 80) : a.toInt % 2 ^ n = ((a.toNat % 2 ^ n : Nat) : Int) := by
  obtain ⟨c, hc⟩ : (2 : Int) ^ n ∣ 2 ^ 80 := pow_dvd_pow 2 hn
  rw [BitVec.toInt_eq_toNat_cond, Int.natCast_emod, Nat.cast_pow, Nat.cast_pow, Nat.cast_two]
  split
  · rfl
  · rw [hc, Int.sub_mul_emod_self_left]

/-- The rounded quotient of the model is the exact extraction of the statements. -/
theorem extQuot_eq_extExact (a : Acc) (e : Fin 4) (rnd : Nat) : extQuot a e rnd = extExact a.toInt (extPoint e) rnd := by
  have hle : extPoint e ≤ 80 := by revert e; decide
  unfold extQuot extExact asr
  rw [toInt_emod_two_pow a hle, extShift_eq_extPoint]
  simp only [Bool.and_eq_true, Bool.or_eq_true, decide_eq_true_eq, beq_iff_eq, ite_or]
  norm_cast

end Sys2Proof.Machine
end

section
/-! SUPPORT. The decoder of tile words, group by group, in the fields that the statements read (06 R182 to R202). -/
namespace Sys2Proof.Machine

theorem toFin_eq_of_opBits {w : PWord} {lo n : Nat} {x : Fin (2 ^ n)} (h : opBits w lo n = x.val) (hn : lo + n ≤ 16) :
    ((w.extractLsb' 48 16).extractLsb' lo n).toFin = x := by
  apply Fin.ext
  rw [← h, opBits_eq w lo n hn, BitVec.val_toFin]

theorem getLsbD_eq_opBits (w : PWord) {lo : Nat} (h : lo < 16) :
    (w.extractLsb' 48 16).getLsbD lo = decide (opBits w lo 1 = 1) := by
  rw [opBits_eq w lo 1 h, BitVec.extractLsb'_toNat, Nat.shiftRight_eq_div_pow, BitVec.getLsbD, Nat.testBit_eq_decide_div_mod_eq]

/-- The group of a tile word selects the decoder of that group (06 R185). -/
theorem group_toNat_eq {w : PWord} {g : Nat} (h : opBits w 12 4 = g) :
    ((w.extractLsb' 48 16).extractLsb' 12 4).toNat = g := by
  rw [← opBits_eq w 12 4 (by decide), h]

theorem decodeOp_control {w : PWord} (h : opBits w 12 4 = 0) :
    decodeOp w = controlOf (opBits w 8 4) ((w.extractLsb' 48 16).extractLsb' 4 4).toFin (w.extractLsb' 24 14) := by
  unfold decodeOp
  simp only [group_toNat_eq h, ← opBits_eq w 8 4 (by decide)]

theorem decodeOp_mul {w : PWord} {i : Fin 4} {p q : Fin 8} (h : opBits w 12 4 = 4) (hi : opBits w 8 2 = i.val)
    (hp : opBits w 5 3 = p.val) (hq : opBits w 2 3 = q.val) :
    decodeOp w = some (.mul (mulOf (opBits w 10 2)) i p q) := by
  unfold decodeOp
  simp only [group_toNat_eq h, ← opBits_eq w 10 2 (by decide), toFin_eq_of_opBits hi (by decide),
    toFin_eq_of_opBits hp (by decide), toFin_eq_of_opBits hq (by decide)]

theorem decodeOp_alu {w : PWord} {dd ds : Fin 8} (h : opBits w 12 4 = 6) (hd : opBits w 5 3 = dd.val)
    (hs : opBits w 2 3 = ds.val) : decodeOp w = (aluOf (opBits w 8 4)).map (fun op => .alu op dd ds) := by
  unfold decodeOp
  simp only [group_toNat_eq h, ← opBits_eq w 8 4 (by decide), toFin_eq_of_opBits hd (by decide),
    toFin_eq_of_opBits hs (by decide)]

/-- The number of places of a shift, from the values that the instruction sees (06 R202). -/
def ShiftAmt.places (c : TCtx) : ShiftAmt → Nat
  | .imm n => n.val
  | .reg q => c.d[q].toNat

theorem decodeOp_shift {w : PWord} {dd q : Fin 8} (h : opBits w 12 4 = 7) (hd : opBits w 6 3 = dd.val)
    (hq : opBits w 0 3 = q.val) :
    ∃ amt : ShiftAmt, decodeOp w = some (.shift (shiftOf (opBits w 10 2)) amt dd) ∧
      ∀ c : TCtx, amt.places c = if opBits w 9 1 = 0 then opBits w 0 5 else c.d[q].toNat := by
  unfold decodeOp
  simp only [group_toNat_eq h, ← opBits_eq w 10 2 (by decide), toFin_eq_of_opBits hd (by decide),
    toFin_eq_of_opBits hq (by decide), getLsbD_eq_opBits w (show 9 < 16 by decide), decide_eq_true_eq]
  refine ⟨_, rfl, fun c => ?_⟩
  have hbit : opBits w 9 1 < 2 := Nat.mod_lt _ (by decide)
  by_cases hz : opBits w 9 1 = 0
  · rw [if_neg (by omega), if_pos hz, opBits_eq w 0 5 (by decide)]
    rfl
  · rw [if_pos (by omega), if_neg hz]
    rfl

theorem dmacOf_eq {w : PWord} {p q r u : Fin 4} (pair : Bool) (hp : opBits w 7 2 = p.val) (hq : opBits w 5 2 = q.val)
    (hr : opBits w 3 2 = r.val) (hu : opBits w 1 2 = u.val) :
    decodeOp.dmacOf pair (w.extractLsb' 48 16) = .dmac pair (decide (opBits w 11 1 = 1)) (decide (opBits w 10 1 = 1))
      (decide (opBits w 9 1 = 1)) p q r u := by
  unfold decodeOp.dmacOf
  simp only [getLsbD_eq_opBits w (show 11 < 16 by decide), getLsbD_eq_opBits w (show 10 < 16 by decide),
    getLsbD_eq_opBits w (show 9 < 16 by decide), toFin_eq_of_opBits hp (by decide), toFin_eq_of_opBits hq (by decide),
    toFin_eq_of_opBits hr (by decide), toFin_eq_of_opBits hu (by decide)]

/-- Groups 2 and 3 are DMAC on the two pairs of accumulators. -/
theorem decodeOp_dmac {w : PWord} (h : opBits w 13 3 = 1) :
    decodeOp w = some (decodeOp.dmacOf (decide (opBits w 12 1 = 1)) (w.extractLsb' 48 16)) := by
  have hgroup : opBits w 12 4 = opBits w 12 1 + 2 * opBits w 13 3 := by
    unfold opBits
    omega
  have hpair : opBits w 12 1 < 2 := Nat.mod_lt _ (by decide)
  unfold decodeOp
  obtain h0 | h1 : opBits w 12 1 = 0 ∨ opBits w 12 1 = 1 := by omega
  · simp only [group_toNat_eq (show opBits w 12 4 = 2 by omega), h0]
    rfl
  · simp only [group_toNat_eq (show opBits w 12 4 = 3 by omega), h1]
    rfl

theorem decodeOp_acc {w : PWord} (h : opBits w 12 4 = 8) : decodeOp w = accOf (opBits w 8 4) (w.extractLsb' 48 16) := by
  unfold decodeOp
  simp only [group_toNat_eq h, ← opBits_eq w 8 4 (by decide)]

/-- The shift amount of ASHA is a signed number of 6 bits (06 R200). -/
theorem ashaAmount_eq (w : PWord) : ((w.extractLsb' 48 16).extractLsb' 0 6).toInt =
    if opBits w 0 6 < 32 then (opBits w 0 6 : Int) else (opBits w 0 6 : Int) - 64 := by
  rw [BitVec.toInt_eq_toNat_cond, ← opBits_eq w 0 6 (by decide)]
  split <;> split <;> omega

end Sys2Proof.Machine
end

section
/-! SUPPORT. What a row of the data instructions leaves in the context of its task, from what its operation writes (05 R155,
R156, R163; 06 R206). -/
namespace Sys2Proof.Machine

/-! The pieces of an operation. -/

theorem TRun.putAcc_eq (r : TRun) (i : Fin 4) (v : Int) :
    r.putAcc i v = { r with
      c := { r.c with a := r.c.a.set i (accOfInt v) }
      sticky := r.sticky ||| (if accClips v then 0x10#32 <<< i.val else 0#32)
      satEv := r.satEv || accClips v } := by
  unfold TRun.putAcc
  rw [satBV_80, clipsS_80]
  cases accClips v <;> simp

theorem TRun.msat_eq (r : TRun) (clip : Bool) :
    r.msat clip = { r with
      sticky := r.sticky ||| (if clip then 0x100#32 else 0#32)
      satEv := r.satEv || clip } := by
  cases clip <;> simp [TRun.msat]

/-- A clamp of accumulator `i` marks bit 4 + i of the status word and no other (05 R155). -/
theorem getLsbD_satMark (i : Fin 4) (clip : Bool) {b : Nat} (hb : b < 32) :
    (if clip then 0x10#32 <<< i.val else 0#32).getLsbD b = (clip && decide (b = 4 + i.val)) := by
  cases clip
  · simp
  · revert b; revert i; decide

theorem satMark_keeps_flags (i : Fin 4) (clip : Bool) {b : Nat} (hb : b < 4) :
    (if clip then 0x10#32 <<< i.val else 0#32).getLsbD b = false := by
  rw [getLsbD_satMark i clip (by omega), decide_eq_false (by omega), Bool.and_false]

theorem getLsbD_msatMark (clip : Bool) {b : Nat} (hb : b < 32) :
    (if clip then 0x100#32 else 0#32).getLsbD b = (clip && decide (b = 8)) := by
  cases clip
  · simp
  · revert b; decide

/-! The moves of the word. -/

/-- The run of an instruction after its moves: data registers, accumulators and status word are those of the landed context,
and of the sticky bits only MSAT may be set. -/
structure State.AfterMoves (s : State) (k : Nat) (bg : Bool) (r : TRun) : Prop where
  t : r.t = s.tile k
  d : r.c.d = (s.landed k bg).d
  a : r.c.a = (s.landed k bg).a
  sr : r.c.sr = (s.landed k bg).sr
  uncorr : r.uncorr = false
  flow : r.flow = .next
  sticky : ∀ b, b < 32 → b ≠ 8 → r.sticky.getLsbD b = false

theorem State.afterMoves_of_moved {s : State} {k : Nat} {bg : Bool} {r : TRun} (h : ((s.tile k).started bg).Moved r) :
    s.AfterMoves k bg r where
  t := h.t
  d := h.d
  a := h.a
  sr := h.sr
  uncorr := h.uncorr
  flow := h.flow
  sticky := by
    intro b hb h8
    rcases h.sticky with ⟨h0, -⟩ | ⟨h0, -⟩ <;> rw [h0]
    · exact BitVec.getLsbD_zero
    · show (0#32 ||| 0x100#32).getLsbD b = false
      rw [BitVec.zero_or]
      simpa [h8] using getLsbD_msatMark true hb

/-! The effect of an operation, on its run and on the state. -/

/-- From `r` to `r'` an operation left these data registers and accumulators, put flags in, set sticky bits, and made the SAT
event pending where `ev` says so; it neither transferred nor read an uncorrectable error. -/
structure TRun.Wrote (r r' : TRun) (d : Vector DWord 8) (a : Vector Acc 4) (f : FlagSet) (mark : BitVec 32) (ev : Bool) :
    Prop where
  t : r'.t = r.t
  uncorr : r'.uncorr = r.uncorr
  flow : r'.flow = r.flow
  d : r'.c.d = d
  a : r'.c.a = a
  sr : r'.c.sr = f.apply r.c.sr
  sticky : r'.sticky = r.sticky ||| mark
  satEv : ev = true → r'.satEv = true

section
variable {s : State} {k : Nat} {bg : Bool} {r : TRun}

/-- A data register written; MSAT is marked where `m` says so. -/
theorem State.AfterMoves.wrote_data (hr : s.AfterMoves k bg r) (i : Fin 8) (v : DWord) (f : FlagSet) (m : Bool) :
    r.Wrote (((r.putD i v).flags f).msat m) ((s.landed k bg).d.set i v) (s.landed k bg).a f (if m then 0x100#32 else 0#32) m := by
  rw [TRun.msat_eq, ← hr.d, ← hr.a]
  exact ⟨rfl, rfl, rfl, rfl, rfl, rfl, rfl, fun h => by simp [h]⟩

theorem State.AfterMoves.wrote_flags (hr : s.AfterMoves k bg r) (f : FlagSet) :
    r.Wrote (r.flags f) (s.landed k bg).d (s.landed k bg).a f 0#32 false := by
  rw [← hr.d, ← hr.a]
  exact ⟨rfl, rfl, rfl, rfl, rfl, rfl, by simp, fun h => by simp at h⟩

theorem State.AfterMoves.wrote_log (hr : s.AfterMoves k bg r) (code data : Nat) :
    r.Wrote (r.log code data) (s.landed k bg).d (s.landed k bg).a {} 0#32 false := by
  rw [← hr.d, ← hr.a]
  exact ⟨rfl, rfl, rfl, rfl, rfl, rfl, by simp [TRun.log], fun h => by simp at h⟩

theorem State.AfterMoves.wrote_acc (hr : s.AfterMoves k bg r) (i : Fin 4) (v : Int) (f : FlagSet) :
    r.Wrote ((r.putAcc i v).flags f) (s.landed k bg).d ((s.landed k bg).a.set i (accOfInt v)) f
      (if accClips v then 0x10#32 <<< i.val else 0#32) (accClips v) := by
  rw [TRun.putAcc_eq, ← hr.d, ← hr.a]
  exact ⟨rfl, rfl, rfl, rfl, rfl, rfl, rfl, fun h => by simp [h]⟩

/-- Two accumulators written by one instruction. -/
theorem State.AfterMoves.wrote_accPair (hr : s.AfterMoves k bg r) (i j : Fin 4) (v u : Int) (f : FlagSet) :
    r.Wrote (((r.putAcc i v).putAcc j u).flags f) (s.landed k bg).d
      (((s.landed k bg).a.set i (accOfInt v)).set j (accOfInt u)) f
      ((if accClips v then 0x10#32 <<< i.val else 0#32) ||| (if accClips u then 0x10#32 <<< j.val else 0#32))
      (accClips v || accClips u) := by
  rw [TRun.putAcc_eq, TRun.putAcc_eq, ← hr.d, ← hr.a]
  exact ⟨rfl, rfl, rfl, rfl, rfl, rfl, BitVec.or_assoc _ _ _, fun h => by simp [Bool.or_assoc, h]⟩

end

/-- From `s` to `t` the task's context took the effect of an operation: data registers, accumulators, flags, the bits above the
flags, and the SAT event. MSAT is set where the operation marks it, and the moves may have set it. -/
structure State.wrote (s t : State) (k : Nat) (bg : Bool) (d : Vector DWord 8) (a : Vector Acc 4) (f : FlagSet)
    (mark : BitVec 32) (ev : Bool) : Prop where
  d : (t.ctx k bg).d = d
  a : (t.ctx k bg).a = a
  z : zf (t.ctx k bg).sr = f.z.getD (zf (s.landed k bg).sr)
  n : nf (t.ctx k bg).sr = f.n.getD (nf (s.landed k bg).sr)
  v : vf (t.ctx k bg).sr = f.v.getD (vf (s.landed k bg).sr)
  c : cf (t.ctx k bg).sr = f.c.getD (cf (s.landed k bg).sr)
  marked : ∀ b, 4 ≤ b → b < 32 → b ≠ 8 → (t.ctx k bg).sr.getLsbD b = ((s.landed k bg).sr.getLsbD b || mark.getLsbD b)
  msat : mark.getLsbD 8 = true → (t.ctx k bg).sr.getLsbD 8 = true
  ev : ev = true → (t.ctx k bg).evpend.getLsbD 2 = true

/-- Sticky bits above the flags leave the flags as they were put in. -/
theorem FlagSet.apply_or_bits (f : FlagSet) (sr y : BitVec 32) (hy : ∀ b, b < 4 → y.getLsbD b = false) :
    zf (f.apply sr ||| y) = f.z.getD (zf sr) ∧ nf (f.apply sr ||| y) = f.n.getD (nf sr) ∧
      vf (f.apply sr ||| y) = f.v.getD (vf sr) ∧ cf (f.apply sr ||| y) = f.c.getD (cf sr) := by
  obtain ⟨hz, hn, hv, hc⟩ := f.apply_bits sr
  have low : ∀ b, b < 4 → (f.apply sr ||| y).getLsbD b = (f.apply sr).getLsbD b := by
    intro b hb
    rw [BitVec.getLsbD_or, hy b hb, Bool.or_false]
  exact ⟨(low 0 (by decide)).trans hz, (low 1 (by decide)).trans hn, (low 2 (by decide)).trans hv, (low 3 (by decide)).trans hc⟩

theorem State.wrote_of_row {s : State} {k : Nat} {bg : Bool} {w : PWord} (tick : Nat) {sel : Option TOp → Option RowOp}
    {row : RowOp} {d : Vector DWord 8} {a : Vector Acc 4} {f : FlagSet} {mark : BitVec 32} {ev : Bool}
    (h : s.tileAt k bg w) (hs : sel (decodeOp w) = some row) (hp : row.placed = false)
    (hrun : ∀ env r, s.AfterMoves k bg r → r.Wrote (row.run env (s.ctx k bg) r) d a f mark ev)
    (hmark : ∀ b, b < 4 → mark.getLsbD b = false) : s.wrote ((s.tickAt tick).tileRow k tick sel) k bg d a f mark ev := by
  obtain ⟨r1, -, hmoved, hres⟩ := State.tile_result tick sel row h hs (fun hb => absurd hb (by simp [hp]))
  have h1 := State.afterMoves_of_moved hmoved
  have hw := hrun (s.tileEnv k bg) r1 h1
  obtain ⟨hctx, -⟩ := hres _ rfl (hw.uncorr.trans h1.uncorr) (by rw [hw.flow, h1.flow]; decide) (hw.t.trans h1.t)
  generalize row.run (s.tileEnv k bg) (s.ctx k bg) r1 = r at hw hctx
  have hsr : (((s.tickAt tick).tileRow k tick sel).ctx k bg).sr = f.apply (s.landed k bg).sr ||| (r1.sticky ||| mark) := by
    rw [hctx, TCtx.advance_sr, TRun.written_sr, hw.sr, hw.sticky, h1.sr]
  obtain ⟨hz, hn, hv, hc⟩ := f.apply_or_bits (s.landed k bg).sr (r1.sticky ||| mark) (fun b hb => by
    rw [BitVec.getLsbD_or, h1.sticky b (by omega) (by omega), hmark b hb]; rfl)
  refine ⟨?_, ?_, hsr ▸ hz, hsr ▸ hn, hsr ▸ hv, hsr ▸ hc, ?_, ?_, ?_⟩
  · rw [hctx, TCtx.advance_d, TRun.written_d, hw.d]
  · rw [hctx, TCtx.advance_a, TRun.written_a, hw.a]
  · intro b h4 hb h8
    rw [hsr, BitVec.getLsbD_or, BitVec.getLsbD_or, f.apply_above _ b h4, h1.sticky b hb h8, Bool.false_or]
  · intro hm
    rw [hsr, BitVec.getLsbD_or, BitVec.getLsbD_or, hm, Bool.or_true, Bool.or_true]
  · intro he
    rw [hctx, TCtx.advance_evpend]
    show (if r.satEv then r.c.evpend ||| 4#32 else r.c.evpend).getLsbD 2 = true
    rw [if_pos (hw.satEv he), BitVec.getLsbD_or]
    exact Bool.or_true _

section
variable {s : State} {k : Nat} {bg : Bool} {w : PWord} (tick : Nat) {sel : Option TOp → Option RowOp} {row : RowOp}

/-- A row that writes data register `i`, and sets MSAT where `m` says so. -/
theorem State.dGot_of_row {i : Fin 8} {v : DWord} {V : Bool} {C : Option Bool} (m : Bool) (h : s.tileAt k bg w)
    (hs : sel (decodeOp w) = some row) (hp : row.placed = false)
    (hrun : ∀ env r, row.run env (s.ctx k bg) r = ((r.putD i v).flags (zn32 v (some V) C)).msat m) :
    s.dGot ((s.tickAt tick).tileRow k tick sel) k bg i v V (C.getD (cf (s.landed k bg).sr)) ∧
      (m = true → (((s.tickAt tick).tileRow k tick sel).ctx k bg).sr.getLsbD 8 = true ∧
        (((s.tickAt tick).tileRow k tick sel).ctx k bg).evpend.getLsbD 2 = true) := by
  have hw := State.wrote_of_row tick h hs hp (fun env r hr => hrun env r ▸ hr.wrote_data i v _ m) (fun b hb => by
    rw [getLsbD_msatMark m (by omega), decide_eq_false (by omega), Bool.and_false])
  exact ⟨⟨hw.d, hw.a, hw.z, hw.n, hw.v, hw.c⟩, fun hm => ⟨hw.msat (by rw [hm]; decide), hw.ev hm⟩⟩

/-- A row that puts flags in and writes no register. -/
theorem State.flags_of_row {f : FlagSet} (h : s.tileAt k bg w) (hs : sel (decodeOp w) = some row) (hp : row.placed = false)
    (hrun : ∀ env r, row.run env (s.ctx k bg) r = r.flags f) :
    s.wrote ((s.tickAt tick).tileRow k tick sel) k bg (s.landed k bg).d (s.landed k bg).a f 0#32 false :=
  State.wrote_of_row tick h hs hp (fun env r hr => hrun env r ▸ hr.wrote_flags f) (fun _ _ => BitVec.getLsbD_zero)

/-- A row that writes accumulator `i` clamped, with V of the clamp. -/
theorem State.aGot_of_row {i : Fin 4} {v : Int} {f : FlagSet} (h : s.tileAt k bg w) (hs : sel (decodeOp w) = some row)
    (hp : row.placed = false) (hV : f.v = some (accClips v)) (hC : f.c = none)
    (hrun : ∀ env r, row.run env (s.ctx k bg) r = (r.putAcc i v).flags f) :
    s.aGot ((s.tickAt tick).tileRow k tick sel) k bg i v ∧
      zf (((s.tickAt tick).tileRow k tick sel).ctx k bg).sr = f.z.getD (zf (s.landed k bg).sr) ∧
      nf (((s.tickAt tick).tileRow k tick sel).ctx k bg).sr = f.n.getD (nf (s.landed k bg).sr) := by
  have hw := State.wrote_of_row tick h hs hp (fun env r hr => hrun env r ▸ hr.wrote_acc i v f)
    (fun _ hb => satMark_keeps_flags i _ hb)
  refine ⟨⟨hw.a, hw.d, ?_, ?_, ?_, hw.ev⟩, hw.z, hw.n⟩
  · rw [hw.v, hV]; rfl
  · rw [hw.c, hC]; rfl
  · rw [hw.marked (4 + i) (by omega) (by omega) (by omega), getLsbD_satMark i _ (by omega), decide_eq_true rfl, Bool.and_true]

end

/-- An undefined operation code leaves registers, accumulators and flags (06 R183). -/
theorem State.nothingGot_of_undefined {s : State} {k : Nat} {bg : Bool} {w : PWord} (tick : Nat) (h : s.tileAt k bg w)
    (hd : decodeOp w = none) : ∃ t, exec (.undefinedInstruction k tick) s = .next t ∧ s.nothingGot t k bg := by
  have hw := State.wrote_of_row (sel := selUNDEF) tick h (by rw [hd]; rfl) rfl (fun env r hr => hr.wrote_log _ _)
    (fun _ _ => BitVec.getLsbD_zero)
  exact ⟨_, rfl, hw.d, hw.a, ⟨hw.z, hw.n⟩, hw.v, hw.c⟩

end Sys2Proof.Machine
end

section
/-! SUPPORT. The data ALU operations (06 R201): settles O2. -/
namespace Sys2Proof.Machine

section
variable {s : State} {k : Nat} {bg : Bool} {w : PWord} (tick : Nat) (sel : Option TOp → Option RowOp) (op : AluOp)
  {dd ds : Fin 8}

/-- A data ALU row whose operation gives a result. -/
theorem State.dGot_of_alu {v : DWord} {V : Bool} {C : Option Bool} (h : s.tileAt k bg w)
    (hs : sel (decodeOp w) = some (aluRow op dd ds))
    (hv : aluResult op (s.ctx k bg).d[dd] (s.ctx k bg).d[ds] = (some v, zn32 v (some V) C)) :
    s.dGot ((s.tickAt tick).tileRow k tick sel) k bg dd v V (C.getD (cf (s.landed k bg).sr)) := by
  refine (State.dGot_of_row tick false h hs rfl (fun env r => ?_)).1
  simp only [aluRow, hv]
  rfl

/-- A data ALU row whose operation sets flags only. -/
theorem State.flagsGot_of_alu {v : DWord} {V : Bool} {C : Option Bool} (h : s.tileAt k bg w)
    (hs : sel (decodeOp w) = some (aluRow op dd ds))
    (hv : aluResult op (s.ctx k bg).d[dd] (s.ctx k bg).d[ds] = (none, zn32 v (some V) C)) :
    s.flagsGot ((s.tickAt tick).tileRow k tick sel) k bg v V (C.getD (cf (s.landed k bg).sr)) := by
  have hw := State.flags_of_row tick h hs rfl (f := zn32 v (some V) C) (fun env r => by simp only [aluRow, hv])
  exact ⟨hw.d, hw.a, hw.z, hw.n, hw.v, hw.c⟩

end

theorem toInt_ite_le_eq_min (a b : DWord) : (if a.toInt ≤ b.toInt then a else b).toInt = min a.toInt b.toInt := by
  rw [min_def, apply_ite BitVec.toInt]

theorem toInt_ite_le_eq_max (a b : DWord) : (if b.toInt ≤ a.toInt then a else b).toInt = max a.toInt b.toInt := by
  rw [max_comm, max_def, apply_ite BitVec.toInt]

/-- Settles O2: each sub-operation code decodes to its operation, whose result and flags the statement writes out. -/
theorem tileDataAlu : Obligations.TileDataAlu := by
  unfold Obligations.TileDataAlu
  intro s k tick bg w dd ds h hg hd hs
  have dec {n : Nat} (hc : opBits w 8 4 = n) : decodeOp w = (aluOf n).map (fun op => .alu op dd ds) :=
    hc ▸ decodeOp_alu hg hd hs
  refine ⟨_, _, _, rfl, rfl, rfl, fun hc => ?mov, fun hc => ?add, fun hc => ?sub, fun hc => ?adds, fun hc => ?subs,
    fun hc => ?and, fun hc => ?or, fun hc => ?xor, fun hc => ?not, fun hc => ?neg, fun hc => ?abs, fun hc => ?cmp,
    fun hc => ?min, fun hc => ?max, fun hc => ?tst, fun hc => ?undefined⟩
  case mov => exact ⟨_, rfl, State.dGot_of_alu tick selMOV .mov h (by rw [dec hc]; rfl) rfl⟩
  case add =>
    rw [← clipsS_add]
    exact ⟨_, rfl, State.dGot_of_alu tick selADD .add h (by rw [dec hc]; rfl) rfl⟩
  case sub =>
    rw [← clipsS_sub]
    exact ⟨_, rfl, State.dGot_of_alu tick selSUB .sub h (by rw [dec hc]; rfl) rfl⟩
  case adds =>
    refine ⟨_, satBV 32 _, rfl, satBV_toInt (by decide) _, ?_⟩
    rw [← clipsS_eq_decide_satBV_ne (by decide)]
    exact State.dGot_of_alu tick selADDS .adds h (by rw [dec hc]; rfl) rfl
  case subs =>
    refine ⟨_, satBV 32 _, rfl, satBV_toInt (by decide) _, ?_⟩
    rw [← clipsS_eq_decide_satBV_ne (by decide)]
    exact State.dGot_of_alu tick selSUBS .subs h (by rw [dec hc]; rfl) rfl
  case and => exact ⟨_, rfl, State.dGot_of_alu tick selAND .and h (by rw [dec hc]; rfl) rfl⟩
  case or => exact ⟨_, rfl, State.dGot_of_alu tick selOR .or h (by rw [dec hc]; rfl) rfl⟩
  case xor => exact ⟨_, rfl, State.dGot_of_alu tick selXOR .xor h (by rw [dec hc]; rfl) rfl⟩
  case not => exact ⟨_, rfl, State.dGot_of_alu tick selNOT .not h (by rw [dec hc]; rfl) rfl⟩
  case neg =>
    refine ⟨_, satBV 32 _, rfl, satBV_toInt (by decide) _, ?_⟩
    rw [← clipsS_eq_decide_satBV_ne (by decide)]
    exact State.dGot_of_alu tick selNEG .neg h (by rw [dec hc]; rfl) rfl
  case abs =>
    refine ⟨_, satBV 32 _, rfl, satBV_toInt (by decide) _, ?_⟩
    rw [← clipsS_eq_decide_satBV_ne (by decide), ← Int.natCast_natAbs]
    exact State.dGot_of_alu tick selABS .abs h (by rw [dec hc]; rfl) rfl
  case cmp =>
    rw [← clipsS_sub]
    exact ⟨_, rfl, State.flagsGot_of_alu tick selCMP .cmp h (by rw [dec hc]; rfl) rfl⟩
  case min => exact ⟨_, _, rfl, toInt_ite_le_eq_min _ _, State.dGot_of_alu tick selMIN .min h (by rw [dec hc]; rfl) rfl⟩
  case max => exact ⟨_, _, rfl, toInt_ite_le_eq_max _ _, State.dGot_of_alu tick selMAX .max h (by rw [dec hc]; rfl) rfl⟩
  case tst => exact ⟨_, rfl, State.flagsGot_of_alu tick selTST .tst h (by rw [dec hc]; rfl) rfl⟩
  case undefined => exact State.nothingGot_of_undefined tick h (dec hc)

end Sys2Proof.Machine
end

section
/-! SUPPORT. The four shifts (06 R202): settles O3. -/
namespace Sys2Proof.Machine

/-- A shift row on the amount that it sees. -/
theorem shiftRow_run (op : ShiftOp) (amt : ShiftAmt) (dd : Fin 8) (env : TEnv) (old : TCtx) (r : TRun) :
    (shiftRow op amt dd).run env old r =
      (r.putD dd (shiftResult op old.d[dd] (amt.places old)).1).flags (shiftResult op old.d[dd] (amt.places old)).2 := by
  cases amt <;> rfl

theorem State.dGot_of_shift {s : State} {k : Nat} {bg : Bool} {w : PWord} (tick : Nat) (sel : Option TOp → Option RowOp)
    {op : ShiftOp} {amt : ShiftAmt} {dd : Fin 8} {n : Nat} {v : DWord} {V : Bool} {C : Option Bool} (h : s.tileAt k bg w)
    (hs : sel (decodeOp w) = some (shiftRow op amt dd)) (hn : amt.places (s.ctx k bg) = n)
    (hv : shiftResult op (s.ctx k bg).d[dd] n = (v, zn32 v (some V) C)) :
    s.dGot ((s.tickAt tick).tileRow k tick sel) k bg dd v V (C.getD (cf (s.landed k bg).sr)) :=
  (State.dGot_of_row tick false h hs rfl (fun env r => by rw [shiftRow_run, hn, hv]; rfl)).1

/-! The results of the shifts; a shift by 0 leaves C (06 R202). -/

theorem shiftResult_lsl (a : DWord) (n : Nat) :
    shiftResult .lsl a n = ((if n < 32 then a <<< n else 0), zn32 (if n < 32 then a <<< n else 0) (some false)
      (if n = 0 then none else some (if n ≤ 32 then a.getLsbD (32 - n) else false))) := by
  unfold shiftResult
  by_cases h0 : n = 0
  · simp [h0]
  · by_cases h : n ≤ 32 <;> simp [h0, h]

theorem shiftResult_asr (a : DWord) (n : Nat) :
    shiftResult .asr a n = (a.sshiftRight (min n 31), zn32 (a.sshiftRight (min n 31)) (some false)
      (if n = 0 then none else some (if n < 32 then a.getLsbD (n - 1) else a.msb))) := by
  unfold shiftResult
  by_cases h0 : n = 0 <;> simp [h0]

theorem shiftResult_lsr (a : DWord) (n : Nat) :
    shiftResult .lsr a n = ((if n < 32 then a >>> n else 0), zn32 (if n < 32 then a >>> n else 0) (some false)
      (if n = 0 then none else some (if n ≤ 32 then a.getLsbD (n - 1) else false))) := by
  unfold shiftResult
  by_cases h0 : n = 0
  · simp [h0]
  · by_cases h : n ≤ 32 <;> simp [h0, h]

theorem shiftResult_asls (a : DWord) (n : Nat) :
    shiftResult .asls a n = (satBV 32 (a.toInt * 2 ^ n), zn32 (satBV 32 (a.toInt * 2 ^ n))
      (some (decide (sat 32 (a.toInt * 2 ^ n) ≠ a.toInt * 2 ^ n))) none) := by
  have hsat : satBV 32 (a.toInt * 2 ^ min n 32) = satBV 32 (a.toInt * 2 ^ n) := by
    apply BitVec.eq_of_toInt_eq
    rw [satBV_toInt (by decide), satBV_toInt (by decide), sat_shiftLeft_min]
  unfold shiftResult
  by_cases h0 : n = 0
  · subst h0
    have hfit : sat 32 a.toInt = a.toInt := by
      have hlo := BitVec.le_toInt a
      have hhi := BitVec.toInt_lt (x := a)
      unfold sat
      omega
    have hword : satBV 32 a.toInt = a := BitVec.eq_of_toInt_eq (by rw [satBV_toInt (by decide), hfit])
    simp [hfit, hword]
  · simp only [if_neg h0, hsat, clipsS_shiftLeft_min]

theorem toNat_shiftRight_ite (a : DWord) (n : Nat) :
    (if n < 32 then a >>> n else 0).toNat = if n < 32 then a.toNat / 2 ^ n else 0 := by
  rw [apply_ite BitVec.toNat, BitVec.toNat_ushiftRight, Nat.shiftRight_eq_div_pow]
  rfl

/-- C of a shift: unchanged by 0 places, else the bit shifted out. -/
theorem getD_ite_none_some (p : Prop) [Decidable p] (b c : Bool) :
    (if p then none else some b : Option Bool).getD c = if p then c else b := by
  split <;> rfl

/-- Settles O3: the KIND selects the shift, whose result and flags hold for every number of places. -/
theorem tileShifts : Obligations.TileShifts := by
  unfold Obligations.TileShifts
  intro s k tick bg w dd q n h hg hd hq hn
  obtain ⟨amt, hdec, hplaces⟩ := decodeOp_shift hg hd hq
  have hamt : amt.places (s.ctx k bg) = n := (hplaces _).trans hn.symm
  refine ⟨_, _, rfl, rfl, fun hc => ?lsl, fun hc => ?asr, fun hc => ?lsr, fun hc => ?asls⟩
  case lsl =>
    rw [← getD_ite_none_some]
    exact ⟨_, rfl, State.dGot_of_shift tick selLSL h (by rw [hdec, hc]; rfl) hamt (shiftResult_lsl _ n)⟩
  case asr =>
    rw [← getD_ite_none_some]
    exact ⟨_, _, rfl, sshiftRight_min_toInt _ n,
      State.dGot_of_shift tick selASR h (by rw [hdec, hc]; rfl) hamt (shiftResult_asr _ n)⟩
  case lsr =>
    rw [← getD_ite_none_some]
    exact ⟨_, _, rfl, toNat_shiftRight_ite _ n,
      State.dGot_of_shift tick selLSR h (by rw [hdec, hc]; rfl) hamt (shiftResult_lsr _ n)⟩
  case asls =>
    refine ⟨_, satBV 32 _, rfl, satBV_toInt (by decide) _, ?_⟩
    rw [satBV_toInt (by decide)]
    exact State.dGot_of_shift tick selASLS h (by rw [hdec, hc]; rfl) hamt (shiftResult_asls _ n)

end Sys2Proof.Machine
end

section
/-! SUPPORT. The multiplies (06 R196, R197): settles O4 and O5. -/
namespace Sys2Proof.Machine

/-- A single multiply row: the accumulator, and Z and N as they were (06 R206). -/
theorem State.aGot_of_mul {s : State} {k : Nat} {bg : Bool} {w : PWord} (tick : Nat) (sel : Option TOp → Option RowOp)
    {i : Fin 4} {p q : Fin 8} (f : Int → Int → Int) (h : s.tileAt k bg w) (hs : sel (decodeOp w) = some (mulRow i p q f)) :
    s.aGot ((s.tickAt tick).tileRow k tick sel) k bg i
        (f (s.ctx k bg).a[i].toInt ((s.ctx k bg).d[p].toInt * (s.ctx k bg).d[q].toInt)) ∧
      s.znKept ((s.tickAt tick).tileRow k tick sel) k bg :=
  State.aGot_of_row tick (f := vOnly (accClips _)) h hs rfl rfl rfl (fun env r => by
    rw [← clipsS_80]
    rfl)

/-- Settles O4: the KIND selects the multiply; a product alone never clamps. -/
theorem tileMultiplies : Obligations.TileMultiplies := by
  unfold Obligations.TileMultiplies
  intro s k tick bg w i p q h hg hi hp hq
  have dec := decodeOp_mul hg hi hp hq
  have hprod : |(s.ctx k bg).d[p].toInt * (s.ctx k bg).d[q].toInt| ≤ 2 ^ 78 := (abs_prod_le _ _).trans (by norm_num)
  refine ⟨_, _, rfl, rfl, fun hc => ?mpy, fun hc => ?mac, fun hc => ?msu, fun hc => ?mpyn⟩
  case mpy =>
    obtain ⟨ha, hzn⟩ := State.aGot_of_mul tick selMPY (fun _ x => x) h (by rw [dec, hc]; rfl)
    exact ⟨_, rfl, ha, hzn, accClips_eq_false hprod⟩
  case mac => exact ⟨_, rfl, State.aGot_of_mul tick selMAC (fun a x => a + x) h (by rw [dec, hc]; rfl)⟩
  case msu => exact ⟨_, rfl, State.aGot_of_mul tick selMSU (fun a x => a - x) h (by rw [dec, hc]; rfl)⟩
  case mpyn =>
    obtain ⟨ha, hzn⟩ := State.aGot_of_mul tick selMPYN (fun _ x => -x) h (by rw [dec, hc]; rfl)
    exact ⟨_, rfl, ha, hzn, accClips_eq_false (by rwa [abs_neg])⟩

/-- The exact value that DMAC gives accumulator `i`: the accumulator or 0, plus or minus the product of `p` of D0 to D3 and `q`
of D4 to D7 (06 R197). -/
def dmacValue (c : TCtx) (fresh sub : Bool) (i p q : Fin 4) : Int :=
  (if fresh = true then 0 else c.a[i].toInt) + (if sub = true then -1 else 1) * (c.d[p.val].toInt * c.d[4 + q.val].toInt)

theorem dmacValue_eq (c : TCtx) (fresh sub : Bool) (i p q : Fin 4) :
    (if fresh = true then 0 else c.a[i].toInt) + (if sub = true then -prod c (Fin.ofNat 8 p.val) (Fin.ofNat 8 (4 + q.val))
      else prod c (Fin.ofNat 8 p.val) (Fin.ofNat 8 (4 + q.val))) = dmacValue c fresh sub i p q := by
  have lo : Fin.ofNat 8 p.val = ⟨p.val, by omega⟩ := Fin.ext (Nat.mod_eq_of_lt (by omega))
  have hi : Fin.ofNat 8 (4 + q.val) = ⟨4 + q.val, by omega⟩ := Fin.ext (Nat.mod_eq_of_lt (by omega))
  unfold dmacValue
  rw [lo, hi]
  cases sub <;> simp [prod]

/-- The operation of DMAC on the two accumulators `e` and `o` of a pair. -/
theorem selDMAC_run {pair s0 s1 fresh : Bool} {p q r u e o : Fin 4} (he : e.val = 2 * pair.toNat)
    (ho : o.val = 2 * pair.toNat + 1) :
    ∃ row, selDMAC (some (.dmac pair s0 s1 fresh p q r u)) = some row ∧ row.placed = false ∧
      ∀ env old run, row.run env old run =
        ((run.putAcc e (dmacValue old fresh s0 e p q)).putAcc o (dmacValue old fresh s1 o r u)).flags
          (vOnly (accClips (dmacValue old fresh s0 e p q) || accClips (dmacValue old fresh s1 o r u))) := by
  refine ⟨_, rfl, rfl, fun env old run => ?_⟩
  have he' : (if pair then 2 else 0 : Fin 4) = e := by cases pair <;> exact Fin.ext he.symm
  have ho' : (if pair then 3 else 1 : Fin 4) = o := by cases pair <;> exact Fin.ext ho.symm
  simp only [he', ho', clipsS_80, dmacValue_eq]

/-- Settles O5: the pair bit names the two accumulators, and each takes its own product. -/
theorem tileDualMultiply : Obligations.TileDualMultiply := by
  unfold Obligations.TileDualMultiply
  intro s k tick bg w p q r u e o h hg hp hq hr hu he ho
  have hpair : (decide (opBits w 12 1 = 1)).toNat = opBits w 12 1 := by
    have : opBits w 12 1 < 2 := Nat.mod_lt _ (by decide)
    obtain h0 | h1 : opBits w 12 1 = 0 ∨ opBits w 12 1 = 1 := by omega
    · rw [h0]; rfl
    · rw [h1]; rfl
  have dec := decodeOp_dmac hg
  rw [dmacOf_eq _ hp hq hr hu] at dec
  rw [← hpair] at he ho
  obtain ⟨row, hrow, hplaced, hrun⟩ := selDMAC_run he ho
  have hw := State.wrote_of_row tick h (by rw [dec]; exact hrow) hplaced
    (fun env r hr => hrun env _ r ▸ hr.wrote_accPair e o _ _ _) (fun b hb => by
      rw [BitVec.getLsbD_or, satMark_keeps_flags e _ hb, satMark_keeps_flags o _ hb, Bool.or_false])
  simp only [dmacValue, decide_eq_true_eq] at hw
  exact ⟨_, _, rfl, rfl, _, rfl, hw.a, hw.d, ⟨hw.z, hw.n⟩, hw.v, hw.c⟩

end Sys2Proof.Machine
end

section
/-! SUPPORT. The accumulator operations (06 R199, R200, R206): settles O6. -/
namespace Sys2Proof.Machine

/-- An accumulator row: the accumulator, V of its clamp, and Z and N of the clamped value. -/
theorem State.aGot_of_acc {s : State} {k : Nat} {bg : Bool} {w : PWord} (tick : Nat) (sel : Option TOp → Option RowOp)
    {i : Fin 4} {f : TCtx → Int} {v : Int} (h : s.tileAt k bg w) (hs : sel (decodeOp w) = some (accRow i f))
    (hv : f (s.ctx k bg) = v) :
    s.aGot ((s.tickAt tick).tileRow k tick sel) k bg i v ∧ ((s.tickAt tick).tileRow k tick sel).znAcc k bg v :=
  State.aGot_of_row tick (f := zn80 (accOfInt v) (some (accClips v))) h hs rfl rfl rfl (fun env r => by
    rw [← satBV_80, ← clipsS_80, ← hv]
    rfl)

/-- EXT writes the clamped extraction; a clamp sets MSAT and makes the SAT event pending (06 R199). -/
theorem State.dGot_of_ext {s : State} {k : Nat} {bg : Bool} {w : PWord} (tick : Nat) {i e : Fin 4} {d : Fin 8}
    (h : s.tileAt k bg w) (hs : decodeOp w = some (.ext i d e)) {q : Int}
    (hq : q = extExact (s.ctx k bg).a[i].toInt (extPoint e) ((s.ctx k bg).sr.toNat / 4096 % 4)) :
    s.dGot ((s.tickAt tick).tileRow k tick selEXT) k bg d (satBV 32 q) (clipsS 32 q) (cf (s.landed k bg).sr) ∧
      (clipsS 32 q = true → (((s.tickAt tick).tileRow k tick selEXT).ctx k bg).sr.getLsbD 8 = true ∧
        (((s.tickAt tick).tileRow k tick selEXT).ctx k bg).evpend.getLsbD 2 = true) := by
  rw [← srRnd_eq, ← extQuot_eq_extExact] at hq
  exact State.dGot_of_row tick (C := none) (clipsS 32 q) h (by rw [hs]; rfl) rfl (fun env r => by rw [hq]; rfl)

/-- CMPA sets flags from the order of two accumulators and writes nothing (06 R200). -/
theorem State.wrote_of_cmpa {s : State} {k : Nat} {bg : Bool} {w : PWord} (tick : Nat) {i j : Fin 4} (h : s.tileAt k bg w)
    (hs : decodeOp w = some (.cmpa i j)) :
    s.wrote ((s.tickAt tick).tileRow k tick selCMPA) k bg (s.landed k bg).d (s.landed k bg).a
      ⟨some ((s.ctx k bg).a[i] == (s.ctx k bg).a[j]), some (decide ((s.ctx k bg).a[i].toInt < (s.ctx k bg).a[j].toInt)),
        some false, none⟩ 0#32 false :=
  State.flags_of_row tick h (by rw [hs]; rfl) rfl (fun _ _ => rfl)

/-- The accumulator group has operations for the codes 0 to 9 (06 R183, R200). -/
theorem accOf_undefined {sub : Nat} (f : BitVec 16) (h : 10 ≤ sub) : accOf sub f = none := by
  obtain ⟨m, rfl⟩ := Nat.exists_eq_add_of_le' h
  rfl

/-- The shifted value of ASHA, from the field of its amount. -/
theorem ashaValue_eq (w : PWord) (a : Int) :
    (if 0 ≤ ((w.extractLsb' 48 16).extractLsb' 0 6).toInt then a * 2 ^ ((w.extractLsb' 48 16).extractLsb' 0 6).toInt.toNat
      else asr a (-((w.extractLsb' 48 16).extractLsb' 0 6).toInt).toNat) =
    if opBits w 0 6 < 32 then a * 2 ^ opBits w 0 6 else a / 2 ^ (64 - opBits w 0 6) := by
  have hlt : opBits w 0 6 < 64 := Nat.mod_lt _ (by decide)
  rw [ashaAmount_eq]
  by_cases h : opBits w 0 6 < 32
  · simp only [if_pos h, Int.natCast_nonneg, if_true, Int.toNat_natCast]
  · rw [if_neg h, if_neg h, if_neg (by omega), asr, show (-((opBits w 0 6 : Int) - 64)).toNat = 64 - opBits w 0 6 by omega]

/-- A data register placed at an extraction point fits an accumulator (06 R200). -/
theorem accClips_lda (d : DWord) (e : Fin 4) : accClips (d.toInt * 2 ^ extPoint e) = false := by
  have he : extPoint e ≤ 32 := by revert e; decide
  have hp : (2 : Int) ^ extPoint e ≤ 2 ^ 32 := pow_le_pow_right₀ (by norm_num) he
  apply accClips_eq_false
  have habs : |(2 : Int) ^ extPoint e| = 2 ^ extPoint e := abs_of_pos (by positivity)
  calc |d.toInt * 2 ^ extPoint e| = |d.toInt| * 2 ^ extPoint e := by rw [abs_mul, habs]
    _ ≤ 2 ^ 31 * 2 ^ 32 := mul_le_mul (abs_toInt_le d) hp (by positivity) (by positivity)
    _ ≤ 2 ^ 78 := by norm_num

/-- Settles O6: each sub-operation code decodes to its operation, whose exact value is then clamped. -/
theorem tileAccumulators : Obligations.TileAccumulators := by
  unfold Obligations.TileAccumulators
  intro s k tick bg w i j e d h hg hi hj hd he
  have dec {n : Nat} (hc : opBits w 8 4 = n) : decodeOp w = accOf n (w.extractLsb' 48 16) := hc ▸ decodeOp_acc hg
  have fi := toFin_eq_of_opBits hi (by decide)
  have fj := toFin_eq_of_opBits hj (by decide)
  have fd := toFin_eq_of_opBits hd (by decide)
  have fe := toFin_eq_of_opBits he (by decide)
  refine ⟨_, _, rfl, rfl, fun hc => ?clr, fun hc => ?mova, fun hc => ?adda, fun hc => ?suba, fun hc => ?nega, fun hc => ?absa,
    fun hc => ?asha, fun hc => ?ext, fun hc => ?lda, fun hc => ?cmpa, fun hc => ?undefined⟩
  case clr => exact ⟨_, rfl, State.aGot_of_acc tick selCLR h (by rw [dec hc, accOf, fi]; rfl) rfl⟩
  case mova => exact ⟨_, rfl, State.aGot_of_acc tick selMOVA h (by rw [dec hc, accOf, fi, fj]; rfl) rfl⟩
  case adda => exact ⟨_, rfl, State.aGot_of_acc tick selADDA h (by rw [dec hc, accOf, fi, fj]; rfl) rfl⟩
  case suba => exact ⟨_, rfl, State.aGot_of_acc tick selSUBA h (by rw [dec hc, accOf, fi, fj]; rfl) rfl⟩
  case nega => exact ⟨_, rfl, State.aGot_of_acc tick selNEGA h (by rw [dec hc, accOf, fi, fj]; rfl) rfl⟩
  case absa =>
    exact ⟨_, rfl, State.aGot_of_acc tick selABSA h (by rw [dec hc, accOf, fi, fj]; rfl) (Int.natCast_natAbs _)⟩
  case asha =>
    exact ⟨_, _, rfl, rfl, State.aGot_of_acc tick selASHA h (by rw [dec hc, accOf, fi]; rfl) (ashaValue_eq w _)⟩
  case ext =>
    obtain ⟨hgot, hclip⟩ := State.dGot_of_ext tick h (by rw [dec hc, accOf, fi, fd, fe]) rfl
    refine ⟨_, satBV 32 _, _, rfl, rfl, satBV_toInt (by decide) _, ?_, ?_⟩
    · rw [← clipsS_eq_decide_satBV_ne (by decide)]
      exact hgot
    · intro hne
      exact hclip (by rw [clipsS_eq_decide_satBV_ne (by decide)]; exact decide_eq_true hne)
  case lda =>
    have hval : (s.ctx k bg).d[d].toInt * 2 ^ extShift e = (s.ctx k bg).d[d].toInt * 2 ^ extPoint e := by
      rw [extShift_eq_extPoint]
    obtain ⟨hgot, hzn⟩ := State.aGot_of_acc tick selLDA h (by rw [dec hc, accOf, fi, fd, fe]; rfl) hval
    exact ⟨_, rfl, hgot, hzn, accClips_lda _ e⟩
  case cmpa =>
    have hw := State.wrote_of_cmpa tick h (by rw [dec hc, accOf, fi, fj])
    refine ⟨_, rfl, hw.d, hw.a, hw.z.trans ?_, hw.n, hw.v, hw.c⟩
    exact decide_eq_decide.mpr BitVec.toInt_inj.symm
  case undefined => exact State.nothingGot_of_undefined tick h ((dec rfl).trans (accOf_undefined _ hc))

end Sys2Proof.Machine
end

section
/-! SUPPORT. END (06 R193, 05 R173, R174): settles O9. -/
namespace Sys2Proof.Machine

theorem Tile.applyStores_fgCount (t : Tile) (ws : List (TMem × TAddr × DWord)) : (t.applyStores ws).fgCount = t.fgCount := by
  unfold Tile.applyStores
  induction ws generalizing t with
  | nil => rfl
  | cons x r ih =>
    rw [List.foldl_cons, ih]
    obtain ⟨m, a, v⟩ := x
    cases m <;> rfl

/-- Under the rule of END the moves of a word are not carried out: nothing is loaded or stored (06 R184). -/
theorem TRun.moves_tend (env : TEnv) (old : TCtx) (w : PWord) (r : TRun) :
    ∃ reps, r.moves env old w .tend = { r with reps := reps } := by
  unfold TRun.moves
  dsimp only
  split <;> split <;> exact ⟨_, rfl⟩

/-! A task whose last instruction has passed writeback stays as it is when it is settled again (05 R173). -/

theorem TCtx.settled_eq_self {c : TCtx} (hl : c.loads = []) (hs : c.stores = []) : c.settled = c := by
  unfold TCtx.settled
  rw [hl]
  show { c with loads := [], stores := [] } = c
  rw [← hl, ← hs]

theorem Tile.settle_eq_self {t : Tile} {bg : Bool} (hl : (t.ctx bg).loads = []) (hs : (t.ctx bg).stores = []) :
    t.settle bg = t := by
  unfold Tile.settle
  rw [TCtx.settled_eq_self hl hs, hs]
  cases bg <;> rfl

/-- A context as the end of its task leaves it: handler flag and return stack cleared, no transfer or repetition in progress
(06 R193). -/
def TCtx.tended (c : TCtx) : TCtx := { c with sr := c.sr &&& ~~~0x400#32, stack := [], delay := none, rep := 0 }

/-- The end of a task that has passed writeback (05 R173, R174). -/
theorem Tile.tend_of_settled {t : Tile} {bg : Bool} (entryBg : TAddr) (tick : Nat) (hl : (t.ctx bg).loads = [])
    (hs : (t.ctx bg).stores = []) :
    t.tend bg entryBg tick =
      if bg then { t with bg := { t.bg.tended with pc := entryBg }, run := .parked, parkPend := false }
      else { t with fg := t.fg.tended, run := .drain, slk := { t.slk with endTick := some tick } } := by
  unfold Tile.tend
  rw [Tile.settle_eq_self hl hs]
  cases bg
  · rfl
  · show (t.setCtx true { t.bg.tended with pc := entryBg }).park = _
    unfold Tile.park
    rw [Tile.settle_eq_self (t := t.setCtx true { t.bg.tended with pc := entryBg }) (bg := true) hl hs]
    rfl

/-- The context that END leaves, before the background goes to its entry. -/
def Tile.ended (t : Tile) (bg : Bool) : TCtx := ((t.started bg).written (t.ctx bg)).tended

/-- A tile after END, its stores in memory: the foreground's tile counts the instruction and goes to DRAIN, the background's
parks and resumes at its entry (05 R173, R174). -/
def Tile.afterEnd (t : Tile) (bg : Bool) (entryBg : TAddr) (tick : Nat) : Tile :=
  if bg then
    { t.applyStores t.bg.stores with bg := { t.ended true with pc := entryBg }, run := .parked, parkPend := false }
  else
    { t.applyStores t.fg.stores with
      fg := t.ended false, run := .drain, fgCount := (t.applyStores t.fg.stores).fgCount + 1
      slk := { (t.applyStores t.fg.stores).slk with endTick := some tick } }

/-- A tile with the instruction that it has executed counted, where its foreground ran (02 R33). -/
def Tile.counted (t : Tile) (bg : Bool) : Tile := if bg then t else { t with fgCount := t.fgCount + 1 }

/-- An instruction that ends the task: its writeback, and then the end of the task. -/
theorem Tile.exec_ends (env : TEnv) (entryBg : TAddr) (tick : Nat) (w : PWord) (row : RowOp) (t : Tile)
    (hdelay : (t.ctx env.bg).delay = none) (hrep : (t.ctx env.bg).rep = 0) (r : TRun)
    (hr : row.run env (t.ctx env.bg) ((t.started env.bg).moves env (t.ctx env.bg) w row.rule) = r)
    (hu : r.uncorr = false) (hf : r.flow = .tend) :
    (t.exec env entryBg tick w row).1 =
      ((((r.t.applyStores (t.ctx env.bg).stores).setCtx env.bg (r.written (t.ctx env.bg))).counted env.bg).tend env.bg
        entryBg tick) := by
  have hfree : (row.placed && ((t.ctx env.bg).delay.isSome || (t.ctx env.bg).rep != 0)) = false := by
    rw [hdelay, hrep]
    exact Bool.and_false _
  unfold Tile.exec
  simp only [hfree, Bool.false_eq_true, if_false]
  unfold Tile.started at hr
  rw [hr]
  simp only [hu, hf, Bool.false_eq_true, if_false, if_true]
  rfl

/-- END outside delay slots and repetitions carries no move out and ends the task. -/
theorem Tile.exec_tend (env : TEnv) (entryBg : TAddr) (tick : Nat) (w : PWord) (t : Tile) {row : RowOp}
    (hrow : selEND (some .tend) = some row) (hdelay : (t.ctx env.bg).delay = none) (hrep : (t.ctx env.bg).rep = 0) :
    (t.exec env entryBg tick w row).1 = t.afterEnd env.bg entryBg tick := by
  obtain rfl := Option.some.inj hrow
  obtain ⟨reps, hmoves⟩ := (t.started env.bg).moves_tend env (t.ctx env.bg) w
  rw [Tile.exec_ends env entryBg tick w _ t hdelay hrep _ rfl (by rw [hmoves]; rfl) rfl, hmoves]
  generalize env.bg = bg
  cases bg
  · exact Tile.tend_of_settled entryBg tick rfl rfl
  · exact Tile.tend_of_settled entryBg tick rfl rfl

/-! What END leaves of the tile. -/

/-- In either task the context is the ended one, but for the program counter. -/
theorem Tile.afterEnd_ctx (t : Tile) (bg : Bool) (entryBg : TAddr) (tick : Nat) :
    ∃ pc, (t.afterEnd bg entryBg tick).ctx bg = { t.ended bg with pc := pc } := by
  cases bg <;> exact ⟨_, rfl⟩

theorem Tile.afterEnd_x (t : Tile) (bg : Bool) (entryBg : TAddr) (tick : Nat) :
    (t.afterEnd bg entryBg tick).x = (t.applyStores (t.ctx bg).stores).x := by
  cases bg <;> rfl

theorem Tile.afterEnd_y (t : Tile) (bg : Bool) (entryBg : TAddr) (tick : Nat) :
    (t.afterEnd bg entryBg tick).y = (t.applyStores (t.ctx bg).stores).y := by
  cases bg <;> rfl

theorem Tile.afterEnd_fgCount (t : Tile) (entryBg : TAddr) (tick : Nat) :
    (t.afterEnd false entryBg tick).fgCount = t.fgCount + 1 :=
  congrArg (· + 1) (t.applyStores_fgCount t.fg.stores)

/-- END clears bit 10 of the status word, IH, and no other. -/
theorem Tile.ended_sr_getLsbD (t : Tile) (bg : Bool) {b : Nat} (hb : b < 32) :
    (t.ended bg).sr.getLsbD b = (((t.ctx bg).applyLoads (t.ctx bg).loads).sr.getLsbD b && !decide (b = 10)) := by
  have hmask : (~~~0x400#32).getLsbD b = !decide (b = 10) := by revert b; decide
  show ((((t.ctx bg).applyLoads (t.ctx bg).loads).sr ||| 0#32) &&& ~~~0x400#32).getLsbD b = _
  rw [BitVec.or_zero, BitVec.getLsbD_and, hmask]

/-- A row that its tile takes is put into the state. -/
theorem State.tileRow_of_row {s : State} {k tick : Nat} {bg : Bool} {sel : Option TOp → Option RowOp} {out : Tile × List TRep}
    (htask : (s.tile k).task = some bg)
    (hrow : (s.tile k).row (s.tileEnv k bg) (((s.workOf k).map (·.2.entryBg)).getD 0) tick sel = some out) :
    s.tileRow k tick sel = s.putTileStep k out.1 out.2 := by
  unfold State.tileRow
  simp only [htask, hrow]

/-- The tile that an instruction row leaves when its tile is at the instruction: what the instruction makes of it, with the
background's entry from the plane's program. -/
theorem State.tile_tileRow {s : State} {k : Nat} {bg : Bool} {w : PWord} (tick : Nat) {sel : Option TOp → Option RowOp}
    {row : RowOp} (h : s.tileAt k bg w) (hs : sel (decodeOp w) = some row) :
    ((s.tickAt tick).tileRow k tick sel).tile k =
      ((s.tile k).exec (s.tileEnv k bg) (((s.workOf k).map (·.2.entryBg)).getD 0) tick w row).1 := by
  have hw : (s.tile k).pLive.get ((s.tile k).ctx (s.tileEnv k bg).bg).pc.toNat = w := h.word
  have hrow := Tile.row_clean (s.tileEnv k bg) (((s.workOf k).map (·.2.entryBg)).getD 0) tick sel (s.tile k) row h.quiet h.clean
    (by rw [hw]; exact hs)
  rw [hw] at hrow
  rw [State.tileRow_of_row (s := s.tickAt tick) h.task hrow]
  obtain ⟨l, n, hput⟩ := (s.tickAt tick).putTileStep_eq k
    ((s.tile k).exec (s.tileEnv k bg) (((s.workOf k).map (·.2.entryBg)).getD 0) tick w row).1
    ((s.tile k).exec (s.tileEnv k bg) (((s.workOf k).map (·.2.entryBg)).getD 0) tick w row).2
  rw [hput, State.tile_plusReports, State.tile_setTile_same _ _ _ (State.lt_of_task h.task)]

/-- END on the state. -/
theorem State.tile_tEnd {s : State} {k : Nat} {bg : Bool} {w : PWord} (tick : Nat) (h : s.tileAt k bg w)
    (hfree : s.tileFree k bg) (hdec : decodeOp w = some .tend) :
    ∃ t, exec (.tEnd k tick) s = .next t ∧
      t.tile k = (s.tile k).afterEnd bg (((s.workOf k).map (·.2.entryBg)).getD 0) tick := by
  obtain ⟨hdelay, hrep⟩ := hfree
  refine ⟨_, rfl, ?_⟩
  have htile := State.tile_tileRow (sel := selEND) tick h (by rw [hdec]; rfl)
  exact htile.trans (Tile.exec_tend (s.tileEnv k bg) _ tick w _ rfl hdelay hrep)

/-- Settles O9: the tile after END, field by field. -/
theorem tileEnd : Obligations.TileEnd := by
  unfold Obligations.TileEnd
  intro s k tick bg w h hfree hg hsub
  have hdec : decodeOp w = some .tend := by
    rw [decodeOp_control hg, hsub]
    rfl
  obtain ⟨t, hexec, htile⟩ := State.tile_tEnd tick h hfree hdec
  obtain ⟨pc, hctx⟩ := (s.tile k).afterEnd_ctx bg (((s.workOf k).map (·.2.entryBg)).getD 0) tick
  rw [← htile] at hctx
  have hctx' : t.ctx k bg = { (s.tile k).ended bg with pc := pc } := hctx
  have hsr {b : Nat} (hb : b < 32) : (t.ctx k bg).sr.getLsbD b = ((s.landed k bg).sr.getLsbD b && !decide (b = 10)) := by
    rw [hctx']
    exact (s.tile k).ended_sr_getLsbD bg hb
  have kept {b : Nat} (hb : b < 4) : (t.ctx k bg).sr.getLsbD b = (s.landed k bg).sr.getLsbD b := by
    rw [hsr (by omega), decide_eq_false (by omega)]
    exact Bool.and_true _
  refine ⟨t, hexec, ⟨?d, ?a, ⟨kept (by decide), kept (by decide)⟩, kept (by decide), kept (by decide)⟩, ?stack, ?ih, ?stores,
    ?x, ?y, fun hfg => ⟨?drain, ?count⟩, fun hbg => ⟨?parked, fun b p hwork => ?entry⟩⟩
  case d => rw [hctx']; rfl
  case a => rw [hctx']; rfl
  case stack => rw [hctx']; rfl
  case ih => rw [hsr (by decide), decide_eq_true rfl, Bool.not_true, Bool.and_false]
  case stores => rw [hctx']; rfl
  case x => rw [htile, Tile.afterEnd_x]; rfl
  case y => rw [htile, Tile.afterEnd_y]; rfl
  case drain => rw [htile, hfg]; rfl
  case count => rw [htile, hfg, Tile.afterEnd_fgCount]
  case parked => rw [htile, hbg]; rfl
  case entry =>
    show ((t.tile k).ctx true).pc = _
    rw [htile, hbg, hwork]
    rfl

end Sys2Proof.Machine
end

section
/-! SUPPORT. Encoding and decoding of tile words (06 R182 to R205): settles O58. -/
namespace Sys2Proof.Machine
-- Proofs checked one at a time, which bounds the memory that the whole text takes.
set_option Elab.async false

/-! Fields of an appended word. -/

/-- Bits above the low part of an appended word are bits of the high part. -/
theorem extractLsb'_append_high {n m : Nat} (x : BitVec n) (y : BitVec m) {start : Nat} (len : Nat) (h : m ≤ start) :
    (x.append y).extractLsb' start len = x.extractLsb' (start - m) len := by
  apply BitVec.eq_of_getLsbD_eq
  intro i hi
  rw [BitVec.getLsbD_extractLsb', BitVec.getLsbD_extractLsb', BitVec.append_eq, BitVec.getLsbD_append, if_neg (by omega),
    show start + i - m = start - m + i by omega]

/-- Bits within the low part of an appended word are bits of that part. -/
theorem extractLsb'_append_low {n m : Nat} (x : BitVec n) (y : BitVec m) {start len : Nat} (h : start + len ≤ m) :
    (x.append y).extractLsb' start len = y.extractLsb' start len := by
  apply BitVec.eq_of_getLsbD_eq
  intro i hi
  rw [BitVec.getLsbD_extractLsb', BitVec.getLsbD_extractLsb', BitVec.append_eq, BitVec.getLsbD_append, if_pos (by omega)]

/-! What the decoder reads from the code of a register, a flag or an operation. -/

theorem f2_toFin (i : Fin 4) : (f2 i).toFin = i := by revert i; decide
theorem f3_toFin (i : Fin 8) : (f3 i).toFin = i := by revert i; decide
theorem f1_beq_one (b : Bool) : (f1 b == 1#1) = b := by cases b <;> rfl
theorem ccCode_toFin (cc : CC) : (BitVec.ofNat 4 cc.val).toFin = cc := by revert cc; decide
theorem immCode_toFin (n : Fin 32) : (BitVec.ofNat 5 n.val).toFin = n := by revert n; decide
theorem aluOf_code (op : AluOp) : aluOf op.code.toNat = some op := by cases op <;> rfl
theorem mulOf_code (op : MulOp) : mulOf op.code.toNat = op := by cases op <;> rfl
theorem shiftOf_code (op : ShiftOp) : shiftOf op.code.toNat = op := by cases op <;> rfl

theorem ptrKindOf_code (k : PtrKind) : ptrKindOf k.code.toFin.val = some k := by cases k <;> rfl

theorem xferCode_ofNat (r : Fin 20) : xferCode (BitVec.ofNat 5 r.val) = some r := by revert r; decide

/-- A control register is read back from its code; data registers have none (06 R203). -/
theorem cregOf_crCode {r : Option TReg} (h : ∀ i, r ≠ some (.d i)) : cregOf (crCode r) = r := by
  rcases r with _ | r
  · rfl
  · cases r
    case d i => exact absurd rfl (h i)
    case amode | sr | lc | evmask | evpend | evvec => rfl
    all_goals (rename_i i; revert i; decide)

/-- A count of 1 to 1,024 is read back from its field of 10 bits (06 R195). -/
theorem repCode_toNat {n : Nat} (h : within 1 1024 n = true) : (BitVec.ofNat 10 (n - 1)).toNat + 1 = n := by
  simp only [within, Bool.and_eq_true, decide_eq_true_eq] at h
  rw [BitVec.toNat_ofNat, Nat.mod_eq_of_lt (by omega)]
  omega

/-- A shift amount of 6 bits, signed, is read back from its field (06 R200). -/
theorem ashaCode_toInt {i : Fin 4} {sh : Int} (h : (TOp.asha i sh).wf = true) : (BitVec.ofInt 6 sh).toInt = sh := by
  simp only [TOp.wf, Bool.and_eq_true, decide_eq_true_eq] at h
  exact BitVec.toInt_ofInt_eq_self (by decide) (by omega) (by omega)

/-! Operations. -/

/-- What an operation takes from the word outside its operation field is what the operation says (06 R192, R204). -/
def TOp.fitsRest (w : PWord) : TOp → Prop
  | .bra _ t => w.extractLsb' 24 14 = t
  | .call _ t => w.extractLsb' 24 14 = t
  | .dbnz t => w.extractLsb' 24 14 = t
  | .ldiw _ imm => w.extractLsb' 16 32 = imm
  | _ => True

/-- An operation is read back from a word that holds its operation field and its operand. -/
theorem decodeOp_of_field {w : PWord} {op : TOp} (hwf : op.wf = true) (hf : w.extractLsb' 48 16 = op.field)
    (hr : op.fitsRest w) : decodeOp w = some op := by
  unfold decodeOp
  rw [hf]
  cases op
  case' dmac pair s0 s1 fresh p q r s => cases pair
  case' shift op amt dd => cases amt
  case' acc op i j => cases op
  case' ldiw target imm => rcases target with _ | (_ | _ | _ | _ | _ | _ | _ | _ | _ | _ | _ | _ | _)
  case' movc toC d r => have hreg : ∀ i, r ≠ some (.d i) := fun i hi => by simp [hi, TOp.wf] at hwf
  case' repImm n => have hrep := repCode_toNat hwf
  case' asha i sh => have hsh := ashaCode_toInt hwf
  all_goals
    simp only [TOp.fitsRest] at hr
    simp only [TOp.field, hr, HAppend.hAppend, extractLsb'_append_high, extractLsb'_append_low, Nat.reduceLeDiff, Nat.reduceSub,
      Nat.reduceAdd, BitVec.extractLsb'_eq_self, BitVec.getLsbD_eq_extractLsb', BitVec.reduceExtractLsb', BitVec.reduceToNat,
      BitVec.reduceBEq, f1_beq_one, f2_toFin, f3_toFin, ccCode_toFin, immCode_toFin, controlOf, accOf, aluOf_code, mulOf_code,
      shiftOf_code, AccOp.code, decodeOp.dmacOf, Option.map_some, if_true, if_false, Bool.false_eq_true, cregOf_crCode, ne_eq,
      Option.some.injEq, reduceCtorEq, not_false_eq_true, implies_true]
  case repImm => rw [hrep]
  case asha => rw [hsh]
  case movc => rw [cregOf_crCode hreg]

/-! Moves. -/

/-- A move is read back from its field. -/
theorem decodeMove_field (m : TMove) : decodeMove m.field = some m := by
  unfold decodeMove
  cases m
  all_goals
    simp only [TMove.field, HAppend.hAppend, extractLsb'_append_high, extractLsb'_append_low, Nat.reduceLeDiff, Nat.reduceSub,
      Nat.reduceAdd, BitVec.extractLsb'_eq_self, BitVec.getLsbD_eq_extractLsb', BitVec.reduceExtractLsb', BitVec.reduceToNat,
      f1_beq_one, f2_toFin, f3_toFin, ptrKindOf_code, xferCode_ofNat, Option.map_some]

/-! Whole words. -/

theorem TOp.word_op (op : TOp) : op.word.extractLsb' 48 16 = op.field := by
  simp only [TOp.word, HAppend.hAppend, extractLsb'_append_high, Nat.le_refl, Nat.sub_self, BitVec.extractLsb'_eq_self]

/-- The word of an operation holds its operand. -/
theorem TOp.fitsRest_word (op : TOp) : op.fitsRest op.word := by
  cases op
  all_goals
    simp only [TOp.fitsRest, TOp.word, TOp.rest, HAppend.hAppend, extractLsb'_append_high, extractLsb'_append_low,
      Nat.reduceLeDiff, Nat.reduceAdd, Nat.le_refl, Nat.sub_self, BitVec.extractLsb'_eq_self]

/-- An operation that leaves both move fields free takes nothing from them. -/
theorem TOp.fitsRest_of_freeMoves {op : TOp} (h : op.freeMoves = true) (w : PWord) : op.fitsRest w := by
  cases op
  case bra | call | dbnz | ldiw => exact absurd h (by simp [TOp.freeMoves])
  all_goals trivial

/-- The three fields of a word made of an operation and two moves (06 R182). -/
theorem tileWord_fields (op : TOp) (x y : TMove) :
    (tileWord op x y).extractLsb' 48 16 = op.field ∧ xField (tileWord op x y) = x.field ∧
      yField (tileWord op x y) = y.field := by
  simp only [tileWord, xField, yField, HAppend.hAppend, extractLsb'_append_high, extractLsb'_append_low, Nat.reduceLeDiff,
    Nat.reduceSub, Nat.reduceAdd, Nat.le_refl, Nat.sub_self, BitVec.extractLsb'_eq_self, and_self]

/-- Settles O58: operation and moves are read back each from its own field of the word. -/
theorem tileEncoding : Obligations.TileEncoding := by
  unfold Obligations.TileEncoding
  refine ⟨fun op hwf => decodeOp_of_field hwf op.word_op op.fitsRest_word, decodeMove_field, fun op x y hwf hfree => ?_⟩
  obtain ⟨hop, hx, hy⟩ := tileWord_fields op x y
  exact ⟨decodeOp_of_field hwf hop (TOp.fitsRest_of_freeMoves hfree _), hx ▸ decodeMove_field x, hy ▸ decodeMove_field y⟩

end Sys2Proof.Machine
end

section
/-! SUPPORT. The queue, the condition codes, and what reset leaves: settles O1, O7 and O60. -/
namespace Sys2Proof.Machine

/-- With a command at the front of the queue the block runs it. -/
theorem step_of_cons {s : State} {i : Instr} {rest : List Instr} (h : s.pending = i :: rest) :
    step s = exec i { s with pending := rest } := by
  unfold step
  rw [h]

/-- With an empty queue the block idles (assumption log 2). -/
theorem step_of_nil {s : State} (h : s.pending = []) : step s = .next s := by
  unfold step
  rw [h]

/-- Settles O1: the state with the command put in front, taken off again, is the state. -/
theorem stepRunsFront : Obligations.StepRunsFront := by
  unfold Obligations.StepRunsFront
  exact fun i s => step_of_cons (s := { s with pending := i :: s.pending }) rfl

/-- Settles O7: each code tests a combination of the four flags. -/
theorem conditionCodes : Obligations.ConditionCodes := by
  unfold Obligations.ConditionCodes
  intro sr cc
  unfold ccHolds zf nf vf cf
  generalize sr.getLsbD 0 = z
  generalize sr.getLsbD 1 = n
  generalize sr.getLsbD 2 = v
  generalize sr.getLsbD 3 = c
  revert cc z n v c
  decide

/-! What reset leaves. -/

theorem rd_replicate {α : Type} [Inhabited α] {n j : Nat} (x : α) (h : j < n) : rd (Vector.replicate n x) j = x := by
  unfold rd
  rw [Vector.getElem?_eq_getElem h, Vector.getElem_replicate]
  rfl

theorem rd_of_ge {α : Type} [Inhabited α] {n j : Nat} (v : Vector α n) (h : n ≤ j) : rd v j = default := by
  unfold rd
  rw [Vector.getElem?_eq_none h]
  rfl

theorem State.reset_tile {k : Nat} (h : k < 68) : State.reset.tile k = Tile.reset := rd_replicate _ h

/-- At reset every memory is empty. -/
theorem State.reset_memOk : State.reset.memOk := by
  refine ⟨rfl, fun k => ?_⟩
  rcases Nat.lt_or_ge k 68 with h | h
  · rw [State.reset_tile h]
    rfl
  · rw [State.tile, rd_of_ge _ h]
    rfl

/-- Settles O60: each part of the state is its own reset value. -/
theorem resetState : Obligations.ResetState := by
  unfold Obligations.ResetState
  refine ⟨State.reset_memOk, rfl, step_of_nil rfl, ?dom, rfl, rfl, rfl, rfl, rfl, ?ep, ?quiet, ?tile, fun s => step_of_nil⟩
  case dom => decide
  case ep => decide
  case quiet =>
    unfold State.quiet
    decide
  case tile => exact fun k h => congrArg Tile.run (State.reset_tile h)

end Sys2Proof.Machine
end

section
/-! SUPPORT. Control instructions, REP, delay slots and repetitions (05 R165 to R168, 06 R192, R195): settles O8 and O10. -/
namespace Sys2Proof.Machine

/-! Sequencing is not a register: loads leave it. -/

theorem TCtx.writeReg_keeps (c : TCtx) (r : TReg) (v : DWord) :
    (c.writeReg r v).pc = c.pc ∧ (c.writeReg r v).stack = c.stack ∧ (c.writeReg r v).delay = c.delay ∧
      (c.writeReg r v).rep = c.rep := by
  cases r <;> exact ⟨rfl, rfl, rfl, rfl⟩

theorem TCtx.applyLoads_keeps (c : TCtx) (ls : List (TReg × DWord)) :
    (c.applyLoads ls).pc = c.pc ∧ (c.applyLoads ls).stack = c.stack ∧ (c.applyLoads ls).delay = c.delay ∧
      (c.applyLoads ls).rep = c.rep := by
  unfold TCtx.applyLoads
  induction ls generalizing c with
  | nil => exact ⟨rfl, rfl, rfl, rfl⟩
  | cons l ls ih =>
    obtain ⟨h1, h2, h3, h4⟩ := ih (c.writeReg l.1 l.2)
    obtain ⟨k1, k2, k3, k4⟩ := c.writeReg_keeps l.1 l.2
    exact ⟨h1.trans k1, h2.trans k2, h3.trans k3, h4.trans k4⟩

/-- The run of an instruction after its moves, with its sequencing as the task's context holds it. -/
structure State.Sequenced (s : State) (k : Nat) (bg : Bool) (r : TRun) : Prop where
  after : s.AfterMoves k bg r
  pc : r.c.pc = (s.ctx k bg).pc
  stack : r.c.stack = (s.ctx k bg).stack
  delay : r.c.delay = (s.ctx k bg).delay
  rep : r.c.rep = (s.ctx k bg).rep

theorem State.sequenced_of_moved {s : State} {k : Nat} {bg : Bool} {r : TRun} (h : ((s.tile k).started bg).Moved r) :
    s.Sequenced k bg r := by
  obtain ⟨h1, h2, h3, h4⟩ := (s.ctx k bg).applyLoads_keeps (s.ctx k bg).loads
  exact ⟨State.afterMoves_of_moved h, h.pc.trans h1, h.stack.trans h2, h.delay.trans h3, h.rep.trans h4⟩

/-! The effect of an instruction that writes no register, accumulator or flag. -/

/-- From `r` to `r'` an operation left data registers, accumulators and flags, and did not end the task. -/
structure TRun.Controls (r r' : TRun) : Prop where
  t : r'.t = r.t
  uncorr : r'.uncorr = r.uncorr
  d : r'.c.d = r.c.d
  a : r'.c.a = r.c.a
  sr : ∀ b, b < 4 → (r'.c.sr ||| r'.sticky).getLsbD b = (r.c.sr ||| r.sticky).getLsbD b
  flow : r'.flow ≠ .tend

/-- A row that takes the instruction whatever the tile's sequencing, or outside delay slots and repetitions only: what the
operation makes of the run is what the context holds, with the program counter advanced. -/
theorem State.control_of_row {s : State} {k : Nat} {bg : Bool} {w : PWord} (tick : Nat) {sel : Option TOp → Option RowOp}
    {row : RowOp} (h : s.tileAt k bg w) (hs : sel (decodeOp w) = some row) (hfree : row.placed = true → s.tileFree k bg)
    (hrun : ∀ r, s.AfterMoves k bg r → r.Controls (row.run (s.tileEnv k bg) (s.ctx k bg) r)) :
    ∃ r, s.Sequenced k bg r ∧ s.nothingGot ((s.tickAt tick).tileRow k tick sel) k bg ∧
      ((s.tickAt tick).tileRow k tick sel).ctx k bg =
        ((row.run (s.tileEnv k bg) (s.ctx k bg) r).written (s.ctx k bg)).advance
          (row.run (s.tileEnv k bg) (s.ctx k bg) r).flow ∧
      ∀ x ∈ (row.run (s.tileEnv k bg) (s.ctx k bg) r).reps,
        s.reported ((s.tickAt tick).tileRow k tick sel) x.1 (tileZone k) k x.2 := by
  obtain ⟨r, -, hmoved, hres⟩ := State.tile_result tick sel row h hs hfree
  have hseq := State.sequenced_of_moved hmoved
  have hafter := hseq.after
  have hc := hrun r hafter
  obtain ⟨hctx, hreps, hmore, hnow⟩ := hres _ rfl (hc.uncorr.trans hafter.uncorr) hc.flow (hc.t.trans hafter.t)
  have flag : ∀ b, b < 4 → (((s.tickAt tick).tileRow k tick sel).ctx k bg).sr.getLsbD b = (s.landed k bg).sr.getLsbD b := by
    intro b hb
    rw [hctx, TCtx.advance_sr, TRun.written_sr, hc.sr b hb, BitVec.getLsbD_or, hafter.sr,
      hafter.sticky b (by omega) (by omega), Bool.or_false]
  refine ⟨r, hseq, ⟨?_, ?_, ⟨flag 0 (by decide), flag 1 (by decide)⟩, flag 2 (by decide), flag 3 (by decide)⟩, hctx, ?_⟩
  · rw [hctx, TCtx.advance_d, TRun.written_d, hc.d, hafter.d]
  · rw [hctx, TCtx.advance_a, TRun.written_a, hc.a, hafter.a]
  · intro x hx
    refine ⟨?_, hmore⟩
    rw [hnow]
    exact hreps x hx

/-- A transfer on the context: the delay slots start, and nothing else of the sequencing changes. -/
theorem State.transferred_of_ctx {s t : State} {k : Nat} {bg : Bool} {r : TRun} {target : Option TAddr}
    (hctx : t.ctx k bg = (r.written (s.ctx k bg)).advance (.transfer target)) (hpc : r.c.pc = (s.ctx k bg).pc)
    (hrep : r.c.rep = 0) : s.transferred t k bg target := by
  refine ⟨?_, ?_, ?_⟩ <;> rw [hctx]
  · exact congrArg (· + 1) hpc
  · rfl
  · exact hrep

section
variable {r : TRun} (env : TEnv) (pc a : TAddr) (flow : Flow)

theorem TRun.Controls.refl (h : r.flow ≠ .tend) : r.Controls r := ⟨rfl, rfl, rfl, rfl, fun _ _ => rfl, h⟩

theorem TRun.controls_flow (h : flow ≠ .tend) : r.Controls { r with flow := flow } := ⟨rfl, rfl, rfl, rfl, fun _ _ => rfl, h⟩

theorem TRun.controls_push (h : flow ≠ .tend) : r.Controls { r.push env pc a with flow := flow } := by
  unfold TRun.push
  dsimp only
  split <;> exact ⟨rfl, rfl, rfl, rfl, fun _ _ => rfl, h⟩

theorem TRun.push_seq : (r.push env pc a).c.pc = r.c.pc ∧ (r.push env pc a).c.rep = r.c.rep ∧
    (r.push env pc a).c.stack = a :: r.c.stack.take 7 := by
  unfold TRun.push
  dsimp only
  split <;> exact ⟨rfl, rfl, rfl⟩

/-- A push onto a full stack logs STACK (05 R166). -/
theorem TRun.push_logs (h : 8 ≤ r.c.stack.length) : (0x0607, stackData pc env.bg) ∈ (r.push env pc a).reps := by
  unfold TRun.push
  rw [if_neg (by omega)]
  exact List.mem_append_right _ (List.mem_singleton_self _)

theorem TRun.controls_pop : r.Controls (r.pop env pc) := by
  unfold TRun.pop
  split <;> exact ⟨rfl, rfl, rfl, rfl, fun _ _ => rfl, by simp⟩

/-- A pop transfers to the newest return address, where there is one (05 R166). -/
theorem TRun.pop_seq : (r.pop env pc).c.pc = r.c.pc ∧ (r.pop env pc).c.rep = r.c.rep ∧
    (r.pop env pc).c.stack = r.c.stack.tail ∧ (r.pop env pc).flow = .transfer r.c.stack.head? := by
  unfold TRun.pop
  split
  · next he => exact ⟨rfl, rfl, by rw [he]; exact he, by rw [he]; rfl⟩
  · next he => exact ⟨rfl, rfl, by rw [he]; rfl, by rw [he]; rfl⟩

/-- A pop of an empty stack logs STACK (05 R166). -/
theorem TRun.pop_logs (h : r.c.stack = []) : (0x0607, stackData pc env.bg) ∈ (r.pop env pc).reps := by
  unfold TRun.pop
  rw [h]
  exact List.mem_append_right _ (List.mem_singleton_self _)

theorem TRun.controls_log (code data : Nat) (h : r.flow ≠ .tend) : r.Controls (r.log code data) :=
  ⟨rfl, rfl, rfl, rfl, fun _ _ => rfl, h⟩

end

theorem State.AfterMoves.flow_ne_tend {s : State} {k : Nat} {bg : Bool} {r : TRun} (h : s.AfterMoves k bg r) :
    r.flow ≠ .tend := by
  rw [h.flow]; decide

/-! The program counter without a transfer. -/

/-- Outside delay slots and repetitions the next instruction follows. -/
theorem TCtx.advance_next_free {c : TCtx} (hd : c.delay = none) (hr : c.rep = 0) :
    c.advance .next = { c with pc := c.pc + 1 } := by
  unfold TCtx.advance
  obtain ⟨_, _, _, _, _, _, _, _, _, _, _, _, _, _, _, _, _, _, _, _, _⟩ := c
  obtain rfl := hd
  obtain rfl := hr
  rfl

/-- Outside delay slots and repetitions an instruction without a transfer moves the program counter by 1. -/
theorem TRun.written_advance_free {r : TRun} (old : TCtx) (hd : r.c.delay = none) (hr : r.c.rep = 0) :
    (r.written old).advance .next = { r.written old with pc := r.c.pc + 1 } :=
  TCtx.advance_next_free (c := r.written old) hd hr

theorem TCtx.advance_next_repeats {c : TCtx} (hr : 2 ≤ c.rep) : c.advance .next = { c with rep := c.rep - 1 } := by
  unfold TCtx.advance
  exact if_pos hr

/-- The last execution under REP goes on as one outside it. -/
theorem TCtx.advance_next_last {c : TCtx} (hr : c.rep ≤ 1) (hd : c.delay = none) :
    c.advance .next = { c with rep := 0, pc := c.pc + 1 } := by
  unfold TCtx.advance
  dsimp only
  rw [if_neg (by omega)]
  simp only [hd]

theorem TCtx.advance_next_delay_two {c : TCtx} {target : Option TAddr} (hr : c.rep ≤ 1) (hd : c.delay = some ⟨2, target⟩) :
    c.advance .next = { c with rep := 0, pc := c.pc + 1, delay := some ⟨1, target⟩ } := by
  unfold TCtx.advance
  dsimp only
  rw [if_neg (by omega)]
  simp only [hd]
  rfl

theorem TCtx.advance_next_delay_one {c : TCtx} {target : Option TAddr} (hr : c.rep ≤ 1) (hd : c.delay = some ⟨1, target⟩) :
    c.advance .next = { c with rep := 0, pc := target.getD (c.pc + 1), delay := none } := by
  unfold TCtx.advance
  dsimp only
  rw [if_neg (by omega)]
  simp only [hd]
  rfl

/-! Control words. -/

/-- The fields of a control word in the group and sub-operation that the statements name. -/
theorem decodeOp_control_at {w : PWord} {cc : CC} {n : Nat} (hg : opBits w 12 4 = 0) (hcc : opBits w 4 4 = cc.val)
    (hn : opBits w 8 4 = n) : decodeOp w = controlOf n cc (w.extractLsb' 24 14) := by
  rw [decodeOp_control hg, toFin_eq_of_opBits hcc (by decide), hn]

theorem controlOf_undefined {n : Nat} (cc : CC) (target : TAddr) (h : 8 ≤ n) : controlOf n cc target = none := by
  obtain ⟨m, rfl⟩ := Nat.exists_eq_add_of_le' h
  rfl

/-- A vector read at the number of a register field. -/
theorem rd_opBits {α : Type} [Inhabited α] (v : Vector α 8) (w : PWord) (lo : Nat) (h : lo + 3 ≤ 16) :
    rd v (opBits w lo 3) = v[((w.extractLsb' 48 16).extractLsb' lo 3).toFin] := by
  have hlt : opBits w lo 3 < 8 := Nat.mod_lt _ (by decide)
  unfold rd
  rw [Vector.getElem?_eq_getElem hlt, Option.getD_some]
  simp only [opBits_eq w lo 3 h]
  rfl

/-- The count of REP: an immediate of 10 bits plus 1, or a register of the word (06 R195). -/
theorem decodeOp_rep {w : PWord} (hg : opBits w 12 4 = 1) :
    ∃ q : Fin 8, decodeOp w = some (if opBits w 11 1 = 0 then .repImm (opBits w 0 10 + 1) else .repReg q) ∧
      ∀ d : Vector DWord 8, rd d (opBits w 0 3) = d[q] := by
  refine ⟨((w.extractLsb' 48 16).extractLsb' 0 3).toFin, ?_, fun d => rd_opBits d w 0 (by decide)⟩
  have hbit : opBits w 11 1 < 2 := Nat.mod_lt _ (by decide)
  unfold decodeOp
  simp only [group_toNat_eq hg, getLsbD_eq_opBits w (show 11 < 16 by decide), decide_eq_true_eq,
    ← opBits_eq w 0 10 (by decide)]
  by_cases h : opBits w 11 1 = 0
  · rw [if_neg (by omega), if_pos h]
  · rw [if_pos (by omega), if_neg h]

/-! The rows on the state. -/

section
variable {s : State} {k : Nat} {bg : Bool} {w : PWord} (tick : Nat) (h : s.tileAt k bg w)
include h

/-- An undefined operation goes on to the next instruction and logs ILLEGAL with its word (06 R183). -/
theorem State.undefined_of_control (hd : decodeOp w = none) :
    ∃ r, s.Sequenced k bg r ∧ s.nothingGot ((s.tickAt tick).tileRow k tick selUNDEF) k bg ∧
      ((s.tickAt tick).tileRow k tick selUNDEF).ctx k bg =
        ((r.illegal (s.tileEnv k bg) (s.ctx k bg)).written (s.ctx k bg)).advance .next ∧
      s.reported ((s.tickAt tick).tileRow k tick selUNDEF) 0x0608 (tileZone k) k (illegalData (s.ctx k bg).pc bg w) := by
  obtain ⟨r, hr, hgot, hctx, hreps⟩ := State.control_of_row tick (sel := selUNDEF) h (by rw [hd]; rfl) (fun hp => by simp at hp)
    (fun r hr => r.controls_log _ _ hr.flow_ne_tend)
  have hflow : (r.illegal (s.tileEnv k bg) (s.ctx k bg)).flow = .next := hr.after.flow
  have hword : r.t.pLive.get (s.ctx k bg).pc.toNat = w := by rw [hr.after.t]; exact h.word
  refine ⟨r, hr, hgot, hflow ▸ hctx, ?_⟩
  rw [← hword]
  exact hreps _ (List.mem_append_right _ (List.mem_singleton_self _))

variable (hfree : s.tileFree k bg)
include hfree

/-- NOP outside delay slots and repetitions. -/
theorem State.nop_free (hd : decodeOp w = some .nop) :
    s.nothingGot ((s.tickAt tick).tileRow k tick selNOP) k bg ∧
      (((s.tickAt tick).tileRow k tick selNOP).ctx k bg).pc = (s.ctx k bg).pc + 1 ∧
      ((s.tickAt tick).tileRow k tick selNOP).tileFree k bg := by
  obtain ⟨r, hr, hgot, hctx, -⟩ := State.control_of_row tick (sel := selNOP) h (by rw [hd]; rfl) (fun _ => hfree)
    (fun r hr => TRun.Controls.refl hr.flow_ne_tend)
  simp only [hr.after.flow] at hctx
  rw [TRun.written_advance_free _ (hr.delay.trans hfree.1) (hr.rep.trans hfree.2)] at hctx
  refine ⟨hgot, ?_, ?_, ?_⟩
  · rw [hctx, ← hr.pc]
  · rw [hctx]; exact hr.delay.trans hfree.1
  · rw [hctx]; exact hr.rep.trans hfree.2

theorem State.bra_free {cc : CC} {target : TAddr} (hd : decodeOp w = some (.bra cc target)) :
    s.nothingGot ((s.tickAt tick).tileRow k tick selBRA) k bg ∧
      s.transferred ((s.tickAt tick).tileRow k tick selBRA) k bg (if ccHolds cc (s.ctx k bg).sr then some target else none) ∧
      (((s.tickAt tick).tileRow k tick selBRA).ctx k bg).stack = (s.ctx k bg).stack := by
  obtain ⟨r, hr, hgot, hctx, -⟩ := State.control_of_row tick (sel := selBRA) h (by rw [hd]; rfl) (fun _ => hfree)
    (fun r _ => TRun.controls_flow (.transfer (if ccHolds cc (s.ctx k bg).sr then some target else none)) (by simp))
  refine ⟨hgot, State.transferred_of_ctx hctx hr.pc (hr.rep.trans hfree.2), ?_⟩
  rw [hctx, TCtx.advance_stack]
  exact hr.stack

theorem State.call_free {cc : CC} {target : TAddr} (hd : decodeOp w = some (.call cc target)) :
    s.nothingGot ((s.tickAt tick).tileRow k tick selCALL) k bg ∧
      s.transferred ((s.tickAt tick).tileRow k tick selCALL) k bg (if ccHolds cc (s.ctx k bg).sr then some target else none) ∧
      (((s.tickAt tick).tileRow k tick selCALL).ctx k bg).stack =
        (if ccHolds cc (s.ctx k bg).sr then ((s.ctx k bg).pc + 3) :: (s.ctx k bg).stack.take 7 else (s.ctx k bg).stack) ∧
      (ccHolds cc (s.ctx k bg).sr = true → 8 ≤ (s.ctx k bg).stack.length →
        s.reported ((s.tickAt tick).tileRow k tick selCALL) 0x0607 (tileZone k) k (stackData (s.ctx k bg).pc bg)) := by
  obtain ⟨r, hr, hgot, hctx, hreps⟩ := State.control_of_row tick (sel := selCALL) h (by rw [hd]; rfl) (fun _ => hfree) (by
    intro r _
    dsimp only
    split
    · exact r.controls_push _ _ _ _ (by simp)
    · exact TRun.controls_flow _ (by simp))
  cases hyes : ccHolds cc (s.ctx k bg).sr
  · simp only [hyes, Bool.false_eq_true, if_false] at hctx
    refine ⟨hgot, State.transferred_of_ctx hctx hr.pc (hr.rep.trans hfree.2), ?_, fun hne => by simp at hne⟩
    rw [hctx, TCtx.advance_stack]
    exact hr.stack
  · simp only [hyes, if_true] at hctx hreps
    obtain ⟨hpc, hrep, hstack⟩ := r.push_seq (s.tileEnv k bg) (s.ctx k bg).pc ((s.ctx k bg).pc + 3)
    refine ⟨hgot, State.transferred_of_ctx hctx (hpc.trans hr.pc) (hrep.trans (hr.rep.trans hfree.2)), ?_, fun _ hlen => ?_⟩
    · rw [hctx, TCtx.advance_stack, ← hr.stack]
      exact hstack
    · exact hreps _ (r.push_logs _ _ _ (by rw [hr.stack]; exact hlen))

theorem State.ret_free {cc : CC} (hd : decodeOp w = some (.ret cc)) :
    s.nothingGot ((s.tickAt tick).tileRow k tick selRET) k bg ∧
      s.transferred ((s.tickAt tick).tileRow k tick selRET) k bg
        (if ccHolds cc (s.ctx k bg).sr then (s.ctx k bg).stack.head? else none) ∧
      (((s.tickAt tick).tileRow k tick selRET).ctx k bg).stack =
        (if ccHolds cc (s.ctx k bg).sr then (s.ctx k bg).stack.tail else (s.ctx k bg).stack) ∧
      (ccHolds cc (s.ctx k bg).sr = true → (s.ctx k bg).stack = [] →
        s.reported ((s.tickAt tick).tileRow k tick selRET) 0x0607 (tileZone k) k (stackData (s.ctx k bg).pc bg)) := by
  obtain ⟨r, hr, hgot, hctx, hreps⟩ := State.control_of_row tick (sel := selRET) h (by rw [hd]; rfl) (fun _ => hfree) (by
    intro r _
    dsimp only
    split
    · exact r.controls_pop _ _
    · exact TRun.controls_flow _ (by simp))
  cases hyes : ccHolds cc (s.ctx k bg).sr
  · simp only [hyes, Bool.false_eq_true, if_false] at hctx
    refine ⟨hgot, State.transferred_of_ctx hctx hr.pc (hr.rep.trans hfree.2), ?_, fun hne => by simp at hne⟩
    rw [hctx, TCtx.advance_stack]
    exact hr.stack
  · simp only [hyes, if_true] at hctx hreps
    obtain ⟨hpc, hrep, hstack, hflow⟩ := r.pop_seq (s.tileEnv k bg) (s.ctx k bg).pc
    rw [hflow, hr.stack] at hctx
    refine ⟨hgot, State.transferred_of_ctx hctx (hpc.trans hr.pc) (hrep.trans (hr.rep.trans hfree.2)), ?_, fun _ he => ?_⟩
    · rw [hctx, TCtx.advance_stack, ← hr.stack]
      exact hstack
    · exact hreps _ (r.pop_logs _ _ (hr.stack.trans he))

/-- RTE pops and clears IH, bit 10 of SR, on an empty stack as well (06 R192). -/
theorem State.rte_free (hd : decodeOp w = some .rte) :
    s.nothingGot ((s.tickAt tick).tileRow k tick selRTE) k bg ∧
      s.transferred ((s.tickAt tick).tileRow k tick selRTE) k bg (s.ctx k bg).stack.head? ∧
      (((s.tickAt tick).tileRow k tick selRTE).ctx k bg).stack = (s.ctx k bg).stack.tail ∧
      (((s.tickAt tick).tileRow k tick selRTE).ctx k bg).sr.getLsbD 10 = false ∧
      ((s.ctx k bg).stack = [] →
        s.reported ((s.tickAt tick).tileRow k tick selRTE) 0x0607 (tileZone k) k (stackData (s.ctx k bg).pc bg)) := by
  have mask : ∀ b, b < 4 → (~~~0x400#32).getLsbD b = true := by decide
  obtain ⟨r, hr, hgot, hctx, hreps⟩ := State.control_of_row tick (sel := selRTE) h (by rw [hd]; rfl) (fun _ => hfree) (by
    intro r _
    obtain ⟨ht, hu, hdd, ha, hsr, hflow⟩ := r.controls_pop (s.tileEnv k bg) (s.ctx k bg).pc
    refine ⟨ht, hu, hdd, ha, fun b hb => ?_, hflow⟩
    rw [← hsr b hb, BitVec.getLsbD_or, BitVec.getLsbD_or, BitVec.getLsbD_and, mask b hb, Bool.and_true])
  obtain ⟨hpc, hrep, hstack, hflow⟩ := r.pop_seq (s.tileEnv k bg) (s.ctx k bg).pc
  have hsticky : (r.pop (s.tileEnv k bg) (s.ctx k bg).pc).sticky = r.sticky := by unfold TRun.pop; split <;> rfl
  simp only [hflow, hr.stack] at hctx
  refine ⟨hgot, State.transferred_of_ctx hctx (hpc.trans hr.pc) (hrep.trans (hr.rep.trans hfree.2)), ?_, ?_, fun he => ?_⟩
  · rw [hctx, TCtx.advance_stack, ← hr.stack]
    exact hstack
  · rw [hctx, TCtx.advance_sr, TRun.written_sr]
    simp only [hsticky, BitVec.getLsbD_or, BitVec.getLsbD_and, hr.after.sticky 10 (by decide) (by decide), Bool.or_false,
      show (~~~0x400#32).getLsbD 10 = false by decide, Bool.and_false]
  · exact hreps _ (r.pop_logs _ _ (hr.stack.trans he))

theorem State.dbnz_free {target : TAddr} (hd : decodeOp w = some (.dbnz target)) :
    s.nothingGot ((s.tickAt tick).tileRow k tick selDBNZ) k bg ∧
      (((s.tickAt tick).tileRow k tick selDBNZ).ctx k bg).lc = (s.ctx k bg).lc - 1 ∧
      s.transferred ((s.tickAt tick).tileRow k tick selDBNZ) k bg (if (s.ctx k bg).lc - 1 = 0 then none else some target) := by
  obtain ⟨r, hr, hgot, hctx, -⟩ := State.control_of_row tick (sel := selDBNZ) h (by rw [hd]; rfl) (fun _ => hfree)
    (by intro r _; exact ⟨rfl, rfl, rfl, rfl, fun _ _ => rfl, by simp⟩)
  simp only [ne_eq, ite_not] at hctx
  exact ⟨hgot, by rw [hctx]; rfl, State.transferred_of_ctx hctx hr.pc (hr.rep.trans hfree.2)⟩

/-- TRAP makes bit 3 of EVPEND pending (05 R170). -/
theorem State.trap_free (hd : decodeOp w = some .trap) :
    s.nothingGot ((s.tickAt tick).tileRow k tick selTRAP) k bg ∧
      (((s.tickAt tick).tileRow k tick selTRAP).ctx k bg).evpend.getLsbD 3 = true ∧
      (((s.tickAt tick).tileRow k tick selTRAP).ctx k bg).pc = (s.ctx k bg).pc + 1 := by
  obtain ⟨r, hr, hgot, hctx, -⟩ := State.control_of_row tick (sel := selTRAP) h (by rw [hd]; rfl) (fun _ => hfree)
    (by intro r hr; exact ⟨rfl, rfl, rfl, rfl, fun _ _ => rfl, hr.flow_ne_tend⟩)
  simp only [hr.after.flow] at hctx
  rw [TRun.written_advance_free _ (by exact hr.delay.trans hfree.1) (by exact hr.rep.trans hfree.2)] at hctx
  refine ⟨hgot, ?_, by rw [hctx, ← hr.pc]⟩
  rw [hctx]
  show (if r.satEv then (r.c.evpend ||| 8#32) ||| 4#32 else r.c.evpend ||| 8#32).getLsbD 3 = true
  split <;> simp

end

/-- The count of a repetition on the context (05 R168): a count of 0 skips the next instruction. -/
theorem TCtx.advance_rep {c : TCtx} (hd : c.delay = none) (hr : c.rep = 0) (n : Nat) :
    (c.advance (.rep n)).delay = none ∧ (c.advance (.rep n)).rep = n ∧
      (c.advance (.rep n)).pc = c.pc + (if n = 0 then 2 else 1) := by
  cases n with
  | zero => exact ⟨hd, hr, rfl⟩
  | succ n => exact ⟨hd, rfl, rfl⟩

/-- A REP whose count is `n`, with REPCLAMP set stickily where the count was cut. -/
theorem State.rep_of_row {s : State} {k : Nat} {bg : Bool} {w : PWord} (tick : Nat) {row : RowOp} {n : Nat} {cut : Bool}
    (h : s.tileAt k bg w) (hfree : s.tileFree k bg) (hs : selREP (decodeOp w) = some row)
    (hrun : ∀ env r, row.run env (s.ctx k bg) r =
      { r with flow := .rep n, sticky := r.sticky ||| (if cut then 0x200#32 else 0#32) }) :
    s.nothingGot ((s.tickAt tick).tileRow k tick selREP) k bg ∧
      (((s.tickAt tick).tileRow k tick selREP).ctx k bg).delay = none ∧
      (((s.tickAt tick).tileRow k tick selREP).ctx k bg).rep = n ∧
      (((s.tickAt tick).tileRow k tick selREP).ctx k bg).pc = (s.ctx k bg).pc + (if n = 0 then 2 else 1) ∧
      (cut = true → (((s.tickAt tick).tileRow k tick selREP).ctx k bg).sr.getLsbD 9 = true) := by
  have low : ∀ b, b < 4 → (if cut then 0x200#32 else 0#32).getLsbD b = false := by cases cut <;> decide
  obtain ⟨r, hr, hgot, hctx, -⟩ := State.control_of_row tick h hs (fun _ => hfree) (by
    intro r _
    rw [hrun]
    refine ⟨rfl, rfl, rfl, rfl, fun b hb => ?_, by simp⟩
    simp only [BitVec.getLsbD_or, low b hb, Bool.or_false])
  rw [hrun] at hctx
  obtain ⟨hdelay, hrep, hpc⟩ := TCtx.advance_rep
    (c := TRun.written { r with flow := .rep n, sticky := r.sticky ||| (if cut then 0x200#32 else 0#32) } (s.ctx k bg))
    (hr.delay.trans hfree.1) (hr.rep.trans hfree.2) n
  refine ⟨hgot, by rw [hctx]; exact hdelay, by rw [hctx]; exact hrep, ?_, fun hcut => ?_⟩
  · rw [hctx, ← hr.pc]
    exact hpc
  · rw [hctx, TCtx.advance_sr, TRun.written_sr, hcut]
    simp

/-- REP takes its count from the word or from a register, at most 1,024 (05 R168, 06 R195). -/
theorem State.rep_free {s : State} {k : Nat} {bg : Bool} {w : PWord} (tick : Nat) (h : s.tileAt k bg w)
    (hfree : s.tileFree k bg) (hg : opBits w 12 4 = 1) :
    ∃ n, s.nothingGot ((s.tickAt tick).tileRow k tick selREP) k bg ∧
      n = (if opBits w 11 1 = 0 then opBits w 0 10 + 1 else min 1024 (rd (s.ctx k bg).d (opBits w 0 3)).toNat) ∧
      (((s.tickAt tick).tileRow k tick selREP).ctx k bg).delay = none ∧
      (((s.tickAt tick).tileRow k tick selREP).ctx k bg).rep = n ∧
      (((s.tickAt tick).tileRow k tick selREP).ctx k bg).pc = (s.ctx k bg).pc + (if n = 0 then 2 else 1) ∧
      (opBits w 11 1 = 1 → 1024 < (rd (s.ctx k bg).d (opBits w 0 3)).toNat →
        (((s.tickAt tick).tileRow k tick selREP).ctx k bg).sr.getLsbD 9 = true) := by
  obtain ⟨q, hdec, hq⟩ := decodeOp_rep hg
  rw [hq]
  by_cases himm : opBits w 11 1 = 0
  · rw [if_pos himm] at hdec
    obtain ⟨hgot, hdelay, hrep, hpc, -⟩ := State.rep_of_row (n := opBits w 0 10 + 1) (cut := false) tick h hfree
      (by rw [hdec]; rfl) (fun env r => by simp)
    exact ⟨_, hgot, (if_pos himm).symm, hdelay, hrep, hpc, fun h1 => absurd h1 (by omega)⟩
  · rw [if_neg himm] at hdec
    obtain ⟨hgot, hdelay, hrep, hpc, hcut⟩ := State.rep_of_row (n := min 1024 (s.ctx k bg).d[q].toNat)
      (cut := decide (1024 < (s.ctx k bg).d[q].toNat)) tick h hfree (by rw [hdec]; rfl) (by
        intro env r
        dsimp only
        by_cases hbig : (s.ctx k bg).d[q].toNat > 1024
        · rw [if_pos hbig, decide_eq_true hbig, Nat.min_eq_left (by omega)]
          rfl
        · rw [if_neg hbig, decide_eq_false hbig, Nat.min_eq_right (by omega)]
          simp)
    exact ⟨_, hgot, (if_neg himm).symm, hdelay, hrep, hpc, fun _ hbig => hcut (decide_eq_true hbig)⟩

/-- Settles O8: the sub-operation code selects the instruction, and each moves the program counter and the return stack. -/
theorem tileControl : Obligations.TileControl := by
  unfold Obligations.TileControl
  intro s k tick bg w cc target h hfree hcc htarget
  subst htarget
  refine ⟨_, _, rfl, rfl, fun hg hn => ?nop, fun hg hn => ?bra, fun hg hn => ?call, fun hg hn => ?ret, fun hg hn => ?rte,
    fun hg hn => ?dbnz, fun hg hn => ?trap, fun hg hn => ?undefined, fun hg => ?rep⟩
  case nop => exact ⟨_, rfl, State.nop_free tick h hfree (decodeOp_control_at hg hcc hn)⟩
  case bra => exact ⟨_, rfl, State.bra_free tick h hfree (decodeOp_control_at hg hcc hn)⟩
  case call => exact ⟨_, rfl, State.call_free tick h hfree (decodeOp_control_at hg hcc hn)⟩
  case ret => exact ⟨_, rfl, State.ret_free tick h hfree (decodeOp_control_at hg hcc hn)⟩
  case rte => exact ⟨_, rfl, State.rte_free tick h hfree (decodeOp_control_at hg hcc hn)⟩
  case dbnz => exact ⟨_, rfl, State.dbnz_free tick h hfree (decodeOp_control_at hg hcc hn)⟩
  case trap => exact ⟨_, rfl, State.trap_free tick h hfree (decodeOp_control_at hg hcc hn)⟩
  case undefined =>
    obtain ⟨r, hr, hgot, hctx, hrep⟩ := State.undefined_of_control tick h
      ((decodeOp_control_at hg hcc rfl).trans (controlOf_undefined _ _ hn))
    refine ⟨_, rfl, hgot, ?_, hrep⟩
    rw [hctx, TRun.written_advance_free _ (by exact hr.delay.trans hfree.1) (by exact hr.rep.trans hfree.2), ← hr.pc]
    rfl
  case rep =>
    obtain ⟨n, hrep⟩ := State.rep_free tick h hfree hg
    exact ⟨_, n, rfl, hrep⟩

/-! Delay slots and repetitions. -/

/-- What a row does in a delay slot or under REP with an instruction that is illegal there: its moves, and a log entry (05 R167). -/
def RowOp.blocked (row : RowOp) (w : PWord) : RowOp :=
  ⟨if row.rule = .tend then .free else row.rule, false, fun env old r => r.log 0x0608 (illegalData old.pc env.bg w)⟩

theorem Tile.exec_blocked (env : TEnv) (entryBg : TAddr) (tick : Nat) (w : PWord) {row : RowOp} {t : Tile}
    (hp : row.placed = true) (hb : ¬((t.ctx env.bg).delay = none ∧ (t.ctx env.bg).rep = 0)) :
    t.exec env entryBg tick w row = t.exec env entryBg tick w (row.blocked w) := by
  have hblock : (row.placed && ((t.ctx env.bg).delay.isSome || (t.ctx env.bg).rep != 0)) = true := by
    rw [hp, Bool.true_and, Bool.or_eq_true, bne_iff_ne, Option.isSome_iff_ne_none]
    exact not_and_or.mp hb
  unfold Tile.exec
  simp only [hblock, if_true]
  rfl

/-- A row on a tile in a delay slot or under REP that takes an instruction illegal there. -/
theorem State.tileRow_blocked {s : State} {k : Nat} {bg : Bool} {w : PWord} (tick : Nat) {sel : Option TOp → Option RowOp}
    {row : RowOp} (h : s.tileAt k bg w) (hs : sel (decodeOp w) = some row) (hp : row.placed = true) (hb : ¬s.tileFree k bg) :
    (s.tickAt tick).tileRow k tick sel = (s.tickAt tick).tileRow k tick (fun _ => some (row.blocked w)) := by
  have hw : (s.tile k).pLive.get ((s.tile k).ctx (s.tileEnv k bg).bg).pc.toNat = w := h.word
  have hrow := Tile.row_clean (s.tileEnv k bg) (((s.workOf k).map (·.2.entryBg)).getD 0) tick sel (s.tile k) row h.quiet h.clean
    (by rw [hw]; exact hs)
  rw [hw, Tile.exec_blocked (s.tileEnv k bg) _ _ _ hp (by exact hb)] at hrow
  have hblocked := Tile.row_clean (s.tileEnv k bg) (((s.workOf k).map (·.2.entryBg)).getD 0) tick
    (fun _ => some (row.blocked w)) (s.tile k) (row.blocked w) h.quiet h.clean rfl
  rw [hw] at hblocked
  rw [State.tileRow_of_row (s := s.tickAt tick) h.task hrow, State.tileRow_of_row (s := s.tickAt tick) h.task hblocked]

/-- An instruction that is illegal in delay slots and under REP is not carried out there and is logged ILLEGAL. -/
theorem State.control_blocked {s : State} {k : Nat} {bg : Bool} {w : PWord} (tick : Nat) {sel : Option TOp → Option RowOp}
    {row : RowOp} (h : s.tileAt k bg w) (hs : sel (decodeOp w) = some row) (hp : row.placed = true) (hb : ¬s.tileFree k bg) :
    ∃ r, s.Sequenced k bg r ∧ s.nothingGot ((s.tickAt tick).tileRow k tick sel) k bg ∧
      ((s.tickAt tick).tileRow k tick sel).ctx k bg = (r.written (s.ctx k bg)).advance .next ∧
      s.reported ((s.tickAt tick).tileRow k tick sel) 0x0608 (tileZone k) k (illegalData (s.ctx k bg).pc bg w) := by
  rw [State.tileRow_blocked tick h hs hp hb]
  obtain ⟨r, hr, hgot, hctx, hreps⟩ := State.control_of_row tick (sel := fun _ => some (row.blocked w)) h rfl
    (fun hfalse => by simp [RowOp.blocked] at hfalse) (fun r hr => r.controls_log _ _ hr.flow_ne_tend)
  refine ⟨r, hr, hgot, ?_, hreps _ (List.mem_append_right _ (List.mem_singleton_self _))⟩
  rw [hctx, ← hr.after.flow]
  rfl

/-- Settles O10: the program counter on NOP in each place, and BRA where it is illegal. -/
theorem tileDelayAndRepeat : Obligations.TileDelayAndRepeat := by
  unfold Obligations.TileDelayAndRepeat
  intro s k tick bg w h hg
  refine ⟨_, rfl, fun hn => ?nop, fun hn hb => ?bra⟩
  case nop =>
    obtain ⟨r, hr, -, hctx, -⟩ := State.control_of_row tick (sel := selNOP) h
      (by rw [decodeOp_control_at hg (cc := ((w.extractLsb' 48 16).extractLsb' 4 4).toFin) (opBits_eq w 4 4 (by decide)) hn]; rfl)
      (fun hp => by simp at hp) (fun r hr => TRun.Controls.refl hr.flow_ne_tend)
    simp only [hr.after.flow] at hctx
    refine ⟨_, rfl, fun target hrep hdelay => ?_, fun target hrep hdelay => ?_, fun hrep => ?_, fun hrep hdelay => ?_⟩
    · rw [hctx, TCtx.advance_next_delay_two (c := r.written (s.ctx k bg)) (target := target) (hr.rep.trans_le hrep) (hr.delay.trans hdelay), ← hr.pc]
      exact ⟨rfl, rfl⟩
    · rw [hctx, TCtx.advance_next_delay_one (c := r.written (s.ctx k bg)) (target := target) (hr.rep.trans_le hrep) (hr.delay.trans hdelay), ← hr.pc]
      exact ⟨rfl, rfl⟩
    · rw [hctx, TCtx.advance_next_repeats (c := r.written (s.ctx k bg)) (hrep.trans_eq hr.rep.symm), ← hr.pc, ← hr.rep]
      exact ⟨rfl, rfl⟩
    · rw [hctx, TCtx.advance_next_last (c := r.written (s.ctx k bg)) (hr.rep.trans_le hrep.le) (hr.delay.trans hdelay), ← hr.pc]
      exact ⟨rfl, rfl⟩
  case bra =>
    obtain ⟨r, hr, hgot, hctx, hrep⟩ := State.control_blocked tick (sel := selBRA) h
      (by rw [decodeOp_control_at hg (cc := ((w.extractLsb' 48 16).extractLsb' 4 4).toFin) (opBits_eq w 4 4 (by decide)) hn]; rfl)
      rfl hb
    refine ⟨_, rfl, hgot, hrep, fun target hrep hdelay => ?_⟩
    rw [hctx, TCtx.advance_next_delay_two (c := r.written (s.ctx k bg)) (target := target) (hr.rep.trans_le hrep) (hr.delay.trans hdelay)]

end Sys2Proof.Machine
end

section
/-! SUPPORT. MOVC, LDIW, DITH and undefined groups (06 R183, R203 to R205): settles O11. -/
namespace Sys2Proof.Machine

/-! Codes of control registers. -/

/-- The codes 0 to 29 name the control registers of the table, the codes 30 and 31 none (06 R203). -/
theorem cregOf_eq_crTable (c : BitVec 5) : cregOf c = crTable[c.toNat]? := by revert c; decide

theorem ne_d_of_mem_crTable {n : Nat} {q : TReg} (h : crTable[n]? = some q) (i : Fin 8) : q ≠ .d i := by
  have hmem : ∀ q ∈ crTable, ∀ i : Fin 8, q ≠ .d i := by decide
  exact hmem q (List.mem_of_getElem? h) i

theorem crTable_undefined {n : Nat} (h : 30 ≤ n) : crTable[n]? = none := List.getElem?_eq_none_iff.mpr h

theorem decodeOp_movc {w : PWord} {d : Fin 8} (hg : opBits w 12 4 = 9) (hd : opBits w 8 3 = d.val) :
    decodeOp w = some (.movc (decide (opBits w 11 1 = 1)) d crTable[opBits w 3 5]?) := by
  unfold decodeOp
  simp only [group_toNat_eq hg, getLsbD_eq_opBits w (show 11 < 16 by decide), toFin_eq_of_opBits hd (by decide),
    cregOf_eq_crTable, ← opBits_eq w 3 5 (by decide)]

theorem decodeOp_ldiw {w : PWord} {d : Fin 8} (hg : opBits w 12 4 = 10) (hd : opBits w 8 3 = d.val) :
    decodeOp w = some (.ldiw (if opBits w 11 1 = 1 then crTable[opBits w 6 5]? else some (.d d)) (w.extractLsb' 16 32)) := by
  unfold decodeOp
  simp only [group_toNat_eq hg, getLsbD_eq_opBits w (show 11 < 16 by decide), toFin_eq_of_opBits hd (by decide),
    cregOf_eq_crTable, ← opBits_eq w 6 5 (by decide), decide_eq_true_eq]

theorem decodeOp_dith {w : PWord} {d : Fin 8} (hg : opBits w 12 4 = 11) (hd : opBits w 8 3 = d.val) :
    decodeOp w = some (.dith d ((w.extractLsb' 48 16).extractLsb' 0 8)) := by
  unfold decodeOp
  simp only [group_toNat_eq hg, toFin_eq_of_opBits hd (by decide)]

/-- The groups 12 to 15 have no operations (06 R185). -/
theorem decodeOp_undefined {w : PWord} (hg : 12 ≤ opBits w 12 4) : decodeOp w = none := by
  obtain ⟨n, hn⟩ := Nat.exists_eq_add_of_le' hg
  unfold decodeOp
  simp only [group_toNat_eq hn]

/-! A register written by an operation. -/

/-- The advance of the program counter changes sequencing alone. -/
theorem TCtx.advance_eq (c : TCtx) (f : Flow) :
    ∃ pc delay rep, c.advance f = { c with pc := pc, delay := delay, rep := rep } := by
  unfold TCtx.advance
  cases f with
  | next =>
    dsimp only
    split
    · exact ⟨_, _, _, rfl⟩
    · split
      · exact ⟨_, _, _, rfl⟩
      · split <;> exact ⟨_, _, _, rfl⟩
  | transfer t => exact ⟨_, _, _, rfl⟩
  | rep n => cases n <;> exact ⟨_, _, _, rfl⟩
  | tend => exact ⟨_, _, _, rfl⟩

/-- The bits of a status word that tile code writes: TASK and the reserved bits stay (05 R155, 06 R203). -/
theorem srWritten_getLsbD (v sr : BitVec 32) {b : Nat} (hb : b < 32) :
    ((v &&& 0x37FF#32) ||| (sr &&& 0x800#32)).getLsbD b =
      if b = 11 then sr.getLsbD 11 else if b < 14 then v.getLsbD b else false := by
  have hmask : ∀ b, b < 32 → (0x37FF#32).getLsbD b = (decide (b < 14) && !decide (b = 11)) ∧
      (0x800#32).getLsbD b = decide (b = 11) := by decide
  obtain ⟨h1, h2⟩ := hmask b hb
  rw [BitVec.getLsbD_or, BitVec.getLsbD_and, BitVec.getLsbD_and, h1, h2]
  split
  · next h => subst h; simp
  · next h => by_cases h14 : b < 14 <;> simp [h, h14]

section
variable {s : State} {k : Nat} {bg : Bool} {w : PWord} (tick : Nat) {sel : Option TOp → Option RowOp} {row : RowOp}
  (h : s.tileAt k bg w) (hs : sel (decodeOp w) = some row)
include h hs

/-- A row that writes a register and no flag. -/
theorem State.crGot_of_row {q : TReg} {v : DWord} (hp : row.placed = false)
    (hrun : ∀ env r, row.run env (s.ctx k bg) r = { r with c := r.c.writeReg q v }) :
    s.crGot ((s.tickAt tick).tileRow k tick sel) k bg v q ∧
      (((s.tickAt tick).tileRow k tick sel).ctx k bg).a = (s.landed k bg).a ∧
      ((∀ i, q ≠ .d i) → (((s.tickAt tick).tileRow k tick sel).ctx k bg).d = (s.landed k bg).d) := by
  obtain ⟨r, -, hmoved, hres⟩ := State.tile_result tick sel row h hs (fun hb => absurd hb (by simp [hp]))
  have hr := State.afterMoves_of_moved hmoved
  rw [hrun] at hres
  obtain ⟨hctx, -⟩ := hres _ rfl hr.uncorr hr.flow_ne_tend hr.t
  obtain ⟨pc, delay, rep, hadv⟩ := TCtx.advance_eq
    (TRun.written { r with c := r.c.writeReg q v } (s.ctx k bg)) r.flow
  have hc := hctx.trans hadv
  refine ⟨?got, ?a, fun hq => ?d⟩
  case a =>
    rw [hc, ← hr.a]
    cases q <;> rfl
  case d =>
    rw [hc, ← hr.d]
    cases q
    case d i => exact absurd rfl (hq i)
    all_goals rfl
  case got =>
    cases q
    case sr =>
      intro b hb h8
      rw [hc]
      show (((v &&& 0x37FF#32) ||| (r.c.sr &&& 0x800#32)) ||| r.sticky).getLsbD b = _
      rw [BitVec.getLsbD_or, hr.sticky b hb h8, Bool.or_false, srWritten_getLsbD v r.c.sr hb, hr.sr]
    case evpend =>
      have hmask : (0xC#32).getLsbD 3 = true ∧ (4#32).getLsbD 3 = false := by decide
      show (((s.tickAt tick).tileRow k tick sel).ctx k bg).evpend.getLsbD 3 = _
      rw [hc]
      show (if r.satEv then (r.c.evpend &&& ~~~(v &&& 0xC#32)) ||| 4#32 else r.c.evpend &&& ~~~(v &&& 0xC#32)).getLsbD 3 = _
      rw [show r.c.evpend = (s.landed k bg).evpend from hmoved.evpend]
      cases r.satEv <;>
        simp only [if_true, if_false, Bool.false_eq_true, BitVec.getLsbD_or, BitVec.getLsbD_and, BitVec.getLsbD_not, hmask.1,
          hmask.2, Bool.and_true, Bool.or_false, Nat.reduceLT, decide_true, Bool.true_and]
    case d i =>
      show (((s.tickAt tick).tileRow k tick sel).ctx k bg).d = _
      rw [hc, ← hr.d]
      rfl
    case amode | lc | evmask | evvec => exact (congrArg _ hc).trans rfl
    all_goals
      simp only [State.crGot, hc]
      simp [TCtx.writeReg, TRun.written]

/-- A row that writes a data register and no flag. -/
theorem State.dSet_of_row {i : Fin 8} {v : DWord} (hp : row.placed = false)
    (hrun : ∀ r, row.run (s.tileEnv k bg) (s.ctx k bg) r = r.putD i v) :
    (((s.tickAt tick).tileRow k tick sel).ctx k bg).d = (s.landed k bg).d.set i v ∧
      (((s.tickAt tick).tileRow k tick sel).ctx k bg).a = (s.landed k bg).a ∧
      s.znKept ((s.tickAt tick).tileRow k tick sel) k bg ∧
      vf (((s.tickAt tick).tileRow k tick sel).ctx k bg).sr = vf (s.landed k bg).sr ∧
      cf (((s.tickAt tick).tileRow k tick sel).ctx k bg).sr = cf (s.landed k bg).sr := by
  obtain ⟨r, -, hmoved, hres⟩ := State.tile_result tick sel row h hs (fun hb => absurd hb (by simp [hp]))
  have hr := State.afterMoves_of_moved hmoved
  rw [hrun] at hres
  obtain ⟨hctx, -⟩ := hres _ rfl hr.uncorr hr.flow_ne_tend hr.t
  have flag : ∀ b, b < 4 → (((s.tickAt tick).tileRow k tick sel).ctx k bg).sr.getLsbD b = (s.landed k bg).sr.getLsbD b := by
    intro b hb
    rw [hctx, TCtx.advance_sr, TRun.written_sr, TRun.putD_sr, TRun.putD_sticky, hr.sr, BitVec.getLsbD_or,
      hr.sticky b (by omega) (by omega), Bool.or_false]
  refine ⟨?_, ?_, ⟨flag 0 (by decide), flag 1 (by decide)⟩, flag 2 (by decide), flag 3 (by decide)⟩
  · rw [hctx, TCtx.advance_d, TRun.written_d, TRun.putD_d, hr.d]
  · rw [hctx, TCtx.advance_a, TRun.written_a, TRun.putD_a, hr.a]

/-- A row that only logs ILLEGAL, with the tile's word. -/
theorem State.illegal_of_row (hp : row.placed = false)
    (hrun : ∀ r, row.run (s.tileEnv k bg) (s.ctx k bg) r = r.illegal (s.tileEnv k bg) (s.ctx k bg)) :
    s.nothingGot ((s.tickAt tick).tileRow k tick sel) k bg ∧
      s.reported ((s.tickAt tick).tileRow k tick sel) 0x0608 (tileZone k) k (illegalData (s.ctx k bg).pc bg w) := by
  obtain ⟨r, hr, hgot, -, hreps⟩ := State.control_of_row tick h hs (fun hb => absurd hb (by simp [hp]))
    (fun r hr => hrun r ▸ r.controls_log _ _ hr.flow_ne_tend)
  have hword : r.t.pLive.get (s.ctx k bg).pc.toNat = w := by rw [hr.after.t]; exact h.word
  refine ⟨hgot, ?_⟩
  rw [← hword]
  exact hreps _ (by rw [hrun]; exact List.mem_append_right _ (List.mem_singleton_self _))

end

/-- Settles O11: the code of the word names the register, and each instruction writes it as its width allows. -/
theorem tileRegisters : Obligations.TileRegisters := by
  unfold Obligations.TileRegisters
  intro s k tick bg w d h hd
  refine ⟨fun hg hb r hr => ?read, fun hg hb r hr => ?write, fun hg hr => ?movcIllegal, fun hg hb => ?ldiwData,
    fun hg hb r hr => ?ldiw, fun hg hb hr => ?ldiwIllegal, fun hg => ?dith, fun hg => ?undefined⟩
  case read =>
    exact ⟨_, rfl, State.dSet_of_row tick (sel := selMOVC) h (by rw [decodeOp_movc hg hd, hb, hr]; rfl) rfl (fun _ => rfl)⟩
  case write =>
    obtain ⟨hgot, ha, hdd⟩ := State.crGot_of_row tick (sel := selMOVC) h (by rw [decodeOp_movc hg hd, hb, hr]; rfl) rfl
      (fun _ _ => rfl)
    exact ⟨_, rfl, hgot, ha, hdd (ne_d_of_mem_crTable hr)⟩
  case movcIllegal =>
    exact ⟨_, rfl, State.illegal_of_row tick (sel := selMOVC) h
      (by rw [decodeOp_movc hg hd, crTable_undefined hr]; rfl) rfl (fun _ => rfl)⟩
  case ldiwData =>
    obtain ⟨hgot, ha, -⟩ := State.crGot_of_row tick (sel := selLDIW) h (by rw [decodeOp_ldiw hg hd, if_neg (by omega)]; rfl) rfl
      (fun _ _ => rfl)
    exact ⟨_, rfl, hgot, ha⟩
  case ldiw =>
    obtain ⟨hgot, ha, hdd⟩ := State.crGot_of_row tick (sel := selLDIW) h (by rw [decodeOp_ldiw hg hd, if_pos hb, hr]; rfl) rfl
      (fun _ _ => rfl)
    exact ⟨_, rfl, hgot, ha, hdd (ne_d_of_mem_crTable hr)⟩
  case ldiwIllegal =>
    exact ⟨_, rfl, State.illegal_of_row tick (sel := selLDIW) h
      (by rw [decodeOp_ldiw hg hd, if_pos hb, crTable_undefined hr]; rfl) rfl (fun _ => rfl)⟩
  case dith =>
    obtain ⟨hdd, ha, hzn, -⟩ := State.dSet_of_row tick (sel := selDITH) h (by rw [decodeOp_dith hg hd]; rfl) rfl (fun _ => rfl)
    rw [← opBits_eq w 0 8 (by decide)] at hdd
    exact ⟨_, _, _, _, _, rfl, rfl, rfl, rfl, rfl, hdd, ha, hzn⟩
  case undefined =>
    exact ⟨_, rfl, State.illegal_of_row tick (sel := selUNDEF) h (by rw [decodeOp_undefined hg]; rfl) rfl (fun _ => rfl)⟩

end Sys2Proof.Machine
end

section
/-! SUPPORT. What every tile instruction leaves alone (05 R163): settles O14. -/
namespace Sys2Proof.Machine

/-! A read of a sparse memory after a write elsewhere, in any form of the memory. -/

theorem Sparse.get_set_other {w : Nat} (m : Sparse w) {a b : Nat} (v : BitVec w) (h : a ≠ b) : (m.set a v).get b = m.get b := by
  induction m with
  | nil =>
    unfold Sparse.set
    split
    · rfl
    · exact if_neg h
  | cons p r ih =>
    obtain ⟨k, u⟩ := p
    have hcons : ∀ (x : Nat) (y : BitVec w) (q : Sparse w), Sparse.get ((x, y) :: q) b = if x = b then y else q.get b :=
      fun _ _ _ => rfl
    unfold Sparse.set
    split
    · next hk =>
      subst hk
      split
      · rw [hcons, if_neg h]
      · rw [hcons, hcons, if_neg h, if_neg h]
    · split
      · split
        · rfl
        · rw [hcons, if_neg h]
      · rw [hcons, hcons, ih]

theorem Tile.applyStores_x_get (t : Tile) (ws : List (TMem × TAddr × DWord)) {a : Nat}
    (h : ∀ st ∈ ws, st.1 = .y ∨ st.2.1.toNat ≠ a) : (t.applyStores ws).x.get a = t.x.get a := by
  unfold Tile.applyStores
  induction ws generalizing t with
  | nil => rfl
  | cons st ws ih =>
    rw [List.foldl_cons, ih _ (fun x hx => h x (List.mem_cons_of_mem _ hx))]
    obtain ⟨m, ad, v⟩ := st
    have hst := h ⟨m, ad, v⟩ List.mem_cons_self
    cases m
    case y => rfl
    all_goals exact Sparse.get_set_other _ _ (hst.resolve_left (by simp))

theorem Tile.applyStores_y_get (t : Tile) (ws : List (TMem × TAddr × DWord)) {a : Nat}
    (h : ∀ st ∈ ws, st.1 ≠ .y ∨ st.2.1.toNat ≠ a) : (t.applyStores ws).y.get a = t.y.get a := by
  unfold Tile.applyStores
  induction ws generalizing t with
  | nil => rfl
  | cons st ws ih =>
    rw [List.foldl_cons, ih _ (fun x hx => h x (List.mem_cons_of_mem _ hx))]
    obtain ⟨m, ad, v⟩ := st
    have hst := h ⟨m, ad, v⟩ List.mem_cons_self
    cases m
    case y => exact Sparse.get_set_other _ _ (hst.resolve_left (by simp))
    all_goals rfl

/-! The instruction on its tile. -/

/-- From `t` to `t'` of the memories only the words of the stores changed, and of the contexts only that of task `bg`. -/
structure Tile.Framed (t t' : Tile) (bg : Bool) (ws : List (TMem × TAddr × DWord)) : Prop where
  p : t'.pLive = t.pLive
  ps : t'.pShadow = t.pShadow
  ctx : t'.ctx (!bg) = t.ctx (!bg)
  x : t'.x = (t.applyStores ws).x
  y : t'.y = (t.applyStores ws).y

theorem Tile.applyStores_keeps (t : Tile) (ws : List (TMem × TAddr × DWord)) :
    (t.applyStores ws).pLive = t.pLive ∧ (t.applyStores ws).pShadow = t.pShadow ∧ (t.applyStores ws).fg = t.fg ∧
      (t.applyStores ws).bg = t.bg := by
  unfold Tile.applyStores
  induction ws generalizing t with
  | nil => exact ⟨rfl, rfl, rfl, rfl⟩
  | cons st ws ih =>
    obtain ⟨h1, h2, h3, h4⟩ := ih (t.setWord st.1 st.2.1 st.2.2)
    obtain ⟨m, ad, v⟩ := st
    rw [List.foldl_cons, h1, h2, h3, h4]
    cases m <;> exact ⟨rfl, rfl, rfl, rfl⟩

/-- A tile with its stores in memory and a context replaced. -/
theorem Tile.framed_writeback (t : Tile) (bg : Bool) (ws : List (TMem × TAddr × DWord)) (c : TCtx) :
    t.Framed ((t.applyStores ws).setCtx bg c) bg ws := by
  obtain ⟨h1, h2, h3, h4⟩ := t.applyStores_keeps ws
  cases bg
  · exact ⟨h1, h2, h4, rfl, rfl⟩
  · exact ⟨h1, h2, h3, rfl, rfl⟩

/-- Ending a task or parking, once nothing is left to settle, changes no memory and no other context. -/
theorem Tile.Framed.tend {t t' : Tile} {bg : Bool} {ws : List (TMem × TAddr × DWord)} (h : t.Framed t' bg ws)
    (entryBg : TAddr) (tick : Nat) (hl : (t'.ctx bg).loads = []) (hs : (t'.ctx bg).stores = []) :
    t.Framed (t'.tend bg entryBg tick) bg ws := by
  rw [Tile.tend_of_settled entryBg tick hl hs]
  obtain ⟨h1, h2, h3, h4, h5⟩ := h
  cases bg <;> exact ⟨h1, h2, h3, h4, h5⟩

theorem Tile.Framed.counted {t t' : Tile} {bg : Bool} {ws : List (TMem × TAddr × DWord)} (h : t.Framed t' bg ws) :
    t.Framed (t'.counted bg) bg ws := by
  obtain ⟨h1, h2, h3, h4, h5⟩ := h
  cases bg <;> exact ⟨h1, h2, h3, h4, h5⟩

/-- An operation that neither changes the tile nor ends the task, on a tile without bit errors. -/
def RowOp.Tame (row : RowOp) : Prop :=
  ∀ env old (r : TRun), r.t.ecc = [] → r.uncorr = false → r.flow = .next →
    (row.run env old r).t = r.t ∧ (row.run env old r).uncorr = false ∧ (row.run env old r).flow ≠ .tend

/-- An instruction that does not end its task: the writeback, and the instruction counted. -/
theorem Tile.exec_goes_on (env : TEnv) (entryBg : TAddr) (tick : Nat) (w : PWord) {row : RowOp} {t : Tile}
    (hb : (row.placed && ((t.ctx env.bg).delay.isSome || (t.ctx env.bg).rep != 0)) = false) (r : TRun)
    (hr : row.run env (t.ctx env.bg) ((t.started env.bg).moves env (t.ctx env.bg) w row.rule) = r)
    (hu : r.uncorr = false) (hf : r.flow ≠ .tend) (hp : env.bg = true → r.t.parkPend = false) :
    (t.exec env entryBg tick w row).1 =
      ((r.t.applyStores (t.ctx env.bg).stores).setCtx env.bg ((r.written (t.ctx env.bg)).advance r.flow)).counted env.bg := by
  unfold Tile.exec
  simp only [hb, Bool.false_eq_true, if_false]
  unfold Tile.started at hr
  rw [hr]
  simp only [hu, hf, Bool.false_eq_true, if_false]
  obtain ⟨bg, freeIx, seed, mediaTime, built⟩ := env
  cases bg
  · rfl
  · have hs : ((r.t.applyStores (t.ctx true).stores).setCtx true ((r.written (t.ctx true)).advance r.flow)).parkPend = false := by
      rw [show ∀ (u : Tile) c, (u.setCtx true c).parkPend = u.parkPend from fun _ _ => rfl, Tile.applyStores_parkPend]
      exact hp rfl
    simp only [TRun.written] at hs
    simp only [if_true, Bool.true_and, hs, Bool.false_and, Bool.false_eq_true, if_false]
    rfl

/-- A tame instruction that its sequencing allows. -/
theorem Tile.exec_framed (env : TEnv) (entryBg : TAddr) (tick : Nat) (w : PWord) {row : RowOp} {t : Tile} (hrow : row.Tame)
    (hb : (row.placed && ((t.ctx env.bg).delay.isSome || (t.ctx env.bg).rep != 0)) = false) (he : t.ecc = [])
    (hp : env.bg = true → t.parkPend = false) :
    t.Framed (t.exec env entryBg tick w row).1 env.bg (t.ctx env.bg).stores := by
  have hmoved := TRun.moved_moves env (t.ctx env.bg) w row.rule (t.started env.bg) he
  have ht : ((t.started env.bg).moves env (t.ctx env.bg) w row.rule).t = t := hmoved.t
  obtain ⟨h1, h2, h3⟩ := hrow env (t.ctx env.bg) _ (by rw [ht]; exact he) hmoved.uncorr hmoved.flow
  rw [Tile.exec_goes_on env entryBg tick w hb _ rfl h2 h3 (by rw [h1, ht]; exact hp), h1, ht]
  exact (t.framed_writeback _ _ _).counted

/-- END outside delay slots and repetitions. -/
theorem Tile.afterEnd_framed (t : Tile) (bg : Bool) (entryBg : TAddr) (tick : Nat) :
    t.Framed (t.afterEnd bg entryBg tick) bg (t.ctx bg).stores := by
  obtain ⟨h1, h2, h3, h4⟩ := t.applyStores_keeps (t.ctx bg).stores
  cases bg
  · exact ⟨h1, h2, h4, rfl, rfl⟩
  · exact ⟨h1, h2, h3, rfl, rfl⟩

theorem RowOp.blocked_tame (row : RowOp) (w : PWord) : (row.blocked w).Tame :=
  fun _ _ _ _ hu hf => ⟨rfl, hu, by
    show _ ≠ Flow.tend
    simp only [RowOp.blocked, TRun.log, hf]
    decide⟩

/-- A row of the instruction set takes END, or an operation that is tame. -/
def selTame (sel : Option TOp → Option RowOp) : Prop :=
  ∀ op row, sel op = some row → row.Tame ∨ selEND (some .tend) = some row

/-- Any instruction of the instruction set on its tile. -/
theorem Tile.exec_framed_of_sel (env : TEnv) (entryBg : TAddr) (tick : Nat) (w : PWord) {sel : Option TOp → Option RowOp}
    {op : Option TOp} {row : RowOp} {t : Tile} (hsel : selTame sel) (hs : sel op = some row) (he : t.ecc = [])
    (hp : env.bg = true → t.parkPend = false) :
    t.Framed (t.exec env entryBg tick w row).1 env.bg (t.ctx env.bg).stores := by
  by_cases hb : (row.placed && ((t.ctx env.bg).delay.isSome || (t.ctx env.bg).rep != 0)) = true
  · rw [Bool.and_eq_true, Bool.or_eq_true, bne_iff_ne, Option.isSome_iff_ne_none] at hb
    rw [Tile.exec_blocked env entryBg tick w hb.1 (not_and_or.mpr hb.2)]
    exact Tile.exec_framed env entryBg tick w (row.blocked_tame w) rfl he hp
  · rcases hsel op row hs with htame | hend
    · exact Tile.exec_framed env entryBg tick w htame (by simpa using hb) he hp
    · have hplaced : row.placed = true := by obtain rfl := Option.some.inj hend; rfl
      rw [hplaced, Bool.true_and, Bool.or_eq_true, bne_iff_ne, Option.isSome_iff_ne_none, not_or, not_not, not_not] at hb
      rw [Tile.exec_tend env entryBg tick w t hend hb.1 hb.2]
      exact t.afterEnd_framed _ _ _

/-! The rows of the instruction set. -/

/-- From `r` to `r'` tile, error and flow stay: what operations on data do. -/
structure TRun.Kept (r r' : TRun) : Prop where
  t : r'.t = r.t
  uncorr : r'.uncorr = r.uncorr
  flow : r'.flow = r.flow

theorem TRun.Kept.trans {a b c : TRun} (h : a.Kept b) (k : b.Kept c) : a.Kept c :=
  ⟨k.t.trans h.t, k.uncorr.trans h.uncorr, k.flow.trans h.flow⟩

theorem TRun.Moved.kept {r r' : TRun} (h : r.Moved r') : r.Kept r' := ⟨h.t, h.uncorr, h.flow⟩

theorem TRun.kept_putAcc (r : TRun) (i : Fin 4) (v : Int) : r.Kept (r.putAcc i v) := by
  rw [TRun.putAcc_eq]
  exact ⟨rfl, rfl, rfl⟩

theorem TRun.kept_flags (r : TRun) (f : FlagSet) : r.Kept (r.flags f) := ⟨rfl, rfl, rfl⟩

theorem TRun.kept_putD (r : TRun) (i : Fin 8) (v : DWord) : r.Kept (r.putD i v) := ⟨rfl, rfl, rfl⟩

theorem TRun.kept_writeReg (r : TRun) (q : TReg) (v : DWord) : r.Kept { r with c := r.c.writeReg q v } := ⟨rfl, rfl, rfl⟩

theorem TRun.kept_tapPost (r : TRun) (q : TReg) (v : TAddr) : r.Kept (r.tapPost q v) := by
  unfold TRun.tapPost
  split <;> exact ⟨rfl, rfl, rfl⟩

theorem RowOp.tame_of_kept {row : RowOp} (h : ∀ env old (r : TRun), r.t.ecc = [] → r.Kept (row.run env old r)) : row.Tame := by
  intro env old r he hu hf
  obtain ⟨h1, h2, h3⟩ := h env old r he
  exact ⟨h1, h2.trans hu, by rw [h3, hf]; decide⟩

theorem RowOp.tame_of_controls {row : RowOp} (h : ∀ env old (r : TRun), r.flow = .next → r.Controls (row.run env old r)) : row.Tame := by
  intro env old r _ hu hf
  have hc := h env old r hf
  exact ⟨hc.t, hc.uncorr.trans hu, hc.flow⟩

theorem mulRow_tame (i : Fin 4) (p q : Fin 8) (f : Int → Int → Int) : (mulRow i p q f).Tame :=
  RowOp.tame_of_kept (fun _ _ r _ => (r.kept_putAcc i _).trans (TRun.kept_flags _ _))

theorem accRow_tame (i : Fin 4) (f : TCtx → Int) : (accRow i f).Tame :=
  RowOp.tame_of_kept (fun _ _ r _ => (r.kept_putAcc i _).trans (TRun.kept_flags _ _))

theorem shiftRow_tame (op : ShiftOp) (amt : ShiftAmt) (dd : Fin 8) : (shiftRow op amt dd).Tame :=
  RowOp.tame_of_kept (fun _ _ _ _ => ⟨rfl, rfl, rfl⟩)

theorem aluRow_tame (op : AluOp) (dd ds : Fin 8) : (aluRow op dd ds).Tame :=
  RowOp.tame_of_kept (fun _ _ r _ => by
    unfold aluRow
    dsimp only
    split <;> exact ⟨rfl, rfl, rfl⟩)

/-- The control instructions that may stand anywhere, and those that may not stand in a delay slot or under REP (05 R167). -/
def controlSels : List (Option TOp → Option RowOp) :=
  [selNOP, selEND, selBRA, selCALL, selRET, selRTE, selDBNZ, selTRAP, selREP]
/-- The single multiplies (06 R196). -/
def mulSels : List (Option TOp → Option RowOp) := [selMPY, selMAC, selMSU, selMPYN]
/-- The data ALU operations (06 R201). -/
def aluSels : List (Option TOp → Option RowOp) :=
  [selMOV, selADD, selSUB, selADDS, selSUBS, selAND, selOR, selXOR, selNOT, selNEG, selABS, selCMP, selMIN, selMAX, selTST]
/-- The shifts (06 R202). -/
def shiftSels : List (Option TOp → Option RowOp) := [selLSL, selASR, selLSR, selASLS]
/-- The operations that write an accumulator (06 R200). -/
def accSels : List (Option TOp → Option RowOp) := [selCLR, selMOVA, selADDA, selSUBA, selNEGA, selABSA, selASHA]
/-- The remaining operations on registers, and the undefined one (06 R183, R199 to R205). -/
def registerSels : List (Option TOp → Option RowOp) := [selEXT, selLDA, selCMPA, selMOVC, selLDIW, selDITH, selUNDEF]

/-- The instructions that each row of the instruction set takes, in the order of the rows. -/
def tileSels : List (Option TOp → Option RowOp) :=
  controlSels ++ ([selDMAC] ++ (mulSels ++ ([selTAP] ++ (aluSels ++ (shiftSels ++ (accSels ++ registerSels))))))

theorem tileRows_exec : List.Forall₂
    (fun f sel => ∀ k tick s, exec (f k tick) s = .next ((s.tickAt tick).tileRow k tick sel)) tileRows tileSels := by
  show List.Forall₂ _ _ [selNOP, selEND, selBRA, selCALL, selRET, selRTE, selDBNZ, selTRAP, selREP, selDMAC, selMPY, selMAC,
    selMSU, selMPYN, selTAP, selMOV, selADD, selSUB, selADDS, selSUBS, selAND, selOR, selXOR, selNOT, selNEG, selABS, selCMP,
    selMIN, selMAX, selTST, selLSL, selASR, selLSR, selASLS, selCLR, selMOVA, selADDA, selSUBA, selNEGA, selABSA, selASHA,
    selEXT, selLDA, selCMPA, selMOVC, selLDIW, selDITH, selUNDEF]
  unfold tileRows
  repeat' apply List.Forall₂.cons
  any_goals exact List.Forall₂.nil
  all_goals exact fun _ _ _ => rfl

theorem controlSels_tame : ∀ sel ∈ controlSels, selTame sel := by
  simp only [controlSels, List.forall_mem_cons, List.not_mem_nil, false_imp_iff, implies_true, and_true]
  refine ⟨fun op row h => ?nop, fun op row h => ?tend, fun op row h => ?bra, fun op row h => ?call, fun op row h => ?ret,
    fun op row h => ?rte, fun op row h => ?dbnz, fun op row h => ?trap, fun op row h => ?rep⟩
  case nop =>
    unfold selNOP at h
    split at h <;> cases h
    exact Or.inl (RowOp.tame_of_kept (fun _ _ _ _ => ⟨rfl, rfl, rfl⟩))
  case tend =>
    unfold selEND at h
    split at h <;> cases h
    exact Or.inr rfl
  case bra =>
    unfold selBRA at h
    split at h <;> cases h
    exact Or.inl (RowOp.tame_of_controls (fun _ _ _ _ => TRun.controls_flow _ (by simp)))
  case call =>
    unfold selCALL at h
    split at h <;> cases h
    refine Or.inl (RowOp.tame_of_controls (fun env old r _ => ?_))
    dsimp only
    split
    · exact r.controls_push _ _ _ _ (by simp)
    · exact TRun.controls_flow _ (by simp)
  case ret =>
    unfold selRET at h
    split at h <;> cases h
    refine Or.inl (RowOp.tame_of_controls (fun env old r _ => ?_))
    dsimp only
    split
    · exact r.controls_pop _ _
    · exact TRun.controls_flow _ (by simp)
  case rte =>
    unfold selRTE at h
    split at h <;> cases h
    refine Or.inl (fun env old r _ hu _ => ?_)
    have hc := r.controls_pop env old.pc
    exact ⟨hc.t, hc.uncorr.trans hu, hc.flow⟩
  case dbnz =>
    unfold selDBNZ at h
    split at h <;> cases h
    exact Or.inl (fun _ _ _ _ hu _ => ⟨rfl, hu, by simp⟩)
  case trap =>
    unfold selTRAP at h
    split at h <;> cases h
    exact Or.inl (RowOp.tame_of_kept (fun _ _ _ _ => ⟨rfl, rfl, rfl⟩))
  case rep =>
    unfold selREP at h
    split at h <;> cases h
    · exact Or.inl (RowOp.tame_of_controls (fun _ _ _ _ => TRun.controls_flow _ (by simp)))
    · refine Or.inl (fun env old r _ hu _ => ?_)
      dsimp only
      split <;> exact ⟨rfl, hu, by simp⟩

theorem selDMAC_tame : selTame selDMAC := by
  intro op row h
  unfold selDMAC at h
  split at h <;> cases h
  exact Or.inl (RowOp.tame_of_kept (fun _ _ r _ =>
    ((r.kept_putAcc _ _).trans (TRun.kept_putAcc _ _ _)).trans (TRun.kept_flags _ _)))

theorem mulSels_tame : ∀ sel ∈ mulSels, selTame sel := by
  simp only [mulSels, List.forall_mem_cons, List.not_mem_nil, false_imp_iff, implies_true, and_true]
  and_intros
  all_goals
    intro op row h
    simp only [selMPY, selMAC, selMSU, selMPYN] at h
    split at h <;> cases h
    exact Or.inl (mulRow_tame _ _ _ _)

/-- TAP reads two words, which on a tile without bit errors leaves the tile (06 R198). -/
theorem selTAP_tame : selTame selTAP := by
  intro op row h
  unfold selTAP at h
  split at h <;> cases h
  rename_i i n m sub xm ym
  refine Or.inl (RowOp.tame_of_kept (fun env old r he => ?_))
  have hx := r.moved_read env .x old.ax[n] he
  have hy := (r.read env .x old.ax[n]).2.moved_read env .y old.ay[m] (by rw [hx.t]; exact he)
  have post : ∀ (q : TRun) (b : Prop) [Decidable b] reg v, q.Kept (if b then q else q.tapPost reg v) := by
    intro q b _ reg v
    split
    · exact ⟨rfl, rfl, rfl⟩
    · exact q.kept_tapPost reg v
  exact hx.kept.trans (hy.kept.trans ((TRun.kept_putAcc _ _ _).trans ((TRun.kept_flags _ _).trans
    ((TRun.moved_store env _ _ _ _).kept.trans ((post _ _ _ _).trans (post _ _ _ _))))))

theorem aluSels_tame : ∀ sel ∈ aluSels, selTame sel := by
  simp only [aluSels, List.forall_mem_cons, List.not_mem_nil, false_imp_iff, implies_true, and_true]
  and_intros
  all_goals
    intro op row h
    simp only [selMOV, selADD, selSUB, selADDS, selSUBS, selAND, selOR, selXOR, selNOT, selNEG, selABS, selCMP, selMIN, selMAX,
      selTST] at h
    split at h <;> cases h
    exact Or.inl (aluRow_tame _ _ _)

theorem shiftSels_tame : ∀ sel ∈ shiftSels, selTame sel := by
  simp only [shiftSels, List.forall_mem_cons, List.not_mem_nil, false_imp_iff, implies_true, and_true]
  and_intros
  all_goals
    intro op row h
    simp only [selLSL, selASR, selLSR, selASLS] at h
    split at h <;> cases h
    exact Or.inl (shiftRow_tame _ _ _)

theorem accSels_tame : ∀ sel ∈ accSels, selTame sel := by
  simp only [accSels, List.forall_mem_cons, List.not_mem_nil, false_imp_iff, implies_true, and_true]
  and_intros
  all_goals
    intro op row h
    simp only [selCLR, selMOVA, selADDA, selSUBA, selNEGA, selABSA, selASHA] at h
    split at h <;> cases h
    exact Or.inl (accRow_tame _ _)

theorem registerSels_tame : ∀ sel ∈ registerSels, selTame sel := by
  simp only [registerSels, List.forall_mem_cons, List.not_mem_nil, false_imp_iff, implies_true, and_true]
  refine ⟨fun op row h => ?ext, fun op row h => ?lda, fun op row h => ?cmpa, fun op row h => ?movc, fun op row h => ?ldiw,
    fun op row h => ?dith, fun op row h => ?undef⟩
  case ext =>
    unfold selEXT at h
    split at h <;> cases h
    exact Or.inl (RowOp.tame_of_kept (fun _ _ r _ =>
      ((r.kept_putD _ _).trans (TRun.kept_flags _ _)).trans (TRun.moved_msat _ _).kept))
  case lda =>
    unfold selLDA at h
    split at h <;> cases h
    exact Or.inl (accRow_tame _ _)
  case cmpa =>
    unfold selCMPA at h
    split at h <;> cases h
    exact Or.inl (RowOp.tame_of_kept (fun _ _ r _ => r.kept_flags _))
  case movc =>
    unfold selMOVC at h
    split at h <;> cases h
    refine Or.inl (RowOp.tame_of_kept (fun env old r _ => ?_))
    dsimp only
    split
    · exact (r.moved_log _ _).kept
    · split <;> exact ⟨rfl, rfl, rfl⟩
  case ldiw =>
    unfold selLDIW at h
    split at h <;> cases h
    refine Or.inl (RowOp.tame_of_kept (fun env old r _ => ?_))
    dsimp only
    split
    · exact (r.moved_log _ _).kept
    · exact r.kept_writeReg _ _
  case dith =>
    unfold selDITH at h
    split at h <;> cases h
    exact Or.inl (RowOp.tame_of_kept (fun _ _ _ _ => ⟨rfl, rfl, rfl⟩))
  case undef =>
    unfold selUNDEF at h
    split at h <;> cases h
    exact Or.inl (RowOp.tame_of_kept (fun _ _ r _ => (r.moved_log _ _).kept))

theorem tileSels_tame : ∀ sel ∈ tileSels, selTame sel := by
  simp only [tileSels, List.forall_mem_append, List.forall_mem_singleton]
  exact ⟨controlSels_tame, selDMAC_tame, mulSels_tame, selTAP_tame, aluSels_tame, shiftSels_tame, accSels_tame,
    registerSels_tame⟩

/-- A row of the instruction set: what it runs, and that what it takes is END or tame. -/
theorem tileRow_sel {f : Nat → Nat → Instr} (h : f ∈ tileRows) :
    ∃ sel, selTame sel ∧ ∀ k tick s, exec (f k tick) s = .next ((s.tickAt tick).tileRow k tick sel) := by
  obtain ⟨i, hi, rfl⟩ := List.getElem_of_mem h
  obtain ⟨hlen, hget⟩ := List.forall₂_iff_get.mp tileRows_exec
  exact ⟨_, tileSels_tame _ (List.getElem_mem (hlen ▸ hi)), hget i hi (hlen ▸ hi)⟩

/-! The frame on the state. -/

/-- A row of the instruction set in any state: it leaves the state, or puts in place what its tile makes of it. -/
theorem State.tileRow_or (s : State) (k tick : Nat) (sel : Option TOp → Option RowOp) :
    s.tileRow k tick sel = s ∨ ∃ t' reps, s.tileRow k tick sel = s.putTileStep k t' reps := by
  unfold State.tileRow
  split
  · exact Or.inl rfl
  · dsimp only
    split
    · exact Or.inl rfl
    · exact Or.inr ⟨_, _, rfl⟩

/-- An instruction that a row does not take. -/
theorem State.tileRow_not_taken {s : State} {k tick : Nat} {bg : Bool} {w : PWord} {sel : Option TOp → Option RowOp}
    (h : s.tileAt k bg w) (hs : sel (decodeOp w) = none) : s.tileRow k tick sel = s := by
  have hw : (s.tile k).pLive.get ((s.tile k).ctx (s.tileEnv k bg).bg).pc.toNat = w := h.word
  have hf : (s.tile k).fetch (s.tileEnv k bg) = (some w, s.tile k, []) := by
    rw [← hw]
    unfold Tile.fetch eccCheck eccMulti
    rw [h.clean]
    rfl
  have hrow : (s.tile k).row (s.tileEnv k bg) (((s.workOf k).map (·.2.entryBg)).getD 0) tick sel = none := by
    unfold Tile.row
    rw [if_neg (by rw [show (s.tile k).eventDue (s.tileEnv k bg).bg = false from h.quiet]; decide), hf]
    simp only [hs]
  unfold State.tileRow
  simp only [h.task, hrow]

/-- The tile after a row of the instruction set: framed by the stores that were pending, or as it was. -/
theorem State.tile_tileRow_framed {s : State} {k : Nat} {bg : Bool} {w : PWord} (tick : Nat)
    {sel : Option TOp → Option RowOp} (htame : selTame sel) (h : s.tileAt k bg w) :
    ((s.tickAt tick).tileRow k tick sel).tile k = s.tile k ∨
      (s.tile k).Framed (((s.tickAt tick).tileRow k tick sel).tile k) bg (s.ctx k bg).stores := by
  cases hs : sel (decodeOp w) with
  | none =>
    left
    rw [State.tileRow_not_taken (s := s.tickAt tick) ⟨h.task, h.quiet, h.clean, h.word, h.stay⟩ hs]
    rfl
  | some row =>
    right
    rw [State.tile_tileRow tick h hs]
    exact Tile.exec_framed_of_sel (s.tileEnv k bg) _ tick w htame hs h.clean h.stay

theorem State.putTileStep_tile_other (s : State) {k j : Nat} (t' : Tile) (reps : List TRep) (h : j ≠ k) :
    (s.putTileStep k t' reps).tile j = s.tile j := by
  obtain ⟨l, n, hput⟩ := s.putTileStep_eq k t' reps
  rw [hput]
  exact State.tile_setTile_other _ k j t' h.symm

/-- Settles O14: a row puts one tile in place, whose memories change by the stores that were pending alone. -/
theorem tileFrame : Obligations.TileFrame := by
  unfold Obligations.TileFrame
  intro f hf s k tick
  obtain ⟨sel, htame, hexec⟩ := tileRow_sel hf
  refine ⟨_, hexec k tick s, ?tiles, ?rest, fun bg w h => ?memory⟩
  case tiles =>
    intro j hj
    rcases (s.tickAt tick).tileRow_or k tick sel with he | ⟨t', reps, he⟩ <;> rw [he]
    · rfl
    · exact (s.tickAt tick).putTileStep_tile_other t' reps hj
  case rest =>
    rcases (s.tickAt tick).tileRow_or k tick sel with he | ⟨t', reps, he⟩
    · rw [he]
      exact ⟨[], by rw [List.append_nil]; rfl⟩
    · rw [he]
      obtain ⟨l, n, hput⟩ := (s.tickAt tick).putTileStep_eq k t' reps
      rw [hput]
      exact ⟨_, rfl⟩
  case memory =>
    rcases State.tile_tileRow_framed tick htame h with he | hframe
    · rw [he]
      exact ⟨rfl, rfl, rfl, fun _ _ => rfl, fun _ _ => rfl⟩
    · refine ⟨hframe.p, hframe.ps, hframe.ctx, fun a ha => ?_, fun a ha => ?_⟩
      · rw [hframe.x, Tile.applyStores_x_get _ _ ha]
      · rw [hframe.y, Tile.applyStores_y_get _ _ ha]

end Sys2Proof.Machine
end

section
/-!
SUPPORT. The plane commands and the ends of checks and writing (03 R101, R103, R104, R119): settles O15.
-/
namespace Sys2Proof.Machine

/-- Ports other than C and D carry host memory. -/
theorem noBuf_eq_false {p : CPort} (hC : p ≠ .C) (hD : p ≠ .D) : noBuf p = false := by
  cases p
  case A => rfl
  case B => rfl
  case C => exact absurd rfl hC
  case D => exact absurd rfl hD

/-- Where a command names no host buffer, or its port carries host memory, ARG_PTR passes (15 R453). -/
theorem addr_eq_zero_of_noBuf {p : CPort} {addr : Nat} (hC : p ≠ .C) (h : addr = 0 ∨ p ≠ .D) (hn : noBuf p = true) : addr = 0 :=
  h.resolve_right fun hD => by simp [noBuf_eq_false hC hD] at hn

theorem rd_ofFn {α : Type} [Inhabited α] {n j : Nat} (f : Fin n → α) (h : j < n) : rd (Vector.ofFn f) j = f ⟨j, h⟩ := by
  simp [rd, h]

/-- Command service that can act no further does nothing. -/
theorem State.serve_eq_self {s : State} (h : s.portsCalm) : s.serve = s := s.serveN_calm _ h

theorem State.portsCalm.congr {s t : State} (h : s.portsCalm) (hp : t.ports = s.ports) (ht : t.tw = s.tw) : t.portsCalm := by
  have hport : ∀ q, t.port q = s.port q := fun q => by unfold State.port; rw [hp]
  exact h.of_ports (fun q f hf => by rw [← hport q]; exact hf) (fun q => Or.inl (by rw [hport])) ht (by rw [hp])
    (Or.inr (by rw [hport]; exact ⟨rfl, rfl⟩))

theorem State.as.refl (s : State) : s.as s := ⟨rfl, rfl, rfl⟩

theorem State.Fewer.as {s t : State} (h : s.Fewer t) : t.as s := by
  obtain ⟨⟨P, rfl⟩, -, -, hw, hk, -⟩ := h
  exact ⟨rfl, hw, hk⟩

/-- An answer to a command in flight, with command service after it, changes no more than command service does. -/
theorem State.serve_complete_as {s : State} (h : s.portsCalm) (q : CPort) (n : Nat) (st : Status) (d : Nat) (r : List Byte) :
    (s.complete q n st d r).serve.as s := by
  have hf := s.complete_fewer q n st d r
  rw [State.serve_eq_self (hf.calm h)]
  exact hf.as

/-! Plane commands. -/

section
variable {s : State} {e : Env} {c : CmdInfo} {addr len : Nat}

theorem starts_structLoad_of_buffer (hb : s.pl.busy = false) (hm : s.meets (.structLoad e 0 addr len) c) (hd : e.port ≠ .D)
    (hl : 128 ≤ len) :
    s.starts (.structLoad e 0 addr len) c
      (s.startCheck ⟨e.port, s.nextHandle e.port, .load, 0, 0, len, [], none, false⟩) := by
  have hC := hm.ring
  cases hm.info
  refine State.hostCmd_starts hm rfl _ rfl rfl (by simp) fun P f hP hf => ?_
  have hh : f.handle = s.nextHandle e.port := hP.handle
  simp [runCmd, runStructLoad, State.runCtx, State.startCheck, noBuf_eq_false hC hd, hb, hh, Nat.not_lt.mpr hl]

theorem starts_structLoad_of_copy {source seq : Nat} {img : List Byte} (hb : s.pl.busy = false)
    (hm : s.meets (.structLoad e source addr len) c) (hs : source = 1 ∨ source = 2) (ha : addr = 0 ∨ e.port ≠ .D)
    (hc : s.boot.copy (if source = 1 then s.boot.newer else 1 - s.boot.newer) = some (seq, img)) (hl : 128 ≤ img.length) :
    s.starts (.structLoad e source addr len) c
      (s.startCheck ⟨e.port, s.nextHandle e.port, .load, source, if source = 1 then s.boot.newer else 1 - s.boot.newer,
        img.length, [], none, false⟩) := by
  have hC := hm.ring
  cases hm.info
  refine State.hostCmd_starts hm rfl _ rfl rfl (by simp) fun P f hP hf => ?_
  have hh : f.handle = s.nextHandle e.port := hP.handle
  have hn := addr_eq_zero_of_noBuf hC ha
  have h0 : source ≠ 0 := by omega
  have h2 : ¬ 2 < source := by omega
  simp +contextual [runCmd, runStructLoad, State.runCtx, State.startCheck, hn, h0, h2, hc, hb, hh, Nat.not_lt.mpr hl]

theorem starts_structPatch (hb : s.pl.busy = false) (hm : s.meets (.structPatch e 0 addr len) c) (hd : e.port ≠ .D)
    (hl : 128 ≤ len) (hst : s.pl.st = .ready) :
    s.starts (.structPatch e 0 addr len) c
      (s.startCheck ⟨e.port, s.nextHandle e.port, .patch, 0, 0, len, [], none, false⟩) := by
  have hC := hm.ring
  cases hm.info
  refine State.hostCmd_starts hm rfl _ rfl rfl (by simp) fun P f hP hf => ?_
  have hh : f.handle = s.nextHandle e.port := hP.handle
  simp [runCmd, runStructPatch, State.runCtx, State.startCheck, noBuf_eq_false hC hd, hb, hh, Nat.not_lt.mpr hl, hst]

theorem starts_structCopy {p : Plane} (hb : s.pl.busy = false) (hm : s.meets (.structCopy e) c) (hp : s.pl.live = some p) :
    s.starts (.structCopy e) c { s with pl := { s.pl with
      st := .writing, cmd := some ⟨e.port, s.nextHandle e.port, .copy, 0, 0, 0, p.digest, some p, false⟩ } } := by
  cases hm.info
  refine State.hostCmd_starts hm rfl _ rfl rfl (by simp) fun P f hP hf => ?_
  have hh : f.handle = s.nextHandle e.port := hP.handle
  simp [runCmd, runStructCopy, State.runCtx, hb, hp, hh]

theorem answers_structDiscard (hb : s.pl.busy = false) (hm : s.meets (.structDiscard e) c) :
    s.answers (.structDiscard e) c .ok 0 [] { s with pl := s.pl.emptied } := by
  refine State.hostCmd_done hm rfl .ok 0 [] _ (by simp) hm.service rfl rfl fun P f _ _ => ?_
  simp [runCmd, runStructDiscard, hb, Done.ok]

end

/-! The ends of checks and of writing. -/

section
variable {s : State} {x : PlaneCmd} {img : List Byte}

/-- The checks of an image that stands in the host buffer of a command. -/
def State.checksOf (s : State) (x : PlaneCmd) (img : List Byte) : CheckRes Plane :=
  loadChecks (s.loadEnv (if x.kind = .patch then 2 else 1) x.len (some s.per.baseRate)) img

theorem State.imageChecked_ok {r : Bool} {p : Plane} (hx : s.pl.cmd = some x) (hb : x.boot = false) (hst : s.pl.st = .checking r)
    (hs : x.source = 0) (ht : s.dm.st ≠ .training) (hp : s.checksOf x img = .ok p) :
    s.imageChecked img = { s with pl := { s.pl with
      st := .writing, cmd := some { x with digest := imageDigest x.len img, cand := some p } } } := by
  unfold State.checksOf at hp
  simp [State.imageChecked, hx, hst, hs, hb, State.holdsFit, ht, hp]

theorem State.imageChecked_error {r : Bool} {f : Status × Nat} (hx : s.pl.cmd = some x) (hb : x.boot = false)
    (hst : s.pl.st = .checking r) (hs : x.source = 0) (ht : s.dm.st ≠ .training) (hp : s.checksOf x img = .error f) :
    s.imageChecked img = ({ s with pl := s.pl.unchecked } : State).complete x.port x.handle f.1 f.2 [] := by
  unfold State.checksOf at hp
  simp [State.imageChecked, hx, hst, hs, hb, State.holdsFit, ht, hp]

theorem Planes.unchecked_of_checking {p : Planes} {r : Bool} (h : p.st = .checking r) :
    p.unchecked = { p with st := if r then .ready else .empty, cmd := none } := by
  simp [Planes.unchecked, h]

/-- A plane that has been written is answered to its command, which alone changes command service. -/
theorem State.imageWritten_fewer {p : Plane} (hx : s.pl.cmd = some x) (hb : x.boot = false) (hst : s.pl.st = .writing)
    (hc : x.cand = some p) (hd : x.kind = .copy ∨ imageDigest x.len img = x.digest) :
    ({ s with pl := { s.pl with shadow := some p, st := .ready, cmd := none } } : State).writeShadowBanks.Fewer
      (s.imageWritten img) := by
  have hdig : ¬ ((x.kind ≠ .copy ∧ x.source = 0) ∧ imageDigest x.len img ≠ x.digest) := by
    rcases hd with h | h <;> simp [h]
  simp only [State.imageWritten, hx, hst, hc, hb, Bool.false_eq_true, if_false]
  split
  · next h => exact absurd (by simpa using h) hdig
  · split <;> exact State.complete_fewer _ _ _ _ _ _

theorem State.writeShadowBanks_tile (s : State) (k : Nat) :
    (s.writeShadowBanks.tile k).pLive = (s.tile k).pLive ∧ (s.writeShadowBanks.tile k).x = (s.tile k).x ∧
      (s.writeShadowBanks.tile k).y = (s.tile k).y := by
  by_cases hk : k < 68
  · have ht : ∃ b e, s.writeShadowBanks.tile k = { s.tile k with pShadow := b, ecc := e } := by
      simp only [State.writeShadowBanks, State.tile, rd_ofFn _ hk]
      split
      · exact ⟨_, _, rfl⟩
      · exact ⟨_, _, rfl⟩
    obtain ⟨b, e, ht⟩ := ht
    rw [ht]
    exact ⟨rfl, rfl, rfl⟩
  · simp only [State.tile, rd_of_ge _ (Nat.le_of_not_lt hk), and_self]

theorem State.writeShadowBanks_eq (s : State) : s.writeShadowBanks = { s with tiles := s.writeShadowBanks.tiles } := rfl

end

/-- Settles O15: each command through its run, the ends of checks and writing through what they put into the planes. -/
theorem planeCommands : Obligations.PlaneCommands := by
  refine ⟨fun s e c hb => ⟨?_, ?_, ?_, ?_, ?_⟩, fun s x r img hcalm hx hboot => ⟨fun hst hs ht => ?_, fun p hst hp hd => ?_⟩⟩
  · exact fun addr len hm hd hl => starts_structLoad_of_buffer hb hm hd hl
  · exact fun source addr len seq img hm hs ha hc hl => starts_structLoad_of_copy hb hm hs ha hc hl
  · intro addr len hm hd hl hst
    have h := starts_structPatch hb hm hd hl hst
    rwa [State.startCheck, decide_eq_true hst] at h
  · exact fun p hm hp => starts_structCopy hb hm hp
  · exact fun hm => answers_structDiscard hb hm
  · split
    · next p hp =>
      show Host.Outcome.next (s.imageChecked img).serve = _
      rw [State.imageChecked_ok hx hboot hst hs ht hp]
      exact congrArg Host.Outcome.next (State.serve_eq_self (hcalm.congr rfl rfl))
    · next f hp =>
      refine ⟨_, rfl, ?_⟩
      rw [State.imageChecked_error hx hboot hst hs ht hp, Planes.unchecked_of_checking hst]
      exact State.serve_complete_as (s := { s with pl := { s.pl with st := if r then .ready else .empty, cmd := none } })
        (hcalm.congr rfl rfl) x.port x.handle f.1 f.2 []
  · have hf := State.imageWritten_fewer (img := img) hx hboot hst hp hd
    refine ⟨_, rfl, ?_⟩
    rw [State.serve_eq_self (hf.calm (hcalm.congr rfl rfl))]
    obtain ⟨P, hP⟩ := hf.as_
    rw [hP]
    have ht := fun k => State.writeShadowBanks_tile { s with pl := { s.pl with shadow := some p, st := .ready, cmd := none } } k
    have hw := State.writeShadowBanks_eq { s with pl := { s.pl with shadow := some p, st := .ready, cmd := none } }
    generalize State.writeShadowBanks { s with pl := { s.pl with shadow := some p, st := .ready, cmd := none } } = u at ht hw ⊢
    have h1 : u.pl = { s.pl with st := .ready, shadow := some p, cmd := none } := by rw [hw]
    have h2 : u.per = s.per ∧ u.ex = s.ex ∧ u.mtx = s.mtx := by rw [hw]; exact ⟨rfl, rfl, rfl⟩
    exact ⟨h1, h2.1, h2.2.1, h2.2.2, ht⟩

end Sys2Proof.Machine
end

section
/-!
SUPPORT. Arming and locking of a commit (03 R105, R109): settles O16.
-/
namespace Sys2Proof.Machine
-- Proofs checked one at a time, which bounds the memory that the whole text takes.
set_option Elab.async false

/-! What a commit is checked against does not depend on the ports. -/

/-- The states differ in their ports alone. -/
def State.PortsOnly (s t : State) : Prop := ∃ P, t = { s with ports := P }

theorem State.PortsOnly.foldl {α : Type} {f : State → α → State} (hf : ∀ s t x, State.PortsOnly s t → State.PortsOnly (f s x) (f t x))
    (l : List α) : ∀ {s t : State}, s.PortsOnly t → State.PortsOnly (l.foldl f s) (l.foldl f t) := by
  induction l with
  | nil => exact fun h => h
  | cons x l ih => exact fun h => ih (hf _ _ x h)

theorem State.PortsOnly.setGrade {s t : State} (h : s.PortsOnly t) (i level : Nat) :
    State.PortsOnly (s.setGrade i level) (t.setGrade i level) := by
  obtain ⟨P, rfl⟩ := h
  obtain ⟨f, hf, -⟩ := s.setGrade_ports i level
  exact ⟨f P, hf P⟩

theorem State.PortsOnly.respare {s t : State} (h : s.PortsOnly t) (p : Plane) (q : Nat) :
    State.PortsOnly (s.respare p q) (t.respare p q) := by
  obtain ⟨P, rfl⟩ := h
  exact State.PortsOnly.setGrade ⟨P, rfl⟩ _ _

/-- Carriers and spares at a commit do not depend on the ports. -/
theorem State.PortsOnly.commitCarriers {s t : State} (h : s.PortsOnly t) (old : Option Plane) (p : Plane) :
    State.PortsOnly (s.commitCarriers old p) (t.commitCarriers old p) := by
  cases old with
  | none =>
    have h0 : State.PortsOnly { s with carrier := assignAll p s.hlt.out } { t with carrier := assignAll p t.hlt.out } := by
      obtain ⟨P, rfl⟩ := h; exact ⟨P, rfl⟩
    simp only [State.commitCarriers]
    exact h0.foldl (fun s t q h => h.respare p q) _
  | some o =>
    have hc : t.carrier = s.carrier ∧ t.hlt = s.hlt := by obtain ⟨P, rfl⟩ := h; exact ⟨rfl, rfl⟩
    have hq : ∀ q, t.quad q = s.quad q := fun q => by unfold State.quad; rw [hc.2]
    simp only [State.commitCarriers, hc.1, hc.2, hq]
    refine State.PortsOnly.foldl (fun s t q h => ?_) _ ?_
    · have hq : ∀ q, t.quad q = s.quad q := fun q => by obtain ⟨P, rfl⟩ := h; rfl
      rw [hq]
      split
      · split
        · exact h.respare p q
        · exact h
      · exact h
    · obtain ⟨P, rfl⟩ := h; exact ⟨P, rfl⟩

theorem State.PortsOnly.predictsLate {s t : State} (h : s.PortsOnly t) (p : Plane) : t.predictsLate p = s.predictsLate p := by
  have hl : t.pl = s.pl := by obtain ⟨P, rfl⟩ := h; rfl
  obtain ⟨P, hP⟩ := h.commitCarriers s.pl.live p
  simp only [State.predictsLate, hl]
  rw [hP]
  rfl

theorem State.PortsOnly.migrationOk {s t : State} (h : s.PortsOnly t) (p : Plane) : t.migrationOk p = s.migrationOk p := by
  have hl : t.pl = s.pl := by obtain ⟨P, rfl⟩ := h; rfl
  obtain ⟨P, hP⟩ := h.commitCarriers s.pl.live p
  simp only [State.migrationOk, hl]
  rw [hP]
  obtain ⟨P, rfl⟩ := h
  rfl

theorem State.PortsOnly.commitChecks {s t : State} (h : s.PortsOnly t) (p : Plane) (a b : Nat) :
    t.commitChecks p a b = s.commitChecks p a b := by
  have hm := h.migrationOk p
  obtain ⟨P, rfl⟩ := h
  simp only [State.commitChecks, hm]
  rfl

/-! Arming. -/

/-- A commit is armed at the boundary that it names, where no tile is predicted late. -/
theorem State.arm_of_boundary {s : State} {p : Plane} {x : Commit} {b : Nat} (hb : x.boundary = some b)
    (hl : s.predictsLate p = false) :
    s.arm p x = { s with pl := { s.pl with commit := some { x with guard := false }, st := .armed } } := by
  simp [State.arm, State.chooseBoundary, hl, hb]

/-- A commit with BOUNDARY 0 is armed at its own boundary: 64 periods after its start. -/
theorem State.arm_of_none {s : State} {p : Plane} {x : Commit} (hb : x.boundary = none) (hs : x.start = s.per.boundaries)
    (hl : s.predictsLate p = false) :
    s.arm p x = { s with pl := { s.pl with
      commit := some { x with guard := false, boundary := some (s.per.boundaries + 64), confirmed := false }, st := .armed } } := by
  simp [State.arm, State.chooseBoundary, hl, hb, hs]

section
variable {s : State} {e : Env} {c : CmdInfo} {p : Plane} {digest : Nat}

/-- A commit of the READY plane that it names goes on to be armed where its checks pass. -/
theorem runStructCommit_arms {x : Ctx} {boundary b : Nat} (hp : s.pl.shadow = some p) (hb : s.pl.busy = false) (hst : s.pl.st = .ready)
    (hd : leNat (slice p.digest 0 8) = digest) (hm : boundary ≠ 0 → s.per.mediaTime ≤ boundary)
    (hbo : (if boundary = 0 then x.startB + 64 else s.boundaryOf boundary) = b) (hc : s.commitChecks p x.startB b = none) :
    runStructCommit x boundary digest s =
      (.later, s.arm p ⟨x.port, x.handle, x.startB, if boundary = 0 then none else some b, false, false, false⟩) := by
  have h : ¬ (¬ boundary = 0 ∧ boundary < s.per.mediaTime) := fun h => absurd (hm h.1) (Nat.not_le.mpr h.2)
  subst hbo
  by_cases h0 : boundary = 0 <;> simp_all [runStructCommit]

theorem starts_structCommit {boundary : Nat} (hp : s.pl.shadow = some p) (hm : s.meets (.structCommit e boundary digest) c)
    (hb : s.pl.busy = false) (hst : s.pl.st = .ready) (hd : leNat (slice p.digest 0 8) = digest) (h0 : boundary ≠ 0)
    (hlate : s.per.mediaTime ≤ boundary) (hl : s.predictsLate p = false)
    (hc : s.commitChecks p s.per.boundaries (s.boundaryOf boundary) = none) :
    s.starts (.structCommit e boundary digest) c { s with pl := { s.pl with
      st := .armed, commit := some ⟨e.port, s.nextHandle e.port, s.per.boundaries, some (s.boundaryOf boundary), false, false,
        false⟩ } } := by
  cases hm.info
  refine State.hostCmd_starts hm rfl _ rfl rfl (by simp) fun P f hP _ => ?_
  have hh : f.handle = s.nextHandle e.port := hP.handle
  rw [← hh]
  have hP : s.PortsOnly { s with ports := P } := ⟨P, rfl⟩
  rw [← hP.predictsLate] at hl
  rw [← hP.commitChecks] at hc
  refine (runStructCommit_arms (s := { s with ports := P }) (x := s.runCtx _ f) hp hb hst hd (fun _ => hlate) (if_neg h0) hc).trans ?_
  rw [State.arm_of_boundary (s := { s with ports := P }) (if_neg h0) hl]
  simp only [if_neg h0]
  rfl

theorem starts_structCommit_zero (hp : s.pl.shadow = some p) (hm : s.meets (.structCommit e 0 digest) c)
    (hb : s.pl.busy = false) (hst : s.pl.st = .ready) (hd : leNat (slice p.digest 0 8) = digest)
    (hl : s.predictsLate p = false) (hc : s.commitChecks p s.per.boundaries (s.per.boundaries + 64) = none) :
    s.starts (.structCommit e 0 digest) c { s with pl := { s.pl with
      st := .armed, commit := some ⟨e.port, s.nextHandle e.port, s.per.boundaries, some (s.per.boundaries + 64), false, false,
        false⟩ } } := by
  cases hm.info
  refine State.hostCmd_starts hm rfl _ rfl rfl (by simp) fun P f hP _ => ?_
  have hh : f.handle = s.nextHandle e.port := hP.handle
  rw [← hh]
  have hP : s.PortsOnly { s with ports := P } := ⟨P, rfl⟩
  rw [← hP.predictsLate] at hl
  rw [← hP.commitChecks] at hc
  refine (runStructCommit_arms (s := { s with ports := P }) (x := s.runCtx _ f) hp hb hst hd (fun h => absurd rfl h) (if_pos rfl) hc).trans ?_
  rw [State.arm_of_none (s := { s with ports := P }) rfl rfl hl]
  rfl

/-- The lock point locks an armed commit where the checks pass again. -/
theorem State.lockPoint_locks {k : Commit} {b : Nat} (hp : s.pl.shadow = some p) (hk : s.pl.commit = some k) (hb : k.boundary = some b)
    (hst : s.pl.st = .armed) (hlo : b ≤ s.per.boundaries + 32) (hhi : s.per.boundaries < b) (hcp : s.pwr.cpRunning = true)
    (hc : s.commitChecks p k.start b = none) : s.lockPoint = { s with pl := { s.pl with st := .locked } } := by
  simp [State.lockPoint, hk, hp, hb, hst, hcp, hc, Nat.not_lt.mpr hlo, Nat.not_le.mpr hhi]

end

/-- Settles O16: the run arms the commit once its checks have passed, and the lock point locks it. -/
theorem planeCommit : Obligations.PlaneCommit := by
  refine fun s e c p digest hp => ⟨?_, ?_, ?_⟩
  · exact fun boundary hm hb hst hd h0 hlate hl hc => starts_structCommit hp hm hb hst hd h0 hlate hl hc
  · exact fun hm hb hst hd hl hc => starts_structCommit_zero hp hm hb hst hd hl hc
  · intro k b hcalm hk hb hst hlo hhi hcp hc
    show Host.Outcome.next s.lockPoint.serve = _
    rw [State.lockPoint_locks hp hk hb hst hlo hhi hcp hc]
    exact congrArg Host.Outcome.next (State.serve_eq_self (hcalm.congr rfl rfl))

end Sys2Proof.Machine
end

section
/-!
SUPPORT. Plane status, the boot structure, the signing key and cancelling (03 R115 to R119): settles O17.
-/
namespace Sys2Proof.Machine

theorem leBytes_length (n v : Nat) : (leBytes n v).length = n := by
  induction n generalizing v with
  | zero => rfl
  | succ n ih => simp [leBytes, ih]

/-! Host commands by what their runs do, where neither the run nor the end of a flash operation touches the ports. -/

/-- A host command is answered with what its run gives. -/
theorem State.answers_of_run {s u : State} {i : Instr} {c : CmdInfo} {st : Status} {d : Nat} {res : List Byte} (h : s.meets i c)
    (hrun : ∀ (P : Ports) (f : Flight), s.ports.running P c f →
      runCmd (s.runCtx c f) i { s with ports := P } = (.done st d res, { u with ports := P }))
    (hlen : res.length ≤ 400 := by simp [resBytes, leBytes_length]) (hex : exec i s = .next (s.hostCmd i) := by rfl)
    (hu : u.pwr = s.pwr := by rfl) (hw : u.ports = s.ports := by rfl) (htw : u.tw = s.tw := by rfl) : s.answers i c st d res u :=
  State.hostCmd_done h hex st d res u hlen (by rw [hu]; exact h.service) hw htw fun P f hP _ => hrun P f hP

/-- A host command whose run leaves it in flight is started. -/
theorem State.starts_of_run {s u : State} {i : Instr} {c : CmdInfo} (h : s.meets i c)
    (hrun : ∀ (P : Ports) (f : Flight), s.ports.running P c f →
      runCmd (s.runCtx c f) i { s with ports := P } = (.later, { u with ports := P }))
    (hno : ∀ e addr len img, i ≠ .structBootWrite e addr len img := by simp) (hex : exec i s = .next (s.hostCmd i) := by rfl)
    (hw : u.ports = s.ports := by rfl) (htw : u.tw = s.tw := by rfl) : s.starts i c u :=
  State.hostCmd_starts h hex u hw htw hno fun P f hP _ => hrun P f hP

/-- A host command of the flash queue, from its run to the end of its operation. -/
theorem State.flashesVia_of_run {s u v : State} {i : Instr} {c : CmdInfo} {res : List Byte} (h : s.meets i c) (hq : s.flashFree)
    (hrun : ∀ (P : Ports) (f : Flight), s.ports.running P c f →
      runCmd (s.runCtx c f) i { s with ports := P } = (.flash, { s with ports := P }))
    (hfin : ∀ P : Ports, finCmd i { v with ports := P } = (.done .ok 0 res, { u with ports := P }))
    (hb : ∀ P : Ports, State.flashBegins { s with ports := P } i = { v with ports := P } := by intro _; rfl)
    (hlen : res.length ≤ 380 := by simp [resBytes, leBytes_length]) (hex : exec i s = .next (s.hostCmd i) := by rfl)
    (hn1 : ∀ e addr len resume img, i ≠ .fwStage e addr len resume img := by simp)
    (hn2 : ∀ e w r, i ≠ .fwActivate e w r := by simp) (hn3 : ∀ e, i ≠ .fwRevert e := by simp)
    (hv : v.tw = s.tw ∧ v.now = s.now ∧ v.pwr = s.pwr ∧ v.ports = s.ports := by exact ⟨rfl, rfl, rfl, rfl⟩)
    (hu : u.pwr = s.pwr := by rfl) (hw : u.ports = s.ports := by rfl) (htw : u.tw = s.tw := by rfl) :
    s.flashesVia i c v res u :=
  State.hostCmd_flashed h hq hex hn1 hn2 hn3 v hv hb (fun P f hP _ => hrun P f hP) res u id (by rw [hu]; exact h.service) hlen htw
    (fun _ => Ports.Same.refl _) (fun _ => rfl) (fun P a b => by rw [hw]; exact ⟨a, b⟩) hfin

section
variable {s : State} {e : Env} {c : CmdInfo}

theorem digest8_length (p : Option Plane) : (digest8 p).length = 8 := by
  cases p with
  | none => rfl
  | some p => simp only [digest8, slice, List.length_append, List.length_replicate, List.length_take]; omega

theorem answers_structStatus (hm : s.meets (.structStatus e) c) :
    s.answers (.structStatus e) c .ok 0
      (leBytes 1 s.pl.st.code ++ leBytes 1 (if s.pl.live.isSome then 1 else 0) ++ digest8 s.pl.live ++ digest8 s.pl.shadow ++
        leBytes 8 (match s.pl.commit with | some k => ((k.boundary.map s.mediaOf).getD 0) | none => 0) ++
        leBytes 1 s.per.baseRate ++ leBytes 1 (if s.pl.sigKey.isSome then 1 else 0)) s :=
  State.answers_of_run hm (fun P f _ => rfl) (by simp [leBytes_length, digest8_length])

/-! The boot structure. -/

theorem startable_started (l : List Flight) (h : ∀ f ∈ l, f.started = true ∧ f.fence = false) (n : Nat) :
    startable n false l = [] := by
  induction l generalizing n with
  | nil => rfl
  | cons f r ih =>
    obtain ⟨h1, h2⟩ := h f (by simp)
    simp [startable, h1, h2, ih (fun g hg => h g (List.mem_cons_of_mem _ hg))]

/-- A command that is held for the training of the delay memory is accepted and stays in flight; its check is not made while the
memory trains (08 R236). -/
theorem State.hostCmd_holds {i : Instr} (hm : s.meets i c) (hex : exec i s = .next (s.hostCmd i)) (ht : s.dm.st = .training)
    (hrun : ∀ (P : Ports) (f : Flight), s.ports.running P c f → f.cmd = i →
      runCmd (s.runCtx c f) i { s with ports := P } = (.later, { s with ports := P })) : s.starts i c s := by
  obtain ⟨P, f, k, hP, hcmd, he⟩ := State.hostCmd_runs hm
  rw [hrun P f hP hcmd] at he
  have hkept : P.hostWrites = s.ports.hostWrites ∧ P.pc.keys = s.ports.pc.keys := by
    obtain ⟨pa, pb, pc, pd, m, n, e⟩ := hP.rest
    rw [e]; exact ⟨rfl, rfl⟩
  have hflights : ∀ q, ∀ g ∈ (P.get q).flights, g.started = true ∧ g.fence = false := by
    intro q g hg
    by_cases hq : q = c.env.port
    · subst hq
      rw [hP.flights] at hg
      rcases List.mem_append.mp hg with hg | hg
      · exact ⟨((hm.idle _).1 g hg).1, ((hm.idle _).1 g hg).2.1⟩
      · rw [List.mem_singleton.mp hg]; exact ⟨hP.started, hP.fence.trans hm.fence⟩
    · rw [hP.other q hq] at hg
      exact ⟨((hm.idle q).1 g hg).1, ((hm.idle q).1 g hg).2.1⟩
  have hplaced : ∀ q, (P.get q).placed = [] := by
    intro q
    by_cases hq : q = c.env.port
    · subst hq; exact hP.placed
    · rw [hP.other q hq]; exact (hm.idle q).2.1
  have hnone : ({ s with ports := P } : State).serveOne = none := by
    refine State.serveOne_none _ fun q => ⟨startable_started _ (hflights q) 0, if_pos ht, ?_⟩
    exact State.canTake_none _ q (hplaced q)
      (Ports.running.known (t := { s with ports := P }) hm hP (Ports.Same.refl P) rfl rfl rfl rfl q)
  have hserve : State.serveN (k + 1) { s with ports := P } = { s with ports := P } := by
    unfold State.serveN
    rw [hnone]
  refine ⟨{ s with ports := P }, f, by rw [hex, he]; exact congrArg _ hserve,
    ⟨?_, hP.avail, hP.flights, fun q hq => congrArg PortS.flights (hP.other q hq), hP.tag, hP.handle⟩, hcmd, rfl, hkept.1, hkept.2⟩
  show (P.get c.env.port).ring.map Entry.plain = _
  rw [hP.ring, hP.handle]
  rfl

theorem Boot.newer_le (b : Boot) : b.newer ≤ 1 := by
  unfold Boot.newer
  split
  · split <;> omega
  · exact Nat.le_refl 1
  · exact Nat.zero_le 1

/-- With the older copy erased the newer one is the newer one still. -/
theorem State.newer_bootCopyErased (s : State) (len : Nat) : (s.bootCopyErased len).boot.newer = s.boot.newer := by
  show ({ s.boot with structs := wr s.boot.structs (1 - s.boot.newer) none } : Boot).newer = s.boot.newer
  unfold Boot.newer Boot.copy
  cases h0 : rd s.boot.structs 0 <;> cases h1 : rd s.boot.structs 1 <;> simp [rd_wr, h0, h1]
  next x y => by_cases h : x.1 < y.1 <;> simp [h]

/-- The number and the place of the copy that a STRUCT_BOOT_WRITE has written (17 R504). -/
theorem finStructBootWrite_erased (s : State) (len : Nat) (img : List Byte) (P : Ports) :
    finStructBootWrite len img { s.bootCopyErased len with ports := P } =
      (.done .ok 0 (resBytes [(4, ((s.boot.copy s.boot.newer).map (·.1)).getD 0 + 1), (1, 1 - s.boot.newer)]),
        { s with
          boot := { (s.bootCopyErased len).boot with structs := (wr s.boot.structs (1 - s.boot.newer)
            (some (((s.boot.copy s.boot.newer).map (·.1)).getD 0 + 1, slice img 0 len))) }
          ports := P }) := by
  have hn : (s.bootCopyErased len).boot.newer = s.boot.newer := s.newer_bootCopyErased len
  have hle := s.boot.newer_le
  have hold : 1 - (1 - s.boot.newer) = s.boot.newer := by omega
  have hcopy : (s.bootCopyErased len).boot.copy s.boot.newer = s.boot.copy s.boot.newer :=
    rd_wr_other _ _ _ _ (by omega)
  have hstructs : ∀ x, wr (s.bootCopyErased len).boot.structs (1 - s.boot.newer) x = wr s.boot.structs (1 - s.boot.newer) x :=
    fun x => Vector.setIfInBounds_setIfInBounds ..
  simp only [finStructBootWrite, hn, hold, hcopy, hstructs]
  rfl

theorem starts_structBootWrite_held {addr len : Nat} {img : List Byte} (hm : s.meets (.structBootWrite e addr len img) c)
    (hd : e.port ≠ .D) (hl : 128 ≤ len) (ha : len ≤ s.boot.structArea - 65536)
    (hh : s.holdsFit (loadChecks (s.loadEnv 1 len none) img) = true) : s.starts (.structBootWrite e addr len img) c s := by
  have hC := hm.ring
  cases hm.info
  have ht : s.dm.st = .training := by
    simp only [State.holdsFit, Bool.and_eq_true, decide_eq_true_eq] at hh
    exact hh.1
  refine State.hostCmd_holds hm rfl ht fun P f _ _ => ?_
  have hh' : ({ s with ports := P } : State).holdsFit (loadChecks (({ s with ports := P } : State).loadEnv 1 len none) img) = true := hh
  simp [runCmd, runStructBootWrite, State.runCtx, noBuf_eq_false hC hd, Nat.not_lt.mpr hl, Nat.not_lt.mpr ha, hh']

theorem answers_structBootWrite_error {addr len d : Nat} {img : List Byte} {st : Status}
    (hm : s.meets (.structBootWrite e addr len img) c) (hd : e.port ≠ .D) (hl : 128 ≤ len) (ha : len ≤ s.boot.structArea - 65536)
    (hh : s.holdsFit (loadChecks (s.loadEnv 1 len none) img) = false) (hr : loadChecks (s.loadEnv 1 len none) img = .error (st, d)) :
    s.answers (.structBootWrite e addr len img) c st d [] s := by
  have hC := hm.ring
  cases hm.info
  rw [hr] at hh
  refine State.answers_of_run hm fun P f _ => ?_
  have hr' : loadChecks (({ s with ports := P } : State).loadEnv 1 len none) img = .error (st, d) := hr
  have hh' : ({ s with ports := P } : State).holdsFit (.error (st, d)) = false := hh
  simp [runCmd, runStructBootWrite, State.runCtx, noBuf_eq_false hC hd, Nat.not_lt.mpr hl, Nat.not_lt.mpr ha, hr', hh', Done.fail]

theorem flashesVia_structBootWrite {addr len : Nat} {img : List Byte} {p : Plane} (hm : s.meets (.structBootWrite e addr len img) c)
    (hq : s.flashFree) (hd : e.port ≠ .D) (hl : 128 ≤ len) (ha : len ≤ s.boot.structArea - 65536)
    (hh : s.holdsFit (loadChecks (s.loadEnv 1 len none) img) = false) (hr : loadChecks (s.loadEnv 1 len none) img = .ok p) :
    s.flashesVia (.structBootWrite e addr len img) c (s.bootCopyErased len)
      (resBytes [(4, ((s.boot.copy s.boot.newer).map (·.1)).getD 0 + 1), (1, 1 - s.boot.newer)])
      { s with boot := { (s.bootCopyErased len).boot with structs := (wr s.boot.structs (1 - s.boot.newer)
        (some (((s.boot.copy s.boot.newer).map (·.1)).getD 0 + 1, slice img 0 len))) } } := by
  have hC := hm.ring
  cases hm.info
  rw [hr] at hh
  refine State.flashesVia_of_run hm hq (fun P f _ => ?_) fun P => finStructBootWrite_erased s len img P
  have hr' : loadChecks (({ s with ports := P } : State).loadEnv 1 len none) img = .ok p := hr
  have hh' : ({ s with ports := P } : State).holdsFit (.ok p) = false := hh
  simp [runCmd, runStructBootWrite, State.runCtx, noBuf_eq_false hC hd, Nat.not_lt.mpr hl, Nat.not_lt.mpr ha, hr', hh']

/-! The signing key and cancelling. -/

theorem flashes_structKeySet {keyId addr : Nat} {key : List Byte} {require : Bool}
    (hm : s.meets (.structKeySet e keyId addr key require) c) (hq : s.flashFree) (ha : addr = 0 ∨ e.port ≠ .D)
    (hk : ∀ k, s.pl.sigKey = some k → k.require = true → s.hlt.maint = true) :
    s.flashes (.structKeySet e keyId addr key require) c
      (if addr = 0 then resBytes [(4, 0), (1, 0)] else resBytes [(4, keyId), (1, if require then 1 else 0)])
      { s.configWritten with pl := { s.pl with
          sigKey := if addr = 0 then none else some ⟨keyId, slice key 0 96, require⟩ } } := by
  have hC := hm.ring
  cases hm.info
  refine State.flashesVia_of_run hm hq (fun P f _ => ?_) (fun P => ?_) (hlen := by split <;> simp [resBytes, leBytes_length])
  · have hptr : ¬ (noBuf e.port && decide (addr ≠ 0)) = true := by simpa using addr_eq_zero_of_noBuf hC ha
    have hheld : ¬ ((s.pl.sigKey.map (·.require)).getD false && (decide (addr = 0) || !require) && !s.hlt.maint) = true := by
      cases h : s.pl.sigKey with
      | none => simp
      | some k => by_cases hr : k.require = true <;> simp [hr, hk k h]
    exact (if_neg hptr).trans (if_neg hheld)
  · by_cases h0 : addr = 0
    · simp only [finCmd, finStructKeySet, if_pos h0]; rfl
    · simp only [finCmd, finStructKeySet, if_neg h0]; rfl

theorem cancels_structLoad {g : Flight} {e' : Env} {source addr len : Nat} {x : PlaneCmd} {r : Bool}
    (hm : s.meets (.structCancel e g.handle) c) (hg : (s.port e.port).flight? g.handle = some g)
    (hcmd : g.cmd = .structLoad e' source addr len) (hx : s.pl.cmd = some x) (hp : x.port = e.port) (hh : x.handle = g.handle)
    (hb : x.boot = false) (hst : s.pl.st = .checking r) :
    s.cancels (.structCancel e g.handle) c g [] { s with pl := { s.pl with st := if r then .ready else .empty, cmd := none } } := by
  cases hm.info
  have hs : g.started = true := ((hm.idle e.port).1 g (List.mem_of_find?_eq_some hg)).1
  refine State.hostCmd_cancels hm rfl g hg [] _ (by simp) hm.service rfl rfl fun P f _ _ hgP => ?_
  have hgP' : (({ s with ports := P } : State).port e.port).flight? g.handle = some g := hgP
  simp [runCmd, runStructCancel, State.runCtx, hgP', hcmd, hs, hx, hp, hh, State.cancelPlane, hst, hb, Planes.unchecked, Done.ok]

theorem cancels_structCommit {g : Flight} {e' : Env} {boundary digest : Nat} {k : Commit}
    (hm : s.meets (.structCancel e g.handle) c) (hg : (s.port e.port).flight? g.handle = some g)
    (hcmd : g.cmd = .structCommit e' boundary digest) (hx : s.pl.cmd = none) (hk : s.pl.commit = some k) (hp : k.port = e.port)
    (hh : k.handle = g.handle) (hb : k.boot = false) (hst : s.pl.st = .armed) :
    s.cancels (.structCancel e g.handle) c g [] { s with pl := { s.pl with st := .ready, commit := none } } := by
  cases hm.info
  have hs : g.started = true := ((hm.idle e.port).1 g (List.mem_of_find?_eq_some hg)).1
  refine State.hostCmd_cancels hm rfl g hg [] _ (by simp) hm.service rfl rfl fun P f _ _ hgP => ?_
  have hgP' : (({ s with ports := P } : State).port e.port).flight? g.handle = some g := hgP
  simp [runCmd, runStructCancel, State.runCtx, hgP', hcmd, hs, hx, hk, hp, hh, State.endCommit, hst, hb, Done.ok]

end

/-- Settles O17: each command through its run; a STRUCT_BOOT_WRITE by what its load checks give. -/
theorem planeStore : Obligations.PlaneStore := by
  refine ⟨fun s e c => ⟨?_, ?_, ?_⟩, fun s e c g hm hg => ⟨?_, ?_⟩⟩
  · exact fun hm => answers_structStatus hm
  · intro addr len img hm hq hd hl ha
    refine ⟨fun hh => starts_structBootWrite_held hm hd hl ha hh, fun hh => ?_⟩
    split
    · next st d hr => exact answers_structBootWrite_error hm hd hl ha hh hr
    · next p hr => exact flashesVia_structBootWrite hm hq hd hl ha hh hr
  · exact fun keyId addr key require hm hq ha hk => flashes_structKeySet hm hq ha hk
  · exact fun e' source addr len x r hcmd hx hp hh hb hst => cancels_structLoad hm hg hcmd hx hp hh hb hst
  · exact fun e' boundary digest k hcmd hx hk hp hh hb hst => cancels_structCommit hm hg hcmd hx hk hp hh hb hst

end Sys2Proof.Machine
end

section
/-!
SUPPORT. Reads of the exchange, serial ports, tiles and path latencies (04 R135 to R137, R144, 05 R181): settles O18.
-/
namespace Sys2Proof.Machine
-- Proofs checked one at a time, which bounds the memory that the whole text takes.
set_option Elab.async false

theorem mem_iff {α : Type} [DecidableEq α] (l : List α) (x : α) : mem l x = true ↔ x ∈ l := by simp [mem]

/-- A host command is answered with what its run gives, and with the bytes that the run writes into a host buffer. -/
theorem State.answers_of_writing_run {s u : State} {i : Instr} {c : CmdInfo} {st : Status} {d : Nat} {res : List Byte}
    {port : CPort} {addr : Nat} {bytes : List Byte} (h : s.meets i c)
    (hrun : ∀ (P : Ports) (f : Flight), s.ports.running P c f →
      runCmd (s.runCtx c f) i { s with ports := P } = (.done st d res, ({ u with ports := P } : State).hostWrite port addr bytes))
    (hlen : res.length ≤ 400 := by simp [resBytes, leBytes_length]) (hex : exec i s = .next (s.hostCmd i) := by rfl)
    (hu : u.pwr = s.pwr := by rfl) (hw : u.ports = s.ports := by rfl) (htw : u.tw = s.tw := by rfl) :
    s.answers i c st d res (u.hostWrite port addr bytes) := by
  have hs : (u.hostWrite port addr bytes).pwr.service = true := (congrArg Pwr.service hu).trans h.service
  obtain ⟨t, h1, h2, h3⟩ := State.hostCmd_does h st d res (u.hostWrite port addr bytes)
    (fun P => { P with hostWrites := (port, addr, bytes) :: P.hostWrites }) hlen hs htw
    (fun P => ⟨fun q => by cases q <;> exact PortS.Same.refl _, rfl⟩)
    (fun P a b => ⟨by show _ = (port, addr, bytes) :: u.ports.hostWrites; rw [hw, ← a], by
      show P.pc.keys = u.ports.pc.keys; rw [hw, ← b]⟩)
    (fun P f hP _ => hrun P f hP)
  exact ⟨t, by rw [hex, h1], h2, h3⟩

section
variable {s : State} {e : Env} {c : CmdInfo}

theorem answers_slotPeek {slot : Nat} (hm : s.meets (.slotPeek e slot) c) (hs : slot < slotCount s.per.baseRate) :
    s.answers (.slotPeek e slot) c .ok 0 (resBytes [(4, (s.ex.readHalf.get slot).toNat), (4, s.per.mediaTime % 2 ^ 32),
      (1, match s.pl.live with | some p => p.writerKind slot | none => 0)]) s := by
  refine State.answers_of_run hm fun P f _ => (if_neg (Nat.not_le.mpr hs)).trans ?_
  cases hl : s.pl.live <;> simp only <;> rfl

/-- SAPORT_STATUS of a port that no record sets up. -/
theorem answers_saportStatus_disabled {port : Nat} {clear : Bool} (hm : s.meets (.saportStatus e port clear) c) (hp : port ≤ 7)
    (hd : (rd s.sap port).st = .disabled) :
    s.answers (.saportStatus e port clear) c .ok 0
      (resBytes [(1, 0), (1, 0), (1, 0), (2, 0), (2, 0), (2, 0), (2, 0), (2, 0), (2, 0), (4, 0)]) s :=
  State.answers_of_run hm fun P f _ => (if_neg (Nat.not_lt.mpr hp)).trans (if_pos hd)

theorem answers_saportStatus {port : Nat} {clear : Bool} {x : SaSt} {r : SaRec} (hm : s.meets (.saportStatus e port clear) c)
    (hp : port ≤ 7) (hx : rd s.sap port = x) (hd : x.st ≠ .disabled) (hr : s.saRec port = some r) :
    s.answers (.saportStatus e port clear) c .ok 0
      (resBytes [(1, if x.st = .locked then 2 else 1), (1, if r.target then 1 else 0), (1, if x.phaseWarn then 1 else 0),
        (2, if r.target then (BitVec.ofInt 16 x.fsOffset).toNat else 0), (2, if r.target then x.rxPhase else 0),
        (2, if r.target then x.txPhase else 0), (2, x.slipDrop), (2, x.slipRepeat),
        (2, x.loss), (4, x.clip)])
      (if clear then { s with sap := (wr s.sap port
        { x with phaseWarn := false, slipDrop := 0, slipRepeat := 0, loss := 0, clip := 0 }) } else s) := by
  subst hx
  cases clear <;> refine State.answers_of_run hm fun P f _ => ?_ <;>
  · have hr' : ({ s with ports := P } : State).saRec port = some r := hr
    simp only [runCmd, runSaportStatus, if_neg (Nat.not_lt.mpr hp), if_neg hd, hr']
    rfl

theorem starts_tileReport {k first count addr : Nat} (hm : s.meets (.tileReport e k first count addr) c) (hk : k ≤ 67)
    (h1 : 1 ≤ count) (hn : first + count ≤ 1024) (h4 : addr = 0 → count ≤ 4) (ha : addr ≠ 0 → e.port ≠ .D)
    (hab : (s.tile (s.carrierOf k)).run ≠ .absent) (hco : (s.tile (s.carrierOf k)).run ≠ .cold) :
    s.starts (.tileReport e k first count addr) c { s with treps := (s.treps ++
      [⟨e.port, s.nextHandle e.port, k, first, count, addr, [], 0, 0, decide ((s.tile (s.carrierOf k)).run = .parked)⟩]) } := by
  have hC := hm.ring
  cases hm.info
  refine State.starts_of_run hm fun P f hP => ?_
  have hptr : ¬ (decide (addr ≠ 0) && noBuf e.port) = true := by
    by_cases h0 : addr = 0
    · simp [h0]
    · simp [noBuf_eq_false hC (ha h0)]
  have hrange : ¬ (decide (67 < k) || decide (1023 < first) || decide (count = 0) || decide (1024 < first + count) ||
      (decide (addr = 0) && decide (4 < count))) = true := by
    simp only [Bool.or_eq_true, Bool.and_eq_true, decide_eq_true_eq]
    rintro ((((h | h) | h) | h) | ⟨h0, h⟩)
    case inr => exact absurd (h4 h0) (by omega)
    all_goals omega
  have hh : f.handle = s.nextHandle e.port := hP.handle
  refine (if_neg hptr).trans ((if_neg hrange).trans ?_)
  rw [← hh]
  have ht : ({ s with ports := P } : State).tile (({ s with ports := P } : State).carrierOf k) = s.tile (s.carrierOf k) := rfl
  simp only [ht]
  rfl

/-! Path latencies. -/

theorem foldl_min_mem (l : List Nat) (a : Nat) : l.foldl min a ∈ a :: l := by
  induction l generalizing a with
  | nil => simp
  | cons x l ih =>
    rcases List.mem_cons.mp (ih (min a x)) with h | h
    · rw [List.foldl_cons, h]
      rcases min_choice a x with h | h <;> simp [h]
    · exact List.mem_cons_of_mem _ (List.mem_cons_of_mem _ h)

theorem foldl_min_le (l : List Nat) (a : Nat) : l.foldl min a ≤ a ∧ ∀ x ∈ l, l.foldl min a ≤ x := by
  induction l generalizing a with
  | nil => simp
  | cons y l ih =>
    obtain ⟨h1, h2⟩ := ih (min a y)
    refine ⟨h1.trans (min_le_left a y), fun x hx => ?_⟩
    rcases List.mem_cons.mp hx with rfl | hx
    · exact h1.trans (min_le_right a x)
    · exact h2 x hx

theorem foldl_max_mem (l : List Nat) (a : Nat) : l.foldl max a ∈ a :: l := by
  induction l generalizing a with
  | nil => simp
  | cons x l ih =>
    rcases List.mem_cons.mp (ih (max a x)) with h | h
    · rw [List.foldl_cons, h]
      rcases max_choice a x with h | h <;> simp [h]
    · exact List.mem_cons_of_mem _ (List.mem_cons_of_mem _ h)

theorem le_foldl_max (l : List Nat) (a : Nat) : a ≤ l.foldl max a ∧ ∀ x ∈ l, x ≤ l.foldl max a := by
  induction l generalizing a with
  | nil => simp
  | cons y l ih =>
    obtain ⟨h1, h2⟩ := ih (max a y)
    refine ⟨(le_max_left a y).trans h1, fun x hx => ?_⟩
    rcases List.mem_cons.mp hx with rfl | hx
    · exact (le_max_right a x).trans h1
    · exact h2 x hx

/-- `minOr` of a list that is not empty is its least member. -/
theorem minOr_mem {l : List Nat} (h : l ≠ []) (d : Nat) : minOr l d ∈ l ∧ ∀ x ∈ l, minOr l d ≤ x := by
  cases l with
  | nil => exact absurd rfl h
  | cons y l =>
    refine ⟨?_, (foldl_min_le (y :: l) y).2⟩
    exact (List.mem_cons.mp (foldl_min_mem (y :: l) y)).elim (fun h => by rw [minOr, List.headD_cons, h]; simp) id

/-- The greatest member of a list that is not empty. -/
theorem foldl_max_zero_mem {l : List Nat} (h : l ≠ []) : l.foldl max 0 ∈ l ∧ ∀ x ∈ l, x ≤ l.foldl max 0 := by
  refine ⟨?_, (le_foldl_max l 0).2⟩
  rcases List.mem_cons.mp (foldl_max_mem l 0) with h0 | h0
  · cases l with
    | nil => exact absurd rfl h
    | cons y l =>
      have hy : y = 0 := by have := (le_foldl_max (y :: l) 0).2 y (by simp); omega
      rw [h0, hy]; simp
  · exact h0

/-- The LATENCY records of a LIVE plane that has its section. -/
theorem State.latencyOf_live {p : Plane} (hp : s.pl.live = some p) (hs : (0x000E, 0xFFFF) ∈ p.sections) :
    s.latencyOf 0 = .ok p.latency := by
  simp [State.latencyOf, State.planeArg, hp, (mem_iff _ _).mpr hs]

/-- The numbers of PREV that a list of records holds: all but the mark of none. -/
def prevsOf (hits : List LatRec) : List Nat := (hits.map (·.prev)).filter (· != 0xFFFFFFFF)

theorem mem_prevsOf {hits : List LatRec} {v : Nat} : v ∈ prevsOf hits ↔ (∃ r ∈ hits, r.prev = v) ∧ v ≠ 0xFFFFFFFF := by
  simp [prevsOf]

theorem prevsOf_eq_nil {hits : List LatRec} : prevsOf hits = [] ↔ ∀ r ∈ hits, r.prev = 0xFFFFFFFF := by
  simp [prevsOf]

/-- The result of PATH_LATENCY from the records that match. -/
theorem answers_pathLatency {mode path sk si dk di : Nat} {p : Plane} {hits : List LatRec}
    (hm : s.meets (.pathLatency e 0 mode path sk si dk di) c) (hp : s.pl.live = some p) (hs : (0x000E, 0xFFFF) ∈ p.sections)
    (hmode : mode ≤ 1)
    (hh : hits = p.latency.filter (fun r => if mode = 0 then r.path == path else
      r.srcKind == sk && r.srcIndex == si && r.dstKind == dk && r.dstIndex == di)) (hne : hits ≠ []) :
    s.answers (.pathLatency e 0 mode path sk si dk di) c .ok 0
      (resBytes [(2, hits.length), (2, minOr (hits.map (·.path)) 0), (4, minOr (hits.map (·.latency)) 0),
        (4, (hits.map (·.latency)).foldl max 0), (4, minOr (prevsOf hits) 0xFFFFFFFF),
        (4, if (prevsOf hits).isEmpty then 0xFFFFFFFF else (prevsOf hits).foldl max 0)]) s := by
  refine State.answers_of_run hm fun P f _ => ?_
  have hl : ({ s with ports := P } : State).latencyOf 0 = .ok p.latency := State.latencyOf_live hp hs
  have hemp : ¬ hits.isEmpty = true := by simpa using hne
  simp only [runCmd, runPathLatency, if_neg (Nat.not_lt.mpr hmode), hl, ← hh, if_neg hemp]
  rfl

theorem answers_pathLatencyDump {addr len : Nat} {p : Plane} (hm : s.meets (.pathLatencyDump e 0 addr len) c)
    (hp : s.pl.live = some p) (hs : (0x000E, 0xFFFF) ∈ p.sections) (hd : e.port ≠ .D) (hlen : 16 ≤ len) :
    s.answers (.pathLatencyDump e 0 addr len) c .ok 0
      (resBytes [(4, min (len / 16) (byPath p.latency).length), (4, p.latency.length)])
      (s.hostWrite e.port addr (((byPath p.latency).take (len / 16)).flatMap LatRec.bytes)) := by
  have hC := hm.ring
  cases hm.info
  refine State.answers_of_writing_run hm fun P f _ => ?_
  have hl : ({ s with ports := P } : State).latencyOf 0 = .ok p.latency := State.latencyOf_live hp hs
  have hn : ¬ noBuf e.port = true := by simp [noBuf_eq_false hC hd]
  refine (if_neg hn).trans ((if_neg (Nat.not_lt.mpr hlen)).trans ?_)
  simp only [hl, List.length_take]
  rfl

end

/-- Settles O18: each read through its run; the extremes of PATH_LATENCY are members of the lists that they are taken from. -/
theorem exchangeReads : Obligations.ExchangeReads := by
  refine ⟨fun s e c => ⟨?_, ?_, ?_, ?_⟩, fun s e c p hp hs => ⟨?_, ?_⟩⟩
  · exact fun slot hm hs => answers_slotPeek hm hs
  · exact fun port clear hm hp hd => answers_saportStatus_disabled hm hp hd
  · exact fun port clear x r hm hp hx hd hr => answers_saportStatus hm hp hx hd hr
  · exact fun k first count addr hm hk h1 hn h4 ha hab hco => starts_tileReport hm hk h1 hn h4 ha hab hco
  · intro mode path sk si dk di hits hm hmode hh hne
    have hpath := minOr_mem (l := hits.map (·.path)) (by simpa using hne) 0
    have hlo := minOr_mem (l := hits.map (·.latency)) (by simpa using hne) 0
    have hhi := foldl_max_zero_mem (l := hits.map (·.latency)) (by simpa using hne)
    simp only [List.mem_map, forall_exists_index, and_imp, forall_apply_eq_imp_iff₂] at hpath hlo hhi
    refine ⟨_, _, _, _, _, answers_pathLatency hm hp hs hmode hh hne, hpath.1, hlo.1, hhi.1,
      fun r hr => ⟨hpath.2 r hr, hlo.2 r hr, hhi.2 r hr⟩, ?_⟩
    split
    · next h =>
      rw [prevsOf_eq_nil.mpr h]
      exact ⟨rfl, rfl⟩
    · next h =>
      have hn : prevsOf hits ≠ [] := fun h0 => h (prevsOf_eq_nil.mp h0)
      have hplo := minOr_mem hn 0xFFFFFFFF
      have hphi := foldl_max_zero_mem hn
      have hemp : ¬ (prevsOf hits).isEmpty = true := by simpa using hn
      rw [if_neg hemp]
      obtain ⟨⟨r, hr, hrp⟩, hr0⟩ := mem_prevsOf.mp hplo.1
      obtain ⟨⟨q, hq, hqp⟩, hq0⟩ := mem_prevsOf.mp hphi.1
      refine ⟨⟨r, hr, hrp, hr0⟩, ⟨q, hq, hqp, hq0⟩, fun x hx hx0 => ?_⟩
      have hmem := mem_prevsOf.mpr ⟨⟨x, hx, rfl⟩, hx0⟩
      exact ⟨hplo.2 _ hmem, hphi.2 _ hmem⟩
  · exact fun addr len hm hd hlen => answers_pathLatencyDump hm hp hs hd hlen

end Sys2Proof.Machine
end

section
/-!
SUPPORT. Direct and grouped updates (07 R224, R225, R229, R230): settles O19.
-/
namespace Sys2Proof.Machine

/-! Numbers read from bytes. -/

theorem leNat_lt (l : List Byte) : leNat l < 256 ^ l.length := by
  induction l with
  | nil => simp [leNat]
  | cons b l ih =>
    have hb := b.isLt
    simp only [leNat, List.length_cons, Nat.pow_succ]
    omega

theorem slice_length (l : List Byte) (o n : Nat) : (slice l o n).length = n := by
  simp only [slice, List.length_append, List.length_replicate, List.length_take]
  omega

theorem leNat_slice_lt (l : List Byte) (o n : Nat) : leNat (slice l o n) < 256 ^ n := by
  have h := leNat_lt (slice l o n)
  rwa [slice_length] at h

theorem rampEntries_range {count : Nat} {data : List Byte} {x : RampEntry} (h : x ∈ rampEntries count data) :
    x.ramp ≤ 255 ∧ x.time ≤ 65535 := by
  obtain ⟨i, -, rfl⟩ := List.mem_map.mp h
  exact ⟨Nat.le_of_lt_succ (leNat_slice_lt data (8 * i) 1), Nat.le_of_lt_succ (leNat_slice_lt data (8 * i + 2) 2)⟩

/-! What an updating command does with entries that passed its checks. -/

section
variable {s : State} {e : Env} {c : CmdInfo} {p : Plane} {group count addr : Nat}

/-- A direct update waits for its boundary. -/
theorem State.update_direct {P : Ports} {f : Flight} (hP : s.ports.running P c f) (es : List UpdEntry) :
    ({ s with ports := P } : State).update (s.runCtx c f) 0 group es = (.later, { s.queued c.env.port es with ports := P }) := by
  have hh : f.handle = s.nextHandle c.env.port := hP.handle
  have hs : f.seq = s.ports.taken := hP.seq
  simp only [State.update, State.runCtx, State.queued, if_true, hs, hh]

/-- Entries go into a group that takes them. -/
theorem State.update_staged {port : CPort} {f : Flight} {es : List UpdEntry} (P : Ports) (hp : c.env.port = port)
    (h : s.groupTakes group port es) :
    ({ s with ports := P } : State).update (s.runCtx c f) 1 group es =
      (.done .ok 0 (updResult 0 es.length 0), { s.staged group port es with ports := P }) := by
  subst hp
  obtain ⟨hst, h1, h2, h3⟩ := h
  have hput : ¬ (decide (4096 < ((rd s.mtx.groups group).entries ++ es).length - wordCount ((rd s.mtx.groups group).entries ++ es)) ||
      decide (1024 < wordCount ((rd s.mtx.groups group).entries ++ es)) ||
      (List.range 68).any (fun k => decide (32 < wordsFor ((rd s.mtx.groups group).entries ++ es) k))) = true := by
    simp only [Bool.or_eq_true, decide_eq_true_eq, List.any_eq_true, List.mem_range, not_or, not_exists, not_and, Nat.not_lt]
    exact ⟨⟨h1, h2⟩, h3⟩
  simp only [State.update, State.stage, if_neg hput]
  rcases hst with hst | ⟨hst, ho⟩
  · simp only [hst]; rfl
  · simp only [hst, if_pos (show (rd s.mtx.groups group).owner = (s.runCtx c f).port from ho)]; rfl

/-- The checks of an updating command that its argument passes. -/
theorem listed_checks {port : CPort} {inl buf : Nat} (hC : port ≠ .C) (h : listed port addr count inl buf) :
    ¬ (noBuf port && addr != 0) = true ∧ countOk addr count inl buf = true := by
  obtain ⟨h1, ⟨h0, h2⟩ | ⟨h0, hd, h2⟩⟩ := h
  · simp [countOk, h0, h1, h2]
  · simp [countOk, h0, h1, h2, noBuf_eq_false hC hd]

theorem State.resolve_xpt {x : XpointEntry} (hp : s.pl.live = some p) (h : ∃ y ∈ p.xpoints, y.inSlot = x.inSlot ∧ y.sum = x.sum) :
    (s.resolve (.xpt x)).isNone = false := by
  obtain ⟨y, hy, h1, h2⟩ := h
  have ha : p.xpoints.any (fun y => y.inSlot == x.inSlot && y.sum == x.sum) = true :=
    List.any_eq_true.mpr ⟨y, hy, by simp [h1, h2]⟩
  simp only [State.resolve, hp, if_pos ha]
  split <;> rfl

theorem State.resolve_ramp {x : RampEntry} (hp : s.pl.live = some p) (h : ∃ r ∈ p.ramps, r.ramp = x.ramp)
    (hs : (rd s.mtx.ramps x.ramp).serves = true) : (s.resolve (.ramp x)).isNone = false := by
  obtain ⟨r, hr, hx⟩ := h
  simp only [State.resolve, hp]
  cases hf : p.ramps.find? (fun r => r.ramp == x.ramp) with
  | none => exact absurd (List.find?_eq_none.mp hf r hr) (by simp [hx])
  | some q => simp [hs]

/-- XPOINT_SET goes on to its entries where its checks pass. -/
theorem runXpointSet_update {x : Ctx} {mode : Nat} {es : List XpointEntry} (hC : x.port ≠ .C) (hmode : mode ≤ 1) (hg : group ≤ 15)
    (hl : listed x.port addr count 5 4096) (hp : s.pl.live = some p)
    (hes : ∀ x ∈ es, ∃ y ∈ p.xpoints, y.inSlot = x.inSlot ∧ y.sum = x.sum) :
    runXpointSet x mode group count addr es s = s.update x mode group (es.map .xpt) := by
  obtain ⟨h1, h2⟩ := listed_checks hC hl
  have h3 : es.any (fun e => (s.resolve (.xpt e)).isNone) = false :=
    List.any_eq_false.mpr fun y hy => by rw [State.resolve_xpt hp (hes y hy)]; simp
  simp only [runXpointSet, if_neg h1, h2, h3]
  simp [Nat.not_lt.mpr hmode, Nat.not_lt.mpr hg]

/-- RAMP_SET goes on to its entries where its checks pass. -/
theorem runRampSet_update {x : Ctx} {mode : Nat} {data : List Byte} (hC : x.port ≠ .C) (hmode : mode ≤ 1) (hg : group ≤ 15)
    (hl : listed x.port addr count 5 4096) (hp : s.pl.live = some p)
    (hes : ∀ x ∈ rampEntries count data, (x.law = 0 ∨ x.law = 1 ∨ x.law = 0xFF) ∧ (∃ r ∈ p.ramps, r.ramp = x.ramp) ∧
      (rd s.mtx.ramps x.ramp).serves = true) :
    runRampSet x mode group count addr (rampEntries count data) s = s.update x mode group ((rampEntries count data).map .ramp) := by
  obtain ⟨h1, h2⟩ := listed_checks hC hl
  have h3 : (rampEntries count data).any (fun e => (s.resolve (.ramp e)).isNone) = false :=
    List.any_eq_false.mpr fun y hy => by rw [State.resolve_ramp hp (hes y hy).2.1 (hes y hy).2.2]; simp
  have h4 : (rampEntries count data).any (fun e => decide (255 < e.ramp) || decide (65535 < e.time) ||
      !(e.law == 0 || e.law == 1 || e.law == 0xFF)) = false := by
    refine List.any_eq_false.mpr fun y hy => ?_
    obtain ⟨hr, ht⟩ := rampEntries_range hy
    have hlaw : (y.law == 0 || y.law == 1 || y.law == 0xFF) = true := by
      simpa [or_assoc] using (hes y hy).1
    simp [Nat.not_lt.mpr hr, Nat.not_lt.mpr ht, hlaw]
  simp only [runRampSet, if_neg h1, h2, h3, h4]
  simp [Nat.not_lt.mpr hmode, Nat.not_lt.mpr hg]

/-- The entries of TILE_PARAM_WRITE, from their numbers. -/
theorem paramEntries_eq {k m : Nat} {data : List Byte} {es : List UpdEntry} (hlen : es.length = count)
    (hes : ∀ i, i < count → es[i]? = some (.word k (m == 1) (addr + i) (BitVec.ofNat 32 (leNat (slice data (4 * i) 4))))) :
    (List.range (paramWords count data).length).map
      (fun i => UpdEntry.word k (m == 1) (addr + i) ((paramWords count data).getD i 0)) = es := by
  have hw : (paramWords count data).length = count := by simp [paramWords]
  refine List.ext_getElem? fun i => ?_
  by_cases hi : i < count
  · rw [hes i hi, hw]
    simp [hi, paramWords]
  · rw [List.getElem?_eq_none (by simpa [hw] using hi), List.getElem?_eq_none (by omega)]

/-- TILE_PARAM_WRITE goes on to its entries where its checks pass. -/
theorem runTileParamWrite_update {x : Ctx} {mode k m buf : Nat} {words : List DWord} (hC : x.port ≠ .C) (hmode : mode ≤ 1)
    (hg : group ≤ 15) (hl : listed x.port buf count 10 32) (hk : k ≤ 67) (hmem : m ≤ 1)
    (ha : addr + count ≤ (if m = 1 then 0x3C00 else 0x4000)) (ht : mode = 0 → s.tileUsable (s.carrierOf k) = true) :
    runTileParamWrite x mode group k m addr count buf words s =
      s.update x mode group ((List.range words.length).map (fun i => .word k (m == 1) (addr + i) (words.getD i 0))) := by
  obtain ⟨h1, h2⟩ := listed_checks hC hl
  have h3 : ¬ (decide ((if m = 1 then 0x3C00 else 0x4000) < addr + count)) = true := by simpa using ha
  have h4 : ¬ (decide (mode = 0) && !s.tileUsable (s.carrierOf k)) = true := by simpa using ht
  simp only [runTileParamWrite, if_neg h1, h2, if_neg h3, if_neg h4]
  simp [Nat.not_lt.mpr hmode, Nat.not_lt.mpr hg, Nat.not_lt.mpr hk, Nat.not_lt.mpr hmem]

/-- An updating command with MODE 0 whose checks pass stays in flight with its entries. -/
theorem State.starts_queued {i : Instr} {es : List UpdEntry} (hm : s.meets i c) (hex : exec i s = .next (s.hostCmd i))
    (hno : ∀ e addr len img, i ≠ .structBootWrite e addr len img)
    (hrun : ∀ P f, runCmd (s.runCtx c f) i { s with ports := P } = ({ s with ports := P } : State).update (s.runCtx c f) 0 group es) :
    s.starts i c (s.queued c.env.port es) :=
  State.starts_of_run hm (fun P f hP => (hrun P f).trans (State.update_direct hP es)) hno hex

/-- An updating command with MODE 1 whose checks pass is answered, with its entries in the group. -/
theorem State.answers_staged {i : Instr} {es : List UpdEntry} {n : Nat} (hm : s.meets i c) (hex : exec i s = .next (s.hostCmd i))
    (hrun : ∀ P f, runCmd (s.runCtx c f) i { s with ports := P } = ({ s with ports := P } : State).update (s.runCtx c f) 1 group es)
    (hn : es.length = n) (h : s.groupTakes group c.env.port es) :
    s.answers i c .ok 0 (resBytes [(8, 0), (4, n), (4, 0)]) (s.staged group c.env.port es) := by
  subst hn
  refine State.answers_of_run hm (fun P f _ => ((hrun P f).trans (State.update_staged P rfl h)).trans ?_) (hex := hex)
  simp [updResult, resBytes]

end

/-- Settles O19: each command goes on to its entries, which wait for their boundary or go into the group. -/
theorem mixUpdates : Obligations.MixUpdates := by
  refine fun s e c p group count addr hp hg => ⟨fun data hl hes => ⟨fun hm => ?_, fun hm ht => ?_⟩,
    fun data hl hes => ⟨fun hm => ?_, fun hm ht => ?_⟩, fun k m buf data es hl hk hmem ha hlen hes => ⟨fun hm hu => ?_, fun hm ht => ?_⟩⟩
  · have hC := hm.ring
    cases hm.info
    exact State.starts_queued (group := group) hm rfl (by simp) fun P f =>
      runXpointSet_update (x := s.runCtx _ f) (s := { s with ports := P }) hC (by omega) hg hl hp hes
  · have hC := hm.ring
    cases hm.info
    exact State.answers_staged hm rfl (fun P f =>
      runXpointSet_update (x := s.runCtx _ f) (s := { s with ports := P }) hC (by omega) hg hl hp hes) (by simp [xpointEntries]) ht
  · have hC := hm.ring
    cases hm.info
    exact State.starts_queued (group := group) hm rfl (by simp) fun P f =>
      runRampSet_update (x := s.runCtx _ f) (s := { s with ports := P }) hC (by omega) hg hl hp hes
  · have hC := hm.ring
    cases hm.info
    exact State.answers_staged hm rfl (fun P f =>
      runRampSet_update (x := s.runCtx _ f) (s := { s with ports := P }) hC (by omega) hg hl hp hes) (by simp [rampEntries]) ht
  · have hC := hm.ring
    cases hm.info
    refine State.starts_queued (group := group) hm rfl (by simp) fun P f => ?_
    rw [← paramEntries_eq hlen hes]
    exact runTileParamWrite_update (x := s.runCtx _ f) (s := { s with ports := P }) hC (by omega) hg hl hk hmem ha fun _ => hu
  · have hC := hm.ring
    cases hm.info
    refine State.answers_staged hm rfl (fun P f => ?_) hlen ht
    rw [← paramEntries_eq hlen hes]
    exact runTileParamWrite_update (x := s.runCtx _ f) (s := { s with ports := P }) hC (by omega) hg hl hk hmem ha (by omega)

end Sys2Proof.Machine
end

section
/-!
SUPPORT. Safe-load groups (07 R225, R226, R229): settles O20.
-/
namespace Sys2Proof.Machine

theorem not_bnot_of_true {b : Bool} (h : b = true) : ¬ (!b) = true := by simp [h]

section
variable {s : State} {e : Env} {c : CmdInfo} {group : Nat} {g : Group}

/-- The state with a safe-load group replaced. -/
def State.setGroup (s : State) (group : Nat) (g : Group) : State := { s with mtx := { s.mtx with groups := wr s.mtx.groups group g } }

/-- The entries of the groups that are armed or locked for a boundary (07 R226). -/
def State.entriesAt (s : State) (b : Nat) : List UpdEntry :=
  (List.range 16).flatMap (fun i => if (rd s.mtx.groups i).boundary = b ∧
    ((rd s.mtx.groups i).st = .armed ∨ (rd s.mtx.groups i).st = .locked) then (rd s.mtx.groups i).entries else [])

theorem State.entriesAt_eq (s : State) (b : Nat) :
    (List.range 16).flatMap (fun i =>
      let h := rd s.mtx.groups i
      if (h.st = .armed || h.st = .locked) && h.boundary == b then h.entries else []) = s.entriesAt b := by
  unfold State.entriesAt
  congr 1
  funext i
  simp only [Bool.and_eq_true, Bool.or_eq_true, decide_eq_true_eq, beq_iff_eq]
  exact if_congr And.comm rfl rfl

theorem wordsFit_of {used more : List UpdEntry}
    (h : ∀ k, k < 68 → wordsFor more k ≠ 0 → wordsFor used k + wordsFor more k ≤ 32) : wordsFit used more = true := by
  simp only [wordsFit, List.all_eq_true, List.mem_range, Bool.or_eq_true, decide_eq_true_eq]
  intro k hk
  by_cases h0 : wordsFor more k = 0
  · exact Or.inl h0
  · exact Or.inr (h k hk h0)

theorem starts_safeApply {boundary b : Nat} (hg : group ≤ 15) (hgr : rd s.mtx.groups group = g)
    (hm : s.meets (.safeApply e group boundary) c) (hst : g.st = .filling) (ho : g.owner = e.port)
    (hb : b = (if boundary = 0 then s.per.boundaries + 16 else s.per.boundaries + (boundary - s.per.mediaTime)))
    (hlead : boundary ≠ 0 → s.per.mediaTime + 16 ≤ boundary)
    (hfit : ∀ k, k < 68 → wordsFor g.entries k ≠ 0 → wordsFor (s.entriesAt b) k + wordsFor g.entries k ≤ 32) :
    s.starts (.safeApply e group boundary) c
      (s.setGroup group { g with st := .armed, boundary := b, handle := s.nextHandle e.port }) := by
  subst hgr
  cases hm.info
  refine State.starts_of_run hm fun P f hP => ?_
  have hh : f.handle = s.nextHandle e.port := hP.handle
  rw [← hh]
  have hlate : ¬ (decide (boundary ≠ 0) && (decide (boundary < s.per.mediaTime) || decide (b < s.per.boundaries + 16))) = true := by
    simp only [Bool.and_eq_true, Bool.or_eq_true, decide_eq_true_eq]
    rintro ⟨h0, h⟩
    have := hlead h0
    rw [if_neg h0] at hb
    omega
  have hfits := wordsFit_of hfit
  rw [← State.entriesAt_eq] at hfits
  subst hb
  refine (if_neg (Nat.not_lt.mpr hg)).trans ?_
  simp only [hst]
  exact (if_neg (not_not.mpr ho)).trans ((if_neg hlate).trans ((if_neg (not_bnot_of_true hfits)).trans rfl))

/-- SAFE_DISCARD of a port for its own group, without FORCE, comes to the group's state. -/
theorem runSafeDiscard_own {x : Ctx} (hg : group ≤ 15) :
    runSafeDiscard x group false s = match (rd s.mtx.groups group).st with
      | .empty => (.ok [(4, 0)], s)
      | .filling => if (rd s.mtx.groups group).owner = x.port
          then (.ok [(4, (rd s.mtx.groups group).entries.length)], s.setGroup group Group.reset) else (.fail .rejectedState 0x0062, s)
      | .armed => if (rd s.mtx.groups group).owner = x.port
          then (.ok [(4, (rd s.mtx.groups group).entries.length)], (s.setGroup group Group.reset).complete
            (rd s.mtx.groups group).owner (rd s.mtx.groups group).handle .aborted 0 [])
          else (.fail .rejectedState 0x0062, s)
      | .locked => (.fail .rejectedState (if (rd s.mtx.groups group).owner = x.port then 0x0063 else 0x0062), s) := by
  simp only [runSafeDiscard, if_neg (Nat.not_lt.mpr hg)]
  cases (rd s.mtx.groups group).st <;> simp [State.setGroup]

theorem answers_safeDiscard_empty (hg : group ≤ 15) (hgr : rd s.mtx.groups group = g) (hm : s.meets (.safeDiscard e group false) c)
    (hst : g.st = .empty) : s.answers (.safeDiscard e group false) c .ok 0 (resBytes [(4, 0)]) s := by
  subst hgr
  refine State.answers_of_run hm fun P f _ => (runSafeDiscard_own hg).trans ?_
  simp only [hst]
  rfl

theorem answers_safeDiscard_filling (hg : group ≤ 15) (hgr : rd s.mtx.groups group = g) (hm : s.meets (.safeDiscard e group false) c)
    (hst : g.st = .filling) (ho : g.owner = e.port) :
    s.answers (.safeDiscard e group false) c .ok 0 (resBytes [(4, g.entries.length)]) (s.setGroup group Group.reset) := by
  subst hgr
  cases hm.info
  refine State.answers_of_run hm fun P f _ => (runSafeDiscard_own hg).trans ?_
  simp only [hst]
  exact (if_pos ho).trans rfl

theorem cancels_safeDiscard {k : Flight} (hg : group ≤ 15) (hgr : rd s.mtx.groups group = g)
    (hm : s.meets (.safeDiscard e group false) c) (hst : g.st = .armed) (ho : g.owner = e.port)
    (hk : (s.port e.port).flight? g.handle = some k) :
    s.cancels (.safeDiscard e group false) c k (resBytes [(4, g.entries.length)]) (s.setGroup group Group.reset) := by
  subst hgr
  cases hm.info
  have hkh : k.handle = (rd s.mtx.groups group).handle := by
    have h := List.find?_some hk
    simpa using h
  rw [← hkh] at hk
  refine State.hostCmd_cancels hm rfl k hk _ _ (by simp [resBytes, leBytes_length]) hm.service rfl rfl fun P f _ _ _ =>
    (runSafeDiscard_own hg).trans ?_
  simp only [hst]
  refine (if_pos ho).trans ?_
  rw [hkh, ← ho]
  rfl

theorem answers_safeStatus (hg : group ≤ 15) (hgr : rd s.mtx.groups group = g) (hm : s.meets (.safeStatus e group) c) :
    s.answers (.safeStatus e group) c .ok 0 (resBytes [(1, match g.st with | .empty => 0 | .filling => 1 | .armed => 2 | .locked => 3),
      (1, portNum g.owner), (2, g.entries.length - wordCount g.entries), (2, wordCount g.entries),
      (8, if g.st = .armed ∨ g.st = .locked then s.mediaOf g.boundary else 0)]) s := by
  subst hgr
  refine State.answers_of_run hm fun P f _ => (if_neg (Nat.not_lt.mpr hg)).trans ?_
  simp only [Bool.or_eq_true, decide_eq_true_eq]
  rfl

theorem State.safeLock_armed (hgr : rd s.mtx.groups group = g) (hst : g.st = .armed) (hb : g.boundary ≤ s.per.boundaries + 8) :
    s.safeLock group = s.setGroup group { g with st := .locked } := by
  subst hgr
  simp [State.safeLock, State.setGroup, hst, hb]

theorem State.safeLock_other (hgr : rd s.mtx.groups group = g) (h : g.st ≠ .armed ∨ s.per.boundaries + 8 < g.boundary) :
    s.safeLock group = s := by
  subst hgr
  refine if_neg ?_
  simp only [Bool.and_eq_true, decide_eq_true_eq, not_and]
  intro hst hb
  exact h.elim (fun h => h hst) (fun h => absurd hb (Nat.not_le.mpr h))

end

/-- Settles O20: each command through its run, the lock point through what it does to the group. -/
theorem safeLoad : Obligations.SafeLoad := by
  refine fun s e c group g hg hgr => ⟨?_, ?_, ?_, ?_, ?_, ?_, ?_⟩
  · intro boundary b others hm hst ho hb hlead hothers hfit
    subst hothers
    exact starts_safeApply hg hgr hm hst ho hb hlead hfit
  · rintro _ hm rfl hst
    exact answers_safeDiscard_empty hg hgr hm hst
  · rintro _ hm rfl hst ho
    exact answers_safeDiscard_filling hg hgr hm hst ho
  · exact fun k hm hst ho hk => cancels_safeDiscard hg hgr hm hst ho hk
  · exact fun hm => answers_safeStatus hg hgr hm
  · exact fun hst hb => congrArg Host.Outcome.next (State.safeLock_armed hgr hst hb)
  · exact fun h => congrArg Host.Outcome.next (State.safeLock_other hgr h)

end Sys2Proof.Machine
end

section
/-!
SUPPORT. Reports on crosspoints, sums and ramp units (07 R231, R232): settles O21.
-/
namespace Sys2Proof.Machine

section
variable {s : State} {e : Env} {c : CmdInfo} {p : Plane}

/-- XPOINT_GET of a LIVE crosspoint that no ramp unit serves. -/
theorem answers_xpointGet_live {i o : Nat} {x : Xpoint} {y : XptSt} (hm : s.meets (.xpointGet e 0 i o) c) (hp : s.pl.live = some p)
    (hx : p.xpoints.find? (fun y => y.inSlot == i && y.sum == o) = some x) (hu : p.unitOf i o = none)
    (hy : lookup? s.mtx.xpts (xkey i o) = some y) :
    s.answers (.xpointGet e 0 i o) c .ok 0 (resBytes [(4, x.gain.toNat), (4, y.last.toNat), (4, y.target.toNat),
      (1, if y.pend.isSome then 1 else 0), (4, match y.pend with | some b => s.per.boundaries - b | none => 0), (1, 0xFF)]) s := by
  refine State.answers_of_run hm fun P f _ => ?_
  cases h : y.pend <;> simp [runCmd, runXpointGet, State.planeArg, hp, hx, hu, hy, h, Done.ok, resBytes]

/-- XPOINT_GET of a LIVE crosspoint that a ramp unit serves: the unit gives its target. -/
theorem answers_xpointGet_unit {i o : Nat} {x : Xpoint} {u : RampRec} {g : Gain} {y : XptSt} (hm : s.meets (.xpointGet e 0 i o) c)
    (hp : s.pl.live = some p) (hx : p.xpoints.find? (fun y => y.inSlot == i && y.sum == o) = some x) (hu : p.unitOf i o = some u)
    (hg : (∃ g0 t db b, rd s.mtx.ramps u.ramp = .ramping g0 g t db b) ∨ rd s.mtx.ramps u.ramp = .hold g)
    (hy : lookup? s.mtx.xpts (xkey i o) = some y) :
    s.answers (.xpointGet e 0 i o) c .ok 0 (resBytes [(4, x.gain.toNat), (4, y.last.toNat), (4, g.toNat), (1, 2), (4, 0),
      (1, u.ramp)]) s := by
  refine State.answers_of_run hm fun P f _ => ?_
  obtain ⟨g0, t, db, b, h⟩ | h := hg <;>
    simp [runCmd, runXpointGet, State.planeArg, hp, hx, hu, hy, h, Done.ok, resBytes]

theorem answers_xpointGet_shadow {i o : Nat} {x : Xpoint} (hm : s.meets (.xpointGet e 1 i o) c) (hp : s.pl.shadow = some p)
    (hst : s.pl.st ≠ .writing) (hx : p.xpoints.find? (fun y => y.inSlot == i && y.sum == o) = some x) :
    s.answers (.xpointGet e 1 i o) c .ok 0 (resBytes [(4, x.gain.toNat), (4, 0), (4, 0), (1, 0), (4, 0),
      (1, match p.unitOf i o with | some r => r.ramp | none => 0xFF)]) s := by
  refine State.answers_of_run hm fun P f _ => ?_
  cases h : p.unitOf i o <;> simp [runCmd, runXpointGet, State.planeArg, hp, hx, hst, h, Done.ok, resBytes]

theorem answers_sumStatus {sum : Nat} {clear : Bool} {r : SumRec} {x : SumSt} (hm : s.meets (.sumStatus e sum clear) c)
    (hp : s.pl.live = some p) (hr : p.sums.find? (fun q => q.sum == sum) = some r)
    (hx : x = (lookup? s.mtx.sums sum).getD (SumSt.fresh r.auxLaw 0)) :
    s.answers (.sumStatus e sum clear) c .ok 0 (resBytes [(1, if r.aux then 1 else 0), (1, r.lane), (2, x.n),
        (4, if r.aux then x.scale else 2 ^ 27), (4, if r.aux then x.target else 2 ^ 27), (4, if r.aux then 2 ^ 27 else x.lg),
        (4, if r.aux then 2 ^ 27 else x.lgMin), (4, x.overs), (4, x.clip)])
      (if clear = true ∧ (lookup? s.mtx.sums sum).isSome = true then
        { s with mtx := { s.mtx with sums := insertKey s.mtx.sums sum { x with overs := 0, clip := 0, lgMin := 2 ^ 27 } } }
       else s) := by
  subst hx
  have hif : ∀ {a b : State}, (if clear = true ∧ (lookup? s.mtx.sums sum).isSome = true then a else b) =
      if clear && (lookup? s.mtx.sums sum).isSome then a else b := fun {a b} => by simp only [Bool.and_eq_true]
  rw [hif]
  cases hc : clear && (lookup? s.mtx.sums sum).isSome <;>
  · refine State.answers_of_run hm fun P f _ => ?_
    simp only [runCmd, runSumStatus, hp, Option.map_some, Option.join_some, hr, hc]
    rfl

/-- RAMP_STATUS comes to the state of the unit. -/
theorem answers_rampStatus_free {ramp : Nat} (hm : s.meets (.rampStatus e ramp) c) (hr : ramp ≤ 255)
    (hs : rd s.mtx.ramps ramp = .free) :
    s.answers (.rampStatus e ramp) c .ok 0 (resBytes [(1, 0), (1, 0), (1, 0), (4, 0), (4, 0), (2, 0), (2, 0), (2, 0)]) s := by
  refine State.answers_of_run hm fun P f _ => (if_neg (Nat.not_lt.mpr hr)).trans ?_
  simp only [hs]
  rfl

theorem answers_rampStatus_hold {ramp : Nat} {g : Gain} {r : RampRec} (hm : s.meets (.rampStatus e ramp) c) (hr : ramp ≤ 255)
    (hs : rd s.mtx.ramps ramp = .hold g) (hp : s.pl.live = some p) (hf : p.ramps.find? (fun q => q.ramp == ramp) = some r) :
    s.answers (.rampStatus e ramp) c .ok 0 (resBytes [(1, 1), (1, if r.db then 1 else 0), (1, 0), (4, g.toNat), (4, g.toNat),
      (2, 0), (2, r.inSlot), (2, r.sum)]) s := by
  refine State.answers_of_run hm fun P f _ => (if_neg (Nat.not_lt.mpr hr)).trans ?_
  simp only [hs, hp, Option.map_some, Option.join_some, hf]
  rfl

theorem answers_rampStatus_ramping {ramp len b : Nat} {g0 g1 : Gain} {r : RampRec} (hm : s.meets (.rampStatus e ramp) c)
    (hr : ramp ≤ 255) (hs : rd s.mtx.ramps ramp = .ramping g0 g1 len false b) (hp : s.pl.live = some p)
    (hf : p.ramps.find? (fun q => q.ramp == ramp) = some r) :
    s.answers (.rampStatus e ramp) c .ok 0 (resBytes [(1, 2), (1, 0), (1, 0),
      (4, (unitGain (.ramping g0 g1 len false b) s.per.boundaries).toNat), (4, g1.toNat), (2, b + len - 1 - s.per.boundaries),
      (2, r.inSlot), (2, r.sum)]) s := by
  refine State.answers_of_run hm fun P f _ => (if_neg (Nat.not_lt.mpr hr)).trans ?_
  simp only [hs, hp, Option.map_some, Option.join_some, hf]
  rfl

end

/-- Settles O21: each report through its run. -/
theorem mixReads : Obligations.MixReads := by
  refine fun s e c p => ⟨?_, ?_, ?_, ?_, ?_, ?_, ?_⟩
  · exact fun i o x hm hp hx hu y hy => answers_xpointGet_live hm hp hx hu hy
  · exact fun i o x u g hm hp hx hu hg y hy => answers_xpointGet_unit hm hp hx hu hg hy
  · exact fun i o x hm hp hst hx => answers_xpointGet_shadow hm hp hst hx
  · exact fun sum clear r x hm hp hr hx => answers_sumStatus hm hp hr hx
  · exact fun ramp hm hr hs => answers_rampStatus_free hm hr hs
  · exact fun ramp g r hm hr hs hp hf => answers_rampStatus_hold hm hr hs hp hf
  · exact fun ramp g0 g1 len b r hm hr hs hp hf => answers_rampStatus_ramping hm hr hs hp hf

end Sys2Proof.Machine
end

section
/-!
SUPPORT. Commands of the delay memory (08 R246, R247): settles O22.
-/
namespace Sys2Proof.Machine
-- Proofs checked one at a time, which bounds the memory that the whole text takes.
set_option Elab.async false

section
variable {s : State} {e : Env} {c : CmdInfo}

theorem answers_delayStatus {clear : Bool} (hm : s.meets (.delayStatus e clear) c) :
    s.answers (.delayStatus e clear) c .ok 0
      (resBytes [(1, match s.dm.st with | .off => 0 | .training => 1 | .up => 2 | .down => 3 | .failed => 4),
        (1, s.dm.g.getD 0), (2, s.dm.rate), (4, usableUnits s.dm.capacityG),
        (4, match s.pl.live with | some p => p.delayUnits | none => 0), (4, s.dm.corr), (4, s.dm.uncorr), (4, s.dm.late),
        (2, s.dm.cfgScrub.getD 60), (4, s.dm.lastPass), (1, s.dm.refresh)])
      (if clear then { s with dm := { s.dm with corr := 0, uncorr := 0, late := 0 } } else s) := by
  have hlive : (match s.pl.live with | some p => p.delayUnits | none => 0) = (s.pl.live.map Plane.delayUnits).getD 0 := by
    cases s.pl.live <;> rfl
  rw [hlive]
  cases clear <;> exact State.answers_of_run hm fun P f _ => rfl

theorem answers_delayLineStatus {line : Nat} {p : Plane} {r : LineRec} {x : LineSt} (hm : s.meets (.delayLineStatus e 0 line) c)
    (hl : line ≤ 4095) (hp : s.pl.live = some p) (hr : p.lines.find? (fun q => q.line == line) = some r)
    (hx : lookup? s.dm.lines line = some x) :
    s.answers (.delayLineStatus e 0 line) c .ok 0 (resBytes [(4, r.delay), (4, r.capacity), (4, r.bufBase),
      (4, match x.s with | some b => s.mediaOf b % 2 ^ 32 | none => 0), (4, x.holds)]) s := by
  refine State.answers_of_run hm fun P f _ => ?_
  cases hs : x.s <;>
    simp [runCmd, runDelayLineStatus, State.planeArg, Nat.not_lt.mpr hl, hp, hr, hx, hs, Done.ok, resBytes, State.mediaOf]

theorem flashes_delayMemConfig {rate scrub : Nat} (hm : s.meets (.delayMemConfig e rate scrub) c) (hq : s.flashFree)
    (hr : rate = 3200 ∨ rate = 4267 ∨ rate = 5500 ∨ rate = 6400) (hlo : 15 ≤ scrub) (hhi : scrub ≤ 1440) :
    s.flashes (.delayMemConfig e rate scrub) c (resBytes [(2, rate), (2, scrub)])
      { s.configWritten with dm := { s.dm with cfgRate := some rate, cfgScrub := some scrub } } := by
  refine State.flashesVia_of_run hm hq (fun P f _ => ?_) fun P => rfl
  have hrate : (rate == 3200 || rate == 4267 || rate == 5500 || rate == 6400) = true := by simpa [or_assoc] using hr
  simp [runCmd, runDelayMemConfig, hrate, Nat.not_lt.mpr hlo, Nat.not_lt.mpr hhi]

theorem starts_delayMemRetrain (hm : s.meets (.delayMemRetrain e) c) (hst : s.dm.st = .down ∨ s.dm.st = .failed) :
    s.starts (.delayMemRetrain e) c { s with dm := { s.dm with
      st := .training, attempt := 0, retryWait := false, rate := s.dm.cfgRate.getD 6400, refresh := 0
      retrain := some (e.port, s.nextHandle e.port) } } := by
  cases hm.info
  refine State.starts_of_run hm fun P f hP => ?_
  have hh : f.handle = s.nextHandle e.port := hP.handle
  rw [← hh]
  rcases hst with h | h <;> simp only [runCmd, runDelayMemRetrain, h] <;> rfl

end

/-- Settles O22: each command through its run. -/
theorem delayCommands : Obligations.DelayCommands := by
  refine fun s e c => ⟨?_, ?_, ?_, ?_⟩
  · exact fun clear hm => answers_delayStatus hm
  · exact fun line p r x hm hl hp hr hx => answers_delayLineStatus hm hl hp hr hx
  · exact fun rate scrub hm hq hr hlo hhi => flashes_delayMemConfig hm hq hr hlo hhi
  · exact fun hm hst => starts_delayMemRetrain hm hst

end Sys2Proof.Machine
end

section
/-!
SUPPORT. Reports and conditions, and the states and errors of the delay memory (08 R238, R239, R242 to R245): settles O23.
-/
namespace Sys2Proof.Machine

/-! Reports and conditions (14 R412, R415). -/

theorem State.reported_report {s u : State} (hn : u.flt.reports = s.flt.reports) (c z e d : Nat) :
    s.reported (u.report c z e d) c z e d := by
  unfold State.reported State.report
  simp [hn]

theorem State.reported_raise {s u : State} (hn : u.flt.reports = s.flt.reports) (c z e d : Nat) :
    s.reported (u.raise c z e d) c z e d := State.reported_report (u := { u with flt := { u.flt with conds := _ } }) hn c z e d

theorem State.raised_raise {s u : State} (hn : u.flt.reports = s.flt.reports) (c z e d : Nat) :
    s.raised (u.raise c z e d) c z e d := by
  refine ⟨State.reported_raise hn c z e d, ?_⟩
  show _ ∈ addNew u.flt.conds _
  unfold addNew
  split
  · next h => exact (mem_iff _ _).mp h
  · simp

/-- A report stays where only further ones are added at the same time. -/
theorem State.reported.congr {s t u : State} {c z e d : Nat} (h : s.reported t c z e d) (hf : u.flt = t.flt) (hn : u.now = t.now) :
    s.reported u c z e d := by
  unfold State.reported at *
  rwa [hf, hn]

theorem State.raised.congr {s t u : State} {c z e d : Nat} (h : s.raised t c z e d) (hf : u.flt = t.flt) (hn : u.now = t.now) :
    s.raised u c z e d := ⟨h.1.congr hf hn, by rw [hf]; exact h.2⟩

theorem State.hasCond_endCond_self (s : State) (c z e : Nat) : (s.endCond c z e).hasCond c z e = false := by
  simp [State.hasCond, State.endCond, mem, remove]

theorem State.hasCond_endCond_of (s : State) {c z e : Nat} (c' z' e' : Nat) (h : s.hasCond c z e = false) :
    (s.endCond c' z' e').hasCond c z e = false := by
  simp only [State.hasCond, mem, List.any_eq_false, decide_eq_true_eq] at *
  exact fun x hx => h x (List.mem_filter.mp hx).1

theorem State.hasCond_congr {s t : State} (hf : t.flt.conds = s.flt.conds) (c z e : Nat) : t.hasCond c z e = s.hasCond c z e := by
  unfold State.hasCond
  rw [hf]

theorem lookup?_updateKey {α : Type} (l : List (Nat × α)) (k : Nat) (f : α → α) :
    lookup? (updateKey l k f) k = (lookup? l k).map f := by
  induction l with
  | nil => rfl
  | cons p l ih =>
    unfold lookup? updateKey at *
    by_cases h : p.1 = k
    · simp [h]
    · have hb : (p.1 == k) = false := by simpa using h
      simp only [List.map_cons, if_neg h, List.find?_cons, hb]
      exact ih

/-! Training (08 R239, R243). -/

section
variable {s : State}

theorem State.retrainDone_fewer (s : State) (n : Nat) :
    ∃ u : State, u = { s with dm := { s.dm with retrain := none } } ∧ u.Fewer (s.retrainDone n) := by
  refine ⟨_, rfl, ?_⟩
  unfold State.retrainDone
  split
  · next h =>
    have hs : ({ s with dm := { s.dm with retrain := none } } : State) = s := by rw [← h]
    rw [hs]
    exact State.Fewer.refl s
  · exact State.complete_fewer _ _ _ _ _ _

/-- The lines of a memory that comes UP: each starts anew two periods on (08 R243). -/
def State.freshLines (s : State) : List (Nat × LineSt) :=
  s.dm.lines.map (fun q => (q.1, { LineSt.fresh (some (s.per.boundaries + 2)) with lastOut := q.2.lastOut }))

/-- The memory as it comes UP, with the conditions of DM_DOWN and DM_TRAIN at an end. -/
def State.dmIsUp (s : State) (g : Nat) : State :=
  ((({ s with dm := { s.dm with
    st := .up, g := some g, gRec := some g, lines := s.freshLines, leave := s.dm.rule.isSome, uncorrTimes := [], scrubPos := 0
    retrain := none } } : State).endCond 0x0804 0x71 0xFFFF).endCond 0x0805 0x71 0xFFFF)

theorem State.dmUp_fewer (s : State) (g : Nat) : (s.dmIsUp g).Fewer (s.dmUp g) := by
  obtain ⟨u, hu, hf⟩ := State.retrainDone_fewer ((({ s with dm := { s.dm with
    st := .up, g := some g, gRec := some g, lines := s.freshLines, leave := s.dm.rule.isSome, uncorrTimes := [], scrubPos := 0
    } } : State).endCond 0x0804 0x71 0xFFFF).endCond 0x0805 0x71 0xFFFF) 2
  subst hu
  exact hf

theorem goodCapacity_of {g : Nat} (h : g = 2 ∨ g = 4 ∨ g = 6 ∨ g = 8) : goodCapacity g = true := by
  simpa [goodCapacity, or_assoc] using h

/-- Training that ends with a capacity that the part supports (08 R239). -/
theorem State.dmTrained_good (hst : s.dm.st = .training) (hr : s.dm.retryWait = false) {g : Nat}
    (hg : g = 2 ∨ g = 4 ∨ g = 6 ∨ g = 8) (pass : Bool) (step : Nat) :
    s.dmTrained (some g) pass step = if pass then s.dmUp g else if s.dm.attempt < 2 then
        { s with dm := { s.dm with g := some g, attempt := s.dm.attempt + 1, retryWait := true } }
      else ({ s with dm := { s.dm with g := some g } } : State).dmFail step := by
  simp [State.dmTrained, hst, hr, goodCapacity_of hg]

theorem exec_dmTrainingDone_pass (hc : s.portsCalm) (hst : s.dm.st = .training) (hr : s.dm.retryWait = false) {g : Nat}
    (hg : g = 2 ∨ g = 4 ∨ g = 6 ∨ g = 8) (step : Nat) :
    ∃ P, exec (.dmTrainingDone (some g) true step) s = .next { s.dmIsUp g with ports := P } := by
  have hf := s.dmUp_fewer g
  obtain ⟨P, hP⟩ := hf.as_
  refine ⟨P, ?_⟩
  show Host.Outcome.next (s.dmTrained (some g) true step).serve = _
  rw [State.dmTrained_good hst hr hg, if_pos rfl, State.serve_eq_self (hf.calm (hc.congr rfl rfl)), hP]

theorem exec_dmTrainingDone_retry (hc : s.portsCalm) (hst : s.dm.st = .training) (hr : s.dm.retryWait = false) {g : Nat}
    (hg : g = 2 ∨ g = 4 ∨ g = 6 ∨ g = 8) (ha : s.dm.attempt < 2) (step : Nat) :
    exec (.dmTrainingDone (some g) false step) s =
      .next { s with dm := { s.dm with g := some g, attempt := s.dm.attempt + 1, retryWait := true } } := by
  show Host.Outcome.next (s.dmTrained (some g) false step).serve = _
  rw [State.dmTrained_good hst hr hg, if_neg Bool.false_ne_true, if_pos ha]
  exact congrArg Host.Outcome.next (State.serve_eq_self (hc.congr rfl rfl))

theorem exec_dmTrainingDone_fail (hc : s.portsCalm) (hst : s.dm.st = .training) (hr : s.dm.retryWait = false) {g : Nat}
    (hg : g = 2 ∨ g = 4 ∨ g = 6 ∨ g = 8) (ha : 2 ≤ s.dm.attempt) (step : Nat) :
    ∃ t, exec (.dmTrainingDone (some g) false step) s = .next t ∧ t.dm.st = .failed ∧ t.dm.retrain = none ∧
      s.raised t 0x0805 0x71 0xFFFF step := by
  obtain ⟨u, hu, hf⟩ := State.retrainDone_fewer (({ s with dm := { s.dm with g := some g, st := .failed, retryWait := false
                                                                             refresh := 0 } } : State).raise 0x0805 0x71 0xFFFF step) 4
  refine ⟨_, rfl, ?_⟩
  rw [State.dmTrained_good hst hr hg, if_neg Bool.false_ne_true, if_neg (Nat.not_lt.mpr ha)]
  have hfail : u.Fewer (({ s with dm := { s.dm with g := some g } } : State).dmFail step) := hf
  rw [State.serve_eq_self (hfail.calm (by subst hu; exact hc.congr rfl rfl))]
  obtain ⟨P, hP⟩ := hfail.as_
  rw [hP, hu]
  exact ⟨rfl, rfl, (State.raised_raise (u := { s with dm := { s.dm with g := some g, st := .failed, retryWait := false
                                                                        refresh := 0 } }) rfl _ _ _ _).congr rfl rfl⟩

/-! An UP memory that goes down (08 R245). -/

theorem State.dmDown_up (hst : s.dm.st = .up) (c : Nat) :
    s.dmDown c = ({ s with dm := { s.dm with st := .down, leave := false, uncorrTimes := [] } } : State).raise 0x0804 0x71 0xFFFF c :=
  if_pos hst

theorem exec_dmMr4Read_cool (h : s.dm.st = .training ∨ s.dm.st = .up ∨ s.dm.st = .down) (refresh : Nat) :
    exec (.dmMr4Read refresh false) s = .next { s with dm := { s.dm with refresh := refresh % 32 } } := by
  refine congrArg Host.Outcome.next ?_
  unfold State.mr4Read
  rcases h with h | h | h <;> simp only [h, Bool.false_eq_true, if_false]

theorem exec_dmMr4Read_hot (h : s.dm.st = .up) (refresh : Nat) :
    ∃ t, exec (.dmMr4Read refresh true) s = .next t ∧ s.raised t 0x0804 0x71 0xFFFF 3 ∧ t.dm.st = .down ∧
      t.dm.refresh = refresh % 32 := by
  refine ⟨_, rfl, ?_⟩
  have ht : s.mr4Read refresh true = ({ s with dm := { s.dm with refresh := refresh % 32 } } : State).dmDown 3 := by
    simp only [State.mr4Read, h, if_true]
  rw [ht, State.dmDown_up (s := { s with dm := { s.dm with refresh := refresh % 32 } }) h]
  exact ⟨State.raised_raise rfl _ _ _ _, rfl, rfl⟩

/-! Errors of a block (08 R242, R244). -/

theorem State.blockRead_on_time {line block due : Nat} {x : LineSt} (hst : s.dm.st = .up) (hx : lookup? s.dm.lines line = some x)
    (w : Nat) (double : Bool) :
    exec (.delayBlockRead line block due [(w, double)] false s.now) s = .next
      (s.wordError line block (s.boundaryOf due - (s.per.mediaTime - due)) w double s.now) := by
  show Host.Outcome.next ((s.at_ s.now).blockRead line block due [(w, double)] false) = _
  rw [State.at_now]
  simp [State.blockRead, hst, hx]

/-- A line with both samples of word `w` of a block marked for the hold value, from period `n` on (08 R244). -/
def LineSt.marked (l : LineSt) (due w n : Nat) : LineSt :=
  { l with repl := l.repl ++ ([due + 2 * w, due + 2 * w + 1].filter (fun p => decide (n ≤ p))).map (fun p => (p, n)) }

theorem State.wordError_double {line block due w t : Nat} (ht : inWindow s.dm.uncorrTimes t 1000000 = []) :
    s.wordError line block due w true t =
      ({ s with dm := { s.dm with
        uncorr := satAdd 32 s.dm.uncorr 1
        lines := updateKey s.dm.lines line (fun l => l.marked due w s.per.boundaries)
        uncorrTimes := [t] } } : State).report 0x0802 0x71 line (dmData block line) := by
  simp only [State.wordError, if_true, ht]
  rfl

theorem exec_delayBlockRead_double {line block w : Nat} {x : LineSt} (hst : s.dm.st = .up) (hx : lookup? s.dm.lines line = some x)
    (ht : inWindow s.dm.uncorrTimes s.now 1000000 = []) :
    ∃ t y, exec (.delayBlockRead line block s.per.mediaTime [(w, true)] false s.now) s = .next t ∧
      t.dm.uncorr = satAdd 32 s.dm.uncorr 1 ∧ t.dm.corr = s.dm.corr ∧ t.dm.st = .up ∧ lookup? t.dm.lines line = some y ∧
      y.repl = x.repl ++ [(s.per.boundaries + 2 * w, s.per.boundaries), (s.per.boundaries + 2 * w + 1, s.per.boundaries)] ∧
      s.reported t 0x0802 0x71 line (packBits [(32, block), (16, line)]) := by
  have hb : s.boundaryOf s.per.mediaTime - (s.per.mediaTime - s.per.mediaTime) = s.per.boundaries := by
    simp [State.boundaryOf]
  rw [State.blockRead_on_time hst hx, hb, State.wordError_double ht]
  have hl : lookup? (updateKey s.dm.lines line (fun l => l.marked s.per.boundaries w s.per.boundaries)) line =
      some (x.marked s.per.boundaries w s.per.boundaries) := by rw [lookup?_updateKey, hx]; rfl
  refine ⟨_, _, rfl, rfl, rfl, hst, hl, ?_, State.reported_report rfl _ _ _ _⟩
  have h1 : s.per.boundaries ≤ s.per.boundaries + 2 * w + 1 := by omega
  simp [LineSt.marked, h1]

theorem State.scrubRead_next {block : Nat} (hst : s.dm.st = .up) (hb : block = s.dm.scrubPos) (errs : List (Nat × Bool)) :
    s.scrubRead block errs =
      let u := errs.foldl (fun s e =>
        if e.2 then ({ s with dm := { s.dm with uncorr := satAdd 32 s.dm.uncorr 1 } } : State).report 0x0802 0x71 0xFFFF (dmData block 0xFFFF)
        else ({ s with dm := { s.dm with corr := satAdd 32 s.dm.corr 1 } } : State).report 0x0801 0x71 0xFFFF (dmData block 0)) s
      { u with dm := { u.dm with
        scrubPos := if s.dm.scrubBlocks ≤ block + 1 then 0 else block + 1
        lastPass := if s.dm.scrubBlocks ≤ block + 1 then u.per.mediaTime % 2 ^ 32 else u.dm.lastPass } } := by
  simp only [State.scrubRead, hst, hb, decide_true, BEq.rfl, Bool.and_self, if_true, decide_eq_true_eq]

end

/-- Settles O23: training through its end, an UP memory through the criteria that take it down, errors through the reports
that they make. -/
theorem delayStates : Obligations.DelayStates := by
  refine ⟨fun s => ⟨?_, ?_, ?_, ?_, ?_, ?_, ?_, ?_, ?_⟩, fun s block hst => ⟨?_, ?_, ?_, ?_, ?_⟩⟩
  · intro g step hc hs hr hg
    obtain ⟨P, hP⟩ := exec_dmTrainingDone_pass hc hs hr hg step
    refine ⟨_, hP, rfl, rfl, rfl, rfl, ?_, ?_, ?_, ?_, rfl, rfl⟩
    · show s.freshLines.map (·.1) = _
      simp [State.freshLines]
    · intro q hq
      obtain ⟨x, -, rfl⟩ := List.mem_map.mp (show q ∈ s.freshLines from hq)
      exact ⟨rfl, rfl⟩
    · exact State.hasCond_endCond_of _ 0x0805 0x71 0xFFFF (State.hasCond_endCond_self _ 0x0804 0x71 0xFFFF)
    · exact State.hasCond_endCond_self _ 0x0805 0x71 0xFFFF
  · exact fun g step hc hs hr hg ha => exec_dmTrainingDone_retry hc hs hr hg ha step
  · exact fun g step hc hs hr hg ha => exec_dmTrainingDone_fail hc hs hr hg ha step
  · intro hs hr
    have h : (decide (s.dm.st = .training) && s.dm.retryWait) = true := by simp [hs, hr]
    exact congrArg Host.Outcome.next (if_pos h)
  · exact fun hs => congrArg Host.Outcome.next (if_pos hs)
  · intro hs
    refine ⟨_, rfl, ?_⟩
    rw [State.dmDown_up hs]
    exact ⟨State.raised_raise rfl _ _ _ _, rfl⟩
  · exact fun refresh h => exec_dmMr4Read_cool h refresh
  · exact fun refresh h => exec_dmMr4Read_hot h refresh
  · exact fun hs => congrArg Host.Outcome.next (if_pos hs)
  · intro line due w x hx
    refine ⟨_, State.blockRead_on_time hst hx w false, rfl, rfl, rfl, State.reported_report rfl _ _ _ _⟩
  · exact fun line w x hx ht => exec_delayBlockRead_double hst hx ht
  · intro errs hne
    refine congrArg Host.Outcome.next (if_neg ?_)
    simp [hne]
  · intro hb
    exact congrArg Host.Outcome.next (State.scrubRead_next hst hb [])
  · intro w hb
    refine ⟨_, congrArg Host.Outcome.next (State.scrubRead_next hst hb [(w, true)]), rfl, rfl, ?_⟩
    exact (State.reported_report (s := s) (u := { s with dm := { s.dm with uncorr := satAdd 32 s.dm.uncorr 1 } }) rfl
      0x0802 0x71 0xFFFF (dmData block 0xFFFF)).congr rfl rfl

end Sys2Proof.Machine
end

section
/-!
SUPPORT. Operations that touch the ports only through the messages of events, and what the transitions of a lane leave
(09 R256 to R258, R283).
-/
namespace Sys2Proof.Machine

/-! Operations that do not depend on the ports and change there only what command service does not work on. -/

/-- Ports changed in messages and pending events alone. -/
structure Ports.Signalled (P Q : Ports) : Prop where
  same : P.Same Q
  flash : Q.flashQ = P.flashQ
  writes : Q.hostWrites = P.hostWrites
  keys : Q.pc.keys = P.pc.keys

theorem Ports.Signalled.refl (P : Ports) : P.Signalled P := ⟨Ports.Same.refl P, rfl, rfl, rfl⟩

theorem Ports.Same.trans {P Q R : Ports} (h : P.Same Q) (k : Q.Same R) : P.Same R :=
  ⟨fun q => ⟨(k.1 q).st.trans (h.1 q).st, (k.1 q).flights.trans (h.1 q).flights, (k.1 q).placed.trans (h.1 q).placed,
    (k.1 q).avail.trans (h.1 q).avail, (k.1 q).waiting.trans (h.1 q).waiting, (k.1 q).ring.trans (h.1 q).ring,
    fun p => ((k.1 q).size p).trans ((h.1 q).size p), (k.1 q).head.trans (h.1 q).head⟩, k.2.trans h.2⟩

theorem Ports.Signalled.trans {P Q R : Ports} (h : P.Signalled Q) (k : Q.Signalled R) : P.Signalled R :=
  ⟨h.same.trans k.same, k.flash.trans h.flash, k.writes.trans h.writes, k.keys.trans h.keys⟩

/-- From `s` the operation does the same for all ports, and to the ports no more than to signal messages. -/
def State.PortsMap (s : State) (op : State → State) : Prop :=
  ∃ g : Ports → Ports, (∀ P, op { s with ports := P } = { op s with ports := g P }) ∧ ∀ P : Ports, P.Signalled (g P)

theorem State.PortsMap.pure {s : State} {op : State → State} (h : ∀ P, op { s with ports := P } = { op s with ports := P }) :
    s.PortsMap op := ⟨id, h, fun P => Ports.Signalled.refl P⟩

theorem State.ite_ports (c : Prop) [Decidable c] (a b : State) (P : Ports) :
    ({ (if c then a else b) with ports := P } : State) = if c then { a with ports := P } else { b with ports := P } := by
  split <;> rfl

theorem State.PortsMap.comp {s : State} {op op' : State → State} (h : s.PortsMap op) (k : (op s).PortsMap op') :
    s.PortsMap (fun u => op' (op u)) := by
  obtain ⟨g, hg, hs⟩ := h
  obtain ⟨g', hg', hs'⟩ := k
  exact ⟨fun P => g' (g P), fun P => (congrArg op' (hg P)).trans (hg' (g P)), fun P => (hs P).trans (hs' _)⟩

theorem State.PortsMap.congr {s : State} {op op' : State → State} (h : s.PortsMap op)
    (he : ∀ P, op' { s with ports := P } = op { s with ports := P }) : s.PortsMap op' := by
  obtain ⟨g, hg, hs⟩ := h
  have hself : op' s = op s := he s.ports
  exact ⟨g, fun P => by rw [hself]; exact (he P).trans (hg P), hs⟩

theorem State.PortsMap.ite {s : State} {op op' : State → State} {c : State → Prop} [DecidablePred c]
    (hc : ∀ P, c { s with ports := P } ↔ c s) (h : s.PortsMap op) (k : s.PortsMap op') :
    s.PortsMap (fun u => if c u then op u else op' u) := by
  by_cases hs : c s
  · exact h.congr fun P => if_pos ((hc P).mpr hs)
  · exact k.congr fun P => if_neg (fun hP => hs ((hc P).mp hP))

theorem State.PortsMap.event (s : State) (v : Nat) : s.PortsMap (fun u => u.event v) := by
  obtain ⟨f, hf, hk⟩ := s.event_ports v
  refine ⟨f, fun P => ?_, fun P => ⟨(hk P).1, (hk P).2.1, (hk P).2.2.1, (hk P).2.2.2⟩⟩
  show State.event { s with ports := P } v = { s.event v with ports := f P }
  have h0 : s.event v = { s with ports := f s.ports } := hf s.ports
  rw [h0]
  exact hf P

theorem State.PortsMap.signalled {s : State} {op : State → State} (h : s.PortsMap op) : s.ports.Signalled (op s).ports := by
  obtain ⟨g, hg, hs⟩ := h
  have h0 : op s = { op s with ports := g s.ports } := hg s.ports
  rw [h0]
  exact hs s.ports

/-- A host command is answered with what its run gives, the run doing no more to the ports than to signal messages. -/
theorem State.answers_of_map {s : State} {op : State → State} {i : Instr} {c : CmdInfo} {st : Status} {d : Nat} {res : List Byte}
    (h : s.meets i c) (hop : s.PortsMap op)
    (hrun : ∀ (P : Ports) (f : Flight), s.ports.running P c f →
      runCmd (s.runCtx c f) i { s with ports := P } = (.done st d res, op { s with ports := P }))
    (hu : (op s).pwr = s.pwr) (htw : (op s).tw = s.tw)
    (hlen : res.length ≤ 400 := by simp [resBytes, leBytes_length]) (hex : exec i s = .next (s.hostCmd i) := by rfl) :
    s.answers i c st d res (op s) := by
  have hsig := hop.signalled
  obtain ⟨g, hg, hs⟩ := hop
  obtain ⟨t, h1, h2, h3⟩ := State.hostCmd_does h st d res (op s) g hlen (by rw [hu]; exact h.service) htw
    (fun P => (hs P).same) (fun P a b => ⟨(hs P).writes.trans (a.trans hsig.writes.symm), (hs P).keys.trans (b.trans hsig.keys.symm)⟩)
    (fun P f hP _ => by rw [hrun P f hP, hg P])
  exact ⟨t, by rw [hex, h1], h2, h3⟩

/-! The switch under the transitions of a lane. -/

theorem turns_keeps {α β : Type} (f : Nat → α → α) (π : α → β) (h : ∀ i x, π (f i x) = π x) (n : Nat) (x : α) :
    π (turns n x f) = π x := by
  unfold turns
  induction List.range n generalizing x with
  | nil => rfl
  | cons i l ih => rw [List.foldl_cons, ih, h]

theorem foldl_keeps {α β γ : Type} (f : α → γ → α) (π : α → β) (h : ∀ x c, π (f x c) = π x) (l : List γ) (x : α) :
    π (l.foldl f x) = π x := by
  induction l generalizing x with
  | nil => rfl
  | cons c l ih => rw [List.foldl_cons, ih, h]

/-- The switch without its queues and its store of frames. -/
def Net.bare (n : Net) : Net := { n with queues := Net.reset.queues, stored := [] }

theorem Net.release_bare (n : Net) (f : Frame) : (n.release f).bare = n.bare := by
  unfold Net.release
  split <;> rfl

theorem Net.release_queues (n : Net) (f : Frame) : (n.release f).queues = n.queues := by
  unfold Net.release
  split <;> rfl

theorem Net.flushLane_bare (n : Net) (i : Nat) (x : Option Frame) : (n.flushLane i x).bare = n.bare := by
  unfold Net.flushLane
  rw [turns_keeps _ Net.bare]
  · cases x with
    | none => rfl
    | some f => exact n.release_bare f
  · exact fun q n => foldl_keeps _ Net.bare (fun n f => n.release_bare f) _ _

/-! A lane that leaves UP (09 R257, R258). -/

/-- The lane as it leaves UP at the present time. -/
def State.leftLane (s : State) (i : Nat) (next : LinkSt) : Lane :=
  let l := s.lane i
  let times := l.exitTimes.filter (fun u => decide (s.now < u + 1000000000)) ++ [s.now]
  ({ l with
    st := next, inTx := none, exits := satAdd 16 l.exits 1, exitTimes := times, lastExit := s.now
    damped := l.damped || decide (4 ≤ times.length), goodRun := 0, frrActive := l.backup.isSome }).count 19

/-- The switch without the copies that wait for a lane that leaves UP, and without the addresses learned there. -/
def State.leftNet (s : State) (i : Nat) : Net :=
  let net := s.net.flushLane i (s.lane i).inTx
  { net with macTbl := net.macTbl.filter (fun e => e.static_ || e.mask != 2 ^ i || (s.lane i).backup.isSome) }

/-- The state with the lane out of UP and its condition raised. -/
def State.leftUp (s : State) (i : Nat) (next : LinkSt) (cause : Nat) : State :=
  (({ s with net := s.leftNet i } : State).setLane i (s.leftLane i next)).raise 0x0401 (laneZone i) i cause

/-- The state with the lane out of UP, and port C's path down with the last one (15 R488). -/
def State.goneUp (s : State) (i : Nat) (next : LinkSt) (cause : Nat) : State :=
  if (List.range 8).any (fun j => decide (((s.leftUp i next cause).lane j).st = .up)) then s.leftUp i next cause
  else (s.leftUp i next cause).raise 0x0B01 0xC2 0xFFFF 2

theorem State.leaveUp_up {s : State} {i : Nat} (h : (s.lane i).st = .up) (next : LinkSt) (cause : Nat) :
    s.leaveUp i next cause = (s.goneUp i next cause).event 7 := by
  unfold State.leaveUp State.goneUp
  rw [if_pos h, apply_ite (fun u => State.event u 7)]
  rfl

theorem State.leaveUp_other {s : State} {i : Nat} (h : (s.lane i).st ≠ .up) (next : LinkSt) (cause : Nat) :
    s.leaveUp i next cause = s.setLane i { s.lane i with
      st := next, goodRun := 0, inTx := if next = .probing then (s.lane i).inTx else none } := if_neg h

/-! What a transition of a lane leaves. -/

/-- From `s` to `t` lane `i` made a transition: all else but the frames in the switch, reports and messages is as before. -/
structure State.LinkStep (i : Nat) (s t : State) : Prop where
  rest : t = { s with net := t.net, flt := t.flt, ports := t.ports }
  table : t.net.streamTbl = s.net.streamTbl
  other : ∀ j, j ≠ i → t.lane j = s.lane j

theorem State.LinkStep.refl (i : Nat) (s : State) : State.LinkStep i s s := ⟨rfl, rfl, fun _ _ => rfl⟩

theorem State.LinkStep.trans {i : Nat} {s t u : State} (h : State.LinkStep i s t) (k : State.LinkStep i t u) :
    State.LinkStep i s u := by
  refine ⟨?_, k.table.trans h.table, fun j hj => (k.other j hj).trans (h.other j hj)⟩
  have h1 := h.rest
  have h2 := k.rest
  rw [h1] at h2
  exact h2

theorem State.LinkStep.setLane (i : Nat) (s : State) (x : Lane) : State.LinkStep i s (s.setLane i x) :=
  ⟨rfl, rfl, fun j hj => by rw [State.setLane_lane, if_neg (fun h => hj h.1.symm)]⟩

theorem State.LinkStep.flt (i : Nat) (s : State) (f : Flt) : State.LinkStep i s { s with flt := f } := ⟨rfl, rfl, fun _ _ => rfl⟩

theorem State.LinkStep.event (i : Nat) (s : State) (v : Nat) : State.LinkStep i s (s.event v) := ⟨rfl, rfl, fun _ _ => rfl⟩

theorem State.leftNet_lanes (s : State) (i : Nat) : (s.leftNet i).lanes = s.net.lanes ∧ (s.leftNet i).streamTbl = s.net.streamTbl := by
  have h := s.net.flushLane_bare i (s.lane i).inTx
  have hl := congrArg Net.lanes h
  have ht := congrArg Net.streamTbl h
  exact ⟨hl, ht⟩

theorem State.LinkStep.leftUp (i : Nat) (s : State) (next : LinkSt) (cause : Nat) : State.LinkStep i s (s.leftUp i next cause) := by
  have hl := s.leftNet_lanes i
  have hn : State.LinkStep i s { s with net := s.leftNet i } :=
    ⟨rfl, hl.2, fun j _ => by show rd (s.leftNet i).lanes j = rd s.net.lanes j; rw [hl.1]⟩
  exact (hn.trans (State.LinkStep.setLane i _ _)).trans (State.LinkStep.flt i _ _)

theorem State.LinkStep.goneUp (i : Nat) (s : State) (next : LinkSt) (cause : Nat) : State.LinkStep i s (s.goneUp i next cause) := by
  unfold State.goneUp
  split
  · exact State.LinkStep.leftUp i s next cause
  · exact (State.LinkStep.leftUp i s next cause).trans (State.LinkStep.flt i _ _)

theorem State.LinkStep.leaveUp (i : Nat) (s : State) (next : LinkSt) (cause : Nat) : State.LinkStep i s (s.leaveUp i next cause) := by
  by_cases h : (s.lane i).st = .up
  · rw [State.leaveUp_up h]
    exact (State.LinkStep.goneUp i s next cause).trans (State.LinkStep.event i _ 7)
  · rw [State.leaveUp_other h]
    exact State.LinkStep.setLane i s _

theorem State.LinkStep.enterUp (i : Nat) (s : State) : State.LinkStep i s (s.enterUp i) :=
  ((State.LinkStep.setLane i s _).trans (State.LinkStep.flt i _ _)).trans (State.LinkStep.event i _ 7)

theorem State.LinkStep.startLane (i : Nat) (s : State) : State.LinkStep i s (s.startLane i) := by
  unfold State.startLane
  dsimp only
  split
  · exact State.LinkStep.setLane i s _
  · exact State.LinkStep.refl i s

theorem State.LinkStep.disableLane (i : Nat) (s : State) : State.LinkStep i s (s.disableLane i) :=
  ((State.LinkStep.leaveUp i s .disabled 2).trans (State.LinkStep.flt i _ _)).trans (State.LinkStep.setLane i _ _)

theorem State.LinkStep.setPortCfg (i : Nat) (s : State) (c : NetPortCfg) : State.LinkStep i s (s.setPortCfg i c) := by
  unfold State.setPortCfg
  dsimp only
  split
  · split
    · exact State.LinkStep.setLane i s _
    · exact (State.LinkStep.disableLane i s).trans (State.LinkStep.setLane i _ _)
  split
  · exact (State.LinkStep.setLane i s _).trans (State.LinkStep.startLane i _)
  split
  · exact ((State.LinkStep.leaveUp i s .down 2).trans (State.LinkStep.setLane i _ _)).trans (State.LinkStep.startLane i _)
  split
  · exact State.LinkStep.setLane i s _
  split
  · exact (State.LinkStep.setLane i s _).trans (State.LinkStep.enterUp i _)
  · exact (State.LinkStep.setLane i s _).trans (State.LinkStep.setLane i _ _)

/-! The setting of a lane. -/

theorem State.setLane_lane_self (s : State) {i : Nat} (hi : i < 8) (x : Lane) : (s.setLane i x).lane i = x := by
  rw [State.setLane_lane, if_pos ⟨rfl, hi⟩]

theorem State.enterUp_lane (s : State) {i : Nat} (hi : i < 8) :
    (s.enterUp i).lane i = { s.lane i with st := .up, upSince := s.now } := State.setLane_lane_self s hi _

theorem State.startLane_cfg (s : State) {i : Nat} (hi : i < 8) : ((s.startLane i).lane i).cfg = (s.lane i).cfg := by
  unfold State.startLane
  dsimp only
  split
  · rw [State.setLane_lane_self s hi]
  · rfl

theorem State.setPortCfg_cfg (s : State) {i : Nat} (hi : i < 8) (c : NetPortCfg) : ((s.setPortCfg i c).lane i).cfg = c := by
  have hput : ∀ u : State, ((u.setLane i { (u.lane i) with cfg := c }).lane i).cfg = c := fun u => by
    rw [State.setLane_lane_self u hi]
  unfold State.setPortCfg
  dsimp only
  split
  · split <;> exact hput _
  split
  · rw [State.startLane_cfg _ hi, hput]
  split
  · rw [State.startLane_cfg _ hi, hput]
  split
  · exact hput s
  split
  · rw [State.enterUp_lane _ hi]
    exact hput s
  · rw [State.setLane_lane_self _ hi]
    exact hput s

/-! The transitions of a lane do the same for all ports. -/

theorem State.PortsMap.leaveUp (s : State) (i : Nat) (next : LinkSt) (cause : Nat) : s.PortsMap (fun u => u.leaveUp i next cause) := by
  by_cases h : (s.lane i).st = .up
  · have hgone : s.PortsMap (fun u => u.goneUp i next cause) := State.PortsMap.pure fun P => by
      unfold State.goneUp
      rw [State.ite_ports]
      rfl
    exact (hgone.comp (State.PortsMap.event _ 7)).congr fun P => State.leaveUp_up (s := { s with ports := P }) h next cause
  · exact (State.PortsMap.pure (op := fun u => u.setLane i { u.lane i with
      st := next, goodRun := 0, inTx := if next = .probing then (u.lane i).inTx else none }) fun P => rfl).congr fun P =>
      State.leaveUp_other (s := { s with ports := P }) h next cause

/-- The state with a lane in UP and its conditions at an end. -/
def State.cameUp (s : State) (i : Nat) : State :=
  ((s.setLane i { s.lane i with st := .up, upSince := s.now }).endCond 0x0401 (laneZone i) i).endCond 0x0B01 0xC2 0xFFFF

theorem State.PortsMap.enterUp (s : State) (i : Nat) : s.PortsMap (fun u => u.enterUp i) := by
  have h := (State.PortsMap.pure (s := s) (op := fun u => u.cameUp i) fun _ => rfl).comp (State.PortsMap.event _ 7)
  exact h

theorem State.PortsMap.startLane (s : State) (i : Nat) : s.PortsMap (fun u => u.startLane i) :=
  State.PortsMap.pure fun P => by
    unfold State.startLane
    rw [State.ite_ports]
    rfl

theorem State.PortsMap.disableLane (s : State) (i : Nat) : s.PortsMap (fun u => u.disableLane i) := by
  have h := (State.PortsMap.leaveUp s i .disabled 2).comp (State.PortsMap.pure (op := fun u : State =>
    (u.endCond 0x0401 (laneZone i) i).setLane i { u.lane i with
      pcsLock := false, search := false, mode := 3, missRun := 3, peerSeen := false, hbAt := none }) fun _ => rfl)
  exact h

/-- The state with a new setting on a lane. -/
def State.putCfg (s : State) (i : Nat) (c : NetPortCfg) : State := s.setLane i { s.lane i with cfg := c }

theorem State.PortsMap.putCfg (s : State) (i : Nat) (c : NetPortCfg) : s.PortsMap (fun u => u.putCfg i c) :=
  State.PortsMap.pure fun _ => rfl

/-- What a new setting does to its lane, by what it changes. -/
theorem State.setPortCfg_eq (s : State) (i : Nat) (c : NetPortCfg) :
    s.setPortCfg i c =
      if c.enable = false then (if (s.lane i).st = .disabled then s.putCfg i c else (s.disableLane i).putCfg i c)
      else if (s.lane i).st = .disabled then (s.putCfg i c).startLane i
      else if c.mode ≠ (s.lane i).cfg.mode ∨ c.fec ≠ (s.lane i).cfg.fec then ((s.leaveUp i .down 2).putCfg i c).startLane i
      else if c.hbEn = (s.lane i).cfg.hbEn then s.putCfg i c
      else if (s.lane i).st = .probing then (s.putCfg i c).enterUp i
      else (s.putCfg i c).setLane i { (s.putCfg i c).lane i with
        missRun := if c.hbEn && (s.lane i).st = .up then 0 else 3, peerSeen := false } := by
  cases he : c.enable
  · by_cases hd : (s.lane i).st = .disabled <;> simp [State.setPortCfg, he, State.putCfg, hd]
  · simp only [State.setPortCfg, he, State.putCfg, Bool.or_eq_true, decide_eq_true_eq, beq_iff_eq, ne_eq]
    rfl

theorem State.PortsMap.setPortCfg (s : State) (i : Nat) (c : NetPortCfg) : s.PortsMap (fun u => u.setPortCfg i c) := by
  have hput := State.PortsMap.putCfg s i c
  have hrun := State.PortsMap.pure (s := s) (op := fun u => (u.putCfg i c).setLane i { (u.putCfg i c).lane i with
    missRun := if c.hbEn && (u.lane i).st = .up then 0 else 3, peerSeen := false }) fun _ => rfl
  have hsame := State.PortsMap.ite (c := fun u => (u.lane i).st = .probing) (fun _ => Iff.rfl)
    (hput.comp (State.PortsMap.enterUp _ i)) hrun
  have hhb := State.PortsMap.ite (c := fun u => c.hbEn = (u.lane i).cfg.hbEn) (fun _ => Iff.rfl) hput hsame
  have hmode := State.PortsMap.ite (c := fun u => c.mode ≠ (u.lane i).cfg.mode ∨ c.fec ≠ (u.lane i).cfg.fec) (fun _ => Iff.rfl)
    (((State.PortsMap.leaveUp s i .down 2).comp (State.PortsMap.putCfg _ i c)).comp (State.PortsMap.startLane _ i)) hhb
  have hstart := State.PortsMap.ite (c := fun u => (u.lane i).st = .disabled) (fun _ => Iff.rfl)
    (hput.comp (State.PortsMap.startLane _ i)) hmode
  have hoff := State.PortsMap.ite (c := fun u => (u.lane i).st = .disabled) (fun _ => Iff.rfl)
    hput ((State.PortsMap.disableLane s i).comp (State.PortsMap.putCfg _ i c))
  exact (State.PortsMap.ite (c := fun _ => c.enable = false) (fun _ => Iff.rfl) hoff hstart).congr fun P =>
    State.setPortCfg_eq { s with ports := P } i c

end Sys2Proof.Machine
end

section
/-!
SUPPORT. Settings, tables and counters of the network (09 R262, R264, R276, R281 to R284): settles O24.
-/
namespace Sys2Proof.Machine

section
variable {s : State} {e : Env} {c : CmdInfo} {lane : Nat}

/-! NET_PORT_CONFIG. -/

/-- What stands by while a new setting waits for its confirmation (09 R283). -/
def State.standBy (s : State) (lane revertS : Nat) : Option Revert :=
  if revertS = 0 then none else
    some ⟨match (s.lane lane).revert with | some r => r.old | none => (s.lane lane).cfg, s.now + revertS * 1000000000, false⟩

/-- The state with a new setting in force on a lane. -/
def State.configured (s : State) (lane : Nat) (cfg : NetPortCfg) (revertS : Nat) : State :=
  (s.setPortCfg lane cfg).setLane lane { (s.setPortCfg lane cfg).lane lane with revert := s.standBy lane revertS }

theorem State.configured_lane (hl : lane < 8) (cfg : NetPortCfg) (revertS : Nat) :
    ((s.configured lane cfg revertS).lane lane).cfg = cfg ∧
      ((s.configured lane cfg revertS).lane lane).revert = s.standBy lane revertS := by
  unfold State.configured
  rw [State.setLane_lane_self _ hl]
  exact ⟨State.setPortCfg_cfg s hl cfg, rfl⟩

theorem State.configured_step (lane : Nat) (s : State) (cfg : NetPortCfg) (revertS : Nat) :
    State.LinkStep lane s (s.configured lane cfg revertS) :=
  (State.LinkStep.setPortCfg lane s cfg).trans (State.LinkStep.setLane lane _ _)

theorem State.PortsMap.configured (s : State) (lane : Nat) (cfg : NetPortCfg) (revertS : Nat) :
    s.PortsMap (fun u => u.configured lane cfg revertS) := by
  have h := (State.PortsMap.setPortCfg s lane cfg).comp (State.PortsMap.pure (op := fun u : State =>
    u.setLane lane { u.lane lane with revert := s.standBy lane revertS }) fun _ => rfl)
  exact h.congr fun _ => rfl

/-- The result fields of a setting, with whether one stands by. -/
def settingFields (cfg : NetPortCfg) (pending : Nat) : List RField :=
  [(1, b2n cfg.enable), (1, cfg.mode), (1, cfg.fec), (2, cfg.maxFrame), (1, b2n cfg.hbEn), (1, cfg.defaultPcp),
    (4, packBits ((cfg.pcpMap.toList.reverse).map (fun q => (3, q)))), (1, b2n cfg.floodEn), (1, b2n cfg.learnEn), (1, pending)]

theorem finNetPortConfig_set (hl : lane < 8) (cfg : NetPortCfg) (revertS : Nat) :
    finNetPortConfig lane cfg false revertS false s =
      (.done .ok 0 (resBytes (settingFields cfg (if revertS = 0 then 0 else 1))), s.configured lane cfg revertS) := by
  obtain ⟨hc, hr⟩ := State.configured_lane (s := s) hl cfg revertS
  have hnow : (s.setPortCfg lane cfg).now = s.now := by rw [(State.LinkStep.setPortCfg lane s cfg).rest]
  have hst : (if revertS = 0 then (s.setPortCfg lane cfg).setLane lane { (s.setPortCfg lane cfg).lane lane with revert := none }
      else (s.setPortCfg lane cfg).setLane lane { (s.setPortCfg lane cfg).lane lane with
        revert := some ⟨((s.lane lane).revert.map (·.old)).getD (s.lane lane).cfg,
          (s.setPortCfg lane cfg).now + revertS * 1000000000, false⟩ }) = s.configured lane cfg revertS := by
    unfold State.configured State.standBy
    rw [hnow]
    split
    · rfl
    · cases (s.lane lane).revert <;> rfl
  have hres : (s.configured lane cfg revertS).portCfgResult lane =
      .done .ok 0 (resBytes (settingFields cfg (if revertS = 0 then 0 else 1))) := by
    unfold State.portCfgResult
    rw [hc, hr]
    unfold State.standBy
    split <;> rfl
  rw [← hres, ← hst]
  rfl

/-- A new setting without PERSIST goes into force at once. -/
theorem answers_netPortConfig_set (hl : lane ≤ 7) {cfg : NetPortCfg} {revertS : Nat}
    (hm : s.meets (.netPortConfig e lane cfg false revertS false) c) (hok : portCfgOk cfg = true) (hr : revertS ≤ 600)
    (hd : s.domOn (laneDomain lane) = true) :
    s.answers (.netPortConfig e lane cfg false revertS false) c .ok 0 (resBytes (settingFields cfg (if revertS = 0 then 0 else 1)))
      (s.configured lane cfg revertS) := by
  have hstep := State.configured_step lane s cfg revertS
  refine State.answers_of_map (op := fun u => u.configured lane cfg revertS) hm (State.PortsMap.configured s lane cfg revertS)
    (fun P f _ => ?_) (by rw [hstep.rest]) (by rw [hstep.rest]) (by simp [resBytes, leBytes_length, settingFields])
  have hd' : ({ s with ports := P } : State).domOn (laneDomain lane) = true := hd
  simp only [runCmd, runNetPortConfig, hok, hd', Nat.not_lt.mpr hl, Nat.not_lt.mpr hr]
  exact finNetPortConfig_set (by omega) cfg revertS

/-- CONFIRM without PERSIST keeps the setting in force. -/
theorem answers_netPortConfig_confirm (hl : lane ≤ 7) {arg : NetPortCfg} {revertS : Nat} {r : Revert}
    (hm : s.meets (.netPortConfig e lane arg false revertS true) c) (hok : portCfgOk arg = true) (hs : revertS ≤ 600)
    (hd : s.domOn (laneDomain lane) = true) (hr : (s.lane lane).revert = some r) (hp : r.persist = false) :
    s.answers (.netPortConfig e lane arg false revertS true) c .ok 0 (resBytes (settingFields (s.lane lane).cfg 0))
      (s.setLane lane { (s.lane lane) with revert := none }) := by
  refine State.answers_of_run hm (fun P f _ => ?_) (by simp [resBytes, leBytes_length, settingFields])
  have hd' : ({ s with ports := P } : State).domOn (laneDomain lane) = true := hd
  have hr' : (({ s with ports := P } : State).lane lane).revert = some r := hr
  have hself : (({ s with ports := P } : State).setLane lane { (({ s with ports := P } : State).lane lane) with revert := none }).lane lane =
      { (s.lane lane) with revert := none } := State.setLane_lane_self _ (by omega) _
  have hn : ({ s with ports := P } : State).lane lane = s.lane lane := rfl
  simp only [runCmd, runNetPortConfig, finNetPortConfig, hok, hd', hr', Nat.not_lt.mpr hl, Nat.not_lt.mpr hs, hp, Option.isNone_some,
    Option.map_some, Option.getD_some, Bool.or_false, Bool.and_false, Bool.not_true, decide_false, Bool.false_eq_true, if_false, if_true,
    State.portCfgResult, hself]
  rfl

/-! Queues, switch and fast reroute. -/

theorem answers_netQueueConfig {port q rsv qmax : Nat} (hm : s.meets (.netQueueConfig e port q rsv qmax false) c) (hp : port ≤ 9)
    (hq : q ≤ 7) (hfit : (s.net.allQueues.map (·.rsv)).sum - (s.net.queue port q).rsv + rsv ≤ 16384) :
    s.answers (.netQueueConfig e port q rsv qmax false) c .ok 0
      (resBytes [(4, 32768 - (((s.net.setQueue port q { (s.net.queue port q) with rsv := rsv, qmax := qmax }).allQueues.map (·.rsv)).sum))])
      { s with net := s.net.setQueue port q { (s.net.queue port q) with rsv := rsv, qmax := qmax } } := by
  refine State.answers_of_run hm fun P f _ => ?_
  have h1 : ¬ (decide (9 < port) || decide (7 < q)) = true := by simp [hp, hq]
  exact (if_neg h1).trans ((if_neg (Nat.not_lt.mpr hfit)).trans rfl)

theorem beBytes_length (n v : Nat) : (beBytes n v).length = n := by simp [beBytes, leBytes_length]

theorem answers_netSwitchConfig {et da mac age : Nat} (hm : s.meets (.netSwitchConfig e et da mac age false) c) (he : et ≤ 0xFFFF)
    (hda : da < 2 ^ 48) (hmac : mac < 2 ^ 48) (hage : age = 0 ∨ (10 ≤ age ∧ age ≤ 3600)) :
    s.answers (.netSwitchConfig e et da mac age false) c .ok 0 (leBytes 2 et ++ beBytes 6 da ++ beBytes 6 mac ++ leBytes 2 age)
      { s with net := { s.net with etherType := et, hbDa := da, nodeMac := mac, ageS := age } } := by
  refine State.answers_of_run hm (fun P f _ => ?_) (by simp [leBytes_length, beBytes_length])
  have ha : (age == 0 || within 10 3600 age) = true := by simpa [within] using hage
  have h1 : ¬ (decide (0xFFFF < et) || decide (2 ^ 48 ≤ da) || decide (2 ^ 48 ≤ mac) || !(age == 0 || within 10 3600 age)) = true := by
    rw [ha]
    simp only [Bool.not_true, Bool.or_false, Bool.or_eq_true, decide_eq_true_eq]
    omega
  exact (if_neg h1).trans rfl

theorem answers_netFrrSet (hl : lane ≤ 7) {backup ms : Nat} (hm : s.meets (.netFrrSet e lane backup ms false) c)
    (hb : backup ≤ 7 ∨ backup = 0xFF) (hne : backup ≠ lane) (hms : ms ≤ 60000) :
    s.answers (.netFrrSet e lane backup ms false) c .ok 0 (resBytes [(1, lane), (1, backup), (2, ms)])
      (s.setLane lane { (s.lane lane) with
        backup := if backup = 0xFF then none else some backup
        restoreMs := ms
        frrActive := backup ≠ 0xFF && ((s.lane lane).frrActive || (s.lane lane).st ≠ .up) }) := by
  refine State.answers_of_run hm fun P f _ => ?_
  have hbk : (decide (backup ≤ 7) || backup == 0xFF) = true := by simpa using hb
  have h1 : ¬ (decide (7 < lane) || !(decide (backup ≤ 7) || backup == 0xFF) || backup == lane || decide (60000 < ms)) = true := by
    rw [hbk]
    simp [hl, hne, hms]
  refine (if_neg h1).trans ?_
  by_cases h0 : backup = 0xFF
  · simp only [finNetFrrSet, h0]
    rfl
  · simp only [finNetFrrSet, if_neg h0, decide_eq_true h0]
    rfl

/-! The tables of the switch. -/

theorem beNat_lt (l : List Byte) : beNat l < 256 ^ l.length := by
  have h := leNat_lt l.reverse
  rw [List.length_reverse] at h
  exact h

theorem fwdEntries_range {count : Nat} {data : List Byte} {x : FwdEntry} (h : x ∈ fwdEntries count data) :
    x.streamId < 2 ^ 24 ∧ x.egress ≤ 255 := by
  obtain ⟨i, -, rfl⟩ := List.mem_map.mp h
  exact ⟨leNat_slice_lt data (8 * i + 0) 3, Nat.le_of_lt_succ (leNat_slice_lt data (8 * i + 4) 1)⟩

theorem macEntries_range {count : Nat} {data : List Byte} {x : MacEntry} (h : x ∈ macEntries count data) : x.mac < 2 ^ 48 := by
  obtain ⟨i, -, rfl⟩ := List.mem_map.mp h
  have h := beNat_lt (slice data (16 * i) 6)
  rwa [slice_length] at h

theorem deletesFound_of {β : Type} {has del : β → Bool} {es : List β} (h : ∀ x ∈ es, del x = true → has x = true) :
    deletesFound has del es = true := by
  refine List.all_eq_true.mpr fun x hx => ?_
  cases hd : del x with
  | false => rfl
  | true => simp [h x hx hd]

theorem answers_netStreamFwd {count addr : Nat} {data : List Byte} {es : List FwdEntry} (hm : s.meets (.netStreamFwd e count addr data) c)
    (hl : listed e.port addr count 5 4096) (he : es = fwdEntries count data)
    (hes : ∀ x ∈ es, (x.ingress ≤ 7 ∨ x.ingress = 0xFF) ∧ (x.queue ≤ 7 ∨ x.queue = 0xFF))
    (hdel : ∀ x ∈ es, x.delete = true → ∃ y ∈ s.net.streamTbl, y.id = x.streamId ∧ y.ingress = x.ingress)
    (hfit : (es.foldl applyFwd s.net.streamTbl).length ≤ 16384) :
    s.answers (.netStreamFwd e count addr data) c .ok 0 (resBytes [(4, count), (4, (es.foldl applyFwd s.net.streamTbl).length)])
      { s with net := { s.net with streamTbl := es.foldl applyFwd s.net.streamTbl } } := by
  have hC := hm.ring
  cases hm.info
  refine State.answers_of_run hm fun P f _ => ?_
  obtain ⟨h1, h2⟩ := listed_checks hC hl
  have h3 : es.any (fun e => decide (2 ^ 24 ≤ e.streamId) || !(e.ingress ≤ 7 || e.ingress == 0xFF) ||
      decide (255 < e.egress) || !(e.queue ≤ 7 || e.queue == 0xFF)) = false := by
    refine List.any_eq_false.mpr fun x hx => ?_
    obtain ⟨hi, hq⟩ := hes x hx
    have hr := fwdEntries_range (he ▸ hx)
    simp only [Bool.or_eq_true, Bool.not_eq_true', Bool.or_eq_false_iff, decide_eq_true_eq, decide_eq_false_iff_not,
      beq_eq_false_iff_ne]
    omega
  have h4 : deletesFound (fun e => s.net.streamTbl.any (fun x => x.id == e.streamId && x.ingress == e.ingress)) (·.delete) es = true :=
    deletesFound_of fun x hx hd => by
      obtain ⟨y, hy, hyi, hyg⟩ := hdel x hx hd
      exact List.any_eq_true.mpr ⟨y, hy, by simp [hyi, hyg]⟩
  have hlen : es.length = count := by simp [he, fwdEntries]
  have h2' : ¬ (!countOk addr count 5 4096 || es.any (fun e => decide (2 ^ 24 ≤ e.streamId) || !(e.ingress ≤ 7 || e.ingress == 0xFF) ||
      decide (255 < e.egress) || !(e.queue ≤ 7 || e.queue == 0xFF))) = true := by rw [h2, h3]; simp
  show runNetStreamFwd _ count addr (fwdEntries count data) _ = _
  rw [← he]
  refine (if_neg h1).trans ((if_neg h2').trans ((if_neg (not_bnot_of_true h4)).trans ((if_neg (Nat.not_lt.mpr hfit)).trans ?_)))
  rw [hlen]
  rfl

theorem answers_netMacSet {count addr : Nat} {data : List Byte} {es : List MacEntry} (hm : s.meets (.netMacSet e count addr data) c)
    (hl : listed e.port addr count 2 2048) (he : es = macEntries count data)
    (hes : ∀ x ∈ es, x.vid ≤ 4095 ∧ x.egress ≤ 0x1FF ∧ (x.queue ≤ 7 ∨ x.queue = 0xFF))
    (hdel : ∀ x ∈ es, x.delete = true → ∃ y ∈ s.net.macTbl, y.mac = x.mac ∧ y.vid = x.vid)
    (hfit : (es.foldl applyMac s.net.macTbl).length ≤ 8192) :
    s.answers (.netMacSet e count addr data) c .ok 0 (resBytes [(4, count), (4, (es.foldl applyMac s.net.macTbl).length)])
      { s with net := { s.net with macTbl := es.foldl applyMac s.net.macTbl } } := by
  have hC := hm.ring
  cases hm.info
  refine State.answers_of_run hm fun P f _ => ?_
  obtain ⟨h1, h2⟩ := listed_checks hC hl
  have h3 : es.any (fun e => decide (2 ^ 48 ≤ e.mac) || decide (4095 < e.vid) || decide (0x1FF < e.egress) ||
      !(e.queue ≤ 7 || e.queue == 0xFF)) = false := by
    refine List.any_eq_false.mpr fun x hx => ?_
    obtain ⟨hv, hg, hq⟩ := hes x hx
    have hr := macEntries_range (he ▸ hx)
    simp only [Bool.or_eq_true, Bool.not_eq_true', Bool.or_eq_false_iff, decide_eq_true_eq, decide_eq_false_iff_not,
      beq_eq_false_iff_ne]
    omega
  have h4 : deletesFound (fun e => s.net.macTbl.any (fun x => x.mac == e.mac && x.vid == e.vid)) (·.delete) es = true :=
    deletesFound_of fun x hx hd => by
      obtain ⟨y, hy, hyi, hyg⟩ := hdel x hx hd
      exact List.any_eq_true.mpr ⟨y, hy, by simp [hyi, hyg]⟩
  have hlen : es.length = count := by simp [he, macEntries]
  have h2' : ¬ (!countOk addr count 2 2048 || es.any (fun e => decide (2 ^ 48 ≤ e.mac) || decide (4095 < e.vid) ||
      decide (0x1FF < e.egress) || !(e.queue ≤ 7 || e.queue == 0xFF))) = true := by rw [h2, h3]; simp
  show runNetMacSet _ count addr (macEntries count data) _ = _
  rw [← he]
  refine (if_neg h1).trans ((if_neg h2').trans ((if_neg (not_bnot_of_true h4)).trans ((if_neg (Nat.not_lt.mpr hfit)).trans ?_)))
  rw [hlen]
  rfl

theorem answers_netFwdGet_stream {key sub : Nat} (hm : s.meets (.netFwdGet e 0 key sub) c) (hk : key < 2 ^ 24)
    (hs : sub ≤ 7 ∨ sub = 0xFF) :
    s.answers (.netFwdGet e 0 key sub) c .ok 0
      (match s.net.streamTbl.find? (fun x => x.id == key && x.ingress == sub) with
       | none => resBytes [(1, 0)] | some x => resBytes [(1, 1), (2, x.mask), (1, x.queue)]) s := by
  refine State.answers_of_run hm (fun P f _ => ?_) (by split <;> simp [resBytes, leBytes_length])
  have hsub : (decide (sub ≤ 7) || sub == 0xFF) = true := by simpa using hs
  have h1 : ¬ (decide (2 ^ 24 ≤ key) || !(decide (sub ≤ 7) || sub == 0xFF)) = true := by
    rw [hsub]
    simpa using hk
  simp only [runCmd, runNetFwdGet, if_true, if_neg h1]
  cases s.net.streamTbl.find? (fun x => x.id == key && x.ingress == sub) <;> rfl

theorem answers_netFwdGet_mac {key sub : Nat} (hm : s.meets (.netFwdGet e 1 key sub) c) (hk : key < 2 ^ 48) (hs : sub ≤ 4095) :
    s.answers (.netFwdGet e 1 key sub) c .ok 0
      (match s.net.macTbl.find? (fun x => x.mac == key && x.vid == sub) with
       | none => resBytes [(1, 0)] | some x => resBytes [(1, if x.static_ then 1 else 2), (2, x.mask), (1, x.queue)]) s := by
  refine State.answers_of_run hm (fun P f _ => ?_) (by split <;> simp [resBytes, leBytes_length])
  have h1 : ¬ (decide (2 ^ 48 ≤ key) || decide (4095 < sub)) = true := by
    simp only [Bool.or_eq_true, decide_eq_true_eq]
    omega
  simp only [runCmd, runNetFwdGet, if_neg Nat.one_ne_zero, if_true, if_neg h1]
  cases s.net.macTbl.find? (fun x => x.mac == key && x.vid == sub) <;> rfl

/-! Counters. -/

theorem Net.setQueue_queue (n : Net) {port q : Nat} (x : Queue) (hp : port < 10) (hq : q < 8) (p r : Nat) :
    (n.setQueue port q x).queue p r = if p = port ∧ r = q then x else n.queue p r := by
  by_cases h : p = port
  · subst h
    have hw : (wr n.queues p (wr (n.queues[p]?.getD (Vector.replicate 8 (Queue.reset 0))) q x))[p]? =
        some (wr (n.queues[p]?.getD (Vector.replicate 8 (Queue.reset 0))) q x) := by
      simp [wr, hp]
    simp only [Net.setQueue, Net.queue, hw, Option.getD_some, rd_wr, true_and, hq, and_true]
    exact if_congr eq_comm rfl rfl
  · have hw : (wr n.queues port (wr (n.queues[port]?.getD (Vector.replicate 8 (Queue.reset 0))) q x))[p]? = n.queues[p]? := by
      simp [wr, Ne.symm h]
    simp only [Net.setQueue, Net.queue, hw, h, false_and, if_false]

/-- The switch with the drop counters of the first `m` queues of a port at 0 where `hit` names them. -/
def Net.dropsCleared (n : Net) (port : Nat) (hit : Nat → Bool) (m : Nat) : Net :=
  turns m n (fun i n => if hit (22 + i) then n.setQueue port i { (n.queue port i) with drops := 0 } else n)

theorem Net.dropsCleared_drops (n : Net) {port : Nat} (hp : port < 10) (hit : Nat → Bool) {m : Nat} (hm : m ≤ 8) (i : Nat) :
    ((n.dropsCleared port hit m).queue port i).drops = if i < m ∧ hit (22 + i) = true then 0 else (n.queue port i).drops := by
  induction m with
  | zero => simp [Net.dropsCleared, turns]
  | succ m ih =>
    have hstep : n.dropsCleared port hit (m + 1) = (if hit (22 + m) then (n.dropsCleared port hit m).setQueue port m
        { ((n.dropsCleared port hit m).queue port m) with drops := 0 } else n.dropsCleared port hit m) := by
      simp only [Net.dropsCleared, turns, List.range_succ, List.foldl_append, List.foldl_cons, List.foldl_nil]
    have ih := ih (by omega)
    rw [hstep]
    by_cases hh : hit (22 + m) = true
    · rw [if_pos hh, Net.setQueue_queue _ _ hp (by omega)]
      by_cases him : i = m
      · subst him; simp [hh]
      · have hlt : i < m + 1 ↔ i < m := by omega
        simp only [him, and_false, if_false, ih, hlt]
    · rw [if_neg hh, ih]
      by_cases him : i = m
      · subst him; simp [hh]
      · have hlt : i < m + 1 ↔ i < m := by omega
        simp only [hlt]

theorem Net.dropsCleared_lanes (n : Net) (port : Nat) (hit : Nat → Bool) (m : Nat) :
    (n.dropsCleared port hit m).lanes = n.lanes ∧ (n.dropsCleared port hit m).learnFull = n.learnFull ∧
      (n.dropsCleared port hit m).eccCorr = n.eccCorr ∧ (n.dropsCleared port hit m).eccUncorr = n.eccUncorr := by
  have h := turns_keeps (fun i (n : Net) => if hit (22 + i) then n.setQueue port i { (n.queue port i) with drops := 0 } else n)
    (fun n => (n.lanes, n.learnFull, n.eccCorr, n.eccUncorr)) (fun i x => by dsimp only; split <;> rfl) m n
  simpa [Net.dropsCleared] using h

/-- A counter of a port by its number (09 R276). -/
def State.counterAt (s : State) (port i : Nat) : Nat :=
  if i < 22 then (if port < 8 then rd (s.lane port).counters i else 0)
  else if i < 30 then (s.net.queue port (i - 22)).drops
  else if port < 8 then (if i = 30 then s.net.learnFull else if i = 31 then s.net.eccCorr else if i = 32 then s.net.eccUncorr else 0)
  else 0

theorem getD_append_three (a b d : List Nat) (i : Nat) :
    (a ++ b ++ d).getD i 0 = if i < a.length then a.getD i 0 else if i < a.length + b.length then b.getD (i - a.length) 0
      else d.getD (i - a.length - b.length) 0 := by
  rw [List.append_assoc]
  by_cases ha : i < a.length
  · rw [if_pos ha, List.getD_append _ _ _ _ ha]
  rw [if_neg ha, List.getD_append_right _ _ _ _ (Nat.le_of_not_lt ha)]
  by_cases hb : i < a.length + b.length
  · rw [if_pos hb, List.getD_append _ _ _ _ (by omega)]
  · rw [if_neg hb, List.getD_append_right _ _ _ _ (by omega)]

theorem getD_replicate_zero (n i : Nat) : (List.replicate n 0).getD i 0 = 0 := by
  rw [List.getD_eq_getElem?_getD, List.getElem?_replicate]
  split <;> rfl

theorem State.portCounters_getD (s : State) (port i : Nat) : (s.portCounters port).getD i 0 = s.counterAt port i := by
  have hq : ∀ j, j < 8 → (((List.range 8).map (fun i => (s.net.queue port i).drops)).getD j 0) = (s.net.queue port j).drops :=
    fun j hj => by simp [hj]
  have hlen : (((List.range 8).map (fun i => (s.net.queue port i).drops))).length = 8 := by simp
  unfold State.portCounters State.counterAt
  dsimp only
  by_cases hp : port < 8
  · simp only [if_pos hp]
    rw [getD_append_three, hlen, Vector.length_toList]
    refine if_congr Iff.rfl ?_ ?_
    · simp [rd, List.getD_eq_getElem?_getD]
    · by_cases h : i < 30
      · rw [if_pos (by omega), if_pos h, hq _ (by omega)]
      · rw [if_neg (by omega), if_neg h]
        by_cases h33 : i < 33
        · obtain rfl | rfl | rfl : i = 30 ∨ i = 31 ∨ i = 32 := by omega
          all_goals rfl
        · rw [List.getD_eq_default _ _ (by simp only [List.length_cons, List.length_nil]; omega)]
          rw [if_neg (by omega), if_neg (by omega), if_neg (by omega)]
  · simp only [if_neg hp]
    rw [getD_append_three, hlen, List.length_replicate]
    refine if_congr Iff.rfl (getD_replicate_zero 22 i) ?_
    · by_cases h : i < 30
      · rw [if_pos (by omega), if_pos h, hq _ (by omega)]
      · rw [if_neg (by omega), if_neg h]
        exact getD_replicate_zero 3 _

/-- A counter after the counters `ixs` of its port have been cleared. -/
theorem State.clearCounters_counterAt (s : State) {port : Nat} (hp : port ≤ 9) (ixs : List Nat) (i : Nat) :
    (s.clearCounters port ixs).counterAt port i = if i ∈ ixs then 0 else s.counterAt port i := by
  have hdrop := s.net.dropsCleared_drops (show port < 10 by omega) (mem ixs ·) (Nat.le_refl 8) (i - 22)
  obtain ⟨-, hlf, hec, heu⟩ := s.net.dropsCleared_lanes port (mem ixs ·) 8
  have hq : (s.clearCounters port ixs).net.queue port (i - 22) = (s.net.dropsCleared port (mem ixs ·) 8).queue port (i - 22) := by
    unfold State.clearCounters
    dsimp only
    split <;> rfl
  have hgoal : i < 30 → 22 ≤ i → ((s.clearCounters port ixs).net.queue port (i - 22)).drops =
      if i ∈ ixs then 0 else (s.net.queue port (i - 22)).drops := fun h30 h22 => by
    rw [hq, hdrop, show 22 + (i - 22) = i by omega]
    exact if_congr (by rw [mem_iff]; exact ⟨And.right, fun h => ⟨by omega, h⟩⟩) rfl rfl
  have hlane : port < 8 → ((s.clearCounters port ixs).lane port).counters =
      Vector.ofFn (fun i : Fin 22 => if mem ixs i.val then 0 else rd (s.lane port).counters i.val) := fun h8 => by
    unfold State.clearCounters
    dsimp only
    rw [if_pos h8, State.setLane_lane_self _ h8]
  unfold State.counterAt
  by_cases h22 : i < 22
  · simp only [if_pos h22]
    by_cases h8 : port < 8
    · rw [if_pos h8, if_pos h8, hlane h8, rd_ofFn _ h22]
      exact if_congr (mem_iff ..) rfl rfl
    · simp [if_neg h8]
  by_cases h30 : i < 30
  · simpa only [if_neg h22, if_pos h30] using hgoal h30 (by omega)
  simp only [if_neg h22, if_neg h30]
  by_cases h8 : port < 8
  · have hsw : (s.clearCounters port ixs).net.learnFull = (if 30 ∈ ixs then 0 else s.net.learnFull) ∧
        (s.clearCounters port ixs).net.eccCorr = (if 31 ∈ ixs then 0 else s.net.eccCorr) ∧
        (s.clearCounters port ixs).net.eccUncorr = (if 32 ∈ ixs then 0 else s.net.eccUncorr) := by
      rw [← hlf, ← hec, ← heu]
      unfold State.clearCounters
      dsimp only
      rw [if_pos h8]
      exact ⟨if_congr (mem_iff ..) rfl rfl, if_congr (mem_iff ..) rfl rfl, if_congr (mem_iff ..) rfl rfl⟩
    obtain ⟨h0, h1, h2⟩ := hsw
    simp only [if_pos h8, h0, h1, h2]
    split
    · next h => rw [h]
    split
    · next h => rw [h]
    split
    · next h => rw [h]
    · exact (ite_self 0).symm
  · simp [if_neg h8]

theorem State.clearCounters_rest (s : State) (port : Nat) (ixs : List Nat) :
    s.clearCounters port ixs = { s with net := (s.clearCounters port ixs).net } := by
  unfold State.clearCounters
  dsimp only
  split <;> rfl

theorem State.clearCounters_ports (s : State) (P : Ports) (port : Nat) (ixs : List Nat) :
    ({ s with ports := P } : State).clearCounters port ixs = { s.clearCounters port ixs with ports := P } := by
  unfold State.clearCounters
  dsimp only
  rw [State.ite_ports]
  rfl

/-- The state after NET_COUNTERS has read the counters `ixs`. -/
def State.countersRead (s : State) (port : Nat) (clear : Bool) (ixs : List Nat) : State :=
  if clear then s.clearCounters port ixs else s

theorem State.countersRead_rest (s : State) (port : Nat) (clear : Bool) (ixs : List Nat) :
    s.countersRead port clear ixs = { s with net := (s.countersRead port clear ixs).net } := by
  cases clear with
  | false => rfl
  | true => exact s.clearCounters_rest port ixs

theorem answers_netCounters_two {port first : Nat} {clear : Bool} (hm : s.meets (.netCounters e port clear first 0) c) (hp : port ≤ 9)
    (hf : first ≤ 31) :
    s.answers (.netCounters e port clear first 0) c .ok 0
      (resBytes [(8, (s.portCounters port).getD first 0), (8, (s.portCounters port).getD (first + 1) 0)])
      (s.countersRead port clear [first, first + 1]) := by
  have hrest := s.countersRead_rest port clear [first, first + 1]
  refine State.answers_of_run hm (fun P f _ => ?_) (hu := by rw [hrest]) (hw := by rw [hrest]) (htw := by rw [hrest])
  have h1 : ¬ (noBuf c.env.port && 0 != 0) = true := by simp
  have h2 : ¬ (decide (9 < port) || (0 == 0 && decide (31 < first))) = true := by simp [hp, hf]
  refine (if_neg h1).trans ((if_neg h2).trans ?_)
  cases clear with
  | false => rfl
  | true => exact congrArg (Prod.mk _) (s.clearCounters_ports P port _)

theorem answers_netCounters_all {port first addr : Nat} {clear : Bool} (hm : s.meets (.netCounters e port clear first addr) c)
    (hp : port ≤ 9) (ha : addr ≠ 0) (hd : e.port ≠ .D) :
    s.answers (.netCounters e port clear first addr) c .ok 0 []
      ((s.countersRead port clear (List.range 33)).hostWrite e.port addr ((s.portCounters port).flatMap (leBytes 8))) := by
  have hC := hm.ring
  cases hm.info
  have hrest := s.countersRead_rest port clear (List.range 33)
  refine State.answers_of_writing_run hm (fun P f _ => ?_) (hu := by rw [hrest]) (hw := by rw [hrest]) (htw := by rw [hrest])
  have h1 : ¬ (noBuf e.port && addr != 0) = true := by simp [noBuf_eq_false hC hd]
  have h2 : ¬ (decide (9 < port) || (addr == 0 && decide (31 < first))) = true := by simp [hp, ha]
  refine (if_neg h1).trans ((if_neg h2).trans ?_)
  simp only [if_neg ha]
  cases clear with
  | false => rfl
  | true =>
    have h := s.clearCounters_ports P port (List.range 33)
    exact congrArg (fun u : State => (Done.ok [], u.hostWrite e.port addr ((s.portCounters port).flatMap (leBytes 8)))) h

end

/-- Settles O24: each setting and table through its run, the counters by their numbers. -/
theorem netSettings : Obligations.NetSettings := by
  refine ⟨fun s e c lane hl => ⟨?_, ?_, ?_, ?_, ?_⟩, fun s e c => ⟨?_, ?_, ?_, ?_, ?_, ?_⟩⟩
  · intro cfg revertS hm hok hr hd
    obtain ⟨hcfg, hrev⟩ := State.configured_lane (s := s) (lane := lane) (by omega) cfg revertS
    have hstep := State.configured_step lane s cfg revertS
    exact ⟨_, answers_netPortConfig_set hl hm hok hr hd, hcfg, hrev, hstep.other, by rw [hstep.rest], hstep.table⟩
  · rintro arg cfg revertS r hm hok hs hd rfl hr hp
    exact answers_netPortConfig_confirm hl hm hok hs hd hr hp
  · rintro port q rsv qmax n hm hp hq hfit rfl
    exact answers_netQueueConfig hm hp hq hfit
  · exact fun et da mac age hm he hda hmac hage => answers_netSwitchConfig hm he hda hmac hage
  · exact fun backup ms hm hb hne hms => answers_netFrrSet hl hm hb hne hms
  · exact fun count addr data es hm hl he hes hdel hfit => answers_netStreamFwd hm hl he hes hdel hfit
  · exact fun count addr data es hm hl he hes hdel hfit => answers_netMacSet hm hl he hes hdel hfit
  · exact fun key sub hm hk hs => answers_netFwdGet_stream hm hk hs
  · exact fun key sub hm hk hs => answers_netFwdGet_mac hm hk hs
  · intro port clear first hm hp hf
    refine ⟨_, answers_netCounters_two hm hp hf, s.countersRead_rest _ _ _, fun h => by subst h; rfl, fun h i => ?_⟩
    subst h
    rw [State.portCounters_getD, State.portCounters_getD]
    refine (State.clearCounters_counterAt s hp _ i).trans ?_
    simp only [List.mem_cons, List.not_mem_nil, or_false]
  · intro port clear first addr hm hp ha hd
    refine ⟨_, answers_netCounters_all hm hp ha hd, s.countersRead_rest _ _ _, fun h => by subst h; rfl, fun h i => ?_⟩
    subst h
    rw [State.portCounters_getD]
    refine (State.clearCounters_counterAt s hp _ i).trans ?_
    split
    · rfl
    · next hi =>
      have h33 : 33 ≤ i := by simpa using hi
      unfold State.counterAt
      rw [if_neg (by omega), if_neg (by omega), if_neg (show i ≠ 30 by omega), if_neg (show i ≠ 31 by omega),
        if_neg (show i ≠ 32 by omega), ite_self]

end Sys2Proof.Machine
end

section
/-!
SUPPORT. The states of a lane (09 R251 to R258, R264, R268, R283): settles O25.
-/
namespace Sys2Proof.Machine

/-! Reports that wait while more come. -/

/-- A report that waits goes on waiting while later ones come. -/
theorem State.reported.later {s t u : State} {c z e d : Nat} (h : s.reported t c z e d) (hn : u.now = t.now)
    (hp : t.flt.reports <+: u.flt.reports) : s.reported u c z e d := by
  obtain ⟨hmem, l, hl⟩ := h
  obtain ⟨k, hk⟩ := hp
  exact ⟨by rw [hn, ← hk]; exact List.mem_append_left _ hmem, l ++ k, by rw [← hk, hl, List.append_assoc]⟩

theorem State.reported_report_of_prefix {s u : State} (hp : s.flt.reports <+: u.flt.reports) (c z e d : Nat) :
    s.reported (u.report c z e d) c z e d := by
  obtain ⟨k, hk⟩ := hp
  exact ⟨List.mem_append_right _ (List.mem_singleton.mpr rfl), k ++ [_], by rw [← List.append_assoc, hk]; rfl⟩

/-- From `s` to `t` no report that waits for the fault controller has been lost. -/
def State.Reporting (s t : State) : Prop := s.flt.reports <+: t.flt.reports

theorem State.Reporting.refl (s : State) : s.Reporting s := List.prefix_refl _

theorem State.Reporting.trans {s t u : State} (h : s.Reporting t) (k : t.Reporting u) : s.Reporting u := List.IsPrefix.trans h k

theorem State.Reporting.of_eq {s t : State} (h : t.flt.reports = s.flt.reports) : s.Reporting t := by
  unfold State.Reporting
  rw [h]

theorem State.Reporting.report (s : State) (c z e d : Nat) : s.Reporting (s.report c z e d) := List.prefix_append _ _

theorem State.Reporting.raise (s : State) (c z e d : Nat) : s.Reporting (s.raise c z e d) := List.prefix_append _ _

theorem State.Reporting.leftUp (s : State) (i : Nat) (next : LinkSt) (cause : Nat) : s.Reporting (s.leftUp i next cause) :=
  State.Reporting.raise _ _ _ _ _

theorem State.Reporting.goneUp_leftUp (s : State) (i : Nat) (next : LinkSt) (cause : Nat) :
    (s.leftUp i next cause).Reporting (s.goneUp i next cause) := by
  unfold State.goneUp
  split
  · exact State.Reporting.refl _
  · exact State.Reporting.raise _ _ _ _ _

theorem State.Reporting.leaveUp (s : State) (i : Nat) (next : LinkSt) (cause : Nat) : s.Reporting (s.leaveUp i next cause) := by
  by_cases h : (s.lane i).st = .up
  · rw [State.leaveUp_up h]
    have hev : (s.goneUp i next cause).Reporting ((s.goneUp i next cause).event 7) := State.Reporting.of_eq rfl
    exact ((State.Reporting.leftUp s i next cause).trans (State.Reporting.goneUp_leftUp s i next cause)).trans hev
  · rw [State.leaveUp_other h]
    exact State.Reporting.of_eq rfl

theorem State.Reporting.startLane (s : State) (i : Nat) : s.Reporting (s.startLane i) := by
  unfold State.startLane
  dsimp only
  split <;> exact State.Reporting.of_eq rfl

theorem State.Reporting.disableLane (s : State) (i : Nat) : s.Reporting (s.disableLane i) := State.Reporting.leaveUp s i .disabled 2

theorem State.Reporting.putCfg (s : State) (i : Nat) (c : NetPortCfg) : s.Reporting (s.putCfg i c) := State.Reporting.of_eq rfl

theorem State.Reporting.setPortCfg (s : State) (i : Nat) (c : NetPortCfg) : s.Reporting (s.setPortCfg i c) := by
  have hput := State.Reporting.putCfg s i c
  rw [State.setPortCfg_eq]
  split
  · split
    · exact hput
    · exact (State.Reporting.disableLane s i).trans (State.Reporting.putCfg _ i c)
  split
  · exact hput.trans (State.Reporting.startLane _ i)
  split
  · exact ((State.Reporting.leaveUp s i .down 2).trans (State.Reporting.putCfg _ i c)).trans (State.Reporting.startLane _ i)
  split
  · exact hput
  split
  · exact hput.trans (State.Reporting.of_eq rfl)
  · exact hput.trans (State.Reporting.of_eq rfl)

/-! The lane after a transition. -/

theorem State.goneUp_lane (s : State) {i : Nat} (hi : i < 8) (next : LinkSt) (cause : Nat) :
    (s.goneUp i next cause).lane i = s.leftLane i next := by
  have h : (s.leftUp i next cause).lane i = s.leftLane i next :=
    State.setLane_lane_self ({ s with net := s.leftNet i } : State) hi (s.leftLane i next)
  unfold State.goneUp
  split <;> exact h

theorem State.leaveUp_lane_up {s : State} {i : Nat} (hi : i < 8) (h : (s.lane i).st = .up) (next : LinkSt) (cause : Nat) :
    (s.leaveUp i next cause).lane i = s.leftLane i next := by
  rw [State.leaveUp_up h, State.event_lane]
  exact State.goneUp_lane s hi next cause

theorem State.leaveUp_revert (s : State) {i : Nat} (hi : i < 8) (next : LinkSt) (cause : Nat) :
    ((s.leaveUp i next cause).lane i).revert = (s.lane i).revert := by
  by_cases h : (s.lane i).st = .up
  · rw [State.leaveUp_lane_up hi h]
    rfl
  · rw [State.leaveUp_other h, State.setLane_lane_self s hi]

theorem State.startLane_revert (s : State) {i : Nat} (hi : i < 8) : ((s.startLane i).lane i).revert = (s.lane i).revert := by
  unfold State.startLane
  dsimp only
  split
  · rw [State.setLane_lane_self s hi]
  · rfl

theorem State.putCfg_revert (s : State) {i : Nat} (hi : i < 8) (c : NetPortCfg) :
    ((s.putCfg i c).lane i).revert = (s.lane i).revert := by
  unfold State.putCfg
  rw [State.setLane_lane_self s hi]

theorem State.disableLane_revert (s : State) {i : Nat} (hi : i < 8) : ((s.disableLane i).lane i).revert = (s.lane i).revert := by
  unfold State.disableLane
  dsimp only
  rw [State.setLane_lane_self _ hi]
  exact State.leaveUp_revert s hi .disabled 2

theorem State.setPortCfg_revert (s : State) {i : Nat} (hi : i < 8) (c : NetPortCfg) :
    ((s.setPortCfg i c).lane i).revert = (s.lane i).revert := by
  rw [State.setPortCfg_eq]
  split
  · split
    · exact State.putCfg_revert s hi c
    · rw [State.putCfg_revert _ hi, State.disableLane_revert s hi]
  split
  · rw [State.startLane_revert _ hi, State.putCfg_revert s hi]
  split
  · rw [State.startLane_revert _ hi, State.putCfg_revert _ hi, State.leaveUp_revert s hi]
  split
  · exact State.putCfg_revert s hi c
  split
  · rw [State.enterUp_lane _ hi]
    exact State.putCfg_revert s hi c
  · rw [State.setLane_lane_self _ hi]
    exact State.putCfg_revert s hi c

theorem State.reported_leaveUp {s : State} {i : Nat} (h : (s.lane i).st = .up) (next : LinkSt) (cause : Nat) :
    s.reported (s.leaveUp i next cause) 0x0401 (0x10 + i) i cause := by
  rw [State.leaveUp_up h]
  have hr : s.reported (s.leftUp i next cause) 0x0401 (laneZone i) i cause :=
    State.reported_raise (u := ({ s with net := s.leftNet i } : State).setLane i (s.leftLane i next)) rfl _ _ _ _
  have hn : (s.goneUp i next cause).now = (s.leftUp i next cause).now := by
    rw [(State.LinkStep.goneUp i s next cause).rest, (State.LinkStep.leftUp i s next cause).rest]
  refine hr.later ((State.event_now _ 7).trans hn) ?_
  rw [State.event_flt]
  exact State.Reporting.goneUp_leftUp s i next cause

/-! The queues of a lane that leaves UP. -/

theorem Net.release_queue (n : Net) (f : Frame) (p q : Nat) : (n.release f).queue p q = n.queue p q := by
  unfold Net.queue
  rw [Net.release_queues]

theorem Net.foldl_release_queue (l : List Frame) (n : Net) (p q : Nat) :
    (l.foldl (fun n f => n.release f) n).queue p q = n.queue p q :=
  foldl_keeps _ (fun n : Net => n.queue p q) (fun n f => n.release_queue f p q) l n

/-- The first `m` queues of a lane are empty after as many turns. -/
theorem Net.flushTurns_frames (n : Net) {i : Nat} (hi : i < 10) {m : Nat} (hm : m ≤ 8) {q : Nat} (hq : q < m) :
    ((turns m n (fun q n =>
      let x := n.queue i q
      let n := n.setQueue i q { x with frames := [], drops := satAdd 64 x.drops x.frames.length }
      x.frames.foldl (fun n f => n.release f) n)).queue i q).frames = [] := by
  induction m with
  | zero => omega
  | succ m ih =>
    simp only [turns, List.range_succ, List.foldl_append, List.foldl_cons, List.foldl_nil]
    rw [Net.foldl_release_queue, Net.setQueue_queue _ _ hi (by omega)]
    by_cases hqm : q = m
    · rw [if_pos ⟨rfl, hqm⟩]
    · rw [if_neg (fun h => hqm h.2)]
      exact ih (by omega) (by omega)

theorem Net.flushLane_frames (n : Net) {i : Nat} (hi : i < 8) (x : Option Frame) {q : Nat} (hq : q < 8) :
    ((n.flushLane i x).queue i q).frames = [] := Net.flushTurns_frames _ (by omega) (Nat.le_refl 8) hq

theorem State.leaveUp_frames {s : State} {i : Nat} (hi : i < 8) (h : (s.lane i).st = .up) (next : LinkSt) (cause : Nat) {q : Nat}
    (hq : q < 8) : ((s.leaveUp i next cause).net.queue i q).frames = [] := by
  have hnet : (s.goneUp i next cause).net = (s.leftUp i next cause).net := by
    unfold State.goneUp
    split <;> rfl
  rw [State.leaveUp_up h]
  rw [State.event_net, hnet]
  exact Net.flushLane_frames s.net hi (s.lane i).inTx hq

/-! The heartbeat. -/

theorem State.heartbeatBytes_split (s : State) (i : Nat) :
    ∃ a, s.heartbeatBytes i = a ++ List.replicate 36 0#8 ∧ a.length = 24 ∧
      a = beBytes 6 s.net.hbDa ++ beBytes 6 s.net.nodeMac ++ beBytes 2 s.net.etherType ++ [0xF0#8, 1#8] ++
        beBytes 2 (s.nodeId % 4096) ++ beBytes 1 (i % 8) ++ beBytes 1 (b2n (decide ((s.lane i).missRun < 3))) ++
        beBytes 2 (s.lane i).hbSeq ++ beBytes 2 ((s.lane i).lastRxSeq.getD 0) :=
  ⟨_, rfl, by simp [beBytes_length], rfl⟩

theorem State.kick_due {s : State} {i : Nat} (hin : (s.lane i).inTx = none) (hdue : s.hbDue i = true) :
    s.kick i = s.setLane i { s.lane i with
      inTx := some (s.heartbeatFrame i), hbSeq := ((s.lane i).hbSeq + 1) % 65536, hbAt := some s.now } := by
  simp [State.kick, hin, hdue]

/-- A lane that sends a frame, or whose heartbeat is not due yet, sends none. -/
theorem State.sendHeartbeat_waits {s : State} {i : Nat} (h : (s.lane i).inTx ≠ none ∨ s.hbDue i = false) : s.sendHeartbeat i = s := by
  unfold State.sendHeartbeat
  split
  · next hdue =>
    obtain ⟨f, hf⟩ := Option.ne_none_iff_exists'.mp (h.resolve_right (by simp [hdue]))
    simp [State.kick, hf]
  · rfl

theorem State.hbDue_early {s : State} {i u : Nat} (h : (s.lane i).hbAt = some u) (hu : s.now < u + 3960) : s.hbDue i = false := by
  simp only [State.hbDue, h, Bool.and_eq_false_iff, decide_eq_false_iff_not]
  exact Or.inr (by omega)

theorem State.hbDue_of {s : State} {i : Nat} (he : (s.lane i).cfg.hbEn = true) (hst : (s.lane i).st = .up ∨ (s.lane i).st = .probing)
    (ht : ∀ u, (s.lane i).hbAt = some u → u + 3960 ≤ s.now) : s.hbDue i = true := by
  unfold State.hbDue
  dsimp only
  rw [he, decide_eq_true hst]
  cases h : (s.lane i).hbAt with
  | none => rfl
  | some u => simpa using ht u h

theorem rd_count_self (l : Lane) {ix : Nat} (hix : ix < 22) (n : Nat) :
    rd (l.count ix n).counters ix = satAdd 64 (rd l.counters ix) n := by
  unfold Lane.count upd
  rw [rd_wr, if_pos ⟨rfl, hix⟩]

theorem rd_count_other (l : Lane) {ix j : Nat} (h : j ≠ ix) (n : Nat) : rd (l.count ix n).counters j = rd l.counters j := by
  unfold Lane.count upd
  rw [rd_wr, if_neg (fun e => h e.1.symm)]

/-- The lane after a heartbeat of its peer. -/
def State.heardLane (s : State) (i : Nat) (hb : Heartbeat) : Lane :=
  let l := s.lane i
  (({ l with
    missRun := 0, lastRxSeq := some hb.seq, peerPort := hb.port % 8, peerNode := hb.node % 4096, peerSeen := true
    goodRun := if hb.peerRx then l.goodRun + 1 else 0, goodSince := if l.goodRun = 0 then s.now else l.goodSince }).count 16).count 18
    (match l.lastRxSeq with | none => 0 | some q => (hb.seq + 65535 - q) % 65536)

/-- The third good heartbeat takes a probing lane to UP. -/
theorem State.gotHeartbeat_third {s : State} {i : Nat} {hb : Heartbeat} (he : (s.lane i).cfg.hbEn = true)
    (hst : (s.lane i).st = .probing) (hd : (s.lane i).damped = false) (hp : hb.peerRx = true) (hg : 2 ≤ (s.lane i).goodRun) :
    s.gotHeartbeat i hb = (s.setLane i (s.heardLane i hb)).enterUp i := by
  have h3 : decide (3 ≤ (s.lane i).goodRun + 1) = true := by simpa using hg
  unfold State.gotHeartbeat State.heardLane
  dsimp only
  rw [if_neg (by rw [hst]; decide)]
  simp only [Lane.count, he, hst, hd, hp]
  simp [hg] <;> rfl

/-- Without heartbeats PCS lock takes a lane to UP. -/
theorem State.lockHeld_up {s : State} {i : Nat} (hst : (s.lane i).st = .down) (he : (s.lane i).cfg.hbEn = false) :
    s.lockHeld i = (s.setLane i { s.lane i with pcsLock := true, search := false }).enterUp i := by
  unfold State.lockHeld
  dsimp only
  rw [if_pos hst, if_neg (by simp [he])]

/-- With heartbeats it takes the lane to PROBING. -/
theorem State.lockHeld_probing {s : State} {i : Nat} (hst : (s.lane i).st = .down) (he : (s.lane i).cfg.hbEn = true) :
    s.lockHeld i = s.setLane i { s.lane i with pcsLock := true, search := false, st := .probing, missRun := 3, goodRun := 0 } := by
  unfold State.lockHeld
  dsimp only
  rw [if_pos hst, if_pos he]

theorem State.enterUp_noLink (s : State) (i : Nat) : (s.enterUp i).hasCond 0x0401 (laneZone i) i = false :=
  State.hasCond_endCond_of ((s.setLane i { s.lane i with st := .up, upSince := s.now }).endCond 0x0401 (laneZone i) i) 0x0B01 0xC2 0xFFFF
    (State.hasCond_endCond_self _ 0x0401 (laneZone i) i)

theorem State.lockLost_up {s : State} {i : Nat} (hst : (s.lane i).st = .up) :
    s.lockLost i = (s.setLane i { s.lane i with pcsLock := false, missRun := 3, peerSeen := false }).leaveUp i .down 2 := by
  unfold State.lockLost
  dsimp only
  rw [hst]

/-- The lane after its heartbeat interval has passed without one. -/
def State.missedLane (s : State) (i : Nat) : Lane :=
  let l := s.lane i
  { l with misses := satAdd 16 l.misses 1, missRun := min 3 (l.missRun + 1), goodRun := 0 }.count 17

theorem State.missHeartbeat_third {s : State} {i : Nat} (he : (s.lane i).cfg.hbEn = true) (hst : (s.lane i).st = .up)
    (hm : (s.lane i).missRun = 2) : s.missHeartbeat i = (s.setLane i (s.missedLane i)).leaveUp i .probing 0 := by
  unfold State.missHeartbeat
  dsimp only
  rw [if_neg (by rw [hst]; decide), if_pos (by simp [he, hst, hm])]
  rfl

theorem State.missHeartbeat_early {s : State} {i : Nat} (hst : (s.lane i).st = .up) (hm : (s.lane i).missRun < 2) :
    s.missHeartbeat i = s.setLane i (s.missedLane i) := by
  have h3 : ¬ min 3 ((s.lane i).missRun + 1) = 3 := by omega
  unfold State.missHeartbeat
  dsimp only
  rw [if_neg (by rw [hst]; decide), if_neg (by simp [h3])]
  rfl

/-- Settles O25: every row by the transition of its lane. -/
theorem laneStates : Obligations.LaneStates := by
  intro s i tm l hi hl
  subst hl
  have hat : (s.at_ tm).lane i = s.lane i := rfl
  refine ⟨?_, ?_, ?_, ?_, ?_, ?_, ?_, ?_, ?_, ?_, ?_, ?_⟩
  · intro r hr hu
    have hlate : ¬ max s.now tm < r.until_ := by omega
    have hrun : (s.at_ tm).netRevert i =
        (((s.at_ tm).setLane i { s.lane i with revert := none }).setPortCfg i r.old).report 0x0403 (laneZone i) i 0 := by
      simp only [State.netRevert, hat, hr]
      exact if_neg hlate
    refine ⟨_, congrArg Host.Outcome.next hrun, State.setPortCfg_cfg _ hi _, ?_, ?_⟩
    · exact (State.setPortCfg_revert _ hi r.old).trans (by rw [State.setLane_lane_self _ hi])
    · exact State.reported_report_of_prefix (State.Reporting.setPortCfg ((s.at_ tm).setLane i _) i r.old) _ _ _ _
  · intro hst hm hp
    refine congrArg Host.Outcome.next ?_
    show State.searchDwell (s.at_ tm) i = _
    simp [State.searchDwell, hat, hst, hm, hp]
    rfl
  · intro hst
    cases he : (s.lane i).cfg.hbEn with
    | true =>
      have hself := State.setLane_lane_self (s.at_ tm) hi
        { s.lane i with pcsLock := true, search := false, st := .probing, missRun := 3, goodRun := 0 }
      exact ⟨_, congrArg Host.Outcome.next (State.lockHeld_probing (s := s.at_ tm) hst he), by rw [hat, hself], by rw [hat, hself]; rfl,
        nofun, (State.LinkStep.setLane i (s.at_ tm) _).other⟩
    | false =>
      have hself := State.setLane_lane_self (s.at_ tm) hi { s.lane i with pcsLock := true, search := false }
      refine ⟨_, congrArg Host.Outcome.next (State.lockHeld_up (s := s.at_ tm) hst he), ?_, ?_, fun _ => State.enterUp_noLink _ i,
        ((State.LinkStep.setLane i (s.at_ tm) _).trans (State.LinkStep.enterUp i _)).other⟩
      · rw [State.enterUp_lane _ hi, hat, hself]
      · rw [State.enterUp_lane _ hi]
        rfl
  · intro hst
    have hself := State.setLane_lane_self (s.at_ tm) hi { s.lane i with pcsLock := false, missRun := 3, peerSeen := false }
    have hup : (((s.at_ tm).setLane i { s.lane i with pcsLock := false, missRun := 3, peerSeen := false }).lane i).st = .up := by
      rw [hself]
      exact hst
    have hlane := State.leaveUp_lane_up hi hup .down 2
    refine ⟨_, congrArg Host.Outcome.next (State.lockLost_up (s := s.at_ tm) hst), ?_, ?_, ?_, State.reported_leaveUp hup .down 2,
      ((State.LinkStep.setLane i (s.at_ tm) _).trans (State.LinkStep.leaveUp i _ .down 2)).other,
      fun q hq => State.leaveUp_frames hi hup .down 2 hq⟩
    · exact (congrArg Lane.st hlane).trans rfl
    · exact (congrArg Lane.pcsLock hlane).trans (congrArg Lane.pcsLock hself)
    · exact (congrArg Lane.exits hlane).trans ((congrArg (fun l : Lane => satAdd 16 l.exits 1) hself).trans rfl)
  · intro he hst hin ht
    have hdue : (s.at_ tm).hbDue i = true := State.hbDue_of he hst ht
    have hrun : (s.at_ tm).sendHeartbeat i = _ := (if_pos hdue).trans (State.kick_due hin hdue)
    have hself := State.setLane_lane_self (s.at_ tm) hi { s.lane i with
      inTx := some ((s.at_ tm).heartbeatFrame i), hbSeq := ((s.lane i).hbSeq + 1) % 65536, hbAt := some (max s.now tm) }
    obtain ⟨a, hbytes, hlen, ha⟩ := (s.at_ tm).heartbeatBytes_split i
    have hflag : b2n (decide ((s.lane i).missRun < 3)) = if (s.lane i).missRun < 3 then 1 else 0 := by
      by_cases h : (s.lane i).missRun < 3 <;> simp [h, b2n]
    refine ⟨_, (s.at_ tm).heartbeatFrame i, congrArg Host.Outcome.next hrun, congrArg Lane.inTx hself, rfl, ?_, ?_, ?_,
      congrArg Lane.hbSeq hself, congrArg Lane.hbAt hself, rfl, (State.LinkStep.setLane i (s.at_ tm) _).other⟩
    · show ((s.at_ tm).heartbeatBytes i).length = 60
      rw [hbytes, List.length_append, hlen, List.length_replicate]
    · show ((s.at_ tm).heartbeatBytes i).take 24 = _
      rw [hbytes, List.take_left' hlen, ha, hat, hflag, Nat.mod_eq_of_lt hi]
      rfl
    · show ∀ x ∈ ((s.at_ tm).heartbeatBytes i).drop 24, x = 0#8
      rw [hbytes, List.drop_left' hlen]
      exact fun x => List.eq_of_mem_replicate
  · intro h
    have hrun : (s.at_ tm).sendHeartbeat i = s.at_ tm := State.sendHeartbeat_waits <| by
      obtain h | ⟨u, hu, hlt⟩ := h
      · exact Or.inl h
      · exact Or.inr (State.hbDue_early (s := s.at_ tm) hu hlt)
    exact ⟨_, congrArg Host.Outcome.next hrun, rfl, rfl, fun _ => rfl⟩
  · intro hb he hst hd hp hg
    have hcount : (((s.at_ tm).countLane i 0).countLane i 1 64).lane i = ((s.lane i).count 0).count 1 64 := by
      unfold State.countLane
      rw [State.setLane_lane_self _ hi, State.setLane_lane_self _ hi]
      rfl
    have hrun : (s.at_ tm).heartbeatRx i hb = _ := (if_neg (by rw [hat, hst]; decide)).trans
      (State.gotHeartbeat_third (s := ((s.at_ tm).countLane i 0).countLane i 1 64) (i := i) (hb := hb) (by rw [hcount]; exact he)
        (by rw [hcount]; exact hst) (by rw [hcount]; exact hd) hp (by rw [hcount]; exact hg))
    have hlane := (State.enterUp_lane ((((s.at_ tm).countLane i 0).countLane i 1 64).setLane i
      ((((s.at_ tm).countLane i 0).countLane i 1 64).heardLane i hb)) hi)
    rw [State.setLane_lane_self _ hi] at hlane
    refine ⟨_, congrArg Host.Outcome.next hrun, congrArg Lane.st hlane, congrArg Lane.missRun hlane, congrArg Lane.lastRxSeq hlane, ?_,
      congrArg Lane.peerPort hlane, congrArg Lane.peerNode hlane⟩
    refine (congrArg (fun l : Lane => rd l.counters 0) hlane).trans ?_
    refine (rd_count_other _ (by decide) _).trans ((rd_count_other _ (by decide) _).trans ?_)
    show rd ((((s.at_ tm).countLane i 0).countLane i 1 64).lane i).counters 0 = _
    rw [hcount, rd_count_other _ (by decide), rd_count_self _ (by decide)]
  · intro he hst hm
    have hself := State.setLane_lane_self (s.at_ tm) hi ((s.at_ tm).missedLane i)
    have hup : (((s.at_ tm).setLane i ((s.at_ tm).missedLane i)).lane i).st = .up := by
      rw [hself]
      exact hst
    have hlane := State.leaveUp_lane_up hi hup .probing 0
    exact ⟨_, congrArg Host.Outcome.next (State.missHeartbeat_third (s := s.at_ tm) he hst hm), (congrArg Lane.st hlane).trans rfl,
      (congrArg Lane.misses hlane).trans (congrArg Lane.misses hself), State.reported_leaveUp hup .probing 0⟩
  · intro he hst hm
    have hself := State.setLane_lane_self (s.at_ tm) hi ((s.at_ tm).missedLane i)
    refine ⟨_, congrArg Host.Outcome.next (State.missHeartbeat_early (s := s.at_ tm) hst hm), (congrArg Lane.st hself).trans hst,
      (congrArg Lane.missRun hself).trans ?_, rfl⟩
    show min 3 ((s.lane i).missRun + 1) = _
    omega
  · intro hd ht
    have hc : ((s.lane i).damped && decide ((s.lane i).lastExit + 10000000000 ≤ max s.now tm)) = true := by
      simp only [hd, Bool.true_and, decide_eq_true_eq]
      omega
    exact congrArg Host.Outcome.next (if_pos hc)
  · intro hst ht
    have hc : (decide ((s.lane i).st = .up) && decide ((s.lane i).upSince + (s.lane i).restoreMs * 1000000 ≤ max s.now tm)) = true := by
      simp only [hst, decide_true, Bool.true_and, decide_eq_true_eq]
      omega
    exact congrArg Host.Outcome.next (if_pos hc)
  · intro mac vid ha
    refine ⟨_, congrArg Host.Outcome.next (if_neg ha), fun x => List.mem_filter.trans (and_congr_right fun _ => ?_)⟩
    simp only [Bool.or_eq_true, bne_iff_ne, decide_eq_true_eq, or_assoc]
    rfl

end Sys2Proof.Machine
end

section
/-!
SUPPORT. Frames received, queued and sent (09 R259, R261, R269, R271, R275, 11 R333): settles O26.
-/
namespace Sys2Proof.Machine
-- Proofs checked one at a time, which bounds the memory that the whole text takes.
set_option Elab.async false

/-! Counters of a lane. -/

/-- The switch with a frame behind the others of a queue. -/
def Net.queued (n : Net) (p q : Nat) (f : Frame) : Net :=
  n.setQueue p q { n.queue p q with frames := (n.queue p q).frames ++ [f] }

/-- From `s` to `u` lane `i` counted, and FEC words were noted; reports may have come, and nothing else changed. -/
structure State.Tallied (i : Nat) (s u : State) : Prop where
  rest : u = { s with net := { s.net with lanes := u.net.lanes }, flt := u.flt }
  other : ∀ j, j ≠ i → u.lane j = s.lane j
  self : u.lane i = { s.lane i with counters := (u.lane i).counters, fecTimes := (u.lane i).fecTimes }

theorem State.Tallied.trans {i : Nat} {s t u : State} (h : State.Tallied i s t) (k : State.Tallied i t u) : State.Tallied i s u := by
  refine ⟨?_, fun j hj => (k.other j hj).trans (h.other j hj), ?_⟩
  · have h1 := h.rest
    have h2 := k.rest
    rw [h1] at h2
    exact h2
  · have h2 := k.self
    rw [h.self] at h2
    exact h2

theorem State.Tallied.setLane {i : Nat} (hi : i < 8) (s : State) (c : Vector Nat 22) (ts : List Nat) :
    State.Tallied i s (s.setLane i { s.lane i with counters := c, fecTimes := ts }) :=
  ⟨rfl, (State.LinkStep.setLane i s _).other, by rw [State.setLane_lane_self s hi]⟩

theorem State.Tallied.countLane {i : Nat} (hi : i < 8) (s : State) (ix n : Nat) : State.Tallied i s (s.countLane i ix n) :=
  State.Tallied.setLane hi s _ (s.lane i).fecTimes

theorem State.Tallied.report (i : Nat) (s : State) (c z e d : Nat) : State.Tallied i s (s.report c z e d) := ⟨rfl, fun _ _ => rfl, rfl⟩

/-- The lane after its FEC words have counted (09 R277). -/
def State.fecLane (s : State) (i a b : Nat) : Lane :=
  { s.lane i with counters := (((s.lane i).count 20 a).count 21 b).counters, fecTimes := (slide (s.lane i).fecTimes s.now 1000000 b 16).1 }

theorem State.fecCount_eq (s : State) (i a b : Nat) :
    s.fecCount i a b = if (slide (s.lane i).fecTimes s.now 1000000 b 16).2 then (s.setLane i (s.fecLane i a b)).report 0x0402 (laneZone i) i
      ((inWindow (s.lane i).fecTimes s.now 1000000).length + b) else s.setLane i (s.fecLane i a b) := by
  unfold State.fecCount State.fecLane
  have hcount : (((s.lane i).count 20 a).count 21 b).fecTimes = (s.lane i).fecTimes := rfl
  dsimp only
  rw [hcount]
  cases slide (s.lane i).fecTimes s.now 1000000 b 16
  simp only [Lane.count]

theorem State.Tallied.fecCount {i : Nat} (hi : i < 8) (s : State) (a b : Nat) : State.Tallied i s (s.fecCount i a b) := by
  have hset : State.Tallied i s (s.setLane i (s.fecLane i a b)) :=
    State.Tallied.setLane hi s (((s.lane i).count 20 a).count 21 b).counters (slide (s.lane i).fecTimes s.now 1000000 b 16).1
  rw [State.fecCount_eq]
  split
  · exact hset.trans (State.Tallied.report i _ _ _ _ _)
  · exact hset

/-- What a lane keeps but its counters. -/
theorem State.Tallied.lane {i : Nat} {s u : State} (h : State.Tallied i s u) (j : Nat) :
    u.lane j = { s.lane j with counters := (u.lane j).counters, fecTimes := (u.lane j).fecTimes } := by
  by_cases hj : j = i
  · subst hj
    exact h.self
  · rw [h.other j hj]

section
variable {i : Nat} {s u : State} (h : State.Tallied i s u)
include h

theorem State.Tallied.st (j : Nat) : (u.lane j).st = (s.lane j).st := by rw [h.lane j]
theorem State.Tallied.cfg (j : Nat) : (u.lane j).cfg = (s.lane j).cfg := by rw [h.lane j]
theorem State.Tallied.inTx (j : Nat) : (u.lane j).inTx = (s.lane j).inTx := by rw [h.lane j]
theorem State.Tallied.backup (j : Nat) : (u.lane j).backup = (s.lane j).backup := by rw [h.lane j]
theorem State.Tallied.frrActive (j : Nat) : (u.lane j).frrActive = (s.lane j).frrActive := by rw [h.lane j]

theorem State.Tallied.net : u.net = { s.net with lanes := u.net.lanes } := congrArg State.net h.rest
theorem State.Tallied.queue (p : Nat) : u.net.queue p = s.net.queue p := by rw [h.net]; rfl
theorem State.Tallied.admits (p q : Nat) (f : Frame) : u.net.admits p q f = s.net.admits p q f := by rw [h.net]; rfl
theorem State.Tallied.pwr : u.pwr = s.pwr := by rw [h.rest]
theorem State.Tallied.ts : u.ts = s.ts := by rw [h.rest]
theorem State.Tallied.now : u.now = s.now := by rw [h.rest]
theorem State.Tallied.per : u.per = s.per := by rw [h.rest]

theorem State.Tallied.domOn (k : Nat) : u.domOn k = s.domOn k := by
  unfold State.domOn
  rw [h.pwr]

theorem State.Tallied.heartbeatOf (b : List Byte) : u.heartbeatOf b = s.heartbeatOf b := by
  have hda : u.net.hbDa = s.net.hbDa := by rw [h.net]
  have het : u.net.etherType = s.net.etherType := by rw [h.net]
  unfold State.heartbeatOf
  rw [hda, het]

theorem State.Tallied.ptpHeader (j : Nat) (b : List Byte) : u.ptpHeader j b = s.ptpHeader j b := by
  unfold State.ptpHeader State.tsLane
  rw [h.ts]

theorem State.Tallied.aesBindings (b : List Byte) : u.aesBindings b = s.aesBindings b := by
  have hstr : u.str = s.str := by rw [h.rest]
  have hpl : u.pl = s.pl := by rw [h.rest]
  unfold State.aesBindings State.bindLive
  rw [hstr, hpl]

theorem State.Tallied.frameOf (j : Nat) (f : RxFrame) : u.frameOf j f = s.frameOf j f := by
  have hid : u.net.nextId = s.net.nextId := by rw [h.net]
  unfold State.frameOf
  rw [h.cfg, h.now, h.per, hid]

theorem State.Tallied.queued (p q : Nat) (f : Frame) : (u.net.queued p q f).queues = (s.net.queued p q f).queues := by
  rw [h.net]
  rfl

theorem State.Tallied.queueOf (j q : Nat) (x : EthInfo) : (u.lane j).queueOf q x = (s.lane j).queueOf q x := by
  unfold Lane.queueOf
  rw [h.cfg]

theorem State.Tallied.reroute (p ingress : Nat) : u.reroute p ingress = s.reroute p ingress := by
  simp only [State.reroute, Lane.rerouted, h.st, h.backup, h.frrActive]
  rfl

theorem State.Tallied.macLookup (x : EthInfo) (ingress : Nat) : u.macLookup x ingress = s.macLookup x ingress := by
  have ht : u.net.macTbl = s.net.macTbl := by rw [h.rest]
  simp only [State.macLookup, ht, h.reroute, h.st, h.cfg]

end

theorem State.fecCount_counter (s : State) {i j : Nat} (hi : i < 8) (a b : Nat) (hj : j < 20) :
    rd ((s.fecCount i a b).lane i).counters j = rd (s.lane i).counters j := by
  have hset : rd ((s.setLane i (s.fecLane i a b)).lane i).counters j = rd (s.lane i).counters j := by
    rw [State.setLane_lane_self s hi]
    show rd (((s.lane i).count 20 a).count 21 b).counters j = _
    rw [rd_count_other _ (by omega), rd_count_other _ (by omega)]
  rw [State.fecCount_eq]
  split <;> exact hset

theorem State.countLane_counter (s : State) {i : Nat} (hi : i < 8) {ix : Nat} (hix : ix < 22) (n : Nat) :
    rd ((s.countLane i ix n).lane i).counters ix = satAdd 64 (rd (s.lane i).counters ix) n := by
  unfold State.countLane
  rw [State.setLane_lane_self s hi, rd_count_self _ hix]

theorem State.countLane_counter_other (s : State) {i : Nat} (hi : i < 8) {ix j : Nat} (h : j ≠ ix) (n : Nat) :
    rd ((s.countLane i ix n).lane i).counters j = rd (s.lane i).counters j := by
  unfold State.countLane
  rw [State.setLane_lane_self s hi, rd_count_other _ h]

/-! A frame that is queued behind older ones. -/

theorem insertFrame_last (rr : Nat) (l : List Frame) (f : Frame) (h : ∀ g ∈ l, g.first < f.first) : insertFrame rr l f = l ++ [f] := by
  induction l generalizing rr with
  | nil => rfl
  | cons g r ih =>
    rw [insertFrame, if_pos (h g (List.mem_cons_self ..)), ih _ (fun x hx => h x (List.mem_cons_of_mem _ hx)), List.cons_append]

theorem Net.store_queues (n : Net) (id : Nat) (c : Charge) : (n.store id c).queues = n.queues ∧ (n.store id c).lanes = n.lanes := by
  unfold Net.store
  split <;> exact ⟨rfl, rfl⟩

/-- A copy for a lane that sends a frame enters its queue. -/
theorem State.enqueue_waits {s : State} {p q : Nat} {f : Frame} (hd : s.domOn 5 = true) (hst : (s.lane p).st = .up)
    (hin : (s.lane p).inTx ≠ none) (hadm : s.net.admits p q f = true) (hord : ∀ g ∈ (s.net.queue p q).frames, g.first < f.first) :
    ∃ n, s.enqueue p q f = { s with net := n } ∧ n.lanes = s.net.lanes ∧
      n.queues = (s.net.queued p q { f with queue := q, cut := false }).queues := by
  obtain ⟨c, hc⟩ := Option.isSome_iff_exists.mp hadm
  have hk : ∀ n : Net, n.lanes = s.net.lanes → ({ s with net := n } : State).kick p = { s with net := n } := fun n hn => by
    have hl : ({ s with net := n } : State).lane p = s.lane p := congrArg (fun v => rd v p) hn
    unfold State.kick
    dsimp only
    rw [hl, if_pos (Option.isSome_iff_ne_none.mpr hin)]
  obtain ⟨hq, hl⟩ := Net.store_queues (s.net.setQueue p q { s.net.queue p q with
    frames := insertFrame (s.net.queue p q).rr (s.net.queue p q).frames { f with queue := q, cut := false } }) f.id c
  refine ⟨((s.net.setQueue p q { s.net.queue p q with
    frames := insertFrame (s.net.queue p q).rr (s.net.queue p q).frames { f with queue := q, cut := false } }).store f.id c).named f,
    ?_, hl, hq.trans ?_⟩
  · unfold State.enqueue
    dsimp only
    rw [if_neg (not_bnot_of_true hd), if_neg (by simp [hst]), hc]
    dsimp only
    split
    · exact hk _ hl
    · rfl
  · rw [insertFrame_last _ _ { f with queue := q, cut := false } hord]
    rfl

/-! A frame that is received. -/

/-- The state in which a good frame is classified. -/
def State.goodFrame (s : State) (i : Nat) (f : RxFrame) : State :=
  ((s.fecCount i f.fecCorr f.fecUncorr).countLane i 0).countLane i 1 (f.bytes.length + 4)

theorem State.Tallied.goodFrame {i : Nat} (hi : i < 8) (s : State) (f : RxFrame) : State.Tallied i s (s.goodFrame i f) :=
  ((State.Tallied.fecCount hi s _ _).trans (State.Tallied.countLane hi _ 0 1)).trans (State.Tallied.countLane hi _ 1 _)

theorem State.goodFrame_counter (s : State) {i : Nat} (hi : i < 8) (f : RxFrame) :
    rd ((s.goodFrame i f).lane i).counters 0 = satAdd 64 (rd (s.lane i).counters 0) 1 := by
  unfold State.goodFrame
  rw [State.countLane_counter_other _ hi (by decide), State.countLane_counter _ hi (by decide), State.fecCount_counter s hi _ _ (by decide)]

/-- A frame that fails its FCS on a lane that forwards none is counted. -/
theorem State.frameRx_faulty {s : State} {i : Nat} {f : RxFrame} (hst : (s.lane i).st = .down ∨ (s.lane i).st = .probing)
    (hc : rxCheck f (s.lane i).cfg.maxFrame = some (6, true)) :
    s.frameRx i f = (s.fecCount i f.fecCorr f.fecUncorr).countLane i 6 := by
  have hdis : (s.lane i).st ≠ .disabled := by rintro h; simp [h] at hst
  have hup : (s.lane i).st ≠ .up := by rintro h; simp [h] at hst
  unfold State.frameRx
  dsimp only
  rw [if_neg hdis, hc]
  dsimp only
  rw [if_neg (by simp [hup])]

/-- A good frame on an UP lane is learned from and classified. -/
theorem State.frameRx_classify {s : State} {i : Nat} {f : RxFrame} (hi : i < 8) (hst : (s.lane i).st = .up)
    (hc : rxCheck f (s.lane i).cfg.maxFrame = none) (hd : s.domOn 5 = true) (hh : s.heartbeatOf f.bytes = none) (fw : Option PtpFw) :
    s.frameRx i f fw = ((s.goodFrame i f).learn (ethInfo f.bytes) i).classify i (s.frameOf i f)
      (s.ts.tb.stamp f.t f.sub (-(s.calOf i).1)) fw false := by
  have hu := State.Tallied.goodFrame hi s f
  have hhb : (s.goodFrame i f).heartbeatOf f.bytes = none := (hu.heartbeatOf _).trans hh
  have hdom : (s.goodFrame i f).domOn 5 = true := (hu.domOn 5).trans hd
  have hfr : (s.goodFrame i f).frameOf i f = s.frameOf i f := hu.frameOf i f
  have hfec := State.Tallied.fecCount hi s f.fecCorr f.fecUncorr
  have hcal : (s.fecCount i f.fecCorr f.fecUncorr).calOf i = s.calOf i := by
    have hmode : ((s.fecCount i f.fecCorr f.fecUncorr).lane i).mode = (s.lane i).mode := by rw [hfec.lane i]
    unfold State.calOf State.tsLane
    rw [hmode, hfec.ts]
  have htb : (s.fecCount i f.fecCorr f.fecUncorr).ts = s.ts := hfec.ts
  have hrun : s.frameRx i f fw = if (s.lane i).st ≠ .up then (s.goodFrame i f).countLane i 8
      else if !(s.goodFrame i f).domOn 5 then s.goodFrame i f
      else ((s.goodFrame i f).learn (ethInfo f.bytes) i).classify i ((s.goodFrame i f).frameOf i f)
        ((s.fecCount i f.fecCorr f.fecUncorr).ts.tb.stamp f.t f.sub (-((s.fecCount i f.fecCorr f.fecUncorr).calOf i).1)) fw false := by
    unfold State.frameRx
    dsimp only
    rw [if_neg (show (s.lane i).st ≠ .disabled by rw [hst]; decide), hc]
    dsimp only
    rw [show (((s.fecCount i f.fecCorr f.fecUncorr).countLane i 0).countLane i 1 (f.bytes.length + 4)).heartbeatOf f.bytes = none from hhb]
    rfl
  rw [hrun, if_neg (not_not.mpr hst), if_neg (not_bnot_of_true hdom), hfr, hcal, htb]

/-- A lane that learns nothing leaves the tables. -/
theorem State.learn_off {s : State} {i : Nat} (hl : (s.lane i).cfg.learnEn = false) (x : EthInfo) : s.learn x i = s := by
  unfold State.learn
  dsimp only
  rw [if_pos (by simp [hl])]

/-- A good frame on an UP lane that learns nothing is classified. -/
theorem State.frameRx_good {s : State} {i : Nat} {f : RxFrame} (hi : i < 8) (hst : (s.lane i).st = .up)
    (hc : rxCheck f (s.lane i).cfg.maxFrame = none) (hd : s.domOn 5 = true) (hh : s.heartbeatOf f.bytes = none)
    (hl : (s.lane i).cfg.learnEn = false) :
    s.frameRx i f = (s.goodFrame i f).classify i (s.frameOf i f) (s.ts.tb.stamp f.t f.sub (-(s.calOf i).1)) none false := by
  rw [State.frameRx_classify hi hst hc hd hh,
    State.learn_off ((congrArg NetPortCfg.learnEn ((State.Tallied.goodFrame hi s f).cfg i)).trans hl)]

/-- A frame for one sending lane is queued there. -/
theorem State.forwardCopy_waits {s : State} {i e q : Nat} {f g : Frame} (hg : (s.lane e).inTx = some g) (hcut : g.cut = false) :
    s.forwardCopy i e q f false = s.enqueue e q f := by
  have hno : s.cuts i e = false := by
    unfold State.cuts
    simp [hg]
  have hout : s.outclaims i e f = none := by
    unfold State.outclaims
    simp [hg, hcut]
  unfold State.forwardCopy
  dsimp only
  rw [hno, hout, Bool.and_false, if_neg Bool.false_ne_true, ite_self]
  rfl

/-- What a frame is that goes by the MAC table: no heartbeat, PTP, stream, control or link-local frame, and none for the node. -/
structure State.Ordinary (s : State) (i : Nat) (b : List Byte) : Prop where
  ptp : s.ptpHeader i b = none
  aes : s.aesBindings b = []
  link : (ethInfo b).da / 16 ≠ 0x0180C200000
  node : (ethInfo b).da ≠ s.net.nodeMac
  type : (ethInfo b).etherType ≠ s.net.etherType

theorem State.Tallied.ordinary {i : Nat} {s u : State} (h : State.Tallied i s u) {b : List Byte} (k : s.Ordinary i b) :
    u.Ordinary i b := by
  have hmac : u.net.nodeMac = s.net.nodeMac := by rw [h.net]
  have het : u.net.etherType = s.net.etherType := by rw [h.net]
  exact ⟨(h.ptpHeader i b).trans k.ptp, (h.aesBindings b).trans k.aes, k.link, by rw [hmac]; exact k.node, by rw [het]; exact k.type⟩

theorem State.classify_ordinary {s : State} {i : Nat} {f : Frame} (h : s.Ordinary i f.bytes) (st : Stamp) :
    s.classify i f st none false = s.macForward i f (ethInfo f.bytes) false := by
  have h1 : (ethInfo f.bytes).da ≠ 0x0180C2000001 := fun e => h.link (by rw [e])
  have h2 : (ethInfo f.bytes).da ≠ 0x0180C2000002 := fun e => h.link (by rw [e])
  unfold State.classify
  dsimp only
  rw [if_neg h1, if_neg h2, h.ptp]
  dsimp only
  rw [if_neg h.link, if_neg (by simp [h.type]), if_neg Bool.false_ne_true, h.aes]
  exact if_neg h.node

theorem State.macForward_one {s : State} {i d q : Nat} {f g : Frame} {x : EthInfo} (hd : d < 8) (hl : s.macLookup x i = some ([d], q))
    (hg : (s.lane d).inTx = some g) (hcut : g.cut = false) :
    s.macForward i f x false = s.enqueue d ((s.lane i).queueOf q x) f := by
  unfold State.macForward
  rw [hl]
  dsimp only [List.foldl]
  rw [if_neg (by omega), State.forwardCopy_waits hg hcut]

/-- A good ordinary frame for one sending lane is queued there. -/
theorem State.frameRx_queued {s : State} {i d q : Nat} {f : RxFrame} {g : Frame} (hi : i < 8) (hst : (s.lane i).st = .up)
    (hc : rxCheck f (s.lane i).cfg.maxFrame = none) (hdom : s.domOn 5 = true) (hh : s.heartbeatOf f.bytes = none)
    (hle : (s.lane i).cfg.learnEn = false) (hord : s.Ordinary i f.bytes) (hxb : (s.frameOf i f).bytes = f.bytes)
    (hlook : s.macLookup (ethInfo f.bytes) i = some ([d], q)) (hd : d < 8) (hdst : (s.lane d).st = .up)
    (hg : (s.lane d).inTx = some g) (hcut : g.cut = false)
    (hadm : s.net.admits d ((s.lane i).queueOf q (ethInfo f.bytes)) (s.frameOf i f) = true)
    (hold : ∀ x ∈ (s.net.queue d ((s.lane i).queueOf q (ethInfo f.bytes))).frames, x.first < f.t) :
    ∃ n, s.frameRx i f = { s.goodFrame i f with net := n } ∧ n.lanes = (s.goodFrame i f).net.lanes ∧
      n.queues = (s.net.queued d ((s.lane i).queueOf q (ethInfo f.bytes)) { s.frameOf i f with
        queue := (s.lane i).queueOf q (ethInfo f.bytes), cut := false }).queues := by
  have hu := State.Tallied.goodFrame hi s f
  have hg' : ((s.goodFrame i f).lane d).inTx = some g := (hu.inTx d).trans hg
  obtain ⟨n, hn, hlanes, hqs⟩ := State.enqueue_waits (s := s.goodFrame i f) (p := d) (q := (s.lane i).queueOf q (ethInfo f.bytes))
    (f := s.frameOf i f) ((hu.domOn 5).trans hdom) ((hu.st d).trans hdst) (by rw [hg']; exact Option.some_ne_none g)
    ((hu.admits _ _ _).trans hadm) (by rw [hu.queue]; exact hold)
  refine ⟨n, ?_, hlanes, hqs.trans (hu.queued _ _ _)⟩
  rw [State.frameRx_good hi hst hc hdom hh hle, State.classify_ordinary (by rw [hxb]; exact hu.ordinary hord), hxb,
    State.macForward_one hd ((hu.macLookup _ _).trans hlook) hg' hcut, hu.queueOf, hn]

/-- A copy is admitted only to one of the eight queues of its port. -/
theorem Net.lt_of_admits {n : Net} {p q : Nat} {f : Frame} (h : n.admits p q f = true) : q < 8 := by
  by_contra hq
  have hx : n.queue p q = default := rd_of_ge _ (by omega)
  have hcells : f.cells ≠ 0 := by
    unfold Frame.cells Frame.len
    omega
  obtain ⟨c, hc⟩ := Option.isSome_iff_exists.mp h
  have hrsv : (default : Queue).rsv = 0 := rfl
  have hmax : (default : Queue).qmax = 0 := rfl
  unfold Net.charge at hc
  dsimp only at hc
  rw [hx, hrsv, hmax] at hc
  simp [hcells] at hc

theorem Net.queue_of_queues {n m : Net} (h : n.queues = m.queues) (p q : Nat) : n.queue p q = m.queue p q := by
  unfold Net.queue
  rw [h]

/-! The last frame of a lane. -/

theorem Net.takeNext_eq_none_iff (n : Net) (p : Nat) : n.takeNext p = none ↔ ∀ q, q < 8 → (n.queue p q).frames = [] := by
  unfold Net.takeNext
  rw [List.findSome?_eq_none_iff]
  constructor
  · intro h q hq
    have h := h q (List.mem_map.mpr ⟨7 - q, List.mem_range.mpr (by omega), by omega⟩)
    cases hf : (n.queue p q).frames with
    | nil => rfl
    | cons f r => simp [hf] at h
  · intro h q hq
    obtain ⟨j, hj, rfl⟩ := List.mem_map.mp hq
    simp [h (7 - j) (by omega)]

/-- The lane after a frame without time operation and report has left whole. -/
def State.sentLane (s : State) (i : Nat) (f : Frame) : Lane :=
  ({ s.lane i with inTx := none, lastTx := some (f.bytes, false), cutRr := if f.cut then f.ingress else (s.lane i).cutRr }.count 10).count
    11 f.len

/-- The state after such a frame has left. -/
def State.sent (s : State) (i : Nat) (f : Frame) : State :=
  (({ s with net := s.net.release f } : State).setLane i (s.sentLane i f)).setTsLane i (s.tsLane i)

theorem State.depart_plain {s : State} {i : Nat} {f : Frame} (hop : f.op = .none) (hr : f.report = none) (hst : f.stomp = false)
    (hhb : f.hb = false) (t sub : Nat) : s.depart i f t sub = s.sent i f := by
  unfold State.depart
  simp only [hop, hr, hst, hhb, TimeOp.apply]
  rfl

theorem State.frameDone_plain {s : State} {i : Nat} {f : Frame} (hi : i < 8) (hin : (s.lane i).inTx = some f) (hop : f.op = .none)
    (hr : f.report = none) (hst : f.stomp = false) (hhb : f.hb = false) (he : (s.lane i).cfg.hbEn = false)
    (hnext : s.net.takeNext i = none) (t sub : Nat) : s.frameDone i t sub none = s.sent i f := by
  have hlane : (s.sent i f).lane i = s.sentLane i f := State.setLane_lane_self ({ s with net := s.net.release f } : State) hi _
  have hdue : (s.sent i f).hbDue i = false := by
    unfold State.hbDue
    dsimp only
    rw [hlane, show (s.sentLane i f).cfg.hbEn = false from he]
    rfl
  have htake : (s.sent i f).net.takeNext i = none := by
    rw [Net.takeNext_eq_none_iff] at hnext ⊢
    exact fun q hq => (congrArg Queue.frames (s.net.release_queue f i q)).trans (hnext q hq)
  have hkick : (s.sent i f).kick i = s.sent i f := by
    unfold State.kick
    dsimp only
    rw [hdue, htake, hlane, if_neg (by simp [State.sentLane, Lane.count]), if_neg Bool.false_ne_true, ite_self]
  unfold State.frameDone
  rw [hin]
  dsimp only
  rw [State.depart_plain hop hr hst hhb, hkick]

/-- Settles O26: the counting of a received frame leaves all that its way depends on, and a frame for a sending lane is queued last. -/
theorem frames : Obligations.Frames := by
  intro s i l hi hl
  subst hl
  refine ⟨?_, ?_, ?_, ?_, ?_⟩
  · intro f hst hc hfec
    have hrun := State.frameRx_faulty (s := (s.at_ f.t).at_ f.tEnd) hst hc
    have hfec' := State.Tallied.fecCount hi ((s.at_ f.t).at_ f.tEnd) f.fecCorr f.fecUncorr
    have hu := hfec'.trans (State.Tallied.countLane hi _ 6 1)
    refine ⟨_, congrArg Host.Outcome.next hrun, ?_, hu.st i, by rw [hu.rest]; rfl, by rw [hu.rest]; rfl, hu.other⟩
    rw [State.countLane_counter _ hi (by decide), State.fecCount_counter _ hi _ _ (by decide)]
    rfl
  · intro f d q k x hst hc _ ht he hd hh hp ha hle hda hno het hlook hd8 hdi hdst hin hx hxb hk hadm hord
    subst hx hk
    obtain ⟨g, hg, hcut⟩ := hin
    have hat : (s.at_ f.t).at_ f.tEnd = s := by
      unfold State.at_
      rw [Nat.max_eq_left ht, Nat.max_eq_left he]
    obtain ⟨n, hrun, hlanes, hqs⟩ := State.frameRx_queued hi hst hc hd hh hle ⟨hp, ha, hda, hno, het⟩ hxb hlook hd8 hdst hg hcut hadm hord
    have hlane : ∀ j, ({ s.goodFrame i f with net := n } : State).lane j = (s.goodFrame i f).lane j := fun j =>
      congrArg (fun v => rd v j) hlanes
    refine ⟨_, congrArg Host.Outcome.next ((congrArg (State.frameRx · i f) hat).trans hrun), ?_, ?_,
      fun j hj => (hlane j).trans ((State.Tallied.goodFrame hi s f).other j hj)⟩
    · have hk := Net.lt_of_admits hadm
      show (n.queue d _).frames = _
      rw [Net.queue_of_queues hqs]
      unfold Net.queued
      rw [Net.setQueue_queue _ _ (by omega) hk, if_pos ⟨rfl, rfl⟩]
      rfl
    · rw [hlane i]
      exact s.goodFrame_counter hi f
  · intro x tx sub hin hop hr hst hhb he hnext
    have hlane : ((s.at_ tx).sent i x).lane i = (s.at_ tx).sentLane i x :=
      State.setLane_lane_self ({ s.at_ tx with net := s.net.release x } : State) hi _
    refine ⟨_, congrArg Host.Outcome.next (State.frameDone_plain (s := s.at_ tx) hi hin hop hr hst hhb he hnext tx sub),
      congrArg Lane.inTx hlane, congrArg Lane.lastTx hlane, ?_, ?_, s.net.release_queues x⟩
    · refine (congrArg (fun l : Lane => rd l.counters 10) hlane).trans ?_
      refine (rd_count_other _ (by decide) _).trans ((rd_count_self _ (by decide) _).trans rfl)
    · refine (congrArg (fun l : Lane => rd l.counters 11) hlane).trans ?_
      refine (rd_count_self _ (by decide) _).trans (congrArg (satAdd 64 · x.len) ((rd_count_other _ (by decide) _).trans rfl))
  · intro bytes q x hcp hq hst hin hd hptp hx hadm hord
    subst hx
    obtain ⟨n, hn, hlanes, hqs⟩ := State.enqueue_waits (f := s.pcFrame bytes .none none) hd hst hin hadm hord
    have hrun : s.cpSend i q bytes .none none = { s with net := n } := by
      unfold State.cpSend
      simp [hptp, hcp, Nat.not_lt.mpr (Nat.le_of_lt_succ hi), Nat.not_lt.mpr (Nat.le_of_lt_succ hq), hn]
    exact ⟨_, congrArg Host.Outcome.next hrun, rfl, hlanes, hqs⟩
  · intro header payload q mss x hcp hq hst hin hd h14 h128 hmss hmax h1 hpay hpl hx hadm hord
    subst hx
    obtain ⟨n, hn, hlanes, hqs⟩ := State.enqueue_waits (f := s.pcFrame (header ++ payload) .none none) hd hst hin hadm hord
    have hone : (payload.length + mss - 1) / mss = 1 := Nat.div_eq_of_lt_le (by omega) (by omega)
    have hseg : segmentHeader .raw header ((payload.drop (0 * mss)).take mss) 0 = header ++ payload := by
      rw [Nat.zero_mul, List.drop_zero, List.take_of_length_le hpay]
      rfl
    have hrun : s.largeSend i q mss .raw header payload = { s with net := n } := by
      unfold State.largeSend
      rw [if_neg (by simp [hcp, within, h14, h128]; omega), hone]
      simp only [List.range_one, List.foldl_cons, List.foldl_nil, hseg, hn]
    exact ⟨_, congrArg Host.Outcome.next hrun, rfl, hlanes, hqs⟩

end Sys2Proof.Machine
end

section
/-!
SUPPORT. Stream status and AES67 bindings (10 R312, R315): settles O28.
-/
namespace Sys2Proof.Machine

section
variable {s : State} {e : Env} {c : CmdInfo}

theorem resBytes_length (fs : List RField) : (resBytes fs).length = (fs.map (·.1)).sum := by
  unfold resBytes
  rw [List.length_flatMap]
  exact congrArg List.sum (List.map_congr_left fun p _ => leBytes_length p.1 p.2)

theorem answers_streamStatus_tx {id : Nat} {clear : Bool} {r : StreamRec} (hm : s.meets (.streamStatus e 0 id clear) c)
    (hr : s.streamRec false id = some r) :
    s.answers (.streamStatus e 0 id clear) c .ok 0
      (resBytes [(4, (s.txSt id).sentA), (4, (s.txSt id).sentB), (4, (s.txSt id).invalid), (4, (s.txSt id).subst), (4, (s.txSt id).clip)])
      (if clear then s.setTx id { s.txSt id with sentA := 0, sentB := 0, invalid := 0, subst := 0, clip := 0 } else s) := by
  have hkeep : (if clear then s.setTx id { s.txSt id with sentA := 0, sentB := 0, invalid := 0, subst := 0, clip := 0 } else s) =
      { s with str := (if clear then s.setTx id { s.txSt id with sentA := 0, sentB := 0, invalid := 0, subst := 0, clip := 0 } else s).str } := by
    cases clear <;> rfl
  refine State.answers_of_run hm (fun P f _ => ?_) (hu := by rw [hkeep]) (hw := by rw [hkeep]) (htw := by rw [hkeep])
  have hr' : ({ s with ports := P } : State).streamRec false id = some r := hr
  rw [State.ite_ports]
  simp only [runCmd, runStreamStatus, show ¬ (1 : Nat) < 0 by decide, if_false, if_true, show ((0 : Nat) == 1) = false by decide, hr']
  rfl

theorem answers_streamStatus_rx {id : Nat} {clear : Bool} {r : StreamRec} (hm : s.meets (.streamStatus e 1 id clear) c)
    (hr : s.streamRec true id = some r) :
    s.answers (.streamStatus e 1 id clear) c .ok 0
      (resBytes ([(1, (s.rxSt id).run.code)] ++ (s.rxSt id).cnt.arrive.toList.map (fun v => (4, v)) ++
        (s.rxSt id).cnt.used.toList.map (fun v => (4, v)) ++
        [(4, (s.rxSt id).cnt.format), (4, (s.rxSt id).cnt.belaySkip), (4, (s.rxSt id).cnt.window), (4, (s.rxSt id).cnt.late),
         (4, (s.rxSt id).cnt.early), (4, (s.rxSt id).cnt.unused), (4, (s.rxSt id).cnt.diverge), (4, (s.rxSt id).cnt.ssrcChange),
         (4, (s.rxSt id).cnt.missing), (4, (s.rxSt id).cnt.minMargin)]))
      (if clear then s.setRx id { s.rxSt id with cnt := RxCnt.zero } else s) := by
  have hkeep : (if clear then s.setRx id { s.rxSt id with cnt := RxCnt.zero } else s) =
      { s with str := (if clear then s.setRx id { s.rxSt id with cnt := RxCnt.zero } else s).str } := by
    cases clear <;> rfl
  refine State.answers_of_run hm (fun P f _ => ?_) (hu := by rw [hkeep]) (hw := by rw [hkeep]) (htw := by rw [hkeep])
    (hlen := by rw [resBytes_length]; simp)
  have hr' : ({ s with ports := P } : State).streamRec true id = some r := hr
  rw [State.ite_ports]
  simp only [runCmd, runStreamStatus, show ¬ (1 : Nat) < 1 by decide, show ¬ (1 : Nat) = 0 by decide, if_false,
    show ((1 : Nat) == 1) = true by decide, hr']
  rfl

theorem answers_belayStatus {clear : Bool} (hm : s.meets (.belayStatus e clear) c) (hb : s.isBelay = true) :
    s.answers (.belayStatus e clear) c .ok 0
      (resBytes [(1, 1), (1, if s.str.aligned then 1 else 0), (4, s.txIds.length), (4, s.minRun.1), (4, s.minRun.2),
        (4, s.str.match_), (4, s.str.mismatch), (4, s.str.missing), (4, s.str.skip), (4, s.str.alignedAt),
        (4, s.str.ctrlMisaddr), (4, s.str.ctrlBad)])
      (if clear then { s with str := { s.str with
        match_ := 0, mismatch := 0, missing := 0, skip := 0, ctrlMisaddr := 0, ctrlBad := 0 } } else s) := by
  have hkeep : (if clear then ({ s with str := { s.str with
        match_ := 0, mismatch := 0, missing := 0, skip := 0, ctrlMisaddr := 0, ctrlBad := 0 } } : State) else s) =
      { s with str := (if clear then ({ s with str := { s.str with
        match_ := 0, mismatch := 0, missing := 0, skip := 0, ctrlMisaddr := 0, ctrlBad := 0 } } : State) else s).str } := by
    cases clear <;> rfl
  refine State.answers_of_run hm (fun P f _ => ?_) (hu := by rw [hkeep]) (hw := by rw [hkeep]) (htw := by rw [hkeep])
  have hb' : ({ s with ports := P } : State).isBelay = true := hb
  rw [State.ite_ports]
  simp only [runCmd, runBelayStatus, hb', Bool.true_and, if_true]
  cases s.str.aligned <;> rfl

theorem answers_aes67Bind {count addr : Nat} {data : List Byte} {es : List BindEntry} (hm : s.meets (.aes67Bind e count addr data) c)
    (hl : listed e.port addr count 1 256) (he : es = bindEntries count data) (hok : ∀ x ∈ es, bindOk x = true)
    (hdel : ∀ x ∈ es, x.delete = true → (∃ y ∈ s.str.bindings, bindSame y x = true) ∧ ∀ y ∈ es, y.delete = false → bindSame y x = false)
    (hfit : (es.foldl applyBind s.str.bindings).length ≤ 256) :
    s.answers (.aes67Bind e count addr data) c .ok 0 (resBytes [(4, count), (4, (es.foldl applyBind s.str.bindings).length)])
      { s with str := { s.str with bindings := es.foldl applyBind s.str.bindings } } := by
  have hC := hm.ring
  cases hm.info
  refine State.answers_of_run hm fun P f _ => ?_
  obtain ⟨h1, h2⟩ := listed_checks hC hl
  have h3 : es.all bindOk = true := List.all_eq_true.mpr hok
  have h4 : es.any (fun e => e.delete && es.any (fun g => !g.delete && bindSame g e)) = false := by
    refine List.any_eq_false.mpr fun x hx => ?_
    rw [Bool.and_eq_true, List.any_eq_true]
    rintro ⟨hd, y, hy, hyd⟩
    rw [Bool.and_eq_true, Bool.not_eq_true'] at hyd
    rw [(hdel x hx hd).2 y hy hyd.1] at hyd
    exact Bool.false_ne_true hyd.2
  have h5 : es.any (fun e => e.delete && !s.str.bindings.any (fun x => bindSame x e)) = false := by
    refine List.any_eq_false.mpr fun x hx => ?_
    rw [Bool.and_eq_true]
    rintro ⟨hd, hn⟩
    obtain ⟨y, hy, hyx⟩ := (hdel x hx hd).1
    exact not_bnot_of_true (List.any_eq_true.mpr ⟨y, hy, hyx⟩) hn
  have hlen : es.length = count := by simp [he, bindEntries]
  have h2' : ¬ (!countOk addr count 1 256 || !es.all bindOk ||
      es.any (fun e => e.delete && es.any (fun g => !g.delete && bindSame g e))) = true := by rw [h2, h3, h4]; decide
  show runAes67Bind _ count addr (bindEntries count data) _ = _
  rw [← he]
  refine (if_neg h1).trans ((if_neg h2').trans ((if_neg (by rw [h5]; decide)).trans ((if_neg (Nat.not_lt.mpr hfit)).trans ?_)))
  rw [hlen]
  rfl

end

/-- Settles O28: each command through its run. -/
theorem streamCommands : Obligations.StreamCommands := by
  intro s e c
  refine ⟨?_, ?_, fun clear hm hb => answers_belayStatus hm hb,
    fun count addr data es hm hl he hok hdel hfit => answers_aes67Bind hm hl he hok hdel hfit⟩
  · rintro id clear r x hm hr rfl
    exact answers_streamStatus_tx hm hr
  · rintro id clear r x hm hr rfl
    exact answers_streamStatus_rx hm hr

end Sys2Proof.Machine
end

section
/-!
SUPPORT. CMD and CMD_REPLY frames of port C (10 R306 to R308, 15 R471, R472, R475): settles O29.
-/
namespace Sys2Proof.Machine

theorem lookup?_insertKey_self {α : Type} (l : List (Nat × α)) (k : Nat) (v : α) : lookup? (insertKey l k v) k = some v := by
  induction l with
  | nil => simp [insertKey, lookup?]
  | cons p l ih =>
    obtain ⟨j, u⟩ := p
    unfold insertKey
    by_cases hjk : j = k
    · simp [hjk, lookup?]
    by_cases hkj : k < j
    · simp [hjk, hkj, lookup?]
    · unfold lookup? at ih ⊢
      simp [hjk, hkj, ih]

/-- A floor of CONFIG that is raised changes the flash, its grade and messages only. -/
theorem State.graded_rest (s : State) (c : Prop) [Decidable c] :
    ∃ P h b, (if c then s else s.configWritten.gradeFlash) = { s with ports := P, hlt := h, boot := b } ∧ s.ports.Same P := by
  by_cases hc : c
  · exact ⟨s.ports, s.hlt, s.boot, if_pos hc, Ports.Same.refl _⟩
  · obtain ⟨P, h, hg⟩ := s.configWritten.gradeFlash_rest
    obtain ⟨f, hf, hk⟩ := s.configWritten.gradeFlash_ports
    have hP : P = f s.ports := by
      have h1 := congrArg State.ports (hf s.ports)
      have h2 := congrArg State.ports hg
      exact h2.symm.trans h1
    exact ⟨P, h, s.configWritten.boot, (if_neg hc).trans hg, hP ▸ (hk s.ports).1⟩

/-! A CMD frame at PC. -/

theorem slice_eq_take {l : List Byte} {o n : Nat} (h : o + n ≤ l.length) : slice l o n = (l.drop o).take n := by
  have hlen : ((l.drop o).take n).length = n := by
    rw [List.length_take, List.length_drop]
    omega
  unfold slice
  dsimp only
  rw [hlen, Nat.sub_self, List.replicate_zero, List.append_nil]

theorem Net.takeNext_etherType {n m : Net} {p : Nat} {f : Frame} (h : n.takeNext p = some (f, m)) : m.etherType = n.etherType := by
  unfold Net.takeNext at h
  obtain ⟨q, -, hq⟩ := List.exists_of_findSome?_eq_some h
  dsimp only at hq
  split at hq
  · cases hq
  · cases hq
    rfl

theorem Net.release_etherType (n : Net) (f : Frame) : (n.release f).etherType = n.etherType := by
  have h := congrArg Net.etherType (n.release_bare f)
  exact h

section
variable {s : State} {f : Frame}

/-- The first frame that waits at PC, a CMD frame, is the one handled. -/
theorem State.pcFrames_cmd {n : Net} (m : Nat) (htake : s.net.takeNext 9 = some (f, n))
    (het : (ethInfo f.bytes).etherType = s.net.etherType) (hty : befld f.bytes (ethInfo f.bytes).pay 1 = 0x80) :
    State.pcFrames (m + 1) s = ({ s with net := n.release f } : State).checkCmd f := by
  have he : (n.release f).etherType = s.net.etherType := (n.release_etherType f).trans (Net.takeNext_etherType htake)
  unfold State.pcFrames
  rw [htake]
  dsimp only
  rw [if_pos (by simp [he, het, hty])]

/-- Frames that wait at PC give the handler its turns. -/
theorem State.cmdFrameRx_eq {n : Net} (hs : s.pwr.service = true) (hr : s.boot.recovery = false)
    (htake : s.net.takeNext 9 = some (f, n)) (hmem : ∃ q, q < 8 ∧ f ∈ (s.net.queue 9 q).frames)
    (het : (ethInfo f.bytes).etherType = s.net.etherType) (hty : befld f.bytes (ethInfo f.bytes).pay 1 = 0x80) :
    s.cmdFrameRx = (({ s with net := n.release f } : State).checkCmd f).serve := by
  obtain ⟨q, hq, hf⟩ := hmem
  have hpos : 0 < ((List.range 8).map (fun q => (s.net.queue 9 q).frames.length)).sum := by
    refine Nat.lt_of_lt_of_le (List.length_pos_of_mem hf) (List.le_sum_of_mem ?_)
    exact List.mem_map.mpr ⟨q, List.mem_range.mpr hq, rfl⟩
  obtain ⟨m, hm⟩ := Nat.exists_eq_add_one.mpr hpos
  unfold State.cmdFrameRx
  rw [if_neg (by simp [hs, hr]), hm, State.pcFrames_cmd m htake het hty]

/-- A CMD frame that is not authentic is refused. -/
theorem State.refuseCmd_rest (s : State) (id cause : Nat) :
    s.refuseCmd id cause = { s with ports := (s.refuseCmd id cause).ports, flt := (s.refuseCmd id cause).flt } ∧
      (s.refuseCmd id cause).ports.pc.descs = s.ports.pc.descs ∧ (s.refuseCmd id cause).ports.pc.keys = s.ports.pc.keys ∧
      (∀ q, (s.refuseCmd id cause).ports.get q = s.ports.get q) ∧
      (s.refuseCmd id cause).ports.pc.authFail = if cause = 0 then satAdd 32 s.ports.pc.authFail 1 else s.ports.pc.authFail := by
  unfold State.refuseCmd
  dsimp only
  split
  · exact ⟨rfl, rfl, rfl, fun q => by cases q <;> rfl, rfl⟩
  · split <;> exact ⟨rfl, rfl, rfl, fun q => by cases q <;> rfl, rfl⟩

end

/-- Service stays calm while port C gets descriptors of known operations. -/
theorem State.portsCalm.of_descs {s t : State} (h : s.portsCalm) (ht : t.tw = s.tw)
    (hp : ∀ q, (t.port q).flights = (s.port q).flights ∧ (t.port q).placed = (s.port q).placed)
    (hd : (t.port .D).avail = (s.port .D).avail ∧ (t.port .D).sqHead = (s.port .D).sqHead)
    {ds : List (List Byte)} (hc : t.ports.pc.descs = s.ports.pc.descs ++ ds)
    (hk : ∀ d, ds.head? = some d → definedOpcode (leNat (slice d 0 2)) = true) : t.portsCalm := by
  intro q
  obtain ⟨hfl, hpl, -⟩ := h q
  refine ⟨by rw [(hp q).1]; exact hfl, (hp q).2.trans hpl, ?_⟩
  cases q with
  | A => rfl
  | B => rfl
  | C =>
    have hold := (h .C).2.2
    cases hs : s.ports.pc.descs with
    | nil =>
      have hn : t.nextDesc .C = ds.head? := by
        show t.ports.pc.descs.head? = _
        rw [hc, hs, List.nil_append]
      unfold State.unknownDesc
      rw [hn]
      cases hh : ds.head? with
      | none => rfl
      | some d => simp [hk d hh]
    | cons d r =>
      have hn : t.nextDesc .C = s.nextDesc .C := by
        show t.ports.pc.descs.head? = s.ports.pc.descs.head?
        rw [hc, hs]
        rfl
      rw [State.unknownDesc_of hn]
      exact hold
  | D =>
    have hn : t.nextDesc .D = s.nextDesc .D := by
      have ha : t.ports.d.avail = s.ports.d.avail := hd.1
      have hh : t.ports.d.sqHead = s.ports.d.sqHead := hd.2
      unfold State.nextDesc
      rw [ht, ha, hh]
    rw [State.unknownDesc_of hn]
    exact (h .D).2.2

/-! The checks of a CMD frame. -/

section
variable {s : State} {f : Frame} {w : List Byte} {k : Key}

theorem State.checkCmd_bad (hw : w = f.bytes.drop (ethInfo f.bytes).pay) (hid : befld w 2 2 % 4096 = s.nodeId) (h1 : 1 ≤ befld w 6 2)
    (h16 : befld w 6 2 ≤ 16) (hlen : 32 + befld w 6 2 * 64 ≤ w.length) (hk : lookup? s.ports.pc.keys (befld w 4 1) = some k)
    (hmac : (hmacSha256 k.material (slice w 0 (16 + befld w 6 2 * 64))).take 16 ≠ slice w (16 + befld w 6 2 * 64) 16) :
    s.checkCmd f = s.refuseCmd (befld w 4 1) 0 := by
  have hform : ¬ (!within 1 16 (befld w 6 2) || decide (w.length < 32 + befld w 6 2 * 64)) = true := by
    simp [within, h1, h16, hlen]
  unfold State.checkCmd
  dsimp only
  rw [← hw, if_neg (not_not.mpr hid), if_neg hform, hk]
  dsimp only
  rw [if_pos hmac]

theorem State.checkCmd_good (hw : w = f.bytes.drop (ethInfo f.bytes).pay) (hid : befld w 2 2 % 4096 = s.nodeId) (h1 : 1 ≤ befld w 6 2)
    (h16 : befld w 6 2 ≤ 16) (hlen : 32 + befld w 6 2 * 64 ≤ w.length) (hk : lookup? s.ports.pc.keys (befld w 4 1) = some k)
    (hhi : k.highest < befld w 8 8)
    (hmac : (hmacSha256 k.material (slice w 0 (16 + befld w 6 2 * 64))).take 16 = slice w (16 + befld w 6 2 * 64) 16) :
    s.checkCmd f = s.acceptCmd f (befld w 4 1) (befld w 6 2) (befld w 8 8) k := by
  have hform : ¬ (!within 1 16 (befld w 6 2) || decide (w.length < 32 + befld w 6 2 * 64)) = true := by
    simp [within, h1, h16, hlen]
  unfold State.checkCmd
  dsimp only
  rw [← hw, if_neg (not_not.mpr hid), if_neg hform, hk]
  dsimp only
  rw [if_neg (not_not.mpr hmac), if_neg (Nat.not_le.mpr hhi)]

/-- What the acceptance of a CMD frame leaves: its key's replay counter, its descriptors at port C, and all else but the flash,
its grade and messages. -/
theorem State.acceptCmd_rest (s : State) (f : Frame) (id count replay : Nat) (k : Key) :
    ∃ P h b, s.acceptCmd f id count replay k = { s with ports := P, hlt := h, boot := b } ∧
      (∀ q, (P.get q).flights = (s.ports.get q).flights ∧ (P.get q).placed = (s.ports.get q).placed) ∧
      P.d.avail = s.ports.d.avail ∧ P.d.sqHead = s.ports.d.sqHead ∧ P.c.avail = s.ports.c.avail + count ∧
      P.pc.descs = s.ports.pc.descs ++ (List.range count).map (fun n => slice (f.bytes.drop (ethInfo f.bytes).pay) (16 + 64 * n) 64) ∧
      P.pc.keys = insertKey s.ports.pc.keys id { k with highest := replay, floor := raiseFloor replay k.floor } := by
  obtain ⟨P, h, b, hg, hsame, -⟩ := s.graded_rest (raiseFloor replay k.floor = k.floor)
  refine ⟨_, h, b, congrArg (fun u : State => ({ u with ports := { u.ports with
    pc := _, c := { u.ports.c with avail := u.ports.c.avail + count } } } : State)) hg, fun q => ?_, (hsame .D).avail, (hsame .D).head,
    congrArg (· + count) (hsame .C).avail, rfl, rfl⟩
  cases q with
  | A => exact ⟨(hsame .A).flights, (hsame .A).placed⟩
  | B => exact ⟨(hsame .B).flights, (hsame .B).placed⟩
  | C => exact ⟨(hsame .C).flights, (hsame .C).placed⟩
  | D => exact ⟨(hsame .D).flights, (hsame .D).placed⟩

end

/-! The reply. -/

theorem replyFrames_one (x : Entry) : replyFrames [] (replyParts [x]) = [[x]] := by
  cases h : x.answers <;> simp [replyParts, h, acceptGroups, replyGroups, replyFrames]

theorem Entry.bytes_length (x : Entry) : x.bytes.length = 32 := by
  unfold Entry.bytes
  dsimp only
  split <;> simp [leBytes_length, slice_length]

theorem replyBytes_length (node id replay : Nat) (material : List Byte) (x : Entry) :
    48 ≤ (replyBytes node id replay material [x]).length ∧ (replyBytes node id replay material [x]).length ≤ 64 := by
  have h : (replyBytes node id replay material [x]).length =
      48 + min 16 (hmacSha256 material (beBytes 1 0x81 ++ beBytes 1 1 ++ beBytes 2 (node % 4096) ++ beBytes 1 id ++ beBytes 1 0 ++
        beBytes 2 1 ++ beBytes 8 replay ++ x.bytes)).length := by
    simp only [replyBytes, List.length_append, List.length_take, List.flatMap_cons, List.flatMap_nil, List.append_nil,
      List.length_singleton, beBytes_length, Entry.bytes_length]
  omega

theorem ownHeader_length (da sa et : Nat) (tag : Option Nat) : (ownHeader da sa tag et).length = if tag.isSome then 18 else 14 := by
  cases tag <;> simp [ownHeader, beBytes_length]

theorem leNat_leBytes (n v : Nat) : leNat (leBytes n v) = v % 256 ^ n := by
  induction n generalizing v with
  | zero => simp [leBytes, leNat, Nat.mod_one]
  | succ n ih =>
    rw [leBytes, leNat, ih, BitVec.toNat_ofNat, Nat.pow_succ' (n := n), Nat.mod_mul]

theorem beNat_beBytes (n v : Nat) : beNat (beBytes n v) = v % 256 ^ n := by
  unfold beNat beBytes
  rw [List.reverse_reverse, leNat_leBytes]

/-- A big-endian field of a frame reads what was put there. -/
theorem befld_append (a r : List Byte) {o : Nat} (n v : Nat) (h : a.length = o) : befld (a ++ (beBytes n v ++ r)) o n = v % 256 ^ n := by
  unfold befld
  rw [slice_eq_take (by simp [beBytes_length]; omega), List.drop_left' h, List.take_left' (beBytes_length n v), beNat_beBytes]

/-- The payload of a frame of the node's own starts behind its header. -/
theorem ethInfo_ownHeader_pay (da sa et : Nat) (tag : Option Nat) (het : et % 65536 ≠ 0x8100) (r : List Byte) :
    (ethInfo (ownHeader da sa tag et ++ r)).pay = (ownHeader da sa tag et).length := by
  have hlen : (beBytes 6 da ++ beBytes 6 sa).length = 12 := by simp [beBytes_length]
  have htag : (befld (ownHeader da sa tag et ++ r) 12 2 == 0x8100) = tag.isSome := by
    cases tag with
    | none =>
      have h := befld_append (beBytes 6 da ++ beBytes 6 sa) r 2 et hlen
      simp only [ownHeader, List.append_assoc, List.nil_append] at h ⊢
      rw [h]
      simpa using het
    | some v =>
      have h := befld_append (beBytes 6 da ++ beBytes 6 sa) (beBytes 2 v ++ (beBytes 2 et ++ r)) 2 0x8100 hlen
      simp only [ownHeader, List.append_assoc] at h ⊢
      rw [h]
      rfl
  rw [ownHeader_length]
  unfold ethInfo
  dsimp only
  rw [htag]

/-- One CMD_REPLY frame of port C. -/
def State.replyFrame (s : State) (x : Entry) (k : Key) : Frame :=
  s.pcFrame (ownHeader s.ports.pc.lastMac s.net.nodeMac s.ports.pc.lastTag s.net.etherType ++
    replyBytes s.nodeId s.ports.pc.lastKey (k.reply + 1) k.material [x]) .none none

theorem State.replyFrame_bytes (s : State) (x : Entry) (k : Key) :
    (s.replyFrame x k).bytes = ownHeader s.ports.pc.lastMac s.net.nodeMac s.ports.pc.lastTag s.net.etherType ++
      replyBytes s.nodeId s.ports.pc.lastKey (k.reply + 1) k.material [x] ∧ (s.replyFrame x k).bytes.length ≤ 150 := by
  obtain ⟨hlo, hhi⟩ := replyBytes_length s.nodeId s.ports.pc.lastKey (k.reply + 1) k.material x
  have hh := ownHeader_length s.ports.pc.lastMac s.net.nodeMac s.net.etherType s.ports.pc.lastTag
  have h14 : 14 ≤ (if s.ports.pc.lastTag.isSome then 18 else 14) ∧ (if s.ports.pc.lastTag.isSome then 18 else 14) ≤ 18 := by
    split <;> omega
  have hb : (s.replyFrame x k).bytes = ownHeader s.ports.pc.lastMac s.net.nodeMac s.ports.pc.lastTag s.net.etherType ++
      replyBytes s.nodeId s.ports.pc.lastKey (k.reply + 1) k.material [x] := by
    unfold State.replyFrame State.pcFrame
    dsimp only
    rw [List.length_append, Nat.sub_eq_zero_of_le (by omega), List.replicate_zero, List.append_nil]
  refine ⟨hb, ?_⟩
  rw [hb, List.length_append]
  omega

/-- The key with one more reply sent. -/
def Key.replied (k : Key) : Key := { k with reply := k.reply + 1, replyFloor := raiseFloor (k.reply + 1) k.replyFloor }

/-- The state with no entry that waits for a reply. -/
def State.noneHeld (s : State) : State := { s with ports := { s.ports with pc := { s.ports.pc with held := [] } } }

/-- A single entry that waits for a reply goes out in one frame. -/
theorem State.replyFlush_one {s : State} {x : Entry} {k : Key} (hs : s.pwr.service = true) (hheld : s.ports.pc.held = [x])
    (hk : lookup? s.ports.pc.keys s.ports.pc.lastKey = some k) :
    ∃ P h b, s.replyFlush = ({ s with ports := P, hlt := h, boot := b } : State).enqueue s.ports.pc.lastLane 6 (s.replyFrame x k) ∧
      P.pc.held = [] := by
  obtain ⟨P, h, b, hg, -⟩ := s.noneHeld.graded_rest (raiseFloor (k.reply + 1) k.replyFloor = k.replyFloor)
  have hsend : s.noneHeld.sendReply [x] =
      ({ s with ports := { P with pc := { s.noneHeld.ports.pc with keys := insertKey s.ports.pc.keys s.ports.pc.lastKey k.replied } },
                hlt := h, boot := b } : State).enqueue s.ports.pc.lastLane 6 (s.replyFrame x k) := by
    have hk' : lookup? s.noneHeld.ports.pc.keys s.noneHeld.ports.pc.lastKey = some k := hk
    unfold State.sendReply
    dsimp only
    rw [hk']
    dsimp only
    rw [hg]
    rfl
  refine ⟨{ P with pc := { s.noneHeld.ports.pc with keys := insertKey s.ports.pc.keys s.ports.pc.lastKey k.replied } }, h, b, ?_, rfl⟩
  unfold State.replyFlush
  rw [if_neg (not_bnot_of_true hs)]
  dsimp only
  rw [hheld, replyFrames_one]
  exact hsend

/-- Settles O29: what the checks make of the first frame at PC, and the one frame that an entry goes out in. -/
theorem controlFrames : Obligations.ControlFrames := by
  refine fun s => ⟨?_, ?_⟩
  · intro f n w k hcalm hs hr htake hmem hw het hty hid h1 h16 hop hlen hk hhi
    have hrun := State.cmdFrameRx_eq hs hr htake hmem het hty
    have hcalm' : ({ s with net := n.release f } : State).portsCalm := hcalm.congr rfl rfl
    by_cases hmac : (hmacSha256 k.material (slice w 0 (16 + befld w 6 2 * 64))).take 16 = slice w (16 + befld w 6 2 * 64) 16
    · rw [State.checkCmd_good (s := { s with net := n.release f }) hw hid h1 h16 hlen hk hhi hmac] at hrun
      obtain ⟨P, h, b, hacc, hfl, hda, hdh, hca, hdescs, hkeys⟩ :=
        State.acceptCmd_rest { s with net := n.release f } f (befld w 4 1) (befld w 6 2) (befld w 8 8) k
      rw [← hw] at hdescs
      have hfirst : ∀ d, ((List.range (befld w 6 2)).map (fun j => slice w (16 + 64 * j) 64)).head? = some d →
          definedOpcode (leNat (slice d 0 2)) = true := by
        obtain ⟨m, hm⟩ := Nat.exists_eq_add_of_le' h1
        intro d hd
        rw [hm, List.range_succ_eq_map] at hd
        obtain rfl : slice w 16 64 = d := by simpa using hd
        rw [slice_eq_take (by rw [slice_length]; omega), slice_eq_take (by omega), List.drop_zero, List.take_take]
        rw [slice_eq_take (by omega)] at hop
        exact hop
      have hstay : (State.acceptCmd { s with net := n.release f } f (befld w 4 1) (befld w 6 2) (befld w 8 8) k).portsCalm := by
        rw [hacc]
        exact State.portsCalm.of_descs hcalm' rfl hfl ⟨hda, hdh⟩ hdescs hfirst
      rw [State.serve_eq_self hstay, hacc] at hrun
      refine ⟨_, congrArg Host.Outcome.next hrun, rfl, ?_⟩
      rw [if_pos hmac]
      exact ⟨hca, hdescs, _, (congrArg (lookup? · (befld w 4 1)) hkeys).trans (lookup?_insertKey_self _ _ _), rfl, rfl⟩
    · rw [State.checkCmd_bad (s := { s with net := n.release f }) hw hid h1 h16 hlen hk hmac] at hrun
      obtain ⟨hrest, hdescs, hkeys, hget, hauth⟩ := State.refuseCmd_rest { s with net := n.release f } (befld w 4 1) 0
      have hstay : (State.refuseCmd { s with net := n.release f } (befld w 4 1) 0).portsCalm :=
        State.portsCalm.of_descs (ds := []) hcalm' (by rw [hrest]) (fun q => by
          unfold State.port
          rw [hget]
          exact ⟨rfl, rfl⟩) (by
          unfold State.port
          rw [hget]
          exact ⟨rfl, rfl⟩) (hdescs.trans (List.append_nil _).symm) nofun
      rw [State.serve_eq_self hstay] at hrun
      refine ⟨_, congrArg Host.Outcome.next hrun, by rw [hrest], ?_⟩
      rw [if_neg hmac]
      exact ⟨congrArg PortS.avail (hget .C), hauth, hkeys⟩
  · intro k x tm hs hheld hk hl8 hup hin het hd hadm hord
    obtain ⟨hbytes, hlen⟩ := (s.at_ tm).replyFrame_bytes x k
    obtain ⟨P, h, b, hrun, hempty⟩ := State.replyFlush_one (s := s.at_ tm) hs hheld hk
    have hadm' := hadm ((s.at_ tm).replyFrame x k) hlen
    obtain ⟨n, hn, -, hqs⟩ := State.enqueue_waits (s := { s.at_ tm with ports := P, hlt := h, boot := b })
      (f := (s.at_ tm).replyFrame x k) hd hup hin hadm' hord
    refine ⟨_, { (s.at_ tm).replyFrame x k with queue := 6, cut := false }, congrArg Host.Outcome.next (hrun.trans hn), hempty, ?_, ?_⟩
    · show (n.queue s.ports.pc.lastLane 6).frames = _
      rw [Net.queue_of_queues hqs]
      unfold Net.queued
      rw [Net.setQueue_queue _ _ (by omega) (by decide), if_pos ⟨rfl, rfl⟩]
      rfl
    · show ((s.at_ tm).replyFrame x k).bytes.drop (ethInfo ((s.at_ tm).replyFrame x k).bytes).pay = _
      rw [hbytes, ethInfo_ownHeader_pay _ _ (s.at_ tm).net.etherType _ het, List.drop_left]
      rfl

end Sys2Proof.Machine
end

section
/-!
SUPPORT. The time-stamp unit (11 R318 to R345): settles O30.
-/
namespace Sys2Proof.Machine
-- Proofs checked one at a time, which bounds the memory that the whole text takes.
set_option Elab.async false

/-! Timebase, snapshot, PPS_OUT, calibration, announce receipt. -/

theorem answers_timeGet {s : State} {e : Env} {c : CmdInfo} (hm : s.meets (.timeGet e) c) :
    s.answers (.timeGet e) c .ok 0
      (resBytes ((s.ts.tb.tick s.now).fields ++ [(8, s.per.mediaTime)] ++ s.ts.boundary.fields)) s :=
  State.answers_of_run hm (fun _ _ _ => rfl) (hlen := by simp [resBytes, leBytes_length, Stamp.fields])

theorem State.tsSnap_eq {s : State} {f : Requester} (tm : Nat) (hd : s.domOn 2 = true) (hr : s.reaches f = true) :
    exec (.tsSnap f tm) s = .next { s with
      now := max s.now tm, ts := { s.ts with snap := s.ts.tb.tick (max s.now tm), snapSeq := (s.ts.snapSeq + 1) % 256 } } := by
  have hr' : (s.at_ tm).reaches f = true := hr
  have hd' : (s.at_ tm).domOn 2 = true := hd
  show Host.Outcome.next ((s.at_ tm).byReq (some f) _) = _
  simp only [State.byReq, hr', hd', if_true]
  rfl

/-- From its reset the timebase counts the ns of the clock. -/
theorem Timebase.tick_reset {tm : Nat} (h : tm < 10 ^ 18) :
    Timebase.tick ⟨0, 0, 0, 2 ^ 48, 0, []⟩ tm = ⟨tm / 10 ^ 9, tm % 10 ^ 9, 0, tm * 65536 % 2 ^ 64, 0⟩ := by
  have hval : ((0 : Int) + (((tm - 0) * 2 ^ 48 : Nat) : Int)) / 2 ^ 32 = ((tm * 65536 : Nat) : Int) := by
    push_cast
    omega
  unfold Timebase.tick Timebase.advance Timebase.ran
  rw [if_pos (Nat.zero_le tm)]
  dsimp only
  rw [hval]
  have hsec : (((tm * 65536 : Nat) : Int) / (1000000000 * 65536)).toNat % 2 ^ 64 = tm / 10 ^ 9 := by omega
  have hns : ((((tm * 65536 : Nat) : Int) / 65536) % 1000000000).toNat = tm % 10 ^ 9 := by omega
  have hfrac : (((tm * 65536 : Nat) : Int) % 65536).toNat = 0 := by omega
  have hres : (0 + (tm - 0) * 2 ^ 48) / 2 ^ 32 % 2 ^ 64 = tm * 65536 % 2 ^ 64 := by omega
  rw [hsec, hns, hfrac, hres]

theorem State.ppsRise_on {s : State} {tm : Nat} (h : s.now ≤ tm) (he : s.ts.ppsEn = true)
    (hns : (s.ts.tb.tick tm).ns ≤ 2 ∨ 999999998 ≤ (s.ts.tb.tick tm).ns) (hlast : ∀ u, s.ts.ppsLast = some u → u + 500000000 ≤ tm) :
    exec (.ppsOutEdge tm) s = .next { s with
      now := tm, ts := { s.ts with ppsLast := some tm, ppsUntil := tm + s.ts.ppsWidth * 10000 } } := by
  have hn : (decide ((s.ts.tb.tick tm).ns ≤ 2) || decide (999999998 ≤ (s.ts.tb.tick tm).ns)) = true := by simpa using hns
  have hat : s.at_ tm = { s with now := tm } := by
    unfold State.at_
    rw [Nat.max_eq_right h]
  show Host.Outcome.next ((s.at_ tm).ppsRise tm) = _
  rw [hat]
  unfold State.ppsRise
  dsimp only
  cases hl : s.ts.ppsLast with
  | none => simp [he, hn]
  | some u => simp [he, hn, hlast u hl]

theorem State.ppsRise_off {s : State} (he : s.ts.ppsEn = false) (tm : Nat) :
    exec (.ppsOutEdge tm) s = .next { s with now := max s.now tm } := by
  show Host.Outcome.next ((s.at_ tm).ppsRise tm) = _
  unfold State.ppsRise
  dsimp only
  rw [if_neg (by simp [he])]
  rfl

theorem State.setTsLane_tsLane_self (s : State) {i : Nat} (hi : i < 8) (x : TsLane) : (s.setTsLane i x).tsLane i = x := by
  rw [State.setTsLane_tsLane, if_pos ⟨rfl, hi⟩]

theorem State.setTsLane_tsLane_other (s : State) {i j : Nat} (h : j ≠ i) (x : TsLane) : (s.setTsLane i x).tsLane j = s.tsLane j := by
  rw [State.setTsLane_tsLane, if_neg (fun e => h e.1.symm)]

theorem State.calTimeout_locked {s : State} {i : Nat} (h : (s.lane i).pcsLock = true) :
    s.calTimeout i = (s.setTsLane i { s.tsLane i with stampValid := false }).raise 0x0406 (laneZone i) i (s.lane i).mode := if_pos h

theorem State.calComplete_locked {s : State} {i : Nat} (h : (s.lane i).pcsLock = true) :
    s.calComplete i = (s.setTsLane i { s.tsLane i with stampValid := true }).endCond 0x0406 (laneZone i) i := if_pos h

/-- The lane of a port whose announce receipt timer has run out, in state `st`. -/
def State.unannounced (s : State) (i st : Nat) : TsLane :=
  { s.tsLane i with announceTimeouts := satAdd 32 (s.tsLane i).announceTimeouts 1, portState := st, offset := 0 }

theorem State.announceTimeout_slave {s : State} {i : Nat} (hc : s.pwr.cpRunning = true) (he : (s.tsLane i).cfg.ptpEn = true)
    (hst : (s.tsLane i).portState = 8 ∨ (s.tsLane i).portState = 9) :
    s.announceTimeout i = s.fresh.2.setTsLane i (s.unannounced i (if s.fresh.1.getLsbD 0 then 4 else 6)) := by
  have hst' : (decide ((s.tsLane i).portState = 8) || decide ((s.tsLane i).portState = 9)) = true := by simpa using hst
  unfold State.announceTimeout
  dsimp only
  rw [if_neg (by simp [hc, he]), if_pos hst']
  rfl

/-! PTP messages. -/

theorem rxCheck_none_length {f : RxFrame} {m : Nat} (h : rxCheck f m = none) : f.bytes.length + 4 ≤ m := by
  unfold rxCheck at h
  dsimp only at h
  by_contra hlt
  simp only [show m < f.bytes.length + 4 by omega, if_true] at h
  repeat' split at h
  all_goals cases h

theorem wr_rd_self {α : Type} [Inhabited α] {n : Nat} (v : Vector α n) (i : Nat) : wr v i (rd v i) = v := by
  ext j hj
  by_cases h : i = j
  · subst h
    simp [wr, rd, hj]
  · simp [wr, h]

/-- A switch in which no PTP message waits at PC stays as it is when those are taken. -/
theorem Net.dropPtp_of_none {n : Net} (h : ∀ q, q < 8 → ∀ g ∈ (n.queue 9 q).frames, g.ptp = false) : n.dropPtp = n := by
  have hstep : ∀ q, q < 8 → (let x := n.queue 9 q
      let m := n.setQueue 9 q { x with frames := x.frames.filter (fun g => !g.ptp) }
      (x.frames.filter (·.ptp)).foldl (fun m g => m.release g) m) = n := fun q hq => by
    have hkeep : (n.queue 9 q).frames.filter (fun g => !g.ptp) = (n.queue 9 q).frames :=
      List.filter_eq_self.mpr fun g hg => by simp [h q hq g hg]
    have hnone : (n.queue 9 q).frames.filter (·.ptp) = [] :=
      List.filter_eq_nil_iff.mpr fun g hg => by simp [h q hq g hg]
    dsimp only
    rw [hkeep, hnone]
    have hrow : wr (n.queues[9]?.getD (Vector.replicate 8 (Queue.reset 0))) q (n.queue 9 q) =
        n.queues[9]?.getD (Vector.replicate 8 (Queue.reset 0)) := wr_rd_self _ q
    have hcol : wr n.queues 9 (n.queues[9]?.getD (Vector.replicate 8 (Queue.reset 0))) = n.queues := by
      ext j hj
      by_cases h9 : 9 = j
      · subst h9
        simp [wr]
      · simp [wr, h9]
    show ({ n with queues := wr n.queues 9 (wr _ q (n.queue 9 q)) } : Net) = n
    rw [hrow, hcol]
  have hfold : ∀ l : List Nat, (∀ q ∈ l, q < 8) → l.foldl (fun m q =>
      let x := m.queue 9 q
      let k := m.setQueue 9 q { x with frames := x.frames.filter (fun g => !g.ptp) }
      (x.frames.filter (·.ptp)).foldl (fun m g => m.release g) k) n = n := fun l hl => by
    induction l with
    | nil => rfl
    | cons q l ih =>
      rw [List.foldl_cons, hstep q (hl q (List.mem_cons_self ..))]
      exact ih fun p hp => hl p (List.mem_cons_of_mem _ hp)
  exact hfold (List.range 8) fun q => List.mem_range.mp

/-- With no PTP message at PC an identified message is received as a frame. -/
theorem State.ptpMessage_eq {s : State} (hc : s.pwr.cpRunning = true) (h : ∀ q, q < 8 → ∀ g ∈ (s.net.queue 9 q).frames, g.ptp = false)
    (i : Nat) (f : RxFrame) (fw : Option PtpFw) : s.ptpMessage i f fw = s.frameRx i f fw := by
  have hnone : (((s.net.queues[9]?.getD (Vector.replicate 8 (Queue.reset 0))).toList.flatMap (·.frames)).filter (·.ptp)) = [] := by
    refine List.filter_eq_nil_iff.mpr fun g hg => ?_
    obtain ⟨x, hx, hgx⟩ := List.mem_flatMap.mp hg
    obtain ⟨q, hq, rfl⟩ := List.getElem_of_mem hx
    have hq8 : q < 8 := by simpa using hq
    have hfr : (s.net.queue 9 q).frames = ((s.net.queues[9]?.getD (Vector.replicate 8 (Queue.reset 0))).toList[q]).frames := by
      unfold Net.queue rd
      simp [hq8]
    rw [h q hq8 g (hfr ▸ hgx)]
    exact Bool.false_ne_true
  unfold State.ptpMessage
  dsimp only
  rw [if_pos hc, hnone, Net.dropPtp_of_none h]
  rfl

theorem State.learn_rest (s : State) (x : EthInfo) (i : Nat) : ∃ m k, s.learn x i = { s with net := { s.net with macTbl := m, learnFull := k } } := by
  unfold State.learn
  dsimp only
  split
  · exact ⟨_, _, rfl⟩
  split
  · exact ⟨_, s.net.learnFull, rfl⟩
  split
  · exact ⟨s.net.macTbl, _, rfl⟩
  · exact ⟨_, s.net.learnFull, rfl⟩

theorem State.learn_lane (s : State) (x : EthInfo) (i j : Nat) : (s.learn x i).lane j = s.lane j := by
  obtain ⟨m, k, h⟩ := s.learn_rest x i
  rw [h]
  rfl

/-- The firmware has read the first entries of the report FIFO. -/
theorem State.readReports_eq (s : State) (i n : Nat) :
    ∃ b, s.readReports i n = s.setTsLane i { s.tsLane i with fifo := (s.tsLane i).fifo.drop n, lastRead := b } := by
  unfold State.readReports
  dsimp only
  split
  · next hn =>
    have hdrop : (s.tsLane i).fifo.drop n = (s.tsLane i).fifo := by
      rcases List.take_eq_nil_iff.mp (List.getLast?_eq_none_iff.mp hn) with h | h
      · rw [h, List.drop_zero]
      · rw [h, List.drop_nil]
    refine ⟨(s.tsLane i).lastRead, ?_⟩
    rw [hdrop]
    show s = { s with ts := { s.ts with lanes := wr s.ts.lanes i (rd s.ts.lanes i) } }
    rw [wr_rd_self]
  · exact ⟨_, rfl⟩

/-! What the handling of a message does to its lane. -/

/-- The state after an event message has counted. -/
def State.evented (s : State) (i : Nat) : State :=
  s.setTsLane i { s.tsLane i with rxEvent := satAdd 32 (s.tsLane i).rxEvent 1 }

/-- A Sync message in OC and BC mode goes to the control processor. -/
theorem State.ptpHandle_sync {s : State} {i off : Nat} {f : Frame} (hmt : befld f.bytes off 1 % 16 = 0) (hmode : s.ts.ptp.mode ≤ 2)
    (st : Stamp) (fw : Option PtpFw) :
    s.ptpHandle i off f st fw false = (s.evented i).ptpToPc i { f with stamp := some st } off fw := by
  have hpc : (decide ((s.evented i).ts.ptp.mode ≤ 2) || decide ((ethInfo f.bytes).da = 0x0180C200000E) ||
      decide ((ethInfo f.bytes).da = (s.evented i).net.nodeMac)) = true := by
    rw [decide_eq_true (show (s.evented i).ts.ptp.mode ≤ 2 from hmode)]
    rfl
  unfold State.ptpHandle
  rw [hmt]
  exact if_pos hpc

/-- A Delay_Req in P2P_TC mode is dropped and counted. -/
theorem State.ptpHandle_drop {s : State} {i off : Nat} {f : Frame} (hmt : befld f.bytes off 1 % 16 = 1) (hmode : s.ts.ptp.mode = 4)
    (hda : (ethInfo f.bytes).da ≠ 0x0180C200000E) (hno : (ethInfo f.bytes).da ≠ s.net.nodeMac) (st : Stamp) (fw : Option PtpFw) :
    s.ptpHandle i off f st fw false = (s.evented i).setTsLane i { (s.evented i).tsLane i with
      e2eDrop := satAdd 32 ((s.evented i).tsLane i).e2eDrop 1 } := by
  have hmode' : (s.evented i).ts.ptp.mode = 4 := hmode
  have hpc : ¬ (decide ((s.evented i).ts.ptp.mode ≤ 2) || decide ((ethInfo f.bytes).da = 0x0180C200000E) ||
      decide ((ethInfo f.bytes).da = (s.evented i).net.nodeMac)) = true := by
    have hno' : (ethInfo f.bytes).da ≠ (s.evented i).net.nodeMac := hno
    simp [hmode', hda, hno']
  unfold State.ptpHandle
  rw [hmt]
  exact (if_neg hpc).trans (if_pos hmode')

/-- A message of another domain is discarded. -/
theorem State.ptpToPc_other {s : State} {i off : Nat} {f : Frame} (hc : s.pwr.cpRunning = true) (hmode : s.ts.ptp.mode ≤ 2)
    (hdom : befld f.bytes (off + 4) 1 ≠ s.ts.ptp.domain) (fw : Option PtpFw) : s.ptpToPc i f off fw = s := by
  unfold State.ptpToPc
  rw [if_neg (not_bnot_of_true hc), if_pos (by simp [hmode, hdom])]

/-- A Sync message of the domain is the firmware's. -/
theorem State.ptpToPc_sync {s : State} {i off : Nat} {f : Frame} (hc : s.pwr.cpRunning = true) (hh : s.ptpHeader i f.bytes = some off)
    (hmt : befld f.bytes off 1 % 16 = 0) (hdom : befld f.bytes (off + 4) 1 = s.ts.ptp.domain) (fw : Option PtpFw) :
    s.ptpToPc i f off fw = s.ptpFirmware i fw := by
  have hnote : s.noteReq i f = s := by
    unfold State.noteReq
    rw [hh]
    cases f.stamp with
    | none => rfl
    | some st => exact if_neg (by rw [hmt]; decide)
  unfold State.ptpToPc
  rw [if_neg (not_bnot_of_true hc), if_neg (by simp [hdom]), hnote]
  dsimp only
  rw [if_neg (by rw [hmt]; simp)]

/-- What the firmware makes of a message. -/
theorem State.ptpFirmware_some (s : State) {i : Nat} (hi : i < 8) (w : PtpFw) :
    ∃ x : TsLane, (∀ j, (s.ptpFirmware i (some w)).tsLane j = if i = j then x else s.tsLane j) ∧
      x.rxEvent = (s.tsLane i).rxEvent ∧ x.portState = (if 3 ≤ s.ts.ptp.mode then 0 else w.portState % 10) ∧
      x.meanDelay = w.meanDelay ∧ x.offset = (if w.portState = 9 then w.offset else 0) ∧ x.fifo = (s.tsLane i).fifo.drop w.reads ∧
      ((s.ptpFirmware i (some w)).ref.c i).rxQl = classLevel w.clockClass ∧ (s.ptpFirmware i (some w)).net = s.net := by
  obtain ⟨b, hb⟩ := s.readReports_eq i w.reads
  have hlane : (s.readReports i w.reads).tsLane i = { s.tsLane i with fifo := (s.tsLane i).fifo.drop w.reads, lastRead := b } := by
    rw [hb, State.setTsLane_tsLane_self s hi]
  have hother : ∀ j, j ≠ i → (s.readReports i w.reads).tsLane j = s.tsLane j := fun j hj => by
    rw [hb, State.setTsLane_tsLane_other s hj]
  have hnet : (s.readReports i w.reads).net = s.net := by rw [hb]; rfl
  refine ⟨{ (s.readReports i w.reads).tsLane i with
      portState := if decide (3 ≤ s.ts.ptp.mode) then 0 else w.portState % 10
      meanDelay := w.meanDelay
      linkDelay := if (s.readReports i w.reads).peerDelay i then w.meanDelay % 2 ^ 32 else ((s.readReports i w.reads).tsLane i).linkDelay
      offset := if w.portState == 9 then w.offset else 0
      clockClass := w.clockClass }, fun j => ?_, ?_, ?_, rfl, ?_, ?_, ?_, hnet⟩
  · show ((s.readReports i w.reads).setTsLane i _).tsLane j = _
    by_cases hj : i = j
    · rw [← hj, State.setTsLane_tsLane_self _ hi, if_pos rfl]
    · rw [State.setTsLane_tsLane_other _ (Ne.symm hj), if_neg hj]
      exact hother j (Ne.symm hj)
  · have h := congrArg TsLane.rxEvent hlane
    exact h
  · exact if_congr (by simp) rfl rfl
  · exact if_congr (by simp) rfl rfl
  · have h := congrArg TsLane.fifo hlane
    exact h
  · have h := rd_wr (s.readReports i w.reads).ref.cand i i { rd (s.readReports i w.reads).ref.cand i with rxQl := classLevel w.clockClass }
    rw [if_pos ⟨rfl, by omega⟩] at h
    exact (congrArg Cand.rxQl h).trans rfl

/-! An identified message on an UP lane. -/

section
variable {s : State} {i : Nat} {f : RxFrame} {off : Nat}

/-- The state in which a good frame has been learned from. -/
def State.learned (s : State) (i : Nat) (f : RxFrame) : State := (s.goodFrame i f).learn (ethInfo f.bytes) i

theorem State.learned_rest (hi : i < 8) : (s.learned i f).ts = s.ts ∧ (s.learned i f).pwr = s.pwr ∧ (s.learned i f).ref = s.ref ∧
    (s.learned i f).net.queues = s.net.queues ∧ (s.learned i f).net.nodeMac = s.net.nodeMac ∧
    (s.learned i f).lane i = (s.goodFrame i f).lane i := by
  have hu := State.Tallied.goodFrame hi s f
  obtain ⟨m, k, hl⟩ := (s.goodFrame i f).learn_rest (ethInfo f.bytes) i
  have href : (s.goodFrame i f).ref = s.ref := by rw [hu.rest]
  have hq : (s.goodFrame i f).net.queues = s.net.queues := by rw [hu.net]
  have hn : (s.goodFrame i f).net.nodeMac = s.net.nodeMac := by rw [hu.net]
  have hts := hu.ts
  have hpwr := hu.pwr
  have hlane := (s.goodFrame i f).learn_lane (ethInfo f.bytes) i i
  refine ⟨?_, ?_, ?_, ?_, ?_, hlane⟩
  all_goals
    unfold State.learned
    rw [hl]
    assumption

theorem State.frameOf_bytes (h : rxCheck f (s.lane i).cfg.maxFrame = none) : (s.frameOf i f).bytes = f.bytes :=
  List.take_of_length_le (by have := rxCheck_none_length h; omega)

theorem State.ptpHeader_congr {s u : State} {i : Nat} (hc : (u.tsLane i).cfg = (s.tsLane i).cfg)
    (hv : (u.tsLane i).stampValid = (s.tsLane i).stampValid) (hm : u.ts.ptp = s.ts.ptp) (b : List Byte) :
    u.ptpHeader i b = s.ptpHeader i b := by
  unfold State.ptpHeader
  dsimp only
  rw [hc, hv, hm]

/-- The state in which an event message of an identified frame has counted. -/
def State.counted (s : State) (i : Nat) (f : RxFrame) : State := (s.learned i f).evented i

theorem State.counted_tsLane (hi : i < 8) (j : Nat) : (s.counted i f).tsLane j =
    if i = j then { s.tsLane i with rxEvent := satAdd 32 (s.tsLane i).rxEvent 1 } else s.tsLane j := by
  have htl : ∀ j, (s.learned i f).tsLane j = s.tsLane j := fun j => by
    unfold State.tsLane
    rw [(State.learned_rest hi).1]
  unfold State.counted State.evented
  rw [State.setTsLane_tsLane, htl, htl]
  simp [hi]

theorem State.counted_ptpHeader (hi : i < 8) (b : List Byte) : (s.counted i f).ptpHeader i b = s.ptpHeader i b := by
  have hl := (State.counted_tsLane (s := s) (f := f) hi i).trans (if_pos rfl)
  refine State.ptpHeader_congr (by rw [hl]) (by rw [hl]) ?_ b
  exact (congrArg Ts.ptp (State.learned_rest (s := s) (f := f) hi).1 :)

/-- An identified message that is received is handled. -/
theorem State.ptpMessageRx_eq (hi : i < 8) (hst : (s.lane i).st = .up) (hd : s.domOn 5 = true)
    (hc : rxCheck f (s.lane i).cfg.maxFrame = none) (ht : f.t ≤ s.now) (he : f.tEnd ≤ s.now) (hh : s.heartbeatOf f.bytes = none)
    (hp : s.ptpHeader i f.bytes = some off) (hcp : s.pwr.cpRunning = true) (h1 : (ethInfo f.bytes).da ≠ 0x0180C2000001)
    (h2 : (ethInfo f.bytes).da ≠ 0x0180C2000002) (hno : ∀ q, q < 8 → ∀ g ∈ (s.net.queue 9 q).frames, g.ptp = false) (fw : Option PtpFw) :
    exec (.ptpMessageRx i f fw) s =
      .next ((s.learned i f).ptpHandle i off (s.frameOf i f) (s.ts.tb.stamp f.t f.sub (-(s.calOf i).1)) fw false) := by
  have hat : (s.at_ f.t).at_ f.tEnd = s := by
    unfold State.at_
    rw [Nat.max_eq_left ht, Nat.max_eq_left he]
  have hb := State.frameOf_bytes hc
  have hp' : (s.learned i f).ptpHeader i (s.frameOf i f).bytes = some off := by
    unfold State.ptpHeader State.tsLane at hp ⊢
    rw [(State.learned_rest hi).1, hb]
    exact hp
  show Host.Outcome.next (((s.at_ f.t).at_ f.tEnd).ptpMessage i f fw) = _
  rw [hat, State.ptpMessage_eq hcp hno, State.frameRx_classify hi hst hc hd hh]
  show Host.Outcome.next ((s.learned i f).classify i (s.frameOf i f) _ fw false) = _
  unfold State.classify
  dsimp only
  rw [hp', hb, if_neg h1, if_neg h2]

end

/-- Settles O30: each row by what it does to its lane of the unit; a message by the way that the firmware or its drop takes. -/
theorem timeUnit : Obligations.TimeUnit := by
  refine ⟨fun s => ⟨fun e c hm => answers_timeGet hm, fun f tm hd hr => State.tsSnap_eq tm hd hr,
    fun tm htb h => by rw [htb]; exact Timebase.tick_reset h, fun tm h he hns hlast => State.ppsRise_on h he hns hlast,
    fun tm he => State.ppsRise_off he tm, ?_, ?_, ?_⟩, ?_⟩
  · intro lane tm hl hp
    have hself := State.setTsLane_tsLane_self (s.at_ tm) hl { s.tsLane lane with stampValid := false }
    refine ⟨_, congrArg Host.Outcome.next (State.calTimeout_locked (s := s.at_ tm) hp), congrArg TsLane.stampValid hself,
      State.raised_raise (u := (s.at_ tm).setTsLane lane { s.tsLane lane with stampValid := false }) rfl _ _ _ _,
      fun j hj => State.setTsLane_tsLane_other (s.at_ tm) hj _⟩
  · intro lane tm hl hp
    have hself := State.setTsLane_tsLane_self (s.at_ tm) hl { s.tsLane lane with stampValid := true }
    exact ⟨_, congrArg Host.Outcome.next (State.calComplete_locked (s := s.at_ tm) hp), congrArg TsLane.stampValid hself,
      State.hasCond_endCond_self _ _ _ _, fun j hj => State.setTsLane_tsLane_other (s.at_ tm) hj _⟩
  · intro lane hl hc he hst
    have hself := State.setTsLane_tsLane_self s.fresh.2 hl (s.unannounced lane (if s.fresh.1.getLsbD 0 then 4 else 6))
    refine ⟨_, congrArg Host.Outcome.next (State.announceTimeout_slave hc he hst), ?_, congrArg TsLane.offset hself,
      congrArg TsLane.announceTimeouts hself, fun j hj => State.setTsLane_tsLane_other s.fresh.2 hj _⟩
    rw [hself]
    unfold State.unannounced
    dsimp only
    split
    · exact Or.inl rfl
    · exact Or.inr rfl
  · intro s lane f off hl hst hd hc hfc hfu ht he hh hp hcp h1 h2 hno
    have hrun := State.ptpMessageRx_eq hl hst hd hc ht he hh hp hcp h1 h2 hno
    obtain ⟨hts, hpw, href, hq, hmac, hlane⟩ := State.learned_rest (s := s) (f := f) hl
    have hb := State.frameOf_bytes hc
    have hself := (State.counted_tsLane (s := s) (f := f) hl lane).trans (if_pos rfl)
    have hother : ∀ j, j ≠ lane → (s.counted lane f).tsLane j = s.tsLane j := fun j hj =>
      (State.counted_tsLane hl j).trans (if_neg (Ne.symm hj))
    have hcts : (s.counted lane f).ts.ptp = s.ts.ptp := (congrArg Ts.ptp hts :)
    have hccp : (s.counted lane f).pwr.cpRunning = true := (congrArg Pwr.cpRunning hpw :).trans hcp
    have hpc : ∀ fw, s.ts.ptp.mode ≤ 2 → befld f.bytes off 1 % 16 = 0 →
        (s.learned lane f).ptpHandle lane off (s.frameOf lane f) (s.ts.tb.stamp f.t f.sub (-(s.calOf lane).1)) fw false =
        (s.counted lane f).ptpToPc lane { s.frameOf lane f with
          stamp := some (s.ts.tb.stamp f.t f.sub (-(s.calOf lane).1)) } off fw := fun fw hm hmt =>
      State.ptpHandle_sync (by rw [hb]; exact hmt) (by rw [hts]; exact hm) _ fw
    refine ⟨?_, ?_, ?_⟩
    · intro w hm1 hm2 hmt hdom hps
      have heq := (hpc (some w) hm2 hmt).trans (State.ptpToPc_sync hccp
        (by dsimp only; rw [hb, State.counted_ptpHeader hl, hp]) (by dsimp only; rw [hb]; exact hmt)
        (by dsimp only; rw [hb, hcts]; exact hdom) (some w))
      obtain ⟨x, hx, hev, hport, hmean, hoff, hfifo, hql, hnet⟩ := (s.counted lane f).ptpFirmware_some hl w
      have hx0 := (hx lane).trans (if_pos rfl)
      rw [hself] at hev hfifo
      rw [hcts, if_neg (by omega), Nat.mod_eq_of_lt (by omega)] at hport
      refine ⟨_, (hrun (some w)).trans (congrArg _ heq), by rw [hx0, hev], by rw [hx0, hport], by rw [hx0, hmean], by rw [hx0, hoff],
        by rw [hx0, hfifo], hql, ?_, ?_, fun j hj => ?_⟩
      · have hl0 : ((s.counted lane f).ptpFirmware lane (some w)).lane lane = (s.learned lane f).lane lane := by
          unfold State.lane
          rw [hnet]
          rfl
        rw [hl0, hlane]
        exact s.goodFrame_counter hl f
      · rw [hnet]
        exact hq
      · exact ((hx j).trans (if_neg (Ne.symm hj))).trans (hother j hj)
    · intro fw hm1 hm2 hmt hdom
      have heq := (hpc fw hm2 hmt).trans (State.ptpToPc_other hccp (by rw [hcts]; exact hm2)
        (by dsimp only; rw [hb, hcts]; exact hdom) fw)
      exact ⟨_, (hrun fw).trans (congrArg _ heq), by rw [hself], by rw [hself], by rw [hself], href, hq⟩
    · intro hm4 hmt hda hnode fw
      have heq := State.ptpHandle_drop (s := s.learned lane f) (i := lane) (off := off) (f := s.frameOf lane f) (by rw [hb]; exact hmt)
        (by rw [hts]; exact hm4) (by rw [hb]; exact hda) (by rw [hb, hmac]; exact hnode) (s.ts.tb.stamp f.t f.sub (-(s.calOf lane).1)) fw
      have hdrop := State.setTsLane_tsLane_self (s.counted lane f) hl { (s.counted lane f).tsLane lane with
        e2eDrop := satAdd 32 ((s.counted lane f).tsLane lane).e2eDrop 1 }
      refine ⟨_, (hrun fw).trans (congrArg _ heq), ?_, ?_, ?_, hq, fun j hj => (State.setTsLane_tsLane_other _ hj _).trans (hother j hj)⟩
      · exact (congrArg TsLane.rxEvent hdrop :).trans (by rw [hself])
      · exact (congrArg TsLane.e2eDrop hdrop :).trans (by rw [hself])
      · exact (congrArg TsLane.portState hdrop :).trans (by rw [hself])

end Sys2Proof.Machine
end

section
/-!
SUPPORT. Settings of the time-stamp unit and the status of a lane (11 R322, R328, R338 to R345): settles O31.
-/
namespace Sys2Proof.Machine

section
variable {s : State} {e : Env} {c : CmdInfo} {lane : Nat}

/-! Signed result fields. -/

theorem sfld_eq (n : Nat) (v : Int) : sfld n v = (n, (BitVec.ofInt (8 * n) v).toNat) := by
  unfold sfld
  rw [BitVec.toNat_ofInt]
  norm_cast

theorem sfld_calArg {v : Nat} (h : v < 2 ^ 32) : sfld 4 (calArg v) = (4, v) := by
  rw [sfld_eq]
  unfold calArg
  rw [BitVec.ofInt_toInt, BitVec.toNat_ofNat, Nat.mod_eq_of_lt h]

/-! PTP_CONFIG. -/

/-- A lane under a new setting of the unit: a transparent clock has no port states. -/
def TsLane.underMode (mode : Nat) (l : TsLane) : TsLane :=
  if 3 ≤ mode then { l with portState := 0, offset := 0 } else if l.portState = 0 then { l with portState := 1 } else l

/-- The state with a new setting of the unit. -/
def State.ptpSet (s : State) (p : PtpCfg) : State := { s with ts := { s.ts with ptp := p, lanes := s.ts.lanes.map (TsLane.underMode p.mode) } }

theorem State.ptpSet_tsLane (p : PtpCfg) {j : Nat} (hj : j < 8) : (s.ptpSet p).tsLane j = (s.tsLane j).underMode p.mode := by
  simp [State.ptpSet, State.tsLane, rd, hj]

theorem TsLane.underMode_cfg (mode : Nat) (l : TsLane) : (l.underMode mode).cfg = l.cfg := by
  unfold TsLane.underMode
  split
  · rfl
  · split <;> rfl

theorem finPtpConfig_eq (p : PtpCfg) : finPtpConfig p false s =
    (.done .ok 0 (resBytes [(1, p.mode), (1, p.profile), (1, p.domain), (1, p.prio1), (1, p.prio2), (1, b2n p.twoStep)]), s.ptpSet p) := by
  have hl : ∀ l : TsLane, (if decide (3 ≤ p.mode) then { l with portState := 0, offset := 0 } else
      if l.portState = 0 then { l with portState := 1 } else l) = l.underMode p.mode := fun l =>
    if_congr (by simp) rfl rfl
  unfold finPtpConfig
  simp only [hl]
  rfl

theorem answers_ptpConfig {mode profile domain p1 p2 : Nat} {two : Bool}
    (hm : s.meets (.ptpConfig e mode profile domain p1 p2 two false) c) (hmode : mode ≤ 4) (hprof : profile ≤ 3) (hdom : domain ≤ 127)
    (h1 : p1 ≤ 255) (h2 : p2 ≤ 255) (hoc : mode ≠ 1 ∨ ((List.range 8).filter (fun j => (s.tsLane j).cfg.ptpEn)).length ≤ 1) :
    s.answers (.ptpConfig e mode profile domain p1 p2 two false) c .ok 0
      (resBytes [(1, mode), (1, profile), (1, domain), (1, p1), (1, p2), (1, if two then 1 else 0)])
      (s.ptpSet ⟨mode, profile, domain, p1, p2, two⟩) := by
  refine State.answers_of_run hm fun P f _ => ?_
  have ha : ¬ (decide (4 < mode) || decide (3 < profile) || decide (127 < domain) || decide (255 < p1) || decide (255 < p2)) = true := by
    simp only [Bool.or_eq_true, decide_eq_true_eq]
    omega
  have hb : ¬ (decide (mode = 1) && decide (1 < ((List.range 8).filter (fun i => (s.tsLane i).cfg.ptpEn)).length)) = true := by
    simp only [Bool.and_eq_true, decide_eq_true_eq]
    omega
  refine (if_neg ha).trans ((if_neg hb).trans ((if_neg Bool.false_ne_true).trans ?_))
  rw [finPtpConfig_eq]
  cases two <;> rfl

/-! PTP_PORT_CONFIG. -/

theorem answers_ptpPortConfig {cfg : PtpPortCfg} (hm : s.meets (.ptpPortConfig e lane cfg false) c) (hl : lane ≤ 7)
    (hr : profileRange s.ts.ptp.profile cfg = true) (hp : s.ts.ptp.profile ≤ 1 ∨ (cfg.mapEth = false ∧ cfg.mapIpv6 = false))
    (hoc : s.ts.ptp.mode ≠ 1 ∨ cfg.ptpEn = false ∨ ∀ j, j < 8 → j ≠ lane → (s.tsLane j).cfg.ptpEn = false)
    (hd : s.domOn (laneDomain lane) = true) :
    s.answers (.ptpPortConfig e lane cfg false) c .ok 0
      (resBytes [(1, lane), (1, b2n cfg.ptpEn), (1, packBits [(1, b2n cfg.mapEth), (1, b2n cfg.mapIpv4), (1, b2n cfg.mapIpv6)]),
        (1, b2n cfg.p2p), (1, b2n cfg.hybrid), (1, (BitVec.ofInt 8 cfg.logSync).toNat), (1, (BitVec.ofInt 8 cfg.logAnnounce).toNat),
        (1, cfg.announceTimeout), (1, (BitVec.ofInt 8 cfg.logMinDelay).toNat), (4, cfg.ipv4), (16, cfg.ipv6)])
      (finPtpPortConfig lane cfg false s).2 := by
  refine State.answers_of_run hm fun P f _ => ?_
  have ha : ¬ (decide (7 < lane) || !profileRange s.ts.ptp.profile cfg) = true := by simp [hl, hr]
  have hb : ¬ (decide (2 ≤ s.ts.ptp.profile) && (cfg.mapEth || cfg.mapIpv6)) = true := by
    rcases hp with h | ⟨h1, h2⟩
    · simp [show ¬ 2 ≤ s.ts.ptp.profile by omega]
    · simp [h1, h2]
  have hx : ¬ (cfg.ptpEn && decide (s.ts.ptp.mode = 1) && (List.range 8).any (fun i => i != lane && (s.tsLane i).cfg.ptpEn)) = true := by
    rcases hoc with h | h | h
    · simp [h]
    · simp [h]
    · have hany : (List.range 8).any (fun i => i != lane && (s.tsLane i).cfg.ptpEn) = false :=
        List.any_eq_false.mpr fun j hj => by
          by_cases hjl : j = lane
          · simp [hjl]
          · simp [h j (List.mem_range.mp hj) hjl]
      simp [hany]
  have hd' : ¬ (!s.domOn (laneDomain lane)) = true := not_bnot_of_true hd
  refine (if_neg ha).trans ((if_neg hb).trans ((if_neg hx).trans ((if_neg hd').trans ((if_neg Bool.false_ne_true).trans ?_))))
  unfold finPtpPortConfig
  simp only [sfld_eq]
  rfl

/-! TS_CAL_SET, PTP_STATUS, PPS_OUT_CONFIG. -/

theorem answers_tsCalSet {mode rx tx : Nat} (hm : s.meets (.tsCalSet e lane mode rx tx false) c) (hl : lane ≤ 7) (hmode : mode ≤ 2)
    (hrx : rx < 2 ^ 32) (htx : tx < 2 ^ 32) (hrx' : (calArg rx).natAbs ≤ 655360000) (htx' : (calArg tx).natAbs ≤ 655360000)
    (hd : s.domOn (laneDomain lane) = true) :
    s.answers (.tsCalSet e lane mode rx tx false) c .ok 0 (resBytes [(1, lane), (1, mode), (4, rx), (4, tx)])
      (finTsCalSet lane mode rx tx false s).2 := by
  refine State.answers_of_run hm fun P f _ => ?_
  have hok : ∀ v, v < 2 ^ 32 → (calArg v).natAbs ≤ 655360000 →
      (decide (v < 2 ^ 32) && withinI (-655360000) 655360000 (calArg v)) = true := fun v h h' => by
    simp only [withinI, Bool.and_eq_true, decide_eq_true_eq]
    omega
  have ha : ¬ (decide (7 < lane) || decide (2 < mode) || !(decide (rx < 2 ^ 32) && withinI (-655360000) 655360000 (calArg rx)) ||
      !(decide (tx < 2 ^ 32) && withinI (-655360000) 655360000 (calArg tx))) = true := by
    rw [hok rx hrx hrx', hok tx htx htx']
    simp [hl, hmode]
  have hd' : ¬ (!s.domOn (laneDomain lane)) = true := not_bnot_of_true hd
  refine (if_neg ha).trans ((if_neg hd').trans ((if_neg Bool.false_ne_true).trans ?_))
  unfold finTsCalSet
  simp only [sfld_calArg hrx, sfld_calArg htx]
  rfl

theorem answers_ptpStatus {clear : Bool} {l : TsLane} (hm : s.meets (.ptpStatus e lane clear) c) (hl : lane ≤ 7) (h : s.tsLane lane = l)
    (he : l.cfg.ptpEn = true) :
    s.answers (.ptpStatus e lane clear) c .ok 0
      (resBytes [(1, l.portState), (8, l.meanDelay), (8, (BitVec.ofInt 64 l.offset).toNat), (1, if l.stampValid then 1 else 0),
        (4, l.rxEvent), (4, l.txEvent), (4, l.reports), (4, l.reportLost), (4, l.tcCorrected), (4, l.e2eDrop), (4, l.corrSat),
        (4, l.delayReqDrop), (4, l.announceTimeouts)])
      (if clear then s.setTsLane lane { l with
        rxEvent := 0, txEvent := 0, reports := 0, reportLost := 0, tcCorrected := 0, e2eDrop := 0, corrSat := 0, delayReqDrop := 0, announceTimeouts := 0 } else s) := by
  subst h
  refine State.answers_of_run hm (fun P f _ => ?_) (hu := by split <;> rfl) (hw := by split <;> rfl) (htw := by split <;> rfl)
  refine (if_neg (Nat.not_lt.mpr hl)).trans ?_
  have he' : (({ s with ports := P } : State).tsLane lane).cfg.ptpEn = true := he
  have hv : b2n (s.tsLane lane).stampValid = if (s.tsLane lane).stampValid then 1 else 0 := by
    cases (s.tsLane lane).stampValid <;> rfl
  rw [State.ite_ports, ← hv, he']
  simp only [sfld_eq, if_true]
  rfl

theorem answers_ppsOutConfig {en : Bool} {width : Nat} (hm : s.meets (.ppsOutConfig e en width false) c) (h1 : 1 ≤ width)
    (h2 : width ≤ 50000) :
    s.answers (.ppsOutConfig e en width false) c .ok 0 (resBytes [(1, if en then 1 else 0), (2, width)])
      { s with ts := { s.ts with ppsEn := en, ppsWidth := width, ppsUntil := (if en then s.ts.ppsUntil else 0) } } := by
  refine State.answers_of_run hm fun P f _ => ?_
  have hw : ¬ (!within 1 50000 width) = true := by simp [within, h1, h2]
  refine (if_neg hw).trans ((if_neg Bool.false_ne_true).trans ?_)
  cases en <;> rfl

theorem answers_ppsOutConfig_range {en persist : Bool} {width : Nat} (hm : s.meets (.ppsOutConfig e en width persist) c)
    (h : width = 0 ∨ 50000 < width) : s.answers (.ppsOutConfig e en width persist) c .rejectedArgs 0x000B [] s := by
  refine State.answers_of_run hm fun P f _ => ?_
  have hw : (!within 1 50000 width) = true := by
    simp only [within, Bool.not_eq_true', Bool.and_eq_false_iff, decide_eq_false_iff_not]
    omega
  exact if_pos hw

end

/-- Settles O31: each command through its run. -/
theorem timeCommands : Obligations.TimeCommands := by
  intro s e c
  refine ⟨?_, ?_, ?_, ?_, fun en width hm h1 h2 => answers_ppsOutConfig hm h1 h2, fun en width persist hm h => answers_ppsOutConfig_range hm h⟩
  · intro mode profile domain p1 p2 two hm hmode hprof hdom h1 h2 hoc
    refine ⟨_, answers_ptpConfig hm hmode hprof hdom h1 h2 hoc, rfl, rfl, rfl, fun j hj => ⟨?_, fun h3 => ?_⟩⟩
    · rw [State.ptpSet_tsLane _ hj, TsLane.underMode_cfg]
    · rw [State.ptpSet_tsLane _ hj]
      unfold TsLane.underMode
      rw [if_pos h3]
  · intro lane cfg hm hl hr hp hoc hd
    have hlane : (finPtpPortConfig lane cfg false s).2.tsLane lane = _ := State.setTsLane_tsLane_self s (by omega) _
    refine ⟨_, answers_ptpPortConfig hm hl hr hp hoc hd, ?_, ?_, ?_, fun j hj => State.setTsLane_tsLane_other s hj _, rfl, rfl⟩
    · rw [hlane]
    · rw [hlane]
    · intro he hm2
      rw [hlane]
      dsimp only
      rw [if_neg (by omega), if_pos (by simp [he])]
  · intro lane mode rx tx hm hl hmode hrx htx hrx' htx' hd
    have hlane : (finTsCalSet lane mode rx tx false s).2.tsLane lane = _ := State.setTsLane_tsLane_self s (by omega) _
    refine ⟨_, answers_tsCalSet hm hl hmode hrx htx hrx' htx' hd, ?_, ?_, fun m hm' => ?_, fun j hj => State.setTsLane_tsLane_other s hj _, rfl⟩
    · rw [hlane, rd_wr, if_pos ⟨rfl, by omega⟩]
    · rw [hlane, rd_wr, if_pos ⟨rfl, by omega⟩]
    · rw [hlane, rd_wr, if_neg (fun h => hm' h.1.symm)]
  · exact fun lane clear l hm hl h he => answers_ptpStatus hm hl h he

end Sys2Proof.Machine
end

section
/-!
SUPPORT. Commands of the selector and of the media clock outputs (12 R364, R368 to R376): settles O33.
-/
namespace Sys2Proof.Machine

theorem Ref.setC_c (r : Ref) (i j : Nat) (x : Cand) : (r.setC i x).c j = if i = j ∧ i < 16 then x else r.c j := rd_wr r.cand i j x

theorem Ref.setC_c_self (r : Ref) {i : Nat} (hi : i < 16) (x : Cand) : (r.setC i x).c i = x := by
  rw [Ref.setC_c, if_pos ⟨rfl, hi⟩]

theorem Ref.setC_c_other (r : Ref) {i j : Nat} (h : j ≠ i) (x : Cand) : (r.setC i x).c j = r.c j := by
  rw [Ref.setC_c, if_neg (fun e => h e.1.symm)]

theorem Ref.ppsLevel_c_other (r : Ref) {j : Nat} (h : j ≠ 14) : r.ppsLevel.c j = r.c j := Ref.setC_c_other r h _

theorem b2n_eq_ite (b : Bool) : b2n b = if b then 1 else 0 := by cases b <;> rfl

theorem resBytes_append (a b : List RField) : resBytes (a ++ b) = resBytes a ++ resBytes b := List.flatMap_append

theorem resBytes_flatMap {α : Type} (l : List α) (g : α → List RField) : resBytes (l.flatMap g) = l.flatMap (fun x => resBytes (g x)) :=
  List.flatMap_assoc

section
variable {s : State} {e : Env} {c : CmdInfo}

/-- The result fields of a candidate. -/
def Ref.candFields (r : Ref) (now i : Nat) : List RField :=
  [(2, r.wtrLeft now i), (1, (r.c i).rxQl), (1, (r.c i).eff), (1, b2n (r.c i).soft), (1, b2n (r.c i).qualified),
    (1, b2n (r.sel == i && i != 15)), (1, b2n (r.c i).lockout), (1, (r.c i).st.code), (4, (r.c i).drift10), (4, (r.c i).drift100)]

/-- The result fields of the selector. -/
def State.refFields (s : State) : List RField :=
  [(2, s.ref.switches), (1, b2n s.ref.baseValid), (1, b2n s.ref.cpHold), (1, b2n s.ref.timeValid), (1, b2n s.ref.aligned),
    (1, b2n s.ref.acquiring), (1, s.ref.effSel), (1, s.ref.sel), (1, s.ref.st.code), sfld 4 s.ref.freqPpt, sfld 4 s.ref.base,
    sfld 8 s.ref.offsetNs, sfld 4 s.ref.ratePpt, sfld 4 s.ref.trim, (1, s.ts.tb.step)]

theorem answers_refStatusGet {clear : Bool} (hm : s.meets (.refStatusGet e clear) c) :
    s.answers (.refStatusGet e clear) c .ok 0 (resBytes (s.refFields ++ (List.range 16).flatMap (s.ref.candFields s.now)))
      (if clear then { s with ref := { s.ref with switches := 0 } } else s) := by
  refine State.answers_of_run hm (fun P f _ => ?_) (hlen := ?_) (hu := by cases clear <;> rfl) (hw := by cases clear <;> rfl)
    (htw := by cases clear <;> rfl)
  · rw [State.ite_ports]
    rfl
  · have hsel : (s.refFields.map (·.1)).sum = 35 := by simp [State.refFields, sfld_eq]
    have hcand : ∀ i, ((s.ref.candFields s.now i).map (·.1)).sum = 17 := fun _ => by simp [Ref.candFields]
    rw [resBytes_append, resBytes_flatMap, List.length_append, List.length_flatMap]
    simp only [resBytes_length, hsel, hcand]
    decide

/-- The state with a candidate's lockout and level set. -/
def State.candSet (s : State) (i : Nat) (lockout : Bool) (ql : Nat) : State :=
  { s with ref := (s.ref.setC i { s.ref.c i with lockout := lockout, rxQl := if ql = 0xFF then (s.ref.c i).rxQl else ql }).ppsLevel }

theorem State.candSet_self {i : Nat} (hi : i ≤ 13) (lockout : Bool) (ql : Nat) : (s.candSet i lockout ql).ref.c i =
    { s.ref.c i with lockout := lockout, rxQl := if ql = 0xFF then (s.ref.c i).rxQl else ql } :=
  (Ref.ppsLevel_c_other _ (by omega)).trans (Ref.setC_c_self _ (by omega) _)

theorem State.candSet_other {i j : Nat} (hj : j ≠ i) (h14 : j ≠ 14) (lockout : Bool) (ql : Nat) :
    (s.candSet i lockout ql).ref.c j = s.ref.c j := (Ref.ppsLevel_c_other _ h14).trans (Ref.setC_c_other _ hj _)

theorem Ref.ppsLevel_rxQl (r : Ref) : (r.ppsLevel.c 14).rxQl = (r.ppsLevel.c 13).rxQl := by
  rw [Ref.ppsLevel_c_other r (show 13 ≠ 14 by decide)]
  unfold Ref.ppsLevel
  rw [Ref.setC_c_self r (show 14 < 16 by decide)]

theorem answers_refCandConfig {i ql : Nat} {lockout : Bool} (hm : s.meets (.refCandConfig e i lockout ql false) c) (hi : i ≤ 13)
    (hq : ql = 0xFF ∨ (12 ≤ i ∧ ql ≤ 3)) :
    s.answers (.refCandConfig e i lockout ql false) c .ok 0
      (resBytes [(1, i), (1, if lockout then 1 else 0), (1, if ql = 0xFF then (s.ref.c i).rxQl else ql)])
      (s.candSet i lockout ql) := by
  refine State.answers_of_run hm fun P f _ => ?_
  have h1 : ¬ (decide (14 < i) || !(ql == 0xFF || ((i == 12 || i == 13) && decide (ql ≤ 3)))) = true := by
    simp only [Bool.or_eq_true, Bool.not_eq_true', Bool.or_eq_false_iff, Bool.and_eq_false_iff, decide_eq_true_eq, beq_eq_false_iff_ne,
      decide_eq_false_iff_not]
    omega
  refine (if_neg h1).trans ((if_neg Bool.false_ne_true).trans ?_)
  rw [← b2n_eq_ite]
  rfl

theorem answers_refOscTrimSet {trim : Int} (hm : s.meets (.refOscTrimSet e trim false) c) (hlo : -200000000 ≤ trim) (hhi : trim ≤ 200000000) :
    s.answers (.refOscTrimSet e trim false) c .ok 0 (resBytes [(4, (BitVec.ofInt 32 trim).toNat)])
      { s with ref := { s.ref with trim := trim } } := by
  refine State.answers_of_run hm fun P f _ => ?_
  refine (if_neg (by omega)).trans ((if_neg Bool.false_ne_true).trans ?_)
  unfold finRefOscTrimSet
  rw [sfld_eq]
  rfl

theorem flashes_refOscTrimSet {trim : Int} (hm : s.meets (.refOscTrimSet e trim true) c) (hq : s.flashFree) (hlo : -200000000 ≤ trim)
    (hhi : trim ≤ 200000000) :
    s.flashes (.refOscTrimSet e trim true) c (resBytes [(4, (BitVec.ofInt 32 trim).toNat)])
      { s.configWritten with ref := { s.ref with trim := trim }, cfg := { s.cfg with trim := some trim } } := by
  refine State.flashesVia_of_run hm hq (fun P f _ => ?_) (fun P => ?_)
  · exact (if_neg (by omega)).trans (if_pos rfl)
  · show finRefOscTrimSet trim true _ = _
    unfold finRefOscTrimSet
    rw [sfld_eq]
    rfl

theorem answers_mediaRealign (hm : s.meets (.mediaRealign e) c) (h : ∃ i, i < 14 ∧ s.ref.carriesTime i = true ∧ (s.ref.c i).eligible = true) :
    s.answers (.mediaRealign e) c .ok 0 [] { s with ref := { s.ref with aligned := false, acquiring := false } } := by
  obtain ⟨i, hi, hc, he⟩ := h
  refine State.answers_of_run hm fun P f _ => ?_
  exact if_pos (List.any_eq_true.mpr ⟨i, List.mem_range.mpr hi, by
    show (s.ref.carriesTime i && (s.ref.c i).eligible) = true
    rw [hc, he]
    rfl⟩)

theorem answers_mediaRealign_none (hm : s.meets (.mediaRealign e) c)
    (h : ∀ i, i < 14 → s.ref.carriesTime i = true → (s.ref.c i).eligible = false) :
    s.answers (.mediaRealign e) c .rejectedState 0x00B1 [] s := by
  refine State.answers_of_run hm fun P f _ => ?_
  have hany : (List.range 14).any (fun i => s.ref.carriesTime i && (s.ref.c i).eligible) = false :=
    List.any_eq_false.mpr fun i hi => by
      cases hc : s.ref.carriesTime i with
      | false => simp
      | true => simp [h i (List.mem_range.mp hi) hc]
  exact if_neg (fun h => Bool.false_ne_true (hany.symm.trans h))

theorem answers_mclkConfig {w : Bool} {m0 m1 : Nat} (hm : s.meets (.mclkConfig e w m0 m1 false) c)
    (h : ∀ m, m = m0 ∨ m = m1 → (m = 0 ∨ m = 64 ∨ m = 128 ∨ m = 256 ∨ m = 512) ∧ m * rateHz s.per.baseRate ≤ 49152000) :
    s.answers (.mclkConfig e w m0 m1 false) c .ok 0 (resBytes [(1, if w then 1 else 0), (2, m0), (2, m1)])
      { s with ref := { s.ref with wclkEn := w, mult0 := m0, mult1 := m1 } } := by
  have hok : ∀ m, m = m0 ∨ m = m1 → (mem [0, 64, 128, 256, 512] m && decide (m * rateHz s.per.baseRate ≤ 49152000)) = true := fun m hmm => by
    rw [Bool.and_eq_true, decide_eq_true_eq, mem_iff]
    exact ⟨by simpa using (h m hmm).1, (h m hmm).2⟩
  refine State.answers_of_run hm fun P f _ => ?_
  have h1 : ¬ (!(mem [0, 64, 128, 256, 512] m0 && decide (m0 * rateHz s.per.baseRate ≤ 49152000)) ||
      !(mem [0, 64, 128, 256, 512] m1 && decide (m1 * rateHz s.per.baseRate ≤ 49152000))) = true := by
    rw [hok m0 (Or.inl rfl), hok m1 (Or.inr rfl)]
    decide
  refine (if_neg h1).trans ((if_neg Bool.false_ne_true).trans ?_)
  rw [← b2n_eq_ite]
  rfl

theorem answers_esmcConfig {lane : Nat} {sy es : Bool} (hm : s.meets (.esmcConfig e lane sy es false) c) (hl : lane ≤ 7)
    (hd : s.domOn (laneDomain lane) = true) :
    s.answers (.esmcConfig e lane sy es false) c .ok 0 (resBytes [(1, lane), (1, if sy then 1 else 0), (1, if es then 1 else 0)])
      (s.setLane lane { (s.lane lane) with synceTx := sy, esmcTx := es, ssmSent := (if es then (s.lane lane).ssmSent else none) }) := by
  refine State.answers_of_run hm fun P f _ => ?_
  have hd' : ¬ (!s.domOn (laneDomain lane)) = true := not_bnot_of_true hd
  refine (if_neg (Nat.not_lt.mpr hl)).trans ((if_neg hd').trans ((if_neg Bool.false_ne_true).trans ?_))
  rw [← b2n_eq_ite, ← b2n_eq_ite]
  rfl

end

/-- Settles O33: each command through its run. -/
theorem refCommands : Obligations.RefCommands := by
  intro s e c
  refine ⟨?_, ?_, fun trim hm hlo hhi => answers_refOscTrimSet hm hlo hhi, ?_, fun hm h => answers_mediaRealign hm h,
    fun hm h => answers_mediaRealign_none hm h, fun w m0 m1 hm h => answers_mclkConfig hm h,
    fun lane sy es hm hl hd => answers_esmcConfig hm hl hd⟩
  · rintro clear r hm rfl
    have h := answers_refStatusGet hm
    rw [resBytes_append, resBytes_flatMap] at h
    have hsel : ∀ i, b2n (s.ref.sel == i && i != 15) = if s.ref.sel = i ∧ i ≠ 15 then 1 else 0 := fun i => by
      rw [b2n_eq_ite]
      exact if_congr (by simp) rfl rfl
    simp only [State.refFields, Ref.candFields, Ref.offsetNs, sfld_eq, hsel] at h
    simp only [b2n_eq_ite] at h ⊢
    exact h
  · intro i lockout ql hm hi hq
    have hself := s.candSet_self hi lockout ql
    refine ⟨_, ?_, by rw [hself], by rw [hself], Ref.ppsLevel_rxQl _, fun j hj h14 => State.candSet_other hj h14 lockout ql, rfl, rfl⟩
    rw [hself]
    exact answers_refCandConfig hm hi hq
  · intro trim hm hq hlo hhi
    exact ⟨_, flashes_refOscTrimSet hm hq hlo hhi, rfl, rfl, rfl⟩

end Sys2Proof.Machine
end

section
/-!
SUPPORT. The reference selector (12 R352, R353): refutes O32. The clause on the end of a 10 s window binds its other candidates
as `Fin 14`, where the bound 15 is 1: only candidate 0 is without signal, and another one that drifts raises its condition.
-/
namespace Sys2Proof.Machine

/-- A candidate that qualifies; candidates 0 and 1 have signal. -/
def qualifyingCand (i : Nat) : Cand := { Cand.reset i with st := .qualifying, qualified := false, signal := decide (i ≤ 1) }

/-- Ten seconds after the start, all candidates qualify. -/
def State.twoQualifying : State :=
  { State.reset with
    now := 10000000000
    pwr := { Pwr.reset with cpRunning := true }
    ref := { Ref.reset with cand := Vector.ofFn (fun i : Fin 16 => qualifyingCand i.val) } }

/-- Candidate 0 runs at the trim, candidate 1 off by 2 ppm. -/
def driftOfSecond : Vector Int 16 := Vector.ofFn (fun i : Fin 16 => if i.val = 1 then 2000000 else 0)

theorem State.twoQualifying_c {i : Nat} (hi : i < 16) : State.twoQualifying.ref.c i = qualifyingCand i :=
  rd_ofFn (fun i : Fin 16 => qualifyingCand i.val) hi

/-- The window of candidate 1 ends beyond the soft limit, which is reported. -/
theorem State.twoQualifying_reports :
    (State.twoQualifying.windowEndRef false driftOfSecond).flt.reports.length = 1 := by decide +kernel

/-- Refutes O32: beside candidate 0, which meets every hypothesis of the clause on 10 s windows, candidate 1 has signal and drifts
by 2 ppm, so that the same row raises a condition and the fault state changes. -/
theorem not_selector : ¬ Obligations.Selector := by
  unfold Obligations.Selector
  intro h
  obtain ⟨-, -, -, -, -, -, -, -, hwindow, -, -⟩ := h State.twoQualifying
  obtain ⟨t, ht, -, -, -, -, hflt, -⟩ := hwindow driftOfSecond 0 0 rfl
    (fun j hj => by rw [State.twoQualifying_c (by omega)]; rfl) rfl (by decide) rfl (fun j hj hne => by omega) (by decide) (by decide) (by decide)
  have hrun : State.twoQualifying.windowEndRef false driftOfSecond = t := Host.Outcome.next.inj ht
  have hlen := State.twoQualifying_reports
  rw [hrun, hflt] at hlen
  exact absurd hlen (by decide)

end Sys2Proof.Machine
end

section
/-!
SUPPORT. Channels of the power stage that form no pair (13 R379, R397), their trips and their limits (13 R388 to R398): settles O34.
-/
namespace Sys2Proof.Machine

/-! What changes one channel. -/

/-- From `s` to `u` at most channel `k`, the fault controller's inputs and the ports changed. -/
structure State.OnChan (k : Nat) (s u : State) : Prop where
  rest : u = { s with pst := { s.pst with chans := u.pst.chans }, flt := u.flt, ports := u.ports }
  other : ∀ j, j ≠ k → u.chan j = s.chan j

theorem State.OnChan.refl (k : Nat) (s : State) : State.OnChan k s s := ⟨rfl, fun _ _ => rfl⟩

theorem State.OnChan.trans {k : Nat} {s t u : State} (h : State.OnChan k s t) (g : State.OnChan k t u) : State.OnChan k s u := by
  refine ⟨?_, fun j hj => (g.other j hj).trans (h.other j hj)⟩
  have h1 := h.rest
  have h2 := g.rest
  rw [h1] at h2
  exact h2

theorem State.setHalf_chan_self (s : State) {k : Nat} (hk : k < 32) (x : Chan) : (s.setHalf k x).chan k = x := by
  rw [State.setHalf_chan, if_pos ⟨rfl, hk⟩]

theorem State.setHalf_chan_other (s : State) {k j : Nat} (h : j ≠ k) (x : Chan) : (s.setHalf k x).chan j = s.chan j := by
  rw [State.setHalf_chan, if_neg (fun e => h e.1.symm)]

theorem State.OnChan.setHalf (k : Nat) (s : State) (x : Chan) : State.OnChan k s (s.setHalf k x) :=
  ⟨rfl, fun _ hj => s.setHalf_chan_other hj x⟩

theorem State.OnChan.report (k : Nat) (s : State) (c z e d : Nat) : State.OnChan k s (s.report c z e d) := ⟨rfl, fun _ _ => rfl⟩
theorem State.OnChan.raise (k : Nat) (s : State) (c z e d : Nat) : State.OnChan k s (s.raise c z e d) := ⟨rfl, fun _ _ => rfl⟩
theorem State.OnChan.endCond (k : Nat) (s : State) (c z e : Nat) : State.OnChan k s (s.endCond c z e) := ⟨rfl, fun _ _ => rfl⟩
theorem State.OnChan.event (k : Nat) (s : State) (v : Nat) : State.OnChan k s (s.event v) := ⟨rfl, fun _ _ => rfl⟩

section
variable {k : Nat} {s u : State} (h : State.OnChan k s u)
include h

theorem State.OnChan.now : u.now = s.now := by rw [h.rest]
theorem State.OnChan.per : u.per = s.per := by rw [h.rest]
theorem State.OnChan.pwr : u.pwr = s.pwr := by rw [h.rest]
theorem State.OnChan.tw : u.tw = s.tw := by rw [h.rest]
theorem State.OnChan.modRec (j : Nat) : u.modRec j = s.modRec j := by rw [h.rest]; rfl
theorem State.OnChan.domOn (d : Nat) : u.domOn d = s.domOn d := by rw [h.rest]; rfl

theorem State.OnChan.paired (j : Nat) : u.paired j = s.paired j := by
  unfold State.paired
  rw [h.modRec, h.modRec]

theorem State.OnChan.enabled (j : Nat) : u.enabled j = s.enabled j := by
  unfold State.enabled
  rw [h.modRec]

end

/-! A channel of its own (13 R379). -/

section
variable {s : State} {k : Nat}

theorem State.lead_alone (hp : s.paired k = false) : s.lead k = k := by simp [State.lead, hp]

theorem State.halves_alone (hp : s.paired k = false) : s.halves k = [k] := by simp [State.halves, hp]

theorem State.setChan_alone (hp : s.paired k = false) (x : Chan) : s.setChan k x = s.setHalf k x := by simp [State.setChan, hp]

/-- The conditions of a trip and of a latch of a channel have ended. -/
def State.tripEnded (s : State) (k : Nat) : State :=
  ((s.endCond 0x0901 (chanZone k) k).endCond 0x0902 (chanZone k) k).endCond 0x0903 (chanZone k) k

theorem State.OnChan.tripEnded (k : Nat) (s : State) : State.OnChan k s (s.tripEnded k) :=
  ((State.OnChan.endCond k s _ _ _).trans (State.OnChan.endCond k _ _ _ _)).trans (State.OnChan.endCond k _ _ _ _)

/-- TRIPPED or LATCHED. -/
def ChSt.faulted (st : ChSt) : Bool := decide (st = .tripped ∨ st = .latched)

/-- SOFTSTART or RUN. -/
def ChSt.switches (st : ChSt) : Bool := decide (st = .softstart ∨ st = .run)

/-- A channel as it enters another state (13 R397). -/
def Chan.into (c : Chan) (st : ChSt) : Chan :=
  let c := { c with st := st }
  let c := if st.switches then (if st = .softstart then { c with ssFrom := none } else c)
    else { c with ssFrom := none, stop := none, gain := 0, u := 0 }
  if st = .tripped then c else { c with hiccup := none }

theorem Chan.into_st (c : Chan) (st : ChSt) : (c.into st).st = st := by cases st <;> rfl

theorem Chan.into_hiccup (c : Chan) {st : ChSt} (h : st.faulted = false) : (c.into st).hiccup = none := by
  cases st with
  | tripped => exact absurd h (by decide)
  | latched => exact absurd h (by decide)
  | off => rfl
  | held => rfl
  | softstart => rfl
  | run => rfl

/-- The state after a channel of its own has entered another state. -/
def State.entered (s : State) (k : Nat) (st : ChSt) : State :=
  (if (s.chan k).st.faulted && !st.faulted then s.tripEnded k else s).setHalf k ((s.chan k).into st)

theorem State.enter_same {st : ChSt} (h : (s.chan k).st = st) : s.enter k st = s := if_pos h

theorem State.enter_eq {st : ChSt} (hp : s.paired k = false) (hne : (s.chan k).st ≠ st) :
    s.enter k st =
      let u := if !st.switches && (s.chan k).stop.isSome then (s.entered k st).stopEnded k else s.entered k st
      if st.faulted then u.event 6 else u := by
  unfold State.enter
  rw [if_neg hne]
  extract_lets tl s1 sw c1 c2 c3 s2 s3 u
  have hs1 : s1 = if (s.chan k).st.faulted && !st.faulted then s.tripEnded k else s := by
    simp only [s1]
    rw [State.halves_alone hp]
    rfl
  have hp1 : s1.paired k = false := by
    rw [hs1]
    split
    · exact ((State.OnChan.tripEnded k s).paired k).trans hp
    · exact hp
  have hs2 : s2 = s.entered k st := (State.setChan_alone hp1 c3).trans (congrArg (fun u : State => u.setHalf k c3) hs1)
  have hs3 : s3 = u := by
    simp only [s3, u]
    rw [hs2]
    rfl
  rw [hs3]
  rfl

theorem State.enter_alone {st : ChSt} (hp : s.paired k = false) (hne : (s.chan k).st ≠ st)
    (hs : (s.chan k).stop = none ∨ st.switches = true) :
    s.enter k st = if st.faulted then (s.entered k st).event 6 else s.entered k st := by
  have hquiet : (!st.switches && (s.chan k).stop.isSome) = false := by
    rcases hs with hs | hs <;> simp [hs]
  rw [State.enter_eq hp hne, hquiet]
  rfl

theorem State.OnChan.entered (k : Nat) (s : State) (st : ChSt) : State.OnChan k s (s.entered k st) := by
  refine State.OnChan.trans ?_ (State.OnChan.setHalf k _ _)
  split
  · exact State.OnChan.tripEnded k s
  · exact State.OnChan.refl k s

theorem State.entered_chan (hk : k < 32) (s : State) (st : ChSt) : (s.entered k st).chan k = (s.chan k).into st :=
  State.setHalf_chan_self _ hk _

theorem State.entered_reports (s : State) (st : ChSt) : (s.entered k st).flt.reports = s.flt.reports := by
  unfold State.entered
  split <;> rfl

theorem State.entered_flt {st : ChSt} (h : (s.chan k).st.faulted = false) : (s.entered k st).flt = s.flt := by
  unfold State.entered
  rw [h]
  rfl

theorem State.entered_hasCond {st : ChSt} (h : (s.chan k).st.faulted = true) (hst : st.faulted = false) :
    (s.entered k st).hasCond 0x0901 (chanZone k) k = false := by
  have hc : (s.tripEnded k).hasCond 0x0901 (chanZone k) k = false :=
    State.hasCond_endCond_of _ _ _ _ (State.hasCond_endCond_of _ _ _ _ (State.hasCond_endCond_self s _ _ _))
  unfold State.entered
  rw [h, hst]
  exact hc

end

/-! Trips (13 R390, R392, R398). -/

section
variable {s : State} {k : Nat}

/-- A channel as a trip finds it: counted, with its peak, its time in the history. -/
def Chan.tripping (c : Chan) (now mt peak : Nat) : Chan :=
  { c with hist := (c.hist ++ [(now, mt)]).drop (c.hist.length + 1 - 3), trips := satAdd 16 c.trips 1, peak := peak % 65536
           tripMt := mt % 2 ^ 32 }

/-- The state in which a trip of a channel of its own is noted and reported. -/
def State.tripNoted (s : State) (k peak : Nat) : State :=
  (s.setHalf k ((s.chan k).tripping s.now s.per.mediaTime peak)).raise 0x0901 (chanZone k) k (packBits [(8, 0), (16, peak)])

/-- The state in which the hiccup timer of a channel starts. -/
def State.hiccupStarts (s : State) (k : Nat) : State :=
  s.setChan k { s.chan k with hiccup := some (s.now + ((s.modRec k).map (·.hiccupMs)).getD 0 * 1000000) }

/-- The trip is the third within 10 s. -/
def State.thirdTrip (s : State) (k : Nat) : Bool :=
  decide (2 ≤ (s.chan k).hist.length) &&
    (match (s.chan k).hist[(s.chan k).hist.length - 2]? with | some (t, _) => decide (s.now ≤ t + 10000000000) | none => false)

theorem State.setHalf_setHalf (s : State) (k : Nat) (x y : Chan) : (s.setHalf k x).setHalf k y = s.setHalf k y := by
  have h : wr (wr s.pst.chans k x) k y = wr s.pst.chans k y := by
    unfold wr
    exact Vector.setIfInBounds_setIfInBounds ..
  show ({ s with pst := { s.pst with chans := wr (wr s.pst.chans k x) k y } } : State) = _
  rw [h]
  rfl

theorem State.trip_alone (hk : k < 32) (hp : s.paired k = false) (hd : s.domOn 12 = true) (hsw : (s.chan k).switching = true) (peak : Nat) :
    s.trip k peak = if s.thirdTrip k then ((s.tripNoted k peak).enter k .latched).raise 0x0902 (chanZone k) k 0
      else ((s.tripNoted k peak).enter k .tripped).hiccupStarts k := by
  unfold State.trip
  rw [State.lead_alone hp]
  extract_lets l c half again third s1 h s2 s3 s4
  have hagain : ¬ (!s.domOn 12 || again) = true := by simp [again, hd, hp]
  have hhalf : half = 0 := Nat.sub_self k
  have hs1 : s1 = s.setHalf k { c with hist := (c.hist ++ [(s.now, s.per.mediaTime)]).drop (c.hist.length + 1 - 3) } :=
    State.setChan_alone hp _
  have hh : h = { c with hist := (c.hist ++ [(s.now, s.per.mediaTime)]).drop (c.hist.length + 1 - 3) } :=
    (congrArg (fun u : State => u.chan k) hs1).trans (s.setHalf_chan_self hk _)
  have hs2 : s2 = s.setHalf k (c.tripping s.now s.per.mediaTime peak) := by
    simp only [s2]
    rw [hh, hs1, State.setHalf_setHalf]
    rfl
  have hs3 : s3 = s.tripNoted k peak := by
    simp only [s3]
    rw [hs2, hhalf]
    rfl
  rw [if_neg hagain, if_neg (not_bnot_of_true hsw)]
  have hthird : third = s.thirdTrip k := rfl
  have hs4 : s4 = (s.tripNoted k peak).enter k .tripped := congrArg (fun u : State => u.enter k .tripped) hs3
  show (if third = true then (s3.enter k .latched).raise 0x0902 (chanZone k) k 0 else s4.hiccupStarts k) = _
  rw [hs4, hs3, hthird]

theorem State.trip_resting (hp : s.paired k = false) (hd : s.domOn 12 = true) (hsw : (s.chan k).switching = false) (peak : Nat) :
    s.trip k peak = s.report 0x0905 (chanZone k) k (packBits [(8, 0), (8, (s.chan k).st.code)]) := by
  unfold State.trip
  rw [State.lead_alone hp]
  extract_lets l c half again third s1 h s2 s3 s4
  have hagain : ¬ (!s.domOn 12 || again) = true := by simp [again, hd, hp]
  have hhalf : half = 0 := Nat.sub_self k
  rw [if_neg hagain, if_pos (by rw [hsw]; rfl), hhalf]

theorem State.OnChan.tripNoted (k : Nat) (s : State) (peak : Nat) : State.OnChan k s (s.tripNoted k peak) :=
  (State.OnChan.setHalf k s _).trans (State.OnChan.raise k _ _ _ _ _)

theorem State.tripNoted_chan (hk : k < 32) (s : State) (peak : Nat) :
    (s.tripNoted k peak).chan k = (s.chan k).tripping s.now s.per.mediaTime peak := s.setHalf_chan_self hk _

theorem Chan.switching_not_faulted {c : Chan} (h : c.switching = true) : c.st.faulted = false := by
  have hst : c.st = .softstart ∨ c.st = .run := of_decide_eq_true h
  rcases hst with h | h <;> rw [h] <;> rfl

theorem Chan.switching_ne {c : Chan} (h : c.switching = true) {st : ChSt} (hs : st.faulted = true) : c.st ≠ st := by
  intro he
  have hn := Chan.switching_not_faulted h
  rw [he, hs] at hn
  exact absurd hn (by decide)

/-- What a trip does first on a channel that switches: the state in which it has entered TRIPPED or LATCHED. -/
theorem State.tripNoted_enter (hk : k < 32) (hp : s.paired k = false) (hsw : (s.chan k).switching = true)
    (hstop : (s.chan k).stop = none) {st : ChSt} (hst : st.faulted = true) (peak : Nat) :
    ∃ u, (s.tripNoted k peak).enter k st = u ∧ State.OnChan k s u ∧
      u.chan k = ((s.chan k).tripping s.now s.per.mediaTime peak).into st ∧ u.flt = (s.tripNoted k peak).flt ∧ u.paired k = false := by
  have hc := State.tripNoted_chan hk s peak
  have hsame : ((s.tripNoted k peak).chan k).st = (s.chan k).st := by rw [hc]; rfl
  have hp' := ((State.OnChan.tripNoted k s peak).paired k).trans hp
  have hrun := State.enter_alone (s := s.tripNoted k peak) (st := st) hp' (by rw [hsame]; exact Chan.switching_ne hsw hst)
    (Or.inl (by rw [hc]; exact hstop))
  rw [if_pos hst] at hrun
  have hon := ((State.OnChan.tripNoted k s peak).trans (State.OnChan.entered k _ st)).trans (State.OnChan.event k _ 6)
  refine ⟨_, hrun, hon, ?_, ?_, (hon.paired k).trans hp⟩
  · rw [State.event_chan, State.entered_chan hk, hc]
  · exact State.entered_flt (by rw [hsame]; exact Chan.switching_not_faulted hsw)

theorem State.trip_first (hk : k < 32) (hp : s.paired k = false) (hd : s.domOn 12 = true) (hsw : (s.chan k).switching = true)
    (hstop : (s.chan k).stop = none) (hthird : s.thirdTrip k = false) (peak : Nat) :
    State.OnChan k s (s.trip k peak) ∧ (s.trip k peak).flt = (s.tripNoted k peak).flt ∧
      (s.trip k peak).chan k = { ((s.chan k).tripping s.now s.per.mediaTime peak).into .tripped with
        hiccup := some (s.now + ((s.modRec k).map (·.hiccupMs)).getD 0 * 1000000) } := by
  obtain ⟨u, hu, hon, hc, hf, hpu⟩ := State.tripNoted_enter hk hp hsw hstop (st := .tripped) rfl peak
  rw [State.trip_alone hk hp hd hsw, hthird, hu]
  have hrun : u.hiccupStarts k = u.setHalf k { u.chan k with
      hiccup := some (u.now + ((u.modRec k).map (·.hiccupMs)).getD 0 * 1000000) } := State.setChan_alone hpu _
  rw [if_neg Bool.false_ne_true, hrun, hon.now, hon.modRec, hc]
  exact ⟨hon.trans (State.OnChan.setHalf k _ _), hf, u.setHalf_chan_self hk _⟩

theorem State.trip_third (hk : k < 32) (hp : s.paired k = false) (hd : s.domOn 12 = true) (hsw : (s.chan k).switching = true)
    (hstop : (s.chan k).stop = none) (hthird : s.thirdTrip k = true) (peak : Nat) :
    ∃ u, s.trip k peak = u.raise 0x0902 (chanZone k) k 0 ∧ State.OnChan k s u ∧ u.flt = (s.tripNoted k peak).flt ∧
      u.chan k = ((s.chan k).tripping s.now s.per.mediaTime peak).into .latched := by
  obtain ⟨u, hu, hon, hc, hf, -⟩ := State.tripNoted_enter hk hp hsw hstop (st := .latched) rfl peak
  rw [State.trip_alone hk hp hd hsw, hthird, hu]
  exact ⟨u, rfl, hon, hf, hc⟩

end

/-! Conditions that stay. -/

theorem mem_addNew_of_mem {α : Type} [DecidableEq α] {l : List α} {x : α} (y : α) (h : x ∈ l) : x ∈ addNew l y := by
  unfold addNew
  split
  · exact h
  · exact List.mem_append_left _ h

theorem State.raised.raise {s t : State} {c z e d : Nat} (h : s.raised t c z e d) (c' z' e' d' : Nat) :
    s.raised (t.raise c' z' e' d') c z e d :=
  ⟨h.1.later rfl (List.prefix_append _ _), mem_addNew_of_mem _ h.2⟩

theorem State.raised_raise_of_prefix {s u : State} (hp : s.flt.reports <+: u.flt.reports) (c z e d : Nat) :
    s.raised (u.raise c z e d) c z e d :=
  ⟨State.reported_report_of_prefix (u := { u with flt := { u.flt with conds := _ } }) hp c z e d,
    (State.raised_raise (s := u) rfl c z e d).2⟩

/-! Hiccup and LIMIT (13 R389, R397). -/

section
variable {s : State} {k : Nat}

theorem State.hiccupEnd_alone {u : Nat} (hp : s.paired k = false) (hst : (s.chan k).st = .tripped) (hh : (s.chan k).hiccup = some u)
    (hu : u ≤ s.now) :
    s.hiccupEnd k = s.enter k (if !s.enabled k then .off else if s.held (s.chan k) then .held else .softstart) := by
  unfold State.hiccupEnd
  rw [State.lead_alone hp]
  dsimp only
  rw [hh]
  exact if_neg (by simp [hst, Nat.not_lt.mpr hu])

theorem State.hiccupEnd_early {u : Nat} (hp : s.paired k = false) (hh : (s.chan k).hiccup = some u) (hu : s.now < u) :
    s.hiccupEnd k = s := by
  unfold State.hiccupEnd
  rw [State.lead_alone hp]
  dsimp only
  rw [hh]
  exact if_pos (by simp [hu])

/-- A channel whose present cycle LIMIT has ended at grid step `x`. -/
def Chan.limited (c : Chan) (pos : Bool) (x : Int) : Chan :=
  { c with limAt := some (pos, x), limEnd := true, limitCycles := satAdd 16 c.limitCycles 1, limActs := c.limActs + 1 }

/-- The grid steps of the blanking of LIMIT. -/
def State.blank (s : State) : Int := (gridHz s.per.baseRate / 50000000 + 1 : Nat)

/-- The level of one side of a channel. -/
def State.sideHigh (s : State) (k : Nat) (pos : Bool) (y : Int) : Bool := if pos then (s.gates k y).1 else (s.gates k y).2

theorem State.limit_ends {pos : Bool} {r : ModRec} (hk : k < 32) (hp : s.paired k = false) (he : (s.chan k).limEnd = false)
    (hr : s.modRec k = some r) (hcode : r.limitCode ≠ 0) (hx : s.sideHigh k pos (s.gridAt s.now) = true)
    (hb : s.sideHigh k pos (s.gridAt s.now - s.blank) = true) :
    s.limit k pos = s.setHalf k ((s.chan k).limited pos (s.gridAt s.now)) := by
  unfold State.limit
  rw [State.lead_alone hp]
  extract_lets l c on x side blank s1 s1c s2 h
  have hon : on = true := by simp [on, hr, hcode]
  have hrun : ¬ (c.limEnd || !on || !side x || !side (x - blank)) = true := by
    have hside : side x = true := hx
    have hblank : side (x - blank) = true := hb
    rw [show c.limEnd = false from he, hon, hside, hblank]
    decide
  have hs1 : s1 = s.setHalf k { c with limAt := some (pos, x) } := by
    simp only [s1]
    rw [State.halves_alone hp]
    exact (congrArg (fun b => s.limitHalf k b x) (if_pos rfl)).trans (if_pos hx)
  have hc1 : s1.chan l = { c with limAt := some (pos, x) } := by rw [hs1]; exact s.setHalf_chan_self hk _
  have hp1 : s1.paired k = false := by rw [hs1]; exact hp
  have hs2 : s2 = s.setHalf k { c with limAt := some (pos, x), limEnd := true } := by
    simp only [s2, s1c]
    rw [State.setChan_alone hp1, hc1, hs1, State.setHalf_setHalf]
  have hh : h = { c with limAt := some (pos, x), limEnd := true } := by
    simp only [h]
    rw [hs2]
    exact s.setHalf_chan_self hk _
  rw [if_neg hrun, hh, hs2, State.setHalf_setHalf]
  rfl

theorem State.limit_idle {pos : Bool} (hp : s.paired k = false)
    (h : (s.chan k).limEnd = true ∨ s.sideHigh k pos (s.gridAt s.now) = false) : s.limit k pos = s := by
  unfold State.limit
  rw [State.lead_alone hp]
  extract_lets l c on x side blank
  refine if_pos ?_
  rcases h with h | h
  · rw [show c.limEnd = true from h]
    rfl
  · rw [show side x = false from h]
    simp

theorem pastDead_neg {rate deadtime : Nat} {d : Int} (h : d < 0) : pastDead rate deadtime d = false :=
  decide_eq_false (by omega)

/-- The side that LIMIT ends is low from that grid step on. -/
theorem Chan.gatesAt_limited {c : Chan} {pos : Bool} {x : Int} (h : c.limAt = some (pos, x)) (rate deadtime : Nat) :
    (if pos then (c.gatesAt rate deadtime x).1 else (c.gatesAt rate deadtime x).2) = false := by
  unfold Chan.gatesAt
  extract_lets up down past early began hi lo
  have hx : ¬ x < x := lt_irrefl x
  cases pos with
  | true => simp only [h, if_neg hx, if_true]
  | false =>
    simp only [h, if_neg hx, Bool.false_eq_true, if_false]
    split
    · next hlow => exact pastDead_neg (show down < 0 by simp only [down]; omega)
    · rfl

theorem side_ite_low {pos : Bool} {p : Bool × Bool} (b : Bool) (h : (if pos then p.1 else p.2) = false) :
    (if pos then (if b then (false, false) else p).1 else (if b then (false, false) else p).2) = false := by
  cases b with
  | false => exact h
  | true => cases pos <;> rfl

theorem State.sideHigh_limited (hk : k < 32) (pos : Bool) (x : Int) :
    (s.setHalf k ((s.chan k).limited pos x)).sideHigh k pos x = false := by
  unfold State.sideHigh State.gates
  rw [State.setHalf_modRec, s.setHalf_chan_self hk]
  cases s.modRec k with
  | none => cases pos <;> rfl
  | some r => exact side_ite_low _ (Chan.gatesAt_limited (c := (s.chan k).limited pos x) rfl _ r.deadtime)

end

/-- Settles O34: each clause from the equation of its row for a channel of its own. -/
theorem channelTrips : Obligations.ChannelTrips := by
  unfold Obligations.ChannelTrips
  intro s k c tm now hk hp hc hstop hd hnow
  subst hc hnow
  refine ⟨?_, ?_, ?_, ?_, ?_, ?_, ?_⟩
  · intro peak hsw hlen hpeak
    have hthird : (s.at_ tm).thirdTrip k = false := by
      unfold State.thirdTrip
      rw [decide_eq_false (show ¬ 2 ≤ ((s.at_ tm).chan k).hist.length from Nat.not_le.mpr (Nat.lt_succ_of_le hlen))]
      rfl
    obtain ⟨hon, hf, hch⟩ := State.trip_first (s := s.at_ tm) hk hp hd hsw hstop hthird peak
    refine ⟨_, rfl, ?_, ?_, ?_, ?_, ?_, ?_, ?_, hon.other⟩
    · rw [hch]; rfl
    · rw [hch]; rfl
    · rw [hch]; rfl
    · rw [hch]; exact Nat.mod_eq_of_lt hpeak
    · rw [hch]; rfl
    · rw [hch]
      have h0 : (s.chan k).hist.length + 1 - 3 = 0 := by omega
      exact congrArg (fun n => ((s.chan k).hist ++ [((s.at_ tm).now, s.per.mediaTime)]).drop n) h0
    · exact (State.raised_raise (s := s) (u := (s.at_ tm).setHalf k _) rfl _ _ _ _).congr hf hon.now
  · intro peak a b hsw hlast ha hpeak
    have hlen : 2 ≤ (s.chan k).hist.length := by
      have := congrArg List.length hlast
      simp at this
      omega
    have hget : (s.chan k).hist[(s.chan k).hist.length - 2]? = some a := by
      rw [← Nat.add_zero ((s.chan k).hist.length - 2), ← List.getElem?_drop, hlast]
      rfl
    have hthird : (s.at_ tm).thirdTrip k = true := by
      unfold State.thirdTrip
      rw [State.at_chan, hget, decide_eq_true hlen]
      exact decide_eq_true ha
    obtain ⟨u, hu, hon, hf, hch⟩ := State.trip_third (s := s.at_ tm) hk hp hd hsw hstop hthird peak
    have hr : s.raised u 0x0901 (0x80 + k) k (packBits [(8, 0), (16, peak)]) :=
      (State.raised_raise (s := s) (u := (s.at_ tm).setHalf k _) rfl _ _ _ _).congr hf hon.now
    refine ⟨_, congrArg Host.Outcome.next hu, ?_, ?_, ?_, hr.raise _ _ _ _, State.raised_raise_of_prefix ?_ _ _ _ _, hon.other⟩
    · exact (congrArg Chan.st hch).trans rfl
    · exact (congrArg Chan.gain hch).trans rfl
    · exact (congrArg Chan.hiccup hch).trans rfl
    · rw [hf]
      exact List.prefix_append _ _
  · intro peak hsw
    refine ⟨_, congrArg Host.Outcome.next (State.trip_resting (s := s.at_ tm) hp hd hsw peak), rfl, ?_⟩
    exact State.reported_report (s := s) (u := s.at_ tm) rfl _ _ _ _
  · intro u hst hh hu
    obtain ⟨st, hst'⟩ : ∃ st, st = if s.enabled k = false then ChSt.off else if s.held (s.chan k) then .held else .softstart :=
      ⟨_, rfl⟩
    have hnf : st.faulted = false := by
      rw [hst']
      split
      · rfl
      · split <;> rfl
    have hrun : (s.at_ tm).hiccupEnd k = (s.at_ tm).entered k st := by
      have he := State.hiccupEnd_alone (s := s.at_ tm) hp hst hh hu
      have hx : (if !(s.at_ tm).enabled k then ChSt.off else if (s.at_ tm).held ((s.at_ tm).chan k) then .held else .softstart) = st := by
        rw [hst', show (s.at_ tm).enabled k = s.enabled k from rfl]
        cases s.enabled k <;> rfl
      rw [he, hx, State.enter_alone (s := s.at_ tm) hp ?_ (Or.inl hstop), hnf]
      · rfl
      · intro h
        have : ((s.at_ tm).chan k).st.faulted = true := congrArg ChSt.faulted hst
        rw [h, hnf] at this
        exact absurd this (by decide)
    rw [← hst']
    refine ⟨_, congrArg Host.Outcome.next hrun, ?_, ?_, ?_, (State.OnChan.entered k _ st).other, State.entered_reports _ st⟩
    · rw [State.entered_chan hk, Chan.into_st]
    · rw [State.entered_chan hk, Chan.into_hiccup _ hnf]
    · exact State.entered_hasCond (s := s.at_ tm) (congrArg ChSt.faulted hst) hnf
  · intro u hh hu
    exact congrArg Host.Outcome.next (State.hiccupEnd_early (s := s.at_ tm) hp hh hu)
  · intro r pos x he hr hcode hx hside
    subst hx
    have hrun := State.limit_ends (s := s.at_ tm) (pos := pos) hk hp he hr hcode (hside _ (Or.inl rfl)) (hside _ (Or.inr rfl))
    have hc := (s.at_ tm).setHalf_chan_self hk (((s.at_ tm).chan k).limited pos ((s.at_ tm).gridAt (s.at_ tm).now))
    refine ⟨_, congrArg Host.Outcome.next hrun, (s.at_ tm).sideHigh_limited hk pos _, ?_, ?_, ?_, ?_, (State.OnChan.setHalf k _ _).other⟩
    all_goals rw [hc]; rfl
  · intro pos h
    exact congrArg Host.Outcome.next (State.limit_idle (s := s.at_ tm) hp h)

end Sys2Proof.Machine
end

section
/-!
SUPPORT. Holds of all channels, soft starts and stop ramps (13 R391, R396, R397, R399): settles O35.
-/
namespace Sys2Proof.Machine

/-! Answers to a command in flight depend on the ports and on command service alone. -/

theorem State.canAnswer.congr {s t : State} {q : CPort} {f : Flight} (h : s.canAnswer q f) (hp : t.ports = s.ports)
    (hw : t.pwr = s.pwr) : t.canAnswer q f := by
  have hport : ∀ r, t.port r = s.port r := fun r => by unfold State.port; rw [hp]
  obtain ⟨h1, h2, h3, h4, h5, h6⟩ := h
  rw [← hport] at h3 h4 h5 h6
  exact ⟨h1, by rw [hw]; exact h2, h3, h4, h5, h6⟩

theorem State.closed.congr {s s' t t' : State} {q : CPort} {f : Flight} {st : Status} {d : Nat} {r : List Byte}
    (h : s.closed t q f st d r) (hs : s'.ports = s.ports) (ht : t'.ports = t.ports) : s'.closed t' q f st d r := by
  have hps : ∀ r, s'.port r = s.port r := fun r => by unfold State.port; rw [hs]
  have hpt : ∀ r, t'.port r = t.port r := fun r => by unfold State.port; rw [ht]
  obtain ⟨h1, h2, h3⟩ := h
  refine ⟨?_, ?_, fun r hr => ?_⟩
  · rw [hps, hpt]; exact h1
  · rw [hps, hpt]; exact h2
  · rw [hps, hpt]; exact h3 r hr

theorem State.Fewer.congr {s s' : State} {P : Ports} (h : State.Fewer s { s with ports := P }) (hs : s'.ports = s.ports) :
    State.Fewer s' { s' with ports := P } := by
  obtain ⟨-, h2, h3, h4, h5, h6⟩ := h
  have hps : ∀ r, s'.port r = s.port r := fun r => by unfold State.port; rw [hs]
  refine ⟨⟨P, rfl⟩, fun r => by rw [hps]; exact h2 r, ?_, ?_, ?_, ?_⟩
  all_goals rw [hs]
  exacts [h3, h4, h5, h6]

/-! All channels in turn. -/

/-- From `s` to `u` at most channels, the fault controller's inputs and the ports changed. -/
def State.OnChans (s u : State) : Prop := u = { s with pst := { s.pst with chans := u.pst.chans }, flt := u.flt, ports := u.ports }

theorem State.OnChans.refl (s : State) : s.OnChans s := rfl

theorem State.OnChans.trans {s t u : State} (h : s.OnChans t) (g : t.OnChans u) : s.OnChans u := by
  unfold State.OnChans at *
  rw [h] at g
  exact g

theorem State.OnChans.then {k : Nat} {s t u : State} (h : s.OnChans t) (g : State.OnChan k t u) : s.OnChans u := h.trans g.rest

section
variable {s u : State} (h : s.OnChans u)
include h

theorem State.OnChans.modRec (j : Nat) : u.modRec j = s.modRec j := by rw [h]; rfl
theorem State.OnChans.per : u.per = s.per := by rw [h]
theorem State.OnChans.now : u.now = s.now := by rw [h]

theorem State.OnChans.paired (j : Nat) : u.paired j = s.paired j := by
  unfold State.paired
  rw [h.modRec, h.modRec]

theorem State.OnChans.enabled (j : Nat) : u.enabled j = s.enabled j := by
  unfold State.enabled
  rw [h.modRec]

theorem State.OnChans.held (c : Chan) : u.held c = s.held c := by
  rw [h]
  rfl

end

theorem State.leads_alone {s : State} (hp : ∀ k, s.paired k = false) : s.leads = List.range 32 :=
  List.filter_eq_self.mpr fun k _ => by rw [State.lead_alone (hp k)]; exact beq_self_eq_true k

/-- A step over the channels in turn in which each step settles its own channel and leaves the reports. -/
theorem State.foldl_chans {s : State} {f : State → Nat → State} {g : Nat → Chan}
    (hstep : ∀ u l, l < 32 → s.OnChans u → u.chan l = s.chan l →
      State.OnChan l u (f u l) ∧ (f u l).chan l = g l ∧ (f u l).flt.reports = u.flt.reports) {n : Nat} (hn : n ≤ 32) :
    s.OnChans ((List.range n).foldl f s) ∧ ((List.range n).foldl f s).flt.reports = s.flt.reports ∧
      ∀ k, ((List.range n).foldl f s).chan k = if k < n then g k else s.chan k := by
  induction n with
  | zero => exact ⟨State.OnChans.refl s, rfl, fun _ => rfl⟩
  | succ n ih =>
    obtain ⟨hon, hr, hc⟩ := ih (by omega)
    rw [List.range_succ, List.foldl_append, List.foldl_cons, List.foldl_nil]
    obtain ⟨ho, hg, hf⟩ := hstep _ n (by omega) hon (by rw [hc, if_neg (by omega)])
    refine ⟨hon.then ho, hf.trans hr, fun k => ?_⟩
    by_cases hk : k = n
    · rw [hk, hg, if_pos (by omega)]
    · rw [ho.other k hk, hc]
      exact if_congr (by omega) rfl rfl

/-! Holds of a channel of its own (13 R396, R397). -/

section
variable {s : State} {k : Nat}

theorem State.holdChanged_of_held (h : s.held (s.chan k) = true) :
    s.holdChanged k = if (s.chan k).switching && ((s.chan k).flt || (s.chan k).rail || (s.chan k).sense || s.pst.safeN || s.pst.tw) then
      (s.event 6).enter k .held else s.event 6 := if_pos h

theorem State.holdChanged_of_free (h : s.held (s.chan k) = false) :
    s.holdChanged k = if decide ((s.chan k).st = .held) && s.enabled k && (s.chan k).resume.isNone then
      (s.event 6).enter k .softstart else s.event 6 :=
  if_neg (show ¬ (s.event 6).held (s.chan k) = true from ne_true_of_eq_false h)

theorem Chan.switching_ne_held {c : Chan} (h : c.switching = true) : c.st ≠ .held := by
  intro he
  unfold Chan.switching at h
  rw [he] at h
  exact absurd h (by decide)

/-- A channel that is held from outside ceases to switch. -/
theorem State.holdChanged_held (hk : k < 32) (hp : s.paired k = false) (hstop : (s.chan k).stop = none)
    (hh : ((s.chan k).flt || (s.chan k).rail || (s.chan k).sense || s.pst.safeN || s.pst.tw) = true) :
    State.OnChan k s (s.holdChanged k) ∧
      (s.holdChanged k).chan k = (if (s.chan k).switching then (s.chan k).into .held else s.chan k) ∧
      (s.holdChanged k).flt.reports = s.flt.reports := by
  have hev : State.OnChan k s (s.event 6) := State.OnChan.event k s 6
  have hheld : s.held (s.chan k) = true := by
    simp only [Bool.or_eq_true] at hh
    unfold State.held
    rcases hh with (((h | h) | h) | h) | h <;> simp [h]
  rw [State.holdChanged_of_held hheld, hh, Bool.and_true]
  cases hsw : (s.chan k).switching with
  | false => exact ⟨hev, rfl, rfl⟩
  | true =>
    rw [if_pos rfl, State.enter_alone (s := s.event 6) hp (Chan.switching_ne_held hsw) (Or.inl hstop)]
    exact ⟨hev.trans (State.OnChan.entered k _ .held), State.entered_chan hk (s.event 6) .held, State.entered_reports (s.event 6) .held⟩

/-- A channel that nothing holds any more starts where it is HELD. -/
theorem State.holdChanged_released (hk : k < 32) (hp : s.paired k = false) (hsw : (s.chan k).switching = false) :
    State.OnChan k s (s.holdChanged k) ∧
      (s.holdChanged k).chan k = (if !s.held (s.chan k) && (decide ((s.chan k).st = .held) && s.enabled k && (s.chan k).resume.isNone) then
        (s.chan k).into .softstart else s.chan k) ∧
      (s.holdChanged k).flt.reports = s.flt.reports := by
  have hev : State.OnChan k s (s.event 6) := State.OnChan.event k s 6
  cases hheld : s.held (s.chan k) with
  | true =>
    rw [State.holdChanged_of_held hheld, hsw]
    exact ⟨hev, rfl, rfl⟩
  | false =>
    rw [State.holdChanged_of_free hheld]
    by_cases hstart : (decide ((s.chan k).st = .held) && s.enabled k && (s.chan k).resume.isNone) = true
    · have hst : (s.chan k).st ≠ .softstart := by
        simp only [Bool.and_eq_true, decide_eq_true_eq] at hstart
        rw [hstart.1.1]
        decide
      rw [if_pos hstart, hstart, State.enter_alone (s := s.event 6) hp hst (Or.inr rfl)]
      exact ⟨hev.trans (State.OnChan.entered k _ .softstart), State.entered_chan hk (s.event 6) .softstart,
        State.entered_reports (s.event 6) .softstart⟩
    · rw [if_neg hstart, Bool.eq_false_iff.mpr hstart]
      exact ⟨hev, rfl, rfl⟩

end

/-! The last soft-start period and the end of a stop ramp (13 R397, R399). -/

section
variable {s : State} {k : Nat}

theorem State.softEnd_alone {b : Nat} (hp : s.paired k = false) (hst : (s.chan k).st = .softstart) (hb : (s.chan k).ssFrom = some b) :
    s.softEnd k = if b + softPeriods s.per.baseRate ≤ s.per.boundaries + 1 then s.entered k .run else s := by
  unfold State.softEnd
  rw [State.lead_alone hp]
  dsimp only
  rw [hb, hst, State.enter_alone hp (by rw [hst]; decide) (Or.inr rfl)]
  simp [ChSt.faulted]

/-- The state in which no PSTAGE_STOP waits. -/
def State.noStops (s : State) : State := { s with pst := { s.pst with stops := [] } }

/-- The state in which no PSTAGE_STOP waits, with other ports. -/
def State.noStopsPorts (s : State) (P : Ports) : State := { s with pst := { s.pst with stops := [] }, ports := P }

theorem State.stopEnded_last {q : CPort} {h : Nat} (hs : s.pst.stops = [⟨q, h, [k], none⟩]) :
    s.stopEnded k = s.noStops.complete q h .ok 0 (leBytes 8 s.per.mediaTime) := by
  have hm : mem [k] k = true := by simp [mem]
  have hr : remove [k] k = [] := by simp [remove]
  unfold State.stopEnded
  dsimp only
  rw [hs]
  simp [hm, hr, State.noStops]

theorem State.entered_ports (s : State) (k : Nat) (st : ChSt) : (s.entered k st).ports = s.ports := by
  unfold State.entered
  rw [State.setHalf_ports]
  split
  · simp only [State.tripEnded, State.endCond_ports]
  · rfl

theorem State.stopEnd_last {p g : Nat} {q : CPort} {f : Flight} (hk : k < 32) (hp : s.paired k = false)
    (hsw : (s.chan k).switching = true) (hstop : (s.chan k).stop = some (some (p, g))) (hb : p + 64 ≤ s.per.boundaries)
    (ha : s.canAnswer q f) (hs : s.pst.stops = [⟨q, f.handle, [k], none⟩]) :
    ∃ P, s.stopEnd k = ((s.entered k .held).noStopsPorts P).setHalf k
        { (s.chan k).into .held with resume := some (s.per.boundaries + 1) } ∧
      s.closed { s with ports := P } q f .ok 0 (leBytes 8 s.per.mediaTime) ∧ State.Fewer s { s with ports := P } := by
  have hon : State.OnChan k s (s.entered k .held) := State.OnChan.entered k s .held
  have hc : (s.entered k .held).chan k = (s.chan k).into .held := State.entered_chan hk s .held
  have henter : s.enter k .held = (s.entered k .held).stopEnded k := by
    rw [State.enter_eq hp (Chan.switching_ne_held hsw), hstop]
    rfl
  have hports := s.entered_ports k .held
  obtain ⟨u, hu⟩ : ∃ u, u = s.entered k .held := ⟨_, rfl⟩
  rw [← hu] at hon hc henter hports ⊢
  have hlast := State.stopEnded_last (s := u) (k := k) (q := q) (h := f.handle) (by rw [hon.rest]; exact hs)
  obtain ⟨P, hP, hcl⟩ := State.complete_closed (ha.congr (t := u.noStops) hports hon.pwr) .ok 0
    (leBytes 8 u.per.mediaTime) (by simp [leBytes_length])
  have hfew := State.complete_fewer u.noStops q f.handle .ok 0 (leBytes 8 u.per.mediaTime)
  rw [hP] at hfew hlast
  rw [show ({ u.noStops with ports := P } : State) = u.noStopsPorts P from rfl] at hlast
  rw [hon.per] at hcl
  refine ⟨P, ?_, hcl.congr hports.symm rfl, hfew.congr hports.symm⟩
  have hp' : (u.noStopsPorts P).paired k = false := (hon.paired k).trans hp
  unfold State.stopEnd
  rw [State.lead_alone hp]
  dsimp only
  rw [hstop]
  dsimp only
  rw [if_pos hb, henter, hlast, State.setChan_alone hp']
  have hcP : (u.noStopsPorts P).chan k = (s.chan k).into .held := hc
  have hper : (u.noStopsPorts P).per = s.per := hon.per
  rw [hcP, hper]

end

/-! SAFE_N (13 R391). -/

/-- The state in which SAFE_N holds every channel. -/
def State.safeLow (s : State) : State := { s with pst := { s.pst with safeNLow := true, safeN := true } }

/-- The state in which SAFE_N holds no channel. -/
def State.safeHigh (s : State) : State := { s with pst := { s.pst with safeNLow := false, safeN := false } }

theorem State.safeNFall_eq {s : State} (h : s.pst.safeN = false) :
    s.safeNFall = (s.safeLow.leads.foldl (fun s l => s.holdChanged l) s.safeLow).raise 0x0108 0x00 0xFFFF 0 := by
  have hch : ¬ ((true == s.pst.safeN) && (s.pst.tw == s.pst.tw)) = true := by simp [h]
  exact congrArg (fun u : State => u.raise 0x0108 0x00 0xFFFF 0) (if_neg hch)

theorem State.safeNRelease_eq {s : State} (h : s.pst.safeN = true) :
    s.safeNRelease = (s.safeHigh.leads.foldl (fun s l => s.holdChanged l) s.safeHigh).endCond 0x0108 0x00 0xFFFF := by
  have hch : ¬ ((false == s.pst.safeN) && (s.pst.tw == s.pst.tw)) = true := by simp [h]
  exact congrArg (fun u : State => u.endCond 0x0108 0x00 0xFFFF) (if_neg hch)

/-- SAFE_N low takes every channel that switches to HELD. -/
theorem State.safeLow_all {s : State} (hp : ∀ k, s.paired k = false) (hstop : ∀ k, (s.chan k).stop = none) (tm : Nat) :
    ∃ u, (s.at_ tm).safeLow.leads.foldl (fun s l => s.holdChanged l) (s.at_ tm).safeLow = u ∧ (s.at_ tm).safeLow.OnChans u ∧
      u.flt.reports = s.flt.reports ∧
      ∀ k, k < 32 → u.chan k = if (s.chan k).switching then (s.chan k).into .held else s.chan k := by
  rw [State.leads_alone (s := (s.at_ tm).safeLow) hp]
  obtain ⟨hon, hr, hc⟩ := State.foldl_chans (s := (s.at_ tm).safeLow) (f := fun s l => s.holdChanged l)
    (g := fun k => if (s.chan k).switching then (s.chan k).into .held else s.chan k) (n := 32)
    (fun u l hl hu hcu => by
      have hsafe : u.pst.safeN = true := by rw [hu]; rfl
      have h := State.holdChanged_held (s := u) hl ((hu.paired l).trans (hp l)) (by rw [hcu]; exact hstop l) (by simp [hsafe])
      rw [hcu] at h
      exact h) (by decide)
  exact ⟨_, rfl, hon, hr, fun k hk => (hc k).trans (if_pos hk)⟩

/-- A channel that starts where nothing but SAFE_N held it. -/
def State.freed (s : State) (k : Nat) : Bool :=
  !((s.chan k).flt || (s.chan k).rail || (s.chan k).host || (s.chan k).sense) &&
    (decide ((s.chan k).st = .held) && s.enabled k && (s.chan k).resume.isNone)

/-- SAFE_N high starts every channel that nothing else holds. -/
theorem State.safeHigh_all {s : State} (hp : ∀ k, s.paired k = false) (htw : s.pst.tw = false)
    (hsw : ∀ k, (s.chan k).switching = false) (tm : Nat) :
    ∃ u, (s.at_ tm).safeHigh.leads.foldl (fun s l => s.holdChanged l) (s.at_ tm).safeHigh = u ∧ (s.at_ tm).safeHigh.OnChans u ∧
      ∀ k, k < 32 → u.chan k = if s.freed k then (s.chan k).into .softstart else s.chan k := by
  rw [State.leads_alone (s := (s.at_ tm).safeHigh) hp]
  obtain ⟨hon, -, hc⟩ := State.foldl_chans (s := (s.at_ tm).safeHigh) (f := fun s l => s.holdChanged l)
    (g := fun k => if s.freed k then (s.chan k).into .softstart else s.chan k) (n := 32)
    (fun u l hl hu hcu => by
      have hcu' : u.chan l = s.chan l := hcu
      have hheld : u.held (s.chan l) = ((s.chan l).flt || (s.chan l).rail || (s.chan l).host || (s.chan l).sense) := by
        rw [hu.held, State.held, show (s.at_ tm).safeHigh.pst.tw = false from htw, show (s.at_ tm).safeHigh.pst.safeN = false from rfl,
          Bool.or_false, Bool.or_false]
      have h := State.holdChanged_released (s := u) hl ((hu.paired l).trans (hp l)) (by rw [hcu']; exact hsw l)
      rw [hcu', hheld, hu.enabled] at h
      exact h) (by decide)
  exact ⟨_, rfl, hon, fun k hk => (hc k).trans (if_pos hk)⟩

/-- Settles O35: the engine-wide hold by a fold over the channels in which each settles its own, the rest by the equations of
their rows. -/
theorem channelHolds : Obligations.ChannelHolds := by
  unfold Obligations.ChannelHolds
  intro s hp
  refine ⟨?_, ?_, ?_, ?_⟩
  · intro tm hsafe hstop
    obtain ⟨u, hu, hon, hr, hc⟩ := State.safeLow_all hp hstop tm
    have hrun := State.safeNFall_eq (s := s.at_ tm) hsafe
    rw [hu] at hrun
    refine ⟨_, congrArg Host.Outcome.next hrun, fun k hk => ?_, ?_, State.raised_raise hr _ _ _ _, fun k hk => ?_⟩
    · refine (congrArg Chan.switching (hc k hk)).trans ?_
      cases hsw : (s.chan k).switching with
      | true => rfl
      | false => exact hsw
    · exact (congrArg (fun u : State => u.pst.safeN) hon).trans rfl
    · refine (congrArg Chan.st (hc k hk)).trans ?_
      cases (s.chan k).switching <;> rfl
  · intro tm hsafe htw hsw
    obtain ⟨u, hu, hon, hc⟩ := State.safeHigh_all hp htw hsw tm
    have hrun := State.safeNRelease_eq (s := s.at_ tm) hsafe
    rw [hu] at hrun
    refine ⟨_, congrArg Host.Outcome.next hrun, ?_, State.hasCond_endCond_self _ _ _ _, fun k hk => ?_⟩
    · exact (congrArg (fun u : State => u.pst.safeN) hon).trans rfl
    · refine (congrArg Chan.st (hc k hk)).trans ?_
      have hfreed : s.freed k = true ↔ (s.chan k).st = .held ∧ s.enabled k = true ∧ (s.chan k).resume = none ∧
          (s.chan k).flt = false ∧ (s.chan k).rail = false ∧ (s.chan k).host = false ∧ (s.chan k).sense = false := by
        simp [State.freed, and_assoc, and_comm, and_left_comm]
      by_cases h : s.freed k = true
      · rw [if_pos h, if_pos (hfreed.mp h), Chan.into_st]
      · rw [if_neg h, if_neg (mt hfreed.mpr h)]
  · intro k b hk hst hb hstop
    have hrun := State.softEnd_alone (hp k) hst hb
    have hsoft : softPeriods s.per.baseRate = rateHz s.per.baseRate / 20 := rfl
    rw [← hsoft]
    refine ⟨_, congrArg Host.Outcome.next hrun, ?_⟩
    by_cases hlast : b + softPeriods s.per.baseRate ≤ s.per.boundaries + 1
    · rw [if_pos hlast, if_pos hlast, State.entered_chan hk]
      exact ⟨Chan.into_st _ _, rfl, (State.OnChan.entered k s .run).other⟩
    · rw [if_neg hlast, if_neg hlast]
      exact ⟨hst, rfl, fun _ _ => rfl⟩
  · intro k p g q f hk hsw hstop hb hcalm ha hs
    obtain ⟨P, hP, hcl, hfew⟩ := State.stopEnd_last hk (hp k) hsw hstop hb ha hs
    have hon := State.OnChan.entered k s .held
    have hserve : (s.stopEnd k).serve = s.stopEnd k := by
      rw [hP]
      have htw : ((s.entered k .held).noStopsPorts P).tw = s.tw := hon.tw
      exact State.serve_eq_self ((hfew.calm hcalm).congr (State.setHalf_ports _ _ _) ((State.setHalf_tw _ _ _).trans htw))
    have hclosed := hcl.congr (s' := s) (t' := ((s.entered k .held).noStopsPorts P).setHalf k
      { (s.chan k).into .held with resume := some (s.per.boundaries + 1) }) rfl rfl
    have hc := State.setHalf_chan_self ((s.entered k .held).noStopsPorts P) hk
      { (s.chan k).into .held with resume := some (s.per.boundaries + 1) }
    refine ⟨_, congrArg Host.Outcome.next (hserve.trans hP), ?_, ?_, ?_, ?_, rfl, hclosed, fun j hj => ?_⟩
    · rw [hc]; rfl
    · rw [hc]; rfl
    · rw [hc]; rfl
    · rw [hc]
    · exact (State.setHalf_chan_other _ hj _).trans (hon.other j hj)

end Sys2Proof.Machine
end

section
/-!
SUPPORT. Rails, DC blocks, control ticks and sense converters (13 R383 to R396, 18 R546): settles O36.
-/
namespace Sys2Proof.Machine
-- Proofs checked one at a time, which bounds the memory that the whole text takes.
set_option Elab.async false

theorem turns_zero {α : Type} (a : α) (f : Nat → α → α) : turns 0 a f = a := rfl

theorem turns_succ {α : Type} (n : Nat) (a : α) (f : Nat → α → α) : turns (n + 1) a f = f n (turns n a f) := by
  simp [turns, List.range_succ]

theorem turns_idle {α : Type} (n : Nat) {a : α} {f : Nat → α → α} (h : ∀ i, f i a = a) : turns n a f = a := by
  induction n with
  | zero => rfl
  | succ n ih => rw [turns_succ, ih, h]

/-! What a change of holds leaves unchanged. -/

/-- From `s` to `u` at most channels, the stop commands and the ports changed. -/
def State.Rebound (s u : State) : Prop :=
  u = { s with pst := { s.pst with chans := u.pst.chans, stops := u.pst.stops }, ports := u.ports }

theorem State.Rebound.refl (s : State) : s.Rebound s := rfl

theorem State.Rebound.trans {s t u : State} (h : s.Rebound t) (g : t.Rebound u) : s.Rebound u := by
  unfold State.Rebound at *
  rw [h] at g
  exact g

theorem State.Rebound.setHalf (s : State) (k : Nat) (x : Chan) : s.Rebound (s.setHalf k x) := rfl
theorem State.Rebound.event (s : State) (v : Nat) : s.Rebound (s.event v) := rfl

theorem State.Rebound.setChan (s : State) (k : Nat) (x : Chan) : s.Rebound (s.setChan k x) := by
  unfold State.setChan
  dsimp only
  split
  · exact (State.Rebound.setHalf s k x).trans (State.Rebound.setHalf _ _ _)
  · exact State.Rebound.setHalf s k x

theorem State.Rebound.complete (s : State) (q : CPort) (h : Nat) (st : Status) (d : Nat) (r : List Byte) :
    s.Rebound (s.complete q h st d r) := by
  obtain ⟨P, hP⟩ := (s.complete_fewer q h st d r).as_
  rw [hP]
  rfl

theorem State.Rebound.foldl {α : Type} {f : State → α → State} (hf : ∀ u a, State.Rebound u (f u a)) (l : List α) (s : State) :
    s.Rebound (l.foldl f s) := by
  induction l generalizing s with
  | nil => exact State.Rebound.refl s
  | cons a l ih => exact (hf s a).trans (ih _)

theorem State.Rebound.stopEnded (s : State) (k : Nat) : s.Rebound (s.stopEnded k) := by
  unfold State.stopEnded
  extract_lets stops ended p u
  have hu : s.Rebound u := rfl
  exact hu.trans (State.Rebound.foldl (fun _ _ => State.Rebound.complete _ _ _ _ _ _) _ _)

theorem State.Rebound.enter {s : State} {k : Nat} {st : ChSt} (h : (s.chan k).st.faulted = false) : s.Rebound (s.enter k st) := by
  by_cases hst : (s.chan k).st = st
  · rw [State.enter_same hst]
    exact State.Rebound.refl s
  · unfold State.enter
    rw [if_neg hst]
    extract_lets tl s1 sw c1 c2 c3 s2 s3
    have hs1 : s1 = s := by
      have htl : tl (s.chan k).st = false := h
      simp only [s1]
      rw [htl]
      rfl
    have h2 : s.Rebound s2 := by
      simp only [s2]
      rw [hs1]
      exact State.Rebound.setChan s k c3
    have h3 : s.Rebound s3 := by
      simp only [s3]
      split
      · exact h2.trans (State.Rebound.stopEnded _ k)
      · exact h2
    split
    · exact h3.trans (State.Rebound.event _ 6)
    · exact h3

theorem State.Rebound.holdChanged (s : State) (k : Nat) : s.Rebound (s.holdChanged k) := by
  have hev : s.Rebound (s.event 6) := rfl
  cases hheld : s.held (s.chan k) with
  | true =>
    rw [State.holdChanged_of_held hheld]
    split
    · next h =>
      exact hev.trans (State.Rebound.enter (s := s.event 6) (Chan.switching_not_faulted (Bool.and_eq_true_iff.mp h).1))
    · exact hev
  | false =>
    rw [State.holdChanged_of_free hheld]
    split
    · next h =>
      have hst : (s.chan k).st = .held := by
        simp only [Bool.and_eq_true, decide_eq_true_eq] at h
        exact h.1.1
      exact hev.trans (State.Rebound.enter (s := s.event 6) (congrArg ChSt.faulted hst))
    · exact hev

theorem State.Rebound.setHold (s : State) (k : Nat) (f : Chan → Chan) : s.Rebound (s.setHold k f) := by
  unfold State.setHold
  dsimp only
  split
  · exact State.Rebound.refl s
  · exact (State.Rebound.setChan s k _).trans (State.Rebound.holdChanged _ k)

theorem State.Rebound.rebind (s : State) : s.Rebound s.rebind := by
  unfold State.rebind
  refine State.Rebound.foldl (fun u l => ?_) s.leads s
  split
  · exact State.Rebound.refl u
  · exact State.Rebound.setHold u l _

section
variable {s u : State} (h : s.Rebound u)
include h

theorem State.Rebound.modRec (k : Nat) : u.modRec k = s.modRec k := by rw [h]; rfl
theorem State.Rebound.railOf (r : Nat) : u.railOf r = s.railOf r := by rw [h]; rfl
theorem State.Rebound.conv (i : Nat) : u.conv i = s.conv i := by rw [h]; rfl
theorem State.Rebound.flt : u.flt = s.flt := by rw [h]
theorem State.Rebound.now : u.now = s.now := by rw [h]

theorem State.Rebound.paired (k : Nat) : u.paired k = s.paired k := by
  unfold State.paired
  rw [h.modRec, h.modRec]

theorem State.Rebound.railDue (k : Nat) : u.railDue k = s.railDue k := by
  unfold State.railDue
  rw [h.modRec]
  cases s.modRec k with
  | none => rfl
  | some r => exact congrArg Rail.bad (h.railOf r.rail)

end

/-! The RAIL flag of a channel of its own follows its rail (13 R396). -/

section
variable {s : State} {k : Nat}

theorem State.complete_chan (s : State) (q : CPort) (h : Nat) (st : Status) (d : Nat) (r : List Byte) (j : Nat) :
    (s.complete q h st d r).chan j = s.chan j := by
  obtain ⟨P, hP⟩ := (s.complete_fewer q h st d r).as_
  rw [hP]
  rfl

theorem State.stopEnded_chan (s : State) (k j : Nat) : (s.stopEnded k).chan j = s.chan j := by
  unfold State.stopEnded
  extract_lets stops ended p u
  exact foldl_keeps _ (fun u : State => u.chan j) (fun u x => u.complete_chan _ _ _ _ _ j) ended u

theorem Chan.into_rail (c : Chan) (st : ChSt) : (c.into st).rail = c.rail := by cases st <;> rfl

theorem State.entered_rail (s : State) (k : Nat) (st : ChSt) (j : Nat) : ((s.entered k st).chan j).rail = (s.chan j).rail := by
  by_cases hj : j = k
  · subst hj
    unfold State.entered
    rw [State.setHalf_chan]
    split
    · exact Chan.into_rail _ st
    · split <;> rfl
  · rw [(State.OnChan.entered k s st).other j hj]

theorem State.enter_rail {st : ChSt} (hp : s.paired k = false) (j : Nat) : ((s.enter k st).chan j).rail = (s.chan j).rail := by
  by_cases hst : (s.chan k).st = st
  · rw [State.enter_same hst]
  · rw [State.enter_eq hp hst]
    dsimp only
    rw [← s.entered_rail k st j]
    split <;> split <;> simp only [State.event_chan, State.stopEnded_chan]

theorem State.holdChanged_rail (hp : s.paired k = false) (j : Nat) : ((s.holdChanged k).chan j).rail = (s.chan j).rail := by
  have he : ∀ st, (((s.event 6).enter k st).chan j).rail = (s.chan j).rail := fun st => State.enter_rail (s := s.event 6) hp j
  cases hheld : s.held (s.chan k) with
  | true =>
    rw [State.holdChanged_of_held hheld]
    split
    · exact he .held
    · rfl
  | false =>
    rw [State.holdChanged_of_free hheld]
    split
    · exact he .softstart
    · rfl

/-- What `State.rebind` does on one channel. -/
def State.rebindOne (s : State) (l : Nat) : State :=
  if (s.modRec l).isNone then s else s.setHold l (fun c => { c with rail := s.railDue l, sense := s.senseDue l })

theorem State.rebindOne_rail (hk : k < 32) (hp : s.paired k = false) (j : Nat) :
    ((s.rebindOne k).chan j).rail = if j = k ∧ (s.modRec k).isSome = true then s.railDue k else (s.chan j).rail := by
  unfold State.rebindOne
  cases hm : s.modRec k with
  | none => simp
  | some r =>
    simp only [Option.isNone_some, Bool.false_eq_true, if_false, Option.isSome_some, and_true]
    unfold State.setHold
    dsimp only
    split
    · next hsame =>
      by_cases hj : j = k
      · rw [if_pos hj, hj]
        exact (congrArg Chan.rail hsame).symm
      · rw [if_neg hj]
    · rw [State.setChan_alone hp]
      refine (State.holdChanged_rail (s := s.setHalf k _) hp j).trans ?_
      rw [State.setHalf_chan]
      by_cases hj : j = k
      · rw [if_pos ⟨hj.symm, hk⟩, if_pos hj]
      · rw [if_neg (fun h => hj h.1.symm), if_neg hj]

theorem State.rebind_rail (hp : ∀ k, s.paired k = false) (hk : k < 32) {m : ModRec} (hm : s.modRec k = some m) :
    (s.rebind.chan k).rail = s.railDue k := by
  have h : ∀ n, n ≤ 32 → s.Rebound ((List.range n).foldl (fun s l => s.rebindOne l) s) ∧ ∀ j,
      (((List.range n).foldl (fun s l => s.rebindOne l) s).chan j).rail =
        if j < n ∧ (s.modRec j).isSome = true then s.railDue j else (s.chan j).rail := by
    intro n hn
    induction n with
    | zero => exact ⟨State.Rebound.refl s, fun j => by simp⟩
    | succ n ih =>
      obtain ⟨hr, hc⟩ := ih (by omega)
      rw [List.range_succ, List.foldl_append, List.foldl_cons, List.foldl_nil]
      generalize (List.range n).foldl (fun s l => s.rebindOne l) s = u at hr hc ⊢
      have hone : u.Rebound (u.rebindOne n) := by
        unfold State.rebindOne
        split
        · exact State.Rebound.refl u
        · exact State.Rebound.setHold u n _
      refine ⟨hr.trans hone, fun j => ?_⟩
      rw [State.rebindOne_rail (by omega) ((hr.paired n).trans (hp n)), hc, hr.modRec, hr.railDue]
      by_cases hj : j = n
      · subst hj
        simp
      · have hlt : j < n ↔ j < n + 1 := by omega
        simp only [hj, hlt, false_and, if_false]
  obtain ⟨-, hc⟩ := h 32 (Nat.le_refl 32)
  have hrun : s.rebind = (List.range 32).foldl (fun s l => s.rebindOne l) s := by
    unfold State.rebind
    rw [State.leads_alone hp]
    rfl
  rw [hrun, hc k, hm]
  simp [hk]

end

/-! Rails (13 R394). -/

section
variable {s : State} {r reading : Nat} {cfg : RailCfg}

theorem State.setRail_railOf_self (s : State) (hr : r < 4) (x : Rail) : (s.setRail r x).railOf r = x := by
  rw [State.setRail_railOf, if_pos ⟨rfl, hr⟩]

theorem State.setRail_railOf_other (s : State) {j : Nat} (hj : j ≠ r) (x : Rail) : (s.setRail r x).railOf j = s.railOf j := by
  rw [State.setRail_railOf, if_neg (fun h => hj h.1.symm)]

/-- A rail that has gone below its limits. -/
def Rail.low (x : Rail) (reading : Nat) (cfg : RailCfg) : Rail :=
  { x with reading := reading, outside := true, uv := true, ov := decide (cfg.ov * 65536 < reading * cfg.rsFs) }

/-- A rail that is back within its limits. -/
def Rail.good (x : Rail) (reading : Nat) : Rail := { x with reading := reading, outside := false, uv := false, ov := false }

theorem State.railDue_of {k : Nat} {m : ModRec} (hm : s.modRec k = some m) : s.railDue k = (s.railOf m.rail).bad := by
  unfold State.railDue
  rw [hm]

theorem State.railOut_low (hd : s.domOn 12 = true) (hle : reading ≤ 65535) (hc : (s.railOf r).cfg = some cfg)
    (ho : (s.railOf r).outside = false) (hlow : reading * cfg.rsFs < cfg.uv * 65536) :
    s.railOut r reading = ((s.setRail r ((s.railOf r).low reading cfg)).raise 0x0908 0xA0 r
      (packBits [(8, r), (32, reading * cfg.rsFs / 65536)])).rebind := by
  have hmin : min reading 65535 = reading := by omega
  unfold State.railOut
  rw [hmin]
  dsimp only
  rw [hc, hd, ho]
  simp [hlow, Rail.low, Rail.mv, hc]

theorem State.railIn_good (hd : s.domOn 12 = true) (hle : reading ≤ 65535) (hc : (s.railOf r).cfg = some cfg)
    (ho : (s.railOf r).outside = true) (hlo : (50 * cfg.uv + cfg.nom) * 65536 ≤ reading * cfg.rsFs * 50)
    (hhi : reading * cfg.rsFs * 50 ≤ (50 * cfg.ov - cfg.nom) * 65536) :
    s.railIn r reading = (((s.setRail r ((s.railOf r).good reading)).endCond 0x0908 0xA0 r).endCond 0x0909 0xA0 r).rebind := by
  have hmin : min reading 65535 = reading := by omega
  unfold State.railIn
  rw [hmin]
  dsimp only
  rw [hc, hd, ho]
  simp [Nat.not_lt.mpr hlo, Nat.not_lt.mpr hhi, Rail.good, hc]

end

/-! DC blocks (13 R395). -/

section
variable {s : State} {k : Nat} {sum : Int} {n : Nat} {r : ModRec} {cfg : RailCfg} {lp : LoopCfg}

/-- A channel after a DC block that hit, or one that has latched off. -/
def Chan.dcCounted (c : Chan) (run : Nat) : Chan := { c with dcEnd := none, dcRun := run, dcSign := 1 }

/-- A channel that the last block of DC_TIME latches off. -/
def Chan.dcLatched (c : Chan) : Chan := { c with dcEnd := none, dcRun := 0, dcSign := 0, latchDc := true }

theorem State.dcEval_hit (hp : s.paired k = false) (he : (s.chan k).dcEnd = some (sum, n, true)) (hr : s.modRec k = some r)
    (hc : (s.railOf r.rail).cfg = some cfg) (hl : rd s.pst.loops k = some lp) (hst : (s.chan k).st = .run) (hn : 0 < n) (hs : 0 < sum)
    (hhit : 2 * r.dcThresh * (s.railOf r.rail).reading * cfg.rsFs * n * 2 ^ 24 ≤ sum.natAbs * (2 * lp.vsFs) * 10000 * 65536)
    (hsign : (s.chan k).dcSign = 1) :
    s.dcEval k = if (s.chan k).dcRun + 1 < (r.dcTimeMs + 9) / 10 then s.setHalf k ((s.chan k).dcCounted ((s.chan k).dcRun + 1))
      else ((s.setHalf k (s.chan k).dcLatched).enter k .latched).raise 0x0903 (chanZone k) k (BitVec.ofInt 32 (sum / (n : Int))).toNat := by
  unfold State.dcEval
  rw [State.lead_alone hp]
  dsimp only
  rw [he, hr]
  dsimp only
  rw [hc, hl]
  dsimp only
  rw [decide_eq_true hhit, hsign, sfld_eq, if_pos hs, if_neg (by simp [hst, hn.ne']), if_pos rfl, State.setChan_alone hp]
  rfl

end

/-! Control ticks (13 R383). -/

/-- From `s` to `u` at most readings, converters and channels of the power stage changed. -/
def State.Ticked (s u : State) : Prop :=
  u = { s with pst := { s.pst with chans := u.pst.chans, convs := u.pst.convs, rails := u.pst.rails } }

theorem State.Ticked.refl (s : State) : s.Ticked s := rfl

theorem State.Ticked.trans {s t u : State} (h : s.Ticked t) (g : t.Ticked u) : s.Ticked u := by
  unfold State.Ticked at *
  rw [h] at g
  exact g

theorem State.Ticked.setHalf (s : State) (k : Nat) (x : Chan) : s.Ticked (s.setHalf k x) := rfl
theorem State.Ticked.setConv (s : State) (i : Nat) (x : Conv) : s.Ticked (s.setConv i x) := rfl
theorem State.Ticked.setRail (s : State) (r : Nat) (x : Rail) : s.Ticked (s.setRail r x) := rfl

section
variable {s u : State} (h : s.Ticked u)
include h

theorem State.Ticked.modRec (k : Nat) : u.modRec k = s.modRec k := by rw [h]; rfl
theorem State.Ticked.gap : u.gap = s.gap := by rw [h]; rfl
theorem State.Ticked.flt : u.flt = s.flt := by rw [h]

theorem State.Ticked.paired (k : Nat) : u.paired k = s.paired k := by
  unfold State.paired
  rw [h.modRec, h.modRec]

end

/-- A conversion within its limits starts its run of full-scale readings anew. -/
theorem State.fullScale_inside {s : State} {i : Nat} {v lo hi : Int} (hlo : lo < v) (hhi : v < hi) :
    s.fullScale i v lo hi = s.setConv i { s.conv i with fullRun := 0 } := by
  have hv : ¬ (v ≤ lo ∨ hi ≤ v) := by omega
  have h0 : ¬ 0 = fullTicks s.per.baseRate := by
    unfold fullTicks
    omega
  unfold State.fullScale
  dsimp only
  rw [if_neg (show ¬ (decide (v ≤ lo) || decide (hi ≤ v)) = true by simpa using hv)]
  exact if_neg h0

/-- What a tick of a cycle leaves of a channel. -/
structure Chan.SameTick (c d : Chan) : Prop where
  csT : d.csT = c.csT
  vsT : d.vsT = c.vsT
  st : d.st = c.st
  gain : d.gain = c.gain
  u : d.u = c.u

theorem Chan.SameTick.trans {c d e : Chan} (h : c.SameTick d) (g : d.SameTick e) : c.SameTick e :=
  ⟨g.csT.trans h.csT, g.vsT.trans h.vsT, g.st.trans h.st, g.gain.trans h.gain, g.u.trans h.u⟩

/-- From `s` to `u` one channel went on to its next cycles, or none. -/
structure State.Cycled (k : Nat) (s u : State) : Prop where
  rest : s.Ticked u
  other : ∀ j, j ≠ k → u.chan j = s.chan j
  convs : u.pst.convs = s.pst.convs
  rails : u.pst.rails = s.pst.rails
  self : (s.chan k).SameTick (u.chan k)

theorem State.Cycled.refl (k : Nat) (s : State) : State.Cycled k s s := ⟨rfl, fun _ _ => rfl, rfl, rfl, ⟨rfl, rfl, rfl, rfl, rfl⟩⟩

theorem State.Cycled.trans {k : Nat} {s t u : State} (h : State.Cycled k s t) (g : State.Cycled k t u) : State.Cycled k s u :=
  ⟨h.rest.trans g.rest, fun j hj => (g.other j hj).trans (h.other j hj), g.convs.trans h.convs, g.rails.trans h.rails,
    h.self.trans g.self⟩

theorem State.Cycled.setHalf {s : State} {k : Nat} {x : Chan} (hk : k < 32) (h : (s.chan k).SameTick x) :
    State.Cycled k s (s.setHalf k x) :=
  ⟨rfl, fun _ hj => s.setHalf_chan_other hj x, rfl, rfl, by rw [s.setHalf_chan_self hk]; exact h⟩

theorem State.Cycled.turns {k : Nat} {f : Nat → State → State} (hf : ∀ i u, State.Cycled k u (f i u)) (n : Nat) (s : State) :
    State.Cycled k s (turns n s f) := by
  unfold Machine.turns
  induction List.range n generalizing s with
  | nil => exact State.Cycled.refl k s
  | cons i l ih => exact (hf i s).trans (ih _)

theorem State.Cycled.cycles {k : Nat} (hk : k < 32) (s : State) (l n : Nat) (r : ModRec) (a b : Int) :
    State.Cycled k s (s.cycles l k n r a b) := by
  unfold State.cycles
  extract_lets rate p m o
  refine State.Cycled.turns (fun i u => ?_) r.fswMult s
  extract_lets b0 start len c
  split
  · exact State.Cycled.refl k u
  · obtain ⟨x, hx⟩ : ∃ x, x = highSteps len m (if start = n * p / 32 then a else b) := ⟨_, rfl⟩
    rw [← hx]
    exact State.Cycled.setHalf hk ⟨rfl, rfl, rfl, rfl, rfl⟩

theorem unit24_bounds (v : Int) : -0x01000000 ≤ unit24 v ∧ unit24 v ≤ 0x01000000 := by
  unfold unit24
  omega

theorem unit24_of_bounds {v : Int} (h : -0x01000000 ≤ v ∧ v ≤ 0x01000000) : unit24 v = v := by
  unfold unit24
  omega

/-- Without feedback and feed-forward the modulation is the channel's input at its gain. -/
theorem controlLaw_open {r : ModRec} (hb : r.feedback = false) (hf : r.feedfwd = false) (lp : LoopCfg) (rail : Rail) (c : Chan) (x v : Int) :
    (controlLaw r lp rail c x v).2 = unit24 (asr (x * c.gain) 27) := by
  have hone : asr (unit24 (asr (x * c.gain) 27) * 0x01000000) 24 = unit24 (asr (x * c.gain) 27) := by
    unfold asr
    omega
  unfold controlLaw
  rw [hb, hf]
  simp only [Bool.false_eq_true, if_false]
  rw [hone, unit24_of_bounds (unit24_bounds _)]

/-- What a control tick makes of a channel `c` of state `s`. -/
structure State.TickOf (s : State) (l n : Nat) (c d : Chan) : Prop where
  csT : d.csT = c.csT
  vsT : d.vsT = c.vsT
  st : d.st = c.st
  gain : d.gain = c.gain
  rests : c.switching = false → d.u = c.u ∧ d.modClip = c.modClip
  modulates : ∀ r, s.modRec l = some r → r.feedback = false → r.feedfwd = false → c.switching = true → c.ssFrom ≠ none → s.gap = false →
    d.u = unit24 (asr ((interp n c.inHist).toInt * c.gain) 27)

/-- From `s` to `u` channel `l` went through its control tick `n`. -/
structure State.TickStep (l n : Nat) (s u : State) : Prop where
  rest : s.Ticked u
  other : ∀ j, j ≠ l → u.chan j = s.chan j
  convs : u.pst.convs = s.pst.convs
  rails : u.pst.rails = s.pst.rails
  self : s.TickOf l n (s.chan l) (u.chan l)

/-- A channel whose tick changes nothing. -/
theorem State.TickStep.idle {s : State} {l : Nat} (n : Nat)
    (h : s.modRec l = none ∨ (s.chan l).switching = false ∨ (s.chan l).ssFrom = none) : State.TickStep l n s s := by
  refine ⟨rfl, fun _ _ => rfl, rfl, rfl, ⟨rfl, rfl, rfl, rfl, fun _ => ⟨rfl, rfl⟩, fun r hr _ _ hsw hss _ => ?_⟩⟩
  rcases h with h | h | h
  · rw [h] at hr
    exact absurd hr (by simp)
  · rw [h] at hsw
    exact absurd hsw (by decide)
  · exact absurd h hss

theorem State.TickStep.chanTick {s : State} {l : Nat} (hl : l < 32) (hp : s.paired l = false) (n : Nat) :
    State.TickStep l n s (s.chanTick l n) := by
  unfold State.chanTick
  extract_lets c lp v gap
  split
  · next hm => exact State.TickStep.idle n (Or.inl hm)
  · next r hm =>
    split
    · next hi =>
      have hi' : (s.chan l).switching = false ∨ (s.chan l).ssFrom = none := by simpa [c] using hi
      exact State.TickStep.idle n (Or.inr hi')
    · next hi =>
      have hsw : (s.chan l).switching = true := by
        have hi' : ¬ ((s.chan l).switching = false ∨ (s.chan l).ssFrom = none) := by simpa [c] using hi
        rw [← Bool.not_eq_false]
        exact fun h => hi' (Or.inl h)
      obtain ⟨⟨integ, m⟩, hx⟩ : ∃ x, x = controlLaw r lp (s.railOf r.rail) c (interp n c.inHist).toInt v := ⟨_, rfl⟩
      rw [← hx]
      dsimp -zeta only
      extract_lets w s1 s2
      have hs1 : s1 = s.setHalf l { c with integ := if gap then c.integ else integ, u := w } := State.setChan_alone hp _
      have hc1 : s1.chan l = { c with integ := if gap then c.integ else integ, u := w } := by
        rw [hs1]
        exact s.setHalf_chan_self hl _
      have hcyc : State.Cycled l s1 s2 := State.Cycled.cycles hl s1 l n r c.u w
      have hp2 : ¬ s2.paired l = true := by
        rw [hcyc.rest.paired, hs1]
        exact ne_true_of_eq_false hp
      rw [if_neg hp2]
      have hself := hcyc.self
      rw [hc1] at hself
      have hon : s.Ticked s1 := by
        rw [hs1]
        exact State.Ticked.setHalf s l _
      refine ⟨hon.trans hcyc.rest, fun j hj => ?_, ?_, ?_,
        ⟨hself.csT, hself.vsT, hself.st, hself.gain, fun h => ?_, fun r' hr hb hf _ _ hgap => ?_⟩⟩
      · rw [hcyc.other j hj, hs1, s.setHalf_chan_other hj]
      · rw [hcyc.convs, hs1]
        rfl
      · rw [hcyc.rails, hs1]
        rfl
      · rw [hsw] at h
        exact absurd h (by decide)
      · have hrr : r = r' := Option.some.inj (hm.symm.trans hr)
        subst hrr
        have hg : gap = false := hgap
        have hw : w = m := by simp only [w, hg, Bool.false_eq_true, if_false]
        rw [hself.u, hw]
        exact (congrArg Prod.snd hx).trans (controlLaw_open hb hf lp _ c _ v)

/-- A channel's control tick with its share of the DC block. -/
def State.tickOne (n : Nat) (s : State) (l : Nat) : State :=
  let s := s.chanTick l n
  let c := s.chan l
  if c.st = .run then s.setHalf l { c with dcSum := c.dcSum + s.vsQuantity l, dcN := c.dcN + 1 } else s

theorem State.TickStep.tickOne {s : State} {l : Nat} (hl : l < 32) (hp : s.paired l = false) (n : Nat) :
    State.TickStep l n s (s.tickOne n l) := by
  have h := State.TickStep.chanTick hl hp n
  unfold State.tickOne
  extract_lets u c
  split
  · have hc := u.setHalf_chan_self hl { c with dcSum := c.dcSum + u.vsQuantity l, dcN := c.dcN + 1 }
    have hs := h.self
    refine ⟨h.rest.trans (State.Ticked.setHalf u l _), fun j hj => (u.setHalf_chan_other hj _).trans (h.other j hj), h.convs, h.rails, ?_⟩
    rw [hc]
    exact ⟨hs.csT, hs.vsT, hs.st, hs.gain, hs.rests, hs.modulates⟩
  · exact h

theorem State.TickOf.congr {s u : State} {l n : Nat} {c d : Chan} (h : u.TickOf l n c d) (g : s.Ticked u) : s.TickOf l n c d :=
  ⟨h.csT, h.vsT, h.st, h.gain, h.rests, fun r hr hb hf hsw hss hgap =>
    h.modulates r ((g.modRec l).trans hr) hb hf hsw hss (g.gap.trans hgap)⟩

/-- The control ticks of all channels. -/
theorem State.tickAll {s : State} (hp : ∀ k, s.paired k = false) (n : Nat) {m : Nat} (hm : m ≤ 32) :
    s.Ticked ((List.range m).foldl (State.tickOne n) s) ∧
      ((List.range m).foldl (State.tickOne n) s).pst.rails = s.pst.rails ∧
      ∀ k, if k < m then s.TickOf k n (s.chan k) (((List.range m).foldl (State.tickOne n) s).chan k)
        else ((List.range m).foldl (State.tickOne n) s).chan k = s.chan k := by
  induction m with
  | zero => exact ⟨State.Ticked.refl s, rfl, fun k => by simp⟩
  | succ m ih =>
    obtain ⟨ht, hr, hc⟩ := ih (by omega)
    rw [List.range_succ, List.foldl_append, List.foldl_cons, List.foldl_nil]
    generalize (List.range m).foldl (State.tickOne n) s = u at ht hr hc ⊢
    have hstep := State.TickStep.tickOne (s := u) (l := m) (by omega) ((ht.paired m).trans (hp m)) n
    refine ⟨ht.trans hstep.rest, hstep.rails.trans hr, fun k => ?_⟩
    have hk := hc k
    by_cases hkm : k = m
    · subst hkm
      rw [if_neg (Nat.lt_irrefl k)] at hk
      rw [if_pos (Nat.lt_succ_self k), ← hk]
      exact hstep.self.congr ht
    · rw [hstep.other k hkm]
      have hlt : k < m + 1 ↔ k < m := by omega
      simpa only [hlt] using hk

/-! The readings of a tick (13 R385). -/

theorem State.setConv_fullRun_resv (s : State) (i j n : Nat) :
    ((s.setConv i { s.conv i with fullRun := n }).conv j).resv = (s.conv j).resv := by
  rw [State.setConv_conv]
  split
  · next h => rw [h.1]
  · rfl

/-- A channel with the readings of one more tick. -/
def Chan.read (c : Chan) (a b : Int) : Chan := { c with csT := c.csT ++ [a], vsT := c.vsT ++ [b] }

/-- From `s` to `u` the first `n` channels took their readings. -/
structure State.ChansRead (cs vs : Vector Int 32) (n : Nat) (s u : State) : Prop where
  rest : s.Ticked u
  chan : ∀ k, u.chan k = if k < n then (s.chan k).read (rd cs k) (rd vs k) else s.chan k
  resv : ∀ i, (u.conv i).resv = none
  rails : u.pst.rails = s.pst.rails

/-- What the tick does with the readings of one channel. -/
def State.readChan (cs vs : Vector Int 32) (scr : Vector Int 4) (k : Nat) (s : State) : State :=
  let a := max (-32768) (min (rd cs k) 32767)
  let b := max (-32768) (min (rd vs k) 32767)
  let c := s.chan k
  let s := s.setHalf k { c with csT := c.csT ++ [s.readingOf k a scr], vsT := c.vsT ++ [s.readingOf (32 + k) b scr] }
  (s.fullScale k a (-32768) 32767).fullScale (32 + k) b (-32768) 32767

theorem State.readingOf_own {s : State} {i : Nat} (h : (s.conv i).resv = none) (own : Int) (scr : Vector Int 4) :
    s.readingOf i own scr = own := by
  unfold State.readingOf
  rw [h]

theorem State.ChansRead.step {cs vs : Vector Int 32} {n : Nat} {s u : State} (h : State.ChansRead cs vs n s u) (hn : n < 32)
    (hc : -32768 < rd cs n ∧ rd cs n < 32767) (hv : -32768 < rd vs n ∧ rd vs n < 32767) (scr : Vector Int 4) :
    State.ChansRead cs vs (n + 1) s (u.readChan cs vs scr n) := by
  have ha : max (-32768) (min (rd cs n) 32767) = rd cs n := by omega
  have hb : max (-32768) (min (rd vs n) 32767) = rd vs n := by omega
  have hcn : u.chan n = s.chan n := by rw [h.chan, if_neg (Nat.lt_irrefl n)]
  unfold State.readChan
  rw [ha, hb]
  dsimp only
  rw [State.readingOf_own (h.resv n), State.readingOf_own (h.resv (32 + n)), hcn]
  obtain ⟨w, hw⟩ : ∃ w, w = u.setHalf n ((s.chan n).read (rd cs n) (rd vs n)) := ⟨_, rfl⟩
  have hcw : ∀ k, w.chan k = if k < n + 1 then (s.chan k).read (rd cs k) (rd vs k) else s.chan k := by
    intro k
    rw [hw]
    by_cases hk : k = n
    · rw [hk, u.setHalf_chan_self hn, if_pos (Nat.lt_succ_self n)]
    · rw [u.setHalf_chan_other hk, h.chan]
      exact if_congr (by omega) rfl rfl
  have hrw : ∀ i, (w.conv i).resv = none := by
    rw [hw]
    exact h.resv
  have htw : s.Ticked w := by
    rw [hw]
    exact h.rest.trans (State.Ticked.setHalf u n _)
  have hlw : w.pst.rails = s.pst.rails := by
    rw [hw]
    exact h.rails
  have hrun : (u.setHalf n { s.chan n with csT := (s.chan n).csT ++ [rd cs n], vsT := (s.chan n).vsT ++ [rd vs n] }) = w := hw.symm
  rw [hrun, State.fullScale_inside hc.1 hc.2, State.fullScale_inside hv.1 hv.2]
  refine ⟨htw.trans ((State.Ticked.setConv w n _).trans (State.Ticked.setConv _ (32 + n) _)), hcw, fun i => ?_, hlw⟩
  rw [State.setConv_fullRun_resv, State.setConv_fullRun_resv, hrw]

theorem State.ChansRead.turns {cs vs : Vector Int 32} {s : State} (hresv : ∀ i, (s.conv i).resv = none)
    (hc : ∀ k, k < 32 → -32768 < rd cs k ∧ rd cs k < 32767) (hv : ∀ k, k < 32 → -32768 < rd vs k ∧ rd vs k < 32767)
    (scr : Vector Int 4) {n : Nat} (hn : n ≤ 32) : State.ChansRead cs vs n s (turns n s (State.readChan cs vs scr)) := by
  induction n with
  | zero => exact ⟨State.Ticked.refl s, fun _ => rfl, hresv, rfl⟩
  | succ n ih =>
    rw [turns_succ]
    exact (ih (by omega)).step (by omega) (hc n (by omega)) (hv n (by omega)) scr

/-- From `s` to `u` the first `n` rails took their readings. -/
structure State.RailsRead (rs : Vector Int 4) (n : Nat) (s u : State) : Prop where
  rest : s.Ticked u
  chans : u.pst.chans = s.pst.chans
  resv : ∀ i, (u.conv i).resv = none
  reading : ∀ r, r < n → ((u.railOf r).reading : Int) = rd rs r

/-- What the tick does with the reading of one rail. -/
def State.railRead (rs scr : Vector Int 4) (r : Nat) (s : State) : State :=
  let a := max 0 (min (rd rs r) 65535)
  let s := s.setRail r { s.railOf r with reading := (max 0 (min (s.readingOf (64 + r) a scr) 65535)).toNat }
  s.fullScale (64 + r) a (-1) 65535

theorem State.RailsRead.turns {rs : Vector Int 4} {s : State} (hresv : ∀ i, (s.conv i).resv = none)
    (hr : ∀ r, r < 4 → 0 ≤ rd rs r ∧ rd rs r < 65535) (scr : Vector Int 4) {n : Nat} (hn : n ≤ 4) :
    State.RailsRead rs n s (turns n s (State.railRead rs scr)) := by
  induction n with
  | zero => exact ⟨State.Ticked.refl s, rfl, hresv, fun _ h => absurd h (Nat.not_lt_zero _)⟩
  | succ n ih =>
    have h := ih (by omega)
    have hn4 := hr n (by omega)
    rw [turns_succ]
    obtain ⟨u, hu⟩ : ∃ u, u = Machine.turns n s (State.railRead rs scr) := ⟨_, rfl⟩
    rw [← hu] at h ⊢
    have ha : max 0 (min (rd rs n) 65535) = rd rs n := by omega
    unfold State.railRead
    rw [ha]
    dsimp only
    rw [State.readingOf_own (h.resv (64 + n)), ha, State.fullScale_inside (by omega) hn4.2]
    refine ⟨h.rest.trans ((State.Ticked.setRail u n _).trans (State.Ticked.setConv _ (64 + n) _)), h.chans, fun i => ?_, fun r hlt => ?_⟩
    · rw [State.setConv_fullRun_resv]
      exact h.resv i
    · rw [State.setConv_railOf]
      by_cases hrn : r = n
      · rw [hrn, u.setRail_railOf_self (by omega)]
        exact Int.toNat_of_nonneg hn4.1
      · rw [u.setRail_railOf_other hrn]
        exact h.reading r (by omega)

theorem State.servedBy_none {s : State} (h : ∀ i, (s.conv i).resv = none) (j : Nat) : s.servedBy j = none := by
  unfold State.servedBy
  exact List.find?_eq_none.mpr fun i _ => by simp [h i]

theorem State.modTick_eq {s : State} {n : Nat} {cs vs : Vector Int 32} {rs scr : Vector Int 4} (hn : n ≤ 31) (hd : s.domOn 12 = true)
    (hresv : ∀ i, ((turns 4 (turns 32 s (State.readChan cs vs scr)) (State.railRead rs scr)).conv i).resv = none) :
    s.modTick n cs vs rs scr =
      (turns 4 (turns 32 s (State.readChan cs vs scr)) (State.railRead rs scr)).leads.foldl (State.tickOne n)
        (turns 4 (turns 32 s (State.readChan cs vs scr)) (State.railRead rs scr)) := by
  have h : ¬ (decide (31 < n) || !s.domOn 12) = true := by
    rw [hd, decide_eq_false (by omega)]
    decide
  unfold State.modTick
  rw [if_neg h]
  extract_lets s1 s2 s3
  have hs2 : s2 = turns 4 (turns 32 s (State.readChan cs vs scr)) (State.railRead rs scr) := rfl
  rw [← hs2] at hresv ⊢
  have hs3 : s3 = s2 := turns_idle 4 fun j => by
    rw [State.servedBy_none hresv]
  rw [hs3]
  rfl

/-! Sense converters (13 R387, 18 R546). -/

section
variable {s : State} {i : Nat}

theorem State.setConv_conv_self (s : State) (hi : i < 72) (x : Conv) : (s.setConv i x).conv i = x := by
  rw [State.setConv_conv, if_pos ⟨rfl, hi⟩]

theorem State.setConv_conv_other (s : State) {j : Nat} (hj : j ≠ i) (x : Conv) : (s.setConv i x).conv j = s.conv j := by
  rw [State.setConv_conv, if_neg (fun h => hj h.1.symm)]

/-- A converter that has failed its check. -/
def Conv.gone (x : Conv) (due : Option Nat) : Conv :=
  { x with failed := true, passSince := none, open_ := true, resvDue := due, back := false }

theorem State.selfCheck_fails (hi : i < 68) (hd : s.domOn 12 = true) (hf : (s.conv i).failed = false) (hr : (s.conv i).resv = none)
    (hdue : (s.conv i).resvDue = none) :
    s.selfCheck i false = ((s.setConv i ((s.conv i).gone s.freeReserve)).raise 0x0906 (convZone i) i i).rebind := by
  have hrun : ¬ (decide (71 < i) || !s.domOn 12) = true := by
    rw [hd, decide_eq_false (by omega)]
    decide
  have hstart : s.selfCheck i false = s.convFail i false :=
    (if_neg hrun).trans ((if_pos rfl).trans (if_neg (Nat.not_le.mpr hi)))
  rw [hstart]
  unfold State.convFail Conv.gone
  simp [hf, hr, hdue, Nat.not_le.mpr hi]

/-- A converter that has passed its check for 100 ms. -/
def Conv.passed (x : Conv) : Conv :=
  { x with failed := false, passSince := none, back := x.resv.isSome, resvDue := none, open_ := false }

theorem State.setConv_setConv (s : State) (i : Nat) (x y : Conv) : (s.setConv i x).setConv i y = s.setConv i y := by
  have h : wr (wr s.pst.convs i x) i y = wr s.pst.convs i y := by
    unfold wr
    exact Vector.setIfInBounds_setIfInBounds ..
  show ({ s with pst := { s.pst with convs := wr (wr s.pst.convs i x) i y } } : State) = _
  rw [h]
  rfl

theorem State.senseEnds_open (ho : (s.conv i).open_ = true) :
    s.senseEnds i = ((s.setConv i { s.conv i with open_ := false }).endCond 0x0906 (convZone i) i).rebind := if_pos ho

theorem State.selfCheck_passes {u : Nat} (hi : i < 68) (hd : s.domOn 12 = true) (hf : (s.conv i).failed = true)
    (ht : (s.conv i).trimBad = false) (hfull : (s.conv i).fullRun < fullTicks s.per.baseRate) (hu : (s.conv i).passSince = some u)
    (hle : u + 100000000 ≤ s.now) (ho : (s.conv i).open_ = true) :
    s.selfCheck i true = ((s.setConv i (s.conv i).passed).endCond 0x0906 (convZone i) i).rebind := by
  have hrun : ¬ (decide (71 < i) || !s.domOn 12) = true := by
    rw [hd, decide_eq_false (by omega)]
    decide
  have hgood : ((s.conv i).failed && !(s.conv i).trimBad && decide ((s.conv i).fullRun < fullTicks s.per.baseRate)) = true := by
    simp [hf, ht, hfull]
  have hc := s.setConv_conv_self (show i < 72 by omega)
    { s.conv i with failed := false, passSince := none, back := (s.conv i).resv.isSome, resvDue := none }
  unfold State.selfCheck
  rw [if_neg hrun]
  dsimp only
  rw [if_neg (show ¬ (!true) = true by decide), if_neg (Nat.not_le.mpr hi), if_pos hgood, hu]
  dsimp only
  rw [if_pos hle, State.senseEnds_open (by rw [hc]; exact ho), hc, State.setConv_setConv]
  rfl

/-- From `s` to `u` the first `n` converters took their trims. -/
structure State.Swept (trims : Vector (Option (Int × Int)) 68) (n : Nat) (s u : State) : Prop where
  rest : s.Ticked u
  conv : ∀ i, u.conv i = if i < n then { s.conv i with trim := (rd trims i).getD (s.conv i).trim } else s.conv i

/-- The state in which a calibration sweep runs. -/
def State.sweeping (s : State) : State := { s with hlt := { s.hlt with calBlocked := false, lastSweep := s.now } }

theorem State.Swept.turns {trims : Vector (Option (Int × Int)) 68} {f : Nat → State → State}
    (hf : ∀ u i v, (u.conv i).failed = false → (u.conv i).trimBad = false → rd trims i = some v →
      f i u = u.setConv i { u.conv i with trim := v })
    (hok : ∀ i, (s.conv i).failed = false ∧ (s.conv i).trimBad = false) (ht : ∀ i, i < 68 → (rd trims i).isSome = true)
    {n : Nat} (hn : n ≤ 68) : State.Swept trims n s (turns n s f) := by
  induction n with
  | zero => exact ⟨State.Ticked.refl s, fun _ => rfl⟩
  | succ n ih =>
    obtain ⟨hrest, hconv⟩ := ih (by omega)
    rw [turns_succ]
    obtain ⟨u, hu⟩ : ∃ u, u = Machine.turns n s f := ⟨_, rfl⟩
    rw [← hu] at hrest hconv ⊢
    obtain ⟨v, hv⟩ := Option.isSome_iff_exists.mp (ht n (by omega))
    have hcn : u.conv n = s.conv n := by rw [hconv, if_neg (Nat.lt_irrefl n)]
    rw [hf u n v (by rw [hcn]; exact (hok n).1) (by rw [hcn]; exact (hok n).2) hv]
    refine ⟨hrest.trans (State.Ticked.setConv u n _), fun i => ?_⟩
    by_cases hi : i = n
    · rw [hi, u.setConv_conv_self (by omega), if_pos (Nat.lt_succ_self n), hcn, hv]
      rfl
    · rw [u.setConv_conv_other hi, hconv]
      exact if_congr (by omega) rfl rfl

theorem State.calSweep_trims {trims : Vector (Option (Int × Int)) 68} {r : Nat} (hcal : s.hlt.calInterval ≠ 0) (hd : s.domOn 12 = true)
    (hr : s.freeReserve = some r) (hok : ∀ i, (s.conv i).failed = false ∧ (s.conv i).trimBad = false)
    (ht : ∀ i, i < 68 → (rd trims i).isSome = true) : State.Swept trims 68 s.sweeping (s.calSweep trims) := by
  unfold State.calSweep
  rw [if_neg (by simp [hcal, hd]), hr]
  refine State.Swept.turns (s := s.sweeping) (fun u i v hf hb hv => ?_) hok ht (Nat.le_refl 68)
  dsimp only
  rw [hf, hb, hv]
  rfl

end

theorem rd_eq_get {α : Type} [Inhabited α] {n : Nat} (v : Vector α n) (i : Fin n) : rd v i = v.get i := by
  simp [rd, Vector.get]

theorem State.modTick_spec {s : State} {n : Nat} {cs vs : Vector Int 32} {rs : Vector Int 4} (hn : n ≤ 31) (hd : s.domOn 12 = true)
    (hp : ∀ k, s.paired k = false) (hresv : ∀ i, (s.conv i).resv = none)
    (hc : ∀ k, k < 32 → -32768 < rd cs k ∧ rd cs k < 32767) (hv : ∀ k, k < 32 → -32768 < rd vs k ∧ rd vs k < 32767)
    (hr : ∀ r, r < 4 → 0 ≤ rd rs r ∧ rd rs r < 65535) (scr : Vector Int 4) :
    s.Ticked (s.modTick n cs vs rs scr) ∧ (∀ r, r < 4 → (((s.modTick n cs vs rs scr).railOf r).reading : Int) = rd rs r) ∧
      ∀ k, k < 32 → s.TickOf k n ((s.chan k).read (rd cs k) (rd vs k)) ((s.modTick n cs vs rs scr).chan k) := by
  have h1 := State.ChansRead.turns hresv hc hv scr (Nat.le_refl 32)
  have h2 := State.RailsRead.turns h1.resv hr scr (Nat.le_refl 4)
  rw [State.modTick_eq hn hd h2.resv]
  have ht2 := h1.rest.trans h2.rest
  obtain ⟨w, hw⟩ : ∃ w, w = turns 4 (turns 32 s (State.readChan cs vs scr)) (State.railRead rs scr) := ⟨_, rfl⟩
  rw [← hw] at h2 ht2 ⊢
  have hpw : ∀ k, w.paired k = false := fun k => (ht2.paired k).trans (hp k)
  rw [State.leads_alone hpw]
  obtain ⟨ht, hrails, hchans⟩ := State.tickAll hpw n (Nat.le_refl 32)
  refine ⟨ht2.trans ht, fun r hlt => ?_, fun k hk => ?_⟩
  · rw [← h2.reading r hlt]
    exact congrArg (fun v => ((rd v r).reading : Int)) hrails
  · have hcw : w.chan k = (s.chan k).read (rd cs k) (rd vs k) :=
      (congrArg (fun v => rd v k) h2.chans).trans ((h1.chan k).trans (if_pos hk))
    have hk' := hchans k
    rw [if_pos hk, hcw] at hk'
    exact hk'.congr ht2

/-! The rows. -/

section
variable {s : State}

theorem State.railOut_spec {r reading : Nat} {cfg : RailCfg} (hp : ∀ k, s.paired k = false) (hd : s.domOn 12 = true) (hr : r < 4)
    (hle : reading ≤ 65535) (hc : (s.railOf r).cfg = some cfg) (ho : (s.railOf r).outside = false)
    (hlow : reading * cfg.rsFs < cfg.uv * 65536) :
    (s.railOut r reading).railOf r = (s.railOf r).low reading cfg ∧
      s.raised (s.railOut r reading) 0x0908 0xA0 r (packBits [(8, r), (32, reading * cfg.rsFs / 65536)]) ∧
      (∀ k m, k < 32 → s.modRec k = some m → m.rail = r → ((s.railOut r reading).chan k).rail = true) ∧
      ∀ j, j ≠ r → (s.railOut r reading).railOf j = s.railOf j := by
  rw [State.railOut_low hd hle hc ho hlow]
  obtain ⟨w, hw⟩ : ∃ w, w = (s.setRail r ((s.railOf r).low reading cfg)).raise 0x0908 0xA0 r
    (packBits [(8, r), (32, reading * cfg.rsFs / 65536)]) := ⟨_, rfl⟩
  rw [← hw]
  have hreb := State.Rebound.rebind w
  have hrail : w.railOf r = (s.railOf r).low reading cfg := by
    rw [hw]
    exact s.setRail_railOf_self hr _
  have hmod : ∀ k, w.modRec k = s.modRec k := fun k => by rw [hw]; rfl
  have hraised : s.raised w 0x0908 0xA0 r (packBits [(8, r), (32, reading * cfg.rsFs / 65536)]) := by
    rw [hw]
    exact State.raised_raise (s := s) (u := s.setRail r ((s.railOf r).low reading cfg)) rfl _ _ _ _
  have hpw : ∀ k, w.paired k = false := fun k => by rw [hw]; exact hp k
  refine ⟨by rw [hreb.railOf, hrail], hraised.congr hreb.flt hreb.now, fun k m hk hm hmr => ?_, fun j hj => ?_⟩
  · rw [State.rebind_rail hpw hk ((hmod k).trans hm), State.railDue_of ((hmod k).trans hm), hmr, hrail]
    exact Bool.or_true _
  · rw [hreb.railOf, hw]
    exact s.setRail_railOf_other hj _

theorem State.railIn_spec {r reading : Nat} {cfg : RailCfg} (hp : ∀ k, s.paired k = false) (hd : s.domOn 12 = true) (hr : r < 4)
    (hle : reading ≤ 65535) (hc : (s.railOf r).cfg = some cfg) (ho : (s.railOf r).outside = true)
    (hlo : (50 * cfg.uv + cfg.nom) * 65536 ≤ reading * cfg.rsFs * 50)
    (hhi : reading * cfg.rsFs * 50 ≤ (50 * cfg.ov - cfg.nom) * 65536) :
    (s.railIn r reading).railOf r = (s.railOf r).good reading ∧ (s.railIn r reading).hasCond 0x0908 0xA0 r = false ∧
      (s.railIn r reading).hasCond 0x0909 0xA0 r = false ∧
      (∀ k m, k < 32 → s.modRec k = some m → m.rail = r → ((s.railIn r reading).chan k).rail = false) ∧
      ∀ j, j ≠ r → (s.railIn r reading).railOf j = s.railOf j := by
  rw [State.railIn_good hd hle hc ho hlo hhi]
  obtain ⟨w, hw⟩ : ∃ w, w = ((s.setRail r ((s.railOf r).good reading)).endCond 0x0908 0xA0 r).endCond 0x0909 0xA0 r := ⟨_, rfl⟩
  rw [← hw]
  have hreb := State.Rebound.rebind w
  have hrail : w.railOf r = (s.railOf r).good reading := by
    rw [hw]
    exact s.setRail_railOf_self hr _
  have hmod : ∀ k, w.modRec k = s.modRec k := fun k => by rw [hw]; rfl
  have hpw : ∀ k, w.paired k = false := fun k => by rw [hw]; exact hp k
  have hconds : w.rebind.flt.conds = w.flt.conds := by rw [hreb.flt]
  refine ⟨by rw [hreb.railOf, hrail], ?_, ?_, fun k m hk hm hmr => ?_, fun j hj => ?_⟩
  · rw [State.hasCond_congr hconds, hw]
    exact State.hasCond_endCond_of _ _ _ _ (State.hasCond_endCond_self _ _ _ _)
  · rw [State.hasCond_congr hconds, hw]
    exact State.hasCond_endCond_self _ _ _ _
  · rw [State.rebind_rail hpw hk ((hmod k).trans hm), State.railDue_of ((hmod k).trans hm), hmr, hrail]
    unfold Rail.bad Rail.good
    rw [hc]
    rfl
  · rw [hreb.railOf, hw]
    exact s.setRail_railOf_other hj _

theorem State.dcEval_latches {k : Nat} {c : Chan} {d : Nat} (hk : k < 32) (hp : s.paired k = false) (hst : (s.chan k).st = .run)
    (hstop : (s.chan k).stop = none) (hc : c = (s.chan k).dcLatched) :
    ∃ w, ((s.setHalf k c).enter k .latched) = w ∧ w.flt = s.flt ∧ w.now = s.now ∧ w.chan k = c.into .latched ∧
      (∀ j, j ≠ k → w.chan j = s.chan j) ∧ s.raised (w.raise 0x0903 (chanZone k) k d) 0x0903 (chanZone k) k d := by
  have hc1 := s.setHalf_chan_self hk c
  have hon1 := State.OnChan.setHalf k s c
  have hflt1 := State.setHalf_flt s k c
  obtain ⟨v, hv⟩ : ∃ v, v = s.setHalf k c := ⟨_, rfl⟩
  rw [← hv] at hc1 hon1 hflt1 ⊢
  have hst1 : (v.chan k).st = .run := by rw [hc1, hc]; exact hst
  have hstop1 : (v.chan k).stop = none := by rw [hc1, hc]; exact hstop
  rw [State.enter_alone ((hon1.paired k).trans hp) (by rw [hst1]; decide) (Or.inl hstop1)]
  have hon := (hon1.trans (State.OnChan.entered k v .latched)).trans (State.OnChan.event k _ 6)
  have hflt : ((v.entered k .latched).event 6).flt = s.flt := by
    rw [State.event_flt, State.entered_flt (by rw [hst1]; rfl), hflt1]
  refine ⟨(v.entered k .latched).event 6, rfl, hflt, hon.now, ?_, hon.other, State.raised_raise (congrArg Flt.reports hflt) _ _ _ _⟩
  rw [State.event_chan, State.entered_chan hk, hc1]

theorem State.selfCheck_fails_spec {i : Nat} (hi : i < 68) (hd : s.domOn 12 = true) (hf : (s.conv i).failed = false)
    (hr : (s.conv i).resv = none) (hdue : (s.conv i).resvDue = none) :
    (s.selfCheck i false).conv i = (s.conv i).gone s.freeReserve ∧ s.raised (s.selfCheck i false) 0x0906 (convZone i) i i ∧
      ∀ j, j ≠ i → (s.selfCheck i false).conv j = s.conv j := by
  rw [State.selfCheck_fails hi hd hf hr hdue]
  obtain ⟨w, hw⟩ : ∃ w, w = (s.setConv i ((s.conv i).gone s.freeReserve)).raise 0x0906 (convZone i) i i := ⟨_, rfl⟩
  rw [← hw]
  have hreb := State.Rebound.rebind w
  have hraised : s.raised w 0x0906 (convZone i) i i := by
    rw [hw]
    exact State.raised_raise (s := s) (u := s.setConv i ((s.conv i).gone s.freeReserve)) rfl _ _ _ _
  refine ⟨?_, hraised.congr hreb.flt hreb.now, fun j hj => ?_⟩
  · rw [hreb.conv, hw]
    exact s.setConv_conv_self (by omega) _
  · rw [hreb.conv, hw]
    exact s.setConv_conv_other hj _

theorem State.selfCheck_passes_spec {i u : Nat} (hi : i < 68) (hd : s.domOn 12 = true) (hf : (s.conv i).failed = true)
    (ht : (s.conv i).trimBad = false) (hfull : (s.conv i).fullRun < fullTicks s.per.baseRate) (hu : (s.conv i).passSince = some u)
    (hle : u + 100000000 ≤ s.now) (ho : (s.conv i).open_ = true) :
    (s.selfCheck i true).conv i = (s.conv i).passed ∧ (s.selfCheck i true).hasCond 0x0906 (convZone i) i = false := by
  rw [State.selfCheck_passes hi hd hf ht hfull hu hle ho]
  obtain ⟨w, hw⟩ : ∃ w, w = (s.setConv i (s.conv i).passed).endCond 0x0906 (convZone i) i := ⟨_, rfl⟩
  rw [← hw]
  have hreb := State.Rebound.rebind w
  constructor
  · rw [hreb.conv, hw]
    exact s.setConv_conv_self (by omega) _
  · rw [State.hasCond_congr (congrArg Flt.conds hreb.flt), hw]
    exact State.hasCond_endCond_self _ _ _ _

end

/-- Settles O36: rails, DC blocks and converters by the equations of their rows and the frame of `State.rebind`, a control tick by
its readings and then channel after channel. -/
theorem railsAndDc : Obligations.RailsAndDc := by
  unfold Obligations.RailsAndDc
  refine ⟨fun s tm hp hd => ⟨?_, ?_, ?_⟩, fun s tm hd => ⟨?_, ?_, ?_, ?_⟩⟩
  · intro r reading cfg hr hle hc ho hlow
    obtain ⟨hrail, hraised, hchan, hother⟩ := State.railOut_spec (s := s.at_ tm) hp hd hr hle hc ho hlow
    exact ⟨_, rfl, by rw [hrail]; rfl, by rw [hrail]; rfl, by rw [hrail]; rfl, hraised, hchan, hother⟩
  · intro r reading cfg hr hle hc ho hnom hlo hhi
    obtain ⟨hrail, huv, hov, hchan, hother⟩ := State.railIn_spec (s := s.at_ tm) hp hd hr hle hc ho hlo hhi
    exact ⟨_, rfl, by rw [hrail]; rfl, by rw [hrail]; rfl, by rw [hrail]; rfl, huv, hov, hchan, hother⟩
  · intro k sum n r cfg lp hk he hr hc hl hst hstop hn hsum hhit hsign
    have hrun := State.dcEval_hit (hp k) he hr hc hl hst hn hsum hhit hsign
    by_cases hlast : (s.chan k).dcRun + 1 < (r.dcTimeMs + 9) / 10
    · rw [if_pos hlast] at hrun
      refine ⟨_, congrArg Host.Outcome.next hrun, ?_, (State.OnChan.setHalf k s _).other⟩
      rw [if_pos hlast, s.setHalf_chan_self hk]
      exact ⟨rfl, hst, rfl⟩
    · obtain ⟨w, hw, -, -, hcw, hother, hraised⟩ :=
        State.dcEval_latches (d := (BitVec.ofInt 32 (sum / (n : Int))).toNat) hk (hp k) hst hstop rfl
      rw [if_neg hlast, hw] at hrun
      refine ⟨_, congrArg Host.Outcome.next hrun, ?_, hother⟩
      rw [if_neg hlast, State.raise_chan, hcw]
      exact ⟨Chan.into_st _ _, rfl, rfl, hraised⟩
  · intro n cs vs rs scr hn hp hresv hcv hrs
    obtain ⟨ht, hr, hc⟩ := State.modTick_spec (s := s.at_ tm) (cs := cs) (vs := vs) (rs := rs) hn hd hp hresv
      (fun k hk => by rw [rd_eq_get cs ⟨k, hk⟩]; exact ⟨(hcv ⟨k, hk⟩).1, (hcv ⟨k, hk⟩).2.1⟩)
      (fun k hk => by rw [rd_eq_get vs ⟨k, hk⟩]; exact (hcv ⟨k, hk⟩).2.2)
      (fun r hr => by rw [rd_eq_get rs ⟨r, hr⟩]; exact hrs ⟨r, hr⟩) scr
    refine ⟨_, rfl, ht.flt, fun k => ?_, fun i => ?_⟩
    · obtain ⟨hcs, hvs, hst, hgain, hrests, hmod⟩ := hc k k.isLt
      rw [rd_eq_get, rd_eq_get] at hcs hvs
      exact ⟨hcs, hvs, hst, hgain, hrests, fun r hm hb hf hsw hss hgap => hmod r hm hb hf hsw hss hgap⟩
    · rw [hr i i.isLt, rd_eq_get]
  · intro i hi hf hr hdue
    obtain ⟨hconv, hraised, hother⟩ := State.selfCheck_fails_spec (s := s.at_ tm) hi hd hf hr hdue
    exact ⟨_, rfl, by rw [hconv]; rfl, by rw [hconv]; rfl, by rw [hconv]; rfl, hraised, hother⟩
  · intro i u hi hf ht hfull hu hle ho
    obtain ⟨hconv, hcond⟩ := State.selfCheck_passes_spec (s := s.at_ tm) hi hd hf ht hfull hu hle ho
    exact ⟨_, rfl, by rw [hconv]; rfl, by rw [hconv]; rfl, by rw [hconv]; rfl, hcond⟩
  · intro trims r hcal hr hok ht
    have hs := State.calSweep_trims (s := s.at_ tm) (trims := trims) hcal hd hr hok
      (fun i hi => by rw [rd_eq_get trims ⟨i, hi⟩]; exact Option.isSome_iff_ne_none.mpr (ht ⟨i, hi⟩))
    refine ⟨_, rfl, ?_, ?_, fun i => ?_⟩
    · exact (congrArg (fun u : State => u.hlt.lastSweep) hs.rest).trans rfl
    · exact hs.rest.flt
    · rw [hs.conv, if_pos i.isLt]
      obtain ⟨v, hv⟩ := Option.ne_none_iff_exists'.mp (ht i)
      rw [rd_eq_get, hv]
      exact ⟨rfl, (hok i).1⟩

end Sys2Proof.Machine
end

section
/-!
SUPPORT. Commands of the power stage (13 R393, R396, R403 to R408): settles O37.
-/
namespace Sys2Proof.Machine

/-- A host command whose run leaves it in flight is started, the run doing no more to the ports than to signal messages. -/
theorem State.starts_of_map {s : State} {op : State → State} {i : Instr} {c : CmdInfo} (h : s.meets i c) (hop : s.PortsMap op)
    (hrun : ∀ (P : Ports) (f : Flight), s.ports.running P c f →
      runCmd (s.runCtx c f) i { s with ports := P } = (.later, op { s with ports := P }))
    (htw : (op s).tw = s.tw) (hno : ∀ e addr len img, i ≠ .structBootWrite e addr len img := by simp)
    (hex : exec i s = .next (s.hostCmd i) := by rfl) : s.starts i c (op s) := by
  have hsig := hop.signalled
  obtain ⟨g, hg, hs⟩ := hop
  obtain ⟨P, f, k, hP, hcmd, he⟩ := State.hostCmd_runs h
  rw [hrun P f hP, hg P] at he
  have hsame := (hs P).same
  have hw : f.waits = false := by
    by_contra hne
    obtain ⟨e, a, l, m, hc⟩ := f.waits_cmd (by simpa using hne)
    exact hno e a l m (by rw [← hcmd, hc])
  have hkept : P.hostWrites = s.ports.hostWrites ∧ P.pc.keys = s.ports.pc.keys := by
    obtain ⟨pa, pb, pc, pd, m, n, e⟩ := hP.rest
    rw [e]
    exact ⟨rfl, rfl⟩
  have hserve := State.serveN_running (u := op s) (Q := g P) h hP htw
    (fun q => by rw [(hsame.1 q).flights]; exact Ports.running.settled h hP hw q) (fun q => (hsame.1 q).placed) hsame.2
    (hsame.1 .D).avail (hsame.1 .D).head (k + 1)
  refine ⟨{ op s with ports := g P }, f, by rw [hex, he]; exact congrArg _ hserve, ⟨?_, ?_, ?_, fun q hq => ?_, hP.tag, hP.handle⟩,
    hcmd, rfl, ?_, ?_⟩
  · show ((g P).get c.env.port).ring.map Entry.plain = _
    rw [(hsame.1 _).ring, hP.ring, hP.handle]
    rfl
  · exact (hsame.1 _).avail.trans hP.avail
  · exact (hsame.1 _).flights.trans hP.flights
  · exact (hsame.1 q).flights.trans (congrArg PortS.flights (hP.other q hq))
  · exact (hs P).writes.trans (hkept.1.trans hsig.writes.symm)
  · exact (hs P).keys.trans (hkept.2.trans hsig.keys.symm)

/-! A channel that a mask names. -/

section
variable {s : State} {k : Nat}

theorem one_shift_ne_zero (hk : k < 32) : 1#32 <<< k ≠ 0 := by
  intro h
  have hbit := congrArg (fun m : BitVec 32 => m.getLsbD k) h
  simp [hk] at hbit

theorem State.named_one (hk : k < 32) (hp : s.paired k = false) : s.named (1#32 <<< k) = [k] := by
  have hbit : ∀ j ∈ List.range 32, (1#32 <<< k).getLsbD j = (j == k) := by
    intro j hj
    have hj : j < 32 := List.mem_range.mp hj
    rw [BitVec.getLsbD_shiftLeft, BitVec.getLsbD_one, Bool.eq_iff_iff]
    simp [hj]
    omega
  have hfilter : (List.range 32).filter (fun j => (1#32 <<< k).getLsbD j) = [k] := by
    rw [List.filter_congr hbit, List.filter_beq, List.count_eq_one_of_mem List.nodup_range (List.mem_range.mpr hk)]
    rfl
  unfold State.named
  rw [hfilter, List.map_singleton, State.lead_alone hp]
  rfl

theorem State.halfMask_one (hp : s.paired k = false) : s.halfMask [k] = 2 ^ k := by
  simp [State.halfMask, State.halves_alone hp]

/-! The operations of PSTAGE_CLEAR, PSTAGE_STOP and PSTAGE_START on a channel of its own (13 R407). -/

/-- What PSTAGE_CLEAR does to a LATCHED channel. -/
def State.clearLatch (s : State) (l : Nat) : State :=
  let s := s.setChan l { (s.chan l) with hist := [], latchDc := false }
  s.enter l (if !s.enabled l then .off else if s.held (s.chan l) then .held else .softstart)

/-- The state that a channel takes when its latch is cleared. -/
def State.unlatched (s : State) (k : Nat) : ChSt :=
  if s.enabled k = false then .off else if s.held (s.chan k) then .held else .softstart

theorem State.unlatched_not_faulted (s : State) (k : Nat) : (s.unlatched k).faulted = false := by
  unfold State.unlatched
  split
  · rfl
  · split <;> rfl

/-- A channel whose trips are forgotten. -/
def Chan.unlatched (c : Chan) : Chan := { c with hist := [], latchDc := false }

theorem State.clearLatch_alone (hk : k < 32) (hp : s.paired k = false) (hst : (s.chan k).st = .latched)
    (hstop : (s.chan k).stop = none) :
    s.clearLatch k = (s.setHalf k (s.chan k).unlatched).entered k (s.unlatched k) := by
  obtain ⟨u, hu⟩ : ∃ u, u = s.setHalf k (s.chan k).unlatched := ⟨_, rfl⟩
  have huk : u.chan k = (s.chan k).unlatched := by rw [hu]; exact s.setHalf_chan_self hk _
  have hpu : u.paired k = false := by rw [hu]; exact hp
  have hnext : (if !u.enabled k then ChSt.off else if u.held (u.chan k) then ChSt.held else ChSt.softstart) = s.unlatched k := by
    have hen : u.enabled k = s.enabled k := by rw [hu]; rfl
    have hheld : u.held (s.chan k).unlatched = s.held (s.chan k) := by rw [hu]; rfl
    rw [huk, hen, hheld]
    unfold State.unlatched
    cases s.enabled k <;> rfl
  have hne : (u.chan k).st ≠ s.unlatched k := by
    have hf := s.unlatched_not_faulted k
    intro h
    rw [← h, huk, show (s.chan k).unlatched.st = (s.chan k).st from rfl, hst] at hf
    exact absurd hf (by decide)
  have hset : s.clearLatch k =
      u.enter k (if !u.enabled k then ChSt.off else if u.held (u.chan k) then ChSt.held else ChSt.softstart) := by
    rw [hu, ← State.setChan_alone hp]
    rfl
  rw [← hu, hset, hnext, State.enter_alone hpu hne (Or.inl (by rw [huk]; exact hstop)), s.unlatched_not_faulted k]
  rfl

theorem Chan.into_hist (c : Chan) (st : ChSt) : (c.into st).hist = c.hist := by cases st <;> rfl

theorem Chan.into_latchDc (c : Chan) (st : ChSt) : (c.into st).latchDc = c.latchDc := by cases st <;> rfl

/-- Leaving LATCHED ends the condition of the latch. -/
theorem State.entered_latchEnded {st : ChSt} (h : (s.chan k).st.faulted = true) (hst : st.faulted = false) :
    (s.entered k st).hasCond 0x0902 (chanZone k) k = false := by
  have hc : (s.tripEnded k).hasCond 0x0902 (chanZone k) k = false :=
    State.hasCond_endCond_of _ _ _ _ (State.hasCond_endCond_self _ _ _ _)
  unfold State.entered
  rw [h, hst]
  exact hc

/-- A channel under HOST, its stop ramp due where it switches. -/
def Chan.hosted (c : Chan) : Chan := { c with host := true, stop := if c.switching && c.stop.isNone then some none else c.stop }

theorem State.hostHold_alone (hp : s.paired k = false) (hh : (s.chan k).host = false) :
    s.hostHold k = (s.setHalf k (s.chan k).hosted).event 6 := by
  unfold State.hostHold
  dsimp only
  rw [hh, State.setChan_alone hp]
  rfl

/-- A channel without HOST. -/
def Chan.unhosted (c : Chan) : Chan := { c with host := false }

/-- A channel that HOST no longer holds. -/
def State.released (s : State) (k : Nat) : Chan :=
  if (s.chan k).st = .held ∧ s.enabled k = true ∧ (s.chan k).resume = none ∧ s.held (s.chan k).unhosted = false then
    (s.chan k).unhosted.into .softstart
  else if (s.chan k).switching ∧ s.held (s.chan k).unhosted = true then
    (s.chan k).unhosted.into .held
  else (s.chan k).unhosted

theorem State.entered_resting {st : ChSt} (h : (s.chan k).st.faulted = false) :
    s.entered k st = s.setHalf k ((s.chan k).into st) := by
  unfold State.entered
  rw [h]
  rfl

/-- The holds of a channel of its own, seen again after its record was set; no stop ramp runs. -/
theorem State.holdChanged_setHalf {x : Chan} (hk : k < 32) (hp : s.paired k = false) (hstop : x.stop = none) (hhost : x.host = false) :
    (s.setHalf k x).holdChanged k = (s.event 6).setHalf k
      (if x.st = .held ∧ s.enabled k = true ∧ x.resume = none ∧ s.held x = false then x.into .softstart
        else if x.switching ∧ s.held x = true then x.into .held else x) := by
  have hxk : (s.setHalf k x).chan k = x := s.setHalf_chan_self hk x
  have henter : ∀ st : ChSt, x.st.faulted = false → st.faulted = false → x.st ≠ st →
      ((s.setHalf k x).event 6).enter k st = (s.event 6).setHalf k (x.into st) := by
    intro st hf hst hne
    have hxk' : ((s.setHalf k x).event 6).chan k = x := hxk
    rw [State.enter_alone (s := (s.setHalf k x).event 6) hp (by rw [hxk']; exact hne) (Or.inl (by rw [hxk']; exact hstop)), hst,
      State.entered_resting (by rw [hxk']; exact hf), hxk']
    exact (s.event 6).setHalf_setHalf k x _
  cases hheld : s.held x with
  | true =>
    have hout : (x.flt || x.rail || x.sense || s.pst.safeN || s.pst.tw) = true := by
      rw [← hheld, State.held, hhost, Bool.or_false]
    rw [State.holdChanged_of_held (s := s.setHalf k x) (by rw [hxk]; exact hheld), hxk,
      if_neg (c := x.st = .held ∧ s.enabled k = true ∧ x.resume = none ∧ true = false) (by simp)]
    cases hsw : x.switching with
    | false => rfl
    | true =>
      rw [if_pos (show (true && (x.flt || x.rail || x.sense || (s.setHalf k x).pst.safeN || (s.setHalf k x).pst.tw)) = true from hout), if_pos ⟨rfl, rfl⟩]
      exact henter .held (Chan.switching_not_faulted hsw) rfl (Chan.switching_ne_held hsw)
  | false =>
    rw [State.holdChanged_of_free (s := s.setHalf k x) (by rw [hxk]; exact hheld), hxk,
      show (s.setHalf k x).enabled k = s.enabled k from rfl, if_neg (c := x.switching = true ∧ false = true) (by simp)]
    by_cases hstart : x.st = .held ∧ s.enabled k = true ∧ x.resume = none
    · obtain ⟨h1, h2, h3⟩ := hstart
      rw [if_pos (by simp [h1, h2, h3]), if_pos ⟨h1, h2, h3, rfl⟩]
      exact henter .softstart (by rw [h1]; rfl) rfl (by rw [h1]; decide)
    · rw [if_neg (by simpa [and_assoc] using hstart), if_neg (fun h => hstart ⟨h.1, h.2.1, h.2.2.1⟩)]
      rfl

theorem State.release_alone (hk : k < 32) (hp : s.paired k = false) (hh : (s.chan k).host = true) (hstop : (s.chan k).stop = none) :
    s.setHold k Chan.unhosted = (s.event 6).setHalf k (s.released k) := by
  have hne : ¬ (s.chan k).unhosted = s.chan k := by
    intro h
    have hhost : false = (s.chan k).host := congrArg Chan.host h
    rw [hh] at hhost
    exact Bool.false_ne_true hhost
  have hset : s.setHold k Chan.unhosted = (s.setHalf k (s.chan k).unhosted).holdChanged k := by
    rw [← State.setChan_alone hp]
    exact if_neg hne
  rw [hset]
  exact State.holdChanged_setHalf hk hp hstop rfl

theorem State.released_st (s : State) (k : Nat) : (s.released k).st =
    if (s.chan k).st = .held ∧ s.enabled k = true ∧ (s.chan k).resume = none ∧ s.held (s.chan k).unhosted = false then .softstart
    else if (s.chan k).switching ∧ s.held (s.chan k).unhosted = true then .held else (s.chan k).st := by
  unfold State.released
  split
  · exact Chan.into_st _ _
  · split
    · exact Chan.into_st _ _
    · rfl

theorem Chan.into_host (c : Chan) (st : ChSt) : (c.into st).host = c.host := by cases st <;> rfl

theorem State.released_host (s : State) (k : Nat) : (s.released k).host = false := by
  unfold State.released
  split
  · exact Chan.into_host _ _
  · split
    · exact Chan.into_host _ _
    · rfl

/-! A rail takes a setting while no channel switches (13 R393, R394). -/

theorem State.PortsMap.setHalf (s : State) (l : Nat) (x : State → Chan) (hx : ∀ P, x { s with ports := P } = x s) :
    s.PortsMap (fun u => u.setHalf l (x u)) :=
  State.PortsMap.pure fun P => by dsimp only; rw [hx P]; rfl

theorem State.PortsMap.setChan (s : State) (l : Nat) (x : State → Chan) (hx : ∀ P, x { s with ports := P } = x s) :
    s.PortsMap (fun u => u.setChan l (x u)) :=
  State.PortsMap.pure fun P => by
    dsimp only
    rw [hx P]
    unfold State.setChan
    rw [show ({ s with ports := P } : State).paired l = s.paired l from rfl]
    cases s.paired l <;> rfl

/-- A channel that begins its soft start. -/
def Chan.starting (c : Chan) : Chan := { c with st := .softstart, ssFrom := none, hiccup := none }

theorem State.enter_starting {l : Nat} (h : (s.chan l).st = .held) : s.enter l .softstart = s.setChan l (s.chan l).starting := by
  unfold State.enter
  rw [if_neg (by rw [h]; decide)]
  simp only [h]
  rfl

theorem State.holdChanged_idle {l : Nat} (hsw : (s.chan l).switching = false) : s.holdChanged l =
    if s.held (s.chan l) = false ∧ (s.chan l).st = .held ∧ s.enabled l = true ∧ (s.chan l).resume = none then
      (s.event 6).setChan l (s.chan l).starting else s.event 6 := by
  cases hheld : s.held (s.chan l) with
  | true =>
    rw [State.holdChanged_of_held hheld, hsw]
    rfl
  | false =>
    rw [State.holdChanged_of_free hheld]
    by_cases hc : (s.chan l).st = .held ∧ s.enabled l = true ∧ (s.chan l).resume = none
    · rw [if_pos (by simp [hc]), if_pos ⟨rfl, hc⟩]
      exact State.enter_starting (s := s.event 6) hc.1
    · rw [if_neg (by simpa [and_assoc] using hc), if_neg (fun h => hc h.2)]

theorem State.PortsMap.holdChanged {l : Nat} (hsw : (s.chan l).switching = false) : s.PortsMap (fun u => u.holdChanged l) := by
  have hrest : ∀ P, ({ s with ports := P } : State).holdChanged l =
      if s.held (s.chan l) = false ∧ (s.chan l).st = .held ∧ s.enabled l = true ∧ (s.chan l).resume = none then
        (({ s with ports := P } : State).event 6).setChan l (s.chan l).starting else ({ s with ports := P } : State).event 6 :=
    fun P => State.holdChanged_idle (s := { s with ports := P }) hsw
  by_cases hc : s.held (s.chan l) = false ∧ (s.chan l).st = .held ∧ s.enabled l = true ∧ (s.chan l).resume = none
  · exact ((State.PortsMap.event s 6).comp (State.PortsMap.setChan (s.event 6) l (fun _ => (s.chan l).starting) fun _ => rfl)).congr
      fun P => (hrest P).trans (if_pos hc)
  · exact (State.PortsMap.event s 6).congr fun P => (hrest P).trans (if_neg hc)

/-- The hold causes that follow a rail and a channel's converters. -/
def Chan.bound (c : Chan) (rail sense : Bool) : Chan := { c with rail := rail, sense := sense }

theorem State.chan_setChan_lead (s : State) {l : Nat} (hl : s.lead l = l) {j : Nat} (hj : s.lead j = j) (hne : j ≠ l) (x : Chan) :
    (s.setChan l x).chan j = s.chan j := by
  unfold State.setChan
  dsimp only
  cases hp : s.paired l with
  | false => exact State.setHalf_chan_other s hne x
  | true =>
    have hl2 : l / 2 * 2 = l := by rwa [State.lead, if_pos hp] at hl
    have hne' : j ≠ l + 1 := by
      intro h
      have hpj : s.paired j = true := by
        have heq : j / 2 = l / 2 := by omega
        rw [← hp]
        unfold State.paired
        rw [heq]
      have hj2 : j / 2 * 2 = j := by rwa [State.lead, if_pos hpj] at hj
      omega
    exact (State.setHalf_chan_other _ hne' _).trans (State.setHalf_chan_other s hne x)

theorem State.Rebound.lead {u : State} (h : s.Rebound u) (j : Nat) : u.lead j = s.lead j := by
  unfold State.lead
  rw [h.paired]

theorem State.holdChanged_chan {l : Nat} (hsw : (s.chan l).switching = false) (hl : s.lead l = l) {j : Nat} (hj : s.lead j = j)
    (hne : j ≠ l) : (s.holdChanged l).chan j = s.chan j := by
  rw [State.holdChanged_idle hsw]
  split
  · exact (s.event 6).chan_setChan_lead hl hj hne _
  · rfl

theorem State.rebindOne_idle {l : Nat} (hl : l < 32) (hlead : s.lead l = l) (hsw : (s.chan l).switching = false) :
    s.PortsMap (fun u => u.rebindOne l) ∧ ∀ j, s.lead j = j → j ≠ l → (s.rebindOne l).chan j = s.chan j := by
  obtain ⟨x, hx⟩ : ∃ x, x = (s.chan l).bound (s.railDue l) (s.senseDue l) := ⟨_, rfl⟩
  have hone : ∀ P, ({ s with ports := P } : State).rebindOne l =
      if (s.modRec l).isNone = true ∨ x = s.chan l then { s with ports := P }
      else (({ s with ports := P } : State).setChan l x).holdChanged l := by
    intro P
    rw [hx]
    unfold State.rebindOne
    cases hm : (s.modRec l).isNone with
    | true => exact (if_pos hm).trans (if_pos (Or.inl rfl)).symm
    | false =>
      refine (if_neg (ne_true_of_eq_false hm)).trans ?_
      exact if_congr (by simp [Chan.bound]; rfl) rfl rfl
  by_cases hc : (s.modRec l).isNone = true ∨ x = s.chan l
  · refine ⟨State.PortsMap.pure fun P => ?_, fun j _ _ => ?_⟩
    · rw [hone P, if_pos hc, show s.rebindOne l = s from (hone s.ports).trans (if_pos hc)]
    · rw [show s.rebindOne l = s from (hone s.ports).trans (if_pos hc)]
  · have hself : s.rebindOne l = (s.setChan l x).holdChanged l := (hone s.ports).trans (if_neg hc)
    have hreb := State.Rebound.setChan s l x
    have hxl : (s.setChan l x).chan l = x := by
      unfold State.setChan
      dsimp only
      split
      · exact (State.setHalf_chan_other _ (by omega) _).trans (s.setHalf_chan_self hl x)
      · exact s.setHalf_chan_self hl x
    have hsw' : ((s.setChan l x).chan l).switching = false := by
      rw [hxl, hx]
      exact hsw
    refine ⟨?_, fun j hj hne => ?_⟩
    · exact ((State.PortsMap.setChan s l (fun _ => x) fun _ => rfl).comp (State.PortsMap.holdChanged hsw')).congr
        fun P => (hone P).trans (if_neg hc)
    · rw [hself, State.holdChanged_chan hsw' ((hreb.lead l).trans hlead) ((hreb.lead j).trans hj) hne]
      exact s.chan_setChan_lead hlead hj hne x

theorem State.Rebound.rebindOne (s : State) (l : Nat) : s.Rebound (s.rebindOne l) := by
  unfold State.rebindOne
  split
  · exact State.Rebound.refl s
  · exact State.Rebound.setHold s l _

/-- The first `n` channels bound to their rails and converters. -/
def State.rebindBelow (s : State) (p : Nat → Bool) (n : Nat) : State := ((List.range n).filter p).foldl State.rebindOne s

theorem State.rebindBelow_succ (s : State) (p : Nat → Bool) (n : Nat) :
    s.rebindBelow p (n + 1) = if p n then (s.rebindBelow p n).rebindOne n else s.rebindBelow p n := by
  unfold State.rebindBelow
  rw [List.range_succ, List.filter_append, List.foldl_append]
  cases h : p n <;> simp [h]

theorem State.rebindBelow_idle (hq : s.quiet) {n : Nat} (hn : n ≤ 32) :
    s.PortsMap (fun u => u.rebindBelow (fun k => s.lead k == k) n) ∧ s.Rebound (s.rebindBelow (fun k => s.lead k == k) n) ∧
      ∀ j, n ≤ j → s.lead j = j → (s.rebindBelow (fun k => s.lead k == k) n).chan j = s.chan j := by
  induction n with
  | zero => exact ⟨State.PortsMap.pure fun _ => rfl, State.Rebound.refl s, fun _ _ _ => rfl⟩
  | succ n ih =>
    obtain ⟨hmap, hreb, hch⟩ := ih (by omega)
    have hstep := fun u : State => u.rebindBelow_succ (fun k => s.lead k == k) n
    cases hlead : s.lead n == n with
    | false =>
      have hstep' : ∀ u : State, u.rebindBelow (fun k => s.lead k == k) (n + 1) = u.rebindBelow (fun k => s.lead k == k) n :=
        fun u => (hstep u).trans (if_neg (ne_true_of_eq_false hlead))
      exact ⟨hmap.congr fun P => hstep' _, by rw [hstep']; exact hreb, fun j hj hl => by rw [hstep']; exact hch j (by omega) hl⟩
    | true =>
      have hstep' : ∀ u : State, u.rebindBelow (fun k => s.lead k == k) (n + 1) =
          (u.rebindBelow (fun k => s.lead k == k) n).rebindOne n := fun u => (hstep u).trans (if_pos hlead)
      have hl : s.lead n = n := beq_iff_eq.mp hlead
      obtain ⟨hm, hc⟩ := State.rebindOne_idle (s := s.rebindBelow (fun k => s.lead k == k) n) (by omega) ((hreb.lead n).trans hl)
        (by rw [hch n (Nat.le_refl n) hl]; exact hq n (by omega))
      refine ⟨(hmap.comp hm).congr fun P => hstep' _, by rw [hstep']; exact hreb.trans (State.Rebound.rebindOne _ n), fun j hj hlj => ?_⟩
      rw [hstep', hc j ((hreb.lead j).trans hlj) (by omega), hch j (by omega) hlj]

theorem State.PortsMap.rebind (hq : s.quiet) : s.PortsMap State.rebind :=
  (State.rebindBelow_idle hq (Nat.le_refl 32)).1.congr fun _ => rfl

end

/-! The commands (13 R406 to R408). -/

section
variable {s : State} {e : Env} {c : CmdInfo} {k : Nat}

theorem State.pstageStatus_spec {clear : Bool} {r : ModRec} (hk : k < 32) (hd : s.domOn 12 = true)
    (hm : s.meets (.pstageStatus e k clear) c) (hr : s.modRec k = some r) (hh : (s.chan k).hist = []) :
    s.answers (.pstageStatus e k clear) c .ok 0
      (resBytes [(4, s.pstStatus k), (4, s.pstTrip k), (4, (s.chan k).tripMt),
        (4, packBits [(16, (s.chan k).limitCycles), (16, (s.chan k).trips)]), (4, (s.chan k).modClip), (4, 0), (4, 0), (4, s.pstRail r.rail)])
      (if clear then s.setHalf k { (s.chan k) with trips := 0, limitCycles := 0, modClip := 0 } else s) := by
  have hclear : (s.pstCountClear k).setHalf k { ((s.pstCountClear k).chan k) with modClip := 0 } =
      s.setHalf k { (s.chan k) with trips := 0, limitCycles := 0, modClip := 0 } := by
    have hc : (s.pstCountClear k).chan k = { (s.chan k) with limitCycles := 0, trips := 0 } := s.setHalf_chan_self hk _
    rw [hc]
    exact s.setHalf_setHalf k _ _
  refine State.answers_of_run hm (fun P f _ => ?_) (hu := by split <;> rfl) (hw := by split <;> rfl) (htw := by split <;> rfl)
  refine (if_neg (by omega)).trans ((if_neg (by rw [show ({ s with ports := P } : State).domOn 12 = true from hd]; decide)).trans ?_)
  have hr' : ({ s with ports := P } : State).modRec k = some r := hr
  have hh' : (({ s with ports := P } : State).chan k).hist = [] := hh
  simp only [hr', hh']
  cases clear with
  | false => rfl
  | true => exact congrArg (fun u : State => (Done.done Status.ok 0 _, { u with ports := P })) hclear

theorem State.domOn_ports (s : State) (P : Ports) (d : Nat) : ({ s with ports := P } : State).domOn d = s.domOn d := rfl
theorem State.chan_ports (s : State) (P : Ports) (j : Nat) : ({ s with ports := P } : State).chan j = s.chan j := rfl

theorem State.pstageClear_spec (hk : k < 32) (hp : s.paired k = false) (hd : s.domOn 12 = true)
    (hm : s.meets (.pstageClear e (1#32 <<< k)) c) (hst : (s.chan k).st = .latched) (hstop : (s.chan k).stop = none) :
    s.answers (.pstageClear e (1#32 <<< k)) c .ok 0 (leBytes 4 (2 ^ k))
      ((s.setHalf k (s.chan k).unlatched).entered k (s.unlatched k)) := by
  have hclear : ∀ P, ({ s with ports := P } : State).clearLatch k =
      { (s.setHalf k (s.chan k).unlatched).entered k (s.unlatched k) with ports := P } := by
    intro P
    rw [State.clearLatch_alone (s := { s with ports := P }) hk hp hst hstop]
    unfold State.entered
    rw [show (({ s with ports := P } : State).setHalf k (({ s with ports := P } : State).chan k).unlatched).chan k =
      (s.setHalf k (s.chan k).unlatched).chan k from rfl, show ({ s with ports := P } : State).unlatched k = s.unlatched k from rfl]
    split <;> rfl
  have hon : State.OnChan k (s.setHalf k (s.chan k).unlatched) _ := State.OnChan.entered k _ (s.unlatched k)
  refine State.answers_of_run hm (fun P f _ => ?_) (hu := hon.pwr) (hw := State.entered_ports _ _ _) (htw := hon.tw)
    (hlen := by simp [leBytes_length])
  refine (if_neg (one_shift_ne_zero hk)).trans ((if_neg (by rw [State.domOn_ports, hd]; decide)).trans ?_)
  have hl : (({ s with ports := P } : State).named (1#32 <<< k)).filter
      (fun l => decide ((({ s with ports := P } : State).chan l).st = .latched)) = [k] := by
    rw [State.named_one (s := { s with ports := P }) hk hp]
    exact List.filter_eq_self.mpr fun j hj => by rw [List.mem_singleton.mp hj]; exact decide_eq_true hst
  dsimp only
  rw [hl, State.halfMask_one (s := { s with ports := P }) hp]
  refine Prod.ext ?_ (hclear P)
  simp [Done.ok]

theorem State.pstageClear_idle (hk : k < 32) (hp : s.paired k = false) (hd : s.domOn 12 = true)
    (hm : s.meets (.pstageClear e (1#32 <<< k)) c) (hst : (s.chan k).st ≠ .latched) :
    s.answers (.pstageClear e (1#32 <<< k)) c .ok 0 (leBytes 4 0) s := by
  refine State.answers_of_run hm (fun P f _ => ?_) (hlen := by simp [leBytes_length])
  refine (if_neg (one_shift_ne_zero hk)).trans ((if_neg (by rw [State.domOn_ports, hd]; decide)).trans ?_)
  have hl : (({ s with ports := P } : State).named (1#32 <<< k)).filter
      (fun l => decide ((({ s with ports := P } : State).chan l).st = .latched)) = [] := by
    rw [State.named_one (s := { s with ports := P }) hk hp]
    exact List.filter_eq_nil_iff.mpr fun j hj => by rw [List.mem_singleton.mp hj]; exact mt of_decide_eq_true hst
  dsimp only
  rw [hl]
  rfl

theorem State.PortsMap.hostHold (hp : s.paired k = false) (hh : (s.chan k).host = false) :
    s.PortsMap (fun u => u.hostHold k) :=
  ((State.PortsMap.setHalf s k (fun _ => (s.chan k).hosted) fun _ => rfl).comp (State.PortsMap.event _ 6)).congr
    fun P => State.hostHold_alone (s := { s with ports := P }) hp hh

theorem State.OnChan.hostHold (hp : s.paired k = false) (hh : (s.chan k).host = false) : State.OnChan k s (s.hostHold k) := by
  rw [State.hostHold_alone hp hh]
  exact (State.OnChan.setHalf k s _).trans (State.OnChan.event k _ 6)

theorem State.hostHold_chan (hk : k < 32) (hp : s.paired k = false) (hh : (s.chan k).host = false) :
    (s.hostHold k).chan k = (s.chan k).hosted := by
  rw [State.hostHold_alone hp hh]
  exact s.setHalf_chan_self hk _

theorem State.pstageStop_resting (hk : k < 32) (hp : s.paired k = false) (hd : s.domOn 12 = true)
    (hm : s.meets (.pstageStop e (1#32 <<< k)) c) (hh : (s.chan k).host = false) (hsw : (s.chan k).switching = false)
    (hstop : (s.chan k).stop = none) :
    s.answers (.pstageStop e (1#32 <<< k)) c .ok 0 (leBytes 8 s.per.mediaTime) (s.hostHold k) := by
  have hon := State.OnChan.hostHold hp hh
  refine State.answers_of_map hm (State.PortsMap.hostHold hp hh) (fun P f _ => ?_) hon.pwr hon.tw (hlen := by simp [leBytes_length])
  refine (if_neg (one_shift_ne_zero hk)).trans ((if_neg (by rw [State.domOn_ports, hd]; decide)).trans ?_)
  have honP := State.OnChan.hostHold (s := { s with ports := P }) hp hh
  have hchan := State.hostHold_chan (s := { s with ports := P }) hk hp hh
  dsimp only
  rw [State.named_one (s := { s with ports := P }) hk hp, List.foldl_cons, List.foldl_nil]
  have hw : [k].filter (fun l => ((({ s with ports := P } : State).hostHold k).chan l).stop.isSome) = [] := by
    refine List.filter_eq_nil_iff.mpr fun j hj => ?_
    rw [List.mem_singleton.mp hj, hchan, State.chan_ports]
    simp [Chan.hosted, hsw, hstop]
  rw [hw, honP.per]
  refine Prod.ext ?_ rfl
  simp [Done.ok]

/-- The state in which a PSTAGE_STOP waits for a channel. -/
def State.stopWaits (s : State) (q : CPort) (h k : Nat) : State :=
  { s with pst := { s.pst with stops := s.pst.stops ++ [⟨q, h, [k], none⟩] } }

theorem State.pstageStop_switching (hk : k < 32) (hp : s.paired k = false) (hd : s.domOn 12 = true)
    (hm : s.meets (.pstageStop e (1#32 <<< k)) c) (hh : (s.chan k).host = false) (hsw : (s.chan k).switching = true)
    (hstop : (s.chan k).stop = none) :
    s.starts (.pstageStop e (1#32 <<< k)) c ((s.hostHold k).stopWaits e.port (s.nextHandle e.port) k) := by
  have hon := State.OnChan.hostHold hp hh
  have hmap : s.PortsMap (fun u => (u.hostHold k).stopWaits e.port (s.nextHandle e.port) k) :=
    (State.PortsMap.hostHold hp hh).comp (op' := fun u => u.stopWaits e.port (s.nextHandle e.port) k) (State.PortsMap.pure fun _ => rfl)
  have hinfo : c.env.port = e.port := by cases hm.info; rfl
  refine State.starts_of_map hm hmap (fun P f hP => ?_) hon.tw
  refine (if_neg (one_shift_ne_zero hk)).trans ((if_neg (by rw [State.domOn_ports, hd]; decide)).trans ?_)
  have hchan := State.hostHold_chan (s := { s with ports := P }) hk hp hh
  dsimp only
  rw [State.named_one (s := { s with ports := P }) hk hp, List.foldl_cons, List.foldl_nil]
  have hw : [k].filter (fun l => ((({ s with ports := P } : State).hostHold k).chan l).stop.isSome) = [k] := by
    refine List.filter_eq_self.mpr fun j hj => ?_
    rw [List.mem_singleton.mp hj, hchan, State.chan_ports]
    simp [Chan.hosted, hsw, hstop]
  have hport : (s.runCtx c f).port = e.port := hinfo
  have hhandle : (s.runCtx c f).handle = s.nextHandle e.port := hP.handle.trans (by rw [hinfo]; rfl)
  rw [hw, hport, hhandle]
  rfl

theorem State.PortsMap.release (hk : k < 32) (hp : s.paired k = false) (hh : (s.chan k).host = true) (hstop : (s.chan k).stop = none) :
    s.PortsMap (fun u => u.setHold k Chan.unhosted) :=
  ((State.PortsMap.event s 6).comp (State.PortsMap.setHalf (s.event 6) k (fun _ => s.released k) fun _ => rfl)).congr
    fun P => State.release_alone (s := { s with ports := P }) hk hp hh hstop

theorem State.pstageStart_spec (hk : k < 32) (hp : s.paired k = false) (hd : s.domOn 12 = true)
    (hm : s.meets (.pstageStart e (1#32 <<< k)) c) (hmaint : s.hlt.maint = false) (hh : (s.chan k).host = true)
    (hstop : (s.chan k).stop = none) :
    s.answers (.pstageStart e (1#32 <<< k)) c .ok 0 (leBytes 4 (2 ^ k)) (s.setHold k Chan.unhosted) := by
  have hon : State.OnChan k s (s.setHold k Chan.unhosted) := by
    rw [State.release_alone hk hp hh hstop]
    exact (State.OnChan.event k s 6).trans (State.OnChan.setHalf k _ _)
  refine State.answers_of_map hm (State.PortsMap.release hk hp hh hstop) (fun P f _ => ?_) hon.pwr hon.tw
    (hlen := by simp [leBytes_length])
  refine (if_neg (one_shift_ne_zero hk)).trans ((if_neg (by rw [State.domOn_ports, hd]; decide)).trans ((if_neg ?_).trans ?_))
  · exact ne_true_of_eq_false hmaint
  have hl : (({ s with ports := P } : State).named (1#32 <<< k)).filter (fun l => (({ s with ports := P } : State).chan l).host) = [k] := by
    rw [State.named_one (s := { s with ports := P }) hk hp]
    exact List.filter_eq_self.mpr fun j hj => by rw [List.mem_singleton.mp hj]; exact hh
  dsimp only
  rw [hl, State.halfMask_one (s := { s with ports := P }) hp]
  refine Prod.ext ?_ rfl
  simp [Done.ok]

theorem State.pstageStart_maintenance (hk : k < 32) (hd : s.domOn 12 = true) (hm : s.meets (.pstageStart e (1#32 <<< k)) c)
    (hmaint : s.hlt.maint = true) : s.answers (.pstageStart e (1#32 <<< k)) c .rejectedState 0x0111 [] s :=
  State.answers_of_run hm fun P f _ => (if_neg (one_shift_ne_zero hk)).trans
    ((if_neg (by rw [State.domOn_ports, hd]; decide)).trans (if_pos hmaint))

theorem State.configRail_eq (s : State) (r : Nat) (cfg : RailCfg) : s.configRail r cfg =
    (s.setRail r { (s.railOf r) with cfg := some cfg, outside := (s.railOf r).outside || (s.railOf r).cfg.isNone }).rebind := rfl

theorem State.PortsMap.configRail (hq : s.quiet) (r : Nat) (cfg : RailCfg) : s.PortsMap (fun u => u.configRail r cfg) :=
  (State.PortsMap.pure (op := fun u => u.setRail r { (s.railOf r) with cfg := some cfg, outside := (s.railOf r).outside || (s.railOf r).cfg.isNone })
    fun _ => rfl).comp (State.PortsMap.rebind hq) |>.congr fun _ => rfl

theorem State.pstageRailConfig_spec {r : Nat} {cfg : RailCfg} (hd : s.domOn 12 = true)
    (hm : s.meets (.pstageRailConfig e r cfg.rsFs cfg.nom cfg.uv cfg.ov false) c) (hr : r ≤ 3) (hok : railCfgOk cfg = true) (hq : s.quiet) :
    s.answers (.pstageRailConfig e r cfg.rsFs cfg.nom cfg.uv cfg.ov false) c .ok 0
      (resBytes [(1, r), (4, cfg.rsFs), (4, cfg.nom), (4, cfg.uv), (4, cfg.ov)]) (s.configRail r cfg) := by
  have hreb := State.Rebound.rebind
    (s.setRail r { (s.railOf r) with cfg := some cfg, outside := (s.railOf r).outside || (s.railOf r).cfg.isNone })
  rw [← State.configRail_eq] at hreb
  refine State.answers_of_map hm (State.PortsMap.configRail hq r cfg) (fun P f _ => ?_) (by rw [hreb]; rfl) (by rw [hreb]; rfl)
  have hnone : s.leads.any (fun l => (s.chan l).switching && ((s.modRec l).map (·.rail)) == some r) = false := by
    refine List.any_eq_false.mpr fun l hl => ?_
    rw [hq l (List.mem_range.mp (List.mem_filter.mp hl).1)]
    exact Bool.false_ne_true
  have hnone' : (({ s with ports := P } : State).leads.any (fun l => (({ s with ports := P } : State).chan l).switching &&
      ((({ s with ports := P } : State).modRec l).map (·.rail)) == some r)) = false := hnone
  have hargs : (decide (3 < r) || !railCfgOk cfg) = false := by simp [hok, hr]
  refine (if_neg (ne_true_of_eq_false hargs)).trans ((if_neg (by rw [State.domOn_ports, hd]; decide)).trans ?_)
  dsimp only
  rw [hnone', Bool.and_false]
  rfl

theorem State.loopConfig_args {kp ki fs : Nat} (hk : k < 32) (h1 : kp ≤ 0x7FFFFFFF) (h2 : ki ≤ 0x10000000) (h3 : 100 ≤ fs) (h4 : fs ≤ 1000000) :
    ¬ (decide (31 < k) || decide (0x7FFFFFFF < kp) || decide (0x10000000 < ki) || !within 100 1000000 fs) = true := by
  simp [within, h1, h2, h3, h4]
  omega

end

/-- Settles O37: each command by what it does to the one channel that its mask names, and a rail's setting by the fold over
channels that rest. -/
theorem channelCommands : Obligations.ChannelCommands := by
  unfold Obligations.ChannelCommands
  intro s e c k x mask hk hp hx hd hmask
  subst hx hmask
  refine ⟨?_, ?_, ?_, ?_, ?_, ?_, ?_, ?_, ?_, ?_⟩
  · intro clear r hm hr hh
    refine ⟨_, State.pstageStatus_spec hk hd hm hr hh, fun hc => ?_, fun hc => ?_⟩
    · rw [hc]; rfl
    · rw [hc]
      exact ⟨s.setHalf_chan_self hk _, fun j hj => s.setHalf_chan_other hj _⟩
  · intro hm hst hstop
    have hc : ((s.setHalf k (s.chan k).unlatched).entered k (s.unlatched k)).chan k = (s.chan k).unlatched.into (s.unlatched k) :=
      (State.entered_chan hk _ _).trans (congrArg (fun c : Chan => c.into (s.unlatched k)) (s.setHalf_chan_self hk _))
    refine ⟨_, State.pstageClear_spec hk hp hd hm hst hstop, ?_, ?_, ?_, ?_, fun j hj => ?_⟩
    · rw [hc]
      exact Chan.into_st _ _
    · rw [hc, Chan.into_hist]
      rfl
    · rw [hc, Chan.into_latchDc]
      rfl
    · exact State.entered_latchEnded (by rw [s.setHalf_chan_self hk]; exact congrArg ChSt.faulted hst) (s.unlatched_not_faulted k)
    · exact ((State.OnChan.entered k _ _).other j hj).trans (s.setHalf_chan_other hj _)
  · exact fun hm hst => State.pstageClear_idle hk hp hd hm hst
  · intro hm hh hsw hstop
    have hc := State.hostHold_chan hk hp hh
    refine ⟨_, State.pstageStop_resting hk hp hd hm hh hsw hstop, ?_, ?_, (State.OnChan.hostHold hp hh).other⟩
    · rw [hc]; rfl
    · rw [hc]; rfl
  · intro hm hh hsw hstop
    have hc : ((s.hostHold k).stopWaits e.port (s.nextHandle e.port) k).chan k = (s.chan k).hosted := State.hostHold_chan hk hp hh
    have hon := State.OnChan.hostHold hp hh
    refine ⟨_, State.pstageStop_switching hk hp hd hm hh hsw hstop, ?_, ?_, ?_, ?_, hon.other⟩
    · rw [hc]; rfl
    · rw [hc]
      simp [Chan.hosted, hsw, hstop]
    · rw [hc]; rfl
    · show (s.hostHold k).pst.stops ++ _ = _
      rw [hon.rest]
  · intro hm hmaint hh hstop
    have hrel := State.release_alone hk hp hh hstop
    have hc : (s.setHold k Chan.unhosted).chan k = s.released k := by
      rw [hrel]
      exact (s.event 6).setHalf_chan_self hk _
    refine ⟨_, State.pstageStart_spec hk hp hd hm hmaint hh hstop, ?_, ?_, fun j hj => ?_⟩
    · rw [hc, s.released_host]
    · rw [hc, s.released_st]
      rfl
    · rw [hrel]
      exact (s.event 6).setHalf_chan_other hj _
  · exact fun hm hmaint => State.pstageStart_maintenance hk hd hm hmaint
  · intro r cfg hm hr hok hq
    have hreb := State.Rebound.rebind
      (s.setRail r { (s.railOf r) with cfg := some cfg, outside := (s.railOf r).outside || (s.railOf r).cfg.isNone })
    rw [← State.configRail_eq] at hreb
    have hself := s.setRail_railOf_self (r := r) (by omega)
      { (s.railOf r) with cfg := some cfg, outside := (s.railOf r).outside || (s.railOf r).cfg.isNone }
    refine ⟨_, State.pstageRailConfig_spec hd hm hr hok hq, ?_, ?_, fun j hj => ?_, ?_⟩
    · rw [hreb.railOf, hself]
    · rw [hreb.railOf, hself]
    · rw [hreb.railOf]
      exact s.setRail_railOf_other hj _
    · rw [hreb]
      rfl
  · intro kp ki fs hm h1 h2 h3 h4 hsw
    refine State.answers_of_run hm fun P f _ => ?_
    refine (if_neg (State.loopConfig_args hk h1 h2 h3 h4)).trans ((if_neg (by rw [State.domOn_ports, hd]; decide)).trans ((if_neg ?_).trans ?_))
    · rw [State.lead_alone (s := { s with ports := P }) hp]
      exact ne_true_of_eq_false hsw
    · refine (if_neg Bool.false_ne_true).trans ?_
      unfold finPstageLoopConfig
      rw [State.lead_alone (s := { s with ports := P }) hp, State.halves_alone (s := { s with ports := P }) hp]
      rfl
  · intro kp ki fs p hm h1 h2 h3 h4 hsw
    refine State.answers_of_run hm fun P f _ => ?_
    refine (if_neg (State.loopConfig_args hk h1 h2 h3 h4)).trans ((if_neg (by rw [State.domOn_ports, hd]; decide)).trans (if_pos ?_))
    rw [State.lead_alone (s := { s with ports := P }) hp]
    exact hsw

end Sys2Proof.Machine
end

section
/-!
SUPPORT. What the steps of the fault controller leave unchanged: the log, FAULT_N, the reactions and the holds that follow them
(14 R421 to R435).
-/
namespace Sys2Proof.Machine

/-! Command service stays calm under a change of holds. -/

section
variable {s : State}

theorem State.event_calm (h : s.portsCalm) (v : Nat) : (s.event v).portsCalm := by
  obtain ⟨f, hf, hk⟩ := s.event_ports v
  have hev : s.event v = { s with ports := f s.ports } := hf s.ports
  have hsame := (hk s.ports).1
  rw [hev]
  exact h.of_ports (fun q g hg => (hsame.1 q).flights ▸ hg) (fun q => Or.inl (hsame.1 q).placed) rfl hsame.2
    (Or.inr ⟨(hsame.1 .D).avail, (hsame.1 .D).head⟩)

theorem State.endCond_calm (h : s.portsCalm) (c z e : Nat) : (s.endCond c z e).portsCalm :=
  h.congr (State.endCond_ports s c z e) (State.endCond_tw s c z e)

theorem foldl_inv {α β : Type} {P : α → Prop} {f : α → β → α} (hf : ∀ a b, P a → P (f a b)) (l : List β) {a : α} (h : P a) :
    P (l.foldl f a) := by
  induction l generalizing a with
  | nil => exact h
  | cons b l ih => exact ih (hf a b h)

theorem State.complete_calm (h : s.portsCalm) (q : CPort) (n : Nat) (st : Status) (d : Nat) (r : List Byte) :
    (s.complete q n st d r).portsCalm := (s.complete_fewer q n st d r).calm h

theorem State.stopEnded_calm (h : s.portsCalm) (l : Nat) : (s.stopEnded l).portsCalm := by
  unfold State.stopEnded
  extract_lets stops ended p u
  have hu : u.portsCalm := h.congr rfl rfl
  exact foldl_inv (P := State.portsCalm) (fun u x hu => State.complete_calm hu _ _ _ _ _) ended hu

theorem State.setChan_ports (s : State) (l : Nat) (x : Chan) : (s.setChan l x).ports = s.ports ∧ (s.setChan l x).tw = s.tw := by
  unfold State.setChan
  dsimp only
  split <;> exact ⟨rfl, rfl⟩

theorem State.setChan_calm (h : s.portsCalm) (l : Nat) (x : Chan) : (s.setChan l x).portsCalm :=
  h.congr (s.setChan_ports l x).1 (s.setChan_ports l x).2

theorem State.enter_calm (h : s.portsCalm) (l : Nat) (st : ChSt) : (s.enter l st).portsCalm := by
  by_cases hst : (s.chan l).st = st
  · rw [State.enter_same hst]
    exact h
  · unfold State.enter
    rw [if_neg hst]
    extract_lets tl s1 sw c1 c2 c3 s2 s3
    have h1 : s1.portsCalm := by
      simp only [s1]
      split
      · exact foldl_inv (P := State.portsCalm)
          (fun u x hu => State.endCond_calm (State.endCond_calm (State.endCond_calm hu _ _ _) _ _ _) _ _ _) _ h
      · exact h
    have h2 : s2.portsCalm := State.setChan_calm h1 l c3
    have h3 : s3.portsCalm := by
      simp only [s3]
      split
      · exact State.stopEnded_calm h2 l
      · exact h2
    split
    · exact State.event_calm h3 6
    · exact h3

theorem State.holdChanged_calm (h : s.portsCalm) (l : Nat) : (s.holdChanged l).portsCalm := by
  have hev := State.event_calm h 6
  cases hheld : s.held (s.chan l) with
  | true =>
    rw [State.holdChanged_of_held hheld]
    split
    · exact State.enter_calm hev l .held
    · exact hev
  | false =>
    rw [State.holdChanged_of_free hheld]
    split
    · exact State.enter_calm hev l .softstart
    · exact hev

theorem State.setHold_calm (h : s.portsCalm) (l : Nat) (f : Chan → Chan) : (s.setHold l f).portsCalm := by
  unfold State.setHold
  dsimp only
  split
  · exact h
  · exact State.holdChanged_calm (State.setChan_calm h l _) l

end

/-! The log, the pin and the watch of the overflow (14 R426, R430 to R435). -/

/-- From `f` to `g` at most the log changed. -/
def Flt.Logged (f g : Flt) : Prop := g = { f with log := g.log, logSeq := g.logSeq, missedNext := g.missedNext, missed := g.missed }

theorem Flt.Logged.write (f : Flt) (e : LogEntry) : f.Logged (f.write e) := by
  unfold Flt.write
  extract_lets weak lost put
  split
  · rfl
  · split
    · rfl
    · split
      · rfl
      · split <;> rfl

/-- From `f` to `g` at most the log, FAULT_N, the watch of the overflow and the engine-wide safe state changed. -/
def Flt.Aside (f g : Flt) : Prop :=
  g = { f with
    log := g.log, logSeq := g.logSeq, missedNext := g.missedNext, missed := g.missed, lowSince := g.lowSince
    pinLow := g.pinLow, pulseEnd := g.pulseEnd, releasedAt := g.releasedAt, engineSafe := g.engineSafe }

theorem Flt.Aside.refl (f : Flt) : f.Aside f := rfl

theorem Flt.Aside.trans {f g h : Flt} (a : f.Aside g) (b : g.Aside h) : f.Aside h := by
  unfold Flt.Aside at *
  rw [a] at b
  exact b

theorem Flt.Logged.aside {f g : Flt} (h : f.Logged g) : f.Aside g := by
  unfold Flt.Logged at h
  rw [h]
  rfl

/-- From `s` to `u` at most the log, FAULT_N, the watch of the overflow and the messages of events changed. -/
structure State.Noted (s u : State) : Prop where
  rest : u = { s with flt := u.flt, ports := u.ports }
  flt : s.flt.Aside u.flt
  safe : u.flt.engineSafe = s.flt.engineSafe
  calm : s.portsCalm → u.portsCalm

theorem State.Noted.refl (s : State) : s.Noted s := ⟨rfl, rfl, rfl, id⟩

theorem State.Noted.trans {s t u : State} (h : s.Noted t) (g : t.Noted u) : s.Noted u := by
  refine ⟨?_, h.flt.trans g.flt, g.safe.trans h.safe, g.calm ∘ h.calm⟩
  have hr := h.rest
  have gr := g.rest
  rw [hr] at gr
  exact gr

theorem State.Noted.event (s : State) (v : Nat) : s.Noted (s.event v) := ⟨rfl, rfl, rfl, fun h => State.event_calm h v⟩

theorem State.Noted.setFlt (s : State) {f : Flt} (h : s.flt.Aside f) (hs : f.engineSafe = s.flt.engineSafe) : s.Noted (s.setFlt f) :=
  ⟨rfl, h, hs, fun hc => hc.congr rfl rfl⟩

/-- An entry of the log, with the event of a log that fills. -/
theorem State.log_cases (s : State) (k ep z src det lv sev fl d : Nat) :
    ∃ f, s.flt.Logged f ∧ (s.log k ep z src det lv sev fl d = s.setFlt f ∨ s.log k ep z src det lv sev fl d = (s.setFlt f).event 4) := by
  unfold State.log
  extract_lets e was u
  refine ⟨s.flt.write e, Flt.Logged.write s.flt e, ?_⟩
  split
  · exact Or.inr rfl
  · exact Or.inl rfl

theorem State.log_flt (s : State) (k ep z src det lv sev fl d : Nat) : s.flt.Logged (s.log k ep z src det lv sev fl d).flt := by
  obtain ⟨f, hf, h | h⟩ := s.log_cases k ep z src det lv sev fl d <;> rw [h] <;> exact hf

theorem State.Noted.log (s : State) (k ep z src det lv sev fl d : Nat) : s.Noted (s.log k ep z src det lv sev fl d) := by
  obtain ⟨f, hf, h⟩ := s.log_cases k ep z src det lv sev fl d
  have hs : f.engineSafe = s.flt.engineSafe := by rw [hf]
  have hn := State.Noted.setFlt s hf.aside hs
  rcases h with h | h
  · rw [h]
    exact hn
  · rw [h]
    exact hn.trans (State.Noted.event _ 4)

theorem State.Noted.logEp (s : State) (i k fl : Nat) : s.Noted (s.logEp i k fl) := State.Noted.log s _ _ _ _ _ _ _ _ _

theorem State.Noted.pinTrigger (s : State) : s.Noted s.pinTrigger := State.Noted.setFlt s rfl rfl

theorem State.pinFollow_cases (s : State) : ∃ f, s.pinFollow = s.setFlt f ∧
    f = { s.flt with pinLow := f.pinLow, pulseEnd := f.pulseEnd, releasedAt := f.releasedAt } := by
  unfold State.pinFollow
  extract_lets f pulse
  split
  · exact ⟨_, rfl, rfl⟩
  · split
    · exact ⟨_, rfl, rfl⟩
    · exact ⟨_, rfl, rfl⟩

theorem State.Noted.pinFollow (s : State) : s.Noted s.pinFollow := by
  obtain ⟨f, h, hf⟩ := s.pinFollow_cases
  rw [h]
  exact State.Noted.setFlt s (by rw [hf]; rfl) (by rw [hf])

theorem State.Noted.ovfWatch (s : State) : s.Noted s.ovfWatch := State.Noted.setFlt s rfl rfl

section
variable {s u : State} (h : s.Noted u)
include h

theorem State.Noted.ep (j : Nat) : u.ep j = s.ep j := by
  unfold State.ep
  rw [h.flt]

theorem State.Noted.chan (j : Nat) : u.chan j = s.chan j := by
  rw [h.rest]
  rfl

end

/-! The reactions and what follows them (14 R421 to R425). -/

/-- From `s` to `u` at most what a reaction or its release touches changed. -/
structure State.Aside (s u : State) : Prop where
  rest : u = { s with
    flt := u.flt, ports := u.ports, pst := u.pst, str := u.str, sap := u.sap, tiles := u.tiles, mtx := u.mtx, ex := u.ex }
  flt : s.flt.Aside u.flt
  calm : s.portsCalm → u.portsCalm

theorem State.Aside.refl (s : State) : s.Aside s := ⟨rfl, rfl, id⟩

theorem State.Aside.trans {s t u : State} (h : s.Aside t) (g : t.Aside u) : s.Aside u := by
  refine ⟨?_, h.flt.trans g.flt, g.calm ∘ h.calm⟩
  have hr := h.rest
  have gr := g.rest
  rw [hr] at gr
  exact gr

theorem State.Noted.aside {s u : State} (h : s.Noted u) : s.Aside u := ⟨by rw [h.rest], h.flt, h.calm⟩

section
variable {s u : State} (h : s.Aside u)
include h

theorem State.Aside.ep (j : Nat) : u.ep j = s.ep j := by
  unfold State.ep
  rw [h.flt]

theorem State.Aside.now : u.now = s.now := by rw [h.rest]
theorem State.Aside.pwr : u.pwr = s.pwr := by rw [h.rest]
theorem State.Aside.tw : u.tw = s.tw := by rw [h.rest]
theorem State.Aside.conds : u.flt.conds = s.flt.conds := by rw [h.flt]

theorem State.Aside.condPresent (e : Episode) : u.condPresent e = s.condPresent e := by
  unfold State.condPresent
  rw [h.conds]

theorem State.Aside.zonePolicy (z : Nat) : u.zonePolicy z = s.zonePolicy z := by
  rw [h.rest]
  rfl

theorem State.Aside.quad (q : Nat) : u.quad q = s.quad q := by
  rw [h.rest]
  rfl

end

theorem State.onElem_aside (s : State) (z k : Nat) (f : Lateness → Lateness) : s.Aside (s.onElem z k f) := by
  have hcalm : ∀ u : State, u.ports = s.ports → u.tw = s.tw → s.portsCalm → u.portsCalm := fun u hp ht h => h.congr hp ht
  unfold State.onElem
  extract_lets tile
  have ht : ∀ j, s.Aside (tile j) := fun j => ⟨rfl, rfl, hcalm _ rfl rfl⟩
  split
  · exact ht k
  · split
    · split
      · exact ⟨rfl, rfl, hcalm _ rfl rfl⟩
      · split
        · exact ⟨rfl, rfl, hcalm _ rfl rfl⟩
        · split
          · exact ht _
          · exact State.Aside.refl s
    · exact State.Aside.refl s

theorem State.onElem_flt (s : State) (z k : Nat) (f : Lateness → Lateness) : (s.onElem z k f).flt = s.flt ∧ (s.onElem z k f).pst = s.pst := by
  unfold State.onElem
  extract_lets tile
  have ht : ∀ j, (tile j).flt = s.flt ∧ (tile j).pst = s.pst := fun j => ⟨rfl, rfl⟩
  split
  · exact ht k
  · split
    · split
      · exact ⟨rfl, rfl⟩
      · split
        · exact ⟨rfl, rfl⟩
        · split
          · exact ht _
          · exact ⟨rfl, rfl⟩
    · exact ⟨rfl, rfl⟩

theorem State.Aside.foldl {α : Type} {f : State → α → State} (hf : ∀ u a, State.Aside u (f u a)) (l : List α) (s : State) :
    s.Aside (l.foldl f s) := by
  induction l generalizing s with
  | nil => exact State.Aside.refl s
  | cons a l ih => exact (hf s a).trans (ih _)

theorem State.react_aside (s : State) (z : Nat) (es : List Nat) : s.Aside (s.react z es) :=
  State.Aside.foldl (fun u k => u.onElem_aside z k _) es s

theorem State.react_flt (s : State) (z : Nat) (es : List Nat) : (s.react z es).flt = s.flt ∧ (s.react z es).pst = s.pst :=
  ⟨foldl_keeps _ State.flt (fun u k => (u.onElem_flt z k _).1) es s, foldl_keeps _ State.pst (fun u k => (u.onElem_flt z k _).2) es s⟩

theorem State.Rebound.aside {s u : State} (h : s.Rebound u) (hc : s.portsCalm → u.portsCalm) : s.Aside u := by
  refine ⟨?_, ?_, hc⟩
  · rw [h]
  · rw [h]
    rfl

/-- What `State.sync` does to one channel. -/
def State.syncChan (es : Bool) (f : Flt) (s : State) (l : Nat) : State :=
  if (s.chan l).flt = (es || (s.halves l).any (fun h => f.zoneHeld (chanZone h) none false)) then s
  else s.setHold l (fun c => { c with flt := es || (s.halves l).any (fun h => f.zoneHeld (chanZone h) none false) })

theorem State.Rebound.syncChan (es : Bool) (f : Flt) (s : State) (l : Nat) : s.Rebound (s.syncChan es f l) := by
  unfold State.syncChan
  split
  · exact State.Rebound.refl s
  · exact State.Rebound.setHold s l _

theorem State.syncChan_calm {s : State} (es : Bool) (f : Flt) (h : s.portsCalm) (l : Nat) : (s.syncChan es f l).portsCalm := by
  unfold State.syncChan
  split
  · exact h
  · exact State.setHold_calm h l _

/-- The holds of the channels follow the reactions in force. -/
def State.syncChans (s : State) (es : Bool) (f : Flt) : State := s.leads.foldl (State.syncChan es f) s

/-- The state with the engine-wide safe state as the reactions call for it, its event signalled. -/
def State.safeSet (s : State) : State :=
  let u := if s.flt.safeNow && !s.flt.engineSafe then s.event 3 else s
  u.setFlt { u.flt with engineSafe := s.flt.safeNow }

/-- The state with the transmit safe state and the serial ports as the reactions call for them. -/
def State.outputsSet (s : State) (f : Flt) : State :=
  { s with
    str := { s.str with txSafe := f.zoneHeld 0x18 none false, rxMissing := f.zoneHeld 0x18 none false }
    sap := Vector.ofFn (fun i : Fin 8 => { (rd s.sap i.val) with react := f.zoneHeld 0xB0 (some i.val) true }) }

theorem State.sync_eq (s : State) : s.sync = (s.safeSet.syncChans s.flt.safeNow s.flt).outputsSet s.flt := rfl

theorem State.safeSet_flt (s : State) : s.safeSet.flt = { s.flt with engineSafe := s.flt.safeNow } := by
  unfold State.safeSet
  dsimp only
  split <;> rfl

theorem State.safeSet_pst (s : State) : s.safeSet.pst = s.pst ∧ s.safeSet.pl = s.pl := by
  unfold State.safeSet
  dsimp only
  split <;> exact ⟨rfl, rfl⟩

theorem State.safeSet_aside (s : State) : s.Aside s.safeSet := by
  have hset : ∀ u : State, s.Aside u → s.Aside (u.setFlt { u.flt with engineSafe := s.flt.safeNow }) := fun u h =>
    h.trans ⟨rfl, rfl, fun hc => hc.congr rfl rfl⟩
  unfold State.safeSet
  dsimp only
  split
  · exact hset _ (State.Noted.event s 3).aside
  · exact hset _ (State.Aside.refl s)

theorem State.Rebound.syncChans (s : State) (es : Bool) (f : Flt) : s.Rebound (s.syncChans es f) :=
  State.Rebound.foldl (State.Rebound.syncChan es f) s.leads s

theorem State.syncChans_aside (s : State) (es : Bool) (f : Flt) : s.Aside (s.syncChans es f) :=
  (State.Rebound.syncChans s es f).aside fun h => foldl_inv (P := State.portsCalm) (fun _ l hu => State.syncChan_calm es f hu l) _ h

theorem State.sync_aside (s : State) : s.Aside s.sync := by
  rw [State.sync_eq]
  exact s.safeSet_aside.trans ((State.syncChans_aside _ _ _).trans ⟨rfl, rfl, fun h => h.congr rfl rfl⟩)

theorem State.sync_flt (s : State) : s.sync.flt = { s.flt with engineSafe := s.flt.safeNow } := by
  rw [State.sync_eq]
  exact (State.Rebound.syncChans s.safeSet _ _).flt.trans s.safeSet_flt

theorem State.sync_pst (s : State) : s.sync.pst = (s.safeSet.syncChans s.flt.safeNow s.flt).pst := by
  rw [State.sync_eq]
  rfl

/-! Episode slots. -/

section
variable {s : State} {i : Nat}

theorem State.setEp_ep_self (s : State) (hi : i < 16) (e : Episode) : (s.setEp i e).ep i = e := rd_wr_same _ _ _ hi
theorem State.setEp_ep_other (s : State) {j : Nat} (h : j ≠ i) (e : Episode) : (s.setEp i e).ep j = s.ep j := rd_wr_other _ _ _ _ (Ne.symm h)

theorem State.setEp_setEp (s : State) (i : Nat) (x y : Episode) : (s.setEp i x).setEp i y = s.setEp i y := by
  unfold State.setEp
  dsimp only
  rw [show wr (wr s.flt.eps i x) i y = wr s.flt.eps i y from Vector.setIfInBounds_setIfInBounds ..]

theorem State.setEp_calm (h : s.portsCalm) (i : Nat) (e : Episode) : (s.setEp i e).portsCalm := h.congr rfl rfl

/-- The reaction of an episode follows its level, and the holds follow the reaction. -/
theorem State.applyEp_eq (s : State) (i : Nat) : ∃ v w, v = s.setEp i { (s.ep i) with reacting := (s.ep i).calls } ∧ v.Aside w ∧
    w.flt = v.flt ∧ w.pst = v.pst ∧ s.applyEp i = w.sync := by
  unfold State.applyEp
  extract_lets e e' u
  refine ⟨u, _, rfl, ?_, ?_, ?_, rfl⟩
  · split
    · exact State.react_aside u _ _
    · exact State.Aside.refl u
  · split
    · exact (u.react_flt _ _).1
    · rfl
  · split
    · exact (u.react_flt _ _).2
    · rfl

/-- From `s` to `u` at most the episode of slot `i` changed, the reactions that end, and what a reaction or its release touches. -/
structure State.OnEp (i : Nat) (s u : State) : Prop where
  rest : u = { s with
    flt := u.flt, ports := u.ports, pst := u.pst, str := u.str, sap := u.sap, tiles := u.tiles, mtx := u.mtx, ex := u.ex }
  flt : ({ s.flt with eps := u.flt.eps, leaving := u.flt.leaving } : Flt).Aside u.flt
  other : ∀ j, j ≠ i → u.ep j = s.ep j
  calm : s.portsCalm → u.portsCalm

theorem State.Aside.onEp {u : State} (h : s.Aside u) (i : Nat) : State.OnEp i s u := by
  refine ⟨h.rest, ?_, fun j _ => h.ep j, h.calm⟩
  have hf := h.flt
  have he : u.flt.eps = s.flt.eps := by rw [hf]
  have hl : u.flt.leaving = s.flt.leaving := by rw [hf]
  rw [he, hl]
  exact hf

theorem State.OnEp.setEp (s : State) (i : Nat) (e : Episode) : State.OnEp i s (s.setEp i e) :=
  ⟨rfl, rfl, fun _ hj => s.setEp_ep_other hj e, fun h => State.setEp_calm h i e⟩

theorem State.OnEp.refl (i : Nat) (s : State) : State.OnEp i s s := ⟨rfl, rfl, fun _ _ => rfl, id⟩

theorem State.OnEp.trans {t u : State} (h : State.OnEp i s t) (g : State.OnEp i t u) : State.OnEp i s u := by
  refine ⟨?_, ?_, fun j hj => (g.other j hj).trans (h.other j hj), g.calm ∘ h.calm⟩
  · have hr := h.rest
    have gr := g.rest
    rw [hr] at gr
    exact gr
  · have hf := h.flt
    have gf := g.flt
    unfold Flt.Aside at *
    rw [hf] at gf
    exact gf

section
variable {u : State} (h : State.OnEp i s u)
include h

theorem State.OnEp.now : u.now = s.now := by rw [h.rest]
theorem State.OnEp.pwr : u.pwr = s.pwr := by rw [h.rest]
theorem State.OnEp.tw : u.tw = s.tw := by rw [h.rest]
theorem State.OnEp.per : u.per = s.per := by rw [h.rest]
theorem State.OnEp.nextId : u.flt.nextId = s.flt.nextId := by rw [h.flt]
theorem State.OnEp.conds : u.flt.conds = s.flt.conds := by rw [h.flt]

theorem State.OnEp.condPresent (e : Episode) : u.condPresent e = s.condPresent e := by
  unfold State.condPresent
  rw [h.conds]

theorem State.OnEp.zonePolicy (z : Nat) : u.zonePolicy z = s.zonePolicy z := by
  rw [h.rest]
  rfl

theorem State.OnEp.quad (q : Nat) : u.quad q = s.quad q := by
  rw [h.rest]
  rfl

end

/-! How an episode that is OPEN goes on (14 R418, R428). -/

theorem State.advanceEp_other (h : (s.ep i).st ≠ .opened) : s.advanceEp i = s := by
  unfold State.advanceEp
  exact if_pos (by simp [h])

theorem State.advanceEp_settles (h : (s.ep i).st = .opened) (hcp : ((s.ep i).ofCp && !s.pwr.cpRunning) = false)
    (hr : (s.ep i).reacting = false) (hc : s.condPresent (s.ep i) = false) : s.advanceEp i = s.settle i := by
  unfold State.advanceEp
  refine (if_neg (by simp only [h, ne_eq, not_true_eq_false, decide_false, Bool.false_or, hcp]; exact Bool.false_ne_true)).trans ?_
  rw [hr, hc]
  rfl

theorem State.advanceEp_reacting (h : (s.ep i).reacting = true) : s.advanceEp i = s ∨ s.advanceEp i = s.hold i := by
  unfold State.advanceEp
  dsimp only
  rw [h]
  split
  · exact Or.inl rfl
  · rw [if_neg (by decide)]
    split
    · exact Or.inr rfl
    · exact Or.inl rfl

theorem State.settle_ep_self (hi : i < 16) : (s.settle i).ep i = { (s.ep i) with st := .settling, since := s.now } :=
  s.setEp_ep_self hi _

theorem State.hold_noted (s : State) (i : Nat) : (s.setEp i { (s.ep i) with st := .held }).Noted (s.hold i) :=
  (State.Noted.logEp _ i 7 0).trans (State.Noted.event _ 2)

theorem Flt.find_some {f : Flt} {p : Episode → Bool} (h : f.find p = some i) : i < 16 ∧ (rd f.eps i).isOpen = true ∧ p (rd f.eps i) = true := by
  have hs := List.find?_some h
  have hm := List.mem_of_find?_eq_some h
  exact ⟨List.mem_range.mp hm, (Bool.and_eq_true_iff.mp hs).1, (Bool.and_eq_true_iff.mp hs).2⟩

theorem Flt.freeSlot_lt {f : Flt} (h : f.freeSlot = some i) : i < 16 := List.mem_range.mp (List.mem_of_find?_eq_some h)

/-! The release of a reaction, and a recovery that starts or fails (14 R424, R428). -/

theorem State.Aside.elems (s : State) (i z : Nat) (es : List Nat) (f : Lateness → Lateness) :
    s.Aside (es.foldl (fun s k => if s.heldElsewhere i z k then s else s.onElem z k f) s) := by
  refine State.Aside.foldl (fun u k => ?_) es s
  split
  · exact State.Aside.refl u
  · exact u.onElem_aside z k f

theorem State.releaseEp_onEp (s : State) (i : Nat) : State.OnEp i s (s.releaseEp i) := by
  unfold State.releaseEp
  extract_lets e u lv
  split
  · exact State.OnEp.refl i s
  · have hu : s.Aside u := by
      simp only [u]
      split
      · exact State.Aside.elems s i _ _ _
      · exact State.Aside.refl s
    have hleave : State.OnEp i u { u with flt := { u.flt with leaving := u.flt.leaving ++ [lv] } } :=
      ⟨rfl, rfl, fun _ _ => rfl, fun h => h.congr rfl rfl⟩
    exact (hu.onEp i).trans (hleave.trans ((State.OnEp.setEp _ i _).trans ((State.sync_aside _).onEp i)))

theorem State.releaseEp_ep (hi : i < 16) : (s.releaseEp i).ep i = { (s.ep i) with reacting := false } := by
  unfold State.releaseEp
  extract_lets e u lv
  split
  · next h =>
    show e = { e with reacting := false }
    rw [← (by simpa using h : e.reacting = false)]
  · rw [(State.sync_aside _).ep, State.setEp_ep_self _ hi]

theorem State.releaseEp_resting (h : (s.ep i).reacting = false) : s.releaseEp i = s := by
  unfold State.releaseEp
  dsimp only
  rw [h]
  rfl

theorem State.settle_onEp (s : State) (i : Nat) : State.OnEp i s (s.settle i) := State.OnEp.setEp s i _

theorem State.hold_onEp (s : State) (i : Nat) : State.OnEp i s (s.hold i) :=
  (State.OnEp.setEp s i _).trans ((s.hold_noted i).aside.onEp i)

theorem State.hold_ep (hi : i < 16) : (s.hold i).ep i = { (s.ep i) with st := .held } := by
  rw [(s.hold_noted i).ep, s.setEp_ep_self hi]

/-- An episode under a recovery that starts. -/
def Episode.started (e : Episode) (attempts now : Nat) : Episode :=
  { e with st := .recovering, attempts := attempts, since := now, dirtyAt := now, goodRun := 0, migrating := false, migrated := false }

theorem State.startRecovery_eq (hi : i < 16) (attempts : Nat) :
    State.OnEp i s (s.startRecovery i attempts) ∧ (s.startRecovery i attempts).ep i = (s.ep i).started attempts s.now := by
  unfold State.startRecovery
  extract_lets e s1 s2 s3
  have h1 : State.OnEp i s s1 := State.OnEp.setEp s i _
  have hep : s1.ep i = e.started attempts s.now := s.setEp_ep_self hi _
  have h2 : s1.Aside s2 := (State.Noted.logEp s1 i 4 0).aside
  have h3 : s2.Aside s3 := by
    simp only [s3]
    split
    · exact ⟨rfl, rfl, fun h => h.congr rfl rfl⟩
    · split
      · exact ⟨rfl, rfl, fun h => h.congr rfl rfl⟩
      · exact State.Aside.refl s2
  have ha := h2.trans (h3.trans (State.sync_aside s3))
  exact ⟨h1.trans (ha.onEp i), (ha.ep i).trans hep⟩

end

end Sys2Proof.Machine
end

section
/-!
SUPPORT. What the fault controller decides on a report (14 R410, R415 to R418, R421, R425, R430): settles O38.
-/
namespace Sys2Proof.Machine

section
variable {s : State} {r : Report} {d : Detector} {i : Nat}

/-! A report on its way to its decision. -/

theorem State.sideEffects_none (h : r.code ∉ [0x0101, 0x0102, 0x0201, 0x0202, 0x0203, 0x0605, 0x0701]) : s.sideEffects r = s := by
  unfold State.sideEffects
  split <;> simp_all

theorem State.spareHit_none (h : zTile r.zone = true → (s.quad (quadOf (r.zone - 0x20))).mig = none) : s.spareHit r = s := by
  unfold State.spareHit
  cases hz : zTile r.zone with
  | false => rfl
  | true =>
    rw [if_neg (by decide)]
    dsimp only
    rw [h hz]

/-- The state with a report counted by its severity. -/
def State.sevCounted (s : State) (sev : Nat) : State :=
  s.setFlt { s.flt with sevCount := upd s.flt.sevCount sev (fun n => satAdd 32 n 1) }

/-- What counting a report leaves. -/
structure State.Counts (sev : Nat) (s u : State) : Prop where
  flt : u.flt = { s.flt with sevCount := upd s.flt.sevCount sev (fun n => satAdd 32 n 1) }
  rest : u = { s with flt := u.flt }

theorem State.Counts.sevCounted (s : State) (sev : Nat) : State.Counts sev s (s.sevCounted sev) := ⟨rfl, rfl⟩

section
variable {u : State} {n : Nat} (h : State.Counts n s u)
include h

theorem State.Counts.now : u.now = s.now := by rw [h.rest]
theorem State.Counts.pst : u.pst = s.pst := by rw [h.rest]
theorem State.Counts.pl : u.pl = s.pl := by rw [h.rest]
theorem State.Counts.per : u.per = s.per := by rw [h.rest]
theorem State.Counts.ports : u.ports = s.ports := by rw [h.rest]
theorem State.Counts.tw : u.tw = s.tw := by rw [h.rest]

theorem State.Counts.quad (q : Nat) : u.quad q = s.quad q := by
  rw [h.rest]
  rfl

theorem State.Counts.ep (j : Nat) : u.ep j = s.ep j := by
  unfold State.ep
  rw [h.flt]

theorem State.Counts.calm (hc : s.portsCalm) : u.portsCalm := hc.congr h.ports h.tw

end

theorem State.decideNext_one (h : s.flt.reports = [r]) : s.decideNext = (s.setFlt { s.flt with reports := [] }).decideReport r := by
  unfold State.decideNext
  rw [h]
  simp [nextReport, takeReport]

theorem State.decideReport_corrected (hd : detector r.code = some d) (hz : d.zone r.zone = true) (hon : s.zoneOn r.zone = true)
    (hsev : r.sev d = 0) (hside : ∀ u : State, u.sideEffects r = u) :
    s.decideReport r = (s.sevCounted 0).corrected r d := by
  unfold State.decideReport
  rw [hd]
  dsimp only
  rw [hz, hon, hsev, if_neg (by decide), if_pos rfl, hside]
  rfl

/-- The episode that a report opens. -/
def Report.episode (r : Report) (d : Detector) (legacy : Bool) (now : Nat) : Episode :=
  { ({ Episode.none_ with zone := r.zone, level := r.sev d, first := r.code, legacy := legacy } : Episode).absorb r d (r.sev d) false now with
    secondary := 0 }

/-- A fault of a zone that has an episode, or a free slot for one, and is not among those that overflowed. -/
theorem State.decideReport_fault (hd : detector r.code = some d) (hz : d.zone r.zone = true) (hon : s.zoneOn r.zone = true)
    (hrec : s.recoveringFor r = none) (hside : ∀ u : State, u.sideEffects r = u)
    (hsev : r.sev d ≠ 0) : s.decideReport r = (match s.flt.find (fun e => e.zone == r.zone) with
      | some i => (s.sevCounted (r.sev d)).merge i r d (r.sev d) false
      | none => match s.flt.freeSlot with
        | none => (s.sevCounted (r.sev d)).overflow r d (r.sev d)
        | some i => if s.flt.ovfSet.any (fun o => o.zone == r.zone) then (s.sevCounted (r.sev d)).overflow r d (r.sev d)
          else (s.sevCounted (r.sev d)).openEp i
            (r.episode d (s.zonePolicy r.zone).1 s.now) r.code r.zone (r.sev d) (2 * b2n r.injected) r.data).spareHit r := by
  have hrec' : (s.sevCounted (r.sev d)).recoveringFor r = none := hrec
  have hcount : s.setFlt { s.flt with sevCount := upd s.flt.sevCount (r.sev d) (fun n => satAdd 32 n 1) } = s.sevCounted (r.sev d) := rfl
  unfold State.decideReport
  rw [hd]
  dsimp only
  rw [hz, hon, if_neg (by decide), hcount, if_neg hsev, hrec', hside]
  rfl

/-! A new episode (14 R416). -/

/-- A new episode as its slot holds it. -/
def State.newEp (s : State) (e : Episode) : Episode :=
  { e with
    st := .opened, id := s.flt.nextId, openMt := s.per.mediaTime
    reacting := ({ e with st := .opened, id := s.flt.nextId, openMt := s.per.mediaTime } : Episode).calls }

theorem State.Counts.newEp {u : State} {n : Nat} (h : State.Counts n s u) (e : Episode) : u.newEp e = s.newEp e := by
  unfold State.newEp
  rw [h.flt, h.per]

/-- The state with a new episode in slot `i`. -/
def State.opening (s : State) (i : Nat) (e : Episode) : State :=
  (({ s with boot := if e.zone = 0x01 then { s.boot with ctrlOpened := true } else s.boot } : State).setFlt
    { s.flt with nextId := nextEpId s.flt.nextId }).setEp i (s.newEp e)

theorem State.opening_ep (s : State) (hi : i < 16) (e : Episode) : (s.opening i e).ep i = s.newEp e := State.setEp_ep_self _ hi _

theorem State.opening_ep_other (s : State) {j : Nat} (hj : j ≠ i) (e : Episode) : (s.opening i e).ep j = s.ep j :=
  State.setEp_ep_other _ hj _

theorem State.opening_flt (s : State) (i : Nat) (e : Episode) :
    (s.opening i e).flt = { s.flt with nextId := nextEpId s.flt.nextId, eps := wr s.flt.eps i (s.newEp e) } := rfl

theorem State.opening_calm (h : s.portsCalm) (i : Nat) (e : Episode) : (s.opening i e).portsCalm := h.congr rfl rfl

theorem State.opening_now (s : State) (i : Nat) (e : Episode) : (s.opening i e).now = s.now := rfl

theorem State.opening_quad (s : State) (i : Nat) (e : Episode) (q : Nat) : (s.opening i e).quad q = s.quad q := rfl

theorem State.opening_pl (s : State) (i : Nat) (e : Episode) : (s.opening i e).pl = s.pl := rfl

theorem State.settle_quad (s : State) (i q : Nat) : (s.settle i).quad q = s.quad q := rfl

theorem State.settle_calm (h : s.portsCalm) (i : Nat) : (s.settle i).portsCalm := State.setEp_calm h i _

/-- What opening an episode does: its slot, the reaction on its elements, the holds, then the log, FAULT_N and the next state. -/
theorem State.openEp_eq (s : State) (hi : i < 16) (e : Episode) (det src sev fl data : Nat) :
    ∃ w u, (s.opening i e).Aside w ∧ w.flt = (s.opening i e).flt ∧ w.pst = s.pst ∧ w.sync.Noted u ∧
      (s.flt.pinSev ≤ e.level → u.flt.pinLow = true) ∧ s.openEp i e det src sev fl data = u.advanceEp i := by
  unfold State.openEp
  extract_lets f e' s1 b s2 s3 s4 s5
  have hs2 : s2.flt = s1.flt ∧ s2.pst = s.pst ∧
      s2.setEp i { e' with reacting := e'.calls } = s.opening i e := by
    have hmerge : ∀ b : Boot, ({ s1 with boot := b } : State).setEp i { e' with reacting := e'.calls } =
        (({ s with boot := b } : State).setFlt { s.flt with nextId := nextEpId s.flt.nextId }).setEp i { e' with reacting := e'.calls } :=
      fun b => State.setEp_setEp (({ s with boot := b } : State).setFlt { s.flt with nextId := nextEpId s.flt.nextId }) i e' _
    simp only [s2]
    by_cases hz : e'.zone = 0x01
    · rw [if_pos hz]
      refine ⟨rfl, rfl, (hmerge _).trans ?_⟩
      unfold State.opening
      rw [if_pos (show e.zone = 0x01 from hz)]
      rfl
    · rw [if_neg hz]
      refine ⟨rfl, rfl, (hmerge s1.boot).trans ?_⟩
      unfold State.opening
      rw [if_neg (show ¬ e.zone = 0x01 from hz)]
      rfl
  obtain ⟨hflt, hpst, hopen⟩ := hs2
  have hep : s2.ep i = e' := by
    unfold State.ep
    rw [hflt]
    exact rd_wr_same _ _ _ hi
  obtain ⟨v, w, hv, hvw, hwf, hwp, happ⟩ := s2.applyEp_eq i
  rw [hep, hopen] at hv
  have hn4 : w.sync.Noted s4 := by
    simp only [s4, s3]
    rw [happ]
    exact (State.Noted.log w.sync _ _ _ _ _ _ _ _ _).trans (State.Noted.event _ 2)
  have hpin : s4.flt.pinSev = s.flt.pinSev := by
    rw [hn4.flt, w.sync_flt, hwf, hv]
    rfl
  have hn5 : s4.Noted s5 := by
    simp only [s5]
    split
    · exact State.Noted.pinTrigger s4
    · exact State.Noted.refl s4
  refine ⟨w, s5.ovfWatch, hv ▸ hvw, hwf.trans (by rw [hv]), ?_, hn4.trans (hn5.trans (State.Noted.ovfWatch s5)), fun hle => ?_, rfl⟩
  · rw [hwp, hv]
    rfl
  · have hs5 : s5 = s4.pinTrigger := if_pos (by rw [hpin]; exact hle)
    rw [hs5]
    rfl

/-- A WARN event opens an episode without a reaction, which settles at once. -/
theorem State.openEp_settles (hi : i < 16) {e : Episode} (hcalls : (s.newEp e).reacting = false) (hconds : e.conds = [])
    (hcp : (s.newEp e).ofCp = false) (det src sev fl data : Nat) :
    ∃ u, (s.opening i e).Aside u ∧ s.openEp i e det src sev fl data = u.settle i := by
  obtain ⟨w, u, hw, -, -, hu, -, h⟩ := s.openEp_eq hi e det src sev fl data
  have hau := hw.trans (w.sync_aside.trans hu.aside)
  have hep : u.ep i = s.newEp e := (hau.ep i).trans (s.opening_ep hi e)
  refine ⟨u, hau, h.trans ?_⟩
  refine State.advanceEp_settles ?_ ?_ ?_ ?_
  · rw [hep]
    rfl
  · rw [hep, hcp]
    rfl
  · rw [hep, hcalls]
  · unfold State.condPresent
    rw [hep, show (s.newEp e).conds = [] from hconds]
    rfl

/-! The engine-wide safe state (14 R425). -/

theorem State.hold_pinLow (s : State) (i : Nat) : (s.hold i).flt.pinLow = s.flt.pinLow := by
  have hlog := State.log_flt (s.setEp i { (s.ep i) with st := .held }) 7 ((s.setEp i { (s.ep i) with st := .held }).ep i).id
    ((s.setEp i { (s.ep i) with st := .held }).ep i).zone ((s.setEp i { (s.ep i) with st := .held }).ep i).zone 0
    ((s.setEp i { (s.ep i) with st := .held }).ep i).level 0 0 0
  exact (congrArg Flt.pinLow hlog :)

theorem State.setEp_self (s : State) (i : Nat) : s.setEp i (s.ep i) = s := by
  unfold State.setEp State.ep
  rw [wr_rd_self]

theorem State.paired_of_pl {t : State} (h : t.pl = s.pl) (j : Nat) : t.paired j = s.paired j := by
  unfold State.paired State.modRec
  rw [h]

theorem State.enter_chan {k : Nat} {st : ChSt} (hp : s.paired k = false) (hne : (s.chan k).st ≠ st) (j : Nat) :
    (s.enter k st).chan j = (s.entered k st).chan j := by
  rw [State.enter_eq hp hne]
  dsimp only
  have hstop : (if !st.switches && (s.chan k).stop.isSome then (s.entered k st).stopEnded k else s.entered k st).chan j =
      (s.entered k st).chan j := by
    split
    · exact State.stopEnded_chan _ k j
    · rfl
  split
  · exact hstop
  · exact hstop

/-- The hold cause FLT on a channel. -/
def Chan.faultHeld (c : Chan) : Chan := { c with flt := true }

theorem State.setHold_flt {k : Nat} (hk : k < 32) (hp : s.paired k = false) (hf : (s.chan k).flt = false) :
    ((s.setHold k Chan.faultHeld).chan k).flt = true ∧ ((s.setHold k Chan.faultHeld).chan k).switching = false ∧
      ∀ j, j ≠ k → (s.setHold k Chan.faultHeld).chan j = s.chan j := by
  have hne : ¬ (s.chan k).faultHeld = s.chan k := by
    intro h
    have hflt : true = (s.chan k).flt := congrArg Chan.flt h
    rw [hf] at hflt
    exact Bool.false_ne_true hflt.symm
  obtain ⟨u, hu⟩ : ∃ u, u = s.setHalf k (s.chan k).faultHeld := ⟨_, rfl⟩
  have huk : u.chan k = (s.chan k).faultHeld := by rw [hu]; exact s.setHalf_chan_self hk _
  have huj : ∀ j, j ≠ k → u.chan j = s.chan j := fun j hj => by rw [hu]; exact s.setHalf_chan_other hj _
  have hpu : u.paired k = false := by rw [hu]; exact hp
  have hset : s.setHold k Chan.faultHeld = u.holdChanged k := by
    rw [hu, ← State.setChan_alone hp]
    exact if_neg hne
  have hheld : u.held (u.chan k) = true := by
    rw [huk]
    rfl
  rw [hset, State.holdChanged_of_held hheld, huk, show (s.chan k).faultHeld.flt = true from rfl, Bool.true_or, Bool.true_or,
    Bool.true_or, Bool.true_or, Bool.and_true]
  cases hsw : (s.chan k).faultHeld.switching with
  | false =>
    rw [if_neg (by decide)]
    exact ⟨congrArg Chan.flt huk, (congrArg Chan.switching huk).trans hsw, huj⟩
  | true =>
    have hsw' : (u.chan k).switching = true := (congrArg Chan.switching huk).trans hsw
    have henter := State.enter_chan (s := u.event 6) (st := .held) hpu (Chan.switching_ne_held hsw')
    rw [if_pos rfl]
    have hin : ((u.event 6).enter k .held).chan k = (s.chan k).faultHeld.into .held := by
      rw [henter, State.entered_chan hk]
      exact congrArg (fun c : Chan => c.into .held) huk
    refine ⟨?_, ?_, fun j hj => ?_⟩
    · rw [hin]
      rfl
    · rw [hin]
      rfl
    · rw [henter, (State.OnChan.entered k (u.event 6) .held).other j hj]
      exact huj j hj

/-- The engine-wide safe state holds every channel. -/
theorem State.syncChans_safe {f : Flt} (hp : ∀ k, s.paired k = false) (hf : ∀ k, (s.chan k).flt = false) {k : Nat} (hk : k < 32) :
    ((s.syncChans true f).chan k).flt = true ∧ ((s.syncChans true f).chan k).switching = false := by
  have hfold : ∀ n, n ≤ 32 → ∀ k, k < 32 →
      (k < n → (((List.range n).foldl (State.syncChan true f) s).chan k).flt = true ∧
        (((List.range n).foldl (State.syncChan true f) s).chan k).switching = false) ∧
      (n ≤ k → ((List.range n).foldl (State.syncChan true f) s).chan k = s.chan k) := by
    intro n
    induction n with
    | zero => exact fun _ k _ => ⟨fun h => absurd h (Nat.not_lt_zero k), fun _ => rfl⟩
    | succ n ih =>
      intro hn k hk
      obtain ⟨u, hu⟩ : ∃ u, u = (List.range n).foldl (State.syncChan true f) s := ⟨_, rfl⟩
      have hreb : s.Rebound u := by
        rw [hu]
        exact State.Rebound.foldl (State.Rebound.syncChan true f) _ s
      rw [List.range_succ, List.foldl_append, List.foldl_cons, List.foldl_nil, ← hu]
      have ihk := fun k hk => hu ▸ ih (by omega) k hk
      have hfn : (u.chan n).flt = false := by
        rw [(ihk n (by omega)).2 (Nat.le_refl n)]
        exact hf n
      have hstep : u.syncChan true f n = u.setHold n Chan.faultHeld := if_neg (by rw [hfn]; exact Bool.false_ne_true)
      obtain ⟨h1, h2, h3⟩ := State.setHold_flt (s := u) (k := n) (by omega) ((hreb.paired n).trans (hp n)) hfn
      rw [hstep]
      by_cases hkn : k = n
      · subst hkn
        exact ⟨fun _ => ⟨h1, h2⟩, fun h => absurd h (by omega)⟩
      · rw [h3 k hkn]
        exact ⟨fun h => (ihk k hk).1 (by omega), fun h => (ihk k hk).2 (by omega)⟩
  have hall := (hfold 32 (Nat.le_refl 32) k hk).1 hk
  unfold State.syncChans
  rw [State.leads_alone hp]
  exact hall

theorem State.sync_safe (hsafe : s.flt.safeNow = true) (hp : ∀ k, s.paired k = false) (hf : ∀ k, (s.chan k).flt = false)
    {k : Nat} (hk : k < 32) : (s.sync.chan k).flt = true ∧ (s.sync.chan k).switching = false := by
  obtain ⟨hpst, hpl⟩ := s.safeSet_pst
  have hchan : s.sync.chan k = (s.safeSet.syncChans true s.flt).chan k := by
    unfold State.chan
    rw [State.sync_pst, hsafe]
  rw [hchan]
  refine State.syncChans_safe (fun j => ?_) (fun j => ?_) hk
  · have hm : ∀ n, s.safeSet.modRec n = s.modRec n := fun n => by
      unfold State.modRec
      rw [hpl]
    have hpj := hp j
    unfold State.paired at hpj ⊢
    rw [hm, hm]
    exact hpj
  · unfold State.chan
    rw [hpst]
    exact hf j

theorem Flt.safeNow_of {f : Flt} (hi : i < 16) (ho : (rd f.eps i).isOpen = true) (hr : (rd f.eps i).reacting = true)
    (hl : (rd f.eps i).level = 3) : f.safeNow = true := by
  unfold Flt.safeNow
  have hany : (List.range 16).any (fun i => (rd f.eps i).isOpen && (rd f.eps i).reacting && decide ((rd f.eps i).level = 3)) = true :=
    List.any_eq_true.mpr ⟨i, List.mem_range.mpr hi, by simp [ho, hr, hl]⟩
  rw [hany, Bool.or_true]

/-! A further fault of a zone (14 R417). -/

/-- An episode but for its reaction and the times of its codes. -/
def Episode.SameFault (e f : Episode) : Prop := f = { e with reacting := f.reacting, codes := f.codes }

theorem Episode.SameFault.trans {e f g : Episode} (h : e.SameFault f) (k : f.SameFault g) : e.SameFault g := by
  unfold Episode.SameFault at *
  rw [h] at k
  exact k

theorem State.applyEp_same (hi : i < 16) : State.OnEp i s (s.applyEp i) ∧ (s.ep i).SameFault ((s.applyEp i).ep i) := by
  obtain ⟨v, w, hv, hvw, -, -, happ⟩ := s.applyEp_eq i
  have ha : v.Aside (s.applyEp i) := by
    rw [happ]
    exact hvw.trans w.sync_aside
  refine ⟨?_, ?_⟩
  · refine State.OnEp.trans ?_ (ha.onEp i)
    rw [hv]
    exact State.OnEp.setEp s i _
  · rw [ha.ep, hv, s.setEp_ep_self hi]
    rfl

theorem State.logMerge_same (hi : i < 16) (r : Report) (sev : Nat) (isNew : Bool) :
    State.OnEp i s (s.logMerge i r sev isNew false) ∧ (s.ep i).SameFault ((s.logMerge i r sev isNew false).ep i) := by
  unfold State.logMerge
  extract_lets e put last mark
  rw [if_neg Bool.false_ne_true]
  split
  · have hm : State.OnEp i s (mark s) := State.OnEp.setEp s i _
    have hl : (mark s).Noted (put 2 (mark s)) := State.Noted.log _ _ _ _ _ _ _ _ _ _
    refine ⟨hm.trans (hl.aside.onEp i), ?_⟩
    rw [hl.ep, show mark s = s.setEp i _ from rfl, s.setEp_ep_self hi]
    rfl
  · exact ⟨State.OnEp.refl i s, rfl⟩

/-- A fault that a HELD episode of no lower level absorbs. -/
theorem State.merge_held (hi : i < 16) (hst : (s.ep i).st = .held) {sev : Nat} (hle : sev ≤ (s.ep i).level) :
    State.OnEp i s (s.merge i r d sev false) ∧
      ({ ((s.ep i).absorb r d sev false s.now) with level := (s.ep i).level } : Episode).SameFault ((s.merge i r d sev false).ep i) := by
  unfold State.merge
  extract_lets old isNew e level esc ends e' s1 again s2 s3 s4 s5
  have hlevel : level = (s.ep i).level := by
    have hb : (if false = true then 2 else 0) = 0 := if_neg Bool.false_ne_true
    simp only [level, old, hb, Nat.max_zero]
    exact Nat.max_eq_left hle
  have hesc : esc = false := by
    simp only [esc, hlevel, old]
    exact decide_eq_false (Nat.lt_irrefl _)
  have hends : ends = false := by
    simp only [ends, old, hst]
    rfl
  have he' : e' = { ((s.ep i).absorb r d sev false s.now) with level := (s.ep i).level } := by
    simp only [e', hlevel, hesc, hends, old, hst]
    rw [if_neg (by decide), if_neg Bool.false_ne_true]
    have habs : (s.ep i).st = ((s.ep i).absorb r d sev false s.now).st := rfl
    rw [← hst, habs]
    rfl
  have h1 : State.OnEp i s s1 := State.OnEp.setEp s i e'
  have hep1 : s1.ep i = e' := s.setEp_ep_self hi e'
  have h2 : State.OnEp i s1 s2 ∧ (s1.ep i).SameFault (s2.ep i) := by
    simp only [s2]
    split
    · exact State.applyEp_same hi
    · exact ⟨State.OnEp.refl i s1, rfl⟩
  have h3 : State.OnEp i s2 s3 ∧ (s2.ep i).SameFault (s3.ep i) := by
    simp only [s3, hesc]
    exact State.logMerge_same hi r sev isNew
  have hs4 : s4 = s3 := if_neg Bool.false_ne_true
  have h5 : s3.Noted s5 := by
    simp only [s5, hs4]
    split
    · exact State.Noted.pinTrigger s3
    · exact State.Noted.refl s3
  have h6 := h5.trans (State.Noted.ovfWatch s5)
  have hsame : e'.SameFault (s5.ovfWatch.ep i) := by
    rw [h6.ep, ← hep1]
    exact h2.2.trans h3.2
  have hadv : s5.ovfWatch.advanceEp i = s5.ovfWatch := by
    refine State.advanceEp_other ?_
    rw [hsame, he']
    show (s.ep i).st ≠ .opened
    rw [hst]
    decide
  rw [hadv, ← he']
  exact ⟨h1.trans (h2.1.trans (h3.1.trans (h6.aside.onEp i))), hsame⟩

end

/-- The row of a decision, where service stays calm. -/
theorem State.exec_faultDecision {s t : State} {tm : Nat} (h : (s.at_ tm).decideNext = t) (hc : t.portsCalm) :
    exec (.faultDecision none tm) s = .next t := by
  refine congrArg Host.Outcome.next ((congrArg State.serve h).trans ?_)
  exact State.serve_eq_self hc

/-- What a report of a severity opens in a free slot. -/
theorem State.decideReport_opens {s : State} {r : Report} {d : Detector} {i : Nat} (hd : detector r.code = some d)
    (hz : d.zone r.zone = true) (hon : s.zoneOn r.zone = true) (hrec : s.recoveringFor r = none)
    (hcode : r.code ∉ [0x0101, 0x0102, 0x0201, 0x0202, 0x0203, 0x0605, 0x0701]) (hsev : r.sev d ≠ 0)
    (hfind : s.flt.find (fun e => e.zone == r.zone) = none) (hfree : s.flt.freeSlot = some i)
    (hovf : s.flt.ovfSet.any (fun o => o.zone == r.zone) = false) :
    s.decideReport r = ((s.sevCounted (r.sev d)).openEp i (r.episode d (s.zonePolicy r.zone).1 s.now) r.code r.zone (r.sev d)
      (2 * b2n r.injected) r.data).spareHit r := by
  rw [State.decideReport_fault hd hz hon hrec (fun _ => State.sideEffects_none hcode) hsev, hfind, hfree]
  dsimp only
  rw [hovf]
  rfl

theorem Report.episode_notCp {r : Report} {d : Detector} {legacy : Bool} {now : Nat}
    (hcode : r.code ∉ [0x0101, 0x0102, 0x0201, 0x0202, 0x0203, 0x0605, 0x0701]) : (r.episode d legacy now).ofCp = false := by
  unfold Episode.ofCp
  rw [show (r.episode d legacy now).first = r.code from rfl]
  simp_all

/-- The fault controller with a CORRECTED fault of a zone counted. -/
def Flt.corrects (f : Flt) (zone : Nat) : Flt :=
  { f with corrected := insertKey f.corrected zone (satAdd 32 ((lookup? f.corrected zone).getD 0) 1) }

/-- A CORRECTED fault of a zone without an episode counts and may be logged. -/
theorem State.corrected_eq {s : State} {r : Report} (d : Detector) (hfind : s.flt.find (fun e => e.zone == r.zone) = none) :
    ∃ g, g = { s.flt.corrects r.zone with corrLog := g.corrLog } ∧ (s.setFlt g).Noted (s.corrected r d) ∧
      g.Logged (s.corrected r d).flt := by
  unfold State.corrected
  extract_lets g src f' s1 slot s2 key due src' s3
  have hslot : slot = none := hfind
  have hs2 : s2 = s1 := by
    simp only [s2]
    rw [hslot]
  split
  · have hs3 : s3 = s.setFlt s3.flt ∧ s3.flt = { f' with corrLog := s3.flt.corrLog } := by
      simp only [s3, src']
      rw [hs2]
      exact ⟨rfl, rfl⟩
    refine ⟨s3.flt, hs3.2, ?_, State.log_flt s3 _ _ _ _ _ _ _ _ _⟩
    rw [← hs3.1]
    exact State.Noted.log s3 _ _ _ _ _ _ _ _ _
  · rw [hs2]
    exact ⟨f', rfl, State.Noted.refl _, rfl⟩

section
variable {s : State} {r : Report} {d : Detector} {i : Nat} (hd : detector r.code = some d) (hz : d.zone r.zone = true)
  (hon : s.zoneOn r.zone = true) (hrec : s.recoveringFor r = none)
  (hmig : zTile r.zone = true → (s.quad (quadOf (r.zone - 0x20))).mig = none)
  (hcode : r.code ∉ [0x0101, 0x0102, 0x0201, 0x0202, 0x0203, 0x0605, 0x0701])
include hd hz hon hrec hmig hcode

/-- A WARN event opens an episode that settles. -/
theorem State.decideReport_warn (hsev : r.sev d = 1) (hcond : d.cond = false)
    (hfind : s.flt.find (fun e => e.zone == r.zone) = none) (hfree : s.flt.freeSlot = some i)
    (hovf : s.flt.ovfSet.any (fun o => o.zone == r.zone) = false) :
    ∃ t, s.decideReport r = t ∧ (s.portsCalm → t.portsCalm) ∧
      t.ep i = { (s.newEp (r.episode d (s.zonePolicy r.zone).1 s.now)) with st := .settling, since := s.now } ∧
      (t.ep i).reacting = false ∧ (∀ j, j ≠ i → t.ep j = s.ep j) ∧ t.flt.nextId = nextEpId s.flt.nextId ∧
      t.flt.reports = s.flt.reports ∧ t.flt.sevCount = upd s.flt.sevCount 1 (fun n => satAdd 32 n 1) := by
  have hi : i < 16 := Flt.freeSlot_lt hfree
  have hopen := State.decideReport_opens hd hz hon hrec hcode (by omega) hfind hfree hovf
  obtain ⟨x, hx⟩ : ∃ x, x = r.episode d (s.zonePolicy r.zone).1 s.now := ⟨_, rfl⟩
  rw [← hx, hsev] at hopen
  have hcalls : (s.newEp x).reacting = false := by
    have hlevel : x.level = 1 := by
      rw [hx, ← hsev]
      rfl
    show Episode.calls _ = false
    simp [Episode.calls, hlevel]
  have hconds : x.conds = [] := by
    rw [hx]
    show (if d.cond && !r.injected then _ else _) = _
    rw [hcond]
    rfl
  have hcp : (s.newEp x).ofCp = false := by
    rw [hx]
    exact Report.episode_notCp (d := d) (legacy := (s.zonePolicy r.zone).1) (now := s.now) hcode
  obtain ⟨b, hb⟩ : ∃ b, b = s.sevCounted 1 := ⟨_, rfl⟩
  have hcnt : State.Counts 1 s b := hb ▸ State.Counts.sevCounted s 1
  rw [← hb] at hopen
  rw [← hx]
  have hnew := hcnt.newEp x
  obtain ⟨u, hu, hset⟩ := State.openEp_settles (s := b) hi (by rw [hnew]; exact hcalls) hconds (by rw [hnew]; exact hcp) r.code r.zone 1
    (2 * b2n r.injected) r.data
  have hquad : ∀ q, (u.settle i).quad q = s.quad q := fun q => by
    rw [u.settle_quad, hu.quad, b.opening_quad, hcnt.quad]
  have hspare : (u.settle i).spareHit r = u.settle i := State.spareHit_none fun ht => by
    rw [hquad]
    exact hmig ht
  have hself := u.settle_ep_self hi
  rw [hu.ep, b.opening_ep hi, hnew, hu.now, b.opening_now, hcnt.now] at hself
  have hflt : (u.settle i).flt.nextId = u.flt.nextId ∧ (u.settle i).flt.reports = u.flt.reports ∧
      (u.settle i).flt.sevCount = u.flt.sevCount := ⟨rfl, rfl, rfl⟩
  rw [hu.flt, b.opening_flt, hcnt.flt] at hflt
  refine ⟨u.settle i, by rw [hopen, hset, hspare], fun hc => State.settle_calm (hu.calm (State.opening_calm (hcnt.calm hc) i x)) i, hself,
    by rw [hself]; exact hcalls, fun j hj => ?_, hflt.1, hflt.2.1, hflt.2.2⟩
  rw [show (u.settle i).ep j = u.ep j from u.setEp_ep_other hj _, hu.ep, b.opening_ep_other hj, hcnt.ep]

/-- A fault of level ENGINE puts the engine-wide safe state in force and FAULT_N low. -/
theorem State.decideReport_engine (hsev : r.sev d = 3) (hpin : s.flt.pinSev ≤ 3)
    (hfind : s.flt.find (fun e => e.zone == r.zone) = none) (hfree : s.flt.freeSlot = some i)
    (hovf : s.flt.ovfSet.any (fun o => o.zone == r.zone) = false) (hp : ∀ k, s.paired k = false) (hf : ∀ k, (s.chan k).flt = false) :
    ∃ t, s.decideReport r = t ∧ (s.portsCalm → t.portsCalm) ∧ t.flt.engineSafe = true ∧ t.flt.pinLow = true ∧ (t.ep i).level = 3 ∧
      (t.ep i).reacting = true ∧ ∀ k, k < 32 → (t.chan k).flt = true ∧ (t.chan k).switching = false := by
  have hi : i < 16 := Flt.freeSlot_lt hfree
  have hopen := State.decideReport_opens hd hz hon hrec hcode (by omega) hfind hfree hovf
  obtain ⟨x, hx⟩ : ∃ x, x = r.episode d (s.zonePolicy r.zone).1 s.now := ⟨_, rfl⟩
  rw [← hx, hsev] at hopen
  have hlevel : x.level = 3 := by
    rw [hx, ← hsev]
    rfl
  have hcalls : (s.newEp x).reacting = true := by
    show Episode.calls _ = true
    simp [Episode.calls, hlevel]
  obtain ⟨b, hb⟩ : ∃ b, b = s.sevCounted 3 := ⟨_, rfl⟩
  have hcnt : State.Counts 3 s b := hb ▸ State.Counts.sevCounted s 3
  rw [← hb] at hopen
  obtain ⟨w, u, hw, -, hwp, hu, hlow, h⟩ := b.openEp_eq hi x r.code r.zone 3 (2 * b2n r.injected) r.data
  have hau := hw.trans (w.sync_aside.trans hu.aside)
  have hepw : w.ep i = s.newEp x := by rw [hw.ep, b.opening_ep hi, hcnt.newEp]
  have hep : u.ep i = s.newEp x := by rw [hau.ep, b.opening_ep hi, hcnt.newEp]
  have hsafe : w.flt.safeNow = true := by
    refine Flt.safeNow_of hi ?_ ?_ ?_
    · exact (congrArg Episode.isOpen hepw).trans rfl
    · exact (congrArg Episode.reacting hepw).trans hcalls
    · exact (congrArg Episode.level hepw).trans hlevel
  have hwpl : w.pl = s.pl := by rw [hw.rest, b.opening_pl, hcnt.pl]
  have hch : ∀ k, k < 32 → (u.chan k).flt = true ∧ (u.chan k).switching = false := by
    intro k hk
    rw [hu.chan]
    refine State.sync_safe hsafe (fun j => ?_) (fun j => ?_) hk
    · exact (State.paired_of_pl hwpl j).trans (hp j)
    · unfold State.chan
      rw [hwp, hcnt.pst]
      exact hf j
  obtain ⟨t, ht⟩ : ∃ t, t = u.advanceEp i := ⟨_, rfl⟩
  have hadv : State.Noted (u.setEp i (t.ep i)) t ∧ (t.ep i).level = 3 ∧ (t.ep i).reacting = true ∧ t.flt.pinLow = u.flt.pinLow := by
    have hlev : (u.ep i).level = 3 := (congrArg Episode.level hep).trans hlevel
    have hrea : (u.ep i).reacting = true := (congrArg Episode.reacting hep).trans hcalls
    rcases State.advanceEp_reacting hrea with h' | h'
    · rw [ht, h', State.setEp_self]
      exact ⟨State.Noted.refl u, hlev, hrea, rfl⟩
    · have hn := State.hold_noted u i
      have hheld := hn.ep i
      rw [u.setEp_ep_self hi] at hheld
      rw [ht, h', hheld]
      exact ⟨hn, hlev, hrea, u.hold_pinLow i⟩
  obtain ⟨hn, hlev, hrea, hpin'⟩ := hadv
  have hspare : t.spareHit r = t := State.spareHit_none fun hz => by
    rw [hn.aside.quad, show (u.setEp i (t.ep i)).quad _ = u.quad _ from rfl, hau.quad, b.opening_quad, hcnt.quad]
    exact hmig hz
  refine ⟨t, by rw [hopen, h, ← ht, hspare], fun hc => ?_, ?_, ?_, hlev, hrea, fun k hk => ?_⟩
  · exact hn.calm (State.setEp_calm (hau.calm (State.opening_calm (hcnt.calm hc) i x)) i _)
  · rw [hn.safe, show (u.setEp i (t.ep i)).flt.engineSafe = u.flt.engineSafe from rfl, hu.safe, w.sync_flt, hsafe]
  · rw [hpin']
    exact hlow (by rw [hlevel, hcnt.flt]; exact hpin)
  · rw [hn.chan]
    exact hch k hk

omit hrec hmig in
/-- A CORRECTED fault only counts. -/
theorem State.decideReport_counts (hsev : r.sev d = 0) (hfind : s.flt.find (fun e => e.zone == r.zone) = none) :
    ∃ t, s.decideReport r = t ∧ (s.portsCalm → t.portsCalm) ∧ t.flt.eps = s.flt.eps ∧ t.flt.pinLow = s.flt.pinLow ∧
      t.flt.pulseEnd = s.flt.pulseEnd ∧ t.flt.engineSafe = s.flt.engineSafe ∧
      lookup? t.flt.corrected r.zone = some (satAdd 32 ((lookup? s.flt.corrected r.zone).getD 0) 1) := by
  have hcnt := State.Counts.sevCounted s 0
  obtain ⟨b, hb⟩ : ∃ b, b = s.sevCounted 0 := ⟨_, rfl⟩
  rw [← hb] at hcnt
  have hrun := State.decideReport_corrected hd hz hon hsev (fun _ => State.sideEffects_none hcode)
  rw [← hb] at hrun
  obtain ⟨g, hg, ht, hlog⟩ := State.corrected_eq d (show b.flt.find (fun e => e.zone == r.zone) = none by rw [hcnt.flt]; exact hfind)
  refine ⟨b.corrected r d, hrun, fun hc => ht.calm ((hcnt.calm hc).congr rfl rfl), ?_⟩
  rw [hlog, hg, hcnt.flt]
  exact ⟨rfl, rfl, rfl, rfl, lookup?_insertKey_self _ _ _⟩

/-- A further fault of a zone merges into its HELD episode. -/
theorem State.decideReport_merges (hpos : 1 ≤ r.sev d) (hle : r.sev d ≤ (s.ep i).level)
    (hfind : s.flt.find (fun e => e.zone == r.zone) = some i) (hst : (s.ep i).st = .held) :
    ∃ t, s.decideReport r = t ∧ (s.portsCalm → t.portsCalm) ∧ t.flt.nextId = s.flt.nextId ∧ (∀ j, j ≠ i → t.ep j = s.ep j) ∧
      ({ ((s.ep i).absorb r d (r.sev d) false s.now) with level := (s.ep i).level } : Episode).SameFault (t.ep i) := by
  have hcnt := State.Counts.sevCounted s (r.sev d)
  have hi : i < 16 := (Flt.find_some hfind).1
  have hrun := State.decideReport_fault hd hz hon hrec (fun _ => State.sideEffects_none hcode) (by omega)
  obtain ⟨b, hb⟩ : ∃ b, b = s.sevCounted (r.sev d) := ⟨_, rfl⟩
  rw [hfind, ← hb] at hrun
  rw [← hb] at hcnt
  obtain ⟨ht, hsame⟩ := State.merge_held (s := b) (r := r) (d := d) hi (by rw [hcnt.ep]; exact hst) (sev := r.sev d) (by rw [hcnt.ep]; exact hle)
  rw [hcnt.ep, hcnt.now] at hsame
  have hspare : (b.merge i r d (r.sev d) false).spareHit r = b.merge i r d (r.sev d) false := State.spareHit_none fun hz => by
    rw [ht.quad, hcnt.quad]
    exact hmig hz
  refine ⟨b.merge i r d (r.sev d) false, hrun.trans hspare, fun hc => ht.calm (hcnt.calm hc), ?_, fun j hj => ?_, hsame⟩
  · rw [ht.nextId, hcnt.flt]
  · rw [ht.other j hj, hcnt.ep]

end

/-- Settles O38: each decision by the equation of what it opens or absorbs, and by what the log, FAULT_N and the holds leave
unchanged. -/
theorem faultDecisions : Obligations.FaultDecisions := by
  unfold Obligations.FaultDecisions
  intro s tm r d i hcalm hrep hd hz hon hrec hmig hcode hovf
  obtain ⟨v, hv⟩ : ∃ v, v = (s.at_ tm).setFlt { s.flt with reports := [] } := ⟨_, rfl⟩
  have hrun : (s.at_ tm).decideNext = v.decideReport r := by
    rw [hv]
    exact State.decideNext_one (s := s.at_ tm) hrep
  have hvcalm : ∀ n, (v.sevCounted n).portsCalm := fun n => by
    rw [hv]
    exact hcalm.congr rfl rfl
  have hvon : v.zoneOn r.zone = true := by rw [hv]; exact hon
  have hvrec : v.recoveringFor r = none := by rw [hv]; exact hrec
  have hvmig : zTile r.zone = true → (v.quad (quadOf (r.zone - 0x20))).mig = none := by rw [hv]; exact hmig
  have hvcalm : v.portsCalm := by rw [hv]; exact hcalm.congr rfl rfl
  have hvflt : v.flt = { s.flt with reports := [] } := by rw [hv]; rfl
  have hvep : ∀ j, v.ep j = s.ep j := fun j => by
    unfold State.ep
    rw [hvflt]
  have hnone : s.flt.ovfSet.any (fun o => o.zone == r.zone) = false :=
    List.any_eq_false.mpr fun o ho => by simpa using hovf o ho
  refine ⟨fun hsev hcond hfind hfree => ?_, fun hsev hpin hfind hfree hch => ?_, fun hsev hfind => ?_, fun hpos hle hfind hst => ?_⟩
  · obtain ⟨t, ht, hc, hep, hrea, hother, hid, hreps, hcount⟩ := State.decideReport_warn hd hz hvon hvrec hvmig hcode hsev hcond
      (by rw [hvflt]; exact hfind) (by rw [hvflt]; exact hfree) (by rw [hvflt]; exact hnone)
    refine ⟨t, State.exec_faultDecision (hrun.trans ht) (hc hvcalm), ?_, ?_, ?_, ?_, ?_, ?_, ?_, ?_, hrea, ?_, ?_, ?_, fun j hj => ?_⟩
    · rw [hep]
    · rw [hep]
      exact (congrArg Flt.nextId hvflt :)
    · rw [hep]
      rfl
    · rw [hep]
      exact hsev
    · rw [hep]
      rfl
    · rw [hep]
      rfl
    · rw [hep]
      rfl
    · rw [hep]
      rfl
    · rw [hid, hvflt]
    · rw [hreps, hvflt]
    · rw [hcount, hvflt]
      exact rd_wr_same _ _ _ (by decide)
    · rw [hother j hj, hvep]
  · obtain ⟨t, ht, hc, hes, hlow, hlev, hrea, hall⟩ := State.decideReport_engine hd hz hvon hvrec hvmig hcode hsev
      (by rw [hvflt]; exact hpin) (by rw [hvflt]; exact hfind) (by rw [hvflt]; exact hfree) (by rw [hvflt]; exact hnone)
      (fun k => by rw [hv]; exact (hch k).1) (fun k => by rw [hv]; exact (hch k).2)
    exact ⟨t, State.exec_faultDecision (hrun.trans ht) (hc hvcalm), hes, hlow, hlev, hrea, fun k hk => (hall k hk).2, fun k hk => (hall k hk).1⟩
  · obtain ⟨t, ht, hc, h1, h2, h3, h4, h5⟩ := State.decideReport_counts hd hz hvon hcode hsev (by rw [hvflt]; exact hfind)
    rw [hvflt] at h1 h2 h3 h4 h5
    exact ⟨t, State.exec_faultDecision (hrun.trans ht) (hc hvcalm), h1, h2, h3, h4, h5⟩
  · obtain ⟨t, ht, hc, hid, hother, hsame⟩ := State.decideReport_merges hd hz hvon hvrec hvmig hcode hpos (by rw [hvep]; exact hle)
      (by rw [hvflt]; exact hfind) (by rw [hvep]; exact hst)
    rw [hvep] at hsame
    refine ⟨t, State.exec_faultDecision (hrun.trans ht) (hc hvcalm), ?_, ?_, ?_, ?_, ?_, ?_, ?_, fun j hj => ?_⟩
    · exact (congrArg Episode.st hsame).trans hst
    · exact (congrArg Episode.id hsame :)
    · exact (congrArg Episode.level hsame :)
    · exact (congrArg Episode.last hsame :)
    · exact (congrArg Episode.first hsame :)
    · exact (congrArg Episode.secondary hsame :)
    · rw [hid, hvflt]
    · rw [hother j hj, hvep]

end Sys2Proof.Machine
end

section
/-!
SUPPORT. How an episode settles, closes and recovers (14 R418 to R420, R424, R428): settles O40.
-/
namespace Sys2Proof.Machine

section
variable {s : State} {i : Nat}

/-! CONDITION_CLEARED (14 R418, R419). -/

theorem foldl_idle {α β : Type} {f : α → β → α} {a : α} (l : List β) (h : ∀ b ∈ l, f a b = a) : l.foldl f a = a := by
  induction l with
  | nil => rfl
  | cons b l ih => rw [List.foldl_cons, h b (by simp), ih fun c hc => h c (by simp [hc])]

/-- A fold in which only one element acts. -/
theorem foldl_once {α β : Type} {f : α → β → α} {Q : α → Prop} {b : β} {l : List β} (hl : l.Nodup) (hb : b ∈ l)
    (hidle : ∀ a c, Q a → c ≠ b → f a c = a) {a : α} (ha : Q a) (hfa : Q (f a b)) : l.foldl f a = f a b := by
  induction l with
  | nil => exact absurd hb List.not_mem_nil
  | cons c l ih =>
    obtain ⟨hc, hl'⟩ := List.nodup_cons.mp hl
    rw [List.foldl_cons]
    rcases List.mem_cons.mp hb with h | h
    · subst h
      exact foldl_idle l fun d hd => hidle _ d hfa fun he => hc (he ▸ hd)
    · rw [hidle a c ha fun he => hc (he ▸ h)]
      exact ih hl' h

/-- What CONDITION_CLEARED does to one slot. -/
def State.clearEp (s : State) (i : Nat) : State :=
  let e := s.ep i
  if e.conds.isEmpty then s else if e.st = .opened then s.advanceEp i else s.settleEnd i

/-- Only the episode of slot `i` has waited for the end of a condition. -/
def State.onlyConds (s : State) (i : Nat) : Prop := ∀ j, j ≠ i → (s.ep j).conds = []

theorem State.clearEp_idle {j : Nat} (h : (s.ep j).conds = []) : s.clearEp j = s := by
  unfold State.clearEp
  dsimp only
  rw [h]
  rfl

theorem State.onlyConds.onEp {u : State} (h : s.onlyConds i) (g : State.OnEp i s u) : u.onlyConds i := fun j hj => by
  rw [g.other j hj]
  exact h j hj

/-- Where one episode has waited for the end of its conditions, and they have ended, it settles. -/
theorem State.clears_one (hi : i < 16) (ho : s.onlyConds i) (hst : (s.ep i).st = .opened) (hr : (s.ep i).reacting = false)
    (hne : (s.ep i).conds ≠ []) (hc : s.condPresent (s.ep i) = false) (hcp : (s.ep i).ofCp = false) :
    (List.range 16).foldl State.clearEp s = s.settle i := by
  have hstep : s.clearEp i = s.settle i := by
    unfold State.clearEp
    dsimp only
    rw [if_neg (by simpa using hne), if_pos hst]
    exact State.advanceEp_settles hst (by rw [hcp]; rfl) hr hc
  rw [foldl_once (f := State.clearEp) (Q := fun u => u.onlyConds i) List.nodup_range (List.mem_range.mpr hi)
    (fun u j hu hj => State.clearEp_idle (hu j hj)) ho (by rw [hstep]; exact ho.onEp (s.settle_onEp i)), hstep]

theorem State.conditionCleared_none (s : State) : s.conditionCleared none = (List.range 16).foldl State.clearEp s := by
  unfold State.conditionCleared State.clearEp
  rfl

theorem State.conditionCleared_report {x : DetReport} (h : externCond x.code = true) :
    s.conditionCleared (some (.report x)) = (List.range 16).foldl State.clearEp (s.endCond x.code x.zone x.elem) := by
  unfold State.conditionCleared State.clearEp
  dsimp only
  rw [h]
  rfl

/-! The settle timer (14 R418, R419). -/

theorem State.log_fits (h : s.flt.log.length < 1024) (k ep z src det lv sev fl d : Nat) :
    ∃ x, (s.log k ep z src det lv sev fl d).flt.log = s.flt.log ++ [x] ∧ x.kind = k ∧ x.episode = ep ∧ x.zone = z := by
  unfold State.log
  extract_lets e was u
  have hu : u.flt.log = s.flt.log ++ [{ e with seq := s.flt.logSeq % 2 ^ 32, missed := s.flt.missedNext }] := by
    simp only [u]
    show (s.flt.write e).log = _
    unfold Flt.write
    rw [if_pos h]
  refine ⟨{ e with seq := s.flt.logSeq % 2 ^ 32, missed := s.flt.missedNext }, ?_, rfl, rfl, rfl⟩
  split
  · exact hu
  · exact hu

theorem State.settleEnd_closes (hi : i < 16) (hst : (s.ep i).st = .settling) (hdue : (s.ep i).since + s.flt.settleMs * 1000000 ≤ s.now)
    (hc : s.condPresent (s.ep i) = false) (hr : (s.ep i).reacting = false) (hovf : s.flt.ovfSet = []) (hlog : s.flt.log.length < 1024) :
    State.OnEp i s (s.settleEnd i) ∧ (s.settleEnd i).ep i = Episode.none_ ∧
      ∃ x, (s.settleEnd i).flt.log = s.flt.log ++ [x] ∧ x.kind = 6 ∧ x.episode = (s.ep i).id ∧ x.zone = (s.ep i).zone := by
  have hclose : s.settleEnd i = s.closeEp i false := by
    unfold State.settleEnd
    exact if_pos (by simp [hst, hdue, hc])
  obtain ⟨x, hx, hk, he, hz⟩ := State.log_fits hlog 6 (s.ep i).id (s.ep i).zone (s.ep i).zone 0 (s.ep i).level 0 0 0
  have hn : s.Noted (s.logEp i 6 0) := State.Noted.logEp s i 6 0
  obtain ⟨u, hu⟩ : ∃ u, u = (s.logEp i 6 0).setEp i Episode.none_ := ⟨_, rfl⟩
  have hon : State.OnEp i s u := by
    rw [hu]
    exact (hn.aside.onEp i).trans (State.OnEp.setEp _ i _)
  have hovf' : u.fromOverflow = u := by
    have hlow : u.flt.lowestOvf = none := by
      unfold Flt.lowestOvf
      rw [hon.flt, hovf]
      rfl
    unfold State.fromOverflow
    rw [hlow]
    split
    · contradiction
    · rfl
  have hall : s.closeEp i false = u.ovfWatch.pinFollow := by
    unfold State.closeEp
    rw [State.releaseEp_resting hr]
    dsimp only
    rw [show b2n false = 0 from rfl, ← hu, hovf']
  have hw : u.Noted u.ovfWatch.pinFollow := (State.Noted.ovfWatch u).trans (State.Noted.pinFollow _)
  obtain ⟨f, hf, hpin⟩ := u.ovfWatch.pinFollow_cases
  rw [hclose, hall]
  refine ⟨hon.trans (hw.aside.onEp i), ?_, x, ?_, hk, he, hz⟩
  · rw [hw.ep, hu, State.setEp_ep_self _ hi]
  · rw [hf]
    show f.log = _
    rw [hpin]
    show u.flt.log = _
    rw [hu]
    exact hx

/-! Recoveries (14 R418, R420, R428). -/

theorem State.recoveryStart_starts (hst : (s.ep i).st = .opened) (hr : (s.ep i).reacting = true)
    (hp : (s.zonePolicy (s.ep i).zone).2 = true) (ha : (s.ep i).attempts < 3) (hcp : s.pwr.cpRunning = true)
    (hb : (s.ep i).backoffDone s.now = true) : s.recoveryStart i = s.startRecovery i ((s.ep i).attempts + 1) := by
  unfold State.recoveryStart
  exact if_pos (by simp [hst, hr, hp, ha, hcp, hb])

theorem zTile_matrix : zTile 0x70 = false := rfl

theorem State.recovered_matrix {e : Episode} (h : e.zone = 0x70) : s.recovered e = decide (256 ≤ e.goodRun) := by
  unfold State.recovered
  dsimp only
  rw [h, zTile_matrix]
  rfl

theorem State.recoverySuccess_settles (hi : i < 16) (hst : (s.ep i).st = .recovering) (hcp : s.pwr.cpRunning = true)
    (hrec : s.recovered (s.ep i) = true) :
    State.OnEp i s (s.recoverySuccess i) ∧
      (s.recoverySuccess i).ep i = { (s.ep i) with attemptEnd := s.now, reacting := false, st := .settling, since := s.now } := by
  have hrun : s.recoverySuccess i = (((s.setEp i { (s.ep i) with attemptEnd := s.now }).releaseEp i).logEp i 5 0).settle i := by
    unfold State.recoverySuccess
    exact if_pos (by simp [hst, hcp, hrec])
  have h1 : State.OnEp i s (s.setEp i { (s.ep i) with attemptEnd := s.now }) := State.OnEp.setEp s i _
  obtain ⟨u, hu⟩ : ∃ u, u = s.setEp i { (s.ep i) with attemptEnd := s.now } := ⟨_, rfl⟩
  have hep : u.ep i = { (s.ep i) with attemptEnd := s.now } := by
    rw [hu]
    exact s.setEp_ep_self hi _
  have hn := State.Noted.logEp (u.releaseEp i) i 5 0
  rw [← hu] at h1 hrun
  have hon : State.OnEp i s ((u.releaseEp i).logEp i 5 0) := h1.trans ((u.releaseEp_onEp i).trans (hn.aside.onEp i))
  rw [hrun]
  refine ⟨hon.trans (State.settle_onEp _ i), ?_⟩
  rw [State.settle_ep_self hi, hn.ep, State.releaseEp_ep hi, hep, hon.now]

/-- A recovery of the matrix that runs out of time with attempts left returns to OPEN, with none left to HELD. -/
theorem State.attemptFails_matrix (hi : i < 16) (hz : (s.ep i).zone = 0x70) (hp : (s.zonePolicy 0x70).2 = true)
    (hcodes : ∀ p ∈ (s.ep i).codes, p.1 ≠ 0x0101 ∧ p.1 ≠ 0x0102) (hl : (s.ep i).level = 2) (ho : (s.ep i).outNonSelf = true) :
    State.OnEp i s (s.attemptFails i) ∧ ((s.attemptFails i).ep i).st = (if (s.ep i).attempts < 3 then .opened else .held) ∧
      ((s.attemptFails i).ep i).attempts = (s.ep i).attempts ∧ ((s.attemptFails i).ep i).reacting = true := by
  obtain ⟨e, he⟩ : ∃ e : Episode, e = { (s.ep i) with st := .opened, attemptEnd := s.now, migrating := false } := ⟨_, rfl⟩
  obtain ⟨u, hu⟩ : ∃ u, u = s.setEp i e := ⟨_, rfl⟩
  have hrun : s.attemptFails i = (u.applyEp i).advanceEp i := by
    rw [hu, he]
    rfl
  have h1 : State.OnEp i s u := by
    rw [hu]
    exact State.OnEp.setEp s i e
  have hue : u.ep i = e := by
    rw [hu]
    exact s.setEp_ep_self hi e
  have hcalls : e.calls = true := by
    unfold Episode.calls
    rw [he]
    simp [hl, ho, hz, zoneReacts]
  obtain ⟨v, w, hv, hvw, -, -, happ⟩ := u.applyEp_eq i
  have ha : v.Aside (u.applyEp i) := by
    rw [happ]
    exact hvw.trans w.sync_aside
  have h2 : State.OnEp i s (u.applyEp i) := by
    refine h1.trans (State.OnEp.trans ?_ (ha.onEp i))
    rw [hv]
    exact State.OnEp.setEp u i _
  have hep : (u.applyEp i).ep i = { e with reacting := true } := by
    rw [ha.ep, hv, u.setEp_ep_self hi, hue, hcalls]
  have hpol : ((u.applyEp i).zonePolicy 0x70).2 = true := (congrArg Prod.snd (h2.zonePolicy 0x70)).trans hp
  have hez : e.zone = 0x70 := by rw [he]; exact hz
  have heo : e.st = .opened := by rw [he]
  obtain ⟨e', he'⟩ : ∃ e' : Episode, e' = { e with reacting := true } := ⟨_, rfl⟩
  rw [← he'] at hep
  have hst' : e'.st = .opened := by rw [he']; exact heo
  have hrea' : e'.reacting = true := by rw [he']
  have hz' : e'.zone = 0x70 := by rw [he']; exact hez
  have hat' : e'.attempts = e.attempts := by rw [he']
  have hcodes' : e'.codes = e.codes := by rw [he']
  have hcp : e'.ofCp = false := by
    unfold Episode.ofCp
    rw [hz']
    rfl
  have hnone : e.codes.any (fun c => c.1 == 0x0101 || c.1 == 0x0102) = false := by
    rw [he]
    exact List.any_eq_false.mpr fun p hp => by simpa using hcodes p hp
  have hadv : (u.applyEp i).advanceEp i = if e.attempts < 3 then u.applyEp i else (u.applyEp i).hold i := by
    unfold State.advanceEp
    rw [hep]
    dsimp only
    rw [hst', hcp, hrea', hz', hpol, hat', hcodes', hnone, Bool.or_false, Bool.false_and, if_neg (by decide), if_neg (by decide)]
    by_cases hat : e.attempts < 3
    · rw [if_pos hat, if_neg (by simpa using hat)]
    · rw [if_neg hat, if_pos (by simpa using Nat.not_lt.mp hat)]
  have hea : e.attempts = (s.ep i).attempts := by rw [he]
  rw [hrun, hadv, hea]
  by_cases hat : (s.ep i).attempts < 3
  · rw [if_pos hat, if_pos hat, hep]
    exact ⟨h2, hst', hat'.trans hea, hrea'⟩
  · rw [if_neg hat, if_neg hat, State.hold_ep hi, hep]
    exact ⟨h2.trans (State.hold_onEp _ i), rfl, hat'.trans hea, hrea'⟩

theorem Episode.timeout_matrix {e : Episode} (h : e.zone = 0x70) : e.timeout = some 100000000 := by
  unfold Episode.timeout
  rw [h, if_neg (by decide), if_pos rfl]

theorem State.recoveryTimeout_matrix (hst : (s.ep i).st = .recovering) (hz : (s.ep i).zone = 0x70) :
    s.recoveryTimeout i = if !s.pwr.cpRunning || decide (256 ≤ (s.ep i).goodRun) then s
      else if s.now < (s.ep i).since + 100000000 then s else s.attemptFails i := by
  unfold State.recoveryTimeout
  dsimp only
  rw [State.recovered_matrix hz, hst, Episode.timeout_matrix hz, hz]
  dsimp only
  rw [if_neg (c := (0x70 : Nat) = 0x71) (by decide), zTile_matrix, if_neg (c := false = true) (by decide)]
  simp only [ne_eq, not_true_eq_false, decide_false, Bool.false_or]

end

/-- The end of the one condition of an episode. -/
theorem State.condPresent_endCond {s : State} {e : Episode} {c z el : Nat} (h : e.conds = [⟨c, z, el⟩]) :
    (s.endCond c z el).condPresent e = false := by
  unfold State.condPresent
  rw [h]
  exact (Bool.or_false _).trans (State.hasCond_endCond_self s c z el)

/-- Settles O40: each row by what it does to the one episode, with what a release and a recovery touch beside it. -/
theorem episodeStates : Obligations.EpisodeStates := by
  unfold Obligations.EpisodeStates
  intro s tm now i e hi hcalm he hnow hstops
  subst he hnow
  obtain ⟨v, hv⟩ : ∃ v, v = s.at_ tm := ⟨_, rfl⟩
  have hep : ∀ j, v.ep j = s.ep j := fun j => by rw [hv]; rfl
  have hvnow : v.now = max s.now tm := by rw [hv]; rfl
  have hvcalm : v.portsCalm := by rw [hv]; exact hcalm.congr rfl rfl
  have hvcond : ∀ x, v.condPresent x = s.condPresent x := fun x => by rw [hv]; rfl
  have hother : ∀ {u : State}, State.OnEp i v u → ∀ j, j ≠ i → u.ep j = s.ep j := fun h j hj => (h.other j hj).trans (hep j)
  have hserve : ∀ {u : State}, State.OnEp i v u → u.serve = u := fun h => State.serve_eq_self (h.calm hvcalm)
  have honly : (∀ j, j ≠ i → (s.ep j).conds = []) → v.onlyConds i := fun h j hj => by rw [hep]; exact h j hj
  refine ⟨fun x hx hst hr hconds hcp ho => ?_, fun hst hr hne hc hcp ho => ?_, fun hst hdue hc hr hovf hlog => ?_,
    fun hst hr hp ha hcp hb => ?_, fun hst hcp hz hg => ?_, fun hst hcp hz hg hdue hp hcodes hl hout => ?_, fun hst hz hlt => ?_⟩
  · obtain ⟨u, hu⟩ : ∃ u, u = v.endCond x.code x.zone x.elem := ⟨_, rfl⟩
    have huep : ∀ j, u.ep j = s.ep j := fun j => by rw [hu]; exact hep j
    have hclear : u.hasCond x.code x.zone x.elem = false := by
      rw [hu]
      exact State.hasCond_endCond_self _ _ _ _
    have hcond : u.condPresent (u.ep i) = false := by
      rw [huep, hu]
      exact State.condPresent_endCond hconds
    have hrun : v.conditionCleared (some (.report x)) = u.settle i := by
      rw [State.conditionCleared_report hx, ← hu]
      exact State.clears_one hi (fun j hj => by rw [huep]; exact ho j hj) (by rw [huep]; exact hst) (by rw [huep]; exact hr)
        (by rw [huep, hconds]; exact List.cons_ne_nil _ _) hcond (by rw [huep]; exact hcp)
    have hcalm' : (u.settle i).portsCalm := (State.settle_onEp u i).calm (by rw [hu]; exact State.endCond_calm hvcalm _ _ _)
    rw [hv] at hrun
    refine ⟨u.settle i, congrArg Host.Outcome.next ((congrArg State.serve hrun).trans (State.serve_eq_self hcalm')), ?_, ?_, ?_, fun j hj => ?_⟩
    · rw [State.settle_ep_self hi]
    · rw [State.settle_ep_self hi, ← hvnow, hu]
      rfl
    · exact hclear
    · exact ((State.settle_onEp u i).other j hj).trans (huep j)
  · have hrun : v.conditionCleared none = v.settle i := by
      rw [State.conditionCleared_none]
      exact State.clears_one hi (honly ho) (by rw [hep]; exact hst) (by rw [hep]; exact hr) (by rw [hep]; exact hne)
        (by rw [hvcond, hep]; exact hc) (by rw [hep]; exact hcp)
    have hon := State.settle_onEp v i
    have hs := hserve hon
    rw [hv] at hrun hs
    refine ⟨v.settle i, congrArg Host.Outcome.next ?_, ?_, ?_, hother hon⟩
    · rw [hrun, hs, hv]
    · rw [State.settle_ep_self hi]
    · rw [State.settle_ep_self hi, hvnow]
  · obtain ⟨hon, hnone, x, hx, hk, hid, hzone⟩ := State.settleEnd_closes (s := v) hi (by rw [hep]; exact hst)
      (by rw [hep, hvnow, hv]; exact hdue) (by rw [hvcond, hep]; exact hc) (by rw [hep]; exact hr) (by rw [hv]; exact hovf)
      (by rw [hv]; exact hlog)
    rw [hep] at hid hzone
    refine ⟨v.settleEnd i, x, congrArg Host.Outcome.next ?_, hnone, ?_, hk, hid, hzone, hother hon⟩
    · rw [← hv]
      exact hserve hon
    · rw [hx, hv]
      rfl
  · have hback : (v.ep i).backoffDone v.now = true := by
      unfold Episode.backoffDone
      rw [hep, hvnow]
      simpa using hb
    have hrun := State.recoveryStart_starts (s := v) (i := i) (by rw [hep]; exact hst) (by rw [hep]; exact hr)
      (by rw [hep, hv]; exact hp) (by rw [hep]; exact ha) (by rw [hv]; exact hcp) hback
    obtain ⟨hon, hend⟩ := State.startRecovery_eq (s := v) hi ((v.ep i).attempts + 1)
    rw [← hrun] at hon hend
    rw [hep, hvnow] at hend
    refine ⟨v.recoveryStart i, congrArg Host.Outcome.next ?_, ?_, ?_, ?_, ?_, hother hon⟩
    · rw [← hv]
      exact hserve hon
    · rw [hend]
      rfl
    · rw [hend]
      rfl
    · rw [hend]
      rfl
    · rw [hend]
      exact hr
  · obtain ⟨hon, hend⟩ := State.recoverySuccess_settles (s := v) hi (by rw [hep]; exact hst) (by rw [hv]; exact hcp)
      (by rw [hep, State.recovered_matrix hz]; exact decide_eq_true hg)
    rw [hep, hvnow] at hend
    refine ⟨v.recoverySuccess i, congrArg Host.Outcome.next ?_, ?_, ?_, ?_, ?_, hother hon⟩
    · rw [← hv]
      exact hserve hon
    · rw [hend]
    · rw [hend]
    · rw [hend]
    · rw [hend]
  · obtain ⟨hon, h1, h2, h3⟩ := State.attemptFails_matrix (s := v) hi (by rw [hep]; exact hz) (by rw [hv]; exact hp)
      (by rw [hep]; exact hcodes) (by rw [hep]; exact hl) (by rw [hep]; exact hout)
    have hrun : v.recoveryTimeout i = v.attemptFails i := by
      have hvcp : v.pwr.cpRunning = true := by rw [hv]; exact hcp
      rw [State.recoveryTimeout_matrix (by rw [hep]; exact hst) (by rw [hep]; exact hz), hep, hvcp, hvnow,
        if_neg (by simpa using hg), if_neg (Nat.not_lt.mpr hdue)]
    rw [hep] at h1 h2
    refine ⟨v.attemptFails i, congrArg Host.Outcome.next ?_, h1, h2, h3, hother hon⟩
    rw [← hv, hrun]
    exact hserve hon
  · have hrun : v.recoveryTimeout i = v := by
      rw [State.recoveryTimeout_matrix (by rw [hep]; exact hst) (by rw [hep]; exact hz), hep, hvnow, if_pos hlt, ite_self]
    refine ⟨v, congrArg Host.Outcome.next ?_, by rw [hv]; rfl⟩
    rw [← hv, hrun]
    exact hserve (State.OnEp.refl i v)

end Sys2Proof.Machine
end

section
/-!
SUPPORT. FAULT_N, the end of the overflow, the watchdog and FLT_PIN_CTRL (14 R425, R426, R429, R431, R439): settles O41.
-/
namespace Sys2Proof.Machine

/-! Fields of a packed word. -/

theorem packBits_shift (w v : Nat) (r : List (Nat × Nat)) : packBits ((w, v) :: r) >>> w = packBits r := by
  rw [packBits, Nat.shiftRight_eq_div_pow, Nat.add_mul_div_left _ _ (Nat.two_pow_pos w),
    Nat.div_eq_of_lt (Nat.mod_lt v (Nat.two_pow_pos w)), Nat.zero_add]

theorem bits_packBits_skip (w v lo len : Nat) (r : List (Nat × Nat)) : bits (packBits ((w, v) :: r)) (w + lo) len = bits (packBits r) lo len := by
  unfold bits
  rw [Nat.shiftRight_add, packBits_shift]

theorem bits_packBits_head (w v : Nat) (r : List (Nat × Nat)) : bits (packBits ((w, v) :: r)) 0 w = v % 2 ^ w := by
  unfold bits
  rw [Nat.shiftRight_zero, packBits, Nat.add_mul_mod_self_left, Nat.mod_mod]

theorem bit_packBits_skip (w v i : Nat) (r : List (Nat × Nat)) : bit (packBits ((w, v) :: r)) (w + i) = bit (packBits r) i := by
  unfold bit
  rw [← packBits_shift w v r, Nat.testBit_shiftRight]

theorem bit_packBits_head (b : Bool) (r : List (Nat × Nat)) : bit (packBits ((1, if b then 1 else 0) :: r)) 0 = b := by
  unfold bit
  rw [packBits, Nat.testBit_zero]
  cases b <;> simp [Nat.add_mod]

/-! What every step of the fault controller leaves unchanged. -/

/-- From `s` to `u` at most the fault controller changed, with what its reactions touch. -/
def State.FltStep (s u : State) : Prop :=
  u = { s with
    flt := u.flt, ports := u.ports, pst := u.pst, str := u.str, sap := u.sap, tiles := u.tiles, mtx := u.mtx, ex := u.ex, boot := u.boot }

theorem State.FltStep.refl (s : State) : s.FltStep s := rfl

theorem State.FltStep.trans {s t u : State} (h : s.FltStep t) (g : t.FltStep u) : s.FltStep u := by
  unfold State.FltStep at *
  rw [h] at g
  exact g

theorem State.Aside.step {s u : State} (h : s.Aside u) : s.FltStep u := by
  unfold State.FltStep
  rw [h.rest]

theorem State.OnEp.step {i : Nat} {s u : State} (h : State.OnEp i s u) : s.FltStep u := by
  unfold State.FltStep
  rw [h.rest]

theorem State.FltStep.setFlt (s : State) (f : Flt) : s.FltStep (s.setFlt f) := rfl
theorem State.FltStep.setEp (s : State) (i : Nat) (e : Episode) : s.FltStep (s.setEp i e) := rfl

theorem State.FltStep.foldl {α : Type} {f : State → α → State} (hf : ∀ u a, State.FltStep u (f u a)) (l : List α) (s : State) :
    s.FltStep (l.foldl f s) := by
  induction l generalizing s with
  | nil => exact State.FltStep.refl s
  | cons a l ih => exact (hf s a).trans (ih _)

theorem State.FltStep.log (s : State) (k ep z src det lv sev fl d : Nat) : s.FltStep (s.log k ep z src det lv sev fl d) :=
  (State.Noted.log s k ep z src det lv sev fl d).aside.step

theorem State.FltStep.event (s : State) (v : Nat) : s.FltStep (s.event v) := (State.Noted.event s v).aside.step

theorem State.FltStep.applyEp (s : State) (i : Nat) : s.FltStep (s.applyEp i) := by
  obtain ⟨v, w, hv, hvw, -, -, happ⟩ := s.applyEp_eq i
  have h1 : s.FltStep v := by
    rw [hv]
    exact State.FltStep.setEp s i _
  rw [happ]
  exact h1.trans (hvw.trans w.sync_aside).step

theorem State.FltStep.advanceEp (s : State) (i : Nat) : s.FltStep (s.advanceEp i) := by
  unfold State.advanceEp
  dsimp only
  split
  · exact State.FltStep.refl s
  · split
    · split
      · exact State.FltStep.refl s
      · exact (s.settle_onEp i).step
    · split
      · exact (s.hold_onEp i).step
      · exact State.FltStep.refl s

theorem State.FltStep.opening (s : State) (i : Nat) (e : Episode) : s.FltStep (s.opening i e) := rfl

theorem State.FltStep.openEp (s : State) {i : Nat} (hi : i < 16) (e : Episode) (det src sev fl data : Nat) :
    s.FltStep (s.openEp i e det src sev fl data) := by
  obtain ⟨w, u, hw, -, -, hu, -, h⟩ := s.openEp_eq hi e det src sev fl data
  rw [h]
  exact (State.FltStep.opening s i e).trans (hw.step.trans (w.sync_aside.step.trans (hu.aside.step.trans (State.FltStep.advanceEp u i))))

theorem State.FltStep.ite {s : State} (c : Prop) [Decidable c] {t u : State} (h : s.FltStep t) (g : s.FltStep u) :
    s.FltStep (if c then t else u) := by
  split
  · exact h
  · exact g

theorem State.FltStep.logMerge (s : State) (i : Nat) (r : Report) (sev : Nat) (isNew esc : Bool) :
    s.FltStep (s.logMerge i r sev isNew esc) := by
  unfold State.logMerge
  extract_lets e put last mark
  have hput : ∀ k u, State.FltStep u (put k u) := fun k u => State.FltStep.log u _ _ _ _ _ _ _ _ _
  have hmark : s.FltStep (mark s) := State.FltStep.setEp s i _
  split
  · exact hmark.trans ((hput 3 _).trans (State.FltStep.event _ 2))
  · split
    · exact hmark.trans (hput 2 _)
    · exact State.FltStep.refl s

theorem State.FltStep.merge (s : State) (i : Nat) (r : Report) (d : Detector) (sev : Nat) (rec_ : Bool) :
    s.FltStep (s.merge i r d sev rec_) := by
  unfold State.merge
  extract_lets old isNew e level esc ends e' s1 again s2 s3 s4 s5
  have h1 : s.FltStep s1 := State.FltStep.setEp s i e'
  have h2 : s.FltStep s2 := h1.trans (State.FltStep.ite _ (State.FltStep.applyEp s1 i) (State.FltStep.refl s1))
  have h3 : s.FltStep s3 := h2.trans (State.FltStep.logMerge s2 i r sev _ _)
  have h4 : s.FltStep s4 := h3.trans (State.FltStep.ite _
    (State.FltStep.ite _ (State.FltStep.refl s3) (s3.hold_onEp i).step) (State.FltStep.refl s3))
  have h5 : s.FltStep s5 := h4.trans (State.FltStep.ite _ (State.Noted.pinTrigger s4).aside.step (State.FltStep.refl s4))
  exact h5.trans ((State.Noted.ovfWatch s5).aside.step.trans (State.FltStep.advanceEp _ i))

theorem State.FltStep.overflow (s : State) (r : Report) (d : Detector) (sev : Nat) : s.FltStep (s.overflow r d sev) := by
  unfold State.overflow
  extract_lets f was ns set s1 s2 s3 s4 s5
  have h2 : s.FltStep s2 := (State.FltStep.setFlt s _).trans
    (State.FltStep.ite _ (State.react_aside s1 _ _).step (State.FltStep.refl s1))
  have h4 : s.FltStep s4 := h2.trans (s2.sync_aside.step.trans (State.FltStep.log s3 _ _ _ _ _ _ _ _ _))
  have h5 : s.FltStep s5 := h4.trans (State.FltStep.ite _ (State.FltStep.refl s4) (State.FltStep.event s4 3))
  exact h5.trans ((State.Noted.ovfWatch s5).aside.step.trans (State.Noted.pinTrigger _).aside.step)

theorem State.FltStep.releaseEp (s : State) (i : Nat) : s.FltStep (s.releaseEp i) := (s.releaseEp_onEp i).step

theorem State.FltStep.fromOverflow (s : State) : s.FltStep s.fromOverflow := by
  unfold State.fromOverflow
  split
  · next i o hfree hlow =>
    exact (State.FltStep.setFlt s _).trans (State.FltStep.openEp _ (Flt.freeSlot_lt hfree) _ _ _ _ _ _)
  · exact State.FltStep.refl s

theorem State.FltStep.closeEp (s : State) (i : Nat) (reset : Bool) : s.FltStep (s.closeEp i reset) := by
  unfold State.closeEp
  extract_lets u
  have hu : s.FltStep u := (State.FltStep.releaseEp s i).trans (State.Noted.logEp _ i 6 _).aside.step
  exact hu.trans ((State.FltStep.setEp u i _).trans ((State.FltStep.fromOverflow _).trans
    ((State.Noted.ovfWatch _).aside.step.trans (State.Noted.pinFollow _).aside.step)))

theorem State.FltStep.closeZones (s : State) (z : Nat → Bool) (keep : Episode → Bool) : s.FltStep (s.closeZones z keep) := by
  unfold State.closeZones
  extract_lets f u
  refine (State.FltStep.setFlt s _).trans (State.FltStep.foldl (fun t i => ?_) _ u)
  exact State.FltStep.ite _ (State.FltStep.closeEp t i true) (State.FltStep.refl t)

/-! The watchdog (14 R429). -/

/-- The report of the watchdog. -/
def wdogReport (pc now : Nat) : Report := ⟨0x0201, 0x01, 0xFFFF, pc % 2 ^ 32, false, now / 10⟩

theorem State.FltStep.decideWdog (s : State) (pc now : Nat) : s.FltStep (s.decideReport (wdogReport pc now)) := by
  have hd : detector (wdogReport pc now).code = some ⟨1, false, false, (· == 0x01)⟩ := rfl
  have hz : zTile (wdogReport pc now).zone = false := rfl
  have hrec : ∀ u : State, u.recoveringFor (wdogReport pc now) = none := fun u => by
    unfold State.recoveringFor
    rw [hz]
    rfl
  have hspare : ∀ u : State, u.spareHit (wdogReport pc now) = u := fun u => State.spareHit_none fun h => absurd h (by rw [hz]; decide)
  have hside : ∀ u : State, u.sideEffects (wdogReport pc now) = u := fun u => rfl
  by_cases hon : s.zoneOn (wdogReport pc now).zone = true
  · rw [State.decideReport_fault hd rfl hon (hrec s) hside (show (1 : Nat) ≠ 0 by decide), hspare]
    have hcount := fun n => State.FltStep.setFlt s { s.flt with sevCount := upd s.flt.sevCount n (fun m => satAdd 32 m 1) }
    cases hfind : s.flt.find (fun e => e.zone == (wdogReport pc now).zone) with
    | some i => exact (hcount _).trans (State.FltStep.merge _ i _ _ _ false)
    | none =>
      cases hfree : s.flt.freeSlot with
      | none => exact (hcount _).trans (State.FltStep.overflow _ _ _ _)
      | some i =>
        exact State.FltStep.ite _ ((hcount _).trans (State.FltStep.overflow _ _ _ _))
          ((hcount _).trans (State.FltStep.openEp _ (Flt.freeSlot_lt hfree) _ _ _ _ _ _))
  · unfold State.decideReport
    rw [hd]
    dsimp only
    rw [Bool.eq_false_iff.mpr hon, Bool.not_false, Bool.or_true, if_pos rfl]
    exact State.FltStep.refl s

/-- What a restart of the control processor leaves of the period and the power. -/
structure State.Running (s u : State) : Prop where
  per : u.per = s.per
  cp : u.pwr.cpRunning = s.pwr.cpRunning
  service : u.pwr.service = s.pwr.service
  restarts : u.pwr.restarts = s.pwr.restarts

theorem State.Running.refl (s : State) : s.Running s := ⟨rfl, rfl, rfl, rfl⟩

theorem State.Running.trans {s t u : State} (h : s.Running t) (g : t.Running u) : s.Running u :=
  ⟨g.per.trans h.per, g.cp.trans h.cp, g.service.trans h.service, g.restarts.trans h.restarts⟩

theorem State.Running.of_eq {s u : State} (hp : u.per = s.per) (hw : u.pwr = s.pwr) : s.Running u := ⟨hp, by rw [hw], by rw [hw], by rw [hw]⟩

theorem State.FltStep.running {s u : State} (h : s.FltStep u) : s.Running u := State.Running.of_eq (by rw [h]) (by rw [h])

theorem State.Running.foldl {α : Type} {f : State → α → State} (hf : ∀ u a, State.Running u (f u a)) (l : List α) (s : State) :
    s.Running (l.foldl f s) := by
  induction l generalizing s with
  | nil => exact State.Running.refl s
  | cons a l ih => exact (hf s a).trans (ih _)

theorem State.Running.complete (s : State) (q : CPort) (h : Nat) (st : Status) (d : Nat) (r : List Byte) : s.Running (s.complete q h st d r) := by
  obtain ⟨P, hP⟩ := (s.complete_fewer q h st d r).as_
  rw [hP]
  exact State.Running.of_eq rfl rfl

theorem State.breakStage_running (s : State) : s.Running s.breakStage := by
  unfold State.breakStage
  split
  · exact State.Running.of_eq rfl rfl
  · exact State.Running.refl s

theorem State.Running.of_some {s a u : State} (h : some a = some u) (g : s.Running a) : s.Running u := by
  rw [← Option.some.inj h]
  exact g

/-- The work taken from a command in flight is neither the period nor the control processor. -/
theorem State.dropWork_running {s u : State} {p : CPort} {f : Flight} (h : s.dropWork p f = some u) : s.Running u := by
  unfold State.dropWork at h
  extract_lets mine at h
  split at h
  · exact State.Running.of_some h ⟨rfl, rfl, rfl, rfl⟩
  · split at h
    · split at h
      · split at h
        · exact State.Running.of_some h ⟨rfl, rfl, rfl, rfl⟩
        · split at h
          · contradiction
          · exact State.Running.of_some h ⟨rfl, rfl, rfl, rfl⟩
      · exact State.Running.of_some h ⟨rfl, rfl, rfl, rfl⟩
    · split at h
      · split at h
        · exact State.Running.of_some h ⟨rfl, rfl, rfl, rfl⟩
        · split at h
          · exact State.Running.of_some h ⟨rfl, rfl, rfl, rfl⟩
          · exact State.Running.of_some h ⟨rfl, rfl, rfl, rfl⟩
      · exact State.Running.of_some h ⟨rfl, rfl, rfl, rfl⟩
    · split at h
      · split at h
        · exact State.Running.of_some h ⟨rfl, rfl, rfl, rfl⟩
        · split at h
          · exact State.Running.of_some h ⟨rfl, rfl, rfl, rfl⟩
          · exact State.Running.of_some h ⟨rfl, rfl, rfl, rfl⟩
      · exact State.Running.of_some h ⟨rfl, rfl, rfl, rfl⟩
    · split at h
      · split at h
        · exact State.Running.of_some h ⟨rfl, rfl, rfl, rfl⟩
        · split at h
          · exact State.Running.of_some h ⟨rfl, rfl, rfl, rfl⟩
          · exact State.Running.of_some h ⟨rfl, rfl, rfl, rfl⟩
      · exact State.Running.of_some h ⟨rfl, rfl, rfl, rfl⟩
    · extract_lets x at h
      split at h
      · exact State.Running.of_some h ⟨rfl, rfl, rfl, rfl⟩
      · split at h
        · contradiction
        · exact State.Running.of_some h ⟨rfl, rfl, rfl, rfl⟩
        · exact State.Running.of_some h ⟨rfl, rfl, rfl, rfl⟩
    · exact State.Running.of_some h ⟨rfl, rfl, rfl, rfl⟩
    · exact State.Running.of_some h ⟨rfl, rfl, rfl, rfl⟩
    · exact State.Running.of_some h ⟨rfl, rfl, rfl, rfl⟩
    · exact State.Running.of_some h ⟨rfl, rfl, rfl, rfl⟩
    · exact State.Running.of_some h ⟨rfl, rfl, rfl, rfl⟩
    · exact State.Running.of_some h ⟨rfl, rfl, rfl, rfl⟩
    · exact State.Running.of_some h ⟨rfl, rfl, rfl, rfl⟩
    · exact State.Running.of_some h ⟨rfl, rfl, rfl, rfl⟩
    · exact State.Running.of_some h ⟨rfl, rfl, rfl, rfl⟩
    · split at h
      · extract_lets who at h
        split at h
        · exact State.Running.of_some h ⟨rfl, rfl, rfl, rfl⟩
        · split at h
          · contradiction
          · split at h
            · exact State.Running.of_some h ⟨rfl, rfl, rfl, rfl⟩
            · exact State.Running.of_some h ⟨rfl, rfl, rfl, rfl⟩
      · exact State.Running.of_some h ⟨rfl, rfl, rfl, rfl⟩
    · refine State.Running.of_some h ?_
      split
      · exact s.breakStage_running
      · exact State.Running.refl s
    · exact State.Running.of_some h ⟨rfl, rfl, rfl, rfl⟩

theorem State.abortAll_running (s : State) (st : Status) (d : Nat) : s.Running (s.abortAll st d) := by
  unfold State.abortAll
  refine State.Running.foldl (fun u p => State.Running.foldl (fun v f => ?_) _ u) _ s
  split
  · exact State.Running.refl v
  · next w hw => exact (State.dropWork_running hw).trans (State.Running.complete w p f.handle st d [])

theorem State.hwHoldover_running (s : State) : s.Running s.hwHoldover := by
  unfold State.hwHoldover
  dsimp only
  split
  · exact State.Running.refl s
  · exact State.Running.of_eq rfl rfl

theorem State.stopCp_spec (s : State) : s.stopCp.per = s.per ∧ s.stopCp.pwr.cpRunning = false ∧ s.stopCp.pwr.service = false ∧
    s.stopCp.pwr.restarts = s.pwr.restarts := by
  unfold State.stopCp
  extract_lets u p
  have hu : s.Running u := by
    simp only [u]
    split
    · exact s.hwHoldover_running
    · exact State.Running.refl s
  exact ⟨hu.per, rfl, rfl, hu.restarts⟩

theorem State.applyMasks_running (s : State) : s.Running s.applyMasks := by
  unfold State.applyMasks
  exact State.Running.foldl (fun u p => State.Running.of_eq (State.setPort_per u p _) (State.setPort_pwr u p _)) _ s

/-- The restart counted, with what it loses of held test requests and sticky errors (19 R565). -/
def State.restarted (s : State) : State :=
  let clear (x : PortS) : PortS := { x with cqFullSeen := false, dmaErr := false, doorbellErr := false, setupErr := false }
  { s with
    pwr := { s.pwr with restarts := satAdd 16 s.pwr.restarts 1 }
    hlt := { s.hlt with held := [] }
    ports := { s.ports with c := clear s.ports.c, d := clear s.ports.d } }

theorem State.restarted_pwr (s : State) : s.restarted.pwr = { s.pwr with restarts := satAdd 16 s.pwr.restarts 1 } := rfl
theorem State.restarted_per (s : State) : s.restarted.per = s.per := rfl

theorem State.restartPd1_eq (s : State) : s.restartPd1 = ((s.stopCp.abortAll .aborted 0x0120).applyMasks).restarted := rfl

theorem State.restartPd1_spec (s : State) : s.restartPd1.per = s.per ∧ s.restartPd1.pwr.cpRunning = false ∧
    s.restartPd1.pwr.service = false ∧ s.restartPd1.pwr.restarts = satAdd 16 s.pwr.restarts 1 := by
  obtain ⟨h1, h2, h3, h4⟩ := s.stopCp_spec
  have hr := (State.abortAll_running s.stopCp .aborted 0x0120).trans (State.applyMasks_running _)
  rw [State.restartPd1_eq, State.restarted_pwr, State.restarted_per, hr.per, hr.restarts, h4]
  exact ⟨h1, hr.cp.trans h2, hr.service.trans h3, rfl⟩

/-- The state with other power. -/
def State.withPwr (s : State) (p : Pwr) : State := { s with pwr := p }

theorem State.withPwr_per (s : State) (p : Pwr) : (s.withPwr p).per = s.per := rfl
theorem State.withPwr_pwr (s : State) (p : Pwr) : (s.withPwr p).pwr = p := rfl

/-- The power of a restart that the watchdog asks for: its cause and back-off. -/
def Pwr.wdogDue (p : Pwr) (run at_ : Nat) : Pwr :=
  { p with causes := { p.causes with wdog := true }, wdRun := run, wdLast := some at_, bootAfter := at_ }

theorem Pwr.wdogDue_spec (p : Pwr) (run at_ : Nat) : (p.wdogDue run at_).cpRunning = p.cpRunning ∧ (p.wdogDue run at_).service = p.service ∧
    (p.wdogDue run at_).causes.wdog = true ∧ (p.wdogDue run at_).restarts = p.restarts := ⟨rfl, rfl, rfl, rfl⟩

theorem State.restartCp_step (s : State) : ∃ run at_,
    (s.restartPd1.withPwr (s.restartPd1.pwr.wdogDue run at_)).FltStep s.restartCp := by
  unfold State.restartCp
  extract_lets s1 p run wait at_ c s2 s3
  have h2 : s2 = s1.withPwr (p.wdogDue (run + 1) at_) := rfl
  have h3 : s2.FltStep s3 := State.FltStep.closeZones s2 _ _
  refine ⟨run + 1, at_, ?_⟩
  rw [← h2]
  refine h3.trans ?_
  split
  · exact State.FltStep.ite _ (State.FltStep.setEp s3 _ _) (State.FltStep.refl s3)
  · exact State.FltStep.refl s3

theorem State.restartCp_spec (s : State) : s.restartCp.per = s.per ∧ s.restartCp.pwr.cpRunning = false ∧
    s.restartCp.pwr.service = false ∧ s.restartCp.pwr.causes.wdog = true ∧ s.restartCp.pwr.restarts = satAdd 16 s.pwr.restarts 1 := by
  obtain ⟨h1, h2, h3, h4⟩ := s.restartPd1_spec
  obtain ⟨run, at_, hstep⟩ := s.restartCp_step
  obtain ⟨hcp, hsv, hwd, hrs⟩ := Pwr.wdogDue_spec s.restartPd1.pwr run at_
  obtain ⟨t, ht⟩ : ∃ t, t = s.restartCp := ⟨_, rfl⟩
  obtain ⟨u, hu⟩ : ∃ u, u = s.restartPd1.withPwr (s.restartPd1.pwr.wdogDue run at_) := ⟨_, rfl⟩
  rw [← ht, ← hu] at hstep
  have hper : t.per = u.per := by rw [hstep]
  have hpwr : t.pwr = u.pwr := by rw [hstep]
  rw [← ht, hper, hpwr, hu, State.withPwr_per, State.withPwr_pwr, hcp, hsv, hwd, hrs]
  exact ⟨h1, h2, h3, rfl, h4⟩

/-! The end of the overflow (14 R426). -/

theorem State.overflowClear_clears {s : State} {u : Nat} (hu : s.flt.lowSince = some u) (hdue : u + s.flt.settleMs * 1000000 ≤ s.now) :
    s.overflowClear = (s.setFlt { s.flt with overflow := false, lowSince := none }).sync := by
  unfold State.overflowClear
  rw [hu]
  exact if_pos hdue

theorem Flt.safeNow_clear {f : Flt} (ho : f.overflow = false) (hl : f.leaving = []) (hlev : ∀ i, i < 16 → (rd f.eps i).level ≠ 3) :
    f.safeNow = false := by
  have hany : (List.range 16).any (fun i => (rd f.eps i).isOpen && (rd f.eps i).reacting && decide ((rd f.eps i).level = 3)) = false :=
    List.any_eq_false.mpr fun i hi => by simp [hlev i (List.mem_range.mp hi)]
  unfold Flt.safeNow
  rw [hany, ho, hl]
  rfl

/-! FAULT_N and FLT_PIN_CTRL (14 R431, R439). -/

section
variable {s : State}

theorem State.pinFollow_releases {p : Nat} (hp : s.flt.pulseEnd = some p) (hdue : p ≤ s.now) (hlow : s.flt.pinLow = true)
    (hr : s.flt.releasedAt = none) (hh : s.flt.holdsLow = false) :
    s.pinFollow = s.setFlt { s.flt with pinLow := false, pulseEnd := none, releasedAt := some s.now } := by
  have hball : s.flt.ballLow s.now = true := by
    unfold Flt.ballLow
    rw [hlow, hr]
    rfl
  unfold State.pinFollow
  extract_lets f pulse
  have hpulse : pulse = false := by
    simp only [pulse, f, hp]
    exact decide_eq_false (Nat.not_lt.mpr hdue)
  exact (if_neg (by rw [hpulse, hh]; decide)).trans (if_pos hball)

theorem State.pinFollow_holds (hh : s.flt.holdsLow = true) : s.pinFollow.flt.pinLow = true := by
  unfold State.pinFollow
  dsimp only
  rw [hh, Bool.or_true, if_pos rfl]
  rfl

theorem State.pinFollow_settings (s : State) : s.pinFollow.flt.stretch = s.flt.stretch ∧ s.pinFollow.flt.pinSev = s.flt.pinSev ∧
    s.pinFollow.flt.holdMode = s.flt.holdMode ∧ s.pinFollow.flt.force = s.flt.force ∧ s.pinFollow.flt.settleMs = s.flt.settleMs ∧
    s.pinFollow.flt.eps = s.flt.eps := by
  obtain ⟨f, h, hf⟩ := s.pinFollow_cases
  rw [h]
  show f.stretch = _ ∧ f.pinSev = _ ∧ f.holdMode = _ ∧ f.force = _ ∧ f.settleMs = _ ∧ f.eps = _
  rw [hf]
  exact ⟨rfl, rfl, rfl, rfl, rfl, rfl⟩

/-- A word of FLT_PIN_CTRL. -/
def pinWord (stretch sev hold : Nat) (force : Bool) : Nat :=
  packBits [(1, 0), (1, if force then 1 else 0), (2, hold), (2, sev), (10, 0), (10, stretch)]

theorem pinWord_fields {stretch sev hold : Nat} (force : Bool) (hst : stretch ≤ 1000) (hsev : sev ≤ 3) (hh : hold ≤ 2) :
    bits (pinWord stretch sev hold force) 16 10 = stretch ∧ bits (pinWord stretch sev hold force) 4 2 = sev ∧
      bits (pinWord stretch sev hold force) 2 2 = hold ∧ bit (pinWord stretch sev hold force) 1 = force := by
  unfold pinWord
  refine ⟨?_, ?_, ?_, ?_⟩
  · rw [bits_packBits_skip 1 0 15, bits_packBits_skip 1 _ 14, bits_packBits_skip 2 _ 12, bits_packBits_skip 2 _ 10,
      bits_packBits_skip 10 _ 0, bits_packBits_head]
    exact Nat.mod_eq_of_lt (by omega)
  · rw [bits_packBits_skip 1 0 3, bits_packBits_skip 1 _ 2, bits_packBits_skip 2 _ 0, bits_packBits_head]
    exact Nat.mod_eq_of_lt (by omega)
  · rw [bits_packBits_skip 1 0 1, bits_packBits_skip 1 _ 0, bits_packBits_head]
    exact Nat.mod_eq_of_lt (by omega)
  · rw [bit_packBits_skip 1 0 0, bit_packBits_head]

theorem State.writePinCtrl_word {stretch sev hold : Nat} (force : Bool) (h1 : 1 ≤ stretch) (hst : stretch ≤ 1000) (hsev : sev ≤ 3)
    (hh : hold ≤ 2) : s.writePinCtrl (pinWord stretch sev hold force) = some (s.setPin stretch sev hold force s.flt.settleMs) := by
  obtain ⟨f1, f2, f3, f4⟩ := pinWord_fields force hst hsev hh
  have hok : (!within 1 1000 stretch || decide (hold = 3)) = false := by
    simp [within, h1, hst]
    omega
  unfold State.writePinCtrl
  dsimp only
  rw [f1, f2, f3, f4, hok]
  rfl

theorem State.setPin_spec (s : State) (stretch sev hold : Nat) (force : Bool) (settle : Nat) :
    (s.setPin stretch sev hold force settle).flt.stretch = stretch ∧ (s.setPin stretch sev hold force settle).flt.pinSev = sev ∧
      (s.setPin stretch sev hold force settle).flt.holdMode = hold ∧ (s.setPin stretch sev hold force settle).flt.force = force ∧
      (s.setPin stretch sev hold force settle).flt.settleMs = settle ∧ (s.setPin stretch sev hold force settle).flt.eps = s.flt.eps :=
  State.pinFollow_settings _

theorem State.setPin_force (s : State) (stretch sev hold settle : Nat) : (s.setPin stretch sev hold true settle).flt.pinLow = true :=
  State.pinFollow_holds rfl

/-- A requester that reaches the registers writes FLT_PIN_CTRL under the lock. -/
theorem State.exec_fltPinCtrlWrite {f : Requester} {v tm : Nat} (hf : s.reaches f = true) :
    exec (.fltPinCtrlWrite f v tm) s = .next ((s.at_ tm).rwl (some f) .flt (fun s => s.orViol .flt (s.writePinCtrl v))) :=
  congrArg Host.Outcome.next (if_pos hf)

theorem State.rwl_open {f : Requester} {b : Block} {g : State → State} (h : ((s.access b).lock f).open_ s.now = true) :
    s.rwl (some f) b g = g s := if_pos h

theorem State.rwl_locked {f : Requester} {b : Block} {g : State → State} (h : ((s.access b).lock f).open_ s.now = false) :
    s.rwl (some f) b g = s.violate f b := if_neg (ne_true_of_eq_false h)

theorem Block.ix_lt (b : Block) : b.ix < 8 := by cases b <;> decide

theorem State.setAccess_access_self (s : State) (b : Block) (a : Access) (h : b.ix < 8) : (s.setAccess b a).access b = a := rd_wr_same _ _ _ h

theorem State.violate_spec (s : State) (f : Requester) (b : Block) : (s.violate f b).flt = s.flt ∧ ((s.violate f b).access b).lockViol = true := by
  unfold State.violate
  dsimp only
  rw [State.setAccess_access_self _ _ _ b.ix_lt]
  cases f <;> exact ⟨rfl, rfl⟩

end

/-- Settles O41: FAULT_N by its equation, the overflow by what the holds leave unchanged, the watchdog by what the decision and the
restart leave of period and power. -/
theorem faultOutputs : Obligations.FaultOutputs := by
  unfold Obligations.FaultOutputs
  intro s tm now hnow
  subst hnow
  refine ⟨fun p hp hdue hlow hr hh => ?_, fun p hp hdue hh => ?_, fun u hu hdue hl hlev => ?_, fun pc hcp => ?_,
    fun f stretch sev hold force hf ho h1 hst hsev hh => ?_, fun f v hf ho => ?_⟩
  · exact congrArg Host.Outcome.next (State.pinFollow_releases (s := s.at_ tm) hp hdue hlow hr hh)
  · exact ⟨_, rfl, State.pinFollow_holds (s := s.at_ tm) hh⟩
  · obtain ⟨t, ht⟩ : ∃ t, t = ((s.at_ tm).setFlt { s.flt with overflow := false, lowSince := none }).sync := ⟨_, rfl⟩
    have hrun : exec (.overflowClear tm) s = .next t := by
      rw [ht]
      exact congrArg Host.Outcome.next (State.overflowClear_clears (s := s.at_ tm) hu hdue)
    have hflt := State.sync_flt ((s.at_ tm).setFlt { s.flt with overflow := false, lowSince := none })
    rw [← ht] at hflt
    refine ⟨t, hrun, by rw [hflt]; rfl, ?_, by rw [hflt]; rfl⟩
    rw [hflt]
    exact Flt.safeNow_clear rfl hl hlev
  · obtain ⟨t, ht⟩ : ∃ t, t = ((s.at_ tm).decideReport (wdogReport pc (max s.now tm))).restartCp := ⟨_, rfl⟩
    have hrun : exec (.watchdogExpiry pc tm) s = .next t := by
      rw [ht]
      exact congrArg Host.Outcome.next (if_pos hcp)
    have hstep := State.FltStep.decideWdog (s.at_ tm) pc (max s.now tm)
    obtain ⟨h1, h2, h3, h4, h5⟩ := ((s.at_ tm).decideReport (wdogReport pc (max s.now tm))).restartCp_spec
    rw [← ht] at h1 h2 h3 h4 h5
    exact ⟨t, hrun, h2, h3, h4, h5.trans (congrArg (fun n => satAdd 16 n 1) hstep.running.restarts), h1.trans hstep.running.per⟩
  · obtain ⟨t, ht⟩ : ∃ t, t = (s.at_ tm).setPin stretch sev hold force s.flt.settleMs := ⟨_, rfl⟩
    have hrun : exec (.fltPinCtrlWrite f (pinWord stretch sev hold force) tm) s = .next t := by
      rw [State.exec_fltPinCtrlWrite hf, State.rwl_open (s := s.at_ tm) ho, State.writePinCtrl_word force h1 hst hsev hh, ht]
      rfl
    obtain ⟨a, b, c, d, -, e⟩ := State.setPin_spec (s.at_ tm) stretch sev hold force s.flt.settleMs
    rw [← ht] at a b c d e
    refine ⟨t, hrun, a, b, c, d, e, fun hforce => ?_⟩
    rw [ht, hforce]
    exact State.setPin_force _ _ _ _ _
  · have hrun := State.exec_fltPinCtrlWrite (s := s) (v := v) (tm := tm) hf
    rw [State.rwl_locked (s := s.at_ tm) ho] at hrun
    obtain ⟨a, b⟩ := (s.at_ tm).violate_spec f .flt
    exact ⟨_, hrun, a, b⟩

end Sys2Proof.Machine
end

section
/-!
SUPPORT. Commands of the fault controller (14 R442 to R444): settles O42.
-/
namespace Sys2Proof.Machine
-- Proofs checked one at a time, which bounds the memory that the whole text takes.
set_option Elab.async false

/-! Operations that only signal messages: the log, the holds and the reactions, where no PSTAGE_STOP waits. -/

section
variable {s : State}

theorem State.PortsMap.foldl {α : Type} {f : State → α → State} {I : State → Prop} (hI : ∀ u a, I u → I (f u a))
    (hf : ∀ u a, I u → State.PortsMap u (fun v => f v a)) (l : List α) {s : State} (h : I s) : s.PortsMap (fun v => l.foldl f v) := by
  induction l generalizing s with
  | nil => exact State.PortsMap.pure fun _ => rfl
  | cons a l ih => exact ((hf s a h).comp (op' := fun v => l.foldl f v) (ih (hI s a h))).congr fun _ => rfl

theorem State.PortsMap.setFlt (s : State) (f : Flt) : s.PortsMap (fun u => u.setFlt f) := State.PortsMap.pure fun _ => rfl
theorem State.PortsMap.setEp (s : State) (i : Nat) (e : Episode) : s.PortsMap (fun u => u.setEp i e) := State.PortsMap.pure fun _ => rfl

/-- The entry that `State.log` offers to the log. -/
def State.logEntry (s : State) (kind episode zone src det level sev flags data : Nat) : LogEntry :=
  { seq := 0, episode := episode, zone := zone, srcZone := src, detector := det, kind := kind, level := level, sev := sev
    flags := flags + 4 * b2n (!s.pwr.cpRunning), mediaTime := s.per.mediaTime % 2 ^ 48, missed := 0, tbSec := s.tbSec % 2 ^ 32
    data := data % 2 ^ 64, read := false }

theorem State.log_eq (s : State) (k ep z src det lv sev fl d : Nat) : s.log k ep z src det lv sev fl d =
    if decide (s.flt.unread < 768) && decide (768 ≤ (s.flt.write (s.logEntry k ep z src det lv sev fl d)).unread) then
      (s.setFlt (s.flt.write (s.logEntry k ep z src det lv sev fl d))).event 4
    else s.setFlt (s.flt.write (s.logEntry k ep z src det lv sev fl d)) := by
  unfold State.log State.logEntry
  rfl

theorem State.PortsMap.log (s : State) (k ep z src det lv sev fl d : Nat) : s.PortsMap (fun u => u.log k ep z src det lv sev fl d) := by
  have hset := State.PortsMap.setFlt s (s.flt.write (s.logEntry k ep z src det lv sev fl d))
  by_cases hc : (decide (s.flt.unread < 768) && decide (768 ≤ (s.flt.write (s.logEntry k ep z src det lv sev fl d)).unread)) = true
  · exact (hset.comp (State.PortsMap.event _ 4)).congr fun P => (State.log_eq _ k ep z src det lv sev fl d).trans (if_pos hc)
  · exact hset.congr fun P => (State.log_eq _ k ep z src det lv sev fl d).trans (if_neg hc)

theorem State.PortsMap.logEp (s : State) (i k fl : Nat) : s.PortsMap (fun u => u.logEp i k fl) :=
  (State.PortsMap.log s k (s.ep i).id (s.ep i).zone (s.ep i).zone 0 (s.ep i).level 0 fl 0).congr fun _ => rfl

/-- No PSTAGE_STOP waits. -/
def State.unstopped (s : State) : Prop := s.pst.stops = []

theorem State.stopEnded_unstopped (h : s.unstopped) (l : Nat) : s.stopEnded l = s := by
  have hs : s.pst.stops = [] := h
  unfold State.stopEnded
  dsimp only
  rw [hs]
  show ({ s with pst := { s.pst with stops := [] } } : State) = s
  rw [← hs]

/-- The conditions of a trip ended on every half of a channel that leaves TRIPPED or LATCHED. -/
def State.untripped (s : State) (l : Nat) (st : ChSt) : State :=
  if (s.chan l).st.faulted && !st.faulted then (s.halves l).foldl State.tripEnded s else s

theorem State.setChan_stops (s : State) (l : Nat) (x : Chan) : (s.setChan l x).pst.stops = s.pst.stops := by
  unfold State.setChan
  dsimp only
  split <;> rfl

theorem State.untripped_stops (h : s.unstopped) (l : Nat) (st : ChSt) : (s.untripped l st).unstopped := by
  unfold State.untripped
  split
  · exact foldl_inv (P := State.unstopped) (f := State.tripEnded) (fun u k hu => hu) _ h
  · exact h

theorem State.enter_unstopped (h : s.unstopped) {l : Nat} {st : ChSt} (hne : (s.chan l).st ≠ st) :
    s.enter l st = if st.faulted then ((s.untripped l st).setChan l ((s.chan l).into st)).event 6
      else (s.untripped l st).setChan l ((s.chan l).into st) := by
  have hun := State.untripped_stops h l st
  have hset : ((s.untripped l st).setChan l ((s.chan l).into st)).unstopped := (State.setChan_stops _ l _).trans hun
  unfold State.enter
  rw [if_neg hne]
  extract_lets tl s1 sw c1 c2 c3 s2 s3
  have hs3 : s3 = (s.untripped l st).setChan l ((s.chan l).into st) := by
    have h2 : s2 = (s.untripped l st).setChan l ((s.chan l).into st) := rfl
    simp only [s3]
    rw [h2, State.stopEnded_unstopped hset, ite_self]
  rw [hs3]
  rfl

theorem State.PortsMap.untripped (s : State) (l : Nat) (st : ChSt) : s.PortsMap (fun u => u.untripped l st) := by
  have hfold : s.PortsMap (fun u => (s.halves l).foldl State.tripEnded u) :=
    State.PortsMap.foldl (I := fun _ => True) (fun _ _ _ => trivial) (fun u k _ => State.PortsMap.pure fun _ => rfl) _ trivial
  by_cases hc : ((s.chan l).st.faulted && !st.faulted) = true
  · exact hfold.congr fun P => if_pos hc
  · exact (State.PortsMap.pure (op := fun u => u) fun _ => rfl).congr fun P => if_neg hc

theorem State.PortsMap.enter (h : s.unstopped) (l : Nat) (st : ChSt) : s.PortsMap (fun u => u.enter l st) := by
  by_cases hst : (s.chan l).st = st
  · exact (State.PortsMap.pure (op := fun u => u) fun _ => rfl).congr fun P => State.enter_same (s := { s with ports := P }) hst
  · have hset := (State.PortsMap.untripped s l st).comp (State.PortsMap.setChan _ l (fun _ => (s.chan l).into st) fun _ => rfl)
    have henter := fun P => State.enter_unstopped (s := { s with ports := P }) h (l := l) (st := st) hst
    cases hf : st.faulted with
    | true => exact (hset.comp (State.PortsMap.event _ 6)).congr fun P => (henter P).trans (if_pos hf)
    | false => exact hset.congr fun P => (henter P).trans (if_neg (ne_true_of_eq_false hf))

theorem State.PortsMap.hold (h : s.unstopped) (l : Nat) : s.PortsMap (fun u => u.holdChanged l) := by
  have hev := State.PortsMap.event s 6
  have hun : (s.event 6).unstopped := h
  cases hheld : s.held (s.chan l) with
  | true =>
    have hrun := fun P => State.holdChanged_of_held (s := { s with ports := P }) (k := l) hheld
    by_cases hc : ((s.chan l).switching && ((s.chan l).flt || (s.chan l).rail || (s.chan l).sense || s.pst.safeN || s.pst.tw)) = true
    · exact (hev.comp (State.PortsMap.enter hun l .held)).congr fun P => (hrun P).trans (if_pos hc)
    · exact hev.congr fun P => (hrun P).trans (if_neg hc)
  | false =>
    have hrun := fun P => State.holdChanged_of_free (s := { s with ports := P }) (k := l) hheld
    by_cases hc : (decide ((s.chan l).st = .held) && s.enabled l && (s.chan l).resume.isNone) = true
    · exact (hev.comp (State.PortsMap.enter hun l .softstart)).congr fun P => (hrun P).trans (if_pos hc)
    · exact hev.congr fun P => (hrun P).trans (if_neg hc)

theorem State.PortsMap.setHold (h : s.unstopped) (l : Nat) (f : Chan → Chan) : s.PortsMap (fun u => u.setHold l f) := by
  by_cases hc : f (s.chan l) = s.chan l
  · exact (State.PortsMap.pure (op := fun u => u) fun _ => rfl).congr fun P => if_pos hc
  · have hset := State.PortsMap.setChan s l (fun _ => f (s.chan l)) fun _ => rfl
    have hun : (s.setChan l (f (s.chan l))).unstopped := (s.setChan_stops l _).trans h
    exact (hset.comp (State.PortsMap.hold hun l)).congr fun P => if_neg hc

theorem State.enter_stops (h : s.unstopped) (l : Nat) (st : ChSt) : (s.enter l st).unstopped := by
  by_cases hst : (s.chan l).st = st
  · rw [State.enter_same hst]
    exact h
  · have hun : ((s.untripped l st).setChan l ((s.chan l).into st)).unstopped :=
      (State.setChan_stops _ l _).trans (State.untripped_stops h l st)
    rw [State.enter_unstopped h hst]
    split
    · exact hun
    · exact hun

theorem State.setHold_stops (h : s.unstopped) (l : Nat) (f : Chan → Chan) : (s.setHold l f).unstopped := by
  unfold State.setHold
  dsimp only
  split
  · exact h
  · obtain ⟨u, hu⟩ : ∃ u, u = s.setChan l (f (s.chan l)) := ⟨_, rfl⟩
    have hun : u.unstopped := by
      rw [hu]
      exact (s.setChan_stops l _).trans h
    have hev : (u.event 6).unstopped := hun
    rw [← hu]
    cases hheld : u.held (u.chan l) with
    | true =>
      rw [State.holdChanged_of_held hheld]
      split
      · exact State.enter_stops hev l .held
      · exact hev
    | false =>
      rw [State.holdChanged_of_free hheld]
      split
      · exact State.enter_stops hev l .softstart
      · exact hev

theorem State.PortsMap.syncChan (h : s.unstopped) (es : Bool) (f : Flt) (l : Nat) :
    s.PortsMap (fun u => u.syncChan es f l) := by
  by_cases hc : (s.chan l).flt = (es || (s.halves l).any (fun h => f.zoneHeld (chanZone h) none false))
  · exact (State.PortsMap.pure (op := fun u => u) fun _ => rfl).congr fun P => if_pos hc
  · exact (State.PortsMap.setHold h l (fun c => { c with flt := es || (s.halves l).any (fun h => f.zoneHeld (chanZone h) none false) })).congr
      fun P => if_neg hc

theorem State.syncChan_stops (h : s.unstopped) (es : Bool) (f : Flt) (l : Nat) : (s.syncChan es f l).unstopped := by
  unfold State.syncChan
  split
  · exact h
  · exact State.setHold_stops h l _

theorem State.PortsMap.syncChans (h : s.unstopped) (es : Bool) (f : Flt) : s.PortsMap (fun u => u.syncChans es f) :=
  (State.PortsMap.foldl (fun _ l hu => State.syncChan_stops hu es f l) (fun _ l hu => State.PortsMap.syncChan hu es f l) s.leads h).congr
    fun _ => rfl

theorem State.PortsMap.safeSet (s : State) : s.PortsMap State.safeSet := by
  have hset : ∀ u : State, u.PortsMap (fun v => v.setFlt { u.flt with engineSafe := s.flt.safeNow }) := fun u => State.PortsMap.setFlt u _
  by_cases hc : (s.flt.safeNow && !s.flt.engineSafe) = true
  · refine ((State.PortsMap.event s 3).comp (hset _)).congr fun P => ?_
    unfold State.safeSet
    exact congrArg (fun u : State => u.setFlt { u.flt with engineSafe := s.flt.safeNow }) (if_pos hc)
  · refine (hset s).congr fun P => ?_
    unfold State.safeSet
    exact congrArg (fun u : State => u.setFlt { u.flt with engineSafe := s.flt.safeNow }) (if_neg hc)

theorem State.PortsMap.sync (h : s.unstopped) : s.PortsMap State.sync := by
  have hun : s.safeSet.unstopped := (congrArg Pst.stops s.safeSet_pst.1).trans h
  have hout : ∀ u : State, u.PortsMap (fun v => v.outputsSet s.flt) := fun u => State.PortsMap.pure fun _ => rfl
  exact (((State.PortsMap.safeSet s).comp (State.PortsMap.syncChans hun s.flt.safeNow s.flt)).comp (hout _)).congr fun P =>
    State.sync_eq { s with ports := P }

theorem State.PortsMap.onElem (s : State) (z k : Nat) (f : Lateness → Lateness) : s.PortsMap (fun u => u.onElem z k f) :=
  State.PortsMap.pure fun P => by
    unfold State.onElem
    cases hz : zTile z with
    | true => rfl
    | false =>
      dsimp only
      rw [if_neg Bool.false_ne_true, if_neg Bool.false_ne_true]
      by_cases h70 : z = 0x70
      · rw [if_pos h70, if_pos h70]
        by_cases h48 : k < 48
        · rw [if_pos h48, if_pos h48]
        · rw [if_neg h48, if_neg h48]
          by_cases hr : k = 48
          · rw [if_pos hr, if_pos hr]
          · rw [if_neg hr, if_neg hr]
            by_cases ht : 256 ≤ k
            · rw [if_pos ht, if_pos ht]
              rfl
            · rw [if_neg ht, if_neg ht]
      · rw [if_neg h70, if_neg h70]

/-- The elements of an episode that no other reaction holds, their release due at the next boundary. -/
def State.releaseElems (s : State) (i : Nat) : State :=
  let e := s.ep i
  if e.zoneReact then e.elems.foldl (fun s k =>
    if s.heldElsewhere i e.zone k then s else s.onElem e.zone k (fun l => { l with relDue := true })) s else s

/-- The state in which a reaction of slot `i` ends at the next boundary. -/
def State.leavingEp (s : State) (i : Nat) (e : Episode) : State :=
  (({ s with flt := { s.flt with leaving := s.flt.leaving ++
    [⟨e.zone, e.level, e.zoneReact && decide (e.st ≠ .recovering ∨ e.zone = 0xB0), e.legacy⟩] } } : State).setEp i { e with reacting := false })

theorem State.releaseEp_eq (s : State) (i : Nat) :
    s.releaseEp i = if !(s.ep i).reacting then s else ((s.releaseElems i).leavingEp i (s.ep i)).sync := by
  unfold State.releaseEp State.releaseElems State.leavingEp
  rfl

theorem State.releaseElems_pst (s : State) (i : Nat) : (s.releaseElems i).pst = s.pst := by
  unfold State.releaseElems
  dsimp only
  split
  · refine foldl_keeps _ State.pst (fun u k => ?_) _ s
    split
    · rfl
    · exact (u.onElem_flt _ k _).2
  · rfl

theorem State.PortsMap.releaseElems (s : State) (i : Nat) : s.PortsMap (fun u => u.releaseElems i) := by
  obtain ⟨e, he⟩ : ∃ e, e = s.ep i := ⟨_, rfl⟩
  have hfold : s.PortsMap (fun u => e.elems.foldl (fun s k =>
      if s.heldElsewhere i e.zone k then s else s.onElem e.zone k (fun l => { l with relDue := true })) u) := by
    refine State.PortsMap.foldl (I := fun _ => True) (fun _ _ _ => trivial) (fun u k _ => ?_) _ trivial
    exact State.PortsMap.ite (c := fun v => v.heldElsewhere i e.zone k = true) (fun P => Iff.rfl)
      (State.PortsMap.pure (op := fun v => v) fun _ => rfl) (State.PortsMap.onElem u e.zone k _)
  rw [he] at hfold
  by_cases hc : (s.ep i).zoneReact = true
  · exact hfold.congr fun P => if_pos hc
  · exact (State.PortsMap.pure (op := fun u => u) fun _ => rfl).congr fun P => if_neg hc

theorem State.PortsMap.releaseEp (h : s.unstopped) (i : Nat) : s.PortsMap (fun u => u.releaseEp i) := by
  have hun : ((s.releaseElems i).leavingEp i (s.ep i)).unstopped := (congrArg Pst.stops (s.releaseElems_pst i)).trans h
  have hleave : (s.releaseElems i).PortsMap (fun u => u.leavingEp i (s.ep i)) := State.PortsMap.pure fun _ => rfl
  have hrun := fun P => State.releaseEp_eq { s with ports := P } i
  by_cases hc : (!(s.ep i).reacting) = true
  · exact (State.PortsMap.pure (op := fun u => u) fun _ => rfl).congr fun P => (hrun P).trans (if_pos hc)
  · exact (((State.PortsMap.releaseElems s i).comp hleave).comp (State.PortsMap.sync hun)).congr fun P => (hrun P).trans (if_neg hc)

/-- What the recovery of a zone restarts at its start (14 R428). -/
def State.recoveryActs (s : State) (e : Episode) : State :=
  if e.zone = 0x18 then s.restartStreams
  else if e.zone = 0xB0 then
    { s with sap := Vector.ofFn (fun j : Fin 8 => let x := rd s.sap j.val
        if mem e.elems j.val && x.st = .locked then { x with st := .acquire, good := 0 } else x) }
  else s

theorem State.startRecovery_run (s : State) (i attempts : Nat) : s.startRecovery i attempts =
    (((s.setEp i ((s.ep i).started attempts s.now)).logEp i 4 0).recoveryActs (s.ep i)).sync := by
  unfold State.startRecovery State.recoveryActs
  rfl

theorem State.PortsMap.recoveryActs (s : State) (e : Episode) : s.PortsMap (fun u => u.recoveryActs e) :=
  State.PortsMap.pure fun P => by
    unfold State.recoveryActs
    by_cases h18 : e.zone = 0x18
    · rw [if_pos h18, if_pos h18]
      rfl
    · rw [if_neg h18, if_neg h18]
      by_cases hb : e.zone = 0xB0
      · rw [if_pos hb, if_pos hb]
      · rw [if_neg hb, if_neg hb]

theorem State.recoveryActs_pst (s : State) (e : Episode) : (s.recoveryActs e).pst = s.pst := by
  unfold State.recoveryActs
  split
  · rfl
  · split <;> rfl

theorem State.Noted.pst {s u : State} (h : s.Noted u) : u.pst = s.pst := by rw [h.rest]

theorem State.PortsMap.startRecovery (h : s.unstopped) (i attempts : Nat) : s.PortsMap (fun u => u.startRecovery i attempts) := by
  obtain ⟨e, he⟩ : ∃ e, e = (s.ep i).started attempts s.now := ⟨_, rfl⟩
  have hset := State.PortsMap.setEp s i e
  have hlog := hset.comp (State.PortsMap.logEp (s.setEp i e) i 4 0)
  have hact := hlog.comp (State.PortsMap.recoveryActs ((s.setEp i e).logEp i 4 0) (s.ep i))
  have hun : (((s.setEp i e).logEp i 4 0).recoveryActs (s.ep i)).unstopped :=
    (congrArg Pst.stops ((State.recoveryActs_pst _ _).trans (State.Noted.logEp (s.setEp i e) i 4 0).pst)).trans h
  refine (hact.comp (State.PortsMap.sync hun)).congr fun P => ?_
  rw [he]
  exact State.startRecovery_run { s with ports := P } i attempts

end

/-! The commands (14 R442 to R444). -/

section
variable {s : State} {e : Env} {c : CmdInfo} {i : Nat}

theorem State.faultStatus_spec (hm : s.meets (.faultStatus e) c) {eps : List Episode}
    (heps : eps = ((List.range 16).map s.ep).filter (·.isOpen)) :
    s.answers (.faultStatus e) c .ok 0 (leBytes 4 s.fltStatus ++ leBytes 1 (b2n s.fencedNow) ++ leBytes 1 eps.length ++
      eps.flatMap (fun y => leBytes 2 y.id ++ leBytes 1 y.zone) ++
      (List.range 64).flatMap (fun n => leBytes 1 (packBits ((List.range 4).map (fun j =>
        (2, match s.flt.ovfSet.find? (fun o => o.zone == 4 * n + j) with | none => 0 | some o => o.sev))))) ++
      (List.range 4).flatMap (fun n => leBytes 4 (rd s.flt.sevCount n))) s := by
  have hlen : eps.length ≤ 16 := by
    rw [heps]
    exact (List.length_filter_le _ _).trans (by simp)
  have hsev : ∀ z, ((s.flt.ovfSet.find? (fun o => o.zone == z)).map (·.sev)).getD 0 =
      match s.flt.ovfSet.find? (fun o => o.zone == z) with | none => 0 | some o => o.sev := fun z => by
    cases s.flt.ovfSet.find? (fun o => o.zone == z) <;> rfl
  refine State.answers_of_run hm (fun P f _ => ?_) (hlen := ?_)
  · refine Prod.ext ?_ rfl
    refine congrArg (Done.done .ok 0) ?_
    rw [heps]
    show resBytes _ = _
    rw [resBytes_append, resBytes_append, resBytes_append, resBytes_flatMap]
    simp only [resBytes, List.flatMap_map, List.flatMap_cons, List.flatMap_nil, List.append_nil, List.append_assoc]
    simp only [← hsev]
    rfl
  · simp only [List.length_append, leBytes_length, List.length_flatMap, List.map_const', List.sum_replicate, List.length_range, smul_eq_mul]
    omega

theorem State.faultEpisodeGet_spec {id : Nat} {x : Episode} {codes : List Nat} (hx : s.ep i = x) (hm : s.meets (.faultEpisodeGet e id 0) c)
    (h0 : id ≠ 0) (hid : id ≤ 0xFFFF) (hfind : s.flt.find (fun y => y.id == id) = some i) (hlen : x.elems.length ≤ 100)
    (hcodes : codes = (x.codes.take 8).map (·.1)) : s.answers (.faultEpisodeGet e id 0) c .ok 0
      (resBytes [(2, x.id), (1, x.zone), (1, x.st.code), (1, x.level), (1, if x.ack then 1 else 0), (1, x.attempts), (2, x.first),
        (2, x.last), (4, x.secondary), (8, x.openMt), (1, codes.length)] ++ codes.flatMap (leBytes 2) ++
       leBytes 4 ((lookup? s.flt.corrected x.zone).getD 0) ++ leBytes 2 x.elems.length ++ x.elems.flatMap (leBytes 2)) s := by
  subst hx hcodes
  refine State.answers_of_run hm (fun P f _ => ?_) (hlen := ?_)
  · have hargs : ¬ (decide (0xFFFF < id) || decide (id = 0) && decide (15 < 0)) = true := by simp [h0, hid]
    refine (if_neg hargs).trans ?_
    have hat : (if id = 0 then (if (({ s with ports := P } : State).ep 0).isOpen then some 0 else none)
        else ({ s with ports := P } : State).flt.find (fun e => e.id == id)) = some i := (if_neg h0).trans hfind
    dsimp only
    rw [hat]
    refine Prod.ext ?_ rfl
    refine congrArg (Done.done .ok 0) ?_
    show resBytes _ = _
    rw [resBytes_append, resBytes_append, resBytes_append, b2n_eq_ite]
    simp only [resBytes, List.flatMap_map, List.flatMap_cons, List.flatMap_nil, List.append_nil, List.append_assoc]
    rfl
  · have htake : ((s.ep i).codes.take 8).length ≤ 8 := List.length_take_le 8 _
    simp only [List.length_append, leBytes_length, List.length_flatMap, List.map_const', List.sum_replicate, resBytes_length, smul_eq_mul,
      List.length_map, List.map_cons, List.map_nil, List.sum_cons, List.sum_nil]
    omega

theorem State.faultEpisodeGet_unknown {id : Nat} (hm : s.meets (.faultEpisodeGet e id 0) c) (h0 : id ≠ 0) (hid : id ≤ 0xFFFF)
    (hfind : s.flt.find (fun y => y.id == id) = none) : s.answers (.faultEpisodeGet e id 0) c .rejectedArgs 0x00D0 [] s := by
  refine State.answers_of_run hm (fun P f _ => ?_)
  have hargs : ¬ (decide (0xFFFF < id) || decide (id = 0) && decide (15 < 0)) = true := by simp [h0, hid]
  refine (if_neg hargs).trans ?_
  have hat : (if id = 0 then (if (({ s with ports := P } : State).ep 0).isOpen then some 0 else none)
      else ({ s with ports := P } : State).flt.find (fun e => e.id == id)) = none := (if_neg h0).trans hfind
  dsimp only
  rw [hat]
  rfl

theorem LogEntry.bytes_length (a : LogEntry) : a.bytes.length = 32 := by
  simp [LogEntry.bytes, leBytes_length]

theorem State.faultLogRead_spec {consume : Bool} {a : LogEntry} {rest : List LogEntry} (hm : s.meets (.faultLogRead e 0xFFFFFFFF 1 consume 0) c)
    (hlog : s.flt.log = a :: rest) (hread : a.read = false) :
    s.answers (.faultLogRead e 0xFFFFFFFF 1 consume 0) c .ok 0
      (leBytes 2 1 ++ leBytes 4 ((rest.head?.map (·.seq)).getD (s.flt.logSeq % 2 ^ 32)) ++ leBytes 2 s.flt.missed ++ a.bytes)
      (if consume then { s with flt := { s.flt with log := { a with read := true } :: rest } } else s) := by
  have hstart : logStart (a :: rest) 0xFFFFFFFF = 0 := by
    unfold logStart
    rw [if_pos rfl, List.findIdx?_cons, hread]
    rfl
  have hnext : (a :: rest)[0 + [a].length]? = rest.head? := by
    cases rest <;> rfl
  refine State.answers_of_run hm (fun P f _ => ?_) (hlen := by simp [leBytes_length, LogEntry.bytes_length])
    (hu := by split <;> rfl) (hw := by split <;> rfl) (htw := by split <;> rfl)
  have hlog' : ({ s with ports := P } : State).flt.log = a :: rest := hlog
  have hbuf : ¬ (decide ((0 : Nat) ≠ 0) && noBuf (s.runCtx c f).port) = true := by simp
  have hargs : ¬ (decide ((0xFFFFFFFF : Nat) < 0xFFFFFFFF) || !within 1 (if (0 : Nat) = 0 then 1 else 1024) 1) = true := by decide
  show runFaultLogRead (s.runCtx c f) 0xFFFFFFFF 1 consume 0 { s with ports := P } = _
  unfold runFaultLogRead
  rw [if_neg hbuf, if_neg hargs]
  dsimp only
  rw [hlog, hstart, List.drop_zero, show List.take 1 (a :: rest) = [a] from rfl, hnext]
  refine Prod.ext ?_ ?_
  · simp
  · cases consume with
    | true => rfl
    | false =>
      show ({ s with ports := P } : State).setFlt { s.flt with log := a :: rest } = _
      rw [← hlog]
      rfl

/-! FAULT_CLEAR (14 R418, R444). -/

/-- The clear that starts a recovery. -/
def State.clearHeld (s : State) (i : Nat) : State := (s.logEp i 10 0).startRecovery i 1

/-- The clear that gives an episode up. -/
def State.clearEpisode (s : State) (i : Nat) : State :=
  (((s.releaseEp i).setEp i { ((s.releaseEp i).ep i) with attempts := 0 }).logEp i 10 0).settle i

theorem State.clearHeld_spec (hi : i < 16) : State.OnEp i s (s.clearHeld i) ∧ (s.clearHeld i).ep i = (s.ep i).started 1 s.now := by
  have hn := State.Noted.logEp s i 10 0
  obtain ⟨hon, hep⟩ := State.startRecovery_eq (s := s.logEp i 10 0) hi 1
  refine ⟨(hn.aside.onEp i).trans hon, hep.trans ?_⟩
  rw [hn.ep, hn.aside.now]

theorem State.clearEpisode_spec (hi : i < 16) : State.OnEp i s (s.clearEpisode i) ∧
    (s.clearEpisode i).ep i = { (s.ep i) with reacting := false, attempts := 0, st := .settling, since := s.now } := by
  obtain ⟨u, hu⟩ : ∃ u, u = s.releaseEp i := ⟨_, rfl⟩
  have hon : State.OnEp i s u := hu ▸ s.releaseEp_onEp i
  have hep : u.ep i = { (s.ep i) with reacting := false } := hu ▸ State.releaseEp_ep hi
  have hset := State.OnEp.setEp u i { (u.ep i) with attempts := 0 }
  have hn := State.Noted.logEp (u.setEp i { (u.ep i) with attempts := 0 }) i 10 0
  have hall := hon.trans (hset.trans (hn.aside.onEp i))
  unfold State.clearEpisode
  rw [← hu]
  refine ⟨hall.trans (State.settle_onEp _ i), ?_⟩
  rw [State.settle_ep_self hi, hall.now, hn.ep, u.setEp_ep_self hi, hep]

theorem State.PortsMap.clearHeld (h : s.unstopped) (i : Nat) : s.PortsMap (fun u => u.clearHeld i) := by
  have hun : (s.logEp i 10 0).unstopped := (congrArg Pst.stops (State.Noted.logEp s i 10 0).pst).trans h
  exact ((State.PortsMap.logEp s i 10 0).comp (State.PortsMap.startRecovery hun i 1)).congr fun _ => rfl

/-- The count of attempts of an episode cleared. -/
def State.unattempted (s : State) (i : Nat) : State := s.setEp i { (s.ep i) with attempts := 0 }

theorem State.PortsMap.unattempted (s : State) (i : Nat) : s.PortsMap (fun u => u.unattempted i) := State.PortsMap.pure fun _ => rfl
theorem State.PortsMap.settle (s : State) (i : Nat) : s.PortsMap (fun u => u.settle i) := State.PortsMap.pure fun _ => rfl

theorem State.PortsMap.clearEpisode (h : s.unstopped) (i : Nat) : s.PortsMap (fun u => u.clearEpisode i) :=
  ((((State.PortsMap.releaseEp h i).comp (State.PortsMap.unattempted _ i)).comp (State.PortsMap.logEp _ i 10 0)).comp
    (State.PortsMap.settle _ i)).congr fun _ => rfl

theorem State.faultClear_args {id action : Nat} (hid : id ≤ 0xFFFF) (ha : action ≤ 1) :
    ¬ (decide (0xFFFF < id) || decide (1 < action)) = true := by
  simp [hid, ha]

theorem State.faultClear_recovers {id : Nat} (hi : i < 16) (hstops : s.unstopped) (hm : s.meets (.faultClear e id 0) c) (hid : id ≤ 0xFFFF)
    (hfind : s.flt.find (fun y => y.id == id) = some i) (hst : (s.ep i).st = .held) :
    s.answers (.faultClear e id 0) c .ok 0 (leBytes 1 2) (s.clearHeld i) := by
  have hon := (State.clearHeld_spec (s := s) hi).1
  refine State.answers_of_map hm (State.PortsMap.clearHeld hstops i) (fun P f _ => ?_) hon.pwr hon.tw (hlen := by simp [leBytes_length])
  have hep := (State.clearHeld_spec (s := { s with ports := P }) hi).2
  have hfind' : ({ s with ports := P } : State).flt.find (fun y => y.id == id) = some i := hfind
  refine (if_neg (State.faultClear_args hid (by decide))).trans ?_
  dsimp only
  rw [hfind']
  refine (if_pos rfl).trans ((if_neg (not_not.mpr hst)).trans ?_)
  refine Prod.ext ?_ rfl
  show Done.ok [(1, (((({ s with ports := P } : State).clearHeld i).ep i).st).code)] = _
  rw [hep]
  rfl

theorem State.faultClear_settles {id : Nat} (hi : i < 16) (hstops : s.unstopped) (hm : s.meets (.faultClear e id 1) c) (hid : id ≤ 0xFFFF)
    (hfind : s.flt.find (fun y => y.id == id) = some i) (hst : (s.ep i).st = .held) (hc : s.condPresent (s.ep i) = false) :
    s.answers (.faultClear e id 1) c .ok 0 (leBytes 1 3) (s.clearEpisode i) := by
  have hon := (State.clearEpisode_spec (s := s) hi).1
  refine State.answers_of_map hm (State.PortsMap.clearEpisode hstops i) (fun P f _ => ?_) hon.pwr hon.tw (hlen := by simp [leBytes_length])
  have hep := (State.clearEpisode_spec (s := { s with ports := P }) hi).2
  have hfind' : ({ s with ports := P } : State).flt.find (fun y => y.id == id) = some i := hfind
  have hst' : (({ s with ports := P } : State).ep i).st = .held := hst
  refine (if_neg (State.faultClear_args hid (by decide))).trans ?_
  dsimp only
  rw [hfind']
  refine (if_neg (by decide)).trans ((if_neg (by rw [hst']; decide)).trans ((if_neg (ne_true_of_eq_false hc)).trans
    ((if_neg (by rw [hst']; decide)).trans ?_)))
  refine Prod.ext ?_ rfl
  show Done.ok [(1, (((({ s with ports := P } : State).clearEpisode i).ep i).st).code)] = _
  rw [hep]
  rfl

theorem State.faultClear_present {id : Nat} (hm : s.meets (.faultClear e id 1) c) (hid : id ≤ 0xFFFF)
    (hfind : s.flt.find (fun y => y.id == id) = some i) (hst : (s.ep i).st = .held) (hc : s.condPresent (s.ep i) = true) :
    s.answers (.faultClear e id 1) c .rejectedState 0x00D1 [] s := by
  refine State.answers_of_run hm fun P f _ => ?_
  have hfind' : ({ s with ports := P } : State).flt.find (fun y => y.id == id) = some i := hfind
  have hst' : (({ s with ports := P } : State).ep i).st = .held := hst
  refine (if_neg (State.faultClear_args hid (by decide))).trans ?_
  dsimp only
  rw [hfind']
  exact (if_neg (by decide)).trans ((if_neg (by rw [hst']; decide)).trans (if_pos hc))

/-! FAULT_ACK (14 R443). -/

/-- An acknowledged episode. -/
def Episode.acked (e : Episode) : Episode := { e with ack := true }

/-- One episode acknowledged. -/
def State.ackEp (s : State) (i : Nat) : State := (s.setEp i (s.ep i).acked).logEp i 10 0

theorem State.ackEp_ep (hi : i < 16) (j : Nat) : (s.ackEp i).ep j = if j = i then (s.ep i).acked else s.ep j := by
  rw [State.ackEp, (State.Noted.logEp _ i 10 0).ep]
  by_cases hj : j = i
  · rw [if_pos hj, hj, s.setEp_ep_self hi]
  · rw [if_neg hj, s.setEp_ep_other hj]

theorem State.ackEps_ep {l : List Nat} (hl : ∀ i ∈ l, i < 16) (s : State) (j : Nat) :
    (l.foldl State.ackEp s).ep j = if j ∈ l then (s.ep j).acked else s.ep j := by
  induction l generalizing s with
  | nil => rfl
  | cons i l ih =>
    rw [List.foldl_cons, ih (fun k hk => hl k (List.mem_cons_of_mem _ hk)), State.ackEp_ep (hl i List.mem_cons_self)]
    by_cases hj : j = i
    · subst hj
      rw [if_pos rfl, if_pos (c := j ∈ j :: l) List.mem_cons_self]
      split <;> rfl
    · rw [if_neg hj]
      exact if_congr (by simp [hj]) rfl rfl

theorem State.PortsMap.ackEps (s : State) (l : List Nat) : s.PortsMap (fun u => l.foldl State.ackEp u) := by
  refine State.PortsMap.foldl (I := fun _ => True) (fun _ _ _ => trivial) (fun u i _ => ?_) l trivial
  exact ((State.PortsMap.setEp u i (u.ep i).acked).comp (State.PortsMap.logEp _ i 10 0)).congr fun _ => rfl

/-- FAULT_N as the pulse, HOLD_MODE and FORCE ask for it. -/
def Flt.followed (f : Flt) (now : Nat) : Flt :=
  let pulse := match f.pulseEnd with | none => false | some e => decide (now < e)
  if pulse || f.holdsLow then { f with pinLow := true, pulseEnd := if pulse then f.pulseEnd else none }
  else if f.ballLow now then { f with pinLow := false, pulseEnd := none, releasedAt := some now }
  else { f with pinLow := false, pulseEnd := none }

theorem State.pinFollow_eq (s : State) : s.pinFollow = s.setFlt (s.flt.followed s.now) := by
  unfold State.pinFollow Flt.followed
  dsimp only
  rw [apply_ite s.setFlt, apply_ite s.setFlt] <;> rfl

theorem State.PortsMap.pinFollow (s : State) : s.PortsMap State.pinFollow :=
  (State.PortsMap.setFlt s (s.flt.followed s.now)).congr fun _ => State.pinFollow_eq _

/-- The slots of the open episodes. -/
def State.openSlots (s : State) : List Nat := (List.range 16).filter (fun i => (s.ep i).isOpen)

theorem State.ackEps_keeps (s : State) (l : List Nat) : (l.foldl State.ackEp s).FltStep s ∧ s.FltStep (l.foldl State.ackEp s) := by
  have hstep : s.FltStep (l.foldl State.ackEp s) := State.FltStep.foldl (fun u i =>
    (State.FltStep.setEp u i _).trans (State.Noted.logEp _ i 10 0).aside.step) l s
  refine ⟨?_, hstep⟩
  unfold State.FltStep
  rw [hstep]

theorem State.faultAck_spec (hm : s.meets (.faultAck e 0) c) : ∃ u, s.answers (.faultAck e 0) c .ok 0 (leBytes 1 s.flt.openCount) u ∧
    ∀ j, j < 16 → u.ep j = { (s.ep j) with ack := (s.ep j).ack || (s.ep j).isOpen } := by
  have hstep : s.FltStep (s.openSlots.foldl State.ackEp s).pinFollow :=
    (s.ackEps_keeps s.openSlots).2.trans (State.Noted.pinFollow _).aside.step
  refine ⟨(s.openSlots.foldl State.ackEp s).pinFollow, ?_, fun j hj => ?_⟩
  · refine State.answers_of_map (op := fun u => (s.openSlots.foldl State.ackEp u).pinFollow) hm
      ((State.PortsMap.ackEps s s.openSlots).comp (State.PortsMap.pinFollow _)) (fun P f _ => ?_) (by rw [hstep]) (by rw [hstep])
      (hlen := by simp [leBytes_length])
    have hslots : (List.range 16).filter (fun i => (({ s with ports := P } : State).ep i).isOpen &&
        (decide ((0 : Nat) = 0) || decide ((({ s with ports := P } : State).ep i).id = 0))) = s.openSlots :=
      List.filter_congr fun i _ => by rw [decide_eq_true (rfl : (0 : Nat) = 0), Bool.true_or, Bool.and_true]; rfl
    show runFaultAck (s.runCtx c f) 0 { s with ports := P } = _
    unfold runFaultAck
    rw [if_neg (by decide)]
    dsimp only
    rw [hslots, if_neg (by simp)]
    refine Prod.ext ?_ rfl
    simp only [Done.ok, List.flatMap_cons, List.flatMap_nil, List.append_nil]
    rfl
  · rw [(State.Noted.pinFollow _).ep, State.ackEps_ep (l := s.openSlots) (fun i hi => List.mem_range.mp (List.mem_filter.mp hi).1)]
    have hmem : j ∈ s.openSlots ↔ (s.ep j).isOpen = true := by simp [State.openSlots, hj]
    cases ho : (s.ep j).isOpen with
    | true =>
      rw [if_pos (hmem.mpr ho), Bool.or_true]
      rfl
    | false =>
      rw [if_neg (fun h => by rw [hmem.mp h] at ho; cases ho), Bool.or_false]

/-! FAULT_PIN_CONFIG and FAULT_INJECT (14 R442 to R444). -/

theorem State.PortsMap.setPin (s : State) (stretch sev hold : Nat) (force : Bool) (settle : Nat) :
    s.PortsMap (fun u => u.setPin stretch sev hold force settle) :=
  ((State.PortsMap.setFlt s { s.flt with stretch := stretch, pinSev := sev, holdMode := hold, force := force, settleMs := settle }).comp
    (State.PortsMap.pinFollow _)).congr fun _ => rfl

theorem State.setPin_step (s : State) (stretch sev hold : Nat) (force : Bool) (settle : Nat) :
    s.FltStep (s.setPin stretch sev hold force settle) :=
  (State.FltStep.setFlt s _).trans (State.Noted.pinFollow _).aside.step

theorem State.faultPinConfig_spec {stretch sev hold settle : Nat} {force : Bool}
    (hm : s.meets (.faultPinConfig e stretch sev hold force settle false) c) (h1 : 1 ≤ stretch) (h2 : stretch ≤ 1000) (h3 : sev ≤ 3)
    (h4 : hold ≤ 2) (h5 : 100 ≤ settle) (h6 : settle ≤ 60000) :
    s.answers (.faultPinConfig e stretch sev hold force settle false) c .ok 0
      (resBytes [(2, stretch), (1, sev), (1, hold), (1, if force then 1 else 0), (2, settle)]) (s.setPin stretch sev hold force settle) := by
  have hstep := s.setPin_step stretch sev hold force settle
  refine State.answers_of_map hm (State.PortsMap.setPin s stretch sev hold force settle) (fun P f _ => ?_) (by rw [hstep]) (by rw [hstep])
  have hargs : ¬ (!within 1 1000 stretch || decide (3 < sev) || decide (2 < hold) || !within 100 60000 settle) = true := by
    simp [within, h1, h2, h3, h4, h5, h6]
  refine (if_neg hargs).trans ?_
  rw [← b2n_eq_ite]
  rfl

theorem Report.sev_zero {r : Report} {d : Detector} (h : d.sev = 0) : r.sev d = 0 := by
  unfold Report.sev
  rw [h]
  exact ite_self 0

theorem Report.sev_of_ne {r : Report} {d : Detector} (h : r.code ≠ 0x0802) : r.sev d = d.sev := by
  unfold Report.sev
  exact if_neg (by simp [h])

theorem State.sideEffects_of (r : Report) (h : r.code ∉ [0x0202, 0x0605, 0x0701]) (h3 : r.code ≠ 0x0203) (u : State) : u.sideEffects r = u := by
  unfold State.sideEffects
  split <;> simp_all

/-- A CORRECTED fault counted for its zone and absorbed by the episode of its zone. -/
def State.correctedIn (s : State) (r : Report) (d : Detector) : State :=
  let u := s.setFlt (s.flt.corrects r.zone)
  match (s.flt.corrects r.zone).find (fun e => e.zone == r.zone) with
  | none => u
  | some i => u.setEp i ((u.ep i).absorb r d 0 false u.now)

theorem State.correctedIn_none {r : Report} (d : Detector) (hfind : s.flt.find (fun e => e.zone == r.zone) = none) :
    s.correctedIn r d = s.setFlt (s.flt.corrects r.zone) := by
  have h : (s.flt.corrects r.zone).find (fun e => e.zone == r.zone) = none := hfind
  unfold State.correctedIn
  rw [h]

theorem State.correctedIn_some {r : Report} (d : Detector) (hfind : s.flt.find (fun e => e.zone == r.zone) = some i) :
    s.correctedIn r d = (s.setFlt (s.flt.corrects r.zone)).setEp i ((s.ep i).absorb r d 0 false s.now) := by
  have h : (s.flt.corrects r.zone).find (fun e => e.zone == r.zone) = some i := hfind
  unfold State.correctedIn
  rw [h]
  rfl

theorem State.PortsMap.correctedIn (s : State) (r : Report) (d : Detector) : s.PortsMap (fun u => u.correctedIn r d) := by
  have hset := State.PortsMap.setFlt s (s.flt.corrects r.zone)
  cases hfind : s.flt.find (fun e => e.zone == r.zone) with
  | none => exact hset.congr fun P => State.correctedIn_none (s := { s with ports := P }) d hfind
  | some i =>
    exact (hset.comp (State.PortsMap.setEp _ i ((s.ep i).absorb r d 0 false s.now))).congr fun P =>
      State.correctedIn_some (s := { s with ports := P }) d hfind

theorem State.correctedIn_step (s : State) (r : Report) (d : Detector) : s.FltStep (s.correctedIn r d) := by
  cases hfind : s.flt.find (fun e => e.zone == r.zone) with
  | none =>
    rw [State.correctedIn_none d hfind]
    exact State.FltStep.setFlt s _
  | some i =>
    rw [State.correctedIn_some d hfind]
    exact (State.FltStep.setFlt s _).trans (State.FltStep.setEp _ i _)

/-- The episode of the zone stays the zone's. -/
theorem State.correctedIn_finds (r : Report) (d : Detector) (hfind : s.flt.find (fun e => e.zone == r.zone) = some i) :
    ((s.correctedIn r d).ep i).isOpen = true ∧ ((s.correctedIn r d).ep i).zone = r.zone := by
  obtain ⟨hi, hopen, hz⟩ := Flt.find_some hfind
  rw [State.correctedIn_some d hfind, State.setEp_ep_self _ hi]
  exact ⟨hopen, beq_iff_eq.mp hz⟩

/-- A CORRECTED fault logged under the episode of the slot, where there is one, and the time of the entry. -/
def State.logCorrected (s : State) (r : Report) (slot : Option Nat) : State :=
  let u := s.setFlt { s.flt with corrLog := insertKey s.flt.corrLog (r.zone * 65536 + r.code) s.now }
  u.log 9 ((slot.map (fun i => (u.ep i).id)).getD 0) r.zone r.zone r.code ((slot.map (fun i => (u.ep i).level)).getD 0) 0
    (2 * b2n r.injected) r.data

theorem State.PortsMap.logCorrected (s : State) (r : Report) (slot : Option Nat) : s.PortsMap (fun u => u.logCorrected r slot) := by
  have hset := State.PortsMap.setFlt s { s.flt with corrLog := insertKey s.flt.corrLog (r.zone * 65536 + r.code) s.now }
  refine (hset.comp (State.PortsMap.log _ 9 ((slot.map (fun i => (s.ep i).id)).getD 0) r.zone r.zone r.code
    ((slot.map (fun i => (s.ep i).level)).getD 0) 0 (2 * b2n r.injected) r.data)).congr fun P => ?_
  unfold State.logCorrected
  rfl

theorem State.logCorrected_ep (s : State) (r : Report) (slot : Option Nat) (i : Nat) : (s.logCorrected r slot).ep i = s.ep i := by
  unfold State.logCorrected
  dsimp only
  rw [(State.Noted.log _ _ _ _ _ _ _ _ _ _).ep]
  rfl

theorem State.logCorrected_step (s : State) (r : Report) (slot : Option Nat) : s.FltStep (s.logCorrected r slot) :=
  (State.FltStep.setFlt s _).trans (State.FltStep.log _ _ _ _ _ _ _ _ _ _)

/-- A CORRECTED fault of a code and a zone is logged once a second. -/
def State.logDue (s : State) (r : Report) (now : Nat) : Bool :=
  match lookup? s.flt.corrLog (r.zone * 65536 + r.code) with | none => true | some t => decide (t + 1000000000 ≤ now)

theorem State.corrected_run (s : State) (r : Report) (d : Detector) : s.corrected r d =
    if s.logDue r (s.correctedIn r d).now then (s.correctedIn r d).logCorrected r (s.flt.find (fun e => e.zone == r.zone))
    else s.correctedIn r d := rfl

theorem State.corrected_due (d : Detector) {r : Report} (h : s.logDue r s.now = true) :
    s.corrected r d = (s.correctedIn r d).logCorrected r (s.flt.find (fun e => e.zone == r.zone)) := by
  rw [State.corrected_run, if_pos]
  rw [State.correctedIn_step s r d]
  exact h

theorem State.corrected_quiet (d : Detector) {r : Report} (h : ¬ s.logDue r s.now = true) : s.corrected r d = s.correctedIn r d := by
  rw [State.corrected_run, if_neg]
  rw [State.correctedIn_step s r d]
  exact h

theorem State.PortsMap.corrected (s : State) (r : Report) (d : Detector) : s.PortsMap (fun u => u.corrected r d) := by
  by_cases h : s.logDue r s.now = true
  · exact ((State.PortsMap.correctedIn s r d).comp (State.PortsMap.logCorrected _ r (s.flt.find (fun e => e.zone == r.zone)))).congr
      fun P => State.corrected_due (s := { s with ports := P }) d h
  · exact (State.PortsMap.correctedIn s r d).congr fun P => State.corrected_quiet (s := { s with ports := P }) d h

theorem State.corrected_step (s : State) (r : Report) (d : Detector) : s.FltStep (s.corrected r d) := by
  by_cases h : s.logDue r s.now = true
  · rw [State.corrected_due d h]
    exact (State.correctedIn_step s r d).trans (State.logCorrected_step _ r _)
  · rw [State.corrected_quiet d h]
    exact State.correctedIn_step s r d

/-- A CORRECTED fault leaves the episodes as they are where its zone has none afterwards. -/
theorem State.corrected_eps (s : State) (r : Report) (d : Detector)
    (hnone : (s.corrected r d).flt.find (fun e => e.zone == r.zone) = none) : (s.corrected r d).flt.eps = s.flt.eps := by
  cases hfind : s.flt.find (fun e => e.zone == r.zone) with
  | none =>
    obtain ⟨g, hg, -, hlog⟩ := State.corrected_eq d hfind
    rw [hlog, hg]
    rfl
  | some i =>
    obtain ⟨hi, -, -⟩ := Flt.find_some hfind
    have hep : (s.corrected r d).ep i = (s.correctedIn r d).ep i := by
      by_cases h : s.logDue r s.now = true
      · rw [State.corrected_due d h, State.logCorrected_ep]
      · rw [State.corrected_quiet d h]
    obtain ⟨hopen, hz⟩ := State.correctedIn_finds r d hfind
    rw [← hep] at hopen hz
    have hno := List.find?_eq_none.mp hnone i (List.mem_range.mpr hi)
    exact absurd (show (_ && _) = true by rw [Bool.and_eq_true]; exact ⟨hopen, beq_iff_eq.mpr hz⟩) hno

theorem State.decideReport_off (s : State) (r : Report) (hon : s.zoneOn r.zone = false) : s.decideReport r = s := by
  unfold State.decideReport
  split
  · rfl
  · exact if_pos (by rw [hon, Bool.not_false, Bool.or_true])

/-- A CORRECTED fault without further effects: what it may touch, its ports, and the episodes. -/
theorem State.decideReport_countsOnly {r : Report} {d : Detector} (hd : detector r.code = some d) (hz : d.zone r.zone = true) (hsev : d.sev = 0)
    (hcode : r.code ∉ [0x0202, 0x0605, 0x0701]) : s.PortsMap (fun u => u.decideReport r) ∧ s.FltStep (s.decideReport r) ∧
      ((s.decideReport r).flt.find (fun y => y.zone == r.zone) = none → (s.decideReport r).flt.eps = s.flt.eps) := by
  have hcp : r.code ≠ 0x0203 := fun h => by
    rw [h, show detector 0x0203 = some ⟨1, false, false, (· == 0x01)⟩ from rfl, Option.some.injEq] at hd
    rw [← hd] at hsev
    cases hsev
  have hside : ∀ u : State, u.sideEffects r = u := State.sideEffects_of r hcode hcp
  cases hon : s.zoneOn r.zone with
  | false =>
    rw [State.decideReport_off s r hon]
    exact ⟨State.PortsMap.pure fun P => State.decideReport_off { s with ports := P } r hon |>.trans
      (by rw [State.decideReport_off s r hon]), State.FltStep.refl s, fun _ => rfl⟩
  | true =>
    rw [State.decideReport_corrected hd hz hon (Report.sev_zero hsev) hside]
    refine ⟨?_, (State.FltStep.setFlt s _).trans (State.corrected_step _ r d), fun h => (State.corrected_eps _ r d h).trans rfl⟩
    have hset : s.PortsMap (fun u => u.sevCounted 0) := State.PortsMap.pure fun _ => rfl
    exact (hset.comp (State.PortsMap.corrected _ r d)).congr fun P =>
      State.decideReport_corrected (s := { s with ports := P }) hd hz hon (Report.sev_zero hsev) hside

theorem State.faultInject_spec {zone det data : Nat} {d : Detector} (hm : s.meets (.faultInject e zone det data) c) (hzone : zone ≤ 0xFF)
    (hd : detector det = some d) (hz : d.zone zone = true) (hsev : d.sev = 0) (hdet : det ∉ [0x0202, 0x0605, 0x0701]) :
    ∃ u, s.answers (.faultInject e zone det data) c .ok 0 (leBytes 2 0) u ∧
      (u.flt.find (fun y => y.zone == zone) = none → u.flt.eps = s.flt.eps) := by
  obtain ⟨r, hr⟩ : ∃ r : Report, r = ⟨det, zone, elemOf det zone data, data % 2 ^ 64, true, s.now / 10⟩ := ⟨_, rfl⟩
  obtain ⟨hmap, hstep, heps⟩ := State.decideReport_countsOnly (s := s) (r := r) (d := d) (by rw [hr]; exact hd) (by rw [hr]; exact hz) hsev
    (by rw [hr]; exact hdet)
  have hzr : r.zone = zone := by rw [hr]
  rw [hzr] at heps
  refine ⟨s.decideReport r, ?_, heps⟩
  refine State.answers_of_map hm hmap (fun P f _ => ?_) (by rw [hstep]) (by rw [hstep]) (hlen := by simp [leBytes_length])
  have hargs : ¬ (decide (0xFF < zone) || !d.zone zone) = true := by
    rw [hz, decide_eq_false (by omega)]
    decide
  have hmaint : ¬ (decide (2 ≤ r.sev d) && !s.hlt.maint) = true := by
    rw [Report.sev_zero hsev]
    exact fun h => absurd (Bool.and_eq_true_iff.mp h).1 (by decide)
  show runFaultInject (s.runCtx c f) zone det data { s with ports := P } = _
  unfold runFaultInject
  rw [hd]
  dsimp only
  rw [← hr, if_neg hargs, if_neg hmaint, Report.sev_zero hsev]
  rfl

theorem State.faultInject_refused {zone det data : Nat} {d : Detector} (hm : s.meets (.faultInject e zone det data) c) (hzone : zone ≤ 0xFF)
    (hd : detector det = some d) (hz : d.zone zone = true) (hsev : 2 ≤ d.sev) (hdet : det ≠ 0x0802) (hmaint : s.hlt.maint = false) :
    s.answers (.faultInject e zone det data) c .rejectedState 0x00D3 [] s := by
  refine State.answers_of_run hm fun P f _ => ?_
  have hargs : ¬ (decide (0xFF < zone) || !d.zone zone) = true := by
    rw [hz, decide_eq_false (by omega)]
    decide
  show runFaultInject (s.runCtx c f) zone det data { s with ports := P } = _
  unfold runFaultInject
  rw [hd]
  dsimp only
  rw [if_neg hargs, if_pos]
  · rfl
  · rw [Report.sev_of_ne hdet, hmaint, decide_eq_true hsev]
    rfl

end

/-- Settles O42, command by command: a command that clears, acknowledges, configures or injects leaves the ports with signalled
messages only, and the states of the episodes come from what a recovery, a release and a settling do to their own slot. -/
theorem faultCommands : Obligations.FaultCommands := by
  unfold Obligations.FaultCommands
  rintro s e c i x hi rfl hstops
  refine ⟨fun eps hm heps => State.faultStatus_spec hm heps, fun id codes hm h0 hid hfind hlen hcodes => ?_,
    fun id hm h0 hid hnone => State.faultEpisodeGet_unknown hm h0 hid hnone,
    fun consume a rest hm hlog hread => State.faultLogRead_spec hm hlog hread, fun id hm hid hfind hst => ?_,
    fun id hm hid hfind hst hc => ?_, fun id hm hid hfind hst hc => State.faultClear_present hm hid hfind hst hc,
    State.faultAck_spec, fun stretch sev hold force settle hm h1 h2 h3 h4 h5 h6 => ?_,
    fun zone det data d hm hzone hd hz hsev hdet => State.faultInject_spec hm hzone hd hz hsev hdet,
    fun zone det data d hm hzone hd hz hsev hdet hmaint => State.faultInject_refused hm hzone hd hz hsev hdet hmaint⟩
  · exact State.faultEpisodeGet_spec rfl hm h0 hid hfind hlen hcodes
  · obtain ⟨hon, hep⟩ := State.clearHeld_spec (s := s) hi
    exact ⟨s.clearHeld i, State.faultClear_recovers hi hstops hm hid hfind hst, by rw [hep]; rfl, by rw [hep]; rfl, fun j hj => hon.other j hj⟩
  · obtain ⟨hon, hep⟩ := State.clearEpisode_spec (s := s) hi
    exact ⟨s.clearEpisode i, State.faultClear_settles hi hstops hm hid hfind hst hc, by rw [hep], by rw [hep], by rw [hep],
      fun j hj => hon.other j hj⟩
  · obtain ⟨u, hu⟩ : ∃ u, u = s.setPin stretch sev hold force settle := ⟨_, rfl⟩
    have hspec := s.setPin_spec stretch sev hold force settle
    have hcfg : u.cfg = s.cfg := by rw [hu, s.setPin_step stretch sev hold force settle]
    rw [← hu] at hspec
    obtain ⟨h1', h2', h3', h4', h5', h6'⟩ := hspec
    have hans := State.faultPinConfig_spec hm h1 h2 h3 h4 h5 h6
    rw [← hu] at hans
    exact ⟨u, hans, h1', h2', h3', h4', h5', h6', hcfg⟩

end Sys2Proof.Machine
end

section
/-!
SUPPORT. Doorbells, enable, drain and errors of ports A and B (15 R455 to R462, R482, R488): settles O43.
-/
namespace Sys2Proof.Machine

section
variable {s : State} {p : CPort}

theorem Requester.port_ring {f : Requester} (h : Requester.port f = some p) : p ≠ .C ∧ p ≠ .D := by
  cases f <;> cases h <;> exact ⟨by decide, by decide⟩

/-- A change of port A or B that adds no flight and places no descriptor leaves service calm. -/
theorem State.portsCalm.setPort (h : s.portsCalm) (hp : p ≠ .C ∧ p ≠ .D) {x : PortS} (hf : ∀ f ∈ x.flights, f ∈ (s.port p).flights)
    (hx : x.placed = (s.port p).placed ∨ x.placed = []) : (s.setPort p x).portsCalm := by
  refine h.of_ports (fun q f hm => ?_) (fun q => ?_) (State.setPort_tw _ _ _) (by cases p <;> rfl) (Or.inr ?_)
  · by_cases hq : q = p
    · subst hq
      rw [State.setPort_port_self] at hm
      exact hf f hm
    · rw [State.setPort_port_other _ _ _ _ hq] at hm
      exact hm
  · by_cases hq : q = p
    · subst hq
      rw [State.setPort_port_self]
      exact hx
    · rw [State.setPort_port_other _ _ _ _ hq]
      exact Or.inl rfl
  · rw [State.setPort_port_other _ _ _ _ hp.2.symm]
    exact ⟨rfl, rfl⟩

theorem State.exec_onPort {f : Requester} {g : State → CPort → State} (hf : Requester.port f = some p) :
    s.onPort f g = g s p := by
  unfold State.onPort
  rw [hf]

theorem State.onPort_served {f : Requester} {g : State → CPort → State} {t : State} (hf : Requester.port f = some p) (hg : g s p = t)
    (ht : t.portsCalm) : s.onPort f (fun s p => (g s p).serve) = t := by
  rw [State.exec_onPort hf, hg, State.serve_eq_self ht]

theorem PortS.sqSize_ring (x : PortS) (hp : p ≠ .C ∧ p ≠ .D) : x.sqSize p = 2 ^ x.sqLog2 := by
  cases p with
  | A => rfl
  | B => rfl
  | C => exact absurd rfl hp.1
  | D => exact absurd rfl hp.2

theorem PortS.cqSize_ring (x : PortS) (hp : p ≠ .C ∧ p ≠ .D) : x.cqSize p = 2 ^ x.cqLog2 := if_neg hp.2

/-! Doorbells (15 R455, R457). -/

theorem State.sqTail_in (hp : p ≠ .C ∧ p ≠ .D) {tail : Nat} (h : tail < 2 ^ (s.port p).sqLog2) : s.sqTail p tail =
    s.setPort p { s.port p with sqTail := tail
                                avail := (tail + 2 ^ (s.port p).sqLog2 - (s.port p).sqHead) % 2 ^ (s.port p).sqLog2 } := by
  unfold State.sqTail
  dsimp only
  rw [PortS.sqSize_ring _ hp, if_neg (by omega)]

theorem State.sqTail_out (hp : p ≠ .C ∧ p ≠ .D) {tail : Nat} (h : 2 ^ (s.port p).sqLog2 ≤ tail) :
    s.sqTail p tail = s.setPort p { s.port p with doorbellErr := true } := by
  unfold State.sqTail
  dsimp only
  rw [PortS.sqSize_ring _ hp, if_pos h]

/-- Where no entry waits for space, a flush writes none. -/
theorem State.flushPort_idle (hw : (s.port p).waiting = []) (hs : (s.port p).waitSince = none) :
    s.flushPort p = s.setPort p ((s.port p).markFull p s.now) := by
  obtain ⟨x, hx⟩ : ∃ x, x = s.port p := ⟨_, rfl⟩
  rw [← hx] at hw hs
  have hself : ({ x with waiting := [] } : PortS) = x := by rw [← hw]
  unfold State.flushPort
  dsimp only
  rw [← hx, hw]
  dsimp only [flushGroups]
  rw [hself]
  simp only [hs]
  rfl

theorem State.cqHead_in (hp : p ≠ .C ∧ p ≠ .D) {head : Nat} {r : List Entry} (h : head < 2 ^ (s.port p).cqLog2)
    (hn : (head + 2 ^ (s.port p).cqLog2 - (s.port p).cqHead) % 2 ^ (s.port p).cqLog2 ≤ (s.port p).ring.length)
    (hw : (s.port p).waiting = []) (hs : (s.port p).waitSince = none)
    (hr : r = (s.port p).ring.drop ((head + 2 ^ (s.port p).cqLog2 - (s.port p).cqHead) % 2 ^ (s.port p).cqLog2)) : s.cqHead p head =
      s.setPort p { s.port p with cqHead := head, ring := r
                                  fullSince := if r.length < 2 ^ (s.port p).cqLog2 then none
                                    else some ((s.port p).fullSince.getD s.now) } := by
  have hcond : ¬ (decide (2 ^ (s.port p).cqLog2 ≤ head) ||
      decide ((s.port p).ring.length < (head + 2 ^ (s.port p).cqLog2 - (s.port p).cqHead) % 2 ^ (s.port p).cqLog2)) = true := by
    simp [h, hn]
  unfold State.cqHead
  dsimp only
  rw [PortS.cqSize_ring _ hp, if_neg hcond, ← hr,
    State.flushPort_idle (by rw [State.setPort_port_self]; exact hw) (by rw [State.setPort_port_self]; exact hs),
    State.setPort_port_self, State.setPort_setPort]
  unfold PortS.markFull
  rw [PortS.cqSize_ring _ hp]
  rfl

theorem State.cqHead_out (hp : p ≠ .C ∧ p ≠ .D) {head : Nat} (h : 2 ^ (s.port p).cqLog2 ≤ head) : s.cqHead p head =
    (s.setPort p { s.port p with doorbellErr := true }).report 0x0B03 (portZone p) 0xFFFF (packBits [(8, 1), (16, head)]) := by
  unfold State.cqHead
  dsimp only
  rw [PortS.cqSize_ring _ hp, if_pos (by simp [h])]

/-! ENABLE (15 R462). -/

/-- A port as ENABLE starts it. -/
def PortS.enabled (x : PortS) : PortS :=
  { x with st := .active, enable := true, sqHead := 0, sqTail := 0, cqHead := 0, cqTail := 0, phase := true
           ring := [], mem := [], waiting := [], waitSince := none, fullSince := none, placed := [], avail := 0 }

theorem State.portEnable_in (hd : s.domOn 13 = true) (hst : (s.port p).st = .disabled) (h1 : 4 ≤ (s.port p).sqLog2) (h2 : (s.port p).sqLog2 ≤ 9)
    (h3 : (s.port p).sqLog2 ≤ (s.port p).cqLog2) (h4 : (s.port p).cqLog2 ≤ 12) : s.portEnable p = s.setPort p (s.port p).enabled := by
  unfold State.portEnable
  dsimp only
  rw [hd, hst, if_neg (by decide)]
  exact if_pos (by simp [within]; omega)

theorem State.portEnable_out (hd : s.domOn 13 = true) (hst : (s.port p).st = .disabled)
    (h : (s.port p).sqLog2 < 4 ∨ 9 < (s.port p).sqLog2 ∨ (s.port p).cqLog2 < (s.port p).sqLog2 ∨ 12 < (s.port p).cqLog2) :
    s.portEnable p = s.setPort p { s.port p with setupErr := true, enable := false } := by
  unfold State.portEnable
  dsimp only
  rw [hd, hst, if_neg (by decide)]
  exact if_neg (by simp [within]; omega)

/-! The safe-load groups of a port that drains (07 R225). -/

/-- One group of a port dropped. -/
def State.dropGroup (p : CPort) (s : State) (i : Nat) : State :=
  let g := rd s.mtx.groups i
  if g.owner = p && (g.st = .filling || g.st = .armed) then
    let s' := { s with mtx := { s.mtx with groups := wr s.mtx.groups i Group.reset } }
    if g.st = .armed then s'.complete p g.handle .aborted 0 [] else s'
  else s

/-- The port has no command in flight, or no group is armed: dropping its groups ends no command. -/
def State.dropsQuietly (s : State) (p : CPort) : Prop := (s.port p).flights = [] ∨ ∀ g, (rd s.mtx.groups g).st ≠ .armed

/-- Only groups and answers that wait for command service changed. -/
def State.Dropped (s u : State) : Prop :=
  u = { s with mtx := { s.mtx with groups := u.mtx.groups }, ports := { s.ports with deferred := u.ports.deferred } }

theorem State.Dropped.refl (s : State) : s.Dropped s := rfl

theorem State.Dropped.trans {s t u : State} (h : s.Dropped t) (g : t.Dropped u) : s.Dropped u := by
  unfold State.Dropped at *
  rw [h] at g
  exact g

theorem State.Dropped.port {u : State} (h : s.Dropped u) (q : CPort) : u.port q = s.port q := by
  unfold State.Dropped at h
  rw [h]
  cases q <;> rfl

/-- The end of a command that is not in flight answers nothing. -/
theorem State.complete_unknown (h : (s.port p).flights = []) (n : Nat) (st : Status) (d : Nat) (r : List Byte) :
    s.Dropped (s.complete p n st d r) ∧ (s.complete p n st d r).mtx = s.mtx := by
  have hnone : (s.port p).flight? n = none := by
    unfold PortS.flight?
    rw [h]
    rfl
  unfold State.complete
  split
  · unfold State.writeComplete
    dsimp only
    rw [hnone]
    exact ⟨rfl, rfl⟩
  · split
    · exact ⟨rfl, rfl⟩
    · exact ⟨rfl, rfl⟩

theorem State.dropGroup_skips {i : Nat} (h : ¬ ((rd s.mtx.groups i).owner = p ∧ ((rd s.mtx.groups i).st = .filling ∨ (rd s.mtx.groups i).st = .armed))) :
    s.dropGroup p i = s := if_neg (by simpa using h)

theorem State.dropGroup_spec (h : s.dropsQuietly p) (i : Nat) : s.Dropped (s.dropGroup p i) ∧
    (s.dropGroup p i = s ∧ ¬ ((rd s.mtx.groups i).owner = p ∧ (rd s.mtx.groups i).st = .filling) ∨
      (s.dropGroup p i).mtx.groups = wr s.mtx.groups i Group.reset) := by
  by_cases hg : (rd s.mtx.groups i).owner = p ∧ ((rd s.mtx.groups i).st = .filling ∨ (rd s.mtx.groups i).st = .armed)
  · obtain ⟨v, hv⟩ : ∃ v, v = { s with mtx := { s.mtx with groups := wr s.mtx.groups i Group.reset } } := ⟨_, rfl⟩
    have hsv : s.Dropped v := by rw [hv]; rfl
    have hgv : v.mtx.groups = wr s.mtx.groups i Group.reset := by rw [hv]
    have hrun : s.dropGroup p i = if (rd s.mtx.groups i).st = .armed then v.complete p (rd s.mtx.groups i).handle .aborted 0 [] else v := by
      rw [hv]
      exact if_pos (by simpa using hg)
    by_cases harm : (rd s.mtx.groups i).st = .armed
    · rw [if_pos harm] at hrun
      have hfl : (v.port p).flights = [] := by
        rw [hsv.port]
        exact h.resolve_right fun hno => hno i harm
      obtain ⟨h1, h2⟩ := State.complete_unknown hfl (rd s.mtx.groups i).handle .aborted 0 []
      rw [hrun]
      exact ⟨hsv.trans h1, Or.inr (by rw [h2]; exact hgv)⟩
    · rw [if_neg harm] at hrun
      rw [hrun]
      exact ⟨hsv, Or.inr hgv⟩
  · rw [State.dropGroup_skips hg]
    exact ⟨State.Dropped.refl s, Or.inl ⟨rfl, fun hf => hg ⟨hf.1, Or.inl hf.2⟩⟩⟩

theorem State.dropGroup_quiet (h : s.dropsQuietly p) (i : Nat) : (s.dropGroup p i).dropsQuietly p := by
  obtain ⟨hd, hm⟩ := State.dropGroup_spec h i
  refine h.imp (fun hf => by rw [hd.port]; exact hf) fun hno g => ?_
  obtain ⟨heq, -⟩ | heq := hm
  · rw [heq]
    exact hno g
  · rw [heq, rd_wr]
    split
    · exact fun h => by cases h
    · exact hno g

/-- The groups of a port that are filling are reset, each in its turn. -/
theorem State.foldl_dropGroup (l : List Nat) (h : s.dropsQuietly p) : s.Dropped (l.foldl (State.dropGroup p) s) ∧
    ∀ g, g < 16 → (rd s.mtx.groups g = Group.reset ∨
      g ∈ l ∧ (rd s.mtx.groups g).owner = p ∧ (rd s.mtx.groups g).st = .filling) →
      rd (l.foldl (State.dropGroup p) s).mtx.groups g = Group.reset := by
  induction l generalizing s with
  | nil => exact ⟨State.Dropped.refl s, fun g _ hg => hg.resolve_right fun hn => by cases hn.1⟩
  | cons i l ih =>
    obtain ⟨hd, hm⟩ := State.dropGroup_spec h i
    obtain ⟨hd', hl⟩ := ih (State.dropGroup_quiet h i)
    refine ⟨hd.trans hd', fun g hlt hg => hl g hlt ?_⟩
    obtain ⟨heq, hnot⟩ | heq := hm
    · rw [heq]
      refine hg.imp id fun ⟨hmem, hown⟩ => ⟨(List.mem_cons.mp hmem).resolve_left fun hgi => hnot (hgi ▸ hown), hown⟩
    · rw [heq, rd_wr]
      by_cases hgi : i = g
      · rw [if_pos ⟨hgi, hgi ▸ hlt⟩]
        exact Or.inl rfl
      · rw [if_neg fun hc => hgi hc.1]
        exact hg.imp id fun ⟨hmem, hown⟩ => ⟨(List.mem_cons.mp hmem).resolve_left (Ne.symm hgi), hown⟩

theorem State.dropGroups_eq (s : State) (p : CPort) : s.dropGroups p = (List.range 16).foldl (State.dropGroup p) s := by
  unfold State.dropGroups
  congr 1

theorem State.dropGroups_spec (h : s.dropsQuietly p) : s.Dropped (s.dropGroups p) ∧
    ∀ g, g < 16 → (rd s.mtx.groups g).st = .filling → (rd s.mtx.groups g).owner = p → rd (s.dropGroups p).mtx.groups g = Group.reset := by
  obtain ⟨h1, h2⟩ := State.foldl_dropGroup (List.range 16) h
  rw [State.dropGroups_eq]
  exact ⟨h1, fun g hg hst hown => h2 g hg (Or.inr ⟨List.mem_range.mpr hg, hown, hst⟩)⟩

/-! A port that drains (15 R462). -/

/-- A port as its drain leaves it where every command in flight has started. -/
def PortS.draining (x : PortS) : PortS :=
  { x with st := .draining, enable := false, placed := [], avail := 0, discarded := satAdd 32 x.discarded (0 + groupLen x.waiting)
           waiting := [], waitSince := none, fullSince := none }

/-- Only one port, the groups and the answers that wait for command service changed. -/
structure State.PortOnly (p : CPort) (s u : State) : Prop where
  rest : u = { s with mtx := { s.mtx with groups := u.mtx.groups }, ports := u.ports }
  others : ∀ q, q ≠ p → u.port q = s.port q
  descs : u.ports.pc.descs = s.ports.pc.descs

theorem State.PortOnly.setPort (s : State) (p : CPort) (x : PortS) : State.PortOnly p s (s.setPort p x) :=
  ⟨by cases p <;> rfl, fun q hq => State.setPort_port_other _ _ _ _ hq, by cases p <;> rfl⟩

theorem State.Dropped.portOnly {u : State} (h : s.Dropped u) : State.PortOnly p s u := by
  refine ⟨?_, fun q _ => h.port q, ?_⟩
  · unfold State.Dropped at h
    rw [h]
  · unfold State.Dropped at h
    rw [h]

theorem State.PortOnly.trans {t u : State} (h : State.PortOnly p s t) (g : State.PortOnly p t u) : State.PortOnly p s u := by
  refine ⟨?_, fun q hq => (g.others q hq).trans (h.others q hq), g.descs.trans h.descs⟩
  have hr := h.rest
  have gr := g.rest
  rw [hr] at gr
  exact gr

section
variable {u : State} (h : State.PortOnly p s u)
include h

theorem State.PortOnly.flt : u.flt = s.flt := by rw [h.rest]
theorem State.PortOnly.now : u.now = s.now := by rw [h.rest]
theorem State.PortOnly.tw : u.tw = s.tw := by rw [h.rest]
theorem State.PortOnly.pwr : u.pwr = s.pwr := by rw [h.rest]
theorem State.PortOnly.direct : u.mtx.direct = s.mtx.direct := by rw [h.rest]

theorem State.PortOnly.calm (hp : p ≠ .C ∧ p ≠ .D) (hc : s.portsCalm) (hf : ∀ f ∈ (u.port p).flights, f ∈ (s.port p).flights)
    (hx : (u.port p).placed = (s.port p).placed ∨ (u.port p).placed = []) : u.portsCalm := by
  refine hc.of_ports (fun q f hm => ?_) (fun q => ?_) h.tw h.descs (Or.inr (by rw [h.others _ hp.2.symm]; exact ⟨rfl, rfl⟩))
  · by_cases hq : q = p
    · subst hq
      exact hf f hm
    · rw [h.others q hq] at hm
      exact hm
  · by_cases hq : q = p
    · subst hq
      exact hx
    · exact Or.inl (by rw [h.others q hq])

end

/-- The drain of an ACTIVE port whose commands in flight have all started. -/
theorem State.drain_active (hst : (s.port p).st = .active) (hall : ∀ f ∈ (s.port p).flights, s.unstarted p f = false) :
    s.drain p = ((s.setPort p (s.port p).draining).dropGroups p).portDrained p := by
  have hoff : (s.port p).flights.filter (s.unstarted p) = [] := List.filter_eq_nil_iff.mpr fun f hf => by rw [hall f hf]; decide
  have hkeep : (s.port p).flights.filter (fun f => !s.unstarted p f) = (s.port p).flights :=
    List.filter_eq_self.mpr fun f hf => by rw [hall f hf]; rfl
  unfold State.drain
  dsimp only
  rw [hst, hoff, hkeep]
  rfl

theorem State.drain_spec (hst : (s.port p).st = .active) (hall : ∀ f ∈ (s.port p).flights, s.unstarted p f = false)
    (hq : s.dropsQuietly p) : State.PortOnly p s (s.drain p) ∧ (s.drain p).port p = (s.port p).draining.drained ∧
      ∀ g, g < 16 → (rd s.mtx.groups g).st = .filling → (rd s.mtx.groups g).owner = p → rd (s.drain p).mtx.groups g = Group.reset := by
  obtain ⟨v, hv⟩ : ∃ v, v = s.setPort p (s.port p).draining := ⟨_, rfl⟩
  have hport : v.port p = (s.port p).draining := by rw [hv, State.setPort_port_self]
  have hsv : State.PortOnly p s v := hv ▸ State.PortOnly.setPort s p _
  have hmtx : v.mtx = s.mtx := by rw [hv, State.setPort_mtx]
  have hqv : v.dropsQuietly p := by
    unfold State.dropsQuietly
    rw [hport, hmtx]
    exact hq
  obtain ⟨h1, h2⟩ := State.dropGroups_spec hqv
  rw [State.drain_active hst hall, ← hv]
  refine ⟨hsv.trans (h1.portOnly.trans (State.PortOnly.setPort _ p _)), ?_, fun g hg hf ho => ?_⟩
  · unfold State.portDrained
    rw [State.setPort_port_self, h1.port, hport]
  · unfold State.portDrained
    rw [State.setPort_mtx]
    exact h2 g hg (by rw [hmtx]; exact hf) (by rw [hmtx]; exact ho)

theorem PortS.draining_drained (x : PortS) (h : x.flights = []) : x.draining.drained = { x.draining with st := .disabled } :=
  if_pos (by rw [show x.draining.flights = [] from h]; rfl)

theorem PortS.draining_stays (x : PortS) (h : x.flights ≠ []) : x.draining.drained = x.draining :=
  if_neg fun hc => h (List.isEmpty_iff.mp (Bool.and_eq_true_iff.mp hc).2)

/-- A settled command outside the flash queue has started. -/
theorem State.unstarted_settled (hc : s.portsCalm) (hfl : ∀ g ∈ (s.port p).flights, g.flash = false) :
    ∀ f ∈ (s.port p).flights, s.unstarted p f = false := fun f hf => by
  obtain ⟨hflights, -, -⟩ := hc p
  unfold State.unstarted
  rw [(hflights f hf).1, hfl f hf]
  rfl

/-- An ACTIVE port without commands in flight drains at once. -/
theorem State.drain_empty (hst : (s.port p).st = .active) (hf : (s.port p).flights = []) : State.PortOnly p s (s.drain p) ∧
    (s.drain p).port p = { (s.port p).draining with st := .disabled } ∧
      ∀ g, g < 16 → (rd s.mtx.groups g).st = .filling → (rd s.mtx.groups g).owner = p → rd (s.drain p).mtx.groups g = Group.reset := by
  obtain ⟨h1, h2, h3⟩ := State.drain_spec hst (fun f hm => by rw [hf] at hm; cases hm) (Or.inl hf)
  exact ⟨h1, h2.trans (PortS.draining_drained _ hf), h3⟩

/-! DMA errors (15 R462, R488). -/

/-- A port as a DMA error leaves it. -/
def PortS.erred (x : PortS) : PortS :=
  { x with st := .error, dmaErr := true, discarded := satAdd 32 x.discarded (groupLen x.waiting), waiting := [], waitSince := none }

/-- The port in ERROR, its groups dropped. -/
def State.erred (s : State) (p : CPort) : State := (s.setPort p (s.port p).erred).dropGroups p

theorem State.erred_spec (h : s.dropsQuietly p) : State.PortOnly p s (s.erred p) ∧ (s.erred p).port p = (s.port p).erred := by
  have hset := State.PortOnly.setPort s p (s.port p).erred
  have hqv : (s.setPort p (s.port p).erred).dropsQuietly p := by
    unfold State.dropsQuietly
    rw [State.setPort_port_self, State.setPort_mtx]
    exact h
  obtain ⟨h1, -⟩ := State.dropGroups_spec hqv
  refine ⟨hset.trans h1.portOnly, ?_⟩
  unfold State.erred
  rw [h1.port, State.setPort_port_self]

theorem State.dmaError_none (hst : (s.port p).st = .active) (ring index : Nat) :
    s.dmaError p ring index none = (s.erred p).report 0x0B03 (portZone p) 0xFFFF (packBits [(8, ring), (16, index)]) :=
  if_neg (fun h => h hst)

theorem State.dmaError_some (hst : (s.port p).st = .active) (ring index : Nat) {g : Flight} {h : Nat} {v : State}
    (hg : ((s.erred p).port p).flight? h = some g)
    (hv : ((s.erred p).report 0x0B03 (portZone p) 0xFFFF (packBits [(8, ring), (16, index)])).dropWork p g = some v) :
    s.dmaError p ring index (some h) = v.complete p g.handle .integrity 0x00E8 [] := by
  have hbind : (some h).bind ((s.erred p).port p).flight? = some g := hg
  have herr : (s.setPort p { s.port p with
      st := .error, dmaErr := true, discarded := satAdd 32 (s.port p).discarded (groupLen (s.port p).waiting)
      waiting := [], waitSince := none }).dropGroups p = s.erred p := rfl
  unfold State.dmaError
  dsimp only
  rw [if_neg (fun h => h hst), herr, State.report_port, hbind]
  dsimp only
  rw [hv]

/-- The end of a command of a port in ERROR is discarded. -/
theorem State.complete_erred {n : Nat} {g : Flight} (hs : s.pwr.service = true) (hst : (s.port p).st = .error)
    (hg : (s.port p).flight? n = some g) (st : Status) (d : Nat) (r : List Byte) : s.complete p n st d r =
      (s.offFlash p n).setPort p { s.port p with
        flights := (s.port p).flights.filter (fun k => k.handle != n)
        discarded := satAdd 32 (s.port p).discarded (completeEntries g (opcodeOf g.cmd) st d r).length } := by
  unfold State.complete State.writeComplete
  dsimp only
  rw [if_pos hs, hg]
  dsimp only
  rw [hst]

/-! Links and resets of a PCIe function (15 R488, 19 R569, 21 R612). -/

/-- The registers of a port that a reset of its function returns to their reset values. -/
def PortS.functionReset (x : PortS) : PortS :=
  let r := PortS.reset x.st x.groups x.privs
  { x with sqBase := 0, cqBase := 0, sqLog2 := r.sqLog2, cqLog2 := r.cqLog2, completeVec := r.completeVec
           acceptVec := r.acceptVec, completeIrq := false, acceptIrq := false, sqHead := 0, sqTail := 0, cqHead := 0
           cqFullSeen := false, dmaErr := false, doorbellErr := false, setupErr := false }

theorem State.resetFunction_spec (s : State) (p : CPort) : State.PortOnly p s (s.resetFunction p) ∧
    (s.resetFunction p).port p = (s.port p).functionReset := by
  refine ⟨⟨?_, fun q hq => ?_, ?_⟩, ?_⟩
  · cases p <;> rfl
  · exact (show (s.resetFunction p).port q = (s.setPort p (s.port p).functionReset).port q by cases q <;> rfl).trans
      (State.setPort_port_other _ _ _ _ hq)
  · cases p <;> rfl
  · exact (show (s.resetFunction p).port p = (s.setPort p (s.port p).functionReset).port p by cases p <;> rfl).trans
      (State.setPort_port_self _ _ _)

/-- The link of a port that stops. -/
def State.linkLost (s : State) (p : CPort) (flr : Bool) : State :=
  if flr then (s.drain p).resetFunction p else (s.drain p).setPort p { ((s.drain p).port p) with linkUp := false }

theorem State.linkDown_eq (s : State) (p : CPort) (flr : Bool) : s.linkDown p flr =
    (s.linkLost p flr).raise 0x0B01 (portZone p) 0xFFFF (b2n flr) := rfl

/-- The direct updates of a command taken away. -/
def State.undirected (s : State) (p : CPort) (h : Nat) : State :=
  { s with mtx := { s.mtx with direct := s.mtx.direct.filter (fun d => !(d.port == p && d.handle == h)) } }

theorem State.dropWork_xpointSet {g : Flight} {e : Env} {mode group count addr : Nat} {data : List Byte} (hg : g.started = true)
    (hc : g.cmd = .xpointSet e mode group count addr data) : s.dropWork p g = some (s.undirected p g.handle) := by
  unfold State.dropWork
  dsimp only
  rw [hg, hc, if_neg (by decide)]
  rfl

theorem State.undirected_direct (s : State) (p : CPort) (h : Nat) : ∀ d ∈ (s.undirected p h).mtx.direct, d.port = p → d.handle ≠ h :=
  fun d hd hp hh => by
    have hk := (List.mem_filter.mp hd).2
    simp [hp, hh] at hk

section
variable (s : State) (p : CPort) (h : Nat)
theorem State.undirected_pwr : (s.undirected p h).pwr = s.pwr := rfl
theorem State.undirected_ports : (s.undirected p h).ports = s.ports := rfl
theorem State.undirected_tw : (s.undirected p h).tw = s.tw := rfl
theorem State.undirected_port (q : CPort) : (s.undirected p h).port q = s.port q := rfl
end

/-- A failed read of the buffer of a direct update ends it without its work. -/
theorem State.dmaError_xpointSet (hc : s.portsCalm) (hp : p ≠ .C ∧ p ≠ .D) (hst : (s.port p).st = .active) (hs : s.pwr.service = true)
    (hq : s.dropsQuietly p) (index : Nat) {g : Flight} {e : Env} {mode group count addr : Nat} {data : List Byte}
    (hg : (s.port p).flight? g.handle = some g) (hcmd : g.cmd = .xpointSet e mode group count addr data) :
    ∃ t, s.dmaError p 2 index (some g.handle) = t ∧ t.portsCalm ∧ (t.port p).st = .error ∧ (t.port p).ring = (s.port p).ring ∧
      (t.port p).flights = (s.port p).flights.filter (fun k => k.handle != g.handle) ∧
      ∀ d ∈ t.mtx.direct, d.port = p → d.handle ≠ g.handle := by
  obtain ⟨hon, hport⟩ := State.erred_spec hq
  obtain ⟨w, hw⟩ : ∃ w, w = s.erred p := ⟨_, rfl⟩
  have hgw : ((s.erred p).port p).flight? g.handle = some g := by
    rw [hport]
    exact hg
  have hstarted : g.started = true := ((hc p).1 g (List.mem_of_find?_eq_some hg)).1
  have hrun := State.dmaError_some hst 2 index hgw (State.dropWork_xpointSet hstarted hcmd)
  rw [← hw] at hon hport hrun
  obtain ⟨v, hv⟩ : ∃ v, v = (w.report 0x0B03 (portZone p) 0xFFFF (packBits [(8, 2), (16, index)])).undirected p g.handle := ⟨_, rfl⟩
  rw [← hv] at hrun
  have hvport : v.port p = (s.port p).erred := by rw [hv, State.undirected_port, State.report_port, hport]
  have hvcalm : v.portsCalm := by
    refine (hon.calm hp hc ?_ ?_).congr ?_ ?_
    · rw [hport]
      exact fun f hf => hf
    · rw [hport]
      exact Or.inl rfl
    · rw [hv, State.undirected_ports, State.report_ports]
    · rw [hv, State.undirected_tw, State.report_tw]
  have hvserv : v.pwr.service = true := by rw [hv, State.undirected_pwr, State.report_pwr, hon.pwr, hs]
  have hend := State.complete_erred (s := v) (p := p) (g := g) hvserv (by rw [hvport]; rfl) (by rw [hvport]; exact hg) .integrity 0x00E8 []
  refine ⟨_, hrun, (v.complete_fewer p g.handle .integrity 0x00E8 []).calm hvcalm, ?_⟩
  rw [hend, State.setPort_port_self, State.setPort_mtx, hvport]
  refine ⟨rfl, rfl, rfl, ?_⟩
  rw [hv]
  exact State.undirected_direct _ p g.handle

/-- The link of a drained port lost, by either event. -/
theorem State.linkLost_spec (hst : (s.port p).st = .active) (hf : (s.port p).flights = []) (flr : Bool) :
    State.PortOnly p s (s.linkLost p flr) ∧ ((s.linkLost p flr).port p).st = .disabled ∧ ((s.linkLost p flr).port p).flights = [] ∧
      ((s.linkLost p flr).port p).placed = [] ∧ ((s.linkLost p flr).port p).linkUp = (flr && (s.port p).linkUp) ∧
      (flr = true → ((s.linkLost p flr).port p).sqBase = 0) := by
  obtain ⟨hon, hport, -⟩ := State.drain_empty hst hf
  obtain ⟨u, hu⟩ : ∃ u, u = s.drain p := ⟨_, rfl⟩
  unfold State.linkLost
  rw [← hu] at hon hport ⊢
  cases flr with
  | true =>
    obtain ⟨hr, hrport⟩ := u.resetFunction_spec p
    rw [if_pos rfl, hrport, hport]
    exact ⟨hon.trans hr, rfl, hf, rfl, rfl, fun _ => rfl⟩
  | false =>
    rw [if_neg (by decide), State.setPort_port_self, hport]
    exact ⟨hon.trans (State.PortOnly.setPort u p _), rfl, hf, rfl, rfl, fun h => by cases h⟩

/-- The condition of a port whose link is down. -/
theorem State.linkDown_spec (hc : s.portsCalm) (hp : p ≠ .C ∧ p ≠ .D) (hst : (s.port p).st = .active) (hf : (s.port p).flights = [])
    (flr : Bool) : ∃ t, s.linkDown p flr = t ∧ t.portsCalm ∧ (t.port p).st = .disabled ∧ (t.port p).linkUp = (flr && (s.port p).linkUp) ∧
      (flr = true → (t.port p).sqBase = 0) ∧ (t.port p).flights = [] ∧ (t.port p).placed = [] ∧
      s.raised t 0x0B01 (portZone p) 0xFFFF (b2n flr) := by
  obtain ⟨hon, h1, h2, h3, h4, h5⟩ := State.linkLost_spec hst hf flr
  obtain ⟨u, hu⟩ : ∃ u, u = s.linkLost p flr := ⟨_, rfl⟩
  rw [← hu] at hon h1 h2 h3 h4 h5
  have hcalm : u.portsCalm := hon.calm hp hc (fun f hm => by rw [h2] at hm; cases hm) (Or.inr h3)
  refine ⟨u.raise 0x0B01 (portZone p) 0xFFFF (b2n flr), by rw [State.linkDown_eq, hu], hcalm.congr (State.raise_ports _ _ _ _ _)
    (State.raise_tw _ _ _ _ _), ?_⟩
  rw [State.raise_port]
  exact ⟨h1, h4, h5, h2, h3, State.raised_raise (by rw [hon.flt]) _ _ _ _⟩

theorem State.perst_spec (hc : s.portsCalm) (hp : p ≠ .C ∧ p ≠ .D) (hst : (s.port p).st = .active) (hf : (s.port p).flights = []) :
    ∃ t, s.perst p = t ∧ t.portsCalm ∧ (t.port p).st = .disabled ∧ (t.port p).sqBase = 0 ∧ (t.port p).cqBase = 0 ∧
      s.raised t 0x0B01 (portZone p) 0xFFFF 0 := by
  obtain ⟨u, hu, hcalm, h1, -, -, h2, h3, hraised⟩ := State.linkDown_spec hc hp hst hf false
  obtain ⟨hr, hrport⟩ := u.resetFunction_spec p
  have hrun : s.perst p = u.resetFunction p := by
    unfold State.perst
    rw [hu]
  refine ⟨u.resetFunction p, hrun, hr.calm hp hcalm ?_ ?_, ?_⟩
  · rw [hrport]
    exact fun f hm => hm
  · rw [hrport]
    exact Or.inl rfl
  · rw [hrport]
    refine ⟨h1, rfl, rfl, ?_⟩
    unfold State.raised State.reported at *
    rw [hr.flt, hr.now]
    exact hraised

theorem State.linkUp_spec (hd : s.domOn 13 = true) (hp : p ≠ .C ∧ p ≠ .D) : ((s.linkUp p).port p).linkUp = true ∧
    ((s.linkUp p).port p).st = (s.port p).st ∧ (s.linkUp p).hasCond 0x0B01 (portZone p) 0xFFFF = false := by
  unfold State.linkUp
  rw [hd, if_neg (by decide)]
  have hcond := State.hasCond_endCond_self (s.setPort p { (s.port p) with linkUp := true }) 0x0B01 (portZone p) 0xFFFF
  cases p with
  | A => exact ⟨rfl, rfl, hcond⟩
  | B => exact ⟨rfl, rfl, hcond⟩
  | C => exact absurd rfl hp.1
  | D => exact absurd rfl hp.2

theorem State.cqFull_spec {u : Nat} (hf : (s.port p).fullSince = some u) (ht : u + 1000000000 ≤ s.now) (hs : (s.port p).cqFullSeen = false) :
    s.cqFull p = (s.setPort p { s.port p with cqFullSeen := true }).report 0x0B03 (portZone p) 0xFFFF
      (packBits [(8, 1), (16, (s.port p).cqTail)]) := by
  unfold State.cqFull
  dsimp only
  rw [hf]
  exact if_pos (by rw [hs, decide_eq_true ht]; rfl)

end

/-- Settles O43, row by row: what a drain does to its port and its groups is said once for a port whose commands have all started,
and the rows of links and errors follow it. -/
theorem portStates : Obligations.PortStates := by
  unfold Obligations.PortStates
  rintro s f p x tm hc hport rfl
  have hp := Requester.port_ring hport
  refine ⟨fun tail h => ?_, fun tail h => ?_, fun head h hn hw hs r hr => ?_, fun head h => ?_, fun hd hst h1 h2 h3 h4 => ?_,
    fun hd hst h => ?_, fun hst hf => ?_, fun hst hf hfl hno => ?_, fun ring index hst hno => ?_,
    fun index g e group count addr data hst hserv hno hg hcmd => ?_, fun hst hf => ?_, fun hst hf => ?_, fun hst hf => ?_, fun hd => ?_,
    fun g q y u hq hy hfull ht hseen => ?_⟩
  · exact congrArg Host.Outcome.next (State.onPort_served hport (State.sqTail_in hp h)
      (hc.setPort hp (fun _ hf => hf) (Or.inl rfl)))
  · exact congrArg Host.Outcome.next (State.onPort_served hport (State.sqTail_out hp h)
      (hc.setPort hp (fun _ hf => hf) (Or.inl rfl)))
  · exact congrArg Host.Outcome.next (State.onPort_served hport (State.cqHead_in hp h hn hw hs hr)
      (hc.setPort hp (fun _ hf => hf) (Or.inl rfl)))
  · have hcalm := hc.setPort (x := { s.port p with doorbellErr := true }) hp (fun _ hf => hf) (Or.inl rfl)
    refine ⟨_, congrArg Host.Outcome.next (State.onPort_served hport (State.cqHead_out hp h)
      (hcalm.congr (State.report_ports _ _ _ _ _) (State.report_tw _ _ _ _ _))), ?_⟩
    rw [State.report_port, State.setPort_port_self]
    exact ⟨rfl, rfl, rfl, State.reported_report (by rw [State.setPort_flt]) _ _ _ _⟩
  · refine ⟨_, congrArg Host.Outcome.next (State.onPort_served hport (State.portEnable_in hd hst h1 h2 h3 h4)
      (hc.setPort hp (fun _ hf => hf) (Or.inr rfl))), ?_⟩
    rw [State.setPort_port_self]
    exact ⟨rfl, rfl, rfl, rfl, rfl, fun q hq => State.setPort_port_other _ _ _ _ hq⟩
  · exact congrArg Host.Outcome.next (State.onPort_served hport (State.portEnable_out hd hst h)
      (hc.setPort hp (fun _ hf => hf) (Or.inl rfl)))
  · obtain ⟨hon, hend, hgroups⟩ := State.drain_empty hst hf
    have hcalm := hon.calm hp hc (by rw [hend]; exact fun f hm => hm) (by rw [hend]; exact Or.inr rfl)
    refine ⟨_, congrArg Host.Outcome.next (State.onPort_served hport rfl hcalm), ?_⟩
    rw [hend]
    exact ⟨rfl, rfl, rfl, hon.others, hgroups⟩
  · obtain ⟨hon, hend, -⟩ := State.drain_spec hst (State.unstarted_settled hc hfl) (Or.inr hno)
    rw [PortS.draining_stays _ hf] at hend
    have hcalm := hon.calm hp hc (by rw [hend]; exact fun f hm => hm) (by rw [hend]; exact Or.inr rfl)
    refine ⟨_, congrArg Host.Outcome.next (State.onPort_served hport rfl hcalm), ?_⟩
    rw [hend]
    exact ⟨rfl, rfl⟩
  · obtain ⟨hon, hend⟩ := State.erred_spec (s := s) (p := p) (Or.inr hno)
    have hcalm := hon.calm hp hc (by rw [hend]; exact fun f hm => hm) (by rw [hend]; exact Or.inl rfl)
    refine ⟨_, congrArg Host.Outcome.next (State.onPort_served hport (State.dmaError_none hst ring index)
      (hcalm.congr (State.report_ports _ _ _ _ _) (State.report_tw _ _ _ _ _))), ?_⟩
    rw [State.report_port, hend]
    exact ⟨rfl, rfl, rfl, State.reported_report (by rw [hon.flt]) _ _ _ _⟩
  · obtain ⟨t, hrun, hcalm, hspec⟩ := State.dmaError_xpointSet hc hp hst hserv (Or.inr hno) index hg hcmd
    exact ⟨t, congrArg Host.Outcome.next (State.onPort_served hport hrun hcalm), hspec⟩
  · obtain ⟨t, hrun, hcalm, h1, h2, -, -, -, hraised⟩ := State.linkDown_spec hc hp hst hf false
    exact ⟨t, congrArg Host.Outcome.next (State.onPort_served hport hrun hcalm), h1, h2, hraised⟩
  · obtain ⟨t, hrun, hcalm, h1, h2, h3, -, -, hraised⟩ := State.linkDown_spec hc hp hst hf true
    exact ⟨t, congrArg Host.Outcome.next (State.onPort_served hport hrun hcalm), h1, h2, h3 rfl, hraised⟩
  · obtain ⟨t, hrun, hcalm, hspec⟩ := State.perst_spec hc hp hst hf
    exact ⟨t, congrArg Host.Outcome.next (State.onPort_served hport hrun hcalm), hspec⟩
  · exact ⟨_, congrArg Host.Outcome.next (State.exec_onPort hport), State.linkUp_spec hd hp⟩
  · subst hy
    have hq' : Requester.cport g = q := hq.symm
    have hrun := State.cqFull_spec (s := s.at_ tm) (p := q) hfull (ht) hseen
    refine ⟨_, congrArg Host.Outcome.next ((congrArg (s.at_ tm).cqFull hq').trans hrun), ?_⟩
    rw [State.report_port, State.setPort_port_self]
    exact ⟨rfl, State.reported_report (by rw [State.setPort_flt, State.at_flt]) _ _ _ _, rfl⟩

end Sys2Proof.Machine
end

section
/-!
SUPPORT. The end of the flash operation that runs answers its command (15 R470, 17 R513): for O44 and O45.
-/
namespace Sys2Proof.Machine

section
variable {s t v : State} {p : CPort} {f : Flight} {st : Status} {d : Nat} {res : List Byte}

/-! Answers and calm service depend on what command service works on alone. -/

theorem State.portsCalm.same (h : s.portsCalm) (hP : s.ports.Same t.ports) (ht : t.tw = s.tw) : t.portsCalm :=
  h.of_ports (fun q _ hf => (hP.1 q).flights ▸ hf) (fun q => Or.inl (hP.1 q).placed) ht hP.2
    (Or.inr ⟨(hP.1 .D).avail, (hP.1 .D).head⟩)

/-- A command in flight at a port with rings can be answered at once with `n` entries: there is room for them and none waits. -/
structure State.canEnd (s : State) (q : CPort) (f : Flight) (n : Nat) : Prop where
  ring : q ≠ .C
  service : s.pwr.service = true
  flight : (s.port q).flight? f.handle = some f
  active : (s.port q).st = .active
  none_ : (s.port q).waiting = []
  room : (s.port q).ring.length + n ≤ (s.port q).cqSize q

/-- The entries of an answer. -/
def entriesOf (res : List Byte) : Nat := 1 + (res.length - 16 + 27) / 28

theorem State.canAnswer.ends (h : s.canAnswer p f) (hres : res.length ≤ 400) : s.canEnd p f (entriesOf res) := by
  obtain ⟨h1, h2, h3, h4, h5, h6⟩ := h
  refine ⟨h1, h2, h3, h4, h5, ?_⟩
  unfold entriesOf
  omega

theorem State.canEnd.same {n : Nat} (h : s.canEnd p f n) (hP : s.ports.Same t.ports) (hw : t.pwr = s.pwr) : t.canEnd p f n := by
  have hp : (s.port p).Same (t.port p) := hP.1 p
  obtain ⟨h1, h2, h3, h4, h5, h6⟩ := h
  refine ⟨h1, by rw [hw]; exact h2, ?_, hp.st.trans h4, hp.waiting.trans h5, ?_⟩
  · unfold PortS.flight?
    rw [hp.flights]
    exact h3
  · rw [hp.ring, hp.size]
    exact h6

theorem State.complete_ends (h : s.canEnd p f (entriesOf res)) (st : Status) (d : Nat) :
    ∃ P : Ports, s.complete p f.handle st d res = { s with ports := P } ∧ s.closed { s with ports := P } p f st d res ∧
      (P.get p).avail = (s.port p).avail := by
  obtain ⟨P, h1, h2, h3, -, h4, -, -, -, h7⟩ := State.complete_at s p f st d res h.ring h.service h.flight h.none_ h.active h.room
  exact ⟨P, h1, ⟨h2, h3, fun q hq => (h7 q hq).1⟩, h4⟩

theorem State.closed.same {s' t' : State} (h : s.closed t p f st d res) (hs : s'.ports.Same s.ports) (ht : t.ports.Same t'.ports) :
    s'.closed t' p f st d res := by
  have hps : ∀ q, (s'.port q).Same (s.port q) := hs.1
  have hpt : ∀ q, (t.port q).Same (t'.port q) := ht.1
  obtain ⟨h1, h2, h3⟩ := h
  refine ⟨?_, ?_, fun r hr => ?_⟩
  · rw [(hpt p).ring, h1, (hps p).ring]
  · rw [(hpt p).flights, h2, (hps p).flights]
  · rw [(hpt r).flights, h3 r hr, (hps r).flights]

/-! The flash queue left, and the next operation started. -/

theorem Ports.same_flash (P : Ports) (Q : List (CPort × Nat)) (on : Option (CPort × Nat)) :
    P.Same { P with flashQ := Q, flashOn := on } := ⟨fun q => by cases q <;> exact PortS.Same.refl _, rfl⟩

/-- The answer to the command whose flash operation ended. -/
def State.flashEnds (v : State) (p : CPort) (f : Flight) (st : Status) (d : Nat) (res : List Byte) : State :=
  ((v.gradeFlash.flashPop p f.handle).complete p f.handle st d res).flashKick

/-- What the grading of the flash and the queue's end leave. -/
theorem State.popGraded_spec (hq : v.ports.flashQ = [(p, f.handle)]) : ∃ P h, v.gradeFlash.flashPop p f.handle = { v with ports := P, hlt := h } ∧
    v.ports.Same P ∧ P.flashQ = [] ∧ P.hostWrites = v.ports.hostWrites ∧ P.pc.keys = v.ports.pc.keys ∧ v.gradeFlash.hlt = h := by
  obtain ⟨g, hg, hk⟩ := v.gradeFlash_ports
  obtain ⟨P, h, hrest⟩ := v.gradeFlash_rest
  obtain ⟨hsame, hflash, hw, hkeys⟩ := hk v.ports
  have hports : v.gradeFlash.ports = g v.ports := congrArg State.ports (hg v.ports : v.gradeFlash = _)
  have hP : P = g v.ports := by rw [← hports, hrest]
  refine ⟨{ P with flashQ := [] }, h, ?_, ?_, rfl, ?_, ?_, by rw [hrest]⟩
  · rw [hrest]
    unfold State.flashPop
    have hfilter : P.flashQ.filter (fun q => !(q.1 == p && q.2 == f.handle)) = [] := by
      rw [hP, hflash, hq]
      simp
    rw [show ({ v with ports := P, hlt := h } : State).ports.flashQ = P.flashQ from rfl, hfilter]
  · rw [hP]
    exact hsame.trans (Ports.same_flash _ [] _)
  · rw [hP]
    exact hw
  · rw [hP]
    exact hkeys

theorem State.flashKick_empty (h : s.ports.flashQ = []) : s.flashKick = { s with ports := { s.ports with flashOn := none } } := by
  unfold State.flashKick
  rw [h]

theorem State.flashKick_on {x : CPort × Nat} {l : List (CPort × Nat)} (h : s.ports.flashQ = x :: l) (ho : s.ports.flashOn = some x) :
    s.flashKick = s := by
  unfold State.flashKick
  rw [h]
  exact if_pos ho

/-- The end of the operation of the one command in the flash queue. -/
theorem State.flashEnds_spec (hc : v.portsCalm) (ha : v.canEnd p f (entriesOf res)) (hq : v.ports.flashQ = [(p, f.handle)]) (st : Status)
    (d : Nat) : ∃ P h, v.flashEnds p f st d res = { v with ports := P, hlt := h } ∧
      ({ v with ports := P, hlt := h } : State).portsCalm ∧ v.closed { v with ports := P, hlt := h } p f st d res ∧ P.flashQ = [] ∧
      P.hostWrites = v.ports.hostWrites ∧ P.pc.keys = v.ports.pc.keys ∧ v.gradeFlash.hlt = h ∧ (P.get p).avail = (v.port p).avail := by
  obtain ⟨P, h, hpop, hsame, hempty, hw, hk, hgrade⟩ := State.popGraded_spec hq
  obtain ⟨w, hwdef⟩ : ∃ w : State, w = { v with ports := P, hlt := h } := ⟨_, rfl⟩
  rw [← hwdef] at hpop
  have hwsame : v.ports.Same w.ports := by rw [hwdef]; exact hsame
  have haw : w.canEnd p f (entriesOf res) := ha.same hwsame (by rw [hwdef])
  have hcw : w.portsCalm := hc.same hwsame (by rw [hwdef])
  obtain ⟨Q, hQ, hclosed, havail⟩ := State.complete_ends haw st d
  have hfew := w.complete_fewer p f.handle st d res
  rw [hQ] at hfew
  have hQempty : Q.flashQ = [] := List.eq_nil_iff_forall_not_mem.mpr fun x hx => by
    have hmem := hfew.flash x hx
    rw [hwdef] at hmem
    rw [show ({ v with ports := P, hlt := h } : State).ports.flashQ = [] from hempty] at hmem
    cases hmem
  have hkick : v.flashEnds p f st d res = { v with ports := { Q with flashOn := none }, hlt := h } := by
    unfold State.flashEnds
    rw [hpop, hQ, State.flashKick_empty hQempty, hwdef]
  have hoff : Q.Same { Q with flashOn := none } := Ports.same_flash Q Q.flashQ none
  refine ⟨{ Q with flashOn := none }, h, hkick, ?_, ?_, hQempty, hfew.writes.trans (by rw [hwdef]; exact hw),
    hfew.keys.trans (by rw [hwdef]; exact hk), hgrade, ((hoff.1 p).avail.trans havail).trans (hwsame.1 p).avail⟩
  · exact (hfew.calm hcw).same hoff (by rw [hwdef])
  · exact hclosed.same hwsame hoff

/-- The operation of the one command in the flash queue ends well. -/
theorem State.flashDone_ok {i : Instr} (hq : s.ports.flashQ = [(p, f.handle)]) (hon : s.ports.flashOn = some (p, f.handle))
    (hcp : s.pwr.cpRunning = true) (hf : (s.port p).flight? f.handle = some f) (hcmd : f.cmd = i) (hfin : finCmd i s = (.done st d res, v))
    (hn1 : ∀ e addr len resume img, i ≠ .fwStage e addr len resume img) (hn2 : ∀ e w r, i ≠ .fwActivate e w r)
    (hn3 : ∀ e, i ≠ .fwRevert e) (n : Nat) : s.flashDone true n = v.flashEnds p f st d res := by
  unfold State.flashDone
  dsimp only
  rw [State.flashKick_on hq hon, hq]
  dsimp only
  rw [hf]
  dsimp only
  rw [hcp, if_neg (by decide), hcmd]
  split
  · exact absurd rfl (hn2 _ _ _)
  · exact absurd rfl (hn1 _ _ _ _ _)
  · exact absurd rfl (hn3 _)
  · rw [if_pos rfl, hfin]
    rfl

/-- The operation of the one command in the flash queue fails. -/
theorem State.flashDone_failed {i : Instr} (hq : s.ports.flashQ = [(p, f.handle)]) (hon : s.ports.flashOn = some (p, f.handle))
    (hcp : s.pwr.cpRunning = true) (hf : (s.port p).flight? f.handle = some f) (hcmd : f.cmd = i)
    (hn1 : ∀ e addr len resume img, i ≠ .fwStage e addr len resume img) (hn2 : ∀ e w r, i ≠ .fwActivate e w r)
    (hn3 : ∀ e, i ≠ .fwRevert e) (n : Nat) : s.flashDone false n = (s.flashFault 1 0).flashEnds p f .integrity 0x00F8 [] := by
  unfold State.flashDone
  dsimp only
  rw [State.flashKick_on hq hon, hq]
  dsimp only
  rw [hf]
  dsimp only
  rw [hcp, if_neg (by decide), hcmd]
  split
  · exact absurd rfl (hn2 _ _ _)
  · exact absurd rfl (hn1 _ _ _ _ _)
  · exact absurd rfl (hn3 _)
  · rw [if_neg (by decide)]
    rfl

end

end Sys2Proof.Machine
end

section
/-!
SUPPORT. Commands of the device and ports group (15 R450, R473, R483 to R487): settles O44.
-/
namespace Sys2Proof.Machine

section
variable {s : State} {e : Env} {c : CmdInfo}

/-! Identity and node ID (15 R483, R484). -/

theorem leBytes_mod (n v : Nat) : leBytes n (v % 256 ^ n) = leBytes n v := by
  induction n generalizing v with
  | zero => rfl
  | succ n ih =>
    have hlow : BitVec.ofNat 8 (v % 256 ^ (n + 1)) = BitVec.ofNat 8 v := by
      refine BitVec.eq_of_toNat_eq ?_
      rw [BitVec.toNat_ofNat, BitVec.toNat_ofNat]
      exact Nat.mod_mod_of_dvd v (by rw [Nat.pow_succ]; exact Dvd.intro_left _ rfl)
    have hhigh : v % 256 ^ (n + 1) / 256 = v / 256 % 256 ^ n := by
      rw [Nat.pow_succ, Nat.mul_comm, Nat.mod_mul_right_div_self]
    unfold leBytes
    rw [hlow, hhigh, ih]

/-- A field of a result holds the low bytes of its number. -/
theorem leBytes_and (n k v : Nat) (h : 2 ^ k = 256 ^ n) : leBytes n (v &&& (2 ^ k - 1)) = leBytes n v := by
  rw [Nat.and_two_pow_sub_one_eq_mod, h, leBytes_mod]

theorem State.devIdentity_spec (hm : s.meets (.devIdentity e) c) : s.answers (.devIdentity e) c .ok 0
    (resBytes [(2, 0x7240), (1, Config.revision.toNat), (1, b2n Config.gradeX), (4, s.boot.version), (4, Config.bootRomVersion.toNat),
      (8, Config.uniqueId.toNat), (2, s.nodeId), (1, s.per.baseRate), (1, portNum e.port), (2, (s.port e.port).groups),
      (1, (s.port e.port).privs)]) s := by
  cases hm.info
  refine State.answers_of_run hm fun P f hP => ?_
  have hg : f.groups = (s.port e.port).groups &&& 0xFFFF := hP.groups
  have hv : f.privs = (s.port e.port).privs &&& 0xFF := hP.privs
  have h2 : leBytes 2 f.groups = leBytes 2 (s.port e.port).groups := by rw [hg]; exact leBytes_and 2 16 _ rfl
  have h1 : leBytes 1 f.privs = leBytes 1 (s.port e.port).privs := by rw [hv]; exact leBytes_and 1 8 _ rfl
  show (Done.done .ok 0 (resBytes _), _) = (Done.done .ok 0 (resBytes _), _)
  simp only [resBytes, List.flatMap_cons, List.flatMap_nil]
  rw [← h1, ← h2]
  rfl

theorem State.devNodeIdSet_spec {node : Nat} (hm : s.meets (.devNodeIdSet e node false) c) (hn : node ≤ 4095) (ha : s.pl.st ≠ .armed)
    (hl : s.pl.st ≠ .locked) : s.answers (.devNodeIdSet e node false) c .ok 0 (resBytes [(2, node), (8, s.mediaOf (s.per.boundaries + 1))])
      { s with nodeNext := some node } := by
  refine State.answers_of_run hm fun P f _ => ?_
  have hst : ¬ (decide (s.pl.st = .armed) || decide (s.pl.st = .locked)) = true := by simp [ha, hl]
  exact (if_neg (by omega)).trans ((if_neg hst).trans (if_neg (by decide)))

theorem State.devNodeIdSet_armed {node : Nat} {p : Bool} (hm : s.meets (.devNodeIdSet e node p) c) (hn : node ≤ 4095) (ha : s.pl.st = .armed) :
    s.answers (.devNodeIdSet e node p) c .rejectedState 0x00E7 [] s := by
  refine State.answers_of_run hm fun P f _ => ?_
  have hst : (decide (s.pl.st = .armed) || decide (s.pl.st = .locked)) = true := by simp [ha]
  exact (if_neg (by omega)).trans (if_pos hst)

/-! CMD_ABORT (15 R484). -/

theorem State.cmdAbort_cancels {h : Nat} {g : Flight} (hm : s.meets (.cmdAbort e h) c) (hg : (s.port e.port).flight? h = some g)
    (hh : g.handle = h) (hw : s.flashWaits e.port h = true) : s.cancels (.cmdAbort e h) c g [] s := by
  cases hm.info
  subst hh
  refine State.hostCmd_cancels hm rfl g hg [] s (by simp) hm.service rfl rfl fun P f hP _ hgP => ?_
  have hwP : ({ s with ports := P } : State).flashWaits e.port g.handle = true := by
    obtain ⟨pa, pb, pc, pd, m, n, hrest⟩ := hP.rest
    rw [hrest]
    exact hw
  have hgP' : (({ s with ports := P } : State).port e.port).flight? g.handle = some g := hgP
  show runCmdAbort (s.runCtx ⟨e, _, _⟩ f) g.handle { s with ports := P } = _
  unfold runCmdAbort
  rw [show (s.runCtx ⟨e, _, _⟩ f).port = e.port from rfl, hgP']
  exact if_pos (by rw [hwP, Bool.or_true])

theorem State.cmdAbort_unknown {h : Nat} (hm : s.meets (.cmdAbort e h) c) (hg : (s.port e.port).flight? h = none)
    (hh : h ≠ s.nextHandle e.port) : s.answers (.cmdAbort e h) c .rejectedArgs 0x00E9 [] s := by
  cases hm.info
  refine State.answers_of_run hm fun P f hP => ?_
  have hgP : (({ s with ports := P } : State).port e.port).flight? h = none := by
    have hfl : (({ s with ports := P } : State).port e.port).flights = (s.port e.port).flights ++ [f] := hP.flights
    have hne : (f.handle == h) = false := beq_eq_false_iff_ne.mpr fun hf => hh (by rw [← hf]; exact hP.handle)
    have hold : (s.port e.port).flights.find? (fun g => g.handle == h) = none := hg
    unfold PortS.flight?
    rw [hfl, List.find?_append, hold, List.find?_cons, hne]
    rfl
  have hend : (({ s with ports := P } : State).port e.port).ended h = false := by
    have hwait : (({ s with ports := P } : State).port e.port).waiting = [] := hP.waiting.trans (hm.idle e.port).2.2.2
    unfold PortS.ended
    rw [hwait]
    rfl
  show runCmdAbort (s.runCtx ⟨e, _, _⟩ f) h { s with ports := P } = _
  unfold runCmdAbort
  rw [show (s.runCtx ⟨e, _, _⟩ f).port = e.port from rfl, hgP]
  dsimp only
  rw [hend]
  rfl

/-! CMD_PORT_STATUS and CMD_ECHO (15 R486). -/

theorem State.cmdPortStatus_spec {x : PortS} (hm : s.meets (.cmdPortStatus e 3 false) c) (hd : e.port ≠ .D) (hx : s.ports.d = x) :
    s.answers (.cmdPortStatus e 3 false) c .ok 0
      (resBytes ([(1, 1), (2, x.flights.length), (2, 0), (4, x.accepted)] ++ x.completed.toList.map (fun n => (4, n)) ++
        [(4, x.discarded), (4, x.cqFullMs s.now), (4, 0), (4, 0), (4, 0), (4, 0)])) s := by
  have hc : c.env.port ≠ .D := by
    cases hm.info
    exact hd
  refine State.answers_of_run hm (fun P f hP => ?_) (hlen := by simp [resBytes, leBytes_length])
  have hport : ({ s with ports := P } : State).port .D = x := (hP.other .D (Ne.symm hc)).trans hx
  have hflight : x.inFlight = x.flights.length := by
    have hw : x.waiting = [] := by
      rw [← hx]
      exact (hm.idle .D).2.2.2
    unfold PortS.inFlight
    rw [hw]
    rfl
  have hst : ({ s with ports := P } : State).portState .D = 1 := by
    unfold State.portState
    refine (if_pos rfl).trans ?_
    rw [show ({ s with ports := P } : State).pwr.service = true from hm.service]
    rfl
  show runCmdPortStatus (s.runCtx c f) 3 false { s with ports := P } = _
  unfold runCmdPortStatus
  simp only [portOf, hport, hst, hflight]
  rfl

theorem State.cmdEcho_spec {bytes : List Byte} (hm : s.meets (.cmdEcho e bytes) c) (h : bytes.length ≤ 48) :
    s.answers (.cmdEcho e bytes) c .ok 0 bytes s :=
  State.answers_of_run hm (fun P f _ => if_neg (by omega)) (hlen := by omega)

theorem State.cmdEcho_long {bytes : List Byte} (hm : s.meets (.cmdEcho e bytes) c) (h : 48 < bytes.length) :
    s.answers (.cmdEcho e bytes) c .rejectedArgs 0x000B [] s :=
  State.answers_of_run hm fun P f _ => if_pos h

/-! CMD_PORT_PRIV_SET: the masks change when its COMPLETE entry is written (15 R450). -/

theorem State.groupWritten_masks (s : State) (p : CPort) {g : WGroup} {q : CPort} {a b : Nat} (h : g.masks = some (q, a, b)) :
    ((s.groupWritten p g).port q).groups = a ∧ ((s.groupWritten p g).port q).privs = b := by
  unfold State.groupWritten
  dsimp only
  rw [h]
  dsimp only
  rw [State.setPort_port_self]
  exact ⟨rfl, rfl⟩

/-- The one group that waits, with room for it, is the last that a flush writes. -/
theorem State.flushPort_writes {p : CPort} {g : WGroup} (hw : (s.port p).waiting = [g]) (hr : g.entries.length ≤ (s.port p).cqFree p) :
    ∃ x, s.flushPort p = (s.setPort p x).groupWritten p g := by
  obtain ⟨y, hy, -⟩ := flushGroups_one p g (s.port p) hr
  unfold State.flushPort
  dsimp only
  rw [hw, hy]
  exact ⟨_, rfl⟩

/-- The end of a command that sets masks sets them. -/
theorem State.complete_masks {p : CPort} {f : Flight} {res : List Byte} {q : CPort} {a b : Nat} (h : s.canEnd p f (entriesOf res))
    (hm : f.masks .ok = some (q, a, b)) (d : Nat) :
    ((s.complete p f.handle .ok d res).port q).groups = a ∧ ((s.complete p f.handle .ok d res).port q).privs = b := by
  obtain ⟨hC, hs, hf, hact, hwait, hroom⟩ := h
  obtain ⟨x, hx⟩ : ∃ x : PortS, x = { s.port p with
      flights := (s.port p).flights.filter (fun g => g.handle != f.handle)
      waiting := [⟨completeEntries f (opcodeOf f.cmd) .ok d res, f.irqSuppress, some (q, a, b)⟩] } := ⟨_, rfl⟩
  have hrun : s.complete p f.handle .ok d res = ((s.offFlash p f.handle).setPort p x).flushPort p := by
    unfold State.complete State.writeComplete
    dsimp only
    rw [if_pos hs, hf]
    dsimp only
    split
    · next he => exact absurd (he.symm.trans hact) (by decide)
    · next he => exact absurd (he.symm.trans hact) (by decide)
    · unfold State.putGroup
      rw [hm, hx, hwait]
      cases p with
      | A => rfl
      | B => rfl
      | C => exact absurd rfl hC
      | D => rfl
  have hfree : (completeEntries f (opcodeOf f.cmd) .ok d res).length ≤ x.cqFree p := by
    have hring : x.ring = (s.port p).ring := by rw [hx]
    have hsize : x.cqSize p = (s.port p).cqSize p := by
      rw [hx]
      rfl
    unfold PortS.cqFree entriesOf at *
    rw [if_neg hC, completeEntries_length, hring, hsize]
    omega
  obtain ⟨y, hy⟩ := State.flushPort_writes (s := (s.offFlash p f.handle).setPort p x) (p := p)
    (g := ⟨completeEntries f (opcodeOf f.cmd) .ok d res, f.irqSuppress, some (q, a, b)⟩)
    (by rw [State.setPort_port_self, hx]) (by rw [State.setPort_port_self]; exact hfree)
  rw [hrun, hy]
  exact State.groupWritten_masks _ p rfl

/-- The ports on which a command of an idle service runs: service stays calm, and the command can be answered. -/
theorem Ports.running.calm {i : Instr} {P : Ports} {f : Flight} (h : s.meets i c) (hP : s.ports.running P c f) (hw : f.waits = false) :
    ({ s with ports := P } : State).portsCalm := by
  refine fun q => ⟨hP.settled h hw q, ?_, hP.known (t := { s with ports := P }) h (Ports.Same.refl P) rfl rfl rfl rfl q⟩
  show (P.get q).placed = []
  by_cases hq : q = c.env.port
  · rw [hq]
    exact hP.placed
  · rw [hP.other q hq]
    exact (h.idle q).2.1

theorem Ports.running.ends {i : Instr} {P : Ports} {f : Flight} (h : s.meets i c) (hP : s.ports.running P c f) {n : Nat} (hn : n ≤ 15) :
    ({ s with ports := P } : State).canEnd c.env.port f n := by
  have hlen : (P.get c.env.port).ring.length = (s.port c.env.port).ring.length + 1 := by
    have hr := congrArg List.length hP.ring
    rw [List.length_append, List.length_map, List.length_map] at hr
    exact hr
  have hroom := h.room
  refine ⟨h.ring, h.service, ?_, hP.st.trans h.active, hP.waiting.trans (h.idle _).2.2.2, ?_⟩
  · have hfl : (P.get c.env.port).flights = (s.port c.env.port).flights ++ [f] := hP.flights
    have hold : (s.port c.env.port).flights.find? (fun g => g.handle == f.handle) = none :=
      List.find?_eq_none.mpr fun g hg heq => h.fresh g hg ((beq_iff_eq.mp heq).trans hP.handle)
    show (P.get c.env.port).flights.find? _ = _
    rw [hfl, List.find?_append, hold]
    simp
  · show (P.get c.env.port).ring.length + n ≤ (P.get c.env.port).cqSize c.env.port
    rw [hlen, hP.size]
    have hsize : (s.port c.env.port).ring.length + 16 ≤ (s.ports.get c.env.port).cqSize c.env.port := hroom
    omega

theorem State.runCmdPortPrivSet_ok (x : Ctx) (s : State) {port groups privs : Nat} {q : CPort} (hq : portOf port = some q) (hA : q ≠ .A)
    (hg : groups ≤ 0xFFFF) (hp : privs ≤ 0xFF) (hb : noBuf q = true → bit privs 6 = false) :
    runCmdPortPrivSet x port groups privs false s = (.done .ok 0 (resBytes [(2, groups), (1, privs % 128)]), s) := by
  have hport : 1 ≤ port ∧ port ≤ 3 ∧ (2 ≤ port → noBuf q = true) := by
    unfold portOf at hq
    split at hq
    · exact absurd (Option.some.inj hq).symm hA
    · exact ⟨by decide, by decide, fun h => absurd h (by decide)⟩
    · exact ⟨by decide, by decide, fun _ => by cases hq; rfl⟩
    · exact ⟨by decide, by decide, fun _ => by cases hq; rfl⟩
    · cases hq
  obtain ⟨h1, h3, h2⟩ := hport
  have hargs : ¬ (!within 1 3 port || decide (0xFFFF < groups) || decide (0xFF < privs) || (decide (2 ≤ port) && bit privs 6)) = true := by
    by_cases h : 2 ≤ port
    · simp [within, h1, h3, hg, hp, hb (h2 h)]
    · simp [within, h1, h3, hg, hp, h]
  exact (if_neg hargs).trans (if_neg (by decide))

theorem Flight.masks_privSet {f : Flight} {port groups privs : Nat} {persist : Bool} {q : CPort}
    (hc : f.cmd = .cmdPortPrivSet e port groups privs persist) (hq : portOf port = some q) :
    f.masks .ok = some (q, groups, privs % 128) := by
  unfold Flight.masks
  rw [hc]
  dsimp only
  rw [hq]
  rfl

theorem State.cmdPortPrivSet_spec {port groups privs : Nat} {q : CPort} (hm : s.meets (.cmdPortPrivSet e port groups privs false) c)
    (hq : portOf port = some q) (hA : q ≠ .A) (hg : groups ≤ 0xFFFF) (hp : privs ≤ 0xFF) (hb : noBuf q = true → bit privs 6 = false) :
    ∃ t, exec (.cmdPortPrivSet e port groups privs false) s = .next t ∧ (t.port q).groups = groups ∧ (t.port q).privs = privs % 128 ∧
      s.answered t c .ok 0 (resBytes [(2, groups), (1, privs % 128)]) ∧ t.as s := by
  obtain ⟨t, ht, hans, has⟩ : s.answers (.cmdPortPrivSet e port groups privs false) c .ok 0 (resBytes [(2, groups), (1, privs % 128)]) s :=
    State.answers_of_run hm fun P f _ => State.runCmdPortPrivSet_ok (s.runCtx c f) _ hq hA hg hp hb
  refine ⟨t, ht, ?_⟩
  obtain ⟨P, f, k, hP, hcmd, hrun⟩ := State.hostCmd_runs hm
  have hw : f.waits = false := by
    cases hf : f.waits with
    | false => rfl
    | true =>
      obtain ⟨e', addr, len, img, hboot⟩ := f.waits_cmd hf
      rw [hcmd] at hboot
      cases hboot
  have hcalm := hP.calm hm hw
  have hends : ({ s with ports := P } : State).canEnd c.env.port f (entriesOf (resBytes [(2, groups), (1, privs % 128)])) :=
    hP.ends hm (by simp [entriesOf, resBytes, leBytes_length])
  have hmasks := State.complete_masks hends (Flight.masks_privSet hcmd hq) 0
  have hend : s.hostCmd (.cmdPortPrivSet e port groups privs false) =
      ({ s with ports := P } : State).complete c.env.port f.handle .ok 0 (resBytes [(2, groups), (1, privs % 128)]) := by
    have hr : runCmd (s.runCtx c f) (.cmdPortPrivSet e port groups privs false) { s with ports := P } =
      (.done .ok 0 (resBytes [(2, groups), (1, privs % 128)]), { s with ports := P }) := State.runCmdPortPrivSet_ok (s.runCtx c f) _ hq hA hg hp hb
    rw [hrun, hr]
    exact State.serveN_calm _ _ ((State.complete_fewer _ _ _ _ _ _).calm hcalm)
  have htt : t = s.hostCmd (.cmdPortPrivSet e port groups privs false) := by
    have hex : exec (.cmdPortPrivSet e port groups privs false) s = .next (s.hostCmd (.cmdPortPrivSet e port groups privs false)) := rfl
    rw [hex] at ht
    exact (Host.Outcome.next.inj ht).symm
  rw [← hend, ← htt] at hmasks
  exact ⟨hmasks.1, hmasks.2, hans, has⟩

/-! CMD_KEY_SET (15 R473). -/

theorem lookup?_insertKey_other {α : Type} (l : List (Nat × α)) {j k : Nat} (v : α) (h : j ≠ k) :
    lookup? (insertKey l k v) j = lookup? l j := by
  have hkj : (k == j) = false := beq_eq_false_iff_ne.mpr (Ne.symm h)
  induction l with
  | nil => simp [insertKey, lookup?, hkj]
  | cons x l ih =>
    obtain ⟨i, u⟩ := x
    unfold insertKey
    by_cases hik : i = k
    · rw [if_pos hik]
      subst hik
      simp [lookup?, hkj]
    · rw [if_neg hik]
      by_cases hlt : k < i
      · rw [if_pos hlt]
        simp [lookup?, hkj]
      · rw [if_neg hlt]
        unfold lookup? at *
        rw [List.find?_cons, List.find?_cons]
        split
        · rfl
        · exact ih

/-- The operation of a command of the flash queue ends, with what its end does to the ports it runs on. -/
theorem State.flashes_of_end {i : Instr} {u : State} {res : List Byte} {g : Ports → Ports} (hm : s.meets i c) (hq : s.flashFree)
    (hrun : ∀ (P : Ports) (f : Flight), s.ports.running P c f →
      runCmd (s.runCtx c f) i { s with ports := P } = (.flash, { s with ports := P }))
    (hfin : ∀ P : Ports, P.pc.keys = s.ports.pc.keys → finCmd i { s with ports := P } = (.done .ok 0 res, { u with ports := g P }))
    (hg : ∀ P : Ports, P.Same (g P) ∧ (g P).flashQ = P.flashQ ∧ (g P).hostWrites = P.hostWrites)
    (hgk : ∀ P : Ports, P.pc.keys = s.ports.pc.keys → (g P).pc.keys = u.ports.pc.keys)
    (hb : ∀ P : Ports, State.flashBegins { s with ports := P } i = { s with ports := P } := by intro _; rfl)
    (hlen : res.length ≤ 380 := by simp [resBytes, leBytes_length]) (hex : exec i s = .next (s.hostCmd i) := by rfl)
    (hn1 : ∀ e addr len resume img, i ≠ .fwStage e addr len resume img := by simp)
    (hn2 : ∀ e w r, i ≠ .fwActivate e w r := by simp) (hn3 : ∀ e, i ≠ .fwRevert e := by simp)
    (hu : u.pwr = s.pwr := by rfl) (hw : u.ports.hostWrites = s.ports.hostWrites := by rfl) (htw : u.tw = s.tw := by rfl) :
    s.flashes i c res u := by
  obtain ⟨Q, f, h1, h2, h3, -, h5, h6, hidle, hact, hsize, hqw, hqk⟩ := State.hostCmd_flash hm hq.1 s rfl hb fun P f hP _ => hrun P f hP
  obtain ⟨hsame, hflashQ, hgw⟩ := hg Q
  have hring : (Q.get c.env.port).ring.map Entry.plain = (s.port c.env.port).ring.map Entry.plain ++ [s.acceptOf c] := h2.ring
  have hflights : (Q.get c.env.port).flights = (s.port c.env.port).flights ++ [f] := h2.flights
  have hfresh : ∀ x ∈ (s.port c.env.port).flights, x.handle ≠ f.handle := by
    rw [h2.handle]
    exact hm.fresh
  have hfind : (Q.get c.env.port).flight? f.handle = some f := by
    have hold : (s.port c.env.port).flights.find? (fun x => x.handle == f.handle) = none :=
      List.find?_eq_none.mpr fun x hx heq => hfresh x hx (beq_iff_eq.mp heq)
    unfold PortS.flight?
    rw [hflights, List.find?_append, hold]
    simp
  have hfilter : (Q.get c.env.port).flights.filter (fun x => x.handle != f.handle) = (s.port c.env.port).flights := by
    have hold : (s.port c.env.port).flights.filter (fun x => x.handle != f.handle) = (s.port c.env.port).flights :=
      List.filter_eq_self.mpr fun x hx => by simp [hfresh x hx]
    rw [hflights, List.filter_append, hold]
    simp
  have hlength : (Q.get c.env.port).ring.length = (s.port c.env.port).ring.length + 1 := by
    have hr := congrArg List.length hring
    rw [List.length_append, List.length_map, List.length_map] at hr
    exact hr
  have hends : ({ s with ports := Q } : State).canEnd c.env.port f (entriesOf res) := by
    refine ⟨hm.ring, hm.service, hfind, hact, (hidle _).2.2.2, ?_⟩
    show (Q.get c.env.port).ring.length + entriesOf res ≤ (Q.get c.env.port).cqSize c.env.port
    have hroom := hm.room
    rw [hlength, hsize]
    unfold entriesOf
    omega
  obtain ⟨P, h, hend, hcalm, hclosed, hempty, hPw, hPk, hgrade, havail⟩ := State.flashEnds_spec (v := { u with ports := g Q }) (res := res)
    (hidle.calm.same hsame htw) (hends.same hsame hu) (hflashQ.trans h5) .ok 0
  have hdone : ({ s with ports := Q } : State).flashDone true 0 = { u with ports := P, hlt := h } :=
    (State.flashDone_ok (s := { s with ports := Q }) (p := c.env.port) h5 h6 hq.2 hfind h3 (hfin Q hqk) hn1 hn2 hn3 0).trans hend
  obtain ⟨gr, hgr, hgrk⟩ := u.gradeFlash_ports
  obtain ⟨U, k, hrest⟩ := u.gradeFlash_rest
  obtain ⟨-, -, hgrw, hgrkeys⟩ := hgrk u.ports
  have hports : u.gradeFlash.ports = gr u.ports := congrArg State.ports (hgr u.ports : u.gradeFlash = _)
  have hk : k = h := by
    rw [← hgrade, hgr, hrest]
  refine ⟨{ s with ports := Q }, f, { u with ports := P, hlt := h }, by rw [hex, h1], h2, h3, ⟨rfl, hqw, hqk⟩, h5, ?_,
    ⟨⟨f, h2.tag, h2.handle, ?_⟩, ?_, fun r => ?_⟩, ?_, ?_, ?_⟩
  · show Host.Outcome.next (State.serve ((State.at_ { s with ports := Q } s.now).flashDone true 0)) = _
    rw [show State.at_ { s with ports := Q } s.now = { s with ports := Q } from State.at_now { s with ports := Q }, hdone,
      State.serve_calm _ hcalm]
  · have hop : opcodeOf f.cmd = c.opcode := by
      unfold opcodeOf
      rw [h3, hm.info]
      rfl
    have hr := hclosed.ring
    rw [hop] at hr
    rw [hr]
    show ((g Q).get c.env.port).ring.map Entry.plain ++ _ = _
    rw [(hsame.1 _).ring, hring, List.append_assoc]
    rfl
  · exact havail.trans ((hsame.1 _).avail.trans h2.avail)
  · by_cases hr : r = c.env.port
    · rw [hr, hclosed.flights]
      show ((g Q).get c.env.port).flights.filter _ = _
      rw [(hsame.1 _).flights, hfilter]
    · rw [hclosed.other r hr]
      exact (hsame.1 r).flights.trans (h2.other r hr)
  · rw [hrest, hk]
  · exact (hPw.trans (hgw.trans (hqw.trans hw.symm))).trans (by rw [hports, hgrw])
  · exact (hPk.trans (hgk Q hqk)).trans (by rw [hports, hgrkeys])

/-- A key of port C as CMD_KEY_SET stores it. -/
def newKey (key : List Byte) (groups privs : Nat) : Key := ⟨slice key 0 32, groups, privs % 128, 0, 2 ^ 24, 0, 2 ^ 24⟩

/-- The ports with a key of port C stored. -/
def Ports.keyed (P : Ports) (id : Nat) (k : Key) : Ports := { P with pc := { P.pc with keys := insertKey P.pc.keys id k } }

/-- The state once CMD_KEY_SET has stored a key. -/
def State.keyed (s : State) (id : Nat) (k : Key) : State := { s.configWritten with ports := s.ports.keyed id k }

theorem State.finCmdKeySet_eq {id addr groups privs : Nat} {key : List Byte} (ha : addr ≠ 0) :
    finCmd (.cmdKeySet e id addr key groups privs) s =
      (.done .ok 0 (resBytes [(1, id), (1, (insertKey s.ports.pc.keys id (newKey key groups privs)).length)]),
        s.keyed id (newKey key groups privs)) := by
  show finCmdKeySet id addr key groups privs s.configWritten = _
  unfold finCmdKeySet
  rw [if_neg ha, if_neg ha]
  rfl

theorem State.cmdKeySet_spec {id addr groups privs : Nat} {key : List Byte} (hm : s.meets (.cmdKeySet e id addr key groups privs) c)
    (hf : s.flashFree) (h1 : 1 ≤ id) (h8 : id ≤ 8) (ha : addr ≠ 0) (hD : e.port ≠ .D) (hg : groups ≤ 0xFFFF) (hp : privs ≤ 0xFF) :
    s.flashes (.cmdKeySet e id addr key groups privs) c
      (resBytes [(1, id), (1, (s.keyed id (newKey key groups privs)).ports.pc.keys.length)]) (s.keyed id (newKey key groups privs)) := by
  refine State.flashes_of_end (g := fun P => P.keyed id (newKey key groups privs)) hm hf (fun P f _ => ?_) (fun P hP => ?_)
    (fun P => ⟨⟨fun q => by cases q <;> exact PortS.Same.refl _, rfl⟩, rfl, rfl⟩)
    (fun P hP => congrArg (fun l => insertKey l id (newKey key groups privs)) hP)
  · have hC := hm.ring
    cases hm.info
    have hbuf : noBuf e.port = false := noBuf_eq_false hC hD
    have hargs : ¬ (!within 1 8 id || decide (0xFFFF < groups) || decide (0xFF < privs)) = true := by simp [within, h1, h8, hg, hp]
    have hzero : ¬ (decide (addr = 0) && (lookup? P.pc.keys id).isNone) = true := by simp [ha]
    show runCmdKeySet _ id addr groups privs { s with ports := P } = _
    unfold runCmdKeySet
    rw [if_neg hargs, if_neg (show ¬ (decide (addr = 0) && (lookup? ({ s with ports := P } : State).ports.pc.keys id).isNone) = true
      from hzero)]
    exact if_neg (by rw [show (s.runCtx _ f).port = e.port from rfl, hbuf, Bool.false_and]; decide)
  · rw [State.finCmdKeySet_eq (s := { s with ports := P }) ha]
    have hlen : ({ s with ports := P } : State).ports.pc.keys = s.ports.pc.keys := hP
    rw [hlen]
    rfl

theorem State.cmdKeySet_absent {id groups privs : Nat} {key : List Byte} (hm : s.meets (.cmdKeySet e id 0 key groups privs) c) (h1 : 1 ≤ id)
    (h8 : id ≤ 8) (hg : groups ≤ 0xFFFF) (hp : privs ≤ 0xFF) (hk : lookup? s.ports.pc.keys id = none) :
    s.answers (.cmdKeySet e id 0 key groups privs) c .rejectedArgs 0x0080 [] s := by
  refine State.answers_of_run hm fun P f hP => ?_
  have hkP : lookup? ({ s with ports := P } : State).ports.pc.keys id = none := by
    obtain ⟨pa, pb, pc, pd, m, n, hrest⟩ := hP.rest
    rw [hrest]
    exact hk
  have hargs : ¬ (!within 1 8 id || decide (0xFFFF < groups) || decide (0xFF < privs)) = true := by simp [within, h1, h8, hg, hp]
  show runCmdKeySet (s.runCtx c f) id 0 groups privs { s with ports := P } = _
  unfold runCmdKeySet
  rw [if_neg (by simp), if_neg hargs, hkP]
  rfl

end

/-- Settles O44, command by command: each runs on an idle service and is answered with what its run gives; CMD_PORT_PRIV_SET changes
the masks as its entry is written, and CMD_KEY_SET stores its key when its flash operation ends. -/
theorem portCommands : Obligations.PortCommands := by
  unfold Obligations.PortCommands
  refine fun s e c => ⟨fun hm => ⟨_, _, _, _, State.devIdentity_spec hm⟩, fun node hm hn ha hl => State.devNodeIdSet_spec hm hn ha hl,
    fun node p hm hn ha => State.devNodeIdSet_armed hm hn ha, fun h g hm hg hh hw => State.cmdAbort_cancels hm hg hh hw,
    fun h hm hg hh => State.cmdAbort_unknown hm hg hh, fun port groups privs q hm hq hA hg hp hb => ?_,
    fun id addr key groups privs hm hf h1 h8 ha hD hlen hg hp => ?_,
    fun id groups privs key hm h1 h8 hg hp hk => State.cmdKeySet_absent hm h1 h8 hg hp hk,
    fun x hm hd hx => State.cmdPortStatus_spec hm hd hx, fun bytes hm h => State.cmdEcho_spec hm h,
    fun bytes hm h => State.cmdEcho_long hm h⟩
  · obtain ⟨t, ht, h1, h2, hans, has⟩ := State.cmdPortPrivSet_spec hm hq hA hg hp hb
    obtain ⟨f, htag, hhandle, hring⟩ := hans.ring
    have hce : c.env = e := by
      cases hm.info
      rfl
    rw [hce] at htag hhandle hring
    exact ⟨t, ht, h1, h2, by rw [has.rest], f, htag, hhandle, hring⟩
  · refine ⟨s.keyed id (newKey key groups privs), newKey key groups privs, State.cmdKeySet_spec hm hf h1 h8 ha hD hg hp,
      lookup?_insertKey_self _ _ _, ?_, rfl, rfl, rfl, fun j hj => lookup?_insertKey_other _ _ hj⟩
    show slice key 0 32 = key
    rw [slice_eq_take (by omega), List.drop_zero, List.take_of_length_le (by omega)]

end Sys2Proof.Machine
end

section
/-!
SUPPORT. Envelope checks, time-outs and the ends of flash operations (15 R448, R449, R468, R470, 17 R513): settles O45.
-/
namespace Sys2Proof.Machine

/-! A command whose time runs out (15 R470). -/

section
variable {s : State} {p : CPort} {f : Flight} {e : Env}

theorem State.limitAt_xpointSet {mode group count addr : Nat} {data : List Byte} (hc : f.cmd = .xpointSet e mode group count addr data) :
    s.limitAt p f = f.startT + if addr = 0 then 10000000 else 5000000000 := by
  unfold State.limitAt State.endBoundary
  rw [hc]
  by_cases h : addr = 0
  · subst h
    rfl
  · have hclass : timeClass (.xpointSet e mode group count addr data) = .bulk := if_neg h
    dsimp only
    rw [hclass, if_neg h, if_neg (by decide)]
    rfl

theorem timeClass_xpointSet {mode group count addr : Nat} {data : List Byte} : timeClass (.xpointSet e mode group count addr data) ≠ .flash := by
  show (if addr = 0 then TClass.quick else TClass.bulk) ≠ .flash
  split <;> decide

/-- A direct update that waits loses its entries when its time runs out. -/
theorem State.cmdTimeout_xpointSet {mode group count addr : Nat} {data : List Byte} (ha : s.canAnswer p f) (hc : s.portsCalm)
    (hcmd : f.cmd = .xpointSet e mode group count addr data) (hq : s.ports.flashQ = []) :
    ∃ P : Ports, s.cmdTimeout p f.handle = { ((s.at_ (s.limitAt p f)).undirected p f.handle) with ports := P } ∧
      s.closed { ((s.at_ (s.limitAt p f)).undirected p f.handle) with ports := P } p f .timeout 0 [] := by
  obtain ⟨v, hv⟩ : ∃ v, v = (s.at_ (s.limitAt p f)).undirected p f.handle := ⟨_, rfl⟩
  have hports : v.ports = s.ports := by rw [hv, State.undirected_ports, State.at_ports]
  have hpwr : v.pwr = s.pwr := by rw [hv, State.undirected_pwr, State.at_pwr]
  have htw : v.tw = s.tw := by rw [hv, State.undirected_tw, State.at_tw]
  have hstarted : f.started = true := ((hc p).1 f (List.mem_of_find?_eq_some ha.flight)).1
  have hav : v.canAnswer p f := ha.congr hports hpwr
  have hcv : v.portsCalm := hc.congr hports htw
  obtain ⟨P, hP, hclosed⟩ := State.complete_closed hav .timeout 0 [] (by simp)
  have hfew := v.complete_fewer p f.handle .timeout 0 []
  rw [hP] at hfew
  have hempty : P.flashQ = [] := List.eq_nil_iff_forall_not_mem.mpr fun x hx => by
    have hmem := hfew.flash x hx
    rw [hports, hq] at hmem
    cases hmem
  have hoff : P.Same { P with flashOn := none } := Ports.same_flash P P.flashQ none
  have hdrop : (s.at_ (s.limitAt p f)).dropWork p f = some v := by
    rw [hv]
    exact State.dropWork_xpointSet hstarted hcmd
  have hguard : ¬ (!s.pwr.service || !f.started || (decide (timeClass f.cmd = .flash) && !s.flashHead p f.handle)) = true := by
    rw [ha.service, hstarted, hcmd, decide_eq_false timeClass_xpointSet]
    simp
  rw [← hv]
  refine ⟨{ P with flashOn := none }, ?_, (hclosed.congr (s' := s) hports.symm rfl).same (Ports.Same.refl _) hoff⟩
  unfold State.cmdTimeout
  rw [ha.flight]
  dsimp only
  rw [if_neg hguard, hdrop]
  dsimp only
  rw [hP, State.flashKick_empty hempty]
  exact State.serve_eq_self ((hfew.calm hcv).same hoff rfl)

/-! The ends of flash operations (15 R470, 17 R513). -/

/-- The trim of the oscillator once CONFIG holds it. -/
def State.trimmed (s : State) (trim : Int) : State :=
  { s with ref := { s.ref with trim := trim }, cfg := { s.cfg with trim := some trim }, boot := s.configWritten.boot }

theorem State.finRefOscTrimSet_eq (trim : Int) : finCmd (.refOscTrimSet e trim true) s =
    (.done .ok 0 (leBytes 4 (BitVec.ofInt 32 trim).toNat), s.trimmed trim) := by
  show (Done.done .ok 0 (leBytes 4 (sfld 4 trim).2 ++ []), _) = _
  rw [List.append_nil]
  rfl

/-- What the end of a flash operation answers and leaves. -/
theorem State.flashOperationDone_spec {v : State} {ok : Bool} {n tm d : Nat} {st : Status} {res : List Byte} (ha : s.canAnswer p f)
    (hc : s.portsCalm) (hq : s.ports.flashQ = [(p, f.handle)]) (hres : res.length ≤ 400) (hports : v.ports = s.ports) (hpwr : v.pwr = s.pwr)
    (htw : v.tw = s.tw) (hend : (s.at_ tm).flashDone ok n = v.flashEnds p f st d res) :
    ∃ P h, exec (.flashOperationDone ok n tm) s = .next { v with ports := P, hlt := h } ∧ P.flashQ = [] ∧
      s.closed { v with ports := P, hlt := h } p f st d res := by
  obtain ⟨P, h, hrun, hcalm, hclosed, hempty, -⟩ := State.flashEnds_spec (v := v) (p := p) (f := f) (res := res) (hc.congr hports htw)
    ((ha.congr hports hpwr).ends hres) (by rw [hports]; exact hq) st d
  refine ⟨P, h, ?_, hempty, hclosed.congr hports.symm rfl⟩
  show Host.Outcome.next ((s.at_ tm).flashDone ok n).serve = _
  rw [hend, hrun, State.serve_eq_self hcalm]

end

/-! A descriptor that the envelope checks refuse (15 R449, R468). -/

section
variable {s : State} {i : Instr} {c : CmdInfo}

/-- A port with rings takes the descriptor at its head where there is room for it. -/
theorem State.canTake_of {q : CPort} (hC : q ≠ .C) (hs : s.pwr.service = true) (ha : (s.port q).st = .active) (hav : 1 ≤ (s.port q).avail)
    (hp : (s.port q).placed = [i]) (hfit : s.descFits q = true) (hfree : 1 ≤ (s.port q).cqFree q) (hw : (s.port q).waiting = [])
    (hin : ∀ r, (s.port r).inFlight < 4) (hrec : s.boot.recovery = false) : s.canTake q = true := by
  have hq := hin q
  have hab : s.ports.a.inFlight + s.ports.b.inFlight < 956 := by
    have hA : s.ports.a.inFlight < 4 := hin .A
    have hB : s.ports.b.inFlight < 4 := hin .B
    omega
  unfold State.canTake
  dsimp only
  rw [hs, ha, hp, hfit, hw, hrec, decide_eq_true hav, decide_eq_true hfree]
  cases q with
  | A => simp [flightLimit, hab, show (s.port .A).inFlight < 512 by omega]
  | B => simp [flightLimit, hab, show (s.port .B).inFlight < 512 by omega]
  | C => exact absurd rfl hC
  | D => simp [hq]

/-- A command offered to an idle service at a port with rings, of which the envelope checks alone are open. -/
structure State.offers (s : State) (i : Instr) (c : CmdInfo) : Prop where
  info : cmdInfo i = some c
  ring : c.env.port ≠ .C
  service : s.pwr.service = true
  idle : s.portsIdle
  active : (s.port c.env.port).st = .active
  avail : 1 ≤ (s.port c.env.port).avail
  room : (s.port c.env.port).ring.length + 16 ≤ (s.port c.env.port).cqSize c.env.port
  few : ∀ q, (s.port q).flights.length < 4
  fresh : ∀ g ∈ (s.port c.env.port).flights, g.handle ≠ s.nextHandle c.env.port
  normal : s.boot.recovery = false
  desc : ∀ d, s.nextDesc c.env.port = some d →
    leNat (slice d 0 2) = c.opcode ∧ leNat (slice d 2 2) = c.env.flags.toNat ∧ leNat (slice d 4 4) = c.env.tag.toNat
  last : c.env.port = .D → (s.port .D).avail = 1

/-- The state with the descriptor in the submission queue. -/
def State.offered (s : State) (i : Instr) (q : CPort) : State := s.setPort q ((s.port q).withPlaced [i])

section
variable (h : s.offers i c)
include h

theorem State.offers.hostCmd : s.hostCmd i = (s.offered i c.env.port).serve := by
  unfold State.hostCmd State.offered
  rw [h.info]
  dsimp only
  rw [(h.idle c.env.port).2.1]
  rfl

theorem State.offers.unknown (p : CPort) : (s.offered i c.env.port).unknownDesc p = false := by
  rw [State.offered, State.unknownDesc_of (State.nextDesc_withPlaced s c.env.port p [i])]
  exact (h.idle p).2.2.1

theorem State.offers.settled (p : CPort) : ∀ f ∈ ((s.offered i c.env.port).port p).flights, f.settled := by
  unfold State.offered
  by_cases hp : c.env.port = p
  · subst hp
    rw [State.port_setPort_same]
    exact (h.idle _).1
  · rw [State.port_setPort_other _ _ _ _ hp]
    exact (h.idle p).1

theorem State.offers.inFlight (p : CPort) : ((s.offered i c.env.port).port p).inFlight < 4 := by
  have hw : ∀ q, (s.port q).waiting = [] := fun q => (h.idle q).2.2.2
  have hsame : ((s.offered i c.env.port).port p).inFlight = (s.port p).inFlight := by
    unfold State.offered
    by_cases hp : c.env.port = p
    · subst hp
      rw [State.port_setPort_same]
      rfl
    · rw [State.port_setPort_other _ _ _ _ hp]
  rw [hsame]
  unfold PortS.inFlight
  rw [hw]
  exact h.few p

theorem State.offers.canTake : (s.offered i c.env.port).canTake c.env.port = true := by
  have hport : (s.offered i c.env.port).port c.env.port = (s.port c.env.port).withPlaced [i] := State.port_setPort_same _ _ _
  have hfit : (s.offered i c.env.port).descFits c.env.port = true :=
    State.descFits_of h.info (by rw [hport]; rfl) (by rw [State.offered, State.nextDesc_withPlaced]; exact h.desc)
  have hfree : 1 ≤ ((s.port c.env.port).withPlaced [i]).cqFree c.env.port := by
    have hroom := h.room
    unfold PortS.cqFree
    rw [if_neg h.ring]
    show 1 ≤ (s.port c.env.port).cqSize c.env.port - (s.port c.env.port).ring.length
    omega
  exact State.canTake_of (i := i) h.ring h.service (by rw [hport]; exact h.active) (by rw [hport]; exact h.avail) (by rw [hport]; rfl) hfit
    (by rw [hport]; exact hfree) (by rw [hport]; exact (h.idle _).2.2.2) h.inFlight h.normal

theorem State.offers.takes : (s.offered i c.env.port).serveOne = some ((s.offered i c.env.port).take c.env.port) := by
  refine State.serveOne_take _ _ h.service (fun p => ⟨startable_none _ (h.settled p) 0,
    State.heldCheck_none _ p fun f hf _ => ((h.settled p f hf)).2.2⟩) h.canTake fun p hp => State.canTake_none _ _ ?_ (h.unknown p)
  rw [State.offered, State.port_setPort_other _ _ _ _ (Ne.symm hp)]
  exact (h.idle p).2.1

end

/-- The acceptance of a command with rings that the envelope checks refuse. -/
theorem State.acceptNew_refused (s : State) {q : CPort} {x : PortS} (key : Option (Nat × Nat × Nat)) {st : Status} {d : Nat} (hq : q ≠ .C)
    (he : ∀ u : State, u.envelope c i (x.groups &&& 0xFFFF) (x.privs &&& 0xFF) = some (st, d)) : s.acceptNew q i c x key =
      ((s.tookOne.setPort q (x.flying (s.newFlight i c x key))).writeAccept q
        (acceptEntry x.pick c.env.tag c.opcode x.sqHead)).complete q x.pick st d [] := by
  have hend : ∀ (w : State) (o : Option (Status × Nat)), o = some (st, d) →
      (match o with
        | some (st, d) => w.complete q x.pick st d []
        | none => w) = w.complete q x.pick st d [] := by
    intro w o ho
    subst ho
    rfl
  cases q with
  | A => exact hend _ _ (he _)
  | B => exact hend _ _ (he _)
  | C => exact absurd rfl hq
  | D => exact hend _ _ (he _)

/-- The flight and the port of a command once its ACCEPT entry stands. -/
def State.newest (s : State) (i : Instr) (c : CmdInfo) : Flight :=
  s.newFlight i c ((s.port c.env.port).popped c.env.port) s.ports.pc.frames.head?

/-- The descriptor is taken and accepted, and the envelope checks end it. -/
theorem State.offers.refused (h : s.offers i c) {st : Status} {d : Nat}
    (he : ∀ u : State, u.envelope c i ((s.port c.env.port).groups &&& 0xFFFF) ((s.port c.env.port).privs &&& 0xFF) = some (st, d)) :
    ∃ m n, (s.offered i c.env.port).take c.env.port = (((s.tookOne.setPort c.env.port
      (((s.port c.env.port).popped c.env.port).acceptedWith c.env.port (s.newest i c) c)).msgs m n).complete c.env.port
        (s.newest i c).handle st d []) := by
  obtain ⟨q, hq⟩ : ∃ q, q = c.env.port := ⟨_, rfl⟩
  have hr := h.ring
  have hu := h.unknown c.env.port
  have hi := h.info
  unfold State.newest
  rw [← hq] at hr hu he ⊢
  obtain ⟨m, n, hw⟩ := State.writeAccept_eq ((s.offered i q).tookOne.setPort q
      (((s.port q).popped q).flying (s.newFlight i c ((s.port q).popped q) s.ports.pc.frames.head?))) q
      (acceptEntry ((s.port q).popped q).pick c.env.tag c.opcode ((s.port q).popped q).sqHead) hr
  have hnew : (s.offered i q).newFlight i c ((s.port q).popped q) s.ports.pc.frames.head? =
      s.newFlight i c ((s.port q).popped q) s.ports.pc.frames.head? := by cases q <;> rfl
  have htake : (s.offered i q).take q = (s.offered i q).acceptNew q i c ((s.port q).popped q) s.ports.pc.frames.head? :=
    State.take_one s q (s.port q) i c hi hr hu
  refine ⟨m, n, ?_⟩
  rw [htake, State.acceptNew_refused (x := (s.port q).popped q) _ _ hr he, hnew, hw, State.port_setPort_same, State.setPort_setPort, State.offered,
    State.tookOne_setPort, State.setPort_setPort]
  rfl

/-- Command service that acts once and can then act no further. -/
theorem State.serve_once {t : State} (h : s.serveOne = some t) (hc : t.portsCalm) : s.serve = t := by
  obtain ⟨k, hk⟩ : ∃ k, s.ports.work = k + 1 := ⟨_, rfl⟩
  unfold State.serve
  rw [hk]
  unfold State.serveN
  rw [h]
  exact State.serveN_calm k t hc

/-- Ports once a command has been accepted and not started. -/
structure Ports.newcomer (a b : Ports) (c : CmdInfo) (f : Flight) : Prop where
  other : ∀ q, q ≠ c.env.port → b.get q = a.get q
  flights : (b.get c.env.port).flights = (a.get c.env.port).flights ++ [f]
  placed : (b.get c.env.port).placed = []
  avail : (b.get c.env.port).avail = (a.get c.env.port).avail - 1
  waiting : (b.get c.env.port).waiting = (a.get c.env.port).waiting
  st : (b.get c.env.port).st = (a.get c.env.port).st
  size : (b.get c.env.port).cqSize c.env.port = (a.get c.env.port).cqSize c.env.port
  ring : (b.get c.env.port).ring.map Entry.plain = (a.get c.env.port).ring.map Entry.plain ++
    [acceptEntry f.handle c.env.tag c.opcode (((a.get c.env.port).sqHead + 1) % (a.get c.env.port).sqSize c.env.port)]
  writes : b.hostWrites = a.hostWrites
  keys : b.pc.keys = a.pc.keys
  descs : b.pc.descs = a.pc.descs

theorem State.newcomer (s : State) (i : Instr) (c : CmdInfo) (m : List (Nat × Nat)) (n : Vector (BitVec 64) 2) :
    ∃ P : Ports, (s.tookOne.setPort c.env.port (((s.port c.env.port).popped c.env.port).acceptedWith c.env.port (s.newest i c) c)).msgs m n =
      { s with ports := P } ∧ s.ports.newcomer P c (s.newest i c) := by
  obtain ⟨q, hq⟩ : ∃ q, q = c.env.port := ⟨_, rfl⟩
  obtain ⟨f, hf⟩ : ∃ f, f = s.newest i c := ⟨_, rfl⟩
  have hpick : f.handle = ((s.port c.env.port).popped c.env.port).pick := by
    rw [hf]
    rfl
  obtain ⟨hg, ho, ⟨pa, pb, pc, pd, hrest⟩⟩ := Ports.get_put_msgs s.tookOne.ports c.env.port
    (((s.port c.env.port).popped c.env.port).acceptedWith c.env.port f c) m n
  obtain ⟨-, e2, e3, e4, e5, e6, e7, e8⟩ := PortS.accepted_started (s.port c.env.port) c.env.port f [] c hpick
  rw [← hf]
  refine ⟨(s.tookOne.ports.put c.env.port (((s.port c.env.port).popped c.env.port).acceptedWith c.env.port f c)).msgs m n, rfl, ?_⟩
  constructor
  · exact fun p hp => (ho p hp).trans (s.port_tookOne p)
  · rw [hg]; exact e8
  · rw [hg]; exact e2
  · rw [hg]; exact e3
  · rw [hg]; exact e4
  · rw [hg]; exact e5
  · rw [hg]; exact e6
  · rw [hg]; exact e7
  · rw [hrest]; rfl
  · rw [hrest]; rfl
  · rw [hrest]; rfl

/-- A command that the envelope checks refuse is answered with their status and DETAIL, and nothing else changes. -/
theorem State.offers.answers (h : s.offers i c) {st : Status} {d : Nat}
    (he : ∀ u : State, u.envelope c i ((s.port c.env.port).groups &&& 0xFFFF) ((s.port c.env.port).privs &&& 0xFF) = some (st, d))
    (hex : exec i s = .next (s.hostCmd i)) : s.answers i c st d [] s := by
  obtain ⟨m, n, htake⟩ := h.refused he
  obtain ⟨P, hP, hnew⟩ := s.newcomer i c m n
  obtain ⟨f, hf⟩ : ∃ f, f = s.newest i c := ⟨_, rfl⟩
  have hcmd : f.cmd = i := by
    rw [hf]
    rfl
  have htag : f.tag = c.env.tag := by
    rw [hf]
    rfl
  have hhandle : f.handle = s.nextHandle c.env.port := by
    rw [hf]
    rfl
  rw [hP, ← hf] at htake
  rw [← hf] at hnew
  have hidle := h.idle
  have hlength : (P.get c.env.port).ring.length = (s.port c.env.port).ring.length + 1 := by
    have hr := congrArg List.length hnew.ring
    rw [List.length_append, List.length_map, List.length_map] at hr
    exact hr
  obtain ⟨Q, hQ, h1, h2, h3, h4, h5, h6⟩ := State.complete_one { s with ports := P } c.env.port f st d [] h.ring h.service
    (s.port c.env.port).flights hnew.flights (by rw [hhandle]; exact h.fresh) (hnew.waiting.trans (hidle _).2.2.2)
    (hnew.st.trans h.active) (by
      have hroom : (s.port c.env.port).ring.length + 16 ≤ (s.ports.get c.env.port).cqSize c.env.port := h.room
      show (P.get c.env.port).ring.length + (1 + (0 - 16 + 27) / 28) ≤ (P.get c.env.port).cqSize c.env.port
      rw [hlength, hnew.size]
      omega)
  have hfew := State.complete_fewer { s with ports := P } c.env.port f.handle st d []
  rw [hQ] at hfew htake
  have hflights : ∀ p, (Q.get p).flights = (s.port p).flights := fun p => by
    by_cases hp : p = c.env.port
    · rw [hp]
      exact h2
    · rw [(h6 p hp).1]
      exact congrArg PortS.flights (hnew.other p hp)
  have hplaced : ∀ p, (Q.get p).placed = [] := fun p => by
    by_cases hp : p = c.env.port
    · rw [hp, h3]
      exact hnew.placed
    · rw [(h6 p hp).2.1]
      exact (congrArg PortS.placed (hnew.other p hp)).trans (hidle p).2.1
  have hcalm : ({ s with ports := Q } : State).portsCalm := by
    refine hidle.calm.of_ports (fun q f hm => by rw [← show _ = (s.port q).flights from hflights q]; exact hm)
      (fun q => Or.inr (hplaced q)) rfl (hfew.descs.trans hnew.descs) ?_
    by_cases hD : CPort.D = c.env.port
    · refine Or.inl ((hfew.ports .D).avail.trans ?_)
      have hlast := h.last hD.symm
      have havail := hnew.avail
      rw [← hD] at havail
      exact havail.trans (by rw [show (s.ports.get .D).avail = (s.port .D).avail from rfl, hlast])
    · have hsame : ({ s with ports := P } : State).port .D = s.port .D := hnew.other .D hD
      exact Or.inr ⟨(hfew.ports .D).avail.trans (congrArg PortS.avail hsame), (hfew.ports .D).head.trans (congrArg PortS.sqHead hsame)⟩
  have hop : opcodeOf f.cmd = c.opcode := by
    unfold opcodeOf
    rw [hcmd, h.info]
    rfl
  have hrun : s.hostCmd i = { s with ports := Q } := by
    rw [h.hostCmd]
    exact State.serve_once (h.takes.trans (congrArg some htake)) hcalm
  refine ⟨{ s with ports := Q }, by rw [hex, hrun], ⟨⟨f, htag, hhandle, ?_⟩, h4.trans hnew.avail, hflights⟩, rfl,
    hfew.writes.trans hnew.writes, hfew.keys.trans hnew.keys⟩
  show (Q.get c.env.port).ring.map Entry.plain = _
  rw [h1, hop]
  show (P.get c.env.port).ring.map Entry.plain ++ _ = _
  rw [hnew.ring, List.append_assoc, hhandle]
  rfl

theorem bit_low_false {g k n : Nat} (h : bit g k = false) : bit (g &&& n) k = false := by
  unfold bit at *
  rw [Nat.testBit_and, h, Bool.false_and]

theorem State.envelope_group (u : State) {g v : Nat} (hfl : c.env.flags.toNat < 32) (hptr : c.env.flags.getLsbD 1 = false)
    (hg : bit g (c.opcode / 256) = false) : u.envelope c i g v = some (.denied, 0x00E1) := by
  unfold State.envelope
  dsimp only
  rw [hptr, hg, if_neg (by simp; omega), if_neg (by simp)]
  rfl

theorem State.envelope_priv (u : State) {g v k : Nat} (hfl : c.env.flags.toNat < 32) (hptr : c.env.flags.getLsbD 1 = false)
    (hg : bit g (c.opcode / 256) = true) (hk : c.priv = some k) (hv : bit v k = false) : u.envelope c i g v = some (.denied, 0x00E2) := by
  unfold State.envelope
  dsimp only
  rw [hptr, hg, if_neg (by simp; omega), if_neg (by simp), if_neg (by simp)]
  refine if_pos ?_
  rw [hk]
  exact congrArg not hv

/-- A host command runs as one. -/
theorem exec_hostCmd (h : cmdInfo i = some c) (s : State) : exec i s = .next (s.hostCmd i) := by
  cases i <;> simp only [cmdInfo, reduceCtorEq] at h <;> rfl

end

/-- Settles O45: the end of a command by its time limit and by its flash operation is the answer of `complete` on an unchanged service;
a descriptor that the envelope checks refuse is taken, accepted and answered before anything runs. -/
theorem commandEnds : Obligations.CommandEnds := by
  unfold Obligations.CommandEnds
  refine ⟨fun s p f ha hc => ⟨fun e group count addr data hcmd hq => ?_, fun e trim tm n hcmd hq hon hcp => ?_,
    fun e trim tm n hcmd hq hon hcp => ?_⟩, fun s i c hi hC hs hidle hact hav hroom hfew hfresh hnorm hfl hptr hdesc hlast => ?_⟩
  · obtain ⟨P, hrun, hclosed⟩ := State.cmdTimeout_xpointSet ha hc hcmd hq
    refine ⟨_, congrArg Host.Outcome.next hrun, hclosed, State.undirected_direct _ p f.handle, rfl, ?_⟩
    show max s.now (s.limitAt p f) = _
    rw [State.limitAt_xpointSet hcmd]
  · have hdone := State.flashDone_ok (s := s.at_ tm) (n := n) hq hon hcp ha.flight hcmd (State.finRefOscTrimSet_eq trim)
      (by simp) (by simp) (by simp)
    obtain ⟨P, h, hrun, hempty, hclosed⟩ := State.flashOperationDone_spec (v := (s.at_ tm).trimmed trim) ha hc hq
      (by rw [leBytes_length]; decide) rfl rfl rfl hdone
    exact ⟨_, hrun, rfl, rfl, hempty, hclosed⟩
  · have hdone := State.flashDone_failed (s := s.at_ tm) (n := n) hq hon hcp ha.flight hcmd (by simp) (by simp) (by simp)
    obtain ⟨P, h, hrun, hempty, hclosed⟩ := State.flashOperationDone_spec (v := (s.at_ tm).flashFault 1 0) ha hc hq (by simp) rfl rfl rfl hdone
    exact ⟨_, hrun, rfl, rfl, hempty, hclosed⟩
  · have hoff : s.offers i c := ⟨hi, hC, hs, hidle, hact, hav, hroom, hfew, hfresh, hnorm, hdesc, hlast⟩
    obtain ⟨hop, hpv⟩ := cmdInfo_small hi
    refine ⟨fun hg => hoff.answers (fun u => State.envelope_group u hfl hptr (bit_low_false hg)) (exec_hostCmd hi s),
      fun v hg hv hno => hoff.answers (fun u => ?_) (exec_hostCmd hi s)⟩
    exact State.envelope_priv u hfl hptr (bit_and_low _ 0xFFFF _ 16 hg hop rfl) hv (bit_low_false hno)

end Sys2Proof.Machine
end

section
/-!
SUPPORT. The register space (00 R7, 21 R607 to R615): settles O46.
-/
namespace Sys2Proof.Machine

section
variable {s : State} {f : Requester} {b : Block}

/-! The lock of a block (21 R610). -/

theorem Access.setLock_lock_self (a : Access) (f : Requester) (l : LockSt) : (a.setLock f l).lock f = l := by cases f <;> rfl

theorem Access.setLock_lock_other (a : Access) {f g : Requester} (h : g ≠ f) (l : LockSt) : (a.setLock f l).lock g = a.lock g := by
  cases f with
  | A => cases g with
    | A => exact absurd rfl h
    | B => rfl
    | D => rfl
  | B => cases g with
    | A => rfl
    | B => exact absurd rfl h
    | D => rfl
  | D => cases g with
    | A => rfl
    | B => rfl
    | D => exact absurd rfl h

theorem Block.ix_inj {b d : Block} (h : b.ix = d.ix) : b = d := by
  have hall : ∀ x : Block, blockOf x.ix = some x := fun x => by cases x <;> rfl
  exact Option.some.inj ((hall b).symm.trans ((congrArg blockOf h).trans (hall d)))

theorem State.setAccess_access_other (s : State) {b d : Block} (h : d ≠ b) (a : Access) : (s.setAccess b a).access d = s.access d :=
  rd_wr_other _ _ _ _ fun he => h (Block.ix_inj he).symm

theorem LockSt.key_start {l : LockSt} (h : l = .locked) (t : Nat) : l.key 0x1ACC t = .half t := by
  subst h
  rfl

theorem LockSt.key_end {l : LockSt} {h t : Nat} (hl : l = .half h) (ht : t ≤ h + 1000000) : l.key 0xE55A t = .unlocked t := by
  subst hl
  unfold LockSt.key
  rw [if_neg (by decide)]
  exact if_pos (by simp [ht])

theorem LockSt.key_wrong (l : LockSt) {key : Nat} (h1 : key ≠ 0x1ACC) (h2 : key ≠ 0xE55A) (t : Nat) : l.key key t = .locked := by
  unfold LockSt.key
  dsimp only
  rw [if_neg h1]
  split
  · exact if_neg (by simp [h2])
  · rfl

theorem LockSt.open_unlocked (t : Nat) : (LockSt.unlocked t).open_ t = true ∧ (LockSt.unlocked t).open_ (t + 1000000000) = false := by
  simp [LockSt.open_]

/-- A key written by a requester that reaches the registers. -/
theorem exec_accessKeyWrite {n key tm : Nat} (hb : blockOf n = some b) (hr : s.reaches f = true) :
    exec (.accessKeyWrite f n key tm) s = .next ((s.at_ tm).keyWrite f b key) := by
  have hr' : (s.at_ tm).reaches f = true := hr
  show Host.Outcome.next ((s.at_ tm).byReq (some f) _) = _
  unfold State.byReq State.onBlock
  dsimp only
  rw [if_pos hr', hb]

theorem State.keyWrite_lock (s : State) (f : Requester) (b : Block) (key : Nat) :
    ((s.keyWrite f b key).access b).lock f = ((s.access b).lock f).key key s.now := by
  unfold State.keyWrite
  rw [State.setAccess_access_self _ _ _ b.ix_lt, Access.setLock_lock_self]

theorem State.keyWrite_lock_other (s : State) (b : Block) (key : Nat) {g : Requester} (h : g ≠ f) :
    ((s.keyWrite f b key).access b).lock g = (s.access b).lock g := by
  unfold State.keyWrite
  rw [State.setAccess_access_self _ _ _ b.ix_lt, Access.setLock_lock_other _ h]

theorem State.keyWrite_access_other (s : State) (f : Requester) (key : Nat) {d : Block} (h : d ≠ b) :
    (s.keyWrite f b key).access d = s.access d := State.setAccess_access_other _ h _

theorem exec_accessUnlockExpiry {n tm : Nat} (hb : blockOf n = some b) :
    exec (.accessUnlockExpiry f n tm) s = .next ((s.at_ tm).unlockExpiry f b) := by
  show Host.Outcome.next ((s.at_ tm).onBlock n _) = _
  unfold State.onBlock
  rw [hb]

theorem State.unlockExpiry_due {u : Nat} (hl : (s.access b).lock f = .unlocked u) (h : u + 1000000000 ≤ s.now) :
    s.unlockExpiry f b = s.setAccess b ((s.access b).setLock f .locked) := by
  unfold State.unlockExpiry
  dsimp only
  rw [hl]
  exact if_pos h

theorem State.unlockExpiry_early {u : Nat} (hl : (s.access b).lock f = .unlocked u) (h : s.now < u + 1000000000) :
    s.unlockExpiry f b = s := by
  unfold State.unlockExpiry
  dsimp only
  rw [hl]
  exact if_neg (by omega)

/-! Reads that clear (21 R611). -/

theorem State.readReg_clears {off : Nat} {r : Reg} (hr : s.reaches f = true) (hreg : regOf (off / 4 * 4) = some r) (hd : s.domOn r.domain = true) :
    ∃ P, s.readReg f off = { s.regCleared r with ports := P } := by
  unfold State.readReg State.readWord
  rw [hr, if_neg (by decide), hreg]
  dsimp only
  rw [if_pos hd]
  exact ⟨_, rfl⟩

theorem regOf_netStatus {k : Nat} (h : k < 8) : regOf ((0x101000 + 0x40 * k) / 4 * 4) = some (.netStatus k) := by
  have hall : ∀ k : Fin 8, regOf ((0x101000 + 0x40 * k.val) / 4 * 4) = some (.netStatus k.val) := by decide
  exact hall ⟨k, h⟩

theorem regOf_chCount {k : Nat} (h : k < 32) : regOf ((0x14100C + 0x40 * k) / 4 * 4) = some (.chCount k) := by
  have hall : ∀ k : Fin 32, regOf ((0x14100C + 0x40 * k.val) / 4 * 4) = some (.chCount k.val) := by decide
  exact hall ⟨k, h⟩

/-! Writes under the access codes (21 R608, R609; 11 R322). -/

theorem bits_mod_word (v : Nat) : bits (v % 2 ^ 32) 16 16 = bits v 16 16 := by
  unfold bits
  rw [Nat.shiftRight_eq_div_pow, Nat.shiftRight_eq_div_pow]
  omega

theorem bit_mod_word (v : Nat) {i : Nat} (h : i < 32) : bit (v % 2 ^ 32) i = bit v i := by
  unfold bit
  rw [Nat.testBit_mod_two_pow, decide_eq_true h, Bool.true_and]

/-- A write to TS_CTRL that takes no snapshot sets PPS_OUT under the lock. -/
theorem State.writeReg_tsCtrl {v : Nat} (hr : s.reaches f = true) (hd : s.domOn 2 = true) (h0 : bit v 0 = false) :
    s.writeReg f 0x120000 v 4 =
      s.rwl (some f) .ts (fun s => s.setPps (bit v 1) (if within 1 50000 (bits v 16 16) then bits v 16 16 else s.ts.ppsWidth)) := by
  have hreg : regOf 0x120000 = some .tsCtrl := rfl
  unfold State.writeReg State.writeWord
  rw [hr, if_neg (by decide), if_pos rfl, hreg]
  dsimp only
  refine (if_pos hd).trans ?_
  unfold State.regWrite
  dsimp only
  rw [bit_mod_word v (by decide), bit_mod_word v (by decide), bits_mod_word, h0, if_neg (by decide)]

theorem State.writeReg_narrow {v w : Nat} (hr : s.reaches f = true) (hd : s.domOn 2 = true) (hw : w < 4) :
    s.writeReg f 0x120000 v w = s.setAccess .ts { s.access .ts with widthErr := true } := by
  have hreg : (regOf (0x120000 / 4 * 4)).bind (fun r => if s.domOn r.domain then r.block else none) = some .ts :=
    if_pos hd
  unfold State.writeReg
  rw [hr, if_neg (by decide), if_neg (by omega), if_neg (by omega), hreg]

theorem State.setAccess_calm (h : s.portsCalm) (b : Block) (a : Access) : (s.setAccess b a).portsCalm :=
  h.same (t := s.setAccess b a) ⟨fun q => by cases q <;> exact PortS.Same.refl _, rfl⟩ rfl

theorem State.violate_calm (h : s.portsCalm) (f : Requester) (b : Block) : (s.violate f b).portsCalm := State.setAccess_calm h b _

theorem State.violate_A (s : State) (b : Block) : ((s.violate .A b).access b).violA = true := by
  unfold State.violate
  dsimp only
  rw [State.setAccess_access_self _ _ _ b.ix_lt]

end

/-- Settles O46: the keys by the lock automaton of one requester on one block, the reads by what each register clears, and the writes
by the guard of their fields. -/
theorem registerSpace : Obligations.RegisterSpace := by
  unfold Obligations.RegisterSpace
  rintro s f b n tm now hb rfl hr
  have hr' : (s.at_ tm).reaches f = true := hr
  have hcalm : s.portsCalm → (s.at_ tm).portsCalm := fun hc => hc.congr rfl rfl
  refine ⟨⟨_, exec_accessKeyWrite hb hr, fun _ hl => ?_, fun g hg => State.keyWrite_lock_other _ b _ hg,
      fun d hd => State.keyWrite_access_other _ f _ hd⟩, fun h hl ht => ?_, fun key h1 h2 => ?_, fun u hl hu => ?_, fun u hl hu => ?_,
    fun k hk hd => ?_, fun k hk hd => ?_, fun v hc hd hopen h0 h1 h2 => ?_, fun v hc hd hopen h0 => ?_, fun v w hc hd hw => ?_⟩
  · rw [State.keyWrite_lock]
    exact LockSt.key_start hl _
  · have hkey : (((s.at_ tm).keyWrite f b 0xE55A).access b).lock f = .unlocked (max s.now tm) :=
      (State.keyWrite_lock _ f b _).trans (LockSt.key_end hl ht)
    refine ⟨_, exec_accessKeyWrite hb hr, hkey, ?_⟩
    rw [hkey]
    exact LockSt.open_unlocked _
  · exact ⟨_, exec_accessKeyWrite hb hr, (State.keyWrite_lock _ f b _).trans (LockSt.key_wrong _ h1 h2 _)⟩
  · have hrun := State.unlockExpiry_due (s := s.at_ tm) (f := f) (b := b) hl hu
    refine ⟨_, (exec_accessUnlockExpiry hb).trans (congrArg Host.Outcome.next hrun), ?_, fun g hg => ?_⟩
    · rw [State.setAccess_access_self _ _ _ b.ix_lt, Access.setLock_lock_self]
    · rw [State.setAccess_access_self _ _ _ b.ix_lt, Access.setLock_lock_other _ hg]
      rfl
  · exact (exec_accessUnlockExpiry hb).trans (congrArg Host.Outcome.next (State.unlockExpiry_early (s := s.at_ tm) hl hu))
  · obtain ⟨P, hrun⟩ := State.readReg_clears (s := s.at_ tm) hr' (regOf_netStatus hk) hd
    have hself := (s.at_ tm).setLane_lane_self hk { ((s.at_ tm).lane k) with exits := 0 }
    refine ⟨_, congrArg Host.Outcome.next hrun, (congrArg Lane.exits hself :), (congrArg Lane.st hself :), fun j hj => ?_⟩
    exact (State.setLane_lane (s.at_ tm) k j _).trans (if_neg fun h => hj h.1.symm)
  · obtain ⟨P, hrun⟩ := State.readReg_clears (s := s.at_ tm) hr' (regOf_chCount hk) hd
    have hself := (s.at_ tm).setHalf_chan_self hk { ((s.at_ tm).chan k) with limitCycles := 0, trips := 0 }
    exact ⟨_, congrArg Host.Outcome.next hrun, (congrArg Chan.trips hself :), (congrArg Chan.limitCycles hself :),
      (congrArg Chan.modClip hself :), fun j hj => (s.at_ tm).setHalf_chan_other hj _⟩
  · have hrun := State.writeReg_tsCtrl (s := s.at_ tm) hr' hd h0
    rw [State.rwl_open (s := s.at_ tm) hopen, if_pos (by simp [within, h1, h2])] at hrun
    refine ⟨(s.at_ tm).setPps (bit v 1) (bits v 16 16), ?_, rfl, rfl, rfl, rfl⟩
    show Host.Outcome.next ((s.at_ tm).writeReg f 0x120000 v 4).serve = _
    rw [hrun]
    exact congrArg Host.Outcome.next (State.serve_eq_self ((hcalm hc).congr rfl rfl))
  · have hrun := State.writeReg_tsCtrl (s := s.at_ tm) hr' hd h0
    rw [State.rwl_locked (s := s.at_ tm) hopen] at hrun
    refine ⟨(s.at_ tm).violate f .ts, ?_, ?_, ((s.at_ tm).violate_spec f .ts).2, fun hA => ?_⟩
    · show Host.Outcome.next ((s.at_ tm).writeReg f 0x120000 v 4).serve = _
      rw [hrun, State.serve_eq_self (State.violate_calm (hcalm hc) f .ts)]
    · cases f <;> rfl
    · rw [hA]
      exact State.violate_A _ _
  · have hrun := State.writeReg_narrow (s := s.at_ tm) (v := v) hr' hd hw
    refine ⟨(s.at_ tm).setAccess .ts { (s.at_ tm).access .ts with widthErr := true }, ?_, rfl, ?_⟩
    · show Host.Outcome.next ((s.at_ tm).writeReg f 0x120000 v w).serve = _
      rw [hrun, State.serve_eq_self (State.setAccess_calm (hcalm hc) .ts _)]
    · rw [State.setAccess_access_self _ _ _ (Block.ix_lt _)]

end Sys2Proof.Machine
end

section
/-!
SUPPORT. The two-wire target and its force-safe sequence (16 R489 to R501): settles O47.
-/
namespace Sys2Proof.Machine
-- Proofs checked one at a time, which bounds the memory that the whole text takes.
set_option Elab.async false

section
variable {s : State}

/-! Transactions (16 R491, R494). -/

theorem State.twEnd_whole (h : s.tw.assembly = none) : s.twEnd = s.setTw { s.tw with phase := .idle, latched := [] } := by
  unfold State.twEnd
  rw [h]
  dsimp only
  rw [if_neg (by simp)]
  exact congrArg (fun a => s.setTw { s.tw with phase := .idle, assembly := a, latched := [] }) h.symm

theorem State.twStart_other {a : Nat} {read : Bool} (h : s.tw.assembly = none) (ha : a ≠ 0x58 + s.tw.twa) :
    s.twStart a read = (s.setTw { s.tw with phase := .idle, latched := [] }).endCond 0x0B01 0xC3 0xFFFF := by
  unfold State.twStart
  rw [State.twEnd_whole h]
  exact if_neg ha

theorem State.twStart_own (read : Bool) (h : s.tw.assembly = none) :
    s.twStart (0x58 + s.tw.twa) read =
      ((s.setTw { s.tw with phase := .idle, latched := [] }).endCond 0x0B01 0xC3 0xFFFF).setTw
        { s.tw with latched := [], phase := if read then .read else .ptr0, count := 0 } := by
  unfold State.twStart
  rw [State.twEnd_whole h]
  exact if_pos rfl

theorem State.twByteWrite_ptr0 (b : Byte) (h : s.tw.phase = .ptr0) :
    s.twByteWrite b = s.setTw { s.tw.counted with phase := .ptr1 b.toNat } := by
  unfold State.twByteWrite
  dsimp only
  rw [h]

theorem State.twByteWrite_ptr1 (b : Byte) {hi : Nat} (h : s.tw.phase = .ptr1 hi) :
    s.twByteWrite b = s.setTw { s.tw.counted with phase := .write, pointer := hi * 256 + b.toNat } := by
  unfold State.twByteWrite
  dsimp only
  rw [h]

theorem State.twByteWrite_data (b : Byte) (h : s.tw.phase = .write) (hp : s.tw.pointer + 1 < 65536) :
    s.twByteWrite b = (s.setTw { s.tw.counted with pointer := s.tw.pointer + 1 }).twWriteByte s.tw.pointer b := by
  unfold State.twByteWrite
  dsimp only
  rw [h]
  dsimp only
  rw [Nat.mod_eq_of_lt hp]

/-! Window areas (16 R495). -/

theorem twArea_local {a : Nat} (h : a < 0x28) : twArea a = .local_ := if_pos h

theorem twArea_reserved {a : Nat} (h : 0x28 ≤ a) (h' : a < 0x100) : twArea a = .reserved :=
  (if_neg (Nat.not_lt.mpr h)).trans (if_pos h')

theorem twArea_sq {a : Nat} (h : 0x100 ≤ a) (h' : a < 0x200) : twArea a = .sq :=
  (if_neg (by omega)).trans ((if_neg (by omega)).trans (if_pos h'))

theorem State.twOther_idle (h : s.tw.seq = 0) : s.twOther = s := if_pos h

theorem State.twWriteByte_sq {a : Nat} (b : Byte) (ha : twArea a = .sq) (h : s.tw.seq = 0) :
    s.twWriteByte a b = s.setTw { s.tw with sq := Sparse.set s.tw.sq a b } := by
  unfold State.twWriteByte
  rw [ha]
  dsimp only
  rw [State.twOther_idle h]

theorem State.twWriteByte_reserved {a : Nat} (b : Byte) (ha : twArea a = .reserved) (h : s.tw.seq = 0) :
    s.twWriteByte a b = s.setTw { s.tw with flags := s.tw.flags ||| 4#8 } := by
  unfold State.twWriteByte
  rw [ha]
  dsimp only
  rw [State.twOther_idle h]
  rfl

theorem State.twWriteByte_local {a : Nat} (b : Byte) (ha : twArea a = .local_) : s.twWriteByte a b = s.twAssemble a b := by
  unfold State.twWriteByte
  rw [ha]

/-- The identification word stands at window address 0 (16 R498). -/
theorem State.twReadByte_id {a : Nat} (ha : a < 4) (hl : s.tw.latched = []) :
    s.twReadByte a = (BitVec.ofNat 8 (0x72404201 / 256 ^ a), s.setTw { s.tw with latched := [(0, 0x72404201)] }) := by
  have hw : a / 4 * 4 = 0 := by omega
  have hlatch : s.twLatch a = (0x72404201, s.setTw { s.tw with latched := [(0, 0x72404201)] }) := by
    unfold State.twLatch
    extract_lets w r
    have hw' : w = 0 := hw
    have hr : r = (0x72404201, s) := by
      simp only [r, hw']
      exact if_pos (by omega)
    clear_value r w
    subst hr hw'
    rw [hl]
    rfl
  unfold State.twReadByte
  rw [twArea_local (by omega), hlatch]
  dsimp only
  rw [Nat.mod_eq_of_lt ha]

/-- A read returns the identification word's bytes (16 R498). -/
theorem State.twByteRead_id (ack : Bool) (hph : s.tw.phase = .read) (hp : s.tw.pointer < 4) (hl : s.tw.latched = []) :
    (s.twByteRead ack).tw = { s.tw.counted with
      latched := [(0, 0x72404201)], out := BitVec.ofNat 8 (0x72404201 / 256 ^ s.tw.pointer), pointer := s.tw.pointer + 1
      phase := if ack then .read else .idle } := by
  unfold State.twByteRead
  dsimp only
  rw [hph]
  dsimp only
  rw [State.twReadByte_id hp hl, Nat.mod_eq_of_lt (by omega)]
  rfl

/-! A STOP (16 R499). -/

theorem Tw.undoorbelled {t : Tw} (hs : t.sqTail = none) (hc : t.cqHead = none) : { t with sqTail := none, cqHead := none } = t := by
  cases t
  cases hs
  cases hc
  rfl

theorem State.twDoorbells_none (hs : s.tw.sqTail = none) (hc : s.tw.cqHead = none) : s.twDoorbells = s := by
  unfold State.twDoorbells
  dsimp only
  rw [Tw.undoorbelled hs hc, hs, hc]
  rfl

theorem State.twDoorbells_tail {n : Nat} (hs : s.tw.sqTail = some n) (hc : s.tw.cqHead = none) :
    s.twDoorbells = (s.setTw { s.tw with sqTail := none, cqHead := none }).sqTail .D n := by
  unfold State.twDoorbells
  dsimp only
  rw [hs, hc]

/-- Port D's submission queue holds four descriptors (15 R446). -/
theorem State.sqTail_portD {n : Nat} (hn : n < 4) : s.sqTail .D n =
    s.setPort .D { s.port .D with sqTail := n, avail := (n + 4 - s.ports.d.sqHead) % 4 } :=
  if_neg (show ¬ (s.port .D).sqSize .D ≤ n from Nat.not_le.mpr hn)

theorem State.portsCalm.tw (h : s.portsCalm) {t : Tw} (hq : t.sq = s.tw.sq) : (s.setTw t).portsCalm := by
  intro q
  obtain ⟨hf, hp, hd⟩ := h q
  refine ⟨hf, hp, ?_⟩
  cases q with
  | A => exact hd
  | B => exact hd
  | C => exact hd
  | D =>
    rw [← hd]
    unfold State.unknownDesc State.nextDesc State.setTw
    dsimp only
    rw [hq]

theorem slice_two {l : List Byte} {a b : Byte} {r : List Byte} (h : l = a :: b :: r) : slice l 0 2 = [a, b] := by
  rw [h]
  rfl

/-- Command service stays calm where the descriptor at port D's head has an OPCODE that a command defines. -/
theorem State.portsCalm.portD (h : s.portsCalm) {x : PortS} (hf : x.flights = (s.port .D).flights) (hp : x.placed = (s.port .D).placed)
    (hk : definedOpcode (leNat [Sparse.get s.tw.sq (0x100 + 64 * x.sqHead), Sparse.get s.tw.sq (0x101 + 64 * x.sqHead)]) = true) :
    (s.setPort .D x).portsCalm := by
  intro q
  obtain ⟨hqf, hqp, hqd⟩ := h q
  cases q with
  | A => exact ⟨hqf, hqp, hqd⟩
  | B => exact ⟨hqf, hqp, hqd⟩
  | C => exact ⟨hqf, hqp, hqd⟩
  | D =>
    refine ⟨fun f hm => hqf f (hf ▸ hm), hp.trans hqp, ?_⟩
    have hdesc : slice ((List.range 64).map (fun k => Sparse.get s.tw.sq (0x100 + 64 * x.sqHead + k))) 0 2 =
        [Sparse.get s.tw.sq (0x100 + 64 * x.sqHead), Sparse.get s.tw.sq (0x101 + 64 * x.sqHead)] := by
      refine slice_two (r := ((List.range 62).map fun k => Sparse.get s.tw.sq (0x100 + 64 * x.sqHead + (k + 2)))) ?_
      rw [show 0x101 + 64 * x.sqHead = 0x100 + 64 * x.sqHead + 1 by omega, List.range_succ_eq_map (n := 63),
        List.range_succ_eq_map (n := 62)]
      simp
    have hnext : (s.setPort .D x).nextDesc .D = if x.avail = 0 then none else
        some ((List.range 64).map (fun k => Sparse.get s.tw.sq (0x100 + 64 * x.sqHead + k))) := rfl
    unfold State.unknownDesc
    rw [hnext]
    by_cases ha : x.avail = 0
    · rw [if_pos ha]
    · rw [if_neg ha]
      dsimp only
      rw [hdesc, hk]
      rfl

theorem State.twEnd_phase : s.twEnd.tw.phase = .idle := by
  unfold State.twEnd
  dsimp only
  split <;> rfl

/-! Framing errors and a stuck bus (16 R492, R494). -/

/-- A framing error in a write transaction sets FRAMING and ends it. -/
theorem State.twFraming_write {pos kind : Nat} (ha : s.tw.assembly = none) (hph : s.tw.phase = .write) (h1 : 1 ≤ pos) (h9 : pos ≤ 9)
    (hk : kind ≤ 1) : s.twFraming pos kind = s.setTw { s.tw with
      framing := true, fKind := kind, fDir := false, fByte := min s.tw.count 2047, fPos := pos, phase := .idle, latched := [] } := by
  have hgo : ¬ (decide (s.tw.phase = .idle) || !within 1 9 pos || decide (2 < kind)) = true := by
    rw [hph]
    simp [within, h1, h9]
    omega
  unfold State.twFraming
  dsimp only
  rw [if_neg (by simpa using hgo), if_neg (by omega), State.twEnd_whole (by exact ha)]
  simp [hph, State.setTw]

theorem State.twStuck_spec (i : Nat) (ha : s.tw.assembly = none) :
    (s.twStuck i).tw = { s.tw with phase := .idle, latched := [], flags := s.tw.flags ||| (1#8 <<< i) } ∧
      s.raised (s.twStuck i) 0x0B01 0xC3 0xFFFF 3 := by
  unfold State.twStuck
  rw [State.twEnd_whole ha]
  obtain ⟨u, hu⟩ : ∃ u, u = (s.setTw { s.tw with phase := .idle, latched := [] }).twFlag i := ⟨_, rfl⟩
  have htw : u.tw = { s.tw with phase := .idle, latched := [], flags := s.tw.flags ||| (1#8 <<< i) } := by rw [hu]; rfl
  rw [← hu]
  exact ⟨htw, State.raised_raise (by rw [hu]; rfl) _ _ _ _⟩

/-! The force-safe sequence (16 R500, R501). -/

/-- The last byte of the word 1 at window address 0x20. -/
theorem State.twWriteByte_last (ha : s.tw.assembly = some (0x20, [(0, 1), (1, 0), (2, 0)])) :
    s.twWriteByte 0x23 0 = (s.setTw { s.tw with assembly := none }).twWord 0x20 1 := by
  rw [State.twWriteByte_local 0 (twArea_local (by decide))]
  unfold State.twAssemble
  dsimp only
  rw [ha]
  rfl

theorem State.twSeq_safe (hs : s.tw.seq = 2) (ht : s.now ≤ s.tw.seqAt + 10000000) :
    s.twWord 0x20 1 = (s.setTw { s.tw with seq := 0 }).setGlobalHold (fun p => { p with tw := true }) := by
  have hlive : ¬ (s.tw.seq ≠ 0 && s.tw.seqAt + 10000000 < s.now) = true := by
    rw [Bool.and_eq_true, decide_eq_true_eq, decide_eq_true_eq]
    omega
  unfold State.twWord
  rw [if_pos (by decide)]
  unfold State.twSeq
  rw [if_neg hlive]
  dsimp only
  rw [if_neg (by decide), if_neg (by omega), if_pos (by decide)]

/-- A hold of the two-wire target takes a channel that switches to HELD, and leaves the state of the others. -/
theorem State.holdChanged_tw {k : Nat} (hk : k < 32) (hp : s.paired k = false) (hh : s.pst.tw = true) (j : Nat) :
    ((s.holdChanged k).chan j).st = if j = k ∧ (s.chan k).switching = true then .held else (s.chan j).st := by
  have hheld : s.held (s.chan k) = true := by simp [State.held, hh]
  rw [State.holdChanged_of_held hheld, hh, Bool.or_true, Bool.and_true]
  cases hsw : (s.chan k).switching with
  | false => exact (if_neg (by simp)).symm
  | true =>
    have hent : ((s.event 6).enter k .held).chan j = ((s.event 6).entered k .held).chan j := by
      rw [State.enter_eq (s := s.event 6) hp (Chan.switching_ne_held hsw), if_neg (by decide)]
      split
      · exact State.stopEnded_chan _ k j
      · rfl
    rw [if_pos rfl, hent]
    by_cases hj : j = k
    · subst hj
      rw [State.entered_chan hk, Chan.into_st, if_pos ⟨rfl, rfl⟩]
    · rw [(State.OnChan.entered k (s.event 6) .held).other j hj, if_neg (fun h => hj h.1)]
      rfl

/-- A hold of the two-wire target on every channel. -/
theorem State.holdAll_tw (hp : ∀ k, s.paired k = false) (hh : s.pst.tw = true) {n : Nat} (hn : n ≤ 32) :
    s.Rebound ((List.range n).foldl (fun s l => s.holdChanged l) s) ∧ ∀ j,
      (((List.range n).foldl (fun s l => s.holdChanged l) s).chan j).st =
        if j < n ∧ (s.chan j).switching = true then .held else (s.chan j).st := by
  induction n with
  | zero => exact ⟨State.Rebound.refl s, fun j => by simp⟩
  | succ n ih =>
    obtain ⟨hr, hc⟩ := ih (by omega)
    rw [List.range_succ, List.foldl_append, List.foldl_cons, List.foldl_nil]
    generalize (List.range n).foldl (fun s l => s.holdChanged l) s = u at hr hc ⊢
    refine ⟨hr.trans (State.Rebound.holdChanged u n), fun j => ?_⟩
    have htw : u.pst.tw = true := by rw [hr]; exact hh
    have hsame : (u.chan n).switching = (s.chan n).switching := by
      unfold Chan.switching
      rw [hc n, if_neg (by omega)]
    rw [State.holdChanged_tw (by omega) ((hr.paired n).trans (hp n)) htw, hc j, hsame]
    by_cases hj : j = n
    · subst hj
      simp
    · have hlt : j < n ↔ j < n + 1 := by omega
      simp only [hj, hlt, false_and, if_false]

/-- All channels take up their holds in turn. -/
def State.holdAll (s : State) : State := (List.range 32).foldl (fun s l => s.holdChanged l) s

theorem State.holdAll_spec (s : State) (hp : ∀ k, s.paired k = false) (hh : s.pst.tw = true) : s.Rebound s.holdAll ∧ ∀ j,
    (s.holdAll.chan j).st = if j < 32 ∧ (s.chan j).switching = true then .held else (s.chan j).st :=
  State.holdAll_tw hp hh (Nat.le_refl 32)

/-- The state in which the two-wire target holds every channel. -/
def State.twHolds (s : State) : State := { s with pst := { s.pst with tw := true } }

theorem State.setGlobalHold_tw (hoff : s.pst.tw = false) (hp : ∀ k, s.paired k = false) :
    s.setGlobalHold (fun p => { p with tw := true }) = s.twHolds.holdAll := by
  have hch : ¬ ((s.pst.safeN == s.pst.safeN) && (true == s.pst.tw)) = true := by simp [hoff]
  refine (if_neg hch).trans ?_
  exact congrArg (fun l => List.foldl (fun s l => State.holdChanged s l) s.twHolds l) (State.leads_alone (s := s.twHolds) hp)

/-- The last byte of the release word of the sequence forces every channel safe (16 R500, R501). -/
theorem State.twForceSafe (hph : s.tw.phase = .write) (hptr : s.tw.pointer = 0x23)
    (ha : s.tw.assembly = some (0x20, [(0, 1), (1, 0), (2, 0)])) (hs : s.tw.seq = 2) (ht : s.now ≤ s.tw.seqAt + 10000000)
    (hoff : s.pst.tw = false) (hp : ∀ k, s.paired k = false) :
    ∃ t, s.twByteWrite 0 = t ∧ t.pst.tw = true ∧ t.tw.seq = 0 ∧
      ∀ k, k < 32 → (t.chan k).st = if (s.chan k).switching = true then .held else (s.chan k).st := by
  have hwrite : s.twByteWrite 0 =
      (((s.setTw { s.tw.counted with pointer := s.tw.pointer + 1 }).setTw
        { s.tw.counted with pointer := s.tw.pointer + 1, assembly := none }).setTw
          { s.tw.counted with pointer := s.tw.pointer + 1, assembly := none, seq := 0 }).setGlobalHold (fun p => { p with tw := true }) := by
    rw [State.twByteWrite_data 0 hph (by omega), hptr, State.twWriteByte_last (by exact ha)]
    exact State.twSeq_safe hs ht
  obtain ⟨u, hu⟩ : ∃ u : State, u = ((s.setTw { s.tw.counted with pointer := s.tw.pointer + 1 }).setTw
      { s.tw.counted with pointer := s.tw.pointer + 1, assembly := none }).setTw
        { s.tw.counted with pointer := s.tw.pointer + 1, assembly := none, seq := 0 } := ⟨_, rfl⟩
  have hpst : u.pst = s.pst := by rw [hu]; rfl
  have hpu : ∀ k, u.paired k = false := by rw [hu]; exact hp
  have hseq : u.tw.seq = 0 := by rw [hu]; rfl
  have hcu : ∀ k, u.chan k = s.chan k := fun k => by unfold State.chan; rw [hpst]
  rw [← hu, State.setGlobalHold_tw (by rw [hpst]; exact hoff) hpu] at hwrite
  obtain ⟨hr, hc⟩ := u.twHolds.holdAll_spec hpu rfl
  obtain ⟨t, ht⟩ : ∃ t, t = u.twHolds.holdAll := ⟨_, rfl⟩
  rw [← ht] at hr hc hwrite
  refine ⟨t, hwrite, by rw [hr]; rfl, by rw [hr]; exact hseq, fun k hk => ?_⟩
  rw [hc k, show u.twHolds.chan k = s.chan k from hcu k]
  simp only [hk, true_and]

/-- A channel is then at rest, whatever state it was in. -/
theorem Chan.switching_of_st {c d : Chan} (h : c.st = if d.switching = true then .held else d.st) : c.switching = false := by
  cases hd : d.switching with
  | true =>
    rw [hd, if_pos rfl] at h
    unfold Chan.switching
    rw [h]
    decide
  | false =>
    rw [hd, if_neg (by decide)] at h
    rw [← hd]
    unfold Chan.switching
    rw [h]

end

/-- Settles O47: each bus event's effect on the target, and, for the force-safe word, the holds of all channels in turn. -/
theorem twoWire : Obligations.TwoWire := by
  unfold Obligations.TwoWire
  refine ⟨fun s tm now hnow ha => ?_, fun s tm hph hptr ha hs ht hoff hp => ?_⟩
  · subst hnow
    have hframe : (s.at_ tm).tw.assembly = none := ha
    refine ⟨fun read hi hl => ?_, fun a read hne => ?_, fun b hph => ?_, fun b hi hph => ?_, fun b hph h1 h2 hs => ?_,
      fun b hph h1 h2 hs => ?_, fun ack hph hp hl => ?_, fun hc hsq hcq => ?_, fun n hc hsq hn hcq hk => ?_,
      fun pos kind hph h1 h9 hk => ?_, ?_, ?_, fun hs ht => ?_, fun hs => ?_⟩
    case _ =>
      refine ⟨_, congrArg Host.Outcome.next (State.twStart_own (s := s.at_ tm) read hframe), ?_, State.hasCond_endCond_self _ _ _ _⟩
      rw [← hl]
      rfl
    case _ =>
      exact ⟨_, congrArg Host.Outcome.next (State.twStart_other (s := s.at_ tm) (read := read) hframe hne), rfl, rfl, rfl⟩
    case _ => exact congrArg Host.Outcome.next (State.twByteWrite_ptr0 (s := s.at_ tm) b hph)
    case _ => exact congrArg Host.Outcome.next (State.twByteWrite_ptr1 (s := s.at_ tm) b hph)
    case _ =>
      refine congrArg Host.Outcome.next ((State.twByteWrite_data (s := s.at_ tm) b hph ?_).trans ?_)
      · show s.tw.pointer + 1 < 65536
        omega
      · exact State.twWriteByte_sq b (twArea_sq h1 h2) hs
    case _ =>
      refine congrArg Host.Outcome.next ((State.twByteWrite_data (s := s.at_ tm) b hph ?_).trans ?_)
      · show s.tw.pointer + 1 < 65536
        omega
      · exact State.twWriteByte_reserved b (twArea_reserved h1 h2) hs
    case _ =>
      have htw := State.twByteRead_id (s := s.at_ tm) ack hph hp hl
      exact ⟨_, rfl, congrArg Tw.out htw, congrArg Tw.pointer htw, congrArg Tw.phase htw⟩
    case _ =>
      refine congrArg Host.Outcome.next ?_
      unfold State.twStop
      rw [State.twEnd_whole hframe, State.twDoorbells_none (by exact hsq) (by exact hcq),
        State.serve_eq_self ((State.portsCalm.congr (t := s.at_ tm) hc rfl rfl).tw (by rfl))]
      rfl
    case _ =>
      have hcalm : (s.at_ tm).portsCalm := hc.congr rfl rfl
      have hrun : (s.at_ tm).twStop = (((s.at_ tm).setTw { s.tw with phase := .idle, latched := [] }).setTw
          { s.tw with phase := .idle, latched := [], sqTail := none, cqHead := none }).setPort .D
            { s.port .D with sqTail := n, avail := (n + 4 - s.ports.d.sqHead) % 4 } := by
        unfold State.twStop
        rw [State.twEnd_whole hframe, State.twDoorbells_tail (by exact hsq) (by exact hcq), State.sqTail_portD hn]
        exact State.serve_eq_self (State.portsCalm.portD ((hcalm.tw rfl).tw rfl) rfl rfl hk)
      exact ⟨_, congrArg Host.Outcome.next hrun, rfl, rfl, rfl⟩
    case _ =>
      exact ⟨_, congrArg Host.Outcome.next (State.twFraming_write (s := s.at_ tm) hframe hph h1 h9 hk), rfl, rfl, rfl, rfl, rfl, rfl, rfl⟩
    case _ =>
      obtain ⟨htw, hr⟩ := State.twStuck_spec (s := s.at_ tm) 0 hframe
      exact ⟨_, rfl, congrArg Tw.phase htw, congrArg Tw.flags htw, hr⟩
    case _ =>
      obtain ⟨htw, hr⟩ := State.twStuck_spec (s := s.at_ tm) 1 hframe
      exact ⟨_, rfl, congrArg Tw.phase htw, congrArg Tw.flags htw, hr⟩
    case _ =>
      refine congrArg Host.Outcome.next ((if_pos ?_).trans rfl)
      rw [Bool.and_eq_true, decide_eq_true_eq, decide_eq_true_eq]
      exact ⟨hs, ht⟩
    case _ =>
      refine congrArg Host.Outcome.next ((if_neg ?_).trans rfl)
      rw [Bool.and_eq_true, decide_eq_true_eq]
      exact fun h => h.1 hs
  · obtain ⟨t, hrun, htw, hseq, hc⟩ := State.twForceSafe (s := s.at_ tm) hph hptr ha hs ht hoff hp
    exact ⟨t, congrArg Host.Outcome.next hrun, htw, hseq, fun k hk => Chan.switching_of_st (hc k hk), hc⟩

end Sys2Proof.Machine
end

section
/-!
SUPPORT. Serial audio frames (04 R138 to R143): settles O48.
-/
namespace Sys2Proof.Machine

/-! Conversion of transmitted words (04 R140). -/

theorem saClamp_self {v : Slot} (hlo : -0x01000000 ≤ v.toInt) (hhi : v.toInt ≤ 0x00FFFFFF) : saClamp v = v.toInt := by
  unfold saClamp
  rw [if_neg (by omega), if_neg (by omega)]

/-- A word of 32 bits carries the 25 bits of its slot in its upper bits. -/
theorem saTx_word {v : Slot} (hlo : -0x01000000 ≤ v.toInt) (hhi : v.toInt ≤ 0x00FFFFFF) : saTx 32 v = v <<< 7 := by
  unfold saTx
  dsimp only
  rw [saClamp_self hlo hhi, if_pos rfl, Nat.mod_eq_of_lt (BitVec.isLt _), BitVec.ofNat_toNat, BitVec.setWidth_eq,
    BitVec.ofInt_mul, BitVec.ofInt_toInt, BitVec.shiftLeft_eq_mul_twoPow]
  rfl

theorem State.muted_open {s : State} (h : s.boot.mute = none) (v : Int) : s.muted v = v := by
  unfold State.muted State.muteFactor
  rw [h]

section
variable {s : State} {port : Nat} {r : SaRec}

theorem State.setSap_self (hp : port < 8) (x : SaSt) : rd (s.setSap port x).sap port = x := by
  rw [State.setSap_sap, if_pos ⟨rfl, hp⟩]

theorem State.setSap_other {j : Nat} (hj : j ≠ port) (x : SaSt) : rd (s.setSap port x).sap j = rd s.sap j := by
  rw [State.setSap_sap, if_neg (fun h => hj h.1.symm)]

/-! What a write of receive slots leaves unchanged. -/

theorem State.saWrite_sap (r : SaRec) (vals : List Slot) (sub : Bool) : (s.saWrite r vals sub).sap = s.sap :=
  foldl_keeps (fun u i => State.putSlot u (r.inSlot + i) (vals.getD i 0) sub) State.sap (fun _ _ => rfl) _ s

theorem State.saWrite_flt (r : SaRec) (vals : List Slot) (sub : Bool) : (s.saWrite r vals sub).flt = s.flt :=
  foldl_keeps (fun u i => State.putSlot u (r.inSlot + i) (vals.getD i 0) sub) State.flt (fun _ _ => rfl) _ s

theorem State.saFrame_end {words : List DWord} {fs : FsMeas} {t : Nat} (hr : s.saRec port = some r) (hst : (rd s.sap port).st ≠ .disabled) :
    s.saFrame port true words fs t = s.saEnd port r words fs t := by
  unfold State.saFrame
  rw [hr]
  exact (if_neg hst).trans (if_pos rfl)

theorem State.saFrame_start {words : List DWord} {fs : FsMeas} {t : Nat} (hr : s.saRec port = some r) (hst : (rd s.sap port).st ≠ .disabled) :
    s.saFrame port false words fs t = s.saStart port r t := by
  unfold State.saFrame
  rw [hr]
  exact (if_neg hst).trans (if_neg (by decide))

/-- A frame edge more than 10 ns after the boundary belongs to the period it lies in. -/
theorem State.saJustAfter_late {t : Nat} (h : r.target = false → s.per.openedAt + 10 < t) : s.saJustAfter r t = false := by
  unfold State.saJustAfter
  cases hr : r.target with
  | true => rfl
  | false =>
    rw [decide_eq_false (p := t ≤ s.per.openedAt + 10) (Nat.not_le.mpr (h hr)), Bool.and_false]

/-! Frames that start (04 R140). -/

theorem State.saStart_locked {t : Nat} (ht : r.target = false) (hj : s.saJustAfter r t = false) (hst : (rd s.sap port).st = .locked)
    (hre : (rd s.sap port).react = false) (he : s.flt.engineSafe = false) :
    s.saStart port r t = s.setSap port { rd s.sap port with
      dout := (s.saRead r).map (saTx r.wordBits) ++ List.replicate (r.frameSlots - (s.saRead r).length) 0
      clip := satAdd 32 (rd s.sap port).clip ((s.saRead r).filter (fun v => decide (saClamp v ≠ v.toInt))).length
      txCount := (rd s.sap port).txCount + 1
      txPhase := 0 } := by
  have hm : s.saMuted port = false := by simp [State.saMuted, hst, hre, he]
  unfold State.saStart
  dsimp only
  rw [hm, hj, ht]
  simp

theorem State.saRead_open (h : s.boot.mute = none) : s.saRead r = (List.range r.chOut).map (fun i => s.slot (r.outSlot + i)) := by
  unfold State.saRead
  simp only [State.muted_open h, BitVec.ofInt_toInt]

/-! Frames that end (04 R141 to R143). -/

theorem State.saTake_waits {t : Nat} (x : SaSt) (vals : List Slot) (hj : s.saJustAfter r t = false) :
    s.saTake port r x vals t = s.setSap port { x with rx := x.rx ++ [(vals, t)] } :=
  if_neg (ne_true_of_eq_false hj)

/-- The state of a port with FS_OFFSET of the frame that ends. -/
def SaRec.measured (r : SaRec) (x : SaSt) (fs : FsMeas) : SaSt := { x with fsOffset := if r.target then fsClamp fs.offset else 0 }

theorem State.saEnd_acquire {words : List DWord} {fs : FsMeas} {t : Nat} (hst : (rd s.sap port).st = .acquire) :
    s.saEnd port r words fs t =
      if !r.target then (s.saTake port r (r.measured (rd s.sap port) fs) ((words.take r.frameSlots).map (saRx r.wordBits)) t).saLock port
      else if !r.goodFrame fs s.per.baseRate then s.setSap port { r.measured (rd s.sap port) fs with good := 0 }
      else if 15 ≤ (rd s.sap port).good then
        (s.saTake port r (r.measured (rd s.sap port) fs) ((words.take r.frameSlots).map (saRx r.wordBits)) t).saLock port
      else s.setSap port { r.measured (rd s.sap port) fs with good := (rd s.sap port).good + 1 } := by
  unfold State.saEnd
  dsimp only
  split
  · next h => cases hst.symm.trans h
  · rfl
  · next h => cases hst.symm.trans h

theorem State.saEnd_locked {words : List DWord} {fs : FsMeas} {t : Nat} (hst : (rd s.sap port).st = .locked) :
    s.saEnd port r words fs t =
      if r.target && !r.goodFrame fs s.per.baseRate then (s.setSap port (r.measured (rd s.sap port) fs)).saLoss port r
      else s.saTake port r (r.measured (rd s.sap port) fs) ((words.take r.frameSlots).map (saRx r.wordBits)) t := by
  unfold State.saEnd
  dsimp only
  split
  · next h => cases hst.symm.trans h
  · next h => cases hst.symm.trans h
  · rfl

theorem State.saEnd_kept {words : List DWord} {fs : FsMeas} {t : Nat} (hst : (rd s.sap port).st = .locked)
    (hg : r.target = true → r.goodFrame fs s.per.baseRate = true) (hj : s.saJustAfter r t = false) :
    s.saEnd port r words fs t = s.setSap port { r.measured (rd s.sap port) fs with
      rx := (rd s.sap port).rx ++ [((words.take r.frameSlots).map (saRx r.wordBits), t)] } := by
  have hgo : ¬ (r.target && !r.goodFrame fs s.per.baseRate) = true := by
    rw [Bool.and_eq_true]
    exact fun h => absurd (hg h.1) (by simpa using h.2)
  rw [State.saEnd_locked hst, if_neg hgo, State.saTake_waits _ _ hj]
  rfl

/-- The frame at which a port becomes LOCKED. -/
theorem State.saEnd_locks {words : List DWord} {fs : FsMeas} {t : Nat} (hst : (rd s.sap port).st = .acquire)
    (hg : r.target = true → r.goodFrame fs s.per.baseRate = true ∧ 15 ≤ (rd s.sap port).good) :
    s.saEnd port r words fs t =
      (s.saTake port r (r.measured (rd s.sap port) fs) ((words.take r.frameSlots).map (saRx r.wordBits)) t).saLock port := by
  rw [State.saEnd_acquire hst]
  cases hr : r.target with
  | false => rfl
  | true =>
    obtain ⟨hgood, hn⟩ := hg hr
    rw [hgood]
    exact if_pos hn

theorem State.saLock_spec (hp : port < 8) : (rd (s.saLock port).sap port).st = .locked ∧ (s.saLock port).hasCond 0x0A02 0xB0 port = false := by
  refine ⟨?_, State.hasCond_endCond_self _ _ _ _⟩
  unfold State.saLock
  rw [State.endCond_sap, State.setSap_self hp]

theorem State.saEnd_counts {words : List DWord} {fs : FsMeas} {t : Nat} (hst : (rd s.sap port).st = .acquire) (hr : r.target = true)
    (hg : r.goodFrame fs s.per.baseRate = true) (hn : (rd s.sap port).good < 15) :
    s.saEnd port r words fs t = s.setSap port { r.measured (rd s.sap port) fs with good := (rd s.sap port).good + 1 } := by
  rw [State.saEnd_acquire hst, if_neg (by simp [hr]), if_neg (by simp [hg]), if_neg (by omega)]

theorem State.saEnd_bad {words : List DWord} {fs : FsMeas} {t : Nat} (hst : (rd s.sap port).st = .acquire) (hr : r.target = true)
    (hg : r.goodFrame fs s.per.baseRate = false) :
    s.saEnd port r words fs t = s.setSap port { r.measured (rd s.sap port) fs with good := 0 } := by
  rw [State.saEnd_acquire hst, if_neg (by simp [hr]), if_pos (by simp [hg])]

theorem State.saEnd_loses {words : List DWord} {fs : FsMeas} {t : Nat} (hst : (rd s.sap port).st = .locked) (hr : r.target = true)
    (hg : r.goodFrame fs s.per.baseRate = false) :
    s.saEnd port r words fs t = (s.setSap port (r.measured (rd s.sap port) fs)).saLoss port r := by
  rw [State.saEnd_locked hst, if_pos (by simp [hr, hg])]

/-- A port that loses lock counts it and reports LOSS (04 R143). -/
theorem State.saLoss_spec (hp : port < 8) (r : SaRec) : ∃ y, (rd (s.saLoss port r).sap port) = y ∧ y.st = .acquire ∧
    y.loss = satAdd 16 (rd s.sap port).loss 1 ∧ y.dout = [] ∧ s.raised (s.saLoss port r) 0x0A02 0xB0 port port ∧
    ∀ j, j ≠ port → rd (s.saLoss port r).sap j = rd s.sap j := by
  unfold State.saLoss
  dsimp only
  refine ⟨_, rfl, ?_⟩
  rw [State.raise_sap, State.saWrite_sap, State.setSap_self hp]
  refine ⟨rfl, rfl, rfl, State.raised_raise (by rw [State.saWrite_flt]; rfl) _ _ _ _, fun j hj => ?_⟩
  rw [State.setSap_other hj]

theorem SaRec.goodFrame_clocks {fs : FsMeas} (h : fs.bclk ≠ 32 * r.frameSlots) (rate : Nat) : r.goodFrame fs rate = false := by
  unfold SaRec.goodFrame
  rw [beq_false_of_ne h]
  rfl

end

/-- Settles O48: the branch of the frame's start or end that the port's state selects. -/
theorem serialFrames : Obligations.SerialFrames := by
  unfold Obligations.SerialFrames
  intro s port r x words fs tm hp hrec hx ht hlate
  subst hx
  have hmax : (s.at_ tm).saRec port = some r := hrec
  have hjust : (s.at_ tm).saJustAfter r tm = false := State.saJustAfter_late (s := s.at_ tm) hlate
  refine ⟨fun hst hre he hmute htarget hrange hslots hbits => ?_, fun hst hg => ?_, fun hst htarget => ?_,
    fun hst htarget hg => ?_, fun hst htarget hg => ?_, fun hst htarget hclk => ?_, fun hst htarget => ?_⟩
  case _ =>
    have hrun := (State.saFrame_start (s := s.at_ tm) (words := words) (fs := fs) (t := tm) hmax (by rw [State.at_sap, hst]; decide)).trans
      (State.saStart_locked htarget hjust hst hre he)
    have hread : (s.at_ tm).saRead r = (List.range r.chOut).map (fun i => s.slot (r.outSlot + i)) := State.saRead_open hmute
    have hclips : ((s.at_ tm).saRead r).filter (fun v => decide (saClamp v ≠ v.toInt)) = [] := by
      rw [hread, List.filter_eq_nil_iff]
      intro v hv
      obtain ⟨i, hi, rfl⟩ := List.mem_map.mp hv
      obtain ⟨hlo, hhi⟩ := hrange i (List.mem_range.mp hi)
      simp [saClamp_self hlo hhi]
    have htx : ((s.at_ tm).saRead r).map (saTx r.wordBits) = (List.range r.chOut).map (fun i => s.slot (r.outSlot + i) <<< 7) := by
      rw [hread, hbits, List.map_map]
      refine List.map_congr_left fun i hi => ?_
      obtain ⟨hlo, hhi⟩ := hrange i (List.mem_range.mp hi)
      exact saTx_word hlo hhi
    have hlen : ((s.at_ tm).saRead r).length = r.chOut := by rw [hread, List.length_map, List.length_range]
    rw [hclips, htx, hlen] at hrun
    refine ⟨_, congrArg Host.Outcome.next hrun, ?_, ?_, ?_, fun j hj => State.setSap_other hj _⟩
    all_goals rw [State.setSap_self hp]
    all_goals rfl
  case _ =>
    have hrun := (State.saFrame_end (s := s.at_ tm) (words := words) (fs := fs) (t := tm) hmax (by rw [State.at_sap, hst]; decide)).trans
      (State.saEnd_kept hst hg hjust)
    refine ⟨_, congrArg Host.Outcome.next hrun, ?_, ?_, fun j hj => State.setSap_other hj _⟩
    all_goals rw [State.setSap_self hp]
    · rfl
    · exact hst
  case _ =>
    have hrun := (State.saFrame_end (s := s.at_ tm) (words := words) (fs := fs) (t := tm) hmax (by rw [State.at_sap, hst]; decide)).trans
      (State.saEnd_locks hst (fun h => absurd (htarget.symm.trans h) (by decide)))
    obtain ⟨hlocked, hcond⟩ := State.saLock_spec (s := (s.at_ tm).saTake port r (r.measured (rd s.sap port) fs)
      ((words.take r.frameSlots).map (saRx r.wordBits)) tm) hp
    exact ⟨_, congrArg Host.Outcome.next hrun, hlocked, hcond⟩
  case _ =>
    by_cases hn : 15 ≤ (rd s.sap port).good
    · have hrun := (State.saFrame_end (s := s.at_ tm) (words := words) (fs := fs) (t := tm) hmax (by rw [State.at_sap, hst]; decide)).trans
        (State.saEnd_locks hst (fun _ => ⟨hg, hn⟩))
      obtain ⟨hlocked, -⟩ := State.saLock_spec (s := (s.at_ tm).saTake port r (r.measured (rd s.sap port) fs)
        ((words.take r.frameSlots).map (saRx r.wordBits)) tm) hp
      exact ⟨_, congrArg Host.Outcome.next hrun, by rw [if_pos hn]; exact hlocked, fun h => absurd h (Nat.not_lt.mpr hn)⟩
    · have hrun := (State.saFrame_end (s := s.at_ tm) (words := words) (fs := fs) (t := tm) hmax (by rw [State.at_sap, hst]; decide)).trans
        (State.saEnd_counts hst htarget hg (Nat.not_le.mp hn))
      refine ⟨_, congrArg Host.Outcome.next hrun, ?_, fun _ => ?_⟩
      all_goals rw [State.setSap_self hp]
      · rw [if_neg hn]
        exact hst
      · rfl
  case _ =>
    have hrun := (State.saFrame_end (s := s.at_ tm) (words := words) (fs := fs) (t := tm) hmax (by rw [State.at_sap, hst]; decide)).trans
      (State.saEnd_bad hst htarget hg)
    refine ⟨_, congrArg Host.Outcome.next hrun, ?_, ?_⟩
    all_goals rw [State.setSap_self hp]
    exact hst
  case _ =>
    have hrun := (State.saFrame_end (s := s.at_ tm) (words := words) (fs := fs) (t := tm) hmax (by rw [State.at_sap, hst]; decide)).trans
      (State.saEnd_loses hst htarget (SaRec.goodFrame_clocks hclk _))
    obtain ⟨y, hy, hst', hloss, -, hraised, -⟩ := State.saLoss_spec
      (s := (s.at_ tm).setSap port (r.measured (rd (s.at_ tm).sap port) fs)) hp r
    refine ⟨_, congrArg Host.Outcome.next hrun, by rw [hy]; exact hst', ?_, hraised⟩
    rw [hy, hloss, State.setSap_self hp]
    rfl
  case _ =>
    have hrun : s.saTimeout port = s.saLoss port r := by
      unfold State.saTimeout
      rw [hrec]
      exact if_pos (by simp [htarget, hst])
    obtain ⟨y, hy, hst', hloss, hdout, hraised, hothers⟩ := State.saLoss_spec (s := s) hp r
    exact ⟨_, congrArg Host.Outcome.next hrun, by rw [hy]; exact hst', by rw [hy]; exact hloss, by rw [hy]; exact hdout, hraised, hothers⟩

end Sys2Proof.Machine
end

section
/-!
SUPPORT. The temperature and supply monitors (14 R412 to R414, 20 R589, R592): settles O39.
-/
namespace Sys2Proof.Machine

/-! Tj is the highest reading (20 R592). -/

/-- One step of the search for the highest of the readings `f`. -/
def higher (f : Nat → Int) (b : Nat × Int) (i : Nat) : Nat × Int := if b.2 < f i then (i, f i) else b

theorem higher_fold (f : Nat → Int) (n : Nat) :
    (∀ i, i < n + 1 → f i ≤ ((List.range (n + 1)).foldl (higher f) (0, f 0)).2) ∧
      ∃ i, i < n + 1 ∧ ((List.range (n + 1)).foldl (higher f) (0, f 0)).2 = f i := by
  induction n with
  | zero =>
    have h0 : (List.range 1).foldl (higher f) (0, f 0) = (0, f 0) := if_neg (Int.lt_irrefl _)
    rw [h0]
    exact ⟨fun i hi => by rw [Nat.lt_one_iff.mp hi], 0, Nat.one_pos, rfl⟩
  | succ n ih =>
    obtain ⟨hle, k, hk, heq⟩ := ih
    rw [List.range_succ, List.foldl_append, List.foldl_cons, List.foldl_nil]
    generalize (List.range (n + 1)).foldl (higher f) (0, f 0) = b at hle heq ⊢
    unfold higher
    split
    · next hlt =>
      refine ⟨fun i hi => ?_, n + 1, by omega, rfl⟩
      rcases Nat.lt_succ_iff_lt_or_eq.mp hi with h | h
      · exact (hle i h).trans (Int.le_of_lt hlt)
      · rw [h]
    · next hge =>
      refine ⟨fun i hi => ?_, k, by omega, heq⟩
      rcases Nat.lt_succ_iff_lt_or_eq.mp hi with h | h
      · exact hle i h
      · rw [h]
        exact Int.not_lt.mp hge

theorem rd_get {α : Type} [Inhabited α] {n : Nat} (v : Vector α n) (i : Fin n) : rd v i.val = v.get i := by
  unfold rd
  rw [Vector.getElem?_eq_getElem i.isLt]
  rfl

/-- Tj is at or above the reading of each sensor, and is that of one. -/
theorem Mon.tj_spec (m : Mon) : (∀ i : Fin 16, m.temps.get i ≤ m.tj.2) ∧ ∃ i : Fin 16, m.tj.2 = m.temps.get i := by
  obtain ⟨hle, k, hk, heq⟩ := higher_fold (rd m.temps) 15
  exact ⟨fun i => rd_get m.temps i ▸ hle i.val i.isLt, ⟨k, hk⟩, heq.trans (rd_get m.temps ⟨k, hk⟩)⟩

theorem Mon.le_tj (m : Mon) (x : Int) : x ≤ m.tj.2 ↔ ∃ i : Fin 16, x ≤ m.temps.get i := by
  obtain ⟨hle, k, heq⟩ := m.tj_spec
  exact ⟨fun h => ⟨k, heq ▸ h⟩, fun ⟨i, h⟩ => h.trans (hle i)⟩

theorem Mon.tj_le (m : Mon) (x : Int) : m.tj.2 ≤ x ↔ ∀ i : Fin 16, m.temps.get i ≤ x := by
  obtain ⟨hle, k, heq⟩ := m.tj_spec
  exact ⟨fun h i => (hle i).trans h, fun h => heq ▸ h k⟩

theorem all_get {n : Nat} {v : Vector Int n} {p : Int → Bool} (h : ∀ i : Fin n, p (v.get i) = true) : v.toList.all p = true := by
  rw [List.all_eq_true]
  intro x hx
  obtain ⟨i, hi, rfl⟩ := Vector.getElem_of_mem (Vector.mem_toList_iff.mp hx)
  exact h ⟨i, hi⟩

/-! One detector (14 R413). -/

theorem TempMon.step_absent {x : TempMon} (h : x.on = false) (hit good : Bool) (now : Nat) :
    (x.step hit good now).1.on = hit ∧ (x.step hit good now).2.1 = hit := by
  unfold TempMon.step
  rw [h]
  cases hit with
  | true => exact ⟨rfl, rfl⟩
  | false => exact ⟨h, rfl⟩

theorem TempMon.step_good {x : TempMon} (h : x.on = true) (hit : Bool) (now : Nat) :
    x.step hit true now = if x.okSince.getD now + 10000000000 ≤ now then (⟨false, none⟩, false, true)
      else (⟨true, some (x.okSince.getD now)⟩, false, false) := (if_pos h).trans (if_pos rfl)

theorem ite_on (p : Prop) [Decidable p] (t : Option Nat) :
    (if p then ((⟨false, none⟩, false, true) : TempMon × Bool × Bool) else (⟨true, t⟩, false, false)).1.on = decide ¬p := by
  by_cases h : p <;> simp [h]

theorem TempMon.step_ending {x : TempMon} {u : Nat} (h : x = ⟨true, some u⟩) (hit : Bool) (now : Nat) :
    (x.step hit true now).1.on = decide (now < u + 10000000000) := by
  obtain ⟨hon, hok⟩ : x.on = true ∧ x.okSince.getD now = u := by rw [h]; exact ⟨rfl, rfl⟩
  rw [TempMon.step_good hon, ite_on, hok]
  simp only [Nat.not_le]

/-! What the fault controller gets of a detector's answer (14 R412). -/

section
variable (s : State) (code : Nat) (r : TempMon × Bool × Bool)

theorem State.tempResult_mon : (s.tempResult code r).mon = s.mon := by
  unfold State.tempResult
  dsimp only
  split <;> split <;> rfl

theorem State.tempResult_eps : (s.tempResult code r).flt.eps = s.flt.eps := by
  unfold State.tempResult
  dsimp only
  split <;> split <;> rfl

theorem State.tempResult_ports : (s.tempResult code r).ports = s.ports := by
  unfold State.tempResult
  dsimp only
  split <;> split <;> rfl

theorem State.tempResult_tw : (s.tempResult code r).tw = s.tw := by
  unfold State.tempResult
  dsimp only
  split <;> split <;> rfl

theorem State.hasCond_raise_self (z e d : Nat) : (s.raise code z e d).hasCond code z e = true :=
  (mem_iff _ _).mpr (State.raised_raise (u := s) rfl code z e d).2

theorem State.hasCond_raise_of {c z e : Nat} (h : s.hasCond c z e = true) (c' z' e' d : Nat) :
    (s.raise c' z' e' d).hasCond c z e = true := (mem_iff _ _).mpr (mem_addNew_of_mem _ ((mem_iff _ _).mp h))

theorem State.hasCond_endCond_other {c z e : Nat} (h : s.hasCond c z e = true) {c' : Nat} (hc : c ≠ c') (z' e' : Nat) :
    (s.endCond c' z' e').hasCond c z e = true := by
  refine (mem_iff _ _).mpr (List.mem_filter.mpr ⟨(mem_iff _ _).mp h, ?_⟩)
  simp [hc]

theorem State.hasCond_tempResult_of {c z e : Nat} (h : s.hasCond c z e = true) (hc : c ≠ code) :
    (s.tempResult code r).hasCond c z e = true := by
  unfold State.tempResult
  dsimp only
  split
  · refine State.hasCond_endCond_other _ ?_ hc _ _
    split
    · exact State.hasCond_raise_of _ h _ _ _ _
    · exact h
  · split
    · exact State.hasCond_raise_of _ h _ _ _ _
    · exact h

end

/-- A detector that fires does not end its condition. -/
theorem TempMon.step_fired {x : TempMon} {hit good : Bool} {now : Nat} (h : (x.step hit good now).2.1 = true) :
    (x.step hit good now).2.2 = false := by
  revert h
  unfold TempMon.step
  dsimp only
  split
  · split
    · split
      · exact fun h => absurd h (by decide)
      · exact fun _ => rfl
    · exact fun _ => rfl
  · split <;> exact fun _ => rfl

theorem TempMon.fired {x : TempMon} {hit good : Bool} {now : Nat} (h : x.on = false) (ht : (x.step hit good now).1.on = true) :
    (x.step hit good now).2.1 = true := by
  obtain ⟨hon, hfire⟩ := TempMon.step_absent h hit good now
  exact hfire.trans (hon.symm.trans ht)

theorem State.tempResult_fired (s : State) (code : Nat) {r : TempMon × Bool × Bool} (h : r.2.1 = true) (h' : r.2.2 = false) :
    (s.tempResult code r).hasCond code 0x00 0xFFFF = true := by
  unfold State.tempResult
  dsimp only
  rw [h, h', if_pos rfl, if_neg (by decide)]
  exact State.hasCond_raise_self s code _ _ _

/-! The 16 sensors (14 R413). -/

/-- The answers of TJ_WARN, TJ_CRIT and TJ_LOW to the readings of `m`. -/
def Mon.warnStep (m : Mon) (now : Nat) : TempMon × Bool × Bool :=
  m.warn.step (decide ((if Config.gradeX then 1050 else 950) ≤ m.tj.2))
    (m.temps.toList.all (fun x => decide (x ≤ if Config.gradeX then 1000 else 900))) now

def Mon.critStep (m : Mon) (now : Nat) : TempMon × Bool × Bool :=
  m.crit.step (decide ((if Config.gradeX then 1200 else 1100) ≤ m.tj.2))
    (m.temps.toList.all (fun x => decide (x ≤ if Config.gradeX then 1100 else 1000))) now

def Mon.lowStep (m : Mon) (now : Nat) : TempMon × Bool × Bool :=
  m.low.step (decide (m.tj.2 ≤ if Config.gradeX then -450 else -50))
    (m.temps.toList.all (fun x => decide ((if Config.gradeX then -400 else 0) ≤ x))) now

/-- The monitors after the sensors have been read. -/
def Mon.sensed (m : Mon) (now : Nat) : Mon :=
  { m with warn := (m.warnStep now).1, crit := (m.critStep now).1, low := (m.lowStep now).1 }

/-- The state with the monitors `m`. -/
def State.withMon (s : State) (m : Mon) : State := { s with mon := m }

theorem State.readTemps_eq {s : State} {v : Vector Int 16} {m : Mon} (hm : m = { s.mon with temps := v }) : s.readTemps v =
    (((s.withMon (m.sensed s.now)).tempResult 0x0105 (m.warnStep s.now)).tempResult 0x0106 (m.critStep s.now)).tempResult 0x0107
      (m.lowStep s.now) := by
  subst hm
  unfold State.readTemps Mon.sensed Mon.warnStep Mon.critStep Mon.lowStep tjLimits
  cases Config.gradeX <;> rfl

/-! The supplies (14 R412, R414). -/

theorem RailMon.step_unwatched (x : RailMon) (inside : Bool) (v now : Nat) :
    x.step false inside v now = (⟨v, none, none, x.on⟩, false, false) := if_pos rfl

theorem RailMon.step_outside {x : RailMon} (h : x.on = false) (v now : Nat) :
    x.step true false v now = if x.outSince.getD now + 10000 ≤ now then (⟨v, some (x.outSince.getD now), none, true⟩, true, false)
      else (⟨v, some (x.outSince.getD now), none, false⟩, false, false) := by
  unfold RailMon.step
  rw [h]
  simp

/-- The limits of the rails other than VDD_TILE (20 R589). -/
theorem State.railLimits_fixed (s : State) {i : Nat} (hi : i ≤ 11) (h7 : i ≠ 7) :
    s.railLimits i = [(7275, 7725), (31350, 34650), (17100, 18900), (17100, 18900), (17100, 18900), (7275, 7725), (7760, 8240),
      (0, 0), (8245, 8755), (11640, 12360), (10100, 11200), (4700, 5700)].getD i (0, 0) :=
  match i, hi, h7 with
  | 0, _, _ => rfl
  | 1, _, _ => rfl
  | 2, _, _ => rfl
  | 3, _, _ => rfl
  | 4, _, _ => rfl
  | 5, _, _ => rfl
  | 6, _, _ => rfl
  | 7, _, h => absurd rfl h
  | 8, _, _ => rfl
  | 9, _, _ => rfl
  | 10, _, _ => rfl
  | 11, _, _ => rfl

/-- A reading is within its limits. -/
def State.railInside (s : State) (i v : Nat) : Bool := decide ((s.railLimits i).1 ≤ v) && decide (v ≤ (s.railLimits i).2)

theorem State.railInside_of_out {s : State} {i v lo hi : Nat} (hl : s.railLimits i = (lo, hi)) (h : v < lo ∨ hi < v) :
    s.railInside i v = false := by
  unfold State.railInside
  rw [hl]
  rcases h with h | h
  · rw [decide_eq_false (Nat.not_le.mpr h)]
    rfl
  · rw [decide_eq_false (p := v ≤ hi) (Nat.not_le.mpr h), Bool.and_false]

/-- The state with a supply monitor replaced. -/
def State.withRail (s : State) (i : Nat) (x : RailMon) : State := s.withMon { s.mon with rails := wr s.mon.rails i x }

/-- A reading that begins or ends no condition only moves its monitor. -/
theorem State.readRail_silent {s : State} {i v : Nat} {x : RailMon} (hi : i ≤ 11)
    (hr : (rd s.mon.rails i).step (s.railWatched i) (s.railInside i v) v s.now = (x, false, false)) : s.readRail i v = s.withRail i x := by
  unfold State.railInside at hr
  unfold State.readRail
  rw [if_neg (by omega)]
  dsimp only
  rw [hr]
  rfl

/-- A reading at which SUPPLY begins. -/
theorem State.readRail_fires {s : State} {i v : Nat} {x : RailMon} (hi : i ≤ 11)
    (hr : (rd s.mon.rails i).step (s.railWatched i) (s.railInside i v) v s.now = (x, true, false)) :
    s.readRail i v = (s.withRail i x).raise 0x0104 0x00 i (packBits [(8, i), (32, v / 10)]) := by
  unfold State.railInside at hr
  unfold State.readRail
  rw [if_neg (by omega)]
  dsimp only
  rw [hr]
  rfl

/-! CONDITION_CLEARED while no episode waits for the end of a condition. -/

theorem State.clears_idle {s : State} (h : ∀ i, (s.ep i).conds = []) : (List.range 16).foldl State.clearEp s = s :=
  foldl_idle _ fun i _ => State.clearEp_idle (h i)

theorem State.conditionCleared_temps (s : State) (v : Vector Int 16) :
    s.conditionCleared (some (.temps v)) = (List.range 16).foldl State.clearEp (s.readTemps v) := by
  unfold State.conditionCleared State.clearEp
  rfl

theorem State.conditionCleared_rail (s : State) (i v : Nat) :
    s.conditionCleared (some (.rail i v)) = (List.range 16).foldl State.clearEp (s.readRail i v) := by
  unfold State.conditionCleared State.clearEp
  rfl

/-- The row leaves what the reading leaves. -/
theorem State.exec_conditionCleared {s w u : State} {ext : DetIn} {tm : Nat} (hc : s.portsCalm) (hidle : ∀ i, (s.ep i).conds = [])
    (hrun : (s.at_ tm).conditionCleared (some ext) = (List.range 16).foldl State.clearEp w) (hw : w = u) (he : u.flt.eps = s.flt.eps)
    (hp : u.ports = s.ports) (ht : u.tw = s.tw) : exec (.conditionCleared (some ext) tm) s = .next u := by
  have hui : ∀ i, (u.ep i).conds = [] := fun i => by
    unfold State.ep
    rw [he]
    exact hidle i
  rw [hw, State.clears_idle hui] at hrun
  exact congrArg Host.Outcome.next ((congrArg State.serve hrun).trans (State.serve_eq_self (hc.congr hp ht)))

/-- Settles O39: each detector's step on the readings, and the highest reading as a bound of all. -/
theorem monitors : Obligations.Monitors := by
  unfold Obligations.Monitors
  intro s tm now hc hnow hidle
  refine ⟨fun v => ?_, fun i v x lo hi hi11 hx hon hw hout hlim => ?_, fun i v hi hw => ?_⟩
  · obtain ⟨m, hm⟩ : ∃ m : Mon, m = { s.mon with temps := v } := ⟨_, rfl⟩
    obtain ⟨u, hu⟩ : ∃ u, u = (s.at_ tm).readTemps v := ⟨_, rfl⟩
    have hread := hu.trans (State.readTemps_eq (s := s.at_ tm) hm)
    have hn : (s.at_ tm).now = now := hnow.symm
    rw [hn] at hread
    have hmon : u.mon = m.sensed now := by
      rw [hread, State.tempResult_mon, State.tempResult_mon, State.tempResult_mon]
      rfl
    have heps : u.flt.eps = s.flt.eps := by
      rw [hread, State.tempResult_eps, State.tempResult_eps, State.tempResult_eps]
      rfl
    have hports : u.ports = s.ports := by
      rw [hread, State.tempResult_ports, State.tempResult_ports, State.tempResult_ports]
      rfl
    have htw : u.tw = s.tw := by
      rw [hread, State.tempResult_tw, State.tempResult_tw, State.tempResult_tw]
      rfl
    have hwarn : u.mon.warn = (m.warnStep now).1 := congrArg Mon.warn hmon
    have hcrit : u.mon.crit = (m.critStep now).1 := congrArg Mon.crit hmon
    have hlow : u.mon.low = (m.lowStep now).1 := congrArg Mon.low hmon
    have hmw : m.warn = s.mon.warn := by rw [hm]
    have hmc : m.crit = s.mon.crit := by rw [hm]
    have hml : m.low = s.mon.low := by rw [hm]
    have hmt : m.temps = v := by rw [hm]
    refine ⟨u, State.exec_conditionCleared hc hidle (State.conditionCleared_temps _ v) hu.symm heps hports htw,
      by rw [hmon]; exact hmt, by rw [hmon, Mon.sensed, hm], heps, fun h => ?_, fun h => ?_, fun h => ?_, fun w h hall => ?_,
      fun w h hall => ?_, fun w h hall => ?_, fun h ht => ?_, fun h ht => ?_, fun h ht => ?_⟩
    · rw [hwarn, Mon.warnStep, (TempMon.step_absent (x := m.warn) (by rw [hmw]; exact h) _ _ _).1, decide_eq_true_eq, Mon.le_tj, hmt]
    · rw [hcrit, Mon.critStep, (TempMon.step_absent (x := m.crit) (by rw [hmc]; exact h) _ _ _).1, decide_eq_true_eq, Mon.le_tj, hmt]
    · rw [hlow, Mon.lowStep, (TempMon.step_absent (x := m.low) (by rw [hml]; exact h) _ _ _).1, decide_eq_true_eq, Mon.tj_le, hmt]
    · rw [hwarn, Mon.warnStep, hmt, all_get fun i => decide_eq_true (hall i)]
      exact TempMon.step_ending (hmw.trans h) _ _
    · rw [hcrit, Mon.critStep, hmt, all_get fun i => decide_eq_true (hall i)]
      exact TempMon.step_ending (hmc.trans h) _ _
    · rw [hlow, Mon.lowStep, hmt, all_get fun i => decide_eq_true (hall i)]
      exact TempMon.step_ending (hml.trans h) _ _
    · have hfire : (m.warnStep now).2.1 = true := TempMon.fired (x := m.warn) (by rw [hmw]; exact h) (by rw [hwarn] at ht; exact ht)
      rw [hread]
      exact State.hasCond_tempResult_of _ _ _ (State.hasCond_tempResult_of _ _ _
        (State.tempResult_fired _ _ hfire (TempMon.step_fired hfire)) (by decide)) (by decide)
    · have hfire : (m.critStep now).2.1 = true := TempMon.fired (x := m.crit) (by rw [hmc]; exact h) (by rw [hcrit] at ht; exact ht)
      rw [hread]
      exact State.hasCond_tempResult_of _ _ _ (State.tempResult_fired _ _ hfire (TempMon.step_fired hfire)) (by decide)
    · have hfire : (m.lowStep now).2.1 = true := TempMon.fired (x := m.low) (by rw [hml]; exact h) (by rw [hlow] at ht; exact ht)
      rw [hread]
      exact State.tempResult_fired _ _ hfire (TempMon.step_fired hfire)
  · have hn : (s.at_ tm).now = now := hnow.symm
    have hlimits : (s.at_ tm).railLimits i = (lo, hi) := by
      by_cases h7 : i = 7
      · rw [if_pos h7] at hlim
        subst h7
        have hdef : (s.at_ tm).railLimits 7 =
            if s.avs.st = .off then (5500, 8500) else (5500 + 50 * s.avs.ack - 200, 5500 + 50 * s.avs.ack + 200) := rfl
        rw [hdef]
        split at hlim
        · next h => rw [if_pos h, hlim.1, hlim.2]
        · next h => rw [if_neg h, hlim.1, hlim.2]
      · rw [if_neg h7] at hlim
        rw [State.railLimits_fixed _ hi11 h7, hlim]
    have hw' : (s.at_ tm).railWatched i = true := hw
    have hx' : rd (s.at_ tm).mon.rails i = x := hx
    have hstep : (rd (s.at_ tm).mon.rails i).step ((s.at_ tm).railWatched i) ((s.at_ tm).railInside i v) v (s.at_ tm).now =
        if x.outSince.getD now + 10000 ≤ now then (⟨v, some (x.outSince.getD now), none, true⟩, true, false)
        else (⟨v, some (x.outSince.getD now), none, false⟩, false, false) := by
      rw [hx', hw', State.railInside_of_out hlimits hout, hn, RailMon.step_outside hon]
    have hi12 : i < 12 := by omega
    by_cases hdue : x.outSince.getD now + 10000 ≤ now
    · rw [if_pos hdue] at hstep
      have hrun := State.readRail_fires hi11 hstep
      refine ⟨_, State.exec_conditionCleared hc hidle (State.conditionCleared_rail _ i v) hrun rfl rfl rfl, rfl, ?_⟩
      have hself := rd_wr_same s.mon.rails i ⟨v, some (x.outSince.getD now), none, true⟩ hi12
      cases hs : x.outSince with
      | none =>
        rw [hs, Option.getD_none] at hdue
        omega
      | some u =>
        rw [hs, Option.getD_some] at hdue
        dsimp only
        rw [if_pos hdue]
        exact ⟨congrArg RailMon.on (hs ▸ hself), State.raised_raise rfl _ _ _ _⟩
    · rw [if_neg hdue] at hstep
      have hrun := State.readRail_silent hi11 hstep
      refine ⟨_, State.exec_conditionCleared hc hidle (State.conditionCleared_rail _ i v) hrun rfl rfl rfl, rfl, ?_⟩
      have hself := rd_wr_same s.mon.rails i ⟨v, some (x.outSince.getD now), none, false⟩ hi12
      cases hs : x.outSince with
      | none => exact ⟨congrArg RailMon.on (hs ▸ hself), congrArg RailMon.outSince (hs ▸ hself), rfl⟩
      | some u =>
        rw [hs, Option.getD_some] at hdue
        dsimp only
        rw [if_neg hdue]
        exact ⟨congrArg RailMon.on (hs ▸ hself), rfl⟩
  · have hw' : (s.at_ tm).railWatched i = false := hw
    have hstep : (rd (s.at_ tm).mon.rails i).step ((s.at_ tm).railWatched i) ((s.at_ tm).railInside i v) v (s.at_ tm).now =
        (⟨v, none, none, (rd s.mon.rails i).on⟩, false, false) := by
      rw [hw']
      exact RailMon.step_unwatched _ _ _ _
    have hrun := State.readRail_silent hi hstep
    refine ⟨_, State.exec_conditionCleared hc hidle (State.conditionCleared_rail _ i v) hrun rfl rfl rfl, rfl, rfl, ?_⟩
    exact (congrArg RailMon.on (rd_wr_same s.mon.rails i ⟨v, none, none, (rd s.mon.rails i).on⟩ (by omega))).trans rfl

end Sys2Proof.Machine
end

section
/-!
SUPPORT. The AVS loop (02 R52 to R60): settles O51.
-/
namespace Sys2Proof.Machine

/-! Requests (02 R56, R57). -/

theorem Avs.request_same {a : Avs} (h : a.req = a.vmax) : a.request a.vmax = a := if_pos h.symm

theorem Avs.request_new {a : Avs} {step : Nat} (h : step ≠ a.req) :
    a.request step = { a with req := step, attempts := 0, waiting := true, retryDue := false } := if_neg h

/-- The state with the AVS loop replaced. -/
def State.withAvs (s : State) (a : Avs) : State := { s with avs := a }

section
variable {s : State}

/-! EN and HOLD (02 R57). -/

theorem State.avsEnable_off (hst : s.avs.st = .off) (hreq : s.avs.req ≠ s.avs.vmax) :
    s.avsEnable = s.withAvs { s.avs with en := true, st := .hold, expired := false, req := s.avs.vmax, attempts := 0, waiting := true,
                                         retryDue := false, holdUntil := none, holdWindows := some 16, holdFrom := s.per.boundaries } := by
  refine (if_pos hst).trans (congrArg s.withAvs ?_)
  unfold Avs.toHold
  rw [Avs.request_new (by exact hreq.symm)]
  unfold Avs.holdWin
  simp

theorem State.avsEnable_on (hst : s.avs.st ≠ .off) : s.avsEnable = s.withAvs { s.avs with en := true } := if_neg hst

theorem State.avsDisable_held (hst : s.avs.st = .hold ∨ s.avs.st = .track) (hreq : s.avs.req = s.avs.vmax) :
    s.avsDisable = s.withAvs { s.avs with en := false, st := .off } := by
  have hsame := Avs.request_same (a := { s.avs with en := false }) hreq
  unfold State.avsDisable
  dsimp only at hsame ⊢
  split
  · rw [hsame]
    rfl
  · rw [hsame]
    rfl
  · next h1 h2 => rcases hst with h | h <;> contradiction

theorem State.avsDisable_off (hst : s.avs.st = .off ∨ s.avs.st = .failed) : s.avsDisable = s.withAvs { s.avs with en := false } := by
  unfold State.avsDisable
  dsimp only
  split
  · next h => rcases hst with h' | h' <;> cases h'.symm.trans h
  · next h => rcases hst with h' | h' <;> cases h'.symm.trans h
  · rfl

theorem State.avsHold_track (hst : s.avs.st = .track) (hreq : s.avs.req = s.avs.vmax) : s.avsHold =
    s.withAvs { s.avs with hold := true, st := .hold, expired := true, holdUntil := none, holdWindows := none } := by
  refine (if_pos hst).trans (congrArg s.withAvs ?_)
  unfold Avs.toHold
  rw [Avs.request_same (a := { s.avs with hold := true }) hreq]

theorem State.avsUnhold_expired (hst : s.avs.st = .hold) (he : s.avs.expired = true) :
    s.avsUnhold = s.withAvs { s.avs with hold := false, st := .track, lowRun := 0, expired := false } :=
  if_pos (by simp [hst, he])

theorem State.avsUnhold_running (he : s.avs.expired = false) : s.avsUnhold = s.withAvs { s.avs with hold := false } :=
  if_neg (by simp [he])

/-! Limits and the hold timer (02 R57, R60). -/

theorem State.avsCtrl_in {target vmin vmax : Nat} (h1 : 50 ≤ target) (h2 : target ≤ 85) (h3 : vmin ≤ vmax) (h4 : vmax ≤ 60) :
    s.avsCtrl target vmin vmax = s.withAvs { s.avs with target := target, vmin := vmin, vmax := vmax } :=
  if_neg (by simp; omega)

theorem State.avsCtrl_out {target vmin vmax : Nat} (h : target < 50 ∨ 85 < target ∨ vmax < vmin ∨ 60 < vmax) :
    s.avsCtrl target vmin vmax = s.withAvs { s.avs with cfgErr := true } :=
  if_pos (by simp; omega)

theorem State.avsHoldExpiry_due (hst : s.avs.st = .hold) (hh : s.avs.hold = false) (he : s.avs.expired = false)
    (ht : s.avs.holdUntil.getD 0 ≤ s.now) (hw : s.avs.holdWindows.getD 0 = 0) : s.avsHoldExpiry =
      s.withAvs { s.avs with st := .track, lowRun := 0, holdUntil := none, holdWindows := none } :=
  (if_pos (by simp [hst, he, Avs.elapsed, ht, hw])).trans (if_neg (by simp [hh]))

theorem State.avsHoldExpiry_early (ht : s.now < s.avs.holdUntil.getD 0) : s.avsHoldExpiry = s :=
  if_neg (by simp [Avs.elapsed, Nat.not_le.mpr ht])

/-! Confirmation and failure (02 R56, R57). -/

theorem State.avsConfirm_running (hst : s.avs.st ≠ .failed) :
    s.avsConfirm = s.withAvs { s.avs with ack := s.avs.req, attempts := 0, waiting := false, retryDue := false } := by
  unfold State.avsConfirm
  dsimp only
  split
  · next h => exact absurd h hst
  · rfl

theorem State.avsRead_within {mv : Nat} (hw : s.avs.waiting = true ∨ s.avs.st = .failed) (h1 : mv ≤ 560 + 5 * s.avs.req)
    (h2 : 540 + 5 * s.avs.req ≤ mv) : s.avsRead (some mv) = s.avsConfirm := by
  have h3 : mv ≤ 550 + 5 * s.avs.req + 10 := by omega
  have h4 : 550 + 5 * s.avs.req ≤ mv + 10 := by omega
  exact if_pos (by simpa [h3, h4] using hw)

theorem State.avsRead_beyond {mv : Nat} (h : 560 + 5 * s.avs.req < mv ∨ mv < 540 + 5 * s.avs.req) : s.avsRead (some mv) = s := by
  refine if_neg ?_
  simp
  omega

theorem State.avsRead_none (hw : s.avs.waiting = true) : s.avsRead none = s.avsFail := if_pos (by simp [hw])

theorem State.avsTimeout_waiting (hw : s.avs.waiting = true) : s.avsTimeout = s.avsFail := if_pos hw

/-- A confirmed VMAX_STEP ends the failure. -/
theorem State.avsConfirm_failed (hst : s.avs.st = .failed) (hen : s.avs.en = true) (hreq : s.avs.req = s.avs.vmax) :
    ∃ a : Avs, s.avsConfirm = (s.withAvs a).endCond 0x0103 0x00 0 ∧ a.st = .hold ∧ a.ack = s.avs.vmax ∧
      a.holdUntil = some (s.now + 1000000000) := by
  obtain ⟨b, hb⟩ : ∃ b : Avs, b = { s.avs with ack := s.avs.req, attempts := 0, waiting := false, holdUntil := none, holdWindows := none } :=
    ⟨_, rfl⟩
  have hsame : b.request b.vmax = b := Avs.request_same (by rw [hb]; exact hreq)
  refine ⟨b.toHold.holdNs (s.now + 1000000000), ?_, ?_, ?_, ?_⟩
  · unfold State.avsConfirm
    dsimp only
    split
    · rw [if_pos hreq, if_pos hen, hb]
      rfl
    · next h => exact absurd hst h
  · rfl
  · show (b.request b.vmax).ack = s.avs.vmax
    rw [hsame, hb]
    exact hreq
  · show some (max (s.now + 1000000000) ((b.request b.vmax).holdUntil.getD 0)) = _
    rw [hsame, hb]
    simp

theorem State.avsFail_again (hst : s.avs.st ≠ .failed) (ha : s.avs.attempts < 2) :
    s.avsFail = s.withAvs { s.avs with attempts := s.avs.attempts + 1, retryDue := true } := by
  unfold State.avsFail
  dsimp only
  split
  · next h => exact absurd h hst
  · exact if_pos (by omega)

/-- The AVS loop after a third failed attempt. -/
def Avs.failing (a : Avs) : Avs := { a with attempts := 3, st := .failed, failedSeen := true, waiting := false, retryDue := false }

theorem State.avsFail_third (hst : s.avs.st ≠ .failed) (ha : s.avs.attempts = 2) :
    s.avsFail = ((s.withAvs s.avs.failing).raise 0x0103 0x00 0 (packBits [(8, s.avs.req), (8, s.avs.ack), (8, 3)])).event 11 := by
  unfold State.avsFail
  dsimp only
  split
  · next h => exact absurd h hst
  · exact if_neg (by omega)

end

/-- Settles O51: each row's branch at the state of the loop. -/
theorem avsLoop : Obligations.AvsLoop := by
  unfold Obligations.AvsLoop
  intro s tm a ha
  subst ha
  refine ⟨fun hst hreq => ?_, fun hst => ?_, fun hst hreq => ?_, fun hst => ?_, fun hst hreq => ?_, fun hst he => ?_, fun hst he => ?_,
    fun target vmin vmax h1 h2 h3 h4 => ?_, fun target vmin vmax h => ?_, fun f target vmin vmax hf hl => ?_, fun hst hh he ht hw => ?_,
    fun hst ht => ?_, fun mv hst hw h1 h2 => ?_, fun mv h => ?_, fun mv hst hen hreq hmv => ?_, fun hw hst hn => ?_, fun hw hst hn => ?_,
    fun hw hst hn => ?_, fun h => ?_, fun h => ?_, fun h => ?_, fun h => ?_⟩
  case _ => exact congrArg Host.Outcome.next (State.avsEnable_off (s := s.at_ tm) hst hreq)
  case _ => exact congrArg Host.Outcome.next (State.avsEnable_on (s := s.at_ tm) hst)
  case _ => exact congrArg Host.Outcome.next (State.avsDisable_held (s := s.at_ tm) hst hreq)
  case _ => exact congrArg Host.Outcome.next (State.avsDisable_off (s := s.at_ tm) hst)
  case _ => exact congrArg Host.Outcome.next (State.avsHold_track (s := s.at_ tm) hst hreq)
  case _ => exact congrArg Host.Outcome.next (State.avsUnhold_expired (s := s.at_ tm) hst he)
  case _ => exact congrArg Host.Outcome.next (State.avsUnhold_running (s := s.at_ tm) he)
  case _ => exact congrArg Host.Outcome.next (State.avsCtrl_in (s := s.at_ tm) h1 h2 h3 h4)
  case _ => exact congrArg Host.Outcome.next (State.avsCtrl_out (s := s.at_ tm) h)
  case _ =>
    have hrun : (s.at_ tm).byReq (some f) (fun s => s.rwl (some f) .hlt (fun s => s.avsCtrl target vmin vmax)) =
        (s.at_ tm).violate f .hlt := (if_pos hf).trans (State.rwl_locked (s := s.at_ tm) hl)
    exact ⟨_, congrArg Host.Outcome.next hrun, rfl, (State.violate_spec (s.at_ tm) f .hlt).2⟩
  case _ => exact congrArg Host.Outcome.next (State.avsHoldExpiry_due (s := s.at_ tm) hst hh he ht hw)
  case _ => exact congrArg Host.Outcome.next (State.avsHoldExpiry_early (s := s.at_ tm) ht)
  case _ =>
    exact congrArg Host.Outcome.next ((State.avsRead_within (s := s.at_ tm) (Or.inl hw) h1 h2).trans (State.avsConfirm_running hst))
  case _ => exact congrArg Host.Outcome.next (State.avsRead_beyond (s := s.at_ tm) h)
  case _ =>
    obtain ⟨b, hb, hst', hack, huntil⟩ := State.avsConfirm_failed (s := s.at_ tm) hst hen hreq
    have hrun := (State.avsRead_within (s := s.at_ tm) (mv := mv) (Or.inr hst) (by rw [State.at_avs]; omega) (by rw [State.at_avs]; omega)).trans hb
    exact ⟨_, congrArg Host.Outcome.next hrun, hst', hack, huntil, State.hasCond_endCond_self _ _ _ _⟩
  case _ =>
    exact congrArg Host.Outcome.next ((State.avsTimeout_waiting (s := s.at_ tm) hw).trans (State.avsFail_again hst hn))
  case _ =>
    exact congrArg Host.Outcome.next ((State.avsRead_none (s := s.at_ tm) hw).trans (State.avsFail_again (s := s.at_ tm) hst hn))
  case _ =>
    have hrun := (State.avsTimeout_waiting (s := s.at_ tm) hw).trans (State.avsFail_third hst hn)
    refine ⟨_, congrArg Host.Outcome.next hrun, rfl, rfl, rfl, rfl, ?_⟩
    exact (State.raised_raise (u := (s.at_ tm).withAvs s.avs.failing) rfl 0x0103 0x00 0 _).congr rfl rfl
  case _ => exact congrArg Host.Outcome.next (if_pos h)
  case _ => exact congrArg Host.Outcome.next (if_neg (ne_true_of_eq_false h))
  case _ => exact congrArg Host.Outcome.next (if_pos h)
  case _ => exact congrArg Host.Outcome.next (if_neg h)

end Sys2Proof.Machine
end

section
/-!
SUPPORT. A tile in its period, events and the sums of a lane (05 R171 to R178, 07 R207 to R212): settles O50.
-/
namespace Sys2Proof.Machine

/-! Scatter (05 R150, R178). -/

theorem eccCheck_clean {t : Tile} (h : t.ecc = []) (m : TMem) (a freeIx : Nat) : eccCheck t m a freeIx = .clean := by
  unfold eccCheck
  rw [h]
  rfl

theorem eccMulti_clean {t : Tile} (h : t.ecc = []) (m : TMem) (a : Nat) : eccMulti t m a = false := by
  unfold eccMulti
  rw [h]
  rfl

/-- The word that a scatter entry names. -/
def Tile.scattered (t : Tile) (x : ScatterEntry) : DWord := t.word (if x.y then .y else .x) (BitVec.ofNat 14 x.addr)

theorem scatterWord_clean {t : Tile} (h : t.ecc = []) (freeIx : Nat) (x : ScatterEntry) :
    scatterWord freeIx t x = (t.scattered x, t, [], false) := by
  unfold scatterWord
  dsimp only
  rw [eccCheck_clean h, eccMulti_clean h]
  rfl

/-- Without bit errors scatter writes every entry's word in order. -/
theorem scatterAll_clean {t : Tile} (h : t.ecc = []) (freeIx : Nat) (l : List ScatterEntry) (e : Exch) (rs : List TRep) :
    scatterAll freeIx l t e rs = (t, l.foldl (fun e x => e.write x.slot (t.scattered x) false) e, rs, false) := by
  induction l generalizing e rs with
  | nil => rfl
  | cons x l ih =>
    unfold scatterAll
    rw [scatterWord_clean h]
    dsimp only
    rw [if_neg (by decide), ih, List.append_nil, List.foldl_cons]

section
variable (t : Tile)

/-- The exchange after the entries of a scatter table have been written. -/
def Tile.scatterInto (l : List ScatterEntry) (e : Exch) : Exch := l.foldl (fun e x => e.write x.slot (t.scattered x) false) e

theorem Tile.scatterInto_readHalf (l : List ScatterEntry) (e : Exch) : (t.scatterInto l e).readHalf = e.readHalf :=
  foldl_keeps (fun e (x : ScatterEntry) => Exch.write e x.slot (t.scattered x) false) Exch.readHalf (fun _ _ => rfl) l e

theorem Tile.scatterInto_other {l : List ScatterEntry} {o : Nat} (h : ∀ x ∈ l, x.slot ≠ o) (e : Exch) :
    lookup? (t.scatterInto l e).writeHalf o = lookup? e.writeHalf o := by
  unfold Tile.scatterInto
  induction l generalizing e with
  | nil => rfl
  | cons x l ih =>
    rw [List.foldl_cons, ih fun y hy => h y (List.mem_cons_of_mem x hy)]
    exact lookup?_insertKey_other _ _ (h x List.mem_cons_self).symm

theorem Tile.scatterInto_entry {l : List ScatterEntry} (hp : l.Pairwise (fun x y => x.slot ≠ y.slot)) {x : ScatterEntry} (hx : x ∈ l)
    (e : Exch) : lookup? (t.scatterInto l e).writeHalf x.slot = some (t.scattered x) := by
  induction l generalizing e with
  | nil => exact absurd hx List.not_mem_nil
  | cons y l ih =>
    obtain ⟨hy, hl⟩ := List.pairwise_cons.mp hp
    rcases List.mem_cons.mp hx with h | h
    · subst h
      exact (t.scatterInto_other (fun z hz => (hy z hz).symm) _).trans (lookup?_insertKey_self _ _ _)
    · exact ih hl h _

end

/-- A tile that has finished its scatter (05 R174, R175). -/
def Tile.scatterEnded (t : Tile) (tick rate : Nat) (p : TileProg) : Tile :=
  { t with run := if decide (tick < parkTicks rate) && p.bgPresent && !t.bgStopped then .bg else .parked
           scatterDone := true, slk := { t.slk with finishTick := some tick } }

theorem Tile.scatterEnded_fg (t : Tile) (tick rate : Nat) (p : TileProg) : (t.scatterEnded tick rate p).fg = t.fg := by
  unfold Tile.scatterEnded
  dsimp only
theorem Tile.scatterEnded_bg (t : Tile) (tick rate : Nat) (p : TileProg) : (t.scatterEnded tick rate p).bg = t.bg := by
  unfold Tile.scatterEnded
  dsimp only

section
variable {s : State} {k : Nat}

theorem State.putTileStep_tile_self (hk : k < 68) (t' : Tile) (reps : List TRep) : (s.putTileStep k t' reps).tile k = t' := by
  obtain ⟨l, n, h⟩ := s.putTileStep_eq k t' reps
  rw [h, State.tile_plusReports, State.tile_setTile_same _ _ _ hk]

theorem State.putTileStep_ex (t' : Tile) (reps : List TRep) : (s.putTileStep k t' reps).ex = s.ex := by
  obtain ⟨l, n, h⟩ := s.putTileStep_eq k t' reps
  rw [h]
  rfl

theorem State.scatterComplete_clean {w tick : Nat} {p : TileProg} (hr : (s.tile k).run = .drain) (hw : s.workOf k = some (w, p))
    (he : (s.tile k).ecc = []) : s.scatterComplete k tick =
      ({ s with ex := (s.tile k).scatterInto p.scatter s.ex } : State).putTileStep k
        ((s.tile k).scatterEnded tick s.per.baseRate p) [] := by
  unfold State.scatterComplete
  dsimp only
  rw [hw]
  split
  · next h =>
    cases h
    rw [scatterAll_clean he]
    rfl
  · next h => exact absurd rfl (h w p hr)

/-! Sample start, parking and cold starts (05 R173 to R177). -/

/-- A tile whose foreground starts at `entry`. -/
def Tile.fgStarted (t : Tile) (entry : TAddr) (tick : Nat) : Tile :=
  { t with run := .fg, gatherDone := true, fgCount := 0, fg := { t.fg with pc := entry, delay := none, rep := 0 }
           slk := { t.slk with startTick := some tick } }

theorem State.sstart_wait {w tick : Nat} {p : TileProg} (hr : (s.tile k).run = .wait) (hw : s.workOf k = some (w, p)) :
    s.sstart k tick = s.setTile k ((s.tile k).fgStarted p.entryFg tick) := by
  unfold State.sstart
  dsimp only
  rw [hw]
  split
  · next h =>
    cases h
    rfl
  · next h => exact absurd rfl (h w p hr)

theorem State.sstart_busy (tick : Nat) (hr : (s.tile k).run ≠ .wait) : s.sstart k tick = s := by
  unfold State.sstart
  dsimp only
  split
  · next h _ => exact absurd h hr
  · rfl

theorem TCtx.parkable_iff (c : TCtx) : c.parkable = true ↔ c.delay = none ∧ c.rep = 0 := by
  unfold TCtx.parkable
  rw [Bool.and_eq_true, Option.isNone_iff_eq_none, beq_iff_eq]

theorem State.parkTile_bg (hr : (s.tile k).run = .bg) :
    s.parkTile k = if (s.tile k).bg.parkable then s.setTile k (s.tile k).park else s.setTile k { s.tile k with parkPend := true } := by
  unfold State.parkTile
  dsimp only
  rw [hr]

theorem Tile.park_fg (t : Tile) : t.park.fg = t.fg := (t.applyStores_keeps t.bg.stores).2.2.1

theorem Tile.park_mem (t : Tile) (h : t.bg.stores = []) : t.park.x = t.x ∧ t.park.y = t.y := by
  unfold Tile.park Tile.settle Tile.ctx
  rw [if_pos rfl, h]
  exact ⟨rfl, rfl⟩

/-- Without INIT_ALWAYS words and gather entries a tile enters WAIT with its memories as they are (05 R175, R177). -/
theorem Tile.enterWait_bare {t : Tile} {p : TileProg} (hi : t.initDue = []) (hg : p.gather = []) (rh : Sparse 32) :
    (t.enterWait rh p).run = .wait ∧ (t.enterWait rh p).x = t.x ∧ (t.enterWait rh p).y = t.y ∧ (t.enterWait rh p).fg = t.fg := by
  unfold Tile.enterWait Tile.gather
  rw [hi, hg]
  exact ⟨rfl, rfl, rfl, rfl⟩

theorem State.coldEnd_done {w : Nat} {p : TileProg} (hr : (s.tile k).run = .cold) (h0 : (s.tile k).coldLeft = 0)
    (hw : s.workOf k = some (w, p)) : s.coldEnd k = s.setTile k ((s.tile k).enterWait s.ex.readHalf p) := by
  unfold State.coldEnd
  dsimp only
  rw [hw]
  split
  · next h =>
    cases h
    exact if_pos h0
  · next h => exact absurd rfl (h w p hr)

theorem State.coldEnd_early {n : Nat} (hn : (s.tile k).coldLeft = n + 1) : s.coldEnd k = s := by
  unfold State.coldEnd
  dsimp only
  split
  · exact if_neg (by omega)
  · rfl

/-! Events (05 R171). -/

theorem Tile.dueEvents_sat {t : Tile} {bg : Bool} (hr : bg = true ∨ (t.ctx bg).raised = 0) (hp : (t.ctx bg).evpend.getLsbD 2 = true)
    (hm : (t.ctx bg).evmask.getLsbD 2 = true) : (t.dueEvents bg).getLsbD 2 = true := by
  have hstays : (if !bg && decide (decodeOp (t.pLive.get (t.ctx bg).pc.toNat) = some .tend) then (t.ctx bg).raised else 0) = 0 := by
    rcases hr with h | h
    · rw [h]
      rfl
    · rw [h]
      exact ite_self _
  unfold Tile.dueEvents
  dsimp only
  rw [hstays]
  simp only [BitVec.getLsbD_and, hp, hm]
  decide

/-- A task's context at the entry of the handler of SAT. -/
def TCtx.inHandler (c : TCtx) : TCtx :=
  { c with stack := c.pc :: c.stack.take 7, sr := c.sr ||| 0x400#32, evpend := c.evpend &&& ~~~4#32, pc := c.evvec.setWidth 14 + 0 }

theorem Tile.takeEvent_sat {t : Tile} {env : TEnv} (hs : (t.ctx env.bg).stack.length < 8) (hd : (t.dueEvents env.bg).getLsbD 2 = true) :
    (t.takeEvent env).1 = if env.bg then t.setCtx true (t.ctx true).inHandler
      else { t.setCtx false (t.ctx false).inHandler with fgCount := t.fgCount + 2 } := by
  unfold Tile.takeEvent TRun.push
  dsimp only
  rw [if_pos hs, hd]
  cases env.bg <;> rfl

/-! Sums of a lane (07 R207, R211, R212). -/

theorem State.runSum_lanes (p : Plane) (r : SumRec) : (s.runSum p r).mtx.lanes = s.mtx.lanes := rfl
theorem State.runSum_ramps (p : Plane) (r : SumRec) : (s.runSum p r).mtx.ramps = s.mtx.ramps := rfl
theorem State.runSum_readHalf (p : Plane) (r : SumRec) : (s.runSum p r).ex.readHalf = s.ex.readHalf := rfl

/-- The state after a lane's sums. -/
def State.runSums (s : State) (p : Plane) (lane : Nat) : State := (p.laneSums lane).foldl (fun s r => s.runSum p r) s

theorem State.runSums_lanes (p : Plane) (lane : Nat) : (s.runSums p lane).mtx.lanes = s.mtx.lanes :=
  foldl_keeps (fun u r => State.runSum u p r) (fun u : State => u.mtx.lanes) (fun u r => u.runSum_lanes p r) _ s

theorem State.runSums_ramps (p : Plane) (lane : Nat) : (s.runSums p lane).mtx.ramps = s.mtx.ramps :=
  foldl_keeps (fun u r => State.runSum u p r) (fun u : State => u.mtx.ramps) (fun u r => u.runSum_ramps p r) _ s

theorem State.runSums_readHalf (p : Plane) (lane : Nat) : (s.runSums p lane).ex.readHalf = s.ex.readHalf :=
  foldl_keeps (fun u r => State.runSum u p r) (fun u : State => u.ex.readHalf) (fun u r => u.runSum_readHalf p r) _ s

/-- The state in which a lane has signalled completion. -/
def State.laneDone (s : State) (lane tick : Nat) (e : LateElem) : State :=
  { s with mtx := { s.mtx with lanes := wr s.mtx.lanes lane { e with done := true, tick := some tick } } }

theorem State.elemComplete_lane {p : Plane} {lane : Nat} (tick : Nat) (hl : lane < 48) (hp : s.pl.live = some p)
    (hd : (rd s.mtx.lanes lane).done = false) (hdl : s.per.deadlineDone = false) (hf : s.hlt.full = none) :
    s.elemComplete lane tick = (s.runSums p lane).laneDone lane tick (rd s.mtx.lanes lane) := by
  have hgo : ¬ ((rd s.mtx.lanes lane).done || s.per.deadlineDone || s.testing 1) = true := by
    unfold State.testing
    rw [hd, hdl, hf]
    decide
  refine (if_neg (by omega)).trans ((if_pos hl).trans ?_)
  unfold State.laneComplete
  rw [hp]
  exact if_neg hgo

/-- A PROGRAM sum that its limiter reduces (07 R211, R212). -/
theorem programStep_limits {r : SumRec} {x : SumSt} {v : Int}
    (h : r.thresh.toNat < x.prev.natAbs ∨ r.thresh.toNat < (clampS (32 + r.headroom) v).natAbs) :
    ∃ y, (programStep r x v).2 = y ∧ y.prev = clampS (32 + r.headroom) v ∧
      y.lg = min (r.thresh.toNat * 2 ^ 27 / max x.prev.natAbs y.prev.natAbs) (x.lg + (2 ^ 27 - x.lg + r.release - 1) / r.release) ∧
      (programStep r x v).1 = satBV 32 (x.prev * (y.lg : Int) / 2 ^ 27) := by
  have hpk : r.thresh.toNat < max x.prev.natAbs (clampS (32 + r.headroom) v).natAbs := by omega
  refine ⟨_, rfl, ?_⟩
  unfold programStep
  dsimp only
  rw [if_pos hpk]
  exact ⟨rfl, rfl, rfl⟩

theorem State.runSum_program {p : Plane} {r : SumRec} {x : SumSt} {acc : Int} {n : Nat} {xs : List (Nat × XptSt)} (ha : r.aux = false)
    (hx : lookup? s.mtx.sums r.sum = some x) (hi : sumInputs s p r = (acc, n, xs)) : s.runSum p r =
      ({ s with mtx := { s.mtx with xpts := xs, sums := insertKey s.mtx.sums r.sum { (programStep r x (asr acc 27)).2 with n := n } } } : State).putSlot
        r.out (programStep r x (asr acc 27)).1 := by
  unfold State.runSum
  rw [hi, hx, ha]
  rfl

end

/-- Settles O50: each row of a tile in its period by its equation, scatter by the distinctness of its slots. -/
theorem tilePeriod : Obligations.TilePeriod := by
  unfold Obligations.TilePeriod
  intro s k tick hk
  obtain ⟨v, hv⟩ : ∃ v, v = s.tickAt tick := ⟨_, rfl⟩
  have hvt : ∀ j, v.tile j = s.tile j := fun j => by rw [hv]; rfl
  have hvw : ∀ j, v.workOf j = s.workOf j := fun j => by rw [hv]; rfl
  have hvex : v.ex = s.ex := by rw [hv]; rfl
  have hvper : v.per = s.per := by rw [hv]; rfl
  have hvmtx : v.mtx = s.mtx := by rw [hv]; rfl
  have hvpl : v.pl = s.pl := by rw [hv]; rfl
  have hvhlt : v.hlt = s.hlt := by rw [hv]; rfl
  have hset : ∀ (u : State) (t : Tile) j, j ≠ k → (u.setTile k t).tile j = u.tile j := fun u t j hj =>
    State.tile_setTile_other u k j t hj.symm
  refine ⟨fun w p hr hw => ?_, fun hr => ?_, fun w p hr hw he hpw => ?_, fun hr hd hrep => ?_, fun hr hbusy => ?_,
    fun w p hr h0 hw hi hg => ?_, fun n hr hn => ?_, fun bg c htask hc hdue hst hra hp hm => ?_, fun bg htask hdue => ?_,
    fun lane p hp hl hd hdl hf => ?_, fun lane p r x acc n xs hp hl hd hdl hf hsum ha hx hi hth => ?_, fun lane hp hl => ?_⟩
  case _ =>
    have hrun := State.sstart_wait (s := v) (tick := tick) (by rw [hvt]; exact hr) ((hvw k).trans hw)
    have hself : (v.setTile k ((s.tile k).fgStarted p.entryFg tick)).tile k = (s.tile k).fgStarted p.entryFg tick :=
      State.tile_setTile_same _ _ _ hk
    rw [hvt, hv] at hrun
    rw [hv] at hself
    refine ⟨_, congrArg Host.Outcome.next hrun, ?_⟩
    rw [hself]
    exact ⟨rfl, rfl, rfl, rfl, rfl, rfl, rfl, rfl, rfl, rfl, rfl, rfl, rfl, fun j hj => hset _ _ j hj⟩
  case _ =>
    have hrun := State.sstart_busy (s := v) tick (by rw [hvt]; exact hr)
    rw [hv] at hrun
    exact congrArg Host.Outcome.next hrun
  case _ =>
    have hrun := State.scatterComplete_clean (s := v) (tick := tick) (by rw [hvt]; exact hr) ((hvw k).trans hw) (by rw [hvt]; exact he)
    obtain ⟨t, ht⟩ : ∃ t, t = v.scatterComplete k tick := ⟨_, rfl⟩
    rw [← ht] at hrun
    have hself : t.tile k = (s.tile k).scatterEnded tick s.per.baseRate p := by
      rw [hrun, State.putTileStep_tile_self hk, hvt, hvper]
    have hex : t.ex = (s.tile k).scatterInto p.scatter s.ex := by
      rw [hrun, State.putTileStep_ex, hvt, hvex]
    refine ⟨t, ?_, fun x hx => ?_, fun o ho => ?_, ?_, ?_, ?_, ?_, ?_, fun j hj => ?_⟩
    · rw [ht, hv]
      rfl
    · rw [hex]
      exact (s.tile k).scatterInto_entry hpw hx s.ex
    · rw [hex]
      exact (s.tile k).scatterInto_other ho s.ex
    · rw [hex]
      exact (s.tile k).scatterInto_readHalf p.scatter s.ex
    · rw [hself]
      simp [Tile.scatterEnded, and_assoc]
    · rw [hself]
      rfl
    · rw [hself, Tile.scatterEnded_fg]
    · rw [hself, Tile.scatterEnded_bg]
    · rw [hrun, State.putTileStep_tile_other _ _ _ hj]
      exact hvt j
  case _ =>
    have hrun := (State.parkTile_bg hr).trans (if_pos ((TCtx.parkable_iff _).mpr ⟨hd, hrep⟩))
    refine ⟨_, congrArg Host.Outcome.next hrun, ?_⟩
    rw [State.tile_setTile_same _ _ _ hk]
    exact ⟨rfl, rfl, (s.tile k).park_mem, (s.tile k).park_fg, fun j hj => hset s _ j hj⟩
  case _ =>
    have hnp : ¬ (s.tile k).bg.parkable = true := fun h => by
      obtain ⟨h1, h2⟩ := (TCtx.parkable_iff _).mp h
      rcases hbusy with h | h
      · exact h h1
      · exact h h2
    have hrun := (State.parkTile_bg hr).trans (if_neg hnp)
    refine ⟨_, congrArg Host.Outcome.next hrun, ?_⟩
    rw [State.tile_setTile_same _ _ _ hk]
    exact ⟨hr, rfl, rfl, fun j hj => hset s _ j hj⟩
  case _ =>
    obtain ⟨hwait, hx, hy, hfg⟩ := Tile.enterWait_bare (t := s.tile k) hi hg s.ex.readHalf
    refine ⟨_, congrArg Host.Outcome.next (State.coldEnd_done hr h0 hw), ?_⟩
    rw [State.tile_setTile_same _ _ _ hk]
    exact ⟨hwait, hx, hy, hfg, fun j hj => hset s _ j hj⟩
  case _ => exact congrArg Host.Outcome.next (State.coldEnd_early hn)
  case _ =>
    subst hc
    have hsat := Tile.dueEvents_sat (t := s.tile k) hra hp hm
    have htake := Tile.takeEvent_sat (t := s.tile k) (env := s.tileEnv k bg) hst hsat
    have hrun : s.tileEvent k = s.putTileStep k ((s.tile k).takeEvent (s.tileEnv k bg)).1 ((s.tile k).takeEvent (s.tileEnv k bg)).2 := by
      unfold State.tileEvent
      rw [htask]
      exact if_pos hdue
    obtain ⟨t, ht⟩ : ∃ t, t = s.tileEvent k := ⟨_, rfl⟩
    have hself : t.tile k = ((s.tile k).takeEvent (s.tileEnv k bg)).1 := by
      rw [ht, hrun, State.putTileStep_tile_self hk]
    have hctx : t.ctx k bg = (s.ctx k bg).inHandler := by
      unfold State.ctx
      rw [hself, htake]
      cases bg <;> rfl
    have htake7 : (s.ctx k bg).stack.take 7 = (s.ctx k bg).stack := List.take_of_length_le (by omega)
    refine ⟨t, by rw [ht]; rfl, ?_⟩
    rw [hctx]
    refine ⟨BitVec.add_zero _, congrArg ((s.ctx k bg).pc :: ·) htake7, ?_, ?_, ?_, rfl, rfl, fun hb => ?_⟩
    · exact (BitVec.getLsbD_and ..).trans (Bool.and_false _)
    · exact (BitVec.getLsbD_and ..).trans (Bool.and_true _)
    · exact (BitVec.getLsbD_or ..).trans (Bool.or_true _)
    · subst hb
      rw [hself, htake]
      rfl
  case _ =>
    have hrun : s.tileEvent k = s := by
      unfold State.tileEvent
      rw [htask]
      exact if_neg (ne_true_of_eq_false hdue)
    exact congrArg Host.Outcome.next hrun
  case _ =>
    have hrun := State.elemComplete_lane (s := v) tick hl (by rw [hvpl]; exact hp) (by rw [hvmtx]; exact hd) (by rw [hvper]; exact hdl)
      (by rw [hvhlt]; exact hf)
    obtain ⟨u, hu⟩ : ∃ u, u = v.runSums p lane := ⟨_, rfl⟩
    have hlanes : u.mtx.lanes = s.mtx.lanes := by rw [hu, State.runSums_lanes, hvmtx]
    have hramps : u.mtx.ramps = s.mtx.ramps := by rw [hu, State.runSums_ramps, hvmtx]
    have hread : u.ex.readHalf = s.ex.readHalf := by rw [hu, State.runSums_readHalf, hvex]
    rw [← hu, hv] at hrun
    refine ⟨_, congrArg Host.Outcome.next hrun, ?_, ?_, fun j hj _ => ?_, hread, hramps⟩
    · exact congrArg LateElem.done (rd_wr_same u.mtx.lanes lane _ hl)
    · exact congrArg LateElem.tick (rd_wr_same u.mtx.lanes lane _ hl)
    · rw [← hlanes]
      exact rd_wr_other u.mtx.lanes lane j _ hj.symm
  case _ =>
    have hrun := State.elemComplete_lane (s := v) tick hl (by rw [hvpl]; exact hp) (by rw [hvmtx]; exact hd) (by rw [hvper]; exact hdl)
      (by rw [hvhlt]; exact hf)
    have hone : v.runSums p lane = v.runSum p r := by
      unfold State.runSums
      rw [hsum]
      rfl
    have hprog := State.runSum_program (s := v) ha (by rw [hvmtx]; exact hx) (hv ▸ hi)
    obtain ⟨y, hy, hprev, hlg, hval⟩ := programStep_limits (r := r) (x := x) (v := asr acc 27) hth
    rw [hy, hval] at hprog
    rw [hone, hprog, hv] at hrun
    refine ⟨_, { y with n := n }, congrArg Host.Outcome.next hrun, ?_, hprev, ?_, ?_⟩
    · exact lookup?_insertKey_self _ _ _
    · exact hlg
    · exact lookup?_insertKey_self _ _ _
  case _ =>
    have hidle : ∀ u : State, u.pl.live = none → u.elemComplete lane tick = u := fun u hu => by
      unfold State.elemComplete State.routeComplete State.laneComplete
      rw [hu]
      simp
    exact congrArg Host.Outcome.next (hidle (s.tickAt tick) hp)

end Sys2Proof.Machine
end

section
/-!
SUPPORT. The firmware commands (17 R515 to R532): settles O52.
-/
namespace Sys2Proof.Machine

/-! Fields of an image that stands within another. -/

theorem slice_getElem? (l : List Byte) {o n i : Nat} (h : i < n) : (slice l o n)[i]? = some (l.getD (o + i) 0) := by
  unfold slice
  dsimp only
  rw [List.getElem?_append]
  by_cases hi : i < ((l.drop o).take n).length
  · rw [if_pos hi, List.getElem?_take_of_lt h, List.getElem?_drop]
    rw [List.length_take, List.length_drop] at hi
    rw [List.getD_eq_getElem?_getD, List.getElem?_eq_getElem (by omega)]
    rfl
  · rw [if_neg hi]
    rw [List.length_take, List.length_drop] at hi
    rw [List.length_take, List.length_drop, List.getD_eq_default _ _ (by omega), List.getElem?_replicate, if_pos (by omega)]

theorem slice_slice (l : List Byte) {m o n : Nat} (h : o + n ≤ m) : slice (slice l 0 m) o n = slice l o n := by
  refine List.ext_getElem? fun i => ?_
  by_cases hi : i < n
  · rw [slice_getElem? _ hi, slice_getElem? _ hi, List.getD_eq_getElem?_getD, slice_getElem? _ (by omega), Nat.zero_add]
    rfl
  · rw [List.getElem?_eq_none (by rw [slice_length]; omega), List.getElem?_eq_none (by rw [slice_length]; omega)]

theorem slice_all {l : List Byte} {n : Nat} (h : l.length = n) : slice l 0 n = l := by
  rw [slice_eq_take (by omega), List.drop_zero, List.take_of_length_le (by omega)]

/-- An image and the bytes of another that hold it. -/
structure Within (x y : List Byte) : Prop where
  head : ∀ o n, o + n ≤ 512 → slice y o n = slice x o n
  body : slice y 512 (fwSize x - 512) = slice x 512 (fwSize x - 512)
  long : 512 ≤ y.length
  all : fwSize x ≤ y.length

theorem Within.size {x y : List Byte} (h : Within x y) : fwSize y = fwSize x := congrArg leNat (h.head _ _ (by decide))

theorem Within.format {x y : List Byte} (h : Within x y) (hx : fwFormatOk x = true) : fwFormatOk y = true := by
  have hs := h.head
  unfold fwFormatOk at *
  rw [h.size]
  unfold fwSection fwSvn fld zeros at *
  rw [h.size]
  simp only [Bool.and_eq_true, decide_eq_true_eq] at hx ⊢
  simp (disch := decide) only [hs]
  simp only [hx, h.long, h.all, and_self]

theorem Within.authentic {x y : List Byte} (h : Within x y) (revoked : Nat) : fwAuthentic revoked y = fwAuthentic revoked x := by
  unfold fwAuthentic fwKey fld
  rw [h.size, h.body]
  simp (disch := decide) only [h.head]

theorem fwFormatOk_size {x : List Byte} (h : fwFormatOk x = true) : 512 ≤ fwSize x ∧ fwSize x ≤ x.length := by
  unfold fwFormatOk within at h
  simp only [Bool.and_eq_true, decide_eq_true_eq] at h
  omega

theorem Boot.fwCheck_none {b : Boot} {x : List Byte} : b.fwCheck x = none ↔
    fwFormatOk x = true ∧ fwAuthentic b.revoked x = true ∧ b.otp ≤ fwSvn x := by
  unfold Boot.fwCheck
  cases fwFormatOk x <;> cases fwAuthentic b.revoked x <;> simp

theorem Boot.fwCheck_erase (b : Boot) (i n : Nat) (x : List Byte) : (b.erase i n).fwCheck x = b.fwCheck x := by
  unfold Boot.fwCheck Boot.erase
  rfl

/-- An acceptable image is acceptable without the bytes behind it. -/
theorem Boot.fwCheck_cut {b : Boot} {image : List Byte} {len : Nat} (h : b.fwCheck (slice image 0 len) = none) :
    b.fwCheck (slice image 0 (fwSize (slice image 0 len))) = none ∧ 512 ≤ fwSize (slice image 0 len) ∧
      fwSize (slice image 0 len) ≤ len := by
  obtain ⟨hf, ha, hv⟩ := Boot.fwCheck_none.mp h
  obtain ⟨h512, hlen⟩ := fwFormatOk_size hf
  rw [slice_length] at hlen
  have hw : Within (slice image 0 len) (slice image 0 (fwSize (slice image 0 len))) := by
    refine ⟨fun o n ho => ?_, ?_, ?_, ?_⟩
    · rw [slice_slice _ (by omega), slice_slice _ (by omega)]
    · rw [slice_slice _ (by omega), slice_slice _ (by omega)]
    · rw [slice_length]
      exact h512
    · rw [slice_length]
  have hsvn : fwSvn (slice image 0 (fwSize (slice image 0 len))) = fwSvn (slice image 0 len) := congrArg leNat (hw.head _ _ (by decide))
  exact ⟨Boot.fwCheck_none.mpr ⟨hw.format hf, by rw [hw.authentic]; exact ha, by rw [hsvn]; exact hv⟩, h512, hlen⟩

/-! Boot records (17 R505, R506). -/

theorem Boot.erase_recs (b : Boot) (i n : Nat) : (b.erase i n).recs = b.recs := rfl
theorem Boot.erase_slots (b : Boot) (i n : Nat) : (b.erase i n).slots = b.slots := rfl

theorem Boot.record_congr {b b' : Boot} (h : b'.recs = b.recs) : b'.record = b.record := by
  unfold Boot.record Boot.newestRec
  rw [h]

section
variable {b : Boot} {x y : BootRec}

theorem Boot.newest_both (h0 : rd b.recs 0 = some x) (h1 : rd b.recs 1 = some y) :
    b.newestRec = some (if x.seq < y.seq then 1 else 0) ∧ b.record = if x.seq < y.seq then y else x := by
  have hn : b.newestRec = some (if x.seq < y.seq then 1 else 0) := by
    unfold Boot.newestRec
    rw [h0, h1]
  refine ⟨hn, ?_⟩
  unfold Boot.record
  rw [hn, Option.bind_some]
  split
  · rw [h1]
    rfl
  · rw [h0]
    rfl

theorem Boot.newest_first (h0 : rd b.recs 0 = some x) (h1 : rd b.recs 1 = none) : b.newestRec = some 0 ∧ b.record = x := by
  have hn : b.newestRec = some 0 := by
    unfold Boot.newestRec
    rw [h0, h1]
  refine ⟨hn, ?_⟩
  unfold Boot.record
  rw [hn, Option.bind_some, h0]
  rfl

theorem Boot.newest_second (h0 : rd b.recs 0 = none) (h1 : rd b.recs 1 = some y) : b.newestRec = some 1 ∧ b.record = y := by
  have hn : b.newestRec = some 1 := by
    unfold Boot.newestRec
    rw [h0, h1]
  refine ⟨hn, ?_⟩
  unfold Boot.record
  rw [hn, Option.bind_some, h1]
  rfl

theorem Boot.newest_none (h0 : rd b.recs 0 = none) (h1 : rd b.recs 1 = none) : b.newestRec = none := by
  unfold Boot.newestRec
  rw [h0, h1]

theorem Boot.writeRec_recs {i : Nat} (r : BootRec) (h : (match b.newestRec with | some j => 1 - j | none => 0) = i) :
    (b.writeRec r).recs = wr b.recs i (some { r with seq := b.record.seq + 1 }) := by
  rw [← h]
  rfl

/-- The record written is the record in force, with the next sequence number. -/
theorem Boot.record_writeRec (b : Boot) (r : BootRec) : (b.writeRec r).record = { r with seq := b.record.seq + 1 } := by
  have hs : ∀ i z, i < 2 → rd (wr b.recs i (some z)) i = some z := fun i z hi => rd_wr_same _ _ _ hi
  have ho : ∀ i j z, i ≠ j → rd (wr b.recs i (some z)) j = rd b.recs j := fun i j z hij => rd_wr_other _ _ _ _ hij
  cases h0 : rd b.recs 0 with
  | none =>
    cases h1 : rd b.recs 1 with
    | none =>
      have hr := Boot.writeRec_recs (i := 0) r (by rw [Boot.newest_none h0 h1])
      exact (Boot.newest_first (by rw [hr, hs _ _ (by decide)]) (by rw [hr, ho _ _ _ (by decide)]; exact h1)).2
    | some y =>
      obtain ⟨hn, hrec⟩ := Boot.newest_second h0 h1
      have hr := Boot.writeRec_recs (i := 0) r (by rw [hn])
      rw [(Boot.newest_both (by rw [hr, hs _ _ (by decide)]) (by rw [hr, ho _ _ _ (by decide)]; exact h1)).2, hrec]
      exact if_neg (Nat.not_lt.mpr (Nat.le_succ _))
  | some x =>
    cases h1 : rd b.recs 1 with
    | none =>
      obtain ⟨hn, hrec⟩ := Boot.newest_first h0 h1
      have hr := Boot.writeRec_recs (i := 1) r (by rw [hn])
      rw [(Boot.newest_both (by rw [hr, ho _ _ _ (by decide)]; exact h0) (by rw [hr, hs _ _ (by decide)])).2, hrec]
      exact if_pos (Nat.lt_succ_self _)
    | some y =>
      obtain ⟨hn, hrec⟩ := Boot.newest_both h0 h1
      by_cases hlt : x.seq < y.seq
      · rw [if_pos hlt] at hn hrec
        have hr := Boot.writeRec_recs (i := 0) r (by rw [hn])
        rw [(Boot.newest_both (by rw [hr, hs _ _ (by decide)]) (by rw [hr, ho _ _ _ (by decide)]; exact h1)).2, hrec]
        exact if_neg (Nat.not_lt.mpr (Nat.le_succ _))
      · rw [if_neg hlt] at hn hrec
        have hr := Boot.writeRec_recs (i := 1) r (by rw [hn])
        rw [(Boot.newest_both (by rw [hr, ho _ _ _ (by decide)]; exact h0) (by rw [hr, hs _ _ (by decide)])).2, hrec]
        exact if_pos (Nat.lt_succ_self _)

end

/-! A command of the flash queue from its acceptance to its answer. -/

section
variable {s t u : State} {c : CmdInfo} {f : Flight} {i : Instr} {st : Status} {d : Nat} {res : List Byte}

theorem State.accepted.find (ha : s.accepted t c f) (hm : s.meets i c) : (t.port c.env.port).flight? f.handle = some f := by
  have hfresh : ∀ x ∈ (s.port c.env.port).flights, x.handle ≠ f.handle := by
    rw [ha.handle]
    exact hm.fresh
  have hold : (s.port c.env.port).flights.find? (fun x => x.handle == f.handle) = none :=
    List.find?_eq_none.mpr fun x hx heq => hfresh x hx (beq_iff_eq.mp heq)
  unfold PortS.flight?
  rw [ha.flights, List.find?_append, hold]
  simp

theorem State.accepted.filter (ha : s.accepted t c f) (hm : s.meets i c) :
    (t.port c.env.port).flights.filter (fun x => x.handle != f.handle) = (s.port c.env.port).flights := by
  have hfresh : ∀ x ∈ (s.port c.env.port).flights, x.handle ≠ f.handle := by
    rw [ha.handle]
    exact hm.fresh
  have hold : (s.port c.env.port).flights.filter (fun x => x.handle != f.handle) = (s.port c.env.port).flights :=
    List.filter_eq_self.mpr fun x hx => by simp [hfresh x hx]
  rw [ha.flights, List.filter_append, hold]
  simp

theorem State.accepted.ends (ha : s.accepted t c f) (hm : s.meets i c) (hw : t.pwr = s.pwr) (hi : t.portsIdle)
    (hact : (t.port c.env.port).st = .active) (hsize : (t.port c.env.port).cqSize c.env.port = (s.port c.env.port).cqSize c.env.port)
    (hlen : res.length ≤ 380) : t.canEnd c.env.port f (entriesOf res) := by
  refine ⟨hm.ring, by rw [hw]; exact hm.service, ha.find hm, hact, (hi _).2.2.2, ?_⟩
  have hr := congrArg List.length ha.ring
  rw [List.length_append, List.length_map, List.length_map] at hr
  have hone : [s.acceptOf c].length = 1 := rfl
  have hroom := hm.room
  rw [hr, hsize, hone]
  unfold entriesOf
  omega

theorem State.accepted.answered (ha : s.accepted t c f) (hm : s.meets i c) (hcmd : f.cmd = i) (hc : t.closed u c.env.port f st d res)
    (hv : (u.port c.env.port).avail = (t.port c.env.port).avail) : s.answered u c st d res := by
  have hop : opcodeOf f.cmd = c.opcode := by
    unfold opcodeOf
    rw [hcmd, hm.info]
    rfl
  refine ⟨⟨f, ha.tag, ha.handle, ?_⟩, hv.trans ha.avail, fun r => ?_⟩
  · rw [hc.ring, hop, ha.ring, List.append_assoc]
    rfl
  · by_cases hr : r = c.env.port
    · rw [hr, hc.flights, ha.filter hm]
    · rw [hc.other r hr, ha.other r hr]

end

/-! FW_STAGE (17 R516). -/

section
variable {s : State} {e : Env} {c : CmdInfo}

theorem State.flashDone_stage {v : State} {p : CPort} {f : Flight} {len n : Nat} {resume ok : Bool} {addr : Nat} {img : List Byte} {st : Status}
    {d : Nat} {res : List Byte} (hq : s.ports.flashQ = [(p, f.handle)]) (hon : s.ports.flashOn = some (p, f.handle))
    (hcp : s.pwr.cpRunning = true) (hf : (s.port p).flight? f.handle = some f) (hcmd : f.cmd = .fwStage e addr len resume img)
    (hfin : finFwStage len img ok n s = (.done st d res, v)) : s.flashDone ok n = v.flashEnds p f st d res := by
  unfold State.flashDone
  dsimp only
  rw [State.flashKick_on hq hon, hq]
  dsimp only
  rw [hf]
  dsimp only
  rw [hcp, if_neg (by decide), hcmd]
  dsimp only
  rw [hfin]
  rfl

/-- The state in which a new image is being staged. -/
def State.staging (s : State) (img : List Byte) : State :=
  { s with boot := ({ s.boot with stage := .incomplete (fwSize img) (fwId img) [] } : Boot).erase 6 2 }

/-- The state in which an image is staged. -/
def State.stagedImage (s : State) (img : List Byte) : State :=
  { s with boot := { s.boot.erase 8 ((fwSize img + 65535) / 65536) with stage := .staged img } }

theorem finFwStage_ok {image : List Byte} {len : Nat} (n : Nat)
    (hst : s.boot.stage = .incomplete (fwSize (slice image 0 len)) (fwId (slice image 0 len)) [])
    (hck : s.boot.fwCheck (slice image 0 len) = none) : finFwStage len image true n s =
      (.done .ok 0 (resBytes [(4, fld image 0x010 4), (1, fld image 0x00F 1), (2, (fwSize (slice image 0 len) + 65535) / 65536)]),
        s.stagedImage (slice image 0 (fwSize (slice image 0 len)))) := by
  obtain ⟨hcut, h512, hlen⟩ := Boot.fwCheck_cut hck
  generalize hsize : fwSize (slice image 0 len) = size at *
  have hfull : slice ([] ++ (slice image 0 (min size len)).drop ([] : List Byte).length) 0 size = slice image 0 size := by
    rw [List.nil_append, List.length_nil, List.drop_zero, Nat.min_eq_left hlen, slice_all (slice_length _ _ _)]
  have hzero : ([] : List Byte).length / 65536 = 0 := Nat.zero_div _
  have hver : fwVersion (slice image 0 size) = fld image 0x010 4 := congrArg leNat (slice_slice image (by omega))
  have hsvn : fwSvn (slice image 0 size) = fld image 0x00F 1 := congrArg leNat (slice_slice image (by omega))
  have hfs : fwSize (slice image 0 size) = size := by
    rw [← hsize]
    exact congrArg leNat ((slice_slice image (by omega)).trans (slice_slice image (by omega)).symm)
  unfold finFwStage
  dsimp only
  rw [hst]
  dsimp only
  rw [hsize, if_neg (by simp), if_neg (by decide), hfull, hzero, hver, hsvn]
  rw [Nat.add_zero, Nat.sub_zero, Boot.fwCheck_erase, hcut]
  unfold State.stagedImage
  rw [hfs]
  rfl

theorem State.fwStage_refused {addr len d : Nat} {image : List Byte} {st : Status} (hm : s.meets (.fwStage e addr len false image) c)
    (hp : e.port = .A ∨ e.port = .B) (h : s.boot.fwCheck (slice image 0 len) = some (st, d)) :
    s.answers (.fwStage e addr len false image) c st d [] s := by
  refine State.answers_of_run hm fun P f _ => ?_
  cases hm.info
  have hbuf : noBuf e.port = false := by rcases hp with hp | hp <;> rw [hp] <;> rfl
  show runFwStage (s.runCtx _ f) len false image { s with ports := P } = _
  unfold runFwStage
  dsimp only
  rw [show (s.runCtx _ f).port = e.port from rfl, hbuf, if_neg (by decide), if_neg (by simp), h]
  rfl

/-- A command whose flash operation ends in `w`, from its acceptance to its answer. -/
theorem State.flashes_to {i : Instr} {v w : State} {res : List Byte} (hm : s.meets i c) (hf : s.flashFree)
    (hex : exec i s = .next (s.hostCmd i)) (hv : v.tw = s.tw ∧ v.now = s.now ∧ v.pwr = s.pwr) (hw : w.tw = v.tw ∧ w.pwr = v.pwr)
    (hb : ∀ P : Ports, State.flashBegins { s with ports := P } i = { v with ports := P })
    (hrun : ∀ (P : Ports) (f : Flight), s.ports.running P c f → f.cmd = i →
      runCmd (s.runCtx c f) i { s with ports := P } = (.flash, { s with ports := P }))
    (hdone : ∀ (Q : Ports) (f : Flight), Q.flashQ = [(c.env.port, f.handle)] → Q.flashOn = some (c.env.port, f.handle) →
      (Q.get c.env.port).flight? f.handle = some f → f.cmd = i →
      State.flashDone { v with ports := Q } true 0 = State.flashEnds { w with ports := Q } c.env.port f .ok 0 res)
    (hlen : res.length ≤ 380) :
    ∃ P f P' h', exec i s = .next { v with ports := P } ∧ s.accepted { v with ports := P } c f ∧
      exec (.flashOperationDone true 0 s.now) { v with ports := P } = .next { w with ports := P', hlt := h' } ∧
      s.answered { w with ports := P', hlt := h' } c .ok 0 res := by
  obtain ⟨hvtw, hvnow, hvpwr⟩ := hv
  obtain ⟨hwtw, hwpwr⟩ := hw
  obtain ⟨Q, f, h1, h2, h3, -, h5, h6, hidle, hact, hsize, -, -⟩ := State.hostCmd_flash hm hf.1 v hvtw hb hrun
  have hends := h2.ends hm (hvpwr : ({ v with ports := Q } : State).pwr = s.pwr) hidle hact hsize hlen
  obtain ⟨P, k, hend, hcalm, hclosed, -, -, -, -, havail⟩ := State.flashEnds_spec (v := { w with ports := Q })
    (hidle.calm.same (Ports.Same.refl Q) hwtw) (hends.same (Ports.Same.refl Q) hwpwr) h5 .ok 0
  refine ⟨Q, f, P, k, hex.trans (congrArg Host.Outcome.next h1), h2, ?_,
    h2.answered hm h3 (hclosed.same (Ports.Same.refl Q) (Ports.Same.refl P)) havail⟩
  show Host.Outcome.next (State.serve ((State.at_ { v with ports := Q } s.now).flashDone true 0)) = _
  rw [← hvnow, show State.at_ { v with ports := Q } v.now = { v with ports := Q } from State.at_now { v with ports := Q },
    hdone Q f h5 h6 (h2.find hm) h3, hend, State.serve_calm _ hcalm]

/-- An acceptable image is staged from its acceptance to its answer. -/
theorem State.fwStage_stages {addr len : Nat} {image : List Byte} (hm : s.meets (.fwStage e addr len false image) c) (hf : s.flashFree)
    (hp : e.port = .A ∨ e.port = .B) (h : s.boot.fwCheck (slice image 0 len) = none) :
    ∃ P f P' h', exec (.fwStage e addr len false image) s = .next { s.staging (slice image 0 len) with ports := P } ∧
      s.accepted { s.staging (slice image 0 len) with ports := P } c f ∧
      exec (.flashOperationDone true 0 s.now) { s.staging (slice image 0 len) with ports := P } =
        .next { (s.staging (slice image 0 len)).stagedImage (slice image 0 (fwSize (slice image 0 len))) with ports := P', hlt := h' } ∧
      s.answered { (s.staging (slice image 0 len)).stagedImage (slice image 0 (fwSize (slice image 0 len))) with ports := P', hlt := h' } c .ok 0
        (resBytes [(4, fld image 0x010 4), (1, fld image 0x00F 1), (2, (fwSize (slice image 0 len) + 65535) / 65536)]) := by
  refine State.flashes_to hm hf rfl ⟨rfl, rfl, rfl⟩ ⟨rfl, rfl⟩ (fun _ => rfl) (fun P f _ _ => ?_) (fun Q f hq hon hfl hcmd => ?_)
    (by simp [resBytes, leBytes_length])
  case _ =>
    have hbuf : noBuf c.env.port = false := by
      cases hm.info
      rcases hp with hp | hp <;> rw [show (_ : CmdInfo).env.port = e.port from rfl, hp] <;> rfl
    show runFwStage (s.runCtx c f) len false image { s with ports := P } = _
    unfold runFwStage
    dsimp only
    rw [show (s.runCtx c f).port = c.env.port from rfl, hbuf, if_neg (by decide), if_neg (by simp), h]
  case _ =>
    have hfin := finFwStage_ok (s := { s.staging (slice image 0 len) with ports := Q }) 0 rfl h
    exact State.flashDone_stage hq hon hf.2 hfl hcmd hfin

/-! FW_STATUS (17 R530). -/

/-- The fields of a boot record from SEQ to ID_B. -/
def BootRec.fields (r : BootRec) : List Byte :=
  resBytes [(4, r.seq), (1, if r.slotB then 1 else 0), (1, r.st.code), (1, r.trialBoots), (1, if r.requireHost then 1 else 0), (2, r.windowS), (1, r.cause), (1, 0),
    (4, r.ver.1), (4, r.ver.2), (1, r.svn.1), (1, r.svn.2), (6, 0)] ++ slice r.id.1 0 16 ++ slice r.id.2 0 16

theorem BootRec.bytes_fields (r : BootRec) : slice r.bytes 4 60 = r.fields := by
  obtain ⟨tail, htail⟩ : ∃ tail, r.bytes = [0x46#8, 0x42#8, 0x52#8, 0x43#8] ++ (r.fields ++ tail) := by
    unfold BootRec.bytes BootRec.fields slotIx
    dsimp only
    rw [b2n_eq_ite, b2n_eq_ite]
    simp only [List.append_assoc, resBytes, List.flatMap_cons, List.flatMap_nil, List.append_nil]
    exact ⟨_, rfl⟩
  have hlen : r.fields.length = 60 := by
    simp [BootRec.fields, resBytes, leBytes_length, slice_length]
  rw [htail, slice_eq_take (by simp [hlen])]
  show (r.fields ++ tail).take 60 = _
  rw [List.take_append_of_le_length (by omega), List.take_of_length_le (by omega)]

theorem Boot.otpReg_eq (b : Boot) : b.otpReg = b.otp % 256 + b.revoked % 16 * 256 := by
  simp only [Boot.otpReg, packBits]
  omega

/-- VERSION and SVN of the staged image. -/
def Boot.stagedVersion (b : Boot) : Nat × Nat := match b.stage with | .staged img => (fwVersion img, fwSvn img) | _ => (0, 0)

theorem Boot.stagedVersion_staged {b : Boot} {img : List Byte} (h : b.stage = .staged img) :
    b.stagedVersion.1 = fld img 0x010 4 ∧ b.stagedVersion.2 = fld img 0x00F 1 := by
  unfold Boot.stagedVersion
  rw [h]
  exact ⟨rfl, rfl⟩

theorem Boot.stagedVersion_none {b : Boot} (h : ∀ img, b.stage ≠ .staged img) : b.stagedVersion.1 = 0 ∧ b.stagedVersion.2 = 0 := by
  unfold Boot.stagedVersion
  split
  · next img hs => exact absurd hs (h img)
  · exact ⟨rfl, rfl⟩

theorem State.fwStatus_answers (hm : s.meets (.fwStatus e) c) :
    s.answers (.fwStatus e) c .ok 0 (s.boot.record.fields ++ resBytes [(4, s.boot.status), (4, s.bootTrial),
      (4, s.boot.otp % 256 + s.boot.revoked % 16 * 256), (4, s.boot.stagedVersion.1), (1, s.boot.stagedVersion.2),
      (8, s.boot.flashBytes)]) s := by
  refine State.answers_of_run hm (fun P f _ => ?_) (by simp [BootRec.fields, resBytes, leBytes_length, slice_length])
  show runFwStatus (s.runCtx c f) { s with ports := P } = _
  unfold runFwStatus
  dsimp only
  rw [Boot.otpReg_eq, BootRec.bytes_fields]
  simp only [resBytes, List.flatMap_cons, List.flatMap_nil, List.append_nil, List.append_assoc]
  rfl

/-! FW_STAGE_DISCARD and FW_ACTIVATE (17 R518, R531). -/

theorem State.fwStageDiscard_flashes (hm : s.meets (.fwStageDiscard e) c) (hf : s.flashFree) :
    s.flashes (.fwStageDiscard e) c (resBytes [(1, 0)]) { s with boot := ({ s.boot with stage := .empty } : Boot).erase 6 2 } :=
  State.flashesVia_of_run hm hf (fun _ _ _ => rfl) fun _ => rfl

section
variable {w d : Nat} {rh : Bool} {st : Status} {img : List Byte}

theorem not_outOfWindow (h : w = 0 ∨ (60 ≤ w ∧ w ≤ 3600)) : ¬ (decide (w ≠ 0) && !within 60 3600 w) = true := by
  unfold within
  simp only [Bool.and_eq_true, Bool.not_eq_true', Bool.and_eq_false_iff, decide_eq_true_eq, decide_eq_false_iff_not]
  omega

section
variable {u : State} (k : Ctx) (h : w = 0 ∨ (60 ≤ w ∧ w ≤ 3600)) (hs : u.boot.stage = .staged img)
include h hs

theorem runFwActivate_trial (hr : u.boot.record.st = .trial) : runFwActivate k w u = (.fail .rejectedState 0x00F4, u) := by
  unfold runFwActivate
  rw [if_neg (not_outOfWindow h), hs]
  exact if_pos hr

theorem runFwActivate_refused (hr : u.boot.record.st ≠ .trial) (hc : u.boot.fwCheck img = some (st, d)) :
    runFwActivate k w u = (.fail st d, u) := by
  unfold runFwActivate
  rw [if_neg (not_outOfWindow h), hs]
  dsimp only
  rw [if_neg hr, hc]

theorem runFwActivate_copies (hr : u.boot.record.st ≠ .trial) (hc : u.boot.fwCheck img = none) : runFwActivate k w u = (.flash, u) := by
  unfold runFwActivate
  rw [if_neg (not_outOfWindow h), hs]
  dsimp only
  rw [if_neg hr, hc]

end

theorem State.fwActivate_empty (hm : s.meets (.fwActivate e w rh) c) (h : w = 0 ∨ (60 ≤ w ∧ w ≤ 3600)) (hs : s.boot.stage = .empty) :
    s.answers (.fwActivate e w rh) c .rejectedState 0x00F0 [] s := by
  refine State.answers_of_run hm fun P f _ => ?_
  show runFwActivate (s.runCtx c f) w { s with ports := P } = _
  unfold runFwActivate
  rw [if_neg (not_outOfWindow h), hs]
  rfl

theorem State.fwActivate_trial (hm : s.meets (.fwActivate e w rh) c) (h : w = 0 ∨ (60 ≤ w ∧ w ≤ 3600)) (hs : s.boot.stage = .staged img)
    (hr : s.boot.record.st = .trial) : s.answers (.fwActivate e w rh) c .rejectedState 0x00F4 [] s :=
  State.answers_of_run hm fun P f _ => runFwActivate_trial (u := { s with ports := P }) (s.runCtx c f) h hs hr

theorem State.fwActivate_refused (hm : s.meets (.fwActivate e w rh) c) (h : w = 0 ∨ (60 ≤ w ∧ w ≤ 3600)) (hs : s.boot.stage = .staged img)
    (hr : s.boot.record.st ≠ .trial) (hc : s.boot.fwCheck img = some (st, d)) : s.answers (.fwActivate e w rh) c st d [] s :=
  State.answers_of_run hm fun P f _ => runFwActivate_refused (u := { s with ports := P }) (s.runCtx c f) h hs hr hc

theorem State.copyBegins_same (hs : s.boot.stage = .staged img) (h : s.boot.sameImage img = true) : s.copyBegins = s := by
  unfold State.copyBegins
  rw [hs]
  exact if_pos h

/-- The boot state in which the slot that ACTIVE does not name is being written. -/
def Boot.copying (b : Boot) (img : List Byte) : Boot :=
  ({ b with slots := wr b.slots (slotIx (!b.record.slotB)) none } : Boot).erase (slotSector (!b.record.slotB)) ((fwSize img + 65535) / 65536)

theorem State.copyBegins_other (hs : s.boot.stage = .staged img) (h : s.boot.sameImage img = false) :
    s.copyBegins = { s with boot := s.boot.copying img } := by
  unfold State.copyBegins
  rw [hs]
  exact if_neg (by rw [h]; decide)

theorem slotIx_lt (b : Bool) : slotIx b < 2 := by cases b <;> decide
theorem slotIx_not_ne (b : Bool) : slotIx (!b) ≠ slotIx b := by cases b <;> decide

/-- The copy of an activation begins: what is kept, and the slot that it writes. -/
theorem State.copyBegins_spec (hs : s.boot.stage = .staged img) : ∃ b, (∀ P : Ports, State.copyBegins { s with ports := P } =
      { s with boot := b, ports := P }) ∧ b.stage = s.boot.stage ∧ b.recs = s.boot.recs ∧
    rd b.slots (slotIx s.boot.record.slotB) = rd s.boot.slots (slotIx s.boot.record.slotB) ∧
    (s.boot.sameImage img = true → b = s.boot) ∧
    (s.boot.sameImage img = false → rd b.slots (slotIx (!s.boot.record.slotB)) = none) := by
  cases h : s.boot.sameImage img with
  | true => exact ⟨s.boot, fun P => State.copyBegins_same (s := { s with ports := P }) hs h, rfl, rfl, rfl, fun _ => rfl, (nomatch ·)⟩
  | false => exact ⟨s.boot.copying img, fun P => State.copyBegins_other (s := { s with ports := P }) hs h, rfl, rfl,
      rd_wr_other _ _ _ _ (slotIx_not_ne _), (nomatch ·), fun _ => rd_wr_same _ _ _ (slotIx_lt _)⟩

theorem State.fwActivate_copies (hm : s.meets (.fwActivate e w rh) c) (hf : s.flashFree) (h : w = 0 ∨ (60 ≤ w ∧ w ≤ 3600))
    (hs : s.boot.stage = .staged img) (hr : s.boot.record.st ≠ .trial) (hc : s.boot.fwCheck img = none) :
    ∃ t f, exec (.fwActivate e w rh) s = .next t ∧ s.accepted t c f ∧ f.cmd = .fwActivate e w rh ∧
      t.ports.flashQ = [(c.env.port, f.handle)] ∧ t.boot.stage = s.boot.stage ∧ t.boot.recs = s.boot.recs ∧ t.pl = s.pl ∧
      rd t.boot.slots (slotIx s.boot.record.slotB) = rd s.boot.slots (slotIx s.boot.record.slotB) ∧
      (s.boot.sameImage img = true → t.as s) ∧
      (s.boot.sameImage img = false → rd t.boot.slots (slotIx (!s.boot.record.slotB)) = none) := by
  obtain ⟨b, hb, hstage, hrecs, hslot, hsame, hother⟩ := State.copyBegins_spec hs
  obtain ⟨Q, f, h1, h2, h3, -, h5, -, -, -, -, hqw, hqk⟩ := State.hostCmd_flash hm hf.1 { s with boot := b } rfl hb
    fun P f _ _ => runFwActivate_copies (u := { s with ports := P }) (s.runCtx c f) h hs hr hc
  refine ⟨_, f, congrArg Host.Outcome.next h1, h2, h3, h5, hstage, hrecs, rfl, hslot, fun hi => ⟨?_, hqw, hqk⟩, hother⟩
  rw [hsame hi]

end

/-! FW_CONFIRM and FW_REVERT (17 R524, R531). -/

theorem State.fwConfirm_answers (hm : s.meets (.fwConfirm e) c) (hr : s.boot.record.st = .trial) :
    s.answers (.fwConfirm e) c .ok 0 (resBytes [(1, 0)]) { s with boot := { s.boot with consent := true } } :=
  State.answers_of_run hm fun P _ _ => if_pos hr

theorem State.fwConfirm_refused (hm : s.meets (.fwConfirm e) c) (hr : s.boot.record.st ≠ .trial) :
    s.answers (.fwConfirm e) c .rejectedState 0x00F5 [] s :=
  State.answers_of_run hm fun _ _ _ => if_neg hr

theorem State.fwRevert_refused (hm : s.meets (.fwRevert e) c) (hr : s.boot.record.st ≠ .trial) :
    s.answers (.fwRevert e) c .rejectedState 0x00F5 [] s :=
  State.answers_of_run hm fun _ _ _ => if_neg hr

/-- From `s` to `u` the work of commands was taken away: of boot only STAGE and the mute changed, and the flash queue gained nothing. -/
structure State.Aborting (s u : State) : Prop where
  boot : ∃ stage mute, u.boot = { s.boot with stage := stage, mute := mute }
  queue : ∀ x ∈ u.ports.flashQ, x ∈ s.ports.flashQ

theorem State.Aborting.of_boot {s u : State} (hb : u.boot = s.boot) (hp : u.ports = s.ports) : s.Aborting u :=
  ⟨⟨s.boot.stage, s.boot.mute, hb⟩, fun _ hx => hp ▸ hx⟩

theorem State.Aborting.refl (s : State) : s.Aborting s := State.Aborting.of_boot rfl rfl

theorem State.Aborting.trans {s t u : State} (h : s.Aborting t) (g : t.Aborting u) : s.Aborting u := by
  obtain ⟨a, b, hb⟩ := h.boot
  obtain ⟨a', b', hb'⟩ := g.boot
  exact ⟨⟨a', b', by rw [hb', hb]⟩, fun x hx => h.queue x (g.queue x hx)⟩

theorem State.Aborting.foldl {α : Type} {f : State → α → State} (hf : ∀ u a, State.Aborting u (f u a)) (l : List α) (s : State) :
    s.Aborting (l.foldl f s) := by
  induction l generalizing s with
  | nil => exact State.Aborting.refl s
  | cons a l ih => exact (hf s a).trans (ih _)

theorem State.Fewer.aborting {s u : State} (h : s.Fewer u) : s.Aborting u := by
  obtain ⟨P, hP⟩ := h.as_
  exact ⟨⟨s.boot.stage, s.boot.mute, by rw [hP]⟩, h.flash⟩

theorem State.Aborting.event (s : State) (v : Nat) : s.Aborting (s.event v) := by
  obtain ⟨g, hg, hP⟩ := s.event_ports v
  refine ⟨⟨s.boot.stage, s.boot.mute, rfl⟩, fun x hx => ?_⟩
  rw [show s.event v = { s with ports := g s.ports } from hg s.ports] at hx
  obtain ⟨-, hq, -, -⟩ := hP s.ports
  exact hq ▸ hx

theorem State.Aborting.breakStage (s : State) : s.Aborting s.breakStage := by
  unfold State.breakStage
  split
  · exact ⟨⟨_, s.boot.mute, rfl⟩, fun _ hx => hx⟩
  · exact State.Aborting.refl s

theorem State.Aborting.dropWork {s u : State} {p : CPort} {f : Flight} (h : s.dropWork p f = some u) : s.Aborting u := by
  unfold State.dropWork at h
  dsimp only at h
  repeat' split at h
  all_goals cases h
  any_goals exact State.Aborting.of_boot rfl rfl
  · exact ⟨⟨s.boot.stage, none, rfl⟩, fun _ hx => hx⟩
  · exact State.Aborting.breakStage s

theorem State.Aborting.abortAll (s : State) (st : Status) (d : Nat) : s.Aborting (s.abortAll st d) := by
  unfold State.abortAll
  refine State.Aborting.foldl (fun u p => State.Aborting.foldl (fun v f => ?_) _ u) _ s
  split
  · exact State.Aborting.refl v
  · next w hw => exact (State.Aborting.dropWork hw).trans (w.complete_fewer p f.handle st d []).aborting

/-- The state in which a revert's record is written. -/
def State.reverting (s : State) : State :=
  { s with boot := { s.boot.writeRec { s.boot.record with st := .fallback, slotB := !s.boot.record.slotB, cause := 3 } with
      trialEnd := none, consent := false } }

/-- A revert whose record is written: the record falls back, and command service stops for the reload. -/
theorem State.reverted_spec (s : State) (p : CPort) (h : Nat) :
    (s.reverted p h).boot.record = { s.boot.record with st := .fallback, slotB := !s.boot.record.slotB, cause := 3, seq := s.boot.record.seq + 1 } ∧
    (s.reverted p h).boot.trialEnd = none ∧ (s.reverted p h).boot.reload = true ∧ (s.reverted p h).pwr.service = false ∧
    (s.reverted p h).boot.slots = s.boot.slots ∧ ∀ x ∈ (s.reverted p h).ports.flashQ, x ∈ s.ports.flashQ := by
  unfold State.reverted
  extract_lets r b u change
  obtain ⟨v, hv⟩ : ∃ v, v = u.complete p h .ok 0 (leBytes 1 (slotIx (!r.slotB))) := ⟨_, rfl⟩
  have hw := (State.Aborting.event s.reverting 8).trans ((u.complete_fewer p h .ok 0 (leBytes 1 (slotIx (!r.slotB)))).aborting.trans
    (State.Aborting.abortAll _ .aborted 0x00F9))
  rw [← hv] at hw ⊢
  unfold State.startReload
  dsimp only
  generalize v.abortAll .aborted 0x00F9 = w at *
  obtain ⟨stage, mute, hb⟩ := hw.boot
  refine ⟨?_, ?_, rfl, rfl, ?_, hw.queue⟩
  · have hrec : b.record = _ := Boot.record_writeRec s.boot { r with st := .fallback, slotB := !r.slotB, cause := 3 }
    refine (Boot.record_congr ?_).trans hrec
    rw [hb]
    rfl
  · rw [hb]
    rfl
  · rw [hb]
    rfl

theorem State.serveN_stopped {s : State} (h : s.pwr.service = false) (n : Nat) : State.serveN n s = s := by
  have hone : s.serveOne = none := by
    unfold State.serveOne
    rw [h]
    rfl
  cases n with
  | zero => rfl
  | succ n =>
    unfold State.serveN
    rw [hone]

theorem State.serve_stopped {s : State} (h : s.pwr.service = false) : s.serve = s := State.serveN_stopped h _

theorem State.flashDone_revert {s : State} {p : CPort} {f : Flight} {n : Nat} (hq : s.ports.flashQ = [(p, f.handle)])
    (hon : s.ports.flashOn = some (p, f.handle)) (hcp : s.pwr.cpRunning = true) (hf : (s.port p).flight? f.handle = some f)
    (hcmd : f.cmd = .fwRevert e) : s.flashDone true n = ((s.flashPop p f.handle).reverted p f.handle).flashKick := by
  unfold State.flashDone
  dsimp only
  rw [State.flashKick_on hq hon, hq]
  dsimp only
  rw [hf]
  dsimp only
  rw [hcp, if_neg (by decide), hcmd]
  exact if_pos rfl

theorem State.flashPop_queue {s : State} {p : CPort} {h : Nat} (hq : s.ports.flashQ = [(p, h)]) : (s.flashPop p h).ports.flashQ = [] := by
  unfold State.flashPop
  rw [hq]
  simp

theorem State.fwRevert_flashes (hm : s.meets (.fwRevert e) c) (hf : s.flashFree) (hr : s.boot.record.st = .trial) :
    ∃ t f t', exec (.fwRevert e) s = .next t ∧ s.accepted t c f ∧ t.as s ∧ exec (.flashOperationDone true 0 s.now) t = .next t' ∧
      t'.boot.record.st = .fallback ∧ t'.boot.record.slotB = !s.boot.record.slotB ∧ t'.boot.record.cause = 3 ∧ t'.boot.trialEnd = none ∧
      t'.boot.reload = true ∧ t'.pwr.service = false ∧ t'.boot.slots = s.boot.slots := by
  obtain ⟨Q, f, h1, h2, h3, -, h5, h6, -, -, -, hqw, hqk⟩ := State.hostCmd_flash hm hf.1 s rfl (fun _ => rfl) fun _ _ _ _ => if_pos hr
  obtain ⟨u, hu⟩ : ∃ u : State, u = { s with ports := Q } := ⟨_, rfl⟩
  have hub : u.boot = s.boot := by rw [hu]
  have hun : u.now = s.now := by rw [hu]
  have hup : u.ports = Q := by rw [hu]
  rw [← hu] at h1 h2
  obtain ⟨hrec, htrial, hreload, hserv, hslots, hqueue⟩ := (u.flashPop c.env.port f.handle).reverted_spec c.env.port f.handle
  have hempty : ((u.flashPop c.env.port f.handle).reverted c.env.port f.handle).ports.flashQ = [] :=
    List.eq_nil_iff_forall_not_mem.mpr fun x hx => by
      have := hqueue x hx
      rw [State.flashPop_queue (hup ▸ h5)] at this
      exact List.not_mem_nil this
  have hpop : (u.flashPop c.env.port f.handle).boot = s.boot := hub
  rw [hpop] at hrec hslots
  have hdone := (State.flashDone_revert (n := 0) (hup ▸ h5) (hup ▸ h6) ((congrArg Pwr.cpRunning (by rw [hu])).trans hf.2) (h2.find hm) h3).trans
    (State.flashKick_empty hempty)
  generalize (u.flashPop c.env.port f.handle).reverted c.env.port f.handle = w at *
  refine ⟨u, f, { w with ports := { w.ports with flashOn := none } }, congrArg Host.Outcome.next h1, h2, ⟨by rw [hu], by rw [hu]; exact hqw, by rw [hu]; exact hqk⟩,
    congrArg Host.Outcome.next ?_, congrArg BootRec.st hrec, congrArg BootRec.slotB hrec, congrArg BootRec.cause hrec, htrial, hreload, hserv, hslots⟩
  show State.serve ((u.at_ s.now).flashDone true 0) = _
  rw [← hun, u.at_now, hdone]
  exact State.serve_stopped (s := { w with ports := { w.ports with flashOn := none } }) hserv

/-! FLASH_LOG_READ (17 R528). -/

theorem State.flashLogRead_buffer {count addr : Nat} (hm : s.meets (.flashLogRead e 0xFFFFFFFF count addr) c) (ha : addr ≠ 0)
    (hp : e.port = .A ∨ e.port = .B) (h1 : 1 ≤ count) (h2 : count ≤ 2048) :
    s.answers (.flashLogRead e 0xFFFFFFFF count addr) c .ok 0
      (resBytes [(2, (s.boot.log.take count).length),
        (4, ((s.boot.log[(s.boot.log.take count).length]?).map (·.seq)).getD (s.flt.logSeq % 2 ^ 32))])
      (s.hostWrite e.port addr ((s.boot.log.take count).flatMap LogEntry.bytes)) := by
  refine State.answers_of_writing_run hm fun P f _ => ?_
  cases hm.info
  have hbuf : noBuf e.port = false := by rcases hp with hp | hp <;> rw [hp] <;> rfl
  have hrange : ¬ (decide (0xFFFFFFFF < 0xFFFFFFFF) || !within 1 2048 count) = true := by
    simp [within, h1, h2]
  show runFlashLogRead (s.runCtx _ f) 0xFFFFFFFF count addr { s with ports := P } = _
  unfold runFlashLogRead
  dsimp only
  rw [show (s.runCtx _ f).port = e.port from rfl, hbuf, Bool.and_false, if_neg (by decide), if_neg ha, if_neg hrange, if_pos rfl, if_neg ha,
    if_neg ha, List.drop_zero, Nat.zero_add, List.append_nil]
  simp only [resBytes, List.flatMap_cons, List.flatMap_nil, List.append_nil]

theorem State.flashLogRead_one {start : Nat} {x : LogEntry} (hm : s.meets (.flashLogRead e start 1 0) c) (hs : start ≤ 0xFFFFFFFF)
    (hl : s.boot.log = [x]) (hx : start = x.seq) :
    s.answers (.flashLogRead e start 1 0) c .ok 0 (resBytes [(2, 1), (4, s.flt.logSeq % 2 ^ 32)] ++ x.bytes) s := by
  refine State.answers_of_run hm (fun P f _ => ?_) (by simp [resBytes, leBytes_length, LogEntry.bytes_length])
  have hrange : ¬ (decide (0xFFFFFFFF < start) || !within 1 1 1) = true := by
    simp [within, hs]
  have hfirst : (if start = 0xFFFFFFFF then 0
      else ([x].findIdx? fun y => decide ((y.seq + 2 ^ 32 - start) % 2 ^ 32 < 2 ^ 31)).getD [x].length) = 0 := by
    split
    · rfl
    · rw [hx, List.findIdx?_cons, Nat.add_sub_cancel_left, if_pos (by decide)]
      rfl
  show runFlashLogRead (s.runCtx c f) start 1 0 { s with ports := P } = _
  unfold runFlashLogRead
  dsimp only
  rw [if_neg (by simp), if_pos rfl, if_neg hrange, hl, hfirst, if_pos rfl, if_pos rfl]
  simp [resBytes]

end

/-- Settles O52: every clause follows from the run of its command on the state in which command service has put it in flight; a
staging, an activation and a revert are carried through the flash queue by the same frame of acceptance and answer. -/
theorem firmwareCommands : Obligations.FirmwareCommands := by
  rintro s e c r rfl
  refine ⟨fun hm => ⟨s.boot.stagedVersion.1, s.boot.stagedVersion.2, State.fwStatus_answers hm,
      fun _ => Boot.stagedVersion_staged, Boot.stagedVersion_none⟩, fun addr len image size hm hf hp hsize => ?_, fun hm hf => ?_,
    fun w rh img hm hf hw hs hr => ?_, fun w rh hm hw hs => State.fwActivate_empty hm hw hs,
    fun w rh img hm hw hs hr => State.fwActivate_trial hm hw hs hr, State.fwConfirm_answers, State.fwConfirm_refused,
    State.fwRevert_flashes, State.fwRevert_refused, fun count addr es hm ha hp h1 h2 he => ?_,
    fun start x hm hs hl hx _ => State.flashLogRead_one hm hs hl hx⟩
  case _ =>
    subst hsize
    split
    case _ st d h => exact State.fwStage_refused hm hp h
    case _ h =>
      obtain ⟨P, f, P', k, h1, h2, h3, h4⟩ := State.fwStage_stages hm hf hp h
      exact ⟨_, f, _, h1, h2, rfl, rfl, ⟨_, rfl⟩, h3, h4, rfl, rfl, rfl⟩
  case _ => exact ⟨_, State.fwStageDiscard_flashes hm hf, rfl, rfl, rfl⟩
  case _ =>
    split
    case _ st d h => exact State.fwActivate_refused hm hw hs hr h
    case _ h => exact State.fwActivate_copies hm hf hw hs hr h
  case _ =>
    subst he
    exact State.flashLogRead_buffer hm ha hp h1 h2

end Sys2Proof.Machine
end

section
/-!
SUPPORT. Domain ramps (19 R559, 21 R612): refutes O57. The clause on a domain that has ramped on takes in PD13, whose start gives
the registers of ports A and B their reset values, CQ_LOG2 4 among them: a command of port A whose ring holds 16 entries has no
room for its answer any more.
-/
namespace Sys2Proof.Machine

/-- A command in flight on port A that has started and waits for its switching. -/
def rampFlight : Flight := ⟨1, .devDomainSet ⟨.A, 0#16, 0#32, 0, 0, false⟩ (2 ^ 13) 0 false, 0#32, false, false, true, false, 0, 0, 0, 0, 0, 0, 0⟩

/-- An entry of a command that has ended. -/
def oldEntry : Entry := ⟨0, 0, 0#32, 0, 0, 0, 0, 0, [], true, 0⟩

/-- Port A with room for 32 entries, of which 16 are taken. -/
def halfFullPort : PortS := { PortS.reset .active 0 0 with cqLog2 := 5, flights := [rampFlight], ring := List.replicate 16 oldEntry }

/-- PD13 ramps on for a command of port A. -/
def State.rampingPd13 : State :=
  { State.reset with
    pwr := { Pwr.reset with
      service := true, dom := wr (Vector.replicate 14 DomSt.on) 13 .rampOn, domCmds := [⟨some (.A, 1), false, [(13, true)]⟩] }
    ports := { Ports.reset with a := halfFullPort } }

theorem State.rampingPd13_ring : (State.rampingPd13.rampOnDone 13).serve.ports.a.ring.length = 16 := by decide +kernel

theorem rampFlight_settled : rampFlight.settled := ⟨rfl, rfl, rfl⟩

theorem State.rampingPd13_calm : State.rampingPd13.portsCalm := by
  intro q
  cases q
  case A => exact ⟨fun f hf => List.mem_singleton.mp hf ▸ rampFlight_settled, rfl, rfl⟩
  all_goals exact ⟨fun _ hf => (nomatch hf), rfl, rfl⟩

theorem State.rampingPd13_canAnswer : State.rampingPd13.canAnswer .A rampFlight where
  ring := by decide
  service := rfl
  flight := rfl
  active := rfl
  none_ := rfl
  room := by decide

theorem State.rampingPd13_others {j : Nat} (hj : j ≠ 13) : rd State.rampingPd13.pwr.dom j = .on ∨ rd State.rampingPd13.pwr.dom j = .off := by
  have hother : rd State.rampingPd13.pwr.dom j = rd (Vector.replicate 14 DomSt.on) j := rd_wr_other _ _ _ _ (Ne.symm hj)
  by_cases h : j < 14
  · exact Or.inl (hother.trans (rd_replicate DomSt.on h))
  · exact Or.inr (hother.trans (rd_of_ge _ (Nat.le_of_not_lt h)))

/-- Refutes O57: in a state where PD13 ramps on for a command of port A and the port has room for its answer, the start of the
domain takes that room away and no entry is written. -/
theorem not_powerEvents : ¬ Obligations.PowerEvents := by
  unfold Obligations.PowerEvents
  intro h
  obtain ⟨hdone, -⟩ := h State.rampingPd13 0 0 rfl
  obtain ⟨t, ht, -, -, -, hcl⟩ := hdone 13 .A rampFlight State.rampingPd13_calm (by decide) (Or.inl (by decide)) (by decide) rfl
    (fun j hj => State.rampingPd13_others hj) State.rampingPd13_canAnswer
  have hrun : (State.rampingPd13.rampOnDone 13).serve = t := Host.Outcome.next.inj ht
  have hring := congrArg List.length hcl.ring
  rw [List.length_map, List.length_append, ← hrun] at hring
  rw [show ((State.rampingPd13.rampOnDone 13).serve.port .A).ring.length = 16 from State.rampingPd13_ring] at hring
  exact absurd hring (by decide)

end Sys2Proof.Machine
end

section
/-!
SUPPORT. What the operations of the blocks leave unchanged: the clock, power, boot, the memories, and command service.
-/
namespace Sys2Proof.Machine
-- Proofs checked one at a time, which bounds the memory that the whole text takes.
set_option Elab.async false

/-- What the firmware runs and what stands in flash. -/
def Boot.core (b : Boot) : Boot :=
  { Boot.reset with
    recs := b.recs, slots := b.slots, log := b.log, runB := b.runB, ucode := b.ucode, version := b.version, spiMode := b.spiMode
    recovery := b.recovery }

/-- The memories of a tile. -/
def Tile.mems (t : Tile) : (Sparse 64 × Sparse 64) × (Sparse 32 × Sparse 32) := ((t.pLive, t.pShadow), (t.x, t.y))

/-- From `s` to `u` an operation of a block ran: clock, power, firmware and memories are kept, command service stays calm, and while
it is stopped the ports keep what it works on. -/
structure State.Moves (s u : State) : Prop where
  pending : u.pending = s.pending
  now : u.now = s.now
  pwr : u.pwr = s.pwr
  tw : u.tw = s.tw
  boot : u.boot.core = s.boot.core
  readHalf : u.ex.readHalf = s.ex.readHalf
  writeHalf : u.ex.writeHalf = s.ex.writeHalf
  mems : ∀ k, (u.tile k).mems = (s.tile k).mems
  calm : s.portsCalm → u.portsCalm
  silent : s.pwr.service = false → s.ports.Same u.ports

section
variable {s t u : State}

theorem State.Moves.refl (s : State) : s.Moves s := ⟨rfl, rfl, rfl, rfl, rfl, rfl, rfl, fun _ => rfl, id, fun _ => Ports.Same.refl _⟩

theorem State.Moves.trans (h : s.Moves t) (g : t.Moves u) : s.Moves u :=
  ⟨g.pending.trans h.pending, g.now.trans h.now, g.pwr.trans h.pwr, g.tw.trans h.tw, g.boot.trans h.boot, g.readHalf.trans h.readHalf,
    g.writeHalf.trans h.writeHalf, fun k => (g.mems k).trans (h.mems k), g.calm ∘ h.calm,
    fun hs => (h.silent hs).trans (g.silent ((congrArg Pwr.service h.pwr).trans hs))⟩

/-- A step that leaves ports, exchange and tiles alone. -/
theorem State.Moves.still (hpend : u.pending = s.pending) (hnow : u.now = s.now) (hpwr : u.pwr = s.pwr) (htw : u.tw = s.tw)
    (hboot : u.boot.core = s.boot.core) (hex : u.ex = s.ex) (htiles : u.tiles = s.tiles) (hports : u.ports = s.ports) : s.Moves u := by
  refine ⟨hpend, hnow, hpwr, htw, hboot, by rw [hex], by rw [hex], fun k => ?_, fun h => h.congr hports htw, fun _ => ?_⟩
  · unfold State.tile
    rw [htiles]
  · rw [hports]
    exact Ports.Same.refl _

theorem State.Moves.foldl {α : Type} {f : State → α → State} (hf : ∀ u a, State.Moves u (f u a)) (l : List α) (s : State) :
    s.Moves (l.foldl f s) := by
  induction l generalizing s with
  | nil => exact State.Moves.refl s
  | cons a l ih => exact (hf s a).trans (ih _)

theorem State.Moves.ite (c : Prop) [Decidable c] (h : s.Moves t) (g : s.Moves u) : s.Moves (if c then t else u) := by
  split
  · exact h
  · exact g

theorem State.Moves.keeps (h : s.Moves u) : Keeps s u := by
  refine ⟨h.pending, Nat.le_of_eq h.now.symm, fun hm => ⟨?_, fun k => ?_⟩⟩
  · have hw := hm.1
    unfold Exch.wf at *
    rw [h.readHalf]
    exact hw
  · have hw := hm.2 k
    have he : ∀ t : Tile, t.memWf = (t.mems.1.1.wf && t.mems.1.2.wf && t.mems.2.1.wf && t.mems.2.2.wf) := fun _ => rfl
    rw [he, h.mems k, ← he]
    exact hw

end

section
variable (s : State)

/-! Signals and answers. -/

theorem State.Moves.event (v : Nat) : s.Moves (s.event v) := by
  obtain ⟨g, hg, hP⟩ := s.event_ports v
  obtain ⟨hsame, -⟩ := hP s.ports
  have hports : (s.event v).ports = g s.ports := by rw [show s.event v = { s with ports := g s.ports } from hg s.ports]
  exact ⟨rfl, rfl, rfl, rfl, rfl, rfl, rfl, fun _ => rfl, fun h => State.event_calm h v, fun _ => hports ▸ hsame⟩

theorem Ports.same_deferred (P : Ports) (l : List (CPort × Nat × Status × Nat × List Byte)) : P.Same { P with deferred := l } :=
  ⟨fun q => by cases q <;> exact PortS.Same.refl _, rfl⟩

theorem State.complete_stopped (h : s.pwr.service = false) (q : CPort) (n : Nat) (st : Status) (d : Nat) (r : List Byte) :
    s.ports.Same (s.complete q n st d r).ports := by
  unfold State.complete
  rw [h, if_neg (by decide)]
  split
  · exact Ports.Same.refl _
  · exact Ports.same_deferred _ _

theorem State.Fewer.moves {s u : State} (h : s.Fewer u) (hs : s.pwr.service = false → s.ports.Same u.ports) : s.Moves u := by
  have hcalm := h.calm
  obtain ⟨P, hP⟩ := h.as_
  subst hP
  exact ⟨rfl, rfl, rfl, rfl, rfl, rfl, rfl, fun _ => rfl, hcalm, hs⟩

theorem State.Moves.complete (q : CPort) (n : Nat) (st : Status) (d : Nat) (r : List Byte) : s.Moves (s.complete q n st d r) :=
  (s.complete_fewer q n st d r).moves fun h => s.complete_stopped h q n st d r

theorem State.Moves.setFlt (f : Flt) : s.Moves (s.setFlt f) := State.Moves.still rfl rfl rfl rfl rfl rfl rfl rfl
theorem State.Moves.setEp (i : Nat) (e : Episode) : s.Moves (s.setEp i e) := State.Moves.still rfl rfl rfl rfl rfl rfl rfl rfl
theorem State.Moves.report (c z e d : Nat) : s.Moves (s.report c z e d) := State.Moves.still rfl rfl rfl rfl rfl rfl rfl rfl
theorem State.Moves.raise (c z e d : Nat) : s.Moves (s.raise c z e d) := State.Moves.still rfl rfl rfl rfl rfl rfl rfl rfl
theorem State.Moves.endCond (c z e : Nat) : s.Moves (s.endCond c z e) := State.Moves.still rfl rfl rfl rfl rfl rfl rfl rfl
theorem State.Moves.setHalf (l : Nat) (c : Chan) : s.Moves (s.setHalf l c) := State.Moves.still rfl rfl rfl rfl rfl rfl rfl rfl

/-! Channels (13 R396, R397). -/

theorem State.Moves.stopEnded (l : Nat) : s.Moves (s.stopEnded l) := by
  unfold State.stopEnded
  extract_lets stops ended p u
  have hu : s.Moves u := State.Moves.still rfl rfl rfl rfl rfl rfl rfl rfl
  exact hu.trans (State.Moves.foldl (fun v x => State.Moves.complete v _ _ _ _ _) ended u)

theorem State.Moves.setChan (l : Nat) (c : Chan) : s.Moves (s.setChan l c) := by
  unfold State.setChan
  dsimp only
  exact State.Moves.ite _ ((State.Moves.setHalf s l c).trans (State.Moves.setHalf _ _ _)) (State.Moves.setHalf s l c)

theorem State.Moves.enter (l : Nat) (st : ChSt) : s.Moves (s.enter l st) := by
  by_cases hst : (s.chan l).st = st
  · rw [State.enter_same hst]
    exact State.Moves.refl s
  · unfold State.enter
    rw [if_neg hst]
    extract_lets tl s1 sw c1 c2 c3 s2 s3
    have h1 : s.Moves s1 := State.Moves.ite _ (State.Moves.foldl (fun u x => (State.Moves.endCond u _ _ _).trans
      ((State.Moves.endCond _ _ _ _).trans (State.Moves.endCond _ _ _ _))) _ s) (State.Moves.refl s)
    have h2 : s.Moves s2 := h1.trans (State.Moves.setChan s1 l c3)
    have h3 : s.Moves s3 := h2.trans (State.Moves.ite _ (State.Moves.stopEnded s2 l) (State.Moves.refl s2))
    exact h3.trans (State.Moves.ite _ (State.Moves.event s3 6) (State.Moves.refl s3))

theorem State.Moves.holdChanged (l : Nat) : s.Moves (s.holdChanged l) := by
  have hev := State.Moves.event s 6
  cases hheld : s.held (s.chan l) with
  | true =>
    rw [State.holdChanged_of_held hheld]
    split
    · exact hev.trans (State.Moves.enter _ l .held)
    · exact hev
  | false =>
    rw [State.holdChanged_of_free hheld]
    split
    · exact hev.trans (State.Moves.enter _ l .softstart)
    · exact hev

theorem State.Moves.setHold (l : Nat) (f : Chan → Chan) : s.Moves (s.setHold l f) := by
  unfold State.setHold
  dsimp only
  split
  · exact State.Moves.refl s
  · exact (State.Moves.setChan s l _).trans (State.Moves.holdChanged _ l)

/-! Reactions and what follows them (14 R421 to R425). -/

theorem State.Moves.syncChan (es : Bool) (f : Flt) (l : Nat) : s.Moves (s.syncChan es f l) := by
  unfold State.syncChan
  split
  · exact State.Moves.refl s
  · exact State.Moves.setHold s l _

theorem State.Moves.sync : s.Moves s.sync := by
  have hsafe : s.Moves s.safeSet := by
    unfold State.safeSet
    dsimp only
    split
    · exact (State.Moves.event s 3).trans (State.Moves.setFlt _ _)
    · exact State.Moves.setFlt s _
  rw [State.sync_eq]
  exact hsafe.trans ((State.Moves.foldl (fun v l => State.Moves.syncChan v _ _ l) _ _).trans (State.Moves.still rfl rfl rfl rfl rfl rfl rfl rfl))

theorem State.Moves.setTile (k : Nat) {x : Tile} (h : x.mems = (s.tile k).mems) : s.Moves (s.setTile k x) := by
  refine ⟨rfl, rfl, rfl, rfl, rfl, rfl, rfl, fun j => ?_, fun hc => hc.congr rfl rfl, fun _ => Ports.Same.refl _⟩
  show (rd (wr s.tiles k x) j).mems = _
  rw [rd_wr]
  split
  · next hj => rw [h, hj.1]
  · rfl

theorem State.Moves.onElem (z k : Nat) (f : Lateness → Lateness) : s.Moves (s.onElem z k f) := by
  unfold State.onElem
  extract_lets tile
  have ht : ∀ j, s.Moves (tile j) := fun j => State.Moves.setTile s j rfl
  split
  · exact ht k
  · split
    · split
      · exact State.Moves.still rfl rfl rfl rfl rfl rfl rfl rfl
      · split
        · exact ⟨rfl, rfl, rfl, rfl, rfl, rfl, rfl, fun _ => rfl, fun hc => hc.congr rfl rfl, fun _ => Ports.Same.refl _⟩
        · split
          · exact ht _
          · exact State.Moves.refl s
    · exact State.Moves.refl s

theorem State.Moves.react (z : Nat) (es : List Nat) : s.Moves (s.react z es) := State.Moves.foldl (fun u k => State.Moves.onElem u z k _) es s

/-! Episodes (14 R418, R426, R435, R436). -/

theorem State.Moves.log (k ep z src det lv sev fl d : Nat) : s.Moves (s.log k ep z src det lv sev fl d) := by
  obtain ⟨f, -, h | h⟩ := s.log_cases k ep z src det lv sev fl d <;> rw [h]
  · exact State.Moves.setFlt s f
  · exact (State.Moves.setFlt s f).trans (State.Moves.event _ 4)

theorem State.Moves.logEp (i k fl : Nat) : s.Moves (s.logEp i k fl) := State.Moves.log s _ _ _ _ _ _ _ _ _
theorem State.Moves.pinTrigger : s.Moves s.pinTrigger := State.Moves.setFlt s _
theorem State.Moves.ovfWatch : s.Moves s.ovfWatch := State.Moves.setFlt s _

theorem State.Moves.pinFollow : s.Moves s.pinFollow := by
  obtain ⟨f, h, -⟩ := s.pinFollow_cases
  rw [h]
  exact State.Moves.setFlt s f

theorem State.Moves.applyEp (i : Nat) : s.Moves (s.applyEp i) := by
  unfold State.applyEp
  extract_lets e e' u
  exact (State.Moves.setEp s i e').trans ((State.Moves.ite _ (State.Moves.react u _ _) (State.Moves.refl u)).trans (State.Moves.sync _))

theorem State.Moves.settle (i : Nat) : s.Moves (s.settle i) := State.Moves.setEp s i _

theorem State.Moves.hold (i : Nat) : s.Moves (s.hold i) :=
  (State.Moves.setEp s i _).trans ((State.Moves.logEp _ i 7 0).trans (State.Moves.event _ 2))

theorem State.Moves.advanceEp (i : Nat) : s.Moves (s.advanceEp i) := by
  unfold State.advanceEp
  dsimp only
  exact State.Moves.ite _ (State.Moves.refl s) (State.Moves.ite _
    (State.Moves.ite _ (State.Moves.refl s) (State.Moves.settle s i)) (State.Moves.ite _ (State.Moves.hold s i) (State.Moves.refl s)))

theorem State.Moves.openEp (i : Nat) (e : Episode) (det src sev fl data : Nat) : s.Moves (s.openEp i e det src sev fl data) := by
  unfold State.openEp
  extract_lets f e' s1 b s2 s3 s4 s5
  have h1 : s.Moves s1 := (State.Moves.setFlt s _).trans (State.Moves.setEp _ i e')
  have h2 : s.Moves s2 := h1.trans (State.Moves.ite _ (State.Moves.still rfl rfl rfl rfl rfl rfl rfl rfl) (State.Moves.refl s1))
  have h3 : s.Moves s3 := h2.trans (State.Moves.applyEp s2 i)
  have h4 : s.Moves s4 := h3.trans ((State.Moves.log s3 _ _ _ _ _ _ _ _ _).trans (State.Moves.event _ 2))
  have h5 : s.Moves s5 := h4.trans (State.Moves.ite _ (State.Moves.pinTrigger s4) (State.Moves.refl s4))
  exact h5.trans ((State.Moves.ovfWatch s5).trans (State.Moves.advanceEp _ i))

theorem State.Moves.fromOverflow : s.Moves s.fromOverflow := by
  unfold State.fromOverflow
  split
  · exact (State.Moves.setFlt s _).trans (State.Moves.openEp _ _ _ _ _ _ _ _)
  · exact State.Moves.refl s

theorem State.Moves.releaseEp (i : Nat) : s.Moves (s.releaseEp i) := by
  unfold State.releaseEp
  extract_lets e u lv
  have hu : s.Moves u := State.Moves.ite _ (State.Moves.foldl (fun v k => State.Moves.ite _ (State.Moves.refl v)
    (State.Moves.onElem v _ k _)) _ s) (State.Moves.refl s)
  have hlv : u.Moves { u with flt := { u.flt with leaving := u.flt.leaving ++ [lv] } } := State.Moves.setFlt u _
  exact State.Moves.ite _ (State.Moves.refl s) (hu.trans (hlv.trans ((State.Moves.setEp _ i _).trans (State.Moves.sync _))))

theorem State.Moves.closeEp (i : Nat) (reset : Bool) : s.Moves (s.closeEp i reset) := by
  unfold State.closeEp
  extract_lets u
  have hu : s.Moves u := (State.Moves.releaseEp s i).trans (State.Moves.logEp _ i 6 _)
  exact hu.trans ((State.Moves.setEp u i _).trans ((State.Moves.fromOverflow _).trans ((State.Moves.ovfWatch _).trans (State.Moves.pinFollow _))))

theorem State.Moves.closeZones (z : Nat → Bool) (keep : Episode → Bool) : s.Moves (s.closeZones z keep) := by
  unfold State.closeZones
  extract_lets f u
  exact (State.Moves.setFlt s _).trans (State.Moves.foldl (fun v i => State.Moves.ite _ (State.Moves.closeEp v i true) (State.Moves.refl v)) _ u)

theorem Boot.core_recs (b : Boot) : b.core.recs = b.recs := rfl
theorem Boot.core_slots (b : Boot) : b.core.slots = b.slots := rfl
theorem Boot.core_log (b : Boot) : b.core.log = b.log := rfl

theorem State.Moves.recs {s u : State} (h : s.Moves u) : u.boot.recs = s.boot.recs := by rw [← Boot.core_recs, h.boot, Boot.core_recs]
theorem State.Moves.slots {s u : State} (h : s.Moves u) : u.boot.slots = s.boot.slots := by rw [← Boot.core_slots, h.boot, Boot.core_slots]
theorem State.Moves.logKept {s u : State} (h : s.Moves u) : u.boot.log = s.boot.log := by rw [← Boot.core_log, h.boot, Boot.core_log]

end

end Sys2Proof.Machine
end

section
/-!
SUPPORT. The commands of power and reset (19 R558 to R575): settles O56.
-/
namespace Sys2Proof.Machine
-- Proofs checked one at a time, which bounds the memory that the whole text takes.
set_option Elab.async false

/-! A restart of PD1 on a state without flights (19 R565). -/

theorem State.abortAll_idle {s : State} (h : ∀ q, (s.port q).flights = []) (st : Status) (d : Nat) : s.abortAll st d = s := by
  unfold State.abortAll
  simp only [List.foldl_cons, List.foldl_nil, h]

theorem State.hwHoldover_rest (s : State) : ∃ ref ts, s.hwHoldover = { s with ref := ref, ts := ts } := by
  unfold State.hwHoldover
  dsimp only
  split
  · exact ⟨s.ref, s.ts, rfl⟩
  · exact ⟨_, _, rfl⟩

theorem State.stopCp_rest (s : State) : ∃ ref ts paused, s.stopCp = { s with
    ref := ref, ts := ts, pwr := { s.pwr with cpRunning := false, service := false, pausedAt := paused } } := by
  obtain ⟨ref, ts, hu⟩ : ∃ ref ts, (if s.pwr.cpRunning && decide (s.ref.sel < 8) then s.hwHoldover else s) =
      { s with ref := ref, ts := ts } := by
    split
    · exact s.hwHoldover_rest
    · exact ⟨s.ref, s.ts, rfl⟩
  unfold State.stopCp
  dsimp only
  rw [hu]
  exact ⟨ref, ts, _, rfl⟩

theorem State.restartPd1_idle {s : State} (h : ∀ q, (s.port q).flights = []) : s.restartPd1 = s.stopCp.applyMasks.restarted := by
  obtain ⟨ref, ts, paused, hs⟩ := s.stopCp_rest
  rw [State.restartPd1_eq, State.abortAll_idle fun q => ?_]
  rw [hs]
  exact h q

/-- From `s` to `u` ports kept their flights, descriptors, rings and answers that wait. -/
def State.SameWork (s u : State) : Prop := ∀ q, (u.port q).flights = (s.port q).flights ∧ (u.port q).ring = (s.port q).ring

theorem State.SameWork.trans {s t u : State} (h : s.SameWork t) (g : t.SameWork u) : s.SameWork u :=
  fun q => ⟨(g q).1.trans (h q).1, (g q).2.trans (h q).2⟩

theorem State.SameWork.setPort (s : State) (p : CPort) {x : PortS} (hf : x.flights = (s.port p).flights) (hr : x.ring = (s.port p).ring) :
    s.SameWork (s.setPort p x) := by
  intro q
  by_cases hq : q = p
  · rw [hq, State.setPort_port_self]
    exact ⟨hf, hr⟩
  · rw [State.setPort_port_other _ _ _ _ hq]
    exact ⟨rfl, rfl⟩

theorem State.SameWork.foldl {α : Type} {f : State → α → State} (hf : ∀ u a, State.SameWork u (f u a)) (l : List α) (s : State) :
    s.SameWork (l.foldl f s) := by
  induction l generalizing s with
  | nil => exact fun _ => ⟨rfl, rfl⟩
  | cons a l ih => exact (hf s a).trans (ih _)

theorem State.SameWork.applyMasks (s : State) : s.SameWork s.applyMasks := by
  unfold State.applyMasks
  refine State.SameWork.foldl (fun u p => ?_) _ s
  dsimp only
  exact State.SameWork.setPort u p rfl rfl

theorem State.setPort_rest (s : State) (p : CPort) (x : PortS) : ∃ P, s.setPort p x = { s with ports := P } := by
  cases p <;> exact ⟨_, rfl⟩

theorem State.applyMasks_rest (s : State) : ∃ P, s.applyMasks = { s with ports := P } := by
  unfold State.applyMasks
  refine foldl_inv (P := fun u => ∃ P, u = { s with ports := P }) (fun u p hu => ?_) _ ⟨s.ports, rfl⟩
  obtain ⟨P, hP⟩ := hu
  obtain ⟨Q, hQ⟩ := u.setPort_rest p { (u.port p) with
    groups := ((lookup? u.cfg.privs (portNum p)).getD ((Ports.reset.get p).groups, (Ports.reset.get p).privs)).1
    privs := ((lookup? u.cfg.privs (portNum p)).getD ((Ports.reset.get p).groups, (Ports.reset.get p).privs)).2 }
  exact ⟨Q, hQ.trans (by rw [hP])⟩

theorem State.SameWork.restarted (s : State) : s.SameWork s.restarted := by
  intro q
  cases q <;> exact ⟨rfl, rfl⟩

/-- What a restart of PD1 does to a state without flights. -/
theorem State.restartPd1_rest {s : State} (h : ∀ q, (s.port q).flights = []) : ∃ ref ts paused P hlt, s.restartPd1 = { s with
    ref := ref, ts := ts, ports := P, hlt := hlt
    pwr := { s.pwr with cpRunning := false, service := false, pausedAt := paused, restarts := satAdd 16 s.pwr.restarts 1 } } ∧
    s.SameWork { s with ports := P } := by
  obtain ⟨ref, ts, paused, hs⟩ := s.stopCp_rest
  obtain ⟨P, hP⟩ := State.applyMasks_rest s.stopCp
  have hw := (State.SameWork.applyMasks s.stopCp).trans (State.SameWork.restarted _)
  rw [State.restartPd1_idle h]
  rw [hP] at hw ⊢
  rw [hs] at hw ⊢
  exact ⟨ref, ts, paused, _, _, rfl, hw⟩

/-! The reset of the engine (19 R562, R563). -/

theorem State.avsDisable_rest (s : State) : ∃ a, s.avsDisable = { s with avs := a } := by
  unfold State.avsDisable
  dsimp only
  split
  · exact ⟨_, rfl⟩
  · exact ⟨_, rfl⟩
  · exact ⟨_, rfl⟩

theorem State.resetAccess_rest (s : State) (bs : List Block) : ∃ a, s.resetAccess bs = { s with ports := { s.ports with access := a } } := by
  unfold State.resetAccess
  refine foldl_inv (P := fun u : State => ∃ a, u = { s with ports := { s.ports with access := a } }) (fun u b hu => ?_) _ ⟨s.ports.access, rfl⟩
  obtain ⟨a, ha⟩ := hu
  rw [ha]
  exact ⟨_, rfl⟩

theorem Chan.restart_switching (c : Chan) : c.restart.switching = false := by
  have hst : c.restart.st = if c.st = .latched then .latched else .off := rfl
  unfold Chan.switching
  rw [hst]
  split <;> rfl

theorem rd_map {α β : Type} [Inhabited α] [Inhabited β] {n i : Nat} (v : Vector α n) (f : α → β) (h : i < n) :
    rd (v.map f) i = f (rd v i) := by
  unfold rd
  rw [Vector.getElem?_map, Vector.getElem?_eq_getElem h]
  rfl

theorem State.freshPstage_quiet (s : State) : s.freshPstage.quiet := by
  intro k hk
  have hc : s.freshPstage.chan k = s.freshChan (s.chan k) := by
    exact rd_map s.pst.chans s.freshChan hk
  rw [hc]
  exact Chan.restart_switching (s.chan k)

/-- The state that a reset of the engine takes over from what it ends and clears. -/
def State.engineCleared (s : State) : State :=
  ((s.restartPd1.closeZones (fun z => z != 0xC3) (fun _ => false)).avsDisable.loseInterior.freshPstage).resetAccess [.net, .ts, .ref, .pst, .cmd]

/-- What the reset of the engine leaves of the state that it takes over. -/
def State.engineReset (s : State) : State :=
  { s with
    pwr := { s.pwr with dom := Vector.replicate 14 .on, domCmds := [], engRestart := none, coldBoot := true, refclkA := false
                        refclkB := false, bootAfter := s.now }
    per := { Per.reset with boundaries := s.per.boundaries, openedAt := s.now }
    dm := { Dm.reset with gRec := s.dm.gRec, cfgRate := s.dm.cfgRate, cfgScrub := s.dm.cfgScrub }
    sap := Vector.replicate 8 SaSt.reset, net := Net.reset, str := Str.reset, ts := { Ts.reset with tb := { Ts.reset.tb with at_ := s.now } }, ref := Ref.reset
    pst := { s.pst with stops := [], loops := Vector.replicate 32 none, rails := Vector.replicate 4 ⟨none, false, false, false, 0⟩ }
    ports := { Ports.reset with
      d := s.ports.d, taken := s.ports.taken, access := s.ports.access, deferred := s.ports.deferred.filter (fun x => x.1 == .D)
      pc := { PortC.reset with keys := s.ports.pc.keys }, hostWrites := s.ports.hostWrites }
    boot := { s.boot with tryNext := none, reload := false, mute := none } }

theorem State.resetEngine_eq (s : State) : s.resetEngine = s.engineCleared.engineReset := rfl

/-- What the reset of the engine ends and clears on a state without flights. -/
theorem State.engineCleared_spec {s : State} (h : ∀ q, (s.port q).flights = []) : ∃ u, s.engineCleared = u ∧
    u.pwr.cpRunning = false ∧ u.pwr.service = false ∧ u.pwr.causes = s.pwr.causes ∧ u.now = s.now ∧ u.pl.live = none ∧ u.ex = Exch.reset ∧
    u.mtx = Mtx.reset ∧ u.quiet ∧ u.boot.core = s.boot.core ∧ u.cfg = s.cfg ∧ u.tw = s.tw ∧ (u.port .D).ring = (s.port .D).ring := by
  obtain ⟨ref, ts, paused, Q, hlt, hres, hwork⟩ := State.restartPd1_rest h
  obtain ⟨v, hv⟩ : ∃ v : State, v = { s with
      ref := ref, ts := ts, ports := Q, hlt := hlt
      pwr := { s.pwr with cpRunning := false, service := false, pausedAt := paused, restarts := satAdd 16 s.pwr.restarts 1 } } := ⟨_, rfl⟩
  have hmoves := State.Moves.closeZones v (fun z => z != 0xC3) (fun _ => false)
  have hstep := State.FltStep.closeZones v (fun z => z != 0xC3) (fun _ => false)
  unfold State.engineCleared
  rw [hres.trans hv.symm]
  generalize v.closeZones (fun z => z != 0xC3) (fun _ => false) = u at *
  obtain ⟨a, ha⟩ := u.avsDisable_rest
  have hring : (u.port .D).ring = (s.port .D).ring := by
    obtain ⟨hsame, -⟩ := hmoves.silent (by rw [hv])
    refine (hsame .D).ring.trans ?_
    rw [show v.ports = Q by rw [hv]]
    exact (hwork .D).2
  have hquiet := (u.avsDisable.loseInterior).freshPstage_quiet
  obtain ⟨acc, hacc⟩ := State.resetAccess_rest (u.avsDisable.loseInterior).freshPstage [.net, .ts, .ref, .pst, .cmd]
  rw [ha] at hacc hquiet ⊢
  refine ⟨_, hacc, ?_, ?_, ?_, ?_, rfl, rfl, rfl, hquiet, ?_, ?_, ?_, hring⟩
  · show u.pwr.cpRunning = false
    rw [hmoves.pwr, hv]
  · show u.pwr.service = false
    rw [hmoves.pwr, hv]
  · show u.pwr.causes = _
    rw [hmoves.pwr, hv]
  · show u.now = _
    rw [hmoves.now, hv]
  · show u.boot.core = _
    rw [hmoves.boot, hv]
  · show u.cfg = _
    rw [hstep, hv]
  · show u.tw = _
    rw [hmoves.tw, hv]

/-! A reset by command: its answer comes first (19 R565, R574). -/

section
variable {s : State} {e : Env} {c : CmdInfo} {i : Instr}

/-- A command that is answered OK as its run begins, on a port without other commands. -/
theorem State.hostCmd_first (hm : s.meets i c) (hfl : ∀ q, (s.port q).flights = []) :
    ∃ P f n P', s.hostCmd i = State.serveN (n + 1) (State.runEnds c.env.port f.handle (runCmd (s.runCtx c f) i { s with ports := P })) ∧
      State.complete { s with ports := P } c.env.port f.handle .ok 0 [] = { s with ports := P' } ∧ f.tag = c.env.tag ∧
      f.handle = s.nextHandle c.env.port ∧ (∀ q, (P'.get q).flights = []) ∧
      (P'.get c.env.port).ring.map Entry.plain = (s.port c.env.port).ring.map Entry.plain ++
        (s.acceptOf c :: completeEntries f c.opcode .ok 0 []) := by
  obtain ⟨P, f, n, hP, hcmd, he⟩ := State.hostCmd_runs hm
  have hends := hP.ends hm (n := entriesOf []) (by decide)
  obtain ⟨P', hP', hcl, -⟩ := State.complete_ends hends .ok 0
  have hop : opcodeOf f.cmd = c.opcode := by
    unfold opcodeOf
    rw [hcmd, hm.info]
    rfl
  refine ⟨P, f, n, P', he, hP', hP.tag, hP.handle, fun q => ?_, ?_⟩
  · by_cases hq : q = c.env.port
    · rw [hq]
      refine hcl.flights.trans ?_
      rw [show ({ s with ports := P } : State).port c.env.port = P.get c.env.port from rfl, hP.flights,
        show s.ports.get c.env.port = s.port c.env.port from rfl, hfl]
      simp
    · refine (hcl.other q hq).trans ?_
      rw [show ({ s with ports := P } : State).port q = P.get q from rfl, hP.other q hq]
      exact hfl q
  · refine hcl.ring.trans ?_
    rw [hop, show ({ s with ports := P } : State).port c.env.port = P.get c.env.port from rfl, hP.ring, hP.handle, List.append_assoc]
    rfl

/-- The state in which a SOFT_RESET is noted and PD1 boots 1 ms later. -/
def State.softened (s : State) : State :=
  { s with pwr := { s.pwr with causes := { s.pwr.causes with soft := true }, bootAfter := s.now + 1000000 } }

theorem runSoftReset_eq (k : Ctx) (s : State) : runSoftReset k s = (.later,
    ((((s.complete k.port k.handle .ok 0 []).abortAll .aborted 0x0120).restartPd1).closeZones (· == 0x01) (fun _ => false)).softened) := rfl

/-- SOFT_RESET answers its command, and PD1 restarts alone. -/
theorem State.softReset_restarts (hm : s.meets (.softReset e) c) (hfl : ∀ q, (s.port q).flights = []) :
    ∃ t f, exec (.softReset e) s = .next t ∧ f.tag = c.env.tag ∧ f.handle = s.nextHandle c.env.port ∧
      (t.port c.env.port).ring.map Entry.plain = (s.port c.env.port).ring.map Entry.plain ++
        (s.acceptOf c :: completeEntries f c.opcode .ok 0 []) ∧
      t.pwr.cpRunning = false ∧ t.pwr.service = false ∧ t.pwr.causes = { s.pwr.causes with soft := true } ∧
      t.pwr.bootAfter = s.now + 1000000 ∧ t.pwr.restarts = satAdd 16 s.pwr.restarts 1 ∧ t.pl = s.pl ∧ t.per = s.per ∧
      t.ex.readHalf = s.ex.readHalf ∧ t.ex.writeHalf = s.ex.writeHalf ∧ t.avs = s.avs := by
  obtain ⟨P, f, n, P', he, hdone, htag, hhandle, hnone, hring⟩ := State.hostCmd_first hm hfl
  obtain ⟨ref, ts, paused, Q, hlt, hres, hwork⟩ := State.restartPd1_rest (s := { s with ports := P' }) hnone
  obtain ⟨v, hv⟩ : ∃ v : State, v = { s with
      ref := ref, ts := ts, ports := Q, hlt := hlt
      pwr := { s.pwr with cpRunning := false, service := false, pausedAt := paused, restarts := satAdd 16 s.pwr.restarts 1 } } := ⟨_, rfl⟩
  have hres' : State.restartPd1 { s with ports := P' } = v := hres.trans hv.symm
  have hmoves := State.Moves.closeZones v (· == 0x01) (fun _ => false)
  have hstep := State.FltStep.closeZones v (· == 0x01) (fun _ => false)
  have hrun : runCmd (s.runCtx c f) (.softReset e) { s with ports := P } =
      (.later, (v.closeZones (· == 0x01) (fun _ => false)).softened) := by
    refine (runSoftReset_eq _ _).trans ?_
    rw [show (s.runCtx c f).port = c.env.port from rfl, show (s.runCtx c f).handle = f.handle from rfl, hdone,
      State.abortAll_idle (s := { s with ports := P' }) hnone, hres']
  generalize v.closeZones (· == 0x01) (fun _ => false) = u at *
  have hpwr := hmoves.pwr
  have hserv : u.pwr.service = false := by rw [hpwr, hv]
  have hports : (u.port c.env.port).ring = (P'.get c.env.port).ring := by
    obtain ⟨hsame, -⟩ := hmoves.silent (by rw [hv])
    refine (hsame c.env.port).ring.trans ?_
    rw [show v.ports = Q by rw [hv]]
    exact (hwork c.env.port).2
  refine ⟨u.softened, f, congrArg Host.Outcome.next ?_, htag, hhandle, ?_, ?_, hserv, ?_, ?_, ?_, ?_, ?_, ?_, ?_, ?_⟩
  · rw [he, hrun]
    exact State.serveN_stopped (s := u.softened) hserv _
  · exact (congrArg (List.map Entry.plain) hports).trans hring
  · show u.pwr.cpRunning = false
    rw [hpwr, hv]
  · show { u.pwr.causes with soft := true } = _
    rw [hpwr, hv]
  · show u.now + 1000000 = _
    rw [hmoves.now, hv]
  · show u.pwr.restarts = _
    rw [hpwr, hv]
  · show u.pl = s.pl
    rw [hstep, hv]
  · show u.per = s.per
    rw [hstep, hv]
  · show u.ex.readHalf = _
    rw [hmoves.readHalf, hv]
  · show u.ex.writeHalf = _
    rw [hmoves.writeHalf, hv]
  · show u.avs = s.avs
    rw [hstep, hv]

/-- The state in which a CHIP_RESET is noted and the delay memory trains. -/
def State.chipped (s : State) : State :=
  { s with pwr := { s.pwr with causes := { s.pwr.causes with chip := true }, bootAfter := s.now + 1000000 }
           dm := ({ s.dm with rate := s.dm.cfgRate.getD s.dm.rate } : Dm).train }

theorem runChipReset_eq (k : Ctx) (s : State) : runChipReset k s =
    (.later, ((s.complete k.port k.handle .ok 0 []).abortAll .aborted 0x0120).engineCleared.engineReset.chipped) := by
  rw [← State.resetEngine_eq]
  unfold runChipReset State.chipped
  rfl

/-- CHIP_RESET answers its command, and everything but PD0 starts anew. -/
theorem State.chipReset_resets (hm : s.meets (.chipReset e) c) (hp : c.env.port = .D) (hfl : ∀ q, (s.port q).flights = []) :
    ∃ t f, exec (.chipReset e) s = .next t ∧ f.tag = c.env.tag ∧ f.handle = s.nextHandle c.env.port ∧
      t.ports.d.ring.map Entry.plain = s.ports.d.ring.map Entry.plain ++ (s.acceptOf c :: completeEntries f c.opcode .ok 0 []) ∧
      t.pwr.cpRunning = false ∧ t.pwr.causes = { s.pwr.causes with chip := true } ∧ t.pwr.bootAfter = s.now + 1000000 ∧
      t.pwr.coldBoot = true ∧ (∀ d, d < 14 → t.domOn d = true) ∧ t.pl.live = none ∧ t.ex = Exch.reset ∧ t.mtx = Mtx.reset ∧ t.net = Net.reset ∧
      t.quiet ∧ t.boot.recs = s.boot.recs ∧ t.boot.slots = s.boot.slots ∧ t.boot.log = s.boot.log ∧ t.cfg = s.cfg ∧ t.tw = s.tw := by
  obtain ⟨P, f, n, P', he, hdone, htag, hhandle, hnone, hring⟩ := State.hostCmd_first hm hfl
  obtain ⟨u, hu, hcp, hserv, hcauses, hnow, hlive, hex, hmtx, hquiet, hboot, hcfg, htw, hd⟩ :=
    State.engineCleared_spec (s := { s with ports := P' }) hnone
  have hrun : runCmd (s.runCtx c f) (.chipReset e) { s with ports := P } = (.later, u.engineReset.chipped) := by
    refine (runChipReset_eq _ _).trans ?_
    rw [show (s.runCtx c f).port = c.env.port from rfl, show (s.runCtx c f).handle = f.handle from rfl, hdone,
      State.abortAll_idle (s := { s with ports := P' }) hnone, hu]
  refine ⟨u.engineReset.chipped, f, congrArg Host.Outcome.next ?_, htag, hhandle, ?_, hcp, ?_, ?_, rfl, fun d hlt => ?_, hlive, hex, hmtx, rfl,
    hquiet, ?_, ?_, ?_, hcfg, htw⟩
  · rw [he, hrun]
    exact State.serveN_stopped (s := u.engineReset.chipped) hserv _
  · rw [hp] at hring
    exact (congrArg (List.map Entry.plain) hd).trans hring
  · show { u.pwr.causes with chip := true } = _
    rw [hcauses]
  · show u.now + 1000000 = _
    rw [hnow]
  · show decide (rd (Vector.replicate 14 DomSt.on) d = .on) = true
    rw [rd_replicate _ hlt]
    rfl
  · show u.boot.core.recs = _
    rw [hboot]
    rfl
  · show u.boot.core.slots = _
    rw [hboot]
    rfl
  · show u.boot.core.log = _
    rw [hboot]
    rfl

/-! ENGINE_RESTART (19 R566, R575). -/

theorem State.engineRestart_refused (hm : s.meets (.engineRestart e) c) (h : s.pl.st = .armed ∨ s.pl.st = .locked) :
    s.answers (.engineRestart e) c .rejectedState 0x00E7 [] s := by
  refine State.answers_of_run hm fun P f _ => ?_
  show runEngineRestart (s.runCtx c f) { s with ports := P } = _
  unfold runEngineRestart
  refine if_pos ?_
  rcases h with h | h <;> simp [h]

theorem State.engineRestart_starts (hm : s.meets (.engineRestart e) c) (ha : s.pl.st ≠ .armed) (hl : s.pl.st ≠ .locked)
    (hno : s.pwr.engRestart = none) : s.starts (.engineRestart e) c { s with
      pwr := { s.pwr with engRestart := some ⟨[(c.env.port, s.nextHandle c.env.port)], s.per.boundaries + 2⟩ }
      boot := { s.boot with mute := some ⟨s.per.boundaries + 2, [], none⟩ } } := by
  refine State.starts_of_run hm fun P f hP => ?_
  show runEngineRestart (s.runCtx c f) { s with ports := P } = _
  have hb : max (s.per.boundaries + 2) (s.per.boundaries + 1) = s.per.boundaries + 2 := Nat.max_eq_left (by omega)
  unfold runEngineRestart
  rw [if_neg (by simp [ha, hl])]
  dsimp only
  rw [hno]
  dsimp only
  rw [show (s.runCtx c f).acceptB = s.per.boundaries from rfl, hb, show (s.runCtx c f).handle = f.handle from rfl, hP.handle]
  rfl

/-! DEV_POWER_STATUS (19 R573, R574). -/

theorem Causes.clear_all (x : Causes) : x.clear 0xFF = ⟨false, false, false, false, false, false, false⟩ := by
  have hb : ∀ i, i < 8 → bit 0xFF i = true := by decide
  unfold Causes.clear
  simp (disch := decide) only [hb, Bool.not_true, Bool.and_false]

theorem State.powerStatus_reads (hm : s.meets (.devPowerStatus e false) c) : s.answers (.devPowerStatus e false) c .ok 0
    (resBytes [(4, s.pwr.resetCause), (4, s.pwr.domainReg), (4, s.pwr.clockReg), (1, s.avs.req), (1, s.avs.ack)]) s :=
  State.answers_of_run hm fun _ _ _ => rfl

theorem State.powerStatus_clears (hm : s.meets (.devPowerStatus e true) c) : s.answers (.devPowerStatus e true) c .ok 0
    (resBytes [(4, s.pwr.resetCause), (4, s.pwr.domainReg), (4, s.pwr.clockReg), (1, s.avs.req), (1, s.avs.ack)])
    { s with pwr := { s.pwr with causes := ⟨false, false, false, false, false, false, false⟩, restarts := 0, domFail := false } } := by
  refine State.hostCmd_done hm rfl .ok 0 _ _ (by simp [resBytes, leBytes_length]) hm.service rfl rfl fun P f _ _ => ?_
  rw [← Causes.clear_all s.pwr.causes]
  rfl

/-! DEV_DOMAIN_SET (19 R558, R559, R574). -/

section
variable {d on off : Nat} {p : Bool}

theorem maskDomains_pow (h : d < 14) : maskDomains (2 ^ d) = [d] := by
  have hall : ∀ k : Fin 14, maskDomains (2 ^ k.val) = [k.val] := by decide
  exact hall ⟨d, h⟩

theorem maskDomains_zero : maskDomains 0 = [] := by decide

theorem domMask_small (h : d < 14) : ¬ 0x3FFF < 2 ^ d := by
  have hp : 2 ^ d < 2 ^ 14 := Nat.pow_lt_pow_right (by decide) h
  omega

theorem domMask_aligned (h : 3 ≤ d) : 2 ^ d % 8 = 0 := Nat.mod_eq_zero_of_dvd (pow_dvd_pow 2 h : 2 ^ 3 ∣ 2 ^ d)

theorem State.domainSet_reserved (hm : s.meets (.devDomainSet e on off p) c) (hon : on < 2 ^ 14) (hoff : off < 2 ^ 14) (hand : on &&& off = 0)
    (hlow : (on ||| off) % 8 ≠ 0) : s.answers (.devDomainSet e on off p) c .rejectedArgs 0x0121 [] s := by
  refine State.answers_of_run hm fun P f _ => ?_
  show runDevDomainSet (s.runCtx c f) on off p { s with ports := P } = _
  unfold runDevDomainSet
  dsimp only
  rw [if_neg (by simp [hand]; omega), if_pos hlow]
  rfl

theorem State.domainSet_inUse (hm : s.meets (.devDomainSet e 0 (2 ^ d) false) c) (h3 : 3 ≤ d) (h : d < 14) (hu : s.domInUse d = true) :
    s.answers (.devDomainSet e 0 (2 ^ d) false) c .rejectedState 0x0122 [] s := by
  refine State.answers_of_run hm fun P f _ => ?_
  have huse : State.domInUse { s with ports := P } d = true := hu
  show runDevDomainSet (s.runCtx c f) 0 (2 ^ d) false { s with ports := P } = _
  unfold runDevDomainSet
  dsimp only
  rw [if_neg (by simp [domMask_small h]), Nat.zero_or, if_neg (not_not.mpr (domMask_aligned h3)), maskDomains_pow h, if_pos (by simp [huse])]
  rfl

theorem Pwr.ramping_false {x : Pwr} (h : ∀ j, rd x.dom j ≠ .rampOn ∧ rd x.dom j ≠ .rampOff) : x.ramping = false := by
  unfold Pwr.ramping
  rw [List.any_eq_false]
  intro j _
  simp [h j]

/-- A switching whose first domain does not stand in the wanted state makes it ramp. -/
theorem State.domRun_begins {x : DomCmd} {rest : List (Nat × Bool)} {b : Bool} {u : State} (n : Nat) (hr : s.pwr.ramping = false)
    (hc : s.pwr.domCmds = [x]) (hx : x.todo = (d, b) :: rest) (hi : s.domItem d b = (u, false)) : State.domRun (n + 1) s = u := by
  have hnext : nextSwitching [x] = some 0 := by
    unfold nextSwitching
    simp
  unfold State.domRun
  rw [hr, if_neg (by decide), hc, hnext]
  dsimp only [Option.bind_some, List.getElem?_cons_zero, Option.map_some]
  rw [hx]
  dsimp only
  rw [hi]
  rfl

/-- The state with a switching added. -/
def State.switchingAdded (s : State) (x : DomCmd) : State := { s with pwr := { s.pwr with domCmds := s.pwr.domCmds ++ [x] } }

theorem runDevDomainSet_later {k : Ctx} {u : State} (hr : ¬ (decide (0x3FFF < on) || decide (0x3FFF < off) || decide (on &&& off ≠ 0)) = true)
    (hl : (on ||| off) % 8 = 0) (hu : (maskDomains off).any (fun d => u.domInUse d || u.shadowUses d) = false)
    (ho : (maskDomains off).any (ownPath k) = false) (hramp : ∀ j, rd u.pwr.dom j ≠ .rampOn ∧ rd u.pwr.dom j ≠ .rampOff) :
    ∃ n, runDevDomainSet k on off false u = (.later, State.domRun (n + 1) (u.switchingAdded ⟨some (k.port, k.handle), false,
      (maskDomains off).map (fun d => (d, false)) ++ (maskDomains on).map (fun d => (d, true))⟩)) := by
  have hany : (maskDomains (on ||| off)).any (fun d => decide (rd u.pwr.dom d = .rampOn ∨ rd u.pwr.dom d = .rampOff)) = false := by
    rw [List.any_eq_false]
    intro j _
    simp [hramp j]
  unfold runDevDomainSet
  dsimp only
  rw [if_neg hr, if_neg (not_not.mpr hl), hu, if_neg (by decide), ho, if_neg (by decide), hany, if_neg (by decide), Bool.false_and,
    if_neg (by decide)]
  exact ⟨_, rfl⟩

theorem State.domItem_on (h : rd s.pwr.dom d = .off) : s.domItem d true = (s.setDom d .rampOn, false) := by
  unfold State.domItem
  rw [h]

theorem State.domItem_off (h : rd s.pwr.dom d = .on) : s.domItem d false = ((s.domStop d).setDom d .rampOff, false) := by
  unfold State.domItem
  rw [h]

theorem State.setDom_added {x : DomCmd} (hno : s.pwr.domCmds = []) (v : DomSt) : (s.switchingAdded x).setDom d v =
    { s with pwr := { s.pwr with dom := wr s.pwr.dom d v, domCmds := [x] } } := by
  show { s with pwr := { s.pwr with dom := wr s.pwr.dom d v, domCmds := s.pwr.domCmds ++ [x] } } = _
  rw [hno, List.nil_append]

theorem State.domainSet_on (hm : s.meets (.devDomainSet e (2 ^ d) 0 false) c) (h3 : 3 ≤ d) (h : d < 14)
    (hramp : ∀ j, rd s.pwr.dom j ≠ .rampOn ∧ rd s.pwr.dom j ≠ .rampOff) (hno : s.pwr.domCmds = []) (hoff : rd s.pwr.dom d = .off) :
    s.starts (.devDomainSet e (2 ^ d) 0 false) c { s with pwr := { s.pwr with
      dom := wr s.pwr.dom d .rampOn, domCmds := [⟨some (c.env.port, s.nextHandle c.env.port), false, [(d, true)]⟩] } } := by
  refine State.starts_of_run hm fun P f hP => ?_
  obtain ⟨n, hn⟩ := runDevDomainSet_later (k := s.runCtx c f) (u := { s with ports := P }) (on := 2 ^ d) (off := 0)
    (by simp [domMask_small h]) (by rw [Nat.or_zero]; exact domMask_aligned h3) (by rw [maskDomains_zero]; rfl) (by rw [maskDomains_zero]; rfl) hramp
  refine hn.trans (congrArg (Prod.mk Done.later) ?_)
  rw [maskDomains_zero, maskDomains_pow h, show (s.runCtx c f).handle = f.handle from rfl, hP.handle]
  have hset := State.setDom_added (s := { s with ports := P }) (d := d) (x := ⟨some (c.env.port, s.nextHandle c.env.port), false, [(d, true)]⟩)
    hno .rampOn
  refine Eq.trans ?_ hset
  refine State.domRun_begins n (Pwr.ramping_false hramp) ?_ (x := ⟨some (c.env.port, s.nextHandle c.env.port), false, [(d, true)]⟩) rfl
    (State.domItem_on hoff)
  exact (congrArg (· ++ [_]) hno).trans (List.nil_append _)

/-! A quadrant that goes off (18 R539, 19 R560). -/

theorem foldl_reaches {α β : Type} {Q : α → Prop} {g : α → β → α} (hg : ∀ a b, Q a → Q (g a b)) {x : β} (hx : ∀ a, Q (g a x)) {l : List β}
    (hl : x ∈ l) (a : α) : Q (l.foldl g a) := by
  induction l generalizing a with
  | nil => exact absurd hl List.not_mem_nil
  | cons b l ih =>
    rcases List.mem_cons.mp hl with rfl | h
    · exact foldl_inv hg l (hx a)
    · exact ih h _

/-- A tile of a quadrant that goes off. -/
def State.tileGone (s : State) (k : Nat) : State :=
  s.setTile k { (s.tile k).absent with x := [], y := [], ecc := [], pLive := [], pShadow := [], l := Lateness.reset, slk := Slack.reset }

theorem State.tileGone_run (s : State) {k : Nat} (h : k < 68) : ((s.tileGone k).tile k).run = .absent := by
  unfold State.tileGone
  rw [State.tile_setTile_same _ _ _ h]
  rfl

theorem State.tileGone_keeps {s : State} {k j : Nat} (h : (s.tile j).run = .absent) : ((s.tileGone k).tile j).run = .absent := by
  unfold State.tileGone State.tile
  show (rd (wr s.tiles k _) j).run = _
  rw [rd_wr]
  split
  · rfl
  · exact h

/-- The tiles of a quadrant gone. -/
def State.tilesGone (s : State) (q : Nat) : State := (List.range 17).foldl (fun s i => s.tileGone (17 * q + i)) s

theorem State.tilesGone_run (s : State) {q i : Nat} (hq : q < 4) (hi : i < 17) : ((s.tilesGone q).tile (17 * q + i)).run = .absent :=
  foldl_reaches (Q := fun u : State => (u.tile (17 * q + i)).run = .absent) (fun _ _ h => State.tileGone_keeps h)
    (fun u => u.tileGone_run (by omega)) (List.mem_range.mpr hi) s

theorem State.tileGone_ports (s : State) (k : Nat) (P : Ports) :
    State.tileGone { s with ports := P } k = { s.tileGone k with ports := P } := rfl

theorem State.tilesGone_rest (s : State) (q : Nat) : ∃ T, ∀ P : Ports, State.tilesGone { s with ports := P } q = { s with tiles := T, ports := P } := by
  unfold State.tilesGone
  induction List.range 17 generalizing s with
  | nil => exact ⟨s.tiles, fun _ => rfl⟩
  | cons i l ih =>
    obtain ⟨T, hT⟩ := ih (s.tileGone (17 * q + i))
    refine ⟨T, fun P => ?_⟩
    rw [List.foldl_cons, State.tileGone_ports]
    exact hT P

theorem State.abortTest_free {q : Nat} (hm : (s.quad q).mig = none) (ht : (s.quad q).test = none) :
    s.abortTest q = s.setQuad q { (s.quad q) with test := none, mig := none } := by
  unfold State.abortTest
  dsimp only
  rw [ht, hm]

theorem State.quadOff_free {q : Nat} (hm : (s.quad q).mig = none) (ht : (s.quad q).test = none) :
    s.quadOff q = (((s.setQuad q { (s.quad q) with test := none, mig := none }).tilesGone q).setQuad q ⟨.none_, none, none, none⟩).gradeSpare := by
  unfold State.quadOff
  rw [hm]
  dsimp only
  rw [State.abortTest_free hm ht]
  rfl

theorem State.closeZones_idle (hc : s.flt.conds = []) (he : ∀ i, i < 16 → (s.ep i).isOpen = false) (z : Nat → Bool) (keep : Episode → Bool) :
    s.closeZones z keep = s := by
  have hset : s.setFlt { s.flt with conds := s.flt.conds.filter (fun c => !z c.zone) } = s := by
    unfold State.setFlt
    rw [hc, List.filter_nil, ← hc]
  unfold State.closeZones
  dsimp only
  rw [hset]
  refine foldl_idle _ fun i hi => ?_
  rw [he i (List.mem_range.mp hi)]
  rfl

theorem State.domStop_quad (h6 : 6 ≤ d) (h10 : d < 10) :
    s.domStop d = (s.quadOff (d - 6)).closeZones (fun z => zoneDomain z == some d) (fun _ => false) := by
  interval_cases d <;> rfl

/-- The quadrant without its tiles, its tests and its spare. -/
def State.quadEmptied (s : State) (q : Nat) : State :=
  ((s.setQuad q { (s.quad q) with test := none, mig := none }).tilesGone q).setQuad q ⟨.none_, none, none, none⟩

theorem State.quadEmptied_rest (s : State) (q : Nat) : ∃ T H, ∀ P : Ports, State.quadEmptied { s with ports := P } q =
    { s with tiles := T, hlt := H, ports := P } := by
  obtain ⟨T, hT⟩ := State.tilesGone_rest (s.setQuad q { (s.quad q) with test := none, mig := none }) q
  refine ⟨T, ((s.setQuad q { (s.quad q) with test := none, mig := none }).setQuad q ⟨.none_, none, none, none⟩).hlt, fun P => ?_⟩
  show State.setQuad (State.tilesGone { s.setQuad q { (s.quad q) with test := none, mig := none } with ports := P } q) q _ = _
  rw [hT P]
  rfl

theorem State.quadEmptied_run (s : State) {q i : Nat} (hq : q < 4) (hi : i < 17) : ((s.quadEmptied q).tile (17 * q + i)).run = .absent := by
  unfold State.quadEmptied State.tile
  rw [State.setQuad_tiles]
  exact State.tilesGone_run _ hq hi

theorem State.PortsMap.quadEmptied (s : State) (q : Nat) : s.PortsMap (fun u => u.quadEmptied q) := by
  obtain ⟨T, H, hrest⟩ := s.quadEmptied_rest q
  exact State.PortsMap.pure fun P => (hrest P).trans (by rw [show s.quadEmptied q = _ from hrest s.ports])

theorem State.PortsMap.gradeSpare (s : State) : s.PortsMap State.gradeSpare := by
  obtain ⟨f, hf, hk⟩ := s.setGrade_ports 5 (min s.noneCount 2)
  have hself : s.gradeSpare = { s.gradeSpare with ports := f s.ports } := hf s.ports
  refine ⟨f, hf, fun P => ⟨(hk P).1, (hk P).2.1, (hk P).2.2.1, (hk P).2.2.2⟩⟩

theorem State.gradeSpare_rest (s : State) : ∃ P H, s.gradeSpare = { s with ports := P, hlt := H } := by
  unfold State.gradeSpare State.setGrade
  split
  · exact ⟨s.ports, s.hlt, rfl⟩
  · obtain ⟨f, hf, -⟩ := State.event_ports { s with hlt := { s.hlt with grades := wr s.hlt.grades 5 (min s.noneCount 2) } } 9
    exact ⟨_, _, hf s.ports⟩

/-- A switching that takes the domain of a quadrant off. -/
def State.quadSwitchedOff (s : State) (x : DomCmd) (d : Nat) : State :=
  ((s.switchingAdded x).quadEmptied (d - 6)).gradeSpare.setDom d .rampOff

theorem State.PortsMap.setDom (s : State) (d : Nat) (v : DomSt) : s.PortsMap (fun u => u.setDom d v) := State.PortsMap.pure fun _ => rfl

theorem State.PortsMap.quadSwitchedOff (s : State) (x : DomCmd) (d : Nat) : s.PortsMap (fun u => u.quadSwitchedOff x d) := by
  have hadd : s.PortsMap (fun u => u.switchingAdded x) := State.PortsMap.pure fun _ => rfl
  have hempty := hadd.comp (op' := fun u => u.quadEmptied (d - 6)) (State.PortsMap.quadEmptied _ (d - 6))
  have hgrade := hempty.comp (op' := State.gradeSpare) (State.PortsMap.gradeSpare _)
  exact hgrade.comp (op' := fun u => u.setDom d .rampOff) (State.PortsMap.setDom _ d .rampOff)

theorem State.quadSwitchedOff_rest (s : State) (x : DomCmd) (d : Nat) : ∃ T H P, s.quadSwitchedOff x d = { s with
    tiles := T, hlt := H, ports := P, pwr := { s.pwr with dom := wr s.pwr.dom d .rampOff, domCmds := s.pwr.domCmds ++ [x] } } := by
  obtain ⟨T, H, he⟩ := (s.switchingAdded x).quadEmptied_rest (d - 6)
  obtain ⟨P, H', hg⟩ := ((s.switchingAdded x).quadEmptied (d - 6)).gradeSpare_rest
  refine ⟨T, H', P, ?_⟩
  show ((s.switchingAdded x).quadEmptied (d - 6)).gradeSpare.setDom d .rampOff = _
  rw [hg, show (s.switchingAdded x).quadEmptied (d - 6) = _ from he s.ports]
  rfl

theorem State.quadSwitchedOff_run (s : State) (x : DomCmd) {d i : Nat} (h6 : 6 ≤ d) (h10 : d < 10) (hi : i < 17) :
    ((s.quadSwitchedOff x d).tile (17 * (d - 6) + i)).run = .absent := by
  obtain ⟨P, H', hg⟩ := ((s.switchingAdded x).quadEmptied (d - 6)).gradeSpare_rest
  have htile : (s.quadSwitchedOff x d).tile (17 * (d - 6) + i) = ((s.switchingAdded x).quadEmptied (d - 6)).tile (17 * (d - 6) + i) := by
    unfold State.quadSwitchedOff
    generalize (s.switchingAdded x).quadEmptied (d - 6) = v at hg
    rw [hg]
    rfl
  rw [htile]
  exact State.quadEmptied_run (s.switchingAdded x) (by omega) hi

theorem State.domStop_free (h6 : 6 ≤ d) (h10 : d < 10) (hm : (s.quad (d - 6)).mig = none) (ht : (s.quad (d - 6)).test = none)
    (hc : s.flt.conds = []) (he : ∀ i, i < 16 → (s.ep i).isOpen = false) : s.domStop d = (s.quadEmptied (d - 6)).gradeSpare := by
  have hoff : s.quadOff (d - 6) = (s.quadEmptied (d - 6)).gradeSpare := State.quadOff_free hm ht
  obtain ⟨T, H, hrest⟩ := s.quadEmptied_rest (d - 6)
  obtain ⟨P, H', hg⟩ := (s.quadEmptied (d - 6)).gradeSpare_rest
  have hflt : (s.quadEmptied (d - 6)).gradeSpare.flt = s.flt := by
    rw [hg, show s.quadEmptied (d - 6) = _ from hrest s.ports]
  rw [State.domStop_quad h6 h10, hoff]
  refine State.closeZones_idle (by rw [hflt, hc]) (fun i hi => ?_) _ _
  unfold State.ep
  rw [hflt]
  exact he i hi

theorem ownPath_quad {k : Ctx} (hk : k.port ≠ .C) (h10 : d < 10) : ownPath k d = false := by
  unfold ownPath
  cases hp : k.port with
  | A => exact beq_false_of_ne (by omega)
  | B => exact beq_false_of_ne (by omega)
  | C => exact absurd hp hk
  | D => rfl

theorem State.domainSet_quadOff (hm : s.meets (.devDomainSet e 0 (2 ^ d) false) c) (h6 : 6 ≤ d) (h10 : d < 10)
    (hramp : ∀ j, rd s.pwr.dom j ≠ .rampOn ∧ rd s.pwr.dom j ≠ .rampOff) (hno : s.pwr.domCmds = []) (hon : rd s.pwr.dom d = .on)
    (hlive : s.pl.live = none) (hempty : s.pl.st = .empty) (hmig : (s.quad (d - 6)).mig = none) (htest : (s.quad (d - 6)).test = none)
    (hc : s.flt.conds = []) (he : ∀ i, i < 16 → (s.ep i).isOpen = false) : ∃ u, s.starts (.devDomainSet e 0 (2 ^ d) false) c u ∧
      rd u.pwr.dom d = .rampOff ∧ (∀ j, j ≠ d → rd u.pwr.dom j = rd s.pwr.dom j) ∧ (∀ i, i < 17 → (u.tile (17 * (d - 6) + i)).run = .absent) := by
  obtain ⟨x, hx⟩ : ∃ x : DomCmd, x = ⟨some (c.env.port, s.nextHandle c.env.port), false, [(d, false)]⟩ := ⟨_, rfl⟩
  obtain ⟨T, H, Q, hrest⟩ := s.quadSwitchedOff_rest x d
  refine ⟨s.quadSwitchedOff x d, State.starts_of_map hm (State.PortsMap.quadSwitchedOff s x d) (fun P f hP => ?_) (by rw [hrest]), ?_, fun j hj => ?_,
    fun i hi => s.quadSwitchedOff_run x h6 h10 hi⟩
  · obtain ⟨n, hn⟩ := runDevDomainSet_later (k := s.runCtx c f) (u := { s with ports := P }) (on := 0) (off := 2 ^ d)
      (by simp [domMask_small (show d < 14 by omega)]) (by rw [Nat.zero_or]; exact domMask_aligned (by omega))
      (by rw [maskDomains_pow (by omega)]; simp [State.domInUse, State.shadowUses, hlive, hempty])
      (by rw [maskDomains_pow (by omega)]; simp [ownPath_quad (k := s.runCtx c f) hm.ring h10]) hramp
    refine hn.trans (congrArg (Prod.mk Done.later) ?_)
    rw [maskDomains_zero, maskDomains_pow (by omega), show (s.runCtx c f).handle = f.handle from rfl, hP.handle]
    show State.domRun (n + 1) (State.switchingAdded { s with ports := P } ⟨some (c.env.port, s.nextHandle c.env.port), false, [(d, false)]⟩) = _
    rw [← hx]
    have hcmds : (State.switchingAdded { s with ports := P } x).pwr.domCmds = [x] := by
      show s.pwr.domCmds ++ [x] = [x]
      rw [hno, List.nil_append]
    have hstop := State.domStop_free (s := State.switchingAdded { s with ports := P } x) h6 h10 hmig htest hc he
    refine (State.domRun_begins (s := State.switchingAdded { s with ports := P } x) n (Pwr.ramping_false hramp) hcmds (by rw [hx])
      (State.domItem_off hon)).trans ?_
    rw [hstop]
    rfl
  · rw [hrest]
    exact rd_wr_same _ _ _ (by omega)
  · rw [hrest]
    exact rd_wr_other _ _ _ _ (Ne.symm hj)

end

/-- Settles O56: each command runs on its own. A soft and a chip reset end no command but their own, since none is in flight, and
what the restart leaves is what it starts from; an engine restart and a switching stay in flight, the switching with its first
domain ramping. -/
theorem powerCommands : Obligations.PowerCommands := by
  intro s e c
  refine ⟨fun hm hfl => ?_, fun hm hp hfl => ?_, fun b hm ha hl hno hb => ?_, fun hm h => ?_, fun d hm h3 h14 hramp hno hoff => ?_,
    fun d hm h6 h10 hramp hno hon hlive hempty hmig htest hc he => ?_, fun on off p hm hon hoff hand hlow => ?_, fun d hm h3 h14 hu => ?_,
    fun hm => ?_, fun hm => ?_⟩
  case refine_1 =>
    have h := State.softReset_restarts hm hfl
    cases hm.info
    exact h
  case refine_2 =>
    have h := State.chipReset_resets hm (by cases hm.info; exact hp) hfl
    cases hm.info
    exact h
  case refine_3 =>
    have h := State.engineRestart_starts hm ha hl hno
    subst hb
    cases hm.info
    exact h
  case refine_4 => exact State.engineRestart_refused hm h
  case refine_5 =>
    have hs := State.domainSet_on hm h3 h14 hramp hno hoff
    cases hm.info
    exact hs
  case refine_6 => exact State.domainSet_quadOff hm h6 h10 hramp hno hon hlive hempty hmig htest hc he
  case refine_7 => exact State.domainSet_reserved hm hon hoff hand hlow
  case refine_8 => exact State.domainSet_inUse hm h3 h14 hu
  case refine_9 => exact State.powerStatus_reads hm
  case refine_10 => exact State.powerStatus_clears hm

end

end Sys2Proof.Machine
end

section
/-!
SUPPORT. The commands of health and self-test (18 R538 to R550): settles O54.
-/
namespace Sys2Proof.Machine
-- Proofs checked one at a time, which bounds the memory that the whole text takes.
set_option Elab.async false

section
variable {s : State} {e : Env} {c : CmdInfo} {k id n mask addr : Nat}

/-! Reports (18 R549, R550). -/

theorem resBytes_map_length {α : Type} (n : Nat) (f : α → Nat) (l : List α) : (resBytes (l.map (fun a => (n, f a)))).length = l.length * n := by
  rw [resBytes_length, List.map_map]
  simp [Function.comp_def]

theorem State.healthStatus_reads (hm : s.meets (.healthStatus e) c) : s.answers (.healthStatus e) c .ok 0
    (resBytes ([(4, s.hltHealth), (2, s.hlt.eolYears), (8, s.hlt.stress), sfld 4 ((s.hlt.samples.getLast?.map (·.2)).getD 0)] ++
      (List.range 4).map (fun q => (4, s.hltQuad q)) ++ (List.range 68).map (fun b => (1, s.carrierOf b)) ++ [(2, s.hlt.eolLow)] ++
      (List.range 4).map (fun q => (4, ((rd s.hlt.ecc q).filter (fun x => decide (s.now < x.1 + 86400000000000))).length)) ++
      (List.range 8).map (fun i => (2, (rd s.hlt.eyes i).getD 0xFFFF)) ++
      s.boot.areaErases.map (fun n => (4, n)) ++ [(1, 128 - s.boot.otp), (1, s.boot.keysLeft), (1, s.noneCount), (8, s.hlt.lastSweep)])) s := by
  refine State.answers_of_run hm (fun P f _ => rfl) ?_
  simp only [resBytes_append, List.length_append, resBytes_map_length, List.length_range]
  simp [resBytes, leBytes_length, sfld, Boot.areaErases, Boot.areas]

theorem State.ageingReport_writes (hm : s.meets (.ageingReport e addr) c) (hp : e.port = .A ∨ e.port = .B) :
    s.answers (.ageingReport e addr) c .ok 0 [] (s.hostWrite e.port addr (ageingBytes s.hlt)) := by
  have hbuf : ¬ noBuf e.port = true := by
    rcases hp with h | h <;> simp [h, noBuf]
  cases hm.info
  refine State.answers_of_writing_run hm fun P f _ => ?_
  exact if_neg hbuf

/-! Tests and migrations (18 R538, R542, R543). -/

theorem runSelftestTile_ready {x : Ctx} (hk : k ≤ 67) (ho : s.outOfService k = false) (ht : s.underTest k = false)
    (hr : (s.quad (quadOf k)).st = .ready) : runSelftestTile x k s = (.later, s.serveTest k (some (x.port, x.handle)) none) := by
  unfold runSelftestTile
  rw [if_neg (Nat.not_lt.mpr hk), ho, ht, if_neg (by decide), if_pos (decide_eq_true hr)]

theorem State.selftestTile_tests (hm : s.meets (.selftestTile e k) c) (hk : k ≤ 67) (ho : s.outOfService k = false)
    (ht : s.underTest k = false) (hr : (s.quad (quadOf k)).st = .ready) (hw : s.workOf k = none) :
    s.starts (.selftestTile e k) c (s.setQuad (quadOf k)
      ⟨.testing, some k, none, some ⟨k, some (c.env.port, s.nextHandle c.env.port), none⟩⟩) := by
  refine State.starts_of_run hm fun P f hP => ?_
  refine (runSelftestTile_ready (s := { s with ports := P }) hk ho ht hr).trans (congrArg (Prod.mk Done.later) ?_)
  unfold State.serveTest
  rw [if_neg (by rw [show State.workOf { s with ports := P } k = s.workOf k from rfl, hw]; decide),
    show (s.runCtx c f).handle = f.handle from rfl, hP.handle]
  rfl

theorem State.selftestTile_migrates {w : Nat × TileProg} (hm : s.meets (.selftestTile e k) c) (hk : k ≤ 67) (ho : s.outOfService k = false)
    (ht : s.underTest k = false) (hr : (s.quad (quadOf k)).st = .ready) (hw : s.workOf k = some w) :
    s.starts (.selftestTile e k) c (s.setQuad (quadOf k) { s.quad (quadOf k) with
      st := .migrating, mig := some ⟨k, .test, 1, s.per.boundaries + 1, some (c.env.port, s.nextHandle c.env.port), none⟩ }) := by
  refine State.starts_of_run hm fun P f hP => ?_
  refine (runSelftestTile_ready (s := { s with ports := P }) hk ho ht hr).trans (congrArg (Prod.mk Done.later) ?_)
  unfold State.serveTest
  rw [if_pos (by rw [show State.workOf { s with ports := P } k = s.workOf k from rfl, hw]; rfl),
    show (s.runCtx c f).handle = f.handle from rfl, hP.handle]
  rfl

theorem runSelftestTile_busy {x : Ctx} (hk : k ≤ 67) (ho : s.outOfService k = false) (ht : s.underTest k = false)
    (hr : (s.quad (quadOf k)).st ≠ .ready) : runSelftestTile x k s =
      if !x.flags.getLsbD 2 then (.fail .deferred 0x0110, s)
      else if 16 ≤ (s.hlt.held.filter (fun h => h.state == 0)).length then (.fail .resource 0x0112, s)
      else (.done .deferred 0x0110 (testResult 0 0 s.hlt.nextId),
        { s with hlt := { s.hlt with held := s.hlt.held ++ [⟨s.hlt.nextId, k, 0⟩], nextId := s.hlt.nextId + 1 } }) := by
  unfold runSelftestTile
  rw [if_neg (Nat.not_lt.mpr hk), ho, ht, if_neg (by decide), if_neg (fun h => hr (of_decide_eq_true h))]

theorem State.selftestTile_deferred (hm : s.meets (.selftestTile e k) c) (hk : k ≤ 67) (ho : s.outOfService k = false)
    (ht : s.underTest k = false) (hr : (s.quad (quadOf k)).st ≠ .ready) (hf : c.env.flags.getLsbD 2 = false) :
    s.answers (.selftestTile e k) c .deferred 0x0110 [] s := by
  refine State.answers_of_run hm fun P f _ => ?_
  refine (runSelftestTile_busy (s := { s with ports := P }) hk ho ht hr).trans ?_
  rw [show (s.runCtx c f).flags.getLsbD 2 = false from hf]
  rfl

theorem State.selftestTile_held (hm : s.meets (.selftestTile e k) c) (hk : k ≤ 67) (ho : s.outOfService k = false)
    (ht : s.underTest k = false) (hr : (s.quad (quadOf k)).st ≠ .ready) (hf : c.env.flags.getLsbD 2 = true) (hl : s.hlt.held.length < 16) :
    s.answers (.selftestTile e k) c .deferred 0x0110 (resBytes [(1, 0), (1, 0), (4, s.hlt.nextId)])
      { s with hlt := { s.hlt with held := s.hlt.held ++ [⟨s.hlt.nextId, k, 0⟩], nextId := s.hlt.nextId + 1 } } := by
  refine State.answers_of_run hm fun P f _ => ?_
  have hfew : ¬ 16 ≤ (s.hlt.held.filter (fun h => h.state == 0)).length :=
    Nat.not_le.mpr ((List.length_filter_le (fun h : HeldTest => h.state == 0) s.hlt.held).trans_lt hl)
  refine (runSelftestTile_busy (s := { s with ports := P }) hk ho ht hr).trans ?_
  rw [show (s.runCtx c f).flags.getLsbD 2 = true from hf, if_neg (by decide), if_neg hfew]
  rfl

theorem State.selftestResult_reads {x : HeldTest} (hm : s.meets (.selftestResult e id) c) (hx : s.hlt.held.find? (fun y => y.id == id) = some x) :
    s.answers (.selftestResult e id) c .ok 0 (resBytes [(1, x.state)]) s := by
  refine State.answers_of_run hm fun P f _ => ?_
  show runSelftestResult (s.runCtx c f) id { s with ports := P } = _
  unfold runSelftestResult
  rw [hx]
  rfl

theorem State.selftestResult_unknown (hm : s.meets (.selftestResult e id) c) (hx : s.hlt.held.find? (fun y => y.id == id) = none) :
    s.answers (.selftestResult e id) c .rejectedArgs 0x0115 [] s := by
  refine State.answers_of_run hm fun P f _ => ?_
  show runSelftestResult (s.runCtx c f) id { s with ports := P } = _
  unfold runSelftestResult
  rw [hx]
  rfl

theorem runTileMigrate_checked {x : Ctx} (hk : k ≤ 67) (ho : s.outOfService k = false) (ht : s.underTest k = false) : runTileMigrate x k s =
    if (s.workOf k).isNone then (.fail .rejectedState 0x0116, s)
    else if (s.quad (quadOf k)).st = .ready then (.later, s.startMig k .host (some (x.port, x.handle)) none)
    else (.fail .deferred 0x0110, s) := by
  unfold runTileMigrate
  rw [if_neg (Nat.not_lt.mpr hk), ho, ht, if_neg (by decide)]

theorem State.tileMigrate_starts {w : Nat × TileProg} (hm : s.meets (.tileMigrate e k) c) (hk : k ≤ 67) (ho : s.outOfService k = false)
    (ht : s.underTest k = false) (hw : s.workOf k = some w) (hr : (s.quad (quadOf k)).st = .ready) :
    s.starts (.tileMigrate e k) c (s.setQuad (quadOf k) { s.quad (quadOf k) with
      st := .migrating, mig := some ⟨k, .host, 1, s.per.boundaries + 1, some (c.env.port, s.nextHandle c.env.port), none⟩ }) := by
  refine State.starts_of_run hm fun P f hP => ?_
  refine (runTileMigrate_checked (s := { s with ports := P }) hk ho ht).trans ?_
  refine (if_neg (fun h => ?_)).trans ((if_pos hr).trans ?_)
  · rw [show State.workOf { s with ports := P } k = some w from hw] at h
    exact absurd h (by simp)
  · rw [show (s.runCtx c f).handle = f.handle from rfl, hP.handle]
    rfl

theorem State.tileMigrate_deferred {w : Nat × TileProg} (hm : s.meets (.tileMigrate e k) c) (hk : k ≤ 67) (ho : s.outOfService k = false)
    (ht : s.underTest k = false) (hw : s.workOf k = some w) (hr : (s.quad (quadOf k)).st ≠ .ready) :
    s.answers (.tileMigrate e k) c .deferred 0x0110 [] s := by
  refine State.answers_of_run hm fun P f _ => ?_
  refine (runTileMigrate_checked (s := { s with ports := P }) hk ho ht).trans ?_
  refine (if_neg (fun h => ?_)).trans (if_neg hr)
  rw [show State.workOf { s with ports := P } k = some w from hw] at h
  exact absurd h (by simp)

theorem State.tileMigrate_idle (hm : s.meets (.tileMigrate e k) c) (hk : k ≤ 67) (ho : s.outOfService k = false)
    (ht : s.underTest k = false) (hw : s.workOf k = none) : s.answers (.tileMigrate e k) c .rejectedState 0x0116 [] s := by
  refine State.answers_of_run hm fun P f _ => ?_
  refine (runTileMigrate_checked (s := { s with ports := P }) hk ho ht).trans (if_pos ?_)
  rw [show State.workOf { s with ports := P } k = none from hw]
  rfl

/-! Cancelling (18 R549). -/

/-- The held requests of a number dropped. -/
def heldDropped (id : Nat) (hs : List HeldTest) : List HeldTest := hs.map (fun y => if y.id = id then { y with state := 4 } else y)

theorem heldDropped_twice (id : Nat) (hs : List HeldTest) : heldDropped id (heldDropped id hs) = heldDropped id hs := by
  unfold heldDropped
  rw [List.map_map]
  refine List.map_congr_left fun y _ => ?_
  by_cases h : y.id = id <;> simp [h]

/-- The state with its held requests of a number dropped. -/
def State.dropped (s : State) (id : Nat) : State := { s with hlt := { s.hlt with held := heldDropped id s.hlt.held } }

theorem State.dropped_twice (s : State) (id : Nat) : (s.dropped id).dropped id = s.dropped id := by
  unfold State.dropped
  rw [heldDropped_twice]

theorem State.drop_all {l : List HeldTest} (hl : ∀ x ∈ l, x.id = id) (hne : l ≠ []) (u : State) :
    l.foldl (fun v x => v.heldState (some x.id) 4) u = u.dropped id := by
  induction l generalizing u with
  | nil => exact absurd rfl hne
  | cons x l ih =>
    rw [List.foldl_cons, hl x List.mem_cons_self, show u.heldState (some id) 4 = u.dropped id from rfl]
    cases l with
    | nil => rfl
    | cons y l => rw [ih (fun z hz => hl z (List.mem_cons_of_mem _ hz)) (by simp), State.dropped_twice]

/-- What SELFTEST_CANCEL by number drops. -/
def heldOf (hs : List HeldTest) (id : Nat) : List HeldTest := hs.filter (fun h => h.state == 0 && h.id == id)

theorem runSelftestCancel_free {x : Ctx} (hf : ∀ q, (s.quad q).mig = none ∧ (s.quad q).test = none) : runSelftestCancel x false id s =
    if (heldOf s.hlt.held id).isEmpty && !s.hlt.held.any (fun h => h.id == id) then (.fail .rejectedArgs 0x0115, s)
    else (.ok [], (heldOf s.hlt.held id).foldl (fun v x => v.heldState (some x.id) 4) s) := by
  unfold runSelftestCancel
  simp only [hf, Bool.or_self, List.filter_false, List.isEmpty_nil, Bool.and_true, Bool.false_and, Bool.not_false, Bool.true_and, List.foldl_nil,
    Bool.false_eq_true, if_false]
  rfl

theorem State.selftestCancel_drops {x : HeldTest} (hm : s.meets (.selftestCancel e false id) c) (hx : x ∈ s.hlt.held) (hid : x.id = id)
    (h0 : x.state = 0) (hf : ∀ q, (s.quad q).mig = none ∧ (s.quad q).test = none) :
    s.answers (.selftestCancel e false id) c .ok 0 [] (s.dropped id) := by
  have hmem : x ∈ heldOf s.hlt.held id := List.mem_filter.mpr ⟨hx, by simp [hid, h0]⟩
  have hne : heldOf s.hlt.held id ≠ [] := List.ne_nil_of_mem hmem
  have hids : ∀ y ∈ heldOf s.hlt.held id, y.id = id := fun y hy => eq_of_beq (Bool.and_eq_true_iff.mp (List.mem_filter.mp hy).2).2
  refine State.answers_of_run hm fun P f _ => ?_
  refine (runSelftestCancel_free (s := { s with ports := P }) (x := s.runCtx c f) hf).trans ?_
  rw [if_neg (by simp [hne])]
  exact congrArg (Prod.mk _) (State.drop_all hids hne _)

theorem State.selftestCancel_unknown (hm : s.meets (.selftestCancel e false id) c) (hno : ∀ x ∈ s.hlt.held, x.id ≠ id)
    (hf : ∀ q, (s.quad q).mig = none ∧ (s.quad q).test = none) :
    s.answers (.selftestCancel e false id) c .rejectedArgs 0x0115 [] s := by
  have hnone : heldOf s.hlt.held id = [] := List.filter_eq_nil_iff.mpr fun y hy => by simp [hno y hy]
  have hany : s.hlt.held.any (fun h => h.id == id) = false := List.any_eq_false.mpr fun y hy => by simp [hno y hy]
  refine State.answers_of_run hm fun P f _ => ?_
  refine (runSelftestCancel_free (s := { s with ports := P }) (x := s.runCtx c f) hf).trans ?_
  rw [if_pos (by simp [hnone, hany])]
  rfl

/-! Maintenance (18 R544). -/

theorem State.setChan_hosts {k j : Nat} {x : Chan} (hx : x.host = true) (h : k = j ∧ k < 32 ∨ (s.chan j).host = true) :
    ((s.setChan k x).chan j).host = true := by
  have hhalf : ((s.setHalf k x).chan j).host = true := by
    rw [State.setHalf_chan]
    split
    case isTrue => exact hx
    case isFalse hne => exact h.resolve_left hne
  unfold State.setChan
  dsimp only
  split
  case isTrue =>
    rw [State.setHalf_chan]
    split
    case isTrue => exact hx
    case isFalse => exact hhalf
  case isFalse => exact hhalf

theorem State.setChan_rest (s : State) (k : Nat) (x : Chan) : ∃ p, s.setChan k x = { s with pst := p } := by
  unfold State.setChan
  dsimp only
  split <;> exact ⟨_, rfl⟩

theorem State.hostHold_free (h : (s.chan k).host = false) : s.hostHold k = (s.setChan k (s.chan k).hosted).event 6 := by
  unfold State.hostHold
  dsimp only
  rw [h]
  rfl

theorem State.hostHold_hosted (h : (s.chan k).host = true) : s.hostHold k = s := by
  unfold State.hostHold
  dsimp only
  rw [if_pos h]

theorem State.hostHold_hosts {j : Nat} (h : k = j ∧ k < 32 ∨ (s.chan j).host = true) : ((s.hostHold k).chan j).host = true := by
  cases hh : (s.chan k).host with
  | true =>
    rw [State.hostHold_hosted hh]
    rcases h with ⟨rfl, -⟩ | h
    · exact hh
    · exact h
  | false =>
    rw [State.hostHold_free hh, State.event_chan]
    exact State.setChan_hosts rfl h

theorem State.PortsMap.holdByHost (s : State) (k : Nat) : s.PortsMap (fun u => u.hostHold k) := by
  cases hh : (s.chan k).host with
  | true => exact State.PortsMap.pure fun P => by rw [State.hostHold_hosted hh, State.hostHold_hosted (s := { s with ports := P }) hh]
  | false =>
    exact ((State.PortsMap.setChan s k (fun u => (u.chan k).hosted) fun _ => rfl).comp (State.PortsMap.event _ 6)).congr
      fun P => State.hostHold_free (s := { s with ports := P }) hh

theorem State.hostHold_rest (s : State) (k : Nat) : ∃ p P, s.hostHold k = { s with pst := p, ports := P } := by
  cases hh : (s.chan k).host with
  | true => exact ⟨s.pst, s.ports, State.hostHold_hosted hh⟩
  | false =>
    obtain ⟨p, hp⟩ := s.setChan_rest k (s.chan k).hosted
    rw [State.hostHold_free hh, hp]
    exact ⟨p, _, rfl⟩

/-- Every channel held by the host. -/
def State.allHeld (s : State) : State := s.leads.foldl (fun u l => u.hostHold l) s

theorem State.allHeld_rest (s : State) : ∃ p P, s.allHeld = { s with pst := p, ports := P } := by
  unfold State.allHeld
  refine foldl_inv (P := fun u : State => ∃ p P, u = { s with pst := p, ports := P }) (fun u l hu => ?_) s.leads ⟨s.pst, s.ports, rfl⟩
  obtain ⟨p, P, hu⟩ := hu
  obtain ⟨p', P', h⟩ := u.hostHold_rest l
  exact ⟨p', P', by rw [h, hu]⟩

theorem State.allHeld_hosts {l : Nat} (hl : l ∈ s.leads) : (s.allHeld.chan l).host = true :=
  foldl_reaches (g := fun u l => u.hostHold l) (Q := fun u : State => (u.chan l).host = true) (fun _ _ h => State.hostHold_hosts (.inr h))
    (fun _ => State.hostHold_hosts (.inl ⟨rfl, List.mem_range.mp (List.mem_filter.mp hl).1⟩)) hl s

theorem State.PortsMap.allHeld (s : State) : s.PortsMap State.allHeld :=
  (State.PortsMap.foldl (I := fun _ => True) (fun _ _ _ => trivial) (fun u l _ => State.PortsMap.holdByHost u l) s.leads trivial).congr
    fun _ => rfl

/-- In maintenance, with every channel held. -/
def State.maintained (s : State) : State := { s.allHeld with hlt := { s.allHeld.hlt with maint := true } }

theorem State.PortsMap.maintained (s : State) : s.PortsMap State.maintained :=
  (State.PortsMap.allHeld s).comp (op' := fun u => { u with hlt := { u.hlt with maint := true } }) (State.PortsMap.pure fun _ => rfl)

theorem State.maintained_rest (s : State) : ∃ p P, s.maintained = { s with pst := p, ports := P, hlt := { s.hlt with maint := true } } := by
  obtain ⟨p, P, hrest⟩ := s.allHeld_rest
  unfold State.maintained
  rw [hrest]
  exact ⟨p, P, rfl⟩

theorem runMaintEnter_quiet (x : Ctx) (h : s.quiet) : runMaintEnter x s = (.ok [], s.maintained) := by
  have hany : s.leads.any (fun l => (s.chan l).switching) = false := by
    rw [List.any_eq_false]
    intro l hl
    rw [h l (List.mem_range.mp (List.mem_filter.mp hl).1)]
    decide
  unfold runMaintEnter
  rw [hany]
  rfl

theorem State.maintEnter_holds (hm : s.meets (.maintEnter e) c) (hq : s.quiet) : ∃ u, s.answers (.maintEnter e) c .ok 0 [] u ∧
    u.hlt = { s.hlt with maint := true } ∧ (∀ l ∈ s.leads, (u.chan l).host = true) ∧ u.pl = s.pl := by
  obtain ⟨p, Q, hrest⟩ := s.maintained_rest
  refine ⟨s.maintained, State.answers_of_map hm (State.PortsMap.maintained s)
    (fun P f _ => runMaintEnter_quiet (s := { s with ports := P }) (s.runCtx c f) hq) (by rw [hrest]) (by rw [hrest]), by rw [hrest], fun l hl => ?_,
    by rw [hrest]⟩
  exact State.allHeld_hosts hl

theorem State.maintEnter_refused {l : Nat} (hm : s.meets (.maintEnter e) c) (hl : l ∈ s.leads) (hsw : (s.chan l).switching = true) :
    s.answers (.maintEnter e) c .rejectedState 0x0114 [] s := by
  refine State.answers_of_run hm fun P f _ => ?_
  exact if_pos (List.any_eq_true.mpr ⟨l, hl, hsw⟩)

theorem State.maintExit_leaves (hm : s.meets (.maintExit e) c) (h : s.hlt.maint = true) :
    s.answers (.maintExit e) c .ok 0 [] { s with hlt := { s.hlt with maint := false } } := by
  refine State.answers_of_run hm fun P f _ => ?_
  exact if_pos h

theorem State.maintExit_refused (hm : s.meets (.maintExit e) c) (h : s.hlt.maint = false) :
    s.answers (.maintExit e) c .rejectedState 0x0111 [] s := by
  refine State.answers_of_run hm fun P f _ => ?_
  exact if_neg (by rw [show ({ s with ports := P } : State).hlt.maint = false from h]; decide)

/-! The full self-test (18 R545). -/

theorem State.setQuad_quad (s : State) (q j : Nat) (x : Quad) : (s.setQuad q x).quad j = if q = j ∧ q < 4 then x else s.quad j := by
  unfold State.quad State.setQuad wr
  dsimp only
  split
  case isTrue h =>
    obtain ⟨rfl, h⟩ := h
    simp [h]
  case isFalse h =>
    rw [Vector.getElem?_setIfInBounds]
    by_cases hj : q = j
    · have hq : ¬ q < 4 := fun hq => h ⟨hj, hq⟩
      subst hj
      simp [hq]
    · simp [hj]

/-- No quadrant migrates or tests. -/
def State.quadsRest (s : State) : Prop := ∀ q, (s.quad q).mig = none ∧ (s.quad q).test = none

theorem State.quadsRest.setQuad {x : Quad} (h : s.quadsRest) (hx : x.mig = none ∧ x.test = none) (q : Nat) : (s.setQuad q x).quadsRest := by
  intro j
  rw [State.setQuad_quad]
  split
  · exact hx
  · exact h j

/-- What a full self-test ends in a quadrant. -/
def State.quadEnded (s : State) (q : Nat) : State :=
  let s := match (s.quad q).mig with
    | some m => if m.cause = MigCause.test then s else s.finish m.cmd .aborted 0 []
    | none => s
  let s := s.abortTest q
  if (s.quad q).spare.isSome then s.setQuad q { s.quad q with st := .ready } else s

/-- A quadrant without test and migration, READY where it has a spare. -/
def State.quadRested (s : State) (q : Nat) : State :=
  let s := s.setQuad q { (s.quad q) with test := none, mig := none }
  if (s.quad q).spare.isSome then s.setQuad q { s.quad q with st := .ready } else s

theorem State.quadEnded_free (h : s.quadsRest) (q : Nat) : s.quadEnded q = s.quadRested q := by
  unfold State.quadEnded State.quadRested
  rw [(h q).1]
  dsimp only
  rw [State.abortTest_free (h q).1 (h q).2]

theorem State.quadsRest.rested (h : s.quadsRest) (q : Nat) : (s.quadRested q).quadsRest := by
  have h1 : (s.setQuad q { (s.quad q) with test := none, mig := none }).quadsRest := h.setQuad ⟨rfl, rfl⟩ q
  unfold State.quadRested
  dsimp only
  split
  · refine State.quadsRest.setQuad h1 ?_ q
    exact ⟨(h1 q).1, (h1 q).2⟩
  · exact h1

theorem State.quadRested_rest (s : State) (q : Nat) : ∃ Q, ∀ P : Ports, State.quadRested { s with ports := P } q =
    { s with hlt := { s.hlt with quads := Q }, ports := P } := by
  obtain ⟨u, hu⟩ : ∃ u : State, u = s.setQuad q { (s.quad q) with test := none, mig := none } := ⟨_, rfl⟩
  by_cases hs : (u.quad q).spare.isSome = true
  · refine ⟨(u.setQuad q { u.quad q with st := .ready }).hlt.quads, fun P => ?_⟩
    rw [hu] at hs ⊢
    exact if_pos hs
  · refine ⟨u.hlt.quads, fun P => ?_⟩
    rw [hu] at hs ⊢
    exact if_neg hs

theorem State.quadsEnded_rest (h : s.quadsRest) (l : List Nat) : ∃ Q, ∀ P : Ports, l.foldl State.quadEnded { s with ports := P } =
    { s with hlt := { s.hlt with quads := Q }, ports := P } := by
  induction l generalizing s with
  | nil => exact ⟨s.hlt.quads, fun _ => rfl⟩
  | cons q l ih =>
    obtain ⟨Q, hQ⟩ := s.quadRested_rest q
    have hrest : ∀ P : Ports, State.quadEnded { s with ports := P } q = { s with hlt := { s.hlt with quads := Q }, ports := P } :=
      fun P => (State.quadEnded_free (s := { s with ports := P }) h q).trans (hQ P)
    have hself : s.quadRested q = { s with hlt := { s.hlt with quads := Q } } := hQ s.ports
    obtain ⟨Q', hQ'⟩ := ih (s := { s with hlt := { s.hlt with quads := Q } }) (hself ▸ h.rested q)
    refine ⟨Q', fun P => ?_⟩
    rw [List.foldl_cons, hrest P]
    exact hQ' P

/-- SELFTEST_FULL with the command that waits for its end. -/
def State.fullStarted (s : State) (x : FullTest) : State := { s with hlt := { s.hlt with full := some x } }

/-- The state with every tile absent. -/
def State.tilesAbsent (s : State) : State := { s with tiles := s.tiles.map Tile.absent }

theorem runSelftestFull_runs (x : Ctx) (hmask : mask ≤ 7) (hmaint : s.hlt.maint = true) (hno : s.hlt.full = none) : runSelftestFull x mask s =
    (.later, if bit mask 0 then ((List.range 4).foldl State.quadEnded (s.fullStarted ⟨mask, x.port, x.handle⟩)).tilesAbsent
      else s.fullStarted ⟨mask, x.port, x.handle⟩) := by
  unfold runSelftestFull
  rw [if_neg (Nat.not_lt.mpr hmask), hmaint, hno, if_neg (by decide)]
  cases hb : bit mask 0 <;> rfl

theorem bit_zero (mask : Nat) : bit mask 0 = decide (mask % 2 = 1) := Nat.testBit_zero mask

theorem State.selftestFull_starts (hm : s.meets (.selftestFull e mask) c) (hmask : mask ≤ 7) (h0 : mask % 2 = 0) (hmaint : s.hlt.maint = true)
    (hno : s.hlt.full = none) : s.starts (.selftestFull e mask) c (s.fullStarted ⟨mask, c.env.port, s.nextHandle c.env.port⟩) := by
  refine State.starts_of_run hm fun P f hP => ?_
  refine (runSelftestFull_runs (s := { s with ports := P }) (s.runCtx c f) hmask hmaint hno).trans ?_
  rw [bit_zero, h0, if_neg (by decide), show (s.runCtx c f).handle = f.handle from rfl, hP.handle]
  rfl

theorem State.selftestFull_clears (hm : s.meets (.selftestFull e mask) c) (hmask : mask ≤ 7) (h1 : mask % 2 = 1) (hmaint : s.hlt.maint = true)
    (hno : s.hlt.full = none) (hfree : s.quadsRest) : ∃ u, s.starts (.selftestFull e mask) c u ∧
      u.hlt.full = some ⟨mask, c.env.port, s.nextHandle c.env.port⟩ ∧ u.hlt.out = s.hlt.out ∧ (∀ k, k < 68 → (u.tile k).run = .absent) ∧
      u.pl = s.pl := by
  obtain ⟨Q, hQ⟩ := State.quadsEnded_rest (s := s.fullStarted ⟨mask, c.env.port, s.nextHandle c.env.port⟩) hfree (List.range 4)
  refine ⟨_, State.starts_of_run (u := { s with
    tiles := s.tiles.map Tile.absent
    hlt := { s.hlt with full := some ⟨mask, c.env.port, s.nextHandle c.env.port⟩, quads := Q } }) hm fun P f hP => ?_, rfl, rfl, fun k hk => ?_, rfl⟩
  · refine (runSelftestFull_runs (s := { s with ports := P }) (s.runCtx c f) hmask hmaint hno).trans (congrArg (Prod.mk Done.later) ?_)
    rw [bit_zero, h1, if_pos (by decide), show (s.runCtx c f).handle = f.handle from rfl, hP.handle]
    exact congrArg State.tilesAbsent (hQ P)
  · exact (congrArg Tile.run (rd_map s.tiles Tile.absent hk)).trans rfl

theorem State.selftestFull_refused (hm : s.meets (.selftestFull e mask) c) (hmask : mask ≤ 7) (hmaint : s.hlt.maint = false) :
    s.answers (.selftestFull e mask) c .rejectedState 0x0111 [] s := by
  refine State.answers_of_run hm fun P f _ => ?_
  refine (if_neg (Nat.not_lt.mpr hmask)).trans (if_pos ?_)
  rw [show ({ s with ports := P } : State).hlt.maint = false from hmaint]
  rfl

/-! Calibration (18 R546). -/

theorem calInterval_inRange (hn : n = 0 ∨ (10 ≤ n ∧ n ≤ 86400)) : ¬ (decide (n ≠ 0) && (decide (n < 10) || decide (86400 < n))) = true := by
  simp
  omega

theorem State.calConfig_sets (hm : s.meets (.calConfig e n false) c) (hn : n = 0 ∨ (10 ≤ n ∧ n ≤ 86400)) :
    s.answers (.calConfig e n false) c .ok 0 (resBytes [(4, n)]) { s with hlt := { s.hlt with calInterval := n } } := by
  refine State.answers_of_run hm fun P f _ => ?_
  exact (if_neg (calInterval_inRange hn)).trans (if_neg (by decide))

theorem State.calConfig_stores (hm : s.meets (.calConfig e n true) c) (hq : s.flashFree) (hn : n = 0 ∨ (10 ≤ n ∧ n ≤ 86400)) :
    s.flashes (.calConfig e n true) c (resBytes [(4, n)]) { s.configWritten with
      hlt := { s.hlt with calInterval := n }, cfg := { s.cfg with calInterval := some n } } := by
  refine State.flashesVia_of_run hm hq (fun P f _ => ?_) fun P => rfl
  exact (if_neg (calInterval_inRange hn)).trans (if_pos rfl)

end

/-- Settles O54: each command runs on its own; a held request is dropped by its number, and a full self-test over the tiles leaves
none of them present. -/
theorem healthCommands : Obligations.HealthCommands := by
  intro s e c h hh
  subst hh
  refine ⟨fun hm => State.healthStatus_reads hm, fun addr hm hp => State.ageingReport_writes hm hp, fun k x hm hk ho ht hx hr hw => ?_,
    fun k x w hm hk ho ht hx hr hw => ?_, fun k hm hk ho ht hr => ⟨fun hf => ?_, fun hf hl => ?_⟩, fun id x hm hx => State.selftestResult_reads hm hx,
    fun id hm hx => State.selftestResult_unknown hm hx, fun id x hm hx hid h0 hf => State.selftestCancel_drops hm hx hid h0 hf,
    fun id hm hno hf => State.selftestCancel_unknown hm hno hf, fun k x w hm hk ho ht hw hx => ⟨fun hr => ?_, fun hr => ?_⟩,
    fun k hm hk ho ht hw => State.tileMigrate_idle hm hk ho ht hw, fun hm hq => State.maintEnter_holds hm hq,
    fun l hm hl hsw => State.maintEnter_refused hm hl hsw, fun hm h => State.maintExit_leaves hm h, fun hm h => State.maintExit_refused hm h,
    fun mask hm hmask h0 hmaint hno => ?_, fun mask hm hmask h1 hmaint hno hf => ?_, fun mask hm hmask hmaint => State.selftestFull_refused hm hmask hmaint,
    fun n hm hn => State.calConfig_sets hm hn, fun n hm hq hn => ⟨_, State.calConfig_stores hm hq hn, rfl, rfl, rfl⟩⟩
  case refine_1 =>
    have hs := State.selftestTile_tests hm hk ho ht (hx ▸ hr) hw
    cases hm.info
    exact hs
  case refine_2 =>
    subst hx
    have hs := State.selftestTile_migrates hm hk ho ht hr hw
    cases hm.info
    exact hs
  case refine_3 =>
    cases hm.info
    exact State.selftestTile_deferred hm hk ho ht hr hf
  case refine_4 =>
    cases hm.info
    exact State.selftestTile_held hm hk ho ht hr hf hl
  case refine_5 =>
    subst hx
    have hs := State.tileMigrate_starts hm hk ho ht hw hr
    cases hm.info
    exact hs
  case refine_6 => exact State.tileMigrate_deferred hm hk ho ht hw (hx ▸ hr)
  case refine_7 =>
    have hs := State.selftestFull_starts hm hmask h0 hmaint hno
    cases hm.info
    exact hs
  case refine_8 =>
    have hs := State.selftestFull_clears hm hmask h1 hmaint hno hf
    cases hm.info
    exact hs

end Sys2Proof.Machine
end

section
/-!
SUPPORT. Migration passes, self-tests, ageing and stress (18 R533 to R545): settles O55.
-/
namespace Sys2Proof.Machine
-- Proofs checked one at a time, which bounds the memory that the whole text takes.
set_option Elab.async false

section
variable {s t u : State} {p : CPort} {f : Flight} {q k : Nat}

theorem mem_addNew_self {α : Type} [DecidableEq α] (l : List α) (x : α) : x ∈ addNew l x := by
  unfold addNew
  split
  case isTrue h => exact (mem_iff l x).mp h
  case isFalse => exact List.mem_append_right l List.mem_cons_self

/-! The wear indicators change themselves and signal (18 R537). -/

/-- From `s` to `t` indicators changed, and were signalled. -/
def State.Graded (s t : State) : Prop := ∃ P g, t = { s with ports := P, hlt := { s.hlt with grades := g } } ∧ s.ports.Signalled P

theorem State.Graded.refl (s : State) : s.Graded s := ⟨s.ports, s.hlt.grades, rfl, Ports.Signalled.refl _⟩

theorem State.Graded.trans (h : s.Graded t) (k : t.Graded u) : s.Graded u := by
  obtain ⟨P, g, rfl, hP⟩ := h
  obtain ⟨Q, g', rfl, hQ⟩ := k
  exact ⟨Q, g', rfl, hP.trans hQ⟩

theorem State.Graded.setGrade (s : State) (i level : Nat) : s.Graded (s.setGrade i level) := by
  unfold State.setGrade
  split
  case isTrue => exact State.Graded.refl s
  case isFalse =>
    obtain ⟨f, hf, hk⟩ := State.event_ports { s with hlt := { s.hlt with grades := wr s.hlt.grades i level } } 9
    obtain ⟨h1, h2, h3, h4⟩ := hk s.ports
    exact ⟨_, _, hf s.ports, h1, h2, h3, h4⟩

theorem State.Graded.quad (h : s.Graded t) (j : Nat) : t.quad j = s.quad j := by
  obtain ⟨P, g, rfl, -⟩ := h
  rfl

theorem State.Graded.out (h : s.Graded t) : t.hlt.out = s.hlt.out := by
  obtain ⟨P, g, rfl, -⟩ := h
  rfl

/-- The grading at the end of a day. -/
theorem State.Graded.daily (s : State) (n l : Nat) : s.Graded (((((s.setGrade 0 n).gradeSram).setGrade 2 l).gradeFlash).gradeSpare) := by
  have hage := State.Graded.setGrade s 0 n
  have hsram : s.Graded (s.setGrade 0 n).gradeSram := hage.trans (State.Graded.setGrade _ 1 _)
  have hserdes := hsram.trans (State.Graded.setGrade _ 2 l)
  have hflash : s.Graded (((s.setGrade 0 n).gradeSram).setGrade 2 l).gradeFlash :=
    hserdes.trans ((State.Graded.setGrade _ 3 _).trans (State.Graded.setGrade _ 4 _))
  exact hflash.trans (State.Graded.setGrade _ 5 _)

/-! Migration passes (18 R538). -/

theorem State.pass1End_ends {m : Mig} (hm : (s.quad q).mig = some m) (h1 : m.phase = 1) (hb : m.startB + 8 ≤ s.per.boundaries) :
    s.pass1End q = s.setQuad q { s.quad q with mig := some { m with phase := 2 } } := by
  unfold State.pass1End
  dsimp only
  rw [hm]
  exact if_pos (by simp [h1, hb])

theorem State.pass1End_early {m : Mig} (hm : (s.quad q).mig = some m) (hb : s.per.boundaries < m.startB + 8) : s.pass1End q = s := by
  unfold State.pass1End
  dsimp only
  rw [hm]
  exact if_neg (by simp [Nat.not_le.mpr hb])

theorem State.pass2End_ends {m : Mig} (hm : (s.quad q).mig = some m) (h2 : m.phase = 2) :
    s.pass2End q = s.setQuad q { s.quad q with mig := some { m with phase := 3 } } := by
  unfold State.pass2End
  dsimp only
  rw [hm]
  exact if_pos h2

theorem State.passEnds_idle (hm : (s.quad q).mig = none) : s.pass1End q = s ∧ s.pass2End q = s := by
  unfold State.pass1End State.pass2End
  dsimp only
  rw [hm]
  exact ⟨rfl, rfl⟩

/-! The end of a self-test (18 R540, R542). -/

theorem testResult_bytes (fail part queue : Nat) : testResult fail part queue = resBytes [(1, fail), (1, part), (4, queue)] := by
  simp [testResult, resBytes]

theorem State.testPart_pass {corr itime : Nat} (hc : corr ≤ 4) (hi : 100 * itime ≤ 115 * s.testItime q) : s.testPart q false 0 corr itime = 0 := by
  unfold State.testPart
  rw [if_neg (by decide), if_neg (by decide), if_neg (Nat.not_lt.mpr hc), if_neg (Nat.not_lt.mpr hi)]

/-- The quadrant `x` after the test of a tile: READY with it as the spare, or without one. -/
def Quad.tested (x : Quad) (k : Nat) (pass : Bool) : Quad :=
  { x with st := if pass then .ready else .none_, test := none, spare := if pass then some k else none }

theorem State.endTest_pass (ha : s.canAnswer p f) (hh : s.hlt.held = []) (hx : (s.quad q).test = some ⟨k, some (p, f.handle), none⟩) :
    ∃ P, State.Fewer s { s with ports := P } ∧ s.closed { s with ports := P } p f .ok 0 (testResult 0 0 0) ∧
      ({ s.setQuad q ((s.quad q).tested k true) with ports := P } : State).Graded (s.endTest q 0) := by
  obtain ⟨P, hP, hcl⟩ := State.complete_closed ha .ok 0 (testResult 0 0 0) (by simp [testResult, leBytes_length])
  refine ⟨P, hP ▸ s.complete_fewer p f.handle .ok 0 (testResult 0 0 0), hcl, ?_⟩
  have hend : s.endTest q 0 = (({ s with ports := P } : State).setQuad q ((s.quad q).tested k true)).ready q := by
    unfold State.endTest
    dsimp only
    rw [hx, if_pos rfl]
    exact congrArg (fun u : State => (u.setQuad q ((s.quad q).tested k true)).ready q) hP
  rw [hend]
  unfold State.ready
  rw [show (State.setQuad { s with ports := P } q ((s.quad q).tested k true)).hlt.held = [] from hh, List.foldl_nil]
  exact State.Graded.setGrade _ 5 _

theorem State.leaveService_quad (s : State) (k : Nat) (P : Ports) (j : Nat) :
    State.quad { s.leaveService k with ports := P } j = s.quad j := rfl

theorem State.endTest_fail {part : Nat} (hpart : part ≠ 0) (ha : s.canAnswer p f) (hx : (s.quad q).test = some ⟨k, some (p, f.handle), none⟩) :
    ∃ P, State.Fewer s { s with ports := P } ∧ s.closed { s with ports := P } p f .ok 0 (testResult (min part 1) part 0) ∧
      ({ (s.setQuad q ((s.quad q).tested k false)).leaveService k with ports := P } : State).Graded (s.endTest q part) := by
  obtain ⟨P, hP, hcl⟩ := State.complete_closed ha .ok 0 (testResult (min part 1) part 0) (by simp [testResult, leBytes_length])
  refine ⟨P, hP ▸ s.complete_fewer p f.handle .ok 0 (testResult (min part 1) part 0), hcl, ?_⟩
  have hend : s.endTest q part = ((({ s with ports := P } : State).setQuad q ((s.quad q).tested k false)).leaveService k).gradeSpare := by
    unfold State.endTest
    dsimp only
    rw [hx]
    dsimp only
    rw [if_neg hpart]
    exact congrArg (fun u : State => ((u.setQuad q ((s.quad q).tested k false)).leaveService k).gradeSpare) hP
  rw [hend]
  exact State.Graded.setGrade _ 5 _

/-- Service finds nothing to do after grading, and the ports are answered as before it. -/
theorem State.Graded.served {P : Ports} {st : Status} {d : Nat} {res : List Byte} (h : ({ u with ports := P } : State).Graded t)
    (hcalm : s.portsCalm) (hf : State.Fewer s { s with ports := P }) (hcl : s.closed { s with ports := P } p f st d res) (htw : u.tw = s.tw) :
    t.serve = t ∧ s.closed t p f st d res := by
  obtain ⟨Q, g, rfl, hQ⟩ := h
  have hP : State.portsCalm { u with ports := P } := (hf.calm hcalm).congr rfl htw
  exact ⟨State.serve_eq_self (hP.same hQ.same rfl), hcl.same (Ports.Same.refl _) hQ.same⟩

theorem State.selftestEnd_passes {corr itime : Nat} (hcalm : s.portsCalm) (ha : s.canAnswer p f) (hh : s.hlt.held = [])
    (hx : (s.quad q).test = some ⟨k, some (p, f.handle), none⟩) (hc : corr ≤ 4) (hi : 100 * itime ≤ 115 * s.testItime q) (hq : q < 4) :
    ∃ t, exec (.selftestEnd q false 0 corr itime) s = .next t ∧ s.closed t p f .ok 0 (resBytes [(1, 0), (1, 0), (4, 0)]) ∧
      (t.quad q).st = .ready ∧ (t.quad q).spare = some k ∧ (t.quad q).test = none ∧ t.hlt.out = s.hlt.out ∧
      ∀ j, j < 4 → j ≠ q → t.quad j = s.quad j := by
  obtain ⟨P, hf, hcl, hg⟩ := State.endTest_pass ha hh hx
  obtain ⟨hserve, hclosed⟩ := hg.served hcalm hf hcl rfl
  rw [testResult_bytes] at hclosed
  have hquad : ∀ j, (s.endTest q 0).quad j = if q = j ∧ q < 4 then (s.quad q).tested k true else s.quad j :=
    fun j => (hg.quad j).trans (s.setQuad_quad q j _)
  have hself : (s.endTest q 0).quad q = (s.quad q).tested k true := (hquad q).trans (if_pos ⟨rfl, hq⟩)
  refine ⟨s.endTest q 0, ?_, ?_, by rw [hself]; rfl, by rw [hself]; rfl, by rw [hself]; rfl, hg.out, fun j _ hj => ?_⟩
  · show Host.Outcome.next ((s.endTest q (s.testPart q false 0 corr itime)).serve) = _
    rw [State.testPart_pass hc hi, hserve]
  · exact hclosed
  · exact (hquad j).trans (if_neg (fun h => hj h.1.symm))

theorem State.selftestEnd_fails {uncorr corr itime : Nat} (hcalm : s.portsCalm) (ha : s.canAnswer p f)
    (hx : (s.quad q).test = some ⟨k, some (p, f.handle), none⟩) (hq : q < 4) :
    ∃ t, exec (.selftestEnd q true uncorr corr itime) s = .next t ∧ s.closed t p f .ok 0 (resBytes [(1, 1), (1, 1), (4, 0)]) ∧
      (t.quad q).st = .none_ ∧ (t.quad q).spare = none ∧ k ∈ t.hlt.out ∧ (∀ j ∈ s.hlt.out, j ∈ t.hlt.out) ∧
      ∀ j, j < 4 → j ≠ q → t.quad j = s.quad j := by
  obtain ⟨P, hf, hcl, hg⟩ := State.endTest_fail (part := 1) (by decide) ha hx
  obtain ⟨hserve, hclosed⟩ := hg.served hcalm hf hcl rfl
  rw [testResult_bytes, Nat.min_self] at hclosed
  have hquad : ∀ j, (s.endTest q 1).quad j = if q = j ∧ q < 4 then (s.quad q).tested k false else s.quad j :=
    fun j => ((hg.quad j).trans (State.leaveService_quad _ k P j)).trans (s.setQuad_quad q j _)
  have hself : (s.endTest q 1).quad q = (s.quad q).tested k false := (hquad q).trans (if_pos ⟨rfl, hq⟩)
  have hout : (s.endTest q 1).hlt.out = addNew s.hlt.out k := hg.out
  refine ⟨s.endTest q 1, ?_, hclosed, by rw [hself]; rfl, by rw [hself]; rfl, ?_, fun j hj => ?_, fun j _ hj => ?_⟩
  · show Host.Outcome.next ((s.endTest q (s.testPart q true uncorr corr itime)).serve) = _
    rw [show s.testPart q true uncorr corr itime = 1 from if_pos rfl, hserve]
  · rw [hout]
    exact mem_addNew_self _ _
  · rw [hout]
    exact mem_addNew_of_mem k hj
  · exact (hquad j).trans (if_neg (fun h => hj h.1.symm))

/-! Ageing and stress (18 R533 to R536). -/

theorem List.getLast?_drop_snoc {α : Type} (l : List α) (x : α) (n : Nat) : ((l ++ [x]).drop ((l ++ [x]).length - (n + 1))).getLast? = some x := by
  rw [List.getLast?_drop, if_neg (by simp), List.getLast?_concat]

theorem State.ageing_measures (s : State) (freqs : Vector (Nat × Nat) 56) (eyes : Vector (Option Nat) 8) :
    ∃ t, exec (.ageingMeasurement freqs eyes) s = .next t ∧
      (∀ i, i < 56 → s.domOn (i / 4) = true → (rd freqs i).2 ≠ 0 →
        rd t.hlt.rings i = some ((((rd freqs i).1 * 1000000 / (rd freqs i).2 : Nat) : Int) - 1000000)) ∧
      (∀ i, i < 56 → s.domOn (i / 4) = false → rd t.hlt.rings i = rd s.hlt.rings i) ∧
      (∀ i, i < 8 → rd t.hlt.eyes i = if (s.lane i).st = .up then rd eyes i else rd s.hlt.eyes i) ∧
      (∀ i, i < 8 → (rd t.hlt.eyeHist i).getLast? = some (if (s.lane i).st = .up then rd eyes i else none)) ∧ t.hlt.quads = s.hlt.quads := by
  refine ⟨s.ageing freqs eyes, rfl, ?_⟩
  unfold State.ageing
  extract_lets rings eyes' hist src u
  have hu : u.hlt.rings = rings ∧ u.hlt.eyes = eyes' ∧ u.hlt.eyeHist = hist ∧ u.hlt.quads = s.hlt.quads := ⟨rfl, rfl, rfl, rfl⟩
  obtain ⟨hr, hy, hh, hq⟩ := hu
  obtain ⟨P, g, he, -⟩ := State.Graded.setGrade u 2 u.serdesLevel
  rw [he]
  show (∀ i, i < 56 → _ → _ → rd u.hlt.rings i = _) ∧ (∀ i, i < 56 → _ → rd u.hlt.rings i = _) ∧ (∀ i, i < 8 → rd u.hlt.eyes i = _) ∧
    (∀ i, i < 8 → (rd u.hlt.eyeHist i).getLast? = _) ∧ u.hlt.quads = _
  rw [hr, hy, hh, hq]
  refine ⟨fun i hi hd hf => ?_, fun i hi hd => ?_, fun i hi => ?_, fun i hi => ?_, rfl⟩
  · refine (rd_ofFn _ hi).trans (if_pos ?_)
    simp [hd, hf]
  · refine (rd_ofFn _ hi).trans (if_neg ?_)
    simp [hd]
  · exact rd_ofFn _ hi
  · refine (congrArg List.getLast? (rd_ofFn _ hi)).trans ((List.getLast?_drop_snoc _ _ 4319).trans (congrArg some ?_))
    refine ite_congr rfl (fun hup => ?_) fun _ => rfl
    exact (rd_ofFn _ hi).trans (if_pos hup)

theorem greatest_spec {p : Nat → Bool} {n acc : Nat} (h : p acc = true) (hn : p (acc + 2 ^ n) = false) :
    p (greatest p n acc) = true ∧ p (greatest p n acc + 1) = false := by
  induction n generalizing acc with
  | zero => exact ⟨h, hn⟩
  | succ n ih =>
    unfold greatest
    split
    case isTrue hp => exact ih hp (by rw [Nat.add_assoc, ← Nat.two_mul, ← Nat.pow_succ']; exact hn)
    case isFalse hp => exact ih h (by simpa using hp)

theorem stressStep_spec {tj : Int} (h : tj ≤ 2000) : (3600 * stressStep tj) ^ 100 ≤ 2 ^ (2350 + tj).toNat ∧
    2 ^ (2350 + tj).toNat < (3600 * (stressStep tj + 1)) ^ 100 := by
  have hbig : 2 ^ (2350 + tj).toNat < (3600 * (0 + 2 ^ 48)) ^ 100 := by
    calc 2 ^ (2350 + tj).toNat < 2 ^ (48 * 100) := Nat.pow_lt_pow_right (by decide) (by omega)
      _ = (2 ^ 48) ^ 100 := pow_mul 2 48 100
      _ ≤ (3600 * (0 + 2 ^ 48)) ^ 100 := Nat.pow_le_pow_left (by omega) 100
  obtain ⟨h1, h2⟩ := greatest_spec (p := fun n => decide ((3600 * n) ^ 100 ≤ 2 ^ (2350 + tj).toNat)) (n := 48) (acc := 0)
    (decide_eq_true (by rw [Nat.mul_zero, Nat.zero_pow (by decide)]; exact Nat.zero_le _)) (decide_eq_false (Nat.not_le.mpr hbig))
  exact ⟨of_decide_eq_true h1, Nat.not_le.mp (of_decide_eq_false h2)⟩

theorem State.tempResult_kept (s : State) (code : Nat) (r : TempMon × Bool × Bool) :
    (s.tempResult code r).mon = s.mon ∧ (s.tempResult code r).hlt = s.hlt := by
  unfold State.tempResult
  dsimp only
  split <;> split <;> exact ⟨rfl, rfl⟩

theorem State.readTemps_kept (s : State) (v : Vector Int 16) : (s.readTemps v).mon.temps = v ∧ (s.readTemps v).hlt = s.hlt := by
  obtain ⟨u, w, c, l, he, ht, hh⟩ : ∃ (u : State) (w c l : TempMon × Bool × Bool), s.readTemps v = ((u.tempResult 0x0105 w).tempResult 0x0106 c).tempResult 0x0107 l ∧
    u.mon.temps = v ∧ u.hlt = s.hlt := ⟨_, _, _, _, rfl, rfl, rfl⟩
  obtain ⟨hw, hw'⟩ := u.tempResult_kept 0x0105 w
  obtain ⟨hc, hc'⟩ := (u.tempResult 0x0105 w).tempResult_kept 0x0106 c
  obtain ⟨hl, hl'⟩ := ((u.tempResult 0x0105 w).tempResult 0x0106 c).tempResult_kept 0x0107 l
  rw [he, hl, hc, hw, hl', hc', hw']
  exact ⟨ht, hh⟩

theorem Mon.tileTj_congr {m m' : Mon} (h : m.temps = m'.temps) : m.tileTj = m'.tileTj := by
  unfold Mon.tileTj
  rw [h]

theorem Mon.tileTj_le {m : Mon} (h : ∀ i : Fin 16, m.temps.get i ≤ 2000) : m.tileTj ≤ 2000 := by
  have hrd : ∀ i, rd m.temps i ≤ 2000 := by
    intro i
    unfold rd
    by_cases hi : i < 16
    · rw [Vector.getElem?_eq_getElem hi]
      exact h ⟨i, hi⟩
    · rw [Vector.getElem?_eq_none (Nat.not_lt.mp hi)]
      decide
  exact foldl_inv (P := fun b : Int => b ≤ 2000) (fun b i hb => max_le hb (hrd i)) _ (by decide)

theorem State.stress_accumulates {temps : Vector Int 16} {tj : Int} (htj : tj = Mon.tileTj { s.mon with temps := temps })
    (h : ∀ i : Fin 16, temps.get i ≤ 2000) : ∃ n t, (3600 * n) ^ 100 ≤ 2 ^ (2350 + tj).toNat ∧ 2 ^ (2350 + tj).toNat < (3600 * (n + 1)) ^ 100 ∧
      exec (.stressAccumulate temps) s = .next t ∧ t.hlt.stress = satAdd 64 s.hlt.stress n ∧ t.mon.temps = temps ∧
      t.hlt.samples = s.hlt.samples ∧ t.hlt.out = s.hlt.out := by
  obtain ⟨hmon, hhlt⟩ := s.readTemps_kept temps
  have hsame : (s.readTemps temps).mon.tileTj = tj := by
    rw [htj]
    exact Mon.tileTj_congr hmon
  obtain ⟨hlo, hhi⟩ := stressStep_spec (tj := tj) (htj ▸ Mon.tileTj_le h)
  refine ⟨stressStep tj, s.stressed temps, hlo, hhi, rfl, ?_, ?_, ?_, ?_⟩
  · show satAdd 64 (s.readTemps temps).hlt.stress (stressStep (s.readTemps temps).mon.tileTj) = _
    rw [hhlt, hsame]
  · exact hmon
  · show (s.readTemps temps).hlt.samples = _
    rw [hhlt]
  · show (s.readTemps temps).hlt.out = _
    rw [hhlt]

/-! The daily sample and the estimate (18 R535, R536). -/

/-- The days of the first 30 after a day. -/
def State.dayFresh (s : State) : List (Nat × Int × Nat) :=
  if s.hlt.samples.length < 30 then s.hlt.fresh ++ s.slackToday.toList else s.hlt.fresh

/-- The ageing of a day. -/
def State.dayAgeing (s : State) : Int := match slackAgeing s.dayFresh s.slackToday with | some v => max s.meanRings v | none => s.meanRings

/-- The samples after a day. -/
def State.daySamples (s : State) : List (Nat × Int) := (s.hlt.samples ++ [(s.hlt.stress, s.dayAgeing)]).drop (s.hlt.samples.length + 1 - 4096)

/-- The years left that the samples give. -/
def State.dayYears (s : State) : Nat := eolYears s.daySamples s.hlt.stress (ageLimit Config.tFresh.toNat)

/-- The confidence after a day. -/
def State.dayConf (s : State) (low : Nat) : Nat := confidence s.daySamples s.dayYears (min low 0xFFFE)

/-- From `s` to `t` a day was sampled. -/
structure State.DaySampled (s t : State) (low : Nat) : Prop where
  samples : t.hlt.samples = s.daySamples
  fresh : t.hlt.fresh = s.dayFresh
  conf : t.hlt.conf = s.dayConf low
  years : t.hlt.eolYears = if s.dayConf low = 0 then 0xFFFF else s.dayYears
  low : t.hlt.eolLow = if s.dayConf low = 0 then 0xFFFF else min low 0xFFFE
  stress : t.hlt.stress = s.hlt.stress

theorem State.DaySampled.graded {low : Nat} (h : s.DaySampled t low) (hg : t.Graded u) : s.DaySampled u low := by
  obtain ⟨P, g, rfl, -⟩ := hg
  obtain ⟨h1, h2, h3, h4, h5, h6⟩ := h
  exact ⟨h1, h2, h3, h4, h5, h6⟩

/-- The state with a day's figures. -/
def State.withDay (s : State) (samples : List (Nat × Int)) (fresh : List (Nat × Int × Nat)) (conf years low : Nat) : State :=
  { s with hlt := { s.hlt with
      samples := samples, fresh := fresh, conf := conf, eolYears := if conf = 0 then 0xFFFF else years
      eolLow := if conf = 0 then 0xFFFF else low } }

theorem State.withDay_sampled {samples : List (Nat × Int)} {fresh : List (Nat × Int × Nat)} {conf years l low : Nat} (hs : samples = s.daySamples)
    (hf : fresh = s.dayFresh) (hc : conf = s.dayConf low) (hy : years = s.dayYears) (hl : l = min low 0xFFFE) :
    s.DaySampled (s.withDay samples fresh conf years l) low :=
  ⟨hs, hf, hc, by rw [← hc, ← hy]; rfl, by rw [← hc, ← hl]; rfl, rfl⟩

theorem State.daily_samples (h : s.pwr.cpRunning = true) (low : Nat) : s.DaySampled (s.daily low) low := by
  unfold State.daily
  rw [h, if_neg (by decide)]
  extract_lets today fresh at_ samples years low' conf src u
  have hfresh : fresh = s.dayFresh := rfl
  have hsamples : samples = s.daySamples := rfl
  have hconf : conf = s.dayConf low := by
    show confidence samples years low' = _
    rw [hsamples]
    rfl
  have hu : u = s.withDay samples fresh conf years low' := rfl
  have hday : s.DaySampled u low := hu ▸ State.withDay_sampled hsamples hfresh hconf rfl rfl
  exact hday.graded (State.Graded.daily u _ _)

theorem State.daily_stopped (h : s.pwr.cpRunning = false) (low : Nat) : s.daily low = s := by
  unfold State.daily
  rw [h, if_pos (by decide)]

theorem State.daySamples_few (h : s.hlt.samples.length < 4096) : s.daySamples = s.hlt.samples ++ [(s.hlt.stress, s.dayAgeing)] := by
  unfold State.daySamples
  rw [Nat.sub_eq_zero_of_le (by omega), List.drop_zero]

theorem State.dayConf_early (h : s.hlt.samples.length < 29) (low : Nat) : s.dayConf low = 0 := by
  unfold State.dayConf confidence
  rw [State.daySamples_few (by omega), if_pos]
  simp
  omega

theorem State.daily_idle {low : Nat} (hcp : s.pwr.cpRunning = true) (hl : s.hlt.samples.length < 29) (hno : s.maxItime (List.range 68) = none) :
    ∃ t, exec (.dailyHealth low) s = .next t ∧ t.hlt.samples = s.hlt.samples ++ [(s.hlt.stress, s.meanRings)] ∧ t.hlt.conf = 0 ∧
      t.hlt.eolYears = 0xFFFF ∧ t.hlt.eolLow = 0xFFFF ∧ t.hlt.fresh = s.hlt.fresh ∧ t.hlt.stress = s.hlt.stress := by
  obtain ⟨hsamples, hfresh, hc, hyears, hlow, hstress⟩ := State.daily_samples hcp low
  have hconf := State.dayConf_early hl low
  have htoday : s.slackToday = none := by
    unfold State.slackToday
    rw [hno]
    rfl
  refine ⟨s.daily low, rfl, hsamples.trans ?_, hc.trans hconf, hyears.trans (if_pos hconf), hlow.trans (if_pos hconf), hfresh.trans ?_, hstress⟩
  · rw [State.daySamples_few (by omega)]
    unfold State.dayAgeing
    rw [htoday]
    rfl
  · unfold State.dayFresh
    rw [htoday, Option.toList_none, List.append_nil, ite_self]

theorem slackAgeing_first (req v : Nat) (tj : Int) : slackAgeing [(req, tj, v)] (some (req, tj, v)) = if v = 0 then none else some 0 := by
  have hself : [(req, tj, v)].filter (fun x => x.1 == req && decide (x.2.1 ≤ tj + 20) && decide (tj ≤ x.2.1 + 20)) = [(req, tj, v)] := by
    simp
  unfold slackAgeing
  dsimp only
  rw [hself]
  rw [show ([(req, tj, v)].map (·.2.2)).sum = v by simp, List.length_singleton, Nat.mul_one]
  by_cases hv : v = 0
  · rw [if_pos hv, if_pos hv]
  · rw [if_neg hv, if_neg hv, Nat.mul_div_cancel_left _ (Nat.pos_of_ne_zero hv)]
    rfl

theorem State.daily_first {low v : Nat} (hcp : s.pwr.cpRunning = true) (hl : s.hlt.samples.length < 29) (hmax : s.maxItime (List.range 68) = some v)
    (hf : s.hlt.fresh = []) : ∃ t, exec (.dailyHealth low) s = .next t ∧ t.hlt.fresh = [(s.avs.req, s.mon.tileTj, v)] ∧
      t.hlt.samples = s.hlt.samples ++ [(s.hlt.stress, if v = 0 then s.meanRings else max s.meanRings 0)] := by
  obtain ⟨hs, hf', -, -, -, -⟩ := State.daily_samples hcp low
  have htoday : s.slackToday = some (s.avs.req, s.mon.tileTj, v) := by
    unfold State.slackToday
    rw [hmax]
    rfl
  have hfresh : s.dayFresh = [(s.avs.req, s.mon.tileTj, v)] := by
    unfold State.dayFresh
    rw [htoday, hf, if_pos (by omega)]
    rfl
  refine ⟨s.daily low, rfl, hf'.trans hfresh, hs.trans ?_⟩
  rw [State.daySamples_few (by omega)]
  unfold State.dayAgeing
  rw [htoday, hfresh, slackAgeing_first]
  by_cases hv : v = 0 <;> simp [hv]

theorem eolYears_le (samples : List (Nat × Int)) (stress lim : Nat) : eolYears samples stress lim ≤ 0xFFFE := by
  unfold eolYears
  by_cases hlim : lim = 0
  · rw [if_pos hlim]
    exact Nat.zero_le _
  · rw [if_neg hlim]
    cases eolStress samples lim with
    | none => exact Nat.le_refl _
    | some e =>
      dsimp only
      generalize (if samples.length < 31 then stress else stress - ((samples[samples.length - 31]?).map (·.1)).getD 0) = month
      by_cases he : e ≤ stress
      · rw [if_pos he]
        exact Nat.zero_le _
      · rw [if_neg he]
        by_cases hm : month = 0
        · rw [if_pos hm]
        · rw [if_neg hm]
          exact Nat.min_le_left _ _

theorem confidence_spec {samples : List (Nat × Int)} (hl : 30 ≤ samples.length) (hx : ∃ y ∈ samples, 500 ≤ y.2) (years low : Nat) :
    1 ≤ confidence samples years low ∧ confidence samples years low ≤ 3 ∧ (confidence samples years low = 1 ↔ 2 * low < years) ∧
      (confidence samples years low = 3 ↔ 8 * years ≤ 10 * low) := by
  have hany : samples.all (fun x => decide (x.2 < 500)) = false := by
    obtain ⟨y, hy, h⟩ := hx
    rw [List.all_eq_false]
    exact ⟨y, hy, by simpa using h⟩
  unfold confidence
  rw [hany, Bool.or_false, if_neg (by simpa using hl)]
  split
  · omega
  · split <;> omega

theorem State.daily_estimates {low : Nat} (hcp : s.pwr.cpRunning = true) (hlo : 29 ≤ s.hlt.samples.length) (hhi : s.hlt.samples.length < 4096)
    (hx : ∃ y ∈ s.hlt.samples, 500 ≤ y.2) : ∃ t, exec (.dailyHealth low) s = .next t ∧ t.hlt.eolLow = min low 0xFFFE ∧
      t.hlt.eolYears ≤ 0xFFFE ∧ 1 ≤ t.hlt.conf ∧ t.hlt.conf ≤ 3 ∧ (t.hlt.conf = 1 ↔ 2 * t.hlt.eolLow < t.hlt.eolYears) ∧
      (t.hlt.conf = 3 ↔ 8 * t.hlt.eolYears ≤ 10 * t.hlt.eolLow) := by
  obtain ⟨-, -, hc, hyears, hlow, -⟩ := State.daily_samples hcp low
  have hs := State.daySamples_few hhi
  obtain ⟨h1, h3, h2x, h8x⟩ := confidence_spec (samples := s.daySamples) (by rw [hs]; simp; omega)
    (by obtain ⟨y, hy, h⟩ := hx; exact ⟨y, by rw [hs]; exact List.mem_append_left _ hy, h⟩) s.dayYears (min low 0xFFFE)
  have hne : ¬ s.dayConf low = 0 := Nat.ne_of_gt h1
  rw [if_neg hne] at hyears hlow
  refine ⟨s.daily low, rfl, hlow, ?_, ?_, ?_, ?_, ?_⟩
  · exact hyears.trans_le (eolYears_le _ _ _)
  · exact hc.symm ▸ h1
  · exact hc.symm ▸ h3
  · rw [hc, hyears, hlow]
    exact h2x
  · rw [hc, hyears, hlow]
    exact h8x

/-! The end of a full self-test (18 R540, R545). -/

theorem State.fullEnd_idle (h : s.hlt.full = none) (tiles : BitVec 68) (lanes : BitVec 48) (mem_ : Bool) : s.fullEnd tiles lanes mem_ = s := by
  unfold State.fullEnd
  rw [h]

/-- From `s` to `t` quadrants and indicators changed, and were signalled. -/
def State.QuadsGraded (s t : State) : Prop :=
  ∃ P Q g, t = { s with ports := P, hlt := { s.hlt with quads := Q, grades := g } } ∧ s.ports.Signalled P

theorem State.QuadsGraded.quadOn (h : s.QuadsGraded t) (hno : s.pl.live = none) (q : Nat) : s.QuadsGraded (t.quadOn q) := by
  obtain ⟨P, Q, g, ht, hP⟩ := h
  have hlive : t.pl.live = none := by rw [ht]; exact hno
  unfold State.quadOn
  rw [hlive]
  extract_lets own free sp
  obtain ⟨P', g', he, hP'⟩ := State.Graded.setGrade (t.setQuad q ⟨if sp.isSome then .ready else .none_, sp, none, none⟩) 5
    (min (t.setQuad q ⟨if sp.isSome then .ready else .none_, sp, none, none⟩).noneCount 2)
  refine ⟨P', wr Q q ⟨if sp.isSome then .ready else .none_, sp, none, none⟩, g', he.trans ?_, ?_⟩
  · rw [ht]
    rfl
  · refine hP.trans ?_
    rw [ht] at hP'
    exact hP'

/-- The tiles of the domains that are on taken into use again. -/
def State.quadsOn (s : State) : State := (List.range 4).foldl (fun (u : State) q => if u.domOn (6 + q) then u.quadOn q else u) s

theorem State.QuadsGraded.quadsOn (hno : s.pl.live = none) : s.QuadsGraded s.quadsOn := by
  refine foldl_inv (P := fun u : State => s.QuadsGraded u) (fun u q hu => ?_) (List.range 4)
    ⟨s.ports, s.hlt.quads, s.hlt.grades, rfl, Ports.Signalled.refl _⟩
  split
  · exact hu.quadOn hno q
  · exact hu

/-- The full self-test over. -/
def State.fullOver (s : State) (out : List Nat) : State := { s with hlt := { s.hlt with full := none, out := out } }

theorem State.fullEnd_others {tiles : BitVec 68} {lanes : BitVec 48} {mem_ : Bool} {h : Nat} (hf : s.hlt.full = some ⟨6, p, h⟩) (hno : s.pl.live = none) :
    s.fullEnd tiles lanes mem_ = (s.fullOver s.hlt.out).complete p h .ok 0 (leBytes 9 0 ++ leBytes 6 lanes.toNat ++ leBytes 1 (b2n mem_)) := by
  have h0 : bit 6 0 = false := rfl
  have h1 : bit 6 1 = true := rfl
  have h2 : bit 6 2 = true := rfl
  unfold State.fullEnd
  rw [hf]
  dsimp only
  rw [h0, h1, h2, hno, Bool.true_and, if_pos rfl]
  rfl

theorem State.fullEnd_tiles {tiles : BitVec 68} {lanes : BitVec 48} {mem_ : Bool} {h : Nat} (hf : s.hlt.full = some ⟨1, p, h⟩) (hno : s.pl.live = none) :
    s.fullEnd tiles lanes mem_ = (s.fullOver ((List.range 68).filter (fun k => !tiles.getLsbD k))).quadsOn.complete p h .ok 0
      (leBytes 9 tiles.toNat ++ leBytes 6 0 ++ leBytes 1 0) := by
  have h0 : bit 1 0 = true := rfl
  have h1 : bit 1 1 = false := rfl
  have h2 : bit 1 2 = false := rfl
  unfold State.fullEnd
  rw [hf]
  dsimp only
  rw [h0, h1, h2, hno, Bool.false_and, if_pos rfl, if_pos rfl]
  rfl

theorem State.selftestFull_ends {tiles : BitVec 68} {lanes : BitVec 48} {mem_ : Bool} (hcalm : s.portsCalm) (ha : s.canAnswer p f)
    (hf : s.hlt.full = some ⟨6, p, f.handle⟩) (hno : s.pl.live = none) : ∃ t, exec (.selftestFullEnd tiles lanes mem_) s = .next t ∧
      t.hlt = { s.hlt with full := none } ∧
      s.closed t p f .ok 0 (leBytes 9 0 ++ leBytes 6 lanes.toNat ++ leBytes 1 (if mem_ then 1 else 0)) := by
  obtain ⟨u, hu⟩ : ∃ u : State, u = s.fullOver s.hlt.out := ⟨_, rfl⟩
  have hports : u.ports = s.ports := by rw [hu]; rfl
  have hcalm' : u.portsCalm := hcalm.congr hports (by rw [hu]; rfl)
  obtain ⟨P, hP, hcl⟩ := State.complete_closed (ha.congr (t := u) hports (by rw [hu]; rfl)) .ok 0
    (leBytes 9 0 ++ leBytes 6 lanes.toNat ++ leBytes 1 (b2n mem_)) (by simp [leBytes_length])
  have hserve : (u.complete p f.handle .ok 0 (leBytes 9 0 ++ leBytes 6 lanes.toNat ++ leBytes 1 (b2n mem_))).serve = { u with ports := P } := by
    rw [State.serve_eq_self ((u.complete_fewer _ _ _ _ _).calm hcalm'), hP]
  refine ⟨{ u with ports := P }, ?_, by rw [hu]; rfl, ?_⟩
  · show Host.Outcome.next ((s.fullEnd tiles lanes mem_).serve) = _
    rw [State.fullEnd_others hf hno, ← hu, hserve]
  · rw [← b2n_eq_ite]
    exact hcl.congr hports.symm rfl

theorem State.selftestFull_endsTiles {tiles : BitVec 68} {lanes : BitVec 48} {mem_ : Bool} (hcalm : s.portsCalm) (ha : s.canAnswer p f)
    (hf : s.hlt.full = some ⟨1, p, f.handle⟩) (hno : s.pl.live = none) : ∃ t, exec (.selftestFullEnd tiles lanes mem_) s = .next t ∧
      t.hlt.full = none ∧ (∀ k, k < 68 → (k ∈ t.hlt.out ↔ tiles.getLsbD k = false)) ∧
      s.closed t p f .ok 0 (leBytes 9 tiles.toNat ++ leBytes 6 0 ++ leBytes 1 0) := by
  obtain ⟨P, Q, g, he, hP⟩ := State.QuadsGraded.quadsOn (s := s.fullOver ((List.range 68).filter (fun k => !tiles.getLsbD k))) hno
  obtain ⟨u, hu⟩ : ∃ u : State, u = (s.fullOver ((List.range 68).filter (fun k => !tiles.getLsbD k))).quadsOn := ⟨_, rfl⟩
  rw [← hu] at he
  have hsame : s.ports.Same u.ports := by rw [he]; exact hP.same
  have hcalm' : u.portsCalm := hcalm.same hsame (by rw [he]; rfl)
  have hlen : (leBytes 9 tiles.toNat ++ leBytes 6 0 ++ leBytes 1 0).length ≤ 400 := by simp [leBytes_length]
  obtain ⟨R, hR, hcl, -⟩ := State.complete_ends ((ha.ends hlen).same hsame (by rw [he]; rfl)) .ok 0
  have hserve : (u.complete p f.handle .ok 0 (leBytes 9 tiles.toNat ++ leBytes 6 0 ++ leBytes 1 0)).serve = { u with ports := R } := by
    rw [State.serve_eq_self ((u.complete_fewer _ _ _ _ _).calm hcalm'), hR]
  refine ⟨{ u with ports := R }, ?_, by rw [he]; rfl, fun k hk => ?_, hcl.same hsame (Ports.Same.refl _)⟩
  · show Host.Outcome.next ((s.fullEnd tiles lanes mem_).serve) = _
    rw [State.fullEnd_tiles hf hno, ← hu, hserve]
  · have hout : u.hlt.out = (List.range 68).filter (fun k => !tiles.getLsbD k) := by rw [he]; rfl
    show k ∈ u.hlt.out ↔ _
    rw [hout, List.mem_filter, List.mem_range]
    simp [hk]

end

/-- Settles O55: each row changes the quadrant, the measurements or the samples that it speaks of; grading the indicators and
completing a command change nothing else. -/
theorem healthEvents : Obligations.HealthEvents := by
  intro s q x hq hx
  subst hx
  refine ⟨fun m hm h1 hb => congrArg Host.Outcome.next (State.pass1End_ends hm h1 hb),
    fun m hm _ hb => congrArg Host.Outcome.next (State.pass1End_early hm hb), fun m hm h2 => congrArg Host.Outcome.next (State.pass2End_ends hm h2),
    fun hm => ⟨congrArg Host.Outcome.next (State.passEnds_idle hm).1, congrArg Host.Outcome.next (State.passEnds_idle hm).2⟩,
    fun p f k corr itime hcalm ha hh ht hc hi => State.selftestEnd_passes hcalm ha hh ht hc hi hq,
    fun p f k uncorr corr itime hcalm ha _ ht => State.selftestEnd_fails hcalm ha ht hq, fun freqs eyes => s.ageing_measures freqs eyes,
    fun temps tj htj h => State.stress_accumulates htj h, fun low h => congrArg Host.Outcome.next (State.daily_stopped h low),
    fun low hcp hl hno => State.daily_idle hcp hl hno, fun low v hcp hl hmax hf => State.daily_first hcp hl hmax hf,
    fun low hcp hlo hhi hx => State.daily_estimates hcp hlo hhi hx, fun tiles lanes mem hcalm h => ?_,
    fun tiles lanes mem p f hcalm ha hf hno => State.selftestFull_ends hcalm ha hf hno,
    fun tiles lanes mem p f hcalm ha hf hno => State.selftestFull_endsTiles hcalm ha hf hno⟩
  show Host.Outcome.next ((s.fullEnd tiles lanes mem).serve) = _
  rw [State.fullEnd_idle h, State.serve_eq_self hcalm]

end Sys2Proof.Machine
end

section
/-!
SUPPORT. What every operation of a boot leaves unchanged: what the firmware runs, whether the control processor runs, and command
service where it is calm.
-/
namespace Sys2Proof.Machine
-- Proofs checked one at a time, which bounds the memory that the whole text takes.
set_option Elab.async false

/-- From `s` to `u` an operation ran that leaves what the firmware runs and whether the control processor runs; command service stays
calm. -/
structure State.Drifts (s u : State) : Prop where
  core : u.boot.core = s.boot.core
  running : u.pwr.cpRunning = s.pwr.cpRunning
  calm : s.portsCalm → u.portsCalm

section
variable {s t u : State}

theorem State.Drifts.refl (s : State) : s.Drifts s := ⟨rfl, rfl, id⟩

theorem State.Drifts.trans (h : s.Drifts t) (g : t.Drifts u) : s.Drifts u :=
  ⟨g.core.trans h.core, g.running.trans h.running, g.calm ∘ h.calm⟩

theorem State.Moves.drifts (h : s.Moves u) : s.Drifts u := ⟨h.boot, congrArg Pwr.cpRunning h.pwr, h.calm⟩

/-- A step that leaves the ports alone. -/
theorem State.Drifts.still (hcore : u.boot.core = s.boot.core) (hcp : u.pwr.cpRunning = s.pwr.cpRunning) (hports : u.ports = s.ports)
    (htw : u.tw = s.tw) : s.Drifts u := ⟨hcore, hcp, fun h => h.congr hports htw⟩

theorem State.Drifts.ite (c : Prop) [Decidable c] (h : s.Drifts t) (g : s.Drifts u) : s.Drifts (if c then t else u) := by
  split
  · exact h
  · exact g

theorem State.Drifts.foldl {α : Type} {f : State → α → State} (hf : ∀ u a, State.Drifts u (f u a)) (l : List α) (s : State) :
    s.Drifts (l.foldl f s) := by
  induction l generalizing s with
  | nil => exact State.Drifts.refl s
  | cons a l ih => exact (hf s a).trans (ih _)

theorem State.Drifts.turns {f : Nat → State → State} (hf : ∀ i u, State.Drifts u (f i u)) (n : Nat) (s : State) : s.Drifts (turns n s f) := by
  unfold Machine.turns
  exact State.Drifts.foldl (fun u i => hf i u) _ s

end

section
variable (s : State)

/-! CONFIG (17 R510). -/

theorem State.Drifts.setPort_masks (p : CPort) (g m : Nat) : s.Drifts (s.setPort p { (s.port p) with groups := g, privs := m }) := by
  have hsame : s.ports.Same (s.setPort p { (s.port p) with groups := g, privs := m }).ports := by
    refine ⟨fun q => ?_, by cases p <;> rfl⟩
    by_cases hq : q = p
    · subst hq
      show (s.port q).Same ((s.setPort q _).port q)
      rw [State.setPort_port_self]
      exact ⟨rfl, rfl, rfl, rfl, rfl, rfl, fun _ => rfl, rfl⟩
    · show (s.port q).Same ((s.setPort p _).port q)
      rw [State.setPort_port_other _ _ _ _ hq]
      exact PortS.Same.refl _
  exact ⟨by rw [State.setPort_boot], by rw [State.setPort_pwr], fun h => h.same hsame (by rw [State.setPort_tw])⟩

theorem State.Drifts.applyMasks : s.Drifts s.applyMasks := by
  unfold State.applyMasks
  exact State.Drifts.foldl (fun u p => State.Drifts.setPort_masks u p _ _) _ s

theorem State.Drifts.setHold (l : Nat) (f : Chan → Chan) : s.Drifts (s.setHold l f) := (State.Moves.setHold s l f).drifts

theorem State.Drifts.rebind : s.Drifts s.rebind :=
  State.Drifts.foldl (fun u l => State.Drifts.ite _ (State.Drifts.refl u) (State.Drifts.setHold u l _)) s.leads s

theorem State.Drifts.setRail (r : Nat) (x : Rail) : s.Drifts (s.setRail r x) := State.Drifts.still rfl rfl rfl rfl
theorem State.Drifts.endCond (c z e : Nat) : s.Drifts (s.endCond c z e) := State.Drifts.still rfl rfl rfl rfl
theorem State.Drifts.raise (c z e d : Nat) : s.Drifts (s.raise c z e d) := State.Drifts.still rfl rfl rfl rfl
theorem State.Drifts.setLane (i : Nat) (l : Lane) : s.Drifts (s.setLane i l) := State.Drifts.still rfl rfl rfl rfl
theorem State.Drifts.setTsLane (i : Nat) (l : TsLane) : s.Drifts (s.setTsLane i l) := State.Drifts.still rfl rfl rfl rfl
theorem State.Drifts.setTile (k : Nat) (x : Tile) : s.Drifts (s.setTile k x) := State.Drifts.still rfl rfl rfl rfl
theorem State.Drifts.setQuad (q : Nat) (x : Quad) : s.Drifts (s.setQuad q x) := State.Drifts.still rfl rfl rfl rfl
theorem State.Drifts.event (v : Nat) : s.Drifts (s.event v) := (State.Moves.event s v).drifts

theorem State.Drifts.setGrade (i level : Nat) : s.Drifts (s.setGrade i level) := by
  unfold State.setGrade
  refine State.Drifts.ite _ (State.Drifts.refl s) (State.Drifts.trans ?_ (State.Drifts.event _ 9))
  exact State.Drifts.still rfl rfl rfl rfl

theorem State.Drifts.gradeFlash : s.Drifts s.gradeFlash := (State.Drifts.setGrade s 3 _).trans (State.Drifts.setGrade _ 4 _)
theorem State.Drifts.gradeSpare : s.Drifts s.gradeSpare := State.Drifts.setGrade s 5 _

theorem State.Drifts.configRail (r : Nat) (c : RailCfg) : s.Drifts (s.configRail r c) :=
  (State.Drifts.setRail s r { s.railOf r with cfg := some c, outside := (s.railOf r).outside || (s.railOf r).cfg.isNone }).trans
    (State.Drifts.rebind _)

theorem State.Drifts.clearRail (r : Nat) : s.Drifts (s.clearRail r) := by
  refine State.Drifts.trans (State.Drifts.trans (State.Drifts.trans ?_ (State.Drifts.endCond _ 0x0908 0xA0 r))
    (State.Drifts.endCond _ 0x0909 0xA0 r)) (State.Drifts.rebind _)
  exact State.Drifts.setRail s r _

theorem State.Drifts.startLane (i : Nat) : s.Drifts (s.startLane i) := by
  unfold State.startLane
  exact State.Drifts.ite _ (State.Drifts.setLane s i _) (State.Drifts.refl s)

theorem State.Drifts.finPtpConfig (c : PtpCfg) : s.Drifts (finPtpConfig c false s).2 := State.Drifts.still rfl rfl rfl rfl
theorem State.Drifts.finPtpPortConfig (i : Nat) (c : PtpPortCfg) : s.Drifts (finPtpPortConfig i c false s).2 := State.Drifts.still rfl rfl rfl rfl
theorem State.Drifts.finPpsOutConfig (en : Bool) (w : Nat) : s.Drifts (finPpsOutConfig en w false s).2 := State.Drifts.still rfl rfl rfl rfl
theorem State.Drifts.finRefCandConfig (i : Nat) (l : Bool) (q : Nat) : s.Drifts (finRefCandConfig i l q false s).2 := State.Drifts.still rfl rfl rfl rfl
theorem State.Drifts.finRefOscTrimSet (x : Int) : s.Drifts (finRefOscTrimSet x false s).2 := State.Drifts.still rfl rfl rfl rfl
theorem State.Drifts.finMclkConfig (w : Bool) (a b : Nat) : s.Drifts (finMclkConfig w a b false s).2 := State.Drifts.still rfl rfl rfl rfl
theorem State.Drifts.finEsmcConfig (i : Nat) (a b : Bool) : s.Drifts (finEsmcConfig i a b false s).2 := State.Drifts.still rfl rfl rfl rfl
theorem State.Drifts.finNetQueueConfig (p q r m : Nat) : s.Drifts (finNetQueueConfig p q r m false s).2 := State.Drifts.still rfl rfl rfl rfl
theorem State.Drifts.finNetSwitchConfig (a b c d : Nat) : s.Drifts (finNetSwitchConfig a b c d false s).2 := State.Drifts.still rfl rfl rfl rfl

theorem State.Drifts.applyConfig : s.Drifts s.applyConfig := by
  unfold State.applyConfig
  extract_lets c s1 s2 s3 n s4 s5 s6 s7 pps s8 s9 s10 m s11 s12 s13 p s14 src
  have h3 : s.Drifts s3 := by
    refine (State.Drifts.applyMasks s).trans (State.Drifts.trans (t := s2) (State.Drifts.still rfl rfl rfl rfl) ?_)
    exact State.Drifts.ite _ (State.Drifts.refl s2) (State.Drifts.still rfl rfl rfl rfl)
  have h4 : s3.Drifts s4 := State.Drifts.still rfl rfl rfl rfl
  have h5 : s4.Drifts s5 := State.Drifts.finPtpConfig s4 _
  have h6 : s5.Drifts s6 := State.Drifts.turns (fun i u => State.Drifts.finPtpPortConfig u i _) 8 s5
  have h7 : s6.Drifts s7 := State.Drifts.turns (fun i u => State.Drifts.setTsLane u i _) 8 s6
  have h8 : s7.Drifts s8 := State.Drifts.finPpsOutConfig s7 _ _
  have h9 : s8.Drifts s9 := State.Drifts.turns (fun i u => State.Drifts.finRefCandConfig u i _ _) 15 s8
  have h10 : s9.Drifts s10 := State.Drifts.finRefOscTrimSet s9 _
  have h11 : s10.Drifts s11 := State.Drifts.finMclkConfig s10 _ _ _
  have h12 : s11.Drifts s12 := State.Drifts.turns (fun i u => State.Drifts.finEsmcConfig u i _ _) 8 s11
  have h13 : s12.Drifts s13 := by
    refine State.Drifts.turns (fun r u => ?_) 4 s12
    split
    · exact State.Drifts.configRail u r _
    · exact State.Drifts.ite _ (State.Drifts.clearRail u r) (State.Drifts.refl u)
  have hsettings : s.Drifts s9 := h3.trans (h4.trans (h5.trans (h6.trans (h7.trans (h8.trans h9)))))
  refine hsettings.trans (h10.trans (h11.trans (h12.trans (h13.trans ?_))))
  exact State.Drifts.still rfl rfl rfl rfl

theorem State.Drifts.applyColdConfig : s.Drifts s.applyColdConfig := by
  unfold State.applyColdConfig
  extract_lets c s1 s2 s3 s4
  have h1 : s.Drifts s1 := State.Drifts.foldl (fun u x => State.Drifts.setLane u _ _) _ s
  have h2 : s1.Drifts s2 := State.Drifts.foldl (fun u x => State.Drifts.finNetQueueConfig u _ _ _ _) _ s1
  have h3 : s2.Drifts s3 := by
    simp only [s3]
    split
    · exact State.Drifts.finNetSwitchConfig s2 _ _ _ _
    · exact State.Drifts.refl s2
  have h4 : s3.Drifts s4 := State.Drifts.foldl (fun u x => State.Drifts.setLane u _ _) _ s3
  exact h1.trans (h2.trans (h3.trans (h4.trans (State.Drifts.foldl (fun u i => State.Drifts.startLane u i) _ s4))))

/-! Domains that go off (19 R560). -/

theorem State.Drifts.complete (q : CPort) (n : Nat) (st : Status) (d : Nat) (r : List Byte) : s.Drifts (s.complete q n st d r) :=
  (State.Moves.complete s q n st d r).drifts

theorem State.Drifts.finish (cmd : Option (CPort × Nat)) (st : Status) (d : Nat) (r : List Byte) : s.Drifts (s.finish cmd st d r) := by
  cases cmd with
  | none => exact State.Drifts.refl s
  | some x => exact State.Drifts.complete s x.1 x.2 st d r

theorem State.Drifts.heldState (id : Option Nat) (st : Nat) : s.Drifts (s.heldState id st) := by
  cases id with
  | none => exact State.Drifts.refl s
  | some i => exact State.Drifts.still rfl rfl rfl rfl

theorem State.Drifts.leaveUp (i : Nat) (next : LinkSt) (cause : Nat) : s.Drifts (s.leaveUp i next cause) := by
  unfold State.leaveUp
  dsimp only
  split
  case isTrue =>
    refine State.Drifts.trans (State.Drifts.trans (State.Drifts.trans ?_ (State.Drifts.event _ 7)) (State.Drifts.raise _ _ _ _ _))
      (State.Drifts.ite _ (State.Drifts.refl _) (State.Drifts.raise _ _ _ _ _))
    exact State.Drifts.still rfl rfl rfl rfl
  case isFalse => exact State.Drifts.setLane s i _

theorem State.Drifts.disableLane (i : Nat) : s.Drifts (s.disableLane i) :=
  (State.Drifts.leaveUp s i .disabled 2).trans ((State.Drifts.endCond _ 0x0401 (laneZone i) i).trans (State.Drifts.setLane _ i _))

theorem State.Drifts.dmOff : s.Drifts s.dmOff := by
  unfold State.dmOff State.retrainDone
  dsimp only
  split
  · exact State.Drifts.still rfl rfl rfl rfl
  · refine State.Drifts.trans ?_ (State.Drifts.complete _ _ _ _ _ _)
    exact State.Drifts.still rfl rfl rfl rfl

theorem State.Drifts.endStops : s.Drifts s.endStops := by
  unfold State.endStops
  extract_lets src u
  have hu : s.Drifts u := State.Drifts.still rfl rfl rfl rfl
  exact hu.trans (State.Drifts.foldl (fun v x => State.Drifts.complete v _ _ _ _ _) _ u)

theorem State.Drifts.saDisable (i : Nat) : s.Drifts (s.saDisable i) := by
  refine State.Drifts.trans ?_ (State.Drifts.endCond _ _ _ _)
  exact State.Drifts.still rfl rfl rfl rfl

theorem State.Drifts.abortTest (q : Nat) : s.Drifts (s.abortTest q) := by
  unfold State.abortTest
  extract_lets x s1 s2
  have h1 : s.Drifts s1 := by
    simp only [s1]
    split
    · exact (State.Drifts.heldState s _ 4).trans (State.Drifts.finish _ _ _ _ _)
    · exact State.Drifts.refl s
  have h2 : s1.Drifts s2 := by
    simp only [s2]
    split
    · exact State.Drifts.ite _ ((State.Drifts.heldState s1 _ 4).trans (State.Drifts.finish _ _ _ _ _)) (State.Drifts.refl s1)
    · exact State.Drifts.refl s1
  exact h1.trans (h2.trans (State.Drifts.setQuad s2 q _))

theorem State.Drifts.quadOff (q : Nat) : s.Drifts (s.quadOff q) := by
  unfold State.quadOff
  extract_lets s1 s2 s3
  have h1 : s.Drifts s1 := by
    simp only [s1]
    split
    · exact State.Drifts.ite _ (State.Drifts.refl s) (State.Drifts.finish s _ _ _ _)
    · exact State.Drifts.refl s
  have h3 : s2.Drifts s3 := State.Drifts.foldl (fun u i => State.Drifts.setTile u _ _) _ s2
  exact h1.trans ((State.Drifts.abortTest s1 q).trans (h3.trans ((State.Drifts.setQuad s3 q _).trans (State.Drifts.gradeSpare _))))

theorem State.Drifts.dropGroups (p : CPort) : s.Drifts (s.dropGroups p) := by
  unfold State.dropGroups
  refine State.Drifts.foldl (fun u i => ?_) _ s
  extract_lets g src v
  have hv : u.Drifts v := State.Drifts.still rfl rfl rfl rfl
  exact State.Drifts.ite _ (State.Drifts.ite _ (hv.trans (State.Drifts.complete v p g.handle .aborted 0 [])) hv) (State.Drifts.refl u)

theorem State.Drifts.setPort {p : CPort} (hp : p ≠ .C ∧ p ≠ .D) (x : PortS) (hf : ∀ f ∈ x.flights, f ∈ (s.port p).flights)
    (hx : x.placed = (s.port p).placed ∨ x.placed = []) : s.Drifts (s.setPort p x) := by
  refine ⟨by rw [State.setPort_boot], by rw [State.setPort_pwr], fun hc => (State.PortOnly.setPort s p x).calm hp hc ?_ ?_⟩
  · rw [State.setPort_port_self]
    exact hf
  · rw [State.setPort_port_self]
    exact hx

theorem State.Drifts.offFlash (p : CPort) (h : Nat) : s.Drifts (s.offFlash p h) :=
  ⟨rfl, rfl, fun hc => hc.same (Ports.same_flash s.ports _ s.ports.flashOn) rfl⟩

theorem State.Drifts.portDrained {p : CPort} (hp : p ≠ .C ∧ p ≠ .D) : s.Drifts (s.portDrained p) := by
  have hd : ∀ x : PortS, x.drained.flights = x.flights ∧ x.drained.placed = x.placed := by
    intro x
    unfold PortS.drained
    split <;> exact ⟨rfl, rfl⟩
  exact State.Drifts.setPort s hp _ (fun f hf => (hd _).1 ▸ hf) (Or.inl (hd _).2)

theorem State.Drifts.portLeft {s t : State} {p : CPort} (hp : p ≠ .C ∧ p ≠ .D) (h : s.Drifts t) (off : List Flight) :
    s.Drifts (((off.foldl (fun u f => u.offFlash p f.handle) t).dropGroups p).portDrained p) := by
  have hoff : t.Drifts (off.foldl (fun u f => u.offFlash p f.handle) t) := State.Drifts.foldl (fun u f => State.Drifts.offFlash u p f.handle) off t
  exact h.trans (hoff.trans ((State.Drifts.dropGroups _ p).trans (State.Drifts.portDrained _ hp)))

theorem State.Drifts.drain {p : CPort} (hp : p ≠ .C ∧ p ≠ .D) : s.Drifts (s.drain p) := by
  unfold State.drain
  dsimp only
  split
  · exact State.Drifts.setPort s hp _ (fun f hf => hf) (Or.inl rfl)
  · exact State.Drifts.setPort s hp _ (fun f hf => hf) (Or.inl rfl)
  · refine State.Drifts.portLeft hp (State.Drifts.setPort s hp _ ?_ (Or.inr rfl)) _
    exact fun f hf => (List.mem_filter.mp hf).1

theorem State.Drifts.resetFunction {p : CPort} (hp : p ≠ .C ∧ p ≠ .D) : s.Drifts (s.resetFunction p) := by
  obtain ⟨h, hport⟩ := s.resetFunction_spec p
  refine ⟨by rw [h.rest], by rw [h.pwr], fun hc => h.calm hp hc ?_ ?_⟩
  · rw [hport]
    exact fun f hf => hf
  · rw [hport]
    exact Or.inl rfl

theorem State.Drifts.setAccess (b : Block) (a : Access) : s.Drifts (s.setAccess b a) := ⟨rfl, rfl, fun h => State.setAccess_calm h b a⟩

theorem State.Drifts.resetAccess (bs : List Block) : s.Drifts (s.resetAccess bs) :=
  State.Drifts.foldl (fun u b => State.Drifts.setAccess u b Access.reset) bs s

theorem State.Drifts.closeZones (z : Nat → Bool) (keep : Episode → Bool) : s.Drifts (s.closeZones z keep) := (State.Moves.closeZones s z keep).drifts

theorem State.Drifts.disableLanes (l : List Nat) : s.Drifts (l.foldl (fun u i => (u.disableLane i).freshFifo i) s) :=
  State.Drifts.foldl (fun u i => (State.Drifts.disableLane u i).trans (State.Drifts.setTsLane _ i _)) l s

theorem State.Drifts.portsOff : s.Drifts ((List.range 8).foldl (fun u i => u.saDisable i)
    ((((s.drain .A).drain .B).resetFunction .A).resetFunction .B)) := by
  have hA : CPort.A ≠ .C ∧ CPort.A ≠ .D := by decide
  have hB : CPort.B ≠ .C ∧ CPort.B ≠ .D := by decide
  refine State.Drifts.trans ?_ (State.Drifts.foldl (fun u i => State.Drifts.saDisable u i) _ _)
  exact (State.Drifts.drain s hA).trans ((State.Drifts.drain _ hB).trans ((State.Drifts.resetFunction _ hA).trans (State.Drifts.resetFunction _ hB)))

theorem State.Drifts.domStop (d : Nat) : s.Drifts (s.domStop d) := by
  unfold State.domStop
  extract_lets u blocks
  have hu : s.Drifts u := by
    simp only [u]
    split
    · exact State.Drifts.disableLanes s _
    · exact State.Drifts.disableLanes s _
    · exact State.Drifts.still rfl rfl rfl rfl
    · exact State.Drifts.still rfl rfl rfl rfl
    · exact State.Drifts.dmOff s
    · refine State.Drifts.trans ?_ (State.Drifts.endStops _)
      exact State.Drifts.still rfl rfl rfl rfl
    · exact State.Drifts.portsOff s
    · exact State.Drifts.ite _ (State.Drifts.quadOff s _) (State.Drifts.refl s)
  exact hu.trans ((State.Drifts.resetAccess u blocks).trans (State.Drifts.closeZones _ _ _))

theorem State.Drifts.setDom (d : Nat) (x : DomSt) : s.Drifts (s.setDom d x) := State.Drifts.still rfl rfl rfl rfl

theorem State.Drifts.domItem (d : Nat) (on : Bool) : s.Drifts (s.domItem d on).1 := by
  unfold State.domItem
  split
  · exact State.Drifts.setDom s d _
  · exact (State.Drifts.domStop s d).trans (State.Drifts.setDom _ d _)
  · exact State.Drifts.refl s

theorem Flight.settled_flash {f : Flight} (h : f.settled) : ({ f with flash := true } : Flight).settled := ⟨h.1, h.2.1, rfl⟩

theorem State.Drifts.flashJoin (p : CPort) (h : Nat) : s.Drifts (s.flashJoin p h) := by
  obtain ⟨fs, hfs⟩ : ∃ fs, fs = (s.port p).flights.map (fun f => if f.handle = h then { f with flash := true } else f) := ⟨_, rfl⟩
  have hport : ∀ q, (s.flashJoin p h).port q = if q = p then { s.port p with flights := fs } else s.port q := by
    subst hfs
    intro q
    cases p <;> cases q <;> rfl
  refine ⟨by cases p <;> rfl, by cases p <;> rfl, fun hc q => ?_⟩
  have hknown : (s.flashJoin p h).unknownDesc q = false := by
    refine State.unknownDesc_kept (fun q => (hc q).2.2) (by cases p <;> rfl) (by cases p <;> rfl) (Or.inr ?_) q
    rw [hport]
    split
    case isTrue hD => subst hD; exact ⟨rfl, rfl⟩
    case isFalse => exact ⟨rfl, rfl⟩
  rw [hport]
  split
  case isTrue hq =>
    subst hq
    refine ⟨fun f hf => ?_, (hc q).2.1, hknown⟩
    obtain ⟨g, hg, hgf⟩ := List.mem_map.mp (hfs ▸ hf)
    have hset := (hc q).1 g hg
    rw [← hgf]
    split
    · exact Flight.settled_flash hset
    · exact hset
  case isFalse => exact ⟨(hc q).1, (hc q).2.1, hknown⟩

theorem State.Drifts.domEnd (x : DomCmd) : s.Drifts (s.domEnd x) := by
  unfold State.domEnd
  split
  · exact State.Drifts.refl s
  · exact State.Drifts.ite _ (State.Drifts.flashJoin s _ _) (State.Drifts.complete s _ _ _ _ _)

theorem State.Drifts.domRun (n : Nat) : s.Drifts (State.domRun n s) := by
  induction n generalizing s with
  | zero => exact State.Drifts.refl s
  | succ n ih =>
    unfold State.domRun
    split
    · exact State.Drifts.refl s
    · split
      · exact State.Drifts.refl s
      · split
        · refine State.Drifts.trans (State.Drifts.trans ?_ (State.Drifts.domEnd _ _)) (ih _)
          exact State.Drifts.still rfl rfl rfl rfl
        · next d on rest _ =>
          have hi := State.Drifts.domItem s d on
          generalize s.domItem d on = r at hi
          obtain ⟨v, ended⟩ := r
          dsimp only
          split
          · refine hi.trans (State.Drifts.trans ?_ (ih _))
            exact State.Drifts.still rfl rfl rfl rfl
          · exact hi

/-! The end of a boot (17 R510, R519). -/

theorem State.Drifts.applyOffMask : s.Drifts s.applyOffMask := by
  unfold State.applyOffMask
  refine State.Drifts.ite _ (State.Drifts.refl s) ?_
  extract_lets named used off src u
  have hu : s.Drifts u := State.Drifts.still rfl rfl rfl rfl
  exact hu.trans (State.Drifts.domRun u _)

theorem State.Drifts.applyPin : s.Drifts s.applyPin := by
  unfold State.applyPin
  split
  · exact ((State.Moves.setFlt s _).trans (State.Moves.pinFollow _)).drifts
  · exact State.Drifts.refl s

theorem State.Drifts.resumeTimers : s.Drifts s.resumeTimers := (State.Moves.setFlt s _).drifts

theorem State.Drifts.cpServed : s.Drifts s.cpServed := by
  unfold State.cpServed
  split
  · exact State.Drifts.ite _ (State.Drifts.refl s) (State.Moves.settle s _).drifts
  · exact State.Drifts.refl s

theorem State.writeComplete_served (h : s.pwr.service = true) (q : CPort) (n : Nat) (st : Status) (d : Nat) (r : List Byte) :
    s.writeComplete q n st d r = s.complete q n st d r := by
  unfold State.complete
  rw [h, if_pos rfl]

theorem State.Drifts.completes (ds : List (CPort × Nat × Status × Nat × List Byte)) (h : s.pwr.service = true) :
    s.Drifts (ds.foldl (fun v x => v.writeComplete x.1 x.2.1 x.2.2.1 x.2.2.2.1 x.2.2.2.2) s) := by
  induction ds generalizing s with
  | nil => exact State.Drifts.refl s
  | cons x ds ih =>
    have hx := State.Moves.complete s x.1 x.2.1 x.2.2.1 x.2.2.2.1 x.2.2.2.2
    rw [List.foldl_cons, State.writeComplete_served s h]
    exact hx.drifts.trans (ih _ (by rw [hx.pwr]; exact h))

theorem State.Drifts.resumeService : s.Drifts s.resumeService := by
  unfold State.resumeService
  extract_lets ds src src' u
  have hu : s.Drifts u := ⟨rfl, rfl, fun h => h.same (Ports.same_deferred s.ports []) rfl⟩
  exact hu.trans (State.Drifts.completes u ds rfl)

theorem State.Drifts.noBootStruct : s.Drifts s.noBootStruct := by
  refine State.Drifts.trans ?_ (State.Drifts.raise _ _ _ _ _)
  exact State.Drifts.still rfl rfl rfl rfl

theorem State.Drifts.loadBoot : s.Drifts s.loadBoot := by
  unfold State.loadBoot State.tryCopy
  split
  · exact State.Drifts.still rfl rfl rfl rfl
  · dsimp only
    split
    · exact State.Drifts.still rfl rfl rfl rfl
    · refine State.Drifts.trans ?_ (State.Drifts.noBootStruct _)
      exact State.Drifts.still rfl rfl rfl rfl

theorem State.Drifts.finishConfirm : s.Drifts s.finishConfirm := by
  unfold State.finishConfirm
  dsimp only
  refine State.Drifts.ite _ (State.Drifts.refl s) ?_
  split
  · exact State.Drifts.refl s
  · refine State.Drifts.trans ?_ (State.Drifts.gradeFlash _)
    exact State.Drifts.still rfl rfl rfl rfl

theorem State.Drifts.bootMute (old : Nat) : s.Drifts (s.bootMute old) := by
  unfold State.bootMute
  dsimp only
  repeat' split
  all_goals exact State.Drifts.still rfl rfl rfl rfl

end

end Sys2Proof.Machine
end

section
/-!
SUPPORT. Activation, reload, trial, boot and log copy (17 R510 to R528): settles O53.
-/
namespace Sys2Proof.Machine
-- Proofs checked one at a time, which bounds the memory that the whole text takes.
set_option Elab.async false

/-! The flash queue with entries of commands that are not in flight. -/

theorem State.flashKick_gone {s : State} (h : ∀ x ∈ s.ports.flashQ, (s.port x.1).flight? x.2 = none) :
    ∃ P, s.flashKick = { s with ports := P } ∧ s.ports.Same P := by
  unfold State.flashKick
  split
  · exact ⟨_, rfl, Ports.same_flash s.ports s.ports.flashQ none⟩
  · next p n rest hq =>
    split
    · exact ⟨s.ports, rfl, Ports.Same.refl _⟩
    · have hnone := h (p, n) (by rw [hq]; exact List.mem_cons_self)
      dsimp only
      rw [show State.port { s with ports := { s.ports with flashOn := some (p, n), flashAt := s.now } } p = s.port p by cases p <;> rfl, hnone]
      exact ⟨_, rfl, fun q => by cases q <;> exact PortS.Same.refl _, rfl⟩

theorem flight?_filter (x : PortS) (n : Nat) : (x.flights.filter (fun g => g.handle != n)).find? (fun g => g.handle == n) = none := by
  rw [List.find?_eq_none]
  intro g hg hn
  simp_all

section
variable {s : State} {tm : Nat} {p : CPort} {f : Flight} {e : Env} {w : Nat} {rh : Bool} {img : List Byte}

/-! The end of the copy of an activation (17 R518, R519). -/

theorem State.activateCopyDone_eq {rest : List (CPort × Nat)} (ok : Bool) (hf : (s.port p).flight? f.handle = some f)
    (hcmd : f.cmd = .fwActivate e w rh) (hq : s.ports.flashQ = (p, f.handle) :: rest) :
    s.activateCopyDone ok = s.activated p f.handle w rh ok := by
  unfold State.activateCopyDone
  rw [hq]
  dsimp only
  rw [hf]
  dsimp only
  rw [hcmd]

theorem State.activated_failed {n : Nat} (hs : s.boot.stage = .staged img) :
    s.activated p n w rh false = (s.complete p n .integrity 0x00F8 []).flashFault 1 (65536 * slotSector (!s.boot.record.slotB)) := by
  unfold State.activated
  rw [hs]
  rfl

theorem State.closed.gone {t : State} {st : Status} {d : Nat} {res : List Byte} (h : s.closed t p f st d res) :
    (t.port p).flight? f.handle = none := by
  unfold PortS.flight?
  rw [h.flights]
  exact flight?_filter _ _

/-- A copy that fails answers its command, and boot keeps what it holds. -/
theorem State.copyDone_failed (hc : s.portsCalm) (ha : s.canAnswer p f) (hcmd : f.cmd = .fwActivate e w rh)
    (hq : s.ports.flashQ = [(p, f.handle)]) (hs : s.boot.stage = .staged img) :
    ∃ t, exec (.fwActivateCopyDone false tm) s = .next t ∧ t.boot = s.boot ∧ s.closed t p f .integrity 0x00F8 [] := by
  have ha' : (s.at_ tm).canAnswer p f := ha.congr rfl rfl
  have hfew := (s.at_ tm).complete_fewer p f.handle .integrity 0x00F8 []
  obtain ⟨P, hP, hcl⟩ := State.complete_closed ha' .integrity 0x00F8 [] (by decide)
  have hact := (State.activateCopyDone_eq (s := s.at_ tm) false ha'.flight hcmd hq).trans (State.activated_failed hs)
  obtain ⟨u, hu⟩ : ∃ u, u = (State.complete (s.at_ tm) p f.handle .integrity 0x00F8 []).flashFault 1
    (65536 * slotSector (!(s.at_ tm).boot.record.slotB)) := ⟨_, rfl⟩
  have hup : u.ports = P := by rw [hu, hP]; rfl
  have hub : u.boot = s.boot := by rw [hu, hP]; rfl
  have hgone : ∀ x ∈ u.ports.flashQ, (u.port x.1).flight? x.2 = none := by
    intro x hx
    have hx' := hfew.flash x (by rw [hP, ← hup]; exact hx)
    rw [show (s.at_ tm).ports.flashQ = [(p, f.handle)] from hq, List.mem_singleton] at hx'
    rw [hx', show u.port p = P.get p from congrArg (Ports.get · p) hup]
    exact hcl.gone
  obtain ⟨Q, hQ, hsame⟩ := State.flashKick_gone hgone
  have hcalm : u.portsCalm := (hfew.calm (hc.congr rfl rfl)).congr (by rw [hup, hP]) (by rw [hu]; rfl)
  refine ⟨{ u with ports := Q }, congrArg Host.Outcome.next ?_, hub, ?_⟩
  · show State.serve (State.flashKick ((s.at_ tm).activateCopyDone false)) = _
    rw [hact, ← hu, hQ]
    exact State.serve_calm _ (hcalm.same hsame rfl)
  · exact State.closed.same hcl (Ports.Same.refl _) (hup ▸ hsame)

/-- The record of an activation (17 R518). -/
def Boot.activation (b : Boot) (img : List Byte) (w : Nat) (rh : Bool) : BootRec :=
  { b.record.withImage (!b.record.slotB) img with
    st := .trial, trialBoots := 0, slotB := !b.record.slotB, requireHost := rh, windowS := if w = 0 then 300 else w, cause := 0 }

/-- Boot once the slot holds the image and the record of the activation is written. -/
def State.activatedBoot (s : State) (img : List Byte) (w : Nat) (rh : Bool) : Boot :=
  Boot.writeRec { s.boot with slots := wr s.boot.slots (slotIx (!s.boot.record.slotB)) (some img), portsWere := s.activePorts }
    (s.boot.activation img w rh)

theorem State.activatedBoot_record (s : State) (img : List Byte) (w : Nat) (rh : Bool) :
    (s.activatedBoot img w rh).record = { s.boot.activation img w rh with seq := s.boot.record.seq + 1 } := by
  have hrec : Boot.record { s.boot with slots := wr s.boot.slots (slotIx (!s.boot.record.slotB)) (some img), portsWere := s.activePorts } =
      s.boot.record := Boot.record_congr rfl
  exact (Boot.record_writeRec _ _).trans (by rw [hrec])

theorem State.activatedBoot_slots (s : State) (img : List Byte) (w : Nat) (rh : Bool) :
    (s.activatedBoot img w rh).slots = wr s.boot.slots (slotIx (!s.boot.record.slotB)) (some img) := rfl

theorem State.activated_ok {n : Nat} (hs : s.boot.stage = .staged img) :
    s.activated p n w rh true = (State.complete { s with boot := s.activatedBoot img w rh } p n .ok 0
      (leBytes 1 (slotIx (!s.boot.record.slotB)) ++ leBytes 1 (b2n (fwUcode img != s.boot.ucode)))).startReload (fwUcode img != s.boot.ucode) := by
  unfold State.activated
  rw [hs]
  dsimp only
  exact if_neg (by decide)

/-- What starts a reload on a state without flights. -/
theorem State.startReload_idle (h : ∀ q, (s.port q).flights = []) (change : Bool) : ∃ mute, s.startReload change =
    { s with pwr := { s.pwr with service := false }, boot := { s.boot with reload := true, mute := mute } } := by
  unfold State.startReload
  rw [State.abortAll_idle h]
  exact ⟨_, rfl⟩

theorem slotIx_eq (b : Bool) : slotIx b = if b then 1 else 0 := b2n_eq_ite b
theorem slotIx_not (b : Bool) : slotIx (!b) = if b then 0 else 1 := by cases b <;> rfl

/-- What an activation leaves in boot: the record, the slot of the image, the other slot, and the reload that follows. -/
theorem State.activated_spec (s : State) (img : List Byte) (w : Nat) (rh : Bool) (mute : Option Mute) {b : Boot}
    (hb : b = { s.activatedBoot img w rh with reload := true, mute := mute }) :
    b.record = { s.boot.activation img w rh with seq := s.boot.record.seq + 1 } ∧
      rd b.slots (if s.boot.record.slotB then 1 else 0) = rd s.boot.slots (if s.boot.record.slotB then 1 else 0) ∧
      rd b.slots (if s.boot.record.slotB then 0 else 1) = some img ∧ b.reload = true := by
  subst hb
  refine ⟨(Boot.record_congr rfl).trans (s.activatedBoot_record img w rh), ?_, ?_, rfl⟩
  · rw [← slotIx_eq]
    exact rd_wr_other _ _ _ _ (slotIx_not_ne s.boot.record.slotB)
  · rw [← slotIx_not]
    exact rd_wr_same _ _ _ (slotIx_lt _)

theorem activation_result (b : Bool) (x y : Nat) : leBytes 1 (slotIx (!b)) ++ leBytes 1 (b2n (x != y)) =
    resBytes [(1, if b then 0 else 1), (1, if x = y then 0 else 1)] := by
  have hx : b2n (x != y) = if x = y then 0 else 1 := by
    by_cases h : x = y <;> simp [b2n, h]
  rw [slotIx_not, hx]
  simp [resBytes]

/-- A copy that ends well writes a TRIAL record, answers its command, and the reload follows. -/
theorem State.copyDone_activates {rest : List (CPort × Nat)} (ha : s.canAnswer p f)
    (hfl : ∀ q, (s.port q).flights = if q = p then [f] else []) (hcmd : f.cmd = .fwActivate e w rh)
    (hq : s.ports.flashQ = (p, f.handle) :: rest) (hs : s.boot.stage = .staged img) :
    ∃ t mute, exec (.fwActivateCopyDone true tm) s = .next t ∧ t.boot = { s.activatedBoot img w rh with reload := true, mute := mute } ∧
      t.pwr.service = false ∧ s.closed t p f .ok 0 (resBytes [(1, if s.boot.record.slotB then 0 else 1),
        (1, if fwUcode img = s.boot.ucode then 0 else 1)]) := by
  obtain ⟨u, hu⟩ : ∃ u : State, u = { s.at_ tm with boot := s.activatedBoot img w rh } := ⟨_, rfl⟩
  have huw : u.pwr = s.pwr := by rw [hu]; rfl
  have hup : u.ports = s.ports := by rw [hu]; rfl
  have hub : u.boot = s.activatedBoot img w rh := by rw [hu]
  have hlen : (resBytes [(1, if s.boot.record.slotB then 0 else 1), (1, if fwUcode img = s.boot.ucode then 0 else 1)]).length ≤ 400 := by
    simp [resBytes, leBytes_length]
  obtain ⟨P, hP, hcl⟩ := State.complete_closed (ha.congr hup huw) .ok 0 _ hlen
  have hact := (State.activateCopyDone_eq (s := s.at_ tm) true (ha.congr rfl rfl : (s.at_ tm).canAnswer p f).flight hcmd hq).trans
    (State.activated_ok hs)
  have hnone : ∀ q, (P.get q).flights = [] := by
    intro q
    by_cases hqp : q = p
    · subst hqp
      refine hcl.flights.trans ?_
      rw [show u.port q = s.port q from congrArg (Ports.get · q) hup, hfl q, if_pos rfl]
      simp
    · refine (hcl.other q hqp).trans ?_
      rw [show u.port q = s.port q from congrArg (Ports.get · q) hup, hfl q, if_neg hqp]
  obtain ⟨mute, hmute⟩ := State.startReload_idle (s := { u with ports := P }) hnone (fwUcode img != s.boot.ucode)
  obtain ⟨v, hv⟩ : ∃ v : State, v = { u with ports := P, pwr := { u.pwr with service := false }
                                             boot := { u.boot with reload := true, mute := mute } } := ⟨_, rfl⟩
  have hvp : v.ports = P := by rw [hv]
  obtain ⟨Q, hQ, hsame⟩ := State.flashKick_gone (s := v) fun x _ => by
    unfold PortS.flight?
    rw [show v.port x.1 = P.get x.1 from congrArg (Ports.get · x.1) hvp, hnone]
    rfl
  refine ⟨{ v with ports := Q }, mute, congrArg Host.Outcome.next ?_, ?_, ?_, ?_⟩
  · have hdone : (s.at_ tm).activateCopyDone true = (u.complete p f.handle .ok 0
        (leBytes 1 (slotIx (!s.boot.record.slotB)) ++ leBytes 1 (b2n (fwUcode img != s.boot.ucode)))).startReload
        (fwUcode img != s.boot.ucode) := by
      rw [hu]
      exact hact
    show State.serve (State.flashKick ((s.at_ tm).activateCopyDone true)) = _
    rw [hdone, activation_result, hP, hmute, ← hv, hQ]
    exact State.serve_stopped (by rw [hv])
  · rw [hv, hub]
  · rw [hv]
  · exact State.closed.same hcl (hup ▸ Ports.Same.refl _) (hvp ▸ hsame)

/-! The reload (17 R519). -/

theorem State.hwHoldover_kept (s : State) : s.hwHoldover.boot = s.boot ∧ s.hwHoldover.pwr = s.pwr := by
  unfold State.hwHoldover
  dsimp only
  split
  · exact ⟨rfl, rfl⟩
  · exact ⟨rfl, rfl⟩

theorem State.stopCp_kept (s : State) : s.stopCp.boot = s.boot ∧ s.stopCp.pwr.dom = s.pwr.dom := by
  unfold State.stopCp
  extract_lets u v
  have hu : u.boot = s.boot ∧ u.pwr = s.pwr := by
    simp only [u]
    split
    · exact s.hwHoldover_kept
    · exact ⟨rfl, rfl⟩
  obtain ⟨hboot, hpwr⟩ := hu
  exact ⟨hboot, by rw [← hpwr]⟩

theorem State.ucodeReload_due (hr : s.boot.reload = true) (hcp : s.pwr.cpRunning = true) (hm : s.boot.mute = none) :
    s.ucodeReload = { s.stopCp with pwr := { s.stopCp.pwr with bootAfter := s.stopCp.now }, boot := { s.stopCp.boot with reload := false } } := by
  unfold State.ucodeReload
  rw [hm, hr, hcp]
  exact if_pos rfl

theorem State.ucodeReload_early {m : Mute} (hm : s.boot.mute = some m) (hin : m.inAt = none) (hb : s.per.boundaries < m.b + 64) :
    s.ucodeReload = s := by
  have hdue : decide (m.b + 64 ≤ s.per.boundaries) = false := decide_eq_false (by omega)
  unfold State.ucodeReload
  rw [hm]
  dsimp only
  rw [hin, hdue]
  simp

theorem State.stopCp_now (s : State) : s.stopCp.now = s.now := by
  unfold State.stopCp State.hwHoldover
  dsimp only
  repeat' split
  all_goals rfl

/-- The reload that is due stops the control processor, and boot may follow at once. -/
theorem State.reload_due (hr : s.boot.reload = true) (hcp : s.pwr.cpRunning = true) (hm : s.boot.mute = none) :
    ∃ t, exec (.ucodeReload tm) s = .next t ∧ t.pwr.cpRunning = false ∧ t.pwr.service = false ∧ t.pwr.bootAfter = max s.now tm ∧
      t.boot.reload = false ∧ t.pwr.dom = s.pwr.dom := by
  have hdue := State.ucodeReload_due (s := s.at_ tm) hr hcp hm
  obtain ⟨-, hrun, hservice, -⟩ := (s.at_ tm).stopCp_spec
  have hdom := (s.at_ tm).stopCp_kept.2
  have hnow := (s.at_ tm).stopCp_now
  generalize (s.at_ tm).stopCp = u at *
  refine ⟨{ u with pwr := { u.pwr with bootAfter := u.now }, boot := { u.boot with reload := false } }, congrArg Host.Outcome.next ?_, hrun,
    hservice, hnow, rfl, hdom⟩
  show State.serve (s.at_ tm).ucodeReload = _
  rw [hdue]
  exact State.serve_stopped hservice

/-! The trial (17 R522, R523). -/

theorem State.trialEval_idle (h : s.boot.record.st ≠ .trial) (other : Bool) : s.trialEval other = s := by
  unfold State.trialEval
  dsimp only
  exact if_pos (by simp [h])

theorem State.trialGood_false (s : State) : s.trialGood false = false := by
  unfold State.trialGood
  simp

theorem State.not_trialOver {at_ : Nat} (h : s.boot.record.st = .trial) (hcp : s.pwr.cpRunning = true) (hrec : s.boot.recovery = false)
    (hend : s.boot.trialEnd = some at_) :
    ¬ (decide (s.boot.record.st ≠ .trial) || !s.pwr.cpRunning || s.boot.recovery || s.boot.trialEnd.isNone) = true := by
  rw [h, hcp, hrec, hend]
  exact Bool.false_ne_true

/-- Boot once a healthy trial is confirmed. -/
def Boot.confirmed (b : Boot) (since : Option Nat) (healthy : Bool) : Boot :=
  { Boot.writeRec { b with goodSince := since, healthy := healthy } { b.record with st := .confirmed, trialBoots := 0 } with
    trialEnd := none, consent := false }

/-- What an evaluation decides on the time since which all criteria hold. -/
def State.judged (s : State) (since : Option Nat) (healthy : Bool) : State :=
  if healthy && (!s.boot.record.requireHost || s.boot.consent) then
    (State.finishConfirm { s with boot := s.boot.confirmed since healthy }).event 8
  else { s with boot := { s.boot with goodSince := since, healthy := healthy } }

theorem State.trialEval_judged {at_ : Nat} (h : s.boot.record.st = .trial) (hcp : s.pwr.cpRunning = true) (hrec : s.boot.recovery = false)
    (hend : s.boot.trialEnd = some at_) (other : Bool) :
    s.trialEval other = s.judged (if s.trialGood other then some (s.boot.goodSince.getD s.now) else none)
      (match if s.trialGood other then some (s.boot.goodSince.getD s.now) else none with
        | some t => decide (t + 30000000000 ≤ s.now)
        | none => false) := by
  unfold State.trialEval
  exact if_neg (State.not_trialOver h hcp hrec hend)

theorem State.trialEval_bad {at_ : Nat} (h : s.boot.record.st = .trial) (hcp : s.pwr.cpRunning = true) (hrec : s.boot.recovery = false)
    (hend : s.boot.trialEnd = some at_) :
    s.trialEval false = { s with boot := { s.boot with goodSince := none, healthy := false } } := by
  rw [State.trialEval_judged h hcp hrec hend, s.trialGood_false]
  exact if_neg (by simp)

theorem State.trialEval_confirms {at_ u : Nat} (h : s.boot.record.st = .trial) (hcp : s.pwr.cpRunning = true) (hrec : s.boot.recovery = false)
    (hend : s.boot.trialEnd = some at_) (hgood : s.trialGood true = true) (hsince : s.boot.goodSince = some u) (hu : u + 30000000000 ≤ s.now)
    (hhost : s.boot.record.requireHost = false ∨ s.boot.consent = true) :
    s.trialEval true = (State.finishConfirm { s with boot := s.boot.confirmed (some u) true }).event 8 := by
  have hwanted : (true && (!s.boot.record.requireHost || s.boot.consent)) = true := by
    rcases hhost with hh | hh <;> simp [hh]
  rw [State.trialEval_judged h hcp hrec hend, hgood, if_pos rfl, hsince]
  dsimp only [Option.getD_some]
  rw [decide_eq_true hu]
  exact if_pos hwanted

theorem State.gradeFlash_kept (s : State) : (∃ P h, s.gradeFlash = { s with ports := P, hlt := h }) ∧ s.ports.Same s.gradeFlash.ports ∧
    (s.portsCalm → s.gradeFlash.portsCalm) := by
  obtain ⟨g, hg, hk⟩ := s.gradeFlash_ports
  obtain ⟨P, h, hrest⟩ := s.gradeFlash_rest
  have hports : s.gradeFlash.ports = g s.ports := by
    rw [show s.gradeFlash = { s.gradeFlash with ports := g s.ports } from hg s.ports]
  obtain ⟨hsame, -⟩ := hk s.ports
  exact ⟨⟨P, h, hrest⟩, hports ▸ hsame, fun hc => hc.same (hports ▸ hsame) (by rw [hrest])⟩

/-- The end of a confirmation raises OTP steps alone. -/
theorem State.finishConfirm_spec (s : State) : s.finishConfirm.boot.recs = s.boot.recs ∧ s.finishConfirm.boot.trialEnd = s.boot.trialEnd ∧
    s.finishConfirm.boot.healthy = s.boot.healthy ∧ (s.portsCalm → s.finishConfirm.portsCalm) := by
  unfold State.finishConfirm
  dsimp only
  split
  · exact ⟨rfl, rfl, rfl, id⟩
  · split
    · exact ⟨rfl, rfl, rfl, id⟩
    · next img _ =>
      obtain ⟨⟨P, h, hrest⟩, -, hcalm⟩ := State.gradeFlash_kept { s with boot := { s.boot with
        otp := max s.boot.otp (min (fwSvn img) 128), revoked := s.boot.revoked ||| (fld img 0x039 1 % 16 &&& (15 - 2 ^ fwKey img)) } }
      refine ⟨?_, ?_, ?_, fun hc => hcalm (hc.congr rfl rfl)⟩ <;> rw [hrest]

theorem Boot.confirmed_record (b : Boot) (since : Option Nat) (healthy : Bool) :
    (b.confirmed since healthy).record = { b.record with st := .confirmed, trialBoots := 0, seq := b.record.seq + 1 } := by
  have hrec : Boot.record { b with goodSince := since, healthy := healthy } = b.record := Boot.record_congr rfl
  exact (Boot.record_congr rfl).trans ((Boot.record_writeRec _ _).trans (by rw [hrec]))

/-- A healthy trial is confirmed. -/
theorem State.trial_confirms (hc : s.portsCalm) {at_ u : Nat} (h : s.boot.record.st = .trial) (hcp : s.pwr.cpRunning = true)
    (hrec : s.boot.recovery = false) (hend : s.boot.trialEnd = some at_) (hgood : s.trialGood true = true) (hsince : s.boot.goodSince = some u)
    (hu : u + 30000000000 ≤ max s.now tm) (hhost : s.boot.record.requireHost = false ∨ s.boot.consent = true) :
    ∃ t, exec (.trialHealthEvaluation true tm) s = .next t ∧ t.boot.record.st = .confirmed ∧ t.boot.record.slotB = s.boot.record.slotB ∧
      t.boot.trialEnd = none ∧ t.boot.healthy = true := by
  obtain ⟨hrecs, htrial, hhealthy, hcalm⟩ := State.finishConfirm_spec { s.at_ tm with boot := s.boot.confirmed (some u) true }
  have heval := State.trialEval_confirms (s := s.at_ tm) h hcp hrec hend hgood hsince hu hhost
  rw [show (s.at_ tm).boot = s.boot from rfl] at heval
  generalize State.finishConfirm { s.at_ tm with boot := s.boot.confirmed (some u) true } = v at *
  have hrecord : v.boot.record = _ := (Boot.record_congr hrecs).trans (Boot.confirmed_record s.boot (some u) true)
  refine ⟨v.event 8, congrArg Host.Outcome.next ?_, ?_, ?_, htrial, hhealthy⟩
  case refine_2 => exact (congrArg BootRec.st hrecord : v.boot.record.st = _)
  case refine_3 => exact (congrArg BootRec.slotB hrecord : v.boot.record.slotB = _)
  show State.serve ((s.at_ tm).trialEval true) = _
  rw [heval]
  exact State.serve_calm _ (State.event_calm (hcalm (hc.congr rfl rfl)) 8)

/-! The trial timer (17 R522, R524). -/

theorem State.Aborting.setPort (s : State) (p : CPort) (x : PortS) : s.Aborting (s.setPort p x) :=
  ⟨⟨s.boot.stage, s.boot.mute, rfl⟩, fun y hy => by cases p <;> exact hy⟩

theorem State.Aborting.applyMasks (s : State) : s.Aborting s.applyMasks := by
  unfold State.applyMasks
  exact State.Aborting.foldl (fun u p => State.Aborting.setPort u p _) _ s

theorem State.restarted_boot (s : State) : s.restarted.boot = s.boot := rfl

/-- A restart of PD1 keeps the boot records. -/
theorem State.restartPd1_boot (s : State) : ∃ stage mute, s.restartPd1.boot = { s.boot with stage := stage, mute := mute } := by
  obtain ⟨stage, mute, hb⟩ := ((State.Aborting.abortAll s.stopCp .aborted 0x0120).trans (State.Aborting.applyMasks _)).boot
  obtain ⟨hboot, -⟩ := s.stopCp_kept
  refine ⟨stage, mute, ?_⟩
  rw [State.restartPd1_eq, State.restarted_boot, hb, hboot]

theorem State.trialExpiry_due {at_ : Nat} (h : s.boot.trialEnd = some at_) (hd : at_ ≤ s.now) :
    ∃ u, s.restartPd1.Moves u ∧ s.trialExpiry = { u with
      boot := { u.boot with timedOut := true, trialEnd := none }
      pwr := { u.pwr with causes := { u.pwr.causes with trial := true }, bootAfter := u.now } } := by
  refine ⟨s.restartPd1.closeZones (· == 0x01) (fun _ => false), State.Moves.closeZones _ _ _, ?_⟩
  unfold State.trialExpiry
  rw [h]
  exact if_neg (Nat.not_lt.mpr hd)

theorem State.trialExpiry_early {at_ : Nat} (h : s.boot.trialEnd = some at_) (hd : s.now < at_) : s.trialExpiry = s := by
  unfold State.trialExpiry
  rw [h]
  exact if_pos hd

/-- The end of the trial timer restarts PD1. -/
theorem State.trial_expires {at_ : Nat} (h : s.boot.trialEnd = some at_) (hd : at_ ≤ max s.now tm) :
    ∃ t, exec (.trialTimerExpiry tm) s = .next t ∧ t.boot.timedOut = true ∧ t.boot.trialEnd = none ∧ t.pwr.cpRunning = false ∧
      t.pwr.service = false ∧ t.pwr.causes.trial = true ∧ t.pwr.restarts = satAdd 16 s.pwr.restarts 1 ∧ t.boot.recs = s.boot.recs := by
  obtain ⟨u, hmoves, heq⟩ := State.trialExpiry_due (s := s.at_ tm) h hd
  obtain ⟨-, hcp, hsv, hrs⟩ := (s.at_ tm).restartPd1_spec
  obtain ⟨stage, mute, hb⟩ := (s.at_ tm).restartPd1_boot
  generalize (s.at_ tm).restartPd1 = v at *
  have hpwr := hmoves.pwr
  have hrecs := hmoves.recs
  rw [← hpwr] at hcp hsv hrs
  refine ⟨{ u with
    boot := { u.boot with timedOut := true, trialEnd := none }
    pwr := { u.pwr with causes := { u.pwr.causes with trial := true }, bootAfter := u.now } }, congrArg Host.Outcome.next ?_, rfl, rfl, hcp, hsv,
    rfl, hrs, ?_⟩
  case refine_2 =>
    show u.boot.recs = s.boot.recs
    rw [hrecs, hb]
    rfl
  show State.serve (s.at_ tm).trialExpiry = _
  rw [heq]
  exact State.serve_stopped hsv

/-! The copy of the log (17 R528). -/

theorem Boot.foldl_addLog (l : List LogEntry) (b : Boot) (h : b.log.length + l.length ≤ 32768) :
    l.foldl Boot.addLog b = { b with log := b.log ++ l } := by
  induction l generalizing b with
  | nil => rw [List.append_nil]; rfl
  | cons x l ih =>
    rw [List.length_cons] at h
    have hx : b.addLog x = { b with log := b.log ++ [x] } := if_neg (by omega)
    rw [List.foldl_cons, hx, ih _ (by rw [List.length_append, List.length_singleton]; omega), List.append_assoc, List.singleton_append]

theorem State.logCopy_idle (h : s.pwr.cpRunning = false ∨ s.boot.recovery = true) : s.logCopy = s := by
  unfold State.logCopy
  refine if_pos ?_
  rcases h with h | h <;> rw [h]
  · rfl
  · exact Bool.or_true _

theorem State.logCopy_copies {l : LogEntry} (hcp : s.pwr.cpRunning = true) (hrec : s.boot.recovery = false) (hno : s.boot.copied = none)
    (hl : (s.flt.log.filter (fun e => decide (1 ≤ e.sev))).getLast? = some l)
    (hlen : s.boot.log.length + (s.flt.log.filter (fun e => decide (1 ≤ e.sev))).length ≤ 32768) :
    s.logCopy = ({ s with boot := { s.boot with
      log := s.boot.log ++ s.flt.log.filter (fun e => decide (1 ≤ e.sev)), copied := some l.seq } } : State).gradeFlash := by
  unfold State.logCopy
  rw [hcp, hrec, hno, if_neg (by decide)]
  simp only [Bool.and_true]
  rw [hl]
  dsimp only
  rw [Boot.foldl_addLog _ _ hlen]

/-! FIRMWARE_BOOT (17 R510 to R513). -/

theorem State.firmwareBoot_early (spi : Bool) (h : s.pwr.released = false ∨ s.pwr.cpRunning = true ∨ s.now < s.pwr.bootAfter) :
    s.firmwareBoot spi = s := by
  unfold State.firmwareBoot
  refine if_pos ?_
  rcases h with h | h | h <;> simp [h]

/-- The boot ROM has found how the flash answers. -/
def State.bootRom (s : State) (spi : Bool) : State :=
  if spi then State.flashFault { s with boot := { s.boot with spiMode := spi } } 0 0 else { s with boot := { s.boot with spiMode := spi } }

theorem State.bootRom_rest (s : State) (spi : Bool) : ∃ f, s.bootRom spi = { s with flt := f, boot := { s.boot with spiMode := spi } } := by
  unfold State.bootRom
  split
  · exact ⟨_, rfl⟩
  · exact ⟨s.flt, rfl⟩

theorem State.firmwareBoot_due (spi : Bool) (hr : s.pwr.released = true) (hcp : s.pwr.cpRunning = false) (hb : s.pwr.bootAfter ≤ s.now) :
    s.firmwareBoot spi = match (s.bootRom spi).chooseSlot with
      | (s, some b) => s.firmwareStarts b
      | (s, none) => s.enterRecovery := by
  unfold State.firmwareBoot
  rw [if_neg (by simp [hr, hcp, hb])]
  rfl

theorem State.chooseSlot_settled (h : s.boot.record.st ≠ .trial) : s.chooseSlot = s.pickSlot := by
  unfold State.chooseSlot
  dsimp only
  cases hst : s.boot.record.st with
  | trial => exact absurd hst h
  | confirmed => rfl
  | fallback => rfl

/-- The image of a slot runs on the control processor. -/
def State.started (s : State) (slotB : Bool) : State :=
  let img := (rd s.boot.slots (slotIx slotB)).getD []
  { s with
    boot := { s.boot with runB := slotB, ucode := fwUcode img, version := fwVersion img, recovery := false, reload := false
                          timedOut := false, ctrlOpened := false, goodSince := none, healthy := false }
    pwr := { s.pwr with cpRunning := true } }

theorem State.firmwareStarts_drifts (s : State) (slotB : Bool) : (s.started slotB).Drifts (s.firmwareStarts slotB) := by
  unfold State.firmwareStarts
  extract_lets img old cold src src' s1 src2 s2 s3 s4 s5 s6 src3 s7 s8
  have h2 : s1.Drifts s2 := State.Drifts.ite _ (State.Drifts.refl s1) (State.Drifts.still rfl rfl rfl rfl)
  have h3 : s2.Drifts s3 := (State.Drifts.finishConfirm s2).trans (State.Drifts.applyConfig _)
  have h4 : s3.Drifts s4 := State.Drifts.ite _ ((State.Drifts.applyColdConfig s3).trans (State.Drifts.applyOffMask _)) (State.Drifts.refl s3)
  have h5 : s4.Drifts s5 := State.Drifts.ite _ (State.Drifts.applyPin s4) (State.Drifts.refl s4)
  have h6 : s5.Drifts s6 := State.Drifts.bootMute s5 old
  have h7 : s6.Drifts s7 := State.Drifts.still rfl rfl rfl rfl
  have h8 : s7.Drifts s8 := (State.Drifts.resumeTimers s7).trans ((State.Drifts.cpServed _).trans
    ((State.Drifts.resumeService _).trans (State.Drifts.gradeFlash _)))
  have hall : s1.Drifts s8 := h2.trans (h3.trans (h4.trans (h5.trans (h6.trans (h7.trans h8)))))
  exact hall.trans (State.Drifts.ite _ (State.Drifts.loadBoot s8) (State.Drifts.refl s8))

theorem Boot.core_eq {b c : Boot} (h : b.core = c.core) : b.recs = c.recs ∧ b.slots = c.slots ∧ b.runB = c.runB ∧ b.ucode = c.ucode ∧
    b.version = c.version ∧ b.spiMode = c.spiMode ∧ b.recovery = c.recovery := by
  have hf : ∀ {α : Type} (f : Boot → α), f b.core = f c.core := fun f => congrArg f h
  exact ⟨hf Boot.recs, hf Boot.slots, hf Boot.runB, hf Boot.ucode, hf Boot.version, hf Boot.spiMode, hf Boot.recovery⟩

/-- A slot boots: its image runs, and service stays calm. -/
theorem State.firmwareStarts_spec (hc : s.portsCalm) (slotB : Bool) : (s.firmwareStarts slotB).serve = s.firmwareStarts slotB ∧
    (s.firmwareStarts slotB).pwr.cpRunning = true ∧ (s.firmwareStarts slotB).boot.spiMode = s.boot.spiMode ∧
    (s.firmwareStarts slotB).boot.slots = s.boot.slots ∧ (s.firmwareStarts slotB).boot.recs = s.boot.recs ∧
    (s.firmwareStarts slotB).boot.recovery = false ∧ (s.firmwareStarts slotB).boot.runB = slotB ∧
    (s.firmwareStarts slotB).boot.version = fwVersion ((rd s.boot.slots (slotIx slotB)).getD []) ∧
    (s.firmwareStarts slotB).boot.ucode = fwUcode ((rd s.boot.slots (slotIx slotB)).getD []) := by
  obtain ⟨hcore, hrun, hcalm⟩ := s.firmwareStarts_drifts slotB
  obtain ⟨h1, h2, h3, h4, h5, h6, h7⟩ := Boot.core_eq hcore
  have hcalm' : (s.started slotB).portsCalm := hc.congr rfl rfl
  exact ⟨State.serve_eq_self (hcalm hcalm'), hrun, h6, h2, h1, h7, h3, h5, h4⟩

theorem State.pickSlot_own (h : s.boot.slotOk s.boot.record.slotB = true) : s.pickSlot = (s, some s.boot.record.slotB) := by
  unfold State.pickSlot
  dsimp only
  rw [if_pos h]

/-- The record falls back to the other slot. -/
def State.fallen (s : State) : State :=
  ({ s with boot := s.boot.writeRec { s.boot.record with st := .fallback, slotB := !s.boot.record.slotB, cause := 4 } } : State).event 8

theorem State.pickSlot_other (h : s.boot.slotOk s.boot.record.slotB = false) (ho : s.boot.slotOk (!s.boot.record.slotB) = true) :
    s.pickSlot = (s.fallen, some (!s.boot.record.slotB)) := by
  unfold State.pickSlot
  dsimp only
  rw [h, if_neg (by decide), if_pos ho]
  rfl

theorem State.pickSlot_none (h : s.boot.slotOk s.boot.record.slotB = false) (ho : s.boot.slotOk (!s.boot.record.slotB) = false) :
    s.pickSlot = (s, none) := by
  unfold State.pickSlot
  dsimp only
  rw [h, if_neg (by decide), ho, if_neg (by decide)]

/-! Recovery mode (17 R513). -/

theorem State.resumeService_rest (s : State) : ∃ P, s.resumeService = { s with ports := P, pwr := { s.pwr with service := true } } := by
  have hfold : ∀ (ds : List (CPort × Nat × Status × Nat × List Byte)) (u : State), u.pwr.service = true →
      ∃ P, ds.foldl (fun v x => v.writeComplete x.1 x.2.1 x.2.2.1 x.2.2.2.1 x.2.2.2.2) u = { u with ports := P } := by
    intro ds
    induction ds with
    | nil => exact fun u _ => ⟨u.ports, rfl⟩
    | cons x ds ih =>
      intro u hu
      rw [List.foldl_cons, State.writeComplete_served u hu]
      obtain ⟨P, hP⟩ := (u.complete_fewer x.1 x.2.1 x.2.2.1 x.2.2.2.1 x.2.2.2.2).as_
      rw [hP]
      exact ih { u with ports := P } hu
  exact hfold s.ports.deferred { s with pwr := { s.pwr with service := true }, ports := { s.ports with deferred := [] } } rfl

theorem State.resumeService_silent (h : s.ports.deferred = []) :
    s.resumeService = { s with pwr := { s.pwr with service := true }, ports := { s.ports with deferred := [] } } := by
  unfold State.resumeService
  rw [h]
  rfl

theorem State.cpServed_rest (s : State) : ∃ f, s.cpServed = { s with flt := f } := by
  unfold State.cpServed
  split
  · split
    · exact ⟨s.flt, rfl⟩
    · exact ⟨_, rfl⟩
  · exact ⟨s.flt, rfl⟩

theorem Chan.engineOff_switching (c : Chan) : c.engineOff.switching = false := by
  unfold Chan.engineOff Chan.switching
  by_cases h : c.st = .latched <;> simp [h]

theorem State.dropLive_spec (s : State) : s.dropLive.boot = s.boot ∧ s.dropLive.pwr = s.pwr ∧ s.dropLive.ports = s.ports ∧ s.dropLive.tw = s.tw ∧
    s.dropLive.cfg = s.cfg ∧ s.dropLive.pl.live = none ∧ (s.pl.live ≠ none → s.dropLive.quiet) := by
  unfold State.dropLive
  cases hl : s.pl.live with
  | none => exact ⟨rfl, rfl, rfl, rfl, rfl, hl, fun h => absurd rfl h⟩
  | some p =>
    refine ⟨rfl, rfl, rfl, rfl, rfl, rfl, fun _ k hk => ?_⟩
    exact (congrArg Chan.switching (rd_map s.pst.chans Chan.engineOff hk)).trans (Chan.engineOff_switching _)

/-- Recovery begins. -/
def State.recovering (s : State) : State :=
  { s.dropLive with
    boot := { s.dropLive.boot with recovery := true, reload := false, trialEnd := none, timedOut := false }
    pwr := { s.dropLive.pwr with cpRunning := true } }

theorem State.enterRecovery_drifts (s : State) : s.recovering.Drifts s.enterRecovery := by
  have hm := State.Drifts.applyMasks s.recovering
  have hf : s.recovering.applyMasks.Drifts (s.recovering.applyMasks.flashFault 0 0) := (State.Moves.report _ _ _ _ _).drifts
  exact hm.trans (hf.trans ((State.Drifts.cpServed _).trans (State.Drifts.resumeService _)))

theorem State.applyMasks_groupsD (h : lookup? s.cfg.privs 3 = none) : (s.applyMasks.port .D).groups = 0x02E0 ∧ (s.applyMasks.port .D).privs = 0x0C := by
  unfold State.applyMasks
  rw [List.foldl_cons, List.foldl_cons, List.foldl_cons, List.foldl_cons, List.foldl_nil]
  dsimp only
  rw [State.setPort_port_self]
  show ((lookup? s.cfg.privs 3).getD _).1 = _ ∧ ((lookup? s.cfg.privs 3).getD _).2 = _
  rw [h]
  exact ⟨rfl, rfl⟩

theorem State.applyMasks_deferred (s : State) : s.applyMasks.ports.deferred = s.ports.deferred := by
  unfold State.applyMasks
  refine foldl_inv (P := fun u : State => u.ports.deferred = s.ports.deferred) (fun u p hu => ?_) _ rfl
  cases p <;> exact hu

/-- In recovery mode, before command service resumes. -/
def State.inRecovery (s : State) : State := (s.recovering.applyMasks.flashFault 0 0).cpServed

theorem State.inRecovery_rest (s : State) : ∃ f, s.inRecovery = { s.recovering with flt := f, ports := s.recovering.applyMasks.ports } := by
  obtain ⟨P, hP⟩ := State.applyMasks_rest s.recovering
  obtain ⟨f, hf⟩ := (s.recovering.applyMasks.flashFault 0 0).cpServed_rest
  refine ⟨f, ?_⟩
  unfold State.inRecovery
  rw [hf, hP]
  rfl

theorem State.enterRecovery_masks (hd : s.ports.deferred = []) (hc : lookup? s.cfg.privs 3 = none) :
    (s.enterRecovery.port .D).groups = 0x02E0 ∧ (s.enterRecovery.port .D).privs = 0x0C := by
  obtain ⟨hb, hp, hports, htw, hcfg, hlive, hquiet⟩ := s.dropLive_spec
  obtain ⟨f, hf⟩ := s.inRecovery_rest
  have hdef : s.inRecovery.ports.deferred = [] := by
    rw [hf]
    show s.recovering.applyMasks.ports.deferred = []
    rw [State.applyMasks_deferred]
    show s.dropLive.ports.deferred = []
    rw [hports, hd]
  have hD : (s.enterRecovery.port .D) = s.recovering.applyMasks.port .D := by
    have hkept : s.inRecovery.ports.d = s.recovering.applyMasks.ports.d := by rw [hf]
    show (s.inRecovery.resumeService).port .D = _
    rw [State.resumeService_silent hdef]
    exact hkept
  rw [hD]
  refine State.applyMasks_groupsD ?_
  show lookup? s.dropLive.cfg.privs 3 = none
  rw [hcfg, hc]

theorem State.enterRecovery_rest (s : State) : ∃ f P, s.enterRecovery = { s.recovering with
    flt := f, ports := P, pwr := { s.recovering.pwr with service := true } } := by
  obtain ⟨f, hf⟩ := s.inRecovery_rest
  obtain ⟨P, hP⟩ := s.inRecovery.resumeService_rest
  refine ⟨f, P, ?_⟩
  show s.inRecovery.resumeService = _
  rw [hP, hf]

/-- Recovery mode: no structure is LIVE, the channels of one that was are off, and service stays calm. -/
theorem State.enterRecovery_spec (hc : s.portsCalm) : s.enterRecovery.serve = s.enterRecovery ∧ s.enterRecovery.pwr.cpRunning = true ∧
    s.enterRecovery.boot.spiMode = s.boot.spiMode ∧ s.enterRecovery.boot.slots = s.boot.slots ∧ s.enterRecovery.boot.recs = s.boot.recs ∧
    s.enterRecovery.boot.recovery = true ∧ s.enterRecovery.pl.live = none ∧ (s.pl.live ≠ none → s.enterRecovery.quiet) := by
  obtain ⟨hb, hp, hports, htw, hcfg, hlive, hquiet⟩ := s.dropLive_spec
  obtain ⟨f, P, he⟩ := s.enterRecovery_rest
  have hcalm := s.enterRecovery_drifts.calm (hc.congr hports htw)
  have hboot : s.enterRecovery.boot = { s.boot with recovery := true, reload := false, trialEnd := none, timedOut := false } := by
    rw [he, ← hb]
    rfl
  refine ⟨State.serve_eq_self hcalm, by rw [he]; rfl, by rw [hboot], by rw [hboot], by rw [hboot], by rw [hboot], by rw [he]; exact hlive, fun h k hk => ?_⟩
  rw [he]
  exact hquiet h k hk

/-- FIRMWARE_BOOT where the record does not try an image: the slot of the record, or the other, or recovery mode. -/
theorem State.firmwareBoot_boots (hc : s.portsCalm) (spi : Bool) (hr : s.pwr.released = true) (hcp : s.pwr.cpRunning = false)
    (hb : s.pwr.bootAfter ≤ max s.now tm) (hst : s.boot.record.st ≠ .trial) :
    ∃ t, exec (.firmwareBoot spi tm) s = .next t ∧ t.pwr.cpRunning = true ∧ t.boot.spiMode = spi ∧ t.boot.slots = s.boot.slots ∧
      (∀ img, s.boot.slotOk s.boot.record.slotB = true → rd s.boot.slots (if s.boot.record.slotB then 1 else 0) = some img →
        t.boot.runB = s.boot.record.slotB ∧ t.boot.version = fld img 0x010 4 ∧ t.boot.ucode = fld img 0x018 8 ∧ t.boot.recovery = false ∧
        t.boot.recs = s.boot.recs) ∧
      (s.boot.slotOk true = false → s.boot.slotOk false = false → t.boot.recovery = true ∧ t.boot.recs = s.boot.recs ∧
        t.pl.live = none ∧ (s.pl.live ≠ none → t.quiet) ∧
        (s.ports.deferred = [] → lookup? s.cfg.privs 3 = none → (t.port .D).groups = 0x02E0 ∧ (t.port .D).privs = 0x0C)) := by
  obtain ⟨v, hv⟩ : ∃ v, v = (s.at_ tm).bootRom spi := ⟨_, rfl⟩
  obtain ⟨f, hrest⟩ := (s.at_ tm).bootRom_rest spi
  rw [← hv] at hrest
  have hboot : v.boot = { s.boot with spiMode := spi } := by rw [hrest]; rfl
  have hcalm : v.portsCalm := hc.congr (by rw [hrest]; rfl) (by rw [hrest]; rfl)
  have hrec : v.boot.record = s.boot.record := Boot.record_congr (by rw [hboot])
  have hok : ∀ b, v.boot.slotOk b = s.boot.slotOk b := fun b => by rw [hboot]; rfl
  have hslots : v.boot.slots = s.boot.slots := by rw [hboot]
  have hrow : exec (.firmwareBoot spi tm) s = .next (State.serve (match v.pickSlot with
      | (s, some b) => s.firmwareStarts b
      | (s, none) => s.enterRecovery)) := by
    show Host.Outcome.next (((s.at_ tm).firmwareBoot spi).serve) = _
    rw [State.firmwareBoot_due (s := s.at_ tm) spi hr hcp hb, ← hv, State.chooseSlot_settled (hrec ▸ hst)]
  cases hown : s.boot.slotOk s.boot.record.slotB with
  | true =>
    have hpick : v.pickSlot = (v, some s.boot.record.slotB) := by
      rw [State.pickSlot_own (by rw [hrec, hok, hown]), hrec]
    obtain ⟨hserve, h1, h2, h3, h4, h5, h6, h7, h8⟩ := State.firmwareStarts_spec hcalm s.boot.record.slotB
    rw [hpick] at hrow
    refine ⟨_, hrow.trans (congrArg Host.Outcome.next hserve), h1, ?_, h3.trans hslots, fun img _ himg => ?_, fun ht hf => ?_⟩
    · rw [h2, hboot]
    · rw [← slotIx_eq] at himg
      rw [hslots, himg] at h7 h8
      exact ⟨h6, h7, h8, h5, by rw [h4, hboot]⟩
    · cases hs : s.boot.record.slotB <;> simp_all
  | false =>
    cases hother : s.boot.slotOk (!s.boot.record.slotB) with
    | true =>
      have hpick : v.pickSlot = (v.fallen, some (!s.boot.record.slotB)) := by
        rw [State.pickSlot_other (by rw [hrec, hok, hown]) (by rw [hrec, hok, hother]), hrec]
      have hfallen : v.fallen.portsCalm := State.event_calm (hcalm.congr rfl rfl) 8
      obtain ⟨hserve, h1, h2, h3, -⟩ := State.firmwareStarts_spec hfallen (!s.boot.record.slotB)
      rw [hpick] at hrow
      refine ⟨_, hrow.trans (congrArg Host.Outcome.next hserve), h1, h2.trans ?_, h3.trans hslots, fun img h => (nomatch h), fun ht hf => ?_⟩
      · show v.boot.spiMode = spi
        rw [hboot]
      · cases hs : s.boot.record.slotB <;> simp_all
    | false =>
      have hpick : v.pickSlot = (v, none) := State.pickSlot_none (by rw [hrec, hok, hown]) (by rw [hrec, hok, hother])
      obtain ⟨hserve, h1, h2, h3, h4, h5, h6, h7⟩ := State.enterRecovery_spec hcalm
      rw [hpick] at hrow
      have hpl : v.pl = s.pl := by rw [hrest]; rfl
      refine ⟨_, hrow.trans (congrArg Host.Outcome.next hserve), h1, ?_, h3.trans hslots, fun img h => (nomatch h), fun _ _ => ⟨h5, ?_, h6, ?_, ?_⟩⟩
      · rw [h2, hboot]
      · rw [h4, hboot]
      · rw [← hpl]
        exact h7
      · exact fun hd hp => State.enterRecovery_masks (by rw [hrest]; exact hd) (by rw [hrest]; exact hp)

end

/-- Settles O53: the copy of an activation ends in a trial record or in INTEGRITY, the reload, the trial and the copy of the log act
on what is due, and a boot runs an acceptable slot or enters recovery mode, all that CONFIG brings into force leaving that alone. -/
theorem firmwareEvents : Obligations.FirmwareEvents := by
  intro s tm now r hcalm hnow hr
  subst hnow hr
  have hat : (s.at_ tm).portsCalm := hcalm.congr rfl rfl
  refine ⟨fun p f e w rh img rest ha hfl hcmd hq hst => ?_, fun p f e w rh img ha hcmd hq hst => State.copyDone_failed hcalm ha hcmd hq hst,
    fun hr hcp hm => State.reload_due hr hcp hm, fun m hm hin hb => congrArg Host.Outcome.next ?_, fun other h => congrArg Host.Outcome.next ?_,
    fun e h hcp hrec ht => congrArg Host.Outcome.next ?_,
    fun e u h hcp hrec ht hg hs hu hreq => State.trial_confirms hcalm h hcp hrec ht hg hs hu hreq, fun e h hd => State.trial_expires h hd,
    fun e h hd => congrArg Host.Outcome.next ?_, fun spi h => congrArg Host.Outcome.next ?_,
    fun spi hr hcp hb hst => State.firmwareBoot_boots hcalm spi hr hcp hb hst, fun h => congrArg Host.Outcome.next ?_,
    fun new l hcp hrec hno hnew hl hlen => congrArg Host.Outcome.next ?_⟩
  case refine_1 =>
    obtain ⟨t, mute, hexec, hboot, hservice, hclosed⟩ := State.copyDone_activates (tm := tm) ha hfl hcmd hq hst
    obtain ⟨hrec, hother, hown, hreload⟩ := State.activated_spec s img w rh mute hboot
    refine ⟨t, hexec, ?_, ?_, ?_, ?_, ?_, ?_, ?_, hown, hother, hreload, hservice, hclosed⟩ <;> rw [hrec] <;> rfl
  case refine_2 =>
    show State.serve (s.at_ tm).ucodeReload = _
    rw [State.ucodeReload_early (s := s.at_ tm) hm hin hb]
    exact State.serve_calm _ hat
  case refine_3 =>
    show State.serve ((s.at_ tm).trialEval other) = _
    rw [State.trialEval_idle (s := s.at_ tm) h]
    exact State.serve_calm _ hat
  case refine_4 =>
    show State.serve ((s.at_ tm).trialEval false) = _
    rw [State.trialEval_bad (s := s.at_ tm) h hcp hrec ht]
    exact State.serve_calm _ (hcalm.congr rfl rfl)
  case refine_5 =>
    show State.serve (s.at_ tm).trialExpiry = _
    rw [State.trialExpiry_early (s := s.at_ tm) h hd]
    exact State.serve_calm _ hat
  case refine_6 =>
    show State.serve ((s.at_ tm).firmwareBoot spi) = _
    rw [State.firmwareBoot_early (s := s.at_ tm) spi h]
    exact State.serve_calm _ hat
  case refine_7 => exact State.logCopy_idle (s := s.at_ tm) h
  case refine_8 =>
    subst hnew
    exact State.logCopy_copies (s := s.at_ tm) hcp hrec hno hl hlen

end Sys2Proof.Machine
end
